-- ==== Sys2Proof/Word.lean ====
section
/-! DEFINITION. The word types of the register space and of the formats that leave the device. -/

namespace Sys2Proof

/-- A register is 32 bits wide (R8). -/
abbrev Word := BitVec 32

/-- One byte of a packet, a batten or a frame. -/
abbrev Byte := BitVec 8

/-- A local-clock instant in units of 2^-16 ns (R505, R508). -/
abbrev Ts := Nat

end Sys2Proof
end

