-- ==== Sys2Proof/Syntax.lean ====
section
/-! DEFINITION. The commands of the block: one constructor of `Instr` for each row of spec/opcode_table.json,
with the operands the rule of that row names. Where a row is an event of the device's own, its operands are
what the device measures at that event. -/

namespace Sys2Proof

/-- The two logical sensing ports (R1). -/
inductive Port where
  | a
  | b
  deriving DecidableEq, Repr

/-- The quality codes of R5; the reserved codes have no constructor, so the model never emits one (R7). -/
inductive Qual where
  | good
  | unsettled
  | lowq
  | clipped
  | gap
  | failover
  | apr
  | tbCold
  | fallback
  deriving DecidableEq, Repr

/-- The access paths of the register space (R790): PCIe BAR0, SPI and each QCP session. -/
inductive Path where
  | pcie
  | spi
  | qcp (session : Fin 8)
  deriving DecidableEq, Repr

/-- The other end of a UDP datagram (R424, R504): the Ethernet port, its address of IPv6 or IPv4, its UDP port, its MAC address, 0
where the next hop's is taken, and the device's own UDP port. -/
structure UdpPeer where
  eth : Fin 2
  v6 : Bool
  addr : BitVec 128
  port : BitVec 16
  mac : BitVec 48 := 0
  dport : BitVec 16 := 0
  deriving DecidableEq, Repr

/-- The transport that carried a packet (R423): a UDP datagram, or a mailbox. -/
inductive Via where
  | udp (p : UdpPeer)
  | mailbox (m : Fin 2)
  deriving DecidableEq, Repr

/-- The header of a request that is executed: its session, its sequence and the transport that carried it. -/
structure ReqHdr where
  session : Fin 8
  seq : BitVec 32
  via : Via
  deriving DecidableEq, Repr

/-- A compressed complex sample pair of one bin (R165, R245): X and Y polarisation, in-phase and quadrature. -/
structure BinSample where
  xi : Int
  xq : Int
  yi : Int
  yq : Int
  deriving DecidableEq, Repr

/-- What the converters deliver for one shot of one port (R128 to R130, R175): the launch position, whether the return was
received, the codes of its four DAS lanes from the shot boundary on, 0.25 ns apart, and the codes of lanes 16 and 17, 4 ns
apart, from 1 ms before the shot boundary on. -/
structure ShotReturn where
  port : Port
  pos : Fin 16
  received : Bool
  lanes : List (List Int)
  refs : List (Int × Int)
  deriving DecidableEq, Repr

/-- The operand fields of a 64-bit reed instruction word below its opcode (R358). -/
structure ReedArgs where
  arg : BitVec 18
  xm : BitVec 20
  ym : BitVec 20
  deriving DecidableEq, Repr

/-- Where a batten leaves the device (R413 DEST): an Ethernet port or a session's PCIe ring. -/
inductive Egress where
  | eth (x : Fin 2)
  | ring (r : Fin 8)
  deriving DecidableEq, Repr

/-- What an accepted Ethernet frame asks of the device (R500, R503, R513, R424). -/
inductive EthKind where
  | pause
  | arpRequest (target : BitVec 32)
  | neighbourSolicit (target : BitVec 128)
  | neighbourReply (addr : BitVec 128) (mac : BitVec 48)
  | echoRequest (target : BitVec 128) (size : Nat)
  | ptp
  | qcp
  /-- A fragment of a request: its source and destination port, byte offset in the UDP payload, whether more follow, data. -/
  | qcpFragment (src : UdpPeer) (offset : Nat) (more : Bool) (data : List Byte)
  | other
  deriving DecidableEq, Repr

/-- A received Ethernet frame as R498 and R501 look at it; its size in bytes includes an IEEE 802.1Q tag. -/
structure EthFrame where
  size : Nat := 64
  dst : BitVec 48
  src : BitVec 48
  vlan : Option (BitVec 12)
  fcsOk : Bool
  kind : EthKind
  deriving DecidableEq, Repr

/-- The common words of a ridge frame at its arrival (R551): the arrival lane (false RDG_E, true RDG_W), origin,
hops, sequence, cumulative delay CORR, the TIME words and the arrival instant. -/
structure RidgeHdr where
  laneW : Bool
  origin : BitVec 12
  hops : BitVec 12
  seq : BitVec 32
  corr : Nat
  time : Ts
  arrival : Ts
  deriving DecidableEq, Repr

/-- The payload words of a HEARTBEAT frame that carry meaning (R585). -/
structure Heartbeat where
  pairId : BitVec 12
  role : Fin 4
  st : BitVec 4
  hseq : BitVec 32
  health : BitVec 12
  epoch : BitVec 32
  echo0 : BitVec 32
  echo1 : BitVec 32
  deriving DecidableEq, Repr

/-- What an OPEN carries beside its header (R455, R461). -/
structure OpenArgs where
  authBit : Bool
  macFlag : Bool
  takeover : Bool
  bind : Bool
  nonceH : List Byte
  dest : Option (Fin 2 × Bool × BitVec 128 × BitVec 16)
  deriving DecidableEq, Repr

/-- A finished field conversion (R657): regular or injected entry, the 24-bit code, the reference voltage in
0.01 V at its end, whether the inputs stayed in the common-mode range, whether the modulator left its range, and
the island tick of its end. -/
structure FieldConv where
  injected : Bool
  code : Int
  vref : Nat
  commonOk : Bool
  overRange : Bool
  tick : Nat
  deriving DecidableEq, Repr

/-- The commands of the block, in the order of spec/opcode_table.json. -/
inductive Instr where
  -- sweeps, shots, epochs (01_life_of_a_sweep.md)
  | sweepStart (edge : Ts)
  | shotLaunch (pos : Fin 16)
  | stagedSetHandover
  | epochBoundary
  | pairCycleBoundary
  -- light sources (02)
  | diagnosticPulse (lowA lowB : Bool)
  | compUpdate (therm : List Int)
  | derateUpdate (tcase : Int)
  | powerLoopStep (port : Port) (measured : Int)
  | powerShortfall (port : Port) (measured : Int)
  | pumpOpenDetect (pump : Fin 4)
  | lockLoss (ferr : BitVec 16)
  | laserLocked (ferr : BitVec 16)
  | relockFail
  | failWrite (path : Path)
  | rprecFault
  | intlkNFall
  | thermalTrip
  | barrierSilence
  | rearm (path : Path)
  | enableWrite (path : Path) (on : Bool)
  | aprBreakDetect (port : Port) (len0 len1 : Nat)
  | restoreProbe (port : Port) (contLen : Nat)
  | aprEnWrite (path : Path) (on : Bool)
  -- patterns, receiver, phase chain (03, 04, 05)
  | sweepSyncEdge (rising : Bool)
  | agcIntervalEnd (port : Port) (brl : Bool) (lanes : List (List Int)) (refI refQ : List Int)
  | refVisLow (refs : List (Int × Int))
  | phaseChainShot (shot : ShotReturn)
  | signatureVerdict (intA intB contA contB : Unit)
  -- decimation (06), history (08)
  | decimationOutput (stream : Fin 64)
  | historyWriteMiss (stream : Fin 64) (first len : Nat)
  -- Brillouin (07)
  | brlShotContribution (port : Port) (pos : Fin 16) (lanesX lanesY : List (List Int))
  | brlFold
  | periodClose
  | brlResultReady
  | baselineArm (path : Path) (port : Port)
  | baselineAbort (path : Path) (port : Port)
  -- triggers and captures (08)
  | triggerEvaluate (kind : Fin 8) (src : Nat)
  | arm (path : Path) (unit : Fin 16)
  | captureAbortBit (path : Path) (unit : Fin 16)
  | release (path : Path) (unit : Fin 16)
  -- reed array (09)
  | reedPass (slot : Fin 16)
  | reedCycleLimit (slot : Fin 16)
  | slotStartEffect (slot : Fin 16)
  | reedStartBit (path : Path) (slot : Fin 16)
  | reedStopBit (path : Path) (slot : Fin 16)
  -- reed instruction set (10)
  | undefinedEncoding (unit : Fin 16) (word : BitVec 64)
  | nop (unit : Fin 16) (o : ReedArgs)
  | endPass (unit : Fin 16) (o : ReedArgs)
  | loop (unit : Fin 16) (o : ReedArgs)
  | loopr (unit : Fin 16) (o : ReedArgs)
  | ldp (unit : Fin 16) (o : ReedArgs)
  | addp (unit : Fin 16) (o : ReedArgs)
  | setam (unit : Fin 16) (o : ReedArgs)
  | setq (unit : Fin 16) (o : ReedArgs)
  | rotw (unit : Fin 16) (o : ReedArgs)
  | mpy (unit : Fin 16) (o : ReedArgs)
  | mac (unit : Fin 16) (o : ReedArgs)
  | msu (unit : Fin 16) (o : ReedArgs)
  | sqa (unit : Fin 16) (o : ReedArgs)
  | adda (unit : Fin 16) (o : ReedArgs)
  | suba (unit : Fin 16) (o : ReedArgs)
  | addi (unit : Fin 16) (o : ReedArgs)
  | adds (unit : Fin 16) (o : ReedArgs)
  | shra (unit : Fin 16) (o : ReedArgs)
  | shla (unit : Fin 16) (o : ReedArgs)
  | absa (unit : Fin 16) (o : ReedArgs)
  | bexp (unit : Fin 16) (o : ReedArgs)
  | nrm (unit : Fin 16) (o : ReedArgs)
  | movad (unit : Fin 16) (o : ReedArgs)
  | movda (unit : Fin 16) (o : ReedArgs)
  | movi (unit : Fin 16) (o : ReedArgs)
  | mov (unit : Fin 16) (o : ReedArgs)
  | movf (unit : Fin 16) (o : ReedArgs)
  | mant (unit : Fin 16) (o : ReedArgs)
  | ash (unit : Fin 16) (o : ReedArgs)
  | dtap (unit : Fin 16) (o : ReedArgs)
  | sethd (unit : Fin 16) (o : ReedArgs)
  | dput (unit : Fin 16) (o : ReedArgs)
  | dget (unit : Fin 16) (o : ReedArgs)
  -- battens and streams (11)
  | battenClose (stream : Fin 64)
  | battenSend (egress : Egress)
  | battenAgeExpire (eth : Fin 2)
  | launchWindowOpen (eth : Fin 2)
  | resendTake (stream : Fin 64)
  | retainExpire (stream : Fin 64)
  -- Quever command protocol (12, 13 and the chapters each opcode names)
  | qcpPacket (via : Via) (bytes : List Byte)
  | mailboxGo (path : Path) (len : BitVec 14)
  | mailboxDoneClear (path : Path)
  | mailboxEvtClear (path : Path)
  | ping (q : ReqHdr)
  | info (q : ReqHdr)
  | read (q : ReqHdr) (addr : BitVec 24) (count : Nat)
  | write (q : ReqHdr) (addr : BitVec 24) (data : List Word)
  | shutdown (q : ReqHdr)
  | reset (q : ReqHdr) (count : Nat)
  | abort (q : ReqHdr) (seq : BitVec 32)
  | eventLog (q : ReqHdr) (seq : BitVec 32) (count : Nat)
  | begin (q : ReqHdr)
  | set (q : ReqHdr) (addr : BitVec 24) (data : List Word)
  | commit (q : ReqHdr) (epoch : Option (BitVec 32))
  | discard (q : ReqHdr)
  | storeSave (q : ReqHdr) (index : Nat)
  | storeSaveCommit
  | storeSelect (q : ReqHdr) (index : Nat)
  | imagePut (q : ReqHdr) (offset : Nat) (data : List Byte)
  | imageApply (q : ReqHdr) (count : Nat)
  | streamStatus (q : ReqHdr) (index : Nat)
  | resend (q : ReqHdr) (index : Nat) (seq : BitVec 32) (count : Nat)
  | flush (q : ReqHdr) (index : Nat)
  | eventRead (q : ReqHdr) (count : Nat)
  | brlRead (q : ReqHdr) (index : Nat) (first : Int) (count : Nat)
  | trigger (q : ReqHdr) (index : Nat) (ingress : Ts)
  | capArm (q : ReqHdr) (index : Nat)
  | capAbort (q : ReqHdr) (index : Nat)
  | capRelease (q : ReqHdr) (index : Nat)
  | capRead (q : ReqHdr) (index offset count level : Nat)
  | capSend (q : ReqHdr) (index level : Nat) (dest : Option (Fin 2 × Bool × BitVec 128 × BitVec 16)) (haddr : BitVec 64)
  | calRun (q : ReqHdr) (mask : BitVec 64)
  | calStatus (q : ReqHdr)
  | calRead (q : ReqHdr) (index : Nat)
  | restoreFactory (q : ReqHdr)
  | baseline (q : ReqHdr) (index : Nat)
  | pairStatus (q : ReqHdr)
  | refAttach (q : ReqHdr) (pairId : BitVec 12)
  | refDetach (q : ReqHdr)
  | take (q : ReqHdr)
  | switchBack (q : ReqHdr) (time : Ts)
  | reedPut (q : ReqHdr) (index offset : Nat) (data : List Byte)
  | reedLoad (q : ReqHdr) (index : Nat) (place : BitVec 32) (count : Nat)
  | reedLoadCommit (slot : Fin 16)
  | reedStart (q : ReqHdr) (index : Nat)
  | reedStop (q : ReqHdr) (index : Nat)
  | reedUnload (q : ReqHdr) (index : Nat)
  | fldRead (q : ReqHdr) (index : Nat)
  | fldBuffer (q : ReqHdr) (index count : Nat)
  | monRead (q : ReqHdr) (index : Nat)
  | convStart (q : ReqHdr) (index : Nat)
  | foutSet (q : ReqHdr) (mask : BitVec 64)
  | timeGet (q : ReqHdr)
  | timeSet (q : ReqHdr) (time : Ts)
  | timeAdj (q : ReqHdr) (ns : Int)
  | ticStart (q : ReqHdr) (index count : Nat)
  | ticRead (q : ReqHdr)
  | diagEnter (q : ReqHdr)
  | diagLeave (q : ReqHdr)
  | bistRead (q : ReqHdr)
  | ptbSet (q : ReqHdr) (addr : BitVec 24) (data : List Word)
  | qcpCounters (q : ReqHdr)
  | openSession (q : ReqHdr) (o : OpenArgs)
  | close (q : ReqHdr)
  | quotaSet (q : ReqHdr) (index : Nat) (quotas : List Word)
  | quotaGet (q : ReqHdr) (index : Nat)
  | keyProvision (q : ReqHdr) (target op : Word) (wrapped : List Byte)
  | sessionList (q : ReqHdr)
  | sessionIdleClose (session : Fin 8)
  -- register accesses (24, 25)
  | registerWrite (path : Path) (off : BitVec 24) (value : Word)
  | groupLatchRead (path : Path) (off : BitVec 24)
  | sysIgnCntRead (path : Path)
  | spiReadCycle (cmd : Byte) (off : BitVec 24) (count : Nat)
  | spiWriteCycle (cmd : Byte) (off : BitVec 24) (data : List Word)
  -- Ethernet and network time (14)
  | ethFrameRx (eth : Fin 2) (frame : EthFrame)
  | ethLinkChange (eth : Fin 2) (up : Bool)
  | nextHopRetry (eth : Fin 2) (addr : BitVec 128)
  | ptpSyncRx (eth : Fin 2) (seqId : BitVec 16) (twoStep : Bool) (origin : Ts) (corr : Int) (raw : Ts)
  | ptpFollowUpRx (eth : Fin 2) (seqId : BitVec 16) (origin : Ts) (corr : Int)
  | ptpDelayRespRx (eth : Fin 2) (seqId : BitVec 16) (t4 : Ts) (corr : Int)
  | ptpAnnounceRx (eth : Fin 2) (identity : BitVec 64) (dataset : Nat)
  | ptpDelayReqRx (eth : Fin 2) (seqId : BitVec 16) (raw : Ts)
  | announceTimeout
  | followUpTimeout
  | syncSend (raw : Ts)
  | delayReqSend (raw : Ts)
  -- time base and event timing (15)
  | ovenWarm
  | ovenCool
  | ovenFail
  | refSourceLoss
  | refSourceResume
  | synthUnlock
  | synthRelock
  | synthLockTimeout
  | ppsOutEdge
  | ppsInEdge (ts : Ts)
  | evtEdge (input : Fin 4) (rising : Bool) (ts : Ts)
  | ticStartBit (path : Path)
  | ticAbortBit (path : Path)
  | ticEdge (input : Fin 6) (rising : Bool) (ts : Nat)
  | ticTimeout
  -- ridge bus and flashing (16)
  | ridgeIdleFrame (h : RidgeHdr)
  | dlyReq (h : RidgeHdr)
  | dlyRsp (h : RidgeHdr) (t1 t2 : Ts)
  | presence (h : RidgeHdr) (serial : BitVec 48) (eUp wUp : Bool)
  | timeFrame (h : RidgeHdr)
  | ridgeTriggerFrame (h : RidgeHdr) (tref : Ts) (ridgeId : BitVec 8) (horizon : Nat)
  | syncFrame (h : RidgeHdr) (group : BitVec 8)
  | heartbeatFrame (h : RidgeHdr) (hb : Heartbeat)
  | pairCmd (h : RidgeHdr) (pairId : BitVec 12) (cmd : BitVec 4) (target : BitVec 12) (cseq w : BitVec 32)
  | ridgeCrcError (laneW : Bool)
  | presenceSend
  | dlyReqSend
  | timeSend
  | blockLockLoss (laneW : Bool)
  | laneFrameTimeout (laneW : Bool)
  | laneUp (laneW : Bool)
  | nodeExpire (node : BitVec 12)
  | ridgeTimeLoss
  | ridgeTriggerExecute
  | syncExecute
  | ridgeSyncSend (path : Path)
  | bypassTimerExpire
  | bypassEnergize
  | bypassRelease
  | flashingSettled
  -- paired operation (17)
  | healthUpdate
  | heartbeatSend
  | pairEchoWrite (path : Path) (hseq : BitVec 32)
  | fence
  | refLossDeclare
  | takeExecute
  | revertHoldExpire
  | makeStart
  | switchInstant
  | pairIdle
  | pairHb (health : BitVec 12)
  | pairCfgFrame (tsw nslot : Nat) (alignMod : Ts) (ch : BitVec 8) (node : BitVec 12)
  | snap (offset total : Nat) (body : List Byte)
  | finalSeq (seqs : List (Fin 64 × BitVec 32))
  | takeAt (time : Ts)
  | pairHbSend
  | pairLinkDown
  | pairLinkUp
  -- field island and converters (18)
  | cfg (off : BitVec 16) (value : Word)
  | cmd (regular injected : Bool)
  | fout (mask : BitVec 2)
  | hb
  | tsync
  | bufreq (ch : Fin 8) (first count : BitVec 16)
  | ilk (closed : Bool) (tick : BitVec 32)
  | fin (states : BitVec 4) (tick : BitVec 32)
  | result (index qual : BitVec 4) (seq : Byte) (gain : BitVec 3) (opened : Bool) (code tick : Word)
  | status (flags : Word) (vin : Byte) (echo : Byte) (crcerr badmsg : BitVec 16)
  | tick (tick : BitVec 32)
  | bufdata (ch : Fin 8) (index : BitVec 16) (rec0 rec1 : Word)
  | barrierFrameError (toIsland : Bool) (badCrc : Bool)
  | ilkSend
  | tsyncSend
  | islandStart
  | islandStop
  | fin0Change (closed : Bool) (tick : BitVec 32)
  | finDebounced (input : Fin 3) (closed : Bool) (tick : BitVec 32)
  | hostloss
  | foutOvercurrent (output : Fin 2)
  | excLimit (output : Fin 2)
  | excSettleExpire
  | roundTimerTick (mon : Bool)
  | fieldConversion (c : FieldConv)
  | monitorConversion (injected : Bool) (codes : List Nat) (ts : Ts)
  | fldSwstart (path : Path)
  | fldInjstart (path : Path)
  | monSwstart (path : Path)
  | monInjstart (path : Path)
  | kick (path : Path)
  | fldFoutWrite (path : Path) (mask : BitVec 2)
  -- calibration (19)
  | calSensorRead (die0 die1 die2 die3 tcase : Int)
  | calMicroStep (domain : Fin 13) (clipped : Bool) (values : List Int)
  | calRetryExpire (domain : Fin 13)
  | calUserSave
  -- external memory (20)
  | mr4Read (f0 f1 f2 f3 : BitVec 3)
  | refreshDue (ch : Fin 4) (bank : Fin 16)
  | refreshIssue (ch : Fin 4) (bank : Fin 16)
  | rowActivate (ch : Fin 4) (bank : Fin 16) (row : Nat)
  | rdTableClear
  | dramRead (ch : Fin 4) (cls : Nat) (addr : Nat)
  | trainingStep (ch : Fin 4)
  | freqChange
  -- power and reset (21)
  | powerOn
  | supplyDrop
  | poresetNLow (ns : Nat)
  | warmrstNLow (ns : Nat)
  | thermalReset (asserted : Bool)
  | watchdogExpire
  | islandWatchdog
  | coldResetWrite (path : Path)
  | warmResetWrite (path : Path)
  | fieldResetWrite (path : Path)
  | blockResetWrite (path : Path) (blk : Byte)
  | resetExit
  | flashHoldExpire
  | bootSequence (fwOk : Bool) (trainFail : BitVec 4) (memOk : Bool)
  -- self-test, scan (22)
  | selfTestItem (pass : Bool) (measured limit detail : Word) (ms : Nat)
  | tapReset
  | jtagBypass
  | idcode
  | samplePreload
  | challenge
  | response (value : BitVec 128)
  | extest
  | clamp
  | highz
  | intscan
  | permit (path : Path)
  | permitExpire
  -- perturbation (23)
  | ptbClear (path : Path)
  | ptbLifeExpire
  -- the rows the table adds at its end
  | intlkNRise
  | thermalFaultClear
  | eventRecordDeliver
  | captureWriteDeadline (unit : Fin 16) (close : Bool)
  | capSendComplete (session : Fin 8) (seq : BitVec 32)
  | announceSend
  | ppsOutFall
  | nextHopExpire (eth : Fin 2) (addr : BitVec 128)
  | reassemblyTimeout (src : BitVec 128)
  | blockResetEnd
  | partnerHeartbeatLoss
  deriving DecidableEq, Repr

end Sys2Proof
end

