-- ==== Sys2Proof/Decode.lean ====
section
/-! DEFINITION. The block has no instruction decoder, and spec/opcode_table.json gives no row any bits: no word spells a
command. -/

namespace Sys2Proof

/-- The command that a word spells by the bits of the table's rows: none, since no row gives bits. -/
def decodeTableWord (_nbits _w : Nat) : Option Instr := none

end Sys2Proof
end

