-- ==== Sys2Proof/Machine/Crypto.lean ====
section
/-! DEFINITION. Byte order, the two CRCs and the keyed hash of the formats that leave the block: big-endian bytes (R9),
CRC-32C (R389), CRC-16 (R625), SHA-256 and HMAC-SHA-256 (R417, FIPS 180-4 and 198-1). -/

namespace Sys2Proof.Machine

/-- The low `n` bytes of a number, most significant first (R9). -/
def beBytes : Nat → Nat → List Byte
  | 0, _ => []
  | n + 1, v => BitVec.ofNat 8 (v / 256 ^ n) :: beBytes n v

/-- The number a list of bytes spells, most significant first (R9). -/
def beNat (bs : List Byte) : Nat := bs.foldl (fun a b => a * 256 + b.toNat) 0

/-- The bytes of a register word, most significant first. -/
def wordBytes (w : Word) : List Byte := beBytes 4 w.toNat

/-- The words of a list of bytes; a short tail is filled with zero bytes. -/
def bytesWords : List Byte → List Word
  | a :: b :: c :: d :: t => BitVec.ofNat 32 (beNat [a, b, c, d]) :: bytesWords t
  | [] => []
  | [a] => [BitVec.ofNat 32 (beNat [a, 0, 0, 0])]
  | [a, b] => [BitVec.ofNat 32 (beNat [a, b, 0, 0])]
  | [a, b, c] => [BitVec.ofNat 32 (beNat [a, b, c, 0])]

/-- One bit of the reflected CRC-32C register, polynomial 0x1EDC6F41 (0x82F63B78 reflected). -/
def crc32cBit (c : BitVec 32) : BitVec 32 :=
  if c.getLsbD 0 then (c >>> 1) ^^^ 0x82F63B78#32 else c >>> 1

/-- One byte of the CRC-32C. -/
def crc32cByte (c : BitVec 32) (b : Byte) : BitVec 32 :=
  let c0 := c ^^^ b.setWidth 32
  crc32cBit (crc32cBit (crc32cBit (crc32cBit (crc32cBit (crc32cBit (crc32cBit (crc32cBit c0)))))))

/-- The CRC-32C of R389: initial value and final XOR of all ones. -/
def crc32c (bs : List Byte) : BitVec 32 := bs.foldl crc32cByte 0xFFFFFFFF#32 ^^^ 0xFFFFFFFF#32

/-- One bit of the CRC-16 register, polynomial 0x1021 (R625). -/
def crc16Bit (c : BitVec 16) : BitVec 16 :=
  if c.getLsbD 15 then (c <<< 1) ^^^ 0x1021#16 else c <<< 1

/-- One byte of the CRC-16. -/
def crc16Byte (c : BitVec 16) (b : Byte) : BitVec 16 :=
  let c0 := c ^^^ ((b.setWidth 16) <<< 8)
  crc16Bit (crc16Bit (crc16Bit (crc16Bit (crc16Bit (crc16Bit (crc16Bit (crc16Bit c0)))))))

/-- The CRC-16 of the barrier link (R625). -/
def crc16 (bs : List Byte) : BitVec 16 := bs.foldl crc16Byte 0xFFFF#16

/-! ### SHA-256

FIPS 180-4 defines the constants as the first 32 bits of the fractional parts of roots of the first primes: square roots for
the initial hash value, cube roots for the rounds. -/

/-- The largest number below 2^bits beyond `lo` whose e-th power is at most n, found bit by bit. -/
def rootFrom (e n : Nat) : Nat → Nat → Nat
  | 0, lo => lo
  | bits + 1, lo => rootFrom e n bits (if (lo + 2 ^ bits) ^ e ≤ n then lo + 2 ^ bits else lo)

/-- The first 32 bits of the fractional part of the e-th root of a number below 2^12. -/
def rootBits (e n : Nat) : BitVec 32 := BitVec.ofNat 32 (rootFrom e (n * 2 ^ (32 * e)) 38 0)

/-- The first `count` primes, for as many as lie below 312. -/
def firstPrimes (count : Nat) : List Nat :=
  ((List.range 312).filter (fun n => decide (2 ≤ n) && (List.range n).all (fun d => decide (d < 2) || n % d != 0))).take count

/-- The exclusive or of a word turned right by two counts and of a third term. -/
def sigma (x : BitVec 32) (r1 r2 : Nat) (third : BitVec 32) : BitVec 32 := x.rotateRight r1 ^^^ x.rotateRight r2 ^^^ third

/-- Word t of the message schedule from the words before it, newest first. -/
def scheduleWord (past : List (BitVec 32)) : BitVec 32 :=
  let back (n : Nat) : BitVec 32 := past.getD (n - 1) 0
  sigma (back 2) 17 19 (back 2 >>> 10) + back 7 + sigma (back 15) 7 18 (back 15 >>> 3) + back 16

/-- The message schedule of a block of 16 words. -/
def schedule (block : List (BitVec 32)) : List (BitVec 32) :=
  ((List.range 48).foldl (fun past _ => scheduleWord past :: past) block.reverse).reverse

/-- The eight working variables of FIPS 180-4. -/
structure HashVars where
  a : BitVec 32
  b : BitVec 32
  c : BitVec 32
  d : BitVec 32
  e : BitVec 32
  f : BitVec 32
  g : BitVec 32
  h : BitVec 32
  deriving DecidableEq, Repr

/-- The initial hash value. -/
def HashVars.start : HashVars :=
  let root (i : Nat) : BitVec 32 := rootBits 2 ((firstPrimes 8).getD i 0)
  { a := root 0, b := root 1, c := root 2, d := root 3, e := root 4, f := root 5, g := root 6, h := root 7 }

/-- One round, with the sum of its constant and its schedule word. -/
def HashVars.round (v : HashVars) (kw : BitVec 32) : HashVars :=
  let choice := (v.e &&& v.f) ||| (~~~v.e &&& v.g)
  let majority := (v.a &&& v.b) ||| (v.c &&& (v.a ||| v.b))
  let add := v.h + sigma v.e 6 11 (v.e.rotateRight 25) + choice + kw
  { a := add + sigma v.a 2 13 (v.a.rotateRight 22) + majority, b := v.a, c := v.b, d := v.c, e := v.d + add, f := v.e, g := v.f, h := v.g }

/-- The hash value after one more block. -/
def HashVars.block (v : HashVars) (words : List (BitVec 32)) : HashVars :=
  let r := ((firstPrimes 64).zip (schedule words)).foldl (fun (u : HashVars) e => u.round (rootBits 3 e.1 + e.2)) v
  { a := v.a + r.a, b := v.b + r.b, c := v.c + r.c, d := v.d + r.d, e := v.e + r.e, f := v.f + r.f, g := v.g + r.g, h := v.h + r.h }

/-- SHA-256 (FIPS 180-4). -/
def sha256 (bs : List Byte) : List Byte :=
  let words := bytesWords (bs ++ 0x80#8 :: List.replicate ((119 - bs.length % 64) % 64) 0 ++ beBytes 8 (bs.length * 8))
  let v := (List.range (words.length / 16)).foldl (fun (u : HashVars) i => u.block ((words.drop (16 * i)).take 16)) HashVars.start
  [v.a, v.b, v.c, v.d, v.e, v.f, v.g, v.h].flatMap wordBytes

/-- HMAC-SHA-256 (FIPS 198-1). -/
def hmacSha256 (key msg : List Byte) : List Byte :=
  let k0 := if key.length > 64 then sha256 key else key
  let k := k0 ++ List.replicate (64 - k0.length) 0
  sha256 (k.map (· ^^^ 0x5c#8) ++ sha256 (k.map (· ^^^ 0x36#8) ++ msg))

/-- The bytes of an ASCII text. -/
def asciiBytes (t : String) : List Byte := t.toList.map (fun c => BitVec.ofNat 8 c.toNat)

end Sys2Proof.Machine
end

