-- ==== Sys2Proof/Config.lean ====
section
/-! DEFINITION. What one device holds fixed, and the values the spec leaves open. Every definition without a body is
uninterpreted: no proof can see a value of it, so a statement that holds of the model holds for every value. -/

namespace Sys2Proof.Config

/-- The reset value of a word whose table says "factory", "firmware" or "from key sector" (R788). -/
opaque factoryWord : Nat → BitVec 32

/-- The factory MAC address of port 0 that a serial number determines (R502). -/
opaque macOf : Nat → BitVec 48

/-- The latency of the device's PCS, FEC and SerDes in 2^-16 ns: port, transmit, RATE (true 10 Gb/s), FEC (R506). -/
opaque intLatency : Nat → Bool → Bool → Nat → BitVec 32

/-- A fresh free value: the n-th value the spec leaves open in a run (AN OPEN VALUE; State.free counts them). -/
opaque freeNat : Nat → Nat

/-- How an inexact quotient rounds where the spec does not say: up where true, down where false. -/
opaque roundUp : Int → Nat → Bool

/-- The density that changes a pump's output by some 0.1 dB from the density in use: pump, density, change (R49). -/
opaque pumpMove : Nat → Nat → Int → Nat

/-- The current of the laser's cooler that its closed loop sets, mA: current in use, laser thermistor in 0.01 °C (R35). -/
opaque coolerDrive : Int → Int → Int

/-- The laser temperature's set point, 0.01 °C, by channel (R35, R64). -/
opaque laserSet : Nat → Int

/-- Taps of the fixed interpolator by 4, in 2^-16, by distance in samples at 4 GS/s (R97). -/
opaque interpTap : Int → Int

/-- A lane's sample corrected by a phase in 2^-16 rad and a delay in 250 ps / 1,024, from its 17 codes about it, in 1/16 of a code
(R133). -/
opaque gainCorrect : Int → Int → List Int → Int

/-- The 480 taps of the channelizer's filter in 2^-16, and of its wide-window synthesis by distance in samples at 400 MS/s (R152
to R154). -/
opaque protoTap : Nat → Int
opaque synthTap : Int → Int

/-- Where the words of the channelizer and of the matched filter saturate (R150). -/
opaque chanLimit : Nat
opaque mfLimit : Nat

/-- The factory's τ_ref in 2^-16 ns and fringe amplitude in codes (R161, R166). -/
opaque tauRef : Nat
opaque fringe : Nat

/-- The receiver noise floor of a port, as the mean energy of a compressed bin's lane (R72). -/
opaque noiseFloor : Nat → Nat

/-- exp(2πj × num / den) in 2^-30 (R96, R97, R152). -/
opaque cis : Int → Nat → Int × Int

/-- The proportional part, and the step of the integral part, that an offset in 2^-16 ns gives a servo's loop, in units of FADJ: servo
0 PTP, 1 ridge (R516, R562). -/
opaque servoP : Nat → Int → Int
opaque servoI : Nat → Int → Int

/-- Place of the device's own dataset in the best-master comparison of IEEE 1588-2019, the best lowest (R514). -/
opaque ownDataset : Nat

/-- Where an item of a memory user stands in its region of R699: the class of R701, the stream, capture unit or port, the item. -/
opaque dramPlace : Nat → Nat → Nat → Nat

/-- The match candidates that the lossless coder examines at a position of a body, at a level, by their number from 0: distance and length
(R393, R395). -/
opaque matchAt : Nat → List (BitVec 8) → Nat → Nat → Nat × Nat

/-- The argument of a complex number in 2^-16 rad, in (−π, π] (R170, R171, R178). -/
opaque argOf : Int → Int → Int

/-- A complex number turned by an angle in 2^-16 rad (R170, R171). -/
opaque rotate : Int → Int → Int → Int × Int

/-- The magnitude of a complex number (R174). -/
opaque magOf : Int → Int → Nat

/-- The taps of HB1 and HB2 before the centre one, in 2^-24 (R207). -/
opaque hb1Tap : Nat → Int
opaque hb2Tap : Nat → Int

/-- The calibrated linear gain of a port's Brillouin code, in 2^-16 (R245). -/
opaque brlGain : Nat → Nat → Nat

/-- What an iteration of the fit of R253 adds to an entry of the diagonal of its normal equations, which the spec does not give: the
points as frequency in Hz, mean power in 2^-16 and count, the number of the iteration, B, A_pk, ν_B and Γ before it, and the entry. -/
opaque lmDamp : List (Int × Int × Nat) → Nat → Int × Int × Int × Int → Nat → Nat

/-- The weight of a point of the fit by its count (R253). -/
opaque lmWeight : Nat → Nat

/-- What a reed image holds (chapter 09); the spec does not give its layout in bytes. -/
structure ReedImage where
  whole : Bool
  block : Nat
  outN : Nat
  settle : Nat
  delay : Nat
  cmax : Nat
  fx : Nat
  fy : Nat
  xbase : Nat
  ybase : Nat
  /-- Program words, 64 bits each. -/
  prog : List (BitVec 64)
  /-- Initial X, Y and delay memory of the lanes, as elements of 16 bits. -/
  x : List (List (BitVec 16))
  y : List (List (BitVec 16))
  dly : List (List (BitVec 16))

/-- What a reed image's bytes hold, where they are complete and their signature verifies (R344). -/
opaque reedImage : List (BitVec 8) → Option ReedImage

/-- The preferred device of a refereed pair is NODE_B (R591): no heartbeat carries PAIR_CFG.PREF. -/
opaque prefNodeB : Bool

/-- VALUE of a monitor result by the factory coefficients: input, sum and number of its codes (R662). -/
opaque monValue : Nat → Nat → Nat → Int

/-- The factory value of a trim that no register holds: domain and quantity (R668, R688). -/
opaque factoryTrim : Nat → Nat → Int

/-- The factory window LIM of a quantity, and STEP_0 and STEP_T in 2^-10 units, STEP_T per 0.01 °C (R685). -/
opaque calLow : Nat → Nat → Int
opaque calHigh : Nat → Nat → Int
opaque calStep0 : Nat → Nat → Nat
opaque calStepT : Nat → Nat → Nat

/-- The identity key K_ID in the fuses, 32 bytes (R762). -/
opaque identityKey : List (BitVec 8)

/-- The density each memory channel reports in MR8 (R697): 0 for 2 GiB, 1 for 4 GiB, 2 for 8 GiB. -/
opaque mr8 : Nat → Fin 3

end Sys2Proof.Config
end

