-- ==== Sys2Proof/Machine/Regs.lean ====
section
/-! DEFINITION. The register map: every field of every register table of the spec as a named bit field, and every
register word as a row of its access rights, its writer, its reset value and the ranges its table states.
The rows follow the register tables of chapters 00 to 24 (R8, R10 to R13, R788). -/

namespace Sys2Proof.Machine

/-- A bit field: the byte offset of its word, its lowest bit and its width (R8). -/
structure Fld where
  addr : Nat
  lo : Nat
  width : Nat
  deriving DecidableEq, Repr

/-- Who may write a word: the owner (R829), any session, the session that owns the stream, trigger unit, capture
unit or reed slot whose window holds the word, the session a ring belongs to (R410), the owner of an anchor's source
stream (R275), the referee session (R617), or nobody directly (R773). The numbers are the window's base and stride. -/
inductive Writer where
  | owner
  | any
  | stream (base stride : Nat)
  | trgUnit (base stride : Nat)
  | capUnit (base stride : Nat)
  | slot (base stride : Nat)
  | ring (base stride : Nat)
  | anchor (base stride : Nat)
  | referee
  | ptb
  deriving DecidableEq, Repr

/-- A stated range of a field of a word (R830): lowest bit, width, two's complement or not, least and greatest value. -/
structure FldRange where
  lo : Nat
  width : Nat
  signed : Bool
  min : Int
  max : Int
  deriving DecidableEq, Repr

/-- A register word, or an array of equal words: base, stride, count, the masks of its RW and RWS bits, of its W1C
bits, of its W1S and WO bits and of all its assigned bits, its reset value, whether factory, firmware or key sector
give bits of it, its writer, whether it is written only through a transaction, whether it shapes the sweep, and the
ranges of its fields. -/
structure RegRow where
  base : Nat
  stride : Nat
  count : Nat
  rw : Nat
  w1c : Nat
  w1s : Nat
  all : Nat
  rst : Nat
  factory : Bool
  writer : Writer
  txnOnly : Bool
  shapes : Bool
  ranges : List FldRange
  deriving DecidableEq, Repr

/-! Fields. The index of an array of registers is taken modulo the array. -/


-- SYS_STATE (R3, chapter 00)
abbrev SYS_STATE.PREV : Fld := ⟨0x000004, 8, 4⟩
abbrev SYS_STATE.STATE : Fld := ⟨0x000004, 0, 4⟩

-- SYS_SWEEP_LO (R33, chapter 01)
abbrev SYS_SWEEP_LO.IDX_LO : Fld := ⟨0x000020, 0, 32⟩

-- SYS_SWEEP_HI (R33, chapter 01)
abbrev SYS_SWEEP_HI.IDX_HI : Fld := ⟨0x000024, 0, 16⟩

-- SYS_REANCHOR (R33, chapter 01)
abbrev SYS_REANCHOR.SKIPPED : Fld := ⟨0x000028, 16, 16⟩
abbrev SYS_REANCHOR.COUNT : Fld := ⟨0x000028, 1, 15⟩
abbrev SYS_REANCHOR.DIR : Fld := ⟨0x000028, 0, 1⟩

-- LSD_LASER (R89, chapter 02)
abbrev LSD_LASER.CH : Fld := ⟨0x030000, 0, 8⟩

-- LSD_LASER_STATUS (R89, chapter 02)
abbrev LSD_LASER_STATUS.FERR : Fld := ⟨0x030004, 16, 16⟩
abbrev LSD_LASER_STATUS.RELOCKS : Fld := ⟨0x030004, 8, 8⟩
abbrev LSD_LASER_STATUS.FAIL : Fld := ⟨0x030004, 2, 1⟩
abbrev LSD_LASER_STATUS.TUNING : Fld := ⟨0x030004, 1, 1⟩
abbrev LSD_LASER_STATUS.LOCK : Fld := ⟨0x030004, 0, 1⟩

-- LSD_GSCALE (R89, chapter 02)
abbrev LSD_GSCALE.TCCLIP : Fld := ⟨0x030008, 16, 8⟩
abbrev LSD_GSCALE.GSCALE : Fld := ⟨0x030008, 0, 12⟩

-- LSD_SINK_SET (R89, chapter 02)
abbrev LSD_SINK_SET.SET (n : Nat) : Fld := ⟨0x030010 + 4 * (n % 8), 0, 16⟩

-- LSD_PUMP_STAT (R89, chapter 02)
abbrev LSD_PUMP_STAT.CAP (n : Nat) : Fld := ⟨0x030040 + 4 * (n % 4), 16, 16⟩
abbrev LSD_PUMP_STAT.DENS (n : Nat) : Fld := ⟨0x030040 + 4 * (n % 4), 0, 16⟩

-- LSD_PWR (R89, chapter 02)
abbrev LSD_PWR.ACTUAL (p : Nat) : Fld := ⟨0x030050 + 4 * (p % 2), 16, 16⟩
abbrev LSD_PWR.TARGET (p : Nat) : Fld := ⟨0x030050 + 4 * (p % 2), 0, 16⟩

-- LSD_DERATE (R89, chapter 02)
abbrev LSD_DERATE.LOSS : Fld := ⟨0x030060, 24, 8⟩
abbrev LSD_DERATE.FACTOR : Fld := ⟨0x030060, 8, 8⟩
abbrev LSD_DERATE.KNEE : Fld := ⟨0x030060, 0, 8⟩

-- LSD_ILK (R89, chapter 02)
abbrev LSD_ILK.REARM : Fld := ⟨0x030070, 31, 1⟩
abbrev LSD_ILK.ENABLE : Fld := ⟨0x030070, 30, 1⟩
abbrev LSD_ILK.REARM_REJ : Fld := ⟨0x030070, 29, 1⟩
abbrev LSD_ILK.CAUSE : Fld := ⟨0x030070, 8, 5⟩
abbrev LSD_ILK.FIN0_OK : Fld := ⟨0x030070, 2, 1⟩
abbrev LSD_ILK.INTLK : Fld := ⟨0x030070, 1, 1⟩
abbrev LSD_ILK.CLAMP : Fld := ⟨0x030070, 0, 1⟩

-- LSD_APR_CTRL (R89, chapter 02)
abbrev LSD_APR_CTRL.EN : Fld := ⟨0x030080, 31, 1⟩
abbrev LSD_APR_CTRL.RESTORE_N : Fld := ⟨0x030080, 24, 4⟩
abbrev LSD_APR_CTRL.LEVEL : Fld := ⟨0x030080, 16, 8⟩
abbrev LSD_APR_CTRL.TOL : Fld := ⟨0x030080, 0, 16⟩

-- LSD_APR_END (R89, chapter 02)
abbrev LSD_APR_END.FIBRE_END (p : Nat) : Fld := ⟨0x030090 + 4 * (p % 2), 0, 17⟩

-- LSD_APR_STAT (R89, chapter 02)
abbrev LSD_APR_STAT.STATE (p : Nat) : Fld := ⟨0x030098 + 4 * (p % 2), 30, 2⟩
abbrev LSD_APR_STAT.CONT_LEN (p : Nat) : Fld := ⟨0x030098 + 4 * (p % 2), 0, 17⟩

-- LSD_DIAG (R89, chapter 02)
abbrev LSD_DIAG.PERIOD : Fld := ⟨0x0300A0, 16, 16⟩
abbrev LSD_DIAG.PUMP_OPEN : Fld := ⟨0x0300A0, 2, 4⟩
abbrev LSD_DIAG.GATE_OPEN : Fld := ⟨0x0300A0, 0, 2⟩

-- PAT_SWEEP (R127, chapter 03)
abbrev PAT_SWEEP.N_SLOT : Fld := ⟨0x040000, 24, 5⟩
abbrev PAT_SWEEP.TSW : Fld := ⟨0x040000, 0, 19⟩

-- PAT_ALIGN_NS (R127, chapter 03)
abbrev PAT_ALIGN_NS.NS : Fld := ⟨0x040004, 0, 30⟩

-- PAT_ALIGN_SEC_LO (R127, chapter 03)
abbrev PAT_ALIGN_SEC_LO.SEC_LO : Fld := ⟨0x040008, 0, 32⟩

-- PAT_ALIGN_SEC_HI (R127, chapter 03)
abbrev PAT_ALIGN_SEC_HI.SEC_HI : Fld := ⟨0x04000C, 0, 16⟩

-- PAT_CTRL (R127, chapter 03)
abbrev PAT_CTRL.SYNC_POL : Fld := ⟨0x040010, 7, 1⟩
abbrev PAT_CTRL.SWAP_SRC : Fld := ⟨0x040010, 4, 2⟩
abbrev PAT_CTRL.NEXT : Fld := ⟨0x040010, 0, 1⟩

-- PAT_STATUS (R127, chapter 03)
abbrev PAT_STATUS.SWAPS : Fld := ⟨0x040014, 16, 16⟩
abbrev PAT_STATUS.BANKERR_B : Fld := ⟨0x040014, 3, 1⟩
abbrev PAT_STATUS.BANKERR_A : Fld := ⟨0x040014, 2, 1⟩
abbrev PAT_STATUS.ARMED : Fld := ⟨0x040014, 1, 1⟩
abbrev PAT_STATUS.ACTIVE : Fld := ⟨0x040014, 0, 1⟩

-- PAT_SHADOW (R127, chapter 03)
abbrev PAT_SHADOW.POS1 : Fld := ⟨0x040018, 8, 4⟩
abbrev PAT_SHADOW.POS0 : Fld := ⟨0x040018, 0, 4⟩

-- PAT_RANGE (R127, chapter 03)
abbrev PAT_RANGE.EXT (p : Nat) : Fld := ⟨0x040040 + 0x8000 * (p % 2), 31, 1⟩
abbrev PAT_RANGE.N_BIN (p : Nat) : Fld := ⟨0x040040 + 0x8000 * (p % 2), 0, 18⟩

-- RX_GAIN (R163, chapter 04)
abbrev RX_GAIN.BRL_ACT (p : Nat) : Fld := ⟨0x050000 + 4 * (p % 2), 24, 3⟩
abbrev RX_GAIN.DAS_ACT (p : Nat) : Fld := ⟨0x050000 + 4 * (p % 2), 16, 3⟩
abbrev RX_GAIN.BRL_AGC (p : Nat) : Fld := ⟨0x050000 + 4 * (p % 2), 13, 1⟩
abbrev RX_GAIN.DAS_AGC (p : Nat) : Fld := ⟨0x050000 + 4 * (p % 2), 12, 1⟩
abbrev RX_GAIN.BRL_CODE (p : Nat) : Fld := ⟨0x050000 + 4 * (p % 2), 8, 3⟩
abbrev RX_GAIN.DAS_CODE (p : Nat) : Fld := ⟨0x050000 + 4 * (p % 2), 0, 3⟩

-- RX_AGC (R163, chapter 04)
abbrev RX_AGC.HOLD : Fld := ⟨0x050010, 24, 8⟩
abbrev RX_AGC.CLIP_HI : Fld := ⟨0x050010, 16, 8⟩
abbrev RX_AGC.LOW_DBFS : Fld := ⟨0x050010, 8, 8⟩

-- RX_AGC_IGN (R163, chapter 04)
abbrev RX_AGC_IGN.BINS (p : Nat) : Fld := ⟨0x050014 + 4 * (p % 2), 0, 17⟩

-- RX_ZERO (R163, chapter 04)
abbrev RX_ZERO.ZERO (p : Nat) : Fld := ⟨0x050020 + 4 * (p % 2), 0, 16⟩

-- RX_MF (R163, chapter 04)
abbrev RX_MF.WIN_B : Fld := ⟨0x050030, 4, 2⟩
abbrev RX_MF.WIN_A : Fld := ⟨0x050030, 0, 2⟩

-- RX_CLIPCNT (R163, chapter 04)
abbrev RX_CLIPCNT.COUNT (l : Nat) : Fld := ⟨0x050040 + 4 * (l % 18), 0, 32⟩

-- RX_STATUS (R163, chapter 04)
abbrev RX_STATUS.GSTEPS : Fld := ⟨0x050090, 16, 16⟩
abbrev RX_STATUS.REF_LOW : Fld := ⟨0x050090, 5, 1⟩
abbrev RX_STATUS.REF_CLIP : Fld := ⟨0x050090, 4, 1⟩
abbrev RX_STATUS.BRL_CLIP_B : Fld := ⟨0x050090, 3, 1⟩
abbrev RX_STATUS.DAS_CLIP_B : Fld := ⟨0x050090, 2, 1⟩
abbrev RX_STATUS.BRL_CLIP_A : Fld := ⟨0x050090, 1, 1⟩
abbrev RX_STATUS.DAS_CLIP_A : Fld := ⟨0x050090, 0, 1⟩

-- RX_REF (R163, chapter 04)
abbrev RX_REF.VIS : Fld := ⟨0x050094, 0, 16⟩

-- RX_TRIM0 (R163, chapter 04)
abbrev RX_TRIM0.GAIN (l : Nat) : Fld := ⟨0x050100 + 8 * (l % 18), 16, 16⟩
abbrev RX_TRIM0.OFFSET (l : Nat) : Fld := ⟨0x050100 + 8 * (l % 18), 0, 16⟩

-- RX_TRIM1 (R163, chapter 04)
abbrev RX_TRIM1.SKEW (l : Nat) : Fld := ⟨0x050104 + 8 * (l % 18), 16, 16⟩
abbrev RX_TRIM1.PHASE (l : Nat) : Fld := ⟨0x050104 + 8 * (l % 18), 0, 16⟩

-- PHS_CTRL (R201, chapter 05)
abbrev PHS_CTRL.LNC_B : Fld := ⟨0x060000, 9, 1⟩
abbrev PHS_CTRL.LNC_A : Fld := ⟨0x060000, 8, 1⟩
abbrev PHS_CTRL.POLMODE : Fld := ⟨0x060000, 0, 2⟩

-- PHS_TRACK (R201, chapter 05)
abbrev PHS_TRACK.PTC : Fld := ⟨0x060004, 8, 4⟩
abbrev PHS_TRACK.TC : Fld := ⟨0x060004, 0, 4⟩

-- PHS_FADE (R201, chapter 05)
abbrev PHS_FADE.MAXRUN : Fld := ⟨0x060008, 24, 8⟩
abbrev PHS_FADE.FTC : Fld := ⟨0x060008, 16, 4⟩
abbrev PHS_FADE.THR : Fld := ⟨0x060008, 0, 8⟩

-- PHS_STATUS (R201, chapter 05)
abbrev PHS_STATUS.LNC_SUSP : Fld := ⟨0x06000C, 1, 1⟩
abbrev PHS_STATUS.SLIPWARN : Fld := ⟨0x06000C, 0, 1⟩

-- PHS_SIG_CTRL (R201, chapter 05)
abbrev PHS_SIG_CTRL.EN : Fld := ⟨0x060010, 31, 1⟩
abbrev PHS_SIG_CTRL.SWEEPS : Fld := ⟨0x060010, 24, 7⟩
abbrev PHS_SIG_CTRL.THR : Fld := ⟨0x060010, 16, 5⟩
abbrev PHS_SIG_CTRL.BINS : Fld := ⟨0x060010, 0, 16⟩

-- PHS_SIG_STAT (R201, chapter 05)
abbrev PHS_SIG_STAT.CHECKS : Fld := ⟨0x060014, 16, 16⟩
abbrev PHS_SIG_STAT.LEARNED_B : Fld := ⟨0x060014, 3, 1⟩
abbrev PHS_SIG_STAT.LEARNED_A : Fld := ⟨0x060014, 2, 1⟩
abbrev PHS_SIG_STAT.VERDICT : Fld := ⟨0x060014, 0, 2⟩

-- PHS_PORTMAP (R201, chapter 05)
abbrev PHS_PORTMAP.SWAP : Fld := ⟨0x060018, 0, 1⟩

-- PHS_GAUGE (R201, chapter 05)
abbrev PHS_GAUGE.S (p : Nat) : Fld := ⟨0x060100 + 0x100 * (p % 2), 16, 7⟩
abbrev PHS_GAUGE.G (p : Nat) : Fld := ⟨0x060100 + 0x100 * (p % 2), 0, 7⟩

-- PHS_FIRST (R201, chapter 05)
abbrev PHS_FIRST.FIRST (p : Nat) : Fld := ⟨0x060104 + 0x100 * (p % 2), 0, 17⟩

-- PHS_NCH (R201, chapter 05)
abbrev PHS_NCH.N_CH (p : Nat) : Fld := ⟨0x060108 + 0x100 * (p % 2), 0, 18⟩

-- PHS_NG (R201, chapter 05)
abbrev PHS_NG.NG (p : Nat) : Fld := ⟨0x06010C + 0x100 * (p % 2), 0, 18⟩

-- PHS_XI (R201, chapter 05)
abbrev PHS_XI.XI (p : Nat) : Fld := ⟨0x060110 + 0x100 * (p % 2), 0, 14⟩

-- PHS_KPHI (R201, chapter 05)
abbrev PHS_KPHI.KPHI (p : Nat) : Fld := ⟨0x060114 + 0x100 * (p % 2), 0, 20⟩

-- PHS_STAT (R201, chapter 05)
abbrev PHS_STAT.SLIPCNT (p : Nat) : Fld := ⟨0x060118 + 0x100 * (p % 2), 16, 16⟩
abbrev PHS_STAT.REACQ (p : Nat) : Fld := ⟨0x060118 + 0x100 * (p % 2), 0, 16⟩

-- PHS_SIGSTORE (R201, chapter 05)
abbrev PHS_SIGSTORE.VALID (p : Nat) (i : Nat) : Fld := ⟨0x060140 + 0x100 * (p % 2) + 4 * (i % 9), 31, 1⟩
abbrev PHS_SIGSTORE.BIN (p : Nat) (i : Nat) : Fld := ⟨0x060140 + 0x100 * (p % 2) + 4 * (i % 9), 0, 17⟩

-- DEC_STATUS (R234, chapter 06)
abbrev DEC_STATUS.FB_COUNT : Fld := ⟨0x070000, 16, 7⟩
abbrev DEC_STATUS.DEMAND : Fld := ⟨0x070000, 0, 16⟩

-- DEC_FBMASK_LO (R234, chapter 06)
abbrev DEC_FBMASK_LO.MASK_LO : Fld := ⟨0x070008, 0, 32⟩

-- DEC_FBMASK_HI (R234, chapter 06)
abbrev DEC_FBMASK_HI.MASK_HI : Fld := ⟨0x07000C, 0, 32⟩

-- DEC_TXDLY (R234, chapter 06)
abbrev DEC_TXDLY.TXDLY (p : Nat) : Fld := ⟨0x070010 + 4 * (p % 2), 0, 16⟩

-- DEC_CFG (R234, chapter 06)
abbrev DEC_CFG.QTY (n : Nat) : Fld := ⟨0x070100 + 0x10 * (n % 64), 30, 2⟩
abbrev DEC_CFG.FMT (n : Nat) : Fld := ⟨0x070100 + 0x10 * (n % 64), 29, 1⟩
abbrev DEC_CFG.FB_CFG (n : Nat) : Fld := ⟨0x070100 + 0x10 * (n % 64), 28, 1⟩
abbrev DEC_CFG.HB2 (n : Nat) : Fld := ⟨0x070100 + 0x10 * (n % 64), 25, 1⟩
abbrev DEC_CFG.HB1 (n : Nat) : Fld := ⟨0x070100 + 0x10 * (n % 64), 24, 1⟩
abbrev DEC_CFG.FDEC (n : Nat) : Fld := ⟨0x070100 + 0x10 * (n % 64), 20, 2⟩
abbrev DEC_CFG.TAPS (n : Nat) : Fld := ⟨0x070100 + 0x10 * (n % 64), 8, 7⟩
abbrev DEC_CFG.CIC_R (n : Nat) : Fld := ⟨0x070100 + 0x10 * (n % 64), 0, 8⟩

-- DEC_GD (R234, chapter 06)
abbrev DEC_GD.GD2 (n : Nat) : Fld := ⟨0x070104 + 0x10 * (n % 64), 0, 18⟩

-- DEC_LEN (R234, chapter 06)
abbrev DEC_LEN.LTOTAL (n : Nat) : Fld := ⟨0x070108 + 0x10 * (n % 64), 0, 18⟩

-- DEC_STAT (R234, chapter 06)
abbrev DEC_STAT.FB_ACT (n : Nat) : Fld := ⟨0x07010C + 0x10 * (n % 64), 31, 1⟩
abbrev DEC_STAT.FB_AUTO (n : Nat) : Fld := ⟨0x07010C + 0x10 * (n % 64), 30, 1⟩
abbrev DEC_STAT.RESTARTS (n : Nat) : Fld := ⟨0x07010C + 0x10 * (n % 64), 0, 16⟩

-- BRL_FB (R275, chapter 07)
abbrev BRL_FB.FB : Fld := ⟨0x080000, 0, 24⟩

-- BRL_CTRL (R275, chapter 07)
abbrev BRL_CTRL.AVG : Fld := ⟨0x080004, 16, 12⟩
abbrev BRL_CTRL.NPT : Fld := ⟨0x080004, 9, 1⟩
abbrev BRL_CTRL.WIDE : Fld := ⟨0x080004, 8, 1⟩
abbrev BRL_CTRL.EN_B : Fld := ⟨0x080004, 1, 1⟩
abbrev BRL_CTRL.EN_A : Fld := ⟨0x080004, 0, 1⟩

-- BRL_FIT (R275, chapter 07)
abbrev BRL_FIT.SNR_MIN : Fld := ⟨0x080008, 8, 8⟩

-- BRL_STATUS (R275, chapter 07)
abbrev BRL_STATUS.PERIODS : Fld := ⟨0x08000C, 16, 16⟩
abbrev BRL_STATUS.USED : Fld := ⟨0x08000C, 0, 16⟩

-- BRL_ANCH (R275, chapter 07)
abbrev BRL_ANCH.EN (n : Nat) : Fld := ⟨0x080010 + 4 * (n % 4), 31, 1⟩
abbrev BRL_ANCH.SRC (n : Nat) : Fld := ⟨0x080010 + 4 * (n % 4), 16, 6⟩
abbrev BRL_ANCH.FC (n : Nat) : Fld := ⟨0x080010 + 4 * (n % 4), 0, 14⟩

-- BRL_ANCHST (R275, chapter 07)
abbrev BRL_ANCHST.SEEDED (n : Nat) : Fld := ⟨0x080020 + 4 * (n % 4), 31, 1⟩
abbrev BRL_ANCHST.HOLD (n : Nat) : Fld := ⟨0x080020 + 4 * (n % 4), 30, 1⟩
abbrev BRL_ANCHST.UPDATES (n : Nat) : Fld := ⟨0x080020 + 4 * (n % 4), 0, 16⟩

-- BRL_CFG (R275, chapter 07)
abbrev BRL_CFG.ROLE (p : Nat) : Fld := ⟨0x080100 + 0x100 * (p % 2), 30, 2⟩
abbrev BRL_CFG.BASE_MODE (p : Nat) : Fld := ⟨0x080100 + 0x100 * (p % 2), 29, 1⟩
abbrev BRL_CFG.M (p : Nat) : Fld := ⟨0x080100 + 0x100 * (p % 2), 16, 7⟩

-- BRL_FIRST (R275, chapter 07)
abbrev BRL_FIRST.BFIRST (p : Nat) : Fld := ⟨0x080104 + 0x100 * (p % 2), 0, 17⟩

-- BRL_NBB (R275, chapter 07)
abbrev BRL_NBB.N_BB (p : Nat) : Fld := ⟨0x080108 + 0x100 * (p % 2), 0, 17⟩

-- BRL_COEF (R275, chapter 07)
abbrev BRL_COEF.CE (p : Nat) : Fld := ⟨0x08010C + 0x100 * (p % 2), 16, 16⟩
abbrev BRL_COEF.CT (p : Nat) : Fld := ⟨0x08010C + 0x100 * (p % 2), 0, 16⟩

-- BRL_COIL (R275, chapter 07)
abbrev BRL_COIL.LAST (p : Nat) : Fld := ⟨0x080110 + 0x100 * (p % 2), 16, 16⟩
abbrev BRL_COIL.FIRST (p : Nat) : Fld := ⟨0x080110 + 0x100 * (p % 2), 0, 16⟩

-- BRL_COILCFG (R275, chapter 07)
abbrev BRL_COILCFG.EN (p : Nat) : Fld := ⟨0x080114 + 0x100 * (p % 2), 31, 1⟩
abbrev BRL_COILCFG.AIN (p : Nat) : Fld := ⟨0x080114 + 0x100 * (p % 2), 24, 3⟩
abbrev BRL_COILCFG.TC (p : Nat) : Fld := ⟨0x080114 + 0x100 * (p % 2), 16, 4⟩
abbrev BRL_COILCFG.STALE_N (p : Nat) : Fld := ⟨0x080114 + 0x100 * (p % 2), 8, 8⟩

-- BRL_BASE (R275, chapter 07)
abbrev BRL_BASE.START (p : Nat) : Fld := ⟨0x080118 + 0x100 * (p % 2), 31, 1⟩
abbrev BRL_BASE.ABORT (p : Nat) : Fld := ⟨0x080118 + 0x100 * (p % 2), 30, 1⟩
abbrev BRL_BASE.BUSY (p : Nat) : Fld := ⟨0x080118 + 0x100 * (p % 2), 29, 1⟩
abbrev BRL_BASE.VALID (p : Nat) : Fld := ⟨0x080118 + 0x100 * (p % 2), 28, 1⟩
abbrev BRL_BASE.TBASE (p : Nat) : Fld := ⟨0x080118 + 0x100 * (p % 2), 0, 16⟩

-- BRL_DELTA (R275, chapter 07)
abbrev BRL_DELTA.STALE (p : Nat) : Fld := ⟨0x08011C + 0x100 * (p % 2), 31, 1⟩
abbrev BRL_DELTA.DELTA (p : Nat) : Fld := ⟨0x08011C + 0x100 * (p % 2), 0, 16⟩

-- BRL_RES_STAT (R275, chapter 07)
abbrev BRL_RES_STAT.READY (p : Nat) : Fld := ⟨0x080120 + 0x100 * (p % 2), 31, 1⟩
abbrev BRL_RES_STAT.SEQ (p : Nat) : Fld := ⟨0x080120 + 0x100 * (p % 2), 16, 8⟩
abbrev BRL_RES_STAT.WORST (p : Nat) : Fld := ⟨0x080120 + 0x100 * (p % 2), 0, 4⟩

-- BRL_RES_NS (R275, chapter 07)
abbrev BRL_RES_NS.NS (p : Nat) : Fld := ⟨0x080124 + 0x100 * (p % 2), 0, 30⟩

-- BRL_RES_SEC_LO (R275, chapter 07)
abbrev BRL_RES_SEC_LO.SEC_LO (p : Nat) : Fld := ⟨0x080128 + 0x100 * (p % 2), 0, 32⟩

-- BRL_RES_SEC_HI (R275, chapter 07)
abbrev BRL_RES_SEC_HI.SEC_HI (p : Nat) : Fld := ⟨0x08012C + 0x100 * (p % 2), 0, 16⟩

-- BRL_RES_EPOCH (R275, chapter 07)
abbrev BRL_RES_EPOCH.EPOCH (p : Nat) : Fld := ⟨0x080130 + 0x100 * (p % 2), 0, 32⟩

-- BRL_RDIDX (R275, chapter 07)
abbrev BRL_RDIDX.IDX (p : Nat) : Fld := ⟨0x080140 + 0x100 * (p % 2), 0, 16⟩

-- TRG_STATUS (R313, chapter 08)
abbrev TRG_STATUS.COAL : Fld := ⟨0x090000, 31, 1⟩
abbrev TRG_STATUS.IRQ : Fld := ⟨0x090000, 30, 1⟩
abbrev TRG_STATUS.LOST : Fld := ⟨0x090000, 29, 1⟩
abbrev TRG_STATUS.OCC : Fld := ⟨0x090000, 0, 17⟩

-- TRG_COAL (R313, chapter 08)
abbrev TRG_COAL.OFF : Fld := ⟨0x090004, 8, 8⟩
abbrev TRG_COAL.ON : Fld := ⟨0x090004, 0, 8⟩

-- TRG_RECCNT (R313, chapter 08)
abbrev TRG_RECCNT.COUNT : Fld := ⟨0x090008, 0, 32⟩

-- TRG_LOSTCNT (R313, chapter 08)
abbrev TRG_LOSTCNT.COUNT : Fld := ⟨0x09000C, 0, 32⟩

-- TRG_HISTSZ (R313, chapter 08)
abbrev TRG_HISTSZ.SIZE : Fld := ⟨0x090010, 0, 16⟩

-- TRG_HISTSEL_LO (R313, chapter 08)
abbrev TRG_HISTSEL_LO.SEL_LO : Fld := ⟨0x090014, 0, 32⟩

-- TRG_HISTSEL_HI (R313, chapter 08)
abbrev TRG_HISTSEL_HI.SEL_HI : Fld := ⟨0x090018, 0, 32⟩

-- TRG_HISTDEPTH (R313, chapter 08)
abbrev TRG_HISTDEPTH.DEPTH : Fld := ⟨0x09001C, 0, 32⟩

-- REED_STATUS (R355, chapter 09)
abbrev REED_STATUS.RUNNING : Fld := ⟨0x0A0000, 16, 16⟩
abbrev REED_STATUS.FAULTED : Fld := ⟨0x0A0000, 0, 16⟩

-- REED_UNIT (R355, chapter 09)
abbrev REED_UNIT.BUSY (u : Nat) : Fld := ⟨0x0A0040 + 4 * (u % 16), 31, 1⟩
abbrev REED_UNIT.SLOT (u : Nat) : Fld := ⟨0x0A0040 + 4 * (u % 16), 16, 4⟩
abbrev REED_UNIT.LOAD (u : Nat) : Fld := ⟨0x0A0040 + 4 * (u % 16), 0, 16⟩

-- CMP_CFG (R410, chapter 11)
abbrev CMP_CFG.LOSSY (n : Nat) : Fld := ⟨0x0B0000 + 4 * (n % 64), 9, 1⟩
abbrev CMP_CFG.M (n : Nat) : Fld := ⟨0x0B0000 + 4 * (n % 64), 4, 5⟩
abbrev CMP_CFG.LEVEL (n : Nat) : Fld := ⟨0x0B0000 + 4 * (n % 64), 0, 4⟩

-- STR_RETSZ (R410, chapter 11)
abbrev STR_RETSZ.SIZE : Fld := ⟨0x0C0000, 0, 16⟩

-- STR_PORT (R410, chapter 11)
abbrev STR_PORT.SCHED (p : Nat) : Fld := ⟨0x0C0004 + 4 * (p % 2), 31, 1⟩
abbrev STR_PORT.AGE (p : Nat) : Fld := ⟨0x0C0004 + 4 * (p % 2), 16, 10⟩
abbrev STR_PORT.MTU (p : Nat) : Fld := ⟨0x0C0004 + 4 * (p % 2), 0, 14⟩

-- QCP_CFG (R450, chapter 12)
abbrev QCP_CFG.UDP_PORT : Fld := ⟨0x190000, 16, 16⟩
abbrev QCP_CFG.UDP_EN1 : Fld := ⟨0x190000, 1, 1⟩
abbrev QCP_CFG.UDP_EN0 : Fld := ⟨0x190000, 0, 1⟩

-- QCP_STATUS (R450, chapter 12)
abbrev QCP_STATUS.OPEN : Fld := ⟨0x190004, 16, 8⟩
abbrev QCP_STATUS.LONG : Fld := ⟨0x190004, 8, 8⟩
abbrev QCP_STATUS.QUEUED : Fld := ⟨0x190004, 0, 8⟩

-- QCP_ERRCNT (R450, chapter 12)
abbrev QCP_ERRCNT.COUNT (i : Nat) : Fld := ⟨0x190010 + 4 * (i % 12), 0, 32⟩

-- QCP_MB_CTRL (R450, chapter 12)
abbrev QCP_MB_CTRL.GO (m : Nat) : Fld := ⟨0x190100 + 0x20 * (m % 2), 31, 1⟩
abbrev QCP_MB_CTRL.BUSY (m : Nat) : Fld := ⟨0x190100 + 0x20 * (m % 2), 30, 1⟩
abbrev QCP_MB_CTRL.DONE (m : Nat) : Fld := ⟨0x190100 + 0x20 * (m % 2), 29, 1⟩
abbrev QCP_MB_CTRL.EVT (m : Nat) : Fld := ⟨0x190100 + 0x20 * (m % 2), 28, 1⟩
abbrev QCP_MB_CTRL.IRQ_EN (m : Nat) : Fld := ⟨0x190100 + 0x20 * (m % 2), 27, 1⟩
abbrev QCP_MB_CTRL.LEN (m : Nat) : Fld := ⟨0x190100 + 0x20 * (m % 2), 0, 14⟩

-- QCP_MB_RLEN (R450, chapter 12)
abbrev QCP_MB_RLEN.ELEN (m : Nat) : Fld := ⟨0x190104 + 0x20 * (m % 2), 16, 14⟩
abbrev QCP_MB_RLEN.RLEN (m : Nat) : Fld := ⟨0x190104 + 0x20 * (m % 2), 0, 14⟩

-- QCP_MB_LOST (R450, chapter 12)
abbrev QCP_MB_LOST.GO_IGN (m : Nat) : Fld := ⟨0x190108 + 0x20 * (m % 2), 16, 16⟩

-- SYS_EPOCH (R497, chapter 13)
abbrev SYS_EPOCH.EPOCH : Fld := ⟨0x000010, 0, 32⟩

-- SYS_IGN (R497, chapter 13)
abbrev SYS_IGN.CAUSE : Fld := ⟨0x000030, 29, 3⟩
abbrev SYS_IGN.DIRECT : Fld := ⟨0x000030, 27, 1⟩
abbrev SYS_IGN.SESSION : Fld := ⟨0x000030, 24, 3⟩
abbrev SYS_IGN.ADDR : Fld := ⟨0x000030, 0, 24⟩

-- SYS_IGN_CNT (R497, chapter 13)
abbrev SYS_IGN_CNT.COUNT : Fld := ⟨0x000034, 0, 32⟩

-- SYS_STORE (R497, chapter 13)
abbrev SYS_STORE.BOOTS : Fld := ⟨0x000040, 16, 16⟩
abbrev SYS_STORE.LOADED : Fld := ⟨0x000040, 6, 2⟩
abbrev SYS_STORE.NEWEST : Fld := ⟨0x000040, 4, 2⟩
abbrev SYS_STORE.SLOT_B : Fld := ⟨0x000040, 2, 2⟩
abbrev SYS_STORE.SLOT_A : Fld := ⟨0x000040, 0, 2⟩

-- SYS_SESS (R497, chapter 13)
abbrev SYS_SESS.OVERDRAWN : Fld := ⟨0x000050, 24, 8⟩
abbrev SYS_SESS.PLAIN : Fld := ⟨0x000050, 16, 8⟩
abbrev SYS_SESS.IDLE : Fld := ⟨0x000050, 8, 8⟩
abbrev SYS_SESS.OWNER : Fld := ⟨0x000050, 0, 3⟩

-- PTP_TIME_NS (R524, chapter 14)
abbrev PTP_TIME_NS.NS : Fld := ⟨0x0E0000, 0, 30⟩

-- PTP_TIME_SEC_LO (R524, chapter 14)
abbrev PTP_TIME_SEC_LO.SEC_LO : Fld := ⟨0x0E0004, 0, 32⟩

-- PTP_TIME_SEC_HI (R524, chapter 14)
abbrev PTP_TIME_SEC_HI.FRAC : Fld := ⟨0x0E0008, 16, 16⟩
abbrev PTP_TIME_SEC_HI.SEC_HI : Fld := ⟨0x0E0008, 0, 16⟩

-- PTP_CFG (R524, chapter 14)
abbrev PTP_CFG.SRC : Fld := ⟨0x0E0010, 30, 2⟩
abbrev PTP_CFG.MASTER : Fld := ⟨0x0E0010, 29, 1⟩
abbrev PTP_CFG.PROFILE : Fld := ⟨0x0E0010, 28, 1⟩
abbrev PTP_CFG.TRANSPORT : Fld := ⟨0x0E0010, 26, 2⟩
abbrev PTP_CFG.ONESTEP1 : Fld := ⟨0x0E0010, 25, 1⟩
abbrev PTP_CFG.ONESTEP0 : Fld := ⟨0x0E0010, 24, 1⟩
abbrev PTP_CFG.PORT : Fld := ⟨0x0E0010, 23, 1⟩
abbrev PTP_CFG.MCAST : Fld := ⟨0x0E0010, 22, 1⟩
abbrev PTP_CFG.DOMAIN : Fld := ⟨0x0E0010, 8, 8⟩
abbrev PTP_CFG.LOG_SYNC : Fld := ⟨0x0E0010, 4, 4⟩

-- PTP_FADJ (R524, chapter 14)
abbrev PTP_FADJ.FADJ : Fld := ⟨0x0E0014, 0, 32⟩

-- PTP_STATUS (R524, chapter 14)
abbrev PTP_STATUS.PSTATE : Fld := ⟨0x0E0018, 28, 4⟩
abbrev PTP_STATUS.LOCKED : Fld := ⟨0x0E0018, 27, 1⟩
abbrev PTP_STATUS.HOLDOVER : Fld := ⟨0x0E0018, 26, 1⟩
abbrev PTP_STATUS.SLEWING : Fld := ⟨0x0E0018, 25, 1⟩
abbrev PTP_STATUS.STEPPED : Fld := ⟨0x0E0018, 24, 1⟩
abbrev PTP_STATUS.STEPS : Fld := ⟨0x0E0018, 0, 16⟩

-- PTP_OFFSET (R524, chapter 14)
abbrev PTP_OFFSET.OFFSET : Fld := ⟨0x0E001C, 0, 32⟩

-- PTP_SERVO (R524, chapter 14)
abbrev PTP_SERVO.STEP_THR : Fld := ⟨0x0E0020, 16, 16⟩
abbrev PTP_SERVO.LOCK_THR : Fld := ⟨0x0E0020, 0, 16⟩

-- OCX_CTRL (R548, chapter 15)
abbrev OCX_CTRL.PPS_EN : Fld := ⟨0x020000, 7, 1⟩
abbrev OCX_CTRL.REFOUT_EN : Fld := ⟨0x020000, 6, 1⟩
abbrev OCX_CTRL.SRC : Fld := ⟨0x020000, 0, 2⟩

-- OCX_STATUS (R548, chapter 15)
abbrev OCX_STATUS.CLOSE_EDGES : Fld := ⟨0x020004, 16, 16⟩
abbrev OCX_STATUS.FAIL : Fld := ⟨0x020004, 6, 1⟩
abbrev OCX_STATUS.SYN_UNLK : Fld := ⟨0x020004, 5, 1⟩
abbrev OCX_STATUS.REF_LOS : Fld := ⟨0x020004, 4, 1⟩
abbrev OCX_STATUS.HOLD : Fld := ⟨0x020004, 3, 1⟩
abbrev OCX_STATUS.DISC : Fld := ⟨0x020004, 2, 1⟩
abbrev OCX_STATUS.SYN_LOCK : Fld := ⟨0x020004, 1, 1⟩
abbrev OCX_STATUS.WARM : Fld := ⟨0x020004, 0, 1⟩

-- OCX_EFC (R548, chapter 15)
abbrev OCX_EFC.EFC : Fld := ⟨0x020008, 0, 32⟩

-- OCX_PPSOUT (R548, chapter 15)
abbrev OCX_PPSOUT.WIDTH : Fld := ⟨0x02000C, 16, 16⟩
abbrev OCX_PPSOUT.DELAY : Fld := ⟨0x02000C, 0, 16⟩

-- TIC_CFG (R548, chapter 15)
abbrev TIC_CFG.MODE : Fld := ⟨0x0F0000, 30, 2⟩
abbrev TIC_CFG.START : Fld := ⟨0x0F0000, 27, 3⟩
abbrev TIC_CFG.STOP : Fld := ⟨0x0F0000, 24, 3⟩
abbrev TIC_CFG.POL_START : Fld := ⟨0x0F0000, 23, 1⟩
abbrev TIC_CFG.POL_STOP : Fld := ⟨0x0F0000, 22, 1⟩
abbrev TIC_CFG.PRESC : Fld := ⟨0x0F0000, 20, 2⟩
abbrev TIC_CFG.TIMEOUT : Fld := ⟨0x0F0000, 0, 16⟩

-- TIC_K (R548, chapter 15)
abbrev TIC_K.K : Fld := ⟨0x0F0004, 0, 24⟩

-- TIC_N (R548, chapter 15)
abbrev TIC_N.N : Fld := ⟨0x0F0008, 0, 25⟩

-- TIC_CTRL (R548, chapter 15)
abbrev TIC_CTRL.START : Fld := ⟨0x0F000C, 31, 1⟩
abbrev TIC_CTRL.ABORT : Fld := ⟨0x0F000C, 30, 1⟩
abbrev TIC_CTRL.RUN : Fld := ⟨0x0F000C, 29, 1⟩
abbrev TIC_CTRL.COUNT : Fld := ⟨0x0F000C, 0, 25⟩

-- RDG_CFG (R577, chapter 16)
abbrev RDG_CFG.EN : Fld := ⟨0x100000, 31, 1⟩
abbrev RDG_CFG.TMASTER : Fld := ⟨0x100000, 30, 1⟩
abbrev RDG_CFG.ALIGN : Fld := ⟨0x100000, 29, 1⟩
abbrev RDG_CFG.NODE_ID : Fld := ⟨0x100000, 0, 12⟩

-- RDG_HORIZON (R577, chapter 16)
abbrev RDG_HORIZON.H : Fld := ⟨0x100004, 0, 20⟩

-- RDG_STATUS (R577, chapter 16)
abbrev RDG_STATUS.LOCKED : Fld := ⟨0x100008, 31, 1⟩
abbrev RDG_STATUS.WRAPPED : Fld := ⟨0x100008, 30, 1⟩
abbrev RDG_STATUS.DUPID : Fld := ⟨0x100008, 29, 1⟩
abbrev RDG_STATUS.HSHORT : Fld := ⟨0x100008, 28, 1⟩
abbrev RDG_STATUS.INS : Fld := ⟨0x100008, 27, 1⟩
abbrev RDG_STATUS.E_UP : Fld := ⟨0x100008, 26, 1⟩
abbrev RDG_STATUS.W_UP : Fld := ⟨0x100008, 25, 1⟩
abbrev RDG_STATUS.FLANE : Fld := ⟨0x100008, 24, 1⟩
abbrev RDG_STATUS.NODES : Fld := ⟨0x100008, 0, 13⟩

-- RDG_HOP (R577, chapter 16)
abbrev RDG_HOP.HOP (p : Nat) : Fld := ⟨0x100010 + 4 * (p % 2), 0, 32⟩

-- RDG_ASYM (R577, chapter 16)
abbrev RDG_ASYM.ASYM (p : Nat) : Fld := ⟨0x100018 + 4 * (p % 2), 0, 32⟩

-- RDG_LATMAX (R577, chapter 16)
abbrev RDG_LATMAX.LATMAX : Fld := ⟨0x100020, 0, 32⟩

-- RDG_FLASH (R577, chapter 16)
abbrev RDG_FLASH.OFL_CLOSE : Fld := ⟨0x100030, 31, 1⟩
abbrev RDG_FLASH.OFL_STATE : Fld := ⟨0x100030, 29, 2⟩
abbrev RDG_FLASH.BYP_EN : Fld := ⟨0x100030, 28, 1⟩
abbrev RDG_FLASH.FLASH_HOLD : Fld := ⟨0x100030, 0, 16⟩

-- RDG_CNT (R577, chapter 16)
abbrev RDG_CNT.CRCERR (p : Nat) : Fld := ⟨0x100040 + 4 * (p % 2), 16, 16⟩
abbrev RDG_CNT.DOWNS (p : Nat) : Fld := ⟨0x100040 + 4 * (p % 2), 0, 16⟩

-- RDG_SYNC (R577, chapter 16)
abbrev RDG_SYNC.SEND : Fld := ⟨0x100050, 31, 1⟩
abbrev RDG_SYNC.GROUP : Fld := ⟨0x100050, 0, 8⟩

-- PAIR_CFG (R617, chapter 17)
abbrev PAIR_CFG.EN : Fld := ⟨0x110000, 31, 1⟩
abbrev PAIR_CFG.PREF : Fld := ⟨0x110000, 30, 1⟩
abbrev PAIR_CFG.PAIR_ID : Fld := ⟨0x110000, 0, 12⟩

-- PAIR_TIMING (R617, chapter 17)
abbrev PAIR_TIMING.REVERT_HOLD : Fld := ⟨0x110004, 16, 16⟩
abbrev PAIR_TIMING.CYCLE : Fld := ⟨0x110004, 0, 16⟩

-- PAIR_STATUS (R617, chapter 17)
abbrev PAIR_STATUS.ROLE : Fld := ⟨0x110008, 30, 2⟩
abbrev PAIR_STATUS.LINK_UP : Fld := ⟨0x110008, 29, 1⟩
abbrev PAIR_STATUS.REF_SEEN : Fld := ⟨0x110008, 28, 1⟩
abbrev PAIR_STATUS.REF_LOST : Fld := ⟨0x110008, 27, 1⟩
abbrev PAIR_STATUS.CFG_MISMATCH : Fld := ⟨0x110008, 26, 1⟩
abbrev PAIR_STATUS.SWITCHING : Fld := ⟨0x110008, 25, 1⟩
abbrev PAIR_STATUS.TAKES : Fld := ⟨0x110008, 0, 16⟩

-- PAIR_PARTNER (R617, chapter 17)
abbrev PAIR_PARTNER.CH : Fld := ⟨0x11000C, 24, 8⟩
abbrev PAIR_PARTNER.NODE : Fld := ⟨0x11000C, 0, 12⟩

-- PAIR_ECHO (R617, chapter 17)
abbrev PAIR_ECHO.HSEQ : Fld := ⟨0x110010, 0, 32⟩

-- PAIR_SNAP (R617, chapter 17)
abbrev PAIR_SNAP.AGE : Fld := ⟨0x110014, 24, 8⟩
abbrev PAIR_SNAP.SIZE : Fld := ⟨0x110014, 0, 23⟩

-- PAIR_HEALTH (R617, chapter 17)
abbrev PAIR_HEALTH.HEALTH : Fld := ⟨0x110018, 0, 12⟩

-- PAIR_CNT (R617, chapter 17)
abbrev PAIR_CNT.FENCES : Fld := ⟨0x11001C, 16, 16⟩
abbrev PAIR_CNT.TAKE_REJ : Fld := ⟨0x11001C, 0, 16⟩

-- PAIR_RCFG (R617, chapter 17)
abbrev PAIR_RCFG.EN : Fld := ⟨0x110040, 31, 1⟩
abbrev PAIR_RCFG.NODE_A : Fld := ⟨0x110040, 12, 12⟩
abbrev PAIR_RCFG.NODE_B : Fld := ⟨0x110040, 0, 12⟩

-- PAIR_RID (R617, chapter 17)
abbrev PAIR_RID.PAIR_ID : Fld := ⟨0x110044, 0, 12⟩

-- PAIR_RSTAT (R617, chapter 17)
abbrev PAIR_RSTAT.STATE : Fld := ⟨0x110048, 29, 3⟩
abbrev PAIR_RSTAT.ACTIVE_B : Fld := ⟨0x110048, 28, 1⟩
abbrev PAIR_RSTAT.CMDS : Fld := ⟨0x110048, 0, 16⟩

-- FLD_CTRL (R664, chapter 18)
abbrev FLD_CTRL.SWSTART : Fld := ⟨0x120000, 31, 1⟩
abbrev FLD_CTRL.INJSTART : Fld := ⟨0x120000, 30, 1⟩
abbrev FLD_CTRL.RSTART : Fld := ⟨0x120000, 28, 2⟩
abbrev FLD_CTRL.ITRIG_EN : Fld := ⟨0x120000, 27, 1⟩
abbrev FLD_CTRL.RTRIG : Fld := ⟨0x120000, 24, 3⟩
abbrev FLD_CTRL.ITRIG : Fld := ⟨0x120000, 20, 3⟩
abbrev FLD_CTRL.N_INJ : Fld := ⟨0x120000, 16, 3⟩
abbrev FLD_CTRL.N_REG : Fld := ⟨0x120000, 8, 5⟩
abbrev FLD_CTRL.BUSY_INJ : Fld := ⟨0x120000, 1, 1⟩
abbrev FLD_CTRL.BUSY_REG : Fld := ⟨0x120000, 0, 1⟩

-- FLD_TIMER (R664, chapter 18)
abbrev FLD_TIMER.PERIOD : Fld := ⟨0x120004, 0, 20⟩

-- FLD_EXC (R664, chapter 18)
abbrev FLD_EXC.EXC_SETTLE : Fld := ⟨0x120008, 16, 16⟩
abbrev FLD_EXC.EXC1 : Fld := ⟨0x120008, 2, 2⟩
abbrev FLD_EXC.EXC0 : Fld := ⟨0x120008, 0, 2⟩

-- FLD_STATUS (R664, chapter 18)
abbrev FLD_STATUS.UP : Fld := ⟨0x12000C, 31, 1⟩
abbrev FLD_STATUS.HOSTLOSS : Fld := ⟨0x12000C, 30, 1⟩
abbrev FLD_STATUS.FOUT_OVC : Fld := ⟨0x12000C, 28, 2⟩
abbrev FLD_STATUS.EXC_SHORT : Fld := ⟨0x12000C, 26, 2⟩
abbrev FLD_STATUS.REF_OK : Fld := ⟨0x12000C, 22, 4⟩
abbrev FLD_STATUS.OPEN : Fld := ⟨0x12000C, 8, 8⟩
abbrev FLD_STATUS.VIN : Fld := ⟨0x12000C, 0, 8⟩

-- FLD_FIN (R664, chapter 18)
abbrev FLD_FIN.DB : Fld := ⟨0x120010, 24, 8⟩
abbrev FLD_FIN.STATE : Fld := ⟨0x120010, 0, 4⟩

-- FLD_FOUT (R664, chapter 18)
abbrev FLD_FOUT.ACT : Fld := ⟨0x120014, 16, 2⟩
abbrev FLD_FOUT.SET : Fld := ⟨0x120014, 0, 2⟩

-- FLD_HB (R664, chapter 18)
abbrev FLD_HB.KICK : Fld := ⟨0x120018, 31, 1⟩
abbrev FLD_HB.LOSS_T : Fld := ⟨0x120018, 0, 14⟩

-- FLD_OVR (R664, chapter 18)
abbrev FLD_OVR.ROVR : Fld := ⟨0x12001C, 16, 16⟩
abbrev FLD_OVR.IOVR : Fld := ⟨0x12001C, 0, 16⟩

-- MON_OVR (R664, chapter 18)
abbrev MON_OVR.ROVR : Fld := ⟨0x130008, 16, 16⟩
abbrev MON_OVR.IOVR : Fld := ⟨0x130008, 0, 16⟩

-- FLD_LINK (R664, chapter 18)
abbrev FLD_LINK.CRCERR : Fld := ⟨0x120020, 16, 16⟩
abbrev FLD_LINK.BADMSG : Fld := ⟨0x120020, 0, 16⟩

-- FLD_LINKI (R664, chapter 18)
abbrev FLD_LINKI.CRCERR : Fld := ⟨0x120024, 16, 16⟩
abbrev FLD_LINKI.BADMSG : Fld := ⟨0x120024, 0, 16⟩

-- MON_CTRL (R666, chapter 18)
abbrev MON_CTRL.SWSTART : Fld := ⟨0x130000, 31, 1⟩
abbrev MON_CTRL.INJSTART : Fld := ⟨0x130000, 30, 1⟩
abbrev MON_CTRL.RSTART : Fld := ⟨0x130000, 28, 2⟩
abbrev MON_CTRL.ITRIG_EN : Fld := ⟨0x130000, 27, 1⟩
abbrev MON_CTRL.RTRIG : Fld := ⟨0x130000, 24, 3⟩
abbrev MON_CTRL.REF : Fld := ⟨0x130000, 22, 2⟩
abbrev MON_CTRL.ITRIG : Fld := ⟨0x130000, 19, 3⟩
abbrev MON_CTRL.N_INJ : Fld := ⟨0x130000, 16, 3⟩
abbrev MON_CTRL.N_REG : Fld := ⟨0x130000, 8, 5⟩
abbrev MON_CTRL.REF_OK : Fld := ⟨0x130000, 2, 1⟩
abbrev MON_CTRL.BUSY_INJ : Fld := ⟨0x130000, 1, 1⟩
abbrev MON_CTRL.BUSY_REG : Fld := ⟨0x130000, 0, 1⟩

-- MON_TIMER (R666, chapter 18)
abbrev MON_TIMER.PERIOD : Fld := ⟨0x130004, 0, 20⟩

-- CAL_STATUS (R694, chapter 19)
abbrev CAL_STATUS.USER : Fld := ⟨0x140000, 31, 1⟩
abbrev CAL_STATUS.USERBAD : Fld := ⟨0x140000, 30, 1⟩
abbrev CAL_STATUS.FAIL : Fld := ⟨0x140000, 16, 13⟩
abbrev CAL_STATUS.RUNNING : Fld := ⟨0x140000, 0, 13⟩

-- CAL_DUE (R694, chapter 19)
abbrev CAL_DUE.DEFER : Fld := ⟨0x140004, 16, 13⟩
abbrev CAL_DUE.DUE : Fld := ⟨0x140004, 0, 13⟩

-- CAL_STUCK (R694, chapter 19)
abbrev CAL_STUCK.STUCK : Fld := ⟨0x140008, 0, 13⟩

-- CAL_CFG (R694, chapter 19)
abbrev CAL_CFG.DELTA_T : Fld := ⟨0x140010, 16, 8⟩
abbrev CAL_CFG.MAXINT : Fld := ⟨0x140010, 0, 16⟩

-- CAL_RETRY (R694, chapter 19)
abbrev CAL_RETRY.RETRY_N : Fld := ⟨0x140014, 24, 8⟩
abbrev CAL_RETRY.RETRY_T : Fld := ⟨0x140014, 0, 16⟩

-- CAL_AUTO (R694, chapter 19)
abbrev CAL_AUTO.EN : Fld := ⟨0x140018, 0, 13⟩

-- DMC_CFG (R719, chapter 20)
abbrev DMC_CFG.AUTO : Fld := ⟨0x150000, 0, 1⟩

-- DMC_STATUS (R719, chapter 20)
abbrev DMC_STATUS.F3 : Fld := ⟨0x150004, 21, 3⟩
abbrev DMC_STATUS.F2 : Fld := ⟨0x150004, 18, 3⟩
abbrev DMC_STATUS.F1 : Fld := ⟨0x150004, 15, 3⟩
abbrev DMC_STATUS.F0 : Fld := ⟨0x150004, 12, 3⟩
abbrev DMC_STATUS.TFAIL : Fld := ⟨0x150004, 8, 4⟩
abbrev DMC_STATUS.DENS : Fld := ⟨0x150004, 6, 2⟩
abbrev DMC_STATUS.MISMATCH : Fld := ⟨0x150004, 5, 1⟩
abbrev DMC_STATUS.SWITCHING : Fld := ⟨0x150004, 1, 1⟩
abbrev DMC_STATUS.FSP : Fld := ⟨0x150004, 0, 1⟩

-- DMC_POOL (R719, chapter 20)
abbrev DMC_POOL.POOL : Fld := ⟨0x150008, 0, 16⟩

-- DMC_RD (R719, chapter 20)
abbrev DMC_RD.P : Fld := ⟨0x15000C, 16, 5⟩
abbrev DMC_RD.THR : Fld := ⟨0x15000C, 0, 13⟩

-- DMC_TRAIN (R719, chapter 20)
abbrev DMC_TRAIN.STEPS : Fld := ⟨0x150010, 16, 16⟩
abbrev DMC_TRAIN.PERIOD : Fld := ⟨0x150010, 0, 10⟩

-- DMC_REF (R719, chapter 20)
abbrev DMC_REF.FORCED (n : Nat) : Fld := ⟨0x150020 + 4 * (n % 4), 16, 16⟩
abbrev DMC_REF.MAXDEBT (n : Nat) : Fld := ⟨0x150020 + 4 * (n % 4), 0, 8⟩

-- DMC_NR (R719, chapter 20)
abbrev DMC_NR.COUNT (n : Nat) : Fld := ⟨0x150030 + 4 * (n % 4), 0, 32⟩

-- DMC_RAW (R719, chapter 20)
abbrev DMC_RAW.COUNT (n : Nat) : Fld := ⟨0x150040 + 4 * (n % 4), 0, 32⟩

-- RST_CAUSE (R750, chapter 21)
abbrev RST_CAUSE.BLK : Fld := ⟨0x010000, 11, 1⟩
abbrev RST_CAUSE.FLD_WDOG : Fld := ⟨0x010000, 10, 1⟩
abbrev RST_CAUSE.FLD_SW : Fld := ⟨0x010000, 9, 1⟩
abbrev RST_CAUSE.FLD_VIN : Fld := ⟨0x010000, 8, 1⟩
abbrev RST_CAUSE.SW_WARM : Fld := ⟨0x010000, 7, 1⟩
abbrev RST_CAUSE.PIN_WARM : Fld := ⟨0x010000, 6, 1⟩
abbrev RST_CAUSE.WDOG : Fld := ⟨0x010000, 5, 1⟩
abbrev RST_CAUSE.SW_COLD : Fld := ⟨0x010000, 4, 1⟩
abbrev RST_CAUSE.THERM : Fld := ⟨0x010000, 3, 1⟩
abbrev RST_CAUSE.SUPPLY : Fld := ⟨0x010000, 2, 1⟩
abbrev RST_CAUSE.PIN_POR : Fld := ⟨0x010000, 1, 1⟩
abbrev RST_CAUSE.POWER : Fld := ⟨0x010000, 0, 1⟩

-- RST_CTRL (R750, chapter 21)
abbrev RST_CTRL.COLD : Fld := ⟨0x010004, 31, 1⟩
abbrev RST_CTRL.WARM : Fld := ⟨0x010004, 30, 1⟩
abbrev RST_CTRL.FIELD : Fld := ⟨0x010004, 29, 1⟩
abbrev RST_CTRL.BLOCK : Fld := ⟨0x010004, 28, 1⟩
abbrev RST_CTRL.BLK : Fld := ⟨0x010004, 16, 8⟩

-- RST_LAST (R750, chapter 21)
abbrev RST_LAST.REACH : Fld := ⟨0x010008, 29, 3⟩
abbrev RST_LAST.DURATION : Fld := ⟨0x010008, 0, 29⟩

-- SYS_CTRL (R750, chapter 21)
abbrev SYS_CTRL.RUN : Fld := ⟨0x000060, 31, 1⟩
abbrev SYS_CTRL.QUICK : Fld := ⟨0x000060, 1, 1⟩
abbrev SYS_CTRL.OFFREADY : Fld := ⟨0x000060, 0, 1⟩

-- BIST_STATUS (R770, chapter 22)
abbrev BIST_STATUS.READY : Fld := ⟨0x160000, 31, 1⟩
abbrev BIST_STATUS.RUNNING : Fld := ⟨0x160000, 30, 1⟩
abbrev BIST_STATUS.KIND : Fld := ⟨0x160000, 28, 2⟩
abbrev BIST_STATUS.VERDICT : Fld := ⟨0x160000, 26, 2⟩
abbrev BIST_STATUS.ITEM : Fld := ⟨0x160000, 16, 3⟩
abbrev BIST_STATUS.SEQ : Fld := ⟨0x160000, 0, 8⟩

-- BIST_MASK (R770, chapter 22)
abbrev BIST_MASK.MASK : Fld := ⟨0x160004, 0, 6⟩

-- KEY_STATUS (R770, chapter 22)
abbrev KEY_STATUS.SCANS : Fld := ⟨0x170000, 24, 8⟩
abbrev KEY_STATUS.BADRESP : Fld := ⟨0x170000, 16, 8⟩
abbrev KEY_STATUS.SCAN : Fld := ⟨0x170000, 15, 1⟩
abbrev KEY_STATUS.CLRFAIL : Fld := ⟨0x170000, 14, 1⟩
abbrev KEY_STATUS.ID_OK : Fld := ⟨0x170000, 13, 1⟩
abbrev KEY_STATUS.KCFG : Fld := ⟨0x170000, 8, 1⟩
abbrev KEY_STATUS.K : Fld := ⟨0x170000, 0, 8⟩

-- KEY_JTAG (R770, chapter 22)
abbrev KEY_JTAG.PERMIT : Fld := ⟨0x170004, 31, 1⟩
abbrev KEY_JTAG.LEFT : Fld := ⟨0x170004, 0, 16⟩

-- KEY_OPENSEQ (R770, chapter 22)
abbrev KEY_OPENSEQ.OPENSEQ (r : Nat) : Fld := ⟨0x170010 + 4 * (r % 8), 0, 32⟩

-- PTB_CTRL (R783, chapter 23)
abbrev PTB_CTRL.CLEAR : Fld := ⟨0x180000, 31, 1⟩
abbrev PTB_CTRL.LIFE : Fld := ⟨0x180000, 0, 12⟩

-- PTB_STATUS (R783, chapter 23)
abbrev PTB_STATUS.ACTIVE : Fld := ⟨0x180004, 31, 1⟩
abbrev PTB_STATUS.EXPIRED : Fld := ⟨0x180004, 30, 1⟩
abbrev PTB_STATUS.LEFT : Fld := ⟨0x180004, 16, 12⟩
abbrev PTB_STATUS.KINDS : Fld := ⟨0x180004, 0, 6⟩

-- PTB_CDC (R783, chapter 23)
abbrev PTB_CDC.EXTRA : Fld := ⟨0x180010, 24, 8⟩
abbrev PTB_CDC.RANDOM : Fld := ⟨0x180010, 23, 1⟩
abbrev PTB_CDC.SEL : Fld := ⟨0x180010, 0, 10⟩

-- PTB_BP (R783, chapter 23)
abbrev PTB_BP.TARGET : Fld := ⟨0x180014, 28, 4⟩
abbrev PTB_BP.DUTY : Fld := ⟨0x180014, 16, 8⟩
abbrev PTB_BP.HOLD : Fld := ⟨0x180014, 0, 16⟩

-- PTB_RDROP (R783, chapter 23)
abbrev PTB_RDROP.LANE_E : Fld := ⟨0x180018, 31, 1⟩
abbrev PTB_RDROP.LANE_W : Fld := ⟨0x180018, 30, 1⟩
abbrev PTB_RDROP.ORIG_ONLY : Fld := ⟨0x180018, 29, 1⟩
abbrev PTB_RDROP.TYPES : Fld := ⟨0x180018, 16, 9⟩
abbrev PTB_RDROP.N : Fld := ⟨0x180018, 0, 16⟩

-- PTB_CRC (R783, chapter 23)
abbrev PTB_CRC.TARGET : Fld := ⟨0x18001C, 27, 5⟩
abbrev PTB_CRC.N : Fld := ⟨0x18001C, 0, 16⟩

-- PTB_DSTALL (R783, chapter 23)
abbrev PTB_DSTALL.CH : Fld := ⟨0x180020, 28, 4⟩
abbrev PTB_DSTALL.STALL : Fld := ⟨0x180020, 18, 10⟩
abbrev PTB_DSTALL.PERIOD : Fld := ⟨0x180020, 0, 10⟩

-- PTB_TSKEW (R783, chapter 23)
abbrev PTB_TSKEW.RX (p : Nat) : Fld := ⟨0x180024 + 4 * (p % 2), 16, 16⟩
abbrev PTB_TSKEW.TX (p : Nat) : Fld := ⟨0x180024 + 4 * (p % 2), 0, 16⟩

-- PTB_CNT (R783, chapter 23)
abbrev PTB_CNT.COUNT (k : Nat) : Fld := ⟨0x180040 + 4 * (k % 6), 0, 32⟩

-- SYS_VER (R787, chapter 24)
abbrev SYS_VER.MAJOR : Fld := ⟨0x000000, 24, 8⟩
abbrev SYS_VER.MINOR : Fld := ⟨0x000000, 16, 8⟩
abbrev SYS_VER.BUILD : Fld := ⟨0x000000, 0, 16⟩

-- SYS_ID_LO (R787, chapter 24)
abbrev SYS_ID_LO.SERIAL_LO : Fld := ⟨0x000008, 0, 32⟩

-- SYS_ID_HI (R787, chapter 24)
abbrev SYS_ID_HI.STEPPING : Fld := ⟨0x00000C, 24, 8⟩
abbrev SYS_ID_HI.SERIAL_HI : Fld := ⟨0x00000C, 0, 16⟩

-- PHS_SIGMEAS (R201, chapter 05)
abbrev PHS_SIGMEAS.VALID (p : Nat) (i : Nat) : Fld := ⟨0x060180 + 0x100 * (p % 2) + 4 * (i % 9), 31, 1⟩
abbrev PHS_SIGMEAS.BIN (p : Nat) (i : Nat) : Fld := ⟨0x060180 + 0x100 * (p % 2) + 4 * (i % 9), 0, 17⟩

-- PHS_CHAIN_W0 (R202, chapter 05)
abbrev PHS_CHAIN_W0.VALID (p : Nat) (i : Nat) : Fld := ⟨0x061000 + 0x400 * (p % 2) + 0x10 * (i % 64), 31, 1⟩
abbrev PHS_CHAIN_W0.START (p : Nat) (i : Nat) : Fld := ⟨0x061000 + 0x400 * (p % 2) + 0x10 * (i % 64), 0, 17⟩

-- PHS_CHAIN_W1 (R202, chapter 05)
abbrev PHS_CHAIN_W1.CH0 (p : Nat) (i : Nat) : Fld := ⟨0x061004 + 0x400 * (p % 2) + 0x10 * (i % 64), 0, 32⟩

-- PHS_CHAIN_W2 (R202, chapter 05)
abbrev PHS_CHAIN_W2.SCALE (p : Nat) (i : Nat) : Fld := ⟨0x061008 + 0x400 * (p % 2) + 0x10 * (i % 64), 0, 32⟩

-- DEC_COEF (R235, chapter 06)
abbrev DEC_COEF.H (n : Nat) (i : Nat) : Fld := ⟨0x078000 + 0x100 * (n % 64) + 4 * (i % 64), 0, 20⟩

-- BRL_RD_W0 (R275, chapter 07)
abbrev BRL_RD_W0.BFS (p : Nat) : Fld := ⟨0x080144 + 0x100 * (p % 2), 0, 32⟩

-- BRL_RD_W1 (R275, chapter 07)
abbrev BRL_RD_W1.WIDTH (p : Nat) : Fld := ⟨0x080148 + 0x100 * (p % 2), 16, 16⟩
abbrev BRL_RD_W1.SNR (p : Nat) : Fld := ⟨0x080148 + 0x100 * (p % 2), 8, 8⟩
abbrev BRL_RD_W1.QUAL (p : Nat) : Fld := ⟨0x080148 + 0x100 * (p % 2), 0, 4⟩

-- BRL_RD_W2 (R275, chapter 07)
abbrev BRL_RD_W2.VALUE (p : Nat) : Fld := ⟨0x08014C + 0x100 * (p % 2), 0, 32⟩

-- BRL_RD_W3 (R275, chapter 07)
abbrev BRL_RD_W3.ITER (p : Nat) : Fld := ⟨0x080150 + 0x100 * (p % 2), 24, 8⟩
abbrev BRL_RD_W3.SEQ (p : Nat) : Fld := ⟨0x080150 + 0x100 * (p % 2), 16, 8⟩

-- TRGU_W0 (R314, chapter 08)
abbrev TRGU_W0.EN (n : Nat) : Fld := ⟨0x090100 + 0x20 * (n % 64), 31, 1⟩
abbrev TRGU_W0.TYPE (n : Nat) : Fld := ⟨0x090100 + 0x20 * (n % 64), 28, 3⟩
abbrev TRGU_W0.POL (n : Nat) : Fld := ⟨0x090100 + 0x20 * (n % 64), 27, 1⟩
abbrev TRGU_W0.WOUT (n : Nat) : Fld := ⟨0x090100 + 0x20 * (n % 64), 26, 1⟩
abbrev TRGU_W0.SRC_KIND (n : Nat) : Fld := ⟨0x090100 + 0x20 * (n % 64), 22, 4⟩
abbrev TRGU_W0.SRC (n : Nat) : Fld := ⟨0x090100 + 0x20 * (n % 64), 16, 6⟩
abbrev TRGU_W0.ACT (n : Nat) : Fld := ⟨0x090100 + 0x20 * (n % 64), 12, 4⟩
abbrev TRGU_W0.CAP (n : Nat) : Fld := ⟨0x090100 + 0x20 * (n % 64), 8, 4⟩
abbrev TRGU_W0.RIDGE_ID (n : Nat) : Fld := ⟨0x090100 + 0x20 * (n % 64), 0, 8⟩

-- TRGU_W1 (R314, chapter 08)
abbrev TRGU_W1.HI (n : Nat) : Fld := ⟨0x090104 + 0x20 * (n % 64), 0, 32⟩

-- TRGU_W2 (R314, chapter 08)
abbrev TRGU_W2.LO (n : Nat) : Fld := ⟨0x090108 + 0x20 * (n % 64), 0, 32⟩

-- TRGU_W3 (R314, chapter 08)
abbrev TRGU_W3.HYST (n : Nat) : Fld := ⟨0x09010C + 0x20 * (n % 64), 0, 32⟩

-- TRGU_W4 (R314, chapter 08)
abbrev TRGU_W4.T1 (n : Nat) : Fld := ⟨0x090110 + 0x20 * (n % 64), 0, 32⟩

-- TRGU_W5 (R314, chapter 08)
abbrev TRGU_W5.T2 (n : Nat) : Fld := ⟨0x090114 + 0x20 * (n % 64), 0, 32⟩

-- TRGU_W6 (R314, chapter 08)
abbrev TRGU_W6.EXCL (n : Nat) : Fld := ⟨0x090118 + 0x20 * (n % 64), 24, 8⟩
abbrev TRGU_W6.CH_FIRST (n : Nat) : Fld := ⟨0x090118 + 0x20 * (n % 64), 0, 18⟩

-- TRGU_W7 (R314, chapter 08)
abbrev TRGU_W7.CH_LAST (n : Nat) : Fld := ⟨0x09011C + 0x20 * (n % 64), 0, 18⟩

-- CAPU_W0 (R315, chapter 08)
abbrev CAPU_W0.ARM (c : Nat) : Fld := ⟨0x091000 + 0x20 * (c % 16), 31, 1⟩
abbrev CAPU_W0.ABORT (c : Nat) : Fld := ⟨0x091000 + 0x20 * (c % 16), 30, 1⟩
abbrev CAPU_W0.RELEASE (c : Nat) : Fld := ⟨0x091000 + 0x20 * (c % 16), 29, 1⟩
abbrev CAPU_W0.AUTO_REARM (c : Nat) : Fld := ⟨0x091000 + 0x20 * (c % 16), 28, 1⟩
abbrev CAPU_W0.STATE (c : Nat) : Fld := ⟨0x091000 + 0x20 * (c % 16), 26, 2⟩
abbrev CAPU_W0.ARMERR (c : Nat) : Fld := ⟨0x091000 + 0x20 * (c % 16), 24, 2⟩
abbrev CAPU_W0.RIDGE_ID (c : Nat) : Fld := ⟨0x091000 + 0x20 * (c % 16), 16, 8⟩
abbrev CAPU_W0.RIDGE_EN (c : Nat) : Fld := ⟨0x091000 + 0x20 * (c % 16), 15, 1⟩
abbrev CAPU_W0.STREAM (c : Nat) : Fld := ⟨0x091000 + 0x20 * (c % 16), 9, 6⟩
abbrev CAPU_W0.AVG (c : Nat) : Fld := ⟨0x091000 + 0x20 * (c % 16), 0, 8⟩

-- CAPU_W1 (R315, chapter 08)
abbrev CAPU_W1.PRE (c : Nat) : Fld := ⟨0x091004 + 0x20 * (c % 16), 0, 32⟩

-- CAPU_W2 (R315, chapter 08)
abbrev CAPU_W2.POST (c : Nat) : Fld := ⟨0x091008 + 0x20 * (c % 16), 0, 32⟩

-- CAPU_W3 (R315, chapter 08)
abbrev CAPU_W3.MISSED (c : Nat) : Fld := ⟨0x09100C + 0x20 * (c % 16), 16, 16⟩
abbrev CAPU_W3.FLAGS (c : Nat) : Fld := ⟨0x09100C + 0x20 * (c % 16), 0, 4⟩

-- CAPU_W4 (R315, chapter 08)
abbrev CAPU_W4.SIZE (c : Nat) : Fld := ⟨0x091010 + 0x20 * (c % 16), 0, 32⟩

-- CAPU_W5 (R315, chapter 08)
abbrev CAPU_W5.TREF_NS (c : Nat) : Fld := ⟨0x091014 + 0x20 * (c % 16), 0, 30⟩

-- CAPU_W6 (R315, chapter 08)
abbrev CAPU_W6.TREF_SEC_LO (c : Nat) : Fld := ⟨0x091018 + 0x20 * (c % 16), 0, 32⟩

-- CAPU_W7 (R315, chapter 08)
abbrev CAPU_W7.TREF_SEC_HI (c : Nat) : Fld := ⟨0x09101C + 0x20 * (c % 16), 0, 16⟩

-- REEDS_W0 (R356, chapter 09)
abbrev REEDS_W0.START (s : Nat) : Fld := ⟨0x0A0100 + 0x20 * (s % 16), 31, 1⟩
abbrev REEDS_W0.STOP (s : Nat) : Fld := ⟨0x0A0100 + 0x20 * (s % 16), 30, 1⟩
abbrev REEDS_W0.STATE (s : Nat) : Fld := ⟨0x0A0100 + 0x20 * (s % 16), 28, 2⟩
abbrev REEDS_W0.UNIT (s : Nat) : Fld := ⟨0x0A0100 + 0x20 * (s % 16), 24, 4⟩
abbrev REEDS_W0.WHOLE (s : Nat) : Fld := ⟨0x0A0100 + 0x20 * (s % 16), 23, 1⟩
abbrev REEDS_W0.OWNER (s : Nat) : Fld := ⟨0x0A0100 + 0x20 * (s % 16), 20, 3⟩
abbrev REEDS_W0.FCAUSE (s : Nat) : Fld := ⟨0x0A0100 + 0x20 * (s % 16), 16, 4⟩
abbrev REEDS_W0.RESTARTS (s : Nat) : Fld := ⟨0x0A0100 + 0x20 * (s % 16), 0, 16⟩

-- REEDS_W1 (R356, chapter 09)
abbrev REEDS_W1.INC (s : Nat) : Fld := ⟨0x0A0104 + 0x20 * (s % 16), 31, 1⟩
abbrev REEDS_W1.TAP (s : Nat) : Fld := ⟨0x0A0104 + 0x20 * (s % 16), 24, 3⟩
abbrev REEDS_W1.STREAM (s : Nat) : Fld := ⟨0x0A0104 + 0x20 * (s % 16), 16, 6⟩
abbrev REEDS_W1.SHIFT (s : Nat) : Fld := ⟨0x0A0104 + 0x20 * (s % 16), 0, 6⟩

-- REEDS_W2 (R356, chapter 09)
abbrev REEDS_W2.CH_FIRST (s : Nat) : Fld := ⟨0x0A0108 + 0x20 * (s % 16), 0, 18⟩

-- REEDS_W3 (R356, chapter 09)
abbrev REEDS_W3.N_CH (s : Nat) : Fld := ⟨0x0A010C + 0x20 * (s % 16), 0, 18⟩

-- REEDS_W4 (R356, chapter 09)
abbrev REEDS_W4.FY (s : Nat) : Fld := ⟨0x0A0110 + 0x20 * (s % 16), 16, 14⟩
abbrev REEDS_W4.FX (s : Nat) : Fld := ⟨0x0A0110 + 0x20 * (s % 16), 0, 14⟩

-- REEDS_W5 (R356, chapter 09)
abbrev REEDS_W5.DELAY (s : Nat) : Fld := ⟨0x0A0114 + 0x20 * (s % 16), 16, 16⟩
abbrev REEDS_W5.C_MAX (s : Nat) : Fld := ⟨0x0A0114 + 0x20 * (s % 16), 0, 16⟩

-- REEDS_W6 (R356, chapter 09)
abbrev REEDS_W6.SETTLE (s : Nat) : Fld := ⟨0x0A0118 + 0x20 * (s % 16), 24, 8⟩
abbrev REEDS_W6.OUT_N (s : Nat) : Fld := ⟨0x0A0118 + 0x20 * (s % 16), 16, 5⟩
abbrev REEDS_W6.BLOCK (s : Nat) : Fld := ⟨0x0A0118 + 0x20 * (s % 16), 8, 8⟩

-- REEDS_W7 (R356, chapter 09)
abbrev REEDS_W7.PASSES (s : Nat) : Fld := ⟨0x0A011C + 0x20 * (s % 16), 0, 32⟩

-- LWIN_W0 (R411, chapter 11)
abbrev LWIN_W0.PERIOD (x : Nat) : Fld := ⟨0x0C0020 + 0x10 * (x % 2), 0, 20⟩

-- LWIN_W1 (R411, chapter 11)
abbrev LWIN_W1.OFFSET (x : Nat) : Fld := ⟨0x0C0024 + 0x10 * (x % 2), 0, 30⟩

-- LWIN_W2 (R411, chapter 11)
abbrev LWIN_W2.WIDTH (x : Nat) : Fld := ⟨0x0C0028 + 0x10 * (x % 2), 0, 30⟩

-- RING_W0 (R412, chapter 11)
abbrev RING_W0.BASE_LO (r : Nat) : Fld := ⟨0x0C0100 + 0x20 * (r % 8), 0, 32⟩

-- RING_W1 (R412, chapter 11)
abbrev RING_W1.BASE_HI (r : Nat) : Fld := ⟨0x0C0104 + 0x20 * (r % 8), 0, 32⟩

-- RING_W2 (R412, chapter 11)
abbrev RING_W2.LOG2 (r : Nat) : Fld := ⟨0x0C0108 + 0x20 * (r % 8), 0, 5⟩

-- RING_W3 (R412, chapter 11)
abbrev RING_W3.MIR_LO (r : Nat) : Fld := ⟨0x0C010C + 0x20 * (r % 8), 0, 32⟩

-- RING_W4 (R412, chapter 11)
abbrev RING_W4.MIR_HI (r : Nat) : Fld := ⟨0x0C0110 + 0x20 * (r % 8), 0, 32⟩

-- RING_W5 (R412, chapter 11)
abbrev RING_W5.RPTR (r : Nat) : Fld := ⟨0x0C0114 + 0x20 * (r % 8), 0, 32⟩

-- RING_W6 (R412, chapter 11)
abbrev RING_W6.WPTR (r : Nat) : Fld := ⟨0x0C0118 + 0x20 * (r % 8), 0, 32⟩

-- RING_W7 (R412, chapter 11)
abbrev RING_W7.FULLCNT (r : Nat) : Fld := ⟨0x0C011C + 0x20 * (r % 8), 0, 32⟩

-- STR_W0 (R413, chapter 11)
abbrev STR_W0.EN (n : Nat) : Fld := ⟨0x0C1000 + 0x40 * (n % 64), 31, 1⟩
abbrev STR_W0.KIND (n : Nat) : Fld := ⟨0x0C1000 + 0x40 * (n % 64), 29, 2⟩
abbrev STR_W0.PORT (n : Nat) : Fld := ⟨0x0C1000 + 0x40 * (n % 64), 28, 1⟩
abbrev STR_W0.PRIO (n : Nat) : Fld := ⟨0x0C1000 + 0x40 * (n % 64), 25, 3⟩
abbrev STR_W0.DEST (n : Nat) : Fld := ⟨0x0C1000 + 0x40 * (n % 64), 22, 3⟩
abbrev STR_W0.GEOM (n : Nat) : Fld := ⟨0x0C1000 + 0x40 * (n % 64), 20, 2⟩
abbrev STR_W0.IPV6 (n : Nat) : Fld := ⟨0x0C1000 + 0x40 * (n % 64), 19, 1⟩
abbrev STR_W0.RETAIN (n : Nat) : Fld := ⟨0x0C1000 + 0x40 * (n % 64), 0, 16⟩

-- STR_W1 (R413, chapter 11)
abbrev STR_W1.CH_FIRST (n : Nat) : Fld := ⟨0x0C1004 + 0x40 * (n % 64), 0, 18⟩

-- STR_W2 (R413, chapter 11)
abbrev STR_W2.N_CH (n : Nat) : Fld := ⟨0x0C1008 + 0x40 * (n % 64), 0, 18⟩

-- STR_W3 (R413, chapter 11)
abbrev STR_W3.SRC (n : Nat) : Fld := ⟨0x0C100C + 0x40 * (n % 64), 28, 4⟩
abbrev STR_W3.EVT_T (n : Nat) : Fld := ⟨0x0C100C + 0x40 * (n % 64), 16, 10⟩

-- STR_DADDR (R413, chapter 11)
abbrev STR_DADDR.DADDR (n : Nat) (i : Nat) : Fld := ⟨0x0C1010 + 0x40 * (n % 64) + 4 * (i % 4), 0, 32⟩

-- STR_W8 (R413, chapter 11)
abbrev STR_W8.DPORT (n : Nat) : Fld := ⟨0x0C1020 + 0x40 * (n % 64), 16, 16⟩
abbrev STR_W8.SPORT (n : Nat) : Fld := ⟨0x0C1020 + 0x40 * (n % 64), 0, 16⟩

-- STR_W9 (R413, chapter 11)
abbrev STR_W9.DSCP (n : Nat) : Fld := ⟨0x0C1024 + 0x40 * (n % 64), 26, 6⟩

-- STR_W10 (R413, chapter 11)
abbrev STR_W10.SEQ (n : Nat) : Fld := ⟨0x0C1028 + 0x40 * (n % 64), 0, 32⟩

-- STR_W11 (R413, chapter 11)
abbrev STR_W11.SENT (n : Nat) : Fld := ⟨0x0C102C + 0x40 * (n % 64), 0, 32⟩

-- STR_W12 (R413, chapter 11)
abbrev STR_W12.DROPPED (n : Nat) : Fld := ⟨0x0C1030 + 0x40 * (n % 64), 0, 32⟩

-- STR_W13 (R413, chapter 11)
abbrev STR_W13.RESENT (n : Nat) : Fld := ⟨0x0C1034 + 0x40 * (n % 64), 0, 32⟩

-- STR_W14 (R413, chapter 11)
abbrev STR_W14.EXPIRED (n : Nat) : Fld := ⟨0x0C1038 + 0x40 * (n % 64), 0, 32⟩

-- STR_W15 (R413, chapter 11)
abbrev STR_W15.STATE (n : Nat) : Fld := ⟨0x0C103C + 0x40 * (n % 64), 30, 2⟩

-- NET_W0 (R524, chapter 14)
abbrev NET_W0.EN (x : Nat) : Fld := ⟨0x0D0000 + 0x100 * (x % 2), 31, 1⟩
abbrev NET_W0.RATE (x : Nat) : Fld := ⟨0x0D0000 + 0x100 * (x % 2), 30, 1⟩
abbrev NET_W0.FEC (x : Nat) : Fld := ⟨0x0D0000 + 0x100 * (x % 2), 28, 2⟩
abbrev NET_W0.VLAN (x : Nat) : Fld := ⟨0x0D0000 + 0x100 * (x % 2), 27, 1⟩
abbrev NET_W0.PCP (x : Nat) : Fld := ⟨0x0D0000 + 0x100 * (x % 2), 24, 3⟩
abbrev NET_W0.VID (x : Nat) : Fld := ⟨0x0D0000 + 0x100 * (x % 2), 0, 12⟩

-- NET_W1 (R524, chapter 14)
abbrev NET_W1.LINK (x : Nat) : Fld := ⟨0x0D0004 + 0x100 * (x % 2), 31, 1⟩
abbrev NET_W1.LFAULT (x : Nat) : Fld := ⟨0x0D0004 + 0x100 * (x % 2), 30, 1⟩
abbrev NET_W1.RFAULT (x : Nat) : Fld := ⟨0x0D0004 + 0x100 * (x % 2), 29, 1⟩
abbrev NET_W1.FECLOCK (x : Nat) : Fld := ⟨0x0D0004 + 0x100 * (x % 2), 28, 1⟩
abbrev NET_W1.LINKDOWNS (x : Nat) : Fld := ⟨0x0D0004 + 0x100 * (x % 2), 0, 16⟩

-- NET_W2 (R524, chapter 14)
abbrev NET_W2.MAC_HI (x : Nat) : Fld := ⟨0x0D0008 + 0x100 * (x % 2), 0, 16⟩

-- NET_W3 (R524, chapter 14)
abbrev NET_W3.MAC_LO (x : Nat) : Fld := ⟨0x0D000C + 0x100 * (x % 2), 0, 32⟩

-- NET_W4 (R524, chapter 14)
abbrev NET_W4.IPV4 (x : Nat) : Fld := ⟨0x0D0010 + 0x100 * (x % 2), 0, 32⟩

-- NET_W5 (R524, chapter 14)
abbrev NET_W5.PREFIX4 (x : Nat) : Fld := ⟨0x0D0014 + 0x100 * (x % 2), 0, 6⟩

-- NET_W6 (R524, chapter 14)
abbrev NET_W6.GW4 (x : Nat) : Fld := ⟨0x0D0018 + 0x100 * (x % 2), 0, 32⟩

-- NET_W7 (R524, chapter 14)
abbrev NET_W7.PREFIX6 (x : Nat) : Fld := ⟨0x0D001C + 0x100 * (x % 2), 0, 8⟩

-- NET_IPV6 (R524, chapter 14)
abbrev NET_IPV6.IPV6 (x : Nat) (i : Nat) : Fld := ⟨0x0D0020 + 0x100 * (x % 2) + 4 * (i % 4), 0, 32⟩

-- NET_GW6 (R524, chapter 14)
abbrev NET_GW6.GW6 (x : Nat) (i : Nat) : Fld := ⟨0x0D0030 + 0x100 * (x % 2) + 4 * (i % 4), 0, 32⟩

-- NET_W16 (R524, chapter 14)
abbrev NET_W16.EXT_RX (x : Nat) : Fld := ⟨0x0D0040 + 0x100 * (x % 2), 0, 32⟩

-- NET_W17 (R524, chapter 14)
abbrev NET_W17.EXT_TX (x : Nat) : Fld := ⟨0x0D0044 + 0x100 * (x % 2), 0, 32⟩

-- NET_W18 (R524, chapter 14)
abbrev NET_W18.INT_RX (x : Nat) : Fld := ⟨0x0D0048 + 0x100 * (x % 2), 0, 32⟩

-- NET_W19 (R524, chapter 14)
abbrev NET_W19.INT_TX (x : Nat) : Fld := ⟨0x0D004C + 0x100 * (x % 2), 0, 32⟩

-- NET_W20 (R524, chapter 14)
abbrev NET_W20.RXDROP (x : Nat) : Fld := ⟨0x0D0050 + 0x100 * (x % 2), 0, 32⟩

-- NET_W21 (R524, chapter 14)
abbrev NET_W21.PAUSE (x : Nat) : Fld := ⟨0x0D0054 + 0x100 * (x % 2), 0, 32⟩

-- NET_W22 (R524, chapter 14)
abbrev NET_W22.FCSERR (x : Nat) : Fld := ⟨0x0D0058 + 0x100 * (x % 2), 0, 32⟩

-- PPS_IN_NS (R548, chapter 15)
abbrev PPS_IN_NS.NS : Fld := ⟨0x020010, 0, 30⟩

-- PPS_IN_SEC_LO (R548, chapter 15)
abbrev PPS_IN_SEC_LO.SEC_LO : Fld := ⟨0x020014, 0, 32⟩

-- PPS_IN_SEC_HI (R548, chapter 15)
abbrev PPS_IN_SEC_HI.FRAC : Fld := ⟨0x020018, 16, 16⟩
abbrev PPS_IN_SEC_HI.SEC_HI : Fld := ⟨0x020018, 0, 16⟩

-- TICRES_W0 (R549, chapter 15)
abbrev TICRES_W0.READY : Fld := ⟨0x0F0040, 31, 1⟩
abbrev TICRES_W0.SEQ : Fld := ⟨0x0F0040, 16, 8⟩
abbrev TICRES_W0.COLD : Fld := ⟨0x0F0040, 7, 1⟩
abbrev TICRES_W0.PARTIAL : Fld := ⟨0x0F0040, 6, 1⟩
abbrev TICRES_W0.MODE : Fld := ⟨0x0F0040, 0, 2⟩

-- TICRES_W1 (R549, chapter 15)
abbrev TICRES_W1.USED : Fld := ⟨0x0F0044, 0, 25⟩

-- TICRES_MEAN (R549, chapter 15)
abbrev TICRES_MEAN.MEAN (i : Nat) : Fld := ⟨0x0F0048 + 4 * (i % 2), 0, 32⟩

-- TICRES_SD (R549, chapter 15)
abbrev TICRES_SD.SD (i : Nat) : Fld := ⟨0x0F0050 + 4 * (i % 2), 0, 32⟩

-- TICRES_MIN (R549, chapter 15)
abbrev TICRES_MIN.MIN (i : Nat) : Fld := ⟨0x0F0058 + 4 * (i % 2), 0, 32⟩

-- TICRES_MAX (R549, chapter 15)
abbrev TICRES_MAX.MAX (i : Nat) : Fld := ⟨0x0F0060 + 4 * (i % 2), 0, 32⟩

-- TICRES_W10 (R549, chapter 15)
abbrev TICRES_W10.SHORT : Fld := ⟨0x0F0068, 0, 32⟩

-- RDG_NODE_W0 (R578, chapter 16)
abbrev RDG_NODE_W0.PRESENT (id : Nat) : Fld := ⟨0x101000 + 8 * (id % 4096), 31, 1⟩
abbrev RDG_NODE_W0.VIA (id : Nat) : Fld := ⟨0x101000 + 8 * (id % 4096), 30, 1⟩
abbrev RDG_NODE_W0.HOPS (id : Nat) : Fld := ⟨0x101000 + 8 * (id % 4096), 0, 12⟩

-- RDG_NODE_W1 (R578, chapter 16)
abbrev RDG_NODE_W1.DELAY (id : Nat) : Fld := ⟨0x101004 + 8 * (id % 4096), 0, 32⟩

-- FLDE_W0 (R665, chapter 18)
abbrev FLDE_W0.CH (e : Nat) : Fld := ⟨0x120040 + 0x10 * (e % 16), 29, 3⟩
abbrev FLDE_W0.REF (e : Nat) : Fld := ⟨0x120040 + 0x10 * (e % 16), 27, 2⟩
abbrev FLDE_W0.PGA (e : Nat) : Fld := ⟨0x120040 + 0x10 * (e % 16), 24, 3⟩
abbrev FLDE_W0.AUTO (e : Nat) : Fld := ⟨0x120040 + 0x10 * (e % 16), 23, 1⟩
abbrev FLDE_W0.FILT (e : Nat) : Fld := ⟨0x120040 + 0x10 * (e % 16), 21, 2⟩
abbrev FLDE_W0.ODR (e : Nat) : Fld := ⟨0x120040 + 0x10 * (e % 16), 17, 4⟩
abbrev FLDE_W0.BO (e : Nat) : Fld := ⟨0x120040 + 0x10 * (e % 16), 15, 2⟩
abbrev FLDE_W0.MODE (e : Nat) : Fld := ⟨0x120040 + 0x10 * (e % 16), 13, 2⟩
abbrev FLDE_W0.N_C (e : Nat) : Fld := ⟨0x120040 + 0x10 * (e % 16), 0, 8⟩

-- FLDE_W1 (R665, chapter 18)
abbrev FLDE_W1.R_REF (e : Nat) : Fld := ⟨0x120044 + 0x10 * (e % 16), 0, 32⟩

-- FLDE_W2 (R665, chapter 18)
abbrev FLDE_W2.R0 (e : Nat) : Fld := ⟨0x120048 + 0x10 * (e % 16), 0, 32⟩

-- FLDI_W0 (R665, chapter 18)
abbrev FLDI_W0.CH (e : Nat) : Fld := ⟨0x120140 + 0x10 * (e % 4), 29, 3⟩
abbrev FLDI_W0.REF (e : Nat) : Fld := ⟨0x120140 + 0x10 * (e % 4), 27, 2⟩
abbrev FLDI_W0.PGA (e : Nat) : Fld := ⟨0x120140 + 0x10 * (e % 4), 24, 3⟩
abbrev FLDI_W0.AUTO (e : Nat) : Fld := ⟨0x120140 + 0x10 * (e % 4), 23, 1⟩
abbrev FLDI_W0.FILT (e : Nat) : Fld := ⟨0x120140 + 0x10 * (e % 4), 21, 2⟩
abbrev FLDI_W0.ODR (e : Nat) : Fld := ⟨0x120140 + 0x10 * (e % 4), 17, 4⟩
abbrev FLDI_W0.BO (e : Nat) : Fld := ⟨0x120140 + 0x10 * (e % 4), 15, 2⟩
abbrev FLDI_W0.MODE (e : Nat) : Fld := ⟨0x120140 + 0x10 * (e % 4), 13, 2⟩
abbrev FLDI_W0.N_C (e : Nat) : Fld := ⟨0x120140 + 0x10 * (e % 4), 0, 8⟩

-- FLDI_W1 (R665, chapter 18)
abbrev FLDI_W1.R_REF (e : Nat) : Fld := ⟨0x120144 + 0x10 * (e % 4), 0, 32⟩

-- FLDI_W2 (R665, chapter 18)
abbrev FLDI_W2.R0 (e : Nat) : Fld := ⟨0x120148 + 0x10 * (e % 4), 0, 32⟩

-- FLDRES_W0 (R666, chapter 18)
abbrev FLDRES_W0.READY (i : Nat) : Fld := ⟨0x120200 + 0x20 * (i % 12), 31, 1⟩
abbrev FLDRES_W0.QUAL (i : Nat) : Fld := ⟨0x120200 + 0x20 * (i % 12), 24, 4⟩
abbrev FLDRES_W0.SEQ (i : Nat) : Fld := ⟨0x120200 + 0x20 * (i % 12), 16, 8⟩
abbrev FLDRES_W0.OPEN (i : Nat) : Fld := ⟨0x120200 + 0x20 * (i % 12), 15, 1⟩
abbrev FLDRES_W0.GAIN (i : Nat) : Fld := ⟨0x120200 + 0x20 * (i % 12), 12, 3⟩
abbrev FLDRES_W0.RAW (i : Nat) : Fld := ⟨0x120200 + 0x20 * (i % 12), 0, 12⟩

-- FLDRES_W1 (R666, chapter 18)
abbrev FLDRES_W1.VALUE (i : Nat) : Fld := ⟨0x120204 + 0x20 * (i % 12), 0, 32⟩

-- FLDRES_W2 (R666, chapter 18)
abbrev FLDRES_W2.NS (i : Nat) : Fld := ⟨0x120208 + 0x20 * (i % 12), 0, 30⟩

-- FLDRES_W3 (R666, chapter 18)
abbrev FLDRES_W3.SEC_LO (i : Nat) : Fld := ⟨0x12020C + 0x20 * (i % 12), 0, 32⟩

-- FLDRES_W4 (R666, chapter 18)
abbrev FLDRES_W4.SEC_HI (i : Nat) : Fld := ⟨0x120210 + 0x20 * (i % 12), 0, 16⟩

-- MONRES_W0 (R666, chapter 18)
abbrev MONRES_W0.READY (i : Nat) : Fld := ⟨0x130200 + 0x20 * (i % 44), 31, 1⟩
abbrev MONRES_W0.QUAL (i : Nat) : Fld := ⟨0x130200 + 0x20 * (i % 44), 24, 4⟩
abbrev MONRES_W0.SEQ (i : Nat) : Fld := ⟨0x130200 + 0x20 * (i % 44), 16, 8⟩
abbrev MONRES_W0.OPEN (i : Nat) : Fld := ⟨0x130200 + 0x20 * (i % 44), 15, 1⟩
abbrev MONRES_W0.GAIN (i : Nat) : Fld := ⟨0x130200 + 0x20 * (i % 44), 12, 3⟩
abbrev MONRES_W0.RAW (i : Nat) : Fld := ⟨0x130200 + 0x20 * (i % 44), 0, 12⟩

-- MONRES_W1 (R666, chapter 18)
abbrev MONRES_W1.VALUE (i : Nat) : Fld := ⟨0x130204 + 0x20 * (i % 44), 0, 32⟩

-- MONRES_W2 (R666, chapter 18)
abbrev MONRES_W2.NS (i : Nat) : Fld := ⟨0x130208 + 0x20 * (i % 44), 0, 30⟩

-- MONRES_W3 (R666, chapter 18)
abbrev MONRES_W3.SEC_LO (i : Nat) : Fld := ⟨0x13020C + 0x20 * (i % 44), 0, 32⟩

-- MONRES_W4 (R666, chapter 18)
abbrev MONRES_W4.SEC_HI (i : Nat) : Fld := ⟨0x130210 + 0x20 * (i % 44), 0, 16⟩

-- MONE (R667, chapter 18)
abbrev MONE.INPUT (e : Nat) : Fld := ⟨0x130040 + 4 * (e % 16), 26, 6⟩
abbrev MONE.AVG (e : Nat) : Fld := ⟨0x130040 + 4 * (e % 16), 23, 3⟩

-- MONI (R667, chapter 18)
abbrev MONI.INPUT (e : Nat) : Fld := ⟨0x130080 + 4 * (e % 4), 26, 6⟩
abbrev MONI.AVG (e : Nat) : Fld := ⟨0x130080 + 4 * (e % 4), 23, 3⟩

-- CALREC_W0 (R695, chapter 19)
abbrev CALREC_W0.READY (d : Nat) : Fld := ⟨0x140100 + 0x20 * (d % 13), 31, 1⟩
abbrev CALREC_W0.STATE (d : Nat) : Fld := ⟨0x140100 + 0x20 * (d % 13), 28, 3⟩
abbrev CALREC_W0.SEQ (d : Nat) : Fld := ⟨0x140100 + 0x20 * (d % 13), 20, 8⟩
abbrev CALREC_W0.RESULT (d : Nat) : Fld := ⟨0x140100 + 0x20 * (d % 13), 16, 4⟩
abbrev CALREC_W0.RUNS (d : Nat) : Fld := ⟨0x140100 + 0x20 * (d % 13), 0, 16⟩

-- CALREC_W1 (R695, chapter 19)
abbrev CALREC_W1.FAILS (d : Nat) : Fld := ⟨0x140104 + 0x20 * (d % 13), 16, 16⟩
abbrev CALREC_W1.CONSEC (d : Nat) : Fld := ⟨0x140104 + 0x20 * (d % 13), 8, 8⟩

-- CALREC_W2 (R695, chapter 19)
abbrev CALREC_W2.T_LAST (d : Nat) : Fld := ⟨0x140108 + 0x20 * (d % 13), 0, 16⟩

-- CALREC_W3 (R695, chapter 19)
abbrev CALREC_W3.NS (d : Nat) : Fld := ⟨0x14010C + 0x20 * (d % 13), 0, 30⟩

-- CALREC_W4 (R695, chapter 19)
abbrev CALREC_W4.SEC_LO (d : Nat) : Fld := ⟨0x140110 + 0x20 * (d % 13), 0, 32⟩

-- CALREC_W5 (R695, chapter 19)
abbrev CALREC_W5.SEC_HI (d : Nat) : Fld := ⟨0x140114 + 0x20 * (d % 13), 0, 16⟩

-- CALREC_W6 (R695, chapter 19)
abbrev CALREC_W6.MAXDEV (d : Nat) : Fld := ⟨0x140118 + 0x20 * (d % 13), 0, 16⟩

-- CALREC_W7 (R695, chapter 19)
abbrev CALREC_W7.USTEPS (d : Nat) : Fld := ⟨0x14011C + 0x20 * (d % 13), 0, 16⟩

-- LSD_COMP (R90, chapter 02)
abbrev LSD_COMP.K_HI (n : Nat) (i : Nat) : Fld := ⟨0x030400 + 0x20 * (n % 8) + 4 * (i % 8), 16, 16⟩
abbrev LSD_COMP.K_LO (n : Nat) (i : Nat) : Fld := ⟨0x030400 + 0x20 * (n % 8) + 4 * (i % 8), 0, 16⟩

-- RX_GCOR (R164, chapter 04)
abbrev RX_GCOR.PHASE (l : Nat) (g : Nat) : Fld := ⟨0x050400 + 0x20 * (l % 16) + 4 * (g % 8), 16, 16⟩
abbrev RX_GCOR.DELAY (l : Nat) (g : Nat) : Fld := ⟨0x050400 + 0x20 * (l % 16) + 4 * (g % 8), 0, 16⟩

/-! Rows, block by block (R784). -/

/-- The register words of block 0x00. -/
def rows00 : List RegRow := [
  ⟨0x000000, 4, 1, 0x0, 0x0, 0x0, 0xFFFFFFFF, 0x0, true, .owner, false, false, []⟩,
  ⟨0x000004, 4, 1, 0x0, 0x0, 0x0, 0xF0F, 0x0, false, .owner, false, false, []⟩,
  ⟨0x000008, 4, 1, 0x0, 0x0, 0x0, 0xFFFFFFFF, 0x0, true, .owner, false, false, []⟩,
  ⟨0x00000C, 4, 1, 0x0, 0x0, 0x0, 0xFF00FFFF, 0x0, true, .owner, false, false, []⟩,
  ⟨0x000010, 4, 1, 0x0, 0x0, 0x0, 0xFFFFFFFF, 0x0, false, .owner, false, false, []⟩,
  ⟨0x000020, 4, 1, 0x0, 0x0, 0x0, 0xFFFFFFFF, 0x0, false, .owner, false, false, []⟩,
  ⟨0x000024, 4, 1, 0x0, 0x0, 0x0, 0xFFFF, 0x0, false, .owner, false, false, []⟩,
  ⟨0x000028, 4, 1, 0x0, 0x0, 0x0, 0xFFFFFFFF, 0x0, false, .owner, false, false, []⟩,
  ⟨0x000030, 4, 1, 0x0, 0x0, 0x0, 0xEFFFFFFF, 0x0, false, .owner, false, false, []⟩,
  ⟨0x000034, 4, 1, 0x0, 0x0, 0x0, 0xFFFFFFFF, 0x0, false, .owner, false, false, []⟩,
  ⟨0x000040, 4, 1, 0x0, 0x0, 0x0, 0xFFFF00FF, 0x0, false, .owner, false, false, []⟩,
  ⟨0x000050, 4, 1, 0xFEFF07, 0x0, 0x0, 0xFFFFFF07, 0x1E00, false, .owner, true, false, []⟩,
  ⟨0x000060, 4, 1, 0x80000000, 0x0, 0x0, 0x80000003, 0x0, false, .owner, true, false, []⟩
]

/-- The register words of block 0x01. -/
def rows01 : List RegRow := [
  ⟨0x010000, 4, 1, 0x0, 0xFFF, 0x0, 0xFFF, 0x0, false, .any, false, false, []⟩,
  ⟨0x010004, 4, 1, 0xFF0000, 0x0, 0xF0000000, 0xF0FF0000, 0x0, false, .owner, false, false, []⟩,
  ⟨0x010008, 4, 1, 0x0, 0x0, 0x0, 0xFFFFFFFF, 0x80000000, false, .owner, false, false, []⟩
]

/-- The register words of block 0x02. -/
def rows02 : List RegRow := [
  ⟨0x020000, 4, 1, 0xC3, 0x0, 0x0, 0xC3, 0xC0, false, .owner, true, false, [⟨0, 2, false, 0, 2⟩]⟩,
  ⟨0x020004, 4, 1, 0x0, 0x60, 0x0, 0xFFFF007F, 0x0, false, .any, false, false, []⟩,
  ⟨0x020008, 4, 1, 0x0, 0x0, 0x0, 0xFFFFFFFF, 0x0, false, .owner, false, false, []⟩,
  ⟨0x02000C, 4, 1, 0xFFFFFFFF, 0x0, 0x0, 0xFFFFFFFF, 0x640000, false, .owner, false, false, [⟨16, 16, false, 1, 900⟩]⟩,
  ⟨0x020010, 4, 1, 0x0, 0x0, 0x0, 0x3FFFFFFF, 0x0, false, .owner, false, false, []⟩,
  ⟨0x020014, 4, 1, 0x0, 0x0, 0x0, 0xFFFFFFFF, 0x0, false, .owner, false, false, []⟩,
  ⟨0x020018, 4, 1, 0x0, 0x0, 0x0, 0xFFFFFFFF, 0x0, false, .owner, false, false, []⟩
]

/-- The register words of block 0x03. -/
def rows03 : List RegRow := [
  ⟨0x030000, 4, 1, 0xFF, 0x0, 0x0, 0xFF, 0x0, false, .owner, false, true, [⟨0, 8, true, -14, 30⟩]⟩,
  ⟨0x030004, 4, 1, 0x0, 0x4, 0x0, 0xFFFFFF07, 0x0, false, .owner, false, false, []⟩,
  ⟨0x030008, 4, 1, 0xFFF, 0xFF0000, 0x0, 0xFF0FFF, 0xFFF, false, .owner, false, true, []⟩,
  ⟨0x030010, 4, 2, 0xFFFF, 0x0, 0x0, 0xFFFF, 0x0, false, .owner, false, false, []⟩,
  ⟨0x030018, 4, 2, 0xFFFF, 0x0, 0x0, 0xFFFF, 0x0, false, .owner, false, true, []⟩,
  ⟨0x030020, 4, 4, 0xFFFF, 0x0, 0x0, 0xFFFF, 0x0, false, .owner, false, false, []⟩,
  ⟨0x030040, 4, 4, 0x0, 0x0, 0x0, 0xFFFFFFFF, 0xFFFF0000, false, .owner, false, false, []⟩,
  ⟨0x030050, 4, 2, 0xFFFF, 0x0, 0x0, 0xFFFFFFFF, 0x80000000, false, .owner, false, true, [⟨0, 16, true, -100, 230⟩]⟩,
  ⟨0x030060, 4, 1, 0xFF, 0x0, 0x0, 0xFF00FFFF, 0x6478, false, .owner, false, false, [⟨0, 8, false, 80, 139⟩]⟩,
  ⟨0x030070, 4, 1, 0x40000000, 0x20000000, 0x80000000, 0xE0001F07, 0x1, false, .owner, false, false, []⟩,
  ⟨0x030080, 4, 1, 0x8FFFFFFF, 0x0, 0x0, 0x8FFFFFFF, 0x830000C8, false, .owner, false, false, [⟨24, 4, false, 1, 15⟩, ⟨16, 8, true, -100, 0⟩, ⟨0, 16, false, 1, 65535⟩]⟩,
  ⟨0x030090, 4, 2, 0x1FFFF, 0x0, 0x0, 0x1FFFF, 0x0, false, .owner, false, false, []⟩,
  ⟨0x030098, 4, 2, 0x0, 0x0, 0x0, 0xC001FFFF, 0x0, false, .owner, false, false, []⟩,
  ⟨0x0300A0, 4, 1, 0xFFFF0000, 0x3F, 0x0, 0xFFFF003F, 0x3E80000, false, .owner, false, false, [⟨16, 16, false, 16, 65535⟩]⟩,
  ⟨0x030400, 4, 32, 0xFFFFFFFF, 0x0, 0x0, 0xFFFFFFFF, 0x0, true, .owner, false, true, []⟩,
  ⟨0x030480, 4, 32, 0xFFFFFFFF, 0x0, 0x0, 0xFFFFFFFF, 0x0, true, .owner, false, false, []⟩
]

/-- The register words of block 0x04. -/
def rows04 : List RegRow := [
  ⟨0x040000, 4, 1, 0x1F07FFFF, 0x0, 0x0, 0x1F07FFFF, 0x10013880, false, .owner, false, true, [⟨24, 5, false, 1, 16⟩, ⟨0, 19, false, 4000, 280000⟩]⟩,
  ⟨0x040004, 4, 1, 0x3FFFFFFF, 0x0, 0x0, 0x3FFFFFFF, 0x0, false, .owner, false, true, [⟨0, 30, false, 0, 999999999⟩]⟩,
  ⟨0x040008, 4, 1, 0xFFFFFFFF, 0x0, 0x0, 0xFFFFFFFF, 0x0, false, .owner, false, true, []⟩,
  ⟨0x04000C, 4, 1, 0xFFFF, 0x0, 0x0, 0xFFFF, 0x0, false, .owner, false, true, []⟩,
  ⟨0x040010, 4, 1, 0xB1, 0x0, 0x0, 0xB1, 0x0, false, .owner, false, true, [⟨4, 2, false, 0, 2⟩]⟩,
  ⟨0x040014, 4, 1, 0x0, 0xC, 0x0, 0xFFFF000F, 0x0, false, .any, false, false, []⟩,
  ⟨0x040018, 4, 1, 0xF0F, 0x0, 0x0, 0xF0F, 0x800, false, .owner, false, true, []⟩,
  ⟨0x040040, 32768, 2, 0x8003FFFF, 0x0, 0x0, 0x8003FFFF, 0x0, false, .owner, false, true, [⟨0, 18, false, 0, 131072⟩]⟩
]

/-- The register words of block 0x05. -/
def rows05 : List RegRow := [
  ⟨0x050000, 4, 2, 0x3707, 0x0, 0x0, 0x7073707, 0x3000, false, .owner, false, true, []⟩,
  ⟨0x050010, 4, 1, 0xFFFFFF00, 0x0, 0x0, 0xFFFFFF00, 0x40100900, false, .owner, false, true, [⟨24, 8, false, 1, 255⟩, ⟨16, 8, false, 1, 255⟩, ⟨8, 8, false, 6, 24⟩]⟩,
  ⟨0x050014, 4, 2, 0x1FFFF, 0x0, 0x0, 0x1FFFF, 0x0, false, .owner, false, true, [⟨0, 17, false, 0, 131072⟩]⟩,
  ⟨0x050020, 4, 2, 0x0, 0x0, 0x0, 0xFFFF, 0x0, true, .owner, false, false, []⟩,
  ⟨0x050030, 4, 1, 0x33, 0x0, 0x0, 0x33, 0x11, false, .owner, false, true, [⟨4, 2, false, 0, 2⟩, ⟨0, 2, false, 0, 2⟩]⟩,
  ⟨0x050040, 4, 18, 0x0, 0x0, 0x0, 0xFFFFFFFF, 0x0, false, .owner, false, false, []⟩,
  ⟨0x050090, 4, 1, 0x0, 0x3F, 0x0, 0xFFFF003F, 0x0, false, .any, false, false, []⟩,
  ⟨0x050094, 4, 1, 0x0, 0x0, 0x0, 0xFFFF, 0x0, false, .owner, false, false, []⟩,
  ⟨0x050100, 8, 18, 0xFFFFFFFF, 0x0, 0x0, 0xFFFFFFFF, 0x0, true, .owner, false, true, [⟨0, 16, true, -1024, 1023⟩]⟩,
  ⟨0x050104, 16, 9, 0xFFFF0000, 0x0, 0x0, 0xFFFF0000, 0x0, true, .owner, false, true, [⟨16, 16, true, -400, 400⟩]⟩,
  ⟨0x05010C, 16, 9, 0xFFFFFFFF, 0x0, 0x0, 0xFFFFFFFF, 0x0, true, .owner, false, true, [⟨16, 16, true, -400, 400⟩, ⟨0, 16, true, -6554, 6554⟩]⟩,
  ⟨0x050400, 32, 16, 0x0, 0x0, 0x0, 0x0, 0x0, false, .owner, false, false, []⟩,
  ⟨0x050404, 32, 16, 0xFFFFFFFF, 0x0, 0x0, 0xFFFFFFFF, 0x0, true, .owner, false, false, []⟩,
  ⟨0x050408, 32, 16, 0xFFFFFFFF, 0x0, 0x0, 0xFFFFFFFF, 0x0, true, .owner, false, false, []⟩,
  ⟨0x05040C, 32, 16, 0xFFFFFFFF, 0x0, 0x0, 0xFFFFFFFF, 0x0, true, .owner, false, false, []⟩,
  ⟨0x050410, 32, 16, 0xFFFFFFFF, 0x0, 0x0, 0xFFFFFFFF, 0x0, true, .owner, false, false, []⟩,
  ⟨0x050414, 32, 16, 0xFFFFFFFF, 0x0, 0x0, 0xFFFFFFFF, 0x0, true, .owner, false, false, []⟩,
  ⟨0x050418, 32, 16, 0xFFFFFFFF, 0x0, 0x0, 0xFFFFFFFF, 0x0, true, .owner, false, false, []⟩,
  ⟨0x05041C, 32, 16, 0xFFFFFFFF, 0x0, 0x0, 0xFFFFFFFF, 0x0, true, .owner, false, false, []⟩
]

/-- The register words of block 0x06. -/
def rows06 : List RegRow := [
  ⟨0x060000, 4, 1, 0x303, 0x0, 0x0, 0x303, 0x300, false, .owner, false, true, [⟨0, 2, false, 0, 2⟩]⟩,
  ⟨0x060004, 4, 1, 0xF0F, 0x0, 0x0, 0xF0F, 0x80A, false, .owner, false, true, [⟨8, 4, false, 4, 15⟩, ⟨0, 4, false, 4, 15⟩]⟩,
  ⟨0x060008, 4, 1, 0xFF0F00FF, 0x0, 0x0, 0xFF0F00FF, 0x80C0010, false, .owner, false, true, [⟨24, 8, false, 1, 255⟩, ⟨16, 4, false, 8, 15⟩, ⟨0, 8, false, 1, 255⟩]⟩,
  ⟨0x06000C, 4, 1, 0x0, 0x1, 0x0, 0x3, 0x0, false, .any, false, false, []⟩,
  ⟨0x060010, 4, 1, 0xFF1FFFFF, 0x0, 0x0, 0xFF1FFFFF, 0x88060800, false, .owner, false, true, [⟨24, 7, false, 4, 64⟩, ⟨16, 5, false, 3, 20⟩, ⟨0, 16, false, 256, 65535⟩]⟩,
  ⟨0x060014, 4, 1, 0x0, 0xC, 0x0, 0xFFFF000F, 0x0, false, .any, false, false, []⟩,
  ⟨0x060018, 4, 1, 0x1, 0x0, 0x0, 0x1, 0x0, false, .owner, false, true, []⟩,
  ⟨0x060100, 256, 2, 0x7F007F, 0x0, 0x0, 0x7F007F, 0x10004, false, .owner, false, true, [⟨16, 7, false, 1, 64⟩, ⟨0, 7, false, 1, 100⟩]⟩,
  ⟨0x060104, 256, 2, 0x1FFFF, 0x0, 0x0, 0x1FFFF, 0x0, false, .owner, false, true, []⟩,
  ⟨0x060108, 256, 2, 0x3FFFF, 0x0, 0x0, 0x3FFFF, 0x0, false, .owner, false, true, [⟨0, 18, false, 0, 131072⟩]⟩,
  ⟨0x06010C, 256, 2, 0x3FFFF, 0x0, 0x0, 0x3FFFF, 0x23D84, false, .owner, false, true, [⟨0, 18, false, 146000, 148000⟩]⟩,
  ⟨0x060110, 256, 2, 0x3FFF, 0x0, 0x0, 0x3FFF, 0x1E78, false, .owner, false, true, [⟨0, 14, false, 7000, 8500⟩]⟩,
  ⟨0x060114, 256, 2, 0x0, 0x0, 0x0, 0xFFFFF, 0x49EF, false, .owner, false, false, []⟩,
  ⟨0x060118, 256, 2, 0x0, 0x0, 0x0, 0xFFFFFFFF, 0x0, false, .owner, false, false, []⟩,
  ⟨0x060140, 4, 9, 0x8001FFFF, 0x0, 0x0, 0x8001FFFF, 0x0, false, .owner, false, false, []⟩,
  ⟨0x060180, 4, 9, 0x0, 0x0, 0x0, 0x8001FFFF, 0x0, false, .owner, false, false, []⟩,
  ⟨0x060240, 4, 9, 0x8001FFFF, 0x0, 0x0, 0x8001FFFF, 0x0, false, .owner, false, false, []⟩,
  ⟨0x060280, 4, 9, 0x0, 0x0, 0x0, 0x8001FFFF, 0x0, false, .owner, false, false, []⟩,
  ⟨0x061000, 16, 64, 0x8001FFFF, 0x0, 0x0, 0x8001FFFF, 0x0, false, .owner, false, true, []⟩,
  ⟨0x061004, 16, 64, 0xFFFFFFFF, 0x0, 0x0, 0xFFFFFFFF, 0x0, false, .owner, false, true, []⟩,
  ⟨0x061008, 16, 64, 0xFFFFFFFF, 0x0, 0x0, 0xFFFFFFFF, 0x0, false, .owner, false, true, [⟨0, 32, true, -131072, 131072⟩]⟩,
  ⟨0x061400, 16, 64, 0x8001FFFF, 0x0, 0x0, 0x8001FFFF, 0x0, false, .owner, false, true, []⟩,
  ⟨0x061404, 16, 64, 0xFFFFFFFF, 0x0, 0x0, 0xFFFFFFFF, 0x0, false, .owner, false, true, []⟩,
  ⟨0x061408, 16, 64, 0xFFFFFFFF, 0x0, 0x0, 0xFFFFFFFF, 0x0, false, .owner, false, true, [⟨0, 32, true, -131072, 131072⟩]⟩
]

/-- The register words of block 0x07. -/
def rows07 : List RegRow := [
  ⟨0x070000, 4, 1, 0x0, 0x0, 0x0, 0x7FFFFF, 0x0, false, .owner, false, false, []⟩,
  ⟨0x070008, 4, 1, 0x0, 0x0, 0x0, 0xFFFFFFFF, 0x0, false, .owner, false, false, []⟩,
  ⟨0x07000C, 4, 1, 0x0, 0x0, 0x0, 0xFFFFFFFF, 0x0, false, .owner, false, false, []⟩,
  ⟨0x070010, 4, 2, 0x0, 0x0, 0x0, 0xFFFF, 0x0, true, .owner, false, false, []⟩,
  ⟨0x070100, 16, 64, 0xF3307FFF, 0x0, 0x0, 0xF3307FFF, 0x40000100, false, .stream 0x070100 16, true, false, [⟨30, 2, false, 0, 2⟩, ⟨8, 7, false, 1, 127⟩]⟩,
  ⟨0x070104, 16, 64, 0x0, 0x0, 0x0, 0x3FFFF, 0x0, false, .owner, false, false, []⟩,
  ⟨0x070108, 16, 64, 0x0, 0x0, 0x0, 0x3FFFF, 0x1, false, .owner, false, false, []⟩,
  ⟨0x07010C, 16, 64, 0x0, 0x0, 0x0, 0xC000FFFF, 0x0, false, .owner, false, false, []⟩,
  ⟨0x078000, 4, 4096, 0xFFFFF, 0x0, 0x0, 0xFFFFF, 0x0, false, .stream 0x078000 256, true, false, []⟩
]

/-- The register words of block 0x08. -/
def rows08 : List RegRow := [
  ⟨0x080000, 4, 1, 0xFFFFFF, 0x0, 0x0, 0xFFFFFF, 0xA4CB80, false, .owner, false, true, [⟨0, 24, false, 9500000, 12000000⟩]⟩,
  ⟨0x080004, 4, 1, 0xFFF0303, 0x0, 0x0, 0xFFF0303, 0x3C0000, false, .owner, false, true, [⟨16, 12, false, 1, 3600⟩]⟩,
  ⟨0x080008, 4, 1, 0xFF00, 0x0, 0x0, 0xFF00, 0x2800, false, .owner, false, true, []⟩,
  ⟨0x08000C, 4, 1, 0x0, 0x0, 0x0, 0xFFFFFFFF, 0x0, false, .owner, false, false, []⟩,
  ⟨0x080010, 4, 4, 0x803F3FFF, 0x0, 0x0, 0x803F3FFF, 0x64, false, .anchor 0x080010 4, false, true, [⟨0, 14, false, 100, 10000⟩]⟩,
  ⟨0x080020, 4, 4, 0x0, 0x0, 0x0, 0xC000FFFF, 0x0, false, .owner, false, false, []⟩,
  ⟨0x080100, 256, 2, 0xE07F0000, 0x0, 0x0, 0xE07F0000, 0x20040000, false, .owner, false, true, [⟨30, 2, false, 0, 2⟩, ⟨16, 7, false, 2, 64⟩]⟩,
  ⟨0x080104, 256, 2, 0x1FFFF, 0x0, 0x0, 0x1FFFF, 0x0, false, .owner, false, true, []⟩,
  ⟨0x080108, 256, 2, 0x1FFFF, 0x0, 0x0, 0x1FFFF, 0x0, false, .owner, false, true, [⟨0, 17, false, 0, 65536⟩]⟩,
  ⟨0x08010C, 256, 2, 0xFFFFFFFF, 0x0, 0x0, 0xFFFFFFFF, 0x12C029CC, false, .owner, false, true, [⟨16, 16, false, 2000, 8000⟩, ⟨0, 16, false, 5000, 20000⟩]⟩,
  ⟨0x080110, 256, 2, 0xFFFFFFFF, 0x0, 0x0, 0xFFFFFFFF, 0x0, false, .owner, false, true, []⟩,
  ⟨0x080114, 256, 2, 0x870FFF00, 0x0, 0x0, 0x870FFF00, 0x40A00, false, .owner, false, true, [⟨8, 8, false, 1, 255⟩]⟩,
  ⟨0x080118, 256, 2, 0xFFFF, 0x0, 0xC0000000, 0xF000FFFF, 0x0, false, .owner, false, false, []⟩,
  ⟨0x08011C, 256, 2, 0x0, 0x0, 0x0, 0x8000FFFF, 0x0, false, .owner, false, false, []⟩,
  ⟨0x080120, 256, 2, 0x0, 0x0, 0x0, 0x80FF000F, 0x0, false, .owner, false, false, []⟩,
  ⟨0x080124, 256, 2, 0x0, 0x0, 0x0, 0x3FFFFFFF, 0x0, false, .owner, false, false, []⟩,
  ⟨0x080128, 256, 2, 0x0, 0x0, 0x0, 0xFFFFFFFF, 0x0, false, .owner, false, false, []⟩,
  ⟨0x08012C, 256, 2, 0x0, 0x0, 0x0, 0xFFFF, 0x0, false, .owner, false, false, []⟩,
  ⟨0x080130, 256, 2, 0x0, 0x0, 0x0, 0xFFFFFFFF, 0x0, false, .owner, false, false, []⟩,
  ⟨0x080140, 256, 2, 0xFFFF, 0x0, 0x0, 0xFFFF, 0x0, false, .any, false, false, []⟩,
  ⟨0x080144, 256, 2, 0x0, 0x0, 0x0, 0xFFFFFFFF, 0x0, false, .owner, false, false, []⟩,
  ⟨0x080148, 256, 2, 0x0, 0x0, 0x0, 0xFFFFFF0F, 0x0, false, .owner, false, false, []⟩,
  ⟨0x08014C, 256, 2, 0x0, 0x0, 0x0, 0xFFFFFFFF, 0x0, false, .owner, false, false, []⟩,
  ⟨0x080150, 256, 2, 0x0, 0x0, 0x0, 0xFFFF0000, 0x0, false, .owner, false, false, []⟩
]

/-- The register words of block 0x09. -/
def rows09 : List RegRow := [
  ⟨0x090000, 4, 1, 0x0, 0x60000000, 0x0, 0xE001FFFF, 0x0, false, .any, false, false, []⟩,
  ⟨0x090004, 4, 1, 0xFFFF, 0x0, 0x0, 0xFFFF, 0x4080, false, .owner, false, false, [⟨0, 8, false, 1, 255⟩]⟩,
  ⟨0x090008, 4, 1, 0x0, 0x0, 0x0, 0xFFFFFFFF, 0x0, false, .owner, false, false, []⟩,
  ⟨0x09000C, 4, 1, 0x0, 0x0, 0x0, 0xFFFFFFFF, 0x0, false, .owner, false, false, []⟩,
  ⟨0x090010, 4, 1, 0xFFFF, 0x0, 0x0, 0xFFFF, 0x0, false, .owner, false, false, []⟩,
  ⟨0x090014, 4, 1, 0xFFFFFFFF, 0x0, 0x0, 0xFFFFFFFF, 0x0, false, .owner, false, false, []⟩,
  ⟨0x090018, 4, 1, 0xFFFFFFFF, 0x0, 0x0, 0xFFFFFFFF, 0x0, false, .owner, false, false, []⟩,
  ⟨0x09001C, 4, 1, 0x0, 0x0, 0x0, 0xFFFFFFFF, 0x0, false, .owner, false, false, []⟩,
  ⟨0x090100, 32, 64, 0xFFFFFFFF, 0x0, 0x0, 0xFFFFFFFF, 0x0, false, .trgUnit 0x090100 32, true, false, [⟨28, 3, false, 0, 4⟩, ⟨22, 4, false, 0, 7⟩]⟩,
  ⟨0x090104, 32, 64, 0xFFFFFFFF, 0x0, 0x0, 0xFFFFFFFF, 0x0, false, .trgUnit 0x090100 32, true, false, []⟩,
  ⟨0x090108, 32, 64, 0xFFFFFFFF, 0x0, 0x0, 0xFFFFFFFF, 0x0, false, .trgUnit 0x090100 32, true, false, []⟩,
  ⟨0x09010C, 32, 64, 0xFFFFFFFF, 0x0, 0x0, 0xFFFFFFFF, 0x0, false, .trgUnit 0x090100 32, true, false, [⟨0, 32, true, 0, 2147483647⟩]⟩,
  ⟨0x090110, 32, 64, 0xFFFFFFFF, 0x0, 0x0, 0xFFFFFFFF, 0x0, false, .trgUnit 0x090100 32, true, false, []⟩,
  ⟨0x090114, 32, 64, 0xFFFFFFFF, 0x0, 0x0, 0xFFFFFFFF, 0x0, false, .trgUnit 0x090100 32, true, false, []⟩,
  ⟨0x090118, 32, 64, 0xF703FFFF, 0x0, 0x0, 0xFF03FFFF, 0x8000000, false, .trgUnit 0x090100 32, true, false, []⟩,
  ⟨0x09011C, 32, 64, 0x3FFFF, 0x0, 0x0, 0x3FFFF, 0x0, false, .trgUnit 0x090100 32, true, false, []⟩,
  ⟨0x091000, 32, 16, 0x10FFFEFF, 0x3000000, 0xE0000000, 0xFFFFFEFF, 0x0, false, .capUnit 0x091000 32, true, false, []⟩,
  ⟨0x091004, 32, 16, 0xFFFFFFFF, 0x0, 0x0, 0xFFFFFFFF, 0x0, false, .capUnit 0x091000 32, true, false, []⟩,
  ⟨0x091008, 32, 16, 0xFFFFFFFF, 0x0, 0x0, 0xFFFFFFFF, 0x1, false, .capUnit 0x091000 32, true, false, [⟨0, 32, false, 1, 4294967295⟩]⟩,
  ⟨0x09100C, 32, 16, 0x0, 0x0, 0x0, 0xFFFF000F, 0x0, false, .capUnit 0x091000 32, false, false, []⟩,
  ⟨0x091010, 32, 16, 0x0, 0x0, 0x0, 0xFFFFFFFF, 0x0, false, .capUnit 0x091000 32, false, false, []⟩,
  ⟨0x091014, 32, 16, 0x0, 0x0, 0x0, 0x3FFFFFFF, 0x0, false, .capUnit 0x091000 32, false, false, []⟩,
  ⟨0x091018, 32, 16, 0x0, 0x0, 0x0, 0xFFFFFFFF, 0x0, false, .capUnit 0x091000 32, false, false, []⟩,
  ⟨0x09101C, 32, 16, 0x0, 0x0, 0x0, 0xFFFF, 0x0, false, .capUnit 0x091000 32, false, false, []⟩
]

/-- The register words of block 0x0A. -/
def rows0A : List RegRow := [
  ⟨0x0A0000, 4, 1, 0x0, 0x0, 0x0, 0xFFFFFFFF, 0x0, false, .owner, false, false, []⟩,
  ⟨0x0A0040, 4, 16, 0x0, 0x0, 0x0, 0x800FFFFF, 0x0, false, .owner, false, false, []⟩,
  ⟨0x0A0100, 32, 16, 0x0, 0x0, 0xC0000000, 0xFFFFFFFF, 0x0, false, .slot 0x0A0100 32, false, false, []⟩,
  ⟨0x0A0104, 32, 16, 0x873F003F, 0x0, 0x0, 0x873F003F, 0x0, false, .slot 0x0A0100 32, true, false, [⟨24, 3, false, 0, 4⟩, ⟨0, 6, false, 0, 32⟩]⟩,
  ⟨0x0A0108, 32, 16, 0x3FFFF, 0x0, 0x0, 0x3FFFF, 0x0, false, .slot 0x0A0100 32, true, false, []⟩,
  ⟨0x0A010C, 32, 16, 0x3FFFF, 0x0, 0x0, 0x3FFFF, 0x0, false, .slot 0x0A0100 32, true, false, []⟩,
  ⟨0x0A0110, 32, 16, 0x0, 0x0, 0x0, 0x3FFF3FFF, 0x0, false, .slot 0x0A0100 32, false, false, []⟩,
  ⟨0x0A0114, 32, 16, 0x0, 0x0, 0x0, 0xFFFFFFFF, 0x0, false, .slot 0x0A0100 32, false, false, []⟩,
  ⟨0x0A0118, 32, 16, 0x0, 0x0, 0x0, 0xFF1FFF00, 0x0, false, .slot 0x0A0100 32, false, false, []⟩,
  ⟨0x0A011C, 32, 16, 0x0, 0x0, 0x0, 0xFFFFFFFF, 0x0, false, .slot 0x0A0100 32, false, false, []⟩
]

/-- The register words of block 0x0B. -/
def rows0B : List RegRow := [
  ⟨0x0B0000, 4, 64, 0x3FF, 0x0, 0x0, 0x3FF, 0xC2, false, .stream 0x0B0000 4, true, false, [⟨4, 5, false, 2, 24⟩, ⟨0, 4, false, 0, 9⟩]⟩
]

/-- The register words of block 0x0C. -/
def rows0C : List RegRow := [
  ⟨0x0C0000, 4, 1, 0xFFFF, 0x0, 0x0, 0xFFFF, 0x400, false, .owner, true, false, []⟩,
  ⟨0x0C0004, 4, 2, 0x83FF3FFF, 0x0, 0x0, 0x83FF3FFF, 0x6405DC, false, .owner, true, false, [⟨16, 10, false, 1, 1000⟩, ⟨0, 14, false, 576, 9216⟩]⟩,
  ⟨0x0C0020, 16, 2, 0xFFFFF, 0x0, 0x0, 0xFFFFF, 0x3E8, false, .owner, true, false, [⟨0, 20, false, 10, 1000000⟩]⟩,
  ⟨0x0C0024, 16, 2, 0x3FFFFFFF, 0x0, 0x0, 0x3FFFFFFF, 0x0, false, .owner, true, false, []⟩,
  ⟨0x0C0028, 16, 2, 0x3FFFFFFF, 0x0, 0x0, 0x3FFFFFFF, 0x0, false, .owner, true, false, []⟩,
  ⟨0x0C0100, 32, 8, 0xFFFFFFFF, 0x0, 0x0, 0xFFFFFFFF, 0x0, false, .ring 0x0C0100 32, true, false, []⟩,
  ⟨0x0C0104, 32, 8, 0xFFFFFFFF, 0x0, 0x0, 0xFFFFFFFF, 0x0, false, .ring 0x0C0100 32, true, false, []⟩,
  ⟨0x0C0108, 32, 8, 0x1F, 0x0, 0x0, 0x1F, 0x10, false, .ring 0x0C0100 32, true, false, [⟨0, 5, false, 16, 30⟩]⟩,
  ⟨0x0C010C, 32, 8, 0xFFFFFFFF, 0x0, 0x0, 0xFFFFFFFF, 0x0, false, .ring 0x0C0100 32, true, false, []⟩,
  ⟨0x0C0110, 32, 8, 0xFFFFFFFF, 0x0, 0x0, 0xFFFFFFFF, 0x0, false, .ring 0x0C0100 32, true, false, []⟩,
  ⟨0x0C0114, 32, 8, 0xFFFFFFFF, 0x0, 0x0, 0xFFFFFFFF, 0x0, false, .ring 0x0C0100 32, false, false, []⟩,
  ⟨0x0C0118, 32, 8, 0x0, 0x0, 0x0, 0xFFFFFFFF, 0x0, false, .ring 0x0C0100 32, false, false, []⟩,
  ⟨0x0C011C, 32, 8, 0x0, 0x0, 0x0, 0xFFFFFFFF, 0x0, false, .ring 0x0C0100 32, false, false, []⟩,
  ⟨0x0C1000, 64, 64, 0xFFF8FFFF, 0x0, 0x0, 0xFFF8FFFF, 0x7D0, false, .stream 0x0C1000 64, true, false, [⟨22, 3, false, 0, 2⟩, ⟨0, 16, false, 0, 10000⟩]⟩,
  ⟨0x0C1004, 64, 64, 0x3FFFF, 0x0, 0x0, 0x3FFFF, 0x0, false, .stream 0x0C1000 64, true, false, []⟩,
  ⟨0x0C1008, 64, 64, 0x3FFFF, 0x0, 0x0, 0x3FFFF, 0x0, false, .stream 0x0C1000 64, true, false, []⟩,
  ⟨0x0C100C, 64, 64, 0xF3FF0000, 0x0, 0x0, 0xF3FF0000, 0xA0000, false, .stream 0x0C1000 64, true, false, [⟨16, 10, false, 1, 1000⟩]⟩,
  ⟨0x0C1010, 64, 64, 0xFFFFFFFF, 0x0, 0x0, 0xFFFFFFFF, 0x0, false, .stream 0x0C1000 64, true, false, []⟩,
  ⟨0x0C1014, 64, 64, 0xFFFFFFFF, 0x0, 0x0, 0xFFFFFFFF, 0x0, false, .stream 0x0C1000 64, true, false, []⟩,
  ⟨0x0C1018, 64, 64, 0xFFFFFFFF, 0x0, 0x0, 0xFFFFFFFF, 0x0, false, .stream 0x0C1000 64, true, false, []⟩,
  ⟨0x0C101C, 64, 64, 0xFFFFFFFF, 0x0, 0x0, 0xFFFFFFFF, 0x0, false, .stream 0x0C1000 64, true, false, []⟩,
  ⟨0x0C1020, 64, 64, 0xFFFFFFFF, 0x0, 0x0, 0xFFFFFFFF, 0xB990B990, false, .stream 0x0C1000 64, true, false, []⟩,
  ⟨0x0C1024, 64, 64, 0xFC000000, 0x0, 0x0, 0xFC000000, 0x0, false, .stream 0x0C1000 64, true, false, []⟩,
  ⟨0x0C1028, 64, 64, 0x0, 0x0, 0x0, 0xFFFFFFFF, 0x0, false, .stream 0x0C1000 64, false, false, []⟩,
  ⟨0x0C102C, 64, 64, 0x0, 0x0, 0x0, 0xFFFFFFFF, 0x0, false, .stream 0x0C1000 64, false, false, []⟩,
  ⟨0x0C1030, 64, 64, 0x0, 0x0, 0x0, 0xFFFFFFFF, 0x0, false, .stream 0x0C1000 64, false, false, []⟩,
  ⟨0x0C1034, 64, 64, 0x0, 0x0, 0x0, 0xFFFFFFFF, 0x0, false, .stream 0x0C1000 64, false, false, []⟩,
  ⟨0x0C1038, 64, 64, 0x0, 0x0, 0x0, 0xFFFFFFFF, 0x0, false, .stream 0x0C1000 64, false, false, []⟩,
  ⟨0x0C103C, 64, 64, 0x0, 0x0, 0x0, 0xC0000000, 0x0, false, .stream 0x0C1000 64, false, false, []⟩
]

/-- The register words of block 0x0D. -/
def rows0D : List RegRow := [
  ⟨0x0D0000, 256, 2, 0xFF000FFF, 0x0, 0x0, 0xFF000FFF, 0xA0000000, false, .owner, true, false, [⟨28, 2, false, 0, 2⟩]⟩,
  ⟨0x0D0004, 256, 2, 0x0, 0x0, 0x0, 0xF000FFFF, 0x0, false, .owner, false, false, []⟩,
  ⟨0x0D0008, 256, 2, 0x0, 0x0, 0x0, 0xFFFF, 0x0, true, .owner, false, false, []⟩,
  ⟨0x0D000C, 256, 2, 0x0, 0x0, 0x0, 0xFFFFFFFF, 0x0, true, .owner, false, false, []⟩,
  ⟨0x0D0010, 256, 2, 0xFFFFFFFF, 0x0, 0x0, 0xFFFFFFFF, 0x0, false, .owner, true, false, []⟩,
  ⟨0x0D0014, 256, 2, 0x3F, 0x0, 0x0, 0x3F, 0x0, false, .owner, true, false, [⟨0, 6, false, 0, 32⟩]⟩,
  ⟨0x0D0018, 256, 2, 0xFFFFFFFF, 0x0, 0x0, 0xFFFFFFFF, 0x0, false, .owner, true, false, []⟩,
  ⟨0x0D001C, 256, 2, 0xFF, 0x0, 0x0, 0xFF, 0x0, false, .owner, true, false, [⟨0, 8, false, 0, 128⟩]⟩,
  ⟨0x0D0020, 256, 2, 0xFFFFFFFF, 0x0, 0x0, 0xFFFFFFFF, 0x0, false, .owner, true, false, []⟩,
  ⟨0x0D0024, 256, 2, 0xFFFFFFFF, 0x0, 0x0, 0xFFFFFFFF, 0x0, false, .owner, true, false, []⟩,
  ⟨0x0D0028, 256, 2, 0xFFFFFFFF, 0x0, 0x0, 0xFFFFFFFF, 0x0, false, .owner, true, false, []⟩,
  ⟨0x0D002C, 256, 2, 0xFFFFFFFF, 0x0, 0x0, 0xFFFFFFFF, 0x0, false, .owner, true, false, []⟩,
  ⟨0x0D0030, 256, 2, 0xFFFFFFFF, 0x0, 0x0, 0xFFFFFFFF, 0x0, false, .owner, true, false, []⟩,
  ⟨0x0D0034, 256, 2, 0xFFFFFFFF, 0x0, 0x0, 0xFFFFFFFF, 0x0, false, .owner, true, false, []⟩,
  ⟨0x0D0038, 256, 2, 0xFFFFFFFF, 0x0, 0x0, 0xFFFFFFFF, 0x0, false, .owner, true, false, []⟩,
  ⟨0x0D003C, 256, 2, 0xFFFFFFFF, 0x0, 0x0, 0xFFFFFFFF, 0x0, false, .owner, true, false, []⟩,
  ⟨0x0D0040, 256, 2, 0xFFFFFFFF, 0x0, 0x0, 0xFFFFFFFF, 0x0, false, .owner, true, false, []⟩,
  ⟨0x0D0044, 256, 2, 0xFFFFFFFF, 0x0, 0x0, 0xFFFFFFFF, 0x0, false, .owner, true, false, []⟩,
  ⟨0x0D0048, 256, 2, 0x0, 0x0, 0x0, 0xFFFFFFFF, 0x0, true, .owner, false, false, []⟩,
  ⟨0x0D004C, 256, 2, 0x0, 0x0, 0x0, 0xFFFFFFFF, 0x0, true, .owner, false, false, []⟩,
  ⟨0x0D0050, 256, 2, 0x0, 0x0, 0x0, 0xFFFFFFFF, 0x0, false, .owner, false, false, []⟩,
  ⟨0x0D0054, 256, 2, 0x0, 0x0, 0x0, 0xFFFFFFFF, 0x0, false, .owner, false, false, []⟩,
  ⟨0x0D0058, 256, 2, 0x0, 0x0, 0x0, 0xFFFFFFFF, 0x0, false, .owner, false, false, []⟩
]

/-- The register words of block 0x0E. -/
def rows0E : List RegRow := [
  ⟨0x0E0000, 4, 1, 0x0, 0x0, 0x0, 0x3FFFFFFF, 0x0, false, .owner, false, false, []⟩,
  ⟨0x0E0004, 4, 1, 0x0, 0x0, 0x0, 0xFFFFFFFF, 0x0, false, .owner, false, false, []⟩,
  ⟨0x0E0008, 4, 1, 0x0, 0x0, 0x0, 0xFFFFFFFF, 0x0, false, .owner, false, false, []⟩,
  ⟨0x0E0010, 4, 1, 0xFFC0FFF0, 0x0, 0x0, 0xFFC0FFF0, 0x0, false, .owner, true, false, [⟨30, 2, false, 0, 2⟩, ⟨26, 2, false, 0, 2⟩, ⟨4, 4, true, -7, 1⟩]⟩,
  ⟨0x0E0014, 4, 1, 0x0, 0x0, 0x0, 0xFFFFFFFF, 0x0, false, .owner, false, false, []⟩,
  ⟨0x0E0018, 4, 1, 0x0, 0x1000000, 0x0, 0xFF00FFFF, 0x10000000, false, .any, false, false, []⟩,
  ⟨0x0E001C, 4, 1, 0x0, 0x0, 0x0, 0xFFFFFFFF, 0x0, false, .owner, false, false, []⟩,
  ⟨0x0E0020, 4, 1, 0xFFFFFFFF, 0x0, 0x0, 0xFFFFFFFF, 0x640064, false, .owner, true, false, [⟨16, 16, false, 1, 65535⟩, ⟨0, 16, false, 1, 65535⟩]⟩
]

/-- The register words of block 0x0F. -/
def rows0F : List RegRow := [
  ⟨0x0F0000, 4, 1, 0xFFF0FFFF, 0x0, 0x0, 0xFFF0FFFF, 0x0, false, .any, false, false, [⟨30, 2, false, 0, 2⟩, ⟨27, 3, false, 0, 5⟩, ⟨24, 3, false, 0, 5⟩, ⟨20, 2, false, 0, 2⟩]⟩,
  ⟨0x0F0004, 4, 1, 0xFFFFFF, 0x0, 0x0, 0xFFFFFF, 0x1, false, .any, false, false, [⟨0, 24, false, 1, 16777215⟩]⟩,
  ⟨0x0F0008, 4, 1, 0x1FFFFFF, 0x0, 0x0, 0x1FFFFFF, 0x2, false, .any, false, false, [⟨0, 25, false, 2, 16777216⟩]⟩,
  ⟨0x0F000C, 4, 1, 0x0, 0x0, 0xC0000000, 0xE1FFFFFF, 0x0, false, .any, false, false, []⟩,
  ⟨0x0F0040, 4, 1, 0x0, 0x0, 0x0, 0x80FF00C3, 0x0, false, .owner, false, false, []⟩,
  ⟨0x0F0044, 4, 1, 0x0, 0x0, 0x0, 0x1FFFFFF, 0x0, false, .owner, false, false, []⟩,
  ⟨0x0F0048, 4, 2, 0x0, 0x0, 0x0, 0xFFFFFFFF, 0x0, false, .owner, false, false, []⟩,
  ⟨0x0F0050, 4, 2, 0x0, 0x0, 0x0, 0xFFFFFFFF, 0x0, false, .owner, false, false, []⟩,
  ⟨0x0F0058, 4, 2, 0x0, 0x0, 0x0, 0xFFFFFFFF, 0x0, false, .owner, false, false, []⟩,
  ⟨0x0F0060, 4, 2, 0x0, 0x0, 0x0, 0xFFFFFFFF, 0x0, false, .owner, false, false, []⟩,
  ⟨0x0F0068, 4, 1, 0x0, 0x0, 0x0, 0xFFFFFFFF, 0x0, false, .owner, false, false, []⟩
]

/-- The register words of block 0x10. -/
def rows10 : List RegRow := [
  ⟨0x100000, 4, 1, 0xE0000FFF, 0x0, 0x0, 0xE0000FFF, 0x0, false, .owner, true, false, []⟩,
  ⟨0x100004, 4, 1, 0xFFFFF, 0x0, 0x0, 0xFFFFF, 0x5DC, false, .owner, true, false, [⟨0, 20, false, 100, 1000000⟩]⟩,
  ⟨0x100008, 4, 1, 0x0, 0x0, 0x0, 0xFF001FFF, 0x0, false, .owner, false, false, []⟩,
  ⟨0x100010, 4, 2, 0x0, 0x0, 0x0, 0xFFFFFFFF, 0x0, false, .owner, false, false, []⟩,
  ⟨0x100018, 4, 2, 0xFFFFFFFF, 0x0, 0x0, 0xFFFFFFFF, 0x0, false, .owner, true, false, []⟩,
  ⟨0x100020, 4, 1, 0x0, 0x0, 0x0, 0xFFFFFFFF, 0x0, false, .owner, false, false, []⟩,
  ⟨0x100030, 4, 1, 0x9000FFFF, 0x0, 0x0, 0xF000FFFF, 0x30000032, false, .owner, true, false, []⟩,
  ⟨0x100040, 4, 2, 0x0, 0x0, 0x0, 0xFFFFFFFF, 0x0, false, .owner, false, false, []⟩,
  ⟨0x100050, 4, 1, 0xFF, 0x0, 0x80000000, 0x800000FF, 0x0, false, .owner, true, false, []⟩,
  ⟨0x101000, 8, 4096, 0x0, 0x0, 0x0, 0xC0000FFF, 0x0, false, .owner, false, false, []⟩,
  ⟨0x101004, 8, 4096, 0x0, 0x0, 0x0, 0xFFFFFFFF, 0x0, false, .owner, false, false, []⟩
]

/-- The register words of block 0x11. -/
def rows11 : List RegRow := [
  ⟨0x110000, 4, 1, 0xC0000FFF, 0x0, 0x0, 0xC0000FFF, 0x0, false, .owner, true, false, []⟩,
  ⟨0x110004, 4, 1, 0xFFFFFFFF, 0x0, 0x0, 0xFFFFFFFF, 0x3C03E8, false, .owner, true, false, [⟨16, 16, false, 1, 3600⟩, ⟨0, 16, false, 250, 10000⟩]⟩,
  ⟨0x110008, 4, 1, 0x0, 0x8000000, 0x0, 0xFE00FFFF, 0x0, false, .any, false, false, []⟩,
  ⟨0x11000C, 4, 1, 0x0, 0x0, 0x0, 0xFF000FFF, 0x0, false, .owner, false, false, []⟩,
  ⟨0x110010, 4, 1, 0x0, 0x0, 0xFFFFFFFF, 0xFFFFFFFF, 0x0, false, .referee, false, false, []⟩,
  ⟨0x110014, 4, 1, 0x0, 0x0, 0x0, 0xFF7FFFFF, 0xFF000000, false, .owner, false, false, []⟩,
  ⟨0x110018, 4, 1, 0x0, 0x0, 0x0, 0xFFF, 0x0, false, .owner, false, false, []⟩,
  ⟨0x11001C, 4, 1, 0x0, 0x0, 0x0, 0xFFFFFFFF, 0x0, false, .owner, false, false, []⟩,
  ⟨0x110040, 4, 1, 0x80FFFFFF, 0x0, 0x0, 0x80FFFFFF, 0x0, false, .owner, true, false, []⟩,
  ⟨0x110044, 4, 1, 0xFFF, 0x0, 0x0, 0xFFF, 0x0, false, .owner, false, false, []⟩,
  ⟨0x110048, 4, 1, 0x0, 0x0, 0x0, 0xF000FFFF, 0x0, false, .owner, false, false, []⟩
]

/-- The register words of block 0x12. -/
def rows12 : List RegRow := [
  ⟨0x120000, 4, 1, 0x3F771F00, 0x0, 0xC0000000, 0xFF771F03, 0x0, false, .owner, true, false, [⟨24, 3, false, 0, 6⟩, ⟨20, 3, false, 0, 6⟩, ⟨16, 3, false, 0, 4⟩, ⟨8, 5, false, 0, 16⟩]⟩,
  ⟨0x120004, 4, 1, 0xFFFFF, 0x0, 0x0, 0xFFFFF, 0x2710, false, .owner, true, false, [⟨0, 20, false, 1, 600000⟩]⟩,
  ⟨0x120008, 4, 1, 0xFFFF000F, 0x0, 0x0, 0xFFFF000F, 0x140000, false, .owner, true, false, [⟨16, 16, false, 1, 1000⟩, ⟨2, 2, false, 0, 2⟩, ⟨0, 2, false, 0, 2⟩]⟩,
  ⟨0x12000C, 4, 1, 0x0, 0x3C00FF00, 0x0, 0xFFC0FFFF, 0x0, false, .any, false, false, []⟩,
  ⟨0x120010, 4, 1, 0xFF000000, 0x0, 0x0, 0xFF00000F, 0xA000000, false, .owner, true, false, []⟩,
  ⟨0x120014, 4, 1, 0x3, 0x0, 0x0, 0x30003, 0x0, false, .owner, false, false, []⟩,
  ⟨0x120018, 4, 1, 0x3FFF, 0x0, 0x80000000, 0x80003FFF, 0x64, false, .owner, true, false, [⟨0, 14, false, 10, 10000⟩]⟩,
  ⟨0x12001C, 4, 1, 0x0, 0x0, 0x0, 0xFFFFFFFF, 0x0, false, .owner, false, false, []⟩,
  ⟨0x120020, 4, 1, 0x0, 0x0, 0x0, 0xFFFFFFFF, 0x0, false, .owner, false, false, []⟩,
  ⟨0x120024, 4, 1, 0x0, 0x0, 0x0, 0xFFFFFFFF, 0x0, false, .owner, false, false, []⟩,
  ⟨0x120040, 16, 16, 0xFFFFE0FF, 0x0, 0x0, 0xFFFFE0FF, 0x0, false, .owner, true, false, [⟨21, 2, false, 0, 2⟩, ⟨15, 2, false, 0, 2⟩, ⟨13, 2, false, 0, 2⟩, ⟨0, 8, false, 1, 255⟩]⟩,
  ⟨0x120044, 16, 16, 0xFFFFFFFF, 0x0, 0x0, 0xFFFFFFFF, 0x0, false, .owner, true, false, []⟩,
  ⟨0x120048, 16, 16, 0xFFFFFFFF, 0x0, 0x0, 0xFFFFFFFF, 0x0, false, .owner, true, false, []⟩,
  ⟨0x120140, 16, 4, 0xFFFFE0FF, 0x0, 0x0, 0xFFFFE0FF, 0x0, false, .owner, true, false, [⟨21, 2, false, 0, 2⟩, ⟨15, 2, false, 0, 2⟩, ⟨13, 2, false, 0, 2⟩, ⟨0, 8, false, 1, 255⟩]⟩,
  ⟨0x120144, 16, 4, 0xFFFFFFFF, 0x0, 0x0, 0xFFFFFFFF, 0x0, false, .owner, true, false, []⟩,
  ⟨0x120148, 16, 4, 0xFFFFFFFF, 0x0, 0x0, 0xFFFFFFFF, 0x0, false, .owner, true, false, []⟩,
  ⟨0x120200, 32, 12, 0x0, 0x0, 0x0, 0x8FFFFFFF, 0x0, false, .owner, false, false, []⟩,
  ⟨0x120204, 32, 12, 0x0, 0x0, 0x0, 0xFFFFFFFF, 0x0, false, .owner, false, false, []⟩,
  ⟨0x120208, 32, 12, 0x0, 0x0, 0x0, 0x3FFFFFFF, 0x0, false, .owner, false, false, []⟩,
  ⟨0x12020C, 32, 12, 0x0, 0x0, 0x0, 0xFFFFFFFF, 0x0, false, .owner, false, false, []⟩,
  ⟨0x120210, 32, 12, 0x0, 0x0, 0x0, 0xFFFF, 0x0, false, .owner, false, false, []⟩
]

/-- The register words of block 0x13. -/
def rows13 : List RegRow := [
  ⟨0x130000, 4, 1, 0x3FFF1F00, 0x0, 0xC0000000, 0xFFFF1F07, 0x0, false, .owner, true, false, [⟨22, 2, false, 0, 2⟩, ⟨16, 3, false, 0, 4⟩, ⟨8, 5, false, 0, 16⟩]⟩,
  ⟨0x130004, 4, 1, 0xFFFFF, 0x0, 0x0, 0xFFFFF, 0x3E8, false, .owner, true, false, [⟨0, 20, false, 10, 1000000⟩]⟩,
  ⟨0x130008, 4, 1, 0x0, 0x0, 0x0, 0xFFFFFFFF, 0x0, false, .owner, false, false, []⟩,
  ⟨0x130040, 4, 16, 0xFF800000, 0x0, 0x0, 0xFF800000, 0x0, false, .owner, true, false, [⟨26, 6, false, 0, 39⟩, ⟨23, 3, false, 0, 4⟩]⟩,
  ⟨0x130080, 4, 4, 0xFF800000, 0x0, 0x0, 0xFF800000, 0x0, false, .owner, true, false, [⟨26, 6, false, 0, 39⟩, ⟨23, 3, false, 0, 4⟩]⟩,
  ⟨0x130200, 32, 44, 0x0, 0x0, 0x0, 0x8FFFFFFF, 0x0, false, .owner, false, false, []⟩,
  ⟨0x130204, 32, 44, 0x0, 0x0, 0x0, 0xFFFFFFFF, 0x0, false, .owner, false, false, []⟩,
  ⟨0x130208, 32, 44, 0x0, 0x0, 0x0, 0x3FFFFFFF, 0x0, false, .owner, false, false, []⟩,
  ⟨0x13020C, 32, 44, 0x0, 0x0, 0x0, 0xFFFFFFFF, 0x0, false, .owner, false, false, []⟩,
  ⟨0x130210, 32, 44, 0x0, 0x0, 0x0, 0xFFFF, 0x0, false, .owner, false, false, []⟩
]

/-- The register words of block 0x14. -/
def rows14 : List RegRow := [
  ⟨0x140000, 4, 1, 0x0, 0x5FFF0000, 0x0, 0xDFFF1FFF, 0x0, false, .owner, false, false, []⟩,
  ⟨0x140004, 4, 1, 0x0, 0x0, 0x0, 0x1FFF1FFF, 0x0, false, .owner, false, false, []⟩,
  ⟨0x140008, 4, 1, 0x0, 0x0, 0x0, 0x1FFF, 0x0, false, .owner, false, false, []⟩,
  ⟨0x140010, 4, 1, 0xFFFFFF, 0x0, 0x0, 0xFFFFFF, 0x140E10, false, .owner, true, false, [⟨16, 8, false, 5, 200⟩, ⟨0, 16, false, 60, 65535⟩]⟩,
  ⟨0x140014, 4, 1, 0xFF00FFFF, 0x0, 0x0, 0xFF00FFFF, 0x300000A, false, .owner, true, false, [⟨24, 8, false, 1, 255⟩, ⟨0, 16, false, 1, 65535⟩]⟩,
  ⟨0x140018, 4, 1, 0x1FFF, 0x0, 0x0, 0x1FFF, 0x1FFF, false, .owner, true, false, []⟩,
  ⟨0x140100, 32, 13, 0x0, 0x0, 0x0, 0xFFFFFFFF, 0x0, false, .owner, false, false, []⟩,
  ⟨0x140104, 32, 13, 0x0, 0x0, 0x0, 0xFFFFFF00, 0x0, false, .owner, false, false, []⟩,
  ⟨0x140108, 32, 13, 0x0, 0x0, 0x0, 0xFFFF, 0x0, false, .owner, false, false, []⟩,
  ⟨0x14010C, 32, 13, 0x0, 0x0, 0x0, 0x3FFFFFFF, 0x0, false, .owner, false, false, []⟩,
  ⟨0x140110, 32, 13, 0x0, 0x0, 0x0, 0xFFFFFFFF, 0x0, false, .owner, false, false, []⟩,
  ⟨0x140114, 32, 13, 0x0, 0x0, 0x0, 0xFFFF, 0x0, false, .owner, false, false, []⟩,
  ⟨0x140118, 32, 13, 0x0, 0x0, 0x0, 0xFFFF, 0x0, false, .owner, false, false, []⟩,
  ⟨0x14011C, 32, 13, 0x0, 0x0, 0x0, 0xFFFF, 0x0, false, .owner, false, false, []⟩
]

/-- The register words of block 0x15. -/
def rows15 : List RegRow := [
  ⟨0x150000, 4, 1, 0x1, 0x0, 0x0, 0x1, 0x1, false, .owner, true, false, []⟩,
  ⟨0x150004, 4, 1, 0x0, 0x0, 0x0, 0xFFFFE3, 0x492000, false, .owner, false, false, []⟩,
  ⟨0x150008, 4, 1, 0x0, 0x0, 0x0, 0xFFFF, 0x0, false, .owner, false, false, []⟩,
  ⟨0x15000C, 4, 1, 0x1F1FFF, 0x0, 0x0, 0x1F1FFF, 0x81000, false, .owner, true, false, [⟨16, 5, false, 4, 16⟩, ⟨0, 13, false, 512, 4096⟩]⟩,
  ⟨0x150010, 4, 1, 0x3FF, 0x0, 0x0, 0xFFFF03FF, 0x64, false, .owner, true, false, [⟨0, 10, false, 10, 1000⟩]⟩,
  ⟨0x150020, 4, 4, 0xFF, 0x0, 0x0, 0xFFFF00FF, 0x0, false, .owner, false, false, []⟩,
  ⟨0x150030, 4, 4, 0x0, 0x0, 0x0, 0xFFFFFFFF, 0x0, false, .owner, false, false, []⟩,
  ⟨0x150040, 4, 4, 0x0, 0x0, 0x0, 0xFFFFFFFF, 0x0, false, .owner, false, false, []⟩
]

/-- The register words of block 0x16. -/
def rows16 : List RegRow := [
  ⟨0x160000, 4, 1, 0x0, 0x0, 0x0, 0xFC0700FF, 0x0, false, .owner, false, false, []⟩,
  ⟨0x160004, 4, 1, 0x3F, 0x0, 0x0, 0x3F, 0x0, false, .owner, true, false, []⟩
]

/-- The register words of block 0x17. -/
def rows17 : List RegRow := [
  ⟨0x170000, 4, 1, 0x0, 0x0, 0x0, 0xFFFFE1FF, 0x2000, false, .owner, false, false, []⟩,
  ⟨0x170004, 4, 1, 0x0, 0x0, 0x80000000, 0x8000FFFF, 0x0, false, .owner, false, false, []⟩,
  ⟨0x170010, 4, 8, 0x0, 0x0, 0x0, 0xFFFFFFFF, 0x0, false, .owner, false, false, []⟩
]

/-- The register words of block 0x18. -/
def rows18 : List RegRow := [
  ⟨0x180000, 4, 1, 0xFFF, 0x0, 0x80000000, 0x80000FFF, 0x3C, false, .ptb, false, false, [⟨0, 12, false, 1, 3600⟩]⟩,
  ⟨0x180004, 4, 1, 0x0, 0x40000000, 0x0, 0xCFFF003F, 0x0, false, .ptb, false, false, []⟩,
  ⟨0x180010, 4, 1, 0xFF8003FF, 0x0, 0x0, 0xFF8003FF, 0x0, false, .ptb, false, false, []⟩,
  ⟨0x180014, 4, 1, 0xF0FFFFFF, 0x0, 0x0, 0xF0FFFFFF, 0x1, false, .ptb, false, false, [⟨0, 16, false, 1, 65535⟩]⟩,
  ⟨0x180018, 4, 1, 0xE1FFFFFF, 0x0, 0x0, 0xE1FFFFFF, 0x0, false, .ptb, false, false, []⟩,
  ⟨0x18001C, 4, 1, 0xF800FFFF, 0x0, 0x0, 0xF800FFFF, 0x0, false, .ptb, false, false, []⟩,
  ⟨0x180020, 4, 1, 0xFFFC03FF, 0x0, 0x0, 0xFFFC03FF, 0x1, false, .ptb, false, false, [⟨18, 10, false, 0, 1000⟩, ⟨0, 10, false, 1, 1000⟩]⟩,
  ⟨0x180024, 4, 2, 0xFFFFFFFF, 0x0, 0x0, 0xFFFFFFFF, 0x0, false, .ptb, false, false, []⟩,
  ⟨0x180040, 4, 6, 0x0, 0x0, 0x0, 0xFFFFFFFF, 0x0, false, .ptb, false, false, []⟩
]

/-- The register words of block 0x19. -/
def rows19 : List RegRow := [
  ⟨0x190000, 4, 1, 0xFFFF0003, 0x0, 0x0, 0xFFFF0003, 0xB9900003, false, .owner, true, false, [⟨16, 16, false, 1, 65535⟩]⟩,
  ⟨0x190004, 4, 1, 0x0, 0x0, 0x0, 0xFFFFFF, 0x0, false, .owner, false, false, []⟩,
  ⟨0x190010, 4, 12, 0x0, 0x0, 0x0, 0xFFFFFFFF, 0x0, false, .owner, false, false, []⟩,
  ⟨0x190100, 32, 2, 0x8003FFF, 0x30000000, 0x80000000, 0xF8003FFF, 0x0, false, .any, false, false, [⟨0, 14, false, 20, 8192⟩]⟩,
  ⟨0x190104, 32, 2, 0x0, 0x0, 0x0, 0x3FFF3FFF, 0x0, false, .owner, false, false, []⟩,
  ⟨0x190108, 32, 2, 0x0, 0x0, 0x0, 0xFFFF0000, 0x0, false, .owner, false, false, []⟩
]

/-- The rows of a block, by the upper byte of its offsets (R784). -/
def rowsOfBlock (b : Nat) : List RegRow :=
  match b with
  | 0 => rows00
  | 1 => rows01
  | 2 => rows02
  | 3 => rows03
  | 4 => rows04
  | 5 => rows05
  | 6 => rows06
  | 7 => rows07
  | 8 => rows08
  | 9 => rows09
  | 10 => rows0A
  | 11 => rows0B
  | 12 => rows0C
  | 13 => rows0D
  | 14 => rows0E
  | 15 => rows0F
  | 16 => rows10
  | 17 => rows11
  | 18 => rows12
  | 19 => rows13
  | 20 => rows14
  | 21 => rows15
  | 22 => rows16
  | 23 => rows17
  | 24 => rows18
  | 25 => rows19
  | _ => []

end Sys2Proof.Machine
end

