-- ==== Sys2Proof/Machine/State.lean ====
section
/-! DEFINITION. The state of the block as plain data: the register space, every piece of internal state the spec names,
what has left the device, the free-value counter and the queue of waiting commands; and the state right after reset. -/

namespace Sys2Proof.Machine

/-! ## Outcomes -/

/-- Why a command stops the machine. No command of this block stops it: the spec gives every row an effect, and a row
whose conditions do not hold is an event that did not occur and leaves the state as it was. The one constructor is
raised by nobody (safe: a claim that no fault occurs is true of every command). -/
inductive Fault where
  /-- Raised by nobody. Safe. -/
  | unreachable
  deriving DecidableEq, Repr

/-- Why a command has no meaning. -/
inductive Refusal where
  /-- Raised by an arm of `exec` whose command has no meaning yet. Safe: the machine stops. -/
  | notModelled (mnemonic : String)
  deriving DecidableEq, Repr

/-! ## The register space -/

/-- The register words and memory-window words that differ from their reset value, by byte offset, offsets strictly
rising (R8, R784, R785). A word not listed reads its reset value. -/
abbrev Space := List (Nat × Word)

/-- The row of the register map that holds the word at a byte offset. -/
def findRow : List RegRow → Nat → Option RegRow
  | [], _ => none
  | r :: t, off =>
    if r.base ≤ off && off < r.base + r.stride * r.count && (off - r.base) % r.stride == 0 then some r
    else findRow t off

/-- The row of the register map that holds the word at a byte offset, sought in its block. -/
def rowAt (off : Nat) : Option RegRow := findRow (rowsOfBlock (off / 0x10000)) off

/-- The device's serial number, as its factory words hold it. -/
def factorySerial : Nat := (Config.factoryWord 0x000008).toNat + (Config.factoryWord 0x00000C).toNat % 2 ^ 16 * 2 ^ 32

/-- The device's own factory value of a word. The MAC addresses of the two ports are consecutive and follow from the serial number
(R502); the internal latencies are those of RATE and FEC at reset (R506). -/
def factoryAt (off : Nat) : Word :=
  match off with
  | 0x0D0008 => BitVec.ofNat 32 ((Config.macOf factorySerial).toNat / 2 ^ 32)
  | 0x0D000C => BitVec.ofNat 32 (Config.macOf factorySerial).toNat
  | 0x0D0108 => BitVec.ofNat 32 ((Config.macOf factorySerial + 1).toNat / 2 ^ 32)
  | 0x0D010C => BitVec.ofNat 32 (Config.macOf factorySerial + 1).toNat
  | 0x0D0048 => Config.intLatency 0 false false 2
  | 0x0D004C => Config.intLatency 0 true false 2
  | 0x0D0148 => Config.intLatency 1 false false 2
  | 0x0D014C => Config.intLatency 1 true false 2
  | _ => Config.factoryWord off

/-- What a word reads after a FULL reset (R11, R788): its table's value, the device's own factory value in the bits its
table assigns where the table says so, and 0 for every word no table gives a value, memory windows included (R731, R786). -/
def resetWord (off : Nat) : Word :=
  match rowAt off with
  | some r =>
    if r.factory then (factoryAt off &&& BitVec.ofNat 32 r.all) ||| BitVec.ofNat 32 r.rst
    else BitVec.ofNat 32 r.rst
  | none => 0

/-- The listed value of a word. -/
def Space.find : Space → Nat → Option Word
  | [], _ => none
  | (a, v) :: t, off => if a = off then some v else Space.find t off

/-- A word of the space. -/
def Space.read (m : Space) (off : Nat) : Word := (m.find off).getD (resetWord off)

/-- The space with a word taken out of the list. -/
def Space.erase : Space → Nat → Space
  | [], _ => []
  | (a, v) :: t, off => if a = off then Space.erase t off else (a, v) :: Space.erase t off

/-- The space with one word listed at its place. -/
def Space.insert : Space → Nat → Word → Space
  | [], off, w => [(off, w)]
  | (a, v) :: t, off, w =>
    if a = off then (off, w) :: t
    else if off < a then (off, w) :: (a, v) :: t
    else (a, v) :: Space.insert t off w

/-- Write one word, keeping the canonical form: a word that holds its reset value is not listed. -/
def Space.write (m : Space) (off : Nat) (w : Word) : Space :=
  if w = resetWord off then m.erase off else m.insert off w

/-- The canonical form: offsets strictly rising, and no entry equal to what an unlisted word reads as. -/
def Space.wf : Space → Bool
  | [] => true
  | [(a, v)] => v != resetWord a
  | (a, v) :: (b, w) :: t => (v != resetWord a) && (decide (a < b)) && Space.wf ((b, w) :: t)

/-! ## Light (chapter 02) -/

/-- What outstanding hardware fault was reported (R39, R58, R86, R528, R534, R713). -/
inductive HwFault where
  | rprec
  | relock
  | gate
  | oven
  | synth
  | dram
  deriving DecidableEq, Repr

/-- The light path of one port beside its registers. -/
structure PortLight where
  /-- Peak power the loop now holds, 0.1 dBm (R49). -/
  level : Int := -1000
  /-- Launches of the port stopped by an open gate (R86). -/
  stopped : Bool := false
  /-- Consecutive diagnostic pulses with the gate current below half (R86). -/
  gateLow : Nat := 0
  /-- Continuity lengths of the most recent restore probes, newest first (R78, R79). -/
  probes : List Nat := []
  /-- Consecutive restore probes that reached FIBRE_END − TOL (R78). -/
  good : Nat := 0
  /-- A diagnostic pulse waits for the next guard window (R77). -/
  diagDue : Bool := false
  /-- Sweep in which the last diagnostic pulse fired (R85). -/
  diagSweep : Option Nat := none
  /-- Global number of the shot that the newest restore probe replaced (R77). -/
  restoreShot : Option Nat := none
  /-- APR.EN was cleared while the port was reduced; the port restores from the next sweep boundary (R81). -/
  restoreDue : Bool := false
  deriving DecidableEq, Repr

/-- The light block beside its registers: live causes, the lock attempt, thermistors, and what SAFE goes back to. -/
structure Light where
  /-- A thermal fault of R64 is present. -/
  thermal : Bool := false
  /-- The barrier link has been silent for 100 µs (R60). The island is not running after reset. -/
  silent : Bool := true
  /-- The voltage at RPREC is out of range; every sink is off (R39). -/
  rprec : Bool := false
  /-- A lock attempt is running (R56, R58, R59). -/
  attempt : Bool := false
  /-- LOCK has been set before, so the next lock counts in RELOCKS (R57). -/
  hadLock : Bool := false
  /-- Launching is held back until the sweep boundary after the lock returned (R57). -/
  hold : Bool := true
  /-- SAFE is held until RUN is committed to 0 or a reset (R832). -/
  hwHeld : Bool := false
  /-- Hardware faults reported and outstanding (R583). -/
  faults : List HwFault := []
  /-- The state SAFE goes back to (R832). -/
  safeFrom : BitVec 4 := 3
  /-- Compensation value K(T) of each emitter in force, in 1/700 of a table step (R42). -/
  comp : List Int := [0, 0, 0, 0, 0, 0, 0, 0]
  /-- Density the power loop has chosen for each pump, before compensation and the cap (R43, R45). -/
  dens : List Nat := [0, 0, 0, 0]
  /-- Current of the laser's thermo-electric cooler, mA (R35). -/
  cooler : Int := 0
  /-- Thermistor reading of each emitter, 0.01 °C (R42). -/
  therm : List Int := [2500, 2500, 2500, 2500, 2500, 2500, 2500, 2500]
  /-- Case temperature, 0.01 °C (R46). -/
  tcase : Int := 2500
  /-- Cycle since which the laser has been more than 1.0 °C from its set point (R64). -/
  laserOff : Option Nat := none
  /-- Launching is held back after the flashing reached OPEN, until a sweep boundary 10 ms later (R573). -/
  flashHold : Bool := true
  /-- Cycle at which the flashing last reached OPEN. -/
  flashCyc : Nat := 0
  /-- RUN was committed while LOCK was 0 (R744). -/
  runDue : Bool := false
  portA : PortLight := {}
  portB : PortLight := {}
  deriving DecidableEq, Repr

/-! ## Shots, sweeps and the grid (chapters 01, 03) -/

/-- The phase-chain settings a shot is processed with (R120, R183). -/
structure PhsCfg where
  gauge : Nat := 4
  stride : Nat := 1
  first : Nat := 0
  nch : Nat := 0
  polmode : Nat := 0
  tc : Nat := 10
  ptc : Nat := 8
  ftc : Nat := 12
  thr : Nat := 16
  maxrun : Nat := 8
  deriving DecidableEq, Repr

/-- How the first shot after a boundary re-initialises the phase chain (R191). -/
inductive Reinit where
  | none
  | psi
  | all
  /-- A TAKE: the shadow slots keep their state, the others start again (R192). -/
  | take (shadow0 shadow1 : Fin 16)
  deriving DecidableEq, Repr

/-- A shot launched, or a shot of the grid that was left out, whose return has not been processed yet: its place on
the grid and the settings in force at its launch (R120, R214, R217). -/
structure Inflight where
  port : Port
  pos : Fin 16
  sweep : Nat
  /-- Global shot number s (R214). -/
  s : Nat
  /-- Start of its sweep, fraction included, in 2^-16 ns (R15). -/
  tk : Ts
  /-- Its shot boundary on its grid. -/
  launch : Ts
  /-- Its shot boundary on the local clock, which every step moves (R19). -/
  clk : Ts
  slot : Fin 16
  /-- Probe duration in ns. -/
  dur : Nat
  nbin : Nat
  ext : Bool
  nslot : Nat
  /-- T_SW in units of 5 ns. -/
  tsw : Nat
  bank : Bool
  epoch : BitVec 32
  /-- K_φ in force, in 0.001 rad/µε (R185). -/
  kphi : Nat
  phs : PhsCfg
  lnc : Bool
  /-- The shot was launched; an omitted shot is bridged as a gap (R84, R175). -/
  launched : Bool
  unsettled : Bool
  apr : Bool
  failover : Bool
  tbCold : Bool
  reinit : Reinit := .none
  /-- Bandwidth of a chirp in MHz, 0 for a rectangle (R109, R243). -/
  bw : Nat := 0
  /-- Spectral point of the shot, its Brillouin gain code, a launch power reduced by APR, and a shot that Brillouin does
  not count (R240, R242, R245, R246). -/
  point : Nat := 0
  brlCode : Nat := 0
  /-- DAS gain code at the launch, and the codes that a step at the sweep boundary in its return window brought (R133). -/
  dasCode : Nat := 0
  dasNext : Option Nat := none
  brlNext : Option Nat := none
  /-- Matched filters of the shot: DAS and Brillouin (R157). -/
  filt : List (Int × Int) × List (Int × Int) := ([], [])
  /-- Active slots of the port at the launch (R120, R173). -/
  slots : List (Fin 16) := []
  /-- A shot of a signature sweep (R194, R195). -/
  sig : Bool := false
  reduced : Bool := false
  brlUns : Bool := false
  /-- The shot's samples enter the streams' filters, and their outputs are sent (R582, R612, R615). -/
  feed : Bool := true
  send : Bool := true
  /-- The shot is bridged although it was received (R600). -/
  bridge : Bool := false
  /-- First shot after an absence (R222). -/
  absEnd : Bool := false
  /-- Streams that restart at this shot (R223). -/
  restarts : List Nat := []
  /-- The series of output indices that its outputs belong to (R121, R377). -/
  series : Nat := 0
  deriving DecidableEq, Repr

/-- The sweep scheduler: the grid in force and the sweep in progress. -/
structure Grid where
  /-- A sweep grid runs (R16, R743). -/
  running : Bool := false
  /-- T_ALIGN in force, 2^-16 ns. -/
  align : Ts := 0
  /-- T_SW in force, units of 5 ns. -/
  tsw : Nat := 80000
  nslot : Nat := 16
  /-- Sweep in progress. -/
  k : Nat := 0
  /-- Start of the sweep in progress, 2^-16 ns, fraction included (R15). -/
  start : Ts := 0
  /-- A sweep of the grid in force has started. -/
  started : Bool := false
  /-- Output series so far: a grid with other shot numbers begins one (R19, R121, R377). -/
  series : Nat := 0
  /-- Epochs by the instant from which each is in force, newest first (R29, R30, R603). -/
  epochs : List (Ts × BitVec 32) := []
  /-- The boundary at which the newest staged set took effect: each takes one (R29, R483). -/
  applied : Option Ts := none
  /-- Pattern banks by the instant from which each is in force, newest first (R118). -/
  banks : List (Ts × Bool) := []
  /-- The pair cycle opened last on this grid (R28). -/
  cycle : Option Nat := none
  /-- What the local clock has stepped by since the sweep in progress started, 2^-16 ns (R19). -/
  shift : Int := 0
  /-- The next sweep is the first grid time at or after this instant: a new grid (R121) or a re-anchor (R19). -/
  resume : Option Ts := none
  /-- A step of the local clock waits for the re-anchor: its direction, backward true (R19). -/
  step : Option Bool := none
  /-- The sweep in progress has been closed at its end; the next has not started. -/
  closed : Bool := true
  /-- The first position of the sweep that has not passed yet. -/
  nextPos : Nat := 0
  /-- The diagnostic pulse of this sweep has fired (R82). -/
  diagDone : Bool := false
  /-- Positions whose next shot is left out (R84, R76). -/
  skip : List (Port × Fin 16) := []
  /-- Sweeps whose outputs the phase chain still marks UNSETTLED, port A and B. -/
  unsA : Nat := 0
  unsB : Nat := 0
  /-- Re-initialisation waiting for the next launched shot (R191). -/
  reinitA : Reinit := .none
  reinitB : Reinit := .none
  /-- The port's shots since the last launched one are an absence (R222). -/
  absA : Bool := true
  absB : Bool := true
  /-- Stream restarts waiting for the next launched shot (R223). -/
  restarts : List Nat := []
  /-- Samples of the first 100 ms after a take carry FAILOVER (chapter 17): shots left, or 0. -/
  failover : Bool := false
  /-- Last global shot number launched or left out. -/
  lastS : Nat := 0
  inflight : List Inflight := []
  deriving DecidableEq, Repr

/-- Pattern banks beside their registers: the armed swap (R113, R114). -/
structure Pattern where
  /-- A sync after the arming boundary has selected the next sweep boundary (R114, R116). -/
  selected : Bool := false
  /-- Channel clash stop (R124). -/
  clash : Bool := false
  deriving DecidableEq, Repr

/-! ## Receiver (chapter 04) -/

/-- The automatic gain control of one path of one port. -/
structure Agc where
  /-- Step decided by the closed interval, taken at the next sweep boundary: +1 or −1 (R139). -/
  step : Int := 0
  /-- Consecutive quiet intervals (R141). -/
  quiet : Nat := 0
  /-- Sweep boundaries that must still pass before an automatic step (R142). -/
  wait : Nat := 0
  /-- Clipped samples and peak magnitude of the last counting interval (R139). -/
  clips : Nat := 0
  peak : Nat := 0
  deriving DecidableEq, Repr

/-- The receiver beside its registers. -/
structure Receiver where
  dasA : Agc := {}
  dasB : Agc := {}
  brlA : Agc := {}
  brlB : Agc := {}
  /-- Sweeps whose Brillouin shots are still marked UNSETTLED after a gain step (R136). -/
  brlUnsA : Nat := 0
  brlUnsB : Nat := 0
  /-- Matched filters of the ports' launch positions, DAS and Brillouin, and how often they were built (R156, R157). -/
  filtA : List (List (Int × Int) × List (Int × Int)) := []
  filtB : List (List (Int × Int) × List (Int × Int)) := []
  rebuilds : Nat := 0
  /-- Boundary on the local clock and duration in ns of the shots each port launched last, newest first (R139, R143). -/
  shotsA : List (Ts × Nat) := []
  shotsB : List (Ts × Nat) := []
  /-- VIS has stayed below half for 1 ms, and suspension waits for the next sweep boundary (R167). -/
  visLow : Bool := false
  deriving DecidableEq, Repr

/-! ## Phase chain (chapter 05) -/

/-- What one channel of the phase chain keeps (the table of chapter 05). -/
structure Chan where
  /-- Running mean of z_X × conj(z_Y) per slot (R170). -/
  psi : List (Int × Int) := List.replicate 16 (0, 0)
  /-- Tracked offset per slot, 2^-16 rad (R172). -/
  theta : List Int := List.replicate 16 0
  /-- Running mean of |z′| over GOOD shots (R174). -/
  m : Int := 0
  /-- Unwrapped phase, 2^-16 rad, 40 bits (R181). -/
  phi : Int := 0
  /-- Last accepted increment (R176). -/
  dlast : Int := 0
  /-- Consecutive bridged shots (R176). -/
  run : Nat := 0
  /-- A shot that is not bridged has set φ_u since the re-initialisation. -/
  started : Bool := false
  /-- Slots whose θ, and whose ψ, is to be set from the first sweep. -/
  fresh : List (Fin 16) := []
  psiFresh : List (Fin 16) := []
  /-- Angle that fresh offsets are set against: arg z of the first shot of the first sweep, or arg z′ of the newest shadow shot
  after a TAKE (R191, R192). -/
  ref0 : Option Int := none
  /-- Slots that serve as the reference after a TAKE (R192). -/
  shadow : List (Fin 16) := []
  /-- The first sweep of a re-initialisation, and sum and count of |z| over it. -/
  sweep0 : Option Nat := none
  magSum : Int := 0
  magCnt : Nat := 0
  /-- The next RATE input is 0 (R211). -/
  rateZero : Bool := true
  deriving DecidableEq, Repr

/-- What the signature sweeps have given for a port: the sum of |A_X|² + |A_Y|² by bin, and the continuity lengths (R195). -/
structure SigSum where
  int : List Nat := []
  conts : List Nat := []
  deriving DecidableEq, Repr

/-- The phase chain of both ports and the signature check. -/
structure Phase where
  chA : List Chan := []
  chB : List Chan := []
  /-- Signature sweeps still to run before the verdict (R194). -/
  sigLeft : Nat := 0
  /-- The signature sweeps have run and the verdict is due. -/
  sigDue : Bool := false
  sigA : SigSum := {}
  sigB : SigSum := {}
  /-- The verdict SWAP stopped emission, and neither SWAP was inverted nor EN cleared through a transaction since (R198). -/
  swapHeld : Bool := false
  deriving DecidableEq, Repr

/-! ## Decimation (chapter 06) -/

/-- One sample of a filter line: its value in 2^-24 rad and its quality code. -/
structure QSample where
  v : Int
  q : Qual
  deriving DecidableEq, Repr

/-- The filter state of one channel of one stream (R205 to R210). -/
structure ChanFilter where
  /-- Four integrators and four combs, 72 bits (R205). -/
  integ : List Int := [0, 0, 0, 0]
  comb : List Int := [0, 0, 0, 0]
  /-- Codes of the inputs in the span of the CIC, newest first. -/
  cicQ : List Qual := []
  /-- Inputs of HB1, HB2 and the FIR, newest first. -/
  hb1 : List QSample := []
  hb2 : List QSample := []
  fir : List QSample := []
  /-- The newest value of each tap (R233, R326). -/
  last : List (Option Int) := List.replicate 5 none
  /-- The newest input was not received (R221). -/
  miss : Bool := false
  /-- Output waiting for DECIMATION_OUTPUT. -/
  ready : Option QSample := none
  deriving DecidableEq, Repr

/-- One tap sample that fed the reed array (R233): tap, channel, value, code and timestamp. -/
structure TapSample where
  tap : Nat
  ch : Nat
  v : Int
  q : Qual
  ts : Int
  deriving DecidableEq, Repr

/-- The decimation of one stream: settings in force and filters. -/
structure StreamFilter where
  r : Nat := 1
  hb1 : Bool := false
  hb2 : Bool := false
  fdec : Nat := 1
  taps : Nat := 1
  coef : List Int := []
  qty : Nat := 1
  fmt : Bool := false
  fallback : Bool := false
  /-- The filters run (from s1 of R224). -/
  active : Bool := false
  /-- A restart has come and waits for the first shot whose number is a multiple of D (R224). -/
  waiting : Bool := false
  /-- First channel and channels of the stream with these settings (R374). -/
  first : Nat := 0
  nch : Nat := 0
  ch : List ChanFilter := []
  /-- Shot of the output that is ready, with its record. -/
  out : Option Inflight := none
  /-- Epoch of the newest output. -/
  epoch : BitVec 32 := 0
  deriving DecidableEq, Repr

/-- The decimation block: one entry for each of the 64 streams, and moves waiting for the next sweep boundary (R231). -/
structure Decim where
  f : List StreamFilter := List.replicate 64 {}
  moves : List (Nat × Bool) := []
  /-- They were found at an epoch boundary, and its own sweep start is not the next sweep boundary (R231). -/
  hold : Bool := false
  deriving DecidableEq, Repr

/-! ## Quever command protocol and sessions (chapters 12, 13) -/

/-- A TLV item of a packet (R419): its tag and its value bytes. -/
structure Item where
  tag : Nat
  val : List Byte
  deriving DecidableEq, Repr

/-- A QCP packet (R414, R415). -/
structure Packet where
  reply : Bool := false
  event : Bool := false
  dup : Bool := false
  session : Nat
  status : Nat := 0
  seq : BitVec 32
  opcode : Nat
  items : List Item := []
  /-- The key of the MAC, for a packet that carries one (R417, R418). -/
  key : Option (List Byte) := none
  /-- On Ethernet, the bytes of IP payload that the port's MTU lets a fragment hold; 0 on a mailbox (R425). -/
  cut : Nat := 0
  deriving DecidableEq, Repr

/-- A long operation of a session (R443, R444). -/
structure LongOp where
  seq : BitVec 32
  opcode : Nat
  via : Via
  /-- The port, slot, unit, domain mask or count it works on. -/
  subject : Nat
  /-- Its commit point has passed. -/
  committed : Bool := false
  /-- Its completion event has been sent. -/
  done : Bool := false
  deriving DecidableEq, Repr

/-- A stored reply (R432): sequence, CRC of the request and the reply. -/
structure CacheEntry where
  seq : BitVec 32
  opcode : Nat
  /-- CRC of the request's packet; none for a request that came as its own row. -/
  crc : Option (BitVec 32)
  reply : Option Packet
  deriving DecidableEq, Repr

/-- A request that passed the checks of R429 and waits for its turn (R434): sequence, opcode and transport. -/
structure Queued where
  seq : BitVec 32
  opcode : Nat
  via : Via
  /-- CRC of its packet; none for a request that came as its own row. -/
  crc : Option (BitVec 32) := none
  /-- The items it carries (R419, R420). -/
  items : List Item := []
  deriving DecidableEq, Repr

/-- An entry of a session's event log (R446). -/
structure LogEntry where
  eseq : BitVec 32
  pkt : Packet
  /-- The transport it leaves on (R423, R461). -/
  dest : Via
  delivered : Bool
  deriving DecidableEq, Repr

/-- The four quotas of a session (R467); a capture quota of none follows the pool (R469). -/
structure Quotas where
  streams : Nat := 0
  bandwidth : Nat := 0
  capture : Option Nat := some 0
  reed : Nat := 0
  deriving DecidableEq, Repr

/-- One session number (chapter 13). -/
structure Session where
  isOpen : Bool := false
  auth : Bool := false
  /-- Session key KS (R456). -/
  ks : List Byte := []
  /-- Where the session's events go (R461). -/
  route : Via := .mailbox 0
  /-- H of R432. -/
  hi : BitVec 32 := 0
  /-- Cycle of the last request accepted at check 7 (R463). -/
  heard : Nat := 0
  /-- Accepted sequences, newest first (R432). -/
  accepted : List (BitVec 32) := []
  cache : List CacheEntry := []
  queue : List Queued := []
  longs : List LongOp := []
  /-- Open transaction: the staged words, in the order of first staging (R479). -/
  txn : Option (List (Nat × Word)) := none
  /-- Staging areas of IMAGE_PUT and REED_PUT: bytes by offset, sparse, sorted (R437). -/
  image : List (Nat × Byte) := []
  reedImage : List (Nat × List (Nat × Byte)) := []
  eseq : BitVec 32 := 0
  log : List LogEntry := []
  quotas : Quotas := {}
  deriving DecidableEq, Repr

/-- A baseline (R263, R265): ν_ref and paired temperature of each bin, T_BASE in 0.01 °C, and the laser channel. -/
structure BrlBase where
  refs : List (Option Nat) := []
  /-- In 2^-16 × 0.001 °C. -/
  tp : List (Option Int) := []
  tbase : Int := 0
  chan : Int := 0
  deriving DecidableEq, Repr

/-- A configuration image (R492): its fields and its records. -/
structure CfgImage where
  magicOk : Bool := true
  version : Nat := 1
  epoch : BitVec 32 := 0
  saveCnt : Nat := 0
  binding : BitVec 32 := 0
  words : List (Nat × Word) := []
  quotas : List Quotas := []
  /-- Owners of the streams, trigger units and capture units, and the baselines of the ports (R833). -/
  streamOwner : List (Option (Fin 8)) := List.replicate 64 none
  trgOwner : List (Option (Fin 8)) := List.replicate 64 none
  capOwner : List (Option (Fin 8)) := List.replicate 16 none
  baseA : BrlBase := {}
  baseB : BrlBase := {}
  /-- Body CRC, header CRC, signature and completeness hold. -/
  sound : Bool := true
  /-- The key the signature was made with. -/
  key : List Byte := []
  deriving DecidableEq, Repr

/-- A staged set that passed its checks (R482, R483). -/
structure StagedSet where
  session : Fin 8
  seq : BitVec 32
  opcode : Nat
  words : List (Nat × Word)
  /-- Instant of the hand-over to the DSP domain, once made (R29). -/
  handed : Option Ts := none
  /-- The slot's image where a STORE_SELECT loads one, and what SYS_STORE.LOADED becomes. -/
  load : Option CfgImage := none
  loaded : Nat := 3
  deriving DecidableEq, Repr

/-- One store slot (R491, R493): empty, or an image, complete or cut short before its header. -/
inductive Slot where
  | empty
  | cut
  | image (i : CfgImage)
  deriving DecidableEq, Repr

/-- The interpreter: sessions, bindings, staged sets, the store and the reply limiter. -/
structure Qcp where
  sess : List Session := List.replicate 8 {}
  bindPcie : Option (Fin 8) := none
  bindSpi : Option (Fin 8) := none
  /-- Staged sets validated and not yet in force, oldest first (R483). -/
  staged : List StagedSet := []
  slotA : Slot := .empty
  slotB : Slot := .empty
  /-- Journal: the slot the last save named, with its SAVECNT (R491, R493). -/
  journal : Option (Bool × Nat) := none
  /-- A STORE_SAVE in progress: its slot and image (R491). -/
  saving : Option (Bool × CfgImage) := none
  /-- Error replies sent in the current second to each source (R430): source, second, count. -/
  errBucket : List (Via × Nat × Nat) := []
  /-- A word that shapes the sweep was written directly since the last set took effect (R490). -/
  touched : Bool := false
  /-- Owners of streams, trigger units and capture units (R466). -/
  streamOwner : List (Option (Fin 8)) := List.replicate 64 none
  trgOwner : List (Option (Fin 8)) := List.replicate 64 none
  capOwner : List (Option (Fin 8)) := List.replicate 16 none
  deriving DecidableEq, Repr

/-- Keys provisioned in the key sector, kept across every reset and power loss (R452, R762). While no K_0 is provisioned the
factory K_0 is in force (R763). -/
structure Keys where
  k : List (Option (List Byte)) := List.replicate 8 none
  kcfg : Option (List Byte) := none
  deriving DecidableEq, Repr

/-- Instructions of the test access port (R765). -/
inductive TapInstr where
  | bypass
  | idcode
  | samplePreload
  | challenge
  | response
  | extest
  | clamp
  | highz
  | intscan
  deriving DecidableEq, Repr

/-- The test access port and the scan permission beside the KEY block (R765 to R769). -/
structure Tap where
  ir : TapInstr := .idcode
  nonce : BitVec 128 := 0
  /-- The nonce still admits its one attempt; none has been drawn before the first TAP reset. -/
  fresh : Bool := false
  /-- The value last shifted into RESPONSE, and whether it is the right one within the nonce's one attempt. -/
  response : BitVec 128 := 0
  matched : Bool := false
  /-- The session that set PERMIT, and the cycle it did. -/
  permit : Option (Nat × Nat) := none
  deriving DecidableEq, Repr

/-! ## Shadow copies of register groups (R789 to R794) -/

/-- The latched groups of one access path: lowest word of the group and the latched words of its other offsets. -/
structure Shadow where
  path : Path
  words : List (Nat × Word) := []
  /-- The SYS_IGN_CNT shadow has not been taken since the path's last latch (R793). -/
  ignFresh : Bool := false
  deriving DecidableEq, Repr

/-! ## Power and reset (chapter 21) -/

/-- A reset source of reach WARM or wider (R724). -/
inductive RstSource where
  | power
  | supply
  | poreset
  | thermal
  | qcpCold
  | rstCold
  | wdog
  | warmrst
  | qcpWarm
  | rstWarm
  deriving DecidableEq, Repr

/-- A reset episode in force (R728). -/
structure Episode where
  /-- Widest reach asserted: 2 WARM, 3 COLD, 4 FULL. -/
  reach : Nat
  /-- Cycles of the episode's first assertion. -/
  since : Nat
  /-- Sources asserted in the episode, and whether the thermal source still is (R725, R728). -/
  sources : List RstSource
  hot : Bool
  /-- FLASH_HOLD in force at the first assertion, ms (R735). -/
  flashHold : Nat
  deriving DecidableEq, Repr

/-- What the retention store holds, cleared by FULL only (R731, R486, R746). -/
structure Retention where
  /-- Highest epoch issued (R486). -/
  epoch : BitVec 32 := 0
  /-- A valid clean-shutdown record (R749). -/
  clean : Bool := false
  deriving DecidableEq, Repr

/-- Pins the spec gives the block and drives by command, beside those the state alone decides (R734). -/
structure Pins where
  sysRdy : Bool := false
  ppsOut : Bool := false
  /-- Optical flashing as driven: closed true (R734, R736). -/
  flashClosed : Bool := true
  /-- IRQ_N as it stood when a WARM episode began, which holds it (R734): asserted true. -/
  irqHeld : Bool := false
  deriving DecidableEq, Repr

/-- A self-test in progress (R751, R758): whether SHUTDOWN started it, its item, its start, and the item records so far. -/
structure SelfTest where
  shutdown : Bool
  item : Nat
  start : Ts
  since : Nat
  epoch : Nat
  items : List (List Word) := []
  deriving DecidableEq, Repr

/-- Power, reset and device-state control beside the registers. -/
structure Power where
  episode : Option Episode := none
  /-- Reset exit has been reached and the boot steps have not run (R738). -/
  bootDue : Bool := true
  /-- QCP-ready (R740). -/
  qcpReady : Bool := false
  ret : Retention := {}
  /-- Clean-shutdown record in flash (R746, R749). -/
  flashClean : Bool := false
  /-- The report's SEQ and SYS_STORE.BOOTS that the newest clean-shutdown record holds; its CRC-32C is over them (R760). -/
  cleanRec : Option (Nat × Nat) := none
  /-- The device has reached STANDBY since the episode (R736). -/
  configured : Bool := false
  /-- A SHUTDOWN waits for the next sweep boundary (R746). -/
  shutDue : Bool := false
  /-- The SHUTDOWN or DIAG_ENTER in progress: session and sequence. -/
  op : Option (Fin 8 × BitVec 32) := none
  /-- State held before SHUTDOWN, and the streams that it stopped with their STATE and next output index (R747). -/
  before : Nat := 2
  stopped : List (Nat × Nat × Option Nat) := []
  /-- A self-test waits for its first item: true for SHUTDOWN. -/
  testDue : Option Bool := none
  test : Option SelfTest := none
  /-- Newest report in the retention store and in flash (R758, R759). -/
  report : Option (List Byte) := none
  reportFlash : Option (List Byte) := none
  /-- Reset requested by a QCP RESET, asserted 1 ms after its reply (R725): reach and cycle of the reply. -/
  rstPending : Option (Nat × Nat) := none
  /-- Block in a BLOCK reset, and the cycle of its assertion (R732). -/
  blockRst : Option (Byte × Nat) := none
  pins : Pins := {}
  deriving DecidableEq, Repr
/-! ## Network time and Ethernet (chapter 14) -/

/-- A Sync of the master, as far as it is known (R515, R521). -/
structure SyncRx where
  seqId : BitVec 16
  /-- Origin time t1, once known. -/
  t1 : Option Ts
  /-- Corrected ingress time t2 (R506). -/
  t2 : Ts
  /-- Correction of the Sync path, 2^-16 ns. -/
  corr : Int
  deriving DecidableEq, Repr

/-- The PTP instance and the servo beside their registers. -/
structure Ptp where
  /-- Sync that waits for its Follow_Up, or is complete. -/
  sync : Option SyncRx := none
  /-- Sequence and corrected egress time t3 of the Delay_Req under way. -/
  delayReq : Option (BitVec 16 × Ts) := none
  /-- Sequence of the next Delay_Req and the next Sync sent. -/
  dreqSeq : BitVec 16 := 0
  syncSeq : BitVec 16 := 0
  annSeq : BitVec 16 := 0
  /-- The selected master: identity and place in the comparison (R514). -/
  master : Option (BitVec 64 × Nat) := none
  /-- Consecutive offsets below and at or above LOCK_THR (R517). -/
  good : Nat := 0
  bad : Nat := 0
  /-- Cycle and FADJ of each adjustment made while locked, newest first, the last 60 s (R518, R563). -/
  hist : List (Nat × Int) := []
  /-- The integral part of the servo's loop, in units of FADJ (R516). -/
  integ : Int := 0
  /-- Outstanding slew of TIME_ADJ, 2^-40 ns (R510). -/
  slew : Int := 0
  /-- Mean path delay of the last exchange, 2^-16 ns (R515). -/
  pathDelay : Int := 0
  deriving DecidableEq, Repr

/-- A next hop of an Ethernet port (R504): its address, and its MAC once resolved. -/
structure NextHop where
  addr : BitVec 128
  mac : Option (BitVec 48)
  deriving DecidableEq, Repr

/-- Fragments of one request (R425): its source, the cycle of the first one's arrival, and for each fragment its
offset, whether more follow, and data. -/
structure Reassembly where
  src : UdpPeer
  since : Nat
  frags : List (Nat × Bool × List Byte)
  deriving DecidableEq, Repr

/-- The Ethernet side beside its registers: next hops of the two ports, reassembly. -/
structure Net where
  hops0 : List NextHop := []
  hops1 : List NextHop := []
  reasm : List Reassembly := []
  deriving DecidableEq, Repr

/-! ## Time base and event timing (chapter 15) -/

/-- The time-interval counter beside its registers (R540 to R547). Times are in 2^-8 ns. -/
structure Tic where
  /-- Cycle of the measurement's start (R546). -/
  since : Nat := 0
  /-- The session that started the measurement. -/
  starter : Option Nat := none
  /-- Sequence of the TIC_START it runs for. -/
  seq : Option (BitVec 32) := none
  /-- START edge that waits for its STOP, or the last boundary edge. -/
  start : Option Nat := none
  /-- Edges counted since the last boundary edge. -/
  edges : Nat := 0
  /-- Intervals complete, newest first, 2^-8 ns. -/
  ints : List Nat := []
  short : Nat := 0
  cold : Bool := false
  /-- The first edge has been counted (R545). -/
  committed : Bool := false
  deriving DecidableEq, Repr

/-- The time base beside its registers: the last timestamped edge of EVT0 to EVT3 and PPS_IN (R538), the counter, and
whether SYN_LOCK's 10 ms have passed (R534). -/
structure TimeBase where
  lastEdge : List (Option Ts) := [none, none, none, none, none]
  tic : Tic := {}
  synLate : Bool := false
  deriving DecidableEq, Repr

/-! ## Ridge bus (chapter 16) -/

/-- What a node learned of another node (R557, R578): hops and cumulative delay in 2^-16 ns by lane, and its lanes. -/
structure RidgeNode where
  id : BitVec 12
  serial : BitVec 48
  viaE : Option (Nat × Nat) := none
  viaW : Option (Nat × Nat) := none
  eUp : Bool := false
  wUp : Bool := false
  deriving DecidableEq, Repr

/-- One ridge lane beside its registers. -/
structure Lane where
  /-- Consecutive frames with a bad CRC (R555). -/
  badRun : Nat := 0
  /-- The last 16 hop-delay results, 2^-17 ns, newest first (R559). -/
  hops : List Int := []
  /-- Departure of the DLY_REQ that waits for its answer. -/
  t1 : Option Ts := none
  /-- Cumulative delay of the newest TIME copy, 2^-16 ns (R562). -/
  timeDelay : Option Nat := none
  deriving DecidableEq, Repr

/-- A ridge trigger that waits for its execution time (R566). -/
structure RidgeTrig where
  execAt : Ts
  tref : Ts
  id : BitVec 8
  /-- Originating node and sequence, for the order of R302. -/
  origin : BitVec 12
  seq : BitVec 32
  /-- It reached the device after its execution time (R292). -/
  late : Bool
  deriving DecidableEq, Repr

/-- The ridge block beside its registers. -/
structure Ridge where
  laneE : Lane := {}
  laneW : Lane := {}
  nodes : List RidgeNode := []
  /-- Ring frames of which the first copy has arrived and the second has not (R553): origin and sequence. -/
  seen : List (BitVec 12 × BitVec 32) := []
  seq : BitVec 32 := 0
  /-- Another master with a lower identifier was heard (R561). -/
  yielded : Bool := false
  /-- Consecutive offsets below 50 ns (R563). -/
  good : Nat := 0
  trigs : List RidgeTrig := []
  /-- Execution times of the SYNC frames taken (R569). -/
  syncs : List Ts := []
  deriving DecidableEq, Repr

/-! ## Battens and streams (chapter 11) -/

/-- One output of a stream, as it enters a batten: index, timestamp of its first channel in ns, shot boundary of its newest
input sample, channel step in 2^-16 ns, PERIOD word, epoch, bank, and for each channel its words and its code (R30, R377, R385); QTY and FMT of a stream
of phase-chain channels (R384). An EVENT stream's output has one entry, its record. -/
structure BOut where
  idx : Nat
  ts : Int
  shot : Int := 0
  chDt : Nat
  period : Nat
  epoch : BitVec 32
  bank : Bool
  vals : List (List Word × Qual)
  /-- The series of its index; the A of a result set. -/
  series : Nat := 0
  qty : Nat := 0
  fmt : Bool := false
  deriving DecidableEq, Repr

/-- How the datagrams of a batten are addressed, as its stream stood when it was queued: destination, ports, DSCP, and the bytes of a
fragment at most (R376, R402, R403). -/
structure UdpDest where
  v6 : Bool := false
  daddr : BitVec 128 := 0
  sport : Nat := 0
  dport : Nat := 0
  dscp : Nat := 0
  fragMax : Nat := 0
  deriving DecidableEq, Repr

/-- A closed batten or record as transmitted, waiting for its egress (R383, R400). -/
structure Egr where
  stream : Nat
  seq : BitVec 32
  prio : Nat
  egress : Egress
  /-- Cycle of its close, or of the moment its SEQ was taken for a re-send (R401). -/
  closed : Nat
  resend : Bool := false
  expired : Bool := false
  bytes : List Byte
  /-- Fragments already sent (R409). -/
  frag : Nat := 0
  udp : UdpDest := {}
  deriving DecidableEq, Repr

/-- A stream beside its registers. -/
structure StreamSt where
  /-- Outputs of the open battens, oldest first. -/
  open_ : List BOut := []
  /-- Whole periods missing and not yet reported: first output index and outputs (R382). -/
  gap : Option (Nat × Nat) := none
  /-- The next output index expected and the series it belongs to; a later series and its first shot, or the first index of result
  sets with another A. -/
  next : Option Nat := none
  series : Nat := 0
  seed : Option (Nat × Nat) := none
  /-- Shots not received that no batten accounts for yet: channel and index of the output that does (R386). -/
  missed : List (Nat × Nat) := []
  /-- The next batten or gap record is the first since the start. -/
  firstDue : Bool := true
  /-- Order of start, the newest highest (R474). -/
  order : Nat := 0
  /-- Chosen for suspension at its next batten boundary (R474). -/
  chosen : Bool := false
  /-- Request queue of RESEND (R407). -/
  resendQ : List (BitVec 32) := []
  /-- The retain buffer (R406). -/
  retain : List Egr := []
  deriving DecidableEq, Repr

/-- All streams and the egress of the Ethernet ports and rings. -/
structure Streams where
  st : List StreamSt := List.replicate 64 {}
  /-- Closed battens waiting, in closing order (R400). -/
  q : List Egr := []
  /-- Streams started so far. -/
  starts : Nat := 0
  /-- The instant at which the last frame of each port ends (R409). -/
  busy0 : Ts := 0
  busy1 : Ts := 0
  /-- Outputs that wait for FINAL_SEQ (R615). -/
  held : Option (List (Nat × BOut)) := none
  deriving DecidableEq, Repr

/-! ## Triggers, history and capture (chapter 08) -/

/-- What one channel of a trigger unit keeps (R285 to R287). -/
structure TrigCh where
  ch : Nat
  armed : Bool := false
  /-- Samples since the start of a pulse or runt, none outside one. -/
  run : Option Nat := none
  /-- A pulse that fired outside at T2 + 1 does not fire again at its end; a runt that reached HI records none. -/
  done : Bool := false
  count : Nat := 0
  /-- Source values of the last T1 + 1 evaluated samples, newest first. -/
  hist : List Int := []
  /-- Previous source value of a wrapping stream. -/
  prev : Option Int := none
  deriving DecidableEq, Repr

/-- A source's sample instant on its way to the trigger units (R277): the source by SRC_KIND and SRC, the instant that tells one
sample instant from another, the first channel's timestamp and the step from channel to channel in 2^-16 ns, the epoch, the
channels' values, and whether a restart or an absence of the source follows it (R284). -/
structure TrigIn where
  kind : Nat
  src : Nat
  inst : Int
  raw : Int
  chDt : Nat := 0
  epoch : BitVec 32
  vals : List (Word × Qual)
  reset : Bool := false
  deriving DecidableEq, Repr

/-- An event record in the burst buffer (R293, R294): the unit and its 8 words. -/
structure EvRec where
  unit : Fin 64
  words : List Word
  /-- A gap record in its reserved slot (R294). -/
  gapSlot : Bool := false
  deriving DecidableEq, Repr

/-- An open gap record of a unit (R296): firings lost, time of the first and the last loss, epoch of the first. -/
structure GapRec where
  unit : Fin 64
  lost : Nat
  /-- Timestamp of the first lost firing, and the sample instants of the first and the last. -/
  first : Ts
  firstInst : Int
  lastInst : Int
  chFirst : Nat
  chLast : Nat
  epoch : BitVec 32
  deriving DecidableEq, Repr

/-- One output kept in the history ring (R299): index, timestamp, epoch and, for each channel, value and code. -/
structure HistOut where
  idx : Nat
  ts : Int
  epoch : BitVec 32
  vals : List (Word × Qual)
  deriving DecidableEq, Repr

/-- A run of samples that missed its DRAM slot (R300): stream, first output index, length. -/
structure HistGap where
  stream : Nat
  first : Nat
  len : Nat
  deriving DecidableEq, Repr

/-- One stored interval of a capture: epoch and, for each channel, value and code (R304, R311). -/
structure Interval where
  epoch : BitVec 32
  vals : List (Word × Qual)
  deriving DecidableEq, Repr

/-- The trigger that a capture took (R302): the instant of its execution, and its rank among triggers of that instant, a ridge
trigger by origin and sequence, a local one by its unit. -/
structure CapTook where
  inst : Ts
  ridge : Bool
  first : Nat
  second : Nat := 0
  deriving DecidableEq, Repr

/-- A capture unit beside its registers. -/
structure Cap where
  /-- Size of its region in bytes (R305); 0 while IDLE. -/
  region : Nat := 0
  /-- Reference instant in ns (R303). -/
  tref : Int := 0
  /-- Channels, intervals and averaging of the region, taken at ARM. -/
  nch : Nat := 0
  pre : Nat := 0
  post : Nat := 0
  avg : Nat := 0
  stream : Nat := 0
  float : Bool := false
  /-- Intervals stored, oldest first. -/
  ivs : List Interval := []
  /-- Outputs of the interval that is being gathered, oldest first. -/
  acc : List HistOut := []
  /-- Output index of the first post-trigger output. -/
  start : Option Nat := none
  /-- Index and timestamp of the stream's outputs since ARM, newest first (R303). -/
  seen : List (Nat × Int) := []
  took : Option CapTook := none
  deriving DecidableEq, Repr

/-- A CAP_SEND in progress (R448, R449): its session, sequence, unit, level, and its destination or host address. -/
structure CapSend where
  session : Fin 8
  seq : BitVec 32
  unit : Nat
  level : Nat
  dest : Option (Fin 2 × Bool × BitVec 128 × BitVec 16)
  haddr : BitVec 64
  deriving DecidableEq, Repr

/-- The trigger engine, history and captures. -/
structure Trig where
  /-- State of the channels of each unit. -/
  ch : List (List TrigCh) := List.replicate 64 []
  /-- Sample instants of the sources that wait for their evaluation, oldest first (R289). -/
  inq : List TrigIn := []
  /-- The sample instant for which the coalescing decision was made last (R295). -/
  coalAt : Option Int := none
  buf : List EvRec := []
  gaps : List GapRec := []
  rseq : BitVec 16 := 0
  /-- History of each stream, newest first. -/
  hist : List (List HistOut) := List.replicate 64 []
  histGaps : List HistGap := []
  caps : List Cap := List.replicate 16 {}
  sends : List CapSend := []
  deriving DecidableEq, Repr


/-! ## Reed array (chapters 09, 10) -/

/-- The registers of one lane (R357): d0 to d15 and the physical window registers as codes 0 to 31; the accumulators as a
following accumulating opcode reads them, and as every other reader does (R363). -/
structure RLane where
  r : List (BitVec 16) := List.replicate 32 0
  a : List Int := [0, 0, 0, 0]
  v : List Int := [0, 0, 0, 0]
  sat : Bool := false
  aov : Bool := false
  deriving DecidableEq, Repr

/-- A loop of the sequencer (R371): first and last instruction of its body, iterations left, and ROT. -/
structure RLoop where
  first : Nat
  last : Nat
  left : Nat
  rot : Bool
  deriving DecidableEq, Repr

/-- A write that has been issued and has not taken effect (R363). -/
inductive RWr where
  | reg (lane code : Nat) (v : BitVec 16)
  | accChain (lane i : Nat) (v : Int)
  | accView (lane i : Nat) (v : Int)
  | ptr (i v : Nat)
  | am (i mode len : Nat)
  | q (v : Nat)
  | hd (v : Nat)
  | sat (lane : Nat)
  | aov (lane : Nat)
  /-- An element of 16 bits of a lane's X (false) or Y memory. -/
  | mem (lane : Nat) (y : Bool) (elem : Nat) (v : BitVec 16)
  | dly (lane idx : Nat) (v : BitVec 16)
  deriving DecidableEq, Repr

/-- An execution unit: the sequencer, the registers whose values the instructions give to all lanes alike, the lanes and
the writes under way, each with the cycle it takes effect in. -/
structure RUnit where
  pc : Nat := 0
  cyc : Nat := 0
  loops : List RLoop := []
  p : List Nat := [0, 0, 0, 0, 0, 0, 0, 0]
  /-- Mode and length in bytes of am0 to am7. -/
  am : List (Nat × Nat) := List.replicate 8 (0, 0)
  q : Nat := 0
  hd : Nat := 0
  rb : Nat := 0
  lanes : List RLane := List.replicate 16 {}
  pend : List (Nat × RWr) := []
  /-- The end of the pass has been reached. -/
  ended : Bool := false
  /-- Cycles used by each pass of the last second: the cycle of its end and their number. -/
  used : List (Nat × Nat) := []
  deriving DecidableEq, Repr

/-- One tap sample of a feed (R326, R327): tap index, for each feed channel its 16-bit sample and code; timestamp of the
first feed channel and step from channel to channel in 2^-16 ns; epoch and pattern bank. -/
structure FeedSample where
  it : Nat
  xs : List (Int × Qual)
  ts : Int
  chDt : Nat
  epoch : BitVec 32
  bank : Bool
  /-- Boundary of the shot of the sample, its series, and whether its outputs are sent (R615). -/
  shot : Int := 0
  series : Nat := 0
  send : Bool := true
  deriving DecidableEq, Repr

/-- What the passes of a block gave for one channel: its OUT_N words and their code. -/
structure PassOut where
  words : List Word
  q : Qual
  deriving DecidableEq, Repr

/-- The feed of a slot (R324, R326): stream, tap, shift, increments, first stream channel and channels. -/
structure Feed where
  stream : Nat := 0
  tap : Nat := 0
  shift : Nat := 0
  inc : Bool := false
  chFirst : Nat := 0
  nch : Nat := 0
  deriving DecidableEq, Repr

/-- A program slot beside its registers. -/
structure RSlot where
  /-- The feed that the slot took up at its last start (R350). -/
  feed : Feed := {}
  /-- Constant bases of the image in X and Y (R329). -/
  xbase : Nat := 0x4000
  ybase : Nat := 0x4000
  /-- A START waits for its block boundary: the earliest instant it takes effect (R345). -/
  startAt : Option Ts := none
  /-- The next group of the block that is being run (R336). -/
  group : Nat := 0
  /-- Tap samples not yet consumed, oldest first; the first one begins a block. -/
  samples : List FeedSample := []
  /-- First tap samples of the restarts to come: the frames are zeroed before the block that holds one or a later one (R351). -/
  clearAt : List Nat := []
  /-- Outputs still UNSETTLED (R340). -/
  settle : Nat := 0
  outs : List PassOut := []
  /-- A LOAD under way: session, sequence, lowest unit, whole bundle, and its image's bytes (R344). -/
  load : Option (Fin 8 × BitVec 32 × Nat × Bool × List Byte) := none
  deriving DecidableEq, Repr

/-- The reed array beside its registers and memories. -/
structure Reed where
  units : List RUnit := List.replicate 16 {}
  slots : List RSlot := List.replicate 16 {}
  deriving DecidableEq, Repr

/-! ## Brillouin measurement and anchors (chapter 07) -/

/-- One result record before it is packed (R276). -/
structure BrlRec where
  /-- A fit was made. -/
  fitted : Bool
  bfs : Nat
  width : Nat
  snr : Nat
  iter : Nat
  value : Option Int
  /-- Code before R262 and R266 took the VALUE away. -/
  own : Qual
  qual : Qual
  seq : Nat
  deriving DecidableEq, Repr

/-- An averaging period of one port (R250 to R252): its opening boundary, the 32-bit running sums and the folded sums by
Brillouin bin and point, the count of each point, the bins that took a clipped contribution and the marks of R267. -/
structure BrlPeriod where
  start : Ts
  /-- It began at a restart of R252. -/
  restarted : Bool := false
  /-- Whole multiples of A that it has run on over (R252). -/
  passed : Nat := 0
  /-- Spectrum settings of the period, f_B in kHz among them. -/
  fb : Nat
  npt : Nat
  wide : Bool
  run : List (List Nat)
  fold : List (List Nat)
  counts : List Nat
  clipped : List Nat := []
  apr : Bool := false
  failover : Bool := false
  cold : Bool := false
  /-- Close: boundary, nominal seconds and epoch, once closed (R250, R255). -/
  close : Option (Ts × Nat × BitVec 32) := none
  /-- Pattern bank in force at its last sample (R118). -/
  bank : Bool := false
  /-- Range bins of a Brillouin bin, and the first one (R244). -/
  m : Nat := 1
  bfirst : Nat := 0
  /-- A in seconds (R250). -/
  avg : Nat := 1
  deriving DecidableEq, Repr

/-- The Brillouin side of one port. -/
structure BrlPort where
  cur : Option BrlPeriod := none
  closing : Option BrlPeriod := none
  /-- A restart under R252 waits for its first cycle boundary. -/
  restart : Bool := false
  /-- Records of the newest complete set (R256), and its opening boundary. -/
  set : List BrlRec := []
  base : BrlBase := {}
  /-- Instant at which a baseline was armed (R263). -/
  armed : Option Ts := none
  /-- δ in 2^-16 × 0.001 °C (R261), consecutive periods without a coil temperature, and the GOOD temperature results of the field
  channels: channel, instant, and value in 0.001 °C. -/
  delta : Int := 0
  stale : Nat := 0
  coil : List (Nat × Ts × Int) := []
  deriving DecidableEq, Repr

/-- One channel of an anchor (R270 to R274); offsets in 2^-16 × 10 pε. -/
structure AnchCh where
  from_ : Int := 0
  target : Int := 0
  since : Ts := 0
  /-- No update yet since the start or a restart; the restart's instant. -/
  first : Bool := true
  restart : Ts := 0
  /-- The first output after a re-initialisation joins the last before it (R274). -/
  join : Bool := false
  last : Option Int := none
  /-- Consecutive periods without an update. -/
  missed : Nat := 0
  /-- ε_A over the period in progress and the one being fitted: sum and count. -/
  sum : Int := 0
  cnt : Nat := 0
  sumC : Int := 0
  cntC : Nat := 0
  deriving DecidableEq, Repr

/-- The Brillouin block beside its registers. -/
structure Brl where
  portA : BrlPort := {}
  portB : BrlPort := {}
  /-- Instant of the last fold (R248). -/
  lastFold : Ts := 0
  /-- Shots whose Brillouin contribution is still to come, oldest first. -/
  inflight : List Inflight := []
  anch : List (List AnchCh) := [[], [], [], []]
  deriving DecidableEq, Repr
/-! ## Paired operation (chapter 17) -/

/-- What the referee knows of a pair device from its newest heartbeat (R591, R592). -/
structure RefNode where
  seen : Bool := false
  hseq : BitVec 32 := 0
  /-- Departure of that heartbeat. -/
  depart : Ts := 0
  role : Nat := 0
  st : Nat := 0
  health : BitVec 12 := 0
  deriving DecidableEq, Repr

/-- The referee beside its registers: its nodes, the start of PREF's eligibility, the command sequence and the scheduled
switch-back. -/
structure Referee where
  nodeA : RefNode := {}
  nodeB : RefNode := {}
  holdSince : Option Ts := none
  cseq : BitVec 32 := 0
  switchAt : Option Ts := none
  deriving DecidableEq, Repr

/-- A scheduled switch-back as a pair device holds it (R611 to R616): t_s, W, and whether this device comes in. -/
structure Switch where
  ts : Ts
  w : Ts
  incoming : Bool
  deriving DecidableEq, Repr

/-- The pair beside its registers. -/
structure Pair where
  /-- Sequence of the next frame on the PAIR lane (R605). -/
  frameSeq : BitVec 32 := 0
  /-- Sequence of the next heartbeat, and the departures of the own ones, newest first (R587). -/
  hseq : BitVec 32 := 0
  sent : List (BitVec 32 × Ts) := []
  /-- Departure of the newest own heartbeat that an echo has named, and the instant of becoming active (R587, R588). -/
  echo : Option Ts := none
  activeAt : Option Ts := none
  /-- Arrival and sequence of the newest referee heartbeat (R583, R585). -/
  refAt : Option Ts := none
  refHseq : BitVec 32 := 0
  /-- Arrival and HEALTH of the partner's newest PAIR heartbeat (R587). -/
  partner : Option (Ts × BitVec 12) := none
  /-- T_SW, N_SLOT and T_ALIGN modulo T_SW of the partner's newest report (R580). -/
  pcfg : Option (Nat × Nat × Ts) := none
  /-- Execution time of a TAKE for this device, and the instant at which this active stops for its partner (R596). -/
  takeAt : Option Ts := none
  stopAt : Option Ts := none
  /-- The device has stopped launching for its partner and enters SHADOW once healthy (R582). -/
  stopped : Bool := false
  /-- Snapshot under way: the bytes so far, by frames in order, and its size; the newest accepted one (R608). -/
  snapIn : List Byte := []
  snapLen : Nat := 0
  snap : Option (List Byte) := none
  /-- Own φ_u of both ports at the newest pair-cycle boundary, with its shot number (R599). -/
  own : Option (Nat × List Int × List Int) := none
  /-- Levels are to be joined with the snapshot of that boundary (R613). -/
  joinDue : Bool := false
  switch : Option Switch := none
  /-- The SWITCH_BACK that this device relays: session and sequence. -/
  switchOp : Option (Fin 8 × BitVec 32) := none
  /-- Every position is launched while the device stays in SHADOW (R612). -/
  making : Bool := false
  /-- The device has stopped or fenced: its open battens close at their last output (R589, R614). -/
  draining : Bool := false
  /-- FINAL_SEQ is still to be sent (R614). -/
  finalDue : Bool := false
  /-- Sweep boundaries at which FAILOVER still stands: it ends at the last of them (R600). -/
  failSweeps : Nat := 0
  /-- The host session that referees (R586, R618). -/
  host : Option (Fin 8) := none
  ref : Referee := {}
  deriving DecidableEq, Repr


/-! ## Field island, barrier link and the two converters (chapter 18) -/

/-- A message of the barrier link (R626). -/
inductive BarMsg where
  | cfg (off : Nat) (value : Word)
  | cmd (regular injected : Bool)
  | fout (mask : Nat)
  | hb
  | tsync
  | bufreq (ch first count : Nat)
  | ilk (closed : Bool) (tick : Nat)
  | fin (states tick : Nat)
  | result (index qual seq gain : Nat) (opened : Bool) (code tick : Word)
  | status (flags : Word) (vin echo crcerr badmsg : Nat)
  | tick (tick : Nat)
  | bufdata (ch index : Nat) (rec0 rec1 : Word)
  deriving DecidableEq, Repr

/-- A round of a sequence: the entry in progress, its conversions delivered, and the round's start (R647). -/
structure Round where
  entry : Nat := 0
  conv : Nat := 0
  start : Ts := 0
  deriving DecidableEq, Repr

/-- The rounds of a converter: regular and injected (R647, R650). -/
structure Rounds where
  reg : Option Round := none
  inj : Option Round := none
  deriving DecidableEq, Repr

/-- A record of the field buffer (R660, R661). -/
structure BufRec where
  start : Ts
  qual : Nat
  value : Int
  deriving DecidableEq, Repr

/-- The settings whose change unsettles the field converter (R653). -/
structure ConvSet where
  ch : Nat
  ref : Nat
  gain : Nat
  filt : Nat
  odr : Nat
  bo : Nat
  deriving DecidableEq, Repr

/-- The field island and the management processor's end of the barrier link. -/
structure Island where
  /-- The island runs (R620). -/
  up : Bool := false
  /-- Cycle of its start (R638). -/
  since : Nat := 0
  /-- The committed configuration has been sent since the island started (R622). -/
  told : Bool := false
  /-- Configuration words as the island has applied them (R652). -/
  regs : Space := []
  rounds : Rounds := {}
  /-- Settings of the previous conversion; none after a start or a resumption (R653). -/
  last : Option ConvSet := none
  /-- Conversions still to be marked UNSETTLED (R653, R655). -/
  tail : Nat := 0
  /-- Gain code in force of entries 0-15 and injected entries 16-19 (R654). -/
  gain : List Nat := List.replicate 20 0
  /-- Consecutive conversions below 20 % of full scale of each entry (R654). -/
  low : List Nat := List.replicate 20 0
  /-- Conversions wait for EXC_SETTLE; the excitations that changed (R653). -/
  settling : Bool := false
  excMoved : Nat := 0
  /-- Filtered states of FIN0-FIN3, closed 1 (R630, R631). -/
  fin : Nat := 0
  /-- The field buffer: records of AIN0-AIN7, oldest first (R660). -/
  rings : List (List BufRec) := List.replicate 8 []
  /-- The entry whose conversion last served each of AIN0-AIN7. -/
  lastEntry : List Nat := List.replicate 8 0
  /-- Instant of the last HB message (R634). -/
  hb : Nat := 0
  /-- SEQ of the next frame to and from the island, of the last CFG sent, and the echo last reported (R624, R626). -/
  seqTo : Byte := 0
  seqFrom : Byte := 0
  cfgSeq : Byte := 0
  echo : Byte := 0
  /-- Local instant of the last TSYNC, and the last two pairs of tick and instant, newest first (R629). -/
  tsync : Ts := 0
  map : List (Nat × Ts) := []
  /-- Records brought by BUFDATA: channel, index and record word. -/
  got : List (Nat × Nat × Word) := []
  deriving DecidableEq, Repr

/-- The monitor converter (R662). -/
structure Monitor where
  rounds : Rounds := {}
  /-- Cycle of the last change of reference (R656). -/
  refAt : Nat := 0
  deriving DecidableEq, Repr

/-! ## Calibration (chapter 19) -/

/-- A calibration domain beside its record. -/
structure CalDom where
  /-- Micro-steps of the run in progress that stand, and all of them, repeats included (R673, R675, R695). -/
  steps : Nat := 0
  tries : Nat := 0
  /-- A cause other than CAL_RUN made it due or run (R671). -/
  own : Bool := false
  /-- Checked values that wait for their application, and the instant of the check (R683). -/
  ready : Option (List Int × Ts) := none
  /-- Due again after a failure, RETRY_T later (R686). -/
  retry : Bool := false
  /-- Cycle of the last successful run (R671), and of the last failure (R686). -/
  last : Option Nat := none
  failedAt : Nat := 0
  /-- Windows that hold a micro-step, by the global number of the shot that ends them (R673). -/
  wins : List Nat := []
  deriving DecidableEq, Repr

/-- A CAL_RUN in progress: its session and sequence, the domains still to end, and whether one failed (R693). -/
structure CalOp where
  sess : Nat
  seq : BitVec 32
  left : Nat
  failed : Bool := false
  deriving DecidableEq, Repr

/-- The user record of the calibration sector (R688, R690): register words, inner trims, and whether its CRC and binding
hold. -/
structure CalUser where
  words : List (Nat × Word)
  trims : List (List (Option Int))
  sound : Bool := true
  deriving DecidableEq, Repr

/-- The calibration engine. -/
structure Calib where
  doms : List CalDom := List.replicate 13 {}
  /-- Last readings of die 0-3 and the case, 0.01 °C (R668). -/
  temps : List Int := [0, 0, 0, 0, 0]
  ops : List CalOp := []
  /-- User values of the trims that no register holds, domains 7 to 12; none where the factory's is in force. -/
  trims : List (List (Option Int)) := List.replicate 13 (List.replicate 18 none)
  /-- A RESTORE_FACTORY waits for its commit point: session, sequence and the cycle of its acceptance (R692). -/
  restore : Option (Nat × BitVec 32 × Nat) := none
  /-- An owner change and a run's result have not been saved; the cycle of the last save of results (R690). -/
  ownerDirty : Bool := false
  runDirty : Bool := false
  savedAt : Option Nat := none
  /-- The user record in flash. -/
  user : Option CalUser := none
  deriving DecidableEq, Repr

/-! ## External memory controller (chapter 20) -/

/-- A request to a channel of the memory (R701, R703): a write or a read, its class of R701, its first byte and its length, the cycle
of its arrival, and for a history write the stream and the output index. -/
structure DramReq where
  ch : Nat
  write : Bool
  cls : Nat
  addr : Nat
  len : Nat
  since : Nat
  item : Nat × Nat := (0, 0)
  deriving DecidableEq, Repr

/-- The controller beside its registers, each list by channel and then by bank. -/
structure Dmc where
  /-- Refreshes owed (R705). -/
  debt : List (List Nat) := List.replicate 4 (List.replicate 16 0)
  /-- Of these, converted debt still to be issued back to back (R707). -/
  burst : List (List Nat) := List.replicate 4 (List.replicate 16 0)
  /-- Activate tables of channel 0: row and count of each entry in use (R711). -/
  tables : List (List (Nat × Nat)) := List.replicate 16 []
  /-- DMC_RD.P and THR in force (R719). -/
  rdP : Nat := 8
  rdThr : Nat := 4096
  /-- Shadow timing of set-points 0 and 1 of each channel (R713). -/
  timing : List (Nat × Nat) := List.replicate 4 (0, 0)
  /-- The first training step after a frequency change is due at once (R717). -/
  trainDue : Bool := false
  /-- Temperature of die 2 at the last training step, 0.01 °C (R714). -/
  trainTemp : Int := 0
  /-- Requests that wait, in the staging SRAM and the channels' queues, in the order of their arrival (R701 to R704). -/
  queue : List DramReq := []
  /-- Requests that have completed on the channels' buses, oldest first. -/
  done : List DramReq := []
  /-- Every channel is in self-refresh, or the LPDDR5 reset is driven low: a reset episode (R730). -/
  selfRefresh : Bool := false
  resetLow : Bool := false
  deriving DecidableEq, Repr

/-! ## Perturbation (chapter 23) -/

/-- Perturbation beside its registers. -/
structure Perturb where
  /-- Session of the most recent PTB_SET and the cycle it was accepted (R775). -/
  by_ : Option Nat := none
  since : Nat := 0
  /-- The cycles at which the back-pressure and the memory stall in force began (R779, R782). -/
  bpSince : Nat := 0
  stallSince : Nat := 0
  /-- Matching ridge frames, and frames of each CRC target, since the last act (R780, R781). -/
  drops : Nat := 0
  crcs : List Nat := List.replicate 5 0
  deriving DecidableEq, Repr

/-! ## What leaves the block -/

/-- How a PTP message leaves (R514, R519): its transport, 0 UDP over IPv4, 1 over IPv6, 2 IEEE 802.3, its multicast destination and
domain, the UDP checksum where it is sent as 0, and the 2 B checksum trailer. -/
structure PtpHead where
  transport : Nat
  dst : BitVec 48
  domain : Nat
  zeroSum : Bool
  trailer : Bool
  deriving DecidableEq, Repr

/-- A frame that leaves an Ethernet port beside battens and QCP packets (R503, R504, R514 to R520). -/
inductive EthOut where
  /-- ARP reply or neighbour advertisement for one of the port's own addresses. -/
  | neighbourReply (addr : BitVec 128) (dst : BitVec 48)
  /-- ARP request or neighbour solicitation for a next hop. -/
  | neighbourRequest (addr : BitVec 128)
  | echoReply (addr : BitVec 128) (dst : BitVec 48) (size : Nat)
  /-- Sync: sequence, originTimestamp in ns or none of a two-step clock, correctionField in 2^-16 ns. -/
  | ptpSync (h : PtpHead) (seqId : BitVec 16) (origin : Option Nat) (corr : Nat)
  | ptpFollowUp (h : PtpHead) (seqId : BitVec 16) (origin : Nat) (corr : Nat)
  | ptpDelayReq (h : PtpHead) (seqId : BitVec 16)
  /-- Delay_Resp: the receive time it reports. -/
  | ptpDelayResp (h : PtpHead) (seqId : BitVec 16) (t4 : Ts)
  /-- Announce: sequence and clockClass. -/
  | ptpAnnounce (h : PtpHead) (seqId : BitVec 16) (clockClass : Nat)
  deriving DecidableEq, Repr

/-- A ridge frame that leaves a lane (R551, R552): type, direction (true west), origin, hops, sequence, CORR, TIME and
payload. -/
structure RidgeFrame where
  type : Nat
  west : Bool
  origin : BitVec 12
  hops : BitVec 12
  seq : BitVec 32
  corr : Nat
  time : Ts
  payload : List Byte
  deriving DecidableEq, Repr

/-- A frame that leaves the PAIR lane (R605, R607 to R611, R614). -/
inductive PairFrame where
  | hb (health : BitVec 12)
  /-- Committed T_SW, N_SLOT, T_ALIGN modulo T_SW, laser channel and node. -/
  | cfg (tsw nslot : Nat) (alignMod : Ts) (ch : BitVec 8) (node : BitVec 12)
  | snap (offset total : Nat) (body : List Byte)
  | finalSeq (seqs : List (Nat × BitVec 32))
  | takeAt (t : Ts)
  deriving DecidableEq, Repr

/-- The envelope of a probe: constant, or a chirp of a sweep bandwidth in MHz with its complex samples at 1 GS/s (R96,
R97). -/
inductive Shape where
  | rect
  | chirp (bw : Nat) (iq : List (Int × Int))
  deriving DecidableEq, Repr

/-- A probe as it leaves a port (R92, R94 to R99). -/
structure ProbeOut where
  port : Port
  pos : Fin 16
  slot : Fin 16
  /-- Global shot number. -/
  s : Nat
  /-- Shot boundary on the local clock. -/
  t : Ts
  /-- Duration in ns. -/
  dur : Nat
  shape : Shape
  /-- Level of the port, and peak power of the slot, 0.1 dBm (R98). -/
  level : Int
  amp : Nat
  peak : Int
  /-- Intermediate and optical frequency, MHz (R92). -/
  ifMhz : Int
  freqMhz : Int
  /-- The gate of the port opens and closes (R99). -/
  gateFrom : Ts
  gateTo : Ts
  /-- The physical port it leaves (R199). -/
  phys : Port
  deriving DecidableEq, Repr

/-- The heads of a UDP datagram: source and destination address and port, IPv6 or IPv4, DSCP and the UDP checksum (R403). -/
structure UdpHead where
  v6 : Bool
  saddr : BitVec 128
  daddr : BitVec 128
  sport : Nat
  dport : Nat
  dscp : Nat
  csum : Nat
  deriving DecidableEq, Repr

/-- Everything the block sends or drives, in order. -/
inductive Out where
  /-- A reply or event packet on a transport (R423). -/
  | qcp (via : Via) (p : Packet)
  /-- A probe launched (R94, R98). -/
  | probe (o : ProbeOut)
  /-- A restore probe (R76, R77). -/
  | restoreProbe (o : ProbeOut)
  /-- A diagnostic pulse into the internal dump of a physical port: start and length in ns after the sweep boundary (R82, R83, R199). -/
  | diagPulse (port : Port) (start len : Nat)
  /-- A frame on an Ethernet port. -/
  | eth (x : Fin 2) (f : EthOut)
  /-- A rising edge of PPS_OUT at a local-clock instant (R537). -/
  | pps (t : Ts)
  /-- A frame on a ridge lane. -/
  | ridge (f : RidgeFrame)
  /-- A UDP datagram of a stream or a capture on an Ethernet port (R402, R403, R448). -/
  | datagram (x : Fin 2) (h : UdpHead) (payload : List Byte)
  /-- Bytes written to host memory over PCIe (R404, R449). -/
  | host (addr : Nat) (bytes : List Byte)
  /-- A frame on the PAIR lane, with its sequence (R605). -/
  | pair (seq : BitVec 32) (f : PairFrame)
  /-- A frame on the barrier link: to the island or from it, SEQ and message (R624). -/
  | barrier (toIsland : Bool) (seq : Byte) (m : BarMsg)
  /-- Bits that the test access port shifts out: their number and value (R765, R766). -/
  | tdo (bits value : Nat)
  /-- The words that a direct read returns (R789, R813); none where the path is held in reset and does not answer (R734). -/
  | read (path : Path) (words : List Word)
  /-- The frame listed before this one leaves with bit 0 of its final CRC byte inverted (R781). -/
  | corrupted
  /-- An MSI: IRQ_N became asserted (chapter 25, PCIe). -/
  | msi
  deriving DecidableEq, Repr


/-! ## The state -/

/-- The state of the block. -/
structure State where
  /-- The register space (R784, R785). -/
  regs : Space
  /-- The local clock, in 2^-40 ns (R505, R508). -/
  clk : Nat
  /-- Cycles of 2 ns that have passed, across every reset; the block's own measure of intervals. -/
  cyc : Nat
  light : Light
  grid : Grid
  pat : Pattern
  rx : Receiver
  phs : Phase
  dec : Decim
  qcp : Qcp
  ptp : Ptp
  net : Net
  tb : TimeBase
  ridge : Ridge
  strm : Streams
  trg : Trig
  reed : Reed
  brl : Brl
  pair : Pair
  isl : Island
  mon : Monitor
  cal : Calib
  dmc : Dmc
  ptb : Perturb
  keys : Keys
  tap : Tap
  shadows : List Shadow
  power : Power
  /-- What has left the block, oldest first. -/
  out : List Out
  /-- Free values drawn so far. The model's own field: it names no register of the spec. -/
  free : Nat
  /-- Commands that wait, first in, first out. -/
  pending : List Instr
  deriving DecidableEq, Repr

/-! ## Reset (R469, R486, R723, R729, R731, R788) -/

/-- The sessions at reset: all closed, session 0 with the quotas of an owner (R467, R469). -/
def freshSessions : List Session :=
  { quotas := { streams := 64, bandwidth := 100000, capture := none, reed := 16 } } :: List.replicate 7 {}

/-- The block right after the FULL reset at which its supplies first rose, PORESET_N held low as R721 asks: the registers at the values of their tables,
with RST_CAUSE telling POWER, PIN_POR and FLD_VIN, and the synthesisers locked; the boot steps have still to run. -/
def State.reset : State :=
  { regs := [(0x010000, 0x103), (0x020004, 0x2)]
    clk := 0, cyc := 0, light := {}, grid := {}, pat := {}, rx := {}, phs := {}, dec := {}, qcp := { sess := freshSessions }
    ptp := {}, net := {}, tb := {}, ridge := {}, strm := {}, trg := {}, reed := {}, brl := {}, pair := {}, isl := {}, mon := {}
    cal := {}, dmc := {}, ptb := {}, keys := {}, tap := {}, shadows := [], power := {}, out := [], free := 0, pending := [] }

end Sys2Proof.Machine
end

