-- ==== Sys2Proof/Machine/Ops.lean ====
section
/-! DEFINITION. The named operations every meaning is written with: registers and fields, lists, the local clock, free
values, quality codes, ports, the device state and what leaves the block. -/

namespace Sys2Proof

/-! ## Quality codes (R5, R6) and ports -/

/-- The 4-bit code of R5. -/
def qualCode : Qual → Nat
  | .good => 0
  | .unsettled => 1
  | .lowq => 2
  | .clipped => 3
  | .gap => 4
  | .failover => 5
  | .apr => 6
  | .tbCold => 7
  | .fallback => 8

/-- Place in the order of R6, the most severe highest. -/
def qualRank : Qual → Nat
  | .gap => 8
  | .clipped => 7
  | .apr => 6
  | .unsettled => 5
  | .failover => 4
  | .fallback => 3
  | .lowq => 2
  | .tbCold => 1
  | .good => 0

/-- The more severe of two codes (R6). -/
def worseQual (a b : Qual) : Qual := if qualRank a < qualRank b then b else a

/-- The most severe of a list of codes. -/
def worstQual (l : List Qual) : Qual := l.foldl worseQual .good

/-- Index of a port in a register array. -/
def Port.idx : Port → Nat
  | .a => 0
  | .b => 1

/-- The other port. -/
def Port.other : Port → Port
  | .a => .b
  | .b => .a

end Sys2Proof

namespace Sys2Proof.Machine

/-! ## Bit fields and registers (R8) -/

/-- The value of a field in a word. -/
def Fld.ofWord (f : Fld) (w : Word) : Nat := w.toNat / 2 ^ f.lo % 2 ^ f.width

/-- A word with a field replaced; the value is taken modulo the field's width. -/
def Fld.intoWord (f : Fld) (w : Word) (n : Nat) : Word :=
  (w &&& ~~~(BitVec.ofNat 32 ((2 ^ f.width - 1) * 2 ^ f.lo))) ||| BitVec.ofNat 32 (n % 2 ^ f.width * 2 ^ f.lo)

/-- A register word. -/
def State.rd (s : State) (off : Nat) : Word := s.regs.read off

/-- Write a register word. -/
def State.wr (s : State) (off : Nat) (w : Word) : State := { s with regs := s.regs.write off w }

/-- A field of a register. -/
def State.get (s : State) (f : Fld) : Nat := f.ofWord (s.rd f.addr)

/-- Whether a field is not 0. -/
def State.flag (s : State) (f : Fld) : Bool := s.get f != 0

/-- Set a field of a register, the other bits unchanged. -/
def State.put (s : State) (f : Fld) (n : Nat) : State := s.wr f.addr (f.intoWord (s.rd f.addr) n)

/-- Set a one-bit field. -/
def State.putFlag (s : State) (f : Fld) (b : Bool) : State := s.put f b.toNat

/-- A number read as two's complement of a width. -/
def signed (width n : Nat) : Int := if n % 2 ^ width < 2 ^ (width - 1) then (n % 2 ^ width : Nat) else (n % 2 ^ width : Nat) - (2 ^ width : Nat)

/-- An integer as the two's complement pattern of a width. -/
def pattern (width : Nat) (i : Int) : Nat := (i % (2 ^ width : Nat)).toNat

/-- A field read as two's complement. -/
def State.geti (s : State) (f : Fld) : Int := signed f.width (s.get f)

/-- Set a field to a two's complement value. -/
def State.puti (s : State) (f : Fld) (i : Int) : State := s.put f (pattern f.width i)

/-- Count in a field that wraps. -/
def State.count (s : State) (f : Fld) (n : Nat := 1) : State := s.put f (s.get f + n)

/-- Count in a field that stops at all ones. -/
def State.countSat (s : State) (f : Fld) (n : Nat := 1) : State := s.put f (min (s.get f + n) (2 ^ f.width - 1))

/-- Set several fields. -/
def State.puts (s : State) (l : List (Fld × Nat)) : State := l.foldl (fun t p => t.put p.1 p.2) s

/-- A 48-bit counter kept in a low and a high field. -/
def State.get2 (s : State) (lo hi : Fld) : Nat := s.get lo + s.get hi * 2 ^ 32

/-- Set a counter kept in a low and a high field. -/
def State.put2 (s : State) (lo hi : Fld) (n : Nat) : State := (s.put lo n).put hi (n / 2 ^ 32)

/-- Put every word of a list of words back to its reset value. -/
def State.resetWords (s : State) (offs : List Nat) : State := offs.foldl (fun t o => t.wr o (resetWord o)) s

/-! ## Lists -/

/-- A list with the entry at an index changed. -/
def updAt {α : Type} : List α → Nat → (α → α) → List α
  | [], _, _ => []
  | a :: t, 0, f => f a :: t
  | a :: t, n + 1, f => a :: updAt t n f

/-- A list with the entry at an index replaced. -/
def setAt {α : Type} (l : List α) (n : Nat) (v : α) : List α := updAt l n (fun _ => v)

/-- The sum of a list of integers. -/
def sumI (l : List Int) : Int := l.foldl (· + ·) 0

/-- The sum of a list of naturals. -/
def sumN (l : List Nat) : Nat := l.foldl (· + ·) 0

/-- The greatest of a list of naturals, 0 of none. -/
def maxN (l : List Nat) : Nat := l.foldl max 0

/-- The bits of a mask that are set, below a bound. -/
def bitsOf (n mask : Nat) : List Nat := (List.range n).filter (fun i => mask / 2 ^ i % 2 == 1)

/-- The mask with one bit set or cleared. -/
def setBit (mask i : Nat) (b : Bool) : Nat := mask - mask / 2 ^ i % 2 * 2 ^ i + b.toNat * 2 ^ i

/-! ## Free values and rounding -/

/-- The free value the next open value takes. -/
def State.freeVal (s : State) : Nat := Config.freeNat s.free

/-- The free-value counter advanced. -/
def State.drew (s : State) (n : Nat := 1) : State := { s with free := s.free + n }

/-- A quotient whose rounding the spec does not state: the floor, or one more where Config says so. -/
def divRound (num : Int) (den : Nat) : Int :=
  if num % (den : Int) = 0 then num / (den : Int) else num / (den : Int) + (Config.roundUp num den).toNat

/-- An integer held between two bounds. -/
def clampI (lo hi x : Int) : Int := if x < lo then lo else if hi < x then hi else x

/-- The nearest integer of a quotient, a half away from zero. -/
def divNear (num : Int) (den : Nat) : Int :=
  if num < 0 then -((-num * 2 + den) / (den * 2 : Nat)) else (num * 2 + den) / (den * 2 : Nat)

/-! ## Time (R505, R508) -/

/-- One nanosecond in units of 2^-16 ns. -/
abbrev ns : Nat := 65536

/-- One millisecond in cycles of 2 ns. -/
abbrev msCyc : Nat := 500000

/-- One second in cycles of 2 ns. -/
abbrev sCyc : Nat := 500000000

/-- The local clock in 2^-16 ns. -/
def State.now (s : State) : Ts := s.clk / 2 ^ 24

/-- An event that carries its own instant brings the local clock to it; the clock never goes back for one. -/
def State.at (s : State) (t : Ts) : State :=
  if t ≤ s.now then s
  else { s with cyc := s.cyc + (t - s.now) / (2 * ns), clk := t * 2 ^ 24 }

/-- Time passes until a cycle count is reached. -/
def State.atCyc (s : State) (c : Nat) : State := s.at (s.now + (c - s.cyc) * (2 * ns))

/-- The seconds of an instant. -/
def secOf (t : Ts) : Nat := t / (1000000000 * ns)

/-- The nanoseconds of an instant within its second. -/
def nsOf (t : Ts) : Nat := t / ns % 1000000000

/-- The fraction of an instant, 2^-16 ns. -/
def fracOf (t : Ts) : Nat := t % ns

/-! ## Ports -/

/-- The port of an index. -/
def portOf (n : Nat) : Port := if n = 0 then .a else .b

/-- The light path of a port. -/
def State.pl (s : State) (p : Port) : PortLight := if p = .a then s.light.portA else s.light.portB

/-- Change the light path of a port. -/
def State.modPl (s : State) (p : Port) (f : PortLight → PortLight) : State :=
  match p with
  | .a => { s with light := { s.light with portA := f s.light.portA } }
  | .b => { s with light := { s.light with portB := f s.light.portB } }

/-! ## Back-pressure and memory stalls (R776, R779, R782) -/

/-- Back-pressure of DUTY of 0 or without a target is off. -/
def State.bpOn (s : State) : Bool := s.flag PTB_BP.DUTY && s.flag PTB_BP.TARGET

/-- A queue of PTB_BP is held full: 0 DSP to DMC, 1 PCIe ring, 2 Ethernet 1, 3 Ethernet 0; HOLD µs of every
HOLD × 256 / DUTY µs (R779). -/
def State.bpHeld (s : State) (bit : Nat) : Bool :=
  s.bpOn && s.get PTB_BP.TARGET / 2 ^ bit % 2 == 1
    && decide ((s.cyc - s.ptb.bpSince) * s.get PTB_BP.DUTY % (s.get PTB_BP.HOLD * 128000) < s.get PTB_BP.HOLD * 500 * s.get PTB_BP.DUTY)

/-- Holds begun since the back-pressure in force began: one for each target queue. -/
def State.bpActs (s : State) : Nat :=
  if s.bpOn then (bitsOf 4 (s.get PTB_BP.TARGET)).length * ((s.cyc - s.ptb.bpSince) * s.get PTB_BP.DUTY / (s.get PTB_BP.HOLD * 128000) + 1) else 0

/-- A channel accepts no request: STALL µs of every PERIOD ms (R782). -/
def State.stallHeld (s : State) (ch : Nat) : Bool :=
  s.flag PTB_DSTALL.STALL && s.get PTB_DSTALL.CH / 2 ^ ch % 2 == 1
    && decide ((s.cyc - s.ptb.stallSince) % (s.get PTB_DSTALL.PERIOD * msCyc) < s.get PTB_DSTALL.STALL * 500)

/-- Stalls begun since the stall in force began: one for each selected channel. -/
def State.stallActs (s : State) : Nat :=
  if s.flag PTB_DSTALL.STALL && s.flag PTB_DSTALL.CH then
    (bitsOf 4 (s.get PTB_DSTALL.CH)).length * ((s.cyc - s.ptb.stallSince) / (s.get PTB_DSTALL.PERIOD * msCyc) + 1)
  else 0

/-! ## The memory channels' queues (R697 to R704, R776) -/

/-- Usable capacity in MiB (R697). -/
def State.dramCap (s : State) : Nat := 8192 * 2 ^ s.get DMC_STATUS.DENS

/-- First byte of the region of a class (R698, R699). -/
def State.dramBase (s : State) (cls : Nat) : Nat :=
  2 ^ 20 * (match cls with
    | 1 => s.dramCap - 1024
    | 2 => 64 + s.get STR_RETSZ.SIZE
    | 3 => 0
    | 5 => 64
    | _ => 64 + s.get STR_RETSZ.SIZE + s.get TRG_HISTSZ.SIZE)

/-- The channel of a byte: the general regions are interleaved at 256 B, and the privileged region is on channel 0 (R698, R699). -/
def State.dramCh (s : State) (addr : Nat) : Nat :=
  if (s.dramCap - 1024) * 2 ^ 20 ≤ addr then 0
  else if addr < (s.dramCap - 4096) * 2 ^ 20 then addr / 256 % 4
  else 1 + addr / 256 % 3

/-- Two requests share 64 B (R703). -/
def DramReq.hits (a b : DramReq) : Bool :=
  decide (a.addr / 64 ≤ (b.addr + b.len - 1) / 64) && decide (b.addr / 64 ≤ (a.addr + a.len - 1) / 64)

/-- Requests that may be served now, in arrival order, with their rank: a write behind a write, and a read behind a write, to
the same 64 B wait; a write that a read waits for goes ahead, the others go by class (R701, R703, R704). -/
def ranked : List DramReq → List DramReq → List (DramReq × Nat)
  | _, [] => []
  | before, r :: t =>
    let rest := ranked (before ++ [r]) t
    if before.any (fun w => w.write && w.hits r) then rest
    else (r, if r.write && t.any (fun x => !x.write && x.hits r) then 0 else r.cls) :: rest

/-- The request served next: of the lowest rank the oldest (R701). -/
def firstRank : List (DramReq × Nat) → Option (DramReq × Nat)
  | [] => none
  | e :: t =>
    match firstRank t with
    | none => some e
    | some f => if f.2 < e.2 then some f else some e

/-- A channel may serve a request: none in self-refresh or in reset, and during a stall or a held queue only the privileged region's
(R730, R776, R779, R782). -/
def State.dramOpen (s : State) (r : DramReq) : Bool :=
  !s.dmc.selfRefresh && !s.dmc.resetLow && (r.cls == 1 || (!s.stallHeld r.ch && !s.bpHeld 0))

/-- The request a channel serves next (R701). -/
def State.dramNext (s : State) (ch : Nat) (pick : DramReq → Bool) : Option DramReq :=
  (firstRank ((ranked [] (s.dmc.queue.filter (fun r => r.ch == ch && s.dramOpen r))).filter (fun e => pick e.1))).map (·.1)

/-- A channel completes a request. -/
def State.dramServe (s : State) (ch : Nat) (pick : DramReq → Bool) : State :=
  match s.dramNext ch pick with
  | none => s
  | some r => { s with dmc := { s.dmc with queue := s.dmc.queue.erase r, done := s.dmc.done ++ [r] } }

/-- Every channel completes one request. -/
def State.dramCycle (s : State) : State := (List.range 4).foldl (fun (t : State) ch => t.dramServe ch (fun _ => true)) s

/-- The writes of every queue are drained (R716). -/
def State.dramDrain (s : State) : State :=
  (List.range s.dmc.queue.length).foldl (fun (t : State) _ =>
    (List.range 4).foldl (fun (u : State) ch => u.dramServe ch (·.write)) t) s

/-- A write of an item of a class goes to every channel that it touches (R699, R701). -/
def State.dramWrite (s : State) (cls owner item len : Nat) : State :=
  let a := s.dramBase cls + Config.dramPlace cls owner item
  let chs := ((List.range (min 5 (len / 256 + 2))).map (fun i => s.dramCh (min (a + 256 * i) (a + len - 1)))).eraseDups
  let l : List DramReq := chs.map (fun c => { ch := c, write := true, cls := cls, addr := a, len := len, since := s.cyc, item := (owner, item) })
  { s with dmc := { s.dmc with queue := s.dmc.queue ++ l } }

/-! ## Device state (R3, R4, R487) -/

/-- SYS_STATE.STATE. -/
def State.dev (s : State) : Nat := s.get SYS_STATE.STATE

/-- Change the memory's set-point through self-refresh: the write queues are drained and every bank's debt is issued before, none is
left after, and the first training step on the new set-point is due (R709, R716, R717). -/
def State.changeFsp (s : State) (n : Nat) : State :=
  if s.get DMC_STATUS.FSP = n then s
  else
    let s := s.dramDrain
    ({ s with dmc := { s.dmc with debt := List.replicate 4 (List.replicate 16 0), burst := List.replicate 4 (List.replicate 16 0), trainDue := true } }).put
    DMC_STATUS.FSP n

/-- Enter a device state: STATE and PREV in one write (R4). A state that needs set-point 0 of the memory is entered once it
is in force (R715). -/
def State.enter (s : State) (n : Nat) : State :=
  if s.dev = n then s
  else
    let t := if n = 2 || n = 5 then s else s.changeFsp 0
    t.wr SYS_STATE.STATE.addr (SYS_STATE.PREV.intoWord (SYS_STATE.STATE.intoWord (t.rd SYS_STATE.STATE.addr) n) s.dev)

/-- The device emits while SYS_STATE is RUN, SHADOW or SAFE (R487). -/
def State.emits (s : State) : Bool := s.dev == 3 || s.dev == 4 || s.dev == 5

/-- A result carries TB_COLD: the oven is not warm, or it has failed (R528, R659). -/
def State.tbCold (s : State) : Bool := !s.flag OCX_STATUS.WARM || s.flag OCX_STATUS.FAIL

/-! ## Epochs (R481, R483, R485, R486) -/

/-- The epoch after another: never 0 (R485). -/
def nextEpoch (e : BitVec 32) : BitVec 32 := if e = 0xFFFFFFFF then 1 else e + 1

/-- The epoch in force. -/
def State.epoch (s : State) : BitVec 32 := s.rd SYS_EPOCH.EPOCH.addr

/-- The epoch in force at an instant of the grid (R29, R30). -/
def State.epochAt (s : State) (t : Int) : BitVec 32 :=
  match s.grid.epochs.find? (fun e => decide ((e.1 : Int) ≤ t)) with
  | some e => e.2
  | none => s.epoch

/-- The pattern bank in force at an instant of the grid, B true (R118). -/
def State.bankAt (s : State) (t : Int) : Bool :=
  match s.grid.banks.find? (fun e => decide ((e.1 : Int) ≤ t)) with
  | some e => e.2
  | none => s.get PAT_STATUS.ACTIVE == 1

/-- The retention store keeps the highest epoch issued (R486). -/
def State.issue (s : State) (e : BitVec 32) : State :=
  { s with power := { s.power with ret := { s.power.ret with epoch := if s.power.ret.epoch < e then e else s.power.ret.epoch } } }

/-- An epoch comes into force at an instant (R29, R486, R603). -/
def State.setEpoch (s : State) (t : Ts) (e : BitVec 32) : State :=
  let u := (s.put SYS_EPOCH.EPOCH e.toNat).issue e
  { u with grid := { u.grid with epochs := (t, e) :: (if s.grid.epochs = [] then [(0, s.epoch)] else s.grid.epochs) } }

/-- The sets already handed over, oldest first (R471, R480, R481). -/
def State.handedSets (s : State) : List StagedSet := s.qcp.staged.filter (fun x => x.handed.isSome)

/-- The most recent epoch number assigned: every set handed over has the next one (R481, R483). -/
def State.assigned (s : State) : BitVec 32 := s.handedSets.foldl (fun e _ => nextEpoch e) s.epoch

/-! ## What leaves the block -/

/-- Something leaves the block unperturbed. -/
def State.emitRaw (s : State) (o : Out) : State := { s with out := s.out ++ [o] }

/-- The CRC target of PTB_CRC a frame belongs to, by its bit: battens 4, QCP replies 3 but for those to the owner, ridge 2,
PAIR 1, barrier frames to the island 0 (R776, R781). -/
def State.crcTarget (s : State) : Out → Option Nat
  | .datagram _ _ l => if l.take 2 = [0x43#8, 0x46#8] then none else some 4
  | .qcp (.udp _) p => if p.reply && p.session != s.get SYS_SESS.OWNER then some 3 else none
  | .ridge _ => some 2
  | .pair _ _ => some 1
  | .barrier true _ _ => some 0
  | _ => none

/-- A ridge frame matches PTB_RDROP (R780). -/
def State.dropMatch (s : State) (f : RidgeFrame) : Bool :=
  s.get PTB_RDROP.N != 0 && s.flag (if f.west then PTB_RDROP.LANE_W else PTB_RDROP.LANE_E) && f.type != 0
    && s.get PTB_RDROP.TYPES / 2 ^ f.type % 2 == 1 && (!s.flag PTB_RDROP.ORIG_ONLY || f.origin.toNat == s.get RDG_CFG.NODE_ID)

/-- A ridge drop replaces every N-th matching frame with an IDLE frame (R780). -/
def State.emitDrop (s : State) (o : Out) : State :=
  match o with
  | .ridge f =>
    if s.dropMatch f then
      if s.get PTB_RDROP.N ≤ s.ptb.drops + 1 then
        (({ s with ptb := { s.ptb with drops := 0 } }).count (PTB_CNT.COUNT 2)).emitRaw
          (.ridge { f with type := 0, origin := 0, hops := 0, seq := 0, payload := [] })
      else ({ s with ptb := { s.ptb with drops := s.ptb.drops + 1 } }).emitRaw o
    else s.emitRaw o
  | _ => s.emitRaw o

/-- Something leaves the block, under the perturbations in force (R780, R781). -/
def State.emit (s : State) (o : Out) : State :=
  let t := s.emitDrop o
  match s.crcTarget o with
  | none => t
  | some b =>
    if s.get PTB_CRC.N = 0 || s.get PTB_CRC.TARGET / 2 ^ b % 2 = 0 then t
    else
      let n := t.ptb.crcs.getD b 0 + 1
      if s.get PTB_CRC.N ≤ n then
        (({ t with ptb := { t.ptb with crcs := setAt t.ptb.crcs b 0 } }).count (PTB_CNT.COUNT 3)).emitRaw .corrupted
      else { t with ptb := { t.ptb with crcs := setAt t.ptb.crcs b n } }

/-! ## The interrupt line (R290, R450) -/

/-- IRQ_N is asserted: by a trigger unit, or by a mailbox with IRQ_EN. -/
def State.irq (s : State) : Bool :=
  s.flag TRG_STATUS.IRQ || [0, 1].any (fun m => s.flag (QCP_MB_CTRL.IRQ_EN m) && (s.flag (QCP_MB_CTRL.DONE m) || s.flag (QCP_MB_CTRL.EVT m)))

/-- A reset episode of a reach, or a wider one, is in force. -/
def State.inReset (s : State) (reach : Nat) : Bool := s.power.episode.any (fun e => decide (reach ≤ e.reach))

/-- IRQ_N: asserted low by its causes (R290, R450); released by FULL and COLD and from reset exit until STANDBY, held by WARM (R734). -/
def State.irqNLevel (s : State) : Bool :=
  if s.inReset 3 then true
  else if s.inReset 2 then !s.power.pins.irqHeld
  else !(s.power.configured && s.irq)

/-- One MSI each time IRQ_N becomes asserted, here between an earlier state and this one (chapter 25). -/
def State.msiSince (t s : State) : State := if s.irqNLevel && !t.irqNLevel then t.emitRaw .msi else t

/-! ## Guards -/

/-- An event that occurs only where its condition holds; elsewhere the state stays as it was. -/
def State.whenDo (s : State) (c : Bool) (f : State → State) : State := if c then f s else s

end Sys2Proof.Machine
end

