-- ==== Sys2Proof/Machine/Packet.lean ====
section
/-! DEFINITION. QCP packets as they travel (R414 to R422), replies and their cache (R432), events and their log (R446),
long operations (R443 to R445), and the counters of the interpreter (R450). -/

namespace Sys2Proof.Machine

/-! ## Items (R419, R420) -/

/-- An item whose value is a number of `len` bytes. -/
def item (tag len n : Nat) : Item := { tag := tag, val := beBytes len n }

/-- ADDR. -/
def itAddr (n : Nat) : Item := item 0x0001 4 n

/-- COUNT. -/
def itCount (n : Nat) : Item := item 0x0002 4 n

/-- SEQ. -/
def itSeq (n : Nat) : Item := item 0x0004 4 n

/-- EPOCH. -/
def itEpoch (n : Nat) : Item := item 0x0005 4 n

/-- STATUS. -/
def itStatus (n : Nat) : Item := item 0x0006 4 n

/-- OPCODE. -/
def itOpcode (n : Nat) : Item := item 0x0007 4 n

/-- TIME: seconds, nanoseconds and fraction of an instant in 2^-16 ns. -/
def itTime (t : Ts) : Item := { tag := 0x0008, val := beBytes 6 (secOf t) ++ beBytes 4 (nsOf t) ++ beBytes 2 (fracOf t) }

/-- DATA. -/
def itData (l : List Byte) : Item := { tag := 0x0009, val := l }

/-- DATA made of words. -/
def itWords (l : List Word) : Item := itData (l.flatMap wordBytes)

/-- EVCODE: event code and subject index. -/
def itEvcode (code subject : Nat) : Item := item 0x000D 4 (code * 65536 + subject % 65536)

/-- STATE: SYS_STATE. -/
def itState (w : Word) : Item := { tag := 0x000E, val := wordBytes w }

/-- IGNORED. -/
def itIgnored (n : Nat) : Item := item 0x0013 4 n

/-- INDEX, OFFSET, MASK, LEVEL, PLACE, HADDR and SIGNED. -/
def itIndex (n : Nat) : Item := item 0x0003 4 n
def itOffset (n : Nat) : Item := item 0x000A 8 n
def itMask (n : Nat) : Item := item 0x000B 8 n
def itLevel (n : Nat) : Item := item 0x000C 4 n
def itPlace (w : Word) : Item := { tag := 0x000F, val := wordBytes w }
def itHaddr (n : Nat) : Item := item 0x0010 8 n
def itSigned (i : Int) : Item := item 0x0012 4 (pattern 32 i)

/-- UDPDEST: address, UDP port, and the flags of Ethernet port and IPv6. -/
def itUdpDest (d : Fin 2 × Bool × BitVec 128 × BitVec 16) : Item :=
  { tag := 0x0011, val := beBytes 16 d.2.2.1.toNat ++ beBytes 2 d.2.2.2.toNat ++ beBytes 1 (2 * d.1.val + d.2.1.toNat) ++ [0#8] }

/-- An operand of a row: the item that the request's packet carries, or none of a tag. -/
abbrev Operand := Nat × Option Item

/-- The operands that some items are. -/
def operands (l : List Item) : List Operand := l.map (fun i => (i.tag, some i))

/-- Items carry the values of a row's operands (R420). -/
def carries (items : List Item) (args : List Operand) : Bool := args.all (fun a => items.find? (fun i => i.tag == a.1) == a.2)

/-! ## Status codes (R439) -/

abbrev stOk : Nat := 0x0000
abbrev stAccepted : Nat := 0x0001
abbrev stAlreadyDone : Nat := 0x0002
abbrev stNotReady : Nat := 0x0100
abbrev stBusy : Nat := 0x0101
abbrev stParamRange : Nat := 0x0200
abbrev stParamConflict : Nat := 0x0201
abbrev stCaptureTooLarge : Nat := 0x0202
abbrev stQuota : Nat := 0x0300
abbrev stNotOwner : Nat := 0x0301
abbrev stOverdrawn : Nat := 0x0302
abbrev stAuthFail : Nat := 0x0400
abbrev stReplay : Nat := 0x0401
abbrev stHeld : Nat := 0x0500
abbrev stStaleEpoch : Nat := 0x0501
abbrev stPortSwap : Nat := 0x0600
abbrev stHwFault : Nat := 0x0700
abbrev stBadVersion : Nat := 0x0800
abbrev stNoSession : Nat := 0x0801
abbrev stBadOpcode : Nat := 0x0802
abbrev stBadTlv : Nat := 0x0803
abbrev stCancelled : Nat := 0x0804

/-! ## A packet as bytes (R414 to R417, R419) -/

/-- The bytes of an item: tag, length, value and zero padding to a word. -/
def Item.bytes (i : Item) : List Byte :=
  beBytes 2 i.tag ++ beBytes 2 i.val.length ++ i.val ++ List.replicate ((4 - i.val.length % 4) % 4) 0

/-- FLAGS of R415. -/
def Packet.flags (p : Packet) : Nat :=
  p.reply.toNat * 128 + p.key.isSome.toNat * 64 + p.event.toNat * 32 + p.dup.toNat * 16

/-- Header and parameters. -/
def Packet.body (p : Packet) : List Byte :=
  let prm := p.items.flatMap Item.bytes
  beBytes 2 0x5143 ++ beBytes 1 1 ++ beBytes 1 p.flags ++ beBytes 1 p.session ++ beBytes 1 0 ++ beBytes 2 p.status
    ++ beBytes 4 p.seq.toNat ++ beBytes 2 p.opcode ++ beBytes 2 prm.length ++ prm

/-- The MAC of R417 over a body and its CRC. -/
def macOf (key l : List Byte) : List Byte := (hmacSha256 key l).take 16

/-- The packet as it travels: header, parameters, CRC-32C and, with a key, the MAC. -/
def Packet.bytes (p : Packet) : List Byte :=
  let b := p.body ++ wordBytes (crc32c p.body)
  match p.key with
  | some k => b ++ macOf k b
  | none => b

/-- Bytes in a packet. -/
def Packet.size (p : Packet) : Nat :=
  20 + (p.items.map (fun i => 4 + (i.val.length + 3) / 4 * 4)).sum + (if p.key.isSome then 16 else 0)

/-- The IP fragments a packet leaves in: the offset and length of each in the UDP header and payload (R425). -/
def Packet.pieces (p : Packet) : List (Nat × Nat) :=
  let n := p.size + 8
  if p.cut = 0 || n ≤ p.cut then [(0, n)]
  else (List.range ((n + p.cut - 1) / p.cut)).map (fun i => (i * p.cut, min p.cut (n - i * p.cut)))

/-! ## Next hops (R504) -/

/-- Next hops of a port. -/
def State.hops (s : State) (x : Nat) : List NextHop := if x = 0 then s.net.hops0 else s.net.hops1

/-- Change the next hops of a port. -/
def State.setHops (s : State) (x : Nat) (l : List NextHop) : State :=
  if x = 0 then { s with net := { s.net with hops0 := l } } else { s with net := { s.net with hops1 := l } }

/-- The next hop of a destination: itself inside the prefix, the gateway otherwise. -/
def State.nextHopOf (s : State) (x : Nat) (v6 : Bool) (a : BitVec 128) : BitVec 128 :=
  if v6 then
    let own := (List.range 4).foldl (fun b i => b * 2 ^ 32 + s.get (NET_IPV6.IPV6 x i)) 0
    let gw := (List.range 4).foldl (fun b i => b * 2 ^ 32 + s.get (NET_GW6.GW6 x i)) 0
    let sh := 128 - s.get (NET_W7.PREFIX6 x)
    if a.toNat / 2 ^ sh = own / 2 ^ sh then a else BitVec.ofNat 128 gw
  else
    let sh := 32 - s.get (NET_W5.PREFIX4 x)
    if a.toNat % 2 ^ 32 / 2 ^ sh = s.get (NET_W4.IPV4 x) / 2 ^ sh then a else BitVec.ofNat 128 (s.get (NET_W6.GW4 x))

/-- The MAC address of a destination's next hop, once resolved. -/
def State.hopMac (s : State) (x : Nat) (v6 : Bool) (a : BitVec 128) : Option (BitVec 48) :=
  ((s.hops x).find? (fun e => e.addr == s.nextHopOf x v6 a && e.mac.isSome)).bind (fun e => e.mac)

/-- The other end of a datagram the device sends on its own: from UDP_PORT as committed, to the MAC address of the request's source or of the
next hop (R424, R450, R504). -/
def State.outPeer (s : State) (p : UdpPeer) : UdpPeer :=
  { p with
    dport := BitVec.ofNat 16 (s.get QCP_CFG.UDP_PORT)
    mac := if p.mac = 0 then (s.hopMac p.eth.val p.v6 p.addr).getD 0 else p.mac }

/-- Bytes of IP payload in a fragment at the port's MTU; 0 on a mailbox (R425). -/
def State.cutOf (s : State) : Via → Nat
  | .udp p => (s.get (STR_PORT.MTU p.eth.val) - (if p.v6 then 48 else 20)) / 8 * 8
  | .mailbox _ => 0

/-! ## Sessions -/

/-- A session number's state. -/
def State.sess (s : State) (r : Nat) : Session := s.qcp.sess.getD r {}

/-- Change a session number's state. -/
def State.modSess (s : State) (r : Nat) (f : Session → Session) : State :=
  { s with qcp := { s.qcp with sess := updAt s.qcp.sess r f } }

/-- The owner session (R465). -/
def State.owner (s : State) : Nat := s.get SYS_SESS.OWNER

/-- The session a path's accesses belong to (R462). -/
def State.pathSession (s : State) : Path → Option Nat
  | .pcie => s.qcp.bindPcie.map (·.val)
  | .spi => s.qcp.bindSpi.map (·.val)
  | .qcp r => some r.val

/-- A path's accesses carry the owner's rights. -/
def State.pathOwns (s : State) (p : Path) : Bool := s.pathSession p == some s.owner

/-- The key of a session's packets: a MAC exactly when it was opened with authentication (R418). -/
def Session.key (x : Session) : Option (List Byte) := if x.auth then some x.ks else none

/-- QCP_STATUS as the sessions stand (R450). -/
def State.qcpCount (s : State) : State :=
  s.puts [(QCP_STATUS.OPEN, (s.qcp.sess.zipIdx.map (fun p => p.1.isOpen.toNat * 2 ^ p.2)).sum),
    (QCP_STATUS.LONG, (s.qcp.sess.map (fun x => (x.longs.filter (fun l => !l.done)).length)).sum),
    (QCP_STATUS.QUEUED, min 255 (s.qcp.sess.map (fun x => x.queue.length)).sum)]

/-! ## Staging areas (R437) -/

/-- Bytes put into a staging area at an offset; a later put replaces. -/
def putBytes (l : List (Nat × Byte)) (offset : Nat) (data : List Byte) : List (Nat × Byte) :=
  l.filter (fun e => decide (e.1 < offset) || decide (offset + data.length ≤ e.1)) ++ data.zipIdx.map (fun b => (offset + b.2, b.1))

/-- The first bytes of a staging area; bytes never put are 0. -/
def getBytes (l : List (Nat × Byte)) (count : Nat) : List Byte :=
  (List.range count).map (fun i => ((l.find? (fun e => e.1 == i)).map (·.2)).getD 0)

/-! ## Mailbox buffers (R451) -/

/-- Words written at consecutive offsets. -/
def State.wrWords (s : State) (off : Nat) : List Word → State
  | [] => s
  | w :: t => (s.wr off w).wrWords (off + 4) t

/-- The words at consecutive offsets. -/
def State.rdWords (s : State) (off n : Nat) : List Word := (List.range n).map (fun i => s.rd (off + 4 * i))

/-- Request, reply and event buffer of a mailbox, 2,048 words each. -/
def mbRequest (m : Nat) : Nat := 0x192000 + 0x6000 * m
def mbReply (m : Nat) : Nat := 0x194000 + 0x6000 * m
def mbEvent (m : Nat) : Nat := 0x196000 + 0x6000 * m

/-! ## Replies (R423, R427, R432) -/

/-- A reply leaves on a transport; a mailbox takes it into its reply buffer and is released (R426, R427). -/
def State.sendReply (s : State) (via : Via) (p : Packet) : State :=
  match via with
  | .udp _ => s.emit (.qcp via p)
  | .mailbox m =>
    let t := s.wrWords (mbReply m.val) ((bytesWords p.bytes).take 2048)
    (t.puts [(QCP_MB_RLEN.RLEN m.val, p.size), (QCP_MB_CTRL.BUSY m.val, 0), (QCP_MB_CTRL.DONE m.val, 1)]).emit (.qcp via p) |>.msiSince s

/-- The reply packet of a session's request. -/
def replyPacket (s : State) (q : ReqHdr) (op status : Nat) (items : List Item) : Packet :=
  { reply := true, session := q.session.val, status := status, seq := q.seq, opcode := op, items := items,
    key := (s.sess q.session.val).key, cut := s.cutOf q.via }

/-- Keep a reply for the request's retransmission (R432). -/
def Session.cacheReply (x : Session) (seq : BitVec 32) (p : Packet) : Session :=
  { x with cache := x.cache.map (fun e => if e.seq = seq then { e with reply := some p } else e) }

/-- Reply to a request: the packet leaves on the transport that carried it and is kept (R423, R432). -/
def State.reply (s : State) (q : ReqHdr) (op status : Nat) (items : List Item := []) : State :=
  let p := replyPacket s q op status items
  (s.modSess q.session.val (fun x => x.cacheReply q.seq p)).sendReply q.via p

/-- The source of R430: a UDP address, whatever its port, or a mailbox. -/
def Via.source : Via → Via
  | .udp p => .udp { eth := 0, v6 := p.v6, addr := p.addr, port := 0 }
  | .mailbox m => .mailbox m

/-- A reply that checks 4 to 6 cause: no parameters, no MAC, and at most 10 a second to one source (R430). -/
def State.errorReply (s : State) (via : Via) (r : Nat) (seq : BitVec 32) (op status : Nat) : State :=
  let src := Via.source via
  let sec := s.cyc / sCyc
  let n := (s.qcp.errBucket.find? (fun e => e.1 == src && e.2.1 == sec)).elim 0 (fun e => e.2.2)
  if 10 ≤ n then
    let t := s.count (QCP_ERRCNT.COUNT 10)
    match via with
    | .mailbox m => t.put (QCP_MB_CTRL.BUSY m.val) 0
    | .udp _ => t
  else
    let t := { s with qcp := { s.qcp with
      errBucket := (src, sec, n + 1) :: s.qcp.errBucket.filter (fun e => !(e.1 == src) && e.2.1 == sec) } }
    t.sendReply via { reply := true, session := r, status := status, seq := seq, opcode := op }

/-! ## Events (R446, R447) -/

/-- An event can be delivered at once: the Ethernet link is up and the MAC address of the destination or of its next hop is known, or
the mailbox's event buffer is free (R428, R504). -/
def State.canDeliver (s : State) : Via → Bool
  | .udp p => s.flag (NET_W1.LINK p.eth.val) && (p.mac != 0 || (s.hopMac p.eth.val p.v6 p.addr).isSome)
  | .mailbox m => !s.flag (QCP_MB_CTRL.EVT m.val)

/-- An event leaves: on UDP as a datagram, on a mailbox through its event buffer (R428, R461). -/
def State.sendEvent (s : State) (via : Via) (p : Packet) : State :=
  match via with
  | .udp x => s.emit (.qcp (.udp (s.outPeer x)) p)
  | .mailbox m =>
    let t := s.wrWords (mbEvent m.val) ((bytesWords p.bytes).take 2048)
    (t.puts [(QCP_MB_RLEN.ELEN m.val, p.size), (QCP_MB_CTRL.EVT m.val, 1)]).emit (.qcp via p) |>.msiSince s

/-- The event packet of a session on a transport that carries some items: an EVENT, or a HEARTBEAT to the referee host. -/
def eventPacket (s : State) (r : Nat) (via : Via) (items : List Item) (op : Nat := 0x0180) : Packet :=
  { event := true, session := r, seq := (s.sess r).eseq, opcode := op, items := items, key := (s.sess r).key, cut := s.cutOf via }

/-- Append an event packet to a session's log, and deliver it where its route takes it now (R446). -/
def State.logEvent (s : State) (r : Nat) (via : Via) (items : List Item) (op : Nat := 0x0180) : State :=
  let p := eventPacket s r via items op
  let now := (s.sess r).isOpen && s.canDeliver via
  let t := s.modSess r (fun x => { x with
    eseq := x.eseq + 1
    log := x.log ++ [{ eseq := x.eseq, pkt := p, dest := via, delivered := now }] })
  if now then t.sendEvent via p else t

/-- A log of more than 256 packets loses its oldest; if that was never delivered, one more gives its place to
EVENT_LOST, which carries the count lost (R446). -/
def State.trimLog (s : State) (r : Nat) : State :=
  let l := (s.sess r).log
  if l.length ≤ 256 then s
  else if (l.take 1).all (·.delivered) then s.modSess r (fun x => { x with log := x.log.drop 1 })
  else
    let lost := ((l.take 2).filter (fun e => !e.delivered)).length
    (s.modSess r (fun x => { x with log := x.log.drop 2 })).logEvent r (s.sess r).route [itEvcode 0x0002 0, itCount lost]

/-- Raise an event to a session: event code, subject index and further items (R447). -/
def State.event (s : State) (r code subject : Nat) (extra : List Item := []) : State :=
  (s.logEvent r (s.sess r).route (itEvcode code subject :: extra)).trimLog r

/-- Raise an event to the owner session. -/
def State.eventOwner (s : State) (code subject : Nat) (extra : List Item := []) : State :=
  s.event s.owner code subject extra

/-- Raise an event to every open session. -/
def State.eventAll (s : State) (code subject : Nat) (extra : List Item := []) : State :=
  (List.range 8).foldl (fun t r => if (t.sess r).isOpen then t.event r code subject extra else t) s

/-! ## Long operations (R443 to R445) -/

/-- Long operations of a session in progress. -/
def Session.inProgress (x : Session) : List LongOp := x.longs.filter (fun l => !l.done)

/-- Eight long operations of a request's session are in progress: a ninth is told BUSY (R443). -/
def State.longsFull (s : State) (q : ReqHdr) : Bool := decide (8 ≤ (s.sess q.session.val).inProgress.length)

/-- The 64 most recent long operations, and those still in progress (R443, R444). -/
def keepLongs (l : List LongOp) : List LongOp := l.take 64 ++ (l.drop 64).filter (fun x => !x.done)

/-- Start a long operation and reply ACCEPTED, or reply BUSY to a ninth (R443). -/
def State.startLong (s : State) (q : ReqHdr) (op subject : Nat) (body : State → State) : State :=
  if s.longsFull q then s.reply q op stBusy
  else
    let l : LongOp := { seq := q.seq, opcode := op, via := q.via, subject := subject }
    let t := s.modSess q.session.val (fun x => { x with longs := keepLongs (l :: x.longs) })
    body (t.reply q op stAccepted).qcpCount

/-- The long operation of a session with a sequence. -/
def State.findLong (s : State) (r : Nat) (seq : BitVec 32) : Option LongOp := (s.sess r).longs.find? (fun l => l.seq = seq)

/-- Mark the commit point of a long operation (R444). -/
def State.commitPoint (s : State) (r : Nat) (seq : BitVec 32) : State :=
  s.modSess r (fun x => { x with longs := x.longs.map (fun l => if l.seq = seq then { l with committed := true } else l) })

/-- End a long operation with its one completion event, on the transport that carried the request (R423, R445). -/
def State.complete (s : State) (r : Nat) (seq : BitVec 32) (status : Nat) (items : List Item := []) : State :=
  match s.findLong r seq with
  | none => s
  | some l =>
    if l.done then s
    else
      let t := s.modSess r (fun x => { x with
        longs := x.longs.map (fun y => if y.seq = seq then { y with done := true, committed := true } else y) })
      ((t.logEvent r l.via ([itEvcode 0x0001 0, itOpcode l.opcode, itSeq seq.toNat, itStatus status] ++ items)).trimLog r).qcpCount

/-- The long operations in progress with an opcode: session and operation. -/
def State.longsOf (s : State) (op : Nat) : List (Nat × LongOp) :=
  (List.range 8).flatMap (fun r => ((s.sess r).inProgress.filter (fun l => l.opcode = op)).map (fun l => (r, l)))

/-- Complete every long operation in progress with an opcode and a subject. -/
def State.completeAll (s : State) (op : Nat) (subject : Nat → Bool) (status : Nat) (items : List Item := []) : State :=
  ((s.longsOf op).filter (fun p => subject p.2.subject)).foldl (fun t p => t.complete p.1 p.2.seq status items) s

/-- Mark the commit point of every long operation in progress with an opcode and a subject. -/
def State.commitAll (s : State) (op : Nat) (subject : Nat → Bool) : State :=
  ((s.longsOf op).filter (fun p => subject p.2.subject)).foldl (fun t p => t.commitPoint p.1 p.2.seq) s

/-! ## Acceptance of a request (R429 checks 5, 7 and 10, R432, R434) -/

/-- The sequence passes check 7 (R432, R433). -/
def Session.fresh (x : Session) (seq : BitVec 32) : Bool :=
  x.hi != 0xFFFFFFFF && (decide (x.hi < seq) || (decide (x.hi.toNat < seq.toNat + 64) && !x.accepted.contains seq))

/-- Accept a sequence: H, the accepted ones of the window, the 16 most recent of the cache (R432). -/
def Session.accept (x : Session) (seq : BitVec 32) (op : Nat) (crc : Option (BitVec 32)) (cyc : Nat) : Session :=
  let hi := if x.hi < seq then seq else x.hi
  { x with
    hi := hi
    heard := cyc
    accepted := (seq :: x.accepted).filter (fun a => decide (hi.toNat < a.toNat + 64))
    cache := ({ seq := seq, opcode := op, crc := crc, reply := none } :: x.cache).take 16 }

/-- A request that is not fresh: the stored reply again, marked DUP, or REPLAY (R432). -/
def State.notFresh (s : State) (q : ReqHdr) (op : Nat) (crc : Option (BitVec 32)) : State :=
  match (s.sess q.session.val).cache.find? (fun e => e.seq = q.seq && e.opcode == op && e.crc == crc) with
  | some e =>
    match e.reply with
    | some p => (s.count (QCP_ERRCNT.COUNT 11)).sendReply q.via { p with dup := true, cut := s.cutOf q.via }
    | none => ((s.count (QCP_ERRCNT.COUNT 6)).sendReply q.via (replyPacket s q op stReplay []))
  | none => (s.count (QCP_ERRCNT.COUNT 6)).sendReply q.via (replyPacket s q op stReplay [])

/-- A self-test runs, or shutdown is complete: every opcode but a few is told BUSY (R748, R757). -/
def State.testHolds (s : State) (op : Nat) : Bool :=
  let few : List Nat := [0x0100, 0x0101, 0x0105, 0x0A02]
  (s.flag BIST_STATUS.RUNNING && op != 0x0106 && !few.contains op) || (s.flag SYS_CTRL.OFFREADY && !few.contains op)

/-- A request at its turn: its body, or BUSY. -/
def State.runRequest (s : State) (q : ReqHdr) (op : Nat) (body : State → State) : State :=
  if s.testHolds op then s.reply q op stBusy else body s

/-- An entry of the queue is a request that a row brings: its sequence, opcode and transport, and the row's operands (R420, R434). -/
def Queued.isRow (h : Queued) (q : ReqHdr) (op : Nat) (args : List Operand) : Bool :=
  h.seq = q.seq && h.opcode == op && h.via == q.via && carries h.items args

/-- The entry of a request that comes as its own row. -/
def rowEntry (q : ReqHdr) (op : Nat) (args : List Operand) : Queued := { seq := q.seq, opcode := op, via := q.via, items := args.filterMap (·.2) }

/-- A request meets its turn: what a row of the opcode table does before its own effect. The request is the front of its
session's queue and leaves it, or it arrives with the row and passes checks 5, 7 and 10. Before QCP-ready no request is
received (R740). -/
def State.request (s : State) (q : ReqHdr) (op : Nat) (body : State → State) (args : List Operand := []) : State :=
  let r := q.session.val
  let x := s.sess r
  if !s.power.qcpReady then s
  else
    match x.queue with
    | h :: t =>
      if h.isRow q op args then
        (s.modSess r (fun y => { y with queue := t })).qcpCount.runRequest q op body
      else if x.queue.any (fun e => e.seq = q.seq) then s
      else if !x.fresh q.seq then s.notFresh q op none
      else if 16 ≤ x.queue.length then
        ((s.modSess r (fun y => y.accept q.seq op none s.cyc)).count (QCP_ERRCNT.COUNT 9)).reply q op stBusy
      else
        (s.modSess r (fun y => { y.accept q.seq op none s.cyc with
          queue := y.queue ++ [rowEntry q op args] })).qcpCount
    | [] =>
      if !x.isOpen then (s.count (QCP_ERRCNT.COUNT 4)).errorReply q.via r q.seq op stNoSession
      else if !x.fresh q.seq then s.notFresh q op none
      else (s.modSess r (fun y => y.accept q.seq op none s.cyc)).runRequest q op body

/-- Checks in their order: the first that fails gives the reply its status (R431, R440); where none fails, the body. -/
def State.checks (s : State) (q : ReqHdr) (op : Nat) : List (Bool × Nat) → (State → State) → State
  | [], body => body s
  | (bad, status) :: t, body => if bad then s.reply q op status else s.checks q op t body

/-- A request only the owner may make (R436): any other session is told NOT_OWNER. -/
def State.ownerOnly (s : State) (q : ReqHdr) (op : Nat) (body : State → State) : State :=
  if s.owner = q.session.val then body s else s.reply q op stNotOwner

end Sys2Proof.Machine
end

