-- ==== Sys2Proof/Machine/Access.lean ====
section
/-! DEFINITION. Rights of a register access and what an ignored write does (R488, R489). -/

namespace Sys2Proof.Machine

/-- Flag an ignored write (R489): the count, the offset, the cause, the session and how it came. -/
def State.ignore (s : State) (path : Path) (off cause : Nat) : State :=
  let direct := match path with
    | .qcp _ => 0
    | _ => 1
  (s.countSat SYS_IGN_CNT.COUNT).puts [(SYS_IGN.CAUSE, cause), (SYS_IGN.DIRECT, direct),
    (SYS_IGN.SESSION, (s.pathSession path).getD 0), (SYS_IGN.ADDR, off)]

/-- A register action only the owner may write: the state after it, or the cause of its being ignored (R488). -/
def State.byOwner (s : State) (path : Path) (act : State → State) : Except Nat State :=
  if s.pathOwns path then .ok (act s) else .error 3

/-- A register action any bound session may write. -/
def State.byBound (s : State) (path : Path) (act : State → State) : Except Nat State :=
  if (s.pathSession path).isSome then .ok (act s) else .error 3

/-- The outcome of a register action at an offset: its effect, or an ignored write. During a reset no write arrives (R734). -/
def State.acted (s : State) (path : Path) (off : Nat) (r : Except Nat State) : State :=
  if s.power.episode.isSome then s
  else match r with
    | .ok t => t
    | .error c => s.ignore path off c

end Sys2Proof.Machine
end

