-- ==== Sys2Proof/Machine/Converter.lean ====
section
/-! DEFINITION. The sequencing that both converters follow (R647 to R651) and the monitor converter (R656 to R659, R662,
R663). -/

namespace Sys2Proof.Machine

/-! ## Rounds (R647 to R651) -/

/-- A regular round begins where none runs and the sequence has entries; the flag says a start was ignored (R649). -/
def Rounds.startReg (r : Rounds) (n : Nat) (t : Ts) : Rounds × Bool :=
  if r.reg.isSome then (r, true)
  else if n = 0 then (r, false)
  else ({ r with reg := some { start := t } }, false)

/-- An injected round begins where none runs: the regular conversion in progress is abandoned, and its entry begins again
afterwards (R650); the flag says a start was ignored (R651). -/
def Rounds.startInj (r : Rounds) (n : Nat) (t : Ts) : Rounds × Bool :=
  if r.inj.isSome then (r, true)
  else if n = 0 then (r, false)
  else ({ reg := r.reg.map (fun x => { x with conv := 0 }), inj := some { start := t } }, false)

/-- The round after a visit's conversion: the next conversion of the visit, the next entry, or its end (R647). -/
def Round.next (r : Round) (visit n : Nat) : Option Round :=
  if r.conv + 1 < visit then some { r with conv := r.conv + 1 }
  else if r.entry + 1 < n then some { r with entry := r.entry + 1, conv := 0 }
  else none

/-! ## The monitor converter -/

/-- Rounds of the monitor converter, with BUSY_REG and BUSY_INJ. -/
def State.setMon (s : State) (r : Rounds) : State :=
  ({ s with mon := { s.mon with rounds := r } }).puts [(MON_CTRL.BUSY_REG, r.reg.isSome.toNat), (MON_CTRL.BUSY_INJ, r.inj.isSome.toNat)]

/-- A regular start (R648, R649). -/
def State.monReg (s : State) : State :=
  let r := s.mon.rounds.startReg (s.get MON_CTRL.N_REG) s.now
  if r.2 then s.countSat MON_OVR.ROVR else s.setMon r.1

/-- An injected start (R650, R651); the injected results are not ready until their next write (R658). -/
def State.monInj (s : State) : State :=
  let r := s.mon.rounds.startInj (s.get MON_CTRL.N_INJ) s.now
  if r.2 then s.countSat MON_OVR.IOVR
  else (s.setMon r.1).puts ((List.range 4).map (fun j => (MONRES_W0.READY (40 + j), 0)))

/-- A trigger code of the monitor converter (R648, R663): the injected round runs first (R651). -/
def State.monTrig (s : State) (code : Nat) : State :=
  let t := if s.flag MON_CTRL.ITRIG_EN && s.get MON_CTRL.ITRIG == code then s.monInj else s
  if s.get MON_CTRL.RSTART == 2 && s.get MON_CTRL.RTRIG == code then t.monReg else t

/-- SWSTART of the monitor converter: the results of the regular sequence are not ready until their next write (R658). -/
def State.monSw (s : State) : State :=
  (s.puts ((List.range (s.get MON_CTRL.N_REG)).map (fun e => (MONRES_W0.READY (s.get (MONE.INPUT e)), 0)))).monReg

/-- REF_OK returns 50 µs after the last change of reference (R656). -/
def State.updMonRef (s : State) : State := if s.mon.refAt + 25000 ≤ s.cyc then s.put MON_CTRL.REF_OK 1 else s

/-- The reference of the monitor converter changes (R656). -/
def State.monRefMove (s : State) : State := ({ s with mon := { s.mon with refAt := s.cyc } }).put MON_CTRL.REF_OK 0

/-- A committed change of the sequences abandons the rounds in progress; under RSTART 3 the next begins at once (R652). -/
def State.monChange (s : State) : State :=
  let t := s.setMon {}
  if t.get MON_CTRL.RSTART = 3 then t.monReg else t

/-- Words 0 to 4 of a result record and its SEQ (R657, R666). -/
def State.putStamp (s : State) (w2 w3 w4 : Fld) (t : Ts) : State :=
  s.puts [(w2, nsOf t), (w3, secOf t), (w4, secOf t / 2 ^ 32)]

/-- MONITOR_CONVERSION: an entry's 2^AVG conversions complete and write its result register; `t` is the midpoint. -/
def monitorConversionStep (injected : Bool) (codes : List Nat) (t : Ts) (s : State) : State :=
  let s := (s.at t).updMonRef
  let k := s.mon.rounds
  match (if injected then k.inj else if k.inj.isSome then none else k.reg) with
  | none => s
  | some r =>
    if !s.flag MON_CTRL.REF_OK then s
    else
      let input := s.get (if injected then MONI.INPUT r.entry else MONE.INPUT r.entry)
      let i := if injected then 40 + r.entry else input
      let cold := s.tbCold
      let s := ((s.count (MONRES_W0.SEQ i)).puts [(MONRES_W0.READY i, 1),
          (MONRES_W0.QUAL i, qualCode (if cold then .tbCold else .good)), (MONRES_W0.RAW i, codes.getLast?.getD 0),
          (MONRES_W1.VALUE i, pattern 32 (Config.monValue input (sumN codes) codes.length))]).putStamp
        (MONRES_W2.NS i) (MONRES_W3.SEC_LO i) (MONRES_W4.SEC_HI i) t
      if injected then s.setMon { k with inj := r.next 1 (s.get MON_CTRL.N_INJ) }
      else
        let nx := r.next 1 (s.get MON_CTRL.N_REG)
        let s := s.setMon { k with reg := nx }
        if nx.isNone && s.get MON_CTRL.RSTART == 3 then s.monReg else s

/-! ## Meanings -/

/-- MONITOR_CONVERSION (R662). -/
def execMonitorConversion (injected : Bool) (codes : List Nat) (ts : Ts) (s : State) : Host.Outcome State Fault Refusal :=
  .next (monitorConversionStep injected codes ts s)

end Sys2Proof.Machine
end

