-- ==== Sys2Proof/Machine/Probe.lean ====
section
/-! DEFINITION. Pattern banks and the probes they give (chapter 03): slot tables, descriptors and samples, the waveform of a
probe, and the probe as it leaves a port. -/

namespace Sys2Proof.Machine

/-! ## Banks (R104 to R110) -/

/-- Bin period of a port in ns: 5, or 10 in extended range (R101). -/
def State.binNs (s : State) (p : Port) : Nat := if s.flag (PAT_RANGE.EXT p.idx) then 10 else 5

/-- The base of a pattern bank (R104). -/
def bankBase (p : Port) (bank : Nat) : Nat := 0x200000 + 0x80000 * p.idx + 0x40000 * bank

/-- Slot-table entry of a position (R106, R108). -/
def State.slotEntry (s : State) (p : Port) (bank pos : Nat) : Word := s.rd (bankBase p bank + 0x40 + 4 * pos)

/-- Fields of a slot-table entry (R108). -/
def seValid (w : Word) : Bool := w.getLsbD 31
def seK (w : Word) : Nat := w.toNat / 2 ^ 24 % 16
def seWf (w : Word) : Nat := w.toNat / 2 ^ 16 % 4
def seAmp (w : Word) : Nat := w.toNat % 256

/-- Word of a waveform descriptor (R106, R109). -/
def State.descWord (s : State) (p : Port) (bank wf i : Nat) : Word := s.rd (bankBase p bank + 0x80 + 16 * wf + 4 * i)

/-- Duration in ns of the probe at a position (R108, R109). -/
def State.durAt (s : State) (p : Port) (bank pos : Nat) : Nat :=
  (s.descWord p bank (seWf (s.slotEntry p bank pos)) 0).toNat % 2 ^ 14

/-- The longest probe of a port's slot table. -/
def State.durMax (s : State) (p : Port) (bank nslot : Nat) : Nat := maxN ((List.range nslot).map (s.durAt p bank))

/-- The active bank. -/
def State.bank (s : State) : Nat := s.get PAT_STATUS.ACTIVE

/-- The position of slot 0, or of the lowest slot of the table (R76, R95). -/
def State.restorePos (s : State) (p : Port) : Nat :=
  (List.range s.grid.nslot).foldl (fun best j =>
    if seK (s.slotEntry p s.bank j) < seK (s.slotEntry p s.bank best) then j else best) 0

/-- Complex sample i of a bank's sample region: I and Q, both two's complement (R110). -/
def State.iqAt (s : State) (p : Port) (bank i : Nat) : Int × Int :=
  let w := (s.rd (bankBase p bank + 0x1000 + 4 * (i / 2))).toNat
  let h := if i % 2 = 0 then w % 65536 else w / 65536
  (signed 8 (h / 256), signed 8 h)

/-- The shape a descriptor gives: a constant envelope, or the samples of its chirp (R96, R97, R109). -/
def State.shapeOf (s : State) (p : Port) (bank wf : Nat) : Shape :=
  let w0 := (s.descWord p bank wf 0).toNat
  let w1 := (s.descWord p bank wf 1).toNat
  if w0 / 2 ^ 30 = 2 then .chirp (w1 / 2 ^ 24) ((List.range (w0 % 2 ^ 14)).map (fun i => s.iqAt p bank (w1 % 2 ^ 17 + i)))
  else .rect

/-! ## Frequencies and power (R92, R98) -/

/-- Centre of slot k's intermediate-frequency band, in MHz; the band reaches 100 MHz to either side (R92). -/
def slotIf (k : Nat) : Int := 200 * (k : Int) - 1500

/-- Frequency of the laser channel in force, in MHz (R52). -/
def State.laserMhz (s : State) : Int := 193100000 + 100000 * s.geti LSD_LASER.CH

/-- 20 log10 of 256 / (AMP + 1) in 0.1 dB, to the nearest step: the least n with 256^400 < (AMP + 1)^400 × 10^(2n+1) (R98). -/
def ampLoss (amp : Nat) : Nat :=
  ((List.range 490).find? (fun n => decide (256 ^ 400 < (amp + 1) ^ 400 * 10 ^ (2 * n + 1)))).getD 490

/-! ## Waveforms (R96, R97) -/

/-- Sample n of a probe's envelope at 4 GS/s, in 2^-16 of a code: constant for a rectangle; a chirp's samples through the
fixed interpolator by 4 (R96, R97). -/
def Shape.envelope (sh : Shape) (n : Nat) : Int × Int :=
  match sh with
  | .rect => (128 * 65536, 0)
  | .chirp _ iq =>
    iq.zipIdx.foldl (fun (a : Int × Int) (e : (Int × Int) × Nat) =>
      (a.1 + Config.interpTap ((n : Int) - 4 * e.2) * e.1.1, a.2 + Config.interpTap ((n : Int) - 4 * e.2) * e.1.2)) (0, 0)

/-- The product of two complex numbers. -/
def cmul (a b : Int × Int) : Int × Int := (a.1 * b.1 - a.2 * b.2, a.1 * b.2 + a.2 * b.1)

/-- The conjugate. -/
def conj (a : Int × Int) : Int × Int := (a.1, -a.2)

/-- The sum of some complex numbers. -/
def csum (l : List (Int × Int)) : Int × Int := l.foldl (fun a b => (a.1 + b.1, a.2 + b.2)) (0, 0)

/-- Each part divided by 2^k, to the nearest. -/
def cshift (k : Nat) (a : Int × Int) : Int × Int := (divNear a.1 (2 ^ k), divNear a.2 (2 ^ k))

/-- Sample n of a probe at 4 GS/s, shifted to the centre of its slot: the envelope turned by the intermediate frequency
(R96, R97). -/
def ProbeOut.wave (o : ProbeOut) (n : Nat) : Int × Int :=
  cshift 30 (cmul (o.shape.envelope n) (Config.cis (o.ifMhz * n) 4000))

/-- The SOA gate of a probe's port is open at an instant: from 20 ns before the shot boundary to 20 ns after the probe's
last sample (R99). -/
def ProbeOut.gateOpen (o : ProbeOut) (t : Ts) : Bool := decide (o.gateFrom ≤ t) && decide (t < o.gateTo)

/-- The physical port of a logical one (R199). -/
def State.physOf (s : State) (p : Port) : Port := if s.flag PHS_PORTMAP.SWAP then p.other else p

/-- The probe of a port at a position, at an instant (R92, R94 to R99). -/
def State.probeOf (s : State) (p : Port) (pos : Fin 16) (t : Ts) : ProbeOut :=
  let w := s.slotEntry p s.bank pos.val
  let f := slotIf (seK w)
  let d := s.durAt p s.bank pos.val
  let lv := (s.pl p).level
  { port := p, pos := pos, slot := Fin.ofNat 16 (seK w), s := s.grid.k * s.grid.nslot + pos.val, t := t, dur := d
    shape := s.shapeOf p s.bank (seWf w), level := lv, amp := seAmp w, peak := lv - ampLoss (seAmp w), ifMhz := f
    freqMhz := s.laserMhz + f, gateFrom := t - 20 * ns, gateTo := t + (d + 20) * ns
    phys := s.physOf p }

end Sys2Proof.Machine
end

