-- ==== Sys2Proof/Machine/Light.lean ====
section
/-! DEFINITION. Light sources and their drive (chapter 02), the optical flashing (R571 to R573), the sweep grid's timing
(R15, R94, R121) and the entry into and return from SAFE (R832). -/

namespace Sys2Proof.Machine

/-! ## The sweep grid (R15, R94, R103) -/

/-- T_SW in force, 2^-16 ns. -/
def State.tSw (s : State) : Ts := s.grid.tsw * 5 * ns

/-- Launch offset of a position, 2^-16 ns (R94). -/
def State.launchOffset (s : State) (pos : Nat) : Ts := pos * s.tSw / s.grid.nslot

/-- A time of the grid of the sweep in progress on the local clock, which may have stepped since that sweep started (R19). -/
def State.onClock (s : State) (t : Ts) : Ts := ((t : Int) + s.grid.shift).toNat

/-- The next shot boundary at or after a time of the grid. -/
def State.shotAt (s : State) (t : Ts) : Ts :=
  let sw := s.tSw
  let n := max 1 s.grid.nslot
  if sw = 0 || t ≤ s.grid.align then s.grid.align else s.grid.align + ((t - s.grid.align) * n + sw - 1) / sw * sw / n

/-- Global shot number of the first shot boundary at or after a time of the grid (R214). -/
def State.shotNo (s : State) (t : Ts) : Nat := ((t - s.grid.align) * max 1 s.grid.nslot + s.tSw - 1) / max 1 s.tSw

/-- The first shot boundary at or after an instant of the local clock, as a time of the grid. -/
def State.boundaryFor (s : State) (t : Ts) : Ts := s.shotAt ((t : Int) - s.grid.shift).toNat

/-- The end of the sweep in progress, or the instant from which a new grid starts. The end is the grid time one T_SW later,
without the fraction of the sweep's start edge (R15, R19; DESIGN CHOICE: log entry 141). -/
def State.sweepEnd (s : State) : Ts :=
  match s.grid.resume with
  | some t => t
  | none => s.grid.align + (s.grid.k + 1) * s.tSw

/-- Sweep index of the next sweep: the first grid time at or after the end of the one in progress, from 0 on (R16, R19,
R121). -/
def State.nextK (s : State) : Nat :=
  match s.grid.resume with
  | some t => (t - s.grid.align + s.tSw - 1) / max 1 s.tSw
  | none => s.grid.k + 1

/-- Grid time of the next sweep. -/
def State.nextBoundary (s : State) : Ts := s.grid.align + s.nextK * s.tSw

/-- T_ALIGN as committed, 2^-16 ns. -/
def State.alignReg (s : State) : Ts :=
  ((s.get PAT_ALIGN_SEC_LO.SEC_LO + s.get PAT_ALIGN_SEC_HI.SEC_HI * 2 ^ 32) * 1000000000 + s.get PAT_ALIGN_NS.NS) * ns

/-- The sweep grid starts with the committed period, alignment and slots, at the first grid time from an instant on
(R16, R121). -/
def State.startGrid (s : State) (from_ : Ts) : State :=
  { s with grid := { s.grid with
    running := true, started := false, align := s.alignReg, tsw := s.get PAT_SWEEP.TSW, nslot := s.get PAT_SWEEP.N_SLOT
    resume := some from_, step := none, closed := true, nextPos := 0, skip := [], shift := 0, cycle := none } }

/-- The sweep grid stops; the shots under way are still processed. -/
def State.stopGrid (s : State) : State :=
  { s with grid := { s.grid with running := false, started := false, resume := none, step := none, closed := true, skip := [], absA := true, absB := true } }

/-- Mark the DAS outputs of the next 2 sweeps of a port UNSETTLED (R136, R168, R191). -/
def State.unsettleDas (s : State) (p : Port) : State :=
  match p with
  | .a => { s with grid := { s.grid with unsA := 2 } }
  | .b => { s with grid := { s.grid with unsB := 2 } }

/-- The next 2 sweeps of a port count nothing on the Brillouin path (R136, R246). -/
def State.unsettleBrl (s : State) (p : Port) : State :=
  match p with
  | .a => { s with rx := { s.rx with brlUnsA := 2 } }
  | .b => { s with rx := { s.rx with brlUnsB := 2 } }

/-- Mark the outputs of the next 2 sweeps of a port UNSETTLED and leave its shots out of the Brillouin sums (R20, R57,
R78, R121, R246). -/
def State.unsettlePort (s : State) (p : Port) : State := (s.unsettleDas p).unsettleBrl p

/-- The same for both ports. -/
def State.unsettle2 (s : State) : State := (s.unsettlePort .a).unsettlePort .b

/-- Ask the phase chain of a port to re-initialise at its next launched shot; a wider one stands (R191). -/
def State.reinit (s : State) (p : Port) (r : Reinit) : State :=
  let widen (old : Reinit) : Reinit := match old, r with
    | .all, _ => .all
    | .take _ _, .psi => old
    | _, .none => old
    | _, new => new
  match p with
  | .a => { s with grid := { s.grid with reinitA := widen s.grid.reinitA } }
  | .b => { s with grid := { s.grid with reinitB := widen s.grid.reinitB } }

/-- Every channel re-initialises at the next launched shot of its port (R191). -/
def State.reinitAll (s : State) : State := (s.reinit .a .all).reinit .b .all

/-! ## Clamp, SAFE and hardware faults (R60, R66, R71, R832) -/

/-- The live causes as the bits of CAUSE: RPREC, INTLK_N, FIN0, barrier silence, thermal (R60). -/
def State.liveCauses (s : State) : Nat :=
  s.light.rprec.toNat + (!s.flag LSD_ILK.INTLK).toNat * 2 + (!s.flag LSD_ILK.FIN0_OK).toNat * 4
    + s.light.silent.toNat * 8 + s.light.thermal.toNat * 16

/-- Something holds the clamp closed (R60). A reset is one of BLOCK reach or wider; a FIELD reset closes it through the causes it makes
live (log entry 143). -/
def State.clampHeld (s : State) : Bool :=
  s.power.episode.isSome || s.power.blockRst.isSome || s.liveCauses != 0 || !s.flag LSD_ILK.ENABLE || s.flag LSD_ILK.CAUSE

/-- Close the clamp: the gates and pumps are off and both ports are dark (R60, R65). -/
def State.closeClamp (s : State) : State :=
  s.puts [(LSD_ILK.CLAMP, 1), (LSD_PWR.ACTUAL 0, 0x8000), (LSD_PWR.ACTUAL 1, 0x8000)]

/-- Let the clamp follow its causes: it closes at once; it opens at once while the device does not emit (R71), and at
the next sweep boundary while it does (R68, R70). -/
def State.settleClamp (s : State) : State :=
  if s.clampHeld then s.closeClamp else if s.emits then s else s.put LSD_ILK.CLAMP 0

/-- The causes live at the entry into an emitting state are latched at that instant (R71). -/
def State.latchLive (s : State) : State := s.put LSD_ILK.CAUSE (s.get LSD_ILK.CAUSE ||| s.liveCauses / 2 * 2)

/-- Enter SAFE, remembering the state to go back to (R832), with the causes live at that instant where the device did not emit (R71);
each entry is a trigger of the monitor converter (R663). -/
def State.enterSafe (s : State) : State :=
  let d := s.dev
  if d = 5 then s
  else if d = 3 || d = 4 then (({ s with light := { s.light with safeFrom := BitVec.ofNat 4 d } }).enter 5).monTrig 5
  else ((s.enter 5).latchLive).monTrig 5

/-- A live cause of the clamp appears: the clamp closes, and while the device emits the cause is latched and the device
goes to SAFE (R66, R71). -/
def State.trip (s : State) (bit : Nat) : State :=
  let t := s.closeClamp
  if s.emits then (t.put LSD_ILK.CAUSE (setBit (t.get LSD_ILK.CAUSE) bit true)).enterSafe else t

/-- A hardware fault is reported; from RUN, SHADOW, SAFE, STANDBY and BOOT the device goes to SAFE and stays (R832). -/
def State.hwFault (s : State) (f : HwFault) : State :=
  let t := { s with light := { s.light with faults := if s.light.faults.contains f then s.light.faults else s.light.faults ++ [f] } }
  let d := s.dev
  if d = 0 || d = 2 || d = 3 || d = 4 || d = 5 then
    ({ t with light := { t.light with hwHeld := true } }).enterSafe
  else t

/-- A hardware fault is outstanding no longer. -/
def State.clearFault (s : State) (f : HwFault) : State :=
  { s with light := { s.light with faults := s.light.faults.filter (fun g => !(g == f)) } }

/-! ## The optical flashing (R571 to R573, R736) -/

/-- Drive the flashing closed or open; it moves until it has settled. -/
def State.driveFlash (s : State) (closed : Bool) : State :=
  let t := { s with power := { s.power with pins := { s.power.pins with flashClosed := closed } } }
  let want := if closed then 1 else 0
  if s.get RDG_FLASH.OFL_STATE = want then t
  else ({ t with light := { t.light with flashHold := true } }).put RDG_FLASH.OFL_STATE 2

/-- STANDBY is reached; from its first time after an episode the flashing follows OFL_CLOSE (R736). -/
def State.toStandby (s : State) : State :=
  let t := (({ s with power := { s.power with configured := true } }).enter 2).msiSince s
  t.driveFlash (t.flag RDG_FLASH.OFL_CLOSE)

/-- FLASHING_SETTLED (R571, R573). -/
def flashingSettledStep (s : State) : State :=
  s.whenDo (s.get RDG_FLASH.OFL_STATE == 2) fun s =>
    if s.power.pins.flashClosed then s.put RDG_FLASH.OFL_STATE 1
    else ({ s with light := { s.light with flashCyc := s.cyc, flashHold := true } }).put RDG_FLASH.OFL_STATE 0

/-! ## Automatic power reduction (R72 to R81) -/

/-- LSD_APR_CTRL.LEVEL in 0.1 dBm. -/
def State.aprLevel (s : State) : Int := s.geti LSD_APR_CTRL.LEVEL

/-- TARGET of a port in 0.1 dBm. -/
def State.target (s : State) (p : Port) : Int := s.geti (LSD_PWR.TARGET p.idx)

/-- State of a port: 0 NORMAL, 1 APR, 2 RESTORING, 3 LEARNING. -/
def State.apr (s : State) (p : Port) : Nat := s.get (LSD_APR_STAT.STATE p.idx)

/-- The port goes to a reduced state: power at LEVEL at most, the device in SAFE (R73, R79). -/
def State.reducePort (s : State) (p : Port) (st : Nat) : State :=
  ((s.put (LSD_APR_STAT.STATE p.idx) st).modPl p (fun x => { x with
    level := if x.level < s.aprLevel then x.level else s.aprLevel, probes := [], good := 0, restoreDue := false })).enterSafe

/-- A used port whose fibre end is 0 learns while APR is enabled and the device emits (R79). -/
def State.learnPort (s : State) (p : Port) : State :=
  if s.emits && s.flag LSD_APR_CTRL.EN && s.get (LSD_APR_END.FIBRE_END p.idx) == 0 && s.get (PAT_RANGE.N_BIN p.idx) != 0
      && s.apr p != 3 then
    s.reducePort p 3
  else s

/-- Both ports (R79). -/
def State.learnPorts (s : State) : State := (s.learnPort .a).learnPort .b

/-- A port goes to RESTORING (R78). -/
def State.restorePort (s : State) (p : Port) : State :=
  (s.put (LSD_APR_STAT.STATE p.idx) 2).modPl p (fun x => { x with probes := [], good := 0, restoreDue := false })

/-- EN of APR changes: an event to all sessions; a clear lets every reduced port restore at the next sweep boundary, and a set
before it takes that back (R81). -/
def State.aprEnChanged (s : State) : State :=
  let t := s.eventAll 0x0102 0
  if s.flag LSD_APR_CTRL.EN then
    ((t.modPl .a (fun x => { x with restoreDue := false })).modPl .b (fun x => { x with restoreDue := false })).learnPorts
  else
    let f (u : State) (p : Port) : State := if u.apr p = 0 then u else u.modPl p (fun x => { x with restoreDue := true })
    f (f t .a) .b

/-! ## Launching -/

/-- A port launches: it is used and nothing holds its light (R56, R57, R60, R86, R102, R124, R573, R582, R589). -/
def State.portLaunches (s : State) (p : Port) : Bool :=
  s.emits && s.get (PAT_RANGE.N_BIN p.idx) != 0 && !s.flag LSD_ILK.CLAMP && !s.light.hold && !s.light.flashHold
    && !s.light.rprec && !(s.pl p).stopped && !s.pat.clash && s.get PAIR_STATUS.ROLE != 3 && !s.pair.stopped

/-- Duration of a restore probe in ns (R77). -/
def State.restoreDur (s : State) : Nat := min 2000 (s.grid.tsw * 5 / s.grid.nslot - 40)

/-! ## Diagnostic pulse (R82 to R86) -/

/-- Duration in ns of a shot by its global number, a restore probe's where one replaces it (R77). -/
def State.shotDur (s : State) (p : Port) (m : Nat) : Nat :=
  if (s.pl p).restoreShot = some m then s.restoreDur else s.durAt p s.bank (m % max 1 s.grid.nslot)

/-- The guard window of a shot is one that a restore probe has shortened: nothing else falls into it (R77). -/
def State.guardShortAt (s : State) (p : Port) (m : Nat) : Bool :=
  (s.pl p).restoreShot == some m && decide (s.durMax p s.bank s.grid.nslot < s.restoreDur)

/-- Duration in ns of the shot launched at the sweep boundary (R77, R82). -/
def State.boundaryDur (s : State) (p : Port) : Nat := s.shotDur p (s.grid.k * s.grid.nslot)

/-- Length in ns of the guard window of the shot launched at the sweep boundary (R24). -/
def State.guardNs (s : State) (p : Port) : Nat :=
  s.grid.tsw * 5 - (s.get (PAT_RANGE.N_BIN p.idx) * s.binNs p + s.boundaryDur p)

/-- That guard window is one a restore probe has shortened (R77). -/
def State.guardShort (s : State) (p : Port) : Bool := s.guardShortAt p (s.grid.k * s.grid.nslot)

/-- Start in ns after the sweep boundary, and length in ns, of a port's diagnostic pulse (R82). -/
def State.diagSpan (s : State) (p : Port) : Nat × Nat :=
  (s.get (PAT_RANGE.N_BIN p.idx) * s.binNs p + s.boundaryDur p + 20, min 2000 (s.guardNs p - 40))

/-- A port's shot at a position would launch during its pulse (R84). -/
def State.diagCovers (s : State) (p : Port) (pos : Nat) : Bool :=
  decide (0 < pos) && decide (pos < s.grid.nslot) && decide ((s.diagSpan p).1 * ns ≤ s.launchOffset pos)
    && decide (s.launchOffset pos < ((s.diagSpan p).1 + (s.diagSpan p).2) * ns)

/-- Positions whose shot the pulse omits: those it covers, still to come, that nothing else leaves out already (R84). -/
def State.diagOmits (s : State) (p : Port) : List (Port × Fin 16) :=
  ((List.finRange 16).filter (fun j => s.diagCovers p j.val && decide (s.grid.nextPos ≤ j.val)
    && !s.grid.skip.contains (p, j))).map (fun j => (p, j))

/-- A pulse is due in this sweep: k is a multiple of PERIOD, or the port's pulse has waited (R77, R82). -/
def State.diagTurn (s : State) (p : Port) : Bool :=
  (s.get LSD_DIAG.PERIOD != 0 && s.grid.k % s.get LSD_DIAG.PERIOD == 0) || (s.pl p).diagDue

/-- One port's pulse: into the internal dump, omitting a shot it covers, and judging the gate (R83, R84, R86). -/
def State.diagPort (s : State) (p : Port) (low : Bool) : State :=
  if s.get (PAT_RANGE.N_BIN p.idx) = 0 then s
  else if s.guardShort p then s.modPl p (fun x => { x with diagDue := true })
  else
    let d := s.diagSpan p
    let n := if low then (s.pl p).gateLow + 1 else 0
    let t := ({ s with grid := { s.grid with skip := s.grid.skip ++ s.diagOmits p } }).emit (.diagPulse (s.physOf p) d.1 d.2)
    let u := t.modPl p (fun x => { x with gateLow := n, diagDue := false, diagSweep := some s.grid.k })
    if 2 ≤ n then
      ((u.modPl p (fun x => { x with stopped := true })).put LSD_DIAG.GATE_OPEN
        (setBit (u.get LSD_DIAG.GATE_OPEN) p.idx true)).hwFault .gate
    else u

/-- The guard window of the shot launched at the sweep boundary is open and takes no calibration micro-step: a restore probe has shortened
it, or a diagnostic pulse falls into it (R77, R85). -/
def State.guardTaken (s : State) (p : Port) : Bool :=
  s.emits && s.grid.started && decide (s.onClock (s.grid.start + (s.tSw - s.guardNs p * ns)) ≤ s.now)
    && (s.guardShort p || s.diagTurn p || (s.pl p).diagSweep == some s.grid.k)

/-- DIAGNOSTIC_PULSE: in a sweep whose k is a multiple of PERIOD, or in the next sweep for a port whose pulse waited. -/
def diagnosticPulseStep (lowA lowB : Bool) (s : State) : State :=
  let go := s.emits && s.grid.started && !s.grid.diagDone && !s.flag LSD_ILK.CLAMP
  let one (p : Port) (low : Bool) (t : State) : State := if s.diagTurn p then t.diagPort p low else t
  s.whenDo (go && (s.diagTurn .a || s.diagTurn .b)) fun s =>
    one .b lowB (one .a lowA { s with grid := { s.grid with diagDone := true } })

/-! ## Compensation (R37, R40 to R43) -/

/-- Table value K_i of a sink (R41, R90). -/
def State.compK (s : State) (n i : Nat) : Int :=
  let w := (s.rd (0x030400 + 32 * n + 4 * (i / 2))).toNat
  signed 16 (if i % 2 = 0 then w % 65536 else w / 65536)

/-- K(T) in 1/700 of a table step, at a thermistor temperature in 0.01 °C (R42). -/
def State.compAt (s : State) (n : Nat) (t : Int) : Int :=
  let x := clampI 0 10500 (t + 2500)
  let i := (x / 700).toNat
  if 15 ≤ i then 700 * s.compK n 15
  else 700 * s.compK n i + x % 700 * (s.compK n (i + 1) - s.compK n i)

/-- Multiple of I_REF that is a sink's full scale (R35). -/
def sinkMultiple (n : Nat) : Nat :=
  match n with
  | 0 => 3200
  | 1 => 160
  | 2 => 2000
  | 3 => 2000
  | _ => 7200

/-- Full scale of a sink in nA: a multiple of I_REF, 125.0 µA with the specified resistor at RPREC (R35, R36). -/
def sinkFull (n : Nat) : Nat := 125000 * sinkMultiple n

/-- SET × (GSCALE + 1) × (1 + K(T) / 32,768) of a sink, in units of 1 / (65,536 × 4,096 × 32,768 × 700) (R37). -/
def State.sinkScale (s : State) (n : Nat) : Int :=
  (s.get (LSD_SINK_SET.SET n) : Int) * (s.get LSD_GSCALE.GSCALE + 1 : Nat) * (32768 * 700 + s.light.comp.getD n 0)

/-- The factor 1 + K(T) / 32,768 of a pump, in 1 / (32,768 × 700) (R43). -/
def State.pumpFactor (s : State) (n : Nat) : Nat := (32768 * 700 + s.light.comp.getD (4 + n) 0).toNat

/-- The computed current of a sink n = 0 to 3, or the compensated density of a pump, exceeds full scale (R37, R40, R43). -/
def State.sinkOver (s : State) (n : Nat) : Bool :=
  if n < 4 then decide ((65536 * 4096 * 32768 * 700 : Int) < s.sinkScale n)
  else decide (65535 * (32768 * 700) < s.light.dens.getD (n - 4) 0 * s.pumpFactor (n - 4))

/-- Output of a sink in nA: n = 0 to 3 by its setting, scale and compensation, held at 65,535 / 65,536 of full scale; a pump,
n = 4 to 7, its average peak × DENS / 65,536. An RPREC fault switches every sink off, and the clamp shunts the gates and the
pumps (R37, R39, R40, R45, R60). -/
def State.sinkOut (s : State) (n : Nat) : Int :=
  if s.light.rprec || (2 ≤ n && s.flag LSD_ILK.CLAMP) then 0
  else if 4 ≤ n then divRound (sinkFull n * s.get (LSD_SINK_SET.SET n) * s.get (LSD_PUMP_STAT.DENS (n - 4)) : Nat) (2 ^ 32)
  else if s.sinkOver n then divRound (sinkFull n * 65535 : Nat) 65536
  else divRound ((sinkFull n : Int) * s.sinkScale n) (65536 * 4096 * 32768 * 700)

/-- Set the clip bit of every sink held at full scale (R40). -/
def State.sinkClips (s : State) : State :=
  (List.range 8).foldl (fun t n =>
    if t.sinkOver n then t.put LSD_GSCALE.TCCLIP (setBit (t.get LSD_GSCALE.TCCLIP) n true) else t) s

/-! ## Pump density (R39, R43, R45, R46) -/

/-- A pump's density as the loop chose it, no higher than its cap allows after compensation (R45, R46). -/
def State.densBase (s : State) (n : Nat) : Nat :=
  let cap := s.get (LSD_PUMP_STAT.CAP n)
  if s.pumpFactor n = 0 then s.light.dens.getD n 0 else min (s.light.dens.getD n 0) (cap * (32768 * 700) / s.pumpFactor n)

/-- DENS of a pump: the chosen density after compensation, at most the cap; nothing while RPREC is out of range (R39, R43, R45,
R46). -/
def State.pumpDens (s : State) (n : Nat) : Nat :=
  if s.light.rprec then 0
  else min (s.get (LSD_PUMP_STAT.CAP n)) (divRound (s.densBase n * s.pumpFactor n : Nat) (32768 * 700)).toNat

/-- DENS of the pumps follows the loop, the compensation and the cap; what the cap cuts off is not kept for its return (R49). -/
def State.setDens (s : State) : State :=
  ({ s with light := { s.light with dens := (List.range 4).map s.densBase } }).puts
    ((List.range 4).map (fun n => (LSD_PUMP_STAT.DENS n, s.pumpDens n)))

/-- Since when the laser has been more than 1.0 °C from its set point, at a reading of its thermistor (R64). -/
def State.offSince (s : State) (t : Int) : Option Nat :=
  if (t - Config.laserSet (s.get LSD_LASER.CH)).natAbs ≤ 100 then none else some (s.light.laserOff.getD s.cyc)

/-- COMP_UPDATE: every emitter's factor from its own thermistor, applied at once to sinks and pump densities; the cooler's
closed loop drives the bridge within ±2.0 A from the laser thermistor (R35, R42, R43). -/
def compUpdateStep (therm : List Int) (s : State) : State :=
  s.whenDo (therm.length == 8) fun s =>
    let k := (List.range 8).map (fun n => s.compAt n (therm.getD n 0))
    let c := clampI (-2000) 2000 (Config.coolerDrive s.light.cooler (therm.getD 0 0))
    let o := s.offSince (therm.getD 0 0)
    (({ s with light := { s.light with comp := k, cooler := c, therm := therm, laserOff := o } }).sinkClips).setDens

/-! ## Derating (R46, R47) -/

/-- F as a fraction at a case temperature in 0.01 °C and a knee in 0.5 °C (R46). -/
def derate (tcase : Int) (knee : Nat) : Nat × Nat :=
  let tk : Int := 50 * knee
  if tcase ≤ tk then (1, 1)
  else if 7000 < tcase then (60, 100)
  else ((5 * (7000 - tk) - 2 * (tcase - tk)).toNat, (5 * (7000 - tk)).toNat)

/-- 10 log10 of 1/F in 0.1 dB, to the nearest step: the least n with F^200 × 10^(2n+1) > 1 (R47). -/
def derateLoss (f : Nat × Nat) : Nat :=
  ((List.range 40).find? (fun n => decide (f.2 ^ 200 < f.1 ^ 200 * 10 ^ (2 * n + 1)))).getD 40

/-- DERATE_UPDATE (R46, R47). -/
def derateUpdateStep (tcase : Int) (s : State) : State :=
  let f := derate tcase (s.get LSD_DERATE.KNEE)
  let cap := (divRound (f.1 * 65535 : Nat) f.2).toNat
  (({ s with light := { s.light with tcase := tcase } }).puts ([(LSD_DERATE.FACTOR, (divRound (f.1 * 100 : Nat) f.2).toNat), (LSD_DERATE.LOSS, derateLoss f)]
    ++ (List.range 4).map (fun n => (LSD_PUMP_STAT.CAP n, cap)))).setDens

/-! ## Probe power (R48 to R50, R87, R88) -/

/-- The level a port's loop works towards: TARGET, or LEVEL under APR and while learning (R49, R73, R79). -/
def State.levelGoal (s : State) (p : Port) : Int :=
  if s.apr p = 1 || s.apr p = 3 then (if s.target p < s.aprLevel then s.target p else s.aprLevel) else s.target p

/-- A step of at most 0.2 dB (R49). -/
def stepLevel (now goal : Int) : Int := now + clampI (-2) 2 (goal - now)

/-- A pump is open (R87). -/
def State.pumpOpen (s : State) (n : Nat) : Bool := s.get LSD_DIAG.PUMP_OPEN / 2 ^ n % 2 == 1

/-- The change of output in 0.1 dB that the loop asks of a pump: what the measured peak lacks of the level, at most 0.2 dB and
nothing below +5.0 dBm; the pump whose partner is open is driven up, at the same pace (R49, R88; log entry 184). -/
def State.pumpAsk (s : State) (n : Nat) (level measured : Int) : Int :=
  let other := if n % 2 = 0 then n + 1 else n - 1
  if s.pumpOpen other && !s.pumpOpen n then 2
  else if level < 50 then 0 else clampI (-2) 2 (level - measured)

/-- What the loop makes of a density: by how much it moves for a step of output the spec leaves open, but it rises where more is asked,
until the cap holds it, and falls where less is (R49, R88; log entry 184). -/
def pumpMove (n d : Nat) (ask : Int) : Nat :=
  let x := Config.pumpMove n d ask
  if 0 < ask then max (d + 1) x else if ask < 0 then min (d - 1) x else d

/-- POWER_LOOP_STEP: the port's two densities move together by at most 0.2 dB of output; below +5.0 dBm the amplitude in the
DACs carries the step and the densities stay (R48, R49, R88). -/
def powerLoopStepStep (p : Port) (measured : Int) (s : State) : State :=
  s.whenDo (s.emits && !s.flag LSD_ILK.CLAMP) fun s =>
    let lv := stepLevel (s.pl p).level (s.levelGoal p)
    let t := (s.modPl p (fun x => { x with level := lv })).puti (LSD_PWR.ACTUAL p.idx) measured
    let move (l : List Nat) (n : Nat) : List Nat :=
      if s.pumpAsk n lv measured = 0 then l else setAt l n (pumpMove n (l.getD n 0) (s.pumpAsk n lv measured))
    ({ t with light := { t.light with dens := move (move t.light.dens (2 * p.idx)) (2 * p.idx + 1) } }).sinkClips.setDens

/-- POWER_SHORTFALL (R50): the derating cap or a failed pump has kept the port low for 1 s. -/
def powerShortfallStep (p : Port) (measured : Int) (s : State) : State :=
  let weak := decide (s.get LSD_DERATE.FACTOR < 100) || s.get LSD_DIAG.PUMP_OPEN / 4 ^ p.idx % 4 != 0
  s.whenDo (s.emits && weak && decide (measured < s.target p - 5)) fun s =>
    (s.puti (LSD_PWR.ACTUAL p.idx) measured).eventOwner 0x0101 p.idx

/-- PUMP_OPEN_DETECT (R87). -/
def pumpOpenDetectStep (pump : Fin 4) (s : State) : State :=
  s.put LSD_DIAG.PUMP_OPEN (setBit (s.get LSD_DIAG.PUMP_OPEN) pump.val true)

/-! ## Laser lock (R55 to R59, R741, R744) -/

/-- Start a lock attempt of up to 1 s (R56, R58, R59). -/
def State.startLock (s : State) : State := { s with light := { s.light with attempt := true, hold := true } }

/-- Frequency error in MHz, two's complement. -/
def ferrMhz (f : BitVec 16) : Int := f.toInt

/-- LOCK_LOSS (R55, R56). -/
def lockLossStep (ferr : BitVec 16) (s : State) : State :=
  s.whenDo (s.flag LSD_LASER_STATUS.LOCK && (decide (50 < ferrMhz ferr) || decide (ferrMhz ferr < -50))) fun s =>
    (s.puts [(LSD_LASER_STATUS.LOCK, 0), (LSD_LASER_STATUS.FERR, ferr.toNat)]).startLock

/-- LASER_LOCKED (R55, R57): the first lock after boot or HELD takes the device to STANDBY and is not counted; a run request that
waited for LOCK starts at the first grid time from now on (R744). -/
def laserLockedStep (ferr : BitVec 16) (s : State) : State :=
  s.whenDo (s.light.attempt && !s.flag LSD_LASER_STATUS.LOCK && decide (ferrMhz ferr ≤ 20) && decide (-20 ≤ ferrMhz ferr)) fun s =>
    let t := s.puts [(LSD_LASER_STATUS.LOCK, 1), (LSD_LASER_STATUS.TUNING, 0), (LSD_LASER_STATUS.FERR, ferr.toNat)]
    let t := if s.light.hadLock then t.countSat LSD_LASER_STATUS.RELOCKS else t
    let t := { t with light := { t.light with attempt := false, hadLock := true } }
    let t := if t.light.runDue then { t with grid := { t.grid with resume := some t.now } } else t
    if t.dev = 0 then t.toStandby else t

/-- RELOCK_FAIL (R58). -/
def relockFailStep (s : State) : State :=
  s.whenDo s.light.attempt fun s =>
    ({ s.puts [(LSD_LASER_STATUS.FAIL, 1), (LSD_LASER_STATUS.TUNING, 0)] with
      light := { s.light with attempt := false, runDue := false } }).hwFault .relock

/-- FAIL is cleared by the owner while set: a new attempt starts (R58). -/
def State.failCleared (s : State) : State :=
  ((s.put LSD_LASER_STATUS.FAIL 0).startLock).clearFault .relock

/-! ## Faults and interlocks (R39, R62, R64, R66 to R71) -/

/-- RPREC_FAULT: every sink is off, the clamp closes. The spec names no end of the fault; the live cause stands until a reset of
WARM reach or wider (R39; DESIGN CHOICE: log entry 142). -/
def rprecFaultStep (s : State) : State :=
  ((({ s with light := { s.light with rprec := true } }).setDens).trip 0).hwFault .rprec

/-- INTLK_N_FALL (R61, R62, R66). -/
def intlkNFallStep (s : State) : State := (s.put LSD_ILK.INTLK 0).trip 1

/-- INTLK_N_RISE (R71). -/
def intlkNRiseStep (s : State) : State := (s.put LSD_ILK.INTLK 1).settleClamp

/-- The laser has been more than 1.0 °C from its set point for 100 ms (R64). -/
def State.laserHot (s : State) : Bool :=
  match s.light.laserOff with
  | some c => decide (c + 100 * msCyc ≤ s.cyc)
  | none => false

/-- A thermal fault: the case above 78 °C, a pump thermistor above 80 °C, or the laser off its set point, by the readings that
DERATE_UPDATE and COMP_UPDATE brought (R64; log entry 186). -/
def State.thermalFault (s : State) : Bool :=
  decide (7800 < s.light.tcase) || (s.light.therm.drop 4).any (fun x => decide (8000 < x)) || s.laserHot

/-- THERMAL_TRIP (R62, R64). -/
def thermalTripStep (s : State) : State :=
  s.whenDo s.thermalFault fun s => ({ s with light := { s.light with thermal := true } }).trip 4

/-- THERMAL_FAULT_CLEAR: none of the three holds any longer (R64, R71). -/
def thermalFaultClearStep (s : State) : State :=
  s.whenDo (!s.thermalFault) fun s => ({ s with light := { s.light with thermal := false } }).settleClamp

/-- FIN0 reported open or closed (R60, R63). -/
def State.fin0 (s : State) (closed : Bool) : State :=
  if closed then (s.put LSD_ILK.FIN0_OK 1).settleClamp else (s.put LSD_ILK.FIN0_OK 0).trip 2

/-- BARRIER_SILENCE (R60). -/
def barrierSilenceStep (s : State) : State :=
  (({ s with light := { s.light with silent := true } }).put FLD_STATUS.UP 0).trip 3

/-- The owner writes REARM (R66, R67). -/
def State.rearm (s : State) : State :=
  if s.liveCauses != 0 then s.put LSD_ILK.REARM_REJ 1 else (s.put LSD_ILK.CAUSE 0).settleClamp

/-- ENABLE is written (R70). -/
def State.setEnable (s : State) (on : Bool) : State := (s.putFlag LSD_ILK.ENABLE on).settleClamp

/-! ## APR events (R72 to R79) -/

/-- The mean of some continuity lengths to the nearest bin, a half up (R79). -/
def meanHalfUp (l : List Nat) : Nat := (2 * sumN l + l.length) / (2 * l.length)

/-- A restore probe as it leaves the port: a rectangle at LEVEL for D_R, with its gate (R76, R77, R99). -/
def State.restoreOf (s : State) (p : Port) (pos : Fin 16) : ProbeOut :=
  let t := s.onClock (s.grid.start + s.launchOffset pos.val)
  { s.probeOf p pos t with
    shape := .rect, dur := s.restoreDur, level := s.aprLevel, amp := 255, peak := s.aprLevel, gateTo := t + (s.restoreDur + 20) * ns }

/-- The shots each port launched last (R139, R143). -/
def State.shots (s : State) (p : Port) : List (Ts × Nat) := if p = .a then s.rx.shotsA else s.rx.shotsB

/-- A port launched a shot: its boundary on the local clock and its duration in ns; the newest 48 of a port are kept, more than a
counting interval and the sweep before it hold (R139, R143). -/
def State.noteShot (s : State) (p : Port) (t : Ts) (d : Nat) : State :=
  match p with
  | .a => { s with rx := { s.rx with shotsA := ((t, d) :: s.rx.shotsA).take 48 } }
  | .b => { s with rx := { s.rx with shotsB := ((t, d) :: s.rx.shotsB).take 48 } }

/-- A restore probe can replace the port's slot 0 shot of this sweep: the port launches, is reduced under APR, and the shot is
still to come, not left out and not covered by a diagnostic pulse of this sweep (R76, R81, R84, R86). In SAFE from SHADOW it leaves there,
too, where slot 0's position is no shadow position (DESIGN CHOICE: log entry 197). -/
def State.restoreTurn (s : State) (p : Port) : Bool :=
  let pos := s.restorePos p
  s.portLaunches p && s.grid.started && !s.grid.closed && s.flag LSD_APR_CTRL.EN && (s.apr p == 1 || s.apr p == 3)
    && decide (s.grid.nextPos ≤ pos) && !s.grid.skip.contains (p, Fin.ofNat 16 pos)
    && !(s.diagTurn p && !s.guardShort p && s.diagCovers p pos)

/-- RESTORE_PROBE (R76 to R79, R95). -/
def restoreProbeStep (p : Port) (contLen : Nat) (s : State) : State :=
  s.whenDo (s.restoreTurn p) fun s =>
    let pos := Fin.ofNat 16 (s.restorePos p)
    let o := s.restoreOf p pos
    let t := (({ s with grid := { s.grid with skip := s.grid.skip ++ [(p, pos)] } }).emit (.restoreProbe o)).noteShot p o.t o.dur
    let t := (t.modPl p (fun x => { x with restoreShot := some (s.grid.k * s.grid.nslot + pos.val) })).put (LSD_APR_STAT.CONT_LEN p.idx) contLen
    let n := s.get LSD_APR_CTRL.RESTORE_N
    if s.apr p = 1 then
      let good := if s.get (LSD_APR_END.FIBRE_END p.idx) ≤ contLen + s.get LSD_APR_CTRL.TOL then (s.pl p).good + 1 else 0
      if n ≤ good then t.restorePort p else t.modPl p (fun x => { x with good := good })
    else
      let l := (contLen :: (s.pl p).probes).take n
      if l.length = n && decide (maxN l ≤ l.foldl min contLen + s.get LSD_APR_CTRL.TOL) then
        (t.put (LSD_APR_END.FIBRE_END p.idx) (meanHalfUp l)).restorePort p
      else t.modPl p (fun x => { x with probes := l })

/-! ## What SWEEP_START does to the light (R57, R68, R78, R573, R832) -/

/-- The clamp opens at a sweep boundary once nothing holds it (R68, R70). -/
def State.openClamp (s : State) : State := if s.clampHeld then s else s.put LSD_ILK.CLAMP 0

/-- A port whose APR enable was cleared starts to restore (R81). -/
def State.aprBoundary (s : State) (p : Port) : State := if (s.pl p).restoreDue then s.restorePort p else s

/-- A restoring port that has reached TARGET is NORMAL, its next 2 sweeps UNSETTLED (R78). -/
def State.normalPort (s : State) (p : Port) : State :=
  if s.apr p = 2 && (s.pl p).level == s.target p then (s.put (LSD_APR_STAT.STATE p.idx) 0).unsettlePort p else s

/-- A port holds the device in SAFE: it is used and not NORMAL. -/
def State.portReduced (s : State) (p : Port) : Bool := s.get (PAT_RANGE.N_BIN p.idx) != 0 && s.apr p != 0

/-- SAFE is left once every cause has cleared and none was a hardware fault (R832). -/
def State.leaveSafe (s : State) : State :=
  if s.dev = 5 && !s.light.hwHeld && !s.flag LSD_ILK.CAUSE && (!s.flag LSD_ILK.CLAMP || !s.flag LSD_ILK.ENABLE) && !s.portReduced .a && !s.portReduced .b then
    s.enter s.light.safeFrom.toNat
  else s

/-- Launching resumes at a sweep boundary after a relock (R57, R534) and after the flashing opened (R573). -/
def State.liftHolds (s : State) : State :=
  let lock := s.light.hold && s.flag LSD_LASER_STATUS.LOCK && s.flag OCX_STATUS.SYN_LOCK
  let flash := s.light.flashHold && s.get RDG_FLASH.OFL_STATE == 0 && decide (s.light.flashCyc + 10 * msCyc ≤ s.cyc)
  let t := { s with light := { s.light with hold := s.light.hold && !lock, flashHold := s.light.flashHold && !flash } }
  if lock || flash then t.unsettle2.reinitAll else t

/-! ## Meanings -/

/-- DIAGNOSTIC_PULSE (R82). -/
def execDiagnosticPulse (lowA lowB : Bool) (s : State) : Host.Outcome State Fault Refusal :=
  .next (diagnosticPulseStep lowA lowB s)

/-- COMP_UPDATE (R42). -/
def execCompUpdate (therm : List Int) (s : State) : Host.Outcome State Fault Refusal := .next (compUpdateStep therm s)

/-- DERATE_UPDATE (R47). -/
def execDerateUpdate (tcase : Int) (s : State) : Host.Outcome State Fault Refusal := .next (derateUpdateStep tcase s)

/-- POWER_LOOP_STEP (R49). -/
def execPowerLoopStep (port : Port) (measured : Int) (s : State) : Host.Outcome State Fault Refusal :=
  .next (powerLoopStepStep port measured s)

/-- POWER_SHORTFALL (R50). -/
def execPowerShortfall (port : Port) (measured : Int) (s : State) : Host.Outcome State Fault Refusal :=
  .next (powerShortfallStep port measured s)

/-- PUMP_OPEN_DETECT (R87). -/
def execPumpOpenDetect (pump : Fin 4) (s : State) : Host.Outcome State Fault Refusal := .next (pumpOpenDetectStep pump s)

/-- LOCK_LOSS (R55). -/
def execLockLoss (ferr : BitVec 16) (s : State) : Host.Outcome State Fault Refusal := .next (lockLossStep ferr s)

/-- LASER_LOCKED (R57). -/
def execLaserLocked (ferr : BitVec 16) (s : State) : Host.Outcome State Fault Refusal := .next (laserLockedStep ferr s)

/-- RELOCK_FAIL (R58). -/
def execRelockFail (s : State) : Host.Outcome State Fault Refusal := .next (relockFailStep s)

/-- RPREC_FAULT (R39). -/
def execRprecFault (s : State) : Host.Outcome State Fault Refusal := .next (rprecFaultStep s)

/-- INTLK_N_FALL (R62). -/
def execIntlkNFall (s : State) : Host.Outcome State Fault Refusal := .next (intlkNFallStep s)

/-- THERMAL_TRIP (R64). -/
def execThermalTrip (s : State) : Host.Outcome State Fault Refusal := .next (thermalTripStep s)

/-- BARRIER_SILENCE (R60). -/
def execBarrierSilence (s : State) : Host.Outcome State Fault Refusal := .next (barrierSilenceStep s)

/-- RESTORE_PROBE (R76). -/
def execRestoreProbe (port : Port) (contLen : Nat) (s : State) : Host.Outcome State Fault Refusal :=
  .next (restoreProbeStep port contLen s)

/-- FLASHING_SETTLED (R571). -/
def execFlashingSettled (s : State) : Host.Outcome State Fault Refusal := .next (flashingSettledStep s)

/-- INTLK_N_RISE (R71). -/
def execIntlkNRise (s : State) : Host.Outcome State Fault Refusal := .next (intlkNRiseStep s)

/-- THERMAL_FAULT_CLEAR (R71). -/
def execThermalFaultClear (s : State) : Host.Outcome State Fault Refusal := .next (thermalFaultClearStep s)

end Sys2Proof.Machine
end

