-- ==== Sys2Proof/Machine/Compression.lean ====
section
/-! DEFINITION. From converter codes to compressed samples (chapter 04 and R166): clipped samples, gain correction, the
channelizer, wide-window synthesis, matched filters, the laser's phase and the continuity length. Quotients are rounded to
the nearest; the spec gives no word lengths. -/

namespace Sys2Proof.Machine

/-! ## Converter codes (R128 to R133, R148, R155, R164) -/

/-- A complex signal by sample index. -/
abbrev Signal := Int → Int × Int

/-- Element of a list at an integer index, 0 outside it. -/
def atI (l : Array Int) (n : Int) : Int := if n < 0 then 0 else l.getD n.toNat 0

/-- The same of complex numbers. -/
def atC (l : Array (Int × Int)) (n : Int) : Int × Int := if n < 0 then (0, 0) else l.getD n.toNat (0, 0)

/-- A code of lanes 0 to 15, or of lanes 16 and 17, is clipped (R148). -/
def clipped12 (c : Int) : Bool := decide (c ≤ -2048) || decide (2047 ≤ c)
def clipped14 (c : Int) : Bool := decide (c ≤ -8192) || decide (8191 ≤ c)

/-- Places of a list at which a test holds. -/
def placesOf {α : Type} (f : α → Bool) (l : List α) : List Nat := (l.zipIdx.filter (fun e => f e.1)).map (·.2)

/-- The word of RX_GCOR for a lane and a gain code (R164). -/
def gcorWord (lane g : Nat) : Nat := 0x050400 + 32 * (lane % 16) + 4 * (g % 8)

/-- The gain code in force when sample n of a shot was converted, n in 0.25 ns from the shot boundary: another one from the
sweep boundary after its launch on where a step has fallen there (R132, R133). -/
def Inflight.codeAt (i : Inflight) (brl : Bool) (n : Int) : Nat :=
  let next := if brl then i.brlNext else i.dasNext
  let first := if brl then i.brlCode else i.dasCode
  match next with
  | some g => if decide ((i.tsw * 20 : Nat) * ((i.nslot : Int) - i.pos.val) ≤ n * i.nslot) then g else first
  | none => first

/-- A sample of a lane after the correction of its gain code, in 1/16 of a code: its phase and delay against code 0 from
RX_GCOR (R133), which stay with the logical lane after SWAP (R199; DEDUCED: log entry 190). How a real sample takes them is not stated: the
corrected value is open, but for no phase and no delay. -/
def State.corrected (s : State) (i : Inflight) (brl : Bool) (lane : Nat) (codes : Array Int) (n : Int) : Int :=
  let w := (s.rd (gcorWord lane (i.codeAt brl n))).toNat
  if w = 0 then 16 * atI codes n
  else Config.gainCorrect (signed 16 (w / 65536)) (signed 16 w) ((List.range 17).map (fun (k : Nat) => atI codes (n - 8 + k)))

/-- The complex stream of a polarisation, X or Y, of a path after correction and with the fixed receive delay of RX_ZERO taken
off: index 0 is bin 0 (R128, R133, R155). -/
def State.polStream (s : State) (i : Inflight) (brl y : Bool) (lanes : List (List Int)) : Signal :=
  let q := if y then 2 else 0
  let a := (lanes.getD q []).toArray
  let b := (lanes.getD (q + 1) []).toArray
  let l := 8 * i.port.idx + (if brl then 4 else 0) + q
  let z : Int := s.get (RX_ZERO.ZERO i.port.idx)
  fun n => (s.corrected i brl l a (n + z), s.corrected i brl (l + 1) b (n + z))

/-! ## Channelizer (R152, R154) -/

/-- Centre of a channel of the filter bank in MHz (R152). -/
def channelMhz (m : Int) : Int := 200 * m - 1900

/-- Output u of a channel at 200 MS/s before it is rounded to its word: the 480 taps over the input at 4 GS/s turned down from
the channel's centre, the filter's own delay taken off (R152, R155). -/
def channelSum (x : Signal) (m u : Int) : Int × Int :=
  cshift 46 (csum ((List.range 480).map (fun (k : Nat) =>
    let n := 20 * u + 240 - k
    let r := cmul (x n) (Config.cis (-(channelMhz m * n)) 4000)
    (Config.protoTap k * r.1, Config.protoTap k * r.2))))

/-- A value held within a limit. -/
def holdC (lim : Nat) (a : Int × Int) : Int × Int := (clampI (-lim) lim a.1, clampI (-lim) lim a.2)

/-- A value beyond a limit. -/
def overC (lim : Nat) (a : Int × Int) : Bool := decide (lim < a.1.natAbs) || decide (lim < a.2.natAbs)

/-- Output u of a channel, held within its word (R150, R152). -/
def channel (x : Signal) (m u : Int) : Int × Int := holdC Config.chanLimit (channelSum x m u)

/-- The stream of slot k: channel k + 2 at 200 MS/s, or in a wide window 400 MS/s put together from channels k + 1, k + 2 and
k + 3, each interpolated by 2 and moved to its place, the outer ones by half the new rate (R152, R154). -/
def slotStream (wide : Bool) (k : Nat) (x : Signal) : Signal :=
  if wide then
    fun n => cshift 16 (csum ((List.range 3).map (fun (d : Nat) =>
      let sgn : Int := if d = 1 || n % 2 = 0 then 1 else -1
      csum ((List.range 33).map (fun (j : Nat) =>
        let i := n / 2 - 16 + j
        let v := channel x ((k : Int) + 1 + d) i
        let g := sgn * Config.synthTap (n - 2 * i)
        (g * v.1, g * v.2))))))
  else channel x ((k : Int) + 2)

/-- The channelizer saturates at an output of the slot's stream (R150). -/
def slotOver (wide : Bool) (k : Nat) (x : Signal) (u : Int) : Bool :=
  if wide then (List.range 3).any (fun (d : Nat) => overC Config.chanLimit (channelSum x ((k : Int) + 1 + d) (u / 2)))
  else overC Config.chanLimit (channelSum x ((k : Int) + 2) u)

/-! ## Matched filters (R156, R157, R159, R240) -/

/-- Samples of the slot's stream that a probe of a duration fills, with the channelizer's response of 12 samples to each side. -/
def tapCount (wide : Bool) (dur : Nat) : Nat := ((dur + 4) / 5 + 24) * (if wide then 2 else 1)

/-- Index of the first of them. -/
def tapFirst (wide : Bool) : Int := if wide then -24 else -12

/-- The probe of a shape in a slot as a signal at 4 GS/s. -/
def probeSignal (sh : Shape) (dur k : Nat) : Signal := fun n =>
  if n < 0 || (4 * dur : Nat) ≤ n then (0, 0) else cshift 30 (cmul (sh.envelope n.toNat) (Config.cis (slotIf k * n) 4000))

/-- Coefficients F_m of the Taylor windows 1 (−35 dB, n̄ = 4) and 2 (−45 dB, n̄ = 6) in 2^-24 (R159; PRESUMED: log entry 192). -/
def taylorCoef (win : Nat) : List Int := if win = 1 then [5736084, -251599, 62563] else [7162192, -1061, 70637, -30360, 9684]

/-- A Taylor window of a length at a place, in 2^-16: 1 + 2 Σ F_m cos(2π m x / n), with x the distance from the middle (R159; PRESUMED: log
entry 192). -/
def taylorAt (win n r : Nat) : Int :=
  65536 + divNear (2 * sumI ((taylorCoef win).zipIdx.map (fun (e : Int × Nat) =>
    e.1 * (Config.cis ((e.2 + 1 : Nat) * (2 * (r : Int) + 1 - n)) (2 * n)).1))) (2 ^ 38)

/-- The taps of a matched filter, by delay from the probe's start: the probe passed through the channelizer's response, times
the window that RX_MF selects, which a rectangle does not take; the filter is their conjugate time reverse (R156, R159). -/
def matchedTaps (wide : Bool) (sh : Shape) (dur k win : Nat) : List (Int × Int) :=
  let n := tapCount wide dur
  let y := slotStream wide k (probeSignal sh dur k)
  (List.range n).map (fun (r : Nat) =>
    let v := y (tapFirst wide + r)
    match sh with
    | .rect => v
    | .chirp _ _ => if win = 0 then v else cshift 16 (v.1 * taylorAt win n r, v.2 * taylorAt win n r))

/-- The window of a port's filters. -/
def mfFld (p : Port) : Fld := if p = .a then RX_MF.WIN_A else RX_MF.WIN_B

/-- The filters of a port's launch positions: DAS and Brillouin (R156, R157, R240). -/
def State.filtersOf (s : State) (p : Port) : List (List (Int × Int) × List (Int × Int)) :=
  (List.range 16).map (fun j =>
    let w := s.slotEntry p s.bank j
    let sh := s.shapeOf p s.bank (seWf w)
    let d := s.durAt p s.bank j
    (matchedTaps false sh d (seK w) (s.get (mfFld p)), matchedTaps (s.flag BRL_CTRL.WIDE) sh d (seK w) (s.get (mfFld p))))

/-- Rebuild the matched filters of both ports, at every epoch boundary and bank swap (R157). -/
def State.rebuildFilters (s : State) : State :=
  { s with rx := { s.rx with filtA := s.filtersOf .a, filtB := s.filtersOf .b, rebuilds := s.rx.rebuilds + 1 } }

/-- Compressed sample n of a stream before it is rounded to its word: the filter offset in frequency by Δ Hz, at the stream's
rate (R156, R240). -/
def matchedSum (wide : Bool) (taps : List (Int × Int)) (delta : Int) (y : Signal) (n : Int) : Int × Int :=
  cshift 16 (csum (taps.zipIdx.map (fun (e : (Int × Int) × Nat) =>
    let r := tapFirst wide + e.2
    let t := if delta = 0 then e.1 else cshift 30 (cmul e.1 (Config.cis (delta * r) (if wide then 400000000 else 200000000)))
    cmul (y (n + r)) (conj t))))

/-- The same held within its word. -/
def matched (wide : Bool) (taps : List (Int × Int)) (delta : Int) (y : Signal) (n : Int) : Int × Int :=
  holdC Config.mfLimit (matchedSum wide taps delta y n)

/-- Samples of the stream from bin to bin: 5 ns, or 10 ns in extended range, where the odd samples are not delivered (R155,
R158). -/
def binStep (wide ext : Bool) : Nat := (if ext then 2 else 1) * (if wide then 2 else 1)

/-- The compressed bins of a shot on a path (R156, R158, R165, R240). -/
def State.compress (s : State) (i : Inflight) (brl wide : Bool) (delta : Int) (lanes : List (List Int)) : List BinSample :=
  let taps := if brl then i.filt.2 else i.filt.1
  let st := binStep wide i.ext
  let x := slotStream wide i.slot.val (s.polStream i brl false lanes)
  let y := slotStream wide i.slot.val (s.polStream i brl true lanes)
  (List.range i.nbin).map (fun b =>
    let u := matched wide taps delta x (b * st : Nat)
    let v := matched wide taps delta y (b * st : Nat)
    { xi := u.1, xq := u.2, yi := v.1, yq := v.2 })

/-- Bins whose channelizer output, an odd one of extended range with the bin before it, or matched-filter output saturates (R150). -/
def State.saturated (s : State) (i : Inflight) (brl wide : Bool) (delta : Int) (lanes : List (List Int)) : List Nat :=
  let taps := if brl then i.filt.2 else i.filt.1
  let st := binStep wide i.ext
  (List.range i.nbin).filter (fun b => [false, true].any (fun pol =>
    let x := s.polStream i brl pol lanes
    (List.range st).any (fun d => slotOver wide i.slot.val x (b * st + d : Nat)) || overC Config.mfLimit (matchedSum wide taps delta (slotStream wide i.slot.val x) (b * st : Nat))))

/-! ## Clip marks (R149, R151) -/

/-- Bins a clipped sample marks, as a first and a last one; t and z0 in 0.25 ns (R149). -/
def clipSpan (i : Inflight) (z0 : Nat) (t : Int) : Int × Int :=
  let p : Int := if i.ext then 40 else 20
  let pn : Nat := if i.ext then 10 else 5
  let b := (t - z0) / p
  (max 0 (b - ((i.dur + pn - 1) / pn : Nat) - 1), min ((i.nbin : Int) - 1) (b + 1))

/-- The bins converted within 40 ns of an instant, in 0.25 ns from the shot boundary: a bin counts as converted at its own instant
Z + b·P, which the spec leaves open (R151; DESIGN CHOICE: log entry 193). -/
def nearSpan (i : Inflight) (z0 : Nat) (t : Int) : Int × Int :=
  let p : Int := if i.ext then 40 else 20
  (max 0 (-((-(t - 160 - z0)) / p)), min ((i.nbin : Int) - 1) ((t + 160 - z0) / p))

/-- The spans that the clipped samples of a path's lanes mark in a shot's return window (R149). -/
def State.laneMarks (s : State) (i : Inflight) (lanes : List (List Int)) : List (Int × Int) :=
  lanes.flatMap (fun l => (placesOf clipped12 (l.take (i.tsw * 20))).map (fun t => clipSpan i (s.get (RX_ZERO.ZERO i.port.idx)) t))

/-- Time of sample m of lanes 16 and 17 as a shot's return brings them, in 0.25 ns from the shot boundary: 4 ns apart, the first
1 ms before it (R130, R166). -/
def refTime (m : Nat) : Int := 16 * (m : Int) - 4000000

/-- The spans that clipped samples of lanes 16 and 17 mark (R151). -/
def State.refMarks (s : State) (i : Inflight) (refs : List (Int × Int)) : List (Int × Int) :=
  (placesOf (fun (r : Int × Int) => clipped14 r.1 || clipped14 r.2) refs).map (fun m => nearSpan i (s.get (RX_ZERO.ZERO i.port.idx)) (refTime m))

/-- The DAS bins of a shot that are marked CLIPPED: by its port's DAS lanes, by saturated arithmetic and by lanes 16 and 17
(R149 to R151). -/
def State.dasMarks (s : State) (i : Inflight) (sh : ShotReturn) : List (Int × Int) :=
  s.laneMarks i sh.lanes ++ (s.saturated i false false 0 sh.lanes).map (fun b => ((b : Int), (b : Int))) ++ s.refMarks i sh.refs

/-! ## Laser phase (R166) -/

/-- An angle in 2^-16 rad brought into (−π, π], with 2π as 411,775 of them. -/
def wrapPhase (x : Int) : Int := (x + 205887) % 411775 - 205887

/-- φ_ref: the arguments of the samples of lanes 16 and 17, unwrapped, in 2^-16 rad. -/
def refPhase (refs : List (Int × Int)) : List Int :=
  (refs.foldl (fun (a : List Int × Int) r =>
    let v := a.2 + wrapPhase (Config.argOf r.1 r.2 - a.2)
    (v :: a.1, v)) ([], 0)).1.reverse

/-- Running sums of a list, the first of them 0. -/
def runningSums (l : List Int) : List Int := (l.foldl (fun (a : List Int × Int) x => ((a.2 + x) :: a.1, a.2 + x)) ([0], 0)).1.reverse

/-- φ_L at each sample of lanes 16 and 17, in 2^-16 rad: what (φ_ref − φ̄) / τ_ref has added up to, φ̄ the mean of φ_ref over the most
recent 1 ms. Taken modulo 2π it would give the same rotations. -/
def laserPhase (refs : List (Int × Int)) : List Int :=
  let phi := refPhase refs
  let sums := (runningSums phi).toArray
  let dphi := phi.zipIdx.map (fun (e : Int × Nat) =>
    let n := min 250000 (e.2 + 1)
    divNear ((e.1 * n - (atI sums (e.2 + 1 : Nat) - atI sums ((e.2 + 1 : Nat) - n))) * 4 * 65536) (n * max 1 Config.tauRef))
  (runningSums dphi).drop 1

/-- φ_L at a time in 0.5 ns from the shot boundary, interpolated linearly between samples. -/
def phaseAt (l : Array Int) (t : Int) : Int :=
  let q := (t + 2000000) / 8
  let r := (t + 2000000) % 8
  atI l q + divNear ((atI l (q + 1) - atI l q) * r) 8

/-- The bins of a shot after the laser's phase noise is taken off: bin b turned by −d_b, d_b = φ_L(t_c + τ_b) − φ_L(t_c), where the
shot was launched under cancellation (R100, R166). -/
def denoise (i : Inflight) (refs : List (Int × Int)) (bins : List BinSample) : List BinSample :=
  if !i.lnc then bins
  else
    let l := (laserPhase refs).toArray
    let tc : Int := i.dur
    let base := phaseAt l tc
    bins.zipIdx.map (fun (e : BinSample × Nat) =>
      let d := phaseAt l (tc + e.2 * (if i.ext then 20 else 10 : Nat)) - base
      let x := Config.rotate e.1.xi e.1.xq (-d)
      let y := Config.rotate e.1.yi e.1.yq (-d)
      { xi := x.1, xq := x.2, yi := y.1, yq := y.2 })

/-! ## Intensity and continuity (R72, R195) -/

/-- |A_X|² + |A_Y|² of a bin. -/
def binEnergy (b : BinSample) : Nat := (b.xi * b.xi + b.xq * b.xq + b.yi * b.yi + b.yq * b.yq).toNat

/-- The continuity length: the last bin whose intensity, the mean over the four lanes, is more than 3 dB above the noise floor of the
physical port (R72, R199). -/
def contLength (p : Port) (bins : List BinSample) : Nat :=
  (bins.zipIdx.foldl (fun (a : Nat) (e : BinSample × Nat) =>
    if (4 * Config.noiseFloor p.idx) ^ 10 * 10 ^ 3 < binEnergy e.1 ^ 10 then e.2 else a) 0)

end Sys2Proof.Machine
end

