-- ==== Sys2Proof/Machine/Float.lean ====
section
/-! DEFINITION. IEEE 754 binary32 words as the device compares and forms them (R212, R282, R304). A finite value is
held exactly, in units of 2^-149; an infinity is a value beyond every finite one. -/

namespace Sys2Proof.Machine

/-- The value of a binary32 word in units of 2^-149; none for a NaN. -/
def f32Val (w : Word) : Option Int :=
  let e := w.toNat / 2 ^ 23 % 256
  let m := w.toNat % 2 ^ 23
  let sgn (v : Nat) : Int := if w.getLsbD 31 then -(v : Int) else v
  if e = 255 then (if m = 0 then some (sgn (2 ^ 300)) else none)
  else if e = 0 then some (sgn m)
  else some (sgn ((2 ^ 23 + m) * 2 ^ (e - 1)))

/-- The floor of the binary logarithm of a positive quotient. -/
def log2Quot (a d : Nat) : Int :=
  let l : Int := (a.log2 : Int) - d.log2
  let below := if 0 ≤ l then decide (a < d * 2 ^ l.toNat) else decide (a * 2 ^ (-l).toNat < d)
  if below then l - 1 else l

/-- A quotient of naturals rounded to a multiple of 2^sh, ties to even: how many of it. -/
def roundShift (a d : Nat) (sh : Int) : Nat :=
  let num := if sh < 0 then a * 2 ^ (-sh).toNat else a
  let den := if sh < 0 then d else d * 2 ^ sh.toNat
  let q := num / den
  let r := num % den
  if 2 * r < den then q else if den < 2 * r then q + 1 else q + q % 2

/-- The binary32 word nearest to num / den, ties to even. -/
def toF32 (num : Int) (den : Nat) : Word :=
  let a := num.natAbs
  let sign : Nat := if num < 0 then 2 ^ 31 else 0
  if a = 0 then 0
  else
    let sh := max (-149) (log2Quot a den - 23)
    let v := (sh + 149).toNat * 2 ^ 23 + roundShift a den sh
    BitVec.ofNat 32 (sign + min v (255 * 2 ^ 23))

/-- exp(−num / den) in 2^-64, to within 2^-48: twelve terms of the series at a 4,096th of the argument, squared twelve times; 0 from 64
on. -/
def expNeg (num den : Nat) : Nat :=
  if 64 * den ≤ num then 0
  else
    let one : Int := 2 ^ 64
    let term : Int × Int := (List.range 12).foldl (fun (a : Int × Int) k =>
      let t := -(a.2 * num) / ((den : Int) * 4096 * (k + 1))
      (a.1 + t, t)) (one, one)
    (List.range 12).foldl (fun (a : Nat) _ => a * a / 2 ^ 64) term.1.toNat

/-- num / den rounded to 53 bits, as an exact quotient again: what a binary64 sum holds. -/
def roundF64 (num : Int) (den : Nat) : Int × Nat :=
  let a := num.natAbs
  if a = 0 then (0, 1)
  else
    let sh := max (-1074) (log2Quot a den - 52)
    let q : Int := if num < 0 then -(roundShift a den sh : Int) else roundShift a den sh
    if sh < 0 then (q, 2 ^ (-sh).toNat) else (q * 2 ^ sh.toNat, 1)

end Sys2Proof.Machine
end

