-- ==== Sys2Proof/Machine/Coder.lean ====
section
/-! DEFINITION. The lossless coder: its sequences, the decoder they are made for, and the blocks of a body (R393 to R396). -/

namespace Sys2Proof.Machine

/-! ## The decoder (R395) -/

/-- Extension bytes of a length: each is added, up to the first below 255. -/
def takeExt : List Byte → Nat → Option (Nat × List Byte)
  | [], _ => none
  | b :: t, n => if b.toNat = 255 then takeExt t (n + 255) else some (n + b.toNat, t)

/-- A length of a token's four bits, with its extension bytes where they are 15. -/
def takeLen (nibble : Nat) (l : List Byte) : Option (Nat × List Byte) := if nibble = 15 then takeExt l 15 else some (nibble, l)

/-- The match copied byte by byte from a distance back; the copy may overlap its own output. -/
def copyBack (dist : Nat) : Nat → List Byte → List Byte
  | 0, out => out
  | n + 1, out => copyBack dist n (out ++ [out.getD (out.length - dist) 0])

/-- A run of sequences decoded behind what the batten's body already holds; none where it is no coded block (R395, R396). -/
def lzDecode : Nat → List Byte → List Byte → Option (List Byte)
  | 0, _, _ => none
  | _ + 1, [], _ => none
  | fuel + 1, token :: rest, out =>
    match takeLen (token.toNat / 16) rest with
    | none => none
    | some (ll, l1) =>
      if l1.length < ll then none
      else
        match l1.drop ll with
        | [] => some (out ++ l1.take ll)
        | [_] => none
        | hi :: lo :: l2 =>
          let v := hi.toNat * 256 + lo.toNat
          let out1 := out ++ l1.take ll
          if decide (32768 ≤ v) || decide (out1.length < v + 1) then none
          else
            match takeLen (token.toNat % 16) l2 with
            | none => none
            | some (ml, l3) => lzDecode fuel l3 (copyBack (v + 1) (ml + 3) out1)

/-! ## The coder -/

/-- A length in four bits, and its extension bytes. -/
def lenNibble (n : Nat) : Nat := min n 15
def lenExt (n : Nat) : List Byte :=
  if n < 15 then [] else List.replicate ((n - 15) / 255) 255 ++ [BitVec.ofNat 8 ((n - 15) % 255)]

/-- A sequence of literals and a match: distance and length. -/
def seqBytes (lits : List Byte) (dist len : Nat) : List Byte :=
  BitVec.ofNat 8 (lenNibble lits.length * 16 + lenNibble (len - 3)) :: (lenExt lits.length ++ lits
    ++ [BitVec.ofNat 8 ((dist - 1) / 256), BitVec.ofNat 8 (dist - 1)] ++ lenExt (len - 3))

/-- The last sequence of a block holds literals alone. -/
def lastSeq (lits : List Byte) : List Byte := BitVec.ofNat 8 (lenNibble lits.length * 16) :: (lenExt lits.length ++ lits)

/-- What stands at a position comes again from a distance back, for a length (R395, R396). -/
def isMatch (body : List Byte) (pos dist len : Nat) : Bool :=
  decide (1 ≤ dist) && decide (dist ≤ 32768) && decide (dist ≤ pos) && decide (3 ≤ len)
    && (List.range len).all (fun k => body[pos + k]? == body[pos + k - dist]? && decide (pos + k < body.length))

/-- Match candidates that a level examines at a position at most (R393). -/
def matchLimit (level : Nat) : Nat := ([0, 1, 2, 4, 16, 32, 64, 256, 512, 1024] : List Nat).getD level 0

/-- The match the coder takes at a position: of the candidates that its level examines, which are its own choice, the first of the
longest that are matches; or none (R393; DESIGN CHOICE: log entry 194). -/
def matchAt (level : Nat) (body : List Byte) (pos : Nat) : Option (Nat × Nat) :=
  (List.range (matchLimit level)).foldl (fun (best : Option (Nat × Nat)) k =>
    let c := Config.matchAt level body pos k
    if isMatch body pos c.1 c.2 && best.all (fun b => decide (b.2 < c.2)) then some c else best) none

/-- The sequences of a body from a position to its end, with literals that wait for a match. -/
def lzFrom (level : Nat) (body : List Byte) : Nat → Nat → List Byte → List Byte
  | 0, _, lits => lastSeq lits
  | fuel + 1, pos, lits =>
    match body[pos]? with
    | none => lastSeq lits
    | some b =>
      match matchAt level body pos with
      | some (dist, len) => seqBytes lits dist len ++ lzFrom level body fuel (pos + len) []
      | none => lzFrom level body fuel (pos + 1) (lits ++ [b])

/-- A piece coded behind the part of its body that comes before it. -/
def lzCode (level : Nat) (before piece : List Byte) : List Byte :=
  lzFrom level (before ++ piece) (piece.length + 1) before.length []

/-! ## Blocks (R394) -/

/-- One block: coded, or RAW at level 0 and where coding makes the piece no shorter. -/
def pieceBlock (level : Nat) (last : Bool) (before piece : List Byte) : List Byte :=
  let coded := lzCode level before piece
  let raw := level = 0 || decide (piece.length ≤ coded.length)
  let data := if raw then piece else coded
  beBytes 4 (raw.toNat * 2 ^ 31 + last.toNat * 2 ^ 30 + data.length) ++ beBytes 4 piece.length ++ data

/-- The blocks of a body from an offset on. -/
def bodyBlocks (level : Nat) (body : List Byte) : Nat → Nat → List Byte
  | 0, _ => []
  | fuel + 1, off =>
    let last := decide (body.length ≤ off + 65536)
    pieceBlock level last (body.take off) ((body.drop off).take 65536) ++ (if last then [] else bodyBlocks level body fuel (off + 65536))

end Sys2Proof.Machine
end

