-- ==== Sys2Proof/Machine/Clock.lean ====
section
/-! DEFINITION. The local clock, its steering and the PTP instance (chapter 14). -/

namespace Sys2Proof.Machine

/-! ## The local clock (R508 to R511) -/

/-- What one cycle removes of an outstanding slew at most, 2^-40 ns: 100 ppm of 2 ns (R510). -/
def slewStep : Int := divRound (2 * 2 ^ 40 * 100) 1000000

/-- One 500 MHz cycle: the clock advances by 2 ns + FADJ × 2^-40 ns and by what it removes of the slew (R508, R510). -/
def State.clockCycle (s : State) : State :=
  let d := clampI (-slewStep) slewStep s.ptp.slew
  let left := s.ptp.slew - d
  ({ s with
    clk := ((s.clk : Int) + 2 ^ 41 + s.geti PTP_FADJ.FADJ + d).toNat
    cyc := s.cyc + 1
    ptp := { s.ptp with slew := left } }).putFlag PTP_STATUS.SLEWING (left != 0)

/-- Set the outstanding slew (R510). -/
def State.setSlew (s : State) (v : Int) : State :=
  ({ s with ptp := { s.ptp with slew := v } }).putFlag PTP_STATUS.SLEWING (v != 0)

/-- LOCKED is cleared and the counts start again: a step or holdover (R517). -/
def State.lockLost (s : State) : State :=
  ({ s with ptp := { s.ptp with good := 0, bad := 0 } }).put PTP_STATUS.LOCKED 0

/-- A step of the local clock to an instant: counted, flagged, and the sweep in progress keeps its length while the
grid waits to re-anchor (R19, R511); neither the PTP servo nor the ridge is locked any longer (R517, R563). Where no sweep has started
the first grid time at or after the new time is awaited, T_ALIGN where that lies ahead again (R15, R16; log entry 141). -/
def State.stepTo (s : State) (t : Ts) : State :=
  let d : Int := (t : Int) - s.now
  let move (x : Ts) : Ts := ((x : Int) + d).toNat
  let g := { s.grid with inflight := s.grid.inflight.map (fun (i : Inflight) => { i with clk := move i.clk }) }
  -- an epoch in force before a step backward is in force from the instant it leads to
  let g := { g with
    epochs := g.epochs.map (fun (e : Ts × BitVec 32) => (min e.1 t, e.2)), banks := g.banks.map (fun (e : Ts × Bool) => (min e.1 t, e.2)), applied := none }
  let g2 := if !g.running then g
    else if g.started then { g with step := some (decide (d < 0)), resume := some (move s.sweepEnd), shift := g.shift + d }
    else { g with resume := some t }
  let u := { s with
    clk := t * 2 ^ 24, grid := g2
    rx := { s.rx with shotsA := s.rx.shotsA.map (fun (e : Ts × Nat) => (move e.1, e.2)), shotsB := s.rx.shotsB.map (fun (e : Ts × Nat) => (move e.1, e.2)) }
    brl := { s.brl with lastFold := move s.brl.lastFold, inflight := s.brl.inflight.map (fun (i : Inflight) => { i with clk := move i.clk }) }
    qcp := { s.qcp with staged := s.qcp.staged.map (fun (x : StagedSet) => { x with handed := x.handed.map move }) }
    reed := { s.reed with slots := s.reed.slots.map (fun (x : RSlot) => { x with startAt := x.startAt.map move }) }
    ridge := { s.ridge with good := 0 }
    strm := { s.strm with busy0 := move s.strm.busy0, busy1 := move s.strm.busy1 }
    pair := { s.pair with
      sent := s.pair.sent.map (fun (e : BitVec 32 × Ts) => (e.1, move e.2)), echo := s.pair.echo.map move, activeAt := s.pair.activeAt.map move
      refAt := s.pair.refAt.map move, ref := { s.pair.ref with holdSince := s.pair.ref.holdSince.map move }, partner := s.pair.partner.map (fun (e : Ts × BitVec 12) => (move e.1, e.2)) } }
  ((u.count PTP_STATUS.STEPS).puts [(PTP_STATUS.STEPPED, 1), (RDG_STATUS.LOCKED, 0)]).lockLost

/-- A step by an amount in 2^-16 ns. -/
def State.stepBy (s : State) (d : Int) : State := s.stepTo ((s.now : Int) + d).toNat

/-- Set FADJ, held in its range, and remember it for holdover while the servo is locked (R516, R518). -/
def State.setFadj (s : State) (v : Int) (locked : Bool) : State :=
  let v := clampI (-(2 ^ 31)) (2 ^ 31 - 1) v
  let t := s.puti PTP_FADJ.FADJ v
  if locked then
    { t with ptp := { t.ptp with hist := ((t.cyc, v) :: t.ptp.hist).filter (fun e => decide (t.cyc ≤ e.1 + 60 * sCyc)) } }
  else t

/-- The servo's proportional–integral loop on an offset in 2^-16 ns: servo 0 PTP, 1 ridge (R516, R562). -/
def State.piAdjust (s : State) (servo : Nat) (off : Int) (locked : Bool) : State :=
  let i := clampI (-(2 ^ 31)) (2 ^ 31 - 1) (s.ptp.integ + Config.servoI servo off)
  ({ s with ptp := { s.ptp with integ := i } }).setFadj (i + Config.servoP servo off) locked

/-- FADJ goes to its mean over the last 60 s of lock, or stays if it was never locked (R518, R563). -/
def State.holdFadj (s : State) : State :=
  if s.ptp.hist = [] then s
  else
    let m := divRound (sumI (s.ptp.hist.map (·.2))) s.ptp.hist.length
    ({ s with ptp := { s.ptp with integ := m } }).setFadj m false

/-! ## PTP (R513 to R521) -/

/-- The Ethernet port of the PTP instance. -/
def State.ptpPort (s : State) : Nat := s.get PTP_CFG.PORT

/-- An ingress timestamp referred to the medium-dependent interface (R506), with the skew of PTB_TSKEWx (R783). -/
def State.ingress (s : State) (x : Nat) (raw : Ts) : Ts :=
  (((raw - s.get (NET_W18.INT_RX x) - s.get (NET_W16.EXT_RX x) : Nat) : Int) + s.geti (PTB_TSKEW.RX x) * 16384).toNat

/-- An egress timestamp referred to the medium-dependent interface (R506), with the skew of PTB_TSKEWx (R783). -/
def State.egress (s : State) (x : Nat) (raw : Ts) : Ts :=
  (((raw + s.get (NET_W19.INT_TX x) + s.get (NET_W17.EXT_TX x) : Nat) : Int) + s.geti (PTB_TSKEW.TX x) * 16384).toNat

/-- A skewed timestamp is an act of kind 5 (R783). -/
def State.skewed (s : State) (f : Fld) : State := if s.flag f then s.count (PTB_CNT.COUNT 5) else s

/-- PTP messages are handled on the instance's port only (R513). -/
def State.onPtp (s : State) (x : Nat) (f : State → State) : State :=
  if x = s.ptpPort then f s else s.count (NET_W20.RXDROP x)

/-- PTP_SYNC_RX: a one-step Sync is complete, a two-step one waits for its Follow_Up (R505, R506, R521). -/
def ptpSyncRxStep (x : Fin 2) (seqId : BitVec 16) (twoStep : Bool) (origin : Ts) (corr : Int) (raw : Ts) (s : State) : State :=
  s.onPtp x.val fun s => State.skewed (f := PTB_TSKEW.RX x.val) <|
    { s with ptp := { s.ptp with
      sync := some { seqId := seqId, t1 := if twoStep then none else some origin, t2 := s.ingress x.val raw, corr := corr } } }

/-- PTP_FOLLOW_UP_RX (R521). -/
def ptpFollowUpRxStep (x : Fin 2) (seqId : BitVec 16) (origin : Ts) (corr : Int) (s : State) : State :=
  s.onPtp x.val fun s =>
    match s.ptp.sync with
    | some y =>
      if y.seqId = seqId && y.t1.isNone then
        { s with ptp := { s.ptp with sync := some { y with t1 := some origin, corr := y.corr + corr } } }
      else s
    | none => s

/-- FOLLOW_UP_TIMEOUT: the Sync is discarded without counting (R521). -/
def followUpTimeoutStep (s : State) : State :=
  match s.ptp.sync with
  | some y => if y.t1.isNone then { s with ptp := { s.ptp with sync := none } } else s
  | none => s

/-- LOCKED after an offset (R517). -/
def State.lockCount (s : State) (off : Int) : State :=
  let below := decide (off.natAbs < s.get PTP_SERVO.LOCK_THR * ns)
  let good := if below then min 16 (s.ptp.good + 1) else 0
  let bad := if below then 0 else min 16 (s.ptp.bad + 1)
  let t := { s with ptp := { s.ptp with good := good, bad := bad } }
  if good = 16 then t.put PTP_STATUS.LOCKED 1 else if bad = 16 then t.put PTP_STATUS.LOCKED 0 else t

/-- The servo on one offset in 2^-16 ns: a step, or an adjustment of FADJ (R516, R517); it steers only with SRC = 0
(R509), and counts the offset toward LOCKED with any (DEDUCED: log entry 113). The first offset ends holdover (R518). -/
def State.servo (s : State) (off : Int) : State :=
  let t := (s.puti PTP_OFFSET.OFFSET (clampI (-(2 ^ 31)) (2 ^ 31 - 1) (divRound off 16384))).puts
    [(PTP_STATUS.HOLDOVER, 0), (PTP_STATUS.PSTATE, 9)]
  if s.get PTP_CFG.SRC != 0 then t.lockCount off
  else if s.get PTP_SERVO.STEP_THR * 10 * ns < off.natAbs then t.stepBy (-off)
  else
    let u := t.lockCount off
    u.piAdjust 0 off (u.flag PTP_STATUS.LOCKED)

/-- PTP_DELAY_RESP_RX: offset and mean path delay of the exchange, then the servo (R515). -/
def ptpDelayRespRxStep (x : Fin 2) (seqId : BitVec 16) (t4 : Ts) (corr : Int) (s : State) : State :=
  s.onPtp x.val fun s =>
    match s.ptp.sync, s.ptp.delayReq with
    | some y, some (q, t3) =>
      match y.t1 with
      | some t1 =>
        if q = seqId then
          let a : Int := (y.t2 : Int) - t1 - y.corr
          let b : Int := (t4 : Int) - t3 - corr
          let t := { s with ptp := { s.ptp with sync := none, delayReq := none, pathDelay := divRound (a + b) 2 } }
          t.servo (divRound (a - b) 2)
        else s
      | none => s
    | _, _ => s

/-- PTP_ANNOUNCE_RX: the best master of those heard is selected; a master-capable device stays master against a worse
one (R514). -/
def ptpAnnounceRxStep (x : Fin 2) (identity : BitVec 64) (dataset : Nat) (s : State) : State :=
  s.onPtp x.val fun s =>
    let better := match s.ptp.master with
      | some (i, d) => i == identity || decide (dataset < d)
      | none => true
    if s.flag PTP_CFG.MASTER && decide (Config.ownDataset < dataset) then
      ({ s with ptp := { s.ptp with master := none } }).put PTP_STATUS.PSTATE 6
    else if better then
      let same := s.ptp.master.map (·.1) == some identity
      let t := { s with ptp := { s.ptp with master := some (identity, dataset) } }
      if same && s.get PTP_STATUS.PSTATE == 9 then t else t.put PTP_STATUS.PSTATE 8
    else s

/-- ANNOUNCE_TIMEOUT: holdover, or the master state of a master-capable device (R514, R518). -/
def announceTimeoutStep (s : State) : State :=
  let t := ({ s with ptp := { s.ptp with master := none, sync := none, delayReq := none } }).put PTP_STATUS.PSTATE
    (if s.flag PTP_CFG.MASTER then 6 else 4)
  ((if s.get PTP_CFG.SRC = 0 then t.holdFadj else t).lockLost).put PTP_STATUS.HOLDOVER 1

/-- The PTP multicast address in force (R514): of the transport, and with Ethernet the one that MCAST selects. -/
def State.ptpMulticast (s : State) : BitVec 48 :=
  if s.flag PTP_CFG.PROFILE || s.get PTP_CFG.TRANSPORT = 2 then
    (if s.flag PTP_CFG.PROFILE && s.flag PTP_CFG.MCAST then 0x0180C200000E else 0x011B19000000)
  else if s.get PTP_CFG.TRANSPORT = 1 then 0x333300000181
  else 0x01005E000181

/-- How a PTP message leaves, with the settings that R514 gives; those that come are of the same domain (DESIGN CHOICE: log entry 208). A Sync
whose origin time is written as it leaves has a UDP checksum of 0, or the trailer (R519). -/
def State.ptpHead (s : State) (late : Bool := false) : PtpHead :=
  let tr := if s.flag PTP_CFG.PROFILE then 2 else s.get PTP_CFG.TRANSPORT
  { transport := tr, dst := s.ptpMulticast, domain := s.get PTP_CFG.DOMAIN, zeroSum := late && tr == 0, trailer := late && tr == 1 }

/-- Send a frame from the PTP port. -/
def State.ptpOut (s : State) (f : EthOut) : State := s.emit (.eth (Fin.ofNat 2 s.ptpPort) f)

/-- SYNC_SEND: one-step, the egress time truncated to ns with its fraction in correctionField; two-step, a Sync and its
Follow_Up (R519, R520). -/
def syncSendStep (raw : Ts) (s : State) : State :=
  s.whenDo (s.get PTP_STATUS.PSTATE == 6) fun s =>
    let t := s.egress s.ptpPort raw
    let q := s.ptp.syncSeq
    let u := ({ s with ptp := { s.ptp with syncSeq := q + 1 } }).skewed (PTB_TSKEW.TX s.ptpPort)
    let one := if s.ptpPort = 0 then s.flag PTP_CFG.ONESTEP0 else s.flag PTP_CFG.ONESTEP1
    if one then u.ptpOut (.ptpSync (s.ptpHead true) q (some (t / ns)) (t % ns))
    else (u.ptpOut (.ptpSync s.ptpHead q none 0)).ptpOut (.ptpFollowUp s.ptpHead q (t / ns) (t % ns))

/-- DELAY_REQ_SEND (R506, R520). -/
def delayReqSendStep (raw : Ts) (s : State) : State :=
  s.whenDo (s.get PTP_STATUS.PSTATE == 8 || s.get PTP_STATUS.PSTATE == 9) fun s =>
    let q := s.ptp.dreqSeq
    (({ s with ptp := { s.ptp with dreqSeq := q + 1, delayReq := some (q, s.egress s.ptpPort raw) } }).skewed (PTB_TSKEW.TX s.ptpPort)).ptpOut (.ptpDelayReq s.ptpHead q)

/-- PTP_DELAY_REQ_RX: as master the device answers with its corrected receive time (R506, R514). -/
def ptpDelayReqRxStep (x : Fin 2) (seqId : BitVec 16) (raw : Ts) (s : State) : State :=
  s.onPtp x.val fun s =>
    s.whenDo (s.get PTP_STATUS.PSTATE == 6) fun s => (s.skewed (PTB_TSKEW.RX x.val)).ptpOut (.ptpDelayResp s.ptpHead seqId (s.ingress x.val raw))

/-- ANNOUNCE_SEND: clockClass 248 (R514). -/
def announceSendStep (s : State) : State :=
  s.whenDo (s.flag PTP_CFG.MASTER && s.get PTP_STATUS.PSTATE == 6) fun s =>
    ({ s with ptp := { s.ptp with annSeq := s.ptp.annSeq + 1 } }).ptpOut (.ptpAnnounce s.ptpHead s.ptp.annSeq 248)

/-! ## Setting the time by QCP (R509, R510) -/

/-- TIME_GET (R512). -/
def timeGetBody (q : ReqHdr) (s : State) : State := s.reply q 0x0900 stOk [itTime s.now]

/-- TIME_SET, the owner's: a step, discarding the outstanding slew (R436, R509, R510). -/
def timeSetBody (q : ReqHdr) (t : Ts) (s : State) : State :=
  s.checks q 0x0901 [(s.get PTP_CFG.SRC != 1, stParamConflict), (s.owner != q.session.val, stNotOwner)] fun s =>
    ((s.setSlew 0).stepTo t).reply q 0x0901 stOk

/-- TIME_ADJ, the owner's: added to the outstanding slew (R436, R509, R510). -/
def timeAdjBody (q : ReqHdr) (n : Int) (s : State) : State :=
  s.checks q 0x0902 [(s.get PTP_CFG.SRC != 1, stParamConflict), (s.owner != q.session.val, stNotOwner)] fun s =>
    (s.setSlew (s.ptp.slew + n * 2 ^ 40)).reply q 0x0902 stOk

/-! ## Links and next hops (R499, R504) -/

/-- ETH_LINK_CHANGE (R499, R524). -/
def ethLinkChangeStep (x : Fin 2) (up : Bool) (s : State) : State :=
  if up then
    s.whenDo (s.flag (NET_W0.EN x.val) && !s.flag (NET_W1.LINK x.val)) fun s =>
      (s.put (NET_W1.LINK x.val) 1).putFlag (NET_W1.FECLOCK x.val) (s.get (NET_W0.FEC x.val) != 0)
  else
    s.whenDo (s.flag (NET_W1.LINK x.val)) fun s =>
      (s.puts [(NET_W1.LINK x.val, 0), (NET_W1.FECLOCK x.val, 0)]).count (NET_W1.LINKDOWNS x.val)

/-- NEXT_HOP_RETRY: an unresolved next hop is asked for again (R504). -/
def nextHopRetryStep (x : Fin 2) (addr : BitVec 128) (s : State) : State :=
  s.whenDo ((s.hops x.val).any (fun h => h.addr == addr && h.mac.isNone)) fun s => s.emit (.eth x (.neighbourRequest addr))

/-- A next hop that is not in the table is asked for (R504). -/
def State.askHop (s : State) (x : Nat) (addr : BitVec 128) : State :=
  if (s.hops x).any (fun h => h.addr == addr) then s
  else if 64 ≤ (s.hops x).length then s
  else (s.setHops x (s.hops x ++ [{ addr := addr, mac := none }])).emit (.eth (Fin.ofNat 2 x) (.neighbourRequest addr))

/-- An open session's events go to a UDPDEST through a next hop (R461, R504). -/
def State.routedBy (s : State) (x : Nat) (addr : BitVec 128) : Bool :=
  s.qcp.sess.any (fun y => y.isOpen && match y.route with
    | .udp p => p.mac == 0 && p.eth.val == x && s.nextHopOf x p.v6 p.addr == addr
    | .mailbox _ => false)

/-- NEXT_HOP_EXPIRE: a resolved entry leaves the table; one that a session's events need is asked for anew (R504). -/
def nextHopExpireStep (x : Fin 2) (addr : BitVec 128) (s : State) : State :=
  let t := s.setHops x.val ((s.hops x.val).filter (fun h => !(h.addr == addr && h.mac.isSome)))
  if s.routedBy x.val addr then t.askHop x.val addr else t

/-- A next hop's MAC address becomes known (R504). -/
def State.learnHop (s : State) (x : Nat) (addr : BitVec 128) (mac : BitVec 48) : State :=
  s.setHops x ((s.hops x).map (fun h => if h.addr = addr then { h with mac := some mac } else h))

/-- The fragments that one source has sent are discarded (R425). -/
def State.dropFrags (s : State) (src : BitVec 128) : State :=
  { s with net := { s.net with reasm := s.net.reasm.filter (fun r => !(r.src.addr == src)) } }

/-- The cycle count at which a reassembly that began at another one ends, 2 ms later (R425). -/
def reasmEnd (c : Nat) : Nat := c + 2 * msCyc

/-- REASSEMBLY_TIMEOUT, 2 ms after the first fragment: the fragments of a source are discarded (R425). -/
def reassemblyTimeoutStep (src : BitVec 128) (s : State) : State :=
  match s.net.reasm.find? (fun r => r.src.addr == src) with
  | none => s
  | some e => (s.atCyc (reasmEnd e.since)).dropFrags src

/-! ## Meanings -/

/-- TIME_GET (R512). -/
def execTimeGet (q : ReqHdr) (s : State) : Host.Outcome State Fault Refusal := .next (s.request q 0x0900 (timeGetBody q))

/-- TIME_SET (R510). -/
def execTimeSet (q : ReqHdr) (time : Ts) (s : State) : Host.Outcome State Fault Refusal :=
  .next (s.request q 0x0901 (timeSetBody q time) (operands [itTime time]))

/-- TIME_ADJ (R510). -/
def execTimeAdj (q : ReqHdr) (ns : Int) (s : State) : Host.Outcome State Fault Refusal :=
  .next (s.request q 0x0902 (timeAdjBody q ns) (operands [itSigned ns]))

/-- ETH_LINK_CHANGE (R499). -/
def execEthLinkChange (eth : Fin 2) (up : Bool) (s : State) : Host.Outcome State Fault Refusal :=
  .next (ethLinkChangeStep eth up s)

/-- NEXT_HOP_RETRY (R504). -/
def execNextHopRetry (eth : Fin 2) (addr : BitVec 128) (s : State) : Host.Outcome State Fault Refusal :=
  .next (nextHopRetryStep eth addr s)

/-- PTP_SYNC_RX (R521). -/
def execPtpSyncRx (eth : Fin 2) (seqId : BitVec 16) (twoStep : Bool) (origin : Ts) (corr : Int) (raw : Ts) (s : State) : Host.Outcome State Fault Refusal :=
  .next (ptpSyncRxStep eth seqId twoStep origin corr raw s)

/-- PTP_FOLLOW_UP_RX (R521). -/
def execPtpFollowUpRx (eth : Fin 2) (seqId : BitVec 16) (origin : Ts) (corr : Int) (s : State) : Host.Outcome State Fault Refusal :=
  .next (ptpFollowUpRxStep eth seqId origin corr s)

/-- PTP_DELAY_RESP_RX (R515). -/
def execPtpDelayRespRx (eth : Fin 2) (seqId : BitVec 16) (t4 : Ts) (corr : Int) (s : State) : Host.Outcome State Fault Refusal :=
  .next (ptpDelayRespRxStep eth seqId t4 corr s)

/-- PTP_ANNOUNCE_RX (R514). -/
def execPtpAnnounceRx (eth : Fin 2) (identity : BitVec 64) (dataset : Nat) (s : State) : Host.Outcome State Fault Refusal :=
  .next (ptpAnnounceRxStep eth identity dataset s)

/-- PTP_DELAY_REQ_RX (R514). -/
def execPtpDelayReqRx (eth : Fin 2) (seqId : BitVec 16) (raw : Ts) (s : State) : Host.Outcome State Fault Refusal :=
  .next (ptpDelayReqRxStep eth seqId raw s)

/-- ANNOUNCE_TIMEOUT (R518). -/
def execAnnounceTimeout (s : State) : Host.Outcome State Fault Refusal := .next (announceTimeoutStep s)

/-- FOLLOW_UP_TIMEOUT (R521). -/
def execFollowUpTimeout (s : State) : Host.Outcome State Fault Refusal := .next (followUpTimeoutStep s)

/-- SYNC_SEND (R519). -/
def execSyncSend (raw : Ts) (s : State) : Host.Outcome State Fault Refusal := .next (syncSendStep raw s)

/-- DELAY_REQ_SEND (R520). -/
def execDelayReqSend (raw : Ts) (s : State) : Host.Outcome State Fault Refusal := .next (delayReqSendStep raw s)

/-- ANNOUNCE_SEND (R514). -/
def execAnnounceSend (s : State) : Host.Outcome State Fault Refusal := .next (announceSendStep s)

/-- NEXT_HOP_EXPIRE (R504). -/
def execNextHopExpire (eth : Fin 2) (addr : BitVec 128) (s : State) : Host.Outcome State Fault Refusal :=
  .next (nextHopExpireStep eth addr s)

/-- REASSEMBLY_TIMEOUT (R425). -/
def execReassemblyTimeout (src : BitVec 128) (s : State) : Host.Outcome State Fault Refusal := .next (reassemblyTimeoutStep src s)

end Sys2Proof.Machine
end

