-- ==== Sys2Proof/Machine/TimeBase.lean ====
section
/-! DEFINITION. The oven-stabilised time base, REF and PPS, timestamped edges and the time-interval counter (chapter 15). -/

namespace Sys2Proof.Machine

/-! ## Oven, discipline and synthesisers (R527 to R534) -/

/-- OVEN_WARM (R527). -/
def ovenWarmStep (s : State) : State := s.put OCX_STATUS.WARM 1

/-- OVEN_COOL (R527); a measurement that runs is cold from now on (R547). -/
def ovenCoolStep (s : State) : State :=
  ({ s with tb := { s.tb with tic := { s.tb.tic with cold := true } } }).put OCX_STATUS.WARM 0

/-- OVEN_FAIL: the device continues to run (R528). -/
def ovenFailStep (s : State) : State :=
  let t := s.put OCX_STATUS.FAIL 1
  { t with light := { t.light with faults := if t.light.faults.contains .oven then t.light.faults else t.light.faults ++ [.oven] } }

/-- REF_SOURCE_LOSS (R532). -/
def refSourceLossStep (s : State) : State :=
  s.whenDo (s.get OCX_CTRL.SRC != 0) fun s =>
    let t := s.puts [(OCX_STATUS.HOLD, 1), (OCX_STATUS.DISC, 0)]
    if s.get OCX_CTRL.SRC = 1 then t.put OCX_STATUS.REF_LOS 1 else t

/-- Steering by the selected source: its value, within its range, and whether it is locked already are free values (R530, R531). -/
def State.steer (s : State) : State :=
  ((s.puts [(OCX_STATUS.HOLD, 0), (OCX_STATUS.REF_LOS, 0), (OCX_STATUS.DISC, s.freeVal % 2)]).puti OCX_EFC.EFC
    ((s.drew.freeVal % 4000001 : Nat) - (2000000 : Int))).drew 2

/-- REF_SOURCE_RESUME (R532): steering resumes. -/
def refSourceResumeStep (s : State) : State := s.whenDo (s.flag OCX_STATUS.HOLD && s.get OCX_CTRL.SRC != 0) State.steer

/-- Another source is selected; free-running, nothing steers the crystal (R530). -/
def State.steerMoved (s : State) : State :=
  if s.get OCX_CTRL.SRC = 0 then s.puts [(OCX_STATUS.HOLD, 0), (OCX_STATUS.REF_LOS, 0), (OCX_STATUS.DISC, 0), (OCX_EFC.EFC, 0)] else s.steer

/-- SYNTH_UNLOCK (R533). -/
def synthUnlockStep (s : State) : State :=
  s.whenDo (s.flag OCX_STATUS.SYN_LOCK) fun s =>
    ({ s with light := { s.light with hold := true }, tb := { s.tb with synLate := false } }).puts
      [(OCX_STATUS.SYN_LOCK, 0), (OCX_STATUS.SYN_UNLK, 1)]

/-- SYNTH_RELOCK (R534): launching resumes at the next sweep boundary. -/
def synthRelockStep (s : State) : State :=
  s.whenDo (!s.flag OCX_STATUS.SYN_LOCK) fun s => (s.put OCX_STATUS.SYN_LOCK 1).clearFault .synth

/-- SYNTH_LOCK_TIMEOUT (R534). -/
def synthLockTimeoutStep (s : State) : State :=
  s.whenDo (!s.flag OCX_STATUS.SYN_LOCK) fun s =>
    ({ s with tb := { s.tb with synLate := true } }).hwFault .synth

/-! ## PPS (R537) -/

/-- The next instant at or after now that lies OCX_PPSOUT.DELAY after a whole second of the local clock. -/
def State.nextPps (s : State) : Ts :=
  let sec : Int := 1000000000 * ns
  let d := ((s.now : Int) - s.geti OCX_PPSOUT.DELAY * 16384) % sec
  if d = 0 then s.now else ((s.now : Int) + sec - d).toNat

/-- PPS_OUT_EDGE, at that instant; omitted within the pulse in progress. -/
def ppsOutEdgeStep (s : State) : State :=
  s.whenDo (s.flag OCX_CTRL.PPS_EN && !s.power.pins.ppsOut && s.power.episode.isNone) fun s =>
    let t := s.nextPps
    let u := s.at t
    ({ u with power := { u.power with pins := { u.power.pins with ppsOut := true } } }).emit (.pps t)

/-- PPS_OUT_FALL. -/
def ppsOutFallStep (s : State) : State :=
  { s with power := { s.power with pins := { s.power.pins with ppsOut := false } } }

/-! ## Timestamped edges (R538) -/

/-- A timestamp at the resolution of 2^-8 ns. -/
def stamp (t : Ts) : Ts := t / 256 * 256

/-- Timestamp an edge of input 0 to 3 (EVT0 to EVT3) or 4 (PPS_IN); one less than 20 ns after the last is only counted. -/
def State.stampEdge (s : State) (input : Nat) (t : Ts) : State × Option Ts :=
  let e := stamp t
  match s.tb.lastEdge.getD input none with
  | some l =>
    if e < l + 20 * ns ∧ l ≤ e then (s.countSat OCX_STATUS.CLOSE_EDGES, none)
    else ({ s with tb := { s.tb with lastEdge := setAt s.tb.lastEdge input (some e) } }, some e)
  | none => ({ s with tb := { s.tb with lastEdge := setAt s.tb.lastEdge input (some e) } }, some e)

/-- The PPS_IN window takes a timestamp (R548). -/
def State.ppsWindow (s : State) (t : Ts) : State :=
  s.puts [(PPS_IN_NS.NS, nsOf t), (PPS_IN_SEC_LO.SEC_LO, secOf t), (PPS_IN_SEC_HI.SEC_HI, secOf t / 2 ^ 32), (PPS_IN_SEC_HI.FRAC, fracOf t)]

/-! ## The time-interval counter (R539 to R547) -/

/-- Change the counter. -/
def State.modTic (s : State) (f : Tic → Tic) : State := { s with tb := { s.tb with tic := f s.tb.tic } }

/-- The nearest integer of a quotient of naturals, ties to even (R542). -/
def roundEven (n d : Nat) : Nat :=
  let q := n / d
  let r := n % d
  if 2 * r < d then q else if d < 2 * r then q + 1 else q + q % 2

/-- The nearest integer of the square root of a quotient, ties to even (R542). -/
def sqrtEven (n d : Nat) : Nat :=
  let m := Nat.sqrt (4 * n / d)
  if m % 2 = 0 then m / 2
  else if m * m * d = 4 * n then m / 2 + m / 2 % 2
  else m / 2 + 1

/-- The value of an interval as a fraction: 2^-16 ns, or its frequency in µHz (R540, R542). -/
def ticValue (mode kp t : Nat) : Nat × Nat := if mode = 2 then (kp * 10 ^ 15 * 256, t) else (t * 256, 1)

/-- The sum of fractions. -/
def fracSum (l : List (Nat × Nat)) : Nat × Nat := l.foldl (fun a b => (a.1 * b.2 + b.1 * a.2, a.2 * b.2)) (0, 1)

/-- Mean, sample standard deviation, minimum and maximum of the intervals (R542). -/
def ticStats (mode kp : Nat) (l : List Nat) : Nat × Nat × Nat × Nat :=
  let v := l.map (ticValue mode kp)
  let n := l.length
  let s1 := fracSum v
  let s2 := fracSum (v.map (fun x => (x.1 * x.1, x.2 * x.2)))
  -- (s2 − s1² / n) / (n − 1)
  let num := s2.1 * (s1.2 * s1.2 * n) - s1.1 * s1.1 * s2.2
  let den := s2.2 * (s1.2 * s1.2 * n) * (n - 1)
  let r := v.map (fun x => roundEven x.1 x.2)
  (roundEven s1.1 (s1.2 * n), sqrtEven num den, r.foldl min (r.headD 0), maxN r)

/-- The prescale factor of the START input (R539). -/
def State.ticPrescale (s : State) : Nat :=
  if s.get TIC_CFG.START = 5 then (match s.get TIC_CFG.PRESC with
    | 0 => 1
    | 1 => 8
    | _ => 64) else 1

/-- A measurement starts (R544, R547). -/
def State.ticStart (s : State) (r : Nat) (seq : Option (BitVec 32)) : State :=
  (s.modTic (fun _ => { since := s.cyc, starter := some r, seq := seq, cold := s.tbCold })).puts
    [(TIC_CTRL.RUN, 1), (TIC_CTRL.COUNT, 0), (TICRES_W0.READY, 0)]

/-- Publish the set of a measurement that ends (R546, R547). -/
def State.ticEnd (s : State) (part : Bool) : State :=
  let c := s.tb.tic
  let mode := s.get TIC_CFG.MODE
  let st := if c.ints.length < 2 then (0, 0, 0, 0) else ticStats mode (s.get TIC_K.K * s.ticPrescale) c.ints
  let w (f : Nat → Fld) (v : Nat) : List (Fld × Nat) := [(f 0, v / 2 ^ 32), (f 1, v)]
  let t := (s.count TICRES_W0.SEQ).puts ([(TICRES_W0.READY, 1), (TICRES_W0.COLD, c.cold.toNat), (TICRES_W0.PARTIAL, part.toNat),
    (TICRES_W0.MODE, mode), (TICRES_W1.USED, c.ints.length), (TICRES_W10.SHORT, min c.short (2 ^ 32 - 1)), (TIC_CTRL.RUN, 0)]
    ++ w TICRES_MEAN.MEAN st.1 ++ w TICRES_SD.SD st.2.1 ++ w TICRES_MIN.MIN st.2.2.1 ++ w TICRES_MAX.MAX st.2.2.2)
  let u := t.modTic (fun _ => {})
  match c.starter, c.seq with
  | some r, some q => u.complete r q stOk
  | _, _ => u

/-- Cancel a measurement before its first edge (R545). -/
def State.ticCancel (s : State) : State := (s.modTic (fun _ => {})).put TIC_CTRL.RUN 0

/-- One interval is complete: a short one is discarded, the N-th ends the measurement (R541, R546). -/
def State.ticInterval (s : State) (t : Nat) : State :=
  if t < 20 * 256 then s.modTic (fun c => { c with short := c.short + 1 })
  else
    let u := (s.modTic (fun c => { c with ints := t :: c.ints })).count TIC_CTRL.COUNT
    if s.get TIC_N.N ≤ u.tb.tic.ints.length then u.ticEnd false else u

/-- The first counted edge is the commit point (R545). -/
def State.ticCommit (s : State) : State :=
  let t := s.modTic (fun c => { c with committed := true })
  match s.tb.tic.starter, s.tb.tic.seq with
  | some r, some q => t.commitPoint r q
  | _, _ => t

/-- TIC_EDGE: an edge of an input, after the prescaler for CLKM_IN, at a time in 2^-8 ns (R539 to R541). -/
def ticEdgeStep (input : Fin 6) (rising : Bool) (t : Nat) (s : State) : State :=
  s.whenDo (s.flag TIC_CTRL.RUN) fun s =>
    let isStart := input.val == s.get TIC_CFG.START && rising == !s.flag TIC_CFG.POL_START
    let isStop := input.val == s.get TIC_CFG.STOP && rising == !s.flag TIC_CFG.POL_STOP
    if s.get TIC_CFG.MODE = 0 then
      let closed := match s.tb.tic.start with
        | some a => if isStop && decide (a < t) then some (t - a) else none
        | none => none
      let u := match closed with
        | some d => (s.ticCommit.modTic (fun c => { c with start := none })).ticInterval d
        | none => s
      if isStart && u.flag TIC_CTRL.RUN then u.ticCommit.modTic (fun c => { c with start := some t }) else u
    else if isStart then
      let c := s.tb.tic
      match c.start with
      | none => s.ticCommit.modTic (fun c => { c with start := some t, edges := 0 })
      | some a =>
        if c.edges + 1 = s.get TIC_K.K then
          (s.modTic (fun c => { c with start := some t, edges := 0 })).ticInterval (t - a)
        else s.modTic (fun c => { c with edges := c.edges + 1 })
    else s

/-- TIC_TIMEOUT, TIMEOUT after the start: the intervals so far, PARTIAL (R546). -/
def ticTimeoutStep (s : State) : State :=
  s.whenDo (s.flag TIC_CTRL.RUN && s.get TIC_CFG.TIMEOUT != 0) fun s =>
    (s.atCyc (s.tb.tic.since + s.get TIC_CFG.TIMEOUT * sCyc)).ticEnd true

/-- TIC_START by QCP (R544). -/
def ticStartBody (q : ReqHdr) (input n : Nat) (s : State) : State :=
  if s.flag TIC_CTRL.RUN || s.longsFull q then s.reply q 0x0903 stBusy
  else if 5 < input || n < 2 || 16777216 < n then s.reply q 0x0903 stParamRange
  else s.startLong q 0x0903 input fun t =>
    ((t.put TIC_CFG.START input).put TIC_N.N n).ticStart q.session.val (some q.seq)

/-- TIC_READ (R441, R547). -/
def ticReadBody (q : ReqHdr) (s : State) : State :=
  if s.flag TICRES_W0.READY then
    s.reply q 0x0904 stOk [itSeq (s.get TICRES_W0.SEQ), itWords (s.rdWords TICRES_W0.READY.addr 11)]
  else s.reply q 0x0904 stNotReady

/-! ## Meanings -/

/-- TIC_START (R544). -/
def execTicStart (q : ReqHdr) (index count : Nat) (s : State) : Host.Outcome State Fault Refusal :=
  .next (s.request q 0x0903 (ticStartBody q index count) (operands [itIndex index, itCount count]))

/-- TIC_READ (R547). -/
def execTicRead (q : ReqHdr) (s : State) : Host.Outcome State Fault Refusal := .next (s.request q 0x0904 (ticReadBody q))

/-- OVEN_WARM (R527). -/
def execOvenWarm (s : State) : Host.Outcome State Fault Refusal := .next (ovenWarmStep s)

/-- OVEN_COOL (R527). -/
def execOvenCool (s : State) : Host.Outcome State Fault Refusal := .next (ovenCoolStep s)

/-- OVEN_FAIL (R528). -/
def execOvenFail (s : State) : Host.Outcome State Fault Refusal := .next (ovenFailStep s)

/-- REF_SOURCE_LOSS (R532). -/
def execRefSourceLoss (s : State) : Host.Outcome State Fault Refusal := .next (refSourceLossStep s)

/-- REF_SOURCE_RESUME (R532). -/
def execRefSourceResume (s : State) : Host.Outcome State Fault Refusal := .next (refSourceResumeStep s)

/-- SYNTH_UNLOCK (R533). -/
def execSynthUnlock (s : State) : Host.Outcome State Fault Refusal := .next (synthUnlockStep s)

/-- SYNTH_RELOCK (R534). -/
def execSynthRelock (s : State) : Host.Outcome State Fault Refusal := .next (synthRelockStep s)

/-- SYNTH_LOCK_TIMEOUT (R534). -/
def execSynthLockTimeout (s : State) : Host.Outcome State Fault Refusal := .next (synthLockTimeoutStep s)

/-- PPS_OUT_EDGE (R537). -/
def execPpsOutEdge (s : State) : Host.Outcome State Fault Refusal := .next (ppsOutEdgeStep s)

/-- TIC_EDGE (R540). -/
def execTicEdge (input : Fin 6) (rising : Bool) (ts : Nat) (s : State) : Host.Outcome State Fault Refusal :=
  .next (ticEdgeStep input rising ts s)

/-- TIC_TIMEOUT (R546). -/
def execTicTimeout (s : State) : Host.Outcome State Fault Refusal := .next (ticTimeoutStep s)

/-- PPS_OUT_FALL (R537). -/
def execPpsOutFall (s : State) : Host.Outcome State Fault Refusal := .next (ppsOutFallStep s)

end Sys2Proof.Machine
end

