-- ==== Sys2Proof/Machine/Ridge.lean ====
section
/-! DEFINITION. The ridge bus (chapter 16): lanes, ring frames, nodes, hop delay, ridge time, triggers and syncs on
their way, and the ridge flashing drives. Lane false is RDG_E, lane true is RDG_W. -/

namespace Sys2Proof.Machine

/-! ## Lanes (R555) -/

/-- A lane beside its registers. -/
def State.lane (s : State) (w : Bool) : Lane := if w then s.ridge.laneW else s.ridge.laneE

/-- Change a lane. -/
def State.modLane (s : State) (w : Bool) (f : Lane → Lane) : State :=
  if w then { s with ridge := { s.ridge with laneW := f s.ridge.laneW } }
  else { s with ridge := { s.ridge with laneE := f s.ridge.laneE } }

/-- The UP flag of a lane. -/
def upFld (w : Bool) : Fld := if w then RDG_STATUS.W_UP else RDG_STATUS.E_UP

/-- A lane is UP. -/
def State.laneUp (s : State) (w : Bool) : Bool := s.flag (upFld w)

/-- The bus is enabled. -/
def State.ridgeOn (s : State) : Bool := s.flag RDG_CFG.EN

/-- This node's identifier. -/
def State.nodeId (s : State) : BitVec 12 := BitVec.ofNat 12 (s.get RDG_CFG.NODE_ID)

/-- SYS_ID.SERIAL. -/
def State.serial (s : State) : Nat := s.get SYS_ID_LO.SERIAL_LO + s.get SYS_ID_HI.SERIAL_HI * 2 ^ 32

/-- WRAPPED while this node or a node of its table reports a lane DOWN; a change is an event (R556). -/
def State.updWrapped (s : State) : State :=
  let w := !s.laneUp false || !s.laneUp true || s.ridge.nodes.any (fun n => !n.eUp || !n.wUp)
  if w == s.flag RDG_STATUS.WRAPPED then s else (s.putFlag RDG_STATUS.WRAPPED w).eventAll 0x0901 0

/-- FLANE: the lane whose copies arrive with the smaller cumulative delay, RDG_E on a tie (R562). -/
def State.updFlane (s : State) : State :=
  s.putFlag RDG_STATUS.FLANE (match s.ridge.laneE.timeDelay, s.ridge.laneW.timeDelay with
    | some e, some w => decide (w < e)
    | none, some _ => true
    | _, none => false)

/-- A lane changes state; no copies of TIME arrive by one that is DOWN (R555, R562). -/
def State.setLane (s : State) (w up : Bool) : State :=
  if s.laneUp w == up then s
  else ((((s.putFlag (upFld w) up).count (RDG_CNT.DOWNS w.toNat)).modLane w (fun l => { l with badRun := 0, t1 := none, timeDelay := none })).updFlane).updWrapped

/-- BLOCK_LOCK_LOSS (R555). -/
def blockLockLossStep (w : Bool) (s : State) : State := s.setLane w false

/-- LANE_FRAME_TIMEOUT (R555). -/
def laneFrameTimeoutStep (w : Bool) (s : State) : State := s.setLane w false

/-- LANE_UP (R555). -/
def laneUpStep (w : Bool) (s : State) : State := s.whenDo s.ridgeOn fun s => s.setLane w true

/-- RIDGE_CRC_ERROR: dropped, counted; eight in a row take the lane down (R551, R555). -/
def ridgeCrcErrorStep (w : Bool) (s : State) : State :=
  let t := s.countSat (RDG_CNT.CRCERR w.toNat)
  let n := (s.lane w).badRun + 1
  let u := t.modLane w (fun l => { l with badRun := n })
  if 8 ≤ n then u.setLane w false else u

/-- A valid frame arrived on a lane: the run of bad ones ends. -/
def State.goodFrame (s : State) (w : Bool) : State := s.modLane w (fun l => { l with badRun := 0 })

/-- RIDGE_IDLE_FRAME (R552). -/
def ridgeIdleFrameStep (h : RidgeHdr) (s : State) : State := s.goodFrame h.laneW

/-! ## Sending (R551, R553) -/

/-- A frame leaves a lane that is UP. -/
def State.sendLane (s : State) (w : Bool) (f : RidgeFrame) : State :=
  if s.laneUp w then s.emit (.ridge { f with west := w }) else s

/-- The device originates a ring frame: one copy on each lane that is UP (R553). With DUPID it originates PRESENCE only
(R558). -/
def State.originate (s : State) (type : Nat) (time : Ts) (payload : List Byte) : State :=
  if !s.ridgeOn || (s.flag RDG_STATUS.DUPID && type != 3) then s
  else
    let f : RidgeFrame := { type := type, west := false, origin := s.nodeId, hops := 0, seq := s.ridge.seq, corr := 0, time := time, payload := payload }
    let t := { s with ridge := { s.ridge with seq := s.ridge.seq + 1 } }
    (t.sendLane false f).sendLane true f

/-- The 12 bytes of a time in a ridge payload. -/
def timeBytes (t : Ts) : List Byte := beBytes 6 (secOf t) ++ beBytes 4 (nsOf t) ++ beBytes 2 (fracOf t)

/-- Hop delay of a lane in 2^-16 ns, as RDG_x_HOP reports it. -/
def State.hopDelay (s : State) (w : Bool) : Nat := s.get (RDG_HOP.HOP w.toNat) * 256

/-- The next node on a lane is the origin of a frame: its path by that lane has one hop. -/
def State.nextIs (s : State) (w : Bool) (origin : BitVec 12) : Bool :=
  s.ridge.nodes.any (fun n => n.id == origin && (if w then n.viaW else n.viaE).elim false (fun p => p.1 == 1))

/-- Forward a copy in its own direction, with HOPS + 1 and the hop delay and residence added to CORR; the residence, at
most 250 ns, is a free value (R553, R554). A frame in on one lane leaves by the other. -/
def State.forward (s : State) (h : RidgeHdr) (type : Nat) (payload : List Byte) : State :=
  let out := !h.laneW
  if s.nextIs out h.origin || h.hops = 4095 then s
  else
    let res := s.freeVal % (250 * ns + 1)
    let f : RidgeFrame :=
      { type := type, west := out, origin := h.origin, hops := h.hops + 1, seq := h.seq
        corr := h.corr + s.hopDelay h.laneW + res, time := h.time, payload := payload }
    s.drew.sendLane out f

/-- A ring frame arrives: forwarded, and acted on when it is the first copy and not the device's own (R553). -/
def State.ringFrame (s : State) (h : RidgeHdr) (type : Nat) (payload : List Byte) (act : State → State) : State :=
  if !s.ridgeOn || !s.laneUp h.laneW then s
  else
    let t := s.goodFrame h.laneW
    if h.origin = s.nodeId && type != 3 then t
    else
      let u := t.forward h type payload
      let key := (h.origin, h.seq)
      if u.ridge.seen.contains key then { u with ridge := { u.ridge with seen := u.ridge.seen.filter (fun x => !(x == key)) } }
      else act { u with ridge := { u.ridge with seen := u.ridge.seen ++ [key] } }

/-! ## Nodes (R556 to R558, R567, R568, R578) -/

/-- HSHORT while H is below LATMAX + 1 µs; its rise is an event (R568). -/
def State.updHorizon (s : State) : State :=
  let short := decide (s.get RDG_HORIZON.H * 1000 < s.get RDG_LATMAX.LATMAX + 1000)
  if short && !s.flag RDG_STATUS.HSHORT then (s.put RDG_STATUS.HSHORT 1).eventAll 0x0902 0 else s.putFlag RDG_STATUS.HSHORT short

/-- NODES counts this node too. -/
def State.updNodes (s : State) : State := s.put RDG_STATUS.NODES (s.ridge.nodes.length + 1)

/-- The registers of a node's entry: present, the lane of the smaller delay (RDG_E on a tie), its hops and delay (R578). -/
def State.nodeEntry (s : State) (n : RidgeNode) : State :=
  let best : Bool × Nat × Nat := match n.viaE, n.viaW with
    | some e, some w => if w.2 < e.2 then (true, w) else (false, e)
    | some e, none => (false, e)
    | none, some w => (true, w)
    | none, none => (false, 0, 0)
  let id := n.id.toNat
  s.puts [(RDG_NODE_W0.PRESENT id, 1), (RDG_NODE_W0.VIA id, best.1.toNat), (RDG_NODE_W0.HOPS id, best.2.1),
    (RDG_NODE_W1.DELAY id, best.2.2 / ns)]

/-- What one copy of a node's PRESENCE tells of the path by its lane (R553, R554, R562). -/
def State.learnPath (s : State) (h : RidgeHdr) (serial : BitVec 48) (eUp wUp : Bool) : State :=
  let path := some (h.hops.toNat + 1, h.corr + s.hopDelay h.laneW)
  let old := (s.ridge.nodes.find? (fun n => n.id == h.origin)).getD { id := h.origin, serial := serial }
  let new := if h.laneW then { old with viaW := path, serial := serial, eUp := eUp, wUp := wUp }
    else { old with viaE := path, serial := serial, eUp := eUp, wUp := wUp }
  let t := { s with ridge := { s.ridge with nodes := s.ridge.nodes.filter (fun (n : RidgeNode) => !(n.id == h.origin)) ++ [new] } }
  (t.nodeEntry new).updNodes

/-- PRESENCE (R556 to R558, R567, R568): the device's own frame measures the ring, another node with its identifier is a
duplicate, and any other node enters the table. -/
def presenceStep (h : RidgeHdr) (serial : BitVec 48) (eUp wUp : Bool) (s : State) : State :=
  let payload := beBytes 6 serial.toNat ++ [BitVec.ofNat 8 (eUp.toNat * 2 + wUp.toNat)]
  if h.origin = s.nodeId && serial.toNat = s.serial then
    s.whenDo (s.ridgeOn && s.laneUp h.laneW) fun s =>
      let t := s.goodFrame h.laneW
      (if t.flag RDG_STATUS.WRAPPED then t else t.put RDG_LATMAX.LATMAX (h.corr / ns)).updHorizon
  else
    (s.ringFrame h 3 payload fun s =>
      if h.origin = s.nodeId then
        if serial.toNat < s.serial && !s.flag RDG_STATUS.DUPID then (s.put RDG_STATUS.DUPID 1).eventAll 0x0903 0 else s
      else s).whenDo (s.ridgeOn && s.laneUp h.laneW && !(h.origin == s.nodeId)) fun s =>
        (s.learnPath h serial eUp wUp).updWrapped

/-- NODE_EXPIRE (R557). -/
def nodeExpireStep (node : BitVec 12) (s : State) : State :=
  s.whenDo (s.ridge.nodes.any (fun n => n.id == node)) fun s =>
    let t := { s with ridge := { s.ridge with nodes := s.ridge.nodes.filter (fun (n : RidgeNode) => !(n.id == node)) } }
    ((t.puts [(RDG_NODE_W0.PRESENT node.toNat, 0), (RDG_NODE_W0.VIA node.toNat, 0), (RDG_NODE_W0.HOPS node.toNat, 0),
      (RDG_NODE_W1.DELAY node.toNat, 0)]).updNodes).updWrapped

/-- PRESENCE_SEND (R557): the serial and the lane states. -/
def presenceSendStep (s : State) : State :=
  s.originate 3 s.now (beBytes 6 s.serial ++ [BitVec.ofNat 8 ((s.laneUp false).toNat * 2 + (s.laneUp true).toNat)])

/-! ## Hop delay (R559) -/

/-- A hop frame leaves a lane. -/
def State.sendHop (s : State) (w : Bool) (type : Nat) (time : Ts) (payload : List Byte) : State :=
  s.sendLane w { type := type, west := w, origin := s.nodeId, hops := 0, seq := 0, corr := 0, time := time, payload := payload }

/-- DLY_REQ_SEND (R559). -/
def dlyReqSendStep (s : State) : State :=
  s.whenDo s.ridgeOn fun s =>
    let one (t : State) (w : Bool) : State :=
      if t.laneUp w then (t.modLane w (fun l => { l with t1 := some t.now })).sendHop w 1 t.now [] else t
    one (one s false) true

/-- DLY_REQ: answered on the lane it came by (R552, R559). -/
def dlyReqStep (h : RidgeHdr) (s : State) : State :=
  s.whenDo (s.ridgeOn && s.laneUp h.laneW) fun s =>
    (s.goodFrame h.laneW).sendHop h.laneW 2 s.now (timeBytes h.time ++ timeBytes h.arrival)

/-- DLY_RSP: the hop delay ((t4 − t1) − (t3 − t2)) / 2 + ASYM / 2, and the mean of the last 16 (R559). -/
def dlyRspStep (h : RidgeHdr) (t1 t2 : Ts) (s : State) : State :=
  s.whenDo (s.ridgeOn && s.laneUp h.laneW && (s.lane h.laneW).t1 == some t1) fun s =>
    let twice : Int := ((h.arrival : Int) - t1) - ((h.time : Int) - t2) + s.geti (RDG_ASYM.ASYM h.laneW.toNat) * 256
    let l := (twice :: (s.lane h.laneW).hops).take 16
    let t := (s.goodFrame h.laneW).modLane h.laneW (fun x => { x with hops := l, t1 := none })
    t.puti (RDG_HOP.HOP h.laneW.toNat) (divRound (sumI l) (l.length * 512))

/-! ## Ridge time (R561 to R563) -/

/-- TIME_SEND (R561). -/
def timeSendStep (s : State) : State :=
  s.whenDo (s.flag RDG_CFG.TMASTER && !s.ridge.yielded) fun s => s.originate 4 s.now []

/-- One offset of ridge time in 2^-16 ns (R562, R563). -/
def State.ridgeOffset (s : State) (off : Int) : State :=
  if 1000 * ns < off.natAbs then s.stepBy (-off)
  else
    let good := if off.natAbs < 50 * ns then min 16 (s.ridge.good + 1) else 0
    let t := { s with ridge := { s.ridge with good := good } }
    let t := if good = 16 then t.put RDG_STATUS.LOCKED 1 else t
    t.piAdjust 1 off (t.flag RDG_STATUS.LOCKED)

/-- TIME (R561 to R563): a master that hears a lower identifier yields; a node that takes ridge time uses the copies of
lane FLANE. -/
def timeFrameStep (h : RidgeHdr) (s : State) : State :=
  let t := s.ringFrame h 4 [] fun s =>
    if s.flag RDG_CFG.TMASTER && !s.ridge.yielded && decide (h.origin < s.nodeId) then
      ({ s with ridge := { s.ridge with yielded := true } }).eventAll 0x0903 0
    else s
  t.whenDo (s.ridgeOn && s.laneUp h.laneW && !(h.origin == s.nodeId)) fun t =>
    let d := h.corr + t.hopDelay h.laneW
    let u := (t.modLane h.laneW (fun l => { l with timeDelay := some d })).updFlane
    if u.get PTP_CFG.SRC = 2 && u.flag RDG_STATUS.FLANE == h.laneW then
      u.ridgeOffset ((h.arrival : Int) - (h.time + d : Nat))
    else u

/-- RIDGE_TIME_LOSS (R563). -/
def ridgeTimeLossStep (s : State) : State :=
  let t := ({ s with ridge := { s.ridge with good := 0 } }).put RDG_STATUS.LOCKED 0
  if s.get PTP_CFG.SRC = 2 then t.holdFadj else t

/-! ## Triggers and syncs on their way (R566, R569) -/

/-- The device originates a TRIGGER and schedules its own execution (R291, R566). -/
def State.sendRidgeTrigger (s : State) (origin tref : Ts) (id : Nat) : State :=
  let h := s.get RDG_HORIZON.H
  let t := s.originate 5 origin (timeBytes tref ++ beBytes 1 id ++ beBytes 3 0 ++ beBytes 4 h)
  { t with ridge := { t.ridge with trigs := t.ridge.trigs ++
    [{ execAt := origin + h * 1000 * ns, tref := tref, id := BitVec.ofNat 8 id, origin := s.nodeId, seq := s.ridge.seq, late := false }] } }

/-- RDG_SYNC.SEND: a SYNC frame with execution time now + H, taken by the originator too (R569). -/
def State.sendRidgeSync (s : State) : State :=
  let at_ := s.now + s.get RDG_HORIZON.H * 1000 * ns
  let t := s.originate 6 at_ (beBytes 1 (s.get RDG_SYNC.GROUP))
  if s.get PAT_CTRL.SWAP_SRC = 2 then { t with ridge := { t.ridge with syncs := t.ridge.syncs ++ [at_] } } else t

/-- SYNC_FRAME: taken where the swap source is the ridge and the group is the node's (R569). -/
def syncFrameStep (h : RidgeHdr) (group : BitVec 8) (s : State) : State :=
  s.ringFrame h 6 (beBytes 1 group.toNat) fun s =>
    if s.get PAT_CTRL.SWAP_SRC = 2 && s.get RDG_SYNC.GROUP = group.toNat then
      { s with ridge := { s.ridge with syncs := s.ridge.syncs ++ [h.time] } }
    else s

/-! ## Ridge flashing drives (R574 to R576) -/

/-- BYPASS_TIMER_EXPIRE (R574). -/
def bypassTimerExpireStep (s : State) : State := s.put RDG_STATUS.INS 0

/-- BYPASS_ENERGIZE (R575). -/
def bypassEnergizeStep (s : State) : State :=
  s.whenDo (s.flag RDG_FLASH.BYP_EN && !s.flag RDG_STATUS.INS && s.laneUp false && s.laneUp true && s.power.episode.isNone)
    fun s => s.put RDG_STATUS.INS 1

/-- BYPASS_RELEASE (R576). -/
def bypassReleaseStep (s : State) : State :=
  s.whenDo (s.flag RDG_STATUS.INS && (!s.laneUp false || !s.laneUp true)) fun s => s.put RDG_STATUS.INS 0

/-! ## Meanings -/

/-- RIDGE_IDLE_FRAME (R552). -/
def execRidgeIdleFrame (h : RidgeHdr) (s : State) : Host.Outcome State Fault Refusal := .next (ridgeIdleFrameStep h s)

/-- DLY_REQ (R559). -/
def execDlyReq (h : RidgeHdr) (s : State) : Host.Outcome State Fault Refusal := .next (dlyReqStep h s)

/-- DLY_RSP (R559). -/
def execDlyRsp (h : RidgeHdr) (t1 t2 : Ts) (s : State) : Host.Outcome State Fault Refusal := .next (dlyRspStep h t1 t2 s)

/-- PRESENCE (R557). -/
def execPresence (h : RidgeHdr) (serial : BitVec 48) (eUp wUp : Bool) (s : State) : Host.Outcome State Fault Refusal :=
  .next (presenceStep h serial eUp wUp s)

/-- TIME_FRAME (R562). -/
def execTimeFrame (h : RidgeHdr) (s : State) : Host.Outcome State Fault Refusal := .next (timeFrameStep h s)

/-- SYNC_FRAME (R569). -/
def execSyncFrame (h : RidgeHdr) (group : BitVec 8) (s : State) : Host.Outcome State Fault Refusal :=
  .next (syncFrameStep h group s)

/-- RIDGE_CRC_ERROR (R551). -/
def execRidgeCrcError (laneW : Bool) (s : State) : Host.Outcome State Fault Refusal := .next (ridgeCrcErrorStep laneW s)

/-- PRESENCE_SEND (R557). -/
def execPresenceSend (s : State) : Host.Outcome State Fault Refusal := .next (presenceSendStep s)

/-- DLY_REQ_SEND (R559). -/
def execDlyReqSend (s : State) : Host.Outcome State Fault Refusal := .next (dlyReqSendStep s)

/-- TIME_SEND (R561). -/
def execTimeSend (s : State) : Host.Outcome State Fault Refusal := .next (timeSendStep s)

/-- BLOCK_LOCK_LOSS (R555). -/
def execBlockLockLoss (laneW : Bool) (s : State) : Host.Outcome State Fault Refusal := .next (blockLockLossStep laneW s)

/-- LANE_FRAME_TIMEOUT (R555). -/
def execLaneFrameTimeout (laneW : Bool) (s : State) : Host.Outcome State Fault Refusal := .next (laneFrameTimeoutStep laneW s)

/-- LANE_UP (R555). -/
def execLaneUp (laneW : Bool) (s : State) : Host.Outcome State Fault Refusal := .next (laneUpStep laneW s)

/-- NODE_EXPIRE (R557). -/
def execNodeExpire (node : BitVec 12) (s : State) : Host.Outcome State Fault Refusal := .next (nodeExpireStep node s)

/-- RIDGE_TIME_LOSS (R563). -/
def execRidgeTimeLoss (s : State) : Host.Outcome State Fault Refusal := .next (ridgeTimeLossStep s)

/-- BYPASS_TIMER_EXPIRE (R574). -/
def execBypassTimerExpire (s : State) : Host.Outcome State Fault Refusal := .next (bypassTimerExpireStep s)

/-- BYPASS_ENERGIZE (R575). -/
def execBypassEnergize (s : State) : Host.Outcome State Fault Refusal := .next (bypassEnergizeStep s)

/-- BYPASS_RELEASE (R576). -/
def execBypassRelease (s : State) : Host.Outcome State Fault Refusal := .next (bypassReleaseStep s)

end Sys2Proof.Machine
end

