-- ==== Sys2Proof/Machine/Streams.lean ====
section
/-! DEFINITION. Chainage (R183, R188), streams, battens and their coders, delivery and re-send (chapter 11), the quotas
streams count against (R467, R474, R478), and the filter settings they share with decimation (R204, R215). -/

namespace Sys2Proof.Machine

/-! ## Positions and chainage (R183, R188, R202, R244) -/

/-- Position of a phase-chain channel of a port in half bins (R183). -/
def State.chPos2 (s : State) (p c : Nat) : Nat :=
  2 * (s.get (PHS_FIRST.FIRST p) + c * s.get (PHS_GAUGE.S p)) + s.get (PHS_GAUGE.G p)

/-- Centre of a Brillouin bin of a port in half bins (R244). -/
def State.bbPos2 (s : State) (p b : Nat) : Nat :=
  2 * (s.get (BRL_FIRST.BFIRST p) + b * s.get (BRL_CFG.M p)) + (s.get (BRL_CFG.M p) - 1)

/-- Valid entries of the chainage map of a port (R188, R202). -/
def State.chainLen (s : State) (p : Nat) : Nat :=
  ((List.range 64).find? (fun i => !s.flag (PHS_CHAIN_W0.VALID p i))).getD 64

/-- The segment that holds a position in half bins. -/
def State.chainSeg (s : State) (p pos2 : Nat) : Nat :=
  (List.range (s.chainLen p)).foldl (fun best i => if 2 * s.get (PHS_CHAIN_W0.START p i) ≤ pos2 then i else best) 0

/-- Denominator of an exact chainage: 2^16 × 40 × n_g in 10^-5. -/
def State.chainDen (s : State) (p : Nat) : Nat := 65536 * 40 * s.get (PHS_NG.NG p)

/-- Exact chainage of a position in half bins, in mm over `chainDen` (R188): L_bin is c × P / (2 n_g). -/
def State.chainNum (s : State) (p pos2 : Nat) : Int :=
  let lbin : Int := 299792458 * s.binNs (portOf p)
  if s.chainLen p = 0 then 65536 * (pos2 : Int) * lbin
  else
    let i := s.chainSeg p pos2
    signed 32 (s.get (PHS_CHAIN_W1.CH0 p i)) * s.chainDen p
      + signed 32 (s.get (PHS_CHAIN_W2.SCALE p i)) * ((pos2 : Int) - 2 * s.get (PHS_CHAIN_W0.START p i)) * lbin

/-- Chainage in mm. -/
def State.chainage (s : State) (p pos2 : Nat) : Int :=
  if s.get (PHS_NG.NG p) = 0 then 0 else divRound (s.chainNum p pos2) (s.chainDen p)

/-- A segment begins between two positions (R384 SEGX). -/
def State.segBetween (s : State) (p a b : Nat) : Bool :=
  (List.range (s.chainLen p)).any (fun i => decide (a < 2 * s.get (PHS_CHAIN_W0.START p i)) && decide (2 * s.get (PHS_CHAIN_W0.START p i) ≤ b))

/-! ## Filter settings (R204, R215, R227) -/

/-- R, H and F of a stream as committed (R204). -/
def State.cicR (s : State) (n : Nat) : Nat := s.get (DEC_CFG.CIC_R n) + 1
def State.hbH (s : State) (n : Nat) : Nat := (if s.flag (DEC_CFG.HB1 n) then 2 else 1) * (if s.flag (DEC_CFG.HB2 n) then 2 else 1)
def State.firF (s : State) (n : Nat) : Nat := s.get (DEC_CFG.FDEC n) + 1

/-- Total factor D of a stream (R204). -/
def State.decD (s : State) (n : Nat) : Nat := s.cicR n * s.hbH n * s.firF n

/-- Decimation ahead of a tap (R233, R327): a disabled half-band passes its input unchanged. -/
def State.tapD (s : State) (n tap : Nat) : Nat :=
  match tap with
  | 0 => 1
  | 1 => s.cicR n
  | 2 => s.cicR n * (if s.flag (DEC_CFG.HB1 n) then 2 else 1)
  | 3 => s.cicR n * s.hbH n
  | _ => s.decD n

/-! ## Filters and feeds in force (R203, R204, R215, R227, R233, R324) -/

def State.filt (s : State) (n : Nat) : StreamFilter := s.dec.f.getD n {}
def State.modFilt (s : State) (n : Nat) (f : StreamFilter → StreamFilter) : State := { s with dec := { s.dec with f := updAt s.dec.f n f } }

/-- H and D of a filter. -/
def StreamFilter.h (f : StreamFilter) : Nat := (if f.hb1 then 2 else 1) * (if f.hb2 then 2 else 1)
def StreamFilter.d (f : StreamFilter) : Nat := f.r * f.h * f.fdec

/-- R of the CIC: D in the fall-back path (R227). -/
def StreamFilter.cic (f : StreamFilter) : Nat := if f.fallback then f.d else f.r

/-- L_total (R215, R227). -/
def StreamFilter.ltotal (f : StreamFilter) : Nat :=
  if f.fallback then 4 * f.d - 3
  else 4 * f.r - 3 + (if f.hb1 then 22 * f.r else 0) + (if f.hb2 then 92 * f.r else 0) + (f.taps - 1) * f.r * f.h

/-- The span up to a tap's stage (R233). -/
def StreamFilter.ltap (f : StreamFilter) (tap : Nat) : Nat :=
  match tap with
  | 0 => 1
  | 1 => 4 * f.r - 3
  | 2 => 4 * f.r - 3 + (if f.hb1 then 22 * f.r else 0)
  | 3 => 4 * f.r - 3 + (if f.hb1 then 22 * f.r else 0) + (if f.hb2 then 92 * f.r else 0)
  | _ => f.ltotal

/-- Decimation of a filter ahead of a tap (R233, R327). -/
def StreamFilter.tapDec (f : StreamFilter) (tap : Nat) : Nat :=
  match tap with
  | 0 => 1
  | 1 => f.r
  | 2 => f.r * (if f.hb1 then 2 else 1)
  | 3 => f.r * f.h
  | _ => f.d

/-- Coefficient h[i] of a stream's window (R235). -/
def State.coefAt (s : State) (n i : Nat) : Int := signed 20 ((s.rd (0x078000 + 256 * n + 4 * i)).toNat)

/-- A stream's filter with the committed settings, not yet running. -/
def State.filterOf (s : State) (n : Nat) (fallback : Bool) : StreamFilter :=
  let t := s.get (DEC_CFG.TAPS n)
  { r := s.cicR n, hb1 := s.flag (DEC_CFG.HB1 n), hb2 := s.flag (DEC_CFG.HB2 n), fdec := s.firF n, taps := t
    coef := (List.range ((t + 1) / 2)).map (s.coefAt n), qty := s.get (DEC_CFG.QTY n), fmt := s.flag (DEC_CFG.FMT n), fallback := fallback
    first := s.get (STR_W1.CH_FIRST n), nch := s.get (STR_W2.N_CH n) }

/-- The committed settings of a stream, in the fall-back path where it is configured or placed there (R227). -/
def State.filterNow (s : State) (n : Nat) : StreamFilter := s.filterOf n (s.flag (DEC_CFG.FB_CFG n) || s.flag (DEC_STAT.FB_AUTO n))

def State.rslot (s : State) (o : Nat) : RSlot := s.reed.slots.getD o {}
def State.modRslot (s : State) (o : Nat) (f : RSlot → RSlot) : State := { s with reed := { s.reed with slots := updAt s.reed.slots o f } }

/-- 0 EMPTY, 1 LOADED, 2 RUNNING, 3 FAULTED. -/
def State.slotState (s : State) (o : Nat) : Nat := s.get (REEDS_W0.STATE o)

/-- The feed of a slot as committed. -/
def State.regFeed (s : State) (o : Nat) : Feed :=
  { stream := s.get (REEDS_W1.STREAM o), tap := s.get (REEDS_W1.TAP o), shift := s.get (REEDS_W1.SHIFT o), inc := s.flag (REEDS_W1.INC o)
    chFirst := s.get (REEDS_W2.CH_FIRST o), nch := s.get (REEDS_W3.N_CH o) }

/-- The feed in force: that of its last start while a slot is RUNNING (R350). -/
def State.feedOf (s : State) (o : Nat) : Feed := if s.slotState o = 2 then (s.rslot o).feed else s.regFeed o

/-! ## Stream settings -/

def State.strKind (s : State) (n : Nat) : Nat := s.get (STR_W0.KIND n)
def State.strState (s : State) (n : Nat) : Nat := s.get (STR_W15.STATE n)
def State.strPort (s : State) (n : Nat) : Nat := s.get (STR_W0.PORT n)

/-- The owner of a stream (R376). -/
def State.strOwner (s : State) (n : Nat) : Option Nat := (s.qcp.streamOwner.getD n none).map (·.val)

/-- Raise an event to a stream's owner. -/
def State.eventStream (s : State) (n code : Nat) : State :=
  match s.strOwner n with
  | some r => s.event r code n
  | none => s

/-- Channels of a block: 64 or 256 (R378). -/
def State.ncb (s : State) (n : Nat) : Nat := if s.get (STR_W0.GEOM n) / 2 = 1 then 256 else 64

/-- Outputs of a period (R378). -/
def State.nsamp (s : State) (n : Nat) : Nat :=
  if s.strKind n = 1 then 1 else if s.strKind n = 3 then 256 else if s.get (STR_W0.GEOM n) % 2 = 1 then 64 else 16

/-- The anchor that applies to a stream (R269). -/
def State.anchorOf (s : State) (n : Nat) : Option Nat :=
  (List.range 4).find? (fun a => s.flag (BRL_ANCH.EN a) && s.get (BRL_ANCH.SRC a) == n)

/-- The reed slot whose output a stream of KIND 2 carries. -/
def State.strSlot (s : State) (n : Nat) : Nat := s.get (STR_W3.SRC n)

/-- Port and position in half bins of a stream channel (R183, R244, R337). -/
def State.strPos (s : State) (n c : Nat) : Nat × Nat :=
  match s.strKind n with
  | 1 => (s.strPort n, s.bbPos2 (s.strPort n) c)
  | 2 =>
    let src := s.get (REEDS_W1.STREAM (s.strSlot n))
    (s.strPort src, s.chPos2 (s.strPort src) (s.get (STR_W1.CH_FIRST src) + s.get (REEDS_W2.CH_FIRST (s.strSlot n)) + c))
  | _ => (s.strPort n, s.chPos2 (s.strPort n) c)

/-- Tap decimation of a slot's feed, BLOCK and OUT_N: what its output indices follow (R327, R337, R377). -/
def State.slotBasis (s : State) (o : Nat) : Nat × Nat × Nat :=
  (max 1 ((s.filt (s.feedOf o).stream).tapDec (s.feedOf o).tap), s.get (REEDS_W6.BLOCK o), s.get (REEDS_W6.OUT_N o))

/-- The first output index at or after a shot, with a tap's decimation, BLOCK and OUT_N (R337, R377). -/
def reedIndex (d b k s0 : Nat) : Nat :=
  let i := (s0 + d - 1) / max 1 d
  let b := max 1 b
  i / b * k + ((List.range k).filter (fun j => decide ((j + 1) * b / max 1 k ≤ i % b))).length

/-- The first output index of a stream of phase-chain channels or of a reed at or after a shot (R214, R337, R377). -/
def State.firstIndex (s : State) (n s0 : Nat) : Nat :=
  if s.strKind n = 2 then
    let x := s.slotBasis (s.strSlot n)
    reedIndex x.1 x.2.1 x.2.2 s0
  else
    let d := max 1 (s.filt n).d
    (s0 + d - 1) / d

/-- The stream's own state. -/
def State.str (s : State) (n : Nat) : StreamSt := s.strm.st.getD n {}
def State.modStr (s : State) (n : Nat) (f : StreamSt → StreamSt) : State :=
  { s with strm := { s.strm with st := updAt s.strm.st n f } }

/-! ## Admitted rate and quotas (R398, R467, R470, R474) -/

/-- Bytes of a row of the payload when full (R388, R391, R398). -/
def State.rowBytes (s : State) (n : Nat) : Nat :=
  match s.strKind n with
  | 1 => 16
  | 3 => 0
  | _ =>
    if s.flag (CMP_CFG.LOSSY n) then 4 + 4 * (((s.nsamp n - 1) * s.get (CMP_CFG.M n) + 31) / 32) else 4 * s.nsamp n

/-- Size of a full batten of some channels, every block raw, no spans (R398). -/
def State.fullBatten (s : State) (n c : Nat) : Nat :=
  let body := if s.strKind n = 3 then 256 * 32 else 4 * c + c * s.rowBytes n
  64 + 8 * ((body + 65535) / 65536) + body + 4

/-- Bytes of a fragment at most (R402). -/
def State.fragMax (s : State) (n : Nat) : Nat :=
  s.get (STR_PORT.MTU (s.get (STR_W0.DEST n))) - (if s.flag (STR_W0.IPV6 n) then 40 else 20) - 24

/-- Destination address of a stream. -/
def State.strDaddr (s : State) (n : Nat) : BitVec 128 :=
  BitVec.ofNat 128 ((List.range 4).foldl (fun a i => a * 2 ^ 32 + s.get (STR_DADDR.DADDR n i)) 0)

/-- How the datagrams of a stream's battens are addressed now (R376, R402, R403). -/
def State.udpDest (s : State) (n : Nat) : UdpDest :=
  { v6 := s.flag (STR_W0.IPV6 n), daddr := s.strDaddr n, sport := s.get (STR_W8.SPORT n), dport := s.get (STR_W8.DPORT n)
    dscp := s.get (STR_W9.DSCP n), fragMax := s.fragMax n }

/-- Bytes on the wire of a full batten: UDP adds 82 or 102 B a frame (R398). -/
def State.wireBatten (s : State) (n c : Nat) (overhead : Bool) : Nat :=
  let b := s.fullBatten n c
  if !overhead || 2 ≤ s.get (STR_W0.DEST n) then b
  else
    let fm := s.fragMax n
    b + (if fm = 0 then 0 else (b + fm - 1) / fm) * (if s.flag (STR_W0.IPV6 n) then 102 else 82)

/-- Bytes of one period (R398). -/
def State.periodBytes (s : State) (n : Nat) (overhead : Bool) : Nat :=
  let c := s.get (STR_W2.N_CH n)
  if s.strKind n = 3 then s.wireBatten n 0 overhead
  else
    let k := s.ncb n
    c / k * s.wireBatten n k overhead + (if c % k = 0 then 0 else s.wireBatten n (c % k) overhead)

/-- Periods per second as a fraction (R337, R398). -/
def State.periodRate (s : State) (n : Nat) : Nat × Nat :=
  let shot (d : Nat) : Nat × Nat := (s.get PAT_SWEEP.N_SLOT * 1000000000, s.get PAT_SWEEP.TSW * 5 * d)
  match s.strKind n with
  | 0 => let f := shot (s.decD n); (f.1, f.2 * s.nsamp n)
  | 1 => (1, s.get BRL_CTRL.AVG)
  | 2 =>
    let o := s.strSlot n
    let f := shot (s.tapD (s.get (REEDS_W1.STREAM o)) (s.get (REEDS_W1.TAP o)))
    (f.1 * s.get (REEDS_W6.OUT_N o), f.2 * s.get (REEDS_W6.BLOCK o) * s.nsamp n)
  | _ => (256, 1)

/-- B_max of a stream in bytes a second, as a fraction (R398). -/
def State.bmax (s : State) (n : Nat) (overhead : Bool := true) : Nat × Nat :=
  let r := s.periodRate n
  if r.2 = 0 then (0, 1) else (s.periodBytes n overhead * r.1, r.2)

/-- A sum of B_max over some streams. -/
def State.bmaxSum (s : State) (l : List Nat) : Nat × Nat := fracSum (l.map (fun n => s.bmax n))

/-! ## The configuration that the sets handed over will leave (R376, R471, R480) -/

/-- A word with its RW bits taken from another; a window word whole. -/
def mergeWord (off : Nat) (old w : Word) : Word :=
  match rowAt off with
  | some row => (old &&& ~~~(BitVec.ofNat 32 row.rw)) ||| (w &&& BitVec.ofNat 32 row.rw)
  | none => w

/-- The settings of a set's words, in whatever window they lie. -/
def State.mergeWords (s : State) (l : List (Nat × Word)) : State :=
  l.foldl (fun (t : State) e => t.wr e.1 (mergeWord e.1 (t.rd e.1) e.2)) s

/-- Owners of the streams after a set: the session whose COMMIT enables one (R376). -/
def State.claimStr (s : State) (r : Fin 8) : State :=
  { s with qcp := { s.qcp with streamOwner := s.qcp.streamOwner.zipIdx.map (fun (e : Option (Fin 8) × Nat) =>
    if s.flag (STR_W0.EN e.2) then e.1.orElse (fun _ => some r) else none) } }

/-- DMC_POOL follows the sizes in force (R699, R700). -/
def State.updPool (s : State) : State := s.put DMC_POOL.POOL (s.dramCap - 1088 - s.get STR_RETSZ.SIZE - s.get TRG_HISTSZ.SIZE)

/-- Settings, stream owners and pool as the sets already handed over leave them: what a quota check counts with (R471). -/
def State.handedOver (s : State) : State :=
  s.handedSets.foldl (fun (t : State) x => ((t.mergeWords x.words).claimStr x.session).updPool) s

/-- Enabled streams of a session that are not suspended (R467). -/
def State.runningOf (s : State) (r : Nat) : List Nat :=
  (List.range 64).filter (fun n => s.flag (STR_W0.EN n) && s.strState n != 2 && s.strOwner n == some r)

/-- The capture allocation of a session in MiB: a following quota is the pool in force (R467, R469). -/
def State.capQuota (s : State) (r : Nat) : Nat :=
  match (s.sess r).quotas.capture with
  | some q => q
  | none => s.get DMC_POOL.POOL

/-- Owner of a capture unit. -/
def State.capOwner (s : State) (c : Nat) : Option Nat := (s.qcp.capOwner.getD c none).map (·.val)

/-- Bytes of a session's capture regions (R467). -/
def State.capUse (s : State) (r : Nat) : Nat :=
  sumN ((List.range 16).map (fun c => if s.get (CAPU_W0.STATE c) != 0 && s.capOwner c == some r then (s.trg.caps.getD c {}).region else 0))

/-- Reed slots of a session that are not EMPTY (R467). -/
def State.reedUse (s : State) (r : Nat) : Nat :=
  ((List.range 16).filter (fun o => s.get (REEDS_W0.STATE o) != 0 && s.get (REEDS_W0.OWNER o) == r)).length

/-- Both stream quotas hold for a set of streams of a session. -/
def State.streamsFit (s : State) (r : Nat) (l : List Nat) : Bool :=
  let b := s.bmaxSum l
  let q := (s.sess r).quotas
  decide (l.length ≤ q.streams) && decide (b.1 * 8 ≤ q.bandwidth * 1000000 * b.2)

/-- Some use of a session exceeds its quota (R472, R477). -/
def State.overdrawn (s : State) (r : Nat) : Bool :=
  !s.streamsFit r (s.runningOf r) || decide (s.capQuota r * 2 ^ 20 < s.capUse r) || decide ((s.sess r).quotas.reed < s.reedUse r)

/-- SYS_SESS.OVERDRAWN follows the quotas and the uses after every set handed over (R471, R472, R477). -/
def State.updOverdrawn (s : State) : State :=
  s.put SYS_SESS.OVERDRAWN (sumN ((List.range 8).map (fun r => (s.handedOver.overdrawn r).toNat * 2 ^ r)))

/-- A session is OVERDRAWN. -/
def State.isOverdrawn (s : State) (r : Nat) : Bool := s.get SYS_SESS.OVERDRAWN / 2 ^ r % 2 == 1

/-! ## Coders (R390 to R396) -/

/-- The nearest integer of a quotient, ties to even. -/
def roundEvenI (num : Int) (den : Nat) : Int :=
  let q := num / (den : Int)
  let r := num % (den : Int)
  if 2 * r < den then q else if (den : Int) < 2 * r then q + 1 else if q % 2 = 0 then q else q + 1

/-- The differences of a row from its first value, modulo 2^32 as two's complement (R391 step 2). -/
def rowDiffs (v : List Word) : List Int := (v.drop 1).map (fun x => (x - v.headD 0).toInt)

/-- A quantised difference (R391 step 3). -/
def lossyQ (m e : Nat) (r : Int) : Int := roundEvenI r (2 ^ (e - m))

/-- The row exponent: the least e from m to 33 for which every q lies in m bits (R391 step 3). -/
def lossyE (m : Nat) (rs : List Int) : Nat :=
  (((List.range (34 - m)).map (m + ·)).find? (fun e => rs.all (fun r =>
    decide (-(2 ^ (m - 1) : Int) ≤ lossyQ m e r) && decide (lossyQ m e r ≤ 2 ^ (m - 1) - 1)))).getD 33

/-- Values packed in m bits each, most significant bit first, padded to 32 bits (R391 step 4). -/
def packBits (m : Nat) (q : List Int) : List Byte :=
  let bits := m * q.length
  let words := (bits + 31) / 32
  beBytes (4 * words) (q.foldl (fun a x => a * 2 ^ m + pattern m x) 0 * 2 ^ (words * 32 - bits))

/-- A row of the payload, and its row exponent (R388, R391). -/
def codeRow (lossy : Bool) (m : Nat) (v : List Word) : List Byte × Nat :=
  if lossy then
    let rs := rowDiffs v
    let e := lossyE m rs
    (wordBytes (v.headD 0) ++ packBits m (rs.map (lossyQ m e)), e)
  else (v.flatMap wordBytes, 0)

/-! ## Battens (R378 to R389) -/

/-- Flag spans of one channel: maximal runs of one code other than GOOD, as (first, length, code) (R387). -/
def spansOf : Nat → List Qual → List (Nat × Nat × Qual)
  | _, [] => []
  | i, q :: t =>
    let rest := spansOf (i + 1) t
    if q = .good then rest
    else match rest with
      | (f, l, c) :: r => if f = i + 1 && c == q then (i, l + 1, q) :: r else (i, 1, q) :: rest
      | [] => [(i, 1, q)]

/-- What a header says beside the stream's settings. -/
structure BHead where
  type : Nat
  qty : Nat := 0
  fmt : Bool := false
  resent : Bool := false
  first : Bool
  bank : Bool
  segx : Bool := false
  lossy : Bool := false
  ncbB : Nat
  seq : BitVec 32
  epoch : BitVec 32
  eidx : Nat := 0
  nsampB : Nat
  nspan : Nat := 0
  oidx : Nat
  ts : Int
  w10 : Nat
  chDt : Nat
  period : Nat
  chain0 : Int := 0
  chain1 : Int := 0
  len : Nat

/-- The 16 words of a header (R384). -/
def State.header (s : State) (n : Nat) (h : BHead) : List Byte :=
  let sec := (h.ts / 1000000000) % (2 ^ 48 : Nat)
  let w1 := n * 2 ^ 26 + s.strPort n * 2 ^ 25 + h.bank.toNat * 2 ^ 24 + s.get (STR_W0.GEOM n) * 2 ^ 22 + h.lossy.toNat * 2 ^ 21
    + (if h.lossy then s.get (CMP_CFG.M n) else 0) * 2 ^ 16 + h.qty * 2 ^ 14
    + h.fmt.toNat * 2 ^ 13 + h.segx.toNat * 2 ^ 12 + h.ncbB
  [0x4254 * 2 ^ 16 + 0x100 + s.strKind n * 2 ^ 6 + h.type * 2 ^ 4 + h.resent.toNat * 8 + h.first.toNat * 4, w1, h.seq.toNat,
    h.epoch.toNat, h.eidx * 2 ^ 25 + h.nsampB * 2 ^ 16 + h.nspan % 65536, h.oidx / 2 ^ 32, h.oidx, sec.toNat / 2 ^ 32, sec.toNat,
    (h.ts % 1000000000).toNat, h.w10, h.chDt, h.period, pattern 32 h.chain0, pattern 32 h.chain1, h.len].flatMap (beBytes 4)

/-- A packet of the stream with its CRC (R383, R389). -/
def withCrc (l : List Byte) : List Byte := l ++ wordBytes (crc32c l)

/-- The value words of a sample that does not exist, one word or a record: value 0, code GAP (R375, R380). -/
def gapWords (n : Nat) : List Word := if n = 4 then [0, BitVec.ofNat 32 (qualCode .gap), 0, 0] else List.replicate n 0

/-- Channels of a stream's source (R374). -/
def State.sourceChans (s : State) (n : Nat) : Nat :=
  match s.strKind n with
  | 0 => s.get (PHS_NCH.N_CH (s.strPort n))
  | 1 => s.get (BRL_NBB.N_BB (s.strPort n))
  | 2 => if s.slotState (s.strSlot n) = 0 then 0 else s.get (REEDS_W3.N_CH (s.strSlot n))
  | _ => 2 ^ 18

/-- The values of an output of a stream as they are told: a channel beyond the stream's source has value 0 and code GAP (R375). -/
def State.masked (s : State) (n : Nat) (vals : List (List Word × Qual)) : List (List Word × Qual) :=
  vals.zipIdx.map (fun e => if s.strKind n != 3 && decide (s.sourceChans n ≤ s.get (STR_W1.CH_FIRST n) + e.2) then (gapWords e.1.1.length, .gap) else e.1)

/-- Shots not received that a batten of some outputs accounts for in a channel (R386). -/
def StreamSt.gapin (x : StreamSt) (outs : List BOut) (c : Nat) : Nat :=
  (x.missed.filter (fun e => e.1 == c && outs.any (fun o => o.idx == e.2))).length

/-- The batten of one block of channels, from first channel and count (R383 to R388). -/
def State.battenBytes (s : State) (n : Nat) (outs : List BOut) (c0 cnt : Nat) (seq : BitVec 32) (first : Bool) : List Byte :=
  let kind := s.strKind n
  let lossy := s.flag (CMP_CFG.LOSSY n) && (kind == 0 || kind == 2)
  let rows := (List.range cnt).map (fun j => outs.map (fun o => o.vals.getD (c0 + j) (gapWords (if kind = 1 then 4 else 1), .gap)))
  let coded := rows.map (fun r =>
    if kind = 1 then ((r.flatMap (·.1)).flatMap wordBytes, 0) else codeRow lossy (s.get (CMP_CFG.M n)) (r.map (fun v => v.1.headD 0)))
  let table := (List.range cnt).flatMap (fun j =>
    let r := rows.getD j []
    beBytes 4 (qualCode (worstQual (r.map (·.2))) * 2 ^ 28 + (coded.getD j ([], 0)).2 * 2 ^ 22
      + min 65535 ((s.str n).gapin outs (c0 + j))))
  let spans := if kind = 1 then [] else (List.range cnt).flatMap (fun j =>
    (spansOf 0 ((rows.getD j []).map (·.2))).map (fun x => (j, x)))
  let spanB := spans.flatMap (fun x => beBytes 4 (x.1 * 2 ^ 24 + x.2.1 * 2 ^ 18 + (x.2.2.1 - 1) * 2 ^ 12 + qualCode x.2.2.2))
  let body := table ++ spanB ++ coded.flatMap (·.1)
  let blocks := bodyBlocks (s.get (CMP_CFG.LEVEL n)) body (body.length / 65536 + 1) 0
  let o0 := outs.headD { idx := 0, ts := 0, chDt := 0, period := 0, epoch := 0, bank := false, vals := [] }
  let o1 := outs.getLastD o0
  let ch := s.get (STR_W1.CH_FIRST n) + c0
  let pa := s.strPos n ch
  let pb := s.strPos n (ch + cnt - 1)
  withCrc (s.header n
    { type := 0, qty := o1.qty, fmt := o1.fmt, first := first, bank := o1.bank, segx := s.segBetween pa.1 pa.2 pb.2, lossy := lossy, ncbB := cnt, seq := seq
      epoch := o1.epoch, eidx := (outs.takeWhile (fun o => !(o.epoch == o1.epoch))).length, nsampB := outs.length
      nspan := spans.length, oidx := o0.idx, ts := o0.ts + (divRound (c0 * o0.chDt : Nat) ns), w10 := c0, chDt := o0.chDt
      period := o0.period, chain0 := s.chainage pa.1 pa.2, chain1 := s.chainage pb.1 pb.2, len := 64 + blocks.length + 4 } ++ blocks)

/-- The batten of an EVENT stream: records in delivery order (R388); EIDX holds an index modulo 128 (log entry 158). -/
def State.eventBatten (s : State) (n : Nat) (outs : List BOut) (seq : BitVec 32) (first : Bool) : List Byte :=
  let body := outs.flatMap (fun o => (o.vals.headD ([], .good)).1.flatMap wordBytes)
  let blocks := bodyBlocks (s.get (CMP_CFG.LEVEL n)) body (body.length / 65536 + 1) 0
  let o0 := outs.headD { idx := 0, ts := 0, chDt := 0, period := 0, epoch := 0, bank := false, vals := [] }
  let o1 := outs.getLastD o0
  withCrc (s.header n
    { type := 0, first := first, bank := o1.bank, ncbB := 0, seq := seq, epoch := o1.epoch
      eidx := (outs.takeWhile (fun o => !(o.epoch == o1.epoch))).length, nsampB := outs.length, oidx := o0.idx, ts := o0.ts
      w10 := 0, chDt := 0, period := 0, len := 64 + blocks.length + 4 } ++ blocks)

/-- Where a stream's battens leave (R413 DEST). -/
def State.egressOf (s : State) (n : Nat) : Egress :=
  match s.get (STR_W0.DEST n) with
  | 0 => .eth 0
  | 1 => .eth 1
  | _ => .ring (Fin.ofNat 8 ((s.strOwner n).getD 0))

/-- Queue a batten or record as transmitted: it takes the next SEQ and is written to the retain buffer (R397, R406, R701). -/
def State.queueBytes (s : State) (n : Nat) (mk : BitVec 32 → Bool → List Byte) : State :=
  let seq := s.rd (STR_W10.SEQ n).addr
  let e : Egr :=
    { stream := n, seq := seq, prio := s.get (STR_W0.PRIO n), egress := s.egressOf n, closed := s.cyc
      bytes := mk seq (s.str n).firstDue, udp := s.udpDest n }
  let t := s.count (STR_W10.SEQ n)
  let t := t.modStr n (fun x => { x with
    firstDue := false, retain := if s.get (STR_W0.RETAIN n) = 0 then x.retain else x.retain ++ [e] })
  let t := if s.get (STR_W0.RETAIN n) = 0 then t else t.dramWrite 5 n seq.toNat e.bytes.length
  { t with strm := { t.strm with q := t.strm.q ++ [e] } }

/-- Time from one output to the next in ns (R384). -/
def BOut.step (o : BOut) : Int := (o.period % 2 ^ 31 : Nat) * (if 2 ^ 31 ≤ o.period then 1000000 else 5)

/-- The epoch in force at the shot of a missing output, by its distance from one that is known (R30). -/
def State.gapEpoch (s : State) (like : BOut) (i : Nat) : BitVec 32 := s.epochAt (like.shot - ((like.idx : Int) - i) * like.step * ns)

/-- The pattern bank in force then (R118). -/
def State.gapBank (s : State) (like : BOut) (i : Nat) : Bool := s.bankAt (like.shot - ((like.idx : Int) - i) * like.step * ns)

/-- The pending gap record, if any, with the epoch and the bank of its last missing output (R30, R118, R382). -/
def State.sendGap (s : State) (n : Nat) (like : Option BOut) : State :=
  match (s.str n).gap with
  | none => s
  | some (first, cnt) =>
    let o := like.getD
      { idx := first + cnt, ts := 0, shot := s.now, chDt := 0, period := 0, epoch := s.rd SYS_EPOCH.EPOCH.addr, bank := s.bank == 1, vals := [] }
    let last := first + cnt - 1
    let t := s.queueBytes n (fun seq fst => withCrc (s.header n
      { type := 1, qty := o.qty, fmt := o.fmt, first := fst, bank := s.gapBank o last, ncbB := 0, seq := seq, epoch := s.gapEpoch o last, nsampB := 0, oidx := first
        ts := o.ts - ((o.idx : Int) - first) * o.step, w10 := cnt, chDt := o.chDt, period := o.period, len := 68 }))
    t.modStr n (fun x => { x with gap := none })

/-- Close the open battens of a stream, gap record first, one batten for each block (R378, R381, R382). -/
def State.closeOpen (s : State) (n : Nat) : State :=
  let outs := (s.str n).open_
  if outs = [] then s
  else
    let t := s.sendGap n outs.head?
    let last := (outs.getLast?.map (·.idx)).getD 0
    let t := t.modStr n (fun x => { x with open_ := [], missed := x.missed.filter (fun e => decide (last < e.2)) })
    if s.strKind n = 3 then t.queueBytes n (s.eventBatten n outs)
    else
      let c := s.get (STR_W2.N_CH n)
      let k := s.ncb n
      (List.range ((c + k - 1) / k)).foldl (fun u b =>
        u.queueBytes n (s.battenBytes n outs (b * k) (min k (c - b * k)))) t

/-- The open battens hold the last output of their period (R378, R381). -/
def State.periodFull (s : State) (n : Nat) : Bool :=
  let l := (s.str n).open_
  if s.strKind n = 3 then decide (256 ≤ l.length)
  else match l.getLast? with
    | some o => (o.idx + 1) % s.nsamp n == 0
    | none => false

/-! ## Demand and automatic fall-back (R229 to R232) -/

/-- Demand of a stream in multiply–accumulates a second, as a fraction. -/
def State.demandOf (s : State) (n : Nat) : Nat × Nat :=
  if s.strKind n != 0 || s.strState n != 1 || s.flag (DEC_CFG.FB_CFG n) then (0, 1)
  else
    let r := s.cicR n
    let h1 := if s.flag (DEC_CFG.HB1 n) then 1 else 0
    let h2 := if s.flag (DEC_CFG.HB2 n) then 1 else 0
    let d := s.decD n
    let sh := s.get (STR_W2.N_CH n) * s.get PAT_SWEEP.N_SLOT * 1000000000
    -- 6 h1 / 2R + 12 h2 / 4R + ceil(T/2) / D over the common denominator R × D
    (sh * (3 * h1 * d + 3 * h2 * d + (s.get (DEC_CFG.TAPS n) + 1) / 2 * r), max 1 (r * d * s.get PAT_SWEEP.TSW * 5))

/-- Total demand of some streams. -/
def State.demandSum (s : State) (l : List Nat) : Nat × Nat := fracSum (l.map s.demandOf)

/-- The shared capacity holds a demand. -/
def demandFits (d : Nat × Nat) : Bool := decide (d.1 ≤ 48000000000 * d.2)

/-- Streams in the order in which they move in: lowest priority first, among equals the highest number. -/
def State.fbOrder (s : State) : List Nat :=
  (List.range 16).flatMap (fun p => ((List.range 64).filter (fun n => s.get (STR_W0.PRIO n) == p)).reverse)

/-- The streams that the device holds in the fall-back path so that the demand fits, from those that it holds now: moves in, and then
the moves out that capacity allows (R230). -/
def State.autoFallback (s : State) : List Nat :=
  let running := (List.range 64).filter (fun n => (s.demandOf n).1 != 0)
  let now := running.filter (fun n => s.flag (DEC_STAT.FB_AUTO n) && decide (s.decD n ≤ 256))
  let free (held : List Nat) : List Nat := running.filter (fun n => !held.contains n)
  let in_ : List Nat := (s.fbOrder.filter (fun n => running.contains n && decide (s.decD n ≤ 256))).foldl (fun (held : List Nat) n =>
    if demandFits (s.demandSum (free held)) || held.contains n then held else held ++ [n]) now
  s.fbOrder.reverse.foldl (fun (held : List Nat) n =>
    if held.contains n && demandFits (s.demandSum (free (held.erase n))) then held.erase n else held) in_

/-- The demand exceeds the capacity even after every eligible stream has moved (R232). -/
def State.demandRefused (s : State) : Bool :=
  let stay := (List.range 64).filter (fun n => (s.demandOf n).1 != 0 && decide (256 < s.decD n))
  !demandFits (s.demandSum stay)

/-- R230 is evaluated at an epoch boundary and at a stream's start or stop, its suspension and resumption among them; a move
waits for the next sweep boundary, and a stopped or suspended stream is left out of the moves (R229, R231), so that it starts again where
it was left (DESIGN CHOICE: log entry 203). DEC_STATUS.DEMAND is the
demand before any automatic move, rounded down and held at 65,535 (log entry 148). -/
def State.evalFallback (s : State) : State :=
  let d := s.demandSum (List.range 64)
  let t := s.put DEC_STATUS.DEMAND (min 65535 (if d.2 = 0 then 0 else d.1 / (d.2 * 10000000)))
  let held := t.autoFallback
  let moves := (List.range 64).filterMap (fun n =>
    if (t.demandOf n).1 != 0 && t.flag (DEC_STAT.FB_AUTO n) != held.contains n then some (n, held.contains n) else none)
  { t with dec := { t.dec with moves := moves } }

/-! ## Suspension (R474, R478) -/

/-- Suspend a chosen stream at its batten boundary (R474). -/
def State.suspend (s : State) (n : Nat) : State :=
  ((((s.modStr n (fun x => { x with chosen := false })).put (STR_W15.STATE n) 2).updOverdrawn).eventStream n 0x0303).evalFallback

/-- Close the open battens at a batten boundary, where a chosen stream is suspended (R381, R474). -/
def State.closeFull (s : State) (n : Nat) : State :=
  let t := s.closeOpen n
  if (t.str n).chosen then t.suspend n else t

/-- A stream's filters stop, and start again at the next shot launched (R223, R224). -/
def State.awaitRestart (s : State) (n : Nat) : State :=
  { s with
    dec := { s.dec with f := updAt s.dec.f n (fun x => { x with active := false, waiting := false, out := none }) }
    grid := { s.grid with restarts := if s.grid.restarts.contains n then s.grid.restarts else s.grid.restarts ++ [n] } }

/-- Resume a suspended stream that fits its quotas again: its filters restart as at the end of an absence, with the settings in
force at the next shot launched (R229, R478). -/
def State.tryResume (s : State) (n : Nat) : State :=
  match s.strOwner n with
  | none => s
  | some r =>
    if !s.isOverdrawn r && s.handedOver.streamsFit r (n :: s.handedOver.runningOf r) then
      (((s.put (STR_W15.STATE n) 1).updOverdrawn).awaitRestart n).evalFallback
    else s

/-! ## Outputs into battens (R377 to R382) -/

/-- Append an output to the open battens. -/
def State.addOut (s : State) (n : Nat) (o : BOut) : State :=
  s.modStr n (fun x => { x with open_ := x.open_ ++ [o], next := some (o.idx + 1) })

/-- An output that is missing, in its place, with the epoch and the bank in force at its instant; its code is GAP (R30, R118, R380). -/
def State.gapOut (s : State) (like : BOut) (i : Nat) : BOut :=
  { like with idx := i, ts := like.ts - ((like.idx : Int) - i) * like.step, epoch := s.gapEpoch like i, bank := s.gapBank like i
              vals := like.vals.map (fun v => (gapWords v.1.length, .gap)) }

/-- Missing outputs from an index up to, not including, another, all of one period, put in their places (R380). -/
def State.fillGap (s : State) (n : Nat) (like : BOut) (i j : Nat) : State :=
  (List.range (j - i)).foldl (fun t k => t.addOut n (s.gapOut like (i + k))) s

/-- Account for the outputs missing before an output: the rest of an open period, whole periods as a gap record, and the
start of the output's own period (R380, R382). -/
def State.missing (s : State) (n : Nat) (o : BOut) : State :=
  match (s.str n).next with
  | none => s
  | some e =>
    if o.idx ≤ e then s
    else
      let m := s.nsamp n
      let endP := (e / m + 1) * m
      let t1 := if e % m = 0 then s else s.fillGap n o e (min o.idx endP)
      let e1 := if e % m = 0 then e else min o.idx endP
      let t2 := if t1.periodFull n then t1.closeFull n else t1
      if t2.strState n != s.strState n then t2
      else
      let whole := (o.idx - e1) / m * m
      let t3 := if whole = 0 || e1 % m != 0 then t2 else t2.modStr n (fun x => { x with
        gap := some (match x.gap with
          | some (f, c) => (f, c + whole)
          | none => (e1, whole)) })
      let e3 := if e1 % m = 0 then e1 + whole else e1
      t3.fillGap n o e3 o.idx

/-- The device delivers data streams: in RUN, in SAFE from there, and as long as it delivers its last outputs (R3, R589, R614). -/
def State.sends (s : State) (n : Nat) : Bool :=
  s.dev == 3 || (s.dev == 5 && s.light.safeFrom != 4) || (s.pair.draining && (s.strKind n == 0 || s.strKind n == 2))

/-- The first output of another series: what the old one left open leaves, and the indices go on from the new one's first
(R121, R377). -/
def State.turnSeries (s : State) (n : Nat) (o : BOut) : State :=
  if (s.str n).series = o.series || s.strKind n = 3 then s
  else ((s.closeOpen n).sendGap n none).modStr n (fun x => { x with
    series := o.series, seed := none
    next := match x.seed with
      | some (k, i) => if k = o.series then some (if s.strKind n = 1 then i else s.firstIndex n i) else none
      | none => none })

/-- The open battens hold outputs of another quantity, format or number of channels (R379). -/
def State.otherForm (s : State) (n : Nat) (o : BOut) : Bool :=
  match (s.str n).open_.getLast? with
  | some x => x.qty != o.qty || x.fmt != o.fmt || x.vals.length != o.vals.length
  | none => false

/-- An output of a stream enters its batten; a full batten that still stands open closes first (R377 to R382). A device
that comes in at a switch-back holds its outputs until FINAL_SEQ (R615); a state that delivers no data streams sends none (R3). -/
def State.pushOut (s : State) (n : Nat) (o : BOut) : State :=
  if s.strState n != 1 || !s.sends n then s
  else if s.strm.held.isSome then { s with strm := { s.strm with held := s.strm.held.map (fun l => l ++ [(n, o)]) } }
  else
    let o := { o with vals := s.masked n o.vals }
    let s := s.turnSeries n o
    let t := if s.periodFull n then s.closeFull n else if s.otherForm n o then s.closeOpen n else s
    let t := if s.strKind n = 3 || t.strState n != 1 then t else t.missing n o
    if t.strState n = 1 then t.addOut n o else t

/-- A in 2^-16 ns. -/
def State.avgSpan (s : State) : Nat := max 1 (s.get BRL_CTRL.AVG) * 1000000000 * ns

/-- The first index that a stream of result sets accounts for from now on: that of the next whole multiple of A (R377). -/
def State.firstSet (s : State) (n : Nat) : Option Nat := if s.strKind n = 1 then some (s.now / s.avgSpan + 1) else none

/-- The series that a stream's indices belong to as it starts: A of its result sets, or that of the grid (R121, R377). -/
def State.strSeries (s : State) (n : Nat) : Nat := if s.strKind n = 1 then max 1 (s.get BRL_CTRL.AVG) else s.grid.series

/-- Start a stream at an epoch boundary or on a resume: SEQ 0 at a start (R376, R397). -/
def State.startStream (s : State) (n : Nat) : State :=
  let t := { s with strm := { s.strm with starts := s.strm.starts + 1 }, dec := { s.dec with f := updAt s.dec.f n (fun _ => s.filterNow n) } }
  (t.modStr n (fun x => { x with open_ := [], gap := none, next := s.firstSet n, series := s.strSeries n, seed := none, missed := [], firstDue := true
                                 order := s.strm.starts, chosen := false })).puts
    [(STR_W15.STATE n, 1), (STR_W10.SEQ n, 0)]

/-- Stop a stream: its open battens close short, and a pending gap record is sent (R376, R379, R382). -/
def State.stopStream (s : State) (n : Nat) : State :=
  let t := (s.closeOpen n).sendGap n none
  (t.modStr n (fun x => { x with open_ := [], gap := none, next := none, seed := none, missed := [], chosen := false })).put (STR_W15.STATE n) 0

/-! ## Sending (R400 to R405, R408, R409, R504) -/

/-- The next batten of an egress: live before re-sent, higher priority first, then closing order (R400). -/
def pickEgr (l : List Egr) (ok : Egr → Bool) : Option Egr :=
  l.foldl (fun best e =>
    if !ok e then best
    else match best with
      | none => some e
      | some b => if (b.resend && !e.resend) || (b.resend == e.resend && decide (b.prio < e.prio)) then some e else some b) none

/-- The next hop of a destination on a port is resolved. -/
def State.hopKnown (s : State) (x : Nat) (u : UdpDest) : Bool := (s.hopMac x u.v6 u.daddr).isSome

/-- The sum of 16-bit words, most significant byte first, an odd byte padded with 0. -/
def sum16 : List Byte → Nat
  | a :: b :: t => a.toNat * 256 + b.toNat + sum16 t
  | [a] => a.toNat * 256
  | [] => 0

/-- A sum folded into 16 bits by end-around carries. -/
def fold16 (n : Nat) : Nat := if n = 0 then 0 else (n - 1) % 65535 + 1

/-- The UDP checksum over the pseudo-header of IPv4 or IPv6, the UDP header and the payload; one that comes to 0 is sent as 0xFFFF. -/
def udpSum (v6 : Bool) (src dst : BitVec 128) (sport dport : Nat) (payload : List Byte) : Nat :=
  let len := payload.length + 8
  let adr (a : BitVec 128) : List Byte := if v6 then beBytes 16 a.toNat else beBytes 4 a.toNat
  let n := 65535 - fold16 (sum16 (adr src ++ adr dst ++ beBytes 4 17 ++ beBytes 4 len ++ beBytes 2 sport ++ beBytes 2 dport ++ beBytes 2 len ++ payload))
  if n = 0 then 65535 else n

/-- A port's own address. -/
def State.ownAddr (s : State) (x : Nat) (v6 : Bool) : BitVec 128 :=
  if v6 then BitVec.ofNat 128 ((List.range 4).foldl (fun b i => b * 2 ^ 32 + s.get (NET_IPV6.IPV6 x i)) 0)
  else BitVec.ofNat 128 (s.get (NET_W4.IPV4 x))

/-- A datagram from a port's own address, its checksum always computed (R403). -/
def State.datagramOf (s : State) (x : Fin 2) (v6 : Bool) (daddr : BitVec 128) (sport dport dscp : Nat) (payload : List Byte) : Out :=
  let src := s.ownAddr x.val v6
  .datagram x { v6 := v6, saddr := src, daddr := daddr, sport := sport, dport := dport, dscp := dscp
                csum := udpSum v6 src daddr sport dport payload } payload

/-- Fragments of a batten. -/
def Egr.frags (e : Egr) : Nat := (e.bytes.length + e.udp.fragMax - 1) / e.udp.fragMax

/-- Time on the wire of one fragment with its headers, preamble and gap, in 2^-16 ns (R402, R522). -/
def State.wireTime (s : State) (x : Nat) (e : Egr) (i : Nat) : Nat :=
  let len := min e.udp.fragMax (e.bytes.length - i * e.udp.fragMax)
  (len + (if e.udp.v6 then 102 else 82)) * 8 * ns / (if s.flag (NET_W0.RATE x) then 10 else 25)

/-- A datagram of a batten: frame header and fragment, addressed as the batten was queued (R376, R402, R403). -/
def State.sendFrag (s : State) (x : Fin 2) (e : Egr) (i : Nat) : State :=
  let fm := e.udp.fragMax
  let hdr := beBytes 4 (0x5346 * 2 ^ 16 + 0x100 + e.stream) ++ wordBytes e.seq ++ beBytes 4 (i * 2 ^ 16 + e.frags) ++ beBytes 4 (i * fm)
  s.emit (s.datagramOf x e.udp.v6 e.udp.daddr e.udp.sport e.udp.dport e.udp.dscp (hdr ++ (e.bytes.drop (i * fm)).take fm))

/-- PERIOD, OFFSET and WIDTH of a port's launch windows in 2^-16 ns (R411). -/
def State.winPeriod (s : State) (x : Nat) : Nat := max 1 (s.get (LWIN_W0.PERIOD x)) * 1000 * ns
def State.winOffset (s : State) (x : Nat) : Nat := s.get (LWIN_W1.OFFSET x) * ns
def State.winWidth (s : State) (x : Nat) : Nat := s.get (LWIN_W2.WIDTH x) * ns

/-- How long the newest launch window of a port has been open, or would have been, at an instant (R408). -/
def State.winSince (s : State) (x : Nat) (t : Ts) : Nat := (t + s.winPeriod x - s.winOffset x % s.winPeriod x) % s.winPeriod x

/-- End of the launch window of a port that is open at an instant; 0 where none is (R408). -/
def State.winEnd (s : State) (x : Nat) (t : Ts) : Ts := if s.winSince x t < s.winWidth x then t + s.winWidth x - s.winSince x t else 0

/-- End of the last frame of a port. -/
def State.busyEnd (s : State) (x : Nat) : Ts := if x = 0 then s.strm.busy0 else s.strm.busy1
def State.setBusy (s : State) (x : Nat) (t : Ts) : State :=
  if x = 0 then { s with strm := { s.strm with busy0 := t } } else { s with strm := { s.strm with busy1 := t } }

/-- A fragment may start: on a scheduled port its last bit leaves before the window closes (R408, R409). -/
def State.fragFits (s : State) (x : Nat) (e : Egr) (i : Nat) : Bool :=
  !s.flag (STR_PORT.SCHED x) || decide (max s.now (s.busyEnd x) + s.wireTime x e i ≤ s.winEnd x (max s.now (s.busyEnd x)))

/-- Send the fragments of a batten that may start now, in order (R400, R409). -/
def State.sendFrags (s : State) (x : Fin 2) (e : Egr) : Nat → Nat → State × Nat
  | 0, i => (s, i)
  | k + 1, i =>
    if s.fragFits x.val e i then
      ((s.sendFrag x e i).setBusy x.val (max s.now (s.busyEnd x.val) + s.wireTime x.val e i)).sendFrags x e k (i + 1)
    else (s, i)

/-- Take a queued batten out, or change its progress. -/
def State.dropEgr (s : State) (e : Egr) : State := { s with strm := { s.strm with q := s.strm.q.erase e } }

/-- Count a batten that has been sent: live, re-sent or expired (R413). -/
def State.countSent (s : State) (e : Egr) : State :=
  s.count (if e.expired then STR_W14.EXPIRED e.stream else if e.resend then STR_W13.RESENT e.stream else STR_W11.SENT e.stream)

/-- Send the next batten of an Ethernet port; one whose queue is held full takes none (R779). -/
def State.sendEth (s : State) (x : Fin 2) : State :=
  if !s.flag (NET_W1.LINK x.val) || s.bpHeld (3 - x.val) then s
  else
    let mine := s.strm.q.filter (fun e => e.egress == .eth x)
    -- a batten under way keeps the port until its last fragment (R400)
    let under := mine.find? (fun e => decide (0 < e.frag))
    let known := fun (e : Egr) => s.hopKnown x.val e.udp
    match under.orElse (fun _ => pickEgr mine known) with
    | some e =>
      let left := e.frags - e.frag
      let r := s.sendFrags x e left e.frag
      if r.2 = e.frags then (r.1.dropEgr e).countSent e
      else { r.1 with strm := { r.1.strm with q := r.1.strm.q.map (fun y => if y = e then { y with frag := r.2 } else y) } }
    | none =>
      match pickEgr mine (fun _ => true) with
      | some e => s.askHop x.val (s.nextHopOf x.val e.udp.v6 e.udp.daddr)
      | none => s

/-- Ring size and free space in bytes (R405, R412). -/
def State.ringSize (s : State) (r : Nat) : Nat := 2 ^ s.get (RING_W2.LOG2 r)
def State.ringFree (s : State) (r : Nat) : Nat :=
  (((s.get (RING_W5.RPTR r) : Int) - s.get (RING_W6.WPTR r) - 64) % (s.ringSize r : Int)).toNat

/-- Send the next batten of a session's ring, or drop it when it does not fit (R404, R405); a ring held full has no room (R779). -/
def State.sendRing (s : State) (r : Fin 8) : State :=
  match pickEgr (s.strm.q.filter (fun e => e.egress == .ring r)) (fun _ => true) with
  | none => s
  | some e =>
    let need := (e.bytes.length + 63) / 64 * 64
    let t := s.dropEgr e
    if s.bpHeld 1 || decide (s.ringFree r.val < need) then (t.count (RING_W7.FULLCNT r.val)).count (STR_W12.DROPPED e.stream)
    else
      let base := s.get2 (RING_W0.BASE_LO r.val) (RING_W1.BASE_HI r.val)
      let wp := s.get (RING_W6.WPTR r.val)
      let room := s.ringSize r.val - wp
      let a := t.emit (.host (base + wp) (e.bytes.take room))
      let a := if room < e.bytes.length then a.emit (.host base (e.bytes.drop room)) else a
      let wp2 := (wp + need) % s.ringSize r.val
      ((a.put (RING_W6.WPTR r.val) wp2).emit (.host (s.get2 (RING_W3.MIR_LO r.val) (RING_W4.MIR_HI r.val)) (beBytes 8 wp2))).countSent e

/-- BATTEN_SEND (R400). -/
def battenSendStep (e : Egress) (s : State) : State :=
  match e with
  | .eth x => s.sendEth x
  | .ring r => s.sendRing r

/-- BATTEN_AGE_EXPIRE: the oldest batten of the port whose first frame has not started is removed (R401). -/
def battenAgeExpireStep (x : Fin 2) (s : State) : State :=
  match (s.strm.q.filter (fun e => e.egress == .eth x && e.frag == 0)).foldl (fun (b : Option Egr) e =>
      match b with
      | none => some e
      | some y => if e.closed < y.closed then some e else some y) none with
  | none => s
  | some e => (((s.atCyc (e.closed + s.get (STR_PORT.AGE x.val) * msCyc)).dropEgr e).count (STR_W12.DROPPED e.stream)).eventStream e.stream 0x0302

/-- The next instant from now on at which a port's launch window opens: OFFSET after a whole PERIOD (R408). -/
def State.windowAt (s : State) (x : Nat) : Ts := s.now + (s.winOffset x + s.winPeriod x - s.now % s.winPeriod x) % s.winPeriod x

/-- LAUNCH_WINDOW_OPEN: the clock is at the opening of the port's next window; which window is open follows from the clock (R408, R522). -/
def launchWindowOpenStep (x : Fin 2) (s : State) : State := s.whenDo (s.flag (STR_PORT.SCHED x.val)) fun s => s.at (s.windowAt x.val)

/-! ## Re-send (R406, R407) -/

/-- A retained packet with RESENT set and its CRC recomputed. -/
def resentBytes (l : List Byte) : List Byte :=
  let h := l.take (l.length - 4)
  withCrc (h.take 3 ++ [h.getD 3 0 ||| 8#8] ++ h.drop 4)

/-- An expired record (R407). -/
def State.expiredBytes (s : State) (n : Nat) (seq : BitVec 32) : List Byte :=
  withCrc (([0x4254 * 2 ^ 16 + 0x100 + s.strKind n * 2 ^ 6 + 2 * 2 ^ 4 + 8, n * 2 ^ 26, seq.toNat] ++ List.replicate 12 0 ++ [68]).flatMap (beBytes 4))

/-- RESEND_TAKE (R407): an expired record is kept as first transmitted, too (R406). -/
def resendTakeStep (n : Nat) (s : State) : State :=
  match (s.str n).resendQ with
  | [] => s
  | seq :: rest =>
    let t := s.modStr n (fun x => { x with resendQ := rest })
    let e : Egr := match (s.str n).retain.find? (fun e => e.seq == seq) with
      | some e => { e with resend := true, closed := s.cyc, frag := 0, bytes := resentBytes e.bytes }
      | none =>
        { stream := n, seq := seq, prio := s.get (STR_W0.PRIO n), egress := s.egressOf n, closed := s.cyc, resend := true
          expired := true, bytes := s.expiredBytes n seq, udp := s.udpDest n }
    let t := if e.expired && s.get (STR_W0.RETAIN n) != 0 && (s.str n).retain.all (fun x => !(x.seq == seq)) then
        t.modStr n (fun x => { x with retain := x.retain ++ [e] })
      else t
    { t with strm := { t.strm with q := t.strm.q ++ [e] } }

/-- RETAIN_EXPIRE: the oldest retained batten leaves the buffer (R406). -/
def retainExpireStep (n : Nat) (s : State) : State :=
  match (s.str n).retain with
  | [] => s
  | e :: l => (s.atCyc (e.closed + s.get (STR_W0.RETAIN n) * msCyc)).modStr n (fun x => { x with retain := l })

/-- RESEND (R407, R495). -/
def resendBody (q : ReqHdr) (n : Nat) (seq : BitVec 32) (cnt : Nat) (s : State) : State :=
  if 63 < n then s.reply q 0x0301 stParamRange
  else if s.strOwner n != some q.session.val then s.reply q 0x0301 stNotOwner
  else if cnt = 0 || 256 < cnt || 2 ^ 31 ≤ (s.rd (STR_W10.SEQ n).addr - 1 - seq).toNat then s.reply q 0x0301 stParamRange
  else if s.dev = 1 then s.reply q 0x0301 stHeld
  else
    (s.modStr n (fun x => { x with resendQ := x.resendQ ++ (List.range cnt).map (fun i => seq + BitVec.ofNat 32 i) })).reply q 0x0301 stOk

/-- STREAM_STATUS: words 10 to 15 of the window (R436). -/
def streamStatusBody (q : ReqHdr) (n : Nat) (s : State) : State :=
  if 63 < n then s.reply q 0x0300 stParamRange
  else s.reply q 0x0300 stOk [itWords (s.rdWords (STR_W10.SEQ n).addr 6)]

/-! ## Meanings -/

/-- BATTEN_SEND (R400). -/
def execBattenSend (egress : Egress) (s : State) : Host.Outcome State Fault Refusal := .next (battenSendStep egress s)

/-- BATTEN_AGE_EXPIRE (R401). -/
def execBattenAgeExpire (eth : Fin 2) (s : State) : Host.Outcome State Fault Refusal := .next (battenAgeExpireStep eth s)

/-- LAUNCH_WINDOW_OPEN (R408). -/
def execLaunchWindowOpen (eth : Fin 2) (s : State) : Host.Outcome State Fault Refusal := .next (launchWindowOpenStep eth s)

/-- RESEND_TAKE (R407). -/
def execResendTake (stream : Fin 64) (s : State) : Host.Outcome State Fault Refusal := .next (resendTakeStep stream.val s)

/-- RETAIN_EXPIRE (R406). -/
def execRetainExpire (stream : Fin 64) (s : State) : Host.Outcome State Fault Refusal := .next (retainExpireStep stream.val s)

/-- STREAM_STATUS (R436). -/
def execStreamStatus (q : ReqHdr) (index : Nat) (s : State) : Host.Outcome State Fault Refusal :=
  .next (s.request q 0x0300 (streamStatusBody q index) (operands [itIndex index]))

/-- RESEND (R407). -/
def execResend (q : ReqHdr) (index : Nat) (seq : BitVec 32) (count : Nat) (s : State) : Host.Outcome State Fault Refusal :=
  .next (s.request q 0x0301 (resendBody q index seq count) (operands [itIndex index, itSeq seq.toNat, itCount count]))

end Sys2Proof.Machine
end

