-- ==== Sys2Proof/Machine/Capture.lean ====
section
/-! DEFINITION. The history ring and the capture units (chapter 08, R298 to R313, R315, R316), and capture transfer
(R448, R449). -/

namespace Sys2Proof.Machine

/-! ## History (R298 to R300) -/

/-- The stream is kept in the history ring. -/
def State.histSel (s : State) (n : Nat) : Bool :=
  s.flag TRG_HISTSZ.SIZE && (s.get TRG_HISTSEL_LO.SEL_LO + s.get TRG_HISTSEL_HI.SEL_HI * 2 ^ 32) / 2 ^ n % 2 == 1

/-- Outputs per second of a stream as a fraction. -/
def State.outRate (s : State) (n : Nat) : Nat × Nat :=
  let r := s.periodRate n
  (r.1 * s.nsamp n, r.2)

/-- Depth of the ring in ns (R299). -/
def State.histDepthNs (s : State) : Nat :=
  let sel := (List.range 64).filter (fun n => s.histSel n && s.flag (STR_W0.EN n))
  let sum := fracSum (sel.map (fun n => (s.get (STR_W2.N_CH n) * (s.outRate n).1, (s.outRate n).2)))
  if sum.1 = 0 then 0 else s.get TRG_HISTSZ.SIZE * 2 ^ 20 * 1000000000 * 2 * sum.2 / (9 * sum.1)

/-- TRG_HISTDEPTH follows the settings, and a stream no longer selected leaves the ring. -/
def State.updHistory (s : State) : State :=
  ({ s with trg := { s.trg with hist := s.trg.hist.zipIdx.map (fun (p : List HistOut × Nat) => if s.histSel p.2 then p.1 else []) } }).put
    TRG_HISTDEPTH.DEPTH (s.histDepthNs / 1000000)

/-- The history of a stream, newest first. -/
def State.histOf (s : State) (n : Nat) : List HistOut := s.trg.hist.getD n []

/-- An output enters the ring by a write of its own, and what has grown older than the depth leaves it (R299, R701). -/
def State.histPush (s : State) (n : Nat) (o : HistOut) : State :=
  if s.histSel n then
    let d := s.histDepthNs
    let l := (o :: s.histOf n).filter (fun (e : HistOut) => decide (o.ts - e.ts ≤ d))
    ({ s with trg := { s.trg with hist := setAt s.trg.hist n l } }).dramWrite 2 n o.idx (4 * o.vals.length)
  else s

/-- HISTORY_WRITE_MISS: writes that their channels have not accepted are discarded and entered in the gap list (R300, R702). -/
def historyWriteMissStep (n : Nat) (first len : Nat) (s : State) : State :=
  let lost (r : DramReq) : Bool := r.cls == 2 && r.item.1 == n && decide (first ≤ r.item.2) && decide (r.item.2 < first + len)
  { s with dmc := { s.dmc with queue := s.dmc.queue.filter (fun r => !lost r) }, trg := { s.trg with
    histGaps := s.trg.histGaps ++ [{ stream := n, first := first, len := len }]
    hist := updAt s.trg.hist n (fun l => l.filter (fun (o : HistOut) => !(decide (first ≤ o.idx) && decide (o.idx < first + len)))) } }

/-! ## Averaging (R304) -/

/-- The mean of an interval's non-GAP samples in units of 1/16 LSB, or in binary32 for a FLOAT32 source. -/
def meanWord (float : Bool) (l : List Word) : Word :=
  match l with
  | [] => 0
  | x :: _ =>
    if float then
      let v := l.map (fun w => (f32Val w).getD 0)
      let m := roundF64 (sumI v) (l.length * 2 ^ 149)
      toF32 m.1 m.2
    else BitVec.ofInt 32 (16 * x.toInt + roundEvenI (16 * sumI (l.map (fun w => (w - x).toInt))) l.length)

/-- One channel of an interval: the outputs' values and codes, none for a missing output. -/
def meanChannel (float : Bool) (l : List (Option (Word × Qual))) : Word × Qual :=
  match l with
  | [some (w, q)] => if q = .gap then (0, .gap) else (w, q)
  | _ =>
    let ok := (l.filterMap id).filter (fun x => !(x.2 == .gap))
    if ok = [] then (0, .gap)
    else (meanWord float (ok.map (·.1)), if ok.length < l.length then .lowq else worstQual (ok.map (·.2)))

/-- An interval from the outputs that fall in it, of an expected number. -/
def intervalOf (float : Bool) (nch n : Nat) (epoch0 : BitVec 32) (l : List HistOut) : Interval :=
  let missing : List (Option (Word × Qual)) := List.replicate (n - l.length) none
  { epoch := (l.head?.map (·.epoch)).getD epoch0
    vals := (List.range nch).map (fun c => meanChannel float (l.map (fun o => o.vals[c]?) ++ missing)) }

/-! ## Capture regions (R305, R311) -/

/-- Size of a region in bytes (R305). -/
def regionSize (nch i : Nat) : Nat := 4096 + nch * (4 * i + 4 * ((i + 7) / 8))

/-- The most intervals a region of some bytes keeps. -/
def regionFit (nch bytes : Nat) : Nat :=
  if bytes < 4096 || nch = 0 then 0
  else
    let b := (bytes - 4096) / nch / 4
    8 * (b / 9) + (b % 9 - 1)

/-- A capture unit beside its registers. -/
def State.cap (s : State) (c : Nat) : Cap := s.trg.caps.getD c {}

/-- Change a capture unit. -/
def State.modCap (s : State) (c : Nat) (f : Cap → Cap) : State := { s with trg := { s.trg with caps := updAt s.trg.caps c f } }

/-- STATE of a capture unit: 0 IDLE, 1 ARMED, 2 ACTIVE, 3 CLOSED. -/
def State.capState (s : State) (c : Nat) : Nat := s.get (CAPU_W0.STATE c)

/-- An interval is a GAP when every channel of it is. -/
def Interval.isGap (i : Interval) : Bool := i.vals.all (fun v => v.2 == .gap)

/-- Maximal runs of GAP intervals: first and length (R308). -/
def gapRuns : Nat → List Interval → List (Nat × Nat)
  | _, [] => []
  | k, i :: t =>
    let rest := gapRuns (k + 1) t
    if i.isGap then
      (match rest with
        | (f, l) :: r => if f = k + 1 then (k, l + 1) :: r else (k, 1) :: rest
        | [] => [(k, 1)])
    else rest

/-- The gap list: beyond 256 entries new runs are merged into the last (R308). -/
def gapList (l : List Interval) : List (Nat × Nat) :=
  let r := gapRuns 0 l
  match r.drop 255 with
  | a :: b :: t =>
    let z := (b :: t).getLastD b
    r.take 255 ++ [(a.1, z.1 + z.2 - a.1)]
  | _ => r

/-- The epoch list: one entry for each change (R311). -/
def epochRuns : Nat → Option (BitVec 32) → List Interval → List (Nat × BitVec 32)
  | _, _, [] => []
  | k, prev, i :: t => if prev = some i.epoch then epochRuns (k + 1) prev t else (k, i.epoch) :: epochRuns (k + 1) (some i.epoch) t

/-- FLAGS of a unit: EPOCHOVF and GAPOVF follow what is stored; LATE and TRUNCATED stay. -/
def State.capFlags (s : State) (c : Nat) : State :=
  let l := (s.cap c).ivs
  let low := s.get (CAPU_W3.FLAGS c) % 4
  s.put (CAPU_W3.FLAGS c) (low + (decide (256 < (gapRuns 0 l).length)).toNat * 4 + (decide (16 < (epochRuns 0 none l).length)).toNat * 8)

/-- The region's bytes: header, then blocks of 8 intervals (R311). -/
def State.capRegion (s : State) (c : Nat) : List Byte :=
  let u := s.cap c
  let ep := (epochRuns 0 none u.ivs).take 16
  let gl := gapList u.ivs
  let sec := (u.tref / 1000000000) % (2 ^ 48 : Nat)
  let hdr := [0x4350 * 2 ^ 16 + 0x100 + c * 16, u.stream * 2 ^ 26 + u.nch * 2 ^ 8 + u.avg, sec.toNat / 2 ^ 32, sec.toNat,
    (u.tref % 1000000000).toNat, u.pre, u.post, s.get (CAPU_W3.FLAGS c), gl.length, ep.length].flatMap (beBytes 4)
  let epB := ep.flatMap (fun e => beBytes 4 e.1 ++ wordBytes e.2)
  let glB := gl.flatMap (fun e => beBytes 4 e.1 ++ beBytes 4 e.2)
  let pad (n : Nat) (l : List Byte) : List Byte := l ++ List.replicate (n - l.length) 0
  let block (b : Nat) : List Byte :=
    let iv := (u.ivs.drop (8 * b)).take 8
    let qw (ch : Nat) : Nat := (iv.zipIdx.map (fun p => qualCode (p.1.vals.getD ch (0, .good)).2 * 16 ^ p.2)).sum
    (List.range u.nch).flatMap (fun ch => beBytes 4 (qw ch)) ++ iv.flatMap (fun i => i.vals.flatMap (fun v => wordBytes v.1))
  pad 4096 (pad 0xC0 (pad 0x40 hdr ++ epB) ++ glB) ++ (List.range ((u.ivs.length + 7) / 8)).flatMap block

/-- Shorten a capture to a number of intervals: post-trigger ones from the end first, then pre-trigger ones from the
earliest (R313). -/
def Cap.trim (u : Cap) (keep : Nat) : Cap :=
  let cut := u.pre + u.post - keep
  let cpost := min cut u.post
  let cpre := cut - cpost
  { u with pre := u.pre - cpre, post := u.post - cpost
           ivs := ((u.ivs.drop cpre).take (u.pre - cpre + (u.post - cpost))) }

/-- The unit keeps to its session's capture allocation at execution and at close (R313, R475). -/
def State.capTruncate (s : State) (c : Nat) : State :=
  match s.capOwner c with
  | none => s
  | some r =>
    let u := s.cap c
    let quota := s.capQuota r * 2 ^ 20
    let use := s.capUse r
    if use ≤ quota then s
    else
      let keep := regionFit u.nch (quota - (use - u.region))
      if u.pre + u.post ≤ keep then s
      else
        let v := u.trim keep
        let size := regionSize v.nch (v.pre + v.post)
        (((s.modCap c (fun _ => { v with region := size })).put (CAPU_W4.SIZE c) ((size + 4095) / 4096)).put (CAPU_W3.FLAGS c)
          (setBit (s.get (CAPU_W3.FLAGS c)) 0 true)).updOverdrawn

/-- The capture closes (R301, R312). -/
def State.capClose (s : State) (c : Nat) : State := ((s.put (CAPU_W0.STATE c) 3).capTruncate c).capFlags c

/-! ## Recording (R303, R307 to R310) -/

/-- An interval is written; the last one closes the capture (R301, R701). -/
def State.capStore (s : State) (c : Nat) (i : Interval) : State :=
  let t := (s.modCap c (fun u => { u with ivs := u.ivs ++ [i], acc := [] })).capFlags c
  let t := t.dramWrite 4 c (s.cap c).ivs.length (4 * i.vals.length)
  let u := t.cap c
  if u.pre + u.post ≤ u.ivs.length then t.capClose c else t

/-- The interval being gathered is stored with what has arrived of it. -/
def State.capEndInterval (s : State) (c : Nat) : State :=
  let u := s.cap c
  let ep := (u.ivs.getLast?.map (·.epoch)).getD (s.rd SYS_EPOCH.EPOCH.addr)
  s.capStore c (intervalOf u.float u.nch (u.avg + 1) ep u.acc)

/-- A post-trigger output reaches an ACTIVE capture; intervals that it finds behind it are stored as they are. -/
def State.capFeed (s : State) (c : Nat) (o : HistOut) : State :=
  match (s.cap c).start with
  | none => s
  | some st =>
    let n := (s.cap c).avg + 1
    let from_ := st + n * ((s.cap c).ivs.length - (s.cap c).pre)
    let behind := (o.idx - from_) / n
    let t := (List.range (min behind (s.cap c).post)).foldl (fun (t : State) _ => if t.capState c = 2 then t.capEndInterval c else t) s
    if o.idx < from_ || t.capState c != 2 then t
    else
      let t := t.modCap c (fun u => { u with acc := u.acc ++ [o] })
      if (o.idx + 1 - st) % n = 0 then t.capEndInterval c else t

/-- The first post-trigger output is known: the pre-trigger part is copied from the ring, oldest first, and the outputs
that have arrived since are fed (R303, R307). -/
def State.capBegin (s : State) (c st : Nat) (have_ : List HistOut) : State :=
  let u := s.cap c
  let n := u.avg + 1
  let old := have_.reverse
  let pick (i : Nat) : List HistOut :=
    old.filter (fun o => decide ((st : Int) - n * (u.pre - i : Nat) ≤ o.idx) && decide ((o.idx : Int) < (st : Int) - n * (u.pre - i : Nat) + n))
  let ivs := (List.range u.pre).map (fun i => intervalOf u.float u.nch n (s.rd SYS_EPOCH.EPOCH.addr) (pick i))
  let t := (s.modCap c (fun u => { u with start := some st, ivs := ivs, acc := [] })).capFlags c
  if u.post = 0 then t.capClose c
  else (old.filter (fun o => decide (st ≤ o.idx))).foldl (fun t o => if t.capState c = 2 then t.capFeed c o else t) t

/-- Index and timestamp of the outputs that a capture knows of, by its stream's history and since its ARM, newest first. -/
def State.capKnown (s : State) (c : Nat) : List (Nat × Int) :=
  (s.cap c).seen ++ (s.histOf (s.cap c).stream).map (fun (o : HistOut) => (o.idx, o.ts))

/-- Index of the first output whose timestamp is at or after t_ref, from an output that is: the earliest known one, counted back by the
output period where no known one lies before t_ref (R303). -/
def State.capFirst (s : State) (c : Nat) (o : Nat × Int) : Nat :=
  let l := s.capKnown c
  let tref := (s.cap c).tref
  let b := l.foldl (fun (b : Nat × Int) e => if tref ≤ e.2 ∧ e.1 < b.1 then e else b) o
  if l.any (fun e => decide (e.2 < tref)) then b.1
  else
    let r := s.outRate (s.cap c).stream
    b.1 - (b.2 - tref).toNat * r.1 / (1000000000 * max 1 r.2)

/-- An output of a stream reaches the history ring and the captures that record it (R299, R303, R307). -/
def State.recordOut (s : State) (n : Nat) (o : HistOut) : State :=
  let t := s.histPush n o
  (List.range 16).foldl (fun (t : State) c =>
    if (t.capState c = 1 || t.capState c = 2) && (t.cap c).stream == n then
      match (t.cap c).start with
      | some _ => t.capFeed c o
      | none =>
        let t := t.modCap c (fun u => { u with seen := (o.idx, o.ts) :: u.seen })
        if t.capState c = 2 && decide ((t.cap c).tref ≤ o.ts) then t.capBegin c (t.capFirst c (o.idx, o.ts)) (if t.histSel n then t.histOf n else [o]) else t
    else t) t

/-- Of two triggers of one instant the first is taken before the second: a ridge trigger before a local one, then by origin and
sequence, or by unit (R302). -/
def CapTook.before (a b : CapTook) : Bool :=
  a.inst == b.inst && ((a.ridge && !b.ridge)
    || (a.ridge == b.ridge && (decide (a.first < b.first) || (a.first == b.first && decide (a.second < b.second)))))

/-- A capture has begun at a trigger of the same instant that a given one comes before (R302). -/
def State.capYields (s : State) (c : Nat) (x : CapTook) : Bool :=
  decide (2 ≤ s.capState c) && (s.cap c).took.any x.before

/-- A trigger executes at a capture unit: ARMED to ACTIVE, or one more MISSED. A trigger that comes before the one taken at the
same instant takes its place, and that one is missed (R301 to R303, R316). -/
def State.capExecute (s : State) (c : Nat) (tref : Int) (late : Bool) (x : CapTook) : State :=
  if (s.capState c != 1 && !s.capYields c x) || (s.capOwner c).isNone then s.countSat (CAPU_W3.MISSED c)
  else
    let s := if s.capYields c x then s.countSat (CAPU_W3.MISSED c) else s
    let sec := ((tref / 1000000000) % (2 ^ 48 : Nat)).toNat
    let t := s.puts [(CAPU_W0.STATE c, 2), (CAPU_W3.FLAGS c, late.toNat * 2), (CAPU_W5.TREF_NS c, (tref % 1000000000).toNat),
      (CAPU_W6.TREF_SEC_LO c, sec), (CAPU_W7.TREF_SEC_HI c, sec / 2 ^ 32)]
    let t := (t.modCap c (fun u => { u with tref := tref, ivs := [], acc := [], start := none, took := some x })).capTruncate c
    let u := t.cap c
    if u.pre + u.post = 0 then t.capClose c
    else
      match (t.capKnown c).head? with
      | some o => if tref ≤ o.2 then t.capBegin c (t.capFirst c o) (t.histOf u.stream) else t
      | none => t

/-- CAPTURE_WRITE_DEADLINE: the interval is a GAP, or the capture closes at its scheduled end (R301, R308, R310). -/
def captureWriteDeadlineStep (c : Nat) (close : Bool) (s : State) : State :=
  s.whenDo (s.capState c == 2) fun s =>
    let t := if (s.cap c).start.isSome then s
      else
        let h := s.histOf (s.cap c).stream
        s.capBegin c ((h.head?.map (·.idx + 1)).getD 0) h
    let u := t.cap c
    let lost (t : State) : State := (t.modCap c (fun u => { u with acc := [] })).capEndInterval c
    if close then (List.range (u.pre + u.post - u.ivs.length)).foldl (fun t _ => if t.capState c = 2 then lost t else t) t
    else if t.capState c = 2 then lost t
    else t

/-! ## Arming, aborting, releasing (R301, R306, R312, R316) -/

/-- Bytes of the regions of a session's other units that are not IDLE (R306). -/
def State.capOthers (s : State) (c r : Nat) : Nat := s.capUse r - (if s.capState c != 0 && s.capOwner c == some r then (s.cap c).region else 0)

/-- Why an ARM is refused, as a status code (R306, R316, R440, R473): OVERDRAWN before all (log entry 188), CAPTURE_TOO_LARGE,
PARAM_CONFLICT, BUSY unless IDLE, NOT_OWNER, HELD. -/
def State.armError (s : State) (c : Nat) (r : Option Nat) : Option Nat :=
  let n := s.get (CAPU_W0.STREAM c)
  let i := s.get (CAPU_W1.PRE c) + s.get (CAPU_W2.POST c)
  let rr := r.getD 8
  if s.isOverdrawn rr then some stOverdrawn
  else if s.capQuota rr * 2 ^ 20 < s.capOthers c rr + regionSize (s.get (STR_W2.N_CH n)) i then some stCaptureTooLarge
  else if s.get (CAPU_W1.PRE c) != 0 && !s.histSel n then some stParamConflict
  else if s.capState c != 0 then some stBusy
  else if r.isNone || s.capOwner c != r then some stNotOwner
  else if s.dev = 1 then some stHeld
  else none

/-- IDLE to ARMED: the region is set aside. -/
def State.capArm (s : State) (c : Nat) : State :=
  let n := s.get (CAPU_W0.STREAM c)
  let nch := s.get (STR_W2.N_CH n)
  let pre := s.get (CAPU_W1.PRE c)
  let post := s.get (CAPU_W2.POST c)
  let size := regionSize nch (pre + post)
  (s.modCap c (fun _ =>
    { region := size, nch := nch, pre := pre, post := post, avg := s.get (CAPU_W0.AVG c), stream := n
      float := s.strKind n == 0 && s.flag (DEC_CFG.FMT n) && (s.anchorOf n).isNone })).puts
    [(CAPU_W0.STATE c, 1), (CAPU_W4.SIZE c, (size + 4095) / 4096), (CAPU_W3.FLAGS c, 0)]

/-- What an ARM bit does, by the error that refuses it: ARMERR tells three of them (R315). -/
def State.capArmOr (s : State) (c : Nat) (err : Option Nat) : State :=
  match err with
  | none => s.capArm c
  | some e =>
    if e = stCaptureTooLarge then s.put (CAPU_W0.ARMERR c) 1
    else if e = stParamConflict then s.put (CAPU_W0.ARMERR c) 2
    else if e = stNotOwner then s.put (CAPU_W0.ARMERR c) 3
    else s

/-- The ARM bit: a refusal is told in ARMERR (R315). -/
def State.capArmBit (s : State) (c : Nat) (r : Option Nat) : State := s.capArmOr c (s.armError c r)

/-- The region is discarded and the unit is IDLE (R301, R312). -/
def State.capFree (s : State) (c : Nat) : State :=
  ((s.modCap c (fun _ => {})).puts [(CAPU_W0.STATE c, 0), (CAPU_W4.SIZE c, 0)]).updOverdrawn

/-- ABORT from ARMED or ACTIVE; elsewhere it has no effect (R312). -/
def State.capAbort (s : State) (c : Nat) : State := if s.capState c = 1 || s.capState c = 2 then s.capFree c else s

/-- A CAP_SEND reads the region. -/
def State.capSending (s : State) (c : Nat) : Bool := s.trg.sends.any (fun x => x.unit == c)

/-- RELEASE of a CLOSED capture; with AUTO_REARM the unit is ARMED again (R301). -/
def State.capRelease (s : State) (c : Nat) : State :=
  if s.capState c != 3 || s.capSending c then s
  else
    let t := s.capFree c
    if t.flag (CAPU_W0.AUTO_REARM c) then t.capArmBit c (t.capOwner c) else t

/-! ## Capture commands (R436, R448, R449) -/

/-- CAP_ARM (R306, R473, R495). -/
def capArmBody (q : ReqHdr) (c : Nat) (s : State) : State :=
  if 15 < c then s.reply q 0x0401 stParamRange
  else match s.armError c (some q.session.val) with
    | some e => s.reply q 0x0401 e
    | none => (s.capArm c).reply q 0x0401 stOk

/-- CAP_ABORT (R312). -/
def capAbortBody (q : ReqHdr) (c : Nat) (s : State) : State :=
  if 15 < c then s.reply q 0x0402 stParamRange
  else if s.capOwner c != some q.session.val then s.reply q 0x0402 stNotOwner
  else if s.capState c = 3 then s.reply q 0x0402 stAlreadyDone
  else (s.capAbort c).reply q 0x0402 stOk

/-- CAP_RELEASE (R301, R436). -/
def capReleaseBody (q : ReqHdr) (c : Nat) (s : State) : State :=
  if 15 < c then s.reply q 0x0403 stParamRange
  else if s.capState c != 3 then s.reply q 0x0403 stNotReady
  else if s.capSending c then s.reply q 0x0403 stBusy
  else if s.capOwner c != some q.session.val then s.reply q 0x0403 stNotOwner
  else (s.capRelease c).reply q 0x0403 stOk

/-- CAP_READ: one block of the region of a CLOSED capture, which decodes on its own (R310, R436). -/
def capReadBody (q : ReqHdr) (c offset count level : Nat) (s : State) : State :=
  if 15 < c then s.reply q 0x0404 stParamRange
  else if s.capState c != 3 then s.reply q 0x0404 stNotReady
  else if count = 0 || 8128 < count || 9 < level || (s.cap c).region < offset + count then s.reply q 0x0404 stParamRange
  else
    s.reply q 0x0404 stOk [itData (pieceBlock level (offset + count == (s.cap c).region) [] (((s.capRegion c).drop offset).take count))]

/-- CAP_SEND starts (R436, R448, R449). -/
def capSendBody (q : ReqHdr) (c level : Nat) (dest : Option (Fin 2 × Bool × BitVec 128 × BitVec 16)) (haddr : BitVec 64) (s : State) : State :=
  s.checks q 0x0405 [(decide (c ≤ 15) && s.capState c != 3, stNotReady), (s.longsFull q, stBusy), (decide (15 < c) || decide (9 < level), stParamRange),
      (s.dev == 1, stHeld)] fun s => s.startLong q 0x0405 c fun s =>
    { s with trg := { s.trg with sends := s.trg.sends ++
      [{ session := q.session, seq := q.seq, unit := c, level := level, dest := dest, haddr := haddr }] } }

/-- The datagrams of a region (R448). -/
def State.capDatagrams (s : State) (x : CapSend) (e : Fin 2) (v6 : Bool) (a : BitVec 128) (port : BitVec 16) : State :=
  let bytes := s.capRegion x.unit
  let m := s.get (STR_PORT.MTU e.val) - (if v6 then 40 else 20) - 48
  let k := if m = 0 then 0 else (bytes.length + m - 1) / m
  (List.range k).foldl (fun (t : State) i =>
    let blk := pieceBlock x.level (i + 1 == k) [] ((bytes.drop (i * m)).take m)
    let hdr := beBytes 4 (0x4346 * 2 ^ 16 + 0x100 + x.unit * 16) ++ wordBytes x.seq ++ beBytes 4 i ++ beBytes 4 (i * m)
    t.emit (s.datagramOf e v6 a (s.get QCP_CFG.UDP_PORT) port.toNat 0 (withCrc (hdr ++ blk)))) s

/-- A UDPDEST whose next hop is not resolved (R504). -/
def State.capHop (s : State) (x : CapSend) : Option (Fin 2 × BitVec 128) :=
  match x.dest with
  | some (e, v6, a, p) =>
    if s.hopKnown e.val { v6 := v6, daddr := a, sport := 0, dport := p.toNat, dscp := 0, fragMax := 0 } then none else some (e, s.nextHopOf e.val v6 a)
  | none => none

/-- CAP_SEND_COMPLETE: the last byte is handed to the port or the bus; a destination whose next hop is unresolved waits for it (R444,
R448, R449, R504). -/
def capSendCompleteStep (session : Fin 8) (seq : BitVec 32) (s : State) : State :=
  match s.trg.sends.find? (fun x => x.session == session && x.seq == seq) with
  | none => s
  | some x =>
    match s.capHop x with
    | some (e, h) => s.askHop e.val h
    | none =>
    let t := match x.dest with
      | some (e, v6, a, p) => s.capDatagrams x e v6 a p
      | none => s.emit (.host x.haddr.toNat (s.capRegion x.unit))
    ({ t with trg := { t.trg with sends := t.trg.sends.filter (fun y => !(y.session == session && y.seq == seq)) } }).complete session.val seq stOk

/-! ## Meanings -/

/-- HISTORY_WRITE_MISS (R702). -/
def execHistoryWriteMiss (stream : Fin 64) (first len : Nat) (s : State) : Host.Outcome State Fault Refusal :=
  .next (historyWriteMissStep stream.val first len s)

/-- CAP_ARM (R306). -/
def execCapArm (q : ReqHdr) (index : Nat) (s : State) : Host.Outcome State Fault Refusal :=
  .next (s.request q 0x0401 (capArmBody q index) (operands [itIndex index]))

/-- CAP_ABORT (R312). -/
def execCapAbort (q : ReqHdr) (index : Nat) (s : State) : Host.Outcome State Fault Refusal :=
  .next (s.request q 0x0402 (capAbortBody q index) (operands [itIndex index]))

/-- CAP_RELEASE (R301). -/
def execCapRelease (q : ReqHdr) (index : Nat) (s : State) : Host.Outcome State Fault Refusal :=
  .next (s.request q 0x0403 (capReleaseBody q index) (operands [itIndex index]))

/-- CAP_READ (R436). -/
def execCapRead (q : ReqHdr) (index offset count level : Nat) (s : State) : Host.Outcome State Fault Refusal :=
  .next (s.request q 0x0404 (capReadBody q index offset count level) (operands [itIndex index, itOffset offset, itCount count, itLevel level]))

/-- CAP_SEND (R448). -/
def execCapSend (q : ReqHdr) (index level : Nat) (dest : Option (Fin 2 × Bool × BitVec 128 × BitVec 16)) (haddr : BitVec 64) (s : State) : Host.Outcome State Fault Refusal :=
  .next (s.request q 0x0405 (capSendBody q index level dest haddr)
    (operands ([itIndex index, itLevel level] ++ if dest.isNone then [itHaddr haddr.toNat] else []) ++ [(0x0011, dest.map itUdpDest)]))

/-- CAPTURE_WRITE_DEADLINE (R301). -/
def execCaptureWriteDeadline (unit : Fin 16) (close : Bool) (s : State) : Host.Outcome State Fault Refusal :=
  .next (captureWriteDeadlineStep unit.val close s)

/-- CAP_SEND_COMPLETE (R449). -/
def execCapSendComplete (session : Fin 8) (seq : BitVec 32) (s : State) : Host.Outcome State Fault Refusal :=
  .next (capSendCompleteStep session seq s)

end Sys2Proof.Machine
end

