-- ==== Sys2Proof/Machine/Triggers.lean ====
section
/-! DEFINITION. Trigger units, their actions and the event records (chapter 08, R277 to R297, R314), and what fires them:
source samples, event edges, ridge triggers and QCP commands. -/

namespace Sys2Proof.Machine

/-! ## Settings of a unit (R277, R282, R314) -/

/-- Thresholds and type of a unit as evaluation uses them; a threshold that is a NaN is none, and no comparison with it holds
(R282). -/
structure TrigSet where
  type : Nat
  pol : Bool
  wout : Bool
  hi : Option Int
  lo : Option Int
  hyst : Option Int
  t1 : Nat
  t2 : Nat
  wraps : Bool
  float : Bool

def State.trgOn (s : State) (u : Nat) : Bool := s.flag (TRGU_W0.EN u)
def State.trgKind (s : State) (u : Nat) : Nat := s.get (TRGU_W0.SRC_KIND u)
def State.trgSrc (s : State) (u : Nat) : Nat := s.get (TRGU_W0.SRC u)
def State.trgOwner (s : State) (u : Nat) : Option Nat := (s.qcp.trgOwner.getD u none).map (·.val)

/-- Channels in range of a unit. -/
def State.trgChans (s : State) (u : Nat) : Nat := s.get (TRGU_W7.CH_LAST u) + 1 - s.get (TRGU_W6.CH_FIRST u)

/-- The unit reads a FLOAT32 stream. -/
def State.trgFloat (s : State) (u : Nat) : Bool :=
  s.trgKind u == 0 && s.flag (DEC_CFG.FMT (s.trgSrc u)) && (s.anchorOf (s.trgSrc u)).isNone

/-- The unit reads a stream whose INT32 values wrap: PHASE or STRAIN, not anchored (R282). -/
def State.trgWraps (s : State) (u : Nat) : Bool :=
  s.trgKind u == 0 && decide (s.get (DEC_CFG.QTY (s.trgSrc u)) < 2) && (s.anchorOf (s.trgSrc u)).isNone

/-- A word in the source's unit, an exact integer; none for a NaN. -/
def trgVal (float : Bool) (w : Word) : Option Int := if float then f32Val w else some w.toInt

/-- The settings of a unit. -/
def State.trgSet (s : State) (u : Nat) : TrigSet :=
  let f := s.trgFloat u
  { type := s.get (TRGU_W0.TYPE u), pol := s.flag (TRGU_W0.POL u), wout := s.flag (TRGU_W0.WOUT u)
    hi := trgVal f (s.rd (TRGU_W1.HI u).addr), lo := trgVal f (s.rd (TRGU_W2.LO u).addr), hyst := trgVal f (s.rd (TRGU_W3.HYST u).addr)
    t1 := s.get (TRGU_W4.T1 u), t2 := s.get (TRGU_W5.T2 u), wraps := s.trgWraps u, float := f }

/-- x has reached a threshold. -/
def atLeast (x : Int) (t : Option Int) : Bool := t.any (fun v => decide (v ≤ x))

/-- x lies below a threshold. -/
def isBelow (x : Int) (t : Option Int) : Bool := t.any (fun v => decide (x < v))

/-- HI − HYST and LO − HYST. -/
def TrigSet.hiArm (g : TrigSet) : Option Int := g.hi.bind fun h => g.hyst.map (h - ·)
def TrigSet.loArm (g : TrigSet) : Option Int := g.lo.bind fun l => g.hyst.map (l - ·)

/-! ## Evaluation (R283 to R287) -/

/-- One source sample that a trigger unit evaluates (R277, R282): the channel, the value word, the channel's
quality code and the sample's timestamp. -/
structure TrigSample where
  ch : Nat
  value : Word
  qual : Qual
  ts : Ts
  deriving DecidableEq, Repr

/-- The initial state of a channel: armed for a timeout, disarmed otherwise (R285). -/
def trigInit (type ch : Nat) : TrigCh := { ch := ch, armed := type == 3 }

/-- A firing of one channel: its value word, magnitude source, AUX, code and timestamp. -/
structure Firing where
  ch : Nat
  value : Word
  mag : Int
  aux : Nat
  qual : Qual
  ts : Ts

/-- What an evaluation answers: the channel's state, and the value and AUX of a firing. -/
abbrev Verdict := TrigCh × Option (Int × Nat)

/-- Level (R285). -/
def evalLevel (g : TrigSet) (c : TrigCh) (x : Int) : Verdict :=
  let armed := c.armed || isBelow x g.hiArm
  if armed && atLeast x g.hi then ({ c with armed := false }, some (x, 0)) else ({ c with armed := armed }, none)

/-- Pulse width (R286): `run` counts the samples of the pulse so far. -/
def evalPulse (g : TrigSet) (c : TrigCh) (x : Int) : Verdict :=
  let past (w : Nat) : Bool := g.wout && w == g.t2 + 1
  match c.run with
  | none =>
    let armed := c.armed || isBelow x g.hiArm
    if armed && atLeast x g.hi then
      ({ c with armed := false, run := some 1, done := past 1 }, if past 1 then some (x, 1) else none)
    else ({ c with armed := armed }, none)
  | some w =>
    if isBelow x g.hiArm then
      let fires := if g.wout then !c.done && decide (w < g.t1) else decide (g.t1 ≤ w) && decide (w ≤ g.t2)
      ({ c with armed := true, run := none, done := false }, if fires then some (x, w) else none)
    else ({ c with run := some (w + 1), done := c.done || past (w + 1) }, if past (w + 1) then some (x, w + 1) else none)

/-- Runt (R287): `done` tells that HI was reached. -/
def evalRunt (g : TrigSet) (c : TrigCh) (x : Int) : Verdict :=
  match c.run with
  | none =>
    let armed := c.armed || isBelow x g.loArm
    if armed && atLeast x g.lo then ({ c with armed := false, run := some 1, done := atLeast x g.hi }, none)
    else ({ c with armed := armed }, none)
  | some w =>
    if isBelow x g.loArm then ({ c with armed := true, run := none, done := false }, if c.done then none else some (x, w))
    else ({ c with run := some (w + 1), done := c.done || atLeast x g.hi }, none)

/-- Timeout (R285). -/
def evalTimeout (g : TrigSet) (c : TrigCh) (x : Int) : Verdict :=
  if atLeast x g.hi then ({ c with armed := true, count := 0 }, none)
  else if !isBelow x g.hi then (c, none)
  else
    let n := c.count + 1
    if c.armed && decide (n = g.t1) then ({ c with armed := false, count := n }, some (x, n)) else ({ c with count := n }, none)

/-- Slew rate over the values v, the source values of a wrapping stream and x otherwise (R285). -/
def evalSlew (g : TrigSet) (c : TrigCh) (v : Int) : Verdict :=
  let h := (v :: c.hist).take (g.t1 + 1)
  if h.length = g.t1 + 1 then
    let d0 := v - h.getLastD v
    let d1 := if g.wraps then signed 32 (pattern 32 d0) else d0
    let d := if g.wraps && g.pol then -d1 else d1
    let armed := c.armed || isBelow d g.hiArm
    if armed && atLeast d g.hi then ({ c with hist := h, armed := false }, some (d, 0)) else ({ c with hist := h, armed := armed }, none)
  else ({ c with hist := h }, none)

/-- Evaluate one sample on one channel (R282, R283, R285). The increment of a wrapping stream needs a previous sample;
the first one after the initial state is taken as that only. -/
def evalChan (g : TrigSet) (excl : Nat) (c : TrigCh) (x : TrigSample) : Verdict :=
  let code := qualCode x.qual
  let gone := x.qual == .gap || (code != 0 && excl / 2 ^ (code - 1) % 2 == 1)
  match trgVal g.float x.value with
  | none => if gone then (trigInit g.type c.ch, none) else (c, none)
  | some v =>
    if gone then ({ trigInit g.type c.ch with prev := if x.qual = .gap then none else some v }, none)
    else
      let c2 := { c with prev := some v }
      if g.type = 4 then evalSlew g c2 (if g.pol && !g.wraps then -v else v)
      else
        match g.wraps, c.prev with
        | true, none => (c2, none)
        | w, p =>
          let raw := if w then signed 32 (pattern 32 (v - p.getD 0)) else v
          let y := if g.pol then -raw else raw
          match g.type with
          | 0 => evalLevel g c2 y
          | 1 => evalPulse g c2 y
          | 2 => evalRunt g c2 y
          | _ => evalTimeout g c2 y

/-- The 32-bit VALUE of a firing. -/
def valueWord (float : Bool) (x : Int) : Word := if float then toF32 x (2 ^ 149) else BitVec.ofInt 32 x

/-- Return every channel of some units to the initial state (R281, R284). -/
def State.resetUnits (s : State) (which : Nat → Bool) : State :=
  { s with trg := { s.trg with ch := s.trg.ch.zipIdx.map (fun (p : List TrigCh × Nat) => if which p.2 then [] else p.1) } }

/-- A unit reads a source: a stream, a port's Brillouin records, a reed output, a field input or a ridge identifier (R277). -/
def State.trgReads (s : State) (u kind src : Nat) : Bool :=
  s.trgOn u && s.trgKind u == kind && (kind == 1 || kind == 2 || (if kind == 6 then s.get (TRGU_W0.RIDGE_ID u) == src else s.trgSrc u == src))

/-- The device is in SHADOW, where its trigger units produce nothing (R582). -/
def State.trgMute (s : State) : Bool := s.dev == 4 || (s.dev == 5 && s.light.safeFrom == 4)

/-- A sample instant of a source goes to the trigger engine, where an enabled unit reads the source (R277, R289). -/
def State.trgOffer (s : State) (x : TrigIn) : State :=
  if s.trgMute || !(List.range 64).any (fun u => s.trgReads u x.kind x.src) then s
  else { s with trg := { s.trg with inq := s.trg.inq ++ [x] } }

/-- A restart follows the last waiting instant of a source. -/
def markReset (kind src : Nat) : List TrigIn → List TrigIn
  | [] => []
  | e :: t =>
    if e.kind == kind && e.src == src && !t.any (fun x => x.kind == kind && x.src == src) then { e with reset := true } :: t
    else e :: markReset kind src t

/-- A source restarts, or an absence of it: every unit that reads it returns to its initial state, after the instants that were
before (R284). -/
def State.resetSource (s : State) (kind src : Nat) : State :=
  if s.trg.inq.any (fun x => x.kind == kind && x.src == src) then { s with trg := { s.trg with inq := markReset kind src s.trg.inq } }
  else s.resetUnits (fun u => s.trgReads u kind src)

/-- A restart of a stream, or an absence, reaches every unit that reads it, through its reed outputs too (R284). -/
def State.resetUnitsOf (s : State) (n : Nat) : State :=
  (List.range 16).foldl (fun (t : State) o => if (t.feedOf o).stream = n then t.resetSource 3 o else t) (s.resetSource 0 n)

/-! ## Event records (R293 to R297) -/

/-- Records in the buffer; the reserved gap slots are beside it. -/
def State.occ (s : State) : Nat := (s.trg.buf.filter (fun e => !e.gapSlot)).length

/-- OCC follows the buffer. -/
def State.updOcc (s : State) : State := s.put TRG_STATUS.OCC s.occ

/-- The coalescing decision at a source sample instant, once for all its units and sources (R295). -/
def State.coalesce (s : State) (inst : Int) : State :=
  if s.trg.coalAt = some inst then s
  else
    let t := { s with trg := { s.trg with coalAt := some inst } }
    if s.get TRG_COAL.ON * 256 ≤ s.occ then t.put TRG_STATUS.COAL 1
    else if s.occ < s.get TRG_COAL.OFF * 256 then t.put TRG_STATUS.COAL 0
    else t

/-- The 8 words of a record (R293). -/
def recordWords (kind type unit chF chL qual : Nat) (rseq : BitVec 16) (ts : Ts) (value : Word) (aux : Nat) (epoch : BitVec 32) : List Word :=
  let sec := secOf ts
  [kind * 2 ^ 30 + type * 2 ^ 27 + unit * 2 ^ 18 + chF, qual * 2 ^ 28 + chL, rseq.toNat * 2 ^ 16 + sec / 2 ^ 32 % 2 ^ 16, sec, nsOf ts,
    value.toNat, min aux (2 ^ 32 - 1), epoch.toNat].map (BitVec.ofNat 32)

/-- Queue a record: the next RSEQ, one more in TRG_RECCNT. -/
def State.queueRec (s : State) (u : Fin 64) (gapSlot : Bool) (mk : BitVec 16 → List Word) : State :=
  let e : EvRec := { unit := u, words := mk s.trg.rseq, gapSlot := gapSlot }
  ({ s with trg := { s.trg with buf := s.trg.buf ++ [e], rseq := s.trg.rseq + 1 } }).count TRG_RECCNT.COUNT

/-- The unit's open gap record is queued in its reserved slot once that is free (R296). -/
def State.queueGap (s : State) (u : Fin 64) : State :=
  match s.trg.gaps.find? (fun g => g.unit == u) with
  | none => s
  | some g =>
    if s.trg.buf.any (fun e => e.gapSlot && e.unit == u) then s
    else
      let t := { s with trg := { s.trg with gaps := s.trg.gaps.filter (fun (x : GapRec) => !(x.unit == u)) } }
      t.queueRec u true (fun q => recordWords 2 (s.get (TRGU_W0.TYPE u.val)) u.val g.chFirst g.chLast 4 q g.first (BitVec.ofNat 32 g.lost)
        ((g.lastInst - g.firstInst) / (1000 * ns : Nat)).toNat g.epoch)

/-- A record of a sample instant is lost: its channel firings go to the unit's open gap record (R296). -/
def State.loseRec (s : State) (u : Fin 64) (l : List Firing) (epoch : BitVec 32) (inst : Int) : State :=
  let ts := (l.head?.map (·.ts)).getD 0
  let lo := (l.map (·.ch)).foldl min ((l.head?.map (·.ch)).getD 0)
  let hi := maxN (l.map (·.ch))
  let g : GapRec := match s.trg.gaps.find? (fun g => g.unit == u) with
    | some g => { g with lost := g.lost + l.length, lastInst := inst, chFirst := min g.chFirst lo, chLast := max g.chLast hi }
    | none => { unit := u, lost := l.length, first := ts, firstInst := inst, lastInst := inst, chFirst := lo, chLast := hi, epoch := epoch }
  (({ s with trg := { s.trg with gaps := s.trg.gaps.filter (fun (x : GapRec) => !(x.unit == u)) ++ [g] } }).count TRG_LOSTCNT.COUNT l.length).put
    TRG_STATUS.LOST 1

/-- The firings of one instant cut into records: runs of consecutive channels while coalescing is on (R295). -/
def groupRuns (coal : Bool) : List Firing → List (List Firing)
  | [] => []
  | f :: t =>
    match groupRuns coal t with
    | (g :: gs) :: r => if coal && g.ch == f.ch + 1 then (f :: g :: gs) :: r else [f] :: (g :: gs) :: r
    | r => [f] :: r

/-- A single record or a span record (R293). -/
def State.groupWords (s : State) (u : Nat) (l : List Firing) (epoch : BitVec 32) (rseq : BitVec 16) : List Word :=
  let type := s.get (TRGU_W0.TYPE u)
  let cold (q : Qual) : Qual := if s.tbCold then worseQual q .tbCold else q
  match l with
  | [f] => recordWords 0 type u f.ch f.ch (qualCode (cold f.qual)) rseq f.ts f.value f.aux epoch
  | f :: t =>
    let top := t.foldl (fun (b : Firing) x => if b.mag.natAbs < x.mag.natAbs then x else b) f
    let last := t.getLastD f
    recordWords 1 type u f.ch last.ch (qualCode (cold (worstQual (l.map (·.qual))))) rseq f.ts top.value top.ch epoch
  | [] => []

/-! ## Actions (R290 to R292) -/

/-- Bits of ACT. -/
def State.trgAct (s : State) (u bit : Nat) : Bool := s.get (TRGU_W0.ACT u) / 2 ^ bit % 2 == 1

/-- One firing's IRQ, CAPTURE and RIDGE; its origin time is now (R289, R290). -/
def State.trgActions (s : State) (u : Nat) (ts : Ts) : State :=
  let t := if s.trgAct u 2 then (s.put TRG_STATUS.IRQ 1).msiSince s else s
  let t := if s.trgAct u 0 then t.capExecute (t.get (TRGU_W0.CAP u)) (ts / ns : Nat) false { inst := t.now, ridge := false, first := u } else t
  if s.trgAct u 1 then
    let id := t.get (TRGU_W0.RIDGE_ID u)
    (t.sendRidgeTrigger t.now ts id).trgOffer { kind := 6, src := id, inst := ts, raw := ts, epoch := t.epoch, vals := [(0, .good)] }
  else t

/-- A unit's part of a sample instant: its records in channel order, and its actions (R290, R295 to R297). -/
def State.fireInstant (s : State) (u : Fin 64) (l : List Firing) (epoch : BitVec 32) (inst : Int) : State :=
  let ev := s.trgAct u.val 3
  let groups := groupRuns (ev && s.flag TRG_STATUS.COAL) l
  let room := 65536 - s.occ
  let s2 := if !ev || groups.length ≤ room then s.queueGap u else s
  let s3 := if ev then
      (groups.drop room).foldl (fun (t : State) g => t.loseRec u g epoch inst)
        ((groups.take room).foldl (fun (t : State) g => t.queueRec u false (s.groupWords u.val g epoch)) s2)
    else s2
  (groups.foldl (fun (t : State) g => t.trgActions u.val ((g.head?.map (·.ts)).getD 0)) s3).updOcc

/-- The samples of a source's instant in a unit's range, in channel order (R277, R297); a stream's channels are timestamped by
R217. -/
def State.trgSamples (s : State) (u : Nat) (x : TrigIn) : List TrigSample :=
  let c0 := s.get (TRGU_W6.CH_FIRST u)
  ((x.vals.drop c0).take (s.trgChans u)).zipIdx.map (fun e =>
    { ch := c0 + e.2, value := e.1.1, qual := e.1.2, ts := (roundEvenI (x.raw + ((c0 + e.2) * x.chDt : Nat)) ns).toNat * ns })

/-- Samples evaluated on their channels: the channels' new states and the firings, in channel order (R285, R297). -/
def trgRun (g : TrigSet) (excl : Nat) (chs : List TrigCh) (l : List TrigSample) : List TrigCh × List Firing :=
  l.foldl (fun (acc : List TrigCh × List Firing) x =>
    let c := (acc.1.find? (fun c => c.ch == x.ch)).getD (trigInit g.type x.ch)
    let v := evalChan g excl c x
    (v.1 :: acc.1.filter (fun (y : TrigCh) => !(y.ch == x.ch)),
      match v.2 with
      | some (y, aux) => acc.2 ++ [{ ch := x.ch, value := valueWord g.float y, mag := y, aux := aux, qual := x.qual, ts := x.ts }]
      | none => acc.2)) (chs, [])

/-- A unit evaluates a sample instant of its source (R277, R282 to R287, R290). -/
def State.evalUnit (s : State) (u : Fin 64) (x : TrigIn) : State :=
  let r := trgRun (s.trgSet u.val) (s.get (TRGU_W6.EXCL u.val)) (s.trg.ch.getD u.val []) (s.trgSamples u.val x)
  ({ s with trg := { s.trg with ch := setAt s.trg.ch u.val r.1 } }).fireInstant u r.2 x.epoch x.inst

/-- A unit of SRC_KIND 5, 6 or 7 fires once; its record's VALUE is a free value (R278, R293). -/
def State.fireOnce (s : State) (u : Fin 64) (ts : Ts) : State :=
  s.drew.fireInstant u [{ ch := 0, value := BitVec.ofNat 32 s.freeVal, mag := 0, aux := 0, qual := .good, ts := ts }] s.epoch ts

/-- Fire every enabled unit of a kind that a condition picks, in unit order; in SHADOW none (R582). -/
def State.fireUnits (s : State) (kind : Nat) (pick : Nat → Bool) (ts : Ts) : State :=
  if s.trgMute then s
  else (List.finRange 64).foldl (fun (t : State) u => if t.trgOn u.val && t.trgKind u.val == kind && pick u.val then t.fireOnce u ts else t)
    (s.coalesce ts)

/-- One source's instant reaches one unit. -/
def State.unitTakes (s : State) (u : Fin 64) (x : TrigIn) : State :=
  if !s.trgReads u.val x.kind x.src then s
  else if x.kind = 6 then s.fireOnce u x.raw.toNat
  else s.evalUnit u x

/-- TRIGGER_EVALUATE: the oldest waiting sample instant of a source, with every other source that has one at that instant, unit by
unit; restarts that follow reach the units after it (R277, R284, R290, R295 to R297; log entry 169). -/
def triggerEvaluateStep (kind src : Nat) (s : State) : State :=
  match s.trg.inq.find? (fun x => x.kind == kind && x.src == src) with
  | none => s
  | some e =>
    let mine := s.trg.inq.filter (fun x => x.inst == e.inst)
    let s1 := ({ s with trg := { s.trg with inq := s.trg.inq.filter (fun x => !(x.inst == e.inst)) } }).coalesce e.inst
    let s2 := (List.finRange 64).foldl (fun (t : State) u => mine.foldl (fun (t : State) x => t.unitTakes u x) t) s1
    s2.resetUnits (fun u => mine.any (fun x => x.reset && s2.trgReads u x.kind x.src))

/-! ## Delivery (R294, R446) -/

/-- The EVENT stream of a session that runs. -/
def State.eventStreamOf (s : State) (r : Nat) : Option Nat :=
  (List.range 64).find? (fun n => s.strKind n == 3 && s.strState n == 1 && s.strOwner n == some r)

/-- The stream a record goes to: its unit's owner's EVENT stream. -/
def State.recStream (s : State) (e : EvRec) : Option Nat :=
  match s.trgOwner e.unit.val with
  | some r => s.eventStreamOf r
  | none => none

/-- EVENT_RECORD_DELIVER: the oldest record with an EVENT stream to take it enters that stream (R294, R377). -/
def eventRecordDeliverStep (s : State) : State :=
  match s.trg.buf.find? (fun e => (s.recStream e).isSome) with
  | none => s
  | some e =>
    match s.recStream e with
    | none => s
    | some n =>
      let w (i : Nat) : Nat := (e.words.getD i 0).toNat
      let ts : Int := (w 2 % 2 ^ 16 * 2 ^ 32 + w 3) * 1000000000 + w 4
      let t := ({ s with trg := { s.trg with buf := s.trg.buf.erase e } }).updOcc
      t.pushOut n
        { idx := ((t.str n).next).getD 0, ts := ts, chDt := 0, period := 0, epoch := e.words.getD 7 0, bank := t.bank == 1
          vals := [(e.words, .good)] }

/-- EVENT_READ: records of the session's own units, oldest first; they are not returned again (R446). -/
def eventReadBody (q : ReqHdr) (count : Nat) (s : State) : State :=
  if count = 0 || 254 < count then s.reply q 0x0303 stParamRange
  else
    let mine := (s.trg.buf.filter (fun e => s.trgOwner e.unit.val == some q.session.val)).take count
    let t := ({ s with trg := { s.trg with buf := mine.foldl (fun (l : List EvRec) e => l.erase e) s.trg.buf } }).updOcc
    t.reply q 0x0303 stOk [itWords (mine.flatMap (·.words))]

/-- TRIGGER: a command to a unit of SRC_KIND 7, by its owner (R278, R495). -/
def triggerBody (q : ReqHdr) (u : Nat) (ingress : Ts) (s : State) : State :=
  if h : u < 64 then
    if !s.trgOn u || s.trgKind u != 7 then s.reply q 0x0400 stParamConflict
    else if s.trgOwner u != some q.session.val then s.reply q 0x0400 stNotOwner
    else if s.dev = 1 then s.reply q 0x0400 stHeld
    else (if s.trgMute then s else (s.coalesce ingress).fireOnce ⟨u, h⟩ ingress).reply q 0x0400 stOk
  else s.reply q 0x0400 stParamRange

/-! ## Ridge triggers (R291, R292, R302, R566) -/

/-- RIDGE_TRIGGER_FRAME: scheduled at origin time + the carried horizon, and taken by the units of SRC_KIND 6 with its
identifier (R278, R291, R566). -/
def ridgeTriggerFrameStep (h : RidgeHdr) (tref : Ts) (id : BitVec 8) (horizon : Nat) (s : State) : State :=
  s.ringFrame h 5 (timeBytes tref ++ beBytes 1 id.toNat ++ beBytes 3 0 ++ beBytes 4 horizon) fun s =>
    let at_ := h.time + horizon * 1000 * ns
    let g : RidgeTrig := { execAt := at_, tref := tref, id := id, origin := h.origin, seq := h.seq, late := decide (at_ < s.now) }
    let t := { s with ridge := { s.ridge with trigs := s.ridge.trigs ++ [g] } }
    t.fireUnits 6 (fun u => t.get (TRGU_W0.RIDGE_ID u) == id.toNat) tref

/-- Order of execution: earlier first; at one instant lower NODE_ID, then lower SEQ (R302). -/
def RidgeTrig.before (a b : RidgeTrig) : Bool :=
  decide (a.execAt < b.execAt) || (a.execAt == b.execAt && (decide (a.origin < b.origin) || (a.origin == b.origin && decide (a.seq < b.seq))))

/-- RIDGE_TRIGGER_EXECUTE: the next scheduled trigger reaches every capture unit that accepts its identifier (R291, R292,
R301, R302). -/
def ridgeTriggerExecuteStep (s : State) : State :=
  match s.ridge.trigs with
  | [] => s
  | a :: rest =>
    let g := rest.foldl (fun (b : RidgeTrig) x => if x.before b then x else b) a
    let t := ({ s with ridge := { s.ridge with trigs := s.ridge.trigs.erase g } }).at g.execAt
    (List.range 16).foldl (fun (t : State) c =>
      if t.flag (CAPU_W0.RIDGE_EN c) && t.get (CAPU_W0.RIDGE_ID c) == g.id.toNat then t.capExecute c (g.tref / ns : Nat) g.late
          { inst := if g.late then t.now else g.execAt, ridge := true, first := g.origin.toNat, second := g.seq.toNat }
      else t) t

/-! ## Meanings -/

/-- TRIGGER_EVALUATE (R285). -/
def execTriggerEvaluate (kind : Fin 8) (src : Nat) (s : State) : Host.Outcome State Fault Refusal :=
  .next (triggerEvaluateStep kind.val src s)

/-- EVENT_READ (R446). -/
def execEventRead (q : ReqHdr) (count : Nat) (s : State) : Host.Outcome State Fault Refusal :=
  .next (s.request q 0x0303 (eventReadBody q count) (operands [itCount count]))

/-- TRIGGER (R278). -/
def execTrigger (q : ReqHdr) (index : Nat) (ingress : Ts) (s : State) : Host.Outcome State Fault Refusal :=
  .next (s.request q 0x0400 (triggerBody q index ingress) (operands [itIndex index]))

/-- RIDGE_TRIGGER_FRAME (R566). -/
def execRidgeTriggerFrame (h : RidgeHdr) (tref : Ts) (ridgeId : BitVec 8) (horizon : Nat) (s : State) : Host.Outcome State Fault Refusal :=
  .next (ridgeTriggerFrameStep h tref ridgeId horizon s)

/-- RIDGE_TRIGGER_EXECUTE (R291). -/
def execRidgeTriggerExecute (s : State) : Host.Outcome State Fault Refusal := .next (ridgeTriggerExecuteStep s)

/-- EVENT_RECORD_DELIVER (R294). -/
def execEventRecordDeliver (s : State) : Host.Outcome State Fault Refusal := .next (eventRecordDeliverStep s)

end Sys2Proof.Machine
end

