-- ==== Sys2Proof/Machine/Receiver.lean ====
section
/-! DEFINITION. The receiver (chapter 04): automatic gain control, clipping marks and counts, and the reference
interferometer. -/

namespace Sys2Proof.Machine

/-! ## Gain steps (R131 to R145) -/

/-- The gain control of a path: the Brillouin path where `brl`. -/
def State.agc (s : State) (p : Port) (brl : Bool) : Agc :=
  match p, brl with
  | .a, false => s.rx.dasA
  | .b, false => s.rx.dasB
  | .a, true => s.rx.brlA
  | .b, true => s.rx.brlB

/-- Change the gain control of a path. -/
def State.modAgc (s : State) (p : Port) (brl : Bool) (f : Agc → Agc) : State :=
  match p, brl with
  | .a, false => { s with rx := { s.rx with dasA := f s.rx.dasA } }
  | .b, false => { s with rx := { s.rx with dasB := f s.rx.dasB } }
  | .a, true => { s with rx := { s.rx with brlA := f s.rx.brlA } }
  | .b, true => { s with rx := { s.rx with brlB := f s.rx.brlB } }

/-- Fields of a path: code in force, committed code, AGC enable. -/
def actFld (p : Port) (brl : Bool) : Fld := if brl then RX_GAIN.BRL_ACT p.idx else RX_GAIN.DAS_ACT p.idx
def codeFld (p : Port) (brl : Bool) : Fld := if brl then RX_GAIN.BRL_CODE p.idx else RX_GAIN.DAS_CODE p.idx
def agcFld (p : Port) (brl : Bool) : Fld := if brl then RX_GAIN.BRL_AGC p.idx else RX_GAIN.DAS_AGC p.idx

/-- A peak magnitude lies below 2,047 × 10^(−LOW_DBFS/20) (R141). -/
def quietPeak (peak low : Nat) : Bool := decide (peak ^ 20 * 10 ^ low < 2047 ^ 20)

/-- Boundary of the newest shot a port launched, on the local clock. -/
def State.lastShot (s : State) (p : Port) : Option Ts := (s.shots p).head?.map (·.1)

/-- The counting interval of the sweep in progress, from 1 µs before its start, holds part of the return window of a shot the port
launched (R139). -/
def State.agcHeld (s : State) (p : Port) : Bool :=
  match s.lastShot p with
  | some t => decide (s.onClock s.grid.start < t + s.tSw + 1000 * ns)
  | none => false

/-- A sample of the interval, n in 0.25 ns from the sweep boundary, lies within RX_AGC_IGN.BINS × P of a shot boundary of its port
plus that shot's duration, of the shots as they were launched (R143). -/
def State.agcIgnored (s : State) (p : Port) (n : Int) : Bool :=
  let t : Int := s.onClock s.grid.start + 16384 * n
  (s.shots p).any (fun e =>
    decide ((e.1 : Int) ≤ t) && decide (t < e.1 + ((s.get (RX_AGC_IGN.BINS p.idx) * s.binNs p + e.2) * ns : Nat)))

/-- The codes of an interval's lane that count toward the gain control, with the interval's first sample 1 µs before the sweep
boundary (R139, R143). -/
def State.agcCodes (s : State) (p : Port) (l : List Int) : List Int :=
  (l.zipIdx.filter (fun e => !s.agcIgnored p ((e.2 : Int) - 4000))).map (·.1)

/-- What a closed interval decides from its clipped samples and its peak (R139 to R141). -/
def State.agcDecide (s : State) (p : Port) (brl held : Bool) (clips peak : Nat) (a : Agc) : Agc :=
  let code := s.get (actFld p brl)
  let a := { a with clips := clips, peak := peak }
  if !held then { a with quiet := 0, step := 0 }
  else if s.get RX_AGC.CLIP_HI < clips then { a with quiet := 0, step := if code = 0 then 0 else -1 }
  else if clips = 0 && quietPeak peak (s.get RX_AGC.LOW_DBFS) then
    { a with quiet := a.quiet + 1, step := if s.get RX_AGC.HOLD ≤ a.quiet + 1 && code < 7 then 1 else 0 }
  else { a with quiet := 0, step := 0 }

/-- RX_STATUS bit of a lane. -/
def clipFld (lane : Nat) : Fld :=
  if 16 ≤ lane then RX_STATUS.REF_CLIP
  else match lane / 4 with
    | 0 => RX_STATUS.DAS_CLIP_A
    | 1 => RX_STATUS.BRL_CLIP_A
    | 2 => RX_STATUS.DAS_CLIP_B
    | _ => RX_STATUS.BRL_CLIP_B

/-- Count a lane's clipped samples (R148). -/
def State.countLane (s : State) (lane n : Nat) : State :=
  if n = 0 then s else (s.count (RX_CLIPCNT.COUNT lane) n).put (clipFld lane) 1

/-- Every clipped sample of an interval is counted in its lane's counter; those of lanes 16 and 17 with PORT_A's DAS path, so that
each is counted once (R148). -/
def State.countClips (s : State) (p : Port) (brl : Bool) (lanes : List (List Int)) (refs : List (Int × Int)) : State :=
  let l := 8 * p.idx + (if brl then 4 else 0)
  let t := lanes.zipIdx.foldl (fun (u : State) (e : List Int × Nat) => u.countLane (l + e.2) (e.1.countP clipped12)) s
  if p = .a && !brl then
    (t.countLane 16 (refs.countP (fun r => clipped14 r.1))).countLane 17 (refs.countP (fun r => clipped14 r.2))
  else t

/-- AGC_INTERVAL_END: the interval's codes on the four lanes of a path, and on lanes 16 and 17; every clipped sample is counted, dark
or not, and where a sweep runs and the path's control is enabled the step the interval decides waits for the sweep boundary (R139 to R141,
R148). -/
def agcIntervalEndStep (p : Port) (brl : Bool) (lanes : List (List Int)) (refs : List (Int × Int)) (s : State) : State :=
  let t := s.countClips p brl lanes refs
  if s.grid.running && s.grid.started && s.flag (agcFld p brl) then
    let l := lanes.flatMap (s.agcCodes p)
    t.modAgc p brl (s.agcDecide p brl (s.agcHeld p) (l.countP clipped12) (maxN (l.map Int.natAbs)))
  else t

/-- The shots marked after a gain step: those whose return window holds the boundary, and those of the 2 sweeps that begin
there; the former carry the new code for their samples after it (R133, R136). A sweep starts less than 1 ns after its grid time, so
a window that ends within 1 ns of the boundary ends at it (R15). -/
def State.gainMarks (s : State) (p : Port) (brl : Bool) (boundary : Ts) : State :=
  let g := s.get (actFld p brl)
  let held (i : Inflight) : Bool := i.port == p && decide (boundary + ns ≤ i.clk + i.tsw * 5 * ns)
  let das (i : Inflight) : Inflight := if held i then { i with unsettled := true, dasNext := some g } else i
  let brl_ (i : Inflight) : Inflight := if held i then { i with brlUns := true, brlNext := some g } else i
  if brl then ({ s with brl := { s.brl with inflight := s.brl.inflight.map brl_ } }).unsettleBrl p
  else ({ s with grid := { s.grid with inflight := s.grid.inflight.map das } }).unsettleDas p

/-- One path at a sweep boundary: an automatic step, unless HOLD boundaries since the last have not passed (R132, R142). -/
def State.gainBoundary (s : State) (p : Port) (brl : Bool) (boundary : Ts) : State :=
  let a := s.agc p brl
  let t := s.modAgc p brl (fun a => { a with wait := a.wait - 1, step := 0 })
  if a.step = 0 || 1 < a.wait || !s.flag (agcFld p brl) then t
  else
    let t := t.modAgc p brl (fun a => { a with quiet := 0, wait := s.get RX_AGC.HOLD })
    ((t.put (actFld p brl) ((s.get (actFld p brl) : Int) + a.step).toNat).count RX_STATUS.GSTEPS).gainMarks p brl boundary

/-- A COMMIT of a path's code or enable at its epoch boundary: the committed code is the one in force, the automatic step
is discarded and HOLD starts again (R137, R138, R144, R145). -/
def State.gainCommit (s : State) (p : Port) (brl : Bool) (boundary : Ts) : State :=
  let t := s.modAgc p brl (fun _ => { wait := s.get RX_AGC.HOLD + 1 })
  if s.get (codeFld p brl) = s.get (actFld p brl) then t
  else (t.put (actFld p brl) (s.get (codeFld p brl))).gainMarks p brl boundary

/-! ## Reference interferometer (R161, R167) -/

/-- VIS over some samples of lanes 16 and 17: the mean fringe amplitude √(I² + Q²) as a fraction of the factory's, in 1/4,096 (R161). -/
def fringeVis (refs : List (Int × Int)) : Nat :=
  let sum := sumN (refs.map (fun r => Nat.sqrt ((r.1 * r.1 + r.2 * r.2).toNat * 65536)))
  min 65535 (divNear (sum * 4096 : Nat) (max 1 (refs.length * 256 * Config.fringe))).toNat

/-- RX_REF.VIS follows the last 1 ms of lanes 16 and 17: 250,000 samples. -/
def State.measureVis (s : State) (refs : List (Int × Int)) : State :=
  if refs.length < 250000 then s else s.put RX_REF.VIS (fringeVis (refs.take 250000))

/-- REF_VIS_LOW: the samples of 1 ms during which VIS has stayed on one side of half; below half it is an event, and cancellation
follows it at the next sweep boundary (R161, R167). REF_LOW is set when VIS turns low: one cleared while VIS stays low is not
set again (DESIGN CHOICE: log entry 145). -/
def refVisLowStep (refs : List (Int × Int)) (s : State) : State :=
  let low := decide (fringeVis refs < 2048)
  let t := ({ s with rx := { s.rx with visLow := low } }).put RX_REF.VIS (fringeVis refs)
  if low && !s.rx.visLow then (t.put RX_STATUS.REF_LOW 1).eventAll 0x0104 0 else t

/-- Cancellation is suspended or resumes at a sweep boundary (R167, R168). -/
def State.lncBoundary (s : State) : State :=
  if s.rx.visLow == s.flag PHS_STATUS.LNC_SUSP then s
  else
    let t := s.putFlag PHS_STATUS.LNC_SUSP s.rx.visLow
    let t := if s.flag PHS_CTRL.LNC_A then t.unsettleDas .a else t
    if s.flag PHS_CTRL.LNC_B then t.unsettleDas .b else t

/-! ## Meanings -/

/-- AGC_INTERVAL_END (R139). -/
def execAgcIntervalEnd (port : Port) (brl : Bool) (lanes : List (List Int)) (refI refQ : List Int) (s : State) :
    Host.Outcome State Fault Refusal :=
  .next (agcIntervalEndStep port brl lanes (refI.zip refQ) s)

/-- REF_VIS_LOW (R161). -/
def execRefVisLow (refs : List (Int × Int)) (s : State) : Host.Outcome State Fault Refusal := .next (refVisLowStep refs s)

end Sys2Proof.Machine
end

