-- ==== Sys2Proof/Machine/Spectrum.lean ====
section
/-! DEFINITION. The arithmetic of Brillouin spectra and anchors (chapter 07): spectral points, the part of a probe's energy inside
a band, the fit of R253 and the anchor's gain. -/

namespace Sys2Proof.Machine

/-! ## Window and points (R238 to R240) -/

/-- W in Hz (R238), and the usable half band of a slot (R238). -/
def windowHz (wide : Bool) : Nat := if wide then 190000000 else 90000000
def usableHz (wide : Bool) : Nat := if wide then 200000000 else 80000000

/-- Δ = f_B − ν_i in Hz (R239, R240). -/
def pointOffset (wide : Bool) (npt i : Nat) : Int := (windowHz wide : Int) / npt * ((npt : Int) - 2 * i - 1)

/-! ## The part of a probe inside the usable band (R243) -/

/-- π² in 10^-19. -/
def piSquared : Nat := 98696044010893586188

/-- Energy of a rectangular probe of some ns in a cell of 100 kHz about a frequency in Hz, in 2^-40 of its whole energy: the square
of sin(π f DUR) / (π f DUR), times DUR. -/
def rectCell (dur : Nat) (f : Int) : Nat :=
  if f = 0 then dur * 2 ^ 40 / 10000
  else
    let r := (Config.cis (f * dur) 2000000000).2.natAbs
    -- (r / 2^30)² × 10^5 × 10^9 × 10^19 / (π² × f² × dur), in 2^-40
    r * r * 10 ^ 33 / (2 ^ 20 * piSquared * f.natAbs * f.natAbs * dur)

/-- Part of a rectangular probe's energy between two frequencies about its centre, in 2^-16, by cells of 100 kHz (R243; log entry
151). -/
def rectFraction (dur : Nat) (lo hi : Int) : Nat :=
  sumN ((List.range ((hi - lo) / 100000).toNat).map (fun (k : Nat) => rectCell dur (lo + 50000 + 100000 * k))) / 2 ^ 24

/-- The fraction of R243 as a quotient. -/
def probeFraction (i : Inflight) (wide : Bool) (npt : Nat) : Nat × Nat :=
  let d := pointOffset wide npt i.point
  let u : Int := usableHz wide
  if i.bw = 0 then (rectFraction i.dur (-u - d) (u - d), 65536)
  else
    let b : Int := i.bw * 500000
    ((max 0 (min (d + b) u - max (d - b) (-u))).toNat, i.bw * 1000000)

/-! ## The fit (R253) -/

/-- The curve B + A_pk / (1 + (2 (ν − ν_B) / Γ)²): powers in 2^-16, ν_B and Γ in Hz. -/
structure Lorentz where
  b : Int
  a : Int
  nu : Int
  gam : Int
  deriving DecidableEq, Repr

/-- A point of a spectrum: its frequency in Hz, its mean power in 2^-16, and its count. -/
structure SpecPoint where
  hz : Int
  p : Int
  n : Nat
  deriving DecidableEq, Repr

/-- The curve's power at a frequency. -/
def Lorentz.at_ (x : Lorentz) (hz : Int) : Int :=
  let g := (x.gam * x.gam).toNat
  let d := (hz - x.nu).natAbs
  x.b + divNear (x.a * g) (max 1 (g + 4 * d * d))

/-- The points of a bin from its sums and counts, with f_B in kHz (R239, R253). -/
def specPoints (fb : Nat) (wide : Bool) (npt : Nat) (sums : List (Nat × Nat)) : List SpecPoint :=
  sums.zipIdx.map (fun (e : (Nat × Nat) × Nat) =>
    { hz := (fb : Int) * 1000 - pointOffset wide npt e.2, p := divNear (e.1.1 * 65536 : Nat) (max 1 e.1.2), n := e.1.2 })

/-- The start of the fit: the point of greatest power, the first among equals, Γ = 30 MHz, and B the smallest power. -/
def Lorentz.start (l : List SpecPoint) : Lorentz :=
  let top : SpecPoint := l.foldl (fun (best : SpecPoint) x => if best.p < x.p then x else best) (l.headD { hz := 0, p := 0, n := 0 })
  let low := l.foldl (fun (m : Int) x => min m x.p) top.p
  { b := low, a := top.p - low, nu := top.hz, gam := 30000000 }

/-- The derivatives of the curve at a frequency by B, A_pk, ν_B and Γ, the last two times Γ, in 2^-16. -/
def Lorentz.slope (x : Lorentz) (hz : Int) (k : Nat) : Int :=
  let g := x.gam * x.gam
  let d := hz - x.nu
  let q := (max 1 (g + 4 * d * d)).toNat
  match k with
  | 0 => 65536
  | 1 => divNear (65536 * g) q
  | 2 => divNear (8 * x.a * d * x.gam * g) (q * q)
  | _ => divNear (8 * x.a * d * d * g) (q * q)

/-- The determinant of a square matrix, by its first row. -/
def det : Nat → (Nat → Nat → Int) → Int
  | 0, _ => 1
  | n + 1, m => sumI ((List.range (n + 1)).map (fun j => (-1) ^ j * m 0 j * det n (fun i k => m (i + 1) (if k < j then k else k + 1))))

/-- The normal equations of a fit: the matrix of the products of the derivatives, and their products with the residuals, over the points.
The weight that a point's count gives it is open. -/
def Lorentz.normal (x : Lorentz) (l : List SpecPoint) (i j : Nat) : Int :=
  sumI (l.map (fun e => Config.lmWeight e.n * x.slope e.hz i * x.slope e.hz j))
def Lorentz.pull (x : Lorentz) (l : List SpecPoint) (i : Nat) : Int :=
  sumI (l.map (fun e => Config.lmWeight e.n * x.slope e.hz i * (e.p - x.at_ e.hz)))

/-- One Levenberg–Marquardt iteration: the solution of the normal equations with their diagonal damped. How it is damped is not stated:
what the diagonal grows by is open. -/
def Lorentz.next (l : List SpecPoint) (it : Nat) (x : Lorentz) : Lorentz :=
  let damp (k : Nat) : Nat := Config.lmDamp (l.map (fun e => (e.hz, e.p, e.n))) it (x.b, x.a, x.nu, x.gam) k
  let m (i j : Nat) : Int := x.normal l i j + (if i = j then (damp i : Int) else 0)
  let d := det 4 m
  let dk (k : Nat) : Int := det 4 (fun i j => if j = k then x.pull l i else m i j)
  let step (k : Nat) (scale : Int) : Int := if d = 0 then 0 else divNear (dk k * scale * (if d < 0 then -1 else 1)) d.natAbs
  { b := x.b + step 0 65536, a := x.a + step 1 65536, nu := x.nu + step 2 x.gam, gam := x.gam + step 3 x.gam }

/-- Up to so many iterations: the curve, the iterations used, and whether ν_B has come to move by less than 1 kHz. -/
def Lorentz.run (l : List SpecPoint) : Nat → Nat → Lorentz → Lorentz × Nat × Bool
  | 0, it, x => (x, it, false)
  | fuel + 1, it, x =>
    let y := x.next l it
    if (y.nu - x.nu).natAbs < 1000 then (y, it + 1, true) else y.run l fuel (it + 1)

/-- The SNR 10 log10(A_pk / σ_res) in 0.25 dB, held in 8 bits and rounded down; σ_res is the rms residual over the points (R253, R276;
log entry 152). -/
def Lorentz.snr (x : Lorentz) (l : List SpecPoint) : Nat :=
  let sq := (sumI (l.map (fun e => (e.p - x.at_ e.hz) * (e.p - x.at_ e.hz)))).toNat
  let a := x.a.toNat
  ((List.range 255).filter (fun k => decide (0 < a) && decide (10 ^ (k + 1) * sq ^ 20 ≤ (a * a * l.length) ^ 20))).length

/-! ## The anchor (R271) -/

/-- g = 1 − exp(−2π f_c A) in 2^-32: f_c in 0.01 mHz, A in s. -/
def anchorGain (fc avg : Nat) : Nat := 2 ^ 32 - expNeg (2 * 31415926536 * fc * avg) (10 ^ 15) / 2 ^ 32

end Sys2Proof.Machine
end

