-- ==== Sys2Proof/Machine/Brillouin.lean ====
section
/-! DEFINITION. Brillouin measurement (chapter 07): contributions, folds, averaging periods, results, baselines, the coil
correction and the anchors. -/

namespace Sys2Proof.Machine

/-! ## Ports and settings (R236 to R244) -/

def State.brlPort (s : State) (p : Port) : BrlPort := if p = .a then s.brl.portA else s.brl.portB
def State.modBrl (s : State) (p : Port) (f : BrlPort → BrlPort) : State :=
  match p with
  | .a => { s with brl := { s.brl with portA := f s.brl.portA } }
  | .b => { s with brl := { s.brl with portB := f s.brl.portB } }

def brlEnFld (p : Port) : Fld := if p = .a then BRL_CTRL.EN_A else BRL_CTRL.EN_B
def State.brlEn (s : State) (p : Port) : Bool := s.flag (brlEnFld p)

/-- N_PT of R239. -/
def State.npt (s : State) : Nat := if s.flag BRL_CTRL.NPT then 128 else 64

/-- Sweeps of a spectrum cycle (R241). -/
def State.cycleSweeps (s : State) : Nat := Nat.lcm s.npt s.grid.nslot / max 1 s.grid.nslot

/-- Point of a shot (R240), or of a shadow shot at POS0 or POS1 (R242). -/
def State.brlPoint (s : State) (k pos : Nat) (shadow : Option Nat) : Nat :=
  match shadow with
  | some i => (2 * k + i) % s.npt
  | none => (k * s.grid.nslot + pos) % s.npt

/-- BRL_STATUS.USED: running sums in use, in units of 64. -/
def State.updUsed (s : State) : State :=
  let n (p : Port) : Nat := if s.brlEn p then s.get (BRL_NBB.N_BB p.idx) else 0
  s.put BRL_STATUS.USED (s.npt * (n .a + n .b) / 64)

/-- A period that opens at a boundary with the settings in force. -/
def State.openPeriod (s : State) (p : Port) (t : Ts) (restarted : Bool) : BrlPeriod :=
  let z := List.replicate (s.get (BRL_NBB.N_BB p.idx)) (List.replicate s.npt 0)
  { start := t, restarted := restarted, fb := s.get BRL_FB.FB, npt := s.npt, wide := s.flag BRL_CTRL.WIDE, run := z, fold := z, counts := List.replicate s.npt 0
    m := s.get (BRL_CFG.M p.idx), bfirst := s.get (BRL_FIRST.BFIRST p.idx), avg := max 1 (s.get BRL_CTRL.AVG) }

/-- The anchors whose source lies on a port take their sums over to the period that closes, and start new ones (R271). -/
def State.anchorSums (s : State) (p : Port) (keep : Bool) : State :=
  { s with brl := { s.brl with anch := s.brl.anch.zipIdx.map (fun (e : List AnchCh × Nat) =>
    if s.strPort (s.get (BRL_ANCH.SRC e.2)) = p.idx then e.1.map (fun (y : AnchCh) =>
      if keep then { y with sumC := y.sum, cntC := y.cnt, sum := 0, cnt := 0 } else { y with sum := 0, cnt := 0 })
    else e.1) } }

/-- At a sweep boundary: an enabled port without a period opens one at a cycle boundary (R241, R252). -/
def State.brlBoundary (s : State) (p : Port) (k : Nat) (t : Ts) : State :=
  if s.brlEn p && (s.brlPort p).cur.isNone && k % max 1 s.cycleSweeps == 0 then
    (s.anchorSums p false).modBrl p (fun x => { x with cur := some (s.openPeriod p t x.restart), restart := false })
  else s

/-- The period in progress ends without a result; the next starts at the first cycle boundary (R252). -/
def State.brlAbandon (s : State) (p : Port) : State :=
  (s.modBrl p (fun x => { x with cur := none, restart := true })).updUsed

/-! ## Contributions (R243 to R246, R251) -/

/-- A shot's contributions entered in a period: one for each of its Brillouin bins (R244, R245, R251). `marks` are the spans of range bins marked
CLIPPED (R267). -/
def contribute (p : Port) (i : Inflight) (samples : List BinSample) (marks : List (Int × Int)) (x : BrlPeriod) : BrlPeriod :=
  let f := probeFraction i x.wide x.npt
  if i.reduced then { x with apr := true }
  else if i.brlUns || f.1 * 4 < f.2 then x
  else
    let m := x.m
    let b0 := x.bfirst
    let gain := max 1 (Config.brlGain p.idx i.brlCode)
    let part (b : Nat) : Nat :=
      let raw := sumN (((samples.drop (b0 + b * m)).take m).map binEnergy)
      (divRound (raw * 65536 * f.2 : Nat) (gain * max 1 f.1)).toNat
    let hit := (List.range x.run.length).filter (fun b =>
      marks.any (fun e => decide (e.1 ≤ (b0 + b * m + m - 1 : Nat)) && decide (((b0 + b * m : Nat) : Int) ≤ e.2)))
    { x with
      run := x.run.zipIdx.map (fun r => updAt r.1 i.point (fun v => v + part r.2))
      counts := updAt x.counts i.point (fun n => n + 1)
      clipped := x.clipped ++ hit.filter (fun b => !x.clipped.contains b)
      cold := x.cold || i.tbCold }

/-- The range bins of a shot that are marked CLIPPED on the Brillouin path: by its lanes and by saturated arithmetic (R149, R150). -/
def State.brlMarks (s : State) (i : Inflight) (wide : Bool) (delta : Int) (lanes : List (List Int)) : List (Int × Int) :=
  s.laneMarks i lanes ++ (s.saturated i true wide delta lanes).map (fun b => ((b : Int), (b : Int)))

/-- An instant lies in a period: from its opening boundary up to its close (R251). -/
def BrlPeriod.holds (x : BrlPeriod) (t : Int) : Bool := decide ((x.start : Int) ≤ t) && x.close.all (fun c => decide (t < c.1))

/-- A shot's return enters the period in which it was launched, with that period's window, points and bins (R240, R244, R251). -/
def State.enterShot (s : State) (p : Port) (i : Inflight) (lanes : List (List Int)) (x : BrlPeriod) : BrlPeriod :=
  let delta := pointOffset x.wide x.npt i.point
  contribute p i (s.compress i true x.wide delta lanes) (s.brlMarks i x.wide delta lanes) x

/-- BRL_SHOT_CONTRIBUTION: the shot's codes on lanes 4 to 7 of its port are compressed with its matched filter, offset by Δ; it belongs
to the period in which it was launched (R240, R245, R251). -/
def brlShotContributionStep (p : Port) (pos : Fin 16) (lanes : List (List Int)) (s : State) : State :=
  match s.brl.inflight.find? (fun i => i.port == p && i.pos == pos) with
  | none => s
  | some i =>
    let t := { s with brl := { s.brl with inflight := s.brl.inflight.erase i } }
    t.modBrl p (fun x =>
      if x.closing.any (fun c => c.holds i.launch) then { x with closing := x.closing.map (s.enterShot p i lanes) }
      else { x with cur := x.cur.map (fun c => if c.holds i.launch then s.enterShot p i lanes c else c) })

/-! ## Folds and closes (R248, R250 to R252, R254, R255) -/

/-- Running sums folded into the 64-bit sums. -/
def BrlPeriod.folded (x : BrlPeriod) : BrlPeriod :=
  { x with
    fold := (x.fold.zip x.run).map (fun r => (r.1.zip r.2).map (fun v => v.1 + v.2))
    run := x.run.map (fun r => r.map (fun _ => 0)) }

/-- The cycle boundary at hand: the start of the sweep in progress, or of the next once every shot of the one in progress has been
launched; its instant, with the fraction of R15, and its grid time (R241). -/
def State.cycleBoundary (s : State) : Option (Ts × Ts) :=
  let c := max 1 s.cycleSweeps
  if !s.grid.running || !s.grid.started then none
  else if s.grid.k % c = 0 then some (s.grid.start, s.grid.align + s.grid.k * s.tSw)
  else if s.grid.nslot ≤ s.grid.nextPos && s.nextK % c = 0 then some (s.nextBoundary, s.nextBoundary)
  else none

/-- Bytes of a port's sums in memory: 16 B for each point of a bin and 48 B for the bin (R248). -/
def State.foldBytes (s : State) (p : Port) : Nat := (16 * s.npt + 48) * s.get (BRL_NBB.N_BB p.idx)

/-- A fold writes the sums of both ports to memory (R248, R701). -/
def State.foldWrites (s : State) : State := (s.dramWrite 3 0 0 (s.foldBytes .a)).dramWrite 3 1 0 (s.foldBytes .b)

/-- BRL_FOLD: at the first cycle boundary at least 1 s after the fold before; the sums are written to memory (R248, R701). -/
def brlFoldStep (s : State) : State :=
  match s.cycleBoundary with
  | none => s
  | some b => s.whenDo (decide (s.brl.lastFold + 1000000000 * ns ≤ b.1)) fun s =>
    let f (x : BrlPort) : BrlPort := { x with cur := x.cur.map BrlPeriod.folded }
    let t := (s.modBrl .a f).modBrl .b f
    ({ t with brl := { t.brl with lastFold := b.1 } }).foldWrites

/-- A port's period in progress closes at a boundary of a grid time: a whole multiple of A has passed in it that it has not run on
over (R250). -/
def State.closeDue (s : State) (p : Port) (g : Ts) : Bool :=
  s.brlEn p && (s.brlPort p).cur.any (fun x => decide (max (x.start / s.avgSpan) x.passed < g / s.avgSpan))

/-- One port's period closes at a boundary; one that a restart left shorter than A / 2 runs on (R250, R252). What it carries of its
last sample, the epoch and the bank, is what was in force just before the boundary (R30, R33, R118, R255). -/
def State.closePort (s : State) (p : Port) (b g : Ts) : State :=
  match (s.brlPort p).cur with
  | none => s
  | some x =>
    if !s.closeDue p g then s
    else if x.restarted && decide ((b - x.start) * 2 < s.avgSpan) then
      s.modBrl p (fun y => { y with cur := some { x with passed := g / s.avgSpan } })
    else
      let last : Int := (g : Int) - 1
      let c : BrlPeriod := { x.folded with close := some (b, secOf g, s.epochAt last), bank := s.bankAt last }
      ((s.anchorSums p true).modBrl p (fun y => { y with closing := some c, cur := some (s.openPeriod p b false) })).put
        (BRL_RES_STAT.READY p.idx) 0

/-- A sweep starts at an edge: the boundary of a period that closed, or opened, at its grid time is that edge (R15, R255). -/
def State.edgeTimes (s : State) (g edge : Ts) : State :=
  let at_ (t : Ts) : Ts := if t = g then edge else t
  let f (x : BrlPort) : BrlPort :=
    { x with cur := x.cur.map (fun (c : BrlPeriod) => { c with start := at_ c.start })
             closing := x.closing.map (fun (c : BrlPeriod) => { c with close := c.close.map (fun e => (at_ e.1, e.2)) }) }
  let t := (s.modBrl .a f).modBrl .b f
  { t with brl := { t.brl with lastFold := at_ t.brl.lastFold } }

/-- PERIOD_CLOSE: at the cycle boundary, for the ports whose period it closes; READY clears until the fits are done. -/
def periodCloseStep (s : State) : State :=
  match s.cycleBoundary with
  | none => s
  | some (b, g) =>
    let t := (s.closePort .a b g).closePort .b b g
    let closes (p : Port) : Bool := s.closeDue p g && ((t.brlPort p).cur.map (·.start)) == some b
    if closes .a || closes .b then ({ t with brl := { t.brl with lastFold := b } }).foldWrites.count BRL_STATUS.PERIODS else t

/-! ## Results (R253 to R267) -/

/-- Laser frequency of a channel in 0.1 THz (R52). -/
def laserThz (ch : Int) : Int := 1931 + ch

/-- Signed value of the laser channel in force. -/
def State.laserCh (s : State) : Int := s.geti LSD_LASER.CH

/-- The fitted part of a record: the fit over the points of a bin, or none where some count is 0 (R253, R267). The words
of a record without a fit are free values. ν_B rounds to the nearest kHz and Γ to the nearest 10 kHz. -/
def State.fitBin (s : State) (p : Port) (x : BrlPeriod) (seq b : Nat) : BrlRec :=
  let sums := (x.fold.getD b []).zip (x.run.getD b [])
  let pts := specPoints x.fb x.wide x.npt (sums.zip x.counts |>.map (fun v => (v.1.1 + v.1.2, v.2)))
  let r := (Lorentz.start pts).run pts 8 0
  let f := r.1
  let marks : List Qual := (if x.apr then [.apr] else []) ++ (if x.failover then [.failover] else []) ++ (if x.cold then [.tbCold] else [])
  if x.counts.any (fun n => n == 0) then
    let v (i : Nat) : Nat := Config.freeNat (s.free + 3 * (b + 65536 * p.idx) + i)
    { fitted := false, bfs := v 0 % 2 ^ 32, width := v 1 % 65536, snr := v 2 % 256, iter := 0, value := none, own := .gap, qual := .gap, seq := seq }
  else
    let w : Int := windowHz x.wide
    let fb : Int := x.fb * 1000
    let snr := f.snr pts
    -- within one point step, 2W / N_PT, of either end of the window
    let edge := decide ((f.nu - (fb - w)) * x.npt ≤ 2 * w) || decide ((fb + w - f.nu) * x.npt ≤ 2 * w)
    let low := !r.2.2 || decide (snr < s.get BRL_FIT.SNR_MIN) || decide (f.gam < 10000000) || decide (150000000 < f.gam)
    let q := worstQual (marks ++ (if x.clipped.contains b || edge then [.clipped] else []) ++ (if low then [.lowq] else []))
    { fitted := true, bfs := pattern 32 (divNear f.nu 1000), width := pattern 16 (divNear f.gam 10000), snr := snr, iter := r.2.1, value := none, own := q, qual := q, seq := seq }

/-- A record with its VALUE, or none: then its code is GAP as well (R262, R266). -/
def BrlRec.withValue (r : BrlRec) (v : Option Int) : BrlRec :=
  match v with
  | some x => if r.fitted then { r with value := some x } else r
  | none => { r with value := none, qual := .gap }

/-- Sum and count of the temperatures of a field channel in a period, in 0.001 °C (R261). -/
def BrlPort.coilMean (x : BrlPort) (c : BrlPeriod) (ain : Nat) : Int × Nat :=
  let l := (x.coil.filter (fun e => e.1 == ain && c.holds e.2.1)).map (·.2.2)
  (sumI l, l.length)

/-- The coil's records that have a fit. -/
def State.coilRecs (s : State) (p : Port) (l : List BrlRec) : List BrlRec :=
  ((l.drop (s.get (BRL_COIL.FIRST p.idx))).take (s.get (BRL_COIL.LAST p.idx) + 1 - s.get (BRL_COIL.FIRST p.idx))).filter (·.fitted)

/-- T of R259 with δ, in 2^-16 × 0.001 °C as a quotient. -/
def State.tempBase (s : State) (p : Port) (bfs ref : Nat) : Int × Nat :=
  let x := s.brlPort p
  let ct := max 1 (s.get (BRL_COEF.CT p.idx))
  let fo := laserThz x.base.chan
  let fn := laserThz s.laserCh
  (x.base.tbase * 10 * 65536 * ct * fo + ((bfs : Int) * fo - ref * fn) * 10000 * 65536 - x.delta * ct * fo, ct * fo.toNat)

/-- The records of a TEMP or BFS port with their values (R257 to R259). -/
def State.ownValues (s : State) (p : Port) (c : BrlPeriod) (l : List BrlRec) : List BrlRec :=
  let x := s.brlPort p
  match s.get (BRL_CFG.ROLE p.idx) with
  | 0 => l.map (fun r => r.withValue (if r.fitted then some ((r.bfs : Int) - c.fb) else none))
  | 1 =>
    if s.flag (BRL_CFG.BASE_MODE p.idx) then
      let coil := s.coilRecs p l
      let n := coil.length
      let sum := sumN (coil.map (·.bfs))
      let t := x.coilMean c (s.get (BRL_COILCFG.AIN p.idx))
      let ct := max 1 (s.get (BRL_COEF.CT p.idx))
      l.map (fun r =>
        -- without a coil temperature or a fitted coil bin the result is not stated: a free value
        if n = 0 || t.2 = 0 then r.withValue (if r.fitted then some (signed 32 (Config.freeNat (s.free + 1))) else none)
        else r.withValue (if r.fitted then some (divRound (t.1 * n * ct + ((n : Int) * r.bfs - sum) * 10000 * t.2) (t.2 * n * ct)) else none))
    else
      l.zipIdx.map (fun e =>
        match x.base.refs.getD e.2 none with
        | some ref =>
          let v := s.tempBase p e.1.bfs ref
          e.1.withValue (if e.1.fitted then some (divRound v.1 (65536 * v.2)) else none)
        | none => e.1.withValue none)
  | _ => l

/-- The paired temperature at a strain bin in 2^-16 × 0.001 °C and the worst code of the two bracketing bins (R262). -/
def State.pairedTemp (s : State) (p : Port) (temps : List BrlRec) (b : Nat) : Option (Int × Qual) :=
  let o := p.other
  let x := s.chainNum p.idx (s.bbPos2 p.idx b) * s.chainDen o.idx
  let at_ (j : Nat) : Int := s.chainNum o.idx (s.bbPos2 o.idx j) * s.chainDen p.idx
  match (List.range (temps.length - 1)).find? (fun j =>
      (decide (at_ j ≤ x) && decide (x ≤ at_ (j + 1))) || (decide (at_ (j + 1) ≤ x) && decide (x ≤ at_ j))) with
  | none => none
  | some j =>
    match temps[j]?, temps[j + 1]? with
    | some r0, some r1 =>
      match r0.value, r1.value with
      | some v0, some v1 =>
        let d := at_ (j + 1) - at_ j
        let t := if d = 0 then v0 * 65536
          else divRound ((v0 * d + (v1 - v0) * (x - at_ j)) * 65536 * (if d < 0 then -1 else 1)) d.natAbs
        some (t, worseQual r0.qual r1.qual)
      | _, _ => none
    | _, _ => none

/-- The records of a STRAIN port (R260, R262, R265): values in 0.01 µε. -/
def State.strainValues (s : State) (p : Port) (l temps : List BrlRec) : List BrlRec :=
  let x := s.brlPort p
  let fo := laserThz x.base.chan
  let fn := laserThz s.laserCh
  l.zipIdx.map (fun e =>
    match s.pairedTemp p temps e.2 with
    | none => { e.1.withValue none with own := .gap }
    | some (tp, q) =>
      let r : BrlRec := { e.1 with own := worseQual e.1.own q, qual := worseQual e.1.qual q }
      match x.base.refs.getD e.2 none, x.base.tp.getD e.2 none with
      | some ref, some tp0 =>
        let v := divRound (((r.bfs : Int) * fo - ref * fn) * 10000 * 65536 - s.get (BRL_COEF.CT p.idx) * (tp - tp0) * fo)
          (max 1 (s.get (BRL_COEF.CE p.idx)) * fo.toNat * 65536)
        r.withValue (if r.fitted then some v else none)
      | _, _ => r.withValue none)

/-- The four words of a record (R276). -/
def BrlRec.words (r : BrlRec) : List Word :=
  [BitVec.ofNat 32 r.bfs, BitVec.ofNat 32 (r.width * 65536 + r.snr * 256 + qualCode r.qual),
   (match r.value with
    | some v => BitVec.ofInt 32 v
    | none => 0x80000000), BitVec.ofNat 32 (r.iter * 2 ^ 24 + r.seq * 65536)]

/-- The words of a bin's record in the newest complete set; 0 where the bin is not below N_BB, or the set holds none (R256). -/
def State.recordWords (s : State) (p : Port) (b : Nat) : List Word :=
  match (s.brlPort p).set[b]? with
  | some r => if b < s.get (BRL_NBB.N_BB p.idx) then r.words else [0, 0, 0, 0]
  | none => [0, 0, 0, 0]

/-- The RD words follow the record of RDIDX.IDX (R256). -/
def State.updRd (s : State) (p : Port) : State := s.wrWords (BRL_RD_W0.BFS p.idx).addr (s.recordWords p (s.get (BRL_RDIDX.IDX p.idx)))

/-! ## The coil correction (R261) -/

/-- A finished GOOD temperature result of a field channel is kept for the periods of the ports that it may serve. -/
def State.coilResult (s : State) (ain : Nat) (t : Ts) (v : Int) : State :=
  [Port.a, Port.b].foldl (fun (s : State) p =>
    if s.brlEn p then s.modBrl p (fun x => { x with coil := x.coil ++ [(ain, t, v)] }) else s) s

/-- A period of a TEMP port without a coil temperature is counted; after STALE_N of them STALE stands until an update, or, where
BASE_MODE 1 makes none, until a period that holds one (R261; log entry 153). -/
def State.coilStale (s : State) (p : Port) (none_ : Bool) : State :=
  let x := s.brlPort p
  if none_ then
    let t := s.modBrl p (fun x => { x with stale := x.stale + 1 })
    if s.get (BRL_COILCFG.STALE_N p.idx) ≤ x.stale + 1 then t.put (BRL_DELTA.STALE p.idx) 1 else t
  else
    let t := s.modBrl p (fun x => { x with stale := 0 })
    if s.flag (BRL_CFG.BASE_MODE p.idx) then t.put (BRL_DELTA.STALE p.idx) 0 else t

/-- δ of a TEMP port with a per-bin baseline is updated, or held where no coil temperature, or no bin of the coil, is to be had. -/
def State.updDelta (s : State) (p : Port) (c : BrlPeriod) (l : List BrlRec) : State :=
  let x := s.brlPort p
  if s.get (BRL_CFG.ROLE p.idx) != 1 || !s.flag (BRL_COILCFG.EN p.idx) then s
  else
    let t := x.coilMean c (s.get (BRL_COILCFG.AIN p.idx))
    let s := s.coilStale p (t.2 == 0)
    let vs := (l.zipIdx.filter (fun e => decide (s.get (BRL_COIL.FIRST p.idx) ≤ e.2) && decide (e.2 ≤ s.get (BRL_COIL.LAST p.idx)))).filterMap (fun e =>
      if e.1.fitted then (x.base.refs.getD e.2 none).map (fun ref => s.tempBase p e.1.bfs ref) else none)
    let n := vs.length
    let den := (vs.head?.map (·.2)).getD 1
    if t.2 = 0 || n = 0 || s.flag (BRL_CFG.BASE_MODE p.idx) then s
    else
      -- mean of T + δ − T_coil over the coil's bins, in 2^-16 × 0.001 °C
      let num := sumI (vs.map (·.1)) * t.2 + x.delta * n * den * t.2 - t.1 * 65536 * n * den
      let d := x.delta + divRound num (n * den * t.2 * 2 ^ s.get (BRL_COILCFG.TC p.idx))
      ((s.modBrl p (fun x => { x with delta := d })).put (BRL_DELTA.STALE p.idx) 0).puti (BRL_DELTA.DELTA p.idx) (divRound d 65536)

/-! ## Baselines (R263, R264) -/

/-- START: a baseline is armed; no effect while one is (R264). -/
def State.brlArm (s : State) (p : Port) : State :=
  if s.flag (BRL_BASE.BUSY p.idx) then s
  else (s.modBrl p (fun x => { x with armed := some s.now })).put (BRL_BASE.BUSY p.idx) 1

/-- ABORT before the commit point: the previous baseline stays, and the operation that armed it is cancelled. -/
def State.brlBaseAbort (s : State) (p : Port) : State :=
  if !s.flag (BRL_BASE.BUSY p.idx) then s
  else ((s.modBrl p (fun x => { x with armed := none })).put (BRL_BASE.BUSY p.idx) 0).completeAll 0x0504 (fun n => n == p.idx) stCancelled

/-- An armed baseline stored from the set whose period started after the write (R263). -/
def State.takeBaseline (s : State) (p : Port) (c : BrlPeriod) (l temps : List BrlRec) : State :=
  match (s.brlPort p).armed with
  | none => s
  | some t =>
    if c.start ≤ t then s
    else
      let ok (r : BrlRec) : Bool := r.fitted && (r.own == .good || r.own == .tbCold)
      let base : BrlBase :=
        { refs := l.map (fun r => if ok r then some r.bfs else none)
          tp := l.zipIdx.map (fun e => if s.get (BRL_CFG.ROLE p.idx) = 2 && ok e.1 then (s.pairedTemp p temps e.2).map (·.1) else none)
          tbase := s.geti (BRL_BASE.TBASE p.idx), chan := s.laserCh }
      let u := (s.modBrl p (fun x => { x with armed := none, base := base })).puts [(BRL_BASE.BUSY p.idx, 0), (BRL_BASE.VALID p.idx, 1)]
      u.completeAll 0x0504 (fun n => n == p.idx) stOk

/-! ## Anchors (R269 to R274) -/

def State.anchCh (s : State) (a : Nat) : List AnchCh := s.brl.anch.getD a []

/-- The offset of an anchored channel at an instant, in 2^-16 × 10 pε (R271): a ramp of A seconds. -/
def AnchCh.offset (x : AnchCh) (t : Ts) (avg : Nat) : Int :=
  let span := max 1 avg * 1000000000 * ns
  if x.since + span ≤ t then x.target else x.from_ + divRound ((x.target - x.from_) * (t - x.since : Nat)) span

/-- One channel's update from its record (R271 to R273). -/
def State.anchorCh (s : State) (a : Nat) (c : BrlPeriod) (l : List BrlRec) (b : Nat) (x : AnchCh) : AnchCh × Bool :=
  let avg := s.get BRL_CTRL.AVG
  let bad : AnchCh × Bool := ({ x with missed := x.missed + 1 }, false)
  match l[b]? with
  | none => bad
  | some r => match r.value with
    | none => bad
    | some v =>
      if r.qual == .gap || r.qual == .clipped || r.qual == .lowq || x.cntC = 0 || (x.first && decide (c.start < x.restart)) then bad
      else
        let e := v * 1000 * 65536 - divRound x.sumC x.cntC
        if x.first then
          ({ x with from_ := x.target + e, target := x.target + e, since := s.now, first := false, missed := 0 }, true)
        else
          let g := anchorGain (s.get (BRL_ANCH.FC a)) avg
          ({ x with from_ := x.offset s.now avg, target := x.target + divRound (g * e) (2 ^ 32), since := s.now, missed := 0 }, true)

/-- ANCHOR_UPDATE: the anchors whose source stream lies on a port of role STRAIN that has a new set (R271). -/
def State.anchorUpdate (s : State) (p : Port) (c : BrlPeriod) (l : List BrlRec) : State :=
  (List.range 4).foldl (fun (t : State) a =>
    let n := t.get (BRL_ANCH.SRC a)
    if !t.flag (BRL_ANCH.EN a) || t.strPort n != p.idx then t
    else
      let c0 := t.get (STR_W1.CH_FIRST n)
      let r : List (AnchCh × Bool) := (t.anchCh a).zipIdx.map (fun e =>
        t.anchorCh a c l ((t.chPos2 p.idx (c0 + e.2) - 2 * t.get (BRL_FIRST.BFIRST p.idx)) / max 1 (2 * t.get (BRL_CFG.M p.idx))) e.1)
      let chs := r.map (fun e => { e.1 with sumC := 0, cntC := 0 })
      let u := { t with brl := { t.brl with anch := setAt t.brl.anch a chs } }
      let u := u.putFlag (BRL_ANCHST.HOLD a) (chs.any (fun x => decide (3 < x.missed)))
      if r.any (fun e => e.2) then (u.put (BRL_ANCHST.SEEDED a) 1).count (BRL_ANCHST.UPDATES a) else u) s

/-- The channels of a port's anchored streams are re-initialised at a shot boundary: their first output joins the last before it, and
the first period that starts from there on makes the next update (R274). -/
def State.anchorReinit (s : State) (p : Port) (at_ : Ts) : State :=
  (List.range 4).foldl (fun (t : State) a =>
    if t.flag (BRL_ANCH.EN a) && t.strPort (t.get (BRL_ANCH.SRC a)) == p.idx then
      let chs := (t.anchCh a).map (fun (x : AnchCh) => { x with join := true, first := true, restart := at_ })
      ({ t with brl := { t.brl with anch := setAt t.brl.anch a chs } }).put (BRL_ANCHST.SEEDED a) 0
    else t) s

/-- An anchor is enabled or changes its source: its channels start without an offset, and the first period that starts from here on
makes the first update (R270, R272; DEDUCED: log entry 96). -/
def State.anchorStart (s : State) (a : Nat) : State :=
  let n := s.get (BRL_ANCH.SRC a)
  let chs : List AnchCh := if s.flag (BRL_ANCH.EN a) then List.replicate (s.get (STR_W2.N_CH n)) { restart := s.now } else []
  ({ s with brl := { s.brl with anch := setAt s.brl.anch a chs } }).wr (BRL_ANCHST.SEEDED a).addr 0

/-! ## READY (R254 to R256) -/

/-- A record as a trigger unit reads it: one without VALUE counts as GAP (R277, R283). -/
def BrlRec.sample (r : BrlRec) : Word × Qual := match r.value with
  | some v => (BitVec.ofInt 32 v, r.qual)
  | none => (0, .gap)

/-- A set reaches the trigger engine, and the streams of KIND 1 of its port with the history (R254, R277, R377). -/
def State.deliverSet (s : State) (p : Port) (c : BrlPeriod) (mid : Int) (l : List BrlRec) : State :=
  let sec := (c.close.map (·.2.1)).getD 0
  let epoch := (c.close.map (·.2.2)).getD 0
  let a := c.avg
  let s := s.trgOffer { kind := p.idx + 1, src := 0, inst := (c.close.map (·.1)).getD 0, raw := mid * ns, epoch := epoch, vals := l.map BrlRec.sample }
  (List.range 64).foldl (fun (t : State) n =>
    if t.strKind n = 1 && t.strPort n == p.idx && t.strState n == 1 then
      let own := (l.drop (t.get (STR_W1.CH_FIRST n))).take (t.get (STR_W2.N_CH n))
      let o : BOut :=
        { idx := sec / a, ts := mid, chDt := 0, period := 2 ^ 31 + a * 1000, epoch := epoch, bank := c.bank
          vals := own.map (fun r => (r.words, r.qual)), series := a
          shot := ((c.close.map (·.1)).getD 0 : Nat) - 1 }
      let u := t.pushOut n o
      if t.sends n then u.recordOut n { idx := sec / a, ts := mid, epoch := epoch, vals := own.map (fun r => (r.words.getD 2 0, r.qual)) } else u
    else t) s

/-- The registers of a port's new set. -/
def State.publishSet (s : State) (p : Port) (c : BrlPeriod) (l : List BrlRec) : State :=
  let stop := (c.close.map (·.1)).getD 0
  let epoch : BitVec 32 := (c.close.map (fun e => e.2.2)).getD 0
  let mid := roundEvenI ((c.start + stop : Nat) : Int) (2 * ns)
  let t := (s.modBrl p (fun x => { x with set := l, closing := none, coil := x.coil.filter (fun (e : Nat × Ts × Int) => decide (stop ≤ e.2.1)) })).puts
    [(BRL_RES_STAT.READY p.idx, 1), (BRL_RES_STAT.SEQ p.idx, s.get (BRL_RES_STAT.SEQ p.idx) + 1),
     (BRL_RES_STAT.WORST p.idx, qualCode (worstQual (l.map (·.qual)))), (BRL_RES_NS.NS p.idx, (mid % 1000000000).toNat),
     (BRL_RES_SEC_LO.SEC_LO p.idx, (mid / 1000000000).toNat), (BRL_RES_SEC_HI.SEC_HI p.idx, (mid / 1000000000).toNat / 2 ^ 32),
     (BRL_RES_EPOCH.EPOCH p.idx, epoch.toNat)]
  (t.updRd p).deliverSet p c mid l

/-- BRL_RESULT_READY: the sets of both ports complete together; baselines, coil corrections and anchors follow, with the settings in force
now (DESIGN CHOICE: log entry 204). -/
def brlResultReadyStep (s : State) : State :=
  let fits (p : Port) : List BrlRec := match (s.brlPort p).closing with
    | some c => s.ownValues p c ((List.range c.run.length).map (s.fitBin p c ((s.get (BRL_RES_STAT.SEQ p.idx) + 1) % 256)))
    | none => []
  let fa := fits .a
  let fb := fits .b
  let final (p : Port) (own other : List BrlRec) : List BrlRec :=
    if s.get (BRL_CFG.ROLE p.idx) = 2 then s.strainValues p own other else own
  let ra := final .a fa fb
  let rb := final .b fb fa
  let one (t : State) (p : Port) (l temps : List BrlRec) : State :=
    match (s.brlPort p).closing with
    | none => t
    | some c => (((t.updDelta p c l).takeBaseline p c l temps).publishSet p c l).anchorUpdate p c l
  s.whenDo (s.brl.portA.closing.isSome || s.brl.portB.closing.isSome) fun s =>
    (one (one s .a ra fb) .b rb fa).drew 393216

/-! ## QCP (R263, R442) -/

/-- BRL_READ: records of one set (R256, R441, R442). -/
def brlReadBody (q : ReqHdr) (index : Nat) (first : Int) (count : Nat) (s : State) : State :=
  s.checks q 0x0304 [(decide (1 < index), stParamRange), (!s.flag (BRL_RES_STAT.READY index), stNotReady),
    (decide (first < 0) || count == 0 || decide (508 < count), stParamRange)] fun s =>
    s.reply q 0x0304 stOk [itSeq (s.get (BRL_RES_STAT.SEQ index)), itWords ((List.range count).flatMap (fun i => s.recordWords (portOf index) (first.toNat + i)))]

/-- BASELINE: arms as BASE.START does; the operation ends at the set's READY (R263, R444, R495). -/
def baselineBody (q : ReqHdr) (index : Nat) (s : State) : State :=
  s.checks q 0x0504 [((decide (index < 2) && s.flag (BRL_BASE.BUSY index)) || s.longsFull q, stBusy), (decide (1 < index), stParamRange),
    (s.owner != q.session.val, stNotOwner), (s.dev == 1, stHeld)] fun s =>
    s.startLong q 0x0504 index (fun s => s.brlArm (portOf index))

/-! ## Meanings -/

/-- BRL_SHOT_CONTRIBUTION (R245). -/
def execBrlShotContribution (port : Port) (pos : Fin 16) (lanesX lanesY : List (List Int)) (s : State) :
    Host.Outcome State Fault Refusal :=
  .next (brlShotContributionStep port pos (lanesX ++ lanesY) s)

/-- BRL_FOLD (R248). -/
def execBrlFold (s : State) : Host.Outcome State Fault Refusal := .next (brlFoldStep s)

/-- PERIOD_CLOSE (R250). -/
def execPeriodClose (s : State) : Host.Outcome State Fault Refusal := .next (periodCloseStep s)

/-- BRL_RESULT_READY (R254). -/
def execBrlResultReady (s : State) : Host.Outcome State Fault Refusal := .next (brlResultReadyStep s)

/-- BRL_READ (R442). -/
def execBrlRead (q : ReqHdr) (index : Nat) (first : Int) (count : Nat) (s : State) : Host.Outcome State Fault Refusal :=
  .next (s.request q 0x0304 (brlReadBody q index first count) (operands [itIndex index, itSigned first, itCount count]))

/-- BASELINE (R263). -/
def execBaseline (q : ReqHdr) (index : Nat) (s : State) : Host.Outcome State Fault Refusal :=
  .next (s.request q 0x0504 (baselineBody q index) (operands [itIndex index]))

end Sys2Proof.Machine
end

