-- ==== Sys2Proof/Machine/Field.lean ====
section
/-! DEFINITION. The field island, the barrier link and the field converter (R619 to R661, R664, R665), and the register
actions of both converters. -/

namespace Sys2Proof.Machine

/-! ## The barrier link (R624 to R629) -/

/-- Change the island. -/
def State.modIsl (s : State) (f : Island → Island) : State := { s with isl := f s.isl }

/-- A message leaves for the island, while it runs. -/
def State.toIsl (s : State) (m : BarMsg) : State :=
  if s.isl.up then (s.emit (.barrier true s.isl.seqTo m)).modIsl (fun x => { x with seqTo := x.seqTo + 1 }) else s

/-- A message leaves the island. -/
def State.fromIsl (s : State) (m : BarMsg) : State :=
  (s.emit (.barrier false s.isl.seqFrom m)).modIsl (fun x => { x with seqFrom := x.seqFrom + 1 })

/-- A message from the island arrives while it runs: the link is up, and silent no longer (R60). -/
def State.heard (s : State) (f : State → State) : State :=
  s.whenDo s.isl.up fun s =>
    let s := s.put FLD_STATUS.UP 1
    f (if s.light.silent then ({ s with light := { s.light with silent := false } }).settleClamp else s)

/-- Something happens on the island while it runs. -/
def State.onIsl (s : State) (f : State → State) : State := s.whenDo s.isl.up f

/-- An instant of the island on its own crystal: a tick the device cannot know. -/
def State.islTick (s : State) : Nat := s.freeVal % 2 ^ 32

/-- A field timestamp within 1 µs of the instant it stands for (R629). -/
def State.fieldTime (s : State) (t : Ts) : Ts := t + s.freeVal % (2000 * ns + 1) - 1000 * ns

/-- A tick on the local clock, by the last TICK reply (R629); before any, nothing is known of it. -/
def State.tickTime (s : State) (tick : Nat) : Ts :=
  match s.isl.map with
  | [] => s.freeVal
  | (k, t) :: _ => s.fieldTime ((t : Int) + signed 32 (tick + 2 ^ 32 - k) * 4096000).toNat

/-! ## The island's configuration -/

/-- A field of the configuration as the island has applied it. -/
def State.iget (s : State) (f : Fld) : Nat := f.ofWord (s.isl.regs.read f.addr)

/-- The committed configuration words of the island: control, timer, excitation, debounce, heartbeat and entries. -/
def fieldWords : List Nat :=
  [0x120000, 0x120004, 0x120008, 0x120010, 0x120018] ++ (List.range 80).map (fun i => 0x120040 + 4 * i)

/-- A CFG message with a committed word; action bits and what the device alone writes are no part of it. -/
def State.sendCfgWord (s : State) (off : Nat) : State :=
  let w := s.rd off
  let w := if off = 0x120000 then w &&& 0x3F771F00#32 else if off = 0x120010 then w &&& 0xFF000000#32
    else if off = 0x120018 then w &&& 0x00003FFF#32 else w
  (s.modIsl (fun x => { x with cfgSeq := x.seqTo })).toIsl (.cfg off w)

/-! ## Rounds on the island -/

/-- Rounds of the field converter, with BUSY_REG and BUSY_INJ. -/
def State.setFld (s : State) (r : Rounds) : State :=
  (s.modIsl (fun x => { x with rounds := r })).puts [(FLD_CTRL.BUSY_REG, r.reg.isSome.toNat), (FLD_CTRL.BUSY_INJ, r.inj.isSome.toNat)]

/-- Append a record to a channel's ring of 512; a later visit of the same round replaces the round's record (R660). -/
def State.bufPut (s : State) (ch : Nat) (r : BufRec) : State :=
  s.modIsl (fun x => { x with rings := updAt x.rings ch (fun l =>
    let l := match l.getLast? with
      | some y => if y.start = r.start then l.dropLast else l
      | none => l
    (l ++ [r]).drop ((l ++ [r]).length - 512)) })

/-- The channels of the regular sequence. -/
def State.seqChans (s : State) : List Nat :=
  ((List.range (s.iget FLD_CTRL.N_REG)).map (fun e => s.iget (FLDE_W0.CH e))).eraseDups

/-- A GAP record for every channel of the sequence that has none of this start (R660). -/
def State.bufGap (s : State) (start : Ts) : State :=
  s.seqChans.foldl (fun (t : State) ch =>
    if ((t.isl.rings.getD ch []).getLast?.map (·.start)) == some start then t else t.bufPut ch { start := start, qual := qualCode .gap, value := 0 }) s

/-- A regular start on the island (R648, R649). -/
def State.fldReg (s : State) : State :=
  let r := s.isl.rounds.startReg (s.iget FLD_CTRL.N_REG) (s.fieldTime s.now)
  if r.2 then s.countSat FLD_OVR.ROVR else s.drew.setFld r.1

/-- An injected start on the island (R650, R651); the injected results are not ready until their next write (R658). -/
def State.fldInj (s : State) : State :=
  let r := s.isl.rounds.startInj (s.iget FLD_CTRL.N_INJ) s.now
  if r.2 then s.countSat FLD_OVR.IOVR
  else ((s.modIsl (fun x => { x with last := if x.rounds.reg.isSome then none else x.last })).setFld r.1).puts
    ((List.range 4).map (fun j => (FLDRES_W0.READY (8 + j), 0)))

/-- Regular and injected starts that arrive together: the injected round first (R651). -/
def State.fldStarts (s : State) (regular injected : Bool) : State :=
  let t := if injected then s.fldInj else s
  if regular then t.fldReg else t

/-- The rounds in progress are abandoned: under RSTART 1 a regular one leaves GAP records (R652, R660). -/
def State.fldAbandon (s : State) : State :=
  let t := match s.isl.rounds.reg with
    | some r => if s.iget FLD_CTRL.RSTART = 1 then s.bufGap r.start else s
    | none => s
  t.setFld {}

/-- A trigger of field code `code` as the management processor passes it on: 0-3 EVT0-EVT3 (R648, R652). -/
def State.fieldEvt (s : State) (code : Nat) : State :=
  let reg := s.get FLD_CTRL.RSTART == 2 && s.get FLD_CTRL.RTRIG == code
  let inj := s.flag FLD_CTRL.ITRIG_EN && s.get FLD_CTRL.ITRIG == code
  if reg || inj then s.toIsl (.cmd reg inj) else s

/-- SWSTART of the field converter: results of the regular sequence are not ready until their next write (R658). -/
def State.fldSw (s : State) : State :=
  (s.puts ((List.range (s.get FLD_CTRL.N_REG)).map (fun e => (FLDRES_W0.READY (s.get (FLDE_W0.CH e)), 0)))).toIsl (.cmd true false)

/-! ## Messages to the island -/

/-- What a changed configuration word does to the channels and registers of an entry (R658, R660). -/
def State.entryMoved (s : State) (e : Nat) (chans : List Nat) : State :=
  if 16 ≤ e then s.put (FLDRES_W0.READY (8 + (e - 16))) 0
  else chans.foldl (fun (t : State) ch =>
    (t.modIsl (fun x => { x with rings := setAt x.rings ch [] })).put (FLDRES_W0.READY ch) 0) s

/-- CFG (R652, R653): a changed word of control, timer, excitation or an entry abandons the rounds; a changed excitation
also resets every filter, makes conversions wait and marks the next 4; under RSTART 3 the next round starts at once. -/
def cfgStep (off : Nat) (value : Word) (s : State) : State :=
  s.onIsl fun s =>
    if s.isl.regs.read off = value then s
    else
      let rounds := off = 0x120000 || off = 0x120004 || off = 0x120008 || (0x120040 ≤ off && off < 0x120180)
      let e := (off - 0x120040) / 16
      let old := s.iget (FLDE_W0.CH e)
      let exc := [s.iget FLD_EXC.EXC0, s.iget FLD_EXC.EXC1]
      let s := if rounds then s.fldAbandon else s
      let s := s.modIsl (fun x => { x with regs := x.regs.write off value })
      let s := if 0x120040 ≤ off && off < 0x120180 then
          (s.modIsl (fun x => { x with gain := setAt x.gain e (s.iget (FLDE_W0.PGA e)), low := setAt x.low e 0 })).entryMoved e
            [old, s.iget (FLDE_W0.CH e)]
        else if off = 0x120004 then s.modIsl (fun x => { x with rings := x.rings.map (fun _ => []) })
        else s
      let moved := (exc != [s.iget FLD_EXC.EXC0, s.iget FLD_EXC.EXC1] : Bool)
      let mask := (s.iget FLD_EXC.EXC0 != exc.getD 0 0).toNat + (s.iget FLD_EXC.EXC1 != exc.getD 1 0).toNat * 2
      let s := if off = 0x120008 && moved then
          (s.modIsl (fun x => { x with settling := true, excMoved := x.excMoved ||| mask, tail := max x.tail 4 })).put FLD_STATUS.REF_OK
            (s.get FLD_STATUS.REF_OK &&& (15 - 4 * mask))
        else s
      if rounds && s.iget FLD_CTRL.RSTART == 3 then s.fldReg else s

/-- CMD (R626, R648 to R651). -/
def cmdStep (regular injected : Bool) (s : State) : State := s.onIsl fun s => s.fldStarts regular injected

/-- FOUT (R634 to R636): the mask applies, and a loss of the host is over. -/
def foutStep (mask : Nat) (s : State) : State :=
  s.onIsl fun s => s.puts [(FLD_FOUT.ACT, mask), (FLD_STATUS.HOSTLOSS, 0)]

/-- HB (R634): the host-loss timer begins again. -/
def hbStep (s : State) : State := s.onIsl fun s => s.modIsl (fun x => { x with hb := s.cyc })

/-- TSYNC (R626, R629): the island answers with its tick. -/
def tsyncStep (s : State) : State := s.onIsl fun s => (s.fromIsl (.tick s.islTick)).drew

/-- A record of the field buffer as a word (R661). -/
def BufRec.word (r : BufRec) : Word := BitVec.ofNat 32 (r.qual * 2 ^ 28 + pattern 28 r.value)

/-- BUFREQ (R626): the island sends the records asked for, two a message; past the last record a word is not stated. -/
def bufreqStep (ch first count : Nat) (s : State) : State :=
  s.onIsl fun s =>
    let l := ((s.isl.rings.getD ch []).drop first).take count
    (List.range ((l.length + 1) / 2)).foldl (fun (t : State) i =>
      let w (j : Nat) : Word := (l[2 * i + j]?).elim (BitVec.ofNat 32 t.freeVal) BufRec.word
      (t.fromIsl (.bufdata ch (first + 2 * i) (w 0) (w 1))).drew) s

/-! ## Messages from the island -/

/-- The field inputs as reported: each change reaches the trigger units that read the input, 1 closed and 0 open, at the tick of
its first edge (R277, R631). -/
def State.finNow (s : State) (states tick : Nat) : State :=
  let old := s.get FLD_FIN.STATE
  let at_ := s.tickTime tick
  (List.range 4).foldl (fun (t : State) n =>
    let v := states / 2 ^ n % 2
    if old / 2 ^ n % 2 = v then t
    else t.trgOffer { kind := 4, src := 8 + n, inst := at_, raw := at_, epoch := s.epochAt at_, vals := [(BitVec.ofNat 32 v, .good)] })
    ((s.put FLD_FIN.STATE states).drew)

/-- ILK (R60, R63, R628). -/
def ilkStep (closed : Bool) (tick : Nat) (s : State) : State :=
  s.heard fun s => (s.finNow (setBit (s.get FLD_FIN.STATE) 0 closed) tick).fin0 closed

/-- FIN (R631). -/
def finStep (states tick : Nat) (s : State) : State := s.heard fun s => s.finNow states tick

/-- STATUS (R622, R626): flags in the layout of FLD_STATUS; the first after a start brings the island the committed
configuration. -/
def statusStep (flags : Word) (vin echo crcerr badmsg : Nat) (s : State) : State :=
  s.heard fun s =>
    let s := s.puts [(FLD_STATUS.VIN, vin), (FLD_STATUS.HOSTLOSS, FLD_STATUS.HOSTLOSS.ofWord flags),
      (FLD_STATUS.REF_OK, FLD_STATUS.REF_OK.ofWord flags), (FLD_LINKI.CRCERR, crcerr), (FLD_LINKI.BADMSG, badmsg),
      (FLD_STATUS.FOUT_OVC, s.get FLD_STATUS.FOUT_OVC ||| FLD_STATUS.FOUT_OVC.ofWord flags),
      (FLD_STATUS.EXC_SHORT, s.get FLD_STATUS.EXC_SHORT ||| FLD_STATUS.EXC_SHORT.ofWord flags),
      (FLD_STATUS.OPEN, s.get FLD_STATUS.OPEN ||| FLD_STATUS.OPEN.ofWord flags)]
    let first := !s.isl.told
    let s := s.modIsl (fun x => { x with echo := BitVec.ofNat 8 echo, told := true })
    if first then fieldWords.foldl State.sendCfgWord s else s

/-- TICK (R629): the tick stands for the instant of the TSYNC. -/
def tickStep (tick : Nat) (s : State) : State :=
  s.heard fun s => s.modIsl (fun x => { x with map := ((tick, x.tsync) :: x.map).take 2 })

/-- BUFDATA (R626). -/
def bufdataStep (ch index : Nat) (rec0 rec1 : Word) (s : State) : State :=
  s.heard fun s => s.modIsl (fun x => { x with
    got := (x.got.filter (fun g => !(g.1 == ch && (g.2.1 == index || g.2.1 == index + 1)))) ++ [(ch, index, rec0), (ch, index + 1, rec1)] })

/-- BARRIER_FRAME_ERROR (R627): the frame is dropped and counted by its receiver. -/
def barrierFrameErrorStep (toIsland badCrc : Bool) (s : State) : State :=
  s.onIsl fun s => s.countSat (match toIsland, badCrc with
    | true, true => FLD_LINKI.CRCERR
    | true, false => FLD_LINKI.BADMSG
    | false, true => FLD_LINK.CRCERR
    | false, false => FLD_LINK.BADMSG)

/-- ILK_SEND (R628). -/
def ilkSendStep (s : State) : State := s.onIsl fun s => (s.fromIsl (.ilk (s.isl.fin % 2 == 1) s.islTick)).drew

/-- TSYNC_SEND (R629). -/
def tsyncSendStep (s : State) : State := s.onIsl fun s => (s.modIsl (fun x => { x with tsync := s.now })).toIsl .tsync

/-! ## The island starts and stops (R620 to R623) -/

/-- The internal reference is settled 5 ms after the start (R638). -/
def State.updFldRef (s : State) : State :=
  if s.isl.up && decide (s.isl.since + 5 * msCyc ≤ s.cyc) then s.put FLD_STATUS.REF_OK (s.get FLD_STATUS.REF_OK ||| 1) else s

/-- The island reports its status. -/
def State.sendStatus (s : State) : State :=
  s.fromIsl (.status (s.rd 0x12000C) (s.get FLD_STATUS.VIN) s.isl.cfgSeq.toNat (s.get FLD_LINKI.CRCERR) (s.get FLD_LINKI.BADMSG))

/-- Nothing on the island runs: outputs de-energised, no rounds, nothing settled (R632). -/
def State.islOff (s : State) : State :=
  ({ s with isl := { seqTo := s.isl.seqTo } }).puts [(FLD_FOUT.ACT, 0), (FLD_STATUS.UP, 0), (FLD_STATUS.HOSTLOSS, 0),
    (FLD_STATUS.REF_OK, 0), (FLD_CTRL.BUSY_REG, 0), (FLD_CTRL.BUSY_INJ, 0)]

/-- ISLAND_START (R620, R622): it starts with both excitations off, both outputs de-energised and no sequence, and says so. -/
def islandStartStep (s : State) : State :=
  s.whenDo (!s.isl.up) fun s => ((s.islOff).modIsl (fun x => { x with up := true, since := s.cyc, hb := s.cyc })).sendStatus

/-! ## Field inputs and outputs (R630 to R636, R640) -/

/-- FIN0_CHANGE (R628, R630). -/
def fin0ChangeStep (closed : Bool) (tick : Nat) (s : State) : State :=
  s.onIsl fun s => (s.modIsl (fun x => { x with fin := setBit x.fin 0 closed })).fromIsl (.ilk closed tick)

/-- FIN_DEBOUNCED (R631): reported, and a trigger of the sequences. -/
def finDebouncedStep (input : Nat) (closed : Bool) (tick : Nat) (s : State) : State :=
  s.onIsl fun s =>
    let fin := setBit s.isl.fin (input + 1) closed
    let s := (s.modIsl (fun x => { x with fin := fin })).fromIsl (.fin fin tick)
    s.fldStarts (s.iget FLD_CTRL.RSTART == 2 && s.iget FLD_CTRL.RTRIG == input + 4)
      (s.iget FLD_CTRL.ITRIG_EN == 1 && s.iget FLD_CTRL.ITRIG == input + 4)

/-- HOSTLOSS, LOSS_T after the last HB message (R634). -/
def hostlossStep (s : State) : State :=
  s.onIsl fun s => ((s.atCyc (s.isl.hb + s.iget FLD_HB.LOSS_T * msCyc)).puts [(FLD_FOUT.ACT, 0), (FLD_STATUS.HOSTLOSS, 1)]).sendStatus

/-- FOUT_OVERCURRENT (R635). -/
def foutOvercurrentStep (n : Nat) (s : State) : State :=
  s.whenDo (s.isl.up && s.get FLD_FOUT.ACT / 2 ^ n % 2 == 1) fun s =>
    (s.puts [(FLD_FOUT.ACT, setBit (s.get FLD_FOUT.ACT) n false), (FLD_STATUS.FOUT_OVC, setBit (s.get FLD_STATUS.FOUT_OVC) n true)]).sendStatus

/-- EXC_LIMIT (R640). -/
def excLimitStep (n : Nat) (s : State) : State :=
  s.whenDo (s.isl.up && s.iget (if n = 0 then FLD_EXC.EXC0 else FLD_EXC.EXC1) != 0) fun s =>
    (s.put FLD_STATUS.EXC_SHORT (setBit (s.get FLD_STATUS.EXC_SHORT) n true)).sendStatus

/-- EXC_SETTLE_EXPIRE (R638, R653). -/
def excSettleExpireStep (s : State) : State :=
  s.whenDo (s.isl.up && s.isl.settling) fun s =>
    (s.put FLD_STATUS.REF_OK (s.get FLD_STATUS.REF_OK ||| 4 * s.isl.excMoved)).modIsl (fun x => { x with settling := false, excMoved := 0 })

/-! ## Conversions (R637 to R644, R653 to R661) -/

/-- 10^27 times the ratio to R0 that the Callendar–Van Dusen equation gives at a temperature in 0.001 °C (R643). -/
def cvdRatio (t : Int) : Int :=
  10 ^ 27 + 39083 * 10 ^ 17 * t - 5775 * 10 ^ 11 * t ^ 2 - (if t < 0 then 4183 * (t - 100000) * t ^ 3 else 0)

/-- The greatest of 2^n temperatures from `lo` on whose resistance is at most num / den, for n halvings (R643). -/
def cvdFloor (num : Int) (den r0 : Nat) : Nat → Int → Int
  | 0, lo => lo
  | n + 1, lo =>
    let mid := lo + 2 ^ n
    cvdFloor num den r0 n (if mid ≤ 850001 ∧ r0 * den * cvdRatio mid ≤ num * 10 ^ 27 then mid else lo)

/-- The temperature in 0.001 °C of a resistance num / den in mΩ, one beyond the range of R644 where it lies outside; between two
steps the rounding is open (R643). -/
def cvdTemp (num : Int) (den r0 : Nat) : Int :=
  let t := cvdFloor num den r0 21 (-200001)
  if r0 * den * cvdRatio t = num * 10 ^ 27 then t else t + (Config.roundUp num (r0 * den)).toNat

/-- Conversions a filter needs to settle (R641). -/
def settleK (filt : Nat) : Nat := if filt = 0 then 3 else 4

/-- Output rate of an ODR code in 0.01 S/s (R641). -/
def odrRate (code : Nat) : Nat :=
  ([250, 500, 1000, 1667, 2000, 5000, 6000, 10000, 40000, 100000, 250000, 500000, 1000000] : List Nat).getD code 1000000

/-- A code held within ±(2^23 − 1), and whether it reached the limit (R644). -/
def holdCode (c : Int) : Int × Bool := (clampI (-8388607) 8388607 c, decide (c ≤ -8388607) || decide (8388607 ≤ c))

/-- VALUE of a code by the entry's MODE, with its gain, and whether it is CLIPPED: held at a limit, or a
negative resistance (R643, R644, R771); `free` stands for
a resistance that VALUE cannot hold, and for a temperature with R0 = 0. -/
def modeValue (mode rref r0 gain : Nat) (free : Nat) (c : Int) : Int × Bool :=
  if mode = 0 then (c, false)
  else if mode = 1 then
    let v := divRound (rref * c) (2 ^ gain * 2 ^ 23)
    (if decide (v < -2147483648) || decide (2147483647 < v) then signed 32 free else v, decide (c < 0))
  else
    let t := if r0 = 0 then signed 32 free else cvdTemp (rref * c) (2 ^ gain * 2 ^ 23) r0
    (clampI (-200000) 850000 t, decide (t < -200000) || decide (850000 < t))

/-- VALUE of a code under an entry as the island has it. -/
def State.entryValue (s : State) (e gain : Nat) (c : Int) : Int × Bool :=
  modeValue (s.iget (FLDE_W0.MODE e)) (s.iget (FLDE_W1.R_REF e)) (s.iget (FLDE_W2.R0 e)) gain s.freeVal c

/-- Gain code in force of an entry (R637, R654). -/
def State.gainOf (s : State) (e : Nat) : Nat :=
  if s.iget (FLDE_W0.AUTO e) = 1 then s.isl.gain.getD e 0 else s.iget (FLDE_W0.PGA e)

/-- The round after a conversion of an entry: a completed regular visit under RSTART 1 adds a record (R660); a continuous
round begins again (R648); after an injected round the regular one resumes, its filter fresh (R650, R653). -/
def State.fldAdvance (s : State) (injected : Bool) (r : Round) (e qual : Nat) (value : Int) : State :=
  let k := s.isl.rounds
  let visit := s.iget (FLDE_W0.N_C e)
  if injected then
    let nx := r.next visit (s.iget FLD_CTRL.N_INJ)
    (s.modIsl (fun x => { x with last := if nx.isNone && k.reg.isSome then none else x.last })).setFld { k with inj := nx }
  else
    let s := if visit ≤ r.conv + 1 && s.iget FLD_CTRL.RSTART == 1 then
        s.bufPut (s.iget (FLDE_W0.CH e)) { start := r.start, qual := qual, value := value }
      else s
    let nx := r.next visit (s.iget FLD_CTRL.N_REG)
    let s := s.setFld { k with reg := nx }
    if nx.isNone && s.iget FLD_CTRL.RSTART == 3 then s.fldReg else s

/-- The reference that an entry selects is settled: the internal one 5 ms after the start; a changed excitation makes every conversion
wait (R638, R653). -/
def State.refSettled (s : State) (e : Nat) : Bool :=
  !s.isl.settling && (s.iget (FLDE_W0.REF e) != 0 || decide (s.isl.since + 5 * msCyc ≤ s.cyc))

/-- FIELD_CONVERSION: a conversion of the entry in progress is marked, scaled and sent. One whose inputs left the
common-mode range is held at the limit of its sign (R772). -/
def fieldConversionStep (c : FieldConv) (s : State) : State :=
  let k := s.isl.rounds
  match (if c.injected then k.inj else if k.inj.isSome then none else k.reg) with
  | none => s
  | some r =>
    let e := if c.injected then 16 + r.entry else r.entry
    if !s.isl.up || !s.refSettled e then s
    else
      let auto := s.iget (FLDE_W0.AUTO e) == 1
      let g0 := s.gainOf e
      let lower := auto && c.overRange && g0 != 0
      let g := if lower then g0 - 1 else g0
      let kk := settleK (s.iget (FLDE_W0.FILT e))
      let ch := s.iget (FLDE_W0.CH e)
      let bo := s.iget (FLDE_W0.BO e)
      let set : ConvSet := { ch := ch, ref := s.iget (FLDE_W0.REF e), gain := g, filt := s.iget (FLDE_W0.FILT e), odr := s.iget (FLDE_W0.ODR e), bo := bo }
      let tail := max (max s.isl.tail (if s.isl.last = some set then 0 else kk)) (if lower then kk + 1 else 0)
      let h := holdCode (if c.commonOk then c.code else if decide (c.code < 0) then -8388607 else 8388607)
      let v := s.entryValue e g h.1
      let bad := decide (c.vref < 50) || decide (525 < c.vref)
      let value := if bad then 0 else v.1
      let qual := qualCode (worstQual [if bad then .gap else .good, if h.2 || v.2 then .clipped else .good, if tail = 0 then .good else .unsettled])
      let opened := bo != 0 && h.1 == 8388607
      let n := if decide (-8388608 < 5 * h.1) && decide (5 * h.1 < 8388608) && !lower then s.isl.low.getD e 0 + 1 else 0
      let raise := auto && n == 16 && decide (g < s.iget (FLDE_W0.PGA e))
      let index := if c.injected then 8 + r.entry else ch
      let s := s.drew.modIsl (fun x => { x with
        last := some set, tail := tail - 1
        gain := setAt x.gain e (if raise then g + 1 else g)
        low := setAt x.low e (if n = 16 then 0 else n)
        lastEntry := if c.injected then x.lastEntry else setAt x.lastEntry ch e })
      let s := s.updFldRef
      let s := if s.iget (FLDE_W0.REF e) = 1 then s.put FLD_STATUS.REF_OK (setBit (s.get FLD_STATUS.REF_OK) 1 (!bad)) else s
      let s := s.fromIsl (.result index qual ((s.get (FLDRES_W0.SEQ index) + 1) % 256) g opened (BitVec.ofInt 32 h.1) (BitVec.ofNat 32 c.tick))
      s.fldAdvance c.injected r e qual value

/-- The code of a quality number; the numbers R5 does not use read as GOOD. -/
def qualOf (n : Nat) : Qual :=
  (([.good, .unsettled, .lowq, .clipped, .gap, .failover, .apr, .tbCold, .fallback] : List Qual)[n]?).getD .good

/-- RESULT (R657 to R659): the result register of the index is written; a regular conversion reaches the trigger units, and a GOOD
temperature the coil reference. -/
def resultStep (index qual gain : Nat) (opened : Bool) (code tick : Word) (s : State) : State :=
  s.heard fun s =>
    let e := if 8 ≤ index then 16 + (index - 8) else s.isl.lastEntry.getD index 0
    let q := worseQual (qualOf qual) (if s.tbCold then .tbCold else .good)
    let v := if qual = 4 then 0 else (s.entryValue e gain code.toInt).1
    let back := divRound (settleK (s.iget (FLDE_W0.FILT e)) * 100000000000 * ns) (2 * odrRate (s.iget (FLDE_W0.ODR e)))
    let t := s.tickTime tick.toNat - back.toNat
    let s := ((s.drew.count (FLDRES_W0.SEQ index)).puts [(FLDRES_W0.READY index, 1), (FLDRES_W0.QUAL index, qualCode q),
        (FLDRES_W0.OPEN index, opened.toNat), (FLDRES_W0.GAIN index, gain), (FLDRES_W1.VALUE index, pattern 32 v)]).putStamp
      (FLDRES_W2.NS index) (FLDRES_W3.SEC_LO index) (FLDRES_W4.SEC_HI index) t
    let s := if opened then s.put FLD_STATUS.OPEN (setBit (s.get FLD_STATUS.OPEN) (s.iget (FLDE_W0.CH e)) true) else s
    let s := if index < 8 then
        s.trgOffer { kind := 4, src := index, inst := t, raw := t, epoch := s.epochAt t, vals := [(BitVec.ofInt 32 v, q)] }
      else s
    if q = .good && index < 8 && s.iget (FLDE_W0.MODE e) == 2 then s.coilResult index t v else s

/-- ROUND_TIMER_TICK (R648, R649, R660). -/
def roundTimerTickStep (mon : Bool) (s : State) : State :=
  if mon then s.whenDo (s.get MON_CTRL.RSTART == 1) State.monReg
  else s.whenDo (s.isl.up && s.iget FLD_CTRL.RSTART == 1) fun s =>
    if s.isl.rounds.reg.isSome then (s.drew.bufGap (s.fieldTime s.now)).fldReg else s.fldReg

/-! ## Register actions (R648, R650, R664) -/

/-- SWSTART and INJSTART of the field converter, by any bound session. -/
def State.fldSwAct (s : State) (path : Path) : Except Nat State := s.byBound path State.fldSw
def State.fldInjAct (s : State) (path : Path) : Except Nat State := s.byBound path (fun s => s.toIsl (.cmd false true))

/-- SWSTART and INJSTART of the monitor converter, by any bound session. -/
def State.monSwAct (s : State) (path : Path) : Except Nat State := s.byBound path State.monSw
def State.monInjAct (s : State) (path : Path) : Except Nat State := s.byBound path State.monInj

/-- A heartbeat of the host: forwarded as HB (R633). -/
def State.kickAct (s : State) (path : Path) : Except Nat State := s.byOwner path (fun s => s.toIsl .hb)

/-- A FOUT_SET: the mask, and a heartbeat (R633, R636). -/
def State.foutSet (s : State) (mask : Nat) : State := ((s.put FLD_FOUT.SET mask).toIsl .hb).toIsl (.fout mask)
def State.foutAct (s : State) (path : Path) (mask : Nat) : Except Nat State := s.byOwner path (fun s => s.foutSet mask)

/-- FLD_SWSTART. -/
def fldSwstartStep (path : Path) (s : State) : State := s.acted path 0x120000 (s.fldSwAct path)

/-- FLD_INJSTART. -/
def fldInjstartStep (path : Path) (s : State) : State := s.acted path 0x120000 (s.fldInjAct path)

/-- MON_SWSTART. -/
def monSwstartStep (path : Path) (s : State) : State := s.acted path 0x130000 (s.monSwAct path)

/-- MON_INJSTART. -/
def monInjstartStep (path : Path) (s : State) : State := s.acted path 0x130000 (s.monInjAct path)

/-- KICK. -/
def kickStep (path : Path) (s : State) : State := s.acted path 0x120018 (s.kickAct path)

/-- FLD_FOUT_WRITE. -/
def fldFoutWriteStep (path : Path) (mask : Nat) (s : State) : State := s.acted path 0x120014 (s.foutAct path mask)

/-! ## Requests -/

/-- Reply with the SEQ and words 0 to 4 of a result record that is ready (R441, R666). -/
def State.replyResult (s : State) (q : ReqHdr) (op : Nat) (ready seq : Fld) : State :=
  if s.flag ready then s.reply q op stOk [itSeq (s.get seq), itWords (s.rdWords ready.addr 5)] else s.reply q op stNotReady

/-- FLD_READ. -/
def fldReadBody (q : ReqHdr) (index : Nat) (s : State) : State :=
  s.checks q 0x0800 [(decide (7 < index), stParamRange)] fun s =>
    s.replyResult q 0x0800 (FLDRES_W0.READY index) (FLDRES_W0.SEQ index)

/-- MON_READ. -/
def monReadBody (q : ReqHdr) (index : Nat) (s : State) : State :=
  s.checks q 0x0802 [(decide (39 < index), stParamRange)] fun s =>
    s.replyResult q 0x0802 (MONRES_W0.READY index) (MONRES_W0.SEQ index)

/-- The timer period measured on the local clock in 2^-4 µs, by the last two TICK replies; nominal before them (R661). -/
def State.bufPeriod (s : State) : Nat :=
  let p := s.iget FLD_TIMER.PERIOD * 1600
  match s.isl.map with
  | (k1, t1) :: (k0, t0) :: _ =>
    let dk := (k1 + 2 ^ 32 - k0) % 2 ^ 32
    if dk = 0 then p else (divRound (p * (t1 - t0) : Nat) (dk * 4096000)).toNat
  | _ => p

/-- FLD_BUFFER (R661). -/
def fldBufferBody (q : ReqHdr) (index count : Nat) (s : State) : State :=
  s.checks q 0x0801 [(decide (7 < index) || decide (count < 1) || decide (2032 < count), stParamRange)] fun s =>
    let l := s.isl.rings.getD index []
    let l := l.drop (l.length - count)
    let newest := (l.getLast?.map (·.start)).getD s.freeVal
    let hdr : List Byte := beBytes 4 (l.length * 65536) ++ (itTime newest).val ++ beBytes 4 s.bufPeriod
    s.drew.reply q 0x0801 stOk [itData (hdr ++ l.flatMap (fun r => wordBytes r.word))]

/-- CONV_START (R648). -/
def convStartBody (q : ReqHdr) (index : Nat) (s : State) : State :=
  s.checks q 0x0803 [(decide (1 < index), stParamRange)] fun s =>
    (if index = 0 then s.fldSw else s.monSw).reply q 0x0803 stOk

/-- FOUT_SET (R636). -/
def foutSetBody (q : ReqHdr) (mask : Nat) (s : State) : State :=
  s.checks q 0x0804 [(decide (3 < mask), stParamRange), (s.owner != q.session.val, stNotOwner)] fun s =>
    (s.foutSet mask).reply q 0x0804 stOk

/-! ## Meanings -/

/-- FLD_READ (R658). -/
def execFldRead (q : ReqHdr) (index : Nat) (s : State) : Host.Outcome State Fault Refusal :=
  .next (s.request q 0x0800 (fldReadBody q index) (operands [itIndex index]))

/-- FLD_BUFFER (R661). -/
def execFldBuffer (q : ReqHdr) (index count : Nat) (s : State) : Host.Outcome State Fault Refusal :=
  .next (s.request q 0x0801 (fldBufferBody q index count) (operands [itIndex index, itCount count]))

/-- MON_READ (R658). -/
def execMonRead (q : ReqHdr) (index : Nat) (s : State) : Host.Outcome State Fault Refusal :=
  .next (s.request q 0x0802 (monReadBody q index) (operands [itIndex index]))

/-- CONV_START (R648). -/
def execConvStart (q : ReqHdr) (index : Nat) (s : State) : Host.Outcome State Fault Refusal :=
  .next (s.request q 0x0803 (convStartBody q index) (operands [itIndex index]))

/-- FOUT_SET (R636). -/
def execFoutSet (q : ReqHdr) (mask : BitVec 64) (s : State) : Host.Outcome State Fault Refusal :=
  .next (s.request q 0x0804 (foutSetBody q mask.toNat) (operands [itMask mask.toNat]))

/-- CFG (R626, R652): the two bytes of offset that the message carries are those in the FLD block (DEDUCED: log entry 209). -/
def execCfg (off : BitVec 16) (value : Word) (s : State) : Host.Outcome State Fault Refusal := .next (cfgStep (0x120000 + off.toNat) value s)

/-- CMD (R626). -/
def execCmd (regular injected : Bool) (s : State) : Host.Outcome State Fault Refusal := .next (cmdStep regular injected s)

/-- FOUT (R636). -/
def execFout (mask : BitVec 2) (s : State) : Host.Outcome State Fault Refusal := .next (foutStep mask.toNat s)

/-- HB (R634). -/
def execHb (s : State) : Host.Outcome State Fault Refusal := .next (hbStep s)

/-- TSYNC (R629). -/
def execTsync (s : State) : Host.Outcome State Fault Refusal := .next (tsyncStep s)

/-- BUFREQ (R626). -/
def execBufreq (ch : Fin 8) (first count : BitVec 16) (s : State) : Host.Outcome State Fault Refusal :=
  .next (bufreqStep ch.val first.toNat count.toNat s)

/-- ILK (R628). -/
def execIlk (closed : Bool) (tick : BitVec 32) (s : State) : Host.Outcome State Fault Refusal := .next (ilkStep closed tick.toNat s)

/-- FIN (R631). -/
def execFin (states : BitVec 4) (tick : BitVec 32) (s : State) : Host.Outcome State Fault Refusal :=
  .next (finStep states.toNat tick.toNat s)

/-- RESULT (R657). -/
def execResult (index qual : BitVec 4) (_seq : Byte) (gain : BitVec 3) (opened : Bool) (code tick : Word) (s : State) : Host.Outcome State Fault Refusal :=
  .next (resultStep index.toNat qual.toNat gain.toNat opened code tick s)

/-- STATUS (R626). -/
def execStatus (flags : Word) (vin : Byte) (echo : Byte) (crcerr badmsg : BitVec 16) (s : State) : Host.Outcome State Fault Refusal :=
  .next (statusStep flags vin.toNat echo.toNat crcerr.toNat badmsg.toNat s)

/-- TICK (R629). -/
def execTick (tick : BitVec 32) (s : State) : Host.Outcome State Fault Refusal := .next (tickStep tick.toNat s)

/-- BUFDATA (R626). -/
def execBufdata (ch : Fin 8) (index : BitVec 16) (rec0 rec1 : Word) (s : State) : Host.Outcome State Fault Refusal :=
  .next (bufdataStep ch.val index.toNat rec0 rec1 s)

/-- BARRIER_FRAME_ERROR (R627). -/
def execBarrierFrameError (toIsland : Bool) (badCrc : Bool) (s : State) : Host.Outcome State Fault Refusal :=
  .next (barrierFrameErrorStep toIsland badCrc s)

/-- ILK_SEND (R628). -/
def execIlkSend (s : State) : Host.Outcome State Fault Refusal := .next (ilkSendStep s)

/-- TSYNC_SEND (R629). -/
def execTsyncSend (s : State) : Host.Outcome State Fault Refusal := .next (tsyncSendStep s)

/-- ISLAND_START (R620). -/
def execIslandStart (s : State) : Host.Outcome State Fault Refusal := .next (islandStartStep s)

/-- FIN0_CHANGE (R630). -/
def execFin0Change (closed : Bool) (tick : BitVec 32) (s : State) : Host.Outcome State Fault Refusal :=
  .next (fin0ChangeStep closed tick.toNat s)

/-- FIN_DEBOUNCED (R631). -/
def execFinDebounced (input : Fin 3) (closed : Bool) (tick : BitVec 32) (s : State) : Host.Outcome State Fault Refusal :=
  .next (finDebouncedStep input.val closed tick.toNat s)

/-- HOSTLOSS (R634). -/
def execHostloss (s : State) : Host.Outcome State Fault Refusal := .next (hostlossStep s)

/-- FOUT_OVERCURRENT (R635). -/
def execFoutOvercurrent (output : Fin 2) (s : State) : Host.Outcome State Fault Refusal :=
  .next (foutOvercurrentStep output.val s)

/-- EXC_LIMIT (R640). -/
def execExcLimit (output : Fin 2) (s : State) : Host.Outcome State Fault Refusal := .next (excLimitStep output.val s)

/-- EXC_SETTLE_EXPIRE (R653). -/
def execExcSettleExpire (s : State) : Host.Outcome State Fault Refusal := .next (excSettleExpireStep s)

/-- ROUND_TIMER_TICK (R648). -/
def execRoundTimerTick (mon : Bool) (s : State) : Host.Outcome State Fault Refusal := .next (roundTimerTickStep mon s)

/-- FIELD_CONVERSION (R657). -/
def execFieldConversion (c : FieldConv) (s : State) : Host.Outcome State Fault Refusal := .next (fieldConversionStep c s)

/-- FLD_SWSTART (R648). -/
def execFldSwstart (path : Path) (s : State) : Host.Outcome State Fault Refusal := .next (fldSwstartStep path s)

/-- FLD_INJSTART (R650). -/
def execFldInjstart (path : Path) (s : State) : Host.Outcome State Fault Refusal := .next (fldInjstartStep path s)

/-- MON_SWSTART (R648). -/
def execMonSwstart (path : Path) (s : State) : Host.Outcome State Fault Refusal := .next (monSwstartStep path s)

/-- MON_INJSTART (R650). -/
def execMonInjstart (path : Path) (s : State) : Host.Outcome State Fault Refusal := .next (monInjstartStep path s)

/-- KICK (R633). -/
def execKick (path : Path) (s : State) : Host.Outcome State Fault Refusal := .next (kickStep path s)

/-- FLD_FOUT_WRITE (R636). -/
def execFldFoutWrite (path : Path) (mask : BitVec 2) (s : State) : Host.Outcome State Fault Refusal :=
  .next (fldFoutWriteStep path mask.toNat s)

end Sys2Proof.Machine
end

