-- ==== Sys2Proof/Machine/Cal.lean ====
section
/-! DEFINITION. Calibration: domains, micro-steps, application, the user record and its requests (chapter 19). -/

namespace Sys2Proof.Machine

/-! ## Quantities (R668, R685) -/

/-- Micro-steps of a run (R668). -/
def calSteps (d : Nat) : Nat := ([48, 48, 48, 48, 16, 56, 56, 28, 28, 18, 4, 16, 4] : List Nat).getD d 0

/-- Sensor of a domain among die 0-3 and the case (R668). -/
def calSensor (d : Nat) : Nat := ([0, 0, 1, 1, 2, 0, 1, 3, 3, 3, 4, 4, 4] : List Nat).getD d 0

/-- Quantities of a domain: lane trims, gain-correction words, transmit and bias points, sinks and cooler, gains and
offsets. -/
def calCount (d : Nat) : Nat := ([16, 16, 16, 16, 8, 112, 112, 5, 5, 9, 2, 16, 4] : List Nat).getD d 0

/-- The trim fields of a lane: OFFSET, GAIN, PHASE and SKEW. -/
def laneFld (l i : Nat) : Fld :=
  if i = 0 then RX_TRIM0.OFFSET l else if i = 1 then RX_TRIM0.GAIN l else if i = 2 then RX_TRIM1.PHASE l else RX_TRIM1.SKEW l

/-- The register field of a quantity; none where no register holds it, and none for PHASE of an even lane (R146, R164). -/
def calFld (d q : Nat) : Option Fld :=
  if d < 5 then
    let l := 4 * d + q / 4
    if q % 4 = 2 && l % 2 = 0 then none else some (laneFld l (q % 4))
  else if d < 7 then
    let l := 8 * (d - 5) + q / 14
    let g := q % 14 / 2 + 1
    some (if q % 2 = 0 then RX_GCOR.PHASE l g else RX_GCOR.DELAY l g)
  else none

/-- The value in force of a quantity. -/
def State.calVal (s : State) (d q : Nat) : Int :=
  match calFld d q with
  | some f => s.geti f
  | none => ((s.cal.trims.getD d []).getD q none).getD (Config.factoryTrim d q)

/-- Set a quantity's value in force. -/
def State.calSet (s : State) (d q : Nat) (v : Int) : State :=
  match calFld d q with
  | some f => s.puti f v
  | none => { s with cal := { s.cal with trims := updAt s.cal.trims d (fun l => setAt l q (some v)) } }

/-- Change the engine. -/
def State.modCal (s : State) (f : Calib → Calib) : State := { s with cal := f s.cal }

/-- A domain. -/
def State.dom (s : State) (d : Nat) : CalDom := s.cal.doms.getD d {}

/-- Change a domain. -/
def State.modDom (s : State) (d : Nat) (f : CalDom → CalDom) : State := s.modCal (fun x => { x with doms := updAt x.doms d f })

/-! ## Bits and STATE of a domain (R694, R695) -/

/-- The bit of a domain in a mask field. -/
def State.cbit (s : State) (f : Fld) (d : Nat) : Bool := s.get f / 2 ^ d % 2 == 1

/-- Set the bit of a domain in a mask field. -/
def State.setCbit (s : State) (f : Fld) (d : Nat) (b : Bool) : State := s.put f (setBit (s.get f) d b)

/-- A due domain cannot run now (R676 to R678, R681), nor during a self-test (R753). -/
def State.calBlocked (s : State) (d : Nat) : Bool :=
  let p := portOf ((d + 1) % 2)
  if s.flag BIST_STATUS.RUNNING then true
  else if d = 4 then s.flag PHS_STATUS.LNC_SUSP
  else if !s.emits then false
  else if d = 5 || d = 6 then s.get (PAT_RANGE.N_BIN p.idx) != 0
  else if d = 7 || d = 8 then
    decide (s.grid.tsw * 5 < s.grid.nslot * (s.durMax p s.bank s.grid.nslot + 40 + 1200))
  else false

/-- Now as a time of the grid, and the boundary of a shot by its global number. -/
def State.gridNow (s : State) : Ts := ((s.now : Int) - s.grid.shift).toNat
def State.boundaryOf (s : State) (m : Nat) : Ts := s.grid.align + m * s.tSw / max 1 s.grid.nslot

/-- The guard window that the next shot of a position closes, open now with 100 ns to spare on both sides of a micro-step of some
length in ns: the global number of that shot. The window of the shot one sweep before begins after that shot's own duration, and takes no
micro-step where a restore probe has shortened it (R24, R77, R85, R673, R674). -/
def State.guardOpen (s : State) (p : Port) (len : Nat) (used : List Nat) : Option Nat :=
  let n := s.grid.nslot
  let m0 := s.shotNo s.gridNow
  ((List.range n).map (fun i => m0 + i)).find? (fun m =>
    let ret := (s.get (PAT_RANGE.N_BIN p.idx) * s.binNs p + s.shotDur p (m - n) + 100) * ns
    !used.contains m && !s.guardShortAt p (m - n) && decide (s.boundaryOf m + ret ≤ s.gridNow + s.tSw) && decide (s.gridNow + (len + 100) * ns ≤ s.boundaryOf m))

/-- The gate-closed interval before the next shot boundary, open now for a TX micro-step of 1.0 µs inside a guard window (R99, R673,
R678). -/
def State.gateOpen (s : State) (p : Port) (used : List Nat) : Option Nat :=
  let m := s.shotNo s.gridNow
  let since := s.boundaryOf (m - 1) + (s.shotDur p (m - 1) + 20 + 100) * ns
  if !used.contains m && (s.guardOpen p 1000 []).isSome && decide (since ≤ s.gridNow) && decide (s.gridNow + (1000 + 100 + 20) * ns ≤ s.boundaryOf m)
  then some m else none

/-- The window that a micro-step of a domain takes now: none where it needs none, some of none where none is open (R673, R674, R678). -/
def State.calWindow (s : State) (d : Nat) : Option (Option Nat) :=
  let used := (s.dom d).wins
  if !s.emits || !s.grid.started then none
  else if d < 4 then (if s.grid.nslot < 16 then none else some (s.guardOpen (portOf (d / 2)) 1500 used))
  else if d = 7 || d = 8 then some (s.gateOpen (portOf (d - 7)) used)
  else none

/-- A micro-step waits: for the next guard window, where the one that is open takes none (R77, R85) or there is none (R673, R674, R678),
or for the end of the field rounds (R680). -/
def State.calWaits (s : State) (d : Nat) : Bool :=
  if d < 4 then s.guardTaken (portOf (d / 2)) || s.calWindow d == some none
  else if d = 7 || d = 8 then s.guardTaken (portOf (d - 7)) || s.calWindow d == some none
  else if d = 11 || d = 12 then !s.isl.up || s.isl.rounds.reg.isSome || s.isl.rounds.inj.isSome
  else false

/-- The window is used. -/
def State.useWindow (s : State) (d : Nat) : State :=
  match s.calWindow d with
  | some (some m) => s.modDom d (fun x => { x with wins := m :: x.wins.filter (fun e => decide (s.shotNo s.gridNow ≤ e)) })
  | _ => s

/-- DEFER and STATE of a domain as it stands. -/
def State.calSync (s : State) (d : Nat) : State :=
  let due := s.cbit CAL_DUE.DUE d
  let run := s.cbit CAL_STATUS.RUNNING d
  let defer := (due || run) && s.calBlocked d
  let st := if run then 2 else if s.cbit CAL_STUCK.STUCK d && !due then 4 else if defer then 3 else if due then 1 else 0
  (s.setCbit CAL_DUE.DEFER d defer).put (CALREC_W0.STATE d) st

/-- DEFER and STATE of every domain. -/
def State.calSyncAll (s : State) : State := (List.range 13).foldl State.calSync s

/-- A domain becomes due by a cause other than CAL_RUN; while it runs, the run satisfies the cause (R671, R672). -/
def State.calDue (s : State) (d : Nat) : State :=
  let t := s.modDom d (fun x => { x with own := true })
  if t.cbit CAL_STATUS.RUNNING d then t else t.setCbit CAL_DUE.DUE d true

/-- Every domain becomes due (R671). -/
def State.calDueAll (s : State) : State := ((List.range 13).foldl State.calDue s).calSyncAll

/-! ## The end of a run (R683 to R686, R693, R695) -/

/-- A named domain ends: each CAL_RUN that names it goes on without it, and ends with the last (R693). -/
def State.calEnd (s : State) (d : Nat) (ok : Bool) : State :=
  let l := s.cal.ops.map (fun (o : CalOp) =>
    if o.left / 2 ^ d % 2 = 1 then { o with left := setBit o.left d false, failed := o.failed || !ok } else o)
  let t := s.modCal (fun x => { x with ops := l.filter (fun o => o.left != 0) })
  (l.filter (fun o => o.left == 0)).foldl (fun (t : State) o => t.complete o.sess o.seq (if o.failed then stHwFault else stOk)) t

/-- Close a domain's record: READY, SEQ, RESULT and USTEPS; the run is over. -/
def State.calClose (s : State) (d result : Nat) : State :=
  let t := ((s.count (CALREC_W0.SEQ d)).puts [(CALREC_W0.READY d, 1), (CALREC_W0.RESULT d, result),
    (CALREC_W7.USTEPS d, min 65535 (s.dom d).tries)]).setCbit CAL_STATUS.RUNNING d false
  (t.modDom d (fun x => { x with steps := 0, tries := 0, own := false, ready := none }))

/-- A run in progress is abandoned: no value of it is applied, and it starts again (R682, R692). -/
def State.calAbandon (s : State) (d : Nat) : State :=
  if s.cbit CAL_STATUS.RUNNING d then
    ((s.count (CALREC_W0.SEQ d)).puts [(CALREC_W0.RESULT d, 4), (CALREC_W7.USTEPS d, min 65535 (s.dom d).tries)]).modDom d
      (fun x => { x with steps := 0, tries := 0, ready := none })
  else s

/-- Whether results of a domain may be applied at an instant of a sweep boundary, or at once (R683). -/
def State.calApplies (s : State) (d : Nat) (boundary : Bool) : Bool :=
  match (s.dom d).ready with
  | none => false
  | some (_, t) =>
    if d = 11 || d = 12 then !s.isl.rounds.reg.isSome && !s.isl.rounds.inj.isSome
    else if !s.emits then true
    else boundary && decide (t + 10000 * ns ≤ s.now)

/-- Apply a checked run together: the values, the record and its instant (R683, R686, R693). -/
def State.calApply (s : State) (d : Nat) : State :=
  match (s.dom d).ready with
  | none => s
  | some (vals, _) =>
    let s := vals.zipIdx.foldl (fun (t : State) (e : Int × Nat) => t.calSet d e.2 e.1) s
    let s := (s.cal.ops.filter (fun o => o.left / 2 ^ d % 2 == 1)).foldl (fun (t : State) o => t.commitPoint o.sess o.seq) s
    let s := ((s.count (CALREC_W0.RUNS d)).puts [(CALREC_W1.CONSEC d, 0), (CAL_STATUS.USER, 1),
        (CALREC_W2.T_LAST d, pattern 16 (s.cal.temps.getD (calSensor d) 0))]).putStamp
      (CALREC_W3.NS d) (CALREC_W4.SEC_LO d) (CALREC_W5.SEC_HI d) s.now
    let s := (s.calClose d 1).modDom d (fun x => { x with last := some s.cyc, retry := false })
    ((s.modCal (fun x => { x with runDirty := true })).calEnd d true).calSync d

/-- Apply every run whose time has come. -/
def State.calApplyAll (s : State) (boundary : Bool) : State :=
  (List.range 13).foldl (fun (t : State) d => if t.calApplies d boundary then t.calApply d else t) s

/-- The limit of a quantity's change in 2^-10 units, from STEP_0 and STEP_T; before any successful run the change of
temperature is not stated (R685). -/
def State.calLimit (s : State) (d q : Nat) : Nat :=
  let dt := if (s.dom d).last.isSome then (s.cal.temps.getD (calSensor d) 0 - s.geti (CALREC_W2.T_LAST d)).natAbs else s.freeVal
  Config.calStep0 d q + Config.calStepT d q * dt

/-- A value of a run fails R685: 2 by LIM, 3 by its step, 0 where it passes. -/
def State.calFails (s : State) (d q : Nat) (v : Int) : Nat :=
  if decide (v < Config.calLow d q) || decide (Config.calHigh d q < v) then 2
  else if decide (s.calLimit d q < (v - s.calVal d q).natAbs * 1024) then 3 else 0

/-- CAL_RESULT_CHECK: the values of a run pass together or the run fails (R685, R686). -/
def State.calCheck (s : State) (d : Nat) (values : List Int) : State :=
  let l := (List.range (calCount d)).map (fun i => values.getD i (s.calVal d i))
  let bad := (l.zipIdx.map (fun (e : Int × Nat) => s.calFails d e.2 e.1)).filter (fun c => c != 0)
  let dev := maxN (l.zipIdx.map (fun (e : Int × Nat) =>
    let m := s.calLimit d e.2
    if m = 0 then 0 else (divRound ((e.1 - s.calVal d e.2).natAbs * 1024 * 1024 : Nat) m).toNat))
  let s := s.drew.put (CALREC_W6.MAXDEV d) (min 65535 dev)
  match bad with
  | [] =>
    let t := s.modDom d (fun x => { x with ready := some (l, s.now) })
    if t.calApplies d false then t.calApply d else t
  | c :: _ =>
    let s := ((s.setCbit CAL_STATUS.FAIL d true).countSat (CALREC_W1.CONSEC d)).countSat (CALREC_W1.FAILS d)
    let s := ((s.calClose d c).eventOwner 0x0501 d).calEnd d false
    let s := if s.get CAL_RETRY.RETRY_N ≤ s.get (CALREC_W1.CONSEC d) then (s.setCbit CAL_STUCK.STUCK d true).eventAll 0x0502 d
      else s.modDom d (fun x => { x with retry := true, failedAt := s.cyc })
    s.calSync d

/-! ## Rows -/

/-- CAL_MICRO_STEP (R672 to R681): the first starts the run, one in which a lane clips is repeated, the last ends in the
check. -/
def calMicroStepStep (d : Nat) (clipped : Bool) (values : List Int) (s : State) : State :=
  let run := s.cbit CAL_STATUS.RUNNING d
  s.whenDo ((run || s.cbit CAL_DUE.DUE d) && !s.calBlocked d && !s.calWaits d && (s.dom d).ready.isNone) fun s =>
    let s := if run then s
      else ((s.setCbit CAL_STATUS.RUNNING d true).setCbit CAL_DUE.DUE d false).put (CALREC_W0.READY d) 0
    let n := (s.dom d).steps + (!clipped).toNat
    let s := ((s.useWindow d).modDom d (fun x => { x with steps := n, tries := x.tries + 1, retry := false })).calSync d
    if n < calSteps d then s else s.calCheck d values

/-- A domain has calibration current (R687). -/
def State.calCurrent (s : State) (d : Nat) : Bool :=
  match (s.dom d).last with
  | none => false
  | some c => decide (s.cyc ≤ c + s.get CAL_CFG.MAXINT * sCyc)
      && decide ((s.cal.temps.getD (calSensor d) 0 - s.geti (CALREC_W2.T_LAST d)).natAbs ≤ s.get CAL_CFG.DELTA_T * 10)

/-- Die 2 more than 5 °C away from its temperature at the last training step makes a step due (R714). -/
def State.trainMoved (s : State) : State :=
  if 500 < (s.cal.temps.getD 2 0 - s.dmc.trainTemp).natAbs then { s with dmc := { s.dmc with trainDue := true } } else s

/-- CAL_SENSOR_READ (R671, R672, R714). -/
def calSensorReadStep (die0 die1 die2 die3 tcase : Int) (s : State) : State :=
  let s := (s.modCal (fun x => { x with temps := [die0, die1, die2, die3, tcase] })).trainMoved
  ((List.range 13).foldl (fun (t : State) d =>
    match (t.dom d).last with
    | none => t
    | some c =>
      let far := decide (t.get CAL_CFG.DELTA_T * 10 < (t.cal.temps.getD (calSensor d) 0 - t.geti (CALREC_W2.T_LAST d)).natAbs)
      let old := decide (c + t.get CAL_CFG.MAXINT * sCyc ≤ t.cyc)
      if t.cbit CAL_AUTO.EN d && !t.cbit CAL_STUCK.STUCK d && (far || old) then t.calDue d else t) s).calSyncAll

/-- CAL_RETRY_EXPIRE, RETRY_T after the failure (R686). -/
def calRetryExpireStep (d : Nat) (s : State) : State :=
  s.whenDo ((s.dom d).retry && !s.cbit CAL_STUCK.STUCK d) fun s =>
    (((s.atCyc ((s.dom d).failedAt + s.get CAL_RETRY.RETRY_T * sCyc)).modDom d (fun x => { x with retry := false })).calDue d).calSync d

/-- The words of the user record that registers hold: lane trims, gain-correction words and compensation tables. -/
def calWords : List Nat :=
  (List.range 36).map (fun i => 0x050100 + 4 * i) ++ (List.range 128).map (fun i => 0x050400 + 4 * i)
    ++ (List.range 64).map (fun i => 0x030400 + 4 * i)

/-- Save the user record (R690). -/
def State.calSave (s : State) : State :=
  s.modCal (fun x => { x with
    user := some { words := calWords.map (fun o => (o, s.rd o)), trims := x.trims }, ownerDirty := false, runDirty := false
    savedAt := if x.runDirty then some s.cyc else x.savedAt })

/-- CAL_USER_SAVE (R690): an owner change, or results of runs at most once every 24 h. -/
def calUserSaveStep (s : State) : State :=
  let day := match s.cal.savedAt with
    | some c => decide (c + 86400 * sCyc ≤ s.cyc)
    | none => true
  s.whenDo (s.cal.ownerDirty || (s.cal.runDirty && day)) State.calSave

/-- At boot: the factory record, then the user record where it is sound (R691). -/
def State.calLoad (s : State) : State :=
  match s.cal.user with
  | none => s
  | some u =>
    if u.sound then ((u.words.foldl (fun (t : State) e => t.wr e.1 e.2) s).modCal (fun x => { x with trims := u.trims })).put CAL_STATUS.USER 1
    else (s.put CAL_STATUS.USERBAD 1).eventAll 0x0503 0

/-- The commit point of RESTORE_FACTORY: runs abandoned, factory values, every domain due, the user record erased (R692). -/
def State.calRestore (s : State) : State :=
  match s.cal.restore with
  | none => s
  | some (r, seq, _) =>
    let s := (List.range 13).foldl (fun (t : State) d => (t.calAbandon d).setCbit CAL_STATUS.RUNNING d false) s
    let s := ((s.resetWords calWords).puts [(CAL_STATUS.USER, 0), (CAL_STUCK.STUCK, 0)]).modCal (fun x => { x with
      trims := List.replicate 13 (List.replicate 18 none), restore := none, user := none, ownerDirty := false, runDirty := false })
    s.calDueAll.complete r seq stOk

/-- RESTORE_FACTORY takes effect 1 ms after its acceptance while the device does not emit (R692). -/
def State.calRestoreDue (s : State) : State :=
  match s.cal.restore with
  | some (_, _, c) => if !s.emits && decide (c + msCyc ≤ s.cyc) then s.calRestore else s
  | none => s

/-- What a sweep boundary does to calibration: a RESTORE_FACTORY takes effect, checked results are applied (R683, R692). -/
def State.calBoundary (s : State) : State := (if s.emits then s.calRestore else s).calApplyAll true |>.calSyncAll

/-- A committed change of a port's sweep abandons its runs in progress (R682). -/
def State.calPortMoved (s : State) (p : Port) : State :=
  let l := if p = Port.a then [0, 1, 5, 7] else [2, 3, 6, 8]
  (l.foldl (fun (t : State) d => t.calAbandon d) s).calSyncAll

/-! ## Requests -/

/-- CAL_RUN (R693). -/
def calRunBody (q : ReqHdr) (mask : Nat) (s : State) : State :=
  s.checks q 0x0500 [(s.longsFull q, stBusy), (decide (8191 < mask), stParamRange), (s.owner != q.session.val, stNotOwner), (s.dev == 1, stHeld)] fun s =>
    s.startLong q 0x0500 mask fun s =>
      let s := (bitsOf 13 mask).foldl (fun (t : State) d =>
        let t := t.setCbit CAL_STUCK.STUCK d false
        if t.cbit CAL_STATUS.RUNNING d then t else t.setCbit CAL_DUE.DUE d true) s
      let s := (s.modCal (fun x => { x with ops := x.ops ++ [{ sess := q.session.val, seq := q.seq, left := mask }] })).calSyncAll
      if mask = 0 then (s.modCal (fun x => { x with ops := x.ops.filter (fun o => o.left != 0) })).complete q.session.val q.seq stOk
      else s

/-- A CAL_RUN or RESTORE_FACTORY is aborted before its commit point: domains nothing else wants end CANCELLED (R444, R692). -/
def State.calAbort (s : State) (r : Nat) (seq : BitVec 32) : State :=
  let mine (o : CalOp) : Bool := o.sess == r && o.seq == seq
  let left := sumN ((s.cal.ops.filter mine).map (·.left))
  let s := s.modCal (fun x => { x with
    ops := x.ops.filter (fun o => !mine o)
    restore := x.restore.filter (fun e => !(e.1 == r && e.2.1 == seq)) })
  ((bitsOf 13 left).foldl (fun (t : State) d =>
    if (t.dom d).own || t.cal.ops.any (fun o => o.left / 2 ^ d % 2 == 1) then t
    else if t.cbit CAL_STATUS.RUNNING d then t.calClose d 5
    else t.setCbit CAL_DUE.DUE d false) s).calSyncAll

/-- CAL_STATUS. -/
def calStatusBody (q : ReqHdr) (s : State) : State := s.reply q 0x0501 stOk [itWords [s.rd 0x140000]]

/-- CAL_READ (R441, R695). -/
def calReadBody (q : ReqHdr) (d : Nat) (s : State) : State :=
  s.checks q 0x0502 [(!s.flag (CALREC_W0.READY d) && decide (d ≤ 12), stNotReady), (decide (12 < d), stParamRange)] fun s =>
    s.reply q 0x0502 stOk [itWords (s.rdWords (CALREC_W0.READY d).addr 8)]

/-- RESTORE_FACTORY; a second is told BUSY while one is in progress (R443, R692; DESIGN CHOICE: log entry 195). -/
def restoreFactoryBody (q : ReqHdr) (s : State) : State :=
  s.checks q 0x0503 [(s.cal.restore.isSome || s.longsFull q, stBusy), (s.owner != q.session.val, stNotOwner)] fun s => s.startLong q 0x0503 0 fun s =>
    s.modCal (fun x => { x with restore := some (q.session.val, q.seq, s.cyc) })

/-! ## Meanings -/

/-- CAL_RUN (R693). -/
def execCalRun (q : ReqHdr) (mask : BitVec 64) (s : State) : Host.Outcome State Fault Refusal :=
  .next (s.request q 0x0500 (calRunBody q mask.toNat) (operands [itMask mask.toNat]))

/-- CAL_STATUS (R436). -/
def execCalStatus (q : ReqHdr) (s : State) : Host.Outcome State Fault Refusal := .next (s.request q 0x0501 (calStatusBody q))

/-- CAL_READ (R695). -/
def execCalRead (q : ReqHdr) (index : Nat) (s : State) : Host.Outcome State Fault Refusal :=
  .next (s.request q 0x0502 (calReadBody q index) (operands [itIndex index]))

/-- RESTORE_FACTORY (R692). -/
def execRestoreFactory (q : ReqHdr) (s : State) : Host.Outcome State Fault Refusal :=
  .next (s.request q 0x0503 (restoreFactoryBody q))

/-- CAL_SENSOR_READ (R671). -/
def execCalSensorRead (die0 die1 die2 die3 tcase : Int) (s : State) : Host.Outcome State Fault Refusal :=
  .next (calSensorReadStep die0 die1 die2 die3 tcase s)

/-- CAL_MICRO_STEP (R673). -/
def execCalMicroStep (domain : Fin 13) (clipped : Bool) (values : List Int) (s : State) : Host.Outcome State Fault Refusal :=
  .next (calMicroStepStep domain.val clipped values s)

/-- CAL_RETRY_EXPIRE (R686). -/
def execCalRetryExpire (domain : Fin 13) (s : State) : Host.Outcome State Fault Refusal := .next (calRetryExpireStep domain.val s)

/-- CAL_USER_SAVE (R690). -/
def execCalUserSave (s : State) : Host.Outcome State Fault Refusal := .next (calUserSaveStep s)

end Sys2Proof.Machine
end

