-- ==== Sys2Proof/Machine/Dmc.lean ====
section
/-! DEFINITION. The external memory controller: reads among queued requests, refresh, row disturbance, read after write, training and set-points
(chapter 20). -/

namespace Sys2Proof.Machine

/-- Change the controller. -/
def State.modDmc (s : State) (f : Dmc → Dmc) : State := { s with dmc := f s.dmc }

/-- A number of a channel and bank. -/
def bankVal (l : List (List Nat)) (ch b : Nat) : Nat := (l.getD ch []).getD b 0

/-- A number of a channel and bank set. -/
def setBank (l : List (List Nat)) (ch b v : Nat) : List (List Nat) := updAt l ch (fun r => setAt r b v)

/-- The code of F of a channel (R719): F is 2 to the code less 2. -/
def fFld (ch : Nat) : Fld :=
  if ch = 0 then DMC_STATUS.F0 else if ch = 1 then DMC_STATUS.F1 else if ch = 2 then DMC_STATUS.F2 else DMC_STATUS.F3

/-- MAXDEBT follows the greatest debt of a channel (R719). -/
def State.maxDebt (s : State) (ch : Nat) : State :=
  s.put (DMC_REF.MAXDEBT ch) (max (s.get (DMC_REF.MAXDEBT ch)) (min 255 (maxN (s.dmc.debt.getD ch []))))

/-! ## Densities (R697) -/

/-- The densities read at boot: the smallest counts, and channels that differ are flagged (R697). -/
def State.readDens (s : State) : State :=
  let l := (List.range 4).map (fun c => (Config.mr8 c).val)
  let m := l.foldl min 2
  s.puts [(DMC_STATUS.DENS, m), (DMC_STATUS.MISMATCH, (l.any (fun d => d != m)).toNat)]

/-! ## Refresh (R705 to R709) -/

/-- MR4_READ of one channel: a rise of F converts every bank's debt, a fall keeps it (R707, R708). -/
def State.mr4 (s : State) (ch code : Nat) : State :=
  let old := s.get (fFld ch)
  if 4 < code then s
  else
    let t := s.put (fFld ch) code
    if code ≤ old then t
    else
      let l := (s.dmc.debt.getD ch []).map (fun d => d * 2 ^ (code - old))
      (t.modDmc (fun x => { x with debt := setAt x.debt ch l, burst := setAt x.burst ch l })).maxDebt ch

/-- MR4_READ. -/
def mr4ReadStep (f0 f1 f2 f3 : Nat) (s : State) : State := (((s.mr4 0 f0).mr4 1 f1).mr4 2 f2).mr4 3 f3

/-- REFRESH_DUE: one more refresh is owed (R705). One that falls due among a converted debt joins it; after it, while F ≥ 2, the
refresh owed before has been issued within its interval (R707). -/
def refreshDueStep (ch b : Nat) (s : State) : State :=
  let d := bankVal s.dmc.debt ch b
  let c := bankVal s.dmc.burst ch b
  if c = 0 && decide (3 ≤ s.get (fFld ch)) && d != 0 then s
  else (s.modDmc (fun x => { x with debt := setBank x.debt ch b (d + 1), burst := setBank x.burst ch b (if c = 0 then 0 else c + 1) })).maxDebt ch

/-- REFRESH_ISSUE: one of the bank's debt; forced ahead of activates at a debt of 8 while F ≤ 1, or of a converted debt
(R706, R707). -/
def refreshIssueStep (ch b : Nat) (s : State) : State :=
  let d := bankVal s.dmc.debt ch b
  let c := bankVal s.dmc.burst ch b
  s.whenDo (d != 0) fun s =>
    let t := s.modDmc (fun x => { x with debt := setBank x.debt ch b (d - 1), burst := setBank x.burst ch b (c - 1) })
    if c != 0 || (decide (s.get (fFld ch) ≤ 2) && decide (8 ≤ d)) then t.countSat (DMC_REF.FORCED ch) else t

/-! ## Row disturbance (R710 to R712) -/

/-- A table after an activate of a row: its entry counts on, or it takes the place of an entry with the lowest count,
whichever of them the device picks; and whether its count reached the threshold, which sets it to 0 (R711). -/
def tableHit (t : List (Nat × Nat)) (row thr pick : Nat) : List (Nat × Nat) × Bool :=
  let bump (c : Nat) : Nat := if thr ≤ c + 1 then 0 else c + 1
  match t.find? (fun e => e.1 == row) with
  | some (_, c) => (t.map (fun e => if e.1 = row then (row, bump c) else e), decide (thr ≤ c + 1))
  | none =>
    if t.length < 256 then (t ++ [(row, bump 0)], decide (thr ≤ 1))
    else
      let low := t.foldl (fun m e => min m e.2) 8192
      let ties := (t.zipIdx.filter (fun e => e.1.2 == low)).map (·.2)
      (setAt t (ties.getD (pick % ties.length) 0) (row, bump low), decide (thr ≤ low + 1))

/-- ROW_ACTIVATE: no activate goes ahead of a debt that R706 or R707 puts before it. On channels 1 to 3 it calls for a
neighbour refresh with probability 2^-P, on channel 0 by its table. -/
def rowActivateStep (ch b row : Nat) (s : State) : State :=
  let wait := bankVal s.dmc.burst ch b != 0 || (decide (s.get (fFld ch) ≤ 2) && decide (8 ≤ bankVal s.dmc.debt ch b))
  s.whenDo (!wait) fun s =>
    if ch = 0 then
      let r := tableHit (s.dmc.tables.getD b []) row s.dmc.rdThr s.freeVal
      let t := s.drew.modDmc (fun x => { x with tables := setAt x.tables b r.1 })
      if r.2 then t.count (DMC_NR.COUNT 0) else t
    else if s.freeVal % 2 ^ s.dmc.rdP = 0 then s.drew.count (DMC_NR.COUNT ch)
    else s.drew

/-- RD_TABLE_CLEAR: every table is cleared, and a change of DMC_RD takes effect (R711, R719). -/
def rdTableClearStep (s : State) : State :=
  s.modDmc (fun x => { x with tables := List.replicate 16 [], rdP := s.get DMC_RD.P, rdThr := s.get DMC_RD.THR })

/-! ## Reads, training and set-points (R703, R714 to R718) -/

/-- A channel serves its queue until a request has been served. -/
def State.dramUntil (s : State) (r : DramReq) : Nat → State
  | 0 => s
  | n + 1 => if s.dmc.queue.contains r then (s.dramServe r.ch (fun _ => true)).dramUntil r n else s

/-- DRAM_READ: a read of 64 B reaches a channel. One that meets a queued write to its 64 B waits for it and is counted; the channel
serves its queue in the order of R701 up to the read (R701, R703, R704). -/
def dramReadStep (ch cls addr : Nat) (s : State) : State :=
  let r : DramReq := { ch := ch, write := false, cls := cls, addr := addr / 64 * 64, len := 64, since := s.cyc }
  let t := if s.dmc.queue.any (fun w => w.ch == ch && w.write && w.hits r) then s.count (DMC_RAW.COUNT ch) else s
  let t := t.modDmc (fun x => { x with queue := x.queue ++ [r] })
  t.dramUntil r t.dmc.queue.length

/-- The result of training one channel's set-point in force. -/
def State.trainOne (s : State) (ch : Nat) : State :=
  let one := s.flag DMC_STATUS.FSP
  s.drew.modDmc (fun x => { x with timing := updAt x.timing ch (fun p => if one then (p.1, s.freeVal) else (s.freeVal, p.2)) })

/-- TRAINING_STEP: its result applies to the set-point in force (R714, R717). -/
def trainingStepStep (ch : Nat) (s : State) : State :=
  ((s.trainOne ch).modDmc (fun x => { x with trainDue := false, trainTemp := s.cal.temps.getD 2 0 })).count DMC_TRAIN.STEPS

/-- The set-point the device state asks for (R715). -/
def State.fspWanted (s : State) : Nat := if s.flag DMC_CFG.AUTO && (s.dev == 2 || s.dev == 5) then 1 else 0

/-- FREQ_CHANGE: to the set-point asked for; one already in force drops the change (R715, R716, R718). -/
def freqChangeStep (s : State) : State := s.changeFsp s.fspWanted

/-! ## Meanings -/

/-- MR4_READ (R705). -/
def execMr4Read (f0 f1 f2 f3 : BitVec 3) (s : State) : Host.Outcome State Fault Refusal :=
  .next (mr4ReadStep f0.toNat f1.toNat f2.toNat f3.toNat s)

/-- REFRESH_DUE (R705). -/
def execRefreshDue (ch : Fin 4) (bank : Fin 16) (s : State) : Host.Outcome State Fault Refusal :=
  .next (refreshDueStep ch.val bank.val s)

/-- REFRESH_ISSUE (R706). -/
def execRefreshIssue (ch : Fin 4) (bank : Fin 16) (s : State) : Host.Outcome State Fault Refusal :=
  .next (refreshIssueStep ch.val bank.val s)

/-- ROW_ACTIVATE (R710). -/
def execRowActivate (ch : Fin 4) (bank : Fin 16) (row : Nat) (s : State) : Host.Outcome State Fault Refusal :=
  .next (rowActivateStep ch.val bank.val row s)

/-- RD_TABLE_CLEAR (R711). -/
def execRdTableClear (s : State) : Host.Outcome State Fault Refusal := .next (rdTableClearStep s)

/-- DRAM_READ (R703). -/
def execDramRead (ch : Fin 4) (cls addr : Nat) (s : State) : Host.Outcome State Fault Refusal :=
  .next (dramReadStep ch.val cls addr s)

/-- TRAINING_STEP (R714). -/
def execTrainingStep (ch : Fin 4) (s : State) : Host.Outcome State Fault Refusal := .next (trainingStepStep ch.val s)

/-- FREQ_CHANGE (R716). -/
def execFreqChange (s : State) : Host.Outcome State Fault Refusal := .next (freqChangeStep s)

end Sys2Proof.Machine
end

