-- ==== Sys2Proof/Machine/ReedCode.lean ====
section
/-! DEFINITION. The 64-bit reed instruction word (R358 to R360): opcodes, operand fields, what makes an encoding
undefined (R365), and the two directions between words and commands. -/

namespace Sys2Proof.Machine

/-- The opcodes of R366. -/
inductive ROp where
  | nop | endPass | loop | loopr | ldp | addp | setam | setq | rotw
  | mpy | mac | msu | sqa | adda | suba | addi | adds | shra | shla | absa | bexp | nrm
  | movad | movda | movi | mov | movf | mant | ash | dtap | sethd | dput | dget
  deriving DecidableEq, Repr

/-- Opcode number. -/
def ROp.code : ROp → Nat
  | .nop => 0x00 | .endPass => 0x01 | .loop => 0x02 | .loopr => 0x03 | .ldp => 0x04 | .addp => 0x05 | .setam => 0x06 | .setq => 0x07
  | .rotw => 0x08 | .mpy => 0x10 | .mac => 0x11 | .msu => 0x12 | .sqa => 0x13 | .adda => 0x14 | .suba => 0x15 | .addi => 0x16
  | .adds => 0x17 | .shra => 0x18 | .shla => 0x19 | .absa => 0x1A | .bexp => 0x1B | .nrm => 0x1C | .movad => 0x1D | .movda => 0x1E
  | .movi => 0x1F | .mov => 0x20 | .movf => 0x21 | .mant => 0x22 | .ash => 0x23 | .dtap => 0x28 | .sethd => 0x29 | .dput => 0x2A
  | .dget => 0x2B

/-- The opcode of a number; none where R366 has none. -/
def ROp.ofCode : Nat → Option ROp
  | 0x00 => some .nop | 0x01 => some .endPass | 0x02 => some .loop | 0x03 => some .loopr | 0x04 => some .ldp | 0x05 => some .addp
  | 0x06 => some .setam | 0x07 => some .setq | 0x08 => some .rotw | 0x10 => some .mpy | 0x11 => some .mac | 0x12 => some .msu
  | 0x13 => some .sqa | 0x14 => some .adda | 0x15 => some .suba | 0x16 => some .addi | 0x17 => some .adds | 0x18 => some .shra
  | 0x19 => some .shla | 0x1A => some .absa | 0x1B => some .bexp | 0x1C => some .nrm | 0x1D => some .movad | 0x1E => some .movda
  | 0x1F => some .movi | 0x20 => some .mov | 0x21 => some .movf | 0x22 => some .mant | 0x23 => some .ash | 0x28 => some .dtap
  | 0x29 => some .sethd | 0x2A => some .dput | 0x2B => some .dget
  | _ => none

end Sys2Proof.Machine

namespace Sys2Proof

/-! ## Operand fields (R359): positions within ARG, whose bit 0 is bit 40 of the word -/

/-- Bits of ARG from a position on. -/
def argBits (o : ReedArgs) (lo width : Nat) : Nat := o.arg.toNat / 2 ^ lo % 2 ^ width

def ReedArgs.acc (o : ReedArgs) : Nat := argBits o 16 2
def ReedArgs.dst (o : ReedArgs) : Nat := argBits o 13 5
def ReedArgs.cFlag (o : ReedArgs) : Bool := argBits o 15 1 == 1
def ReedArgs.pFlag (o : ReedArgs) : Bool := argBits o 14 1 == 1
def ReedArgs.zFlag (o : ReedArgs) : Bool := argBits o 13 1 == 1
def ReedArgs.acc2 (o : ReedArgs) : Nat := argBits o 11 2
def ReedArgs.ptr (o : ReedArgs) : Nat := argBits o 10 3
def ReedArgs.mode (o : ReedArgs) : Nat := argBits o 8 2
def ReedArgs.len (o : ReedArgs) : Nat := argBits o 0 13
def ReedArgs.s1 (o : ReedArgs) : Nat := argBits o 6 5
def ReedArgs.s2 (o : ReedArgs) : Nat := argBits o 1 5
def ReedArgs.imm6 (o : ReedArgs) : Nat := argBits o 0 6
def ReedArgs.imm16 (o : ReedArgs) : Nat := o.ym.toNat % 65536

end Sys2Proof

namespace Sys2Proof.Machine

/-- The opcode takes IMM16 from YM (R359, R366). -/
def ROp.imm : ROp → Bool
  | .loop | .ldp | .addp | .setam | .setq | .addi | .movi | .sethd => true
  | _ => false

/-- The opcode is one of the whole-mode instructions (R366). -/
def ROp.whole : ROp → Bool
  | .dtap | .sethd | .dput | .dget => true
  | _ => false

/-- ARG bits an opcode uses. -/
def ROp.argMask : ROp → Nat
  | .nop | .endPass | .setq | .rotw | .sethd => 0
  | .loop | .loopr => 0x3FFF            -- ROT at bit 13, LEN
  | .ldp | .addp => 0x1C00              -- PTR
  | .setam => 0x1F00                    -- PTR, MODE
  | .mpy | .mac | .msu => 0x307FE       -- ACC, S1, S2
  | .sqa => 0x3183F                     -- ACC, ACC2, IMM6
  | .adda | .suba => 0x31800            -- ACC, ACC2
  | .addi | .absa => 0x30000            -- ACC
  | .adds | .movda | .ash => 0x307C0    -- ACC, S1
  | .shra | .shla => 0x3003F            -- ACC, IMM6
  | .bexp => 0x3F800                    -- DST, ACC2
  | .nrm => 0x3003E                     -- ACC, S2
  | .movad => 0x3F83F                   -- DST, ACC2, IMM6
  | .movi | .movf => 0x3E000            -- DST
  | .mov => 0x3E7C0                     -- DST, S1
  | .mant => 0x3FFC0                    -- DST, ACC2, S1
  | .dtap => 0x3E03F                    -- ACC, C, P, Z, IMM6
  | .dput => 0x0003F                    -- IMM6
  | .dget => 0x0403F                    -- DIR, IMM6

/-- YM bits an immediate opcode uses. -/
def ROp.immMask : ROp → Nat
  | .ldp => 0x3FFF
  | .setam => 0x1FFF
  | .setq | .sethd => 0x3FF
  | _ => 0xFFFF

/-! ## Move fields (R360) -/

def mvKind (f : BitVec 20) : Nat := f.toNat / 2 ^ 17
def mvReg (f : BitVec 20) : Nat := f.toNat / 2 ^ 12 % 32
def mvPtr (f : BitVec 20) : Nat := f.toNat / 2 ^ 9 % 8
def mvUpd (f : BitVec 20) : Nat := f.toNat / 2 ^ 7 % 4
def mvOff (f : BitVec 20) : Int := signed 7 (f.toNat % 128)

/-- A move field is defined: KIND is not 7, and fields that its KIND or UPD does not use are 0. -/
def mvOk (f : BitVec 20) : Bool :=
  let k := mvKind f
  if k = 0 then f == 0
  else k != 7 && (decide (k < 3) || decide (mvReg f < 4)) && (mvUpd f == 3 || mvOff f == 0)

/-- A move field updates a pointer. -/
def mvMoves (f : BitVec 20) : Bool := mvKind f != 0 && mvUpd f != 0

/-- A natural is a power of two. -/
def isPow2 (n : Nat) : Bool := n != 0 && n == 2 ^ n.log2

/-- The encoding is defined (R365, R369): opcode fields, move fields, immediates, and the move fields of the delay line. A
shift of shra or shla is at most 39, and a loop body holds at least one instruction (R359, R366). -/
def reedOk (op : ROp) (o : ReedArgs) : Bool :=
  o.arg.toNat &&& (0x3FFFF ^^^ op.argMask) == 0
  && mvOk o.xm
  && (if op.imm then o.ym.toNat &&& (0xFFFFF ^^^ op.immMask) == 0
      else mvOk o.ym && !(mvMoves o.xm && mvMoves o.ym && mvPtr o.xm == mvPtr o.ym))
  && (match op with
    | .setam => o.mode != 3 && (o.mode != 2 || (isPow2 (2 * (o.imm16 + 1)) && o.imm16 != 0))
    | .shra | .shla => decide (o.imm6 ≤ 39)
    | .loop | .loopr => o.len != 0
    | .dput => mvKind o.xm == 1 && mvReg o.xm == 0
    | .dget => mvKind o.xm == 2 && mvReg o.xm == 0
    | .dtap => mvKind o.ym == 1 && mvReg o.ym == 0 && (if o.pFlag then mvKind o.xm == 1 && mvReg o.xm == 0 else mvKind o.xm == 0)
    | _ => true)

/-! ## Words (R358) -/

/-- The word of an opcode and its fields. -/
def reedWord (op : ROp) (o : ReedArgs) : BitVec 64 := BitVec.ofNat 6 op.code ++ o.arg ++ o.xm ++ o.ym

/-- The fields of a word below its opcode. -/
def wordArgs (w : BitVec 64) : ReedArgs := { arg := w.extractLsb' 40 18, xm := w.extractLsb' 20 20, ym := w.extractLsb' 0 20 }

/-- A word is an opcode with defined fields, or an undefined encoding (R365). -/
def decodeReed (w : BitVec 64) : Option (ROp × ReedArgs) :=
  match ROp.ofCode (w.toNat / 2 ^ 58) with
  | some op => if reedOk op (wordArgs w) then some (op, wordArgs w) else none
  | none => none

/-- The command of an opcode on a unit. -/
def ROp.instr (u : Fin 16) (o : ReedArgs) : ROp → Instr
  | .nop => .nop u o | .endPass => .endPass u o | .loop => .loop u o | .loopr => .loopr u o | .ldp => .ldp u o | .addp => .addp u o
  | .setam => .setam u o | .setq => .setq u o | .rotw => .rotw u o | .mpy => .mpy u o | .mac => .mac u o | .msu => .msu u o
  | .sqa => .sqa u o | .adda => .adda u o | .suba => .suba u o | .addi => .addi u o | .adds => .adds u o | .shra => .shra u o
  | .shla => .shla u o | .absa => .absa u o | .bexp => .bexp u o | .nrm => .nrm u o | .movad => .movad u o | .movda => .movda u o
  | .movi => .movi u o | .mov => .mov u o | .movf => .movf u o | .mant => .mant u o | .ash => .ash u o | .dtap => .dtap u o
  | .sethd => .sethd u o | .dput => .dput u o | .dget => .dget u o

/-- The command a program word is on a unit: one of the 33 instructions, or UNDEFINED_ENCODING. -/
def wordInstr (u : Fin 16) (w : BitVec 64) : Instr :=
  match decodeReed w with
  | some (op, o) => op.instr u o
  | none => .undefinedEncoding u w

end Sys2Proof.Machine
end

