-- ==== Sys2Proof/Machine/ReedUnit.lean ====
section
/-! DEFINITION. The execution units of the reed array (chapter 10): registers, memories, latencies, move fields, the
sequencer and every instruction. -/

namespace Sys2Proof.Machine

/-! ## Units and lanes (R317, R319, R354) -/

def State.runit (s : State) (u : Nat) : RUnit := s.reed.units.getD u {}
def State.modRunit (s : State) (u : Nat) (f : RUnit → RUnit) : State := { s with reed := { s.reed with units := updAt s.reed.units u f } }

/-- The unit holds a whole-mode image. -/
def State.unitWhole (s : State) (u : Nat) : Bool := s.flag (REED_UNIT.BUSY u) && s.flag (REEDS_W0.WHOLE (s.get (REED_UNIT.SLOT u)))

/-- The unit that sequences a unit number: the lower one of a whole-mode bundle. -/
def State.unitOf (s : State) (u : Nat) : Nat := if s.unitWhole u then u / 2 * 2 else u

/-- Lowest unit, lanes and groups of a slot (R317, R324). -/
def State.slotUnit (s : State) (o : Nat) : Nat := s.get (REEDS_W0.UNIT o)
def State.slotLanes (s : State) (o : Nat) : Nat := if s.flag (REEDS_W0.WHOLE o) then 16 else 8
def State.slotGroups (s : State) (o : Nat) : Nat := ((s.feedOf o).nch + s.slotLanes o - 1) / s.slotLanes o

/-- The slot that is placed on a unit. -/
def State.unitSlot (s : State) (u : Nat) : Option Nat := if s.flag (REED_UNIT.BUSY u) then some (s.get (REED_UNIT.SLOT u)) else none

/-- The block that the slot runs next: its samples, once every one has arrived. -/
def State.readyBlock (s : State) (o : Nat) : Option (List FeedSample) :=
  let b := s.get (REEDS_W6.BLOCK o)
  let l := (s.rslot o).samples.take b
  if s.slotState o = 2 && b != 0 && l.length == b && decide ((s.rslot o).group < s.slotGroups o) then some l else none

/-- The slot that runs on a unit. -/
def State.runningOn (s : State) (u : Nat) : Option Nat := (s.unitSlot u).filter (fun o => s.slotState o == 2)

/-- The cycle of a unit beyond which nothing is issued: C_MAX of the slot whose pass it runs; none where no pass is (R373). -/
def State.cycLimit (s : State) (u : Nat) : Option Nat :=
  (s.runningOn u).bind (fun o => (s.readyBlock o).map (fun _ => s.get (REEDS_W5.C_MAX o)))

/-- A cycle beyond the limit of a unit's pass would begin (R373). -/
def State.cycSpent (s : State) (u : Nat) : Bool := (s.cycLimit u).any (fun c => decide (c ≤ (s.runit u).cyc))

/-- Lanes of a unit. -/
def State.laneCount (s : State) (u : Nat) : Nat := if s.unitWhole u then 16 else 8

/-- The reed of a unit's lane. -/
def reedOf (u lane : Nat) : Nat := 8 * u + lane

/-- Offset of the word that holds an element of 16 bits of a lane's X or Y memory (R354). -/
def memWord (u lane : Nat) (y : Bool) (elem : Nat) : Nat :=
  0x400000 + 0x8000 * reedOf u lane + (if y then 0x4000 else 0) + 4 * (elem % 8192 / 2)

/-- Offset of the word that holds a delay entry of a lane. -/
def dlyWord (u lane idx : Nat) : Nat := 0x380000 + 0x8000 * (u / 2) + 0x800 * lane + 4 * (idx % 1024 / 2)

/-- An element of 16 bits of a word. -/
def half (w : Word) (odd : Bool) : BitVec 16 := if odd then w.extractLsb' 16 16 else w.extractLsb' 0 16

/-- A word with an element of 16 bits replaced. -/
def setHalf (w : Word) (odd : Bool) (v : BitVec 16) : Word :=
  if odd then v ++ w.extractLsb' 0 16 else w.extractLsb' 16 16 ++ v

def State.rdElem (s : State) (off elem : Nat) : BitVec 16 := half (s.rd off) (elem % 2 == 1)
def State.wrElem (s : State) (off elem : Nat) (v : BitVec 16) : State := s.wr off (setHalf (s.rd off) (elem % 2 == 1) v)

/-! ## Writes and latencies (R363, R364) -/

/-- Change a lane of a unit. -/
def RUnit.modLane (x : RUnit) (l : Nat) (f : RLane → RLane) : RUnit := { x with lanes := updAt x.lanes l f }

/-- A write takes effect. -/
def State.rApply (s : State) (u : Nat) : RWr → State
  | .reg l c v => s.modRunit u (fun x => x.modLane l (fun y => { y with r := setAt y.r c v }))
  | .accChain l i v => s.modRunit u (fun x => x.modLane l (fun y => { y with a := setAt y.a i v }))
  | .accView l i v => s.modRunit u (fun x => x.modLane l (fun y => { y with v := setAt y.v i v }))
  | .ptr i v => s.modRunit u (fun x => { x with p := setAt x.p i v })
  | .am i m n => s.modRunit u (fun x => { x with am := setAt x.am i (m, n) })
  | .q v => s.modRunit u (fun x => { x with q := v })
  | .hd v => s.modRunit u (fun x => { x with hd := v })
  | .sat l => s.modRunit u (fun x => x.modLane l (fun y => { y with sat := true }))
  | .aov l => s.modRunit u (fun x => x.modLane l (fun y => { y with aov := true }))
  | .mem l y e v => s.wrElem (memWord u l y e) e v
  | .dly l i v => s.wrElem (dlyWord u l i) i v

/-- Every write due by the unit's cycle takes effect, in the order of issue (R364). -/
def State.rSettle (s : State) (u : Nat) : State :=
  let x := s.runit u
  (x.pend.filter (fun e => decide (e.1 ≤ x.cyc))).foldl (fun t e => t.rApply u e.2)
    (s.modRunit u (fun x => { x with pend := x.pend.filter (fun e => !decide (e.1 ≤ x.cyc)) }))

/-- Issue writes, each with its latency in cycles. -/
def State.rIssue (s : State) (u : Nat) (l : List (Nat × RWr)) : State :=
  s.modRunit u (fun x => { x with pend := x.pend ++ l.map (fun e => (x.cyc + e.1, e.2)) })

/-! ## Arithmetic (R321, R322, R367, R368) -/

/-- Saturation to a width, and whether it saturated. -/
def satTo (w : Nat) (v : Int) : Int × Bool :=
  let m : Int := 2 ^ (w - 1)
  if v < -m then (-m, true) else if m - 1 < v then (m - 1, true) else (v, false)

/-- A value wrapped to 40 bits, and whether it left the range (R321). -/
def wrap40 (v : Int) : Int × Bool := (signed 40 (pattern 40 v), signed 40 (pattern 40 v) != v)

/-- E(a): the smallest e from 0 to 24 for which a >> e fits 16 bits (R368). -/
def blockExp (a : Int) : Nat := ((List.range 25).find? (fun e => !(satTo 16 (a / 2 ^ e)).2)).getD 24

/-- A shift by k, left where k ≥ 0, right with truncation otherwise. -/
def shiftBy (a k : Int) : Int := if 0 ≤ k then a * 2 ^ k.toNat else a / 2 ^ (-k).toNat

/-- The count of nrm: from −8 to +31, bits [39:31] of the result equal and bit 30 different (R368). -/
def normCount (a : Int) : Int :=
  let ok (k : Int) : Bool := let v := shiftBy a k; (decide (2 ^ 30 ≤ v) && decide (v < 2 ^ 31)) || (decide (-(2 ^ 31) ≤ v) && decide (v < -(2 ^ 30)))
  (((List.range 40).map (fun i => (i : Int) - 8)).find? ok).getD 0

/-- Writes of an accumulator by an arithmetic opcode, with its AOV (R363). -/
def accWrites (l i : Nat) (v : Int) (aov : Bool) : List (Nat × RWr) :=
  [(1, .accChain l i v), (2, .accView l i v)] ++ (if aov then [(2, .aov l)] else [])

/-- Accumulate: wrap to 40 bits and tell AOV. -/
def accumulate (l i : Nat) (v : Int) : List (Nat × RWr) := accWrites l i (wrap40 v).1 (wrap40 v).2

/-- A register operand of a lane: d0 to d15, or a window register through RB (R357). -/
def physReg (rb c : Nat) : Nat := if c < 16 then c else 16 + (c - 16 + rb) % 16

def RLane.reg (y : RLane) (rb c : Nat) : BitVec 16 := y.r.getD (physReg rb c) 0
def RLane.acc (y : RLane) (i : Nat) : Int := y.a.getD i 0
def RLane.view (y : RLane) (i : Nat) : Int := y.v.getD i 0

/-- What an arithmetic opcode writes in one lane (R366 to R368). -/
def laneOp (op : ROp) (o : ReedArgs) (rb l : Nat) (y : RLane) : List (Nat × RWr) :=
  let a := y.acc o.acc
  let a2 := y.view o.acc2
  let x1 := (y.reg rb o.s1).toInt
  let x2 := (y.reg rb o.s2).toInt
  let imm : Int := (BitVec.ofNat 16 o.imm16).toInt
  let dst (v : BitVec 16) : List (Nat × RWr) := [(1, .reg l (physReg rb o.dst) v)]
  let sat (b : Bool) : List (Nat × RWr) := if b then [(2, .sat l)] else []
  match op with
  | .mpy => accWrites l o.acc (x1 * x2) false
  | .mac => accumulate l o.acc (a + x1 * x2)
  | .msu => accumulate l o.acc (a - x1 * x2)
  | .sqa =>
    let z := satTo 16 (a2 / 2 ^ o.imm6)
    sat z.2 ++ accumulate l o.acc (a + z.1 * z.1)
  | .adda => accumulate l o.acc (a + a2)
  | .suba => accumulate l o.acc (a - a2)
  | .addi => accumulate l o.acc (a + imm)
  | .adds => accumulate l o.acc (a + x1)
  | .shra => accWrites l o.acc (a / 2 ^ o.imm6) false
  | .shla => accumulate l o.acc (a * 2 ^ o.imm6)
  | .absa => if a = -(2 ^ 39) then accWrites l o.acc (2 ^ 39 - 1) true else accWrites l o.acc a.natAbs false
  | .bexp =>
    let d := (y.reg rb o.dst).toInt
    dst (BitVec.ofInt 16 (max d (blockExp a2)))
  | .nrm =>
    if a = 0 then [(1, .reg l (physReg rb o.s2) (BitVec.ofInt 16 (-32768)))]
    else
      let k := normCount a
      accWrites l o.acc (shiftBy a k) false ++ [(1, .reg l (physReg rb o.s2) (BitVec.ofInt 16 k))]
  | .movad =>
    let z := satTo 16 (a2 / 2 ^ o.imm6)
    dst (BitVec.ofInt 16 z.1) ++ sat z.2
  | .movda => accWrites l o.acc x1 false
  | .movi => dst (BitVec.ofNat 16 o.imm16)
  | .mov => dst (y.reg rb o.s1)
  | .movf => dst (BitVec.ofNat 16 (y.sat.toNat + 2 * y.aov.toNat))
  | .mant =>
    let z := satTo 16 (roundEvenI a2 (2 ^ min 24 ((y.reg rb o.s1).toNat % 32)))
    dst (BitVec.ofInt 16 z.1) ++ sat z.2
  | .ash =>
    let k := clampI (-39) 39 x1
    accWrites l o.acc (wrap40 (shiftBy a k)).1 (decide (0 ≤ k) && (wrap40 (shiftBy a k)).2)
  | _ => []

/-! ## Pointers (R361, R362) -/

/-- The smallest k with L ≤ 2^k. -/
def ceilLog2 (n : Nat) : Nat := if n ≤ 1 then 0 else (n - 1).log2 + 1

/-- Bits [k−1:s] of a value reversed in place. -/
def revBits (k s x : Nat) : Nat := (List.range (k - s)).foldl (fun (a : Nat) i => a + x / 2 ^ (s + i) % 2 * 2 ^ (k - 1 - i)) (x % 2 ^ s)

/-- The update of a pointer by an increment under its mode (R362); `sz` is the base-2 logarithm of the access size. -/
def ptrStep (mode len : Nat) (p : Nat) (i : Int) (sz : Nat) : Nat :=
  let k := ceilLog2 len
  let b := p / 2 ^ k * 2 ^ k
  match mode with
  | 0 => (((p : Int) + i) % 16384).toNat
  | 1 => (b + ((((p - b : Nat) : Int) + i) % (max 1 len : Nat)).toNat) % 16384
  | _ => (b + revBits k sz ((((revBits k sz (p - b) : Nat) : Int) + i) % (2 ^ k : Nat)).toNat) % 16384

/-- Size in bytes of a KIND's access. -/
def mvSize (k : Nat) : Nat := if k = 5 || k = 6 then 4 else 2

/-- The pointer a move field leaves, with latency 1. -/
def RUnit.mvPtrWrite (x : RUnit) (f : BitVec 20) : List (Nat × RWr) :=
  if !mvMoves f then []
  else
    let p := x.p.getD (mvPtr f) 0
    let am := x.am.getD (mvPtr f) (0, 0)
    let size := mvSize (mvKind f)
    let i : Int := match mvUpd f with
      | 1 => size
      | 2 => -(size : Int)
      | _ => mvOff f
    [(1, .ptr (mvPtr f) (ptrStep am.1 am.2 p i (if size = 4 then 2 else 1)))]

/-- First element of a move field's access: bit 0 is ignored, or bits [1:0] (R361). -/
def RUnit.mvElem (x : RUnit) (f : BitVec 20) : Nat :=
  let p := x.p.getD (mvPtr f) 0 % 16384
  if mvSize (mvKind f) = 4 then p / 4 * 2 else p / 2

/-- What a move field writes in one lane (R360, R363). -/
def State.mvLane (s : State) (u : Nat) (x : RUnit) (isY : Bool) (f : BitVec 20) (l : Nat) (y : RLane) : List (Nat × RWr) :=
  let e := x.mvElem f
  let v := y.view (mvReg f % 4)
  let st16 (n : Int) : List (Nat × RWr) :=
    let z := satTo 16 n
    [(2, .mem l isY e (BitVec.ofInt 16 z.1))] ++ (if z.2 then [(2, .sat l)] else [])
  match mvKind f with
  | 1 => [(2, .reg l (physReg x.rb (mvReg f)) (s.rdElem (memWord u l isY e) e))]
  | 2 => [(2, .mem l isY e (y.reg x.rb (mvReg f)))]
  | 3 => st16 v
  | 4 => st16 (v / 65536)
  | 5 =>
    let z := satTo 32 v
    let w := BitVec.ofInt 32 z.1
    [(2, .mem l isY e (half w false)), (2, .mem l isY (e + 1) (half w true))] ++ (if z.2 then [(2, .sat l)] else [])
  | 6 =>
    let w := s.rd (memWord u l isY e)
    [(2, .accChain l (mvReg f % 4) w.toInt), (2, .accView l (mvReg f % 4) w.toInt)]
  | _ => []

/-- The lanes of a unit, numbered. -/
def State.lanesOf (s : State) (u : Nat) : List (RLane × Nat) := ((s.runit u).lanes.take (s.laneCount u)).zipIdx

/-- A move field over all lanes. -/
def State.mvAll (s : State) (u : Nat) (isY : Bool) (f : BitVec 20) : List (Nat × RWr) :=
  let x := s.runit u
  (s.lanesOf u).flatMap (fun p => s.mvLane u x isY f p.2 p.1) ++ x.mvPtrWrite f

/-! ## The delay line (R369, R370) -/

/-- One repetition of a delay-line opcode; `i` counts from 0. The pushed sample is seen by the same repetition. -/
def State.dlyRep (s : State) (u : Nat) (op : ROp) (o : ReedArgs) (i : Nat) : State :=
  let x := s.runit u
  let fetch (isY : Bool) (f : BitVec 20) (l : Nat) : BitVec 16 := s.rdElem (memWord u l isY (x.mvElem f)) (x.mvElem f)
  let lanes := s.lanesOf u
  match op with
  | .dput =>
    let hd := (x.hd + 1) % 1024
    s.rIssue u (lanes.map (fun p => (2, .dly p.2 hd (fetch false o.xm p.2))) ++ [(1, .hd hd)] ++ s.mvAll u true o.ym ++ x.mvPtrWrite o.xm)
  | .dget =>
    let idx := (x.hd + 1024 - x.q) % 1024
    let e := x.mvElem o.xm
    let q := (x.q + (if o.pFlag then 1023 else 1)) % 1024
    s.rIssue u (s.mvAll u true o.ym ++ lanes.map (fun p => (2, .mem p.2 false e (s.rdElem (dlyWord u p.2 idx) idx))) ++ x.mvPtrWrite o.xm
      ++ [(1, .q q)])
  | _ =>
    let push := o.pFlag && i == 0
    let hd := if push then (x.hd + 1) % 1024 else x.hd
    let q := if o.zFlag && i == 0 then 0 else x.q
    let idx := (hd + 1024 - q) % 1024
    let lane (p : RLane × Nat) : List (Nat × RWr) :=
      let d := if push && q = 0 then fetch false o.xm p.2 else s.rdElem (dlyWord u p.2 idx) idx
      let a := if o.cFlag && i == 0 then 0 else p.1.acc o.acc
      accumulate p.2 o.acc (a + (fetch true o.ym p.2).toInt * d.toInt)
        ++ (if push then [(2, .dly p.2 hd (fetch false o.xm p.2))] else [])
    s.rIssue u (lanes.flatMap lane ++ x.mvPtrWrite o.ym ++ (if push then x.mvPtrWrite o.xm ++ [(1, .hd hd)] else [])
      ++ [(1, .q ((q + 1) % 1024))])

/-- All repetitions, one a cycle, up to the cycle limit (R370, R373). -/
def State.dlyRun (s : State) (u : Nat) (op : ROp) (o : ReedArgs) : Nat → Nat → State
  | 0, _ => s
  | k + 1, i => if s.cycSpent u then s else (((s.rSettle u).dlyRep u op o i).modRunit u (fun x => { x with cyc := x.cyc + 1 })).dlyRun u op o k (i + 1)

/-! ## The sequencer (R371 to R373) -/

/-- The instruction at pc has completed: innermost loops that end there turn first (R371, R372). -/
def advance (rb pc : Nat) : List RLoop → Nat × Nat × List RLoop
  | [] => (rb, pc + 1, [])
  | g :: t =>
    if g.last != pc then (rb, pc + 1, g :: t)
    else
      let rb := if g.rot then (rb + 15) % 16 else rb
      if 1 < g.left then (rb, g.first, { g with left := g.left - 1 } :: t) else advance rb pc t

/-- Move on past the instruction at a place. -/
def RUnit.goOn (x : RUnit) (pc : Nat) : RUnit :=
  let r := advance x.rb pc x.loops
  { x with rb := r.1, pc := r.2.1, loops := r.2.2 }

/-- A loop may open here: at most 4 deep, its body ends within the outer body or with it (R371). -/
def RUnit.loopOk (x : RUnit) (len : Nat) : Bool :=
  decide (x.loops.length < 4) && (match x.loops with
    | [] => true
    | g :: _ => decide (x.pc + len ≤ g.last))

/-- Open a loop of some iterations; none skips the body. -/
def RUnit.openLoop (x : RUnit) (o : ReedArgs) (n : Nat) : RUnit :=
  if n = 0 then x.goOn (x.pc + o.len)
  else { x with pc := x.pc + 1, loops := { first := x.pc + 1, last := x.pc + o.len, left := n, rot := o.zFlag } :: x.loops }

/-- The count of loopr: the unsigned register, the same in every lane; where the lanes differ the one sequencer's count is
a free value. -/
def State.looprCount (s : State) (u : Nat) (o : ReedArgs) : Nat :=
  let x := s.runit u
  let l := (s.lanesOf u).map (fun p => (p.1.reg x.rb o.s1).toNat)
  if l.all (fun v => v == l.headD 0) then l.headD 0 else s.freeVal % 65536

/-- What an opcode writes to the registers that the lanes share, with its latency (R363, R366). -/
def RUnit.shared (x : RUnit) (op : ROp) (o : ReedArgs) : List (Nat × RWr) :=
  match op with
  | .ldp => [(2, .ptr o.ptr (o.imm16 % 16384))]
  | .addp =>
    let am := x.am.getD o.ptr (0, 0)
    [(2, .ptr o.ptr (ptrStep am.1 am.2 (x.p.getD o.ptr 0) (BitVec.ofNat 16 o.imm16).toInt 1))]
  | .setam => [(2, .am o.ptr o.mode (2 * (o.imm16 + 1)))]
  | .setq => [(2, .q o.imm16)]
  | .sethd => [(2, .hd o.imm16)]
  | _ => []

/-- Cycles of an instruction (R366). -/
def ROp.cycles (op : ROp) (o : ReedArgs) : Nat :=
  match op with
  | .endPass => 12
  | .loop | .loopr => 2
  | .dtap | .dput | .dget => o.imm6 + 1
  | _ => 1

/-- Issue a defined instruction at the unit's cycle: arithmetic, then the YM and the XM move, each with its latency, and go
on (R363, R364, R370, R371). A loop that breaks the nesting rules is left to `reedStep`. -/
def State.reedIssue (s : State) (u : Nat) (op : ROp) (o : ReedArgs) : State :=
  let t := s.rSettle u
  let x := t.runit u
  match op with
  | .dtap | .dput | .dget => ((t.dlyRun u op o (o.imm6 + 1) 0).modRunit u (fun x => x.goOn x.pc))
  | _ =>
    let arith := (t.lanesOf u).flatMap (fun p => laneOp op o x.rb p.2 p.1) ++ x.shared op o
    let moves := (if op.imm then [] else t.mvAll u true o.ym) ++ t.mvAll u false o.xm
    let n := t.looprCount u o
    let t2 := (t.rIssue u (arith ++ moves)).modRunit u (fun x => { x with cyc := x.cyc + op.cycles o })
    match op with
    | .loop => t2.modRunit u (fun x => x.openLoop o o.imm16)
    | .loopr => (t2.drew).modRunit u (fun x => x.openLoop o n)
    | .rotw => t2.modRunit u (fun x => ({ x with rb := (x.rb + 15) % 16 }).goOn x.pc)
    | .endPass => t2.modRunit u (fun x => { x with ended := true })
    | _ => t2.modRunit u (fun x => x.goOn x.pc)

/-- Every write under way takes effect: what the end of a pass leaves. -/
def State.rFlush (s : State) (u : Nat) : State := ((s.modRunit u (fun x => { x with cyc := x.cyc + 4 })).rSettle u).modRunit u (fun x => { x with cyc := x.cyc - 4 })

/-- An instruction breaks a rule that only its place shows: loop nesting (R371), a whole-mode opcode in split mode. -/
def State.reedBad (s : State) (u : Nat) (op : ROp) (o : ReedArgs) : Bool :=
  match op with
  | .loop | .loopr => !(s.runit u).loopOk o.len
  | _ => op.whole && !s.unitWhole u

end Sys2Proof.Machine
end

