-- ==== Sys2Proof/Machine/Shots.lean ====
section
/-! DEFINITION. The shot of a position as it is launched (R120, R125, R185, R214), the times of its samples (R216 to R218), and the
outputs that an absence leaves out (R20, R222, R380, R382): what the streams account for at a batten boundary, at a flush, at a
change of settings and at a stop. -/

namespace Sys2Proof.Machine

/-! ## Timestamps (R216 to R218) -/

/-- Round 2^-16 ns to the nearest ns, a tie to the even value (R218). -/
def roundNs (t : Int) : Int := roundEvenI t ns

/-- t_raw of a phase-chain channel in 2^-16 ns (R217): 0.25 ns is 2^14 units, and a half bin P/4 of 5 ns is 81,920. The delay is that of
the physical port (R199; DEDUCED: log entry 190). -/
def State.rawTime (s : State) (i : Inflight) (c : Nat) : Int :=
  let p2 := 2 * (i.phs.first + c * i.phs.stride) + i.phs.gauge
  (i.launch + s.get (DEC_TXDLY.TXDLY (s.physOf i.port).idx) * 16384 + i.dur * 32768
    + p2 * (if i.ext then 10 else 5) * 16384 : Nat)

/-- Step from channel to channel: S × P / 2 (R385). -/
def Inflight.chDt (i : Inflight) : Nat := i.phs.stride * (if i.ext then 10 else 5) * 32768

/-- Half a span less one, in time (R216). -/
def Inflight.groupDelay (i : Inflight) (l : Nat) : Int := divRound (((l - 1) * i.tsw * 5 * ns : Nat) : Int) (2 * max 1 i.nslot)

/-! ## The shot of a position (R120, R125, R185, R214) -/

/-- The device launches the two shadow positions only: it is in SHADOW, or in SAFE from there, and does not make a
switch-back (R125, R612). -/
def State.shadowing (s : State) : Bool := (s.dev == 4 || (s.dev == 5 && s.light.safeFrom == 4)) && !s.pair.making

/-- Index of a position among the shadow positions. -/
def State.shadowIndex (s : State) (pos : Nat) : Option Nat :=
  if pos = s.get PAT_SHADOW.POS0 then some 0 else if pos = s.get PAT_SHADOW.POS1 then some 1 else none

/-- The matched filters of a port. -/
def State.filters (s : State) (p : Port) : List (List (Int × Int) × List (Int × Int)) := if p = .a then s.rx.filtA else s.rx.filtB

/-- Active slots of a port: the slots of its launch positions in the bank in force (R92, R173). -/
def State.activeSlots (s : State) (p : Port) : List (Fin 16) :=
  (((List.range s.grid.nslot).map (s.slotEntry p s.bank)).filter seValid).map (fun w => Fin.ofNat 16 (seK w)) |>.eraseDups

/-- Settings of the phase chain of a port. -/
def State.phsCfg (s : State) (p : Port) : PhsCfg :=
  { gauge := s.get (PHS_GAUGE.G p.idx), stride := s.get (PHS_GAUGE.S p.idx), first := s.get (PHS_FIRST.FIRST p.idx)
    nch := s.get (PHS_NCH.N_CH p.idx), polmode := s.get PHS_CTRL.POLMODE, tc := s.get PHS_TRACK.TC, ptc := s.get PHS_TRACK.PTC
    ftc := s.get PHS_FADE.FTC, thr := s.get PHS_FADE.THR, maxrun := s.get PHS_FADE.MAXRUN }

/-- K_φ of a port in 0.001 × 0.1 THz: ξ times the laser frequency (R185). -/
def State.kphi (s : State) (p : Port) : Nat := s.get (PHS_XI.XI p.idx) * (1931 + s.geti LSD_LASER.CH).toNat

def lncFld (p : Port) : Fld := if p = .a then PHS_CTRL.LNC_A else PHS_CTRL.LNC_B

/-- Fields of the grid and receiver of a port. -/
def State.unsOf (s : State) (p : Port) : Nat := if p = .a then s.grid.unsA else s.grid.unsB
def State.brlUnsOf (s : State) (p : Port) : Nat := if p = .a then s.rx.brlUnsA else s.rx.brlUnsB
def State.reinitOf (s : State) (p : Port) : Reinit := if p = .a then s.grid.reinitA else s.grid.reinitB
def State.absOf (s : State) (p : Port) : Bool := if p = .a then s.grid.absA else s.grid.absB
def State.setAbs (s : State) (p : Port) (b : Bool) : State :=
  match p with
  | .a => { s with grid := { s.grid with absA := b } }
  | .b => { s with grid := { s.grid with absB := b } }

/-- The shot of a port at a position, with the settings in force at its launch (R120, R214, R217). -/
def State.shotOf (s : State) (p : Port) (pos : Fin 16) (launched : Bool) : Inflight :=
  let w := s.slotEntry p s.bank pos.val
  let chirp := (s.descWord p s.bank (seWf w) 0).toNat / 2 ^ 30 == 2
  let shadow := if s.shadowing then s.shadowIndex pos.val else none
  let feed := !s.shadowing
  { port := p, pos := pos, sweep := s.grid.k, s := s.grid.k * s.grid.nslot + pos.val, tk := s.grid.start
    launch := s.grid.start + s.launchOffset pos.val, clk := s.onClock (s.grid.start + s.launchOffset pos.val), slot := Fin.ofNat 16 (seK w), dur := s.durAt p s.bank pos.val
    nbin := s.get (PAT_RANGE.N_BIN p.idx), ext := s.flag (PAT_RANGE.EXT p.idx), nslot := s.grid.nslot, tsw := s.grid.tsw
    bank := s.bank == 1, epoch := s.rd SYS_EPOCH.EPOCH.addr, kphi := s.kphi p, phs := s.phsCfg p
    lnc := s.flag (lncFld p) && !s.flag PHS_STATUS.LNC_SUSP, launched := launched, unsettled := s.unsOf p != 0
    apr := s.apr p != 0, failover := s.grid.failover, tbCold := s.tbCold
    reinit := s.reinitOf p
    bw := if chirp then (s.descWord p s.bank (seWf w) 1).toNat / 2 ^ 24 else 0
    point := s.brlPoint s.grid.k pos.val shadow, brlCode := s.get (RX_GAIN.BRL_ACT p.idx)
    dasCode := s.get (RX_GAIN.DAS_ACT p.idx), filt := (s.filters p).getD pos.val ([], []), slots := s.activeSlots p, reduced := s.apr p != 0
    brlUns := s.brlUnsOf p != 0, feed := feed, send := feed && !s.pair.making
    bridge := s.pair.failSweeps == 2 && (s.shadowIndex pos.val).isNone, absEnd := s.absOf p
    restarts := s.grid.restarts.filter (fun n => s.strPort n == p.idx), series := s.grid.series }

/-! ## Indices of the grid (R214, R377) -/

/-- The first shot of the grid at or after an instant. -/
def State.seedShot (s : State) (t : Ts) : Nat :=
  let sw := max 1 s.tSw
  ((t - s.grid.align) * s.grid.nslot + sw - 1) / sw

/-! ## Absences that are still open (R20, R222, R380, R382) -/

/-- The first shot of the grid that has not been launched or left out yet. -/
def State.nextShot (s : State) : Nat := if s.grid.started then s.grid.k * s.grid.nslot + s.grid.nextPos else s.seedShot s.now

/-- The stream whose filters give the outputs of a stream: its own, or that of the reed's feed. -/
def State.feedStream (s : State) (n : Nat) : Nat := if s.strKind n = 2 then (s.feedOf (s.strSlot n)).stream else n

/-- The first shot that may still give a running stream an output: one in flight, or the next of the grid. -/
def State.openShot (s : State) (n : Nat) : Nat :=
  let p := portOf (s.strPort n)
  let l := (s.grid.inflight.filter (fun i => i.port == p && i.feed)).map (·.s) ++ ((s.filt n).out.map (·.s)).toList
  if s.strState n = 1 then l.foldl min s.nextShot else s.nextShot

/-- The first index of a set that a port may still complete (R250, R252, R377). -/
def State.openSet (s : State) (n : Nat) : Nat :=
  let x := s.brlPort (portOf (s.strPort n))
  match x.closing.bind (·.close) with
  | some c => c.2.1 / max 1 (s.get BRL_CTRL.AVG)
  | none => match x.cur with
    | some c => max (max (c.start / s.avgSpan) c.passed + 1) (s.now / s.avgSpan)
    | none => s.now / s.avgSpan + 1

/-- The first index of a stream that is not settled yet: every output before it has come, or never will. -/
def State.dueIndex (s : State) (n : Nat) : Nat :=
  match s.strKind n with
  | 1 => s.openSet n
  | 2 =>
    let o := s.strSlot n
    match (if s.slotState o = 2 then (s.rslot o).samples.head? else none) with
    | some x => x.it / max 1 (s.get (REEDS_W6.BLOCK o)) * s.get (REEDS_W6.OUT_N o)
    | none => s.firstIndex n (s.openShot (s.feedStream n))
  | _ => s.firstIndex n (s.openShot n)

/-- A result set that was not produced: its time is the middle of its nominal period (R254, R384). -/
def State.absentSet (s : State) (n idx : Nat) : BOut :=
  let stop := idx * s.avgSpan
  { idx := idx, ts := divRound ((stop : Int) - (s.avgSpan / 2 : Nat)) ns, shot := (stop : Int) - 1, chDt := 0
    period := 2 ^ 31 + max 1 (s.get BRL_CTRL.AVG) * 1000, epoch := s.epochAt ((stop : Int) - 1), bank := s.bankAt ((stop : Int) - 1)
    vals := List.replicate (s.get (STR_W2.N_CH n)) (gapWords 4, .gap), series := max 1 (s.get BRL_CTRL.AVG) }

/-- The shot of the newest input sample of an output of a stream, and input samples to an output, as a quotient (R214, R339). -/
def State.outShot (s : State) (n idx : Nat) : Nat × (Nat × Nat) :=
  if s.strKind n = 2 then
    let x := s.slotBasis (s.strSlot n)
    let k := max 1 x.2.2
    ((idx / k * x.2.1 + ((idx % k + 1) * x.2.1 / k - 1)) * x.1, (x.1 * x.2.1, k))
  else (idx * (s.filt n).d, ((s.filt n).d, 1))

/-- An output of a stream of phase-chain channels, or of a reed, that was not produced: its time, period and channels (R380, R384). -/
def State.absentOut (s : State) (n idx : Nat) : BOut :=
  let m := s.feedStream n
  let i := s.shotOf (portOf (s.strPort m)) 0 false
  let x := s.outShot n idx
  let launch := s.grid.align + x.1 * s.tSw / max 1 s.grid.nslot
  let f := s.filt m
  let o := s.strSlot n
  let reed := s.strKind n = 2
  let c := f.first + (if reed then (s.feedOf o).chFirst + s.get (STR_W1.CH_FIRST n) else 0)
  let late : Int := if reed then
      i.groupDelay (f.ltap (s.feedOf o).tap) + divRound ((s.get (REEDS_W5.DELAY o) * (s.slotBasis o).1 * i.tsw * 5 * ns : Nat) : Int) (max 1 i.nslot)
    else i.groupDelay f.ltotal
  { idx := idx, ts := roundNs (s.rawTime { i with launch := launch } c - late), chDt := i.chDt
    period := (divRound ((i.tsw * x.2.1 : Nat) : Int) (max 1 i.nslot * x.2.2)).toNat % 2 ^ 31, epoch := i.epoch, bank := i.bank
    vals := List.replicate (s.get (STR_W2.N_CH n)) ([0], .gap), shot := launch, series := s.grid.series
    qty := if reed then 0 else if (s.anchorOf n).isSome then 3 else f.qty, fmt := !reed && (s.anchorOf n).isNone && f.fmt }

/-- The output before which everything is to be accounted for, at an index. -/
def State.absentAt (s : State) (n idx : Nat) : BOut := if s.strKind n = 1 then s.absentSet n idx else s.absentOut n idx

/-- Outputs of a stream can be missing now: it has started, its indices run, and it delivers what it produces. -/
def State.accounts (s : State) (n : Nat) : Bool :=
  s.strState n != 0 && s.strKind n != 3 && (s.strKind n == 1 || s.grid.started) && s.strm.held.isNone && !s.shadowing
    && (s.strKind n != 2 || s.get (REEDS_W6.OUT_N (s.strSlot n)) != 0)

/-- Outputs of a stream up to an index that an absence, or a suspension, has left out are accounted for. -/
def State.accountTo (s : State) (n idx : Nat) : State :=
  if !s.accounts n then s
  else
    let t := s.turnSeries n (s.absentAt n idx)
    t.missing n (t.absentAt n idx)

/-- Those that were left out until now (R20, R222, R352, R353, R382). -/
def State.account (s : State) (n : Nat) : State := s.accountTo n (s.dueIndex n)

/-- What is missing up to an index is accounted for, and the open battens close short behind it (R376, R379, R382). -/
def State.settleTo (s : State) (n idx : Nat) : State :=
  let t := s.accountTo n idx
  (t.closeOpen n).sendGap n (some (t.absentAt n idx))

/-- The same for what is missing until now. -/
def State.settle (s : State) (n : Nat) : State := s.settleTo n (s.dueIndex n)

/-- What is missing of a period that stands open takes its place in it (R380). -/
def State.fillOpen (s : State) (n : Nat) : State :=
  match (s.str n).next with
  | some e =>
    let m := s.nsamp n
    if !s.accounts n || e % m = 0 || (s.strKind n != 1 && (s.str n).series != s.grid.series) then s
    else
      let i := min (s.dueIndex n) ((e / m + 1) * m)
      if i ≤ e then s else s.fillGap n (s.absentAt n i) e i
  | none => s

/-- A stream stops: what is missing until now is accounted for first. -/
def State.endStream (s : State) (n : Nat) : State := (s.settle n).stopStream n

/-- The indices of a stream follow other settings from a shot on: what the old ones leave is settled, and the next output is the first
at or after that shot (R222, R377, R379). -/
def State.rebase (s : State) (n s0 : Nat) (f : State → State) : State :=
  let t := f (if s.accounts n then s.settleTo n (s.firstIndex n s0) else s)
  if ((s.str n).next).isNone then t
  else t.modStr n (fun x => { x with next := some (t.firstIndex n s0), missed := x.missed.map (fun e => (e.1, t.firstIndex n s0)) })

/-- A change of what reeds are fed with: the streams whose indices follow other settings after it are settled first (R337, R377). -/
def State.acrossBasis (s : State) (s0 : Nat) (f : State → State) : State :=
  let moved : List Nat := (List.range 64).filter (fun n =>
    s.strKind n = 2 && s.strState n != 0 && s.slotBasis (s.strSlot n) != (f s).slotBasis (s.strSlot n))
  moved.foldl (fun (t : State) n => if ((t.str n).next).isNone then t
      else t.modStr n (fun x => { x with next := if t.get (REEDS_W6.OUT_N (t.strSlot n)) = 0 then none else some (t.firstIndex n s0), missed := [] }))
    (f (moved.foldl (fun (t : State) n => if t.accounts n then t.settleTo n (min (t.dueIndex n) (t.firstIndex n s0)) else t) s))

/-! ## Batten boundaries and flushes (R381, R474, R478) -/

/-- Shots of a batten period, as a quotient; none where it does not follow shots (R377, R378). -/
def State.periodShots (s : State) (n : Nat) : Option (Nat × Nat) :=
  match s.strKind n with
  | 0 => some (max 1 (s.filt n).d * s.nsamp n, 1)
  | 2 => let x := s.slotBasis (s.strSlot n); some (max 1 (x.1 * x.2.1 * s.nsamp n), max 1 x.2.2)
  | _ => none

/-- The batten boundary at hand of a stream is one of another stream, too. -/
def State.sharesBoundary (s : State) (n m : Nat) : Bool :=
  match s.periodShots n, s.periodShots m with
  | some a, some b => (s.nextShot * a.2 / a.1 * a.1 * b.2) % (a.2 * b.1) == 0
  | none, none => s.strKind n == s.strKind m
  | _, _ => false

/-- A stream put in its place in a list, the oldest started first. -/
def State.insertOld (s : State) (m : Nat) : List Nat → List Nat
  | [] => [m]
  | a :: t => if (s.str m).order < (s.str a).order then m :: a :: t else a :: s.insertOld m t

/-- Suspended streams of one session that stand at the same batten boundary resume oldest started first (R478). -/
def State.resumeAt (s : State) (n : Nat) : State :=
  let l := (List.range 64).filter (fun m => m == n
    || (s.strState m == 2 && s.strOwner m == s.strOwner n && decide ((s.str m).order < (s.str n).order) && s.sharesBoundary n m))
  (l.foldr s.insertOld []).foldl (fun (t : State) m => t.tryResume m) s

/-- A fenced device, or one that has handed over, has delivered its last output: open battens close short (R589, R614). -/
def State.lastOut (s : State) (n : Nat) : Bool :=
  s.pair.draining && s.grid.inflight.all (fun i => !i.send)
    && (s.dec.f.getD n {}).out.isNone

/-- A whole period of a stream chosen for suspension has passed without an output: its boundary has come (R382, R474). -/
def State.idleBoundary (s : State) (n : Nat) : Bool :=
  (s.str n).chosen && (s.str n).open_.isEmpty && s.accounts n && ((s.str n).next).any (fun e => decide (e + s.nsamp n ≤ s.dueIndex n))

/-- BATTEN_CLOSE (R380, R381, R474, R478). -/
def battenCloseStep (n : Nat) (s : State) : State :=
  match s.strState n with
  | 1 =>
    let s := s.fillOpen n
    if s.periodFull n || (s.lastOut n && !(s.str n).open_.isEmpty) || (s.strKind n == 3 && !(s.str n).open_.isEmpty) then s.closeFull n
    else if s.idleBoundary n then s.suspend n
    else s
  | 2 => s.resumeAt n
  | _ => s

/-- FLUSH (R380, R381, R436, R495). -/
def flushBody (q : ReqHdr) (n : Nat) (s : State) : State :=
  if 63 < n then s.reply q 0x0302 stParamRange
  else if s.strOwner n != some q.session.val then s.reply q 0x0302 stNotOwner
  else if s.dev = 1 then s.reply q 0x0302 stHeld
  else
    let t := if (s.str n).open_.isEmpty then s else s.fillOpen n
    (if t.periodFull n then t.closeFull n else t.closeOpen n).reply q 0x0302 stOk

/-! ## Meanings -/

/-- BATTEN_CLOSE (R381). -/
def execBattenClose (stream : Fin 64) (s : State) : Host.Outcome State Fault Refusal := .next (battenCloseStep stream.val s)

/-- FLUSH (R381). -/
def execFlush (q : ReqHdr) (index : Nat) (s : State) : Host.Outcome State Fault Refusal :=
  .next (s.request q 0x0302 (flushBody q index) (operands [itIndex index]))

end Sys2Proof.Machine
end

