-- ==== Sys2Proof/Machine/Reed.lean ====
section
/-! DEFINITION. The reed array (chapter 09): program slots, feeds, passes, outputs, faults, and the commands that load,
start, stop and unload programs. -/

namespace Sys2Proof.Machine

/-! ## Slots (R342, R356) -/

/-- Enter a slot state; REED_STATUS follows. -/
def State.setSlot (s : State) (o st : Nat) : State :=
  ((s.put (REEDS_W0.STATE o) st).put REED_STATUS.RUNNING (setBit (s.get REED_STATUS.RUNNING) o (st == 2))).put
    REED_STATUS.FAULTED (setBit (s.get REED_STATUS.FAULTED) o (st == 3))

/-- The owner of a slot; none while it is EMPTY (R356). -/
def State.slotOwner (s : State) (o : Nat) : Option Nat := if s.slotState o = 0 then none else some (s.get (REEDS_W0.OWNER o))

/-- Units a placement occupies (R317). -/
def unitsOf (u : Nat) (whole : Bool) : List Nat := if whole then [u, u + 1] else [u]

/-! ## Memories of units (R319, R329, R354) -/

/-- Words from an offset up to another read 0 again. -/
def State.clearRange (s : State) (lo hi : Nat) : State :=
  { s with regs := s.regs.filter (fun e => !(decide (lo ≤ e.1) && decide (e.1 < hi))) }

/-- Offset of a unit's program memory, and its instructions. -/
def progBase (u : Nat) : Nat := 0x300000 + 0x10000 * (u / 2) + 0x8000 * (u % 2)
def progSize (whole : Bool) : Nat := if whole then 8192 else 4096

/-- Program, delay and data memories of a placement are cleared (R344, R348). -/
def State.clearUnits (s : State) (u : Nat) (whole : Bool) : State :=
  let t := (unitsOf u whole).foldl (fun (t : State) v =>
    (t.clearRange (progBase v) (progBase v + 0x8000)).clearRange (0x400000 + 0x8000 * (8 * v)) (0x400000 + 0x8000 * (8 * v + 8))) s
  if whole then t.clearRange (0x380000 + 0x8000 * (u / 2)) (0x380000 + 0x8000 * (u / 2) + 0x8000) else t

/-- Elements of 16 bits written from an element on. -/
def State.wrElems (s : State) (base : Nat → Nat) (e : Nat) (l : List (BitVec 16)) : State :=
  l.zipIdx.foldl (fun (t : State) p => t.wrElem (base (e + p.2)) (e + p.2) p.1) s

/-- Bytes of a lane's memory from one to another are zeroed, by elements. -/
def State.zeroBytes (s : State) (u l : Nat) (y : Bool) (lo hi : Nat) : State :=
  s.wrElems (memWord u l y) (lo / 2) (List.replicate ((hi + 1) / 2 - lo / 2) 0)

/-- The X and Y frames of every group are zeroed (R345, R351). -/
def State.zeroFrames (s : State) (o : Nat) : State :=
  let g := s.slotGroups o
  let u := s.slotUnit o
  (List.range (s.slotLanes o)).foldl (fun (t : State) l =>
    (t.zeroBytes u l false 0x100 (0x100 + g * s.get (REEDS_W4.FX o))).zeroBytes u l true 0x80 (0x80 + g * s.get (REEDS_W4.FY o))) s

/-- Frames zeroed: a start or a frame clear, counted, after which SETTLE outputs are UNSETTLED (R340, R345, R351). -/
def State.frameClear (s : State) (o : Nat) : State :=
  ((s.zeroFrames o).count (REEDS_W0.RESTARTS o)).modRslot o (fun x => { x with settle := s.get (REEDS_W6.SETTLE o) })

/-! ## Feeds (R324 to R328, R331, R352) -/

/-- The 16-bit sample of a source value and whether it saturated (R326). -/
def feedSample (shift : Nat) (src : Int) : Int × Bool := satTo 16 (src / 2 ^ shift)

/-- A kept tap sample continues the block before it or begins one; what it leaves incomplete is not run (R327, R352). -/
def keepSample (block : Nat) (l : List FeedSample) (x : FeedSample) : List FeedSample :=
  let b := max 1 block
  match l.getLast? with
  | some z =>
    if z.it + 1 = x.it then l ++ [x]
    else
      let whole := l.filter (fun (y : FeedSample) => decide ((y.it / b + 1) * b ≤ z.it + 1))
      if x.it % b = 0 then whole ++ [x] else whole
  | none => if x.it % b = 0 then [x] else []

/-- REED_FEED: a tap sample of a stream reaches the slots that it feeds, by the feed in force. `vals` are the tap's values, each with the
channel's previous one, and codes of the stream's channels; a previous value before the first is a free value (R326, R350). -/
def State.reedFeed (s : State) (n tap it : Nat) (vals : List (Int × Option Int × Qual)) (ts : Int) (chDt : Nat) (i : Inflight) : State :=
  (List.range 16).foldl (fun (t : State) o =>
    let f := t.feedOf o
    if t.slotState o != 2 || f.stream != n || f.tap != tap then t
    else
      let own := (vals.drop f.chFirst).take f.nch
      let src (p : Int × Option Int × Qual) : Int := if f.inc then signed 48 (pattern 48 (p.1 - p.2.1.getD (signed 48 t.freeVal))) else p.1
      let xs := own.map (fun p =>
        let r := feedSample f.shift (src p)
        (r.1, if r.2 then Qual.clipped else p.2.2))
      let x : FeedSample :=
        { it := it, xs := xs, ts := ts + (f.chFirst * chDt : Nat), chDt := chDt, epoch := i.epoch, bank := i.bank, shot := i.launch, series := i.series, send := i.send }
      let t2 := t.modRslot o (fun y => { y with samples := keepSample (t.get (REEDS_W6.BLOCK o)) y.samples x })
      if f.inc && own.any (fun p => p.2.1.isNone) then t2.drew else t2) s

/-- The stream of a feed restarts at a shot: the frames are zeroed before the block that holds it (R351, R352). -/
def State.reedRestart (s : State) (n s1 : Nat) : State :=
  (List.range 16).foldl (fun (t : State) o =>
    if t.slotState o = 2 && (t.feedOf o).stream == n then
      t.modRslot o (fun y => { y with clearAt := y.clearAt ++ [s1 / (t.slotBasis o).1] })
    else t) s

/-! ## Passes (R329 to R336) -/

/-- Block number of a block's samples. -/
def State.blockNo (s : State) (o : Nat) (l : List FeedSample) : Nat := ((l.head?.map (·.it)).getD 0) / max 1 (s.get (REEDS_W6.BLOCK o))

/-- Output area of a block, in bytes. -/
def outArea (blk : Nat) : Nat := 0x40 * (blk % 2)

/-- Entry of a pass: the block in the lanes' input area, and the registers of R332 (R323, R331 to R333). -/
def State.passEntry (s : State) (o : Nat) (l : List FeedSample) : State :=
  let u := s.slotUnit o
  let g := (s.rslot o).group
  let lanes := s.slotLanes o
  let blk := s.blockNo o l
  let n := (s.feedOf o).nch
  let t := (List.range lanes).foldl (fun (t : State) lane =>
    t.wrElems (memWord u lane false) (64 * (blk % 2)) (l.map (fun (x : FeedSample) =>
      if g * lanes + lane < n then BitVec.ofInt 16 (x.xs.getD (g * lanes + lane) (0, .good)).1 else 0))) s
  t.modRunit u (fun x =>
    { p := [0x80 * (blk % 2), 0x100 + g * s.get (REEDS_W4.FX o), 0x80 + g * s.get (REEDS_W4.FY o), outArea blk, 0, 0, 0, 0]
      lanes := List.replicate 16 { r := setAt (List.replicate 32 0) 15 (BitVec.ofNat 16 g) }
      used := x.used })

/-- An instruction word of a unit. -/
def State.progWord (s : State) (u pc : Nat) : BitVec 64 := s.rd (progBase u + 8 * pc + 4) ++ s.rd (progBase u + 8 * pc)

/-- Run a unit's program to its end: 0, or the cause of a fault: 1 cycle limit, 2 undefined encoding (R335, R356, R373). -/
def State.runProg (s : State) (u cmax : Nat) (whole : Bool) : Nat → State × Nat
  | 0 => (s, 1)
  | fuel + 1 =>
    let x := s.runit u
    if x.ended then (s, if cmax < x.cyc then 1 else 0)
    else if cmax ≤ x.cyc then (s, 1)
    else if progSize whole ≤ x.pc then (s, 2)
    else match decodeReed (s.progWord u x.pc) with
      | none => (s, 2)
      | some (op, a) => if s.reedBad u op a then (s, 2) else (s.reedIssue u op a).runProg u cmax whole fuel

/-- Cycles a unit has used over the last second, in 0.01 % of a second's, held at 100 % (R356). -/
def State.unitLoad (s : State) (u : Nat) : Nat :=
  min 10000 (sumN (((s.runit u).used.filter (fun p => decide (s.cyc < p.1 + sCyc))).map (·.2)) * 10000 / 1000000000)

/-- What the last second's passes used of a unit (REED_UNITu.LOAD). -/
def State.countUse (s : State) (o cycles : Nat) : State :=
  let us := unitsOf (s.slotUnit o) (s.flag (REEDS_W0.WHOLE o))
  us.foldl (fun (t : State) u =>
    let a := t.modRunit u (fun x => { x with used := (x.used ++ [(t.cyc, cycles)]).filter (fun p => decide (t.cyc < p.1 + sCyc)) })
    a.put (REED_UNIT.LOAD u) (a.unitLoad u)) s

/-- Outputs of the group that has just run, by lane with a channel (R323, R334, R340). -/
def State.passOuts (s : State) (o : Nat) (l : List FeedSample) : List PassOut :=
  let u := s.slotUnit o
  let lanes := s.slotLanes o
  let g := (s.rslot o).group
  let e0 := outArea (s.blockNo o l) / 2
  (List.range (min lanes ((s.feedOf o).nch - g * lanes))).map (fun lane =>
    let y := (s.runit u).lanes.getD lane {}
    let words := (List.range (s.get (REEDS_W6.OUT_N o))).map (fun j => s.rd (memWord u lane true (e0 + 2 * j)))
    let q := worstQual (l.map (fun (x : FeedSample) => (x.xs.getD (g * lanes + lane) (0, .gap)).2))
    { words := words, q := if y.sat || y.aov then worseQual q .clipped else q })

/-! ## Outputs (R337 to R341) -/

/-- Tap-sample period of a slot's feed in 2^-16 ns, as a fraction. -/
def State.tapPeriod (s : State) (o : Nat) : Nat × Nat :=
  (s.grid.tsw * 5 * ns * (s.slotBasis o).1, max 1 s.grid.nslot)

/-- The outputs of a block: to the trigger units that read the slot (R277), and to each stream of KIND 2 that carries its output; a
device that comes in at a switch-back sends those from t_s on (R615). -/
def State.reedDeliver (s : State) (o : Nat) (l : List FeedSample) (outs : List PassOut) : State :=
  let b := s.get (REEDS_W6.BLOCK o)
  let n := max 1 (s.get (REEDS_W6.OUT_N o))
  let blk := s.blockNo o l
  let per := s.tapPeriod o
  let delay := s.get (REEDS_W5.DELAY o)
  let settle := (s.rslot o).settle
  let t := (List.range n).foldl (fun (t : State) j =>
    match l[(j + 1) * b / n - 1]? with
    | none => t
    | some x =>
      let ts2 : Int := x.ts - divRound (delay * per.1 : Nat) per.2
      let vals := outs.map (fun (p : PassOut) => (p.words.getD j 0, if j < settle then worseQual p.q .unsettled else p.q))
      if !x.send then t
      else
      let t := t.trgOffer { kind := 3, src := o, inst := x.shot, raw := ts2, chDt := x.chDt, epoch := x.epoch, vals := vals }
      (List.range 64).foldl (fun (t : State) m =>
        if t.strKind m = 2 && t.strSlot m == o && t.strState m == 1 then
          let c0 := t.get (STR_W1.CH_FIRST m)
          let own := (vals.drop c0).take (t.get (STR_W2.N_CH m))
          let ts := roundNs (ts2 + (c0 * x.chDt : Nat))
          let bo : BOut :=
            { idx := blk * n + j, ts := ts, chDt := x.chDt, period := (divRound (t.grid.tsw * (t.slotBasis o).1 * b : Nat) (max 1 t.grid.nslot * n)).toNat % 2 ^ 31
              epoch := x.epoch, bank := x.bank, vals := own.map (fun v => ([v.1], v.2)), shot := x.shot, series := x.series }
          let u := t.pushOut m bo
          if t.sends m then u.recordOut m { idx := blk * n + j, ts := ts, epoch := x.epoch, vals := own } else u
        else t) t) s
  t.modRslot o (fun y => { y with settle := y.settle - n, outs := [], group := 0, samples := y.samples.drop b })

/-- A block ends before its last group, at a fault or a STOP: the groups that ran deliver, the others' outputs are GAP. -/
def State.reedCut (s : State) (o : Nat) : State :=
  let outs := (s.rslot o).outs
  if outs = [] then s
  else s.reedDeliver o ((s.rslot o).samples.take (s.get (REEDS_W6.BLOCK o)))
    (outs ++ List.replicate ((s.feedOf o).nch - outs.length) { words := [], q := .gap })

/-- SLOT_FAULT: the slot stops in FAULTED with its cause, and its owner is told (R335, R353). -/
def State.slotFault (s : State) (o cause : Nat) : State :=
  let t := (s.reedCut o).modRslot o (fun y => { y with samples := [], group := 0, outs := [] })
  ((t.setSlot o 3).put (REEDS_W0.FCAUSE o) cause).event (s.get (REEDS_W0.OWNER o)) 0x0701 o

/-- End of a pass: outputs, and after the last group their delivery (R334, R336, R341). -/
def State.passEnd (s : State) (o : Nat) (l : List FeedSample) : State :=
  let u := s.slotUnit o
  let t := s.rFlush u
  let outs := t.passOuts o l
  let t := ((t.count (REEDS_W7.PASSES o)).countUse o ((t.runit u).cyc + 4)).modRslot o (fun y => { y with outs := y.outs ++ outs, group := y.group + 1 })
  let t := t.modRunit u (fun x => { x with cyc := 0, ended := false })
  if (t.rslot o).group < t.slotGroups o then t else t.reedDeliver o l (t.rslot o).outs

/-- REED_PASS (R336): the next group of a block that has arrived. The frames are zeroed first where a restart asks for it. -/
def reedPassStep (o : Nat) (s : State) : State :=
  match s.readyBlock o with
  | none => s
  | some l =>
    let last := (l.getLast?.map (·.it)).getD 0
    let due := (s.rslot o).group == 0 && (s.rslot o).clearAt.any (fun i => decide (i ≤ last))
    let s := if due then (s.frameClear o).modRslot o (fun y => { y with clearAt := y.clearAt.filter (fun i => decide (last < i)) }) else s
    let cmax := s.get (REEDS_W5.C_MAX o)
    let r := (s.passEntry o l).runProg (s.slotUnit o) cmax (s.flag (REEDS_W0.WHOLE o)) (cmax + 1)
    if r.2 = 0 then r.1.passEnd o l
    else ((r.1.rFlush (s.slotUnit o)).countUse o ((r.1.runit (s.slotUnit o)).cyc + 4)).slotFault o r.2

/-- REED_CYCLE_LIMIT (R335). -/
def reedCycleLimitStep (o : Nat) (s : State) : State := s.whenDo (s.slotState o == 2) fun s => s.slotFault o 1

/-! ## Instructions as commands (R363 to R373) -/

/-- An instruction is issued on a unit: it has its effect, or, where its encoding is undefined or the pass has used up its cycles, the
slot of the unit faults (R335, R365, R373). An `end` ends the pass that is ready (R334). -/
def reedInstr (op : ROp) (u0 : Nat) (a : ReedArgs) (s : State) : State :=
  let u := s.unitOf u0
  match s.runningOn u with
  | none =>
    if !reedOk op a || s.reedBad u op a then s
    else match op with
      | .endPass => (s.reedIssue u op a).rFlush u
      | _ => s.reedIssue u op a
  | some o =>
    if s.cycSpent u then s.slotFault o 1
    else if !reedOk op a || s.reedBad u op a then s.slotFault o 2
    else
      let t := s.reedIssue u op a
      match op, t.readyBlock o with
      | .endPass, some l => if t.get (REEDS_W5.C_MAX o) < (t.runit u).cyc then (t.rFlush u).slotFault o 1 else t.passEnd o l
      | .endPass, none => t.rFlush u
      | _, _ => t

/-- UNDEFINED_ENCODING (R335, R365): a word that R366 defines as an instruction, and that breaks no rule where it stands, is not one. -/
def undefinedEncodingStep (u0 : Nat) (w : BitVec 64) (s : State) : State :=
  let u := s.unitOf u0
  match s.runningOn u with
  | some o =>
    let bad := match decodeReed w with
      | none => true
      | some (op, a) => s.reedBad u op a
    if bad then s.slotFault o 2 else s
  | none => s

/-! ## Start and stop (R325, R330, R345 to R347, R350) -/

/-- The frames of the groups reach a constant base (R330), or the budget is exceeded (R346). -/
def State.startConflict (s : State) (o : Nat) : Bool :=
  let g := (s.get (REEDS_W3.N_CH o) + s.slotLanes o - 1) / s.slotLanes o
  let d := s.tapD (s.get (REEDS_W1.STREAM o)) (s.get (REEDS_W1.TAP o))
  decide ((s.rslot o).xbase < 0x100 + g * s.get (REEDS_W4.FX o)) || decide ((s.rslot o).ybase < 0x80 + g * s.get (REEDS_W4.FY o))
    || decide (950000000 * (s.get PAT_SWEEP.TSW * 5 * d * s.get (REEDS_W6.BLOCK o)) < g * s.get PAT_SWEEP.N_SLOT * 1000000000 * (s.get (REEDS_W5.C_MAX o) + 4))

/-- START is accepted from LOADED and FAULTED; it takes effect at the first block boundary 10 µs after the write. -/
def State.reedStart (s : State) (o : Nat) : State :=
  if s.slotState o = 1 || s.slotState o = 3 then s.modRslot o (fun y => { y with startAt := some (s.now + 10000 * ns) }) else s

/-- SLOT_START_EFFECT (R345, R350): the slot takes up its feed, the frames are zeroed and it runs from the next block. -/
def slotStartEffectStep (o : Nat) (s : State) : State :=
  match (s.rslot o).startAt with
  | none => s
  | some t =>
    let s := s.at t
    s.acrossBasis s.nextShot fun s =>
      let f := s.regFeed o
      let s := ((s.setSlot o 2).modRslot o (fun y => { y with feed := f, startAt := none, samples := [], group := 0, outs := [], clearAt := [] })).frameClear o
      s.put (REEDS_W0.FCAUSE o) 0

/-- STOP: no pass is in progress between two commands, so it takes effect at once (R347). -/
def State.reedStop (s : State) (o : Nat) : State :=
  let s := s.modRslot o (fun y => { y with startAt := none })
  if s.slotState o = 2 then ((s.reedCut o).modRslot o (fun y => { y with samples := [], group := 0, outs := [] })).setSlot o 1 else s

/-- START written to a slot's window: only by its owner (R356), and refused under R330 and R346 or while HELD. -/
def State.startBit (s : State) (o : Nat) (r : Option Nat) : Option State :=
  if s.slotOwner o != r || r.isNone then none
  else if s.slotState o = 2 then some s
  else if s.startConflict o || s.dev = 1 then none
  else some (s.reedStart o)

/-- STOP written to a slot's window: only by its owner. -/
def State.stopBit (s : State) (o : Nat) (r : Option Nat) : Option State :=
  if s.slotOwner o != r || r.isNone then none else some (s.reedStop o)

/-! ## QCP commands (R343, R344, R348, R437) -/

/-- REED_PUT: bytes into the session's staging area of a slot. -/
def reedPutBody (q : ReqHdr) (index offset : Nat) (data : List Byte) (s : State) : State :=
  if 16 ≤ index || 1048576 < offset + data.length then s.reply q 0x0700 stParamRange
  else
    (s.modSess q.session.val (fun x =>
      let old := ((x.reedImage.find? (fun e => e.1 == index)).map (·.2)).getD []
      { x with reedImage := (x.reedImage.filter (fun e => e.1 != index)) ++ [(index, putBytes old offset data)] })).reply q 0x0700 stOk

/-- The staged bytes of a slot's image, up to a count; bytes never put are 0. -/
def Session.reedBytes (x : Session) (index count : Nat) : List Byte :=
  getBytes (((x.reedImage.find? (fun e => e.1 == index)).map (·.2)).getD []) count

/-- A placement is held by a slot or by a LOAD under way. -/
def State.unitsHeld (s : State) (us : List Nat) : Bool :=
  us.any (fun u => s.flag (REED_UNIT.BUSY u)) || s.reed.slots.any (fun x => match x.load with
    | some (_, _, v, w, _) => (unitsOf v w).any (fun u => us.contains u)
    | none => false)

/-- A split-mode image holds a whole-mode instruction or an image exceeds the unit's program memory, or the placement is
not of the image's mode (R343). -/
def imageConflict (i : Config.ReedImage) (whole : Bool) : Bool :=
  i.whole != whole || decide (progSize whole < i.prog.length)
    || (!whole && i.prog.any (fun w => match decodeReed w with
      | some (op, _) => op.whole
      | none => false))

/-- REED_LOAD (R338, R343, R473, R495). -/
def reedLoadBody (q : ReqHdr) (index : Nat) (place : BitVec 32) (count : Nat) (s : State) : State :=
  let op := 0x0701
  let r := q.session.val
  let mode := place.toNat % 4
  let u := place.toNat / 256 % 16 * 2 + (if mode = 1 then 1 else 0)
  let whole := mode == 2
  let us := unitsOf u whole
  if s.longsFull q then s.reply q op stBusy
  else if 16 ≤ index || mode = 3 || 16 ≤ u || place.toNat / 4096 != 0 || place.toNat / 4 % 64 != 0 || 1048576 < count then s.reply q op stParamRange
  else
    let bytes := (s.sess r).reedBytes index count
    let img := Config.reedImage bytes
    if s.slotState index != 0 || (s.rslot index).load.isSome || s.unitsHeld us then s.reply q op stBusy
    else if (s.sess r).quotas.reed ≤ s.reedUse r then s.reply q op stQuota
    else if s.isOverdrawn r then s.reply q op stOverdrawn
    else if img.any (fun i => imageConflict i whole) then s.reply q op stParamConflict
    else if img.any (fun i => i.block = 0 || decide (64 < i.block) || i.outN = 0 || decide (16 < i.outN) || i.block % i.outN != 0) then s.reply q op stParamRange
    else if s.dev = 1 then s.reply q op stHeld
    else s.startLong q op index (fun s => s.modRslot index (fun y => { y with load := some (q.session, q.seq, u, whole, bytes) }))

/-- Memories of a verified image written into its unit (R344, R354). -/
def State.writeImage (s : State) (u : Nat) (whole : Bool) (i : Config.ReedImage) : State :=
  let t := s.clearUnits u whole
  let t := (i.prog.take (progSize whole)).zipIdx.foldl (fun (t : State) p =>
    (t.wr (progBase u + 8 * p.2) (p.1.extractLsb' 0 32)).wr (progBase u + 8 * p.2 + 4) (p.1.extractLsb' 32 32)) t
  let lanes := if whole then 16 else 8
  let t := (i.x.take lanes).zipIdx.foldl (fun (t : State) p => t.wrElems (memWord u p.2 false) 0 (p.1.take 8192)) t
  let t := (i.y.take lanes).zipIdx.foldl (fun (t : State) p => t.wrElems (memWord u p.2 true) 0 (p.1.take 8192)) t
  if whole then (i.dly.take lanes).zipIdx.foldl (fun (t : State) p => t.wrElems (dlyWord u p.2) 0 (p.1.take 1024)) t else t

/-- REED_LOAD_COMMIT (R344): the verified image is in the unit and the slot is LOADED; an image that does not verify leaves
the slot EMPTY, and the status of its completion is a free value. -/
def reedLoadCommitStep (o : Nat) (s : State) : State :=
  match (s.rslot o).load with
  | none => s
  | some (r, seq, u, whole, bytes) =>
    let s := s.modRslot o (fun y => { y with load := none })
    match Config.reedImage bytes with
    | none => (s.drew).complete r.val seq (s.freeVal % 65536)
    | some i =>
      let t := (s.writeImage u whole i).modRslot o (fun _ => { xbase := i.xbase, ybase := i.ybase })
      let t := (unitsOf u whole).foldl (fun (t : State) v => (t.puts [(REED_UNIT.BUSY v, 1), (REED_UNIT.SLOT v, o), (REED_UNIT.LOAD v, 0)]).modRunit v (fun _ => {})) t
      let t := t.puts [(REEDS_W0.UNIT o, u), (REEDS_W0.WHOLE o, whole.toNat), (REEDS_W0.OWNER o, r.val), (REEDS_W0.FCAUSE o, 0),
        (REEDS_W4.FX o, i.fx), (REEDS_W4.FY o, i.fy), (REEDS_W5.DELAY o, i.delay), (REEDS_W5.C_MAX o, i.cmax),
        (REEDS_W6.SETTLE o, i.settle), (REEDS_W6.OUT_N o, i.outN), (REEDS_W6.BLOCK o, i.block)]
      (((t.setSlot o 1).updOverdrawn).commitPoint r.val seq).complete r.val seq stOk

/-- A LOAD aborted before its commit point: the slot stays EMPTY and the unit's memories are cleared (R344). -/
def State.reedLoadAbort (s : State) (o : Nat) : State :=
  match (s.rslot o).load with
  | none => s
  | some (_, _, u, whole, _) => (s.clearUnits u whole).modRslot o (fun y => { y with load := none })

/-- Why a slot command is refused before its own checks: index, owner (R356). -/
def State.slotError (s : State) (q : ReqHdr) (index : Nat) : Option Nat :=
  if 16 ≤ index then some stParamRange
  else if s.slotOwner index != some q.session.val then some stNotOwner
  else none

/-- REED_START (R330, R345, R346, R495). -/
def reedStartBody (q : ReqHdr) (index : Nat) (s : State) : State :=
  match s.slotError q index with
  | some e => s.reply q 0x0702 (if e = stNotOwner && s.slotState index != 2 && s.startConflict index then stParamConflict else e)
  | none =>
    if s.slotState index = 2 then s.reply q 0x0702 stOk
    else if s.startConflict index then s.reply q 0x0702 stParamConflict
    else if s.dev = 1 then s.reply q 0x0702 stHeld
    else (s.reedStart index).reply q 0x0702 stOk

/-- REED_STOP (R347). -/
def reedStopBody (q : ReqHdr) (index : Nat) (s : State) : State :=
  match s.slotError q index with
  | some e => s.reply q 0x0703 e
  | none => (s.reedStop index).reply q 0x0703 stOk

/-- The slot is emptied and its units cleared (R348). -/
def State.slotEmpty (s : State) (o : Nat) : State := s.acrossBasis s.nextShot fun s =>
  let u := s.slotUnit o
  let whole := s.flag (REEDS_W0.WHOLE o)
  let t := (s.clearUnits u whole).modRslot o (fun _ => {})
  let t := (unitsOf u whole).foldl (fun (t : State) v => (t.puts [(REED_UNIT.BUSY v, 0), (REED_UNIT.SLOT v, 0), (REED_UNIT.LOAD v, 0)]).modRunit v (fun _ => {})) t
  ((t.puts [(REEDS_W0.UNIT o, 0), (REEDS_W0.WHOLE o, 0), (REEDS_W0.OWNER o, 0), (REEDS_W0.FCAUSE o, 0), (REEDS_W4.FX o, 0), (REEDS_W4.FY o, 0),
    (REEDS_W5.DELAY o, 0), (REEDS_W5.C_MAX o, 0), (REEDS_W6.SETTLE o, 0), (REEDS_W6.OUT_N o, 0), (REEDS_W6.BLOCK o, 0)]).setSlot o 0).updOverdrawn

/-- REED_UNLOAD (R348): STOP takes effect, which is the commit point, and the slot is EMPTY. -/
def reedUnloadBody (q : ReqHdr) (index : Nat) (s : State) : State :=
  match s.slotError q index with
  | some e => s.reply q 0x0704 (if e != stNotReady && s.longsFull q then stBusy else e)
  | none => s.startLong q 0x0704 index (fun s =>
      (((s.reedStop index).slotEmpty index).commitPoint q.session.val q.seq).complete q.session.val q.seq stOk)

/-! ## Meanings -/

/-- REED_PASS (R336). -/
def execReedPass (slot : Fin 16) (s : State) : Host.Outcome State Fault Refusal := .next (reedPassStep slot.val s)

/-- REED_CYCLE_LIMIT (R335). -/
def execReedCycleLimit (slot : Fin 16) (s : State) : Host.Outcome State Fault Refusal := .next (reedCycleLimitStep slot.val s)

/-- SLOT_START_EFFECT (R345). -/
def execSlotStartEffect (slot : Fin 16) (s : State) : Host.Outcome State Fault Refusal := .next (slotStartEffectStep slot.val s)

/-- UNDEFINED_ENCODING (R365). -/
def execUndefinedEncoding (unit : Fin 16) (word : BitVec 64) (s : State) : Host.Outcome State Fault Refusal :=
  .next (undefinedEncodingStep unit.val word s)

/-- NOP (R366). -/
def execNop (unit : Fin 16) (o : ReedArgs) (s : State) : Host.Outcome State Fault Refusal := .next (reedInstr .nop unit.val o s)

/-- END (R334). -/
def execEndPass (unit : Fin 16) (o : ReedArgs) (s : State) : Host.Outcome State Fault Refusal := .next (reedInstr .endPass unit.val o s)

/-- LOOP (R371). -/
def execLoop (unit : Fin 16) (o : ReedArgs) (s : State) : Host.Outcome State Fault Refusal := .next (reedInstr .loop unit.val o s)

/-- LOOPR (R371). -/
def execLoopr (unit : Fin 16) (o : ReedArgs) (s : State) : Host.Outcome State Fault Refusal := .next (reedInstr .loopr unit.val o s)

/-- LDP (R366). -/
def execLdp (unit : Fin 16) (o : ReedArgs) (s : State) : Host.Outcome State Fault Refusal := .next (reedInstr .ldp unit.val o s)

/-- ADDP (R362). -/
def execAddp (unit : Fin 16) (o : ReedArgs) (s : State) : Host.Outcome State Fault Refusal := .next (reedInstr .addp unit.val o s)

/-- SETAM (R366). -/
def execSetam (unit : Fin 16) (o : ReedArgs) (s : State) : Host.Outcome State Fault Refusal := .next (reedInstr .setam unit.val o s)

/-- SETQ (R366). -/
def execSetq (unit : Fin 16) (o : ReedArgs) (s : State) : Host.Outcome State Fault Refusal := .next (reedInstr .setq unit.val o s)

/-- ROTW (R366). -/
def execRotw (unit : Fin 16) (o : ReedArgs) (s : State) : Host.Outcome State Fault Refusal := .next (reedInstr .rotw unit.val o s)

/-- MPY (R366). -/
def execMpy (unit : Fin 16) (o : ReedArgs) (s : State) : Host.Outcome State Fault Refusal := .next (reedInstr .mpy unit.val o s)

/-- MAC (R366). -/
def execMac (unit : Fin 16) (o : ReedArgs) (s : State) : Host.Outcome State Fault Refusal := .next (reedInstr .mac unit.val o s)

/-- MSU (R366). -/
def execMsu (unit : Fin 16) (o : ReedArgs) (s : State) : Host.Outcome State Fault Refusal := .next (reedInstr .msu unit.val o s)

/-- SQA (R366). -/
def execSqa (unit : Fin 16) (o : ReedArgs) (s : State) : Host.Outcome State Fault Refusal := .next (reedInstr .sqa unit.val o s)

/-- ADDA (R366). -/
def execAdda (unit : Fin 16) (o : ReedArgs) (s : State) : Host.Outcome State Fault Refusal := .next (reedInstr .adda unit.val o s)

/-- SUBA (R366). -/
def execSuba (unit : Fin 16) (o : ReedArgs) (s : State) : Host.Outcome State Fault Refusal := .next (reedInstr .suba unit.val o s)

/-- ADDI (R366). -/
def execAddi (unit : Fin 16) (o : ReedArgs) (s : State) : Host.Outcome State Fault Refusal := .next (reedInstr .addi unit.val o s)

/-- ADDS (R366). -/
def execAdds (unit : Fin 16) (o : ReedArgs) (s : State) : Host.Outcome State Fault Refusal := .next (reedInstr .adds unit.val o s)

/-- SHRA (R366). -/
def execShra (unit : Fin 16) (o : ReedArgs) (s : State) : Host.Outcome State Fault Refusal := .next (reedInstr .shra unit.val o s)

/-- SHLA (R366). -/
def execShla (unit : Fin 16) (o : ReedArgs) (s : State) : Host.Outcome State Fault Refusal := .next (reedInstr .shla unit.val o s)

/-- ABS (R366). -/
def execAbsa (unit : Fin 16) (o : ReedArgs) (s : State) : Host.Outcome State Fault Refusal := .next (reedInstr .absa unit.val o s)

/-- BEXP (R368). -/
def execBexp (unit : Fin 16) (o : ReedArgs) (s : State) : Host.Outcome State Fault Refusal := .next (reedInstr .bexp unit.val o s)

/-- NRM (R368). -/
def execNrm (unit : Fin 16) (o : ReedArgs) (s : State) : Host.Outcome State Fault Refusal := .next (reedInstr .nrm unit.val o s)

/-- MOVAD (R366). -/
def execMovad (unit : Fin 16) (o : ReedArgs) (s : State) : Host.Outcome State Fault Refusal := .next (reedInstr .movad unit.val o s)

/-- MOVDA (R366). -/
def execMovda (unit : Fin 16) (o : ReedArgs) (s : State) : Host.Outcome State Fault Refusal := .next (reedInstr .movda unit.val o s)

/-- MOVI (R366). -/
def execMovi (unit : Fin 16) (o : ReedArgs) (s : State) : Host.Outcome State Fault Refusal := .next (reedInstr .movi unit.val o s)

/-- MOV (R366). -/
def execMov (unit : Fin 16) (o : ReedArgs) (s : State) : Host.Outcome State Fault Refusal := .next (reedInstr .mov unit.val o s)

/-- MOVF (R366). -/
def execMovf (unit : Fin 16) (o : ReedArgs) (s : State) : Host.Outcome State Fault Refusal := .next (reedInstr .movf unit.val o s)

/-- MANT (R368). -/
def execMant (unit : Fin 16) (o : ReedArgs) (s : State) : Host.Outcome State Fault Refusal := .next (reedInstr .mant unit.val o s)

/-- ASH (R368). -/
def execAsh (unit : Fin 16) (o : ReedArgs) (s : State) : Host.Outcome State Fault Refusal := .next (reedInstr .ash unit.val o s)

/-- DTAP (R369). -/
def execDtap (unit : Fin 16) (o : ReedArgs) (s : State) : Host.Outcome State Fault Refusal := .next (reedInstr .dtap unit.val o s)

/-- SETHD (R369). -/
def execSethd (unit : Fin 16) (o : ReedArgs) (s : State) : Host.Outcome State Fault Refusal := .next (reedInstr .sethd unit.val o s)

/-- DPUT (R369). -/
def execDput (unit : Fin 16) (o : ReedArgs) (s : State) : Host.Outcome State Fault Refusal := .next (reedInstr .dput unit.val o s)

/-- DGET (R369). -/
def execDget (unit : Fin 16) (o : ReedArgs) (s : State) : Host.Outcome State Fault Refusal := .next (reedInstr .dget unit.val o s)

/-- REED_PUT (R437). -/
def execReedPut (q : ReqHdr) (index offset : Nat) (data : List Byte) (s : State) : Host.Outcome State Fault Refusal :=
  .next (s.request q 0x0700 (reedPutBody q index offset data) (operands [itIndex index, itOffset offset, itData data]))

/-- REED_LOAD (R343). -/
def execReedLoad (q : ReqHdr) (index : Nat) (place : BitVec 32) (count : Nat) (s : State) : Host.Outcome State Fault Refusal :=
  .next (s.request q 0x0701 (reedLoadBody q index place count) (operands [itIndex index, itPlace place, itCount count]))

/-- REED_LOAD_COMMIT (R344). -/
def execReedLoadCommit (slot : Fin 16) (s : State) : Host.Outcome State Fault Refusal := .next (reedLoadCommitStep slot.val s)

/-- REED_START (R345). -/
def execReedStart (q : ReqHdr) (index : Nat) (s : State) : Host.Outcome State Fault Refusal :=
  .next (s.request q 0x0702 (reedStartBody q index) (operands [itIndex index]))

/-- REED_STOP (R347). -/
def execReedStop (q : ReqHdr) (index : Nat) (s : State) : Host.Outcome State Fault Refusal :=
  .next (s.request q 0x0703 (reedStopBody q index) (operands [itIndex index]))

/-- REED_UNLOAD (R348). -/
def execReedUnload (q : ReqHdr) (index : Nat) (s : State) : Host.Outcome State Fault Refusal :=
  .next (s.request q 0x0704 (reedUnloadBody q index) (operands [itIndex index]))

end Sys2Proof.Machine
end

