-- ==== Sys2Proof/Machine/Decimation.lean ====
section
/-! DEFINITION. Decimation and sample timing (chapter 06): filters, quantities, timestamps, restarts, the fall-back path,
taps, and anchored strain at a stream's output (R270, R272 to R274). -/

namespace Sys2Proof.Machine

/-! ## Settings (R203, R204, R215, R227, R234) -/

/-- The registers that tell a stream's filter: DEC_GD, DEC_LEN, DEC_STAT.FB_ACT and the masks. Of a stream that does not run they tell its last
filter (DESIGN CHOICE: log entry 202). -/
def State.tellFilter (s : State) (n : Nat) : State :=
  let f := s.filt n
  let t := s.puts [(DEC_GD.GD2 n, f.ltotal - 1), (DEC_LEN.LTOTAL n, f.ltotal), (DEC_STAT.FB_ACT n, f.fallback.toNat)]
  let t := if n < 32 then t.put DEC_FBMASK_LO.MASK_LO (setBit (t.get DEC_FBMASK_LO.MASK_LO) n f.fallback)
    else t.put DEC_FBMASK_HI.MASK_HI (setBit (t.get DEC_FBMASK_HI.MASK_HI) (n - 32) f.fallback)
  t.put DEC_STATUS.FB_COUNT ((List.range 64).filter (fun m => (t.filt m).fallback)).length

/-- A stream restarts at a shot: its filter state is discarded, with the committed settings, until the first shot from there on whose
number is a multiple of D (R223 to R225), and the trigger units that read it start again (R284). Where D is another than before, the
outputs of the old one are settled up to that shot (R222, R379). -/
def State.decRestart (s : State) (n s0 : Nat) : State :=
  let old := s.filt n
  let f := s.filterNow n
  let put (t : State) : State := t.modFilt n (fun _ => { f with waiting := true, ch := old.ch, epoch := old.epoch })
  let t := s.acrossBasis s0 fun t =>
    if old.d != f.d && t.strKind n == 0 && (t.str n).series == t.grid.series then t.rebase n s0 put else put t
  (t.tellFilter n).resetUnitsOf n

/-! ## Filters (R205 to R210, R220, R221, R224) -/

/-- A value held in 48 bits, CLIPPED where it is held (R209, R210). -/
def hold48 (v : Int) (q : Qual) : QSample :=
  let z := satTo 48 v
  { v := z.1, q := if z.2 then worseQual q .clipped else q }

/-- The most severe code of a span of a length; an input before the restart counts as UNSETTLED (R220, R224). -/
def spanQual (len : Nat) (l : List Qual) : Qual := worstQual ((if l.length < len then [.unsettled] else []) ++ l.take len)

/-- Cascaded sums or differences modulo 2^72 (R205): the running values and the last one. -/
def integrate (x : Int) : List Int → List Int × Int
  | [] => ([], x)
  | a :: t =>
    let y := signed 72 (pattern 72 (a + x))
    let r := integrate y t
    (y :: r.1, r.2)

def combs (x : Int) : List Int → List Int × Int
  | [] => ([], x)
  | a :: t =>
    let r := combs (signed 72 (pattern 72 (x - a))) t
    (x :: r.1, r.2)

/-- A symmetric filter over a line, newest first; a missing input is 0. -/
def firSum (taps : Nat) (h : Nat → Int) (l : List QSample) : Int :=
  sumI ((l.take taps).zipIdx.map (fun p => h (min p.2 (taps - 1 - p.2)) * p.1.v))

/-- Tap k of a half-band of an odd length: the centre one makes the gain exactly 1 (R207). -/
def hbTap (half : Nat) (h : Nat → Int) (k : Nat) : Int :=
  if k = half then 2 ^ 24 - 2 * sumI ((List.range half).map h) else h k

/-- One stage of a symmetric filter (R209, R210). -/
def firStage (taps : Nat) (h : Nat → Int) (den : Nat) (l : List QSample) : QSample :=
  hold48 (roundEvenI (firSum taps h l) den) (spanQual taps (l.map (·.q)))

/-- One input of a channel through the stages: the filter state and the tap values that it gives (R203, R233). -/
def ChanFilter.push (f : StreamFilter) (s : Nat) (x : Int) (q : Qual) (miss : Bool) (c : ChanFilter) : ChanFilter × List (Nat × QSample) :=
  let r := f.cic
  let i := integrate x c.integ
  let c1 : ChanFilter := { c with integ := i.1, cicQ := (q :: c.cicQ).take (4 * r - 3), miss := miss }
  let t0 : List (Nat × QSample) := [(0, { v := x * 256, q := q })]
  if s % r != 0 then (c1, t0)
  else
    let d := combs i.2 c.comb
    let y1 : QSample := hold48 (roundEvenI (d.2 * 256) (r ^ 4)) (spanQual (4 * r - 3) c1.cicQ)
    let c2 : ChanFilter := { c1 with comb := d.1 }
    if f.fallback then ({ c2 with ready := some { y1 with q := worseQual y1.q .fallback } }, t0)
    else
      let t1 := t0 ++ [(1, y1)]
      -- HB1
      let l1 := if f.hb1 then (y1 :: c2.hb1).take 23 else []
      let c3 : ChanFilter := { c2 with hb1 := l1 }
      let d1 := r * (if f.hb1 then 2 else 1)
      if s % d1 != 0 then (c3, t1)
      else
        let y2 := if f.hb1 then firStage 23 (hbTap 11 Config.hb1Tap) (2 ^ 24) l1 else y1
        let t2 := t1 ++ [(2, y2)]
        -- HB2
        let l2 := if f.hb2 then (y2 :: c3.hb2).take 47 else []
        let c4 : ChanFilter := { c3 with hb2 := l2 }
        let d2 := d1 * (if f.hb2 then 2 else 1)
        if s % d2 != 0 then (c4, t2)
        else
          let y3 := if f.hb2 then firStage 47 (hbTap 23 Config.hb2Tap) (2 ^ 24) l2 else y2
          let t3 := t2 ++ [(3, y3)]
          -- the final FIR
          let l3 := (y3 :: c4.fir).take f.taps
          let c5 : ChanFilter := { c4 with fir := l3 }
          if s % f.d != 0 then (c5, t3)
          else
            let y4 := firStage f.taps (fun k => f.coef.getD k 0) (2 ^ 18) l3
            ({ c5 with ready := some y4 }, t3 ++ [(4, y4)])

/-! ## Quantities and timestamps (R211, R212, R217, R218) -/

/-- π in 10^-40: far finer than any tie of R212 can lie from a value the device forms. -/
def pi40 : Nat := 31415926535897932384626433832795028841972

/-- K_φ × 10^40 × 10^8 in rad/µε of a shot (R185): 2π × ξ × G × P × ν. -/
def Inflight.kphiNum (i : Inflight) : Nat := 2 * pi40 * i.kphi * i.phs.gauge * (if i.ext then 10 else 5)

/-- y / K_φ in pε over 2^24 × kphiNum. -/
def strainNum (y : Int) : Int := y * 10 ^ 54

/-- A wrapped INT32. -/
def wrapWord (v : Int) : Word := BitVec.ofInt 32 v

/-- The conversion of R212: value word and code. -/
def convert (f : StreamFilter) (i : Inflight) (y : QSample) : Word × Qual :=
  let den := 2 ^ 24 * max 1 i.kphiNum
  -- f_shot = N_SLOT × 10^9 / (T_SW × 5)
  let fn := i.nslot * 1000000000
  let fd := max 1 (i.tsw * 5)
  match f.qty with
  | 0 => (wrapWord (roundEvenI y.v 256), y.q)
  | 2 =>
    if f.fmt then (toF32 (strainNum y.v * fn) (den * fd * 10 ^ 12), y.q)
    else
      -- 10 nε/s is 10^4 pε/s
      let z := satTo 32 (roundEvenI (strainNum y.v * fn) (den * fd * 10 ^ 4))
      (BitVec.ofInt 32 z.1, if z.2 then worseQual y.q .clipped else y.q)
  | _ => (wrapWord (roundEvenI (strainNum y.v) den), y.q)

/-! ## Anchored outputs (R270 to R274) -/

/-- One channel of an anchored stream: the channel's state and its output in 10 pε. Its mean is taken over the outputs whose timestamps
lie in the period (R271); a channel re-initialised before its first output has none to join, and keeps its offset (DESIGN CHOICE: log
entry 189). -/
def State.anchored (s : State) (i : Inflight) (port : Port) (ts : Int) (y : QSample) (x : AnchCh) : AnchCh × (Word × Qual) :=
  let avg := s.get BRL_CTRL.AVG
  let eD := roundEvenI (strainNum y.v * 65536) (2 ^ 24 * max 1 i.kphiNum * 10)
  let x1 : AnchCh := match x.join, x.last with
    | true, some l => { x with from_ := l * 65536 - eD, target := l * 65536 - eD, since := s.now, join := false }
    | _, _ => { x with join := false }
  let z := satTo 32 (roundEvenI (eD + x1.offset s.now avg) 65536)
  let q := worstQual [y.q, if z.2 then .clipped else .good, if x1.first then .unsettled else .good, if 3 < x1.missed then .lowq else .good]
  let b := s.brlPort port
  let x2 : AnchCh := { x1 with last := some z.1 }
  let x3 : AnchCh :=
    if b.closing.any (fun c => c.holds (ts * ns)) then { x2 with sumC := x2.sumC + z.1 * 65536, cntC := x2.cntC + 1 }
    else if b.cur.any (fun c => c.holds (ts * ns)) then { x2 with sum := x2.sum + z.1 * 65536, cnt := x2.cnt + 1 }
    else x2
  (x3, (BitVec.ofInt 32 z.1, q))

/-! ## Outputs (R214, R218, R221, R377) -/

/-- In a stream with D = 1 the output of a shot that was not received carries GAP, and so do its taps (R221, R233). -/
def ChanFilter.tell (c : ChanFilter) (d : Nat) (y : QSample) : QSample := if d = 1 && c.miss then { y with q := .gap } else y

/-- The output that is ready leaves the chain: converted or anchored, timestamped, into its batten, the history, the
captures and the trigger engine (R277); a device that stays in SHADOW sends none (R612). -/
def State.decOutput (s : State) (n : Nat) : State :=
  let f := s.filt n
  match f.out with
  | none => s
  | some i =>
    let c0 := f.first
    let ts := roundNs (s.rawTime i c0 - i.groupDelay f.ltotal)
    let ys := f.ch.map (fun c => c.tell f.d (c.ready.getD { v := 0, q := .gap }))
    let an := s.anchorOf n
    let r : List (Word × Qual) × State := match an with
      | none => (ys.map (convert f i), s)
      | some a =>
        let z : List (AnchCh × (Word × Qual)) := ys.zipIdx.map (fun e => s.anchored i (portOf (s.strPort n)) ts e.1 ((s.anchCh a).getD e.2 {}))
        (z.map (·.2), { s with brl := { s.brl with anch := setAt s.brl.anch a (z.map (·.1)) } })
    let vals := (s.masked n (r.1.map (fun v => ([v.1], v.2)))).map (fun v => (v.1.headD 0, v.2))
    let idx := i.s / f.d
    let o : BOut :=
      { idx := idx, ts := ts, chDt := i.chDt, period := (divRound ((i.tsw * f.d : Nat) : Int) (max 1 i.nslot)).toNat % 2 ^ 31
        epoch := i.epoch, bank := i.bank, vals := vals.map (fun v => ([v.1], v.2)), shot := i.launch, series := i.series
        qty := if an.isSome then 3 else f.qty, fmt := an.isNone && f.fmt }
    let t := r.2.modFilt n (fun f => { f with
      out := none, epoch := i.epoch, ch := f.ch.map (fun (c : ChanFilter) => { c with ready := none }) })
    if i.send then
      ((t.pushOut n o).recordOut n { idx := idx, ts := ts, epoch := i.epoch, vals := vals }).trgOffer
        { kind := 0, src := n, inst := i.launch, raw := s.rawTime i c0 - i.groupDelay f.ltotal, chDt := i.chDt, epoch := i.epoch, vals := vals }
    else t

/-- DECIMATION_OUTPUT. -/
def decimationOutputStep (n : Nat) (s : State) : State := s.decOutput n

/-! ## Restarts (R223, R225, R231) -/

/-- A stream's filters restart at the next launched shot of a running grid, and at once where no shot of theirs is under way in an
absence (R223, R225). -/
def State.restartFilter (s : State) (n : Nat) : State :=
  let p := portOf (s.strPort n)
  if s.grid.running && !(s.absOf p && s.grid.inflight.all (fun i => i.port != p)) then
    (if s.grid.restarts.contains n then s else { s with grid := { s.grid with restarts := s.grid.restarts ++ [n] } })
  else (s.decOutput n).decRestart n s.nextShot

/-- FALLBACK_MOVE: the moves due take effect at a sweep boundary; the stream restarts at its first shot and its owner is told. Moves
found at an epoch boundary wait for the sweep boundary after it (R223, R231). -/
def State.fallbackMoves (s : State) : State :=
  if s.dec.hold then { s with dec := { s.dec with hold := false } }
  else s.dec.moves.foldl (fun (t : State) m => ((t.putFlag (DEC_STAT.FB_AUTO m.1) m.2).restartFilter m.1).eventStream m.1 0x0301)
    { s with dec := { s.dec with moves := [] } }

/-! ## Inputs (R182, R211, R223, R224, R233) -/

/-- What the phase chain delivers for one channel of a shot: φ_u and its increment in 2^-16 rad, the code, and whether the
shot was not received. -/
structure DecIn where
  phi : Int
  rate : Int
  q : Qual
  miss : Bool

/-- Channels of a stream whose shot was not received: the outputs that account for it, in the stream's battens and in those of the reeds
that it feeds (R221, R386). -/
def State.noteMissed (s : State) (n s0 : Nat) (l : List Nat) : State :=
  if l = [] then s
  else
    let t := s.modStr n (fun x => { x with missed := x.missed ++ l.map (fun c => (c, s.firstIndex n s0)) })
    (List.range 64).foldl (fun (t : State) m =>
      let f := t.feedOf (t.strSlot m)
      if t.strKind m = 2 && t.strState m = 1 && f.stream == n && t.get (REEDS_W6.OUT_N (t.strSlot m)) != 0 then
        let c0 := f.chFirst + t.get (STR_W1.CH_FIRST m)
        let own := l.filter (fun c => decide (c0 ≤ c) && decide (c < c0 + t.get (STR_W2.N_CH m)))
        t.modStr m (fun x => { x with missed := x.missed ++ own.map (fun c => (c - c0, t.firstIndex m s0)) })
      else t) t

/-- A shot's samples enter one stream: an output that still waits leaves first; filters that run, or that start at the shot after a
restart, its number a multiple of D (R224). A missing input counts as LOWQ in the spans that hold it (R221; log entry 149 where D is
1). -/
def State.decFeed (s : State) (n : Nat) (i : Inflight) (restart : Bool) (ins : List DecIn) : State :=
  let s := s.decOutput n
  let s := if restart then s.decRestart n i.s else s
  let f := s.filt n
  let own := (ins.drop f.first).take f.nch
  let begin_ := !f.active && f.waiting && i.s % max 1 f.d == 0
  let s := if begin_ then (s.count (DEC_STAT.RESTARTS n)).reedRestart n i.s else s
  let s := s.noteMissed n i.s (own.zipIdx.filterMap (fun e => if e.1.miss then some e.2 else none))
  let active := f.active || begin_
  let chs : List ChanFilter := if begin_ then (List.range own.length).map (fun j => { last := (f.ch.getD j {}).last }) else f.ch
  let run : List (ChanFilter × ChanFilter × List (Nat × QSample)) :=
    (own.zip (chs ++ List.replicate (own.length - chs.length) ({} : ChanFilter))).map (fun e =>
      let x := if f.qty = 2 then e.1.rate else e.1.phi
      let q := if e.1.miss then Qual.lowq else e.1.q
      let r := if active then e.2.push f i.s x q e.1.miss else ({ e.2 with miss := e.1.miss }, [(0, { v := x * 256, q := q })])
      ({ r.1 with last := r.2.foldl (fun (l : List (Option Int)) v => setAt l v.1 (some v.2.v)) r.1.last }, e.2, r.2))
  let out := active && i.s % max 1 f.d == 0
  let t := s.modFilt n (fun y => { y with active := active, waiting := !active && f.waiting, ch := run.map (·.1), out := if out then some i else none })
  (List.range 5).foldl (fun (t : State) tap =>
    let vals := run.map (fun e => (e.2.2.find? (fun v => v.1 == tap)).map (fun v => let y := e.1.tell f.d v.2; (y.v, e.2.1.last.getD tap none, y.q)))
    if vals = [] || vals.any (·.isNone) then t
    else t.reedFeed n tap (i.s / max 1 (f.tapDec tap)) (vals.filterMap id) (s.rawTime i f.first - i.groupDelay (f.ltap tap)) i.chDt i) t

/-- A shot's samples enter every running stream of its port; a stream restarts after an absence, with a re-initialisation of its
channels, of their ψ alone too (log entry 150), or for a change of its own. A TAKE is none of them (R192, R223, R225). -/
def State.decShot (s : State) (i : Inflight) (ins : List DecIn) : State :=
  (List.range 64).foldl (fun (t : State) n =>
    if t.strKind n = 0 && t.strState n = 1 && t.strPort n = i.port.idx then
      t.decFeed n i (i.absEnd || i.reinit == .all || i.reinit == .psi || i.restarts.contains n) ins
    else t) s

/-! ## Meanings -/

/-- DECIMATION_OUTPUT (R214). -/
def execDecimationOutput (stream : Fin 64) (s : State) : Host.Outcome State Fault Refusal :=
  .next (decimationOutputStep stream.val s)

end Sys2Proof.Machine
end

