-- ==== Sys2Proof/Machine/PhaseChain.lean ====
section
/-! DEFINITION. The phase chain (chapter 05): polarisation combining, slot offsets, fading, bridging, unwrapping,
re-initialisation, and the port-swap signatures. -/

namespace Sys2Proof.Machine

/-! ## Angles (R171, R178) -/

/-- An angle in 2^-16 rad brought into (−π, π]; the result is rounded to that unit. -/
def wrapRad (x : Int) : Int :=
  let t : Int := 2 * pi40 * 65536
  let k := -((-(2 * x * 10 ^ 40 - t)) / (2 * t))
  roundEvenI (x * 10 ^ 40 - k * t) (10 ^ 40)

/-- 3π/4 in 2^-16 rad, rounded down (R180). -/
abbrev slipLimit : Nat := 154415

/-! ## The gauge product (R165, R169, R170) -/

/-- a × conj(b). -/
def mulConj (a b : Int × Int) : Int × Int := (a.1 * b.1 + a.2 * b.2, a.2 * b.1 - a.1 * b.2)

def noBin : BinSample := { xi := 0, xq := 0, yi := 0, yq := 0 }

/-- z_X and z_Y of a channel with first bin b, from bins that stand after the removal of R166 (R169). -/
def gaugeProducts (bins : Array BinSample) (b g : Nat) : (Int × Int) × (Int × Int) :=
  let u := bins.getD (b + g) noBin
  let v := bins.getD b noBin
  (mulConj (u.xi, u.xq) (v.xi, v.xq), mulConj (u.yi, u.yq) (v.yi, v.yq))

/-- A running mean with weight 2^-w. -/
def runMean (w : Nat) (m x : Int) : Int := m + divRound (x - m) (2 ^ w)

/-- ψ's running mean after a shot of a slot: set from the first sweep, weighted afterwards (R170). -/
def Chan.psiNext (c : Chan) (slot : Fin 16) (ptc : Nat) (w : Int × Int) : Int × Int :=
  let o := c.psi.getD slot.val (0, 0)
  if c.psiFresh.contains slot then w else (runMean ptc o.1 w.1, runMean ptc o.2 w.2)

/-- The combined value z (R170). -/
def combine (polmode : Nat) (psi zx zy : Int × Int) : Int × Int :=
  match polmode with
  | 1 => zx
  | 2 => zy
  | _ =>
    let r := Config.rotate zy.1 zy.2 (Config.argOf psi.1 psi.2)
    (zx.1 + r.1, zx.2 + r.2)

/-! ## Re-initialisation (R191, R192) -/

/-- A channel's state before its first shot under a re-initialisation, in a sweep; `slots` are the port's active slots. After a
TAKE the shadow slots keep their state and serve the others as the reference; m_c is kept (R191, R192). -/
def Chan.reinit (c : Chan) (r : Reinit) (sweep : Nat) (slots : List (Fin 16)) : Chan :=
  match r with
  | .none => c
  | .psi => { c with psiFresh := slots }
  | .all => { fresh := slots, psiFresh := slots, sweep0 := some sweep }
  | .take a b =>
    let rest := slots.filter (fun k => !(k == a) && !(k == b))
    { c with fresh := rest, psiFresh := rest, shadow := [a, b], ref0 := some (wrapRad c.phi), sweep0 := none }

/-! ## One shot of one channel (R170 to R181) -/

/-- What a shot did to a channel beside its sample: a slip and a re-acquisition. -/
structure ChanStep where
  c : Chan
  out : DecIn
  slip : Bool := false
  reacq : Bool := false

/-- The sample leaves: held in 40 bits (R181); the RATE input is 0 after a re-initialisation or an absence (R211). -/
def Chan.finish (old new : Chan) (phi : Int) (q : Qual) (miss zeroRate : Bool) (slip reacq : Bool) : ChanStep :=
  let z := satTo 40 phi
  let q := if z.2 then worseQual q .clipped else q
  { c := { new with phi := z.1, rateZero := false }
    out := { phi := z.1, rate := if old.rateZero || zeroRate then 0 else z.1 - old.phi, q := q, miss := miss }
    slip := slip, reacq := reacq }

/-- A bridged shot (R176): extrapolated for at most MAXRUN shots; 0 before the first shot that is not bridged. -/
def Chan.bridge (c : Chan) (maxrun : Nat) (q : Qual) (miss zeroRate : Bool) : ChanStep :=
  let inc := if maxrun < c.run + 1 then 0 else c.dlast
  c.finish { c with run := c.run + 1 } (if c.started then c.phi + inc else 0) q miss zeroRate false false

/-- θ, the reference and m_c after a slot's first shot since a re-initialisation, from z: θ is arg z against the reference, and
m_c the mean of |z| over the first sweep. The phase chain answers each shot within R25's 2 µs, so a sweep's offsets are set shot
by shot and centred at its end; a slot missing from the first sweep is set from its first shot after it (log entry 146). Where the first
sweep brings no shot, m_c starts at 0 (DESIGN CHOICE: log entry 201). -/
def Chan.first (c : Chan) (slot : Fin 16) (sweep : Nat) (argz mag : Int) : Chan :=
  if !c.fresh.contains slot then c
  else
    let ref := c.ref0.getD argz
    let c1 : Chan := { c with theta := setAt c.theta slot.val (wrapRad (argz - ref)), fresh := c.fresh.erase slot, ref0 := some ref }
    if c.sweep0 = some sweep then { c1 with magSum := c.magSum + mag, magCnt := c.magCnt + 1, m := divRound (c.magSum + mag) (c.magCnt + 1) }
    else c1

/-- A received shot of a channel in a sweep; `q0` is the worst of the shot's other codes and `clip` the mark of R149 to R151. The shot that
starts the unwrap leaves θ as it is, since no φ_u precedes it (DESIGN CHOICE: log entry 198). -/
def Chan.shot (c : Chan) (g : PhsCfg) (sweep : Nat) (slot : Fin 16) (zx zy : Int × Int) (q0 : Qual) (clip zeroRate : Bool) : ChanStep :=
  let psi := c.psiNext slot g.ptc (mulConj zx zy)
  let z := combine g.polmode psi zx zy
  let c1 : Chan := { c with psi := setAt c.psi slot.val psi, psiFresh := c.psiFresh.erase slot }
  let c2 := c1.first slot sweep (Config.argOf z.1 z.2) (Config.magOf z.1 z.2)
  let zp := Config.rotate z.1 z.2 (-(c2.theta.getD slot.val 0))
  let mag : Int := Config.magOf zp.1 zp.2
  let arg := Config.argOf zp.1 zp.2
  let c2 : Chan := if c2.shadow.contains slot && c2.fresh != [] then { c2 with ref0 := some arg } else c2
  let low := decide (256 * mag < g.thr * c2.m)
  let q := worstQual [q0, if clip then .clipped else .good, if low then .lowq else .good]
  if low || clip then c2.bridge g.maxrun q false zeroRate
  else
    let d := wrapRad (arg - c2.phi)
    let re := c2.started && decide (g.maxrun < c2.run)
    let q := if re then worseQual q .lowq else q
    let c3 : Chan := { c2 with run := 0, started := true, dlast := if c2.started then d else 0 }
    let c4 : Chan := if !c2.started || re then c3
      else { c3 with theta := setAt c3.theta slot.val (c3.theta.getD slot.val 0 + divRound d (2 ^ g.tc)) }
    let c5 : Chan := if q == .good then { c4 with m := runMean g.ftc c4.m mag } else c4
    c2.finish c5 (if c2.started then c2.phi + d else wrapRad arg) q false zeroRate (c2.started && decide (slipLimit < d.natAbs)) re

/-- SLOT_OFFSET_CENTRING: the mean over the port's active slots is taken from every θ, and the reference that a slot set later is taken
against moves with it (R173, R191, R192). -/
def Chan.centre (slots : List (Fin 16)) (c : Chan) : Chan :=
  let l := slots.map (fun k => c.theta.getD k.val 0)
  if l = [] then c
  else
    let m := divRound (sumI l) l.length
    { c with theta := c.theta.zipIdx.map (fun e => if slots.any (fun k => k.val == e.2) then e.1 - m else e.1), ref0 := c.ref0.map (· + m) }

/-! ## Ports -/

def State.chans (s : State) (p : Port) : List Chan := if p = .a then s.phs.chA else s.phs.chB
def State.setChans (s : State) (p : Port) (l : List Chan) : State :=
  match p with
  | .a => { s with phs := { s.phs with chA := l } }
  | .b => { s with phs := { s.phs with chB := l } }

/-- θ of both ports centred at a sweep boundary. -/
def State.centreTheta (s : State) : State :=
  (s.setChans .a (s.phs.chA.map (Chan.centre (s.activeSlots .a)))).setChans .b (s.phs.chB.map (Chan.centre (s.activeSlots .b)))

/-- Counters of a shot: slips and re-acquisitions (R177, R180). -/
def State.countChain (s : State) (p : Port) (slips reacqs : Nat) : State :=
  let t := if slips = 0 then s else (s.count (PHS_STAT.SLIPCNT p.idx) slips).put PHS_STATUS.SLIPWARN 1
  if reacqs = 0 then t else t.count (PHS_STAT.REACQ p.idx) reacqs

/-- The codes of a shot beside those of its own samples. -/
def Inflight.codes (i : Inflight) : Qual :=
  worstQual [if i.unsettled then .unsettled else .good, if i.apr then .apr else .good, if i.failover then .failover else .good,
    if i.tbCold then .tbCold else .good]

/-- The compressed DAS bins of a shot after the removal of the laser's phase noise (R156, R165, R166). -/
def State.dasBins (s : State) (i : Inflight) (sh : ShotReturn) : List BinSample :=
  denoise i sh.refs (s.compress i false false 0 sh.lanes)

/-- One shot of every channel of its port: a shot that was not received is bridged as GAP; one that R600 bridges is bridged; the
others pass the chain (R169 to R181). -/
def State.chainSteps (s : State) (i : Inflight) (sh : ShotReturn) (r : Reinit) : List ChanStep :=
  let chs0 := s.chans i.port
  let chs := (List.range i.phs.nch).map (fun c => (chs0.getD c {}).reinit r i.sweep i.slots)
  let bins := (s.dasBins i sh).toArray
  let marks := s.dasMarks i sh
  chs.zipIdx.map (fun (e : Chan × Nat) =>
    if !(i.launched && sh.received) then e.1.bridge i.phs.maxrun (worseQual i.codes .gap) true i.absEnd
    else if i.bridge then e.1.bridge i.phs.maxrun i.codes false i.absEnd
    else
      let b := i.phs.first + e.2 * i.phs.stride
      let z := gaugeProducts bins b i.phs.gauge
      let clip := marks.any (fun m => decide (m.1 ≤ (b + i.phs.gauge : Nat)) && decide ((b : Int) ≤ m.2))
      e.1.shot i.phs i.sweep i.slot z.1 z.2 i.codes clip i.absEnd)

/-- A shot of a signature sweep adds its intensities and its continuity length to the port's sums (R194, R195). -/
def State.signatureShot (s : State) (i : Inflight) (bins : List BinSample) : State :=
  let old := if i.port = .a then s.phs.sigA else s.phs.sigB
  let e := bins.map binEnergy
  let new : SigSum :=
    { int := (List.range (max old.int.length e.length)).map (fun b => old.int.getD b 0 + e.getD b 0), conts := old.conts ++ [contLength (s.physOf i.port) bins] }
  if i.port = .a then { s with phs := { s.phs with sigA := new } } else { s with phs := { s.phs with sigB := new } }

/-- The oldest shot of a port that waits for its return, where it is one of a position: a port's shots are delivered in launch order
(R182). -/
def State.shotDue (s : State) (p : Port) (pos : Fin 16) : Option Inflight :=
  (s.grid.inflight.find? (fun i => i.port == p)).filter (fun i => i.pos == pos)

/-- The outputs of a port's streams that are still waiting leave. -/
def State.flushOutputs (s : State) (p : Port) : State :=
  (List.range 64).foldl (fun (t : State) n => if t.strPort n = p.idx then t.decOutput n else t) s

/-- PHASE_CHAIN_SHOT: the oldest shot of the port is compressed and processed, and its samples enter the streams; VIS and the continuity
length follow it (R72, R161, R182). -/
def phaseChainShotStep (sh : ShotReturn) (s : State) : State :=
  match s.shotDue sh.port sh.pos with
  | none => s
  | some i =>
    let s := ({ s with grid := { s.grid with inflight := s.grid.inflight.erase i } }).measureVis sh.refs
    let got := i.launched && sh.received
    let s := if got then s.put (LSD_APR_STAT.CONT_LEN i.port.idx) (contLength (s.physOf i.port) (s.dasBins i sh)) else s
    if i.sig then (if got then s.signatureShot i (s.dasBins i sh) else s)
    else
      -- a changed channel count starts every channel anew
      let r := if (s.chans i.port).length = i.phs.nch then i.reinit else .all
      let s := if r = .all then (s.flushOutputs i.port).anchorReinit i.port i.launch else s
      let steps := s.chainSteps i sh r
      let t := (s.setChans i.port (steps.map (·.c))).countChain i.port (steps.filter (·.slip)).length (steps.filter (·.reacq)).length
      if i.feed then t.decShot { i with reinit := r } (steps.map (·.out)) else t

/-! ## Automatic power reduction (R72 to R75) -/

/-- The outputs of a port's streams that have not left yet, of shots launched from a time of the grid on, are marked APR: those that are
ready, those in open battens, and the samples that wait in a reed's block (R74). -/
def State.markApr (s : State) (p : Port) (since : Int) : State :=
  let worse (v : List Word × Qual) : List Word × Qual := (v.1, worseQual v.2 .apr)
  let mine (m : Nat) : Bool := (s.strKind m == 0 || s.strKind m == 2) && s.strPort (s.feedStream m) == p.idx
  let outs (m : Nat) (x : StreamSt) : StreamSt :=
    if mine m then { x with open_ := x.open_.map (fun (o : BOut) => if since ≤ o.shot then { o with vals := o.vals.map worse } else o) } else x
  let ready (n : Nat) (f : StreamFilter) : StreamFilter :=
    if s.strKind n == 0 && s.strPort n == p.idx && f.out.any (fun i => decide (since ≤ (i.launch : Int))) then
      { f with ch := f.ch.map (fun (c : ChanFilter) => { c with ready := c.ready.map (fun y => { y with q := worseQual y.q .apr }) }) }
    else f
  let fed (x : RSlot) : RSlot :=
    if s.strPort x.feed.stream == p.idx then
      { x with samples := x.samples.map (fun (y : FeedSample) =>
        if since ≤ y.shot then { y with xs := y.xs.map (fun (e : Int × Qual) => (e.1, worseQual e.2 .apr)) } else y) }
    else x
  { s with
    strm := { s.strm with st := s.strm.st.zipIdx.map (fun (e : StreamSt × Nat) => outs e.2 e.1) }
    dec := { s.dec with f := s.dec.f.zipIdx.map (fun (e : StreamFilter × Nat) => ready e.2 e.1) }
    reed := { s.reed with slots := s.reed.slots.map fed } }

/-- APR_BREAK_DETECT (R72 to R75): outputs from the two confirming shots on are APR. Of a shot that is processed already, those are the
outputs that end with it: a later one holds the second shot, too. -/
def aprBreakDetectStep (p : Port) (len0 len1 : Nat) (s : State) : State :=
  let fe := s.get (LSD_APR_END.FIBRE_END p.idx)
  let tol := s.get LSD_APR_CTRL.TOL
  let go := s.emits && s.flag LSD_APR_CTRL.EN && !s.flag LSD_ILK.CLAMP && fe != 0
    && (s.apr p == 0 || s.apr p == 2) && decide (len0 + tol < fe) && decide (len1 + tol < fe)
  s.whenDo go fun s =>
    let reach := (fe - tol) * s.binNs p * ns + s.tSw / s.grid.nslot
    let mark (i : Inflight) : Inflight := if i.port == p && decide (s.now ≤ i.clk + reach) then { i with apr := true } else i
    let t := { s with grid := { s.grid with inflight := s.grid.inflight.map mark } }
    ((t.markApr p ((s.now : Int) - s.grid.shift - reach)).reducePort p 1).put (LSD_APR_STAT.CONT_LEN p.idx) len1

/-! ## Port-swap signatures (R194 to R199) -/

/-- Emission ends: the grid stops and both ports are dark. -/
def State.dark (s : State) : State := s.stopGrid.puts [(LSD_PWR.ACTUAL 0, 0x8000), (LSD_PWR.ACTUAL 1, 0x8000)]

/-- Twice the median of a list. -/
def median2 (l : List Nat) : Nat :=
  let m := l.mergeSort (fun a b => decide (a ≤ b))
  m.getD (m.length / 2) 0 + m.getD ((m.length - 1) / 2) 0

/-- A bin of the searched range that is a landmark, with its intensity and twice the median about it; a bin at an end of the range is held
against its one neighbour (R195; DESIGN CHOICE: log entry 200). -/
def landmarkAt (int : List Nat) (thr b : Nat) : Option (Nat × Nat × Nat) :=
  let v := int.getD b 0
  let up := match b with
    | 0 => true
    | k + 1 => decide (int.getD k 0 < v)
  let down := match int[b + 1]? with
    | some w => decide (w < v)
    | none => true
  let m := median2 ((int.drop (b - 64)).take (b + 65 - (b - 64)))
  -- 10 log10(v / median) ≥ THR
  if up && down && decide (m ^ 10 * 10 ^ thr ≤ (2 * v) ^ 10) then some (b, v, m) else none

/-- Up to 8 landmarks of the greatest excess, the lower bins first among equals, in rising order (R195). -/
def landmarks (int : List Nat) (thr bins : Nat) : List Nat :=
  let l := (List.range (min bins int.length)).filterMap (landmarkAt int thr)
  let best := (l.mergeSort (fun a b => decide (b.2.1 * a.2.2 < a.2.1 * b.2.2) || (decide (b.2.1 * a.2.2 = a.2.1 * b.2.2) && decide (a.1 ≤ b.1)))).take 8
  (best.map (·.1)).mergeSort (fun a b => decide (a ≤ b))

/-- A signature word: VALID and BIN. -/
def sigWord (v : Option Nat) : Word :=
  match v with
  | some b => BitVec.ofNat 32 (2 ^ 31 + b % 2 ^ 17)
  | none => 0

/-- The nine words of a measured signature (R195). -/
def State.measure (s : State) (p : Port) (int cont : List Nat) : State :=
  let l := landmarks int (s.get PHS_SIG_CTRL.THR) (s.get PHS_SIG_CTRL.BINS)
  s.wrWords (PHS_SIGMEAS.VALID p.idx 0).addr ((List.range 8).map (fun i => sigWord l[i]?) ++ [sigWord (some (meanHalfUp cont))])

/-- Words of a signature; valid bins and the END of one. -/
def State.sigMeas (s : State) (p : Port) : List Word := s.rdWords (PHS_SIGMEAS.VALID p.idx 0).addr 9
def State.sigStore (s : State) (p : Port) : List Word := s.rdWords (PHS_SIGSTORE.VALID p.idx 0).addr 9
def sigBins (l : List Word) : List Nat := ((l.take 8).filter (fun w => w.getLsbD 31)).map (fun w => w.toNat % 2 ^ 17)
def sigEnd (l : List Word) : Nat := (l.getD 8 0).toNat % 2 ^ 17

/-- The distance of two naturals. -/
def distN (a b : Nat) : Nat := a - b + (b - a)

/-- A measured set matches a stored one (R196). -/
def sigMatch (tol : Nat) (m st : List Word) : Bool :=
  decide (distN (sigEnd m) (sigEnd st) ≤ tol)
    && decide (((sigBins st).filter (fun b => !(sigBins m).any (fun c => decide (distN b c ≤ 2)))).length ≤ 1)

/-- A port whose stored END is not valid learns its measured set (R197). -/
def State.sigLearn (s : State) (p : Port) : State :=
  if s.get (PAT_RANGE.N_BIN p.idx) = 0 || s.flag (PHS_SIGSTORE.VALID p.idx 8) then s
  else (s.wrWords (PHS_SIGSTORE.VALID p.idx 0).addr (s.sigMeas p)).put (if p = .a then PHS_SIG_STAT.LEARNED_A else PHS_SIG_STAT.LEARNED_B) 1

/-- SIGNATURE_VERDICT: once every shot of the signature sweeps has been processed (R195 to R198). Sweeps that were dark count as the others,
and a port without a shot measures none (DESIGN CHOICE: log entry 199). -/
def signatureVerdictStep (s : State) : State :=
  s.whenDo (s.phs.sigDue && !s.grid.inflight.any (fun (i : Inflight) => i.sig)) fun s =>
    let has (p : Port) : Bool := s.get (PAT_RANGE.N_BIN p.idx) != 0
    let t := if has .a then s.measure .a s.phs.sigA.int s.phs.sigA.conts else s
    let t := if has .b then t.measure .b s.phs.sigB.int s.phs.sigB.conts else t
    let t := ((t.sigLearn .a).sigLearn .b).count PHS_SIG_STAT.CHECKS
    let t := { t with phs := { t.phs with sigDue := false } }
    let tol := s.get LSD_APR_CTRL.TOL
    let own (p : Port) : Bool := !has p || sigMatch tol (t.sigMeas p) (t.sigStore p)
    if own .a && own .b then t.put PHS_SIG_STAT.VERDICT 1
    else if has .a && has .b && sigMatch tol (t.sigMeas .a) (t.sigStore .b) && sigMatch tol (t.sigMeas .b) (t.sigStore .a) then
      ((({ t with phs := { t.phs with swapHeld := true } }).put PHS_SIG_STAT.VERDICT 2).dark.toStandby).eventAll 0x0105 0
    else
      let u := t.put PHS_SIG_STAT.VERDICT 3
      let u := if own .a then u else u.eventAll 0x0106 0
      if own .b then u else u.eventAll 0x0106 1

/-! ## Meanings -/

/-- PHASE_CHAIN_SHOT (R182). -/
def execPhaseChainShot (shot : ShotReturn) (s : State) : Host.Outcome State Fault Refusal := .next (phaseChainShotStep shot s)

/-- APR_BREAK_DETECT (R72). -/
def execAprBreakDetect (port : Port) (len0 len1 : Nat) (s : State) : Host.Outcome State Fault Refusal :=
  .next (aprBreakDetectStep port len0 len1 s)

/-- SIGNATURE_VERDICT (R197). Its operands carry nothing: the device forms intensities and lengths from its own shots (R195). -/
def execSignatureVerdict (_intA _intB _contA _contB : Unit) (s : State) : Host.Outcome State Fault Refusal := .next (signatureVerdictStep s)

end Sys2Proof.Machine
end

