-- ==== Sys2Proof/Machine/Pair.lean ====
section
/-! DEFINITION. Paired operation (chapter 17): health, heartbeats, fencing, the referee, takes, snapshots, switch-backs and
the PAIR link. -/

namespace Sys2Proof.Machine

def us (n : Nat) : Nat := n * 1000 * ns
def State.modPair (s : State) (f : Pair → Pair) : State := { s with pair := f s.pair }
def State.pairOn (s : State) : Bool := s.flag PAIR_CFG.EN
def State.role (s : State) : Nat := s.get PAIR_STATUS.ROLE

/-- An instant within the last 300 µs. -/
def State.recent (s : State) (t : Option Ts) : Bool := t.any (fun t => decide (s.now ≤ t + us 300))

/-! ## Health (R583, R584) -/

/-- SYS_STATE is SAFE for a cause other than APR. -/
def State.safeFault (s : State) : Bool :=
  s.dev == 5 && (s.liveCauses != 0 || s.flag LSD_ILK.CAUSE || !s.flag LSD_ILK.ENABLE || s.light.hwHeld || (s.apr .a == 0 && s.apr .b == 0))

/-- The HEALTH word (R583). -/
def State.healthWord (s : State) : Nat :=
  s.safeFault.toNat * 2048 + s.get RDG_STATUS.LOCKED * 1024
    + (s.role == 2 && s.pair.snap.isSome && decide (s.get PAIR_SNAP.AGE ≤ 2)).toNat * 512
    + (!s.flag PAIR_STATUS.CFG_MISMATCH).toNat * 256 + (s.recent s.pair.refAt).toNat * 128 + s.get PAIR_STATUS.LINK_UP * 64
    + (s.apr .b != 0).toNat * 32 + (s.apr .a != 0).toNat * 16 + (!s.light.faults.isEmpty).toNat * 8 + s.get OCX_STATUS.WARM * 4
    + s.get OCX_STATUS.SYN_LOCK * 2 + s.get LSD_LASER_STATUS.LOCK

/-- Healthy: LOCK, SYN_LOCK, CFG_OK and RIDGE_LOCKED, and neither HW_FAULT nor SAFE_FAULT (R584). -/
def healthy (h : Nat) : Bool :=
  h % 2 == 1 && h / 2 % 2 == 1 && h / 256 % 2 == 1 && h / 1024 % 2 == 1 && h / 8 % 2 == 0 && h / 2048 % 2 == 0

/-- PAIR_UP and SNAP_OK beside health: what eligibility asks of the word (R584). -/
def ableWord (h : Nat) : Bool := healthy h && h / 64 % 2 == 1 && h / 512 % 2 == 1

/-- This device is an eligible standby (R584). -/
def State.eligible (s : State) : Bool :=
  ableWord s.healthWord && s.dev == 4 && s.recent (s.pair.sent.head?.map (·.2))

/-- HEALTH_UPDATE (R582, R583): a device that stopped for its partner enters SHADOW once its own health is clean. -/
def healthUpdateStep (s : State) : State :=
  s.whenDo s.pairOn fun s =>
    let h := s.healthWord
    let t := s.puts [(PAIR_HEALTH.HEALTH, h), (PAIR_STATUS.REF_SEEN, h / 128 % 2)]
    if t.pair.stopped && healthy h && (t.dev == 3 || t.dev == 5) then
      ((t.modPair (fun x => { x with stopped := false })).enter 4).put PAIR_STATUS.ROLE 2
    else t

/-! ## The PAIR link (R580, R581, R605 to R607) -/

/-- A frame leaves on the PAIR lane. -/
def State.sendPair (s : State) (f : PairFrame) : State :=
  (s.emit (.pair s.pair.frameSeq f)).modPair (fun x => { x with frameSeq := x.frameSeq + 1 })

/-- T_ALIGN modulo T_SW as committed. -/
def State.alignMod (s : State) : Ts := if s.get PAT_SWEEP.TSW = 0 then 0 else s.alignReg % (s.get PAT_SWEEP.TSW * 5 * ns)

/-- CFG leaves at each epoch boundary (R607). -/
def State.sendCfg (s : State) : State :=
  if s.pairOn then
    s.sendPair (.cfg (s.get PAT_SWEEP.TSW) (s.get PAT_SWEEP.N_SLOT) s.alignMod (BitVec.ofNat 8 (s.get LSD_LASER.CH)) s.nodeId)
  else s

/-- PAIR_IDLE: a valid frame that carries nothing. -/
def pairIdleStep (s : State) : State := s

/-- The standby has acknowledged the relay of a SWITCH_BACK: its commit point (R611). -/
def State.ackSwitch (s : State) : State :=
  match s.pair.switchOp with
  | some (r, seq) => s.commitPoint r.val seq
  | none => s

/-- PAIR_HB (R587, R607). -/
def pairHbStep (health : BitVec 12) (s : State) : State :=
  s.whenDo s.pairOn fun s => (s.modPair (fun x => { x with partner := some (s.now, health) })).ackSwitch

/-- At a COMMIT: equal laser channels, once the partner has reported its own, stop the launches of the device that is not active; a
distinct channel ends the stop (R124). -/
def State.clashCheck (s : State) : State :=
  if s.get PAIR_PARTNER.CH != s.get LSD_LASER.CH then { s with pat := { s.pat with clash := false } }
  else if !(s.pairOn && s.flag PAIR_STATUS.LINK_UP && s.pair.pcfg.isSome) || s.role = 1 || s.pat.clash then s
  else ({ s with pat := { s.pat with clash := true } }).eventAll 0x0103 0

/-- PAIR_CFG_FRAME (R123, R124, R580, R581). -/
def pairCfgFrameStep (tsw nslot : Nat) (alignMod : Ts) (ch : BitVec 8) (node : BitVec 12) (s : State) : State :=
  s.whenDo s.pairOn fun s =>
    let ok := tsw == s.get PAT_SWEEP.TSW && nslot == s.get PAT_SWEEP.N_SLOT && alignMod == s.alignMod
    let t := (s.puts [(PAIR_PARTNER.CH, ch.toNat), (PAIR_PARTNER.NODE, node.toNat), (PAIR_STATUS.CFG_MISMATCH, (!ok).toNat)]).modPair
      (fun x => { x with pcfg := some (tsw, nslot, alignMod) })
    if ch.toNat = s.get LSD_LASER.CH && s.role != 1 && !s.pat.clash then ({ t with pat := { t.pat with clash := true } }).eventAll 0x0103 0 else t

/-- PAIR_LINK_DOWN and PAIR_LINK_UP (R606). -/
def State.setLink (s : State) (up : Bool) : State :=
  if s.flag PAIR_STATUS.LINK_UP == up then s else (s.putFlag PAIR_STATUS.LINK_UP up).eventAll 0x0604 0
def pairLinkDownStep (s : State) : State := s.setLink false
def pairLinkUpStep (s : State) : State := s.whenDo s.pairOn fun s => s.setLink true

/-- PAIR_HB_SEND (R607); a device that has handed over sends FINAL_SEQ once its battens are closed (R614). -/
def pairHbSendStep (s : State) : State :=
  s.whenDo s.pairOn fun s =>
    let t := s.sendPair (.hb (BitVec.ofNat 12 s.healthWord))
    let done := s.grid.inflight.all (fun i => !i.send) && s.strm.st.all (fun x => x.open_.isEmpty) && s.dec.f.all (fun f => f.out.isNone)
    if s.pair.finalDue && done then
      (t.sendPair (.finalSeq (((List.range 64).filter (fun n => s.strState n == 1)).map (fun n => (n, s.rd (STR_W10.SEQ n).addr))))).modPair
        (fun x => { x with finalDue := false })
    else t

/-- FINAL_SEQ: the streams take up the SEQs, and what waited for them leaves (R615). -/
def finalSeqStep (seqs : List (Fin 64 × BitVec 32)) (s : State) : State :=
  match s.strm.held with
  | none => s
  | some l =>
    let t := seqs.foldl (fun (t : State) e => t.put (STR_W10.SEQ e.1.val) e.2.toNat) { s with strm := { s.strm with held := none } }
    l.foldl (fun (t : State) e => t.pushOut e.1 e.2) t

/-! ## Heartbeats (R585 to R588) -/

/-- Words 0 to 7 of a HEARTBEAT payload. -/
def hbBytes (pairId : Nat) (role st hseq health epoch e0 e1 : Nat) : List Byte :=
  [pairId * 65536 + role * 16384 + st * 1024, hseq, health, epoch, e0, e1, 0, 0].flatMap (beBytes 4)

/-- A HEARTBEAT packet to the host session that referees: an event packet of the session's sequence, kept in its log (R415, R428, R446). -/
def State.hostHeartbeat (s : State) (bytes : List Byte) : State :=
  match s.pair.host with
  | none => s
  | some r => if (s.sess r.val).isOpen then (s.logEvent r.val (s.sess r.val).route [itData bytes] 0x0680).trimLog r.val else s

/-- A device referees this ring's pair (R579). -/
def State.refOn (s : State) : Bool := s.flag PAIR_RCFG.EN

/-- The identifiers of the refereed devices, the lower first. -/
def State.refNodes (s : State) : Nat × Nat := (s.get PAIR_RCFG.NODE_A, s.get PAIR_RCFG.NODE_B)

/-- HEARTBEAT_SEND: as a pair device and as the referee. -/
def heartbeatSendStep (s : State) : State :=
  let h := s.pair.hseq
  let ep := s.get SYS_EPOCH.EPOCH
  let a := if s.pairOn then
      let b := hbBytes (s.get PAIR_CFG.PAIR_ID) (if s.role = 0 then 2 else s.role) s.dev h.toNat s.healthWord ep s.pair.refHseq.toNat 0
      ((s.originate 7 s.now b).hostHeartbeat b).modPair (fun x => { x with hseq := h + 1, sent := ((h, s.now) :: x.sent).take 64 })
    else s
  if a.refOn then
    let n := a.refNodes
    let q := if n.1 ≤ n.2 then (a.pair.ref.nodeA.hseq, a.pair.ref.nodeB.hseq) else (a.pair.ref.nodeB.hseq, a.pair.ref.nodeA.hseq)
    let h := a.pair.hseq
    (a.originate 7 a.now (hbBytes (a.get PAIR_RID.PAIR_ID) 0 a.dev h.toNat 0 ep q.1.toNat q.2.toNat)).modPair (fun x => { x with hseq := h + 1 })
  else a

/-- A referee echo names an own heartbeat (R587). -/
def State.echoed (s : State) (hseq : BitVec 32) : State :=
  match s.pair.sent.find? (fun e => e.1 == hseq) with
  | none => s
  | some e => s.modPair (fun x => { x with echo := some (max (x.echo.getD 0) e.2) })

/-- PAIR_ECHO written by the referee session: an echo, and a referee heartbeat (R586). -/
def State.pairEcho (s : State) (hseq : BitVec 32) : State := (s.modPair (fun x => { x with refAt := some s.now })).echoed hseq

/-! ## The referee (R591 to R594) -/

/-- Node A or node B of the refereed pair. -/
def State.refNode (s : State) (b : Bool) : RefNode := if b then s.pair.ref.nodeB else s.pair.ref.nodeA
def State.refId (s : State) (b : Bool) : Nat := if b then s.get PAIR_RCFG.NODE_B else s.get PAIR_RCFG.NODE_A
def State.modRef (s : State) (f : Referee → Referee) : State := s.modPair (fun x => { x with ref := f x.ref })

/-- PREF: no heartbeat carries PAIR_CFG.PREF, so which device is preferred is fixed outside this one. -/
def State.pref (_ : State) : Bool := Config.prefNodeB

/-- A refereed device is an eligible standby (R584). -/
def State.refEligible (s : State) (b : Bool) : Bool :=
  let n := s.refNode b
  n.seen && ableWord n.health.toNat && n.st == 4 && decide (s.now ≤ n.depart + us 300)

/-- Cumulative delay to a refereed device. -/
def State.refDelay (s : State) (b : Bool) : Ts := s.get (RDG_NODE_W1.DELAY (s.refId b)) * ns

/-- PAIR_CMD leaves (R593, R594). -/
def State.sendPairCmd (s : State) (cmd : Nat) (b : Bool) (time : Ts) (w : Nat) : State :=
  let q := s.pair.ref.cseq
  ((s.originate 8 time ([s.get PAIR_RID.PAIR_ID * 65536, cmd * 2 ^ 28 + s.refId b, q.toNat, w, 0, 0, 0, 0].flatMap (beBytes 4))).modRef
    (fun x => { x with cseq := q + 1 })).count PAIR_RSTAT.CMDS

/-- TAKE to a device; the referee goes to WATCH or DEGRADED. `after` is the earliest instant a loss allows. -/
def State.refTake (s : State) (b : Bool) (after : Ts) : State :=
  let d := max (s.refDelay false) (s.refDelay true)
  let t := s.sendPairCmd 1 b (max after (s.now + d + us 20)) 0
  (t.modRef (fun x => { x with holdSince := none, switchAt := none })).puts
    [(PAIR_RSTAT.ACTIVE_B, b.toNat), (PAIR_RSTAT.STATE, if b == s.pref then 2 else 3)]

/-- The active is lost or faulty: TAKE to the standby if it is eligible, DARK otherwise. -/
def State.refDeclare (s : State) (after : Ts) : State :=
  let b := !s.flag PAIR_RSTAT.ACTIVE_B
  if s.refEligible b then s.refTake b after
  else (s.modRef (fun x => { x with holdSince := none, switchAt := none })).put PAIR_RSTAT.STATE 6

/-- The referee's states move on (R591). -/
def State.refEval (s : State) : State :=
  let st := s.get PAIR_RSTAT.STATE
  let fault := let n := s.refNode (s.flag PAIR_RSTAT.ACTIVE_B); n.seen && !healthy n.health.toNat
  let pref := s.refEligible s.pref
  match st with
  | 1 | 6 => if pref then s.refTake s.pref 0 else if s.refEligible (!s.pref) then s.refTake (!s.pref) 0 else s
  | 2 => if fault then s.refDeclare 0 else s
  | 3 => if fault then s.refDeclare 0 else if pref then (s.modRef (fun x => { x with holdSince := some s.now })).put PAIR_RSTAT.STATE 4 else s
  | 4 | 5 =>
    if fault then s.refDeclare 0
    else if pref then s
    else (s.modRef (fun x => { x with holdSince := none, switchAt := none })).put PAIR_RSTAT.STATE 3
  | _ => s

/-- HEARTBEAT_FRAME: at a pair device a referee's echo; at the referee the state of a pair device; a host referee gets its
copy (R585 to R587, R592). -/
def heartbeatFrameStep (h : RidgeHdr) (hb : Heartbeat) (s : State) : State :=
  let b := hbBytes hb.pairId.toNat hb.role.val hb.st.toNat hb.hseq.toNat hb.health.toNat hb.epoch.toNat hb.echo0.toNat hb.echo1.toNat
  s.ringFrame h 7 b fun s =>
    let s := if s.pairOn && hb.pairId.toNat == s.get PAIR_CFG.PAIR_ID then
        if hb.role.val = 0 then
          let t := s.modPair (fun x => { x with refAt := some s.now, refHseq := hb.hseq })
          t.echoed (if decide (s.nodeId.toNat < s.get PAIR_PARTNER.NODE) then hb.echo0 else hb.echo1)
        else s.hostHeartbeat b
      else s
    if s.refOn && hb.pairId.toNat == s.get PAIR_RID.PAIR_ID && hb.role.val != 0 then
      let n : RefNode := { seen := true, hseq := hb.hseq, depart := h.time, role := hb.role.val, st := hb.st.toNat, health := hb.health }
      if h.origin.toNat = s.refId false then (s.modRef (fun x => { x with nodeA := n })).refEval
      else if h.origin.toNat = s.refId true then (s.modRef (fun x => { x with nodeB := n })).refEval
      else s
    else s

/-- REF_LOSS_DECLARE, at t_A + 300 µs + D_A (R592, R593). -/
def refLossDeclareStep (s : State) : State :=
  let st := s.get PAIR_RSTAT.STATE
  let b := s.flag PAIR_RSTAT.ACTIVE_B
  let ta := (s.refNode b).depart
  s.whenDo (s.refOn && (st == 2 || st == 3 || st == 4 || st == 5)) fun s => (s.at (ta + us 300 + s.refDelay b)).refDeclare (ta + us 510)

/-- Greatest L_total − 1 of the streams (R611). -/
def State.lmax (s : State) : Nat := maxN ((List.range 64).map (fun n => if s.strState n = 1 then s.get (DEC_GD.GD2 n) else 0))

/-- The make interval W (R611). -/
def State.makeInterval (s : State) : Ts :=
  let n := max 1 (s.get PAT_SWEEP.N_SLOT)
  ((s.lmax + n - 1) / n + 2) * (s.get PAT_SWEEP.TSW * 5 * ns)

/-- The first sweep boundary at or after an instant that is also a pair-cycle boundary (R28, R611). -/
def State.switchTime (s : State) (t : Ts) : Ts :=
  let sw := max 1 (s.get PAT_SWEEP.TSW * 5 * ns)
  let p := max 1 (us (s.get PAIR_TIMING.CYCLE))
  let k0 := (t - s.alignReg + sw - 1) / sw
  let n := max 1 (s.get PAT_SWEEP.N_SLOT)
  let k := ((List.range (p / ns + 1)).find? (fun i => decide ((k0 + i) * sw % p * n < sw))).getD 0
  s.alignReg + (k0 + k) * sw

/-- REVERT_HOLD_EXPIRE, after REVERT_HOLD of continuous eligibility: the switch-back to PREF is scheduled (R591, R611). -/
def revertHoldExpireStep (s : State) : State :=
  s.whenDo (s.refOn && s.get PAIR_RSTAT.STATE == 4) fun s =>
    let s := s.at (s.pair.ref.holdSince.getD s.now + s.get PAIR_TIMING.REVERT_HOLD * 1000000 * us 1)
    let w := s.makeInterval
    let ts := s.switchTime (s.now + w + us (s.get RDG_HORIZON.H))
    ((s.sendPairCmd 2 s.pref ts (w / us 1)).modRef (fun x => { x with holdSince := none, switchAt := some ts })).put PAIR_RSTAT.STATE 5

/-! ## Commands to the pair (R594 to R597, R611) -/

/-- A TAKE names this device. -/
def State.acceptTake (s : State) (t : Ts) : State :=
  if s.eligible then s.modPair (fun x => { x with takeAt := some t }) else s.countSat PAIR_CNT.TAKE_REJ

/-- A switch-back is scheduled at this device (R611). -/
def State.schedule (s : State) (ts w : Ts) (incoming : Bool) : State :=
  (s.modPair (fun x => { x with switch := some { ts := ts, w := w, incoming := incoming } })).put PAIR_STATUS.SWITCHING 1

/-- What a SWITCH_BACK of this device waits for has ended: its one completion follows (R443, R616, R618). -/
def State.endSwitchOp (s : State) (status : Nat) : State :=
  match s.pair.switchOp with
  | some (r, seq) => (s.modPair (fun x => { x with switchOp := none })).complete r.val seq status
  | none => s

/-- A switch-back that is scheduled is cancelled (R616). -/
def State.dropSwitch (s : State) : State := ((s.modPair (fun x => { x with switch := none })).put PAIR_STATUS.SWITCHING 0).endSwitchOp stCancelled

/-- PAIR_CMD. -/
def pairCmdStep (h : RidgeHdr) (pairId : BitVec 12) (cmd : BitVec 4) (target : BitVec 12) (cseq w : BitVec 32) (s : State) : State :=
  let b := [pairId.toNat * 65536, cmd.toNat * 2 ^ 28 + target.toNat, cseq.toNat, w.toNat, 0, 0, 0, 0].flatMap (beBytes 4)
  s.ringFrame h 8 b fun s =>
    if !s.pairOn || pairId.toNat != s.get PAIR_CFG.PAIR_ID then s
    else match cmd.toNat with
      | 1 =>
        if target = s.nodeId then s.acceptTake h.time
        else if s.role = 1 || s.role = 3 then s.modPair (fun x => { x with stopAt := some h.time })
        else s
      | 2 =>
        if target = s.nodeId then (if s.dev = 4 then s.schedule h.time (us w.toNat) true else s)
        else if s.role = 1 then s.schedule h.time (us w.toNat) false
        else s
      | _ => s

/-- TAKE_AT: at the active, when a take ordered by the host executes; at a standby, the relay of a switch-back (R595, R611). -/
def takeAtStep (t : Ts) (s : State) : State :=
  s.whenDo s.pairOn fun s =>
    if s.role = 1 then s.modPair (fun x => { x with stopAt := some t })
    else if s.dev = 4 then s.schedule t s.makeInterval true
    else s

/-! ## Snapshots (R608, R609, R613) -/

/-- K_φ of a port as `Inflight.kphiNum`, from the committed settings. -/
def State.kphiNum (s : State) (p : Port) : Nat :=
  2 * pi40 * (s.get (PHS_XI.XI p.idx) * (1931 + s.geti LSD_LASER.CH).toNat) * s.get (PHS_GAUGE.G p.idx) * s.binNs p

/-- φ_u / K_φ in pε, and back. -/
def levelOf (kn : Nat) (phi : Int) : Word := BitVec.ofInt 32 (roundEvenI (strainNum (phi * 256)) (2 ^ 24 * max 1 kn))
def phiOf (kn : Nat) (level : Word) : Int := divRound (level.toInt * 2 ^ 16 * kn) (10 ^ 54)

/-- The next output index of a stream at a shot. -/
def State.nextOidx (s : State) (n sh : Nat) : Nat := (s.str n).next.getD ((sh + s.decD n - 1) / max 1 (s.decD n))

/-- The snapshot's bytes at a shot boundary, by its global shot number (R609). -/
def State.snapshot (s : State) (sh : Nat) : List Byte :=
  let strs := (List.range 64).filter (fun n => s.strState n == 1)
  let ch (p : Port) : List Byte := (s.chans p).zipIdx.flatMap (fun e =>
    beBytes 4 (pattern 32 (s.chainage p.idx (s.chPos2 p.idx e.2))) ++ wordBytes (levelOf (s.kphiNum p) e.1.phi))
  let an (a : Nat) : List Byte :=
    let n := s.get (BRL_ANCH.SRC a)
    (s.anchCh a).zipIdx.flatMap (fun e =>
      beBytes 4 (pattern 32 (s.chainage (s.strPort n) (s.chPos2 (s.strPort n) (s.get (STR_W1.CH_FIRST n) + e.2))))
        ++ beBytes 4 (pattern 32 (divRound (e.1.offset s.now (s.get BRL_CTRL.AVG)) 65536)))
  let body := [0x5053 * 2 ^ 16 + 0x100, s.get SYS_EPOCH.EPOCH, sh / 2 ^ 32, sh, strs.length * 2 ^ 25, s.phs.chA.length, s.phs.chB.length].flatMap (beBytes 4)
    ++ (List.range 4).flatMap (fun a => beBytes 4 (s.anchCh a).length) ++ List.replicate 20 0
    ++ strs.flatMap (fun n => beBytes 4 (n * 2 ^ 26) ++ wordBytes (s.rd (STR_W10.SEQ n).addr) ++ beBytes 8 (s.nextOidx n sh))
    ++ ch .a ++ ch .b ++ (List.range 4).flatMap an
  body ++ wordBytes (crc32c body)

/-- The frames that carry a snapshot, 2,048 B each. -/
def snapFrames (l : List Byte) : List PairFrame :=
  (List.range ((l.length + 2047) / 2048)).map (fun i => .snap (2048 * i) l.length ((l.drop (2048 * i)).take 2048))

/-- A big-endian word of a snapshot. -/
def snapWord (l : List Byte) (off : Nat) : Nat := ((l.drop off).take 4).foldl (fun a b => a * 256 + b.toNat) 0

/-- Offset of the channel records, and of an anchor's records, with their counts. -/
def snapChan (l : List Byte) (p : Port) : Nat × Nat :=
  let c0 := 0x40 + 16 * (snapWord l 0x10 / 2 ^ 25)
  match p with
  | .a => (c0, snapWord l 0x14)
  | .b => (c0 + 8 * snapWord l 0x14, snapWord l 0x18)
def snapAnch (l : List Byte) (a : Nat) : Nat × Nat :=
  let b := snapChan l .b
  (b.1 + 8 * b.2 + 8 * sumN ((List.range a).map (fun i => snapWord l (0x1C + 4 * i))), snapWord l (0x1C + 4 * a))

/-- Records of 8 B: a chainage in mm and a word. -/
def snapRecs (l : List Byte) (at_ : Nat × Nat) : List (Int × Word) :=
  (List.range at_.2).map (fun i => (signed 32 (snapWord l (at_.1 + 8 * i)), BitVec.ofNat 32 (snapWord l (at_.1 + 8 * i + 4))))

/-- The record whose chainage lies within half a bin of a channel's (R599). -/
def State.matchRec (s : State) (p c : Nat) (l : List (Int × Word)) : Option Word :=
  let x := s.chainNum p (s.chPos2 p c)
  let d := s.chainDen p
  let half : Int := 65536 * (299792458 * s.binNs (portOf p) : Nat)
  (l.find? (fun e => decide (e.1 * d - x ≤ half) && decide (x - e.1 * d ≤ half))).map (·.2)

/-- The channels of a port joined to the snapshot's levels at its shot; which channels matched (R599). -/
def State.joinPort (s : State) (l : List Byte) (p : Port) : State × List Bool :=
  let recs := snapRecs l (snapChan l p)
  let own := match s.pair.own with
    | some (_, a, b) => if p = Port.a then a else b
    | none => []
  let r := (s.chans p).zipIdx.map (fun (e : Chan × Nat) =>
    match s.matchRec p.idx e.2 recs with
    | none => (e.1, false)
    | some w => ({ e.1 with phi := (satTo 40 (e.1.phi + (phiOf (s.kphiNum p) w - own.getD e.2 e.1.phi))).1 }, true))
  (s.setChans p (r.map (·.1)), r.map (·.2))

/-- The anchors loaded from the snapshot (R604). -/
def State.joinAnchors (s : State) (l : List Byte) : State :=
  (List.range 4).foldl (fun (t : State) a =>
    let n := t.get (BRL_ANCH.SRC a)
    let recs := snapRecs l (snapAnch l a)
    let chs := (t.anchCh a).zipIdx.map (fun (e : AnchCh × Nat) =>
      match t.matchRec (t.strPort n) (t.get (STR_W1.CH_FIRST n) + e.2) recs with
      | none => e.1
      | some w => { e.1 with from_ := w.toInt * 65536, target := w.toInt * 65536, since := t.now, first := false, join := false, restart := 0 })
    { t with brl := { t.brl with anch := setAt t.brl.anch a chs } }) s

/-- LEVEL_JOIN (R613). -/
def State.joinLevels (s : State) (l : List Byte) : State :=
  let a := s.joinPort l .a
  let b := a.1.joinPort l .b
  (b.1.joinAnchors l).modPair (fun x => { x with joinDue := false })

/-- Number m of the next pair cycle: the least one whose boundary has not passed and that has not been opened (R28). -/
def State.pairCycle (s : State) : Nat :=
  let p := max 1 (us (s.get PAIR_TIMING.CYCLE))
  let t := ((s.now : Int) - s.grid.shift).toNat
  let m := (t - s.grid.align) / p
  let m := if s.shotAt (s.grid.align + m * p) < t then m + 1 else m
  match s.grid.cycle with
  | some c => max m (c + 1)
  | none => m

/-- The boundary that opens a pair cycle: the first shot boundary at or after T_ALIGN + m × P, on the grid (R28). -/
def State.pairCycleAt (s : State) (m : Nat) : Ts := s.shotAt (s.grid.align + m * max 1 (us (s.get PAIR_TIMING.CYCLE)))

/-- PAIR_CYCLE_BOUNDARY: the next pair-cycle boundary, once it lies in the sweep in progress or at its end; the active sends
its snapshot, the standby keeps its own φ_u (R28, R608, R613). -/
def pairCycleBoundaryStep (s : State) : State :=
  let m := s.pairCycle
  s.whenDo (s.pairOn && s.grid.running && s.grid.started && decide (s.pairCycleAt m ≤ s.grid.align + (s.grid.k + 1) * s.tSw)) fun s =>
    let s := s.at (s.onClock (s.pairCycleAt m))
    let s := { s with grid := { s.grid with cycle := some m } }
    if s.role = 1 then
      let l := s.snapshot (s.shotNo (s.pairCycleAt m))
      (snapFrames l).foldl (fun (t : State) f => t.sendPair f) (s.put PAIR_SNAP.SIZE l.length)
    else
      let join := s.pair.switch.any (fun w => w.incoming && decide (s.now < w.ts) && decide (w.ts ≤ s.now + us (s.get PAIR_TIMING.CYCLE)))
      (s.countSat PAIR_SNAP.AGE).modPair (fun x => { x with
        own := some (s.shotNo (s.pairCycleAt m), s.phs.chA.map (·.phi), s.phs.chB.map (·.phi)), joinDue := x.joinDue || join })

/-- SNAP: the frames of a snapshot in order; accepted whole with a sound trailer (R608). -/
def snapStep (offset total : Nat) (body : List Byte) (s : State) : State :=
  s.whenDo (s.pairOn && s.role != 1) fun s =>
    let l := if offset = 0 then body else if offset = s.pair.snapIn.length && total = s.pair.snapLen then s.pair.snapIn ++ body else []
    let t := s.modPair (fun x => { x with snapIn := l, snapLen := total })
    let data := l.take (l.length - 4)
    if l.length = total && decide (68 ≤ total) && wordBytes (crc32c data) == l.drop (l.length - 4) && snapWord l 0 == 0x50530100 then
      let u := (t.modPair (fun x => { x with snap := some l, snapIn := [] })).puts [(PAIR_SNAP.AGE, 0), (PAIR_SNAP.SIZE, total)]
      if u.pair.joinDue && u.pair.own.any (fun o => o.1 == snapWord l 8 * 2 ^ 32 + snapWord l 12) then u.joinLevels l else u
    else t

/-! ## The take (R596 to R604) -/

/-- The epoch after a take or a switch-back (R603). -/
def State.pairEpoch (s : State) : State :=
  let e := nextEpoch (BitVec.ofNat 32 (max (s.get SYS_EPOCH.EPOCH) ((s.pair.snap.map (fun l => snapWord l 4)).getD 0)))
  (s.setEpoch s.now e).issue e

/-- A channel's filters after a constant input for as long as any output's span (R600). -/
def primed (f : StreamFilter) (s0 : Nat) (x : Int) : ChanFilter :=
  let m := (f.ltotal / max 1 f.d + 2) * max 1 f.d
  -- the run of constant inputs ends just before s0; only its place modulo D matters
  let base := s0 + m
  let c := (List.range m).foldl (fun (c : ChanFilter) i => (c.push f (base - m + i) x .failover false).1) {}
  { c with ready := none, miss := false }

/-- A stream of the new active from the take shot on: filters primed with the joined levels, the next output and SEQ from the
snapshot (R600 to R602). -/
def State.takeStream (s : State) (snap : List Byte) (matched : List Bool) (s0 n : Nat) (prime : Bool) : State :=
  let p := portOf (s.strPort n)
  let c0 := s.get (STR_W1.CH_FIRST n)
  let f := s.filterNow n
  let chs := ((s.chans p).drop c0).take (s.get (STR_W2.N_CH n)) |>.zipIdx.map (fun (e : Chan × Nat) =>
    if matched.getD (c0 + e.2) false then primed f s0 (if f.qty = 2 then 0 else e.1.phi) else {})
  let t := if prime && s.strKind n = 0 then s.modFilt n (fun _ => { f with active := true, waiting := false, ch := chs }) else s
  match (List.range (snapWord snap 0x10 / 2 ^ 25)).find? (fun i => snapWord snap (0x40 + 16 * i) / 2 ^ 26 == n) with
  | none => t
  | some i =>
    let o := 0x40 + 16 * i
    let sh := snapWord snap 8 * 2 ^ 32 + snapWord snap 12
    let snapT := s.grid.align + sh * s.tSw / max 1 s.grid.nslot
    let r := s.periodRate n
    let blocks := if s.strKind n = 3 then 1 else (s.get (STR_W2.N_CH n) + s.ncb n - 1) / s.ncb n
    let den := max 1 (r.2 * 1000000000 * ns)
    let b := (r.1 * blocks * (s.now - snapT) + den - 1) / den
    (t.put (STR_W10.SEQ n) (snapWord snap (o + 4) + b + 1)).modStr n (fun x => { x with
      next := some (snapWord snap (o + 8) * 2 ^ 32 + snapWord snap (o + 12)), firstDue := false, open_ := [], gap := none, series := s.grid.series, seed := none })

/-- The device becomes the active at a shot boundary (R126, R596). -/
def State.becomeActive (s : State) : State :=
  (s.modPair (fun x => { x with activeAt := some s.now, takeAt := none, stopAt := none, stopped := false, draining := false })).enter 3
    |>.put PAIR_STATUS.ROLE 1

/-- A take executes at its target, at a shot boundary of the grid. -/
def State.doTake (s : State) (at_ : Ts) : State :=
  let prime := !s.pair.making
  let l := s.pair.snap.getD []
  let a := s.joinPort l .a
  let b := a.1.joinPort l .b
  let t := (b.1.joinAnchors l).becomeActive
  let pos0 := Fin.ofNat 16 (seK (s.slotEntry .a s.bank (s.get PAT_SHADOW.POS0)))
  let pos1 := Fin.ofNat 16 (seK (s.slotEntry .a s.bank (s.get PAT_SHADOW.POS1)))
  let qos0 := Fin.ofNat 16 (seK (s.slotEntry .b s.bank (s.get PAT_SHADOW.POS0)))
  let qos1 := Fin.ofNat 16 (seK (s.slotEntry .b s.bank (s.get PAT_SHADOW.POS1)))
  let t := if prime then (t.reinit .a (.take pos0 pos1)).reinit .b (.take qos0 qos1) else t
  let t := (List.range 64).foldl (fun (t : State) n =>
    if t.strState n = 1 then t.takeStream l (if s.strPort n = 0 then a.2 else b.2) (s.shotNo at_) n prime else t) t
  let fo (x : BrlPort) : BrlPort := { x with cur := x.cur.map (fun (c : BrlPeriod) => { c with failover := true }) }
  let t := (t.modBrl .a fo).modBrl .b fo
  let t := ({ t with grid := { t.grid with failover := true } }).modPair (fun x => { x with making := false, switch := none, failSweeps := 2, joinDue := false })
  (((t.put PAIR_STATUS.SWITCHING 0).count PAIR_STATUS.TAKES).pairEpoch).eventAll 0x0601 0

/-- TAKE_EXECUTE, at the first shot boundary at or after t_x: the target launches every position; a former active stops (R126, R596). -/
def takeExecuteStep (s : State) : State :=
  let s := match s.pair.stopAt with
    | some t =>
      let u := s.at t
      let u := (u.modPair (fun x => { x with stopAt := none, stopped := true, draining := true })).dropSwitch
      (u.puts [(LSD_PWR.ACTUAL 0, 0x8000), (LSD_PWR.ACTUAL 1, 0x8000)])
    | none => s
  match s.pair.takeAt with
  | some t => if s.dev = 4 then (s.at (s.onClock (s.boundaryFor t))).doTake (s.boundaryFor t) else s.modPair (fun x => { x with takeAt := none })
  | none => s

/-! ## Fencing (R587 to R590) -/

/-- The device fences: its gates close and it launches nothing more (R589). -/
def State.fence (s : State) : State :=
  ((((s.modPair (fun x => { x with draining := true })).puts [(LSD_PWR.ACTUAL 0, 0x8000), (LSD_PWR.ACTUAL 1, 0x8000)]).put
    PAIR_STATUS.ROLE 3).count PAIR_CNT.FENCES).eventAll 0x0602 0

/-- t_E: the departure of the newest own heartbeat that an echo has named, or the later instant of becoming active (R587, R588). -/
def State.echoTime (s : State) : Ts := max (s.pair.echo.getD 0) (s.pair.activeAt.getD 0)

/-- FENCE, at t_E + 500 µs: unless the partner's latest PAIR heartbeat reports REF_SEEN = 0 (R587, R590). -/
def fenceStep (s : State) : State :=
  s.whenDo (s.role == 1) fun s =>
    let s := s.at (s.echoTime + us 500)
    let blind := s.pair.partner.any (fun p => s.recent (some p.1) && !p.2.getLsbD 7)
    if !blind then s.fence
    else if s.flag PAIR_STATUS.REF_LOST then s
    else (s.put PAIR_STATUS.REF_LOST 1).eventAll 0x0603 0

/-- PARTNER_HEARTBEAT_LOSS, 300 µs after the newest one (R590). -/
def partnerHeartbeatLossStep (s : State) : State :=
  s.whenDo (s.role == 1 && s.flag PAIR_STATUS.REF_LOST) fun s => (s.at ((s.pair.partner.map (·.1)).getD 0 + us 300)).fence

/-! ## Switch-back (R611 to R616) -/

/-- MAKE_START, at t_s − W: every position is launched in SHADOW and the streams run without being sent (R612). -/
def makeStartStep (s : State) : State :=
  s.whenDo (s.dev == 4 && s.pair.switch.any (fun w => w.incoming) && !s.pair.making) fun s =>
    let s := s.at (s.pair.switch.elim 0 (fun w => w.ts - w.w))
    let k (p : Port) (q : Nat) : Fin 16 := Fin.ofNat 16 (seK (s.slotEntry p s.bank q))
    let p0 := s.get PAT_SHADOW.POS0
    let p1 := s.get PAT_SHADOW.POS1
    let t := (s.reinit .a (.take (k .a p0) (k .a p1))).reinit .b (.take (k .b p0) (k .b p1))
    let t := (List.range 64).foldl (fun (t : State) n => if t.strKind n = 0 && t.strState n = 1 then t.decRestart n t.nextShot else t) t
    t.modPair (fun x => { x with making := true })

/-- SWITCH_INSTANT at the outgoing device: it stays launching when the incoming one is not eligible (R614, R616). -/
def State.switchOut (s : State) (w : Switch) : State :=
  let ok := s.pair.partner.any (fun p => s.recent (some p.1) && ableWord p.2.toNat)
  let t := (((s.at w.ts).modPair (fun x => { x with switch := none })).put PAIR_STATUS.SWITCHING 0).endSwitchOp (if ok then stOk else stCancelled)
  if ok then ((t.modPair (fun x => { x with finalDue := true, draining := true })).enter 4).put PAIR_STATUS.ROLE 2 else t

/-- SWITCH_INSTANT at the incoming device (R615, R616). -/
def State.switchIn (s : State) (w : Switch) : State :=
  let ok := s.pair.making && healthy s.healthWord
  let t := ((s.at w.ts).modPair (fun x => { x with switch := none, making := false })).put PAIR_STATUS.SWITCHING 0
  if !ok then t
  else
    let t := if t.pair.joinDue then (match t.pair.snap with
      | some l => t.joinLevels l
      | none => t) else t
    let t := { t with strm := { t.strm with held := some [] } }
    -- its first output is the first one at or after t_s, and FIRST is not set
    let t := (List.range 64).foldl (fun (t : State) n => t.modStr n (fun x => { x with firstDue := false, next := none, open_ := [], gap := none })) t
    t.becomeActive.pairEpoch

/-- SWITCH_INSTANT: at the pair's devices, and at the referee (R591, R614, R615). -/
def switchInstantStep (s : State) : State :=
  let s := match s.pair.switch with
    | some w => if w.incoming then (if s.dev = 4 then s.switchIn w else s) else if s.role = 1 then s.switchOut w else (s.at w.ts).dropSwitch
    | none => s
  match s.pair.ref.switchAt with
  | some _ =>
    if s.refOn && s.get PAIR_RSTAT.STATE = 5 then
      (s.modRef (fun x => { x with switchAt := none })).puts [(PAIR_RSTAT.STATE, 2), (PAIR_RSTAT.ACTIVE_B, s.pref.toNat)]
    else s
  | none => s

/-! ## QCP (R595, R611, R618) -/

/-- PAIR_STATUS. -/
def pairStatusBody (q : ReqHdr) (s : State) : State := s.reply q 0x0600 stOk [itWords [s.rd PAIR_STATUS.ROLE.addr]]

/-- The session referees. -/
def State.isReferee (s : State) (q : ReqHdr) : Bool := s.pair.host == some q.session

/-- REF_ATTACH: the host session referees this device's pair; its commit point is the entry into WAIT (R618). The bytes of its DATA are not
compared with the identifier that it carries (DESIGN CHOICE: log entry 207). -/
def refAttachBody (q : ReqHdr) (pairId : BitVec 12) (s : State) : State :=
  s.checks q 0x0601 [((s.pair.host.isSome && !s.isReferee q) || s.longsFull q, stBusy), (!s.pairOn || s.get PAIR_CFG.PAIR_ID != pairId.toNat, stParamConflict)] fun s =>
    s.startLong q 0x0601 0 fun s =>
      (((s.modPair (fun x => { x with host := some q.session })).put PAIR_RSTAT.STATE 1).commitPoint q.session.val q.seq).complete q.session.val q.seq stOk

/-- REF_DETACH. -/
def refDetachBody (q : ReqHdr) (s : State) : State :=
  s.checks q 0x0602 [(!s.isReferee q, stNotOwner)] fun s =>
    ((s.modPair (fun x => { x with host := none })).put PAIR_RSTAT.STATE (if s.refOn then 1 else 0)).reply q 0x0602 stOk

/-- TAKE: at the first shot boundary at least 20 µs later, announced to the active (R595, R597). -/
def takeBody (q : ReqHdr) (s : State) : State :=
  s.checks q 0x0603 [(s.isReferee q && !s.eligible, stParamConflict), (!s.isReferee q, stNotOwner)]
    (fun s =>
      let t := s.shotAt (s.now + us 20)
      ((s.acceptTake t).sendPair (.takeAt t)).reply q 0x0603 stOk)
  |> fun t => if s.isReferee q && !s.eligible then t.countSat PAIR_CNT.TAKE_REJ else t

/-- SWITCH_BACK: the active relays it to the standby, whose next PAIR heartbeat acknowledges the relay (R611; log entry 118). -/
def switchBackBody (q : ReqHdr) (time : Ts) (s : State) : State :=
  s.checks q 0x0604 [(s.longsFull q, stBusy), (s.role != 1 || s.pair.switch.isSome, stParamConflict), (!s.isReferee q, stNotOwner)] fun s =>
    s.startLong q 0x0604 0 fun s =>
      ((s.schedule time s.makeInterval false).modPair (fun x => { x with switchOp := some (q.session, q.seq) })).sendPair (.takeAt time)

/-! ## Meanings -/

/-- PAIR_CYCLE_BOUNDARY (R28). -/
def execPairCycleBoundary (s : State) : Host.Outcome State Fault Refusal := .next (pairCycleBoundaryStep s)

/-- PAIR_STATUS (R436). -/
def execPairStatus (q : ReqHdr) (s : State) : Host.Outcome State Fault Refusal := .next (s.request q 0x0600 (pairStatusBody q))

/-- REF_ATTACH (R618). -/
def execRefAttach (q : ReqHdr) (pairId : BitVec 12) (s : State) : Host.Outcome State Fault Refusal :=
  .next (s.request q 0x0601 (refAttachBody q pairId))

/-- REF_DETACH (R436). -/
def execRefDetach (q : ReqHdr) (s : State) : Host.Outcome State Fault Refusal := .next (s.request q 0x0602 (refDetachBody q))

/-- TAKE (R595). -/
def execTake (q : ReqHdr) (s : State) : Host.Outcome State Fault Refusal := .next (s.request q 0x0603 (takeBody q))

/-- SWITCH_BACK (R611). -/
def execSwitchBack (q : ReqHdr) (time : Ts) (s : State) : Host.Outcome State Fault Refusal :=
  .next (s.request q 0x0604 (switchBackBody q time) (operands [itTime time]))

/-- HEARTBEAT_FRAME (R585). -/
def execHeartbeatFrame (h : RidgeHdr) (hb : Heartbeat) (s : State) : Host.Outcome State Fault Refusal :=
  .next (heartbeatFrameStep h hb s)

/-- PAIR_CMD (R594). -/
def execPairCmd (h : RidgeHdr) (pairId : BitVec 12) (cmd : BitVec 4) (target : BitVec 12) (cseq w : BitVec 32) (s : State) : Host.Outcome State Fault Refusal :=
  .next (pairCmdStep h pairId cmd target cseq w s)

/-- HEALTH_UPDATE (R583). -/
def execHealthUpdate (s : State) : Host.Outcome State Fault Refusal := .next (healthUpdateStep s)

/-- HEARTBEAT_SEND (R585). -/
def execHeartbeatSend (s : State) : Host.Outcome State Fault Refusal := .next (heartbeatSendStep s)

/-- FENCE (R587). -/
def execFence (s : State) : Host.Outcome State Fault Refusal := .next (fenceStep s)

/-- REF_LOSS_DECLARE (R592). -/
def execRefLossDeclare (s : State) : Host.Outcome State Fault Refusal := .next (refLossDeclareStep s)

/-- TAKE_EXECUTE (R596). -/
def execTakeExecute (s : State) : Host.Outcome State Fault Refusal := .next (takeExecuteStep s)

/-- REVERT_HOLD_EXPIRE (R611). -/
def execRevertHoldExpire (s : State) : Host.Outcome State Fault Refusal := .next (revertHoldExpireStep s)

/-- MAKE_START (R612). -/
def execMakeStart (s : State) : Host.Outcome State Fault Refusal := .next (makeStartStep s)

/-- SWITCH_INSTANT (R614). -/
def execSwitchInstant (s : State) : Host.Outcome State Fault Refusal := .next (switchInstantStep s)

/-- PAIR_IDLE (R605). -/
def execPairIdle (s : State) : Host.Outcome State Fault Refusal := .next (pairIdleStep s)

/-- PAIR_HB (R607). -/
def execPairHb (health : BitVec 12) (s : State) : Host.Outcome State Fault Refusal := .next (pairHbStep health s)

/-- PAIR_CFG_FRAME (R580). -/
def execPairCfgFrame (tsw nslot : Nat) (alignMod : Ts) (ch : BitVec 8) (node : BitVec 12) (s : State) : Host.Outcome State Fault Refusal :=
  .next (pairCfgFrameStep tsw nslot alignMod ch node s)

/-- SNAP (R608). -/
def execSnap (offset total : Nat) (body : List Byte) (s : State) : Host.Outcome State Fault Refusal :=
  .next (snapStep offset total body s)

/-- FINAL_SEQ (R615). -/
def execFinalSeq (seqs : List (Fin 64 × BitVec 32)) (s : State) : Host.Outcome State Fault Refusal := .next (finalSeqStep seqs s)

/-- TAKE_AT (R595). -/
def execTakeAt (time : Ts) (s : State) : Host.Outcome State Fault Refusal := .next (takeAtStep time s)

/-- PAIR_HB_SEND (R607). -/
def execPairHbSend (s : State) : Host.Outcome State Fault Refusal := .next (pairHbSendStep s)

/-- PAIR_LINK_DOWN (R606). -/
def execPairLinkDown (s : State) : Host.Outcome State Fault Refusal := .next (pairLinkDownStep s)

/-- PAIR_LINK_UP (R606). -/
def execPairLinkUp (s : State) : Host.Outcome State Fault Refusal := .next (pairLinkUpStep s)

/-- PARTNER_HEARTBEAT_LOSS (R590). -/
def execPartnerHeartbeatLoss (s : State) : Host.Outcome State Fault Refusal := .next (partnerHeartbeatLossStep s)

end Sys2Proof.Machine
end

