-- ==== Sys2Proof/Machine/Ptb.lean ====
section
/-! DEFINITION. Perturbation: the registers that provoke faults (R773 to R783). -/

namespace Sys2Proof.Machine

/-- The perturbation words with fields of their own to reset. -/
def ptbWords : List Nat := [0x180000, 0x180010, 0x180014, 0x180018, 0x18001C, 0x180020, 0x180024, 0x180028]

/-- Kinds in force, in the order of PTB_CNTk (R777). -/
def State.ptbKinds (s : State) : Nat :=
  (s.flag PTB_CDC.EXTRA && s.flag PTB_CDC.SEL).toNat + (s.flag PTB_BP.TARGET && s.flag PTB_BP.DUTY).toNat * 2
    + ((s.flag PTB_RDROP.LANE_E || s.flag PTB_RDROP.LANE_W) && s.get PTB_RDROP.TYPES / 2 != 0 && s.flag PTB_RDROP.N).toNat * 4
    + (s.flag PTB_CRC.TARGET && s.flag PTB_CRC.N).toNat * 8 + (s.flag PTB_DSTALL.CH && s.flag PTB_DSTALL.STALL).toNat * 16
    + (s.rd 0x180024 != 0 || s.rd 0x180028 != 0).toNat * 32

/-- KINDS and ACTIVE follow the fields; a change of ACTIVE is told to every session (R777). -/
def State.updPtb (s : State) : State :=
  let act := ptbWords.any (fun o => s.rd o != resetWord o)
  let t := s.put PTB_STATUS.KINDS s.ptbKinds
  if s.flag PTB_STATUS.ACTIVE = act then t else (t.putFlag PTB_STATUS.ACTIVE act).eventAll 0x0A01 0

/-- The holds and stalls of the perturbations in force enter their counts; a change of the fields begins them anew (R779, R782). -/
def State.foldActs (s : State) : State := (s.count (PTB_CNT.COUNT 1) s.bpActs).count (PTB_CNT.COUNT 4) s.stallActs

/-- Every perturbation field returns to its reset value (R775). -/
def State.ptbReset (s : State) : State :=
  ({ (s.foldActs.resetWords ptbWords) with ptb := {} }).updPtb

/-- The session of the most recent PTB_SET closes (R775). -/
def State.ptbClosed (s : State) (r : Nat) : State := if s.ptb.by_ = some r then s.ptbReset else s

/-- A session may write the block: the owner, opened with authentication (R773). -/
def State.ptbRight (s : State) (r : Nat) : Bool := s.owner == r && (s.sess r).auth

/-- The bits of a perturbation word that are RW. -/
def ptbMask (off : Nat) : Word :=
  if off = 0x180000 then 0x00000FFF#32 else if off = 0x180010 then 0xFF8003FF#32 else if off = 0x180014 then 0xF0FFFFFF#32
  else if off = 0x180018 then 0xE1FFFFFF#32 else if off = 0x18001C then 0xF800FFFF#32 else if off = 0x180020 then 0xFFFC03FF#32
  else 0xFFFFFFFF#32

/-- A value within the ranges of its word's fields (R830). -/
def ptbValid (off : Nat) (w : Word) : Bool :=
  if off = 0x180000 then decide (1 ≤ PTB_CTRL.LIFE.ofWord w) && decide (PTB_CTRL.LIFE.ofWord w ≤ 3600)
  else if off = 0x180014 then decide (1 ≤ PTB_BP.HOLD.ofWord w)
  else if off = 0x180020 then
    decide (PTB_DSTALL.STALL.ofWord w ≤ 1000) && decide (1 ≤ PTB_DSTALL.PERIOD.ofWord w) && decide (PTB_DSTALL.PERIOD.ofWord w ≤ 1000)
  else true

/-- One word of a PTB_SET; the flag says it was ignored. -/
def State.ptbWord (s : State) (path : Path) (off : Nat) (w : Word) : State × Bool :=
  if off = 0x180004 then (if w.getLsbD 30 then s.put PTB_STATUS.EXPIRED 0 else s, false)
  else if ptbWords.contains off && ptbValid off w then
    let t := s.foldActs.wr off ((s.rd off &&& ~~~(ptbMask off)) ||| (w &&& ptbMask off))
    let t := { t with ptb := { t.ptb with bpSince := s.cyc, stallSince := s.cyc } }
    (if off = 0x180000 && w.getLsbD 31 then t.ptbReset else t, false)
  else (s.ignore path off 4, true)

/-- PTB_SET (R773, R774, R782). -/
def ptbSetBody (q : ReqHdr) (addr : Nat) (data : List Word) (s : State) : State :=
  let stall := data.zipIdx.any (fun (e : Word × Nat) =>
    addr + 4 * e.2 == 0x180020 && decide (1000 * PTB_DSTALL.PERIOD.ofWord e.1 ≤ PTB_DSTALL.STALL.ofWord e.1) && PTB_DSTALL.STALL.ofWord e.1 != 0)
  s.checks q 0x0A03 [(!s.ptbRight q.session.val, stNotOwner), (stall, stParamConflict)] fun s =>
    let r := data.zipIdx.foldl (fun (p : State × Nat) (e : Word × Nat) =>
      let x := p.1.ptbWord (.qcp q.session) (addr + 4 * e.2) e.1
      (x.1, p.2 + x.2.toNat)) ({ s with ptb := { s.ptb with by_ := some q.session.val, since := s.cyc } }, 0)
    r.1.updPtb.reply q 0x0A03 stOk [itIgnored r.2]

/-- A write of PTB_CTRL.CLEAR: as part of a PTB_SET by a session with the right; a direct write is ignored (R773, R775). -/
def ptbClearStep (path : Path) (s : State) : State :=
  match path with
  | .qcp r => if s.ptbRight r.val then s.ptbReset else s.ignore path 0x180000 3
  | _ => s.ignore path 0x180000 4

/-- PTB_LIFE_EXPIRE, LIFE after the most recent PTB_SET (R775). -/
def ptbLifeExpireStep (s : State) : State := s.whenDo s.ptb.by_.isSome fun s =>
    ((s.atCyc (s.ptb.since + s.get PTB_CTRL.LIFE * sCyc)).ptbReset).put PTB_STATUS.EXPIRED 1

/-! ## Meanings -/

/-- PTB_SET (R774). -/
def execPtbSet (q : ReqHdr) (addr : BitVec 24) (data : List Word) (s : State) : Host.Outcome State Fault Refusal :=
  .next (s.request q 0x0A03 (ptbSetBody q addr.toNat data) (operands [itAddr addr.toNat, itWords data]))

/-- PTB_CLEAR (R775). -/
def execPtbClear (path : Path) (s : State) : Host.Outcome State Fault Refusal := .next (ptbClearStep path s)

/-- PTB_LIFE_EXPIRE (R775). -/
def execPtbLifeExpire (s : State) : Host.Outcome State Fault Refusal := .next (ptbLifeExpireStep s)

end Sys2Proof.Machine
end

