-- ==== Sys2Proof/Machine/Sweep.lean ====
section
/-! DEFINITION. Sweeps and shots (chapters 01 and 03): the start of a sweep and what falls on its boundary (R33), the launch
of the shots, the entry into emission and its end (R743), and the syncs that select a bank swap (R113 to R118). -/

namespace Sys2Proof.Machine

/-! ## Output series (R20, R121, R221) -/

/-- The output indices of the shot-based streams start anew at the next sweep: the grid that counted them has ended. What its
shots still in flight give keeps its own indices (R121). -/
def State.seriesReset (s : State) : State := { s with grid := { s.grid with series := s.grid.series + 1 } }

/-- Streams of phase-chain channels and of reeds count the outputs of a series from an instant on (R121). -/
def State.seedSeries (s : State) (t : Ts) : State :=
  (List.range 64).foldl (fun (u : State) n =>
    if (u.strKind n = 0 || (u.strKind n = 2 && u.get (REEDS_W6.OUT_N (u.strSlot n)) != 0)) && u.strState n != 0 then u.modStr n (fun x =>
      if x.series = s.grid.series then { x with next := x.next.orElse (fun _ => some (s.firstIndex n (s.seedShot t))) }
      else if x.seed.any (fun e => e.1 == s.grid.series) then x
      else { x with seed := some (s.grid.series, s.seedShot t) })
    else u) s

/-! ## Probe and slot map (R119, R157, R191, R252) -/

/-- A change of the probe or slot map of a port: every channel is re-initialised, 2 sweeps are UNSETTLED, and the Brillouin
period in progress ends without a result. -/
def State.probeChanged (s : State) (p : Port) : State := (((s.unsettleDas p).reinit p .all).brlAbandon p)

/-- Both ports' banks change together at an instant (R112, R114, R118, R119, R157). -/
def State.swapBanks (s : State) (at_ : Ts) : State :=
  let s := { s with grid := { s.grid with banks := (at_, s.get PAT_CTRL.NEXT == 1) :: s.grid.banks } }
  let t := (s.puts [(PAT_STATUS.ACTIVE, s.get PAT_CTRL.NEXT), (PAT_STATUS.ARMED, 0)]).count PAT_STATUS.SWAPS
  ((({ t with pat := { t.pat with selected := false } }).rebuildFilters).probeChanged .a).probeChanged .b

/-- A sync of the source in force arrives (R114 to R116). -/
def State.syncArrives (s : State) (src : Nat) : State :=
  if s.flag PAT_STATUS.ARMED && s.get PAT_CTRL.SWAP_SRC == src && !s.pat.selected then
    { s with pat := { s.pat with selected := true } }
  else s

/-- SWEEP_SYNC_EDGE (R115). -/
def sweepSyncEdgeStep (rising : Bool) (s : State) : State :=
  s.whenDo (rising != s.flag PAT_CTRL.SYNC_POL) fun s => s.syncArrives 1

/-- SYNC_EXECUTE (R569): the oldest ridge sync that waits reaches its execution time. -/
def syncExecuteStep (s : State) : State :=
  match s.ridge.syncs with
  | [] => s
  | t :: l => (({ s with ridge := { s.ridge with syncs := l } }).at t).syncArrives 2

/-- RDG_SYNC.SEND: any bound session writes it (R577). -/
def State.ridgeSyncAct (s : State) (path : Path) : Except Nat State := s.byBound path State.sendRidgeSync

/-- RIDGE_SYNC_SEND. -/
def ridgeSyncSendStep (path : Path) (s : State) : State := s.acted path RDG_SYNC.SEND.addr (s.ridgeSyncAct path)

/-! ## Into emission and out of it (R194, R490, R582, R743, R744) -/

/-- Signature sweeps run first when they are enabled (R194). -/
def State.startSignature (s : State) : State :=
  { s with phs := { s.phs with
    sigLeft := if s.flag PHS_SIG_CTRL.EN then s.get PHS_SIG_CTRL.SWEEPS else 0, sigDue := false, sigA := {}, sigB := {} } }

/-- RUN, or SHADOW of a pair device; SAFE instead where a cause that is live now, or latched before, keeps the clamp closed
(R71, R582, R743). -/
def State.enterEmission (s : State) : State :=
  let dest := if s.pairOn then 4 else 3
  let t := { s with light := { s.light with runDue := false }, power := { s.power with flashClean := false, ret := { s.power.ret with clean := false } } }
  let t := if s.pairOn then (t.modPair (fun x => { x with stopped := false, draining := false })).put PAIR_STATUS.ROLE 2 else t
  let t := t.startSignature
  let t := t.latchLive
  let t := if t.flag LSD_ILK.CAUSE then ({ t with light := { t.light with safeFrom := BitVec.ofNat 4 dest } }).enter 5 |>.monTrig 5
    else t.enter dest
  t.learnPorts.settleClamp

/-- The grid starts from an instant on; its output series are new where the grid is another than before. -/
def State.beginGrid (s : State) (t : Ts) : State :=
  let same := s.grid.align == s.alignReg && s.grid.tsw == s.get PAT_SWEEP.TSW && s.grid.nslot == s.get PAT_SWEEP.N_SLOT
  (if same then s else s.seriesReset).startGrid t

/-- RUN is committed to 1 where the device does not emit (R743, R744). -/
def State.requestRun (s : State) (t : Ts) : State :=
  if s.emits || s.light.runDue || !(s.dev == 0 || s.dev == 2) then s
  else if s.dev = 2 && s.flag LSD_LASER_STATUS.LOCK then (s.beginGrid t).enterEmission
  else ({ s with light := { s.light with runDue := true } }).beginGrid t

/-- RUN is committed to 0: the ports go dark, and the device waits in STANDBY, or in BOOT until LOCK is set; a hardware fault
holds it no longer (R743, R832). -/
def State.requestStop (s : State) : State :=
  let t := { s with light := { s.light with runDue := false, hwHeld := false }, phs := { s.phs with sigLeft := 0, sigDue := false } }
  if !s.emits then (if s.light.runDue then t.stopGrid else t)
  else
    let u := t.dark
    let u := if s.pairOn then ((u.modPair (fun x => { x with takeAt := none, stopAt := none, making := false, stopped := false })).dropSwitch).put
        PAIR_STATUS.ROLE 0 else u
    (if s.flag LSD_LASER_STATUS.LOCK then u.toStandby else u.enter 0).settleClamp

/-! ## Dark for SHUTDOWN or DIAG (R743, R746, R751) -/

/-- Launching stops and the device enters SHUTDOWN or DIAG, its self-test due. SHUTDOWN also stops every stream and saves the
user calibration. -/
def State.goDark (s : State) (shutdown : Bool) : State :=
  let l := if shutdown then (List.range 64).filter (fun n => s.strState n != 0) else []
  let a := l.foldl (fun (u : State) n => u.account n) s
  let t := (if shutdown then l.foldl (fun (u : State) n => u.endStream n) s else s).dark
  let t := { t with power := { t.power with
    before := s.dev, shutDue := false, testDue := some shutdown, stopped := l.map (fun n => (n, s.strState n, (a.str n).next)) } }
  let t := (t.enter (if shutdown then 6 else 7)).settleClamp
  if shutdown then t.evalFallback.calSave else t

/-! ## SWEEP_START (R15 to R20, R33) -/

/-- The sweep in progress ends: what it was marked with counts down, and the last signature sweep asks for the verdict. -/
def State.closeSweep (s : State) : State :=
  if s.grid.closed then s
  else
    let due := s.phs.sigLeft == 1
    { s with
      grid := { s.grid with closed := true, unsA := s.grid.unsA - 1, unsB := s.grid.unsB - 1 }
      rx := { s.rx with brlUnsA := s.rx.brlUnsA - 1, brlUnsB := s.rx.brlUnsB - 1 }
      phs := { s.phs with sigLeft := s.phs.sigLeft - 1, sigDue := s.phs.sigDue || due } }

/-- GRID_REANCHOR: the record of R34, and the outputs of the next 2 sweeps UNSETTLED (R19, R20, R191). -/
def State.reanchor (s : State) (backward : Bool) (k : Nat) : State :=
  let t := s.puts [(SYS_REANCHOR.SKIPPED, if backward then 0 else min 65535 (k - (s.grid.k + 1))),
    (SYS_REANCHOR.COUNT, s.get SYS_REANCHOR.COUNT + 1), (SYS_REANCHOR.DIR, backward.toNat)]
  let u := t.unsettle2.reinitAll
  let v := { u with grid := { u.grid with absA := true, absB := true } }
  if backward then v.seriesReset else v

/-- FAILOVER ends with the first full sweep after a take (R600). -/
def State.failoverSweep (s : State) : State :=
  if s.pair.failSweeps = 0 then s
  else
    let t := s.modPair (fun x => { x with failSweeps := x.failSweeps - 1 })
    if s.pair.failSweeps = 1 then { t with grid := { t.grid with failover := false } } else t

/-- What a sweep boundary does beside starting the sweep, in the order of R33. -/
def State.boundaryActs (s : State) (k : Nat) (t : Ts) : State :=
  let a := (((s.openClamp.aprBoundary .a).aprBoundary .b).normalPort .a).normalPort .b
  let a := a.leaveSafe.liftHolds
  let a := if a.flag PAT_STATUS.ARMED && a.pat.selected then a.swapBanks t else a
  let a := (((a.gainBoundary .a false t).gainBoundary .a true t).gainBoundary .b false t).gainBoundary .b true t
  let a := (a.lncBoundary.centreTheta).fallbackMoves
  ((((a.brlBoundary .a k t).brlBoundary .b k t).calBoundary).failoverSweep).monTrig 4

/-- Sweep k starts at an edge of the DSP clock (R15, R17, R18). -/
def State.startSweep (s : State) (edge : Ts) : State :=
  let k := s.nextK
  let a := (s.closeSweep.at edge).edgeTimes s.nextBoundary edge
  let a := match s.grid.resume, s.grid.step with
    | some _, some back => a.reanchor back k
    | _, _ => a
  let seed := match s.grid.resume with
    | some t => t
    | none => s.nextBoundary
  let a := { a with grid := { a.grid with
    k := k, start := edge, started := true, resume := none, step := none, closed := false, nextPos := 0, diagDone := false, skip := [], shift := 0
    cycle := if s.grid.resume.isSome then none else a.grid.cycle } }
  let a := (a.seedSeries seed).put2 SYS_SWEEP_LO.IDX_LO SYS_SWEEP_HI.IDX_HI k
  -- a restore probe of the sweep before still sets where its guard window begins
  let clear (u : State) (p : Port) : State := u.modPl p (fun x => { x with
    restoreShot := x.restoreShot.filter (fun m => s.grid.resume.isNone && decide ((k - 1) * s.grid.nslot ≤ m)) })
  (clear (clear a .a) .b).boundaryActs k edge

/-! ## Launching (R21 to R23, R94, R98) -/

/-- A shot that the phase chain will deliver, launched or left out, takes up what waited for it. -/
def State.takenUp (s : State) (p : Port) : State :=
  let g := { s.grid with restarts := s.grid.restarts.filter (fun n => s.strPort n != p.idx) }
  match p with
  | .a => { s with grid := { g with reinitA := .none, absA := false } }
  | .b => { s with grid := { g with reinitB := .none, absB := false } }

/-- A probe leaves the port at a position of the sweep in progress. -/
def State.fireProbe (s : State) (p : Port) (pos : Fin 16) : State :=
  let t := s.onClock (s.grid.start + s.launchOffset pos.val)
  (s.emit (.probe (s.probeOf p pos t))).noteShot p t (s.durAt p s.bank pos.val)

/-- A shot waits for its return. -/
def State.awaitShot (s : State) (i : Inflight) : State :=
  { s with grid := { s.grid with inflight := s.grid.inflight ++ [i], lastS := i.s } }

/-- The shot of one port at a position: left out of the grid, launched for the signature, launched, or an absence. A port whose
light is held makes an absence; where the laser's lock holds it, the shots are not received, and the phase chain bridges them (R56, R175, R222;
log entry 147). -/
def State.launchPort (s : State) (pos : Fin 16) (p : Port) : State :=
  let skip := s.grid.skip.contains (p, pos)
  let s := { s with grid := { s.grid with skip := s.grid.skip.erase (p, pos) } }
  if s.get (PAT_RANGE.N_BIN p.idx) = 0 then s
  else if !s.portLaunches p then
    (if s.emits && s.light.hold && s.phs.sigLeft = 0 && !s.phs.sigDue && !(s.shadowing && (s.shadowIndex pos.val).isNone)
      then s.awaitShot { s.shotOf p pos false with feed := false, send := false, reinit := .none } else s).setAbs p true
  else if s.shadowing && (s.shadowIndex pos.val).isNone then s
  else if s.phs.sigLeft != 0 || s.phs.sigDue then
    let t := if skip then s else s.fireProbe p pos
    let t := if skip || s.phs.sigLeft = 0 then t else t.awaitShot { s.shotOf p pos true with sig := true, feed := false, send := false }
    t.setAbs p true
  else
    let i := s.shotOf p pos (!skip)
    let t := (s.awaitShot i).takenUp p
    if skip then t
    else
      let u := t.fireProbe p pos
      if u.brlEn p then { u with brl := { u.brl with inflight := u.brl.inflight ++ [i] } } else u

/-- SHOT_LAUNCH: both ports launch at the same instant (R21, R94). -/
def shotLaunchStep (pos : Fin 16) (s : State) : State :=
  let go := s.grid.running && s.grid.started && !s.grid.closed && decide (s.grid.nextPos ≤ pos.val) && decide (pos.val < s.grid.nslot)
  s.whenDo go fun s =>
    let t := s.at (s.onClock (s.grid.start + s.launchOffset pos.val))
    (({ t with grid := { t.grid with nextPos := pos.val + 1 } }).launchPort pos .a).launchPort pos .b

/-! ## Meanings -/

/-- SHOT_LAUNCH (R94). -/
def execShotLaunch (pos : Fin 16) (s : State) : Host.Outcome State Fault Refusal := .next (shotLaunchStep pos s)

/-- SWEEP_SYNC_EDGE (R115). -/
def execSweepSyncEdge (rising : Bool) (s : State) : Host.Outcome State Fault Refusal := .next (sweepSyncEdgeStep rising s)

/-- SYNC_EXECUTE (R569). -/
def execSyncExecute (s : State) : Host.Outcome State Fault Refusal := .next (syncExecuteStep s)

/-- RIDGE_SYNC_SEND (R569). -/
def execRidgeSyncSend (path : Path) (s : State) : Host.Outcome State Fault Refusal := .next (ridgeSyncSendStep path s)

end Sys2Proof.Machine
end

