-- ==== Sys2Proof/Machine/Staging.lean ====
section
/-! DEFINITION. Words that a transaction may stage, and what staged words do to the register space (R465, R466, R480, R105,
R355, R544, R785). -/

namespace Sys2Proof.Machine

/-! ## Windows (R104, R354, R785) -/

/-- A word of a pattern bank. -/
def inPattern (off : Nat) : Bool := decide (0x200000 ≤ off) && decide (off < 0x300000)

/-- A word of reed program memory, which only LOAD writes (R355). -/
def inProgram (off : Nat) : Bool := decide (0x300000 ≤ off) && decide (off < 0x380000)

/-- A word of reed delay memory. -/
def inDelay (off : Nat) : Bool := decide (0x380000 ≤ off) && decide (off < 0x3C0000)

/-- A word of reed delay, X or Y memory. -/
def inReedData (off : Nat) : Bool :=
  inDelay off || (decide (0x400000 ≤ off) && decide (off < 0x800000))

/-- A word of a mailbox buffer. -/
def inMailbox (off : Nat) : Bool := decide (0x192000 ≤ off) && decide (off < 0x19E000)

/-- The unit whose memory holds a word. -/
def windowUnit (off : Nat) : Nat :=
  if off < 0x380000 then (off - 0x300000) / 0x8000
  else if off < 0x3C0000 then 2 * ((off - 0x380000) / 0x8000)
  else (off - 0x400000) / 0x40000

/-- The slot placed on the unit of a reed window word; a bundle in split mode has no delay memory (R319). -/
def State.windowSlot (s : State) (off : Nat) : Option Nat :=
  (s.unitSlot (windowUnit off)).filter (fun o => !inDelay off || s.flag (REEDS_W0.WHOLE o))

/-- A window word is locked: a pattern bank that is active or armed while the device emits (R105), a reed memory of a
slot that is RUNNING or of none (R355), a TIC setting while a measurement runs (R544). -/
def State.locked (s : State) (off : Nat) : Bool :=
  if inPattern off then
    let bank := off / 0x40000 % 2
    s.emits && (bank == s.bank || (s.flag PAT_STATUS.ARMED && bank == s.get PAT_CTRL.NEXT))
  else if inReedData off then
    match s.windowSlot off with
    | some o => s.slotState o == 2
    | none => true
  else if inProgram off then true
  else off / 0x10000 == 0x0F && decide (off ≤ 0x0F0008) && s.flag TIC_CTRL.RUN

/-! ## Rights (R275, R280, R316, R355, R356, R410, R465, R466, R829) -/

/-- Nobody or this session owns a partition. -/
def freeOr (o : Option (Fin 8)) (r : Nat) : Bool :=
  match o with
  | none => true
  | some x => x.val == r

/-- The writer class of a word, with the index of its partition, admits a session; an anchor's is the owner of the stream SRC that the
value names (R275). -/
def State.writerOk (s : State) (r off : Nat) (w : Word) : Writer → Bool
  | .owner => r == s.owner
  | .any => true
  | .stream b st => freeOr (s.qcp.streamOwner.getD ((off - b) / st) none) r
  | .trgUnit b st => freeOr (s.qcp.trgOwner.getD ((off - b) / st) none) r
  | .capUnit b st => freeOr (s.qcp.capOwner.getD ((off - b) / st) none) r
  | .slot b st => s.slotOwner ((off - b) / st) == some r
  | .ring b st => (off - b) / st == r
  | .anchor b st => freeOr (s.qcp.streamOwner.getD (BRL_ANCH.SRC ((off - b) / st) |>.ofWord w) none) r
  | .referee => s.pair.host.any (fun h => h.val == r)
  | .ptb => false

/-- A session may commit a value of a word. -/
def State.mayCommit (s : State) (r off : Nat) (w : Word) : Bool :=
  if inPattern off then r == s.owner
  else if inReedData off then
    match s.windowSlot off with
    | some o => s.slotOwner o == some r
    | none => false
  else if inProgram off then false
  else match rowAt off with
    | some row => s.writerOk r off w row.writer
    | none => false

/-- A word can be staged at all: a window word of R785, or a register word with an RW or RWS field, outside the PTB block
and the mailbox buffers (R480). -/
def stageable (off : Nat) : Bool :=
  if off % 4 != 0 then false
  else if inPattern off || inProgram off || inReedData off then true
  else if inMailbox off || off / 0x10000 == 0x18 then false
  else match rowAt off with
    | some row => row.rw != 0
    | none => false

/-! ## Words into the space -/

/-- A committed word takes effect, unless its window is locked, or a reed window that the session does not hold: then it is ignored and
flagged (R105, R355, R489, R496). -/
def State.commitWord (s : State) (r : Fin 8) (off : Nat) (w : Word) : State :=
  if s.locked off then s.ignore (.qcp r) off 4
  else if inReedData off && !s.mayCommit r off w then s.ignore (.qcp r) off 3
  else s.wr off (mergeWord off (s.rd off) w)

/-- The words of a set in ascending order of offset. -/
def sortWords (l : List (Nat × Word)) : List (Nat × Word) := l.mergeSort (fun a b => decide (a.1 ≤ b.1))

/-- Every word of a set. -/
def State.commitWords (s : State) (r : Fin 8) (l : List (Nat × Word)) : State :=
  l.foldl (fun (t : State) e => t.commitWord r e.1 e.2) s

/-! ## Ownership (R280, R316, R376) -/

/-- A set holds a word of a window, from an offset up to another. -/
def touches (l : List (Nat × Word)) (lo hi : Nat) : Bool := l.any (fun e => decide (lo ≤ e.1) && decide (e.1 < hi))

/-- The value a set stages for a word. -/
def staged (l : List (Nat × Word)) (off : Nat) : Option Word := (l.find? (fun e => e.1 == off)).map (·.2)

/-- Base of a trigger unit, capture unit and stream window, and of a slot window. -/
def trgBase (u : Nat) : Nat := 0x090100 + 32 * u
def capBase (c : Nat) : Nat := 0x091000 + 32 * c
def strBase (n : Nat) : Nat := 0x0C1000 + 64 * n
def slotBase (o : Nat) : Nat := 0x0A0100 + 32 * o

/-- Owners of the trigger units after a set: a write of word 0 as 0 by its owner gives a unit up (R280). -/
def State.claimTrg (s : State) (r : Fin 8) (l : List (Nat × Word)) : State :=
  { s with qcp := { s.qcp with trgOwner := s.qcp.trgOwner.zipIdx.map (fun (e : Option (Fin 8) × Nat) =>
    if !touches l (trgBase e.2) (trgBase e.2 + 32) then e.1
    else if e.1 == some r && staged l (trgBase e.2) == some 0 then none
    else e.1.orElse (fun _ => some r)) } }

/-- Owners of the capture units after a set (R316). -/
def State.claimCap (s : State) (r : Fin 8) (l : List (Nat × Word)) : State :=
  { s with qcp := { s.qcp with capOwner := s.qcp.capOwner.zipIdx.map (fun (e : Option (Fin 8) × Nat) =>
    if !touches l (capBase e.2) (capBase e.2 + 12) then e.1
    else if e.1 == some r && staged l (capBase e.2) == some 0 && s.get (CAPU_W0.STATE e.2) == 0 then none
    else e.1.orElse (fun _ => some r)) } }

/-- Registers and owners as a set leaves them. -/
def State.adopt (s : State) (r : Fin 8) (l : List (Nat × Word)) : State :=
  (((s.commitWords r l).claimTrg r l).claimCap r l).claimStr r

/-- The configuration a set is checked against: registers, owners, the bank and the running streams that it leaves, and
nothing sent (R480). -/
def State.foresee (s : State) (r : Fin 8) (l : List (Nat × Word)) : State :=
  let t := s.adopt r l
  let t := if t.get PAT_CTRL.SWAP_SRC = 0 then t.put PAT_STATUS.ACTIVE (t.get PAT_CTRL.NEXT) else t
  (List.range 64).foldl (fun (u : State) n =>
    if u.flag (STR_W0.EN n) then (if u.strState n = 0 then u.put (STR_W15.STATE n) 1 else u) else u.put (STR_W15.STATE n) 0) t

/-- The configuration that will be in force after every set already handed over (R480). -/
def State.foreseen (s : State) : State := s.handedSets.foldl (fun (t : State) x => t.foresee x.session x.words) s

end Sys2Proof.Machine
end

