-- ==== Sys2Proof/Machine/Validate.lean ====
section
/-! DEFINITION. The refusal rules of a COMMIT (R482, R490, R830): each chapter's checks on the configuration that a set
leaves, as a list of failures with their status and the word concerned. -/

namespace Sys2Proof.Machine

/-- A failure: its status and the offset of the word concerned, or none (R482). -/
structure Failing where
  status : Nat
  off : Option Nat
  deriving DecidableEq, Repr

/-- A failure where a condition holds. -/
def bad (c : Bool) (status off : Nat) : List Failing := if c then [{ status := status, off := some off }] else []

/-- What a set is checked in: the state now, the configuration before it, the one after it, the session and the words. -/
structure Draft where
  now : State
  old : State
  new : State
  sess : Fin 8
  words : List (Nat × Word)

/-- The set holds a word. -/
def Draft.has (d : Draft) (off : Nat) : Bool := d.words.any (fun e => e.1 == off)

/-! ## Ranges and rights (R465, R830) -/

/-- A field's value lies outside a stated range. -/
def FldRange.fails (r : FldRange) (w : Word) : Bool :=
  let n := w.toNat / 2 ^ r.lo % 2 ^ r.width
  let v : Int := if r.signed then Sys2Proof.Machine.signed r.width n else (n : Int)
  decide (v < r.min) || decide (r.max < v)

/-- Words of the set that the session may not commit, and fields outside the ranges of their tables. -/
def Draft.wordChecks (d : Draft) : List Failing :=
  d.words.flatMap (fun e =>
    bad (!d.now.mayCommit d.sess.val e.1 e.2) stNotOwner e.1
      ++ match rowAt e.1 with
        | some row => bad (row.ranges.any (fun r => r.fails (d.new.rd e.1))) stParamRange e.1
        | none => [])

/-- A calibration value outside its LIM (R689). -/
def Draft.limChecks (d : Draft) : List Failing :=
  if !(touches d.words 0x050100 0x050190 || touches d.words 0x050400 0x050600) then []
  else (List.range 7).flatMap (fun k => (List.range (calCount k)).flatMap (fun q =>
    match calFld k q with
    | some f =>
      let v := d.new.geti f
      bad (d.has f.addr && (decide (v < Config.calLow k q) || decide (Config.calHigh k q < v))) stParamRange f.addr
    | none => []))

/-! ## Pattern banks and the sweep (R103, R107, R111) -/

/-- The banks that the set leaves active or armed (R112, R113). -/
def State.liveBanks (s : State) : List Nat :=
  if s.get PAT_CTRL.SWAP_SRC != 0 && s.get PAT_CTRL.NEXT != s.bank then [s.bank, s.get PAT_CTRL.NEXT] else [s.bank]

/-- Header words right: MAGIC, VERSION and HCRC (R106, R107). -/
def State.headerOk (s : State) (p : Port) (b : Nat) : Bool :=
  let base := bankBase p b
  (s.rd base).toNat / 256 == 0x504101 && s.rd (base + 4) == crc32c ((s.rdWords (base + 0x40) 32).flatMap wordBytes)

/-- The bytes of samples, I then Q (R107, R110). -/
def State.sampleBytes (s : State) (p : Port) (b start n : Nat) : List Byte :=
  (List.range n).flatMap (fun j =>
    let i := start + j
    let w := (s.rd (bankBase p b + 0x1000 + 4 * (i / 2))).toNat / 2 ^ (16 * (i % 2))
    beBytes 2 (w % 65536))

/-- Slots of the first positions of a table. -/
def State.tableK (s : State) (p : Port) (b n : Nat) : List Nat := (List.range n).map (fun j => seK (s.slotEntry p b j))

/-- VALID exactly on the first positions, and no slot twice (R93, R108). -/
def State.tableOk (s : State) (p : Port) (b n : Nat) : Bool :=
  (List.range 16).all (fun j => seValid (s.slotEntry p b j) == decide (j < n))
    && decide (s.tableK p b n).Nodup

/-- Descriptors that a table refers to. -/
def State.tableWf (s : State) (p : Port) (b n : Nat) : List Nat :=
  (List.range 4).filter (fun w => (List.range n).any (fun j => seWf (s.slotEntry p b j) == w))

/-- Fields of a descriptor: type, duration, bandwidth and start (R109). -/
def State.descType (s : State) (p : Port) (b w : Nat) : Nat := (s.descWord p b w 0).toNat / 2 ^ 30
def State.descDur (s : State) (p : Port) (b w : Nat) : Nat := (s.descWord p b w 0).toNat % 2 ^ 14
def State.descBw (s : State) (p : Port) (b w : Nat) : Nat := (s.descWord p b w 1).toNat / 2 ^ 24
def State.descStart (s : State) (p : Port) (b w : Nat) : Nat := (s.descWord p b w 1).toNat % 2 ^ 17

/-- A referenced descriptor is of a used type with every field in its range (R109, R111). -/
def State.descOk (s : State) (p : Port) (b w : Nat) : Bool :=
  let dur := s.descDur p b w
  match s.descType p b w with
  | 1 => decide (10 ≤ dur) && decide (dur ≤ 2000) && s.descBw p b w == 0 && decide (s.descStart p b w + dur ≤ 129024)
  | 2 => decide (500 ≤ dur) && decide (dur ≤ 10000) && decide (20 ≤ s.descBw p b w) && decide (s.descBw p b w ≤ 160)
      && decide (s.descStart p b w + dur ≤ 129024)
  | _ => false

/-- The SCRC of a chirp is right (R107). -/
def State.scrcOk (s : State) (p : Port) (b w : Nat) : Bool :=
  s.descType p b w != 2 || s.descWord p b w 2 == crc32c (s.sampleBytes p b (s.descStart p b w) (s.descDur p b w))

/-- A failure of R111 as it is found: whether a bank of a port failed. -/
structure BankFail where
  fail : Failing
  port : Option Port
  deriving DecidableEq, Repr

/-- Used ports with the banks that are checked. -/
def State.checkedBanks (s : State) : List (Port × Nat) :=
  ([Port.a, Port.b].filter (fun p => s.get (PAT_RANGE.N_BIN p.idx) != 0)).flatMap (fun p => s.liveBanks.map (fun b => (p, b)))

/-- The failures of R111 in the order of its table. -/
def State.r111 (s : State) : List BankFail :=
  let n := s.get PAT_SWEEP.N_SLOT
  let tsw := s.get PAT_SWEEP.TSW
  let banks := s.checkedBanks
  let bank (ok : Port → Nat → Bool) (st off : Nat) : List BankFail :=
    (banks.filter (fun e => !ok e.1 e.2)).map (fun e => { fail := { status := st, off := some (bankBase e.1 e.2 + off) }, port := some e.1 })
  let gen (l : List Failing) : List BankFail := l.map (fun f => { fail := f, port := none })
  let durs := banks.map (fun e => s.durMax e.1 e.2 n)
  let reach := maxN (banks.map (fun e => s.get (PAT_RANGE.N_BIN e.1.idx) * s.binNs e.1))
  let swp := PAT_SWEEP.TSW.addr
  gen (bad (decide (tsw < 4000) || decide (280000 < tsw) || n == 0 || decide (16 < n)) stParamRange swp
      ++ [0, 1].flatMap (fun p => bad (decide (131072 < s.get (PAT_RANGE.N_BIN p))) stParamRange (PAT_RANGE.N_BIN p).addr))
    ++ bank s.headerOk stParamConflict 0
    ++ bank (fun p b => s.tableOk p b n) stParamConflict 0x40
    ++ bank (fun p b => (s.tableWf p b n).all (s.descOk p b)) stParamRange 0x80
    ++ bank (fun p b => (s.tableWf p b n).all (s.scrcOk p b)) stParamConflict 0x80
    ++ gen (bad (tsw % max 1 n != 0 || (!banks.isEmpty && (decide (tsw * 5 < reach + maxN durs + 2040) || decide (tsw * 5 < n * (maxN durs + 40)))))
      stParamConflict swp)
    ++ gen (bad (s.flag BRL_CTRL.WIDE && banks.any (fun e =>
        let ks := s.tableK e.1 e.2 n
        decide (8 < n) || ks.any (fun k => ks.contains (k + 1)))) stParamConflict BRL_CTRL.WIDE.addr)
    ++ gen (bad (s.get PAT_SHADOW.POS0 == s.get PAT_SHADOW.POS1 || decide (n ≤ s.get PAT_SHADOW.POS0) || decide (n ≤ s.get PAT_SHADOW.POS1))
      stParamRange PAT_SHADOW.POS0.addr)

/-! ## Light, phase chain and Brillouin (R51, R53, R123, R184, R189, R244, R247, R258, R260, R269) -/

/-- TARGET × duty of a port exceeds 50 mW: 10^(T/100) × Σ DUR > 50 × T_SW, with T in 0.1 dBm (R51). -/
def State.overPower (s : State) (p : Port) : Bool :=
  let n := s.get PAT_SWEEP.N_SLOT
  s.checkedBanks.any (fun e => e.1 == p &&
    let sum := sumN ((List.range n).map (s.durAt p e.2))
    let lim := 50 * s.get PAT_SWEEP.TSW * 5
    let t := s.target p
    if 0 ≤ t then decide (lim ^ 100 < 10 ^ t.toNat * sum ^ 100) else decide (lim ^ 100 * 10 ^ (-t).toNat < sum ^ 100))

/-- The chainage map of a port is out of order: its first wrong entry (R189). -/
def State.chainBad (s : State) (p : Nat) : Option Nat :=
  let valid (i : Nat) : Bool := s.flag (PHS_CHAIN_W0.VALID p i)
  let start (i : Nat) : Nat := s.get (PHS_CHAIN_W0.START p i)
  (List.range 64).find? (fun i => valid i && (if i = 0 then start 0 != 0 else (!valid (i - 1) || decide (start i ≤ start (i - 1)))))

/-- Checks of the light and the phase chain. -/
def Draft.phaseChecks (d : Draft) : List Failing :=
  let s := d.new
  let ch := s.geti LSD_LASER.CH
  bad (d.has LSD_LASER.CH.addr && ch == 22) stParamRange LSD_LASER.CH.addr
    ++ bad (d.has LSD_LASER.CH.addr && s.pairOn && s.flag PAIR_STATUS.LINK_UP && s.pair.pcfg.isSome && s.get PAIR_PARTNER.CH == s.get LSD_LASER.CH)
      stParamConflict LSD_LASER.CH.addr
    ++ [Port.a, Port.b].flatMap (fun p =>
      let n := s.get (PHS_NCH.N_CH p.idx)
      bad (s.overPower p) stParamConflict (LSD_PWR.TARGET p.idx).addr
        ++ bad (n != 0 && decide (s.get (PAT_RANGE.N_BIN p.idx) < s.get (PHS_FIRST.FIRST p.idx) + (n - 1) * s.get (PHS_GAUGE.S p.idx)
          + s.get (PHS_GAUGE.G p.idx) + 1)) stParamConflict (PHS_NCH.N_CH p.idx).addr
        ++ match s.chainBad p.idx with
          | some i => bad true stParamConflict (PHS_CHAIN_W0.START p.idx i).addr
          | none => [])

/-- An enabled anchor does not meet R269. -/
def State.anchorBad (s : State) (a : Nat) : Bool :=
  let n := s.get (BRL_ANCH.SRC a)
  let p := s.strPort n
  let f := s.outRate n
  let b0 := 2 * s.get (BRL_FIRST.BFIRST p)
  let b1 := b0 + 2 * s.get (BRL_NBB.N_BB p) * s.get (BRL_CFG.M p)
  let inside (c : Nat) : Bool :=
    let x := s.chPos2 p (s.get (STR_W1.CH_FIRST n) + c)
    decide (b0 ≤ x) && decide (x < b1)
  s.flag (BRL_ANCH.EN a) && !(s.strKind n == 0 && s.get (DEC_CFG.QTY n) == 1 && s.get (BRL_CFG.ROLE p) == 2
    && decide (f.1 ≤ 250 * f.2) && (s.get (STR_W2.N_CH n) == 0 || (inside 0 && inside (s.get (STR_W2.N_CH n) - 1)))
    && decide (s.get (BRL_ANCH.FC a) * s.get BRL_CTRL.AVG ≤ 25000))

/-- Checks of the Brillouin block. -/
def Draft.brlChecks (d : Draft) : List Failing :=
  let s := d.new
  [Port.a, Port.b].flatMap (fun p =>
      bad (decide (s.get (PAT_RANGE.N_BIN p.idx) < s.get (BRL_FIRST.BFIRST p.idx) + s.get (BRL_NBB.N_BB p.idx) * s.get (BRL_CFG.M p.idx))) stParamConflict (BRL_NBB.N_BB p.idx).addr
        ++ bad (s.get (BRL_CFG.ROLE p.idx) == 1 && s.flag (BRL_CFG.BASE_MODE p.idx) && !s.flag (BRL_COILCFG.EN p.idx))
          stParamConflict (BRL_CFG.ROLE p.idx).addr
        ++ bad (s.get (BRL_CFG.ROLE p.idx) == 2 && s.get (BRL_CFG.ROLE p.other.idx) != 1) stParamConflict (BRL_CFG.ROLE p.idx).addr)
    ++ bad (decide (2621440 < s.npt * (s.get (BRL_NBB.N_BB 0) + s.get (BRL_NBB.N_BB 1)))) stParamConflict (BRL_NBB.N_BB 0).addr
    ++ (List.range 4).flatMap (fun a => bad (s.anchorBad a) stParamConflict (BRL_ANCH.EN a).addr)

/-! ## Streams, filters and reed feeds (R204, R213, R228, R232, R235, R325, R375, R390, R399, R406, R473) -/

/-- Streams enabled in the configuration. -/
def State.enabled (s : State) : List Nat := (List.range 64).filter (fun n => s.flag (STR_W0.EN n))

/-- A coefficient beyond the window's used part is not 0: its offset (R235). -/
def State.coefBad (s : State) (n : Nat) : Option Nat :=
  let base := 0x078000 + 256 * n
  (s.regs.find? (fun e => decide (base + 4 * ((s.get (DEC_CFG.TAPS n) + 1) / 2) ≤ e.1) && decide (e.1 < base + 256))).map (·.1)

/-- One quotient of naturals exceeds another. -/
def fracLt (a b : Nat × Nat) : Bool := decide (a.1 * max 1 b.2 < b.1 * max 1 a.2)

/-- Checks of one stream. -/
def Draft.streamChecks (d : Draft) (n : Nat) : List Failing :=
  let s := d.new
  let dec := (DEC_CFG.QTY n).addr
  let mine := touches d.words (strBase n) (strBase n + 64) || d.has dec || d.has (CMP_CFG.M n).addr
    || touches d.words (0x078000 + 256 * n) (0x078000 + 256 * n + 256)
  if !s.flag (STR_W0.EN n) && !mine then []
  else
    bad (s.flag (DEC_CFG.HB2 n) && !s.flag (DEC_CFG.HB1 n)) stParamConflict dec
      ++ bad (s.flag (DEC_CFG.FMT n) && decide (s.get (DEC_CFG.QTY n) < 2)) stParamConflict dec
      ++ bad (s.flag (DEC_CFG.FB_CFG n) && decide (256 < s.decD n)) stParamRange dec
      ++ (match s.coefBad n with
        | some o => bad true stParamConflict o
        | none => [])
      ++ bad (s.flag (CMP_CFG.LOSSY n) && ((s.strKind n == 0 && s.flag (DEC_CFG.FMT n)) || s.strKind n == 1 || s.strKind n == 3))
        stParamConflict (CMP_CFG.M n).addr
      ++ bad (s.flag (STR_W0.EN n) && decide (s.sourceChans n < s.get (STR_W1.CH_FIRST n) + s.get (STR_W2.N_CH n)) && s.strKind n != 3)
        stParamConflict (STR_W1.CH_FIRST n).addr
      ++ bad (s.flag (STR_W0.EN n) && s.strKind n == 3 && s.enabled.any (fun m => m != n && s.strKind m == 3 && s.strOwner m == s.strOwner n))
        stParamConflict (strBase n)

/-- The first enabled stream of a session that is new or has grown, for the word a quota failure names. -/
def Draft.grown (d : Draft) (r : Nat) : Option Nat :=
  d.new.enabled.find? (fun n => d.new.strOwner n == some r
    && (!d.old.flag (STR_W0.EN n) || fracLt (d.old.bmax n) (d.new.bmax n)))

/-- Line rate of an Ethernet port in bytes a second. -/
def State.lineBytes (s : State) (x : Nat) : Nat := if s.flag (NET_W0.RATE x) then 1250000000 else 3125000000

/-- The first stream, of whatever session, that the set enables or whose B_max it raises (R473). -/
def Draft.raised (d : Draft) : Option Nat :=
  d.new.enabled.find? (fun n => !d.old.flag (STR_W0.EN n) || fracLt (d.old.bmax n) (d.new.bmax n))

/-- Quotas, line rates and the retain buffer. A session that is OVERDRAWN is told so, and not which quota of its own would be exceeded
(R473; log entry 188). -/
def Draft.rateChecks (d : Draft) : List Failing :=
  let s := d.new
  let owed := d.now.isOverdrawn d.sess.val
  (match d.raised with
      | some n => bad owed stOverdrawn (strBase n)
      | none => [])
    ++ ((List.range 8).filter (fun r => !(owed && r == d.sess.val))).flatMap (fun r =>
      match d.grown r with
      | none => []
      | some n => bad (!s.streamsFit r (s.runningOf r)) stQuota (strBase n))
    ++ [0, 1].flatMap (fun x =>
      let l := s.enabled.filter (fun n => s.get (STR_W0.DEST n) == x)
      let b := s.bmaxSum l
      bad (decide (95 * s.lineBytes x * b.2 < b.1 * 100)) stParamConflict (strBase (l.headD 0)))
    ++ (let b := fracSum (s.enabled.map (fun n => let v := s.bmax n false; (v.1 * s.get (STR_W0.RETAIN n), v.2)))
        bad (decide (s.get STR_RETSZ.SIZE * 2 ^ 20 * 1000 * b.2 < b.1)) stParamConflict STR_RETSZ.SIZE.addr)
    ++ bad s.demandRefused stParamConflict (DEC_CFG.QTY (s.enabled.headD 0)).addr

/-- A reed feed that its slot's owner may not take, or beyond its stream (R325). -/
def Draft.feedChecks (d : Draft) : List Failing :=
  let s := d.new
  (List.range 16).flatMap (fun o =>
    if s.slotState o = 0 || !touches d.words (slotBase o + 4) (slotBase o + 16) then []
    else
      let n := s.get (REEDS_W1.STREAM o)
      bad (s.strOwner n != s.slotOwner o) stNotOwner (slotBase o + 4)
        ++ bad (s.get (REEDS_W3.N_CH o) == 0 || decide (s.get (STR_W2.N_CH n) < s.get (REEDS_W2.CH_FIRST o) + s.get (REEDS_W3.N_CH o)))
          stParamConflict (slotBase o + 12))

/-! ## Triggers and captures (R279, R280, R288, R314, R316, R337) -/

/-- Conversions of a field input in 0.01 a second, from the entries that convert it (R641). -/
def State.ainRate (s : State) (ain : Nat) : Nat :=
  maxN ((List.range (s.get FLD_CTRL.N_REG)).map (fun e =>
    if s.get (FLDE_W0.CH e) = ain then
      ([250, 500, 1000, 1667, 2000, 5000, 6000, 10000, 40000, 100000, 250000, 500000, 1000000] : List Nat).getD (s.get (FLDE_W0.ODR e)) 0
    else 0))

/-- Channels of a unit's source and its sample rate as a quotient (R277). -/
def State.trgSource (s : State) (u : Nat) : Nat × (Nat × Nat) :=
  let i := s.get (TRGU_W0.SRC u)
  match s.get (TRGU_W0.SRC_KIND u) with
  | 0 => (s.get (STR_W2.N_CH i), s.outRate i)
  | 1 => (s.get (BRL_NBB.N_BB 0), (1, max 1 (s.get BRL_CTRL.AVG)))
  | 2 => (s.get (BRL_NBB.N_BB 1), (1, max 1 (s.get BRL_CTRL.AVG)))
  | 3 =>
    let src := s.get (REEDS_W1.STREAM i)
    (s.get (REEDS_W3.N_CH i), (s.get PAT_SWEEP.N_SLOT * 1000000000 * s.get (REEDS_W6.OUT_N i),
      max 1 (s.get PAT_SWEEP.TSW * 5 * s.tapD src (s.get (REEDS_W1.TAP i)) * s.get (REEDS_W6.BLOCK i))))
  | 4 => (1, (s.ainRate i, 100))
  | _ => (1, (0, 1))

/-- Checks of one trigger unit; `set` tells that the set holds a word of it. Whose source and capture unit it names is checked at a set of the
unit, unless that gives it up; its channels also while it is enabled (R280, R314, R316). -/
def State.trgChecks (s : State) (set : Bool) (u : Nat) : List Failing :=
  let b := trgBase u
  let ty := s.get (TRGU_W0.TYPE u)
  let t1 := s.get (TRGU_W4.T1 u)
  let kind := s.get (TRGU_W0.SRC_KIND u)
  let i := s.get (TRGU_W0.SRC u)
  let own := (s.qcp.trgOwner.getD u none).map (·.val)
  bad (decide (4 < ty)) stParamRange b
    ++ bad ((ty == 1 || ty == 3 || ty == 4) && t1 == 0) stParamRange (b + 16)
    ++ bad (ty == 4 && decide (4095 < t1)) stParamRange (b + 16)
    ++ bad (ty == 1 && decide (s.get (TRGU_W5.T2 u) < t1)) stParamConflict (b + 20)
    ++ bad (ty == 2 && (if kind == 0 && s.flag (DEC_CFG.FMT i) then
        (match f32Val (s.rd (b + 4)), f32Val (s.rd (b + 8)) with
          | some hi, some lo => decide (hi ≤ lo)
          | _, _ => false) else decide ((s.rd (b + 4)).toInt ≤ (s.rd (b + 8)).toInt))) stParamConflict (b + 8)
    ++ bad (kind == 3 && decide (16 ≤ i)) stParamRange b
    ++ (if !s.flag (TRGU_W0.EN u) && !(set && own.isSome) then []
      else
        bad (set && kind == 0 && s.strOwner i != own) stNotOwner b
          ++ bad (set && kind == 3 && decide (i < 16) && s.slotOwner i != own) stNotOwner b
          ++ bad (set && s.get (TRGU_W0.ACT u) % 2 == 1 && s.capOwner (s.get (TRGU_W0.CAP u)) != own) stNotOwner b
          ++ bad (decide (s.get (TRGU_W7.CH_LAST u) < s.get (TRGU_W6.CH_FIRST u))
            || decide ((s.trgSource u).1 ≤ s.get (TRGU_W7.CH_LAST u))) stParamConflict (b + 28))

/-- Checks of the trigger and capture blocks. -/
def Draft.trgChecks (d : Draft) : List Failing :=
  let s := d.new
  let on := (List.range 64).filter (fun u => s.flag (TRGU_W0.EN u))
  let load := fracSum (on.map (fun u => let x := s.trgSource u; (s.trgChans u * x.2.1, x.2.2)))
  (List.range 64).flatMap (fun u => s.trgChecks (touches d.words (trgBase u) (trgBase u + 32)) u)
    ++ bad (decide (524288000 * load.2 < load.1)) stParamConflict (trgBase (on.headD 0))
    ++ bad (decide (s.get TRG_COAL.ON ≤ s.get TRG_COAL.OFF)) stParamConflict TRG_COAL.ON.addr
    ++ (List.range 16).flatMap (fun c =>
      bad (touches d.words (capBase c) (capBase c + 12) && (s.qcp.capOwner.getD c none).isSome
        && s.strOwner (s.get (CAPU_W0.STREAM c)) != some d.sess.val) stNotOwner (capBase c))

/-! ## Memory, network, pair, field and emission (R198, R408, R411, R412, R499, R514, R561, R570, R580, R610, R639 to R643,
R663, R700) -/

/-- Checks of the memory pools. -/
def Draft.memChecks (d : Draft) : List Failing :=
  let s := d.new
  let hist := TRG_HISTSZ.SIZE.addr
  let ret := STR_RETSZ.SIZE.addr
  if !d.has hist && !d.has ret then []
  else
    let used := s.get STR_RETSZ.SIZE + s.get TRG_HISTSZ.SIZE + 1088
    let quotas := sumN (s.qcp.sess.map (fun x => x.quotas.capture.getD 0))
    bad (decide (s.dramCap < used)) stParamRange (if d.has hist then hist else ret)
      ++ bad (decide (s.dramCap < used + quotas)) stParamConflict (if d.has hist then hist else ret)

/-- Checks of launch windows and rings. -/
def Draft.windowChecks (d : Draft) : List Failing :=
  let s := d.new
  [0, 1].flatMap (fun x =>
      let per := s.get (LWIN_W0.PERIOD x)
      bad (d.has (LWIN_W0.PERIOD x).addr && 1000000 % max 1 per != 0) stParamRange (LWIN_W0.PERIOD x).addr
        ++ bad (d.has (LWIN_W1.OFFSET x).addr && decide (per * 1000 ≤ s.get (LWIN_W1.OFFSET x))) stParamRange (LWIN_W1.OFFSET x).addr
        ++ bad (d.has (LWIN_W2.WIDTH x).addr && (decide (s.get (LWIN_W2.WIDTH x) < 2000) || decide (per * 1000 < s.get (LWIN_W2.WIDTH x))))
          stParamRange (LWIN_W2.WIDTH x).addr)
    ++ (List.range 8).flatMap (fun r =>
      let b := 0x0C0100 + 32 * r
      bad ((d.has b || d.has (b + 8)) && (s.rd b).toNat % 2 ^ ((s.rd (b + 8)).toNat % 32) != 0) stParamRange b
        ++ bad (d.has (b + 12) && (s.rd (b + 12)).toNat % 8 != 0) stParamRange (b + 12)
        ++ bad (d.has (b + 20) && (s.rd (b + 20)).toNat % 64 != 0) stParamRange (b + 20))

/-- The PTP settings lie outside the table of R514. -/
def State.ptpBad (s : State) : Bool :=
  let dom := s.get PTP_CFG.DOMAIN
  if s.flag PTP_CFG.PROFILE then
    s.flag PTP_CFG.MASTER || s.get PTP_CFG.TRANSPORT != 2 || decide (dom < 24) || decide (43 < dom)
  else decide (127 < dom)

/-- Checks of the network, the ridge and the pair. -/
def Draft.netChecks (d : Draft) : List Failing :=
  let s := d.new
  let snap := 68 + 16 * s.enabled.length + 8 * (s.get (PHS_NCH.N_CH 0) + s.get (PHS_NCH.N_CH 1))
    + 8 * sumN ((List.range 4).map (fun a => if s.flag (BRL_ANCH.EN a) then s.get (STR_W2.N_CH (s.get (BRL_ANCH.SRC a))) else 0))
  let grid := d.has PAT_SWEEP.TSW.addr || touches d.words PAT_ALIGN_NS.NS.addr 0x040010
  let unlike := match s.pair.pcfg with
    | some c => c.1 != s.get PAT_SWEEP.TSW || c.2.1 != s.get PAT_SWEEP.N_SLOT || c.2.2 != s.alignMod
    | none => false
  [0, 1].flatMap (fun x => bad (s.flag (NET_W0.RATE x) && s.get (NET_W0.FEC x) == 2) stParamConflict (NET_W0.FEC x).addr
      ++ bad (s.flag (NET_W0.VLAN x) && (s.get (NET_W0.VID x) == 0 || s.get (NET_W0.VID x) == 4095)) stParamRange (NET_W0.VID x).addr)
    ++ bad s.ptpBad stParamConflict PTP_CFG.SRC.addr
    ++ bad (s.flag RDG_CFG.TMASTER && s.get PTP_CFG.SRC == 2) stParamConflict RDG_CFG.TMASTER.addr
    ++ bad (s.pairOn && !s.flag RDG_CFG.ALIGN) stParamConflict PAIR_CFG.EN.addr
    ++ bad (s.pairOn && s.flag PAIR_STATUS.LINK_UP && grid && unlike) stParamConflict PAT_SWEEP.TSW.addr
    ++ bad (s.pairOn && (s.role == 1 || s.role == 2) && (decide (2 ^ 22 < snap) || decide (s.get PAIR_TIMING.CYCLE * 3000 < snap)))
      stParamConflict (PHS_NCH.N_CH 0).addr

/-- Checks of a field entry, given its word 0 (R639, R641, R643). -/
def entryChecks (w : Word) (off : Nat) : List Failing :=
  let n := w.toNat
  let ref := n / 2 ^ 27 % 4
  let odr := n / 2 ^ 17 % 16
  bad (decide (12 < odr)) stParamRange off
    ++ bad (n / 2 ^ 29 == 7 && ref == 1) stParamConflict off
    ++ bad (n / 2 ^ 21 % 4 == 2 && decide (4 < odr)) stParamConflict off
    ++ bad ((n / 2 ^ 13 % 4 == 1 || n / 2 ^ 13 % 4 == 2) && ref != 1) stParamConflict off

/-- Checks of the field island and the monitor. -/
def Draft.fieldChecks (d : Draft) : List Failing :=
  let s := d.new
  ((List.range 16).map (fun e => 0x120040 + 16 * e) ++ (List.range 4).map (fun e => 0x120140 + 16 * e)).flatMap (fun o => entryChecks (s.rd o) o)
    ++ bad (decide (5 < s.get MON_CTRL.RTRIG) || decide (5 < s.get MON_CTRL.ITRIG)) stParamRange MON_CTRL.RTRIG.addr

/-- The set starts emission (R490, R742). -/
def Draft.starts (d : Draft) : Bool := d.has SYS_CTRL.RUN.addr && d.new.flag SYS_CTRL.RUN && !d.now.emits

/-- A set ends the refusal of R198: it commits the exchange, or EN as 0. -/
def releasesSwap (o t : State) (l : List (Nat × Word)) : Bool :=
  o.get PHS_PORTMAP.SWAP != t.get PHS_PORTMAP.SWAP || (staged l PHS_SIG_CTRL.EN.addr).any (fun w => PHS_SIG_CTRL.EN.ofWord w == 0)

/-- Checks of a set that starts emission (R198, R570). -/
def Draft.runChecks (d : Draft) : List Failing :=
  let off := SYS_CTRL.RUN.addr
  bad (d.starts && d.now.phs.swapHeld && !releasesSwap d.now d.new d.words) stPortSwap off
    ++ bad (d.starts && d.new.flag RDG_CFG.ALIGN && !d.now.flag RDG_STATUS.LOCKED) stBusy off

/-! ## The verdict (R440, R481, R482) -/

/-- Every failure of a set, R111 by its first. -/
def Draft.failures (d : Draft) : List Failing :=
  d.wordChecks ++ d.limChecks ++ (d.new.r111.head?.map (·.fail)).toList ++ d.phaseChecks ++ d.brlChecks
    ++ (List.range 64).flatMap d.streamChecks ++ d.rateChecks ++ d.feedChecks ++ d.trgChecks ++ d.memChecks ++ d.windowChecks
    ++ d.netChecks ++ d.fieldChecks ++ d.runChecks

/-- The failure that is reported: the lowest code, and of its words the first (R440, R482). -/
def worstFailing (l : List Failing) : Option Failing :=
  l.foldl (fun (best : Option Failing) f =>
    match best with
    | none => some f
    | some b =>
      if f.status < b.status || (f.status == b.status && decide (f.off.getD 0 < b.off.getD 0)) then some f else best) none

/-- A set of a session as it is checked now. -/
def State.draft (s : State) (r : Fin 8) (l : List (Nat × Word)) : Draft :=
  let old := s.foreseen
  { now := s, old := old, new := old.foresee r l, sess := r, words := l }

/-- Validation of a set, with the epoch it expects: the failure it meets, or none. -/
def State.validate (s : State) (r : Fin 8) (l : List (Nat × Word)) (epoch : Option (BitVec 32)) : Option Failing :=
  let stale : List Failing := match epoch with
    | some e => if e = s.assigned then [] else [{ status := stStaleEpoch, off := none }]
    | none => []
  worstFailing (stale ++ (s.draft r l).failures)

/-- What refuses the transition into an emitting state that is at hand: the port swap, the ridge, or the configuration in force, checked as
a COMMIT that holds no word would be (R198, R490, R570). -/
def State.runFailing (s : State) : Option Failing :=
  let off := SYS_CTRL.RUN.addr
  worstFailing (bad s.phs.swapHeld stPortSwap off ++ bad (s.flag RDG_CFG.ALIGN && !s.flag RDG_STATUS.LOCKED) stBusy off
    ++ ({ now := s, old := s, new := s, sess := Fin.ofNat 8 s.owner, words := [] : Draft }).failures)

/-- BANKERR of the ports whose bank fails first (R111). -/
def State.markBanks (s : State) (r : Fin 8) (l : List (Nat × Word)) : State :=
  match (s.draft r l).new.r111.head? with
  | some f => (match f.port with
    | some .a => s.put PAT_STATUS.BANKERR_A 1
    | some .b => s.put PAT_STATUS.BANKERR_B 1
    | none => s)
  | none => s

/-- The failure of R375 that a direct write may leave until the next transition. -/
def beyondSource (f : Failing) : Bool :=
  f.status == stParamConflict && f.off.any (fun o => decide (0x0C1000 ≤ o) && decide (o < 0x0C2000) && o % 64 == 4)

/-- A direct write of a value that a COMMIT of the word would refuse: a failure at the word itself, or one that did not
stand before, but for a stream left beyond its source, which R375 leaves to the next transition (R830). A word of a window
is checked where its bank or slot is. -/
def State.valueOk (s : State) (r : Fin 8) (off : Nat) (w : Word) : Bool :=
  if inPattern off || inReedData off then true
  else
    let l := [(off, w)]
    let d : Draft := { now := s, old := s, new := s.foresee r l, sess := r, words := l }
    let before := { d with new := s.foresee r [] : Draft }.failures
    d.failures.all (fun f => f.off != some off && (before.contains f || beyondSource f))

end Sys2Proof.Machine
end

