-- ==== Sys2Proof/Machine/Sessions.lean ====
section
/-! DEFINITION. Keys, opening and closing a session (R452 to R464), quotas (R467 to R474) and the list of sessions (R831). -/

namespace Sys2Proof.Machine

/-! ## Keys (R452 to R454, R762, R763) -/

/-- A key derived from K_ID by a name (R763). -/
def derivedKey (name : String) : List Byte := hmacSha256 Config.identityKey (asciiBytes name)

/-- K_r in force: the provisioned one, and for r = 0 the factory's while none is provisioned. -/
def State.keyOf (s : State) (r : Nat) : Option (List Byte) :=
  match s.keys.k.getD r none with
  | some k => some k
  | none => if r = 0 then some (derivedKey "QCP-K0") else none

/-- KEY_STATUS shows which keys are provisioned. -/
def State.updKeys (s : State) : State :=
  s.puts [(KEY_STATUS.K, sumN ((List.range 8).map (fun r => (s.keys.k.getD r none).isSome.toNat * 2 ^ r))),
    (KEY_STATUS.KCFG, s.keys.kcfg.isSome.toNat)]

/-- Provision or erase a key: 0 to 7 for K_r, 8 for K_CFG. -/
def State.setKey (s : State) (target : Nat) (k : Option (List Byte)) : State :=
  { s with keys := if target = 8 then { s.keys with kcfg := k } else { s.keys with k := setAt s.keys.k target k } }.updKeys

/-- The exclusive or of two strings of bytes. -/
def xorBytes (a b : List Byte) : List Byte := List.zipWith (· ^^^ ·) a b

/-- KEY_PROVISION (R453): the wrapped key is opened with the session key and the request's sequence. -/
def keyProvisionBody (q : ReqHdr) (target op : Word) (wrapped : List Byte) (s : State) : State :=
  let x := s.sess q.session.val
  s.checks q 0x0B04 [(decide (8 < target.toNat) || decide (1 < op.toNat) || wrapped.length != 32, stParamRange),
      (target == 0 && op == 1, stParamConflict), (s.owner != q.session.val || !x.auth, stNotOwner)] fun s =>
    let key := xorBytes wrapped (hmacSha256 x.ks (asciiBytes "QCP-WRAP" ++ wordBytes q.seq))
    (s.setKey target.toNat (if op = 1 then none else some key)).reply q 0x0B04 stOk

/-! ## Closing (R463, R464) -/

/-- Mailboxes whose request waits in a queue are free again (R427). -/
def State.freeMail (s : State) (l : List Queued) : State :=
  l.foldl (fun (t : State) h => match h.via with
    | .mailbox m => t.put (QCP_MB_CTRL.BUSY m.val) 0
    | .udp _ => t) s

/-- A session closes: its transaction, staging areas, queue and binding go, and with it the perturbation and the scan
permission it set (R775, R767); its long operations run on, and its event log stays. -/
def State.closeSession (s : State) (r : Nat) : State :=
  let s := s.freeMail (s.sess r).queue
  let s := s.modSess r (fun x => { x with
    isOpen := false, auth := false, ks := [], txn := none, image := [], reedImage := [], queue := [], cache := [], accepted := [], hi := 0 })
  let unbind (b : Option (Fin 8)) : Option (Fin 8) := if b.any (fun x => x.val == r) then none else b
  let s := { s with qcp := { s.qcp with bindPcie := unbind s.qcp.bindPcie, bindSpi := unbind s.qcp.bindSpi } }
  let s := if s.tap.permit.any (fun p => p.1 == r) then ({ s with tap := { s.tap with permit := none } }).puts [(KEY_JTAG.PERMIT, 0), (KEY_JTAG.LEFT, 0)] else s
  (s.ptbClosed r).qcpCount

/-- CLOSE: the reply leaves under the session's key. -/
def closeBody (q : ReqHdr) (s : State) : State := (s.reply q 0x0B01 stOk).closeSession q.session.val

/-- SESSION_IDLE_CLOSE: SYS_SESS.IDLE seconds without an accepted request (R463). -/
def sessionIdleCloseStep (r : Fin 8) (s : State) : State :=
  s.whenDo ((s.sess r.val).isOpen && s.flag SYS_SESS.IDLE) fun s =>
    (s.atCyc ((s.sess r.val).heard + s.get SYS_SESS.IDLE * sCyc)).closeSession r.val

/-! ## Opening (R455 to R462) -/

/-- A session may open without authentication: PLAIN, whose bit 0 reads 0 (R458). -/
def State.plainAllowed (s : State) (r : Nat) : Bool := r != 0 && s.get SYS_SESS.PLAIN / 2 ^ r % 2 == 1

/-- Bind a mailbox's interface to a session (R462). -/
def State.bindVia (s : State) (via : Via) (r : Fin 8) : State :=
  match via with
  | .udp _ => s
  | .mailbox m => { s with qcp := if m = 0 then { s.qcp with bindPcie := some r } else { s.qcp with bindSpi := some r } }

/-- A destination that an OPEN names for the session's events is asked for; an event it is not known for waits in the log (R461, R504; DESIGN
CHOICE: log entry 206). -/
def State.askRoute (s : State) : Via → State
  | .udp p => if p.mac = 0 then s.askHop p.eth.val (s.nextHopOf p.eth.val p.v6 p.addr) else s
  | .mailbox _ => s

/-- The session opens: OPENSEQ and H, its key with a fresh nonce, its route, its event sequence from 0 behind the events that its log
still holds (R446, R456, R457, R461, R463; log entry 191). -/
def State.openAccepted (s : State) (q : ReqHdr) (o : OpenArgs) (crc : Option (BitVec 32)) : State :=
  let r := q.session.val
  let s := if (s.sess r).isOpen then s.closeSession r else s
  let nd : List Byte := if o.authBit then beBytes 16 s.freeVal else List.replicate 16 0
  let ks : List Byte := if o.authBit then hmacSha256 ((s.keyOf r).getD []) (asciiBytes "QCP-SESS" ++ o.nonceH ++ nd) else []
  let route : Via := match o.dest with
    | some (e, v6, a, p) => .udp { eth := e, v6 := v6, addr := a, port := p }
    | none => q.via
  let s := s.modSess r (fun x => { x with
    isOpen := true, auth := o.authBit, ks := ks, route := route, hi := q.seq, heard := s.cyc, accepted := [q.seq]
    cache := [{ seq := q.seq, opcode := 0x0B00, crc := crc, reply := none }], eseq := 0 })
  let s := (if o.authBit then s.drew else s).put (KEY_OPENSEQ.OPENSEQ r) q.seq.toNat
  let s := ((if o.bind then s.bindVia q.via q.session else s).askRoute route).qcpCount
  let w := (s.owner == r).toNat * 2 ^ 31 + (s.isOverdrawn r).toNat * 2 ^ 30
  s.reply q 0x0B00 stOk [itData (beBytes 4 w ++ nd)]

/-- The checks of an OPEN that has passed R429 (R455, R458, R459, R462). -/
def openBody (q : ReqHdr) (o : OpenArgs) (crc : Option (BitVec 32)) (s : State) : State :=
  let r := q.session.val
  let udp : Bool := match q.via with
    | .udp _ => true
    | .mailbox _ => false
  let refused : Bool := if o.authBit then (s.keyOf r).isNone else !s.plainAllowed r
  s.checks q 0x0B00 [(o.authBit != o.macFlag, stParamConflict), ((s.sess r).isOpen && !(o.takeover && o.authBit), stBusy),
      (o.bind && udp, stParamConflict), (refused, stAuthFail)] fun s => s.openAccepted q o crc

/-- The sequence of an OPEN passes check 7 (R457). -/
def State.openFresh (s : State) (r : Nat) (seq : BitVec 32) : Bool := decide (s.get (KEY_OPENSEQ.OPENSEQ r) < seq.toNat)

/-- AUTH, TAKEOVER, BIND and N_H of the DATA of an OPEN (R455). -/
def openData (l : List Byte) : Bool × Bool × Bool × List Byte :=
  let w := beNat (l.take 4)
  (w / 2 ^ 31 % 2 == 1, w / 2 ^ 30 % 2 == 1, w / 2 ^ 29 % 2 == 1, l.drop 4)

/-- The DATA that a packet carries. -/
def dataOf (items : List Item) : List Byte := ((items.find? (fun i => i.tag == 0x0009)).map (·.val)).getD []

/-- The front of a queue is the OPEN that a row brings. -/
def Queued.isOpen (h : Queued) (q : ReqHdr) (o : OpenArgs) : Bool :=
  h.isRow q 0x0B00 [(0x0011, o.dest.map itUdpDest)] && openData (dataOf h.items) == (o.authBit, o.takeover, o.bind, o.nonceH)

/-- An OPEN meets check 7, but where its AUTH differs from its FLAGS.MAC, which R455 refuses before R457 acts. -/
def State.openPasses (s : State) (q : ReqHdr) (o : OpenArgs) : Bool := o.authBit != o.macFlag || s.openFresh q.session.val q.seq

/-- The entry of an OPEN that comes as its own row. -/
def openEntry (q : ReqHdr) (o : OpenArgs) : Queued :=
  let w := o.authBit.toNat * 2 ^ 31 + o.takeover.toNat * 2 ^ 30 + o.bind.toNat * 2 ^ 29
  rowEntry q 0x0B00 [(0x0009, some (itData (beBytes 4 w ++ o.nonceH))), (0x0011, o.dest.map itUdpDest)]

/-- OPEN: the front of the queue, or a request that arrives with the row and passes checks 7 and 10. One that has waited meets check 7
again, since another may have opened the session (R457). -/
def openSessionStep (q : ReqHdr) (o : OpenArgs) (s : State) : State :=
  let r := q.session.val
  let x := s.sess r
  if !s.power.qcpReady then s
  else
    match x.queue with
    | h :: t =>
      if h.isOpen q o then
        let u := (s.modSess r (fun y => { y with queue := t })).qcpCount
        if !s.openPasses q o then u.notFresh q 0x0B00 h.crc else u.runRequest q 0x0B00 (openBody q o h.crc)
      else if x.queue.any (fun e => e.seq = q.seq) then s
      else if !s.openPasses q o then s.notFresh q 0x0B00 none
      else if 16 ≤ x.queue.length then (s.count (QCP_ERRCNT.COUNT 9)).reply q 0x0B00 stBusy
      else (s.modSess r (fun y => { y with queue := y.queue ++ [openEntry q o] })).qcpCount
    | [] => if !s.openPasses q o then s.notFresh q 0x0B00 none else s.runRequest q 0x0B00 (openBody q o none)

/-! ## Quotas (R467 to R474) -/

/-- Streams of a session that run, the newest started first. -/
def State.newestFirst (s : State) (r : Nat) : List Nat :=
  (s.runningOf r).mergeSort (fun a b => decide ((s.str b).order ≤ (s.str a).order))

/-- The streams that stay when the newest are left out until both stream quotas hold (R474). -/
def State.keepStreams (s : State) (r : Nat) : List Nat → List Nat
  | [] => []
  | n :: t => if s.streamsFit r (n :: t) then n :: t else s.keepStreams r t

/-- Choose the streams of a session that are suspended at their next batten boundary (R474). -/
def State.chooseSuspend (s : State) (r : Nat) : State :=
  let l := s.newestFirst r
  let keep := s.keepStreams r l
  (l.filter (fun n => !keep.contains n)).foldl (fun (t : State) n => t.modStr n (fun x => { x with chosen := true })) s

/-- The quotas that four words carry: a capture quota of all ones follows the pool (R467, R469). -/
def quotasOf (l : List Word) : Quotas :=
  { streams := (l.getD 0 0).toNat, bandwidth := (l.getD 1 0).toNat
    capture := if l.getD 2 0 = 0xFFFFFFFF then none else some (l.getD 2 0).toNat, reed := (l.getD 3 0).toNat }

/-- The words of quotas. -/
def Quotas.words (x : Quotas) : List Word :=
  [BitVec.ofNat 32 x.streams, BitVec.ofNat 32 x.bandwidth, (x.capture.map (BitVec.ofNat 32)).getD 0xFFFFFFFF, BitVec.ofNat 32 x.reed]

/-- Every quota lies in its range; only session 0's capture quota follows the pool. -/
def quotasInRange (r : Nat) (x : Quotas) : Bool :=
  decide (x.streams ≤ 64) && decide (x.bandwidth ≤ 100000) && decide (x.reed ≤ 16)
    && (match x.capture with
      | some c => decide (c ≤ 32768)
      | none => r == 0)

/-- Quotas whose capture parts sum beyond the pool (R468, R471). -/
def State.quotaConflict (s : State) (r : Nat) (x : Quotas) : Bool :=
  let t := s.handedOver.modSess r (fun y => { y with quotas := x })
  decide (t.get DMC_POOL.POOL < sumN ((List.range 8).map t.capQuota))

/-- Quotas take effect: OVERDRAWN as the uses with every set handed over stand, and suspensions (R471, R472, R474). -/
def State.setQuotas (s : State) (r : Nat) (x : Quotas) : State :=
  ((s.modSess r (fun y => { y with quotas := x })).updOverdrawn).chooseSuspend r

/-- QUOTA_SET. -/
def quotaSetBody (q : ReqHdr) (index : Nat) (l : List Word) (s : State) : State :=
  let x := quotasOf l
  s.checks q 0x0B02 [(decide (7 < index) || l.length != 4 || !quotasInRange index x, stParamRange),
      (s.quotaConflict index x, stParamConflict), (s.owner != q.session.val, stNotOwner)] fun s =>
    (s.setQuotas index x).reply q 0x0B02 stOk

/-- The four uses of a session in the order of R467; bandwidth in Mb/s and captures in MiB, the rounding open. -/
def State.uses (s : State) (r : Nat) : List Word :=
  let l := s.runningOf r
  let b := s.bmaxSum l
  [BitVec.ofNat 32 l.length, BitVec.ofInt 32 (divRound ((b.1 * 8 : Nat) : Int) (1000000 * b.2)),
    BitVec.ofInt 32 (divRound (s.capUse r : Int) (2 ^ 20)), BitVec.ofNat 32 (s.reedUse r)]

/-- QUOTA_GET (R470). -/
def quotaGetBody (q : ReqHdr) (index : Nat) (s : State) : State :=
  s.checks q 0x0B03 [(decide (7 < index), stParamRange)] fun s =>
    s.reply q 0x0B03 stOk [itWords ((s.sess index).quotas.words ++ s.uses index)]

/-! ## SESSION_LIST (R831) -/

/-- The word of a session. -/
def State.sessionWord (s : State) (r : Nat) : Word :=
  let x := s.sess r
  let own := (s.owner == r).toNat * 2 ^ 29 + (s.isOverdrawn r).toNat * 2 ^ 28
  let bound (b : Option (Fin 8)) : Nat := (b.any (fun y => y.val == r)).toNat
  BitVec.ofNat 32 (if !x.isOpen then own
    else 2 ^ 31 + x.auth.toNat * 2 ^ 30 + own + bound s.qcp.bindPcie * 2 ^ 27 + bound s.qcp.bindSpi * 2 ^ 26
      + x.txn.isSome.toNat * 2 ^ 25 + x.inProgress.length * 2 ^ 8 + x.queue.length)

/-- SESSION_LIST. -/
def sessionListBody (q : ReqHdr) (s : State) : State := s.reply q 0x0B05 stOk [itWords ((List.range 8).map s.sessionWord)]

/-! ## Meanings -/

/-- OPEN (R455). -/
def execOpenSession (q : ReqHdr) (o : OpenArgs) (s : State) : Host.Outcome State Fault Refusal := .next (openSessionStep q o s)

/-- CLOSE (R463). -/
def execClose (q : ReqHdr) (s : State) : Host.Outcome State Fault Refusal := .next (s.request q 0x0B01 (closeBody q))

/-- QUOTA_SET (R472). -/
def execQuotaSet (q : ReqHdr) (index : Nat) (quotas : List Word) (s : State) : Host.Outcome State Fault Refusal :=
  .next (s.request q 0x0B02 (quotaSetBody q index quotas) (operands [itIndex index, itWords quotas]))

/-- QUOTA_GET (R470). -/
def execQuotaGet (q : ReqHdr) (index : Nat) (s : State) : Host.Outcome State Fault Refusal :=
  .next (s.request q 0x0B03 (quotaGetBody q index) (operands [itIndex index]))

/-- KEY_PROVISION (R453). -/
def execKeyProvision (q : ReqHdr) (target op : Word) (wrapped : List Byte) (s : State) : Host.Outcome State Fault Refusal :=
  .next (s.request q 0x0B04 (keyProvisionBody q target op wrapped) (operands [itData (wordBytes target ++ wordBytes op ++ wrapped)]))

/-- SESSION_LIST (R831). -/
def execSessionList (q : ReqHdr) (s : State) : Host.Outcome State Fault Refusal := .next (s.request q 0x0B05 (sessionListBody q))

/-- SESSION_IDLE_CLOSE (R463). -/
def execSessionIdleClose (session : Fin 8) (s : State) : Host.Outcome State Fault Refusal :=
  .next (sessionIdleCloseStep session s)

end Sys2Proof.Machine
end

