-- ==== Sys2Proof/Machine/Effects.lean ====
section
/-! DEFINITION. What a change of settings does where it takes effect, at an epoch boundary or by a direct write (R31, R112,
R121, R137, R157, R185, R191, R223, R252, R281, R350, R376, R379, R499, R573, R652, R682, R689). -/

namespace Sys2Proof.Machine

/-! ## Differences -/

/-- A field differs between two states. -/
def moved (o t : State) (f : Fld) : Bool := o.get f != t.get f

/-- One of some fields differs. -/
def movedAny (o t : State) (l : List Fld) : Bool := l.any (moved o t)

/-- A word of a range differs. -/
def movedIn (o t : State) (lo hi : Nat) : Bool := (List.range ((hi - lo) / 4)).any (fun i => o.rd (lo + 4 * i) != t.rd (lo + 4 * i))

/-- One of the words of a set differs in a range. -/
def movedOf (o t : State) (l : List (Nat × Word)) (lo hi : Nat) : Bool :=
  l.any (fun e => decide (lo ≤ e.1) && decide (e.1 < hi) && o.rd e.1 != t.rd e.1)

/-! ## Light (R57, R59, R70, R81, R573) -/

/-- A committed change of channel is a deliberate loss of lock: nothing is launched until the next lock (R59, R252). -/
def State.retune (s : State) : State :=
  (((s.puts [(LSD_LASER_STATUS.LOCK, 0), (LSD_LASER_STATUS.TUNING, 1)]).startLock).brlAbandon .a).brlAbandon .b

/-- Changes of the light. A FIBRE_END that is written while its port learns does not end the learning (DESIGN CHOICE: log entry 196). -/
def State.lightChanges (t o : State) : State :=
  let t := if moved o t LSD_ILK.ENABLE then t.settleClamp else t
  let t := if moved o t LSD_APR_CTRL.EN then t.aprEnChanged else t
  let t := if movedAny o t ([0, 1].flatMap (fun p => [LSD_APR_END.FIBRE_END p, PAT_RANGE.N_BIN p])) then t.learnPorts else t
  let t := if moved o t LSD_LASER.CH then t.retune else t
  let t := if moved o t RDG_FLASH.OFL_CLOSE && t.power.configured then t.driveFlash (t.flag RDG_FLASH.OFL_CLOSE) else t
  if moved o t LSD_GSCALE.GSCALE || movedAny o t ((List.range 4).map LSD_SINK_SET.SET) then t.sinkClips else t

/-! ## Grid, probes and phase chain (R121, R157, R160, R168, R191, R252, R682) -/

/-- A new grid from an instant on (R121). -/
def State.newGrid (s : State) (at_ : Ts) : State :=
  let t := if s.grid.running then s.seriesReset.startGrid at_ else s
  let t := { t with grid := { t.grid with absA := true, absB := true } }
  ((t.unsettle2.reinitAll).brlAbandon .a).brlAbandon .b

/-- Changes of the grid: another period or alignment, or another number of slots on the same grid times. -/
def State.gridChanges (t o : State) (at_ : Ts) : State :=
  if movedAny o t [PAT_SWEEP.TSW, PAT_ALIGN_NS.NS, PAT_ALIGN_SEC_LO.SEC_LO, PAT_ALIGN_SEC_HI.SEC_HI] then t.newGrid at_
  else if moved o t PAT_SWEEP.N_SLOT then
    let u := if t.grid.running then ({ t with grid := { t.grid with nslot := t.get PAT_SWEEP.N_SLOT } }).seriesReset else t
    (u.probeChanged .a).probeChanged .b
  else t

/-- The slot table and descriptors of a port's active bank, or its samples, differ. -/
def bankMoved (o t : State) (l : List (Nat × Word)) (p : Port) : Bool :=
  let b := bankBase p o.bank
  movedOf o t l b (b + 0x40000)

/-- Changes of one port's probe and phase chain, by the table of R191. -/
def State.portChanges (t o : State) (l : List (Nat × Word)) (p : Port) : State :=
  let win : Fld := if p = Port.a then RX_MF.WIN_A else RX_MF.WIN_B
  let t := if movedAny o t [PAT_RANGE.N_BIN p.idx, PAT_RANGE.EXT p.idx, win] || bankMoved o t l p then t.probeChanged p else t
  let t := if movedAny o t [PHS_GAUGE.G p.idx, PHS_GAUGE.S p.idx, PHS_FIRST.FIRST p.idx, PHS_NCH.N_CH p.idx] then
    (t.unsettleDas p).reinit p .all else t
  let t := if moved o t PHS_CTRL.POLMODE then (t.unsettleDas p).reinit p .psi else t
  let t := if moved o t (lncFld p) then t.unsettleDas p else t
  if movedAny o t [PAT_SWEEP.N_SLOT, PAT_SWEEP.TSW, PAT_RANGE.N_BIN p.idx, PAT_RANGE.EXT p.idx] || bankMoved o t l p then t.calPortMoved p else t

/-- Changes of Brillouin settings, by the table of R252, and of anchors (R270). -/
def State.brlChanges (t o : State) : State :=
  let both := movedAny o t [BRL_FB.FB, BRL_CTRL.WIDE, BRL_CTRL.NPT, BRL_CTRL.AVG]
  let port (t : State) (p : Port) : State :=
    if both || movedAny o t [brlEnFld p, BRL_CFG.ROLE p.idx, BRL_CFG.BASE_MODE p.idx, BRL_CFG.M p.idx, BRL_FIRST.BFIRST p.idx, BRL_NBB.N_BB p.idx]
    then t.brlAbandon p else t
  let t := (port (port t .a) .b).updUsed
  let t := [Port.a, Port.b].foldl (fun (u : State) p => if movedAny o u [BRL_RDIDX.IDX p.idx, BRL_NBB.N_BB p.idx] then u.updRd p else u) t
  (List.range 4).foldl (fun (u : State) a =>
    if movedAny o u [BRL_ANCH.EN a, BRL_ANCH.SRC a] || (u.flag (BRL_ANCH.EN a) && moved o u (STR_W2.N_CH (u.get (BRL_ANCH.SRC a))))
    then u.anchorStart a else u) t

/-- A path's gain code or the enable of its control changes (R137, R138, R144, R145). -/
def State.gainChanges (t o : State) (at_ : Ts) : State :=
  [(Port.a, false), (Port.a, true), (Port.b, false), (Port.b, true)].foldl (fun (u : State) (e : Port × Bool) =>
    if movedAny o u [codeFld e.1 e.2, agcFld e.1 e.2] then u.gainCommit e.1 e.2 at_ else u) t

/-- K_φ of a port as PHS_x_KPHI shows it, the rounding open (R185). -/
def State.kphiWord (s : State) (p : Port) : Nat := (divRound (s.kphiNum p) (10 ^ 44)).toNat

/-- PHS_x_KPHI follows the settings. -/
def State.updKphi (s : State) : State := s.puts [(PHS_KPHI.KPHI 0, s.kphiWord .a), (PHS_KPHI.KPHI 1, s.kphiWord .b)]

/-! ## Pattern banks (R112, R113) -/

/-- NEXT and the source of the swap as committed: a swap at the instant of the commit, an armed one, or none. -/
def State.bankChanges (s : State) (at_ : Ts) : State :=
  if s.get PAT_CTRL.NEXT = s.bank then ({ s with pat := { s.pat with selected := false } }).put PAT_STATUS.ARMED 0
  else if s.get PAT_CTRL.SWAP_SRC = 0 then
    let p (t : State) (x : Port) : State := t.calPortMoved x
    p (p (s.swapBanks at_) .a) .b
  else s.put PAT_STATUS.ARMED 1

/-- A change of the swap's source drops a sync already taken (R113). -/
def State.swapSource (t o : State) : State :=
  if moved o t PAT_CTRL.SWAP_SRC then { t with pat := { t.pat with selected := false } } else t

/-! ## Streams, reed feeds, triggers and history (R223, R231, R281, R350, R376, R379) -/

/-- The settings of a stream that close its battens differ (R379). -/
def streamMoved (o t : State) (n : Nat) : Bool :=
  movedIn o t (strBase n) (strBase n + 40) || o.rd (DEC_CFG.QTY n).addr != t.rd (DEC_CFG.QTY n).addr
    || o.rd (CMP_CFG.M n).addr != t.rd (CMP_CFG.M n).addr

/-- The filters of a stream, or the channels it carries, differ (R223). -/
def filterMoved (o t : State) (l : List (Nat × Word)) (n : Nat) : Bool :=
  o.rd (DEC_CFG.QTY n).addr != t.rd (DEC_CFG.QTY n).addr || movedOf o t l (0x078000 + 256 * n) (0x078000 + 256 * n + 256)
    || movedAny o t [STR_W1.CH_FIRST n, STR_W2.N_CH n, STR_W0.KIND n, STR_W0.PORT n, STR_W0.EN n]

/-- A stream of result sets whose averaging time differs: its indices follow another A (R377). -/
def avgMoved (o t : State) (n : Nat) : Bool := o.strKind n == 1 && moved o t BRL_CTRL.AVG

/-- With the settings before a change: streams that it stops, battens that it closes short, and outputs missing until now, which are
accounted for first (R379, R380, R382). -/
def State.streamCloses (s t : State) : State :=
  (List.range 64).foldl (fun (u : State) n =>
    if s.flag (STR_W0.EN n) && !t.flag (STR_W0.EN n) then u.endStream n
    else if streamMoved s t n then u.settle n
    else if avgMoved s t n then u.account n else u) s

/-- The indices of a running stream that carries another kind or port begin anew, and those of result sets under another A at its next
whole multiple (R377). -/
def State.reseat (s o : State) (n : Nat) : State :=
  if s.strState n = 0 then s
  else if movedAny o s [STR_W0.KIND n, STR_W0.PORT n] then
    s.modStr n (fun x => { x with next := s.firstSet n, series := s.strSeries n, seed := none, missed := [] })
  else if avgMoved o s n then s.modStr n (fun x => { x with seed := some (s.strSeries n, s.now / s.avgSpan + 1) })
  else s

/-- With the settings after a change: streams that start, indices that begin anew, and filters that restart. -/
def State.streamStarts (t o : State) (l : List (Nat × Word)) : State :=
  (List.range 64).foldl (fun (u : State) n =>
    let u := if u.flag (STR_W0.EN n) && !o.flag (STR_W0.EN n) then (u.startStream n).awaitRestart n else u.reseat o n
    if u.flag (STR_W0.EN n) && u.strKind n = 0 && filterMoved o t l n then u.restartFilter n else u) t

/-- A changed feed of a RUNNING slot applies as a START (R350). -/
def State.feedChanges (t o : State) (at_ : Ts) : State :=
  (List.range 16).foldl (fun (u : State) k =>
    if u.slotState k = 2 && movedIn o t (slotBase k + 4) (slotBase k + 16) then u.modRslot k (fun y => { y with startAt := some at_ }) else u) t

/-- Changed trigger units return to their initial state (R281). -/
def State.trgChanges (t o : State) : State := t.resetUnits (fun u => movedIn o t (trgBase u) (trgBase u + 32))

/-! ## Network, pair, field and calibration (R499, R591, R607, R652, R689) -/

/-- A port's link comes down (R499, R524). -/
def State.dropLink (s : State) (x : Nat) : State :=
  if s.flag (NET_W1.LINK x) then (s.puts [(NET_W1.LINK x, 0), (NET_W1.FECLOCK x, 0)]).count (NET_W1.LINKDOWNS x) else s

/-- The internal latencies of the RATE and FEC in force (R506). -/
def State.setLatency (s : State) (x : Nat) : State :=
  let l (tx : Bool) : Nat := (Config.intLatency x tx (s.flag (NET_W0.RATE x)) (s.get (NET_W0.FEC x))).toNat
  s.puts [(NET_W18.INT_RX x, l false), (NET_W19.INT_TX x, l true)]

/-- A change of RATE or FEC drops the link (R499) and brings other internal latencies (R506); a port that is disabled has no link. -/
def State.netChanges (t o : State) : State :=
  [0, 1].foldl (fun (u : State) x =>
    if movedAny o u [NET_W0.RATE x, NET_W0.FEC x] then (u.dropLink x).setLatency x
    else if u.flag (NET_W0.EN x) then u else u.dropLink x) t

/-- Another source for the crystal (R530), and changes of the ridge: an identifier ends DUPID (R558), mastership starts anew (R561),
a bus that is disabled has no lane UP, and H is held against LATMAX (R568). -/
def State.ridgeChanges (t o : State) : State :=
  let t := if moved o t OCX_CTRL.SRC then t.steerMoved else t
  let t := if movedAny o t [RDG_CFG.NODE_ID, RDG_CFG.TMASTER] then { t with ridge := { t.ridge with yielded := false } } else t
  let t := if moved o t RDG_CFG.NODE_ID then t.put RDG_STATUS.DUPID 0 else t
  let t := if moved o t RDG_CFG.EN && !t.ridgeOn then (t.setLane false false).setLane true false else t
  if moved o t RDG_HORIZON.H then t.updHorizon else t

/-- A device that leaves its pair has no role, and nothing of the pair awaits it (R579). -/
def State.pairChanges (t o : State) : State :=
  if moved o t PAIR_CFG.EN && !t.pairOn then
    ((t.modPair (fun x => { x with
      takeAt := none, stopAt := none, stopped := false, making := false, draining := false, finalDue := false, joinDue := false })).dropSwitch).puts
      [(PAIR_STATUS.ROLE, 0), (PAIR_STATUS.LINK_UP, 0)]
  else t

/-- The referee is enabled or not (R591). -/
def State.refChanges (t o : State) : State :=
  if moved o t PAIR_RCFG.EN then
    (t.modPair (fun x => { x with ref := {} })).put PAIR_RSTAT.STATE (if t.flag PAIR_RCFG.EN then 1 else 0)
  else t

/-- Changed words of the field island are sent to it, and those of the monitor apply: a register that a changed entry names is not
ready (R652, R656, R658). -/
def State.convChanges (t o : State) : State :=
  let t := fieldWords.foldl (fun (u : State) off => if u.isl.up && o.rd off != u.rd off then u.sendCfgWord off else u) t
  let t := if moved o t MON_CTRL.REF then t.monRefMove else t
  let t := (List.range 16).foldl (fun (u : State) e =>
    if movedAny o u [MONE.INPUT e, MONE.AVG e] then
      u.puts [(MONRES_W0.READY (o.get (MONE.INPUT e)), 0), (MONRES_W0.READY (u.get (MONE.INPUT e)), 0)] else u) t
  let t := (List.range 4).foldl (fun (u : State) j =>
    if movedAny o u [MONI.INPUT j, MONI.AVG j] then u.put (MONRES_W0.READY (40 + j)) 0 else u) t
  if movedAny o t [MON_CTRL.RSTART, MON_CTRL.N_REG, MON_CTRL.N_INJ, MON_CTRL.ITRIG_EN, MON_CTRL.RTRIG, MON_CTRL.ITRIG, MON_TIMER.PERIOD]
      || movedAny o t ((List.range 16).flatMap (fun e => [MONE.INPUT e, MONE.AVG e]) ++ (List.range 4).flatMap (fun e => [MONI.INPUT e, MONI.AVG e]))
  then t.monChange else t

/-- An owner's change of a trim, a gain-correction word or a compensation table is user calibration (R688 to R690). -/
def State.calChanges (t o : State) (l : List (Nat × Word)) : State :=
  if l.any (fun e => calWords.contains e.1 && o.rd e.1 != t.rd e.1) then
    (t.modCal (fun x => { x with ownerDirty := true })).put CAL_STATUS.USER 1
  else t

/-! ## All of them -/

/-- What a change of settings does, from the state before it, with the words written and the instant it takes effect. -/
def State.effects (t o : State) (l : List (Nat × Word)) (at_ : Ts) : State :=
  let t := (t.lightChanges o).gridChanges o at_
  let t := ((t.portChanges o l .a).portChanges o l .b).brlChanges o
  let t := ((t.gainChanges o at_).swapSource o).updKphi
  let t := ((t.streamStarts o l).feedChanges o at_).trgChanges o
  let t := (((((t.netChanges o).ridgeChanges o).pairChanges o).refChanges o).convChanges o).calChanges o l
  t.updPool.updHistory.updOverdrawn.evalFallback

end Sys2Proof.Machine
end

