-- ==== Sys2Proof/Machine/Commit.lean ====
section
/-! DEFINITION. Transactions (R479 to R484), the epoch boundary (R29, R485, R743) and its effects, the entry into emission that it checks
(R490), the start of a sweep (R15), and what an ABORT of a staged set undoes (R444). -/

namespace Sys2Proof.Machine

/-! ## BEGIN, SET, DISCARD (R479, R480) -/

/-- BEGIN. -/
def beginBody (q : ReqHdr) (s : State) : State :=
  if (s.sess q.session.val).txn.isSome then s.reply q 0x0200 stBusy
  else (s.modSess q.session.val (fun x => { x with txn := some [] })).reply q 0x0200 stOk

/-- A word put into a staged set; a later one of the same offset replaces it. -/
def stage (l : List (Nat × Word)) (off : Nat) (w : Word) : List (Nat × Word) :=
  if l.any (fun e => e.1 == off) then l.map (fun e => if e.1 = off then (off, w) else e) else l ++ [(off, w)]

/-- Words at consecutive offsets. -/
def spread (off : Nat) (l : List Word) : List (Nat × Word) := l.zipIdx.map (fun e => (off + 4 * e.2, e.1))

/-- SET. -/
def setBody (q : ReqHdr) (addr : Nat) (data : List Word) (s : State) : State :=
  let r := q.session.val
  match (s.sess r).txn with
  | none => s.reply q 0x0201 stParamConflict
  | some l =>
    let new := (spread addr data).foldl (fun (a : List (Nat × Word)) e => stage a e.1 e.2) l
    s.checks q 0x0201 [((spread addr data).any (fun e => !stageable e.1) || decide (65536 < new.length), stParamRange),
        ((spread addr data).any (fun e => !s.mayCommit r e.1 e.2), stNotOwner)] fun s =>
      (s.modSess r (fun x => { x with txn := some new })).reply q 0x0201 stOk

/-- DISCARD. -/
def discardBody (q : ReqHdr) (s : State) : State :=
  if (s.sess q.session.val).txn.isNone then s.reply q 0x0203 stParamConflict
  else (s.modSess q.session.val (fun x => { x with txn := none })).reply q 0x0203 stOk

/-! ## COMMIT (R481 to R483, R490, R713) -/

/-- Append a set to those validated (R483). -/
def State.stageSet (s : State) (x : StagedSet) : State := { s with qcp := { s.qcp with staged := s.qcp.staged ++ [x] } }

/-- Validation of a set of words: refused in its completion event, or staged (R482). An image's words of reed windows are not
checked (R355, R496). -/
def State.validateSet (s : State) (q : ReqHdr) (op : Nat) (l : List (Nat × Word)) (epoch : Option (BitVec 32)) (image : Bool := false) : State :=
  match s.validate q.session (if image then l.filter (fun e => !inProgram e.1 && !inReedData e.1) else l) epoch with
  | some f => (s.markBanks q.session l).complete q.session.val q.seq f.status
      (match f.off with
        | some o => [itAddr o]
        | none => [])
  | none => s.stageSet { session := q.session, seq := q.seq, opcode := op, words := sortWords l }

/-- COMMIT. -/
def commitBody (q : ReqHdr) (epoch : Option (BitVec 32)) (s : State) : State :=
  let l := ((s.sess q.session.val).txn).getD []
  s.checks q 0x0202 [(s.longsFull q, stBusy), ((s.sess q.session.val).txn.isNone, stParamConflict), (s.flag DMC_STATUS.TFAIL, stHwFault)] fun s =>
    s.startLong q 0x0202 0 fun s => (s.modSess q.session.val (fun x => { x with txn := none })).validateSet q 0x0202 l epoch

/-- Take a set back that has not been handed over (R444, R483). -/
def State.cancelSet (s : State) (r : Nat) (seq : BitVec 32) : State :=
  let mine (x : StagedSet) : Bool := x.session.val == r && x.seq == seq && x.handed.isNone
  if s.qcp.staged.any mine then
    ({ s with qcp := { s.qcp with staged := s.qcp.staged.filter (fun x => !mine x) } }).complete r seq stCancelled
  else s

/-- STAGED_SET_HANDOVER: the oldest set not yet handed over gets the next epoch number, and what it holds counts against the quotas; its
commit point (R444, R471, R483, R486). -/
def stagedSetHandoverStep (s : State) : State :=
  match s.qcp.staged.findIdx? (fun x => x.handed.isNone) with
  | none => s
  | some i =>
    let t := { s with qcp := { s.qcp with staged := updAt s.qcp.staged i (fun x => { x with handed := some s.now }) } }
    let t := (t.issue t.assigned).updOverdrawn
    match s.qcp.staged[i]? with
    | some x => t.commitPoint x.session.val x.seq
    | none => t

/-! ## What a slot holds (R497, R833) -/

/-- A word that the store holds: one with RW or RWS fields, but for the blocks, windows and calibration words of R833. -/
def savedWord (off : Nat) : Bool :=
  let blk := off / 0x10000
  if inPattern off then true
  else if inProgram off || inReedData off || inMailbox off || blk == 0x01 || blk == 0x17 || blk == 0x18 then false
  else if decide (0x0A0100 ≤ off) && decide (off < 0x0A0300) then false
  else if decide (0x0C0100 ≤ off) && decide (off < 0x0C0200) && off % 32 == 20 then false
  else !calWords.contains off && (match rowAt off with
    | some row => row.rw != 0
    | none => false)

/-- The words that loading an image writes: its own, RUN taken as 0, and the reset value in every other word saved. -/
def State.loadWords (s : State) (i : CfgImage) : List (Nat × Word) :=
  let run := SYS_CTRL.RUN.addr
  let mine := i.words.filter (fun e => e.1 != run) ++ [(run, 0)]
  let rest := (s.regs.map (·.1) ++ s.handedSets.flatMap (fun x => x.words.map (·.1))).filter
    (fun o => savedWord o && !mine.any (fun e => e.1 == o))
  sortWords (mine ++ (rest.eraseDups.map (fun o => (o, resetWord o))))

/-- The words of a set as it takes effect: a slot's reset values go into whatever words then differ. -/
def State.setWords (s : State) (x : StagedSet) : List (Nat × Word) :=
  match x.load with
  | some i => s.loadWords i
  | none => x.words

/-- What a slot holds beside its words: owners and baselines (R833). -/
def State.loadExtras (s : State) (i : CfgImage) : State :=
  let s := { s with qcp := { s.qcp with streamOwner := i.streamOwner, trgOwner := i.trgOwner, capOwner := i.capOwner } }
  let s := (s.modBrl .a (fun x => { x with base := i.baseA })).modBrl .b (fun x => { x with base := i.baseB })
  s.puts [(BRL_BASE.VALID 0, (!i.baseA.refs.isEmpty).toNat), (BRL_BASE.VALID 1, (!i.baseB.refs.isEmpty).toNat)]

/-- The quotas of a slot as QUOTA_SETs of the owner: first those that lower one, then the others; a capture quota that R468 would refuse
keeps its value (R497). -/
def State.loadQuotas (s : State) (l : List Quotas) : State :=
  let lowers (r : Nat) (x : Quotas) : Bool :=
    let o := (s.sess r).quotas
    decide (x.streams < o.streams) || decide (x.bandwidth < o.bandwidth) || decide (x.reed < o.reed)
      || decide ((x.capture.getD (s.get DMC_POOL.POOL)) < o.capture.getD (s.get DMC_POOL.POOL))
  let setOne (t : State) (e : Quotas × Nat) : State :=
    t.setQuotas e.2 (if t.quotaConflict e.2 e.1 then { e.1 with capture := (t.sess e.2).quotas.capture } else e.1)
  let all := l.zipIdx
  (all.filter (fun e => !lowers e.2 e.1)).foldl setOne ((all.filter (fun e => lowers e.2 e.1)).foldl setOne s)

/-! ## Into emission (R198, R490, R742 to R744) -/

/-- A run that is asked for would start emission, now or once the laser is locked (R743, R744). -/
def State.startsRun (s : State) : Bool := !s.emits && !s.light.runDue && (s.dev == 0 || s.dev == 2)

/-- What refuses the run that a set asks for (R198, R490). -/
def State.runRefusal (s : State) (l : List (Nat × Word)) : Option Failing :=
  if (staged l SYS_CTRL.RUN.addr).isSome && s.flag SYS_CTRL.RUN && s.startsRun then s.runFailing else none

/-- A device in SHADOW that has left its pair is committed to RUN (chapter 17, at R584): every position is launched from this boundary on,
with every channel re-initialised (DESIGN CHOICE: log entry 157). -/
def State.runAlone (s : State) : State := (({ s with grid := { s.grid with absA := true, absB := true } }).reinitAll).enter 3

/-- The device runs or not as the set says, unless the run is refused (R490, R742 to R744). -/
def State.runWord (s : State) (l : List (Nat × Word)) (t : Ts) : State :=
  match staged l SYS_CTRL.RUN.addr with
  | none => s
  | some _ =>
    if !s.flag SYS_CTRL.RUN then s.requestStop
    else if s.dev = 4 && !s.pairOn then s.runAlone
    else if (s.runRefusal l).isSome then s
    else s.requestRun t

/-- A transition into an emitting state that validates after direct writes of what shapes the sweep starts a new epoch (R490). -/
def State.runEpoch (s : State) (t : Ts) : State := ({ s with qcp := { s.qcp with touched := false } }).setEpoch t (nextEpoch s.epoch)

/-- A run that waited for LOCK enters emission at the boundary at hand. Where words that shape the sweep were written meanwhile the
configuration in force is validated first; one that fails leaves the device in STANDBY, its run withdrawn (R490, R744). -/
def State.enterDue (s : State) : State :=
  if !s.qcp.touched then s.enterEmission
  else if s.runFailing.isSome then ({ s with light := { s.light with runDue := false } }).stopGrid
  else (s.runEpoch s.nextBoundary).enterEmission

/-- SWEEP_START: on the first DSP edge at or after the grid time, less than 1 ns later (R15). A run request that waited for
LOCK enters emission here (R744); a SHUTDOWN that waited for the boundary stops launching instead (R746). -/
def sweepStartStep (edge : Ts) (s : State) : State :=
  let go := s.grid.running && decide (s.nextBoundary ≤ edge) && decide (edge < s.nextBoundary + ns)
    && (s.emits || (s.light.runDue && s.dev == 2 && s.flag LSD_LASER_STATUS.LOCK))
  s.whenDo go fun s =>
    if s.power.shutDue then (s.closeSweep.at edge).goDark true
    else
      let t := if s.light.runDue then s.enterDue else s
      if t.emits then t.startSweep edge else t

/-! ## The epoch boundary (R29, R33, R484, R485) -/

/-- Sweeps of a grid start: the device emits, and T_ALIGN does not lie in the future (R484). -/
def State.sweeping (s : State) : Bool := s.grid.running && s.emits && decide (s.grid.align ≤ s.now)

/-- The clean-shutdown record is no longer valid (R749). -/
def State.spoilClean (s : State) : State :=
  { s with power := { s.power with flashClean := false, ret := { s.power.ret with clean := false } } }

/-- The first COMMIT, image or slot takes the device out of HELD: it tunes the laser in BOOT, and one already locked stands by at once
(R495, R741). -/
def State.leaveHeld (s : State) : State :=
  if s.dev != 1 then s
  else if s.flag LSD_LASER_STATUS.LOCK then s.toStandby
  else ((s.enter 0).put LSD_LASER_STATUS.TUNING 1).startLock

/-- Words, owners, baselines and quotas of a set take effect at an instant, with what each change of settings does (R29, R484). -/
def State.applySettings (s : State) (x : StagedSet) (t : Ts) : State :=
  let l := s.setWords x
  let s := if x.load.isSome then s.requestStop else s
  let closed := s.streamCloses (s.adopt x.session l)
  let a := closed.adopt x.session l
  let a := match x.load with
    | some i => a.loadExtras i
    | none => a
  let a := (a.effects s l t).bankChanges t
  let a := a.rebuildFilters
  let a := if moved s a PHS_PORTMAP.SWAP then a.put PHS_SIG_STAT.VERDICT 0 else a
  let a := { a with
    grid := { a.grid with applied := some t }, dec := { a.dec with hold := s.sweeping }, qcp := { a.qcp with touched := false }
    phs := { a.phs with swapHeld := a.phs.swapHeld && !releasesSwap s a l } }
  let a := ((a.setEpoch t (nextEpoch s.epoch)).put SYS_STORE.LOADED x.loaded).spoilClean
  let a := match x.load with
    | some i => a.loadQuotas i.quotas
    | none => a
  a.leaveHeld

/-- A set takes effect at an instant. -/
def State.applySet (s : State) (x : StagedSet) (t : Ts) : State :=
  let a := (((s.applySettings x t).runWord (s.setWords x) t).sendCfg).clashCheck
  (List.range 8).foldl (fun (u : State) r => if u.isOverdrawn r then u.chooseSuspend r else u) a

/-- What the completion of a set carries: the refusal of a run that it asked for, or OK, with the new epoch for a COMMIT (R445, R490). A set
whose run is refused stays in force in the rest (DESIGN CHOICE: log entry 205). -/
def State.setResult (s : State) (x : StagedSet) (t : Ts) : Nat × List Item :=
  match (s.applySettings x t).runRefusal (s.setWords x) with
  | some f => (f.status, (f.off.map itAddr).toList)
  | none => (stOk, if x.opcode = 0x0202 then [itEpoch (nextEpoch s.epoch).toNat] else [])

/-- A set has taken effect at the next sweep boundary already: each boundary takes one (R483). -/
def State.boundaryTaken (s : State) (t : Ts) : Bool := s.grid.applied == some t

/-- The boundary of a set: the sweep in progress ends at it, and the moves between filter paths that were due take effect (R29, R231). -/
def State.toBoundary (s : State) (t : Ts) : State :=
  let a := s.at t
  if !s.sweeping then a else (if s.grid.started then a.closeSweep else a).fallbackMoves

/-- EPOCH_BOUNDARY: the oldest set handed over, at the next sweep boundary at least 10 µs later, or at once where no sweep
grid runs; its completion follows (R29, R445, R484). -/
def epochBoundaryStep (s : State) : State :=
  match s.qcp.staged with
  | [] => s
  | x :: l =>
    match x.handed with
    | none => s
    | some h =>
      let t := if s.sweeping then s.nextBoundary else s.now
      if s.sweeping && (decide (t < h + 10000 * ns) || s.boundaryTaken t) then s
      else
        let a := ({ s with qcp := { s.qcp with staged := l } }).toBoundary t
        (a.applySet x t).complete x.session.val x.seq (a.setResult x t).1 (a.setResult x t).2

/-! ## Meanings -/

/-- SWEEP_START (R15). -/
def execSweepStart (edge : Ts) (s : State) : Host.Outcome State Fault Refusal := .next (sweepStartStep edge s)

/-- STAGED_SET_HANDOVER (R483). -/
def execStagedSetHandover (s : State) : Host.Outcome State Fault Refusal := .next (stagedSetHandoverStep s)

/-- EPOCH_BOUNDARY (R29). -/
def execEpochBoundary (s : State) : Host.Outcome State Fault Refusal := .next (epochBoundaryStep s)

/-- BEGIN (R479). -/
def execBegin (q : ReqHdr) (s : State) : Host.Outcome State Fault Refusal := .next (s.request q 0x0200 (beginBody q))

/-- SET (R480). -/
def execSet (q : ReqHdr) (addr : BitVec 24) (data : List Word) (s : State) : Host.Outcome State Fault Refusal :=
  .next (s.request q 0x0201 (setBody q addr.toNat data) (operands [itAddr addr.toNat, itWords data]))

/-- COMMIT (R482). -/
def execCommit (q : ReqHdr) (epoch : Option (BitVec 32)) (s : State) : Host.Outcome State Fault Refusal :=
  .next (s.request q 0x0202 (commitBody q epoch) [(0x0005, epoch.map (fun e => itEpoch e.toNat))])

/-- DISCARD (R479). -/
def execDiscard (q : ReqHdr) (s : State) : Host.Outcome State Fault Refusal := .next (s.request q 0x0203 (discardBody q))

end Sys2Proof.Machine
end

