-- ==== Sys2Proof/Machine/Store.lean ====
section
/-! DEFINITION. The configuration store (R491 to R497, R833): slots, saving, loading, and images sent by QCP. -/

namespace Sys2Proof.Machine

/-! ## What is saved (R833) -/

/-- The part of a word that is saved. -/
def savedPart (off : Nat) (w : Word) : Word :=
  match rowAt off with
  | some row => w &&& BitVec.ofNat 32 row.rw
  | none => w

/-- Bits [39:8] of SYS_ID.SERIAL, the binding of an image (R492). -/
def State.binding (s : State) : BitVec 32 := BitVec.ofNat 32 (s.serial / 256)

/-- Bytes of the records of some words in ascending order: offset and count of each run of consecutive words, and the words (R492). -/
def recordBytes : Option Nat → List (Nat × Word) → Nat
  | _, [] => 0
  | at_, e :: t => (if at_ = some e.1 then 4 else 12) + recordBytes (some (e.1 + 4)) t

/-- The longest body of an image (R492). -/
abbrev bodyMax : Nat := 1048448

/-- The configuration in force as an image, a word at its reset value left out (R492, R833). One whose records are longer than a body may
be is none that R493 finds right (log entry 78). -/
def State.saveImage (s : State) (cnt : Nat) : CfgImage :=
  let l := (s.regs.filter (fun e => savedWord e.1)).map (fun e => (e.1, savedPart e.1 e.2))
  { epoch := s.epoch, saveCnt := cnt, binding := s.binding
    words := l, sound := decide (recordBytes none l ≤ bodyMax)
    quotas := s.qcp.sess.map (·.quotas), streamOwner := s.qcp.streamOwner, trgOwner := s.qcp.trgOwner, capOwner := s.qcp.capOwner
    baseA := s.brl.portA.base, baseB := s.brl.portB.base, key := s.keys.kcfg.getD [] }

/-! ## Slots (R493) -/

def State.slot (s : State) (b : Bool) : Slot := if b then s.qcp.slotB else s.qcp.slotA
def State.setSlotImage (s : State) (b : Bool) (x : Slot) : State :=
  { s with qcp := if b then { s.qcp with slotB := x } else { s.qcp with slotA := x } }

/-- The journal names a save of a slot. -/
def State.journalNames (s : State) (b : Bool) : Bool := s.qcp.journal.any (fun j => j.1 == b)

/-- State of a slot: 0 EMPTY, 1 GOOD, 2 BAD. -/
def State.slotCode (s : State) (b : Bool) : Nat :=
  match s.slot b with
  | .empty => if s.journalNames b then 2 else 0
  | .cut => 2
  | .image i =>
    if i.magicOk && i.version == 1 && i.sound && (i.binding == 0 || i.binding == s.binding) && s.keys.kcfg == some i.key then 1 else 2

/-- SAVECNT and epoch of a slot, 0 where its header says none. -/
def State.slotAge (s : State) (b : Bool) : Nat × Nat :=
  match s.slot b with
  | .image i => (i.saveCnt, i.epoch.toNat)
  | _ => (0, 0)

/-- The slot with the higher SAVECNT, then the higher epoch, then A. -/
def State.byCount (s : State) : Option Bool :=
  if s.slotCode true = 0 then some false
  else if s.slotCode false = 0 then some true
  else
    let x := s.slotAge false
    let y := s.slotAge true
    some (decide (x.1 < y.1) || (x.1 == y.1 && decide (x.2 < y.2)))

/-- The newest slot: none while both are EMPTY. -/
def State.newest (s : State) : Option Bool :=
  let a := s.slotCode false
  let b := s.slotCode true
  let named := s.qcp.journal.map (·.1)
  if a = 0 && b = 0 then none
  else match named with
    | some j => if s.slotCode j = 2 then some j else s.byCount
    | none => s.byCount

/-- SYS_STORE shows the slots. -/
def State.updStore (s : State) : State :=
  s.puts [(SYS_STORE.SLOT_A, s.slotCode false), (SYS_STORE.SLOT_B, s.slotCode true),
    (SYS_STORE.NEWEST, match s.newest with
      | none => 0
      | some b => 1 + b.toNat)]

/-! ## STORE_SAVE (R491) -/

/-- The SAVECNT of the next save. -/
def State.nextCount (s : State) : Nat :=
  1 + max ((s.qcp.journal.map (·.2)).getD 0) (max (s.slotAge false).1 (s.slotAge true).1)

/-- STORE_SAVE: the journal names the slot, and the slot is erased. -/
def storeSaveBody (q : ReqHdr) (index : Nat) (s : State) : State :=
  s.checks q 0x0204 [(s.qcp.saving.isSome || s.longsFull q, stBusy), (decide (1 < index), stParamRange), (s.keys.kcfg.isNone, stParamConflict),
      (s.owner != q.session.val, stNotOwner)] fun s =>
    s.startLong q 0x0204 index fun s =>
      let b := index == 1
      let i := s.saveImage s.nextCount
      (({ s with qcp := { s.qcp with journal := some (b, s.nextCount), saving := some (b, i) } }).setSlotImage b .cut).updStore

/-- STORE_SAVE_COMMIT: body, signature and header are written. -/
def storeSaveCommitStep (s : State) : State :=
  match s.qcp.saving with
  | none => s
  | some (b, i) =>
    ((({ s with qcp := { s.qcp with saving := none } }).setSlotImage b (.image i)).updStore).completeAll 0x0204 (fun _ => true) stOk

/-- A save is aborted before its header: the slot stays erased, and the journal names it. -/
def State.saveAbort (s : State) (r : Nat) (seq : BitVec 32) : State :=
  ({ s with qcp := { s.qcp with saving := none } }).complete r seq stCancelled

/-! ## Loading a slot (R494, R495, R497) -/

/-- STORE_SELECT: the decision to load is its commit point; a slot that is not GOOD completes with PARAM_CONFLICT. -/
def storeSelectBody (q : ReqHdr) (index : Nat) (s : State) : State :=
  s.checks q 0x0205 [(s.longsFull q, stBusy), (decide (1 < index), stParamRange), (s.owner != q.session.val, stNotOwner), (s.flag DMC_STATUS.TFAIL, stHwFault)] fun s =>
    s.startLong q 0x0205 index fun s =>
      match s.slot (index == 1) with
      | .image i =>
        if s.slotCode (index == 1) = 1 then
          (s.stageSet { session := q.session, seq := q.seq, opcode := 0x0205, words := s.loadWords i, load := some i, loaded := 1 + index }).commitPoint
            q.session.val q.seq
        else s.complete q.session.val q.seq stParamConflict
      | _ => s.complete q.session.val q.seq stParamConflict

/-! ## Images by QCP (R437, R492, R496, R774) -/

/-- IMAGE_PUT. -/
def imagePutBody (q : ReqHdr) (offset : Nat) (data : List Byte) (s : State) : State :=
  if 1048576 < offset + data.length then s.reply q 0x0206 stParamRange
  else (s.modSess q.session.val (fun x => { x with image := putBytes x.image offset data })).reply q 0x0206 stOk

/-- The records of a body: words by offset in their order; none where a record is cut short or empty. -/
def imageRecords : Nat → List Word → Option (List (Nat × Word))
  | _, [] => some []
  | 0, _ => none
  | fuel + 1, a :: n :: t =>
    if n = 0 || t.length < n.toNat then none
    else (imageRecords fuel (t.drop n.toNat)).map (fun l => spread (a.toNat % 2 ^ 24) (t.take n.toNat) ++ l)
  | _, _ => none

/-- The words of an image's bytes, where every check of R493 but SAVECNT's passes. -/
def State.imageWords (s : State) (b : List Byte) : Option (List (Nat × Word)) :=
  let w (o : Nat) : Nat := beNat ((b.drop o).take 4)
  let l := w 4
  match s.keys.kcfg with
  | none => none
  | some k =>
    if b.length < 0x60 || w 0 / 2 ^ 16 != 0x4347 || w 0 / 2 ^ 8 % 256 != 1 || l % 4 != 0 || decide (bodyMax < l) || b.length != 0x60 + l then none
    else if w 0x3C != (crc32c (b.take 0x3C)).toNat || w 0x14 != (crc32c ((b.drop 0x40).take l)).toNat then none
    else if w 0x10 != 0 && w 0x10 != s.binding.toNat then none
    else if b.drop (0x40 + l) != hmacSha256 k (b.take (0x40 + l)) then none
    else imageRecords (l / 8 + 1) (bytesWords ((b.drop 0x40).take l))

/-- The first word of an image that is refused for itself, in the order of its records: one that no COMMIT could stage, a word of the PTB
block, one that the session may not commit, or a field outside its range. Words of reed windows follow R355: where the session does not
hold them they are ignored and flagged as the image takes effect (R482, R496, R774, R830). -/
def State.refusedWord (s : State) (r : Nat) (l : List (Nat × Word)) : Option (Nat × Nat) :=
  l.findSome? (fun e =>
    if !stageable e.1 then some (e.1, if e.1 / 0x10000 = 0x18 then stParamConflict else stParamRange)
    else if inProgram e.1 || inReedData e.1 then none
    else if !s.mayCommit r e.1 e.2 then some (e.1, stNotOwner)
    else if (rowAt e.1).any (fun row => row.ranges.any (fun x => x.fails (mergeWord e.1 (s.rd e.1) e.2))) then some (e.1, stParamRange)
    else none)

/-- IMAGE_APPLY: the image as one COMMIT of the owner, or refused in its completion. -/
def imageApplyBody (q : ReqHdr) (count : Nat) (s : State) : State :=
  s.checks q 0x0207 [(s.longsFull q, stBusy), (decide (1048576 < count), stParamRange), (s.owner != q.session.val, stNotOwner), (s.flag DMC_STATUS.TFAIL, stHwFault)] fun s =>
    s.startLong q 0x0207 0 fun s =>
      match s.imageWords (getBytes (s.sess q.session.val).image count) with
      | none => s.complete q.session.val q.seq stParamConflict
      | some l =>
        match s.refusedWord q.session.val l with
        | some (o, st) => s.complete q.session.val q.seq st [itAddr o]
        | none => s.validateSet q 0x0207 (l.foldl (fun (a : List (Nat × Word)) e => stage a e.1 e.2) []) none true

/-! ## Meanings -/

/-- STORE_SAVE (R491). -/
def execStoreSave (q : ReqHdr) (index : Nat) (s : State) : Host.Outcome State Fault Refusal :=
  .next (s.request q 0x0204 (storeSaveBody q index) (operands [itIndex index]))

/-- STORE_SAVE_COMMIT (R491). -/
def execStoreSaveCommit (s : State) : Host.Outcome State Fault Refusal := .next (storeSaveCommitStep s)

/-- STORE_SELECT (R495). -/
def execStoreSelect (q : ReqHdr) (index : Nat) (s : State) : Host.Outcome State Fault Refusal :=
  .next (s.request q 0x0205 (storeSelectBody q index) (operands [itIndex index]))

/-- IMAGE_PUT (R437). -/
def execImagePut (q : ReqHdr) (offset : Nat) (data : List Byte) (s : State) : Host.Outcome State Fault Refusal :=
  .next (s.request q 0x0206 (imagePutBody q offset data) (operands [itOffset offset, itData data]))

/-- IMAGE_APPLY (R496). -/
def execImageApply (q : ReqHdr) (count : Nat) (s : State) : Host.Outcome State Fault Refusal :=
  .next (s.request q 0x0207 (imageApplyBody q count) (operands [itCount count]))

end Sys2Proof.Machine
end

