-- ==== Sys2Proof/Machine/Blocks.lean ====
section
/-! DEFINITION. What a reset clears and keeps (R731), and the re-initialisation of one block (R732, R754). -/

namespace Sys2Proof.Machine

/-! ## Registers (R731) -/

/-- The bits of a field in its word. -/
def Fld.mask (f : Fld) : Nat := (2 ^ f.width - 1) * 2 ^ f.lo

/-- The register words after a reset that keeps some bits of each word. -/
def Space.keep (m : Space) (kept : Nat → Nat) : Space :=
  m.filterMap (fun e =>
    let k := BitVec.ofNat 32 (kept e.1)
    let w := (e.2 &&& k) ||| (resetWord e.1 &&& ~~~k)
    if w = resetWord e.1 then none else some (e.1, w))

/-- Fields of the key sector, kept by every reset (R762). -/
def sectorFields : List Fld :=
  [KEY_STATUS.SCANS, KEY_STATUS.K, KEY_STATUS.KCFG] ++ (List.range 8).map KEY_OPENSEQ.OPENSEQ

/-- Fields kept by COLD and WARM: sticky ones, what only FULL clears, and the level of a pin (R731, R767, R768). -/
def stickyFields : List Fld :=
  [SYS_STORE.BOOTS, KEY_STATUS.BADRESP, KEY_STATUS.SCAN, KEY_STATUS.ID_OK, LSD_ILK.INTLK, ⟨0x010000, 0, 32⟩, ⟨0x010008, 0, 32⟩]
    ++ [LSD_APR_END.FIBRE_END 0, LSD_APR_END.FIBRE_END 1]
    ++ (List.range 9).flatMap (fun i => [⟨0x060140 + 4 * i, 0, 32⟩, ⟨0x060240 + 4 * i, 0, 32⟩])

/-- Counters that count since the last FULL or COLD reset. -/
def longCounters : List Fld :=
  [SYS_REANCHOR.COUNT, LSD_LASER_STATUS.RELOCKS, PAT_STATUS.SWAPS, RX_STATUS.GSTEPS, PHS_SIG_STAT.CHECKS, BRL_STATUS.PERIODS,
    DMC_TRAIN.STEPS, PTP_STATUS.STEPS] ++ (List.range 64).map DEC_STAT.RESTARTS ++ (List.range 13).map CALREC_W0.RUNS

/-- Fields kept by WARM alone: those counters, the clock's adjustment and settings, the OCX block, RDG_FLASH, the links that
stay up and the trained set-points. -/
def warmFields : List Fld :=
  longCounters ++ [PTP_FADJ.FADJ, ⟨0x0E0010, 0, 32⟩, ⟨0x0E0020, 0, 32⟩, ⟨0x100030, 0, 32⟩, NET_W1.LINK 0, NET_W1.LINK 1,
    FLD_STATUS.UP, DMC_STATUS.TFAIL]

/-- The kept bits of a word by the fields that are kept. -/
def keptIn (l : List Fld) (off : Nat) : Nat := (l.filter (fun f => f.addr == off)).foldl (fun a f => a ||| f.mask) 0

/-- The bits of a word that a reset of reach FULL (4), COLD (3) or WARM (2) keeps. -/
def keptBits (reach off : Nat) : Nat :=
  if reach = 4 then keptIn sectorFields off
  else if reach = 3 then keptIn (sectorFields ++ stickyFields) off
  else if off / 0x10000 = 2 then 0xFFFFFFFF
  else keptIn (sectorFields ++ stickyFields ++ warmFields) off

/-! ## One block (R732) -/

/-- What a BLOCK reset keeps beside RW fields: conditions that the block shows again at once, and what only boot sets. -/
def liveFields : List Fld :=
  [LSD_LASER_STATUS.LOCK, LSD_LASER_STATUS.TUNING, LSD_LASER_STATUS.FERR, LSD_ILK.INTLK, LSD_ILK.FIN0_OK, NET_W1.LINK 0, NET_W1.LINK 1,
    FLD_STATUS.UP, DMC_STATUS.TFAIL, DMC_STATUS.DENS, DMC_STATUS.MISMATCH, ⟨0x100030, 0, 32⟩]
    ++ (List.range 16).flatMap (fun o => [REEDS_W0.STATE o, REEDS_W0.UNIT o, REEDS_W0.WHOLE o, REEDS_W0.OWNER o, ⟨0x0A0110 + 32 * o, 0, 32⟩,
      ⟨0x0A0114 + 32 * o, 0, 32⟩, ⟨0x0A0118 + 32 * o, 0, 32⟩, REED_UNIT.BUSY o, REED_UNIT.SLOT o, REED_UNIT.LOAD o])

/-- The bits of a word that a reset of a block keeps: everything of another block and of the clock's blocks, and every RW
field; a reset of LSD clears CAUSE with its other status (log entry 144). -/
def blockKept (b off : Nat) : Nat :=
  if off / 0x10000 != b || b == 2 || b == 0x0E then 0xFFFFFFFF
  else (match rowAt off with
    | some r => r.rw
    | none => 0xFFFFFFFF) ||| keptIn liveFields off

/-- The LPDDR5 contents beyond the privileged region are lost: history, captures and retain buffers. -/
def State.loseDram (s : State) : State :=
  let t := (List.range 16).foldl (fun (u : State) c => u.capFree c) s
  { t with
    trg := { t.trg with hist := List.replicate 64 [], histGaps := [] }
    strm := { t.strm with st := t.strm.st.map (fun x => { x with retain := [] }) } }

/-- Every slot that ran is LOADED, its memories kept (R754). -/
def State.reedIdle (s : State) : State :=
  (List.range 16).foldl (fun (t : State) o =>
    let t := t.modRslot o (fun y => { xbase := y.xbase, ybase := y.ybase, load := y.load })
    if t.slotState o = 2 || t.slotState o = 3 then t.setSlot o 1 else t) { s with reed := { s.reed with units := List.replicate 16 {} } }

/-- The streams' filters lose their history and restart. -/
def State.filtersLost (s : State) : State :=
  (List.range 64).foldl (fun (t : State) n => if t.strKind n = 0 && t.strState n = 1 then t.restartFilter n else t)
    { s with dec := {} }

/-- The internal state of a block after its logic is reset; a long operation of the block is cancelled. -/
def State.blockLogic (s : State) (b : Nat) : State :=
  let x := s.light
  if b = 0x03 then ({ s with light := {
      thermal := x.thermal, silent := x.silent, rprec := x.rprec, attempt := x.attempt, hadLock := x.hadLock, hwHeld := x.hwHeld, faults := x.faults
      therm := x.therm, tcase := x.tcase, laserOff := x.laserOff
      safeFrom := x.safeFrom, flashHold := x.flashHold, flashCyc := x.flashCyc, runDue := x.runDue } }).settleClamp
  else if b = 0x04 then { s with pat := {} }
  else if b = 0x05 then { s with rx := {} }
  else if b = 0x06 then ({ s with phs := {} }).reinitAll
  else if b = 0x07 then s.filtersLost
  else if b = 0x08 then ({ s with brl := {} }).completeAll 0x0504 (fun _ => true) stCancelled
  else if b = 0x09 then
    let t := s.loseDram
    ({ t with trg := {} }).completeAll 0x0405 (fun _ => true) stCancelled
  else if b = 0x0A then s.reedIdle
  else if b = 0x0C then { s with strm := { starts := s.strm.starts } }
  else if b = 0x0D then { s with net := {} }
  else if b = 0x0F then ({ s with tb := { synLate := s.tb.synLate } }).completeAll 0x0903 (fun _ => true) stCancelled
  else if b = 0x10 then { s with ridge := {} }
  else if b = 0x11 then (({ s with pair := {} }).completeAll 0x0604 (fun _ => true) stCancelled).completeAll 0x0601 (fun _ => true) stCancelled
  else if b = 0x12 then s.modIsl (fun y => { y with told := false })
  else if b = 0x13 then { s with mon := {} }
  else if b = 0x14 then s.modCal (fun y => { y with doms := List.replicate 13 {} })
  else if b = 0x15 then s.modDmc (fun y => { timing := y.timing })
  else if b = 0x18 then { s with ptb := { by_ := s.ptb.by_, since := s.ptb.since } }
  else s

/-- Re-initialise a block, keeping its RW fields. -/
def State.blockInit (s : State) (b : Nat) : State := ({ s with regs := s.regs.keep (blockKept b) }).blockLogic b

/-- Enabled streams start again after a reset of their block. -/
def State.blockStreams (s : State) : State :=
  (List.range 64).foldl (fun (t : State) n => if t.flag (STR_W0.EN n) then t.startStream n else t) s

/-- Words that follow the settings a re-initialised block kept: gains in force, the bank, the domains a CAL_RUN still names,
streams and what every change of settings re-evaluates. -/
def State.blockAgain (s : State) (b : Nat) : State :=
  let t := if b = 0x05 then
      [(Port.a, false), (Port.a, true), (Port.b, false), (Port.b, true)].foldl (fun (u : State) (e : Port × Bool) => u.gainCommit e.1 e.2 u.now) s
    else if b = 0x04 then s.bankChanges s.now
    else if b = 0x0C then s.blockStreams
    else if b = 0x14 then
      ((bitsOf 13 (s.cal.ops.foldl (fun a c => a ||| c.left) 0)).foldl (fun (u : State) d => u.setCbit CAL_DUE.DUE d true) s).calSyncAll
    else s
  t.effects t [] t.now

/-- A block's outputs while it is reset are an absence (R222, R732). -/
def State.blockAbsence (s : State) (b : Nat) : State :=
  if b = 0x05 || b = 0x06 || b = 0x07 || b = 0x0C then { s with grid := { s.grid with absA := true, absB := true } } else s

/-- A whole re-initialisation of a block. -/
def State.blockReset (s : State) (b : Nat) : State := ((s.blockInit b).blockAgain b).blockAbsence b

/-- A byte names a block that a BLOCK reset may reset: not SYS, RST, KEY or QCP, and none whose fields shape the sweep
while the device emits. -/
def State.blockAllowed (s : State) (b : Nat) : Bool :=
  decide (2 ≤ b) && decide (b ≤ 0x18) && b != 0x17 && !(s.emits && (rowsOfBlock b).any (·.shapes))

end Sys2Proof.Machine
end

