-- ==== Sys2Proof/Machine/SelfTest.lean ====
section
/-! DEFINITION. The self-test (R751 to R761), SHUTDOWN and its abort (R745 to R748), DIAG_ENTER and DIAG_LEAVE (R743), and
BIST_READ (R759). -/

namespace Sys2Proof.Machine

/-! ## Reports (R758, R759) -/

/-- The newest report: in the retention store, or in flash after a FULL reset. -/
def State.newestReport (s : State) : Option (List Byte) := s.power.report.orElse (fun _ => s.power.reportFlash)

/-- The number of the next report. -/
def State.nextReport (s : State) : Nat :=
  match s.newestReport with
  | some l => ((l.getD 4 0).toNat + 1) % 256
  | none => 1

/-- BIST_STATUS shows the newest report. -/
def State.updBist (s : State) : State :=
  match s.newestReport with
  | some l => s.puts [(BIST_STATUS.READY, 1), (BIST_STATUS.KIND, (l.getD 3 0).toNat / 16), (BIST_STATUS.VERDICT, (l.getD 3 0).toNat / 4),
      (BIST_STATUS.SEQ, (l.getD 4 0).toNat)]
  | none => s

/-- The first word of an item's record: RESULT 0 PASS, 1 FAIL, 2 SKIPPED, 3 NOT_RUN. -/
def itemWord (id result ms : Nat) : Word := BitVec.ofNat 32 (id * 2 ^ 24 + result * 2 ^ 20 + ms % 2 ^ 20)

/-- The record of an item that was not run. -/
def idleItem (id result : Nat) : List Word := [itemWord id result 0, 0, 0, 0]

/-- A report's bytes and its MAC. -/
def State.reportBytes (s : State) (kind verdict epoch ms : Nat) (start : Ts) (items : List (List Word)) : List Byte :=
  let head := 0x53540100 + kind * 16 + verdict * 4
  let b := beBytes 4 head ++ beBytes 4 (s.nextReport * 2 ^ 24 + items.length * 2 ^ 16 + s.get SYS_STORE.BOOTS) ++ beBytes 4 epoch
    ++ (itTime start).val ++ beBytes 4 ms ++ beBytes 4 0 ++ items.flatMap (fun l => l.flatMap wordBytes)
  b ++ (hmacSha256 (derivedKey "BIST") b).take 16

/-- A report is written to the retention store and to flash. -/
def State.putReport (s : State) (kind verdict epoch ms : Nat) (start : Ts) (items : List (List Word)) : State :=
  let l := s.reportBytes kind verdict epoch ms start items
  ({ s with power := { s.power with report := some l, reportFlash := some l } }).updBist

/-- Milliseconds since a cycle, the rounding open. -/
def State.msSince (s : State) (c : Nat) : Nat := (divRound ((s.cyc - c : Nat) : Int) msCyc).toNat

/-- Some item failed. -/
def anyFail (l : List (List Word)) : Bool := l.any (fun w => (w.getD 0 0).toNat / 2 ^ 20 % 16 == 1)

/-- A reset ends a self-test: VERDICT INCOMPLETE, the items not finished NOT_RUN, where the report can be written (R757). -/
def State.cutTest (s : State) (writes : Bool) : State :=
  match s.power.test with
  | none => s
  | some t =>
    let rest := ((List.range 6).drop t.items.length).map (fun i => idleItem i 3)
    let u := ({ s with power := { s.power with test := none, op := none } }).put BIST_STATUS.RUNNING 0
    if writes then u.putReport (if t.shutdown then 1 else 2) 2 t.epoch (s.msSince t.since) t.start (t.items ++ rest) else u

/-! ## The course of a self-test (R751 to R756) -/

/-- The first item from a number on that is not masked; 6 where there is none. -/
def nextItem (mask : Nat) (i : Nat) : Nat := ((List.range 6).find? (fun j => decide (i ≤ j) && mask / 2 ^ j % 2 == 0)).getD 6

/-- Records up to the next item to run: masked items are SKIPPED. -/
def withSkipped (l : List (List Word)) (next : Nat) : List (List Word) :=
  l ++ ((List.range next).drop l.length).map (fun i => idleItem i 2)

/-- A SHUTDOWN or DIAG_ENTER in progress ends. -/
def State.testOpDone (s : State) (status : Nat) : State :=
  match s.power.op with
  | some (r, seq) => ({ s with power := { s.power with op := none } }).complete r.val seq status
  | none => s

/-- After the report of a SHUTDOWN: the clean-shutdown record where VERDICT is PASS, the flashing closed, the ridge drives
released, the alarm outputs de-energised, OFFREADY (R746, R760). -/
def State.offReady (s : State) (pass : Bool) : State :=
  let t := if pass then { s with power := { s.power with flashClean := true, cleanRec := some (s.get BIST_STATUS.SEQ, s.get SYS_STORE.BOOTS), ret := { s.power.ret with clean := true } } } else s
  ((((t.driveFlash true).put RDG_STATUS.INS 0).foutSet 0).put SYS_CTRL.OFFREADY 1).testOpDone stOk

/-- The last item has ended: the report, and what follows it. -/
def State.endTest (s : State) (t : SelfTest) (items : List (List Word)) : State :=
  let fail := anyFail items
  let u := ({ s with power := { s.power with test := none } }).put BIST_STATUS.RUNNING 0
  let u := u.putReport (if t.shutdown then 1 else 2) fail.toNat t.epoch (s.msSince t.since) t.start items
  if t.shutdown then u.offReady !fail else u.testOpDone stOk

/-- Go on to the next item that is not masked, or end. -/
def State.toItem (s : State) (t : SelfTest) (items : List (List Word)) (i : Nat) : State :=
  let n := nextItem (s.get BIST_MASK.MASK) i
  let l := withSkipped items n
  if n < 6 then ({ s with power := { s.power with test := some { t with item := n, items := l } } }).put BIST_STATUS.ITEM n
  else s.endTest t l

/-- A calibration run in progress is abandoned, and due again (R753, R695). -/
def State.abandonRuns (s : State) : State :=
  ((List.range 13).foldl (fun (t : State) d =>
    if t.cbit CAL_STATUS.RUNNING d then (((t.calAbandon d).setCbit CAL_STATUS.RUNNING d false).setCbit CAL_DUE.DUE d true).put (CALREC_W0.READY d) 1
    else t) s).calSyncAll

/-- A self-test that is due starts: the commit point of its operation (R444, R751, R753, R759). -/
def State.startTest (s : State) : State :=
  let s := if s.power.shutDue && !s.emits then s.goDark true else s
  match s.power.testDue with
  | none => s
  | some sh =>
    let t := match s.power.op with
      | some (r, seq) => s.commitPoint r.val seq
      | none => s
    let t := (({ t with power := { t.power with testDue := none } }).puts [(BIST_STATUS.RUNNING, 1), (BIST_STATUS.READY, 0)]).abandonRuns
    t.toItem { shutdown := sh, item := 0, start := s.now, since := s.cyc, epoch := s.epoch.toNat } [] 0

/-- What an item leaves behind: its blocks re-initialised with their RW fields kept, and the memories it marched over lost
or restored (R754). -/
def State.itemEffects (s : State) (id : Nat) : State :=
  if id = 0 then (s.blockReset 0x03).blockReset 0x13
  else if id = 1 then (s.blockReset 0x04).blockReset 0x05
  else if id = 2 then (((s.blockReset 0x03).blockReset 0x04).blockReset 0x05).blockReset 0x06
  else if id = 3 then
    let t := (({ s with phs := { s.phs with chA := [], chB := [] } }).reinitAll).filtersLost.reedIdle
    let lose (x : BrlPort) : BrlPort := { x with cur := none, closing := none, restart := true }
    { t with
      brl := { t.brl with portA := lose t.brl.portA, portB := lose t.brl.portB, inflight := [] }
      strm := { t.strm with q := [], st := t.strm.st.map (fun x => { x with open_ := [], retain := [] }) } }
  else if id = 4 then s.loseDram
  else s

/-- SELF_TEST_ITEM: the item in progress ends with its measured value, limit and detail; item 2 runs only while the laser is
locked and the clamp open (R755). -/
def selfTestItemStep (pass : Bool) (measured limit detail : Word) (ms : Nat) (s : State) : State :=
  let s := s.startTest
  match s.power.test with
  | none => s
  | some t =>
    let skip := t.item == 2 && !(s.flag LSD_LASER_STATUS.LOCK && !s.flag LSD_ILK.CLAMP)
    let rec_ := if skip then idleItem t.item 2 else [itemWord t.item (!pass).toNat ms, measured, limit, detail]
    (if skip then s else s.itemEffects t.item).toItem t (t.items ++ [rec_]) (t.item + 1)

/-! ## SHUTDOWN (R745 to R747) -/

/-- A SHUTDOWN or DIAG_ENTER is in progress. -/
def State.offGoing (s : State) : Bool := s.power.op.isSome || s.dev == 6

/-- SHUTDOWN. -/
def shutdownBody (q : ReqHdr) (s : State) : State :=
  s.checks q 0x0104 [(s.pairOn && s.get PAIR_STATUS.ROLE == 1, stParamConflict), (s.dev == 0 || s.offGoing || s.longsFull q, stBusy),
      (s.owner != q.session.val, stNotOwner)] fun s =>
    s.startLong q 0x0104 0 fun s =>
      let t := { s with power := { s.power with op := some (q.session, q.seq) } }
      if t.sweeping then { t with power := { t.power with shutDue := true } } else t.goDark true

/-- The device goes back to the state it held before, and emission resumes at the next grid time with what latches a live cause. Where words
that shape the sweep were written meanwhile the configuration is validated as at any entry into emission: it passes and starts a new
epoch, or the device stays dark in STANDBY (R71, R490, R747). -/
def State.backFrom (s : State) : State :=
  let d := s.power.before
  let lit := d == 3 || d == 4 || d == 5
  if lit && s.qcp.touched && s.runFailing.isSome then s.toStandby
  else
    let u := if lit && s.qcp.touched then s.runEpoch s.now else s
    let u := u.enter d
    let u := if lit then u.latchLive else u
    let u := if lit && u.flag LSD_ILK.CAUSE then u.enterSafe else u
    if u.emits || u.light.runDue then u.beginGrid u.now else u

/-- An ABORT before the commit point: the device goes back to the state it held, its streams run on as the same streams, and
emission resumes at the next grid time (R747). -/
def State.testAbort (s : State) (r : Nat) (seq : BitVec 32) : State :=
  let p := s.power
  let t := { s with power := { p with shutDue := false, testDue := none, op := none, stopped := [] } }
  let t := if p.testDue.isNone then t
    else
      let u := t.backFrom
      (p.stopped.foldl (fun (v : State) (e : Nat × Nat × Option Nat) =>
        (v.put (STR_W15.STATE e.1) e.2.1).modStr e.1 (fun x => { x with next := e.2.2 })) u).updOverdrawn.evalFallback.settleClamp
  t.complete r seq stCancelled

/-! ## DIAG and BIST_READ (R743, R759) -/

/-- DIAG_ENTER: from any state but BOOT. -/
def diagEnterBody (q : ReqHdr) (s : State) : State :=
  s.checks q 0x0A00 [(s.dev == 0 || s.offGoing || s.longsFull q, stBusy), (s.owner != q.session.val, stNotOwner)] fun s =>
    s.startLong q 0x0A00 0 fun s => ({ s with power := { s.power with op := some (q.session, q.seq) } }).goDark false

/-- DIAG_LEAVE: from DIAG to STANDBY. -/
def diagLeaveBody (q : ReqHdr) (s : State) : State :=
  s.checks q 0x0A01 [(s.power.op.isSome, stBusy), (s.dev != 7, stParamConflict), (s.owner != q.session.val, stNotOwner)] fun s =>
    s.toStandby.settleClamp.reply q 0x0A01 stOk

/-- BIST_READ: reading consumes nothing. -/
def bistReadBody (q : ReqHdr) (s : State) : State :=
  match s.flag BIST_STATUS.READY, s.newestReport with
  | true, some l => s.reply q 0x0A02 stOk [itData l]
  | _, _ => s.reply q 0x0A02 stNotReady

/-! ## Meanings -/

/-- SHUTDOWN (R746). -/
def execShutdown (q : ReqHdr) (s : State) : Host.Outcome State Fault Refusal := .next (s.request q 0x0104 (shutdownBody q))

/-- DIAG_ENTER (R751). -/
def execDiagEnter (q : ReqHdr) (s : State) : Host.Outcome State Fault Refusal := .next (s.request q 0x0A00 (diagEnterBody q))

/-- DIAG_LEAVE (R743). -/
def execDiagLeave (q : ReqHdr) (s : State) : Host.Outcome State Fault Refusal := .next (s.request q 0x0A01 (diagLeaveBody q))

/-- BIST_READ (R759). -/
def execBistRead (q : ReqHdr) (s : State) : Host.Outcome State Fault Refusal := .next (s.request q 0x0A02 (bistReadBody q))

/-- SELF_TEST_ITEM (R751). -/
def execSelfTestItem (pass : Bool) (measured limit detail : Word) (ms : Nat) (s : State) : Host.Outcome State Fault Refusal :=
  .next (selfTestItemStep pass measured limit detail ms s)

end Sys2Proof.Machine
end

