-- ==== Sys2Proof/Machine/Reset.lean ====
section
/-! DEFINITION. Reset sources, reach and episodes (R723 to R731), the pins and the flashing across them (R734 to R736), FIELD
and BLOCK resets (R620, R732, R733, R750), and QCP RESET (R725). -/

namespace Sys2Proof.Machine

/-! ## What a reset of reach WARM or wider does (R731) -/

/-- Everything that FULL (4), COLD (3) or WARM (2) clears. Before the controller's own reset the memory goes into self-refresh, or
its reset is driven low, until the episode ends (R730). -/
def State.resetBy (s : State) (reach : Nat) : State :=
  let warm := reach == 2
  { s with
    regs := s.regs.keep (keptBits reach)
    clk := if warm then s.clk else 0
    light := { thermal := s.light.thermal, therm := s.light.therm, tcase := s.light.tcase, laserOff := s.light.laserOff
               silent := !warm || s.light.silent, flashHold := !warm || s.light.flashHold, flashCyc := s.light.flashCyc }
    grid := {}, pat := {}, rx := {}, phs := {}, dec := {}
    qcp := { sess := freshSessions
             slotA := s.qcp.slotA, slotB := s.qcp.slotB, journal := s.qcp.journal }
    ptp := {}, net := {}, ridge := {}, strm := {}, trg := {}, reed := {}, brl := {}, pair := {}, mon := {}, ptb := {}, shadows := []
    tb := { synLate := warm && s.tb.synLate }
    isl := if warm then { s.isl with told := false } else {}
    cal := { temps := s.cal.temps, savedAt := s.cal.savedAt, user := s.cal.user }
    dmc := if warm then { timing := s.dmc.timing, selfRefresh := true } else { resetLow := true }
    tap := if reach = 4 then {} else { s.tap with permit := none }
    power := {
      ret := if reach = 4 then {} else s.power.ret
      report := if reach = 4 then none else s.power.report
      reportFlash := s.power.reportFlash, flashClean := s.power.flashClean, cleanRec := s.power.cleanRec
      pins := { sysRdy := false, ppsOut := warm && s.power.pins.ppsOut, flashClosed := !warm || s.power.pins.flashClosed,
                irqHeld := warm && (if s.power.episode.isSome then s.power.pins.irqHeld else !s.irqNLevel) } } }

/-! ## Episodes (R724, R725, R728) -/

/-- The bit of RST_CAUSE of a source (R724). -/
def RstSource.bit : RstSource → Nat
  | .power => 0
  | .poreset => 1
  | .supply => 2
  | .thermal => 3
  | .qcpCold => 4
  | .rstCold => 4
  | .wdog => 5
  | .warmrst => 6
  | .qcpWarm => 7
  | .rstWarm => 7

/-- Set a bit of RST_CAUSE. -/
def State.cause (s : State) (bit : Nat) : State := s.wr 0x010000 (s.rd 0x010000 ||| BitVec.ofNat 32 (2 ^ bit))

/-- Assert a reset: a new episode, or a part of the one in force; a wider reach starts it again (R728). A self-test ends
(R757). FULL and COLD reset the island as well and set its cause (R729). Both gates are closed (R726). -/
def State.assertReset (s : State) (src : List RstSource) (reach : Nat) : State :=
  let s := s.cutTest (reach != 4)
  let hot := src.contains .thermal
  let e : Episode := match s.power.episode with
    | some e => { e with reach := max e.reach reach, sources := e.sources ++ src, hot := e.hot || hot }
    | none => { reach := reach, since := s.cyc, sources := src, hot := hot, flashHold := s.get RDG_FLASH.FLASH_HOLD }
  let wider := match s.power.episode with
    | some e => decide (e.reach < reach)
    | none => true
  let t := if wider then s.resetBy reach else s
  let t := { t with power := { t.power with episode := some e } }
  let t := e.sources.foldl (fun (u : State) x => u.cause x.bit) t
  (if e.reach = 2 then t else t.cause 8).closeClamp

/-- POWER_ON: the supplies rise for the first time. -/
def powerOnStep (s : State) : State := s.assertReset [.power] 4

/-- SUPPLY_DROP (R723). -/
def supplyDropStep (s : State) : State := s.assertReset [.supply] 4

/-- A low pulse of a reset pin: none below 100 ns, one from 1 µs on, and either in between (R725). -/
def State.pinReset (s : State) (ns_ : Nat) (src : RstSource) (reach : Nat) : State :=
  if ns_ < 100 then s
  else if 1000 ≤ ns_ then s.assertReset [src] reach
  else if s.freeVal % 2 = 1 then s.drew.assertReset [src] reach
  else s.drew

/-- PORESET_N_LOW. -/
def poresetNLowStep (ns_ : Nat) (s : State) : State := s.pinReset ns_ .poreset 4

/-- WARMRST_N_LOW. -/
def warmrstNLowStep (ns_ : Nat) (s : State) : State := s.pinReset ns_ .warmrst 2

/-- THERMAL_RESET: asserted above 95 °C, released below 85 °C. -/
def thermalResetStep (asserted : Bool) (s : State) : State :=
  if asserted then s.assertReset [.thermal] 3
  else { s with power := { s.power with episode := s.power.episode.map (fun e => { e with hot := false }) } }

/-- WATCHDOG_EXPIRE. -/
def watchdogExpireStep (s : State) : State := s.assertReset [.wdog] 2

/-- The offset of RST_CTRL. -/
abbrev rstCtrl : Nat := 0x010004

/-- RST_CTRL.COLD and RST_CTRL.WARM (R750). -/
def State.coldAct (s : State) (path : Path) : Except Nat State := s.byOwner path (fun s => s.assertReset [.rstCold] 3)
def State.warmAct (s : State) (path : Path) : Except Nat State := s.byOwner path (fun s => s.assertReset [.rstWarm] 2)

/-- COLD_RESET_WRITE. -/
def coldResetWriteStep (path : Path) (s : State) : State := s.acted path rstCtrl (s.coldAct path)

/-- WARM_RESET_WRITE. -/
def warmResetWriteStep (path : Path) (s : State) : State := s.acted path rstCtrl (s.warmAct path)

/-- RESET (R725): the reset of reach COLD or WARM is asserted 1 ms after the reply. -/
def resetBody (q : ReqHdr) (count : Nat) (s : State) : State :=
  s.checks q 0x0105 [(count != 1 && count != 2, stParamRange), (s.owner != q.session.val, stNotOwner)] fun s =>
    let t := s.reply q 0x0105 stOk
    { t with power := { t.power with rstPending := some (count + 1, t.cyc) } }

/-- The reset that a RESET asked for is asserted. -/
def State.rstNow (s : State) : State :=
  match s.power.rstPending with
  | none => s
  | some (reach, _) => s.assertReset [if reach = 3 then .qcpCold else .qcpWarm] reach

/-- The millisecond after a RESET's reply has passed. -/
def State.rstDue (s : State) : State :=
  if s.power.rstPending.any (fun p => decide (p.2 + msCyc ≤ s.cyc)) then s.rstNow else s

/-! ## The end of an episode (R727, R749) -/

/-- RST_LAST: reach and microseconds of an episode; a FULL one has none. -/
def State.rstLast (s : State) (reach since : Nat) : State :=
  s.puts [(RST_LAST.REACH, reach), (RST_LAST.DURATION, if reach = 4 then 0 else min (2 ^ 29 - 1) ((s.cyc - since) / 500))]

/-- RESET_EXIT: once every source is released, and not while scan is enabled (R769); a reset that was still to be asserted has
come before. The synthesisers have locked again after FULL or COLD. The clean-shutdown record survives only the FULL episode
that follows the removal of power (R749). -/
def resetExitStep (s : State) : State :=
  let s := if s.power.episode.isNone then s.rstNow else s
  match s.power.episode with
  | none => s
  | some e =>
    s.whenDo (!e.hot && !s.flag KEY_STATUS.SCAN) fun s =>
      let t := { s with power := { s.power with episode := none, bootDue := true }, dmc := { s.dmc with selfRefresh := false, resetLow := false } }
      let t := if e.reach = 4 && e.sources.contains .power then t else t.spoilClean
      ((if e.reach = 2 then t else t.put OCX_STATUS.SYN_LOCK 1).rstLast e.reach e.since).settleClamp

/-- FLASH_HOLD_EXPIRE: a WARM episode has lasted FLASH_HOLD (R734, R735). -/
def flashHoldExpireStep (s : State) : State :=
  match s.power.episode with
  | some e => if e.reach = 2 then (s.atCyc (e.since + e.flashHold * msCyc)).driveFlash true else s
  | none => s

/-! ## FIELD (R620, R729, R733) -/

/-- A FIELD episode: the island stops or restarts, its mirror in the register space is reset, and the calibration of FLD and
EXC is loaded again (R731). -/
def State.fieldReset (s : State) (bit : Nat) : State :=
  let t := ({ s with regs := s.regs.keep (blockKept 0x12) }).islOff.cause bit
  let user (d : Nat) : List (Option Int) := match t.cal.user with
    | some u => if u.sound then u.trims.getD d [] else List.replicate 18 none
    | none => List.replicate 18 none
  t.modCal (fun x => { x with trims := setAt (setAt x.trims 11 (user 11)) 12 (user 12) })

/-- ISLAND_STOP: FLD_VIN fell below 8.0 V (R620). -/
def islandStopStep (s : State) : State := s.whenDo s.isl.up fun s => s.fieldReset 8

/-- ISLAND_WATCHDOG. -/
def islandWatchdogStep (s : State) : State := s.whenDo s.isl.up fun s => s.fieldReset 10

/-- RST_CTRL.FIELD (R750). -/
def State.fieldAct (s : State) (path : Path) : Except Nat State := s.byOwner path (fun s => s.fieldReset 9)

/-- FIELD_RESET_WRITE. -/
def fieldResetWriteStep (path : Path) (s : State) : State := s.acted path rstCtrl (s.fieldAct path)

/-! ## BLOCK (R729, R732) -/

/-- A BLOCK reset of the block that BLK names. It ends a self-test (R757), and the clamp is closed while it lasts (R60). -/
def State.blockNow (s : State) (b : Nat) : State :=
  let t := ((s.cutTest true).blockInit b).blockAbsence b
  (({ t with power := { t.power with blockRst := some (BitVec.ofNat 8 b, t.cyc) } }).cause 11).settleClamp

/-- RST_CTRL.BLOCK with its BLK, by the owner; a block that may not be reset is ignored. -/
def State.blockAct (s : State) (path : Path) (b : Nat) : Except Nat State :=
  if !s.pathOwns path then .error 3
  else
    let t := s.put RST_CTRL.BLK b
    if s.blockAllowed b then .ok (t.blockNow b) else .error 4

/-- BLOCK_RESET_WRITE: an episode in force absorbs it. -/
def blockResetWriteStep (path : Path) (b : Nat) (s : State) : State :=
  if s.power.episode.isSome then s.cause 11 else s.acted path rstCtrl (s.blockAct path b)

/-- BLOCK_RESET_END: the block runs again, and RST_LAST tells the episode. -/
def blockResetEndStep (s : State) : State :=
  match s.power.blockRst with
  | none => s
  | some (b, c) => (({ s with power := { s.power with blockRst := none } }).blockAgain b.toNat).rstLast 1 c |>.settleClamp

/-! ## Meanings -/

/-- RESET (R725). -/
def execReset (q : ReqHdr) (count : Nat) (s : State) : Host.Outcome State Fault Refusal :=
  .next (s.request q 0x0105 (resetBody q count) (operands [itCount count]))

/-- ISLAND_STOP (R620). -/
def execIslandStop (s : State) : Host.Outcome State Fault Refusal := .next (islandStopStep s)

/-- POWER_ON (R724). -/
def execPowerOn (s : State) : Host.Outcome State Fault Refusal := .next (powerOnStep s)

/-- SUPPLY_DROP (R723). -/
def execSupplyDrop (s : State) : Host.Outcome State Fault Refusal := .next (supplyDropStep s)

/-- PORESET_N_LOW (R725). -/
def execPoresetNLow (ns : Nat) (s : State) : Host.Outcome State Fault Refusal := .next (poresetNLowStep ns s)

/-- WARMRST_N_LOW (R725). -/
def execWarmrstNLow (ns : Nat) (s : State) : Host.Outcome State Fault Refusal := .next (warmrstNLowStep ns s)

/-- THERMAL_RESET (R724). -/
def execThermalReset (asserted : Bool) (s : State) : Host.Outcome State Fault Refusal := .next (thermalResetStep asserted s)

/-- WATCHDOG_EXPIRE (R724). -/
def execWatchdogExpire (s : State) : Host.Outcome State Fault Refusal := .next (watchdogExpireStep s)

/-- ISLAND_WATCHDOG (R724). -/
def execIslandWatchdog (s : State) : Host.Outcome State Fault Refusal := .next (islandWatchdogStep s)

/-- COLD_RESET_WRITE (R750). -/
def execColdResetWrite (path : Path) (s : State) : Host.Outcome State Fault Refusal := .next (coldResetWriteStep path s)

/-- WARM_RESET_WRITE (R750). -/
def execWarmResetWrite (path : Path) (s : State) : Host.Outcome State Fault Refusal := .next (warmResetWriteStep path s)

/-- FIELD_RESET_WRITE (R733). -/
def execFieldResetWrite (path : Path) (s : State) : Host.Outcome State Fault Refusal := .next (fieldResetWriteStep path s)

/-- BLOCK_RESET_WRITE (R732). -/
def execBlockResetWrite (path : Path) (blk : Byte) (s : State) : Host.Outcome State Fault Refusal :=
  .next (blockResetWriteStep path blk.toNat s)

/-- RESET_EXIT (R727). -/
def execResetExit (s : State) : Host.Outcome State Fault Refusal := .next (resetExitStep s)

/-- FLASH_HOLD_EXPIRE (R735). -/
def execFlashHoldExpire (s : State) : Host.Outcome State Fault Refusal := .next (flashHoldExpireStep s)

/-- BLOCK_RESET_END (R732). -/
def execBlockResetEnd (s : State) : Host.Outcome State Fault Refusal := .next (blockResetEndStep s)

end Sys2Proof.Machine
end

