-- ==== Sys2Proof/Machine/Boot.lean ====
section
/-! DEFINITION. Boot: firmware, training, memory tests, the store, the epoch and QCP-ready (R486, R494, R691, R697, R713,
R736, R738 to R741, R749, R761). -/

namespace Sys2Proof.Machine

/-- The episode before was a WARM one. -/
def State.bootWarm (s : State) : Bool := s.get RST_LAST.REACH == 2

/-- Boot training of both set-points on every channel; a channel that fails is flagged (R713). -/
def State.bootTrain (s : State) (fail : Nat) : State :=
  let v (i : Nat) : Nat := Config.freeNat (s.free + i)
  (((s.modDmc (fun x => { x with timing := [(v 0, v 1), (v 2, v 3), (v 4, v 5), (v 6, v 7)] })).drew 8).readDens).put DMC_STATUS.TFAIL fail

/-- A valid clean-shutdown record: in the retention store, or after a FULL reset in flash (R738). -/
def State.cleanRecord (s : State) : Bool := if s.get RST_LAST.REACH = 4 then s.power.flashClean else s.power.ret.clean

/-- The power-on memory tests: items 3 and 5 and the connectivity test, whose figures nothing states, and a report of KIND
POWER_ON (R761). -/
def State.bootTests (s : State) (ok : Bool) : State :=
  let v (i : Nat) : Nat := Config.freeNat (s.free + i)
  let one (id i : Nat) : List Word :=
    [itemWord id (if ok then 0 else v i % 2) (v (i + 1)), BitVec.ofNat 32 (v (i + 2)), BitVec.ofNat 32 (v (i + 3)), BitVec.ofNat 32 (v (i + 4))]
  (s.drew 11).putReport 0 (!ok).toNat s.epoch.toNat (v 10) s.now [one 3 0, one 5 5]

/-- The settings of the slot at boot, on reset values, with its owners, baselines and quotas (R494, R497, R833). A link that
a WARM reset kept stays up (R734). -/
def State.bootLoad (s : State) (i : CfgImage) (loaded : Nat) : State :=
  let l := s.loadWords i
  let a := ((s.adopt 0 l).loadExtras i).effects s l s.now
  let a := (a.puts [(NET_W1.LINK 0, s.get (NET_W1.LINK 0)), (NET_W1.LINK 1, s.get (NET_W1.LINK 1)), (NET_W1.LINKDOWNS 0, 0),
    (NET_W1.LINKDOWNS 1, 0), (SYS_STORE.LOADED, loaded)]).bankChanges s.now
  ((a.loadQuotas i.quotas).sendCfg).clashCheck

/-- The slot that boot loads: the newest, where it is GOOD (R494). -/
def State.bootSlot (s : State) : Option (CfgImage × Nat) :=
  match s.newest with
  | none => none
  | some b =>
    match s.slot b with
    | .image i => if s.slotCode b = 1 then some (i, 1 + b.toNat) else none
    | _ => none

/-- The device enters HELD: dark, the flashing closed (R736). -/
def State.enterHeld (s : State) : State := (s.enter 1).driveFlash true

/-- QCP-ready: every transport accepts packets and SYS_RDY is high; the PTP instance listens (R740). -/
def State.qcpReadyNow (s : State) : State :=
  ({ s with power := { s.power with qcpReady := true, pins := { s.power.pins with sysRdy := true } } }).put PTP_STATUS.PSTATE 4

/-- The epoch after boot: 1 more than the greater of the slot's and the highest issued (R486). -/
def State.bootEpoch (s : State) (slot : BitVec 32) : State :=
  let e := nextEpoch (if slot < s.power.ret.epoch then s.power.ret.epoch else slot)
  (s.put SYS_EPOCH.EPOCH e.toNat).issue e

/-- Steps 2 and 3: training, except after WARM, and the memory tests, except with a clean-shutdown record or after WARM. -/
def State.bootMemory (s : State) (trainFail : Nat) (memOk : Bool) : State :=
  let t := if s.bootWarm then s.readDens else s.bootTrain trainFail
  if s.cleanRecord then (t.spoilClean).put SYS_CTRL.QUICK 1
  else if s.bootWarm then t
  else t.bootTests memOk

/-- BOOT_SEQUENCE: a firmware image that fails its check leaves the device in BOOT (R739). -/
def bootSequenceStep (fwOk : Bool) (trainFail : Nat) (memOk : Bool) (s : State) : State :=
  s.whenDo (s.power.bootDue && s.power.episode.isNone) fun s =>
    let s := { s with power := { s.power with bootDue := false } }
    if !fwOk then s
    else
      let tested := !s.cleanRecord && !s.bootWarm
      let s := ((s.bootMemory trainFail memOk).updBist).updStore
      let s := (s.put SYS_STORE.BOOTS (s.get SYS_STORE.BOOTS + 1)).updPool.updKphi
      let bad := s.flag DMC_STATUS.TFAIL || (tested && !memOk)
      let s := match (if bad then none else s.bootSlot) with
        | some (i, n) => (((s.bootLoad i n).bootEpoch i.epoch).put LSD_LASER_STATUS.TUNING 1).startLock
        | none =>
          let t := (s.bootEpoch 0).enterHeld
          if tested && !memOk then t.hwFault .dram else t
      (s.calLoad.calDueAll).qcpReadyNow

/-! ## Meanings -/

/-- BOOT_SEQUENCE (R738). -/
def execBootSequence (fwOk : Bool) (trainFail : BitVec 4) (memOk : Bool) (s : State) : Host.Outcome State Fault Refusal :=
  .next (bootSequenceStep fwOk trainFail.toNat memOk s)

end Sys2Proof.Machine
end

