-- ==== Sys2Proof/Machine/Tap.lean ====
section
/-! DEFINITION. The test access port and scan protection (R765 to R769). -/

namespace Sys2Proof.Machine

/-- Change the port. -/
def State.modTap (s : State) (f : Tap → Tap) : State := { s with tap := f s.tap }

/-- Scan is enabled (R767, R768). -/
def State.scanOn (s : State) : Bool := s.flag KEY_STATUS.SCAN

/-- An instruction is selected; one that needs scan selects BYPASS while scan is not enabled (R765). -/
def State.tapSelect (s : State) (i : TapInstr) (scan : Bool) : State :=
  s.modTap (fun t => { t with ir := if scan && !s.scanOn then .bypass else i })

/-- The response that unlocks scan for the nonce: the first 16 bytes of HMAC-SHA-256 keyed with K_SCAN (R763, R767). -/
def State.scanResponse (s : State) : BitVec 128 :=
  BitVec.ofNat 128 (beNat ((hmacSha256 (derivedKey "SCAN") (beBytes 16 s.tap.nonce.toNat ++ beBytes 6 s.serial)).take 16))

/-- The sequencer of R768: a COLD-reach reset that stays, every key of the sector and of the key RAM erased, SCANS counted,
the fuses' read port disabled, and scan enabled. -/
def State.scanClear (s : State) : State :=
  let t := s.assertReset [] 3
  (({ t with keys := {} }).updKeys.countSat KEY_STATUS.SCANS).puts [(KEY_STATUS.ID_OK, 0), (KEY_STATUS.SCAN, 1)]

/-- Scan is enabled once PERMIT is 1 and the response is right (R767). -/
def State.scanCheck (s : State) : State :=
  if s.flag KEY_JTAG.PERMIT && s.tap.matched && !s.scanOn then s.scanClear else s

/-- TAP_RESET: IDCODE is selected, and the next nonce is new. -/
def tapResetStep (s : State) : State :=
  s.drew.modTap (fun _ => { ir := .idcode, nonce := BitVec.ofNat 128 s.freeVal, fresh := true, permit := s.tap.permit })

/-- BYPASS. -/
def jtagBypassStep (s : State) : State := s.tapSelect .bypass false

/-- IDCODE (R766): version 1, part 0x8002, manufacturer 0x2B7. -/
def idcodeStep (s : State) : State := (s.tapSelect .idcode false).emit (.tdo 32 0x1800256F)

/-- SAMPLE/PRELOAD. -/
def samplePreloadStep (s : State) : State := s.tapSelect .samplePreload false

/-- CHALLENGE: the nonce. -/
def challengeStep (s : State) : State := (s.tapSelect .challenge false).emit (.tdo 128 s.tap.nonce.toNat)

/-- RESPONSE: each nonce admits one attempt, and a wrong one is counted (R767). -/
def responseStep (value : BitVec 128) (s : State) : State :=
  let right := value == s.scanResponse
  let t := (s.tapSelect .response false).modTap (fun t => { t with
    response := value, matched := right && (t.fresh || t.matched), fresh := false })
  (if right then t else t.countSat KEY_STATUS.BADRESP).scanCheck

/-- EXTEST. -/
def extestStep (s : State) : State := s.tapSelect .extest true

/-- CLAMP. -/
def clampStep (s : State) : State := s.tapSelect .clamp true

/-- HIGHZ. -/
def highzStep (s : State) : State := s.tapSelect .highz true

/-- INTSCAN. -/
def intscanStep (s : State) : State := s.tapSelect .intscan true

/-- KEY_JTAG.PERMIT: set by the owner in an authenticated session (R767). -/
def State.permitAct (s : State) (path : Path) : Except Nat State :=
  if s.pathOwns path && (s.sess s.owner).auth then
    .ok ((({ s with tap := { s.tap with permit := some (s.owner, s.cyc) } }).put KEY_JTAG.PERMIT 1).scanCheck)
  else .error 3

/-- PERMIT. -/
def permitStep (path : Path) (s : State) : State := s.acted path 0x170004 (s.permitAct path)

/-- The cycle at which PERMIT clears, 60 s after it was set (R767); 0 where it is not set. -/
def State.permitEnd (s : State) : Nat := s.tap.permit.elim 0 (fun p => p.2 + 60 * sCyc)

/-- PERMIT_EXPIRE: 60 s have passed. -/
def permitExpireStep (s : State) : State :=
  s.whenDo s.tap.permit.isSome fun s => ((s.atCyc s.permitEnd).modTap (fun t => { t with permit := none })).put KEY_JTAG.PERMIT 0

/-- LEFT: seconds before PERMIT clears, the rounding open (R767). -/
def State.permitLeft (s : State) : Nat := (divRound ((s.permitEnd - s.cyc : Nat) : Int) sCyc).toNat

/-! ## Meanings -/

/-- TAP_RESET (R765). -/
def execTapReset (s : State) : Host.Outcome State Fault Refusal := .next (tapResetStep s)

/-- BYPASS (R765). -/
def execJtagBypass (s : State) : Host.Outcome State Fault Refusal := .next (jtagBypassStep s)

/-- IDCODE (R766). -/
def execIdcode (s : State) : Host.Outcome State Fault Refusal := .next (idcodeStep s)

/-- SAMPLE_PRELOAD (R765). -/
def execSamplePreload (s : State) : Host.Outcome State Fault Refusal := .next (samplePreloadStep s)

/-- CHALLENGE (R765). -/
def execChallenge (s : State) : Host.Outcome State Fault Refusal := .next (challengeStep s)

/-- RESPONSE (R767). -/
def execResponse (value : BitVec 128) (s : State) : Host.Outcome State Fault Refusal := .next (responseStep value s)

/-- EXTEST (R765). -/
def execExtest (s : State) : Host.Outcome State Fault Refusal := .next (extestStep s)

/-- CLAMP (R765). -/
def execClamp (s : State) : Host.Outcome State Fault Refusal := .next (clampStep s)

/-- HIGHZ (R765). -/
def execHighz (s : State) : Host.Outcome State Fault Refusal := .next (highzStep s)

/-- INTSCAN (R765). -/
def execIntscan (s : State) : Host.Outcome State Fault Refusal := .next (intscanStep s)

/-- PERMIT (R767). -/
def execPermit (path : Path) (s : State) : Host.Outcome State Fault Refusal := .next (permitStep path s)

/-- PERMIT_EXPIRE (R767). -/
def execPermitExpire (s : State) : Host.Outcome State Fault Refusal := .next (permitExpireStep s)

end Sys2Proof.Machine
end

