-- ==== Sys2Proof/Machine/Qcp.lean ====
section
/-! DEFINITION. A received QCP packet: its parse, its checks in their order and its place in the session's queue (R414 to R424,
R429 to R434), and the opcodes of R436 with the parameters they need. -/

namespace Sys2Proof.Machine

/-! ## The packet as bytes (R414, R415, R419, R422) -/

/-- The number that a field of a packet spells. -/
def packetField (l : List Byte) (at_ n : Nat) : Nat := beNat ((l.drop at_).take n)

/-- A bit of FLAGS. -/
def packetFlag (l : List Byte) (bit : Nat) : Bool := packetField l 3 1 / 2 ^ bit % 2 == 1

/-- Bytes of header and parameters. -/
def bodySize (l : List Byte) : Nat := 16 + packetField l 14 2

/-- The CRC that a packet carries. -/
def packetCrc (l : List Byte) : BitVec 32 := BitVec.ofNat 32 (packetField l (bodySize l) 4)

/-- The items of the parameters with their values; none where one runs past them. The first argument bounds the items. -/
def parseItems : Nat → List Byte → Option (List Item)
  | _, [] => some []
  | 0, _ => none
  | n + 1, l =>
    let len := beNat ((l.drop 2).take 2)
    let used := 4 + (len + 3) / 4 * 4
    if l.length < used then none
    else (parseItems n (l.drop used)).map (fun t => { tag := beNat (l.take 2), val := (l.drop 4).take len } :: t)

/-- The length of a known tag is right (the table of R422). -/
def tagLenOk (tag len : Nat) : Bool :=
  if tag = 0x0008 then len == 12
  else if tag = 0x0009 then decide (len ≤ 8152)
  else if tag = 0x000A || tag = 0x000B || tag = 0x0010 then len == 8
  else if tag = 0x0011 then len == 20
  else len == 4

/-- An item is one the device knows and well formed, or an optional one that it ignores. -/
def itemOk (e : Item) : Bool := if 1 ≤ e.tag && e.tag ≤ 0x0013 then tagLenOk e.tag e.val.length else decide (0x8000 ≤ e.tag)

/-- No entry of a list comes twice. -/
def allDiffer : List Nat → Bool
  | [] => true
  | a :: t => !t.contains a && allDiffer t

/-! ## Opcodes (R436) -/

/-- Each opcode a host sends, with the tags of the parameters that may not be omitted; CAP_SEND needs one of two more. -/
def opcodeTags : List (Nat × List Nat) := [
  (0x0100, []), (0x0101, []), (0x0102, [1, 2]), (0x0103, [1, 9]), (0x0104, []), (0x0105, [2]), (0x0106, [4]), (0x0107, [4, 2]),
  (0x0200, []), (0x0201, [1, 9]), (0x0202, []), (0x0203, []), (0x0204, [3]), (0x0205, [3]), (0x0206, [0xA, 9]), (0x0207, [2])]
  ++ [(0x0300, [3]), (0x0301, [3, 4, 2]), (0x0302, [3]), (0x0303, [2]), (0x0304, [3, 0x12, 2]),
  (0x0400, [3]), (0x0401, [3]), (0x0402, [3]), (0x0403, [3]), (0x0404, [3, 0xA, 2, 0xC]), (0x0405, [3, 0xC]),
  (0x0500, [0xB]), (0x0501, []), (0x0502, [3]), (0x0503, []), (0x0504, [3])]
  ++ [(0x0600, []), (0x0601, [9]), (0x0602, []), (0x0603, []), (0x0604, [8]),
  (0x0700, [3, 0xA, 9]), (0x0701, [3, 0xF, 2]), (0x0702, [3]), (0x0703, [3]), (0x0704, [3]),
  (0x0800, [3]), (0x0801, [3, 2]), (0x0802, [3]), (0x0803, [3]), (0x0804, [0xB]),
  (0x0900, []), (0x0901, [8]), (0x0902, [0x12]), (0x0903, [3, 2]), (0x0904, [])]
  ++ [(0x0A00, []), (0x0A01, []), (0x0A02, []), (0x0A03, [1, 9]), (0x0A04, []),
  (0x0B00, [9]), (0x0B01, []), (0x0B02, [3, 9]), (0x0B03, [3]), (0x0B04, [9]), (0x0B05, [])]

/-- The tags an opcode needs; none of an opcode that is not defined. -/
def tagsOf (op : Nat) : Option (List Nat) := (opcodeTags.find? (fun e => e.1 == op)).map (·.2)

/-- The parameters of an opcode are well formed (check 9). -/
def paramsOk (op : Nat) (prm : List Byte) : Bool :=
  match parseItems 2048 prm with
  | none => false
  | some l =>
    let tags := l.map (·.tag)
    l.all itemOk && allDiffer tags && ((tagsOf op).getD []).all tags.contains
      && (op != 0x0405 || tags.contains 0x11 || tags.contains 0x10)

/-! ## The checks (R429) -/

/-- A packet that fails check 1, 2 or 3 is dropped and counted; a mailbox that brought it is free again. -/
def State.dropPacket (s : State) (via : Via) (i : Nat) : State :=
  let t := s.count (QCP_ERRCNT.COUNT i)
  match via with
  | .udp _ => t
  | .mailbox m => t.put (QCP_MB_CTRL.BUSY m.val) 0

/-- Check 1. -/
def frameOk (l : List Byte) : Bool :=
  decide (20 ≤ l.length) && packetField l 0 2 == 0x5143 && !packetFlag l 7 && !packetFlag l 5 && !packetFlag l 4

/-- Check 2. -/
def lengthOk (l : List Byte) : Bool :=
  packetField l 14 2 % 4 == 0 && l.length == bodySize l + 4 + (packetFlag l 6).toNat * 16 && decide (l.length ≤ 8192)

/-- The parameters of a packet. -/
def packetParams (l : List Byte) : List Byte := (l.drop 16).take (packetField l 14 2)

/-- The items of a packet, as far as they are well formed. -/
def packetItems (l : List Byte) : List Item := (parseItems 2048 (packetParams l)).getD []

/-- AUTH of a well-formed OPEN's DATA equals its FLAGS.MAC; where it does not R455 refuses the OPEN before R456 and R457 act. -/
def openAgrees (l : List Byte) : Bool := !paramsOk 0x0B00 (packetParams l) || (openData (dataOf (packetItems l))).1 == packetFlag l 6

/-- Check 6: the MAC of an authenticated session, or the one that an OPEN with authentication carries (R417, R418, R455, R456). -/
def State.macOk (s : State) (r op : Nat) (l : List Byte) : Bool :=
  let right (k : List Byte) : Bool := packetFlag l 6 && macOf k (l.take (bodySize l + 4)) == l.drop (bodySize l + 4)
  if op = 0x0B00 then
    (if packetFlag l 6 && openAgrees l then (match s.keyOf r with
      | some k => right k
      | none => true) else true)
  else match (s.sess r).key with
    | some k => right k
    | none => true

/-- Checks 8 to 10 of a request whose sequence has been accepted: it waits for its turn, or is refused. -/
def State.enqueue (s : State) (q : ReqHdr) (op : Nat) (l : List Byte) : State :=
  if (tagsOf op).isNone then (s.count (QCP_ERRCNT.COUNT 7)).reply q op stBadOpcode
  else if !paramsOk op (packetParams l) then (s.count (QCP_ERRCNT.COUNT 8)).reply q op stBadTlv
  else if 16 ≤ (s.sess q.session.val).queue.length then (s.count (QCP_ERRCNT.COUNT 9)).reply q op stBusy
  else (s.modSess q.session.val (fun x => { x with
    queue := x.queue ++ [{ seq := q.seq, opcode := op, via := q.via, crc := some (packetCrc l), items := packetItems l }] })).qcpCount

/-- Check 7: a fresh sequence is accepted; an OPEN's is measured against OPENSEQ, and accepted with the session it opens. -/
def State.checkSequence (s : State) (q : ReqHdr) (op : Nat) (l : List Byte) : State :=
  let r := q.session.val
  if op = 0x0B00 then (if !openAgrees l || s.openFresh r q.seq then s.enqueue q op l else s.notFresh q op (some (packetCrc l)))
  else if (s.sess r).fresh q.seq then (s.modSess r (fun x => x.accept q.seq op (some (packetCrc l)) s.cyc)).enqueue q op l
  else s.notFresh q op (some (packetCrc l))

/-- A packet of a session number from 0 to 7: checks 5 to 10. -/
def State.checkSession (s : State) (via : Via) (r : Fin 8) (l : List Byte) : State :=
  let op := packetField l 12 2
  let seq := BitVec.ofNat 32 (packetField l 8 4)
  if !(s.sess r.val).isOpen && op != 0x0B00 then (s.count (QCP_ERRCNT.COUNT 4)).errorReply via r.val seq op stNoSession
  else if !s.macOk r.val op l then (s.count (QCP_ERRCNT.COUNT 5)).errorReply via r.val seq op stAuthFail
  else s.checkSequence { session := r, seq := seq, via := via } op l

/-- A packet meets the checks in their order (R429). -/
def State.receive (s : State) (via : Via) (l : List Byte) : State :=
  if !frameOk l then s.dropPacket via 0
  else if !lengthOk l then s.dropPacket via 1
  else if crc32c (l.take (bodySize l)) != packetCrc l then s.dropPacket via 2
  else
    let op := packetField l 12 2
    let seq := BitVec.ofNat 32 (packetField l 8 4)
    let r := packetField l 4 1
    if packetField l 2 1 != 1 then (s.count (QCP_ERRCNT.COUNT 3)).errorReply via r seq op stBadVersion
    else if h : r < 8 then s.checkSession via ⟨r, h⟩ l
    else (s.count (QCP_ERRCNT.COUNT 4)).errorReply via r seq op stNoSession

/-- QCP is served on a transport: UDP_PORT of a port whose UDP_EN is 1, or a mailbox (R424). -/
def State.served (s : State) : Via → Bool
  | .udp p => s.flag (if p.eth = 0 then QCP_CFG.UDP_EN0 else QCP_CFG.UDP_EN1) && p.dport.toNat == s.get QCP_CFG.UDP_PORT
  | .mailbox _ => true

/-- QCP_PACKET: before QCP-ready no packet is received (R740). -/
def qcpPacketStep (via : Via) (l : List Byte) (s : State) : State :=
  s.whenDo (s.power.qcpReady && s.served via) fun s => s.receive via l

/-! ## Meanings -/

/-- QCP_PACKET (R429). -/
def execQcpPacket (via : Via) (bytes : List Byte) (s : State) : Host.Outcome State Fault Refusal :=
  .next (qcpPacketStep via bytes s)

end Sys2Proof.Machine
end

