-- ==== Sys2Proof/Machine/Reads.lean ====
section
/-! DEFINITION. Reads of the register space: the words that are computed, those another session cannot read, and the groups
that latch into a shadow (R13, R355, R426, R462, R512, R734, R786, R789 to R793). -/

namespace Sys2Proof.Machine

/-! ## A word as it stands -/

/-- The mailbox that a register or buffer word belongs to (R450, R451). -/
def mailboxOf (off : Nat) : Option (Fin 2) :=
  if (0x190100 ≤ off && off < 0x190120) || (0x192000 ≤ off && off < 0x198000) then some 0
  else if (0x190120 ≤ off && off < 0x190140) || (0x198000 ≤ off && off < 0x19E000) then some 1
  else none

/-- The one path that reaches a mailbox (R426). -/
def mailboxPath (m : Fin 2) : Path := if m = 0 then .pcie else .spi

/-- The words of an instant in the layout of PTP_TIME (R512). -/
def timeWords (t : Ts) : List Word :=
  [BitVec.ofNat 32 (nsOf t), BitVec.ofNat 32 (secOf t), BitVec.ofNat 32 (fracOf t * 65536 + secOf t / 2 ^ 32 % 65536)]

/-- Seconds before a perturbation expires, the rounding open. -/
def State.ptbLeft (s : State) : Nat :=
  if s.flag PTB_STATUS.ACTIVE then
    (divRound ((s.ptb.since + s.get PTB_CTRL.LIFE * sCyc - s.cyc : Nat) : Int) sCyc).toNat
  else 0

/-- A word that a path may read, as it stands now. -/
def State.live (s : State) (off : Nat) : Word :=
  if 0x0E0000 ≤ off && off < 0x0E000C then (timeWords s.now).getD ((off - 0x0E0000) / 4) 0
  else if off = 0x180004 then PTB_STATUS.LEFT.intoWord (s.rd off) s.ptbLeft
  else if off = 0x180044 then s.rd off + BitVec.ofNat 32 s.bpActs
  else if off = 0x180050 then s.rd off + BitVec.ofNat 32 s.stallActs
  else if off = 0x130000 then s.updMonRef.rd off
  else if off = 0x12000C then s.updFldRef.rd off
  else if off = 0x170004 then KEY_JTAG.LEFT.intoWord (s.rd off) s.permitLeft
  else if 0x0A0040 ≤ off && off < 0x0A0080 then (REED_UNIT.LOAD ((off - 0x0A0040) / 4)).intoWord (s.rd off) (s.unitLoad ((off - 0x0A0040) / 4))
  else s.rd off

/-- A word as a path reads it beside shadows: another path's mailbox and the KEY block through an unbound interface read 0, and such an
interface reads every other block (R426, R462); a reed window read by another session than its slot's owner gives a value that the spec
does not state (R355). -/
def State.see (s : State) (path : Path) (off : Nat) : Word × State :=
  if (mailboxOf off).any (fun m => !(path == mailboxPath m)) then (0, s)
  else if off / 0x10000 = 0x17 && (s.pathSession path).isNone then (0, s)
  else if inProgram off || inReedData off then
    let own : Bool := (s.pathSession path).isNone || match s.windowSlot off with
      | some o => (s.slotOwner o).isSome && s.slotOwner o == s.pathSession path
      | none => false
    if own then (s.rd off, s) else (BitVec.ofNat 32 s.freeVal, s.drew)
  else (s.live off, s)

/-! ## Groups (R789) -/

/-- A group, or an array of them: its lowest word, stride, count and words. -/
structure Group where
  base : Nat
  stride : Nat
  count : Nat
  words : Nat
  deriving DecidableEq, Repr

/-- The groups of R789. -/
def groups : List Group := [
  { base := 0x000008, stride := 8, count := 1, words := 2 }, { base := 0x000020, stride := 8, count := 1, words := 2 },
  { base := 0x000030, stride := 8, count := 1, words := 2 }, { base := 0x020010, stride := 12, count := 1, words := 3 },
  { base := 0x040004, stride := 12, count := 1, words := 3 }, { base := 0x070008, stride := 8, count := 1, words := 2 },
  { base := 0x080120, stride := 0x100, count := 2, words := 5 }, { base := 0x080144, stride := 0x100, count := 2, words := 4 },
  { base := 0x090014, stride := 8, count := 1, words := 2 }, { base := 0x091014, stride := 32, count := 16, words := 3 },
  { base := 0x0E0000, stride := 12, count := 1, words := 3 }, { base := 0x0F0040, stride := 44, count := 1, words := 11 },
  { base := 0x101000, stride := 8, count := 4096, words := 2 }, { base := 0x120200, stride := 32, count := 12, words := 5 },
  { base := 0x130200, stride := 32, count := 44, words := 5 }, { base := 0x140100, stride := 32, count := 13, words := 8 }]

/-- The lowest word of a group that holds an offset, where this array of groups has one. -/
def Group.lowest (g : Group) (off : Nat) : Option Nat :=
  if g.base ≤ off && off < g.base + g.stride * g.count && (off - g.base) % g.stride < 4 * g.words then
    some (off - (off - g.base) % g.stride)
  else none

/-- The group that holds an offset: its lowest word and its number of words. -/
def groupAt (off : Nat) : Option (Nat × Nat) := groups.findSome? (fun g => (g.lowest off).map (fun a => (a, g.words)))

/-! ## Shadows (R790, R791, R793) -/

/-- The shadow of a path. -/
def State.shadow (s : State) (path : Path) : Shadow := (s.shadows.find? (fun x => x.path == path)).getD { path := path }

/-- Replace a path's shadow. -/
def State.putShadow (s : State) (x : Shadow) : State :=
  { s with shadows := x :: s.shadows.filter (fun y => !(y.path == x.path)) }

/-- Latch a group into a path's shadow. -/
def State.latch (s : State) (path : Path) (low n : Nat) : State :=
  let x := s.shadow path
  let new := (List.range n).map (fun i => (low + 4 * i, s.live (low + 4 * i)))
  s.putShadow { x with
    words := new ++ x.words.filter (fun e => decide (e.1 < low) || decide (low + 4 * n ≤ e.1))
    ignFresh := if low = 0x000030 then true else x.ignFresh }

/-- A word of a path's shadow; 0 before its group was first latched (R791). -/
def Shadow.word (x : Shadow) (off : Nat) : Word := ((x.words.find? (fun e => e.1 == off)).map (·.2)).getD 0

/-- SYS_IGN_CNT: the first read after the path's latch takes the shadow's value from the live count (R793). -/
def State.takeIgn (s : State) (path : Path) : Word × State :=
  let x := s.shadow path
  if x.ignFresh then
    let n := x.word 0x000034
    (n, (s.putShadow { x with ignFresh := false }).put SYS_IGN_CNT.COUNT (s.get SYS_IGN_CNT.COUNT - n.toNat))
  else (0, s)

/-- A read of one word on a path. -/
def State.readWord (s : State) (path : Path) (off : Nat) : Word × State :=
  if off = 0x000034 then s.takeIgn path
  else
    match groupAt off with
    | none => s.see path off
    | some (low, n) => if off = low then (s.live off, s.latch path low n) else ((s.shadow path).word off, s)

/-- Reads of consecutive words, in ascending order, the offset wrapping at the end of the space. -/
def State.readWords (s : State) (path : Path) : Nat → Nat → List Word × State
  | _, 0 => ([], s)
  | off, n + 1 =>
    let a := s.readWord path (off % 0x1000000)
    let b := a.2.readWords path (off % 0x1000000 + 4) n
    (a.1 :: b.1, b.2)

/-! ## Direct reads -/

/-- A direct read of words: what it returns leaves by its path. In a WARM episode a PCIe read returns all ones, and otherwise
nothing answers while the block is in reset (R734). -/
def State.directRead (s : State) (path : Path) (off n : Nat) : State :=
  match s.power.episode with
  | some e =>
    if path == .pcie && e.reach == 2 then s.emit (.read path (List.replicate n 0xFFFFFFFF)) else s.emit (.read path [])
  | none =>
    let a := s.readWords path off n
    a.2.emit (.read path a.1)

/-- GROUP_LATCH_READ: the lowest word of a group is read. -/
def groupLatchReadStep (path : Path) (off : Nat) (s : State) : State :=
  s.whenDo ((groupAt off).any (fun g => g.1 == off)) fun s => s.directRead path off 1

/-- SYS_IGN_CNT_READ. -/
def sysIgnCntReadStep (path : Path) (s : State) : State := s.directRead path 0x000034 1

/-! ## Meanings -/

/-- GROUP_LATCH_READ (R13). -/
def execGroupLatchRead (path : Path) (off : BitVec 24) (s : State) : Host.Outcome State Fault Refusal :=
  .next (groupLatchReadStep path off.toNat s)

/-- SYS_IGN_CNT_READ (R793). -/
def execSysIgnCntRead (path : Path) (s : State) : Host.Outcome State Fault Refusal := .next (sysIgnCntReadStep path s)

end Sys2Proof.Machine
end

