-- ==== Sys2Proof/Machine/Registers.lean ====
section
/-! DEFINITION. Direct writes: the actions that W1S and W1C bits start, what the other bits do, what is ignored and flagged,
and the rows of the register actions (R12, R426 to R428, R438, R488 to R490, R773, R813, R814, R829, R830). -/

namespace Sys2Proof.Machine

/-! ## Light (R58, R66, R70, R81, R86, R528) -/

/-- The owner writes 1 to FAIL; while FAIL is clear nothing happens (R58). -/
def State.failAct (s : State) (path : Path) : Except Nat State :=
  s.byOwner path (fun s => if s.flag LSD_LASER_STATUS.FAIL then s.failCleared else s)

/-- The owner writes REARM (R66, R67). -/
def State.rearmAct (s : State) (path : Path) : Except Nat State := s.byOwner path State.rearm

/-- GATE_OPEN bits cleared: the port may launch again, and with no gate left open the fault is outstanding no longer. -/
def State.clearGates (s : State) (bits : Nat) : State :=
  let one (t : State) (p : Port) : State := if bits / 2 ^ p.idx % 2 = 1 then t.modPl p (fun x => { x with stopped := false, gateLow := 0 }) else t
  let t := (one (one s .a) .b).put LSD_DIAG.GATE_OPEN (s.get LSD_DIAG.GATE_OPEN - (s.get LSD_DIAG.GATE_OPEN &&& bits))
  if t.flag LSD_DIAG.GATE_OPEN then t else t.clearFault .gate

/-- W1C bits of a word cleared, with what that does. -/
def State.clearBits (s : State) (off : Nat) (bits : Word) : State :=
  let s := if off = LSD_DIAG.GATE_OPEN.addr then s.clearGates (bits.toNat % 4) else s
  let t := s.wr off (s.rd off &&& ~~~bits)
  if off = OCX_STATUS.FAIL.addr && bits.getLsbD 6 then t.clearFault .oven else t

/-! ## Mailboxes (R426 to R428, R451) -/

/-- The bytes of a request in its buffer. -/
def State.mailBytes (s : State) (m : Fin 2) (len : Nat) : List Byte :=
  ((s.rdWords (mbRequest m.val) ((len + 3) / 4)).flatMap wordBytes).take len

/-- GO: the packet in the request buffer is submitted; ignored and counted while BUSY or DONE is 1. -/
def State.mailGo (s : State) (m : Fin 2) : State :=
  if s.flag (QCP_MB_CTRL.BUSY m.val) || s.flag (QCP_MB_CTRL.DONE m.val) then s.countSat (QCP_MB_LOST.GO_IGN m.val)
  else qcpPacketStep (.mailbox m) (s.mailBytes m (s.get (QCP_MB_CTRL.LEN m.val))) (s.put (QCP_MB_CTRL.BUSY m.val) 1)

/-- Deliver the oldest event that waits for a mailbox, the lowest session first. -/
def State.nextMail (s : State) (m : Fin 2) : State :=
  let first (r : Nat) : Option (Nat × LogEntry) :=
    ((s.sess r).log.find? (fun e => !e.delivered && e.dest == .mailbox m)).map (fun e => (r, e))
  match (List.range 8).findSome? first with
  | none => s
  | some (r, e) =>
    (s.modSess r (fun x => { x with log := x.log.map (fun y => if y = e then { y with delivered := true } else y) })).sendEvent
      (.mailbox m) e.pkt

/-- EVT written 1: the event buffer is free, and the next event enters it (R428). -/
def State.mailEvt (s : State) (m : Fin 2) : State :=
  if s.flag (QCP_MB_CTRL.EVT m.val) then (s.put (QCP_MB_CTRL.EVT m.val) 0).nextMail m else s

/-- A write to a mailbox word on its own path: CTRL, or the request buffer. A GO while BUSY or DONE is 1, as they stand before the write, is
ignored and counted whatever its LEN (R427); another GO with a LEN out of range is ignored and flagged (R830). -/
def State.mailWrite (s : State) (m : Fin 2) (off : Nat) (w : Word) : Except Nat State :=
  if off = (QCP_MB_CTRL.GO m.val).addr then
    let go := w.getLsbD 31
    let len := (QCP_MB_CTRL.LEN m.val).ofWord w
    let busy := s.flag (QCP_MB_CTRL.BUSY m.val)
    let taken := busy || s.flag (QCP_MB_CTRL.DONE m.val)
    if go && !taken && (decide (len < 20) || decide (8192 < len)) then .error 4
    else
      let s := if w.getLsbD 29 then s.put (QCP_MB_CTRL.DONE m.val) 0 else s
      let s := if w.getLsbD 28 then s.mailEvt m else s
      let s := (s.putFlag (QCP_MB_CTRL.IRQ_EN m.val) (w.getLsbD 27)).msiSince s
      let s := if busy || (go && taken) then s else s.put (QCP_MB_CTRL.LEN m.val) len
      .ok (if !go then s else if taken then s.countSat (QCP_MB_LOST.GO_IGN m.val) else s.mailGo m)
  else if mbRequest m.val ≤ off && off < mbReply m.val then .ok (s.wr off w)
  else .error 4

/-! ## Baselines, captures, reed slots, TIC, ridge, pair (R263, R264, R301, R312, R315, R345, R347, R544, R545, R586) -/

/-- A port's BASE.START and BASE.ABORT, by the owner (R275). -/
def State.baseArmAct (s : State) (path : Path) (p : Port) : Except Nat State := s.byOwner path (fun s => s.brlArm p)
def State.baseAbortAct (s : State) (path : Path) (p : Port) : Except Nat State := s.byOwner path (fun s => s.brlBaseAbort p)

/-- The ARM bit of a capture window: a refusal shows in ARMERR. -/
def State.capArmAct (s : State) (path : Path) (c : Nat) : Except Nat State :=
  match s.pathSession path with
  | none => .error 3
  | some r => .ok (s.capArmBit c (some r))

/-- An action of a capture window that only its owner may write (R315). -/
def State.capOwnAct (s : State) (path : Path) (c : Nat) (act : State → State) : Except Nat State :=
  if (s.pathSession path).isSome && s.capOwner c == s.pathSession path then .ok (act s) else .error 3

/-- START or STOP of a slot window: its owner's alone, and START as R330, R346 and R495 allow it. -/
def State.slotAct (s : State) (path : Path) (o : Nat) (act : Nat → Option Nat → Option State) : Except Nat State :=
  if (s.pathSession path).isNone || s.slotOwner o != s.pathSession path then .error 3
  else match act o (s.pathSession path) with
    | some t => .ok t
    | none => .error 4

/-- TIC_CTRL.START (R544). -/
def State.ticStartAct (s : State) (path : Path) : Except Nat State :=
  match s.pathSession path with
  | none => .error 3
  | some r => if s.flag TIC_CTRL.RUN then .error 4 else .ok (s.ticStart r none)

/-- A measurement is cancelled before its first edge, with the TIC_START it runs for (R545). -/
def State.ticAbort (s : State) : State :=
  if !s.flag TIC_CTRL.RUN || s.tb.tic.committed then s
  else match s.tb.tic.starter, s.tb.tic.seq with
    | some r, some q => s.ticCancel.complete r q stCancelled
    | _, _ => s.ticCancel

/-- TIC_CTRL.ABORT: only the starting session's. -/
def State.ticAbortAct (s : State) (path : Path) : Except Nat State :=
  if (s.pathSession path).isNone || (s.flag TIC_CTRL.RUN && s.tb.tic.starter != s.pathSession path) then .error 3
  else .ok s.ticAbort

/-- PAIR_ECHO: the attached referee session's alone (R617). -/
def State.echoAct (s : State) (path : Path) (w : Word) : Except Nat State :=
  if s.pair.host.isSome && (s.pair.host.map (·.val)) == s.pathSession path then .ok (s.pairEcho w) else .error 3

/-! ## The parts of a word that act -/

/-- A part of a write: it acts, or tells why it is ignored. -/
abbrev Part := State → Except Nat State

/-- A part that acts where its bit is written 1. -/
def part (w : Word) (bit : Nat) (p : Part) : List Part := if w.getLsbD bit then [p] else []

/-- RST_CTRL: of COLD, WARM and BLOCK the widest, FIELD beside it (R750). -/
def rstParts (path : Path) (w : Word) : List Part :=
  part w 29 (fun s => s.fieldAct path)
    ++ (if w.getLsbD 31 then [fun s => s.coldAct path]
      else if w.getLsbD 30 then [fun s => s.warmAct path]
      else part w 28 (fun s => s.blockAct path (RST_CTRL.BLK.ofWord w)))

/-- What the W1S bits of a word start. -/
def actionParts (path : Path) (off : Nat) (w : Word) : List Part :=
  if off = rstCtrl then rstParts path w
  else if off = LSD_ILK.REARM.addr then part w 31 (fun s => s.rearmAct path)
  else if off = (BRL_BASE.START 0).addr then part w 31 (fun s => s.baseArmAct path .a) ++ part w 30 (fun s => s.baseAbortAct path .a)
  else if off = (BRL_BASE.START 1).addr then part w 31 (fun s => s.baseArmAct path .b) ++ part w 30 (fun s => s.baseAbortAct path .b)
  else if 0x091000 ≤ off && off < 0x091200 && off % 32 = 0 then
    let c := (off - 0x091000) / 32
    part w 30 (fun s => s.capOwnAct path c (fun t => t.capAbort c)) ++ part w 29 (fun s => s.capOwnAct path c (fun t => t.capRelease c))
      ++ part w 31 (fun s => s.capArmAct path c)
  else if 0x0A0100 ≤ off && off < 0x0A0300 && off % 32 = 0 then
    let o := (off - 0x0A0100) / 32
    part w 30 (fun s => s.slotAct path o s.stopBit) ++ part w 31 (fun s => s.slotAct path o s.startBit)
  else if off = TIC_CTRL.START.addr then part w 30 (fun s => s.ticAbortAct path) ++ part w 31 (fun s => s.ticStartAct path)
  else if off = RDG_SYNC.SEND.addr then part w 31 (fun s => s.ridgeSyncAct path)
  else if off = PAIR_ECHO.HSEQ.addr then [fun s => s.echoAct path w]
  else if off = FLD_CTRL.SWSTART.addr then part w 31 (fun s => s.fldSwAct path) ++ part w 30 (fun s => s.fldInjAct path)
  else if off = MON_CTRL.SWSTART.addr then part w 31 (fun s => s.monSwAct path) ++ part w 30 (fun s => s.monInjAct path)
  else if off = FLD_HB.KICK.addr then part w 31 (fun s => s.kickAct path)
  else if off = KEY_JTAG.PERMIT.addr then part w 31 (fun s => s.permitAct path)
  else []

/-- The W1C bits of a word: FAIL is the owner's, the others those of a session that may write the word. -/
def State.clearPart (s : State) (path : Path) (row : RegRow) (off : Nat) (bits : Word) : Except Nat State :=
  if off = LSD_LASER_STATUS.FAIL.addr then s.failAct path
  else match s.pathSession path with
    | none => .error 3
    | some r => if s.writerOk r off bits row.writer then .ok (s.clearBits off bits) else .error 3

/-! ## The parts that hold a value -/

/-- A word shapes the sweep: one of a pattern bank or of the chainage windows, word 3 of their entries included, or a register that its
table says does (R105, R201, R490). -/
def shapesSweep (off : Nat) : Bool := inPattern off || (decide (0x061000 ≤ off) && decide (off < 0x061800)) || (rowAt off).any (·.shapes)

/-- An RW word or window word as a write of it in force changes the block (R490): outputs of the island at once, every other
word with the effects of a commit, and the next entry into emission validates what shapes the sweep; a write of SWAP keeps the verdict
(log entry 159). -/
def State.setWord (s : State) (path : Path) (off : Nat) (w : Word) : Except Nat State :=
  if off = FLD_FOUT.SET.addr then s.foutAct path (FLD_FOUT.SET.ofWord w)
  else
    let v := mergeWord off (s.rd off) w
    let t := (s.wr off v).effects s [(off, v)] s.now
    .ok { t with qcp := { t.qcp with touched := t.qcp.touched || shapesSweep off } }

/-- A session other than the owner writes a field that is the owner's (R829). -/
def State.notOwners (s : State) (path : Path) (row : RegRow) : Bool :=
  row.writer == .owner && (s.pathSession path).any (fun r => r != s.owner)

/-- The RW bits of a word, or a window word: ignored in the cases of R488 and R830, in their order; a write of the owner's fields by
another session is ignored for that first (R829). A write that starts or clears something in a word that also holds settings is ignored for
these only where they would change, unless the word shapes the sweep and the device emits (R91; log entry 42). -/
def State.valuePart (s : State) (path : Path) (off : Nat) (w : Word) : Except Nat State :=
  let row := rowAt off
  let acts := row.any (fun x => (w &&& BitVec.ofNat 32 (x.w1c + x.w1s)) != 0) && mergeWord off (s.rd off) w == s.rd off
  if !acts && row.any (fun x => s.notOwners path x) then .error 3
  else if row.any (fun x => x.shapes) && s.emits then .error 1
  else if acts then .ok s
  else if row.any (fun x => x.txnOnly) then .error 2
  else match s.pathSession path with
    | none => .error 3
    | some r =>
      if inProgram off then .error 4
      else if !s.mayCommit r off w then .error 3
      else if s.locked off then .error 4
      else if h : r < 8 then (if s.valueOk ⟨r, h⟩ off w then s.setWord path off w else .error 4)
      else .error 3

/-- The parts of a write of a word of the map: its W1C bits, its actions and its values. -/
def writeParts (path : Path) (row : RegRow) (off : Nat) (w : Word) : List Part :=
  let bits := w &&& BitVec.ofNat 32 row.w1c
  (if bits = 0 then [] else [fun (s : State) => s.clearPart path row off bits]) ++ actionParts path off w
    ++ (if row.rw = 0 then [] else [fun (s : State) => s.valuePart path off w])

/-- Parts one after another; the cause of the first that is ignored. Nothing more of a write acts once it has reset the
block. -/
def runParts : List Part → State → State × Option Nat
  | [], s => (s, none)
  | p :: t, s =>
    if s.power.episode.isSome then (s, none)
    else match p s with
    | .ok u => runParts t u
    | .error c => ((runParts t s).1, some c)

/-! ## A direct write (R488, R489) -/

/-- A write before it is flagged: the state, and the cause of what is ignored. -/
def State.tryWrite (s : State) (path : Path) (off : Nat) (w : Word) : State × Option Nat :=
  if off % 4 != 0 then (s, some 4)
  else if inPattern off || inProgram off || inReedData off then
    match s.valuePart path off w with
    | .ok t => (t, none)
    | .error c => (s, some c)
  else match rowAt off with
    | none => (s, some (if shapesSweep off && s.emits then 1 else if (s.pathSession path).isNone then 3 else 4))
    | some row =>
      if (s.pathSession path).isNone then (s, some (if row.w1s + row.w1c != 0 then 3 else if row.shapes && s.emits then 1 else if row.txnOnly then 2 else 3))
      else if off / 0x10000 = 0x18 || row.rw + row.w1c + row.w1s = 0 then (s, some 4)
      else runParts (writeParts path row off w) s

/-- A direct write of one word, and whether it was ignored. A mailbox ignores the writes of any other path, which lacks the right (R426,
R488). -/
def State.directWrite (s : State) (path : Path) (off : Nat) (w : Word) : State × Bool :=
  let flag (r : State × Option Nat) : State × Bool :=
    match r.2 with
    | none => (r.1, false)
    | some c => (r.1.ignore path off c, true)
  match mailboxOf off with
  | some m =>
    if !(path == mailboxPath m) then flag (s, some 3)
    else match s.mailWrite m off w with
      | .ok t => (t, false)
      | .error c => flag (s, some c)
  | none => flag (s.tryWrite path off w)

/-- A write that arrives while the block is in reset is dropped (R734). -/
def State.writeIn (s : State) (path : Path) (off : Nat) (w : Word) : State :=
  if s.power.episode.isSome then s else (s.directWrite path off w).1

/-- REGISTER_WRITE. -/
def registerWriteStep (path : Path) (off : Nat) (w : Word) (s : State) : State := s.writeIn path off w

/-! ## Rows of the register actions -/

/-- FAIL_WRITE. -/
def failWriteStep (path : Path) (s : State) : State := s.acted path LSD_LASER_STATUS.FAIL.addr (s.failAct path)

/-- REARM. -/
def rearmStep (path : Path) (s : State) : State := s.acted path LSD_ILK.REARM.addr (s.rearmAct path)

/-- ENABLE_WRITE. -/
def enableWriteStep (path : Path) (on : Bool) (s : State) : State :=
  s.acted path LSD_ILK.ENABLE.addr (s.byOwner path (fun s => s.setEnable on))

/-- APR_EN_WRITE. -/
def aprEnWriteStep (path : Path) (on : Bool) (s : State) : State :=
  s.acted path LSD_APR_CTRL.EN.addr (s.byOwner path (fun s =>
    if s.flag LSD_APR_CTRL.EN = on then s else (s.putFlag LSD_APR_CTRL.EN on).aprEnChanged))

/-- BASELINE_ARM. -/
def baselineArmStep (path : Path) (p : Port) (s : State) : State := s.acted path (BRL_BASE.START p.idx).addr (s.baseArmAct path p)

/-- BASELINE_ABORT. -/
def baselineAbortStep (path : Path) (p : Port) (s : State) : State := s.acted path (BRL_BASE.ABORT p.idx).addr (s.baseAbortAct path p)

/-- ARM. -/
def armStep (path : Path) (c : Nat) (s : State) : State := s.acted path (CAPU_W0.ARM c).addr (s.capArmAct path c)

/-- CAPTURE_ABORT_BIT. -/
def captureAbortBitStep (path : Path) (c : Nat) (s : State) : State :=
  s.acted path (CAPU_W0.ABORT c).addr (s.capOwnAct path c (fun t => t.capAbort c))

/-- RELEASE. -/
def releaseStep (path : Path) (c : Nat) (s : State) : State :=
  s.acted path (CAPU_W0.RELEASE c).addr (s.capOwnAct path c (fun t => t.capRelease c))

/-- REED_START_BIT. -/
def reedStartBitStep (path : Path) (o : Nat) (s : State) : State := s.acted path (REEDS_W0.START o).addr (s.slotAct path o s.startBit)

/-- REED_STOP_BIT. -/
def reedStopBitStep (path : Path) (o : Nat) (s : State) : State := s.acted path (REEDS_W0.STOP o).addr (s.slotAct path o s.stopBit)

/-- TIC_START_BIT. -/
def ticStartBitStep (path : Path) (s : State) : State := s.acted path TIC_CTRL.START.addr (s.ticStartAct path)

/-- TIC_ABORT_BIT. -/
def ticAbortBitStep (path : Path) (s : State) : State := s.acted path TIC_CTRL.ABORT.addr (s.ticAbortAct path)

/-- PAIR_ECHO_WRITE. -/
def pairEchoWriteStep (path : Path) (hseq : BitVec 32) (s : State) : State := s.acted path PAIR_ECHO.HSEQ.addr (s.echoAct path hseq)

/-- The mailbox of a path. -/
def pathMailbox : Path → Option (Fin 2)
  | .pcie => some 0
  | .spi => some 1
  | .qcp _ => none

/-- A write of a path's mailbox control word that keeps IRQ_EN. -/
def State.mailCtrl (s : State) (path : Path) (bits len : Nat) : State :=
  match pathMailbox path with
  | none => s
  | some m => s.writeIn path (QCP_MB_CTRL.GO m.val).addr
      (BitVec.ofNat 32 (bits + s.get (QCP_MB_CTRL.IRQ_EN m.val) * 2 ^ 27 + len))

/-- The LEN that a path's mailbox holds. -/
def State.mailLen (s : State) (path : Path) : Nat :=
  match pathMailbox path with
  | none => 0
  | some m => s.get (QCP_MB_CTRL.LEN m.val)

/-- MAILBOX_GO. -/
def mailboxGoStep (path : Path) (len : Nat) (s : State) : State := s.mailCtrl path (2 ^ 31) len

/-- MAILBOX_DONE_CLEAR. -/
def mailboxDoneClearStep (path : Path) (s : State) : State := s.mailCtrl path (2 ^ 29) (s.mailLen path)

/-- MAILBOX_EVT_CLEAR. -/
def mailboxEvtClearStep (path : Path) (s : State) : State := s.mailCtrl path (2 ^ 28) (s.mailLen path)

/-! ## SPI (R813, R814) -/

/-- SPI_READ_CYCLE: command 0x0B; any other has no effect, and a misaligned offset is flagged. -/
def spiReadCycleStep (cmd : Byte) (off count : Nat) (s : State) : State :=
  if cmd != 0x0B then s
  else if off % 4 != 0 then s.acted .spi off (.error 4)
  else s.directRead .spi off count

/-- Words written at consecutive offsets that wrap at the end of the space. -/
def State.spiWords (s : State) : Nat → List Word → State
  | _, [] => s
  | off, w :: t => (s.writeIn .spi (off % 0x1000000) w).spiWords (off % 0x1000000 + 4) t

/-- SPI_WRITE_CYCLE: command 0x02. -/
def spiWriteCycleStep (cmd : Byte) (off : Nat) (data : List Word) (s : State) : State :=
  if cmd != 0x02 then s
  else if off % 4 != 0 then s.acted .spi off (.error 4)
  else s.spiWords off data

/-! ## Meanings -/

/-- FAIL_WRITE (R58). -/
def execFailWrite (path : Path) (s : State) : Host.Outcome State Fault Refusal := .next (failWriteStep path s)

/-- REARM (R66). -/
def execRearm (path : Path) (s : State) : Host.Outcome State Fault Refusal := .next (rearmStep path s)

/-- ENABLE_WRITE (R70). -/
def execEnableWrite (path : Path) (on : Bool) (s : State) : Host.Outcome State Fault Refusal := .next (enableWriteStep path on s)

/-- APR_EN_WRITE (R81). -/
def execAprEnWrite (path : Path) (on : Bool) (s : State) : Host.Outcome State Fault Refusal := .next (aprEnWriteStep path on s)

/-- BASELINE_ARM (R263). -/
def execBaselineArm (path : Path) (port : Port) (s : State) : Host.Outcome State Fault Refusal :=
  .next (baselineArmStep path port s)

/-- BASELINE_ABORT (R264). -/
def execBaselineAbort (path : Path) (port : Port) (s : State) : Host.Outcome State Fault Refusal :=
  .next (baselineAbortStep path port s)

/-- ARM (R301). -/
def execArm (path : Path) (unit : Fin 16) (s : State) : Host.Outcome State Fault Refusal := .next (armStep path unit.val s)

/-- CAPTURE_ABORT_BIT (R312). -/
def execCaptureAbortBit (path : Path) (unit : Fin 16) (s : State) : Host.Outcome State Fault Refusal :=
  .next (captureAbortBitStep path unit.val s)

/-- RELEASE (R301). -/
def execRelease (path : Path) (unit : Fin 16) (s : State) : Host.Outcome State Fault Refusal :=
  .next (releaseStep path unit.val s)

/-- REED_START_BIT (R345). -/
def execReedStartBit (path : Path) (slot : Fin 16) (s : State) : Host.Outcome State Fault Refusal :=
  .next (reedStartBitStep path slot.val s)

/-- REED_STOP_BIT (R347). -/
def execReedStopBit (path : Path) (slot : Fin 16) (s : State) : Host.Outcome State Fault Refusal :=
  .next (reedStopBitStep path slot.val s)

/-- MAILBOX_GO (R427). -/
def execMailboxGo (path : Path) (len : BitVec 14) (s : State) : Host.Outcome State Fault Refusal :=
  .next (mailboxGoStep path len.toNat s)

/-- MAILBOX_DONE_CLEAR (R426). -/
def execMailboxDoneClear (path : Path) (s : State) : Host.Outcome State Fault Refusal := .next (mailboxDoneClearStep path s)

/-- MAILBOX_EVT_CLEAR (R428). -/
def execMailboxEvtClear (path : Path) (s : State) : Host.Outcome State Fault Refusal := .next (mailboxEvtClearStep path s)

/-- REGISTER_WRITE (R488). -/
def execRegisterWrite (path : Path) (off : BitVec 24) (value : Word) (s : State) : Host.Outcome State Fault Refusal :=
  .next (registerWriteStep path off.toNat value s)

/-- SPI_READ_CYCLE (R813). -/
def execSpiReadCycle (cmd : Byte) (off : BitVec 24) (count : Nat) (s : State) : Host.Outcome State Fault Refusal :=
  .next (spiReadCycleStep cmd off.toNat count s)

/-- SPI_WRITE_CYCLE (R814). -/
def execSpiWriteCycle (cmd : Byte) (off : BitVec 24) (data : List Word) (s : State) : Host.Outcome State Fault Refusal :=
  .next (spiWriteCycleStep cmd off.toNat data s)

/-- TIC_START_BIT (R544). -/
def execTicStartBit (path : Path) (s : State) : Host.Outcome State Fault Refusal := .next (ticStartBitStep path s)

/-- TIC_ABORT_BIT (R545). -/
def execTicAbortBit (path : Path) (s : State) : Host.Outcome State Fault Refusal := .next (ticAbortBitStep path s)

/-- PAIR_ECHO_WRITE (R586). -/
def execPairEchoWrite (path : Path) (hseq : BitVec 32) (s : State) : Host.Outcome State Fault Refusal :=
  .next (pairEchoWriteStep path hseq s)

end Sys2Proof.Machine
end

