-- ==== Sys2Proof/Machine/Requests.lean ====
section
/-! DEFINITION. The general requests: PING, INFO, READ, WRITE, ABORT, EVENT_LOG and QCP_COUNTERS (R436, R438, R444, R446, R787,
R792). -/

namespace Sys2Proof.Machine

/-- PING. -/
def pingBody (q : ReqHdr) (s : State) : State := s.reply q 0x0100 stOk [itState (s.rd SYS_STATE.STATE.addr), itEpoch s.epoch.toNat, itTime s.now]

/-- INFO: SYS_ID in 8 bytes, the stepping in 4 and SYS_VER. -/
def infoBody (q : ReqHdr) (s : State) : State :=
  s.reply q 0x0101 stOk [itData (beBytes 8 s.serial ++ beBytes 4 (s.get SYS_ID_HI.STEPPING) ++ wordBytes (s.rd SYS_VER.MAJOR.addr))]

/-- READ: the words in address order, with the rights of a direct read. -/
def readBody (q : ReqHdr) (addr count : Nat) (s : State) : State :=
  s.checks q 0x0102 [(addr % 4 != 0 || count == 0 || decide (2032 < count) || decide (0x1000000 < addr + 4 * count), stParamRange)] fun s =>
    let a := s.readWords (.qcp q.session) addr count
    a.2.reply q 0x0102 stOk [itWords a.1]

/-- Direct writes in address order, with the number ignored; those after a reset are dropped. -/
def State.writeWords (s : State) (path : Path) : Nat → List Word → State × Nat
  | _, [] => (s, 0)
  | off, w :: t =>
    if s.power.episode.isSome then (s, 0)
    else
      let a := s.directWrite path off w
      let b := a.1.writeWords path (off + 4) t
      (b.1, a.2.toNat + b.2)

/-- WRITE: a write that resets the block leaves nothing to reply with. -/
def writeBody (q : ReqHdr) (addr : Nat) (data : List Word) (s : State) : State :=
  s.checks q 0x0103 [(data.isEmpty || decide (2032 < data.length) || decide (0x1000000 < addr + 4 * data.length), stParamRange)] fun s =>
    let a := s.writeWords (.qcp q.session) addr data
    if a.1.power.episode.isSome then a.1 else a.1.reply q 0x0103 stOk [itIgnored a.2]

/-- What an ABORT before its commit point does to a long operation (R444). -/
def State.cancelLong (s : State) (r : Nat) (l : LongOp) : State :=
  let op := l.opcode
  if op = 0x0202 || op = 0x0205 || op = 0x0207 then s.cancelSet r l.seq
  else if op = 0x0204 then s.saveAbort r l.seq
  else if op = 0x0701 then (s.reedLoadAbort l.subject).complete r l.seq stCancelled
  else if op = 0x0504 then s.brlBaseAbort (portOf l.subject)
  else if op = 0x0500 || op = 0x0503 then (s.calAbort r l.seq).complete r l.seq stCancelled
  else if op = 0x0104 || op = 0x0A00 then s.testAbort r l.seq
  else if op = 0x0903 then s.ticAbort
  else if op = 0x0604 then (s.dropSwitch).complete r l.seq stCancelled
  else if op = 0x0405 then
    ({ s with trg := { s.trg with sends := s.trg.sends.filter (fun x => !(x.session.val == r && x.seq == l.seq)) } }).complete r l.seq stCancelled
  else s.complete r l.seq stCancelled

/-- ABORT: its own session's operations only. -/
def abortBody (q : ReqHdr) (seq : BitVec 32) (s : State) : State :=
  match s.findLong q.session.val seq with
  | none => s.reply q 0x0106 stParamRange
  | some l => if l.done || l.committed then s.reply q 0x0106 stAlreadyDone else (s.reply q 0x0106 stOk).cancelLong q.session.val l

/-- The log of a session begins after an event sequence: nothing that it holds has one so low. -/
def Session.logAfter (x : Session) (seq : BitVec 32) : Bool :=
  if x.log.isEmpty then decide (seq < x.eseq) else x.log.all (fun e => decide (seq < e.eseq))

/-- EVENT_LOG: the packets from a sequence on, as they were sent. -/
def eventLogBody (q : ReqHdr) (seq : BitVec 32) (count : Nat) (s : State) : State :=
  let x := s.sess q.session.val
  s.checks q 0x0107 [(x.logAfter seq || count == 0 || decide (16 < count), stParamRange)] fun s =>
    let l := (x.log.filter (fun e => decide (seq ≤ e.eseq))).take count
    s.reply q 0x0107 stOk [itData (l.flatMap (fun e => e.pkt.bytes))]

/-- QCP_COUNTERS. -/
def qcpCountersBody (q : ReqHdr) (s : State) : State := s.reply q 0x0A04 stOk [itWords (s.rdWords (QCP_ERRCNT.COUNT 0).addr 12)]

/-! ## Meanings -/

/-- PING (R436). -/
def execPing (q : ReqHdr) (s : State) : Host.Outcome State Fault Refusal := .next (s.request q 0x0100 (pingBody q))

/-- INFO (R436). -/
def execInfo (q : ReqHdr) (s : State) : Host.Outcome State Fault Refusal := .next (s.request q 0x0101 (infoBody q))

/-- READ (R436). -/
def execRead (q : ReqHdr) (addr : BitVec 24) (count : Nat) (s : State) : Host.Outcome State Fault Refusal :=
  .next (s.request q 0x0102 (readBody q addr.toNat count) (operands [itAddr addr.toNat, itCount count]))

/-- WRITE (R438). -/
def execWrite (q : ReqHdr) (addr : BitVec 24) (data : List Word) (s : State) : Host.Outcome State Fault Refusal :=
  .next (s.request q 0x0103 (writeBody q addr.toNat data) (operands [itAddr addr.toNat, itWords data]))

/-- ABORT (R444). -/
def execAbort (q : ReqHdr) (seq : BitVec 32) (s : State) : Host.Outcome State Fault Refusal :=
  .next (s.request q 0x0106 (abortBody q seq) (operands [itSeq seq.toNat]))

/-- EVENT_LOG (R446). -/
def execEventLog (q : ReqHdr) (seq : BitVec 32) (count : Nat) (s : State) : Host.Outcome State Fault Refusal :=
  .next (s.request q 0x0107 (eventLogBody q seq count) (operands [itSeq seq.toNat, itCount count]))

/-- QCP_COUNTERS (R436). -/
def execQcpCounters (q : ReqHdr) (s : State) : Host.Outcome State Fault Refusal := .next (s.request q 0x0A04 (qcpCountersBody q))

end Sys2Proof.Machine
end

