-- ==== Sys2Proof/Machine/Inputs.lean ====
section
/-! DEFINITION. Ethernet frames that arrive (R424, R425, R498, R500 to R504, R513), and edges on PPS_IN and EVT0 to EVT3 (R278, R538,
R548, R648, R663). -/

namespace Sys2Proof.Machine

/-! ## Addresses of a port (R501, R502) -/

/-- The MAC address of a port. -/
def State.mac (s : State) (x : Nat) : BitVec 48 := BitVec.ofNat 48 (s.get (NET_W2.MAC_HI x) * 2 ^ 32 + s.get (NET_W3.MAC_LO x))

/-- The global IPv6 address of a port. -/
def State.ipv6 (s : State) (x : Nat) : BitVec 128 :=
  BitVec.ofNat 128 ((List.range 4).foldl (fun a i => a * 2 ^ 32 + s.get (NET_IPV6.IPV6 x i)) 0)

/-- The link-local address formed from a MAC address by the modified EUI-64 rule. -/
def linkLocal (mac : BitVec 48) : BitVec 128 :=
  let m := mac.toNat
  BitVec.ofNat 128 (0xFE80 * 2 ^ 112 + ((m / 2 ^ 24) ^^^ 0x020000) * 2 ^ 40 + 0xFFFE * 2 ^ 24 + m % 2 ^ 24)

/-- The IPv6 addresses of a port; an address of 0 is none. -/
def State.own6 (s : State) (x : Nat) : List (BitVec 128) := [linkLocal (s.mac x), s.ipv6 x].filter (fun a => a != 0)

/-- The IPv4 address of a port, in the last four bytes; none while it is 0. -/
def State.own4 (s : State) (x : Nat) : List (BitVec 128) := [BitVec.ofNat 128 (s.get (NET_W4.IPV4 x))].filter (fun a => a != 0)

/-- The solicited-node multicast address of an IPv6 address, on Ethernet. -/
def solicitedNode (a : BitVec 128) : BitVec 48 := BitVec.ofNat 48 (0x3333FF000000 + a.toNat % 2 ^ 24)

/-! ## Frames (R500, R501, R503) -/

/-- A port accepts a frame: its destination, and its tag where VLAN is 1. -/
def State.acceptsFrame (s : State) (x : Nat) (f : EthFrame) : Bool :=
  (f.dst == s.mac x || f.dst == 0xFFFFFFFFFFFF || (s.own6 x).any (fun a => f.dst == solicitedNode a)
      || (s.get PTP_CFG.PORT == x && f.dst == s.ptpMulticast))
    && (!s.flag (NET_W0.VLAN x) || f.vlan.any (fun v => v.toNat == s.get (NET_W0.VID x)))

/-- The frame of fragments that are complete: their data in order, without gap or overlap, ending with the last one. -/
def joinFrags : List (Nat × Bool × List Byte) → Nat → Option (List Byte)
  | [], _ => none
  | (off, more, d) :: t, at_ =>
    if off != at_ then none
    else if more then (joinFrags t (at_ + d.length)).map (fun l => d ++ l)
    else if t.isEmpty then some d else none

/-- A fragment of a request joins those of its source; the request is received once they are complete. More than 8 fragments
or 8,192 bytes are given up, and so are those older than 2 ms (R425). -/
def State.fragment (s : State) (src : UdpPeer) (e : Nat × Bool × List Byte) : State :=
  let mine (r : Reassembly) : Bool := r.src == src
  let old := (s.net.reasm.find? mine).filter (fun r => decide (s.cyc ≤ r.since + 2 * msCyc))
  let since := (old.map (fun r => r.since)).getD s.cyc
  let frags := (((old.map (fun r => r.frags)).getD []) ++ [e]).mergeSort (fun a b => decide (a.1 ≤ b.1))
  let t := { s with net := { s.net with reasm := s.net.reasm.filter (fun r => !mine r) } }
  if 8 < frags.length || decide (8192 < sumN (frags.map (fun f => f.2.2.length))) then t
  else match joinFrags frags 0 with
    | some l => qcpPacketStep (.udp src) l t
    | none => { t with net := { t.net with reasm := t.net.reasm ++ [{ src := src, since := since, frags := frags }] } }

/-- What an accepted frame does; PTP and whole QCP packets are rows of their own (R503, R513). -/
def State.frameDoes (s : State) (x : Fin 2) (f : EthFrame) : State :=
  match f.kind with
  | .pause => s
  | .arpRequest target => if (s.own4 x.val).contains (target.setWidth 128) then s.emit (.eth x (.neighbourReply (target.setWidth 128) f.src)) else s
  | .neighbourSolicit target => if (s.own6 x.val).contains target then s.emit (.eth x (.neighbourReply target f.src)) else s
  | .neighbourReply addr mac => s.learnHop x.val addr mac
  | .echoRequest target size =>
    if (s.own4 x.val ++ s.own6 x.val).contains target && decide (size ≤ 1500) then s.emit (.eth x (.echoReply target f.src size)) else s
  | .ptp => if s.get PTP_CFG.PORT = x.val then s else s.count (NET_W20.RXDROP x.val)
  | .qcp => s
  | .qcpFragment src offset more data => s.fragment { src with eth := x } (offset, more, data)
  | .other => s

/-- A received frame has a length that the ports handle, its IEEE 802.1Q tag included (R498). -/
def frameSized (f : EthFrame) : Bool := decide (64 ≤ f.size) && decide (f.size ≤ 9238)

/-- ETH_FRAME_RX, on a port whose link is up. -/
def ethFrameRxStep (x : Fin 2) (f : EthFrame) (s : State) : State :=
  s.whenDo (s.flag (NET_W1.LINK x.val) && s.power.episode.isNone) fun s =>
    if !f.fcsOk then (s.count (NET_W20.RXDROP x.val)).count (NET_W22.FCSERR x.val)
    else if !frameSized f then s.count (NET_W20.RXDROP x.val)
    else if f.kind == .pause then s.count (NET_W21.PAUSE x.val)
    else if s.acceptsFrame x.val f then s.frameDoes x f
    else s.count (NET_W20.RXDROP x.val)

/-! ## Edges (R538) -/

/-- PPS_IN_EDGE: the window takes the timestamp. -/
def ppsInEdgeStep (ts : Ts) (s : State) : State :=
  s.whenDo s.power.episode.isNone fun s =>
    let a := (s.at ts).stampEdge 4 ts
    match a.2 with
    | some t => a.1.ppsWindow t
    | none => a.1

/-- An enabled unit of SRC_KIND 5 takes an edge of an input: its POL selects it, 0 rising (R278). -/
def State.edgeUnit (s : State) (input : Nat) (rising : Bool) (u : Nat) : Bool :=
  s.get (TRGU_W0.SRC u) == input && s.flag (TRGU_W0.POL u) == !rising

/-- The edge is of the polarity selected for its input: by the enabled units of SRC_KIND 5 on it, and rising where there is
none. -/
def State.edgeSelected (s : State) (input : Nat) (rising : Bool) : Bool :=
  let on := (List.range 64).filter (fun u => s.trgOn u && s.trgKind u == 5 && s.get (TRGU_W0.SRC u) == input)
  if on.isEmpty then rising else on.any (s.edgeUnit input rising)

/-- EVT_EDGE: a timestamped edge reaches the trigger units and both converters. -/
def evtEdgeStep (input : Nat) (rising : Bool) (ts : Ts) (s : State) : State :=
  s.whenDo (s.edgeSelected input rising && s.power.episode.isNone) fun s =>
    let a := (s.at ts).stampEdge input ts
    match a.2 with
    | some t => ((a.1.fireUnits 5 (s.edgeUnit input rising) t).fieldEvt input).monTrig input
    | none => a.1

/-! ## Meanings -/

/-- ETH_FRAME_RX (R501). -/
def execEthFrameRx (eth : Fin 2) (frame : EthFrame) (s : State) : Host.Outcome State Fault Refusal :=
  .next (ethFrameRxStep eth frame s)

/-- PPS_IN_EDGE (R538). -/
def execPpsInEdge (ts : Ts) (s : State) : Host.Outcome State Fault Refusal := .next (ppsInEdgeStep ts s)

/-- EVT_EDGE (R538). -/
def execEvtEdge (input : Fin 4) (rising : Bool) (ts : Ts) (s : State) : Host.Outcome State Fault Refusal :=
  .next (evtEdgeStep input.val rising ts s)

end Sys2Proof.Machine
end

