-- ==== Sys2Proof/Machine/Idle.lean ====
section
/-! DEFINITION. What the block does of itself while no command waits: one 500 MHz cycle, a request of each memory channel, and the acts whose time it has brought
(R508, R656, R683, R692, R725, R751, R752). -/

namespace Sys2Proof.Machine

/-- A cycle in reset: FULL and COLD hold the local clock, WARM lets it run (R731). -/
def State.resetCycle (s : State) : State :=
  if s.power.episode.any (fun e => decide (3 ≤ e.reach)) then { s with cyc := s.cyc + 1 } else s.clockCycle

/-- A self-test that waits for its start, starts. -/
def State.testStart (s : State) : State := if s.power.testDue.isSome || s.power.shutDue then s.startTest else s

/-- One cycle with no command waiting. -/
def State.tick (s : State) : State :=
  let t := s.resetCycle
  if t.power.episode.isSome then t
  else (((((t.dramCycle).updMonRef).calRestoreDue).calApplyAll false).testStart).rstDue

end Sys2Proof.Machine
end

