-- ==== Sys2Proof/Machine/Dispatch.lean ====
section
/-! DEFINITION. The meaning of each command: one arm for each row of spec/opcode_table.json. -/

namespace Sys2Proof.Machine

/-- The effect of a command on everything but the queue of waiting commands. -/
def exec (i : Instr) (s : State) : Host.Outcome State Fault Refusal :=
  match i with
  | .sweepStart edge => Sys2Proof.Machine.execSweepStart edge s
  | .shotLaunch pos => Sys2Proof.Machine.execShotLaunch pos s
  | .stagedSetHandover => Sys2Proof.Machine.execStagedSetHandover s
  | .epochBoundary => Sys2Proof.Machine.execEpochBoundary s
  | .pairCycleBoundary => Sys2Proof.Machine.execPairCycleBoundary s
  | .diagnosticPulse lowA lowB => Sys2Proof.Machine.execDiagnosticPulse lowA lowB s
  | .compUpdate therm => Sys2Proof.Machine.execCompUpdate therm s
  | .derateUpdate tcase => Sys2Proof.Machine.execDerateUpdate tcase s
  | .powerLoopStep port measured => Sys2Proof.Machine.execPowerLoopStep port measured s
  | .powerShortfall port measured => Sys2Proof.Machine.execPowerShortfall port measured s
  | .pumpOpenDetect pump => Sys2Proof.Machine.execPumpOpenDetect pump s
  | .lockLoss ferr => Sys2Proof.Machine.execLockLoss ferr s
  | .laserLocked ferr => Sys2Proof.Machine.execLaserLocked ferr s
  | .relockFail => Sys2Proof.Machine.execRelockFail s
  | .failWrite path => Sys2Proof.Machine.execFailWrite path s
  | .rprecFault => Sys2Proof.Machine.execRprecFault s
  | .intlkNFall => Sys2Proof.Machine.execIntlkNFall s
  | .thermalTrip => Sys2Proof.Machine.execThermalTrip s
  | .barrierSilence => Sys2Proof.Machine.execBarrierSilence s
  | .rearm path => Sys2Proof.Machine.execRearm path s
  | .enableWrite path on => Sys2Proof.Machine.execEnableWrite path on s
  | .aprBreakDetect port len0 len1 => Sys2Proof.Machine.execAprBreakDetect port len0 len1 s
  | .restoreProbe port contLen => Sys2Proof.Machine.execRestoreProbe port contLen s
  | .aprEnWrite path on => Sys2Proof.Machine.execAprEnWrite path on s
  | .sweepSyncEdge rising => Sys2Proof.Machine.execSweepSyncEdge rising s
  | .agcIntervalEnd port brl lanes refI refQ => Sys2Proof.Machine.execAgcIntervalEnd port brl lanes refI refQ s
  | .refVisLow refs => Sys2Proof.Machine.execRefVisLow refs s
  | .phaseChainShot shot => Sys2Proof.Machine.execPhaseChainShot shot s
  | .signatureVerdict intA intB contA contB => Sys2Proof.Machine.execSignatureVerdict intA intB contA contB s
  | .decimationOutput stream => Sys2Proof.Machine.execDecimationOutput stream s
  | .historyWriteMiss stream first len => Sys2Proof.Machine.execHistoryWriteMiss stream first len s
  | .brlShotContribution port pos lanesX lanesY => Sys2Proof.Machine.execBrlShotContribution port pos lanesX lanesY s
  | .brlFold => Sys2Proof.Machine.execBrlFold s
  | .periodClose => Sys2Proof.Machine.execPeriodClose s
  | .brlResultReady => Sys2Proof.Machine.execBrlResultReady s
  | .baselineArm path port => Sys2Proof.Machine.execBaselineArm path port s
  | .baselineAbort path port => Sys2Proof.Machine.execBaselineAbort path port s
  | .triggerEvaluate kind src => Sys2Proof.Machine.execTriggerEvaluate kind src s
  | .arm path unit => Sys2Proof.Machine.execArm path unit s
  | .captureAbortBit path unit => Sys2Proof.Machine.execCaptureAbortBit path unit s
  | .release path unit => Sys2Proof.Machine.execRelease path unit s
  | .reedPass slot => Sys2Proof.Machine.execReedPass slot s
  | .reedCycleLimit slot => Sys2Proof.Machine.execReedCycleLimit slot s
  | .slotStartEffect slot => Sys2Proof.Machine.execSlotStartEffect slot s
  | .reedStartBit path slot => Sys2Proof.Machine.execReedStartBit path slot s
  | .reedStopBit path slot => Sys2Proof.Machine.execReedStopBit path slot s
  | .undefinedEncoding unit word => Sys2Proof.Machine.execUndefinedEncoding unit word s
  | .nop unit o => Sys2Proof.Machine.execNop unit o s
  | .endPass unit o => Sys2Proof.Machine.execEndPass unit o s
  | .loop unit o => Sys2Proof.Machine.execLoop unit o s
  | .loopr unit o => Sys2Proof.Machine.execLoopr unit o s
  | .ldp unit o => Sys2Proof.Machine.execLdp unit o s
  | .addp unit o => Sys2Proof.Machine.execAddp unit o s
  | .setam unit o => Sys2Proof.Machine.execSetam unit o s
  | .setq unit o => Sys2Proof.Machine.execSetq unit o s
  | .rotw unit o => Sys2Proof.Machine.execRotw unit o s
  | .mpy unit o => Sys2Proof.Machine.execMpy unit o s
  | .mac unit o => Sys2Proof.Machine.execMac unit o s
  | .msu unit o => Sys2Proof.Machine.execMsu unit o s
  | .sqa unit o => Sys2Proof.Machine.execSqa unit o s
  | .adda unit o => Sys2Proof.Machine.execAdda unit o s
  | .suba unit o => Sys2Proof.Machine.execSuba unit o s
  | .addi unit o => Sys2Proof.Machine.execAddi unit o s
  | .adds unit o => Sys2Proof.Machine.execAdds unit o s
  | .shra unit o => Sys2Proof.Machine.execShra unit o s
  | .shla unit o => Sys2Proof.Machine.execShla unit o s
  | .absa unit o => Sys2Proof.Machine.execAbsa unit o s
  | .bexp unit o => Sys2Proof.Machine.execBexp unit o s
  | .nrm unit o => Sys2Proof.Machine.execNrm unit o s
  | .movad unit o => Sys2Proof.Machine.execMovad unit o s
  | .movda unit o => Sys2Proof.Machine.execMovda unit o s
  | .movi unit o => Sys2Proof.Machine.execMovi unit o s
  | .mov unit o => Sys2Proof.Machine.execMov unit o s
  | .movf unit o => Sys2Proof.Machine.execMovf unit o s
  | .mant unit o => Sys2Proof.Machine.execMant unit o s
  | .ash unit o => Sys2Proof.Machine.execAsh unit o s
  | .dtap unit o => Sys2Proof.Machine.execDtap unit o s
  | .sethd unit o => Sys2Proof.Machine.execSethd unit o s
  | .dput unit o => Sys2Proof.Machine.execDput unit o s
  | .dget unit o => Sys2Proof.Machine.execDget unit o s
  | .battenClose stream => Sys2Proof.Machine.execBattenClose stream s
  | .battenSend egress => Sys2Proof.Machine.execBattenSend egress s
  | .battenAgeExpire eth => Sys2Proof.Machine.execBattenAgeExpire eth s
  | .launchWindowOpen eth => Sys2Proof.Machine.execLaunchWindowOpen eth s
  | .resendTake stream => Sys2Proof.Machine.execResendTake stream s
  | .retainExpire stream => Sys2Proof.Machine.execRetainExpire stream s
  | .qcpPacket via bytes => Sys2Proof.Machine.execQcpPacket via bytes s
  | .mailboxGo path len => Sys2Proof.Machine.execMailboxGo path len s
  | .mailboxDoneClear path => Sys2Proof.Machine.execMailboxDoneClear path s
  | .mailboxEvtClear path => Sys2Proof.Machine.execMailboxEvtClear path s
  | .ping q => Sys2Proof.Machine.execPing q s
  | .info q => Sys2Proof.Machine.execInfo q s
  | .read q addr count => Sys2Proof.Machine.execRead q addr count s
  | .write q addr data => Sys2Proof.Machine.execWrite q addr data s
  | .shutdown q => Sys2Proof.Machine.execShutdown q s
  | .reset q count => Sys2Proof.Machine.execReset q count s
  | .abort q seq => Sys2Proof.Machine.execAbort q seq s
  | .eventLog q seq count => Sys2Proof.Machine.execEventLog q seq count s
  | .begin q => Sys2Proof.Machine.execBegin q s
  | .set q addr data => Sys2Proof.Machine.execSet q addr data s
  | .commit q epoch => Sys2Proof.Machine.execCommit q epoch s
  | .discard q => Sys2Proof.Machine.execDiscard q s
  | .storeSave q index => Sys2Proof.Machine.execStoreSave q index s
  | .storeSaveCommit => Sys2Proof.Machine.execStoreSaveCommit s
  | .storeSelect q index => Sys2Proof.Machine.execStoreSelect q index s
  | .imagePut q offset data => Sys2Proof.Machine.execImagePut q offset data s
  | .imageApply q count => Sys2Proof.Machine.execImageApply q count s
  | .streamStatus q index => Sys2Proof.Machine.execStreamStatus q index s
  | .resend q index seq count => Sys2Proof.Machine.execResend q index seq count s
  | .flush q index => Sys2Proof.Machine.execFlush q index s
  | .eventRead q count => Sys2Proof.Machine.execEventRead q count s
  | .brlRead q index first count => Sys2Proof.Machine.execBrlRead q index first count s
  | .trigger q index ingress => Sys2Proof.Machine.execTrigger q index ingress s
  | .capArm q index => Sys2Proof.Machine.execCapArm q index s
  | .capAbort q index => Sys2Proof.Machine.execCapAbort q index s
  | .capRelease q index => Sys2Proof.Machine.execCapRelease q index s
  | .capRead q index offset count level => Sys2Proof.Machine.execCapRead q index offset count level s
  | .capSend q index level dest haddr => Sys2Proof.Machine.execCapSend q index level dest haddr s
  | .calRun q mask => Sys2Proof.Machine.execCalRun q mask s
  | .calStatus q => Sys2Proof.Machine.execCalStatus q s
  | .calRead q index => Sys2Proof.Machine.execCalRead q index s
  | .restoreFactory q => Sys2Proof.Machine.execRestoreFactory q s
  | .baseline q index => Sys2Proof.Machine.execBaseline q index s
  | .pairStatus q => Sys2Proof.Machine.execPairStatus q s
  | .refAttach q pairId => Sys2Proof.Machine.execRefAttach q pairId s
  | .refDetach q => Sys2Proof.Machine.execRefDetach q s
  | .take q => Sys2Proof.Machine.execTake q s
  | .switchBack q time => Sys2Proof.Machine.execSwitchBack q time s
  | .reedPut q index offset data => Sys2Proof.Machine.execReedPut q index offset data s
  | .reedLoad q index place count => Sys2Proof.Machine.execReedLoad q index place count s
  | .reedLoadCommit slot => Sys2Proof.Machine.execReedLoadCommit slot s
  | .reedStart q index => Sys2Proof.Machine.execReedStart q index s
  | .reedStop q index => Sys2Proof.Machine.execReedStop q index s
  | .reedUnload q index => Sys2Proof.Machine.execReedUnload q index s
  | .fldRead q index => Sys2Proof.Machine.execFldRead q index s
  | .fldBuffer q index count => Sys2Proof.Machine.execFldBuffer q index count s
  | .monRead q index => Sys2Proof.Machine.execMonRead q index s
  | .convStart q index => Sys2Proof.Machine.execConvStart q index s
  | .foutSet q mask => Sys2Proof.Machine.execFoutSet q mask s
  | .timeGet q => Sys2Proof.Machine.execTimeGet q s
  | .timeSet q time => Sys2Proof.Machine.execTimeSet q time s
  | .timeAdj q ns => Sys2Proof.Machine.execTimeAdj q ns s
  | .ticStart q index count => Sys2Proof.Machine.execTicStart q index count s
  | .ticRead q => Sys2Proof.Machine.execTicRead q s
  | .diagEnter q => Sys2Proof.Machine.execDiagEnter q s
  | .diagLeave q => Sys2Proof.Machine.execDiagLeave q s
  | .bistRead q => Sys2Proof.Machine.execBistRead q s
  | .ptbSet q addr data => Sys2Proof.Machine.execPtbSet q addr data s
  | .qcpCounters q => Sys2Proof.Machine.execQcpCounters q s
  | .openSession q o => Sys2Proof.Machine.execOpenSession q o s
  | .close q => Sys2Proof.Machine.execClose q s
  | .quotaSet q index quotas => Sys2Proof.Machine.execQuotaSet q index quotas s
  | .quotaGet q index => Sys2Proof.Machine.execQuotaGet q index s
  | .keyProvision q target op wrapped => Sys2Proof.Machine.execKeyProvision q target op wrapped s
  | .sessionList q => Sys2Proof.Machine.execSessionList q s
  | .sessionIdleClose session => Sys2Proof.Machine.execSessionIdleClose session s
  | .registerWrite path off value => Sys2Proof.Machine.execRegisterWrite path off value s
  | .groupLatchRead path off => Sys2Proof.Machine.execGroupLatchRead path off s
  | .sysIgnCntRead path => Sys2Proof.Machine.execSysIgnCntRead path s
  | .spiReadCycle cmd off count => Sys2Proof.Machine.execSpiReadCycle cmd off count s
  | .spiWriteCycle cmd off data => Sys2Proof.Machine.execSpiWriteCycle cmd off data s
  | .ethFrameRx eth frame => Sys2Proof.Machine.execEthFrameRx eth frame s
  | .ethLinkChange eth up => Sys2Proof.Machine.execEthLinkChange eth up s
  | .nextHopRetry eth addr => Sys2Proof.Machine.execNextHopRetry eth addr s
  | .ptpSyncRx eth seqId twoStep origin corr raw => Sys2Proof.Machine.execPtpSyncRx eth seqId twoStep origin corr raw s
  | .ptpFollowUpRx eth seqId origin corr => Sys2Proof.Machine.execPtpFollowUpRx eth seqId origin corr s
  | .ptpDelayRespRx eth seqId t4 corr => Sys2Proof.Machine.execPtpDelayRespRx eth seqId t4 corr s
  | .ptpAnnounceRx eth identity dataset => Sys2Proof.Machine.execPtpAnnounceRx eth identity dataset s
  | .ptpDelayReqRx eth seqId raw => Sys2Proof.Machine.execPtpDelayReqRx eth seqId raw s
  | .announceTimeout => Sys2Proof.Machine.execAnnounceTimeout s
  | .followUpTimeout => Sys2Proof.Machine.execFollowUpTimeout s
  | .syncSend raw => Sys2Proof.Machine.execSyncSend raw s
  | .delayReqSend raw => Sys2Proof.Machine.execDelayReqSend raw s
  | .ovenWarm => Sys2Proof.Machine.execOvenWarm s
  | .ovenCool => Sys2Proof.Machine.execOvenCool s
  | .ovenFail => Sys2Proof.Machine.execOvenFail s
  | .refSourceLoss => Sys2Proof.Machine.execRefSourceLoss s
  | .refSourceResume => Sys2Proof.Machine.execRefSourceResume s
  | .synthUnlock => Sys2Proof.Machine.execSynthUnlock s
  | .synthRelock => Sys2Proof.Machine.execSynthRelock s
  | .synthLockTimeout => Sys2Proof.Machine.execSynthLockTimeout s
  | .ppsOutEdge => Sys2Proof.Machine.execPpsOutEdge s
  | .ppsInEdge ts => Sys2Proof.Machine.execPpsInEdge ts s
  | .evtEdge input rising ts => Sys2Proof.Machine.execEvtEdge input rising ts s
  | .ticStartBit path => Sys2Proof.Machine.execTicStartBit path s
  | .ticAbortBit path => Sys2Proof.Machine.execTicAbortBit path s
  | .ticEdge input rising ts => Sys2Proof.Machine.execTicEdge input rising ts s
  | .ticTimeout => Sys2Proof.Machine.execTicTimeout s
  | .ridgeIdleFrame h => Sys2Proof.Machine.execRidgeIdleFrame h s
  | .dlyReq h => Sys2Proof.Machine.execDlyReq h s
  | .dlyRsp h t1 t2 => Sys2Proof.Machine.execDlyRsp h t1 t2 s
  | .presence h serial eUp wUp => Sys2Proof.Machine.execPresence h serial eUp wUp s
  | .timeFrame h => Sys2Proof.Machine.execTimeFrame h s
  | .ridgeTriggerFrame h tref ridgeId horizon => Sys2Proof.Machine.execRidgeTriggerFrame h tref ridgeId horizon s
  | .syncFrame h group => Sys2Proof.Machine.execSyncFrame h group s
  | .heartbeatFrame h hb => Sys2Proof.Machine.execHeartbeatFrame h hb s
  | .pairCmd h pairId cmd target cseq w => Sys2Proof.Machine.execPairCmd h pairId cmd target cseq w s
  | .ridgeCrcError laneW => Sys2Proof.Machine.execRidgeCrcError laneW s
  | .presenceSend => Sys2Proof.Machine.execPresenceSend s
  | .dlyReqSend => Sys2Proof.Machine.execDlyReqSend s
  | .timeSend => Sys2Proof.Machine.execTimeSend s
  | .blockLockLoss laneW => Sys2Proof.Machine.execBlockLockLoss laneW s
  | .laneFrameTimeout laneW => Sys2Proof.Machine.execLaneFrameTimeout laneW s
  | .laneUp laneW => Sys2Proof.Machine.execLaneUp laneW s
  | .nodeExpire node => Sys2Proof.Machine.execNodeExpire node s
  | .ridgeTimeLoss => Sys2Proof.Machine.execRidgeTimeLoss s
  | .ridgeTriggerExecute => Sys2Proof.Machine.execRidgeTriggerExecute s
  | .syncExecute => Sys2Proof.Machine.execSyncExecute s
  | .ridgeSyncSend path => Sys2Proof.Machine.execRidgeSyncSend path s
  | .bypassTimerExpire => Sys2Proof.Machine.execBypassTimerExpire s
  | .bypassEnergize => Sys2Proof.Machine.execBypassEnergize s
  | .bypassRelease => Sys2Proof.Machine.execBypassRelease s
  | .flashingSettled => Sys2Proof.Machine.execFlashingSettled s
  | .healthUpdate => Sys2Proof.Machine.execHealthUpdate s
  | .heartbeatSend => Sys2Proof.Machine.execHeartbeatSend s
  | .pairEchoWrite path hseq => Sys2Proof.Machine.execPairEchoWrite path hseq s
  | .fence => Sys2Proof.Machine.execFence s
  | .refLossDeclare => Sys2Proof.Machine.execRefLossDeclare s
  | .takeExecute => Sys2Proof.Machine.execTakeExecute s
  | .revertHoldExpire => Sys2Proof.Machine.execRevertHoldExpire s
  | .makeStart => Sys2Proof.Machine.execMakeStart s
  | .switchInstant => Sys2Proof.Machine.execSwitchInstant s
  | .pairIdle => Sys2Proof.Machine.execPairIdle s
  | .pairHb health => Sys2Proof.Machine.execPairHb health s
  | .pairCfgFrame tsw nslot alignMod ch node => Sys2Proof.Machine.execPairCfgFrame tsw nslot alignMod ch node s
  | .snap offset total body => Sys2Proof.Machine.execSnap offset total body s
  | .finalSeq seqs => Sys2Proof.Machine.execFinalSeq seqs s
  | .takeAt time => Sys2Proof.Machine.execTakeAt time s
  | .pairHbSend => Sys2Proof.Machine.execPairHbSend s
  | .pairLinkDown => Sys2Proof.Machine.execPairLinkDown s
  | .pairLinkUp => Sys2Proof.Machine.execPairLinkUp s
  | .cfg off value => Sys2Proof.Machine.execCfg off value s
  | .cmd regular injected => Sys2Proof.Machine.execCmd regular injected s
  | .fout mask => Sys2Proof.Machine.execFout mask s
  | .hb => Sys2Proof.Machine.execHb s
  | .tsync => Sys2Proof.Machine.execTsync s
  | .bufreq ch first count => Sys2Proof.Machine.execBufreq ch first count s
  | .ilk closed tick => Sys2Proof.Machine.execIlk closed tick s
  | .fin states tick => Sys2Proof.Machine.execFin states tick s
  | .result index qual seq gain opened code tick => Sys2Proof.Machine.execResult index qual seq gain opened code tick s
  | .status flags vin echo crcerr badmsg => Sys2Proof.Machine.execStatus flags vin echo crcerr badmsg s
  | .tick tick => Sys2Proof.Machine.execTick tick s
  | .bufdata ch index rec0 rec1 => Sys2Proof.Machine.execBufdata ch index rec0 rec1 s
  | .barrierFrameError toIsland badCrc => Sys2Proof.Machine.execBarrierFrameError toIsland badCrc s
  | .ilkSend => Sys2Proof.Machine.execIlkSend s
  | .tsyncSend => Sys2Proof.Machine.execTsyncSend s
  | .islandStart => Sys2Proof.Machine.execIslandStart s
  | .islandStop => Sys2Proof.Machine.execIslandStop s
  | .fin0Change closed tick => Sys2Proof.Machine.execFin0Change closed tick s
  | .finDebounced input closed tick => Sys2Proof.Machine.execFinDebounced input closed tick s
  | .hostloss => Sys2Proof.Machine.execHostloss s
  | .foutOvercurrent output => Sys2Proof.Machine.execFoutOvercurrent output s
  | .excLimit output => Sys2Proof.Machine.execExcLimit output s
  | .excSettleExpire => Sys2Proof.Machine.execExcSettleExpire s
  | .roundTimerTick mon => Sys2Proof.Machine.execRoundTimerTick mon s
  | .fieldConversion c => Sys2Proof.Machine.execFieldConversion c s
  | .monitorConversion injected codes ts => Sys2Proof.Machine.execMonitorConversion injected codes ts s
  | .fldSwstart path => Sys2Proof.Machine.execFldSwstart path s
  | .fldInjstart path => Sys2Proof.Machine.execFldInjstart path s
  | .monSwstart path => Sys2Proof.Machine.execMonSwstart path s
  | .monInjstart path => Sys2Proof.Machine.execMonInjstart path s
  | .kick path => Sys2Proof.Machine.execKick path s
  | .fldFoutWrite path mask => Sys2Proof.Machine.execFldFoutWrite path mask s
  | .calSensorRead die0 die1 die2 die3 tcase => Sys2Proof.Machine.execCalSensorRead die0 die1 die2 die3 tcase s
  | .calMicroStep domain clipped values => Sys2Proof.Machine.execCalMicroStep domain clipped values s
  | .calRetryExpire domain => Sys2Proof.Machine.execCalRetryExpire domain s
  | .calUserSave => Sys2Proof.Machine.execCalUserSave s
  | .mr4Read f0 f1 f2 f3 => Sys2Proof.Machine.execMr4Read f0 f1 f2 f3 s
  | .refreshDue ch bank => Sys2Proof.Machine.execRefreshDue ch bank s
  | .refreshIssue ch bank => Sys2Proof.Machine.execRefreshIssue ch bank s
  | .rowActivate ch bank row => Sys2Proof.Machine.execRowActivate ch bank row s
  | .rdTableClear => Sys2Proof.Machine.execRdTableClear s
  | .dramRead ch cls addr => Sys2Proof.Machine.execDramRead ch cls addr s
  | .trainingStep ch => Sys2Proof.Machine.execTrainingStep ch s
  | .freqChange => Sys2Proof.Machine.execFreqChange s
  | .powerOn => Sys2Proof.Machine.execPowerOn s
  | .supplyDrop => Sys2Proof.Machine.execSupplyDrop s
  | .poresetNLow ns => Sys2Proof.Machine.execPoresetNLow ns s
  | .warmrstNLow ns => Sys2Proof.Machine.execWarmrstNLow ns s
  | .thermalReset asserted => Sys2Proof.Machine.execThermalReset asserted s
  | .watchdogExpire => Sys2Proof.Machine.execWatchdogExpire s
  | .islandWatchdog => Sys2Proof.Machine.execIslandWatchdog s
  | .coldResetWrite path => Sys2Proof.Machine.execColdResetWrite path s
  | .warmResetWrite path => Sys2Proof.Machine.execWarmResetWrite path s
  | .fieldResetWrite path => Sys2Proof.Machine.execFieldResetWrite path s
  | .blockResetWrite path blk => Sys2Proof.Machine.execBlockResetWrite path blk s
  | .resetExit => Sys2Proof.Machine.execResetExit s
  | .flashHoldExpire => Sys2Proof.Machine.execFlashHoldExpire s
  | .bootSequence fwOk trainFail memOk => Sys2Proof.Machine.execBootSequence fwOk trainFail memOk s
  | .selfTestItem pass measured limit detail ms => Sys2Proof.Machine.execSelfTestItem pass measured limit detail ms s
  | .tapReset => Sys2Proof.Machine.execTapReset s
  | .jtagBypass => Sys2Proof.Machine.execJtagBypass s
  | .idcode => Sys2Proof.Machine.execIdcode s
  | .samplePreload => Sys2Proof.Machine.execSamplePreload s
  | .challenge => Sys2Proof.Machine.execChallenge s
  | .response value => Sys2Proof.Machine.execResponse value s
  | .extest => Sys2Proof.Machine.execExtest s
  | .clamp => Sys2Proof.Machine.execClamp s
  | .highz => Sys2Proof.Machine.execHighz s
  | .intscan => Sys2Proof.Machine.execIntscan s
  | .permit path => Sys2Proof.Machine.execPermit path s
  | .permitExpire => Sys2Proof.Machine.execPermitExpire s
  | .ptbClear path => Sys2Proof.Machine.execPtbClear path s
  | .ptbLifeExpire => Sys2Proof.Machine.execPtbLifeExpire s
  | .intlkNRise => Sys2Proof.Machine.execIntlkNRise s
  | .thermalFaultClear => Sys2Proof.Machine.execThermalFaultClear s
  | .eventRecordDeliver => Sys2Proof.Machine.execEventRecordDeliver s
  | .captureWriteDeadline unit close => Sys2Proof.Machine.execCaptureWriteDeadline unit close s
  | .capSendComplete session seq => Sys2Proof.Machine.execCapSendComplete session seq s
  | .announceSend => Sys2Proof.Machine.execAnnounceSend s
  | .ppsOutFall => Sys2Proof.Machine.execPpsOutFall s
  | .nextHopExpire eth addr => Sys2Proof.Machine.execNextHopExpire eth addr s
  | .reassemblyTimeout src => Sys2Proof.Machine.execReassemblyTimeout src s
  | .blockResetEnd => Sys2Proof.Machine.execBlockResetEnd s
  | .partnerHeartbeatLoss => Sys2Proof.Machine.execPartnerHeartbeatLoss s

end Sys2Proof.Machine
end

