-- ==== Sys2Proof/Safety.lean ====
section
/-! DEFINITION. What counts as a sound state and a safe outcome, in the terms the statements use. -/

namespace Sys2Proof

open Sys2Proof.Machine

/-- The register space keeps its canonical form: offsets strictly rising, no word listed at its reset value. -/
def Machine.State.sound (s : State) : Prop := s.regs.wf = true

/-- Both sensing ports are dark: the gate clamp is closed (R60). -/
def Machine.State.isDark (s : State) : Prop := s.flag LSD_ILK.CLAMP = true

/-- The block is out of reset (R728). -/
def Machine.State.outOfReset (s : State) : Prop := s.power.episode = none

/-- The block takes QCP requests (R740), no self-test or shutdown holds them back (R748, R757), no perturbation touches its
replies (R781). -/
def Machine.State.serves (s : State) : Prop :=
  s.power.qcpReady = true ∧ s.flag BIST_STATUS.RUNNING = false ∧ s.flag SYS_CTRL.OFFREADY = false ∧ s.get PTB_CRC.N = 0

/-- A request that meets its turn the moment it arrives: its session is open, nothing waits before it, and its sequence is
new (R429, R432, R434). -/
def Machine.State.admits (s : State) (q : ReqHdr) : Prop :=
  s.serves ∧ (s.sess q.session.val).isOpen = true ∧ (s.sess q.session.val).queue = [] ∧
    (s.sess q.session.val).fresh q.seq = true

/-- The state in which an admitted request meets its body: its sequence has been accepted (R432). -/
def Machine.State.taken (s : State) (q : ReqHdr) (op : Nat) : State := s.modSess q.session.val (fun x => x.accept q.seq op none s.cyc)

/-- What left the block between two states is one packet on a transport, and the MSI where a mailbox asserts IRQ_N by it (R450). -/
def Machine.State.sentOne (s t : State) (v : Via) (p : Packet) : Prop :=
  ∃ l, t.out = s.out ++ .qcp v p :: l ∧ (l = [] ∨ (l = [.msi] ∧ ∃ m, v = .mailbox m))

/-- What left the block between two states is one reply, on the request's own transport (R423). -/
def Machine.State.replied (s t : State) (q : ReqHdr) (op status : Nat) (items : List Item) : Prop :=
  s.sentOne t q.via (replyPacket s q op status items)

/-- The first packet that left the block after a state is the reply to a request, on the request's own transport (R423). -/
def Machine.State.answered (s t : State) (q : ReqHdr) (op status : Nat) (items : List Item) : Prop :=
  s.out ++ [.qcp q.via (replyPacket s q op status items)] <+: t.out

/-- A request was accepted as a long operation: its reply is ACCEPTED, and the newest long operation of its session is it, not
done (R443). -/
def Machine.State.began (s t : State) (q : ReqHdr) (op subject : Nat) : Prop :=
  s.answered t q op stAccepted [] ∧
    (t.sess q.session.val).longs.head? = some { seq := q.seq, opcode := op, via := q.via, subject := subject }

/-- The state in which an accepted long operation meets its body: it is the newest of its session, and its reply has left (R443). -/
def Machine.State.accepted (s : State) (q : ReqHdr) (op subject : Nat) : State :=
  ((s.modSess q.session.val (fun x => { x with
    longs := keepLongs ({ seq := q.seq, opcode := op, via := q.via, subject := subject } :: x.longs) })).reply q op stAccepted).qcpCount

/-- A request that meets its turn at once in a session that may start another long operation (R443). -/
def Machine.State.admitsLong (s : State) (q : ReqHdr) : Prop :=
  s.admits q ∧ (s.sess q.session.val).inProgress.length < 8 ∧ q.session.val < s.qcp.sess.length

/-- A session's event log holds an event of a code and subject that was logged since a state: its number is the one that was
next to be given (R446, R447). -/
def Machine.State.told (s t : State) (r code subject : Nat) : Prop :=
  ∃ e ∈ (t.sess r).log, e.eseq = (s.sess r).eseq ∧ e.pkt.event = true ∧ e.pkt.items.head? = some (itEvcode code subject)

/-- A session's long operation has ended: it is done, and the log holds its completion event with a status (R445). -/
def Machine.State.ended (s t : State) (r : Nat) (seq : BitVec 32) (op status : Nat) : Prop :=
  (∀ l ∈ (t.sess r).longs, l.seq = seq → l.done = true) ∧
  ∃ e ∈ (t.sess r).log, e.eseq = (s.sess r).eseq ∧ e.pkt.items.take 4 = [itEvcode 0x0001 0, itOpcode op, itSeq seq.toNat, itStatus status]

/-- A word that taking and answering requests may write: the counts of PTB_CNT, and the QCP block with its mailboxes. -/
def Machine.qcpWord (a : Nat) : Prop := (0x180040 ≤ a ∧ a < 0x180060) ∨ (0x190000 ≤ a ∧ a < 0x1A0000)

/-- Everything but the sessions, the perturbations' counts, the record of what left, and the words of the QCP interpreter is
as before. -/
def Machine.State.qcpOnly (s t : State) : Prop :=
  t = { s with regs := t.regs, qcp := t.qcp, ptb := t.ptb, out := t.out } ∧ ∀ a, ¬ qcpWord a → t.rd a = s.rd a

/-- Every word of the register space but those listed reads as before. -/
def Machine.State.wordsBut (s t : State) (l : List Nat) : Prop := ∀ a, a ∉ l → t.rd a = s.rd a

/-- The components of the state beside the register space and the queue of waiting commands. -/
inductive Machine.Comp where
  | clk
  | cyc
  | light
  | grid
  | pat
  | rx
  | phs
  | dec
  | qcp
  | ptp
  | net
  | tb
  | ridge
  | strm
  | trg
  | reed
  | brl
  | pair
  | isl
  | mon
  | cal
  | dmc
  | ptb
  | keys
  | tap
  | shadows
  | power
  | out
  | free
  deriving DecidableEq, Repr

/-- A component is the same in two states. -/
def Machine.Comp.same (s t : State) : Comp → Prop
  | .clk => t.clk = s.clk
  | .cyc => t.cyc = s.cyc
  | .light => t.light = s.light
  | .grid => t.grid = s.grid
  | .pat => t.pat = s.pat
  | .rx => t.rx = s.rx
  | .phs => t.phs = s.phs
  | .dec => t.dec = s.dec
  | .qcp => t.qcp = s.qcp
  | .ptp => t.ptp = s.ptp
  | .net => t.net = s.net
  | .tb => t.tb = s.tb
  | .ridge => t.ridge = s.ridge
  | .strm => t.strm = s.strm
  | .trg => t.trg = s.trg
  | .reed => t.reed = s.reed
  | .brl => t.brl = s.brl
  | .pair => t.pair = s.pair
  | .isl => t.isl = s.isl
  | .mon => t.mon = s.mon
  | .cal => t.cal = s.cal
  | .dmc => t.dmc = s.dmc
  | .ptb => t.ptb = s.ptb
  | .keys => t.keys = s.keys
  | .tap => t.tap = s.tap
  | .shadows => t.shadows = s.shadows
  | .power => t.power = s.power
  | .out => t.out = s.out
  | .free => t.free = s.free

/-- The block of an offset: the upper byte of a register's offset (R784), 0x20 for the pattern banks, 0x30 for the reed
program and delay memories, 0x40 for the reed X and Y memories and whatever lies beyond (R785). -/
def Machine.blockOf (a : Nat) : Nat :=
  if a < 0x200000 then a / 0x10000 else if a < 0x300000 then 0x20 else if a < 0x400000 then 0x30 else 0x40

/-- Every block. -/
def Machine.allBlocks : List Nat := List.range 0x41

/-- What happened between two states stays within some components and the words of some blocks: every other component is
the same, every word of another block reads as before, the queue of waiting commands is the same, the register space keeps
its canonical form, and the counts of cycles and free values and the record of what left the block only grow. -/
structure Machine.State.within (s t : State) (comps : List Comp) (blocks : List Nat) : Prop where
  comp : ∀ c, c ∉ comps → Comp.same s t c
  word : ∀ a, blockOf a ∉ blocks → t.rd a = s.rd a
  pending : t.pending = s.pending
  sound : s.sound → t.sound
  out : s.out <+: t.out
  cyc : s.cyc ≤ t.cyc
  free : s.free ≤ t.free

/-- A command of the block leads to a next state with a property. -/
def Leads (c : Instr) (s : State) (p : State → Prop) : Prop := ∃ t, exec c s = .next t ∧ p t

/-- A reed unit on its own: in split mode, placed with no slot, with no write under way and no loop open (R317, R364, R371). -/
def Machine.State.restingUnit (s : State) (u : Fin 16) : Prop :=
  s.flag (REED_UNIT.BUSY u.val) = false ∧ u.val < s.reed.units.length ∧ (s.runit u.val).pend = [] ∧ (s.runit u.val).loops = []

/-- A command issues writes on a unit, each with its latency in cycles, takes some cycles and goes on to the next instruction
(R363, R366). -/
def Machine.State.issues (s : State) (u : Fin 16) (c : Instr) (cycles : Nat) (l : List (Nat × RWr)) : Prop :=
  Leads c s (fun t => (t.runit u.val).pend = l.map (fun e => ((s.runit u.val).cyc + e.1, e.2)) ∧
    (t.runit u.val).cyc = (s.runit u.val).cyc + cycles ∧ (t.runit u.val).pc = (s.runit u.val).pc + 1 ∧ t.regs = s.regs)

/-- A command of one cycle issues in each of a unit's eight lanes the writes that a function of the lane names. -/
def Machine.State.lanesIssue (s : State) (u : Fin 16) (c : Instr) (w : Nat → RLane → List (Nat × RWr)) : Prop :=
  s.issues u c 1 (((s.runit u.val).lanes.take 8).zipIdx.flatMap (fun p => w p.2 p.1))

end Sys2Proof
end

