-- ==== Sys2Proof/WellFormed.lean ====
section
/-! DEFINITION. Commands that the outside of the block can send: operands that fit the items, words and frames that carry
them (R415, R422, R436, R453, R455, R467, R498). The meaning of a command does not depend on it. -/

namespace Sys2Proof

/-- A value of a 4-byte item (R422). -/
def fits32 (n : Nat) : Bool := decide (n < 2 ^ 32)

/-- A value of an 8-byte item (R422). -/
def fits64 (n : Nat) : Bool := decide (n < 2 ^ 64)

/-- A value of SIGNED (R422). -/
def fitsSigned (i : Int) : Bool := decide (-(2 ^ 31) ≤ i) && decide (i < 2 ^ 31)

/-- A value of a PTP correctionField, 64 bits. -/
def fitsCorr (i : Int) : Bool := decide (-(2 ^ 63) ≤ i) && decide (i < 2 ^ 63)

/-- Words that one DATA item carries: 1 to 2,038 (R422). -/
def dataFits (l : List Word) : Bool := !l.isEmpty && decide (l.length ≤ 2038)

/-- A received frame of a size that a port takes (R498): the part of it that the command carries. -/
def frameFits (f : EthFrame) : Bool :=
  match f.kind with
  | .qcpFragment _ offset _ data => decide (offset + data.length ≤ 65535)
  | .echoRequest _ size => decide (size ≤ 9238)
  | _ => true

/-- A command the outside can send. -/
def Instr.wf : Instr → Bool
  | .sweepStart _ => true
  | .shotLaunch _ => true
  | .stagedSetHandover => true
  | .epochBoundary => true
  | .pairCycleBoundary => true
  | .diagnosticPulse _ _ => true
  | .compUpdate therm => decide (therm.length = 8)
  | .derateUpdate _ => true
  | .powerLoopStep _ _ => true
  | .powerShortfall _ _ => true
  | .pumpOpenDetect _ => true
  | .lockLoss _ => true
  | .laserLocked _ => true
  | .relockFail => true
  | .failWrite _ => true
  | .rprecFault => true
  | .intlkNFall => true
  | .thermalTrip => true
  | .barrierSilence => true
  | .rearm _ => true
  | .enableWrite _ _ => true
  | .aprBreakDetect _ _ _ => true
  | .restoreProbe _ _ => true
  | .aprEnWrite _ _ => true
  | .sweepSyncEdge _ => true
  | .agcIntervalEnd _ _ lanes refI refQ => decide (lanes.length = 4) && decide (refI.length = refQ.length)
  | .refVisLow _ => true
  | .phaseChainShot shot => decide (shot.lanes.length = 4)
  | .signatureVerdict _ _ _ _ => true
  | .decimationOutput _ => true
  | .historyWriteMiss _ _ _ => true
  | .brlShotContribution _ _ lanesX lanesY => decide (lanesX.length = 2) && decide (lanesY.length = 2)
  | .brlFold => true
  | .periodClose => true
  | .brlResultReady => true
  | .baselineArm _ _ => true
  | .baselineAbort _ _ => true
  | .triggerEvaluate _ _ => true
  | .arm _ _ => true
  | .captureAbortBit _ _ => true
  | .release _ _ => true
  | .reedPass _ => true
  | .reedCycleLimit _ => true
  | .slotStartEffect _ => true
  | .reedStartBit _ _ => true
  | .reedStopBit _ _ => true
  | .undefinedEncoding _ _ => true
  | .nop _ _ => true
  | .endPass _ _ => true
  | .loop _ _ => true
  | .loopr _ _ => true
  | .ldp _ _ => true
  | .addp _ _ => true
  | .setam _ _ => true
  | .setq _ _ => true
  | .rotw _ _ => true
  | .mpy _ _ => true
  | .mac _ _ => true
  | .msu _ _ => true
  | .sqa _ _ => true
  | .adda _ _ => true
  | .suba _ _ => true
  | .addi _ _ => true
  | .adds _ _ => true
  | .shra _ _ => true
  | .shla _ _ => true
  | .absa _ _ => true
  | .bexp _ _ => true
  | .nrm _ _ => true
  | .movad _ _ => true
  | .movda _ _ => true
  | .movi _ _ => true
  | .mov _ _ => true
  | .movf _ _ => true
  | .mant _ _ => true
  | .ash _ _ => true
  | .dtap _ _ => true
  | .sethd _ _ => true
  | .dput _ _ => true
  | .dget _ _ => true
  | .battenClose _ => true
  | .battenSend _ => true
  | .battenAgeExpire _ => true
  | .launchWindowOpen _ => true
  | .resendTake _ => true
  | .retainExpire _ => true
  | .qcpPacket _ bytes => decide (bytes.length ≤ 8192)
  | .mailboxGo _ _ => true
  | .mailboxDoneClear _ => true
  | .mailboxEvtClear _ => true
  | .ping _ => true
  | .info _ => true
  | .read _ _ count => fits32 count
  | .write _ _ data => dataFits data
  | .shutdown _ => true
  | .reset _ count => fits32 count
  | .abort _ _ => true
  | .eventLog _ _ count => fits32 count
  | .begin _ => true
  | .set _ _ data => dataFits data
  | .commit _ _ => true
  | .discard _ => true
  | .storeSave _ index => fits32 index
  | .storeSaveCommit => true
  | .storeSelect _ index => fits32 index
  | .imagePut _ offset data => fits64 offset && decide (data.length ≤ 8152)
  | .imageApply _ count => fits32 count
  | .streamStatus _ index => fits32 index
  | .resend _ index _ count => fits32 index && fits32 count
  | .flush _ index => fits32 index
  | .eventRead _ count => fits32 count
  | .brlRead _ index first count => fits32 index && fitsSigned first && fits32 count
  | .trigger _ index _ => fits32 index
  | .capArm _ index => fits32 index
  | .capAbort _ index => fits32 index
  | .capRelease _ index => fits32 index
  | .capRead _ index offset count level => fits32 index && fits64 offset && fits32 count && fits32 level
  | .capSend _ index level _ _ => fits32 index && fits32 level
  | .calRun _ _ => true
  | .calStatus _ => true
  | .calRead _ index => fits32 index
  | .restoreFactory _ => true
  | .baseline _ index => fits32 index
  | .pairStatus _ => true
  | .refAttach _ _ => true
  | .refDetach _ => true
  | .take _ => true
  | .switchBack _ _ => true
  | .reedPut _ index offset data => fits32 index && fits64 offset && decide (data.length ≤ 8152)
  | .reedLoad _ index _ count => fits32 index && fits32 count
  | .reedLoadCommit _ => true
  | .reedStart _ index => fits32 index
  | .reedStop _ index => fits32 index
  | .reedUnload _ index => fits32 index
  | .fldRead _ index => fits32 index
  | .fldBuffer _ index count => fits32 index && fits32 count
  | .monRead _ index => fits32 index
  | .convStart _ index => fits32 index
  | .foutSet _ _ => true
  | .timeGet _ => true
  | .timeSet _ _ => true
  | .timeAdj _ ns => fitsSigned ns
  | .ticStart _ index count => fits32 index && fits32 count
  | .ticRead _ => true
  | .diagEnter _ => true
  | .diagLeave _ => true
  | .bistRead _ => true
  | .ptbSet _ _ data => dataFits data
  | .qcpCounters _ => true
  | .openSession _ o => decide (o.nonceH.length = 16)
  | .close _ => true
  | .quotaSet _ index quotas => fits32 index && decide (quotas.length = 4)
  | .quotaGet _ index => fits32 index
  | .keyProvision _ _ _ wrapped => decide (wrapped.length = 32)
  | .sessionList _ => true
  | .sessionIdleClose _ => true
  | .registerWrite _ _ _ => true
  | .groupLatchRead _ _ => true
  | .sysIgnCntRead _ => true
  | .spiReadCycle _ _ _ => true
  | .spiWriteCycle _ _ _ => true
  | .ethFrameRx _ frame => frameFits frame
  | .ethLinkChange _ _ => true
  | .nextHopRetry _ _ => true
  | .ptpSyncRx _ _ _ _ corr _ => fitsCorr corr
  | .ptpFollowUpRx _ _ _ corr => fitsCorr corr
  | .ptpDelayRespRx _ _ _ corr => fitsCorr corr
  | .ptpAnnounceRx _ _ _ => true
  | .ptpDelayReqRx _ _ _ => true
  | .announceTimeout => true
  | .followUpTimeout => true
  | .syncSend _ => true
  | .delayReqSend _ => true
  | .ovenWarm => true
  | .ovenCool => true
  | .ovenFail => true
  | .refSourceLoss => true
  | .refSourceResume => true
  | .synthUnlock => true
  | .synthRelock => true
  | .synthLockTimeout => true
  | .ppsOutEdge => true
  | .ppsInEdge _ => true
  | .evtEdge _ _ _ => true
  | .ticStartBit _ => true
  | .ticAbortBit _ => true
  | .ticEdge _ _ _ => true
  | .ticTimeout => true
  | .ridgeIdleFrame _ => true
  | .dlyReq _ => true
  | .dlyRsp _ _ _ => true
  | .presence _ _ _ _ => true
  | .timeFrame _ => true
  | .ridgeTriggerFrame _ _ _ _ => true
  | .syncFrame _ _ => true
  | .heartbeatFrame _ _ => true
  | .pairCmd _ _ _ _ _ _ => true
  | .ridgeCrcError _ => true
  | .presenceSend => true
  | .dlyReqSend => true
  | .timeSend => true
  | .blockLockLoss _ => true
  | .laneFrameTimeout _ => true
  | .laneUp _ => true
  | .nodeExpire _ => true
  | .ridgeTimeLoss => true
  | .ridgeTriggerExecute => true
  | .syncExecute => true
  | .ridgeSyncSend _ => true
  | .bypassTimerExpire => true
  | .bypassEnergize => true
  | .bypassRelease => true
  | .flashingSettled => true
  | .healthUpdate => true
  | .heartbeatSend => true
  | .pairEchoWrite _ _ => true
  | .fence => true
  | .refLossDeclare => true
  | .takeExecute => true
  | .revertHoldExpire => true
  | .makeStart => true
  | .switchInstant => true
  | .pairIdle => true
  | .pairHb _ => true
  | .pairCfgFrame _ _ _ _ _ => true
  | .snap offset total body => decide (offset + body.length ≤ total)
  | .finalSeq _ => true
  | .takeAt _ => true
  | .pairHbSend => true
  | .pairLinkDown => true
  | .pairLinkUp => true
  | .cfg _ _ => true
  | .cmd _ _ => true
  | .fout _ => true
  | .hb => true
  | .tsync => true
  | .bufreq _ _ _ => true
  | .ilk _ _ => true
  | .fin _ _ => true
  | .result _ _ _ _ _ _ _ => true
  | .status _ _ _ _ _ => true
  | .tick _ => true
  | .bufdata _ _ _ _ => true
  | .barrierFrameError _ _ => true
  | .ilkSend => true
  | .tsyncSend => true
  | .islandStart => true
  | .islandStop => true
  | .fin0Change _ _ => true
  | .finDebounced _ _ _ => true
  | .hostloss => true
  | .foutOvercurrent _ => true
  | .excLimit _ => true
  | .excSettleExpire => true
  | .roundTimerTick _ => true
  | .fieldConversion _ => true
  | .monitorConversion _ _ _ => true
  | .fldSwstart _ => true
  | .fldInjstart _ => true
  | .monSwstart _ => true
  | .monInjstart _ => true
  | .kick _ => true
  | .fldFoutWrite _ _ => true
  | .calSensorRead _ _ _ _ _ => true
  | .calMicroStep _ _ _ => true
  | .calRetryExpire _ => true
  | .calUserSave => true
  | .mr4Read _ _ _ _ => true
  | .refreshDue _ _ => true
  | .refreshIssue _ _ => true
  | .rowActivate _ _ _ => true
  | .rdTableClear => true
  | .dramRead _ cls _ => decide (1 ≤ cls) && decide (cls ≤ 6)
  | .trainingStep _ => true
  | .freqChange => true
  | .powerOn => true
  | .supplyDrop => true
  | .poresetNLow _ => true
  | .warmrstNLow _ => true
  | .thermalReset _ => true
  | .watchdogExpire => true
  | .islandWatchdog => true
  | .coldResetWrite _ => true
  | .warmResetWrite _ => true
  | .fieldResetWrite _ => true
  | .blockResetWrite _ _ => true
  | .resetExit => true
  | .flashHoldExpire => true
  | .bootSequence _ _ _ => true
  | .selfTestItem _ _ _ _ _ => true
  | .tapReset => true
  | .jtagBypass => true
  | .idcode => true
  | .samplePreload => true
  | .challenge => true
  | .response _ => true
  | .extest => true
  | .clamp => true
  | .highz => true
  | .intscan => true
  | .permit _ => true
  | .permitExpire => true
  | .ptbClear _ => true
  | .ptbLifeExpire => true
  | .intlkNRise => true
  | .thermalFaultClear => true
  | .eventRecordDeliver => true
  | .captureWriteDeadline _ _ => true
  | .capSendComplete _ _ => true
  | .announceSend => true
  | .ppsOutFall => true
  | .nextHopExpire _ _ => true
  | .reassemblyTimeout _ => true
  | .blockResetEnd => true
  | .partnerHeartbeatLoss => true

end Sys2Proof
end

