-- ==== Sys2Proof/Certificates/Slice0/Obligations.lean ====
section
/-! DEFINITION. The statements about the block, for the provers: completion of every command by family, frames, the queue, reset,
and rules of the manual word for word. -/

open Sys2Proof Sys2Proof.Machine

/-- For every command, queue and state: a step of the state with the command at the front of its queue is the command's meaning on the
state with the queue's rest. -/
def Obligations.StepRunsFront : Prop :=
  ∀ (c : Instr) (rest : List Instr) (s : State), step { s with pending := c :: rest } = exec c { s with pending := rest }

/-- Log entry 1: with an empty queue a step is one 500 MHz cycle; the queue stays empty and the count of cycles grows by one. -/
def Obligations.IdleStepTicks : Prop :=
  ∀ s : State, s.pending = [] → ∃ t, step s = .next t ∧ t.pending = [] ∧ s.cyc < t.cyc

/-- No command stops the block. In the next state the register space keeps its canonical form, the queue of waiting commands is
untouched, what has left the block stays left, and the counts of cycles and free values do not fall. -/
def Obligations.EveryCommandAnswers : Prop :=
  ∀ (c : Instr) (s : State), ∃ t, exec c s = .next t ∧ (s.sound → t.sound) ∧ t.pending = s.pending ∧ s.out <+: t.out ∧
    s.cyc ≤ t.cyc ∧ s.free ≤ t.free

/-- For every state whose register space is canonical (offsets strictly rising, no word listed at its reset value): if a step answers a
next state, the register space of that state is canonical, its queue is the rest of the queue before, and the record of what left the
block begins with the record before. -/
def Obligations.StepKeepsInvariant : Prop :=
  ∀ s t : State, s.sound → step s = .next t → t.sound ∧ t.pending = s.pending.tail ∧ s.out <+: t.out

/-- The invariant that every step keeps holds of the state after reset. -/
def Obligations.ResetIsSound : Prop := State.reset.sound

/-- Every word but RST_CAUSE and the synthesisers' status reads its reset value; the block is in BOOT and dark, nothing has left it,
no session is open and no command waits. That RST_CAUSE tells the power-on and that the synthesisers are locked is the model's
choice of the moment (docstring of State.reset). -/
def Obligations.ResetLeavesRegisters : Prop :=
  (∀ a, a ≠ 0x010000 → a ≠ 0x020004 → State.reset.rd a = resetWord a) ∧ State.reset.dev = 0 ∧ State.reset.emits = false ∧
  State.reset.isDark ∧ State.reset.out = [] ∧ State.reset.pending = [] ∧ ∀ r, (State.reset.sess r).isOpen = false

/-- For every opcode and every value of its fields that R365 leaves defined, decoding its 64-bit word gives them back; and every word
that decodes is the word of the opcode and fields it decodes to, which are defined. -/
def Obligations.ReedWordsRoundTrip : Prop :=
  (∀ (op : ROp) (o : ReedArgs), reedOk op o = true → decodeReed (reedWord op o) = some (op, o)) ∧
  ∀ (w : BitVec 64) (op : ROp) (o : ReedArgs), decodeReed w = some (op, o) → reedWord op o = w ∧ reedOk op o = true

/-- Of two quality codes the one kept is the one that stands first in the order of R6. -/
def Obligations.SeverityOrder : Prop :=
  ∀ a b : Qual, ∀ l, l = [Qual.gap, .clipped, .apr, .unsettled, .failover, .fallback, .lowq, .tbCold, .good] →
    worseQual a b = if l.idxOf a ≤ l.idxOf b then a else b

/-- A REARM of the owner, out of reset, while a cause is live, changes nothing but LSD_ILK.REARM_REJ, which is then 1. -/
def Obligations.RearmRejected : Prop :=
  ∀ (path : Path) (s : State), s.power.episode = none → s.pathOwns path = true → s.liveCauses ≠ 0 →
    Leads (.rearm path) s (fun t => t = { s with regs := t.regs } ∧ t.flag LSD_ILK.REARM_REJ = true ∧
      ∀ f : Fld, f.addr ≠ LSD_ILK.REARM_REJ.addr ∨ f.lo + f.width ≤ LSD_ILK.REARM_REJ.lo ∨
        LSD_ILK.REARM_REJ.lo + LSD_ILK.REARM_REJ.width ≤ f.lo → t.get f = s.get f)

/-- While no swap is armed or a selected swap is pending, an external edge changes nothing, and a ridge sync that reaches its time
leaves the ridge's list and changes nothing else but the clock that reaches its time. -/
def Obligations.IdleSyncHasNoEffect : Prop :=
  ∀ s : State, s.flag PAT_STATUS.ARMED = false ∨ s.pat.selected = true →
    (∀ rising, exec (.sweepSyncEdge rising) s = .next s) ∧
    ∀ (e : Ts) (l : List Ts), s.ridge.syncs = e :: l →
      exec .syncExecute s = .next (({ s with ridge := { s.ridge with syncs := l } }).at e)

/-- A latching read of a group on one path, out of reset, keeps every register word, what any path reads there live, and the shadow
of every other path: each path keeps its own. -/
def Obligations.PathsKeepTheirShadows : Prop :=
  ∀ (path : Path) (off : BitVec 24) (n : Nat) (s : State), s.power.episode = none → groupAt off.toNat = some (off.toNat, n) →
    off.toNat ≠ 0x000034 →
    Leads (.groupLatchRead path off) s (fun t => t = { s with shadows := t.shadows, out := t.out } ∧
      ∀ other, other ≠ path → t.shadow other = s.shadow other)

/-- COMP_UPDATE, with a temperature of each of the eight thermistors, sets every emitter's factor from its own table, keeps
the clip bits, sets those of what is held at full scale, holds the readings and notes since when the laser is more than 1.0 °C off. DERATE_UPDATE holds the case temperature and sets FACTOR, LOSS and the cap of the four pumps from the case temperature and the knee.
POWER_LOOP_STEP, while the device emits with the clamp open, moves the port's level by at most 0.2 dB towards its goal and reports
the measured power; below +5.0 dBm, with no pump open, the densities the loop has chosen stay, but for what the caps cut off. POWER_SHORTFALL, on a port derated or with a pump open and more than 0.5 dB
under its target, reports the measured power and tells the owner by event 0x0101. PUMP_OPEN_DETECT latches the pump's bit.
DIAGNOSTIC_PULSE, in a sweep whose index is a multiple of PERIOD, fires a pulse into the dump of the physical port behind each used port whose guard window
no restore probe has shortened, and counts its low readings; a second one in a row latches GATE_OPEN of port A, which launches no
more, and the device is in SAFE. -/
def Obligations.LightDriveCompletes : Prop :=
  (∀ (therm : List Int) (s : State), therm.length = 8 →
    Leads (.compUpdate therm) s (fun t =>
      t.light.comp = (List.range 8).map (fun n => s.compAt n (therm.getD n 0)) ∧ t.light.therm = therm ∧
      ((therm.getD 0 0 - Config.laserSet (s.get LSD_LASER.CH)).natAbs ≤ 100 → t.light.laserOff = none) ∧
      (100 < (therm.getD 0 0 - Config.laserSet (s.get LSD_LASER.CH)).natAbs → t.light.laserOff = some (s.light.laserOff.getD s.cyc)) ∧
      (∀ n < 8, s.get LSD_GSCALE.TCCLIP / 2 ^ n % 2 = 1 ∨ t.sinkOver n = true → t.get LSD_GSCALE.TCCLIP / 2 ^ n % 2 = 1))) ∧
  (∀ (tcase : Int) (s : State), ∀ f, f = derate tcase (s.get LSD_DERATE.KNEE) →
    Leads (.derateUpdate tcase) s (fun t =>
      t.light.tcase = tcase ∧ t.get LSD_DERATE.FACTOR = (divRound (f.1 * 100 : Nat) f.2).toNat % 256 ∧ t.get LSD_DERATE.LOSS = derateLoss f % 256 ∧
      ∀ n, t.get (LSD_PUMP_STAT.CAP n) = (divRound (f.1 * 65535 : Nat) f.2).toNat % 65536)) ∧
  (∀ (p : Port) (measured : Int) (s : State), s.emits = true → s.flag LSD_ILK.CLAMP = false →
    Leads (.powerLoopStep p measured) s (fun t =>
      (t.pl p).level = (s.pl p).level + clampI (-2) 2 (s.levelGoal p - (s.pl p).level) ∧
      t.get (LSD_PWR.ACTUAL p.idx) = pattern 16 measured ∧
      ((t.pl p).level < 50 → s.get LSD_DIAG.PUMP_OPEN = 0 → t.light.dens = (List.range 4).map s.densBase))) ∧
  (∀ (p : Port) (measured : Int) (s : State), s.emits = true → s.get LSD_DERATE.FACTOR < 100 ∨ s.get LSD_DIAG.PUMP_OPEN / 4 ^ p.idx % 4 ≠ 0 →
    measured < s.target p - 5 →
    s.owner < s.qcp.sess.length →
    Leads (.powerShortfall p measured) s (fun t =>
      t.get (LSD_PWR.ACTUAL p.idx) = pattern 16 measured ∧ s.told t s.owner 0x0101 p.idx)) ∧
  (∀ (pump : Fin 4) (s : State), Leads (.pumpOpenDetect pump) s (fun t =>
    t.get LSD_DIAG.PUMP_OPEN = setBit (s.get LSD_DIAG.PUMP_OPEN) pump.val true % 16)) ∧
  (∀ (lowA lowB : Bool) (s : State), s.emits = true → s.grid.started = true → s.grid.diagDone = false → s.flag LSD_ILK.CLAMP = false →
    s.get LSD_DIAG.PERIOD ≠ 0 → s.grid.k % s.get LSD_DIAG.PERIOD = 0 →
    Leads (.diagnosticPulse lowA lowB) s (fun t => t.grid.diagDone = true ∧
      (∀ p, s.get (PAT_RANGE.N_BIN p.idx) ≠ 0 → s.guardShort p = false →
        .diagPulse (s.physOf p) (s.diagSpan p).1 (s.diagSpan p).2 ∈ t.out ∧
        (t.pl p).gateLow = if (if p = .a then lowA else lowB) then (s.pl p).gateLow + 1 else 0) ∧
      (s.get (PAT_RANGE.N_BIN 0) ≠ 0 → s.guardShort .a = false → lowA = true → 1 ≤ (s.pl .a).gateLow →
        t.get LSD_DIAG.GATE_OPEN % 2 = 1 ∧ (t.pl .a).stopped = true ∧ t.dev = 5)))

/-- While the lock stands, LOCK_LOSS with an error of more than 50 MHz drops LOCK, reports the error and holds launching back;
LASER_LOCKED within 20 MHz during an attempt sets LOCK and ends the attempt; RELOCK_FAIL sets FAIL and is a hardware fault.
RPREC_FAULT, INTLK_N_FALL, THERMAL_TRIP by the readings held (log entry 186) and BARRIER_SILENCE close the clamp, and while the device emits they latch their cause and
take it to SAFE; RPREC_FAULT also zeroes the densities. INTLK_N_RISE and THERMAL_FAULT_CLEAR end their cause, and while the device
does not emit the clamp opens once nothing else holds it. APR_BREAK_DETECT on a port in NORMAL, with two ends short of the fibre's
by more than TOL, puts the port into APR. RESTORE_PROBE, where it may replace the shot of slot 0 of a port that learns or is reduced,
emits its probe in that shot's place. FLASHING_SETTLED shows the flashing closed once it has moved. -/
def Obligations.LightFaultsComplete : Prop :=
  (∀ (ferr : BitVec 16) (s : State), s.flag LSD_LASER_STATUS.LOCK = true → 50 < ferr.toInt ∨ ferr.toInt < -50 →
    Leads (.lockLoss ferr) s (fun t => t.flag LSD_LASER_STATUS.LOCK = false ∧ t.get LSD_LASER_STATUS.FERR = ferr.toNat ∧
      t.light.attempt = true ∧ t.light.hold = true)) ∧
  (∀ (ferr : BitVec 16) (s : State), s.light.attempt = true → s.flag LSD_LASER_STATUS.LOCK = false → ferr.toInt ≤ 20 → -20 ≤ ferr.toInt →
    Leads (.laserLocked ferr) s (fun t => t.flag LSD_LASER_STATUS.LOCK = true ∧ t.get LSD_LASER_STATUS.FERR = ferr.toNat ∧
      t.light.attempt = false ∧ t.light.hadLock = true ∧ (s.dev = 0 → t.dev = 2))) ∧
  (∀ s : State, s.light.attempt = true → s.dev = 0 ∨ s.dev = 2 ∨ s.emits = true →
    Leads .relockFail s (fun t => t.flag LSD_LASER_STATUS.FAIL = true ∧ t.light.attempt = false ∧ t.dev = 5 ∧ .relock ∈ t.light.faults)) ∧
  (∀ s : State, s.emits = true → Leads .rprecFault s (fun t => t.flag LSD_ILK.CLAMP = true ∧ t.dev = 5 ∧ t.light.rprec = true ∧
    t.get LSD_ILK.CAUSE = setBit (s.get LSD_ILK.CAUSE) 0 true % 32 ∧ ∀ n, t.get (LSD_PUMP_STAT.DENS n) = 0)) ∧
  (∀ s : State, s.emits = true → Leads .intlkNFall s (fun t => t.flag LSD_ILK.CLAMP = true ∧ t.dev = 5 ∧ t.flag LSD_ILK.INTLK = false ∧
    t.get LSD_ILK.CAUSE = setBit (s.get LSD_ILK.CAUSE) 1 true % 32)) ∧
  (∀ s : State, s.emits = true → 7800 < s.light.tcase ∨ (∃ x ∈ s.light.therm.drop 4, 8000 < x) ∨
      (∃ c, s.light.laserOff = some c ∧ c + 50000000 ≤ s.cyc) → Leads .thermalTrip s (fun t => t.flag LSD_ILK.CLAMP = true ∧ t.dev = 5 ∧ t.light.thermal = true ∧
    t.get LSD_ILK.CAUSE = setBit (s.get LSD_ILK.CAUSE) 4 true % 32)) ∧
  (∀ s : State, s.emits = true → Leads .barrierSilence s (fun t => t.flag LSD_ILK.CLAMP = true ∧ t.dev = 5 ∧ t.light.silent = true ∧
    t.flag FLD_STATUS.UP = false ∧ t.get LSD_ILK.CAUSE = setBit (s.get LSD_ILK.CAUSE) 3 true % 32)) ∧
  (∀ s : State, s.dev = 2 → s.power.episode = none → s.power.blockRst = none → s.flag LSD_ILK.ENABLE = true → s.get LSD_ILK.CAUSE = 0 → s.light.rprec = false →
    s.light.silent = false → s.flag LSD_ILK.FIN0_OK = true →
    (s.light.thermal = false → Leads .intlkNRise s (fun t => t.flag LSD_ILK.INTLK = true ∧ t.flag LSD_ILK.CLAMP = false)) ∧
    (s.light.tcase ≤ 7800 → (∀ x ∈ s.light.therm.drop 4, x ≤ 8000) → (∀ c, s.light.laserOff = some c → s.cyc < c + 50000000) →
      s.flag LSD_ILK.INTLK = true → Leads .thermalFaultClear s (fun t => t.light.thermal = false ∧ t.flag LSD_ILK.CLAMP = false))) ∧
  (∀ (p : Port) (len0 len1 : Nat) (s : State), s.emits = true → s.flag LSD_APR_CTRL.EN = true → s.flag LSD_ILK.CLAMP = false → s.apr p = 0 ∨ s.apr p = 2 →
    len0 + s.get LSD_APR_CTRL.TOL < s.get (LSD_APR_END.FIBRE_END p.idx) → len1 + s.get LSD_APR_CTRL.TOL < s.get (LSD_APR_END.FIBRE_END p.idx) →
    Leads (.aprBreakDetect p len0 len1) s (fun t => t.apr p = 1 ∧ t.dev = 5 ∧ (t.pl p).level ≤ s.aprLevel ∧
      t.get (LSD_APR_STAT.CONT_LEN p.idx) = len1 % 2 ^ 17)) ∧
  (∀ (p : Port) (contLen : Nat) (s : State), s.restoreTurn p = true →
    Leads (.restoreProbe p contLen) s (fun t =>
      t.out = s.out ++ [.restoreProbe (s.restoreOf p (Fin.ofNat 16 (s.restorePos p)))] ∧
      t.grid.skip = s.grid.skip ++ [(p, Fin.ofNat 16 (s.restorePos p))] ∧ t.get (LSD_APR_STAT.CONT_LEN p.idx) = contLen % 2 ^ 17)) ∧
  (∀ s : State, s.get RDG_FLASH.OFL_STATE = 2 → Leads .flashingSettled s (fun t =>
    t.get RDG_FLASH.OFL_STATE = if s.power.pins.flashClosed then 1 else 0))

/-- Out of reset and by a path with the owner's rights: FAIL_WRITE while FAIL is set clears it and starts a lock attempt; REARM
without a live cause clears CAUSE, and with one sets REARM_REJ; ENABLE_WRITE sets ENABLE, and cleared it closes the clamp;
APR_EN_WRITE sets EN of APR; BASELINE_ARM on an idle port sets BUSY and notes the instant; BASELINE_ABORT on a busy port clears
BUSY. From a path without the owner's rights each of them is ignored with cause 3 and nothing else changes. -/
def Obligations.OwnerActionsComplete : Prop :=
  ∀ (path : Path) (s : State), s.power.episode = none →
  (s.pathOwns path = true →
    (s.flag LSD_LASER_STATUS.FAIL = true → Leads (.failWrite path) s (fun t =>
      t.flag LSD_LASER_STATUS.FAIL = false ∧ t.light.attempt = true ∧ .relock ∉ t.light.faults)) ∧
    (s.liveCauses = 0 → Leads (.rearm path) s (fun t => t.get LSD_ILK.CAUSE = 0)) ∧
    (s.liveCauses ≠ 0 → Leads (.rearm path) s (fun t => t.flag LSD_ILK.REARM_REJ = true ∧ t.get LSD_ILK.CAUSE = s.get LSD_ILK.CAUSE)) ∧
    (∀ on : Bool, Leads (.enableWrite path on) s (fun t => t.flag LSD_ILK.ENABLE = on ∧ (on = false → t.flag LSD_ILK.CLAMP = true))) ∧
    (∀ on : Bool, s.flag LSD_APR_CTRL.EN ≠ on → Leads (.aprEnWrite path on) s (fun t => t.flag LSD_APR_CTRL.EN = on)) ∧
    (∀ p : Port, s.flag (BRL_BASE.BUSY p.idx) = false →
      Leads (.baselineArm path p) s (fun t => t.flag (BRL_BASE.BUSY p.idx) = true ∧ (t.brlPort p).armed = some s.now)) ∧
    (∀ p : Port, s.flag (BRL_BASE.BUSY p.idx) = true →
      Leads (.baselineAbort path p) s (fun t => t.flag (BRL_BASE.BUSY p.idx) = false ∧ (t.brlPort p).armed = none))) ∧
  (s.pathOwns path = false →
    exec (.failWrite path) s = .next (s.ignore path 0x030004 3) ∧ exec (.rearm path) s = .next (s.ignore path 0x030070 3) ∧
    (∀ on, exec (.enableWrite path on) s = .next (s.ignore path 0x030070 3)) ∧
    (∀ on, exec (.aprEnWrite path on) s = .next (s.ignore path LSD_APR_CTRL.EN.addr 3)) ∧
    (∀ p, exec (.baselineArm path p) s = .next (s.ignore path (BRL_BASE.START p.idx).addr 3)) ∧
    ∀ p, exec (.baselineAbort path p) s = .next (s.ignore path (BRL_BASE.START p.idx).addr 3))

/-- Out of reset, for the session r of a path. ARM of a unit of r's that armError admits arms it. CAPTURE_ABORT_BIT of r's unit
frees it from ARMED or ACTIVE; RELEASE of r's closed unit without AUTO_REARM and without a CAP_SEND frees it. REED_START_BIT of
r's LOADED slot, without a conflict and not HELD, takes effect 10 µs on; REED_STOP_BIT of r's slot leaves a slot that is not
RUNNING as it is and cancels a start. TIC_START_BIT while no measurement runs starts one of r's; TIC_ABORT_BIT before the first
counted edge ends it. PAIR_ECHO_WRITE of the attached referee session notes the instant. -/
def Obligations.SessionActionsComplete : Prop :=
  ∀ (path : Path) (r : Nat) (s : State), s.power.episode = none → s.pathSession path = some r →
  (∀ c : Fin 16, s.armError c.val (some r) = none →
    Leads (.arm path c) s (fun t => t.capState c.val = 1 ∧ t.get (CAPU_W3.FLAGS c.val) = 0)) ∧
  (∀ c : Fin 16, s.capOwner c.val = some r → s.capState c.val = 1 ∨ s.capState c.val = 2 →
    Leads (.captureAbortBit path c) s (fun t => t.capState c.val = 0 ∧ t.get (CAPU_W4.SIZE c.val) = 0)) ∧
  (∀ c : Fin 16, s.capOwner c.val = some r → s.capState c.val = 3 → s.capSending c.val = false → s.flag (CAPU_W0.AUTO_REARM c.val) = false →
    Leads (.release path c) s (fun t => t.capState c.val = 0 ∧ t.get (CAPU_W4.SIZE c.val) = 0)) ∧
  (∀ o : Fin 16, s.slotOwner o.val = some r → s.slotState o.val = 1 → s.startConflict o.val = false → s.dev ≠ 1 → o.val < s.reed.slots.length →
    Leads (.reedStartBit path o) s (fun t => (t.rslot o.val).startAt = some (s.now + 10000 * ns))) ∧
  (∀ o : Fin 16, s.slotOwner o.val = some r → s.slotState o.val = 1 → o.val < s.reed.slots.length →
    Leads (.reedStopBit path o) s (fun t => (t.rslot o.val).startAt = none ∧ t.slotState o.val = 1)) ∧
  (s.flag TIC_CTRL.RUN = false → Leads (.ticStartBit path) s (fun t =>
    t.flag TIC_CTRL.RUN = true ∧ t.get TIC_CTRL.COUNT = 0 ∧ t.flag TICRES_W0.READY = false ∧ t.tb.tic.starter = some r)) ∧
  (s.flag TIC_CTRL.RUN = true → s.tb.tic.starter = some r → s.tb.tic.committed = false →
    Leads (.ticAbortBit path) s (fun t => t.flag TIC_CTRL.RUN = false ∧ t.tb.tic.starter = none)) ∧
  (∀ hseq : BitVec 32, s.pair.host.map (·.val) = some r →
    Leads (.pairEchoWrite path hseq) s (fun t => t.pair.refAt = some s.now))

/-- Out of reset. REGISTER_WRITE of a word that holds settings alone, by a session that may write it with a value within its
ranges, puts the value in force with the effects of a commit, and notes whether the word shapes the sweep; at an offset that is no multiple of 4 it is ignored with cause 4.
SPI_WRITE_CYCLE of one word is that write on the SPI path, and any other command byte does nothing. SPI_READ_CYCLE of a word
that belongs to no group, mailbox, reed window or key returns it as it stands. GROUP_LATCH_READ of the lowest word of a group returns it as it stands and latches the
group's words into the path's shadow. SYS_IGN_CNT_READ after a latch returns the shadow's count, takes it from the live count and
ends the freshness of the shadow. MAILBOX_GO while BUSY and DONE
are 0 sets LEN and BUSY and submits the packet in the request buffer; MAILBOX_DONE_CLEAR clears DONE;
MAILBOX_EVT_CLEAR with no event waiting frees the event buffer. -/
def Obligations.DirectAccessCompletes : Prop :=
  (∀ (path : Path) (off : BitVec 24) (w : Word) (r : Fin 8) (row : RegRow) (s : State), s.power.episode = none →
    off.toNat % 4 = 0 → mailboxOf off.toNat = none → inPattern off.toNat = false → inProgram off.toNat = false → inReedData off.toNat = false →
    rowAt off.toNat = some row → row.w1c = 0 → row.w1s = 0 → row.rw ≠ 0 → off.toNat / 0x10000 ≠ 0x18 → actionParts path off.toNat w = [] →
    s.pathSession path = some r.val → (row.shapes && s.emits) = false → row.txnOnly = false → s.mayCommit r.val off.toNat w = true →
    s.locked off.toNat = false → s.valueOk r off.toNat w = true → off.toNat ≠ FLD_FOUT.SET.addr →
    ∀ (v : Word) (u : State), v = mergeWord off.toNat (s.rd off.toNat) w → u = (s.wr off.toNat v).effects s [(off.toNat, v)] s.now →
    ∀ t, t = { u with qcp := { u.qcp with touched := u.qcp.touched || shapesSweep off.toNat } } →
    exec (.registerWrite path off w) s = .next t ∧ (path = .spi → exec (.spiWriteCycle 0x02 off [w]) s = .next t)) ∧
  (∀ (path : Path) (off : BitVec 24) (w : Word) (s : State), s.power.episode = none → mailboxOf off.toNat = none → off.toNat % 4 ≠ 0 →
    exec (.registerWrite path off w) s = .next (s.ignore path off.toNat 4)) ∧
  (∀ (cmd : Byte) (off : BitVec 24) (data : List Word) (s : State), cmd ≠ 0x02 → exec (.spiWriteCycle cmd off data) s = .next s) ∧
  (∀ (off : BitVec 24) (s : State), s.power.episode = none → off.toNat % 4 = 0 → mailboxOf off.toNat = none → off.toNat / 0x10000 ≠ 0x17 →
    inProgram off.toNat = false → inReedData off.toNat = false → groupAt off.toNat = none → off.toNat ≠ 0x000034 →
    Leads (.spiReadCycle 0x0B off 1) s (fun t => t.out = s.out ++ [.read .spi [s.live off.toNat]] ∧ t.regs = s.regs)) ∧
  (∀ (path : Path) (off : BitVec 24) (n : Nat) (s : State), s.power.episode = none → groupAt off.toNat = some (off.toNat, n) → off.toNat ≠ 0x000034 →
    Leads (.groupLatchRead path off) s (fun t => t.out = s.out ++ [.read path [s.live off.toNat]] ∧
      ∀ i, i < n → (t.shadow path).word (off.toNat + 4 * i) = s.live (off.toNat + 4 * i))) ∧
  (∀ (path : Path) (s : State), s.power.episode = none → (s.shadow path).ignFresh = true →
    Leads (.sysIgnCntRead path) s (fun t => t.out = s.out ++ [.read path [(s.shadow path).word 0x000034]] ∧
      (t.shadow path).ignFresh = false ∧ t.get SYS_IGN_CNT.COUNT = s.get SYS_IGN_CNT.COUNT - ((s.shadow path).word 0x000034).toNat)) ∧
  (∀ (m : Fin 2) (s : State), s.power.episode = none →
    (∀ len : BitVec 14, 20 ≤ len.toNat → len.toNat ≤ 8192 → s.flag (QCP_MB_CTRL.BUSY m.val) = false → s.flag (QCP_MB_CTRL.DONE m.val) = false →
      ∀ u, u = ((s.putFlag (QCP_MB_CTRL.IRQ_EN m.val) (s.flag (QCP_MB_CTRL.IRQ_EN m.val))).msiSince s).put (QCP_MB_CTRL.LEN m.val) len.toNat →
      exec (.mailboxGo (mailboxPath m) len) s =
        .next (qcpPacketStep (.mailbox m) (u.mailBytes m len.toNat) (u.put (QCP_MB_CTRL.BUSY m.val) 1))) ∧
    Leads (.mailboxDoneClear (mailboxPath m)) s (fun t => t.flag (QCP_MB_CTRL.DONE m.val) = false) ∧
    (s.flag (QCP_MB_CTRL.EVT m.val) = true → (∀ r, (s.sess r).log.all (·.delivered) = true) →
      Leads (.mailboxEvtClear (mailboxPath m)) s (fun t => t.flag (QCP_MB_CTRL.EVT m.val) = false)))

/-- A request that meets its turn at once is answered by one reply on its own transport. PING answers SYS_STATE, the
configuration epoch and the time; INFO the identity, stepping and version; QCP_COUNTERS the twelve counts of QCP_ERRCNT;
SESSION_LIST a word for each session; READ the words as a direct read sees them; EVENT_LOG the packets of the log from the sequence
on; QUOTA_GET the quotas of the session and its uses. But for READ, whose words may be taken by the read, every
component beside the QCP interpreter is as before. -/
def Obligations.RequestsAnswer : Prop :=
  ∀ (q : ReqHdr) (s : State), s.admits q →
  Leads (.ping q) s (fun t => s.qcpOnly t ∧
    s.replied t q 0x0100 stOk [itState (s.rd SYS_STATE.STATE.addr), itEpoch s.epoch.toNat, itTime s.now]) ∧
  Leads (.info q) s (fun t => s.qcpOnly t ∧ s.replied t q 0x0101 stOk
    [itData (beBytes 8 s.serial ++ beBytes 4 (s.get SYS_ID_HI.STEPPING) ++ wordBytes (s.rd SYS_VER.MAJOR.addr))]) ∧
  Leads (.qcpCounters q) s (fun t => s.qcpOnly t ∧ s.replied t q 0x0A04 stOk [itWords (s.rdWords (QCP_ERRCNT.COUNT 0).addr 12)]) ∧
  Leads (.sessionList q) s (fun t => s.qcpOnly t ∧
    s.replied t q 0x0B05 stOk [itWords ((List.range 8).map (s.taken q 0x0B05).sessionWord)]) ∧
  (∀ (addr : BitVec 24) (count : Nat), addr.toNat % 4 = 0 → 1 ≤ count → count ≤ 2032 → addr.toNat + 4 * count ≤ 0x1000000 →
    Leads (.read q addr count) s (fun t => s.replied t q 0x0102 stOk
      [itWords ((s.taken q 0x0102).readWords (.qcp q.session) addr.toNat count).1])) ∧
  (∀ (seq : BitVec 32) (count : Nat), (s.sess q.session.val).logAfter seq = false → 1 ≤ count → count ≤ 16 →
    Leads (.eventLog q seq count) s (fun t => s.qcpOnly t ∧ s.replied t q 0x0107 stOk
      [itData ((((s.sess q.session.val).log.filter (fun e => decide (seq ≤ e.eseq))).take count).flatMap (fun e => e.pkt.bytes))])) ∧
  (∀ index : Nat, index < 8 → Leads (.quotaGet q index) s (fun t => s.qcpOnly t ∧
    s.replied t q 0x0B03 stOk [itWords ((s.sess index).quotas.words ++ (s.taken q 0x0B03).uses index)]))

/-- WRITE of 1 to 2,032 words inside the register space writes each in address order as a direct write of the session, and replies
with the number ignored, unless a write resets the block. ABORT of the session's own operation in progress before its commit point
replies OK and cancels it: with no handling of its own it ends with CANCELLED, and a baseline acquisition (BRL_BASELINE) stops.
After the commit point or the end it replies ALREADY_DONE, and of an unknown sequence PARAM_RANGE, and nothing else changes. -/
def Obligations.WriteAndAbort : Prop :=
  ∀ (q : ReqHdr) (s : State), s.admits q →
  (∀ (addr : BitVec 24) (data : List Word) (a : State × Nat), data ≠ [] → data.length ≤ 2032 → addr.toNat + 4 * data.length ≤ 0x1000000 →
    a = (s.taken q 0x0103).writeWords (.qcp q.session) addr.toNat data →
    (a.1.power.episode = none → exec (.write q addr data) s = .next (a.1.reply q 0x0103 stOk [itIgnored a.2])) ∧
    (a.1.power.episode ≠ none → exec (.write q addr data) s = .next a.1)) ∧
  (∀ (seq : BitVec 32) (l : LongOp), s.findLong q.session.val seq = some l →
    (l.done = false → l.committed = false →
      (l.opcode = 0x0504 → s.flag (BRL_BASE.BUSY l.subject) = true → l.subject < 2 → Leads (.abort q seq) s (fun t =>
        s.answered t q 0x0106 stOk [] ∧ t.get (BRL_BASE.BUSY l.subject) = 0)) ∧
      (l.opcode = 0x0403 → (s.sess q.session.val).log = [] → exec (.abort q seq) s =
        .next (((s.taken q 0x0106).reply q 0x0106 stOk).complete q.session.val l.seq stCancelled))) ∧
    (l.done = true ∨ l.committed = true → Leads (.abort q seq) s (fun t => s.qcpOnly t ∧ s.replied t q 0x0106 stAlreadyDone []))) ∧
  (∀ seq : BitVec 32, s.findLong q.session.val seq = none →
    Leads (.abort q seq) s (fun t => s.qcpOnly t ∧ s.replied t q 0x0106 stParamRange []))

/-- OPEN of a closed session with a sequence above OPENSEQ, without authentication where PLAIN allows it or with it under a key in
force, opens it: OPENSEQ and H hold the sequence, the session key is derived, the event log keeps what it holds and numbers from 0 (the
model's reading, log entry 191). CLOSE and
SESSION_IDLE_CLOSE close the session: its transaction, queue and accepted sequences go. QUOTA_SET by the owner, within the ranges
and the pool, sets the quotas. KEY_PROVISION by the authenticated owner unwraps and sets a key, or erases it. -/
def Obligations.SessionsComplete : Prop :=
  (∀ (q : ReqHdr) (o : OpenArgs) (s : State), s.serves → (s.sess q.session.val).queue = [] → (s.sess q.session.val).isOpen = false →
    s.openFresh q.session.val q.seq = true → o.authBit = o.macFlag → o.bind = false → q.session.val < s.qcp.sess.length →
    (if o.authBit then (s.keyOf q.session.val).isSome = true else s.plainAllowed q.session.val = true) →
    Leads (.openSession q o) s (fun t =>
      (t.sess q.session.val).isOpen = true ∧ (t.sess q.session.val).auth = o.authBit ∧ (t.sess q.session.val).hi = q.seq ∧
      (t.sess q.session.val).eseq = 0 ∧ (t.sess q.session.val).log = (s.sess q.session.val).log ∧ t.get (KEY_OPENSEQ.OPENSEQ q.session.val) = q.seq.toNat ∧
      (t.sess q.session.val).ks = (if o.authBit then hmacSha256 ((s.keyOf q.session.val).getD [])
        (asciiBytes "QCP-SESS" ++ o.nonceH ++ beBytes 16 s.freeVal) else []))) ∧
  (∀ (q : ReqHdr) (s : State), s.admits q → q.session.val < s.qcp.sess.length → s.ptb.by_ ≠ some q.session.val →
    Leads (.close q) s (fun t => s.replied t q 0x0B01 stOk [] ∧ (t.sess q.session.val).isOpen = false ∧
      (t.sess q.session.val).txn = none ∧ (t.sess q.session.val).queue = [] ∧ (t.sess q.session.val).accepted = [])) ∧
  (∀ (r : Fin 8) (s : State), (s.sess r.val).isOpen = true → s.flag SYS_SESS.IDLE = true → r.val < s.qcp.sess.length → s.ptb.by_ ≠ some r.val →
    Leads (.sessionIdleClose r) s (fun t => (t.sess r.val).isOpen = false ∧ (t.sess r.val).txn = none ∧ (t.sess r.val).queue = [] ∧
      t.out = s.out)) ∧
  (∀ (q : ReqHdr) (index : Nat) (l : List Word) (s : State), s.admits q → index < 8 → index < s.qcp.sess.length → l.length = 4 →
    quotasInRange index (quotasOf l) = true → (s.taken q 0x0B02).quotaConflict index (quotasOf l) = false → s.owner = q.session.val →
    Leads (.quotaSet q index l) s (fun t => s.replied t q 0x0B02 stOk [] ∧ (t.sess index).quotas = quotasOf l)) ∧
  (∀ (q : ReqHdr) (target op : Word) (wrapped : List Byte) (s : State), s.admits q → target.toNat < 8 → s.keys.k.length = 8 → op.toNat < 2 →
    ¬ (target = 0 ∧ op = 1) → wrapped.length = 32 → s.owner = q.session.val → (s.sess q.session.val).auth = true →
    Leads (.keyProvision q target op wrapped) s (fun t => s.replied t q 0x0B04 stOk [] ∧ t.keys.k.getD target.toNat none =
      if op = 1 then none else some (xorBytes wrapped (hmacSha256 (s.sess q.session.val).ks (asciiBytes "QCP-WRAP" ++ wordBytes q.seq)))))

/-- A packet that passes checks 1 to 3 and the version, for an open session without a key, with a fresh sequence, a defined opcode
and its parameters, while fewer than 16 wait, is accepted and waits with its items at the end of its session's queue. One that fails check 1, 2 or
3 on Ethernet is dropped and its count grows by one. Before QCP-ready no packet is received. -/
def Obligations.PacketsComplete : Prop :=
  ∀ (via : Via) (l : List Byte) (s : State), s.served via = true →
  (s.power.qcpReady = false → exec (.qcpPacket via l) s = .next s) ∧
  (s.power.qcpReady = true →
    (∀ (r : Fin 8) (tags : List Nat), frameOk l = true → lengthOk l = true → crc32c (l.take (bodySize l)) = packetCrc l → packetField l 2 1 = 1 →
      packetField l 4 1 = r.val → r.val < s.qcp.sess.length → (s.sess r.val).isOpen = true → (s.sess r.val).key = none →
      packetField l 12 2 ≠ 0x0B00 → (s.sess r.val).fresh (BitVec.ofNat 32 (packetField l 8 4)) = true →
      tagsOf (packetField l 12 2) = some tags → paramsOk (packetField l 12 2) (packetParams l) = true →
      (s.sess r.val).queue.length < 16 →
      Leads (.qcpPacket via l) s (fun t => s.qcpOnly t ∧ t.out = s.out ∧ (t.sess r.val).queue = (s.sess r.val).queue ++
        [{ seq := BitVec.ofNat 32 (packetField l 8 4), opcode := packetField l 12 2, via := via, crc := some (packetCrc l), items := packetItems l }])) ∧
    (∀ p : UdpPeer, via = .udp p →
      (frameOk l = false → exec (.qcpPacket via l) s = .next (s.count (QCP_ERRCNT.COUNT 0))) ∧
      (frameOk l = true → lengthOk l = false → exec (.qcpPacket via l) s = .next (s.count (QCP_ERRCNT.COUNT 1))) ∧
      (frameOk l = true → lengthOk l = true → crc32c (l.take (bodySize l)) ≠ packetCrc l →
        exec (.qcpPacket via l) s = .next (s.count (QCP_ERRCNT.COUNT 2)))))

/-- BEGIN opens an empty transaction, SET stages its words in it, DISCARD drops it. COMMIT of a transaction that validates is
accepted as a long operation, ends the transaction and stages the set behind those validated. The handover marks the oldest set
with its instant, assigns it the next epoch number and passes its commit point, each operation of its session with the set's
sequence. The epoch boundary, with no sweep grid running, takes the set handed over into force at once; with one it does so at the
next sweep boundary that has taken none yet, at least 10 µs after the handover, where the sweep in progress ends, and before that
nothing changes. The set completes with OK, or with the refusal of the run that it asked for (log entry 205). -/
def Obligations.TransactionsComplete : Prop :=
  (∀ (q : ReqHdr) (s : State), s.admits q → q.session.val < s.qcp.sess.length →
    ((s.sess q.session.val).txn = none → Leads (.begin q) s (fun t => s.replied t q 0x0200 stOk [] ∧ (t.sess q.session.val).txn = some [])) ∧
    (∀ l, (s.sess q.session.val).txn = some l →
      Leads (.discard q) s (fun t => s.replied t q 0x0203 stOk [] ∧ (t.sess q.session.val).txn = none) ∧
      (∀ (addr : BitVec 24) (data : List Word) (new : List (Nat × Word)),
        new = (spread addr.toNat data).foldl (fun (a : List (Nat × Word)) e => stage a e.1 e.2) l →
        (spread addr.toNat data).all (fun e => stageable e.1) = true → new.length ≤ 65536 →
        (spread addr.toNat data).all (fun e => (s.taken q 0x0201).mayCommit q.session.val e.1 e.2) = true →
        Leads (.set q addr data) s (fun t => s.replied t q 0x0201 stOk [] ∧ (t.sess q.session.val).txn = some new)))) ∧
  (∀ (q : ReqHdr) (epoch : Option (BitVec 32)) (l : List (Nat × Word)) (u : State) (s : State), s.admitsLong q →
    (s.sess q.session.val).txn = some l → s.flag DMC_STATUS.TFAIL = false →
    u = ((s.taken q 0x0202).accepted q 0x0202 0).modSess q.session.val (fun x => { x with txn := none }) →
    u.validate q.session l epoch = none →
    Leads (.commit q epoch) s (fun t => s.began t q 0x0202 0 ∧ (t.sess q.session.val).txn = none ∧
      t.qcp.staged = s.qcp.staged ++ [{ session := q.session, seq := q.seq, opcode := 0x0202, words := sortWords l }])) ∧
  (∀ (x : StagedSet) (l : List StagedSet) (s : State), s.qcp.staged = x :: l →
    (x.handed = none → x.session.val < s.qcp.sess.length → Leads .stagedSetHandover s (fun t =>
      t.qcp.staged = { x with handed := some s.now } :: l ∧ nextEpoch s.assigned ≤ t.power.ret.epoch ∧
      ∀ y ∈ (t.sess x.session.val).longs, y.seq = x.seq → y.committed = true)) ∧
    (∀ h, x.handed = some h → ∀ (b : Ts) (a : State), b = (if s.sweeping then s.nextBoundary else s.now) →
      a = ({ s with qcp := { s.qcp with staged := l } }).toBoundary b →
      (s.sweeping = true → b < h + 10000 * ns ∨ s.boundaryTaken b = true → exec .epochBoundary s = .next s) ∧
      ((s.sweeping = true → h + 10000 * ns ≤ b ∧ s.boundaryTaken b = false) →
        ((a.applySettings x b).runRefusal (a.setWords x) = none → exec .epochBoundary s = .next ((a.applySet x b).complete
          x.session.val x.seq stOk (if x.opcode = 0x0202 then [itEpoch (nextEpoch a.epoch).toNat] else []))) ∧
        (∀ f, (a.applySettings x b).runRefusal (a.setWords x) = some f → exec .epochBoundary s = .next ((a.applySet x b).complete
          x.session.val x.seq f.status (f.off.map itAddr).toList)))))

/-- STORE_SAVE by the owner, while no save runs and K_CFG is provisioned, names the slot in the journal, erases it and holds the
image in work; STORE_SAVE_COMMIT writes it to its slot. STORE_SELECT of a GOOD slot stages its words past their commit point.
IMAGE_PUT puts bytes into the session's staging area; IMAGE_APPLY of an image that passes its checks and whose words outside the reed windows validate stages it. -/
def Obligations.StoreCompletes : Prop :=
  (∀ (q : ReqHdr) (index : Fin 2) (s : State), s.admitsLong q → s.qcp.saving = none → s.keys.kcfg.isSome = true → s.owner = q.session.val →
    Leads (.storeSave q index.val) s (fun t => s.began t q 0x0204 index.val ∧ t.slot (index == 1) = .cut ∧
      ∃ i n, t.qcp.saving = some (index == 1, i) ∧ t.qcp.journal = some (index == 1, n) ∧ i.saveCnt = n ∧ i.epoch = s.epoch)) ∧
  (∀ (b : Bool) (i : CfgImage) (s : State), s.qcp.saving = some (b, i) →
    Leads .storeSaveCommit s (fun t => t.slot b = .image i ∧ t.qcp.saving = none)) ∧
  (∀ (q : ReqHdr) (index : Fin 2) (i : CfgImage) (s : State), s.admitsLong q → s.owner = q.session.val → s.flag DMC_STATUS.TFAIL = false →
    s.slot (index == 1) = .image i → s.slotCode (index == 1) = 1 →
    Leads (.storeSelect q index.val) s (fun t => s.answered t q 0x0205 stAccepted [] ∧ ∃ w, t.qcp.staged = s.qcp.staged ++
      [{ session := q.session, seq := q.seq, opcode := 0x0205, words := w, load := some i, loaded := 1 + index.val }])) ∧
  (∀ (q : ReqHdr) (offset : Nat) (data : List Byte) (s : State), s.admits q → q.session.val < s.qcp.sess.length → offset + data.length ≤ 1048576 →
    Leads (.imagePut q offset data) s (fun t => s.replied t q 0x0206 stOk [] ∧
      (t.sess q.session.val).image = putBytes (s.sess q.session.val).image offset data)) ∧
  (∀ (q : ReqHdr) (count : Nat) (l m : List (Nat × Word)) (s : State), s.admitsLong q → s.owner = q.session.val → s.flag DMC_STATUS.TFAIL = false →
    count ≤ 1048576 → s.imageWords (getBytes (s.sess q.session.val).image count) = some l →
    ((s.taken q 0x0207).accepted q 0x0207 0).refusedWord q.session.val l = none → m = l.foldl (fun (a : List (Nat × Word)) e => stage a e.1 e.2) [] →
    ((s.taken q 0x0207).accepted q 0x0207 0).validate q.session (m.filter (fun e => !inProgram e.1 && !inReedData e.1)) none = none →
    Leads (.imageApply q count) s (fun t => s.began t q 0x0207 0 ∧ t.qcp.staged = s.qcp.staged ++
      [{ session := q.session, seq := q.seq, opcode := 0x0207, words := sortWords m }]))

/-- SWEEP_START on the first edge within 1 ns of the grid time, while the device emits, starts the next sweep: its index, its
start, no shot launched yet; the acts of R33 follow. SHOT_LAUNCH of a position not yet passed launches, on each port that may launch
and whose shot is not left out (in SHADOW: at the shadow positions), the probe of its slot, and notes the shot for its return where no
signature is measured. SWEEP_SYNC_EDGE of the polarity, and
SYNC_EXECUTE of the oldest ridge sync, select the armed swap where they are its source. RIDGE_SYNC_SEND of a bound session sends a
SYNC frame to execute one horizon later. -/
def Obligations.SweepsComplete : Prop :=
  (∀ (edge : Ts) (s : State), s.grid.running = true → s.nextBoundary ≤ edge → edge < s.nextBoundary + ns → s.emits = true →
    s.power.shutDue = false → s.light.runDue = false →
    ∃ u : State, exec (.sweepStart edge) s = .next (u.boundaryActs s.nextK edge) ∧ u.grid.k = s.nextK ∧ u.grid.start = edge ∧
      u.grid.started = true ∧ u.grid.closed = false ∧ u.grid.nextPos = 0 ∧ u.grid.resume = none ∧
      u.get SYS_SWEEP_LO.IDX_LO = s.nextK % 2 ^ 32 ∧ u.get SYS_SWEEP_HI.IDX_HI = s.nextK / 2 ^ 32 % 2 ^ 16) ∧
  (∀ (pos : Fin 16) (p : Port) (s : State), s.grid.running = true → s.grid.started = true → s.grid.closed = false →
    s.grid.nextPos ≤ pos.val → pos.val < s.grid.nslot → s.portLaunches p = true → (p, pos) ∉ s.grid.skip →
    (s.shadowing = true → (s.shadowIndex pos.val).isSome = true) →
    Leads (.shotLaunch pos) s (fun t => t.grid.nextPos = pos.val + 1 ∧
      .probe (s.probeOf p pos (s.onClock (s.grid.start + s.launchOffset pos.val))) ∈ t.out ∧
      (s.phs.sigLeft = 0 → s.phs.sigDue = false → ∃ i ∈ t.grid.inflight, i.port = p ∧ i.pos = pos ∧ i.launched = true ∧
        i.s = s.grid.k * s.grid.nslot + pos.val ∧ i.launch = s.grid.start + s.launchOffset pos.val))) ∧
  (∀ (rising : Bool) (s : State), rising ≠ s.flag PAT_CTRL.SYNC_POL → s.flag PAT_STATUS.ARMED = true → s.get PAT_CTRL.SWAP_SRC = 1 →
    Leads (.sweepSyncEdge rising) s (fun t => t.pat.selected = true ∧ t.regs = s.regs)) ∧
  (∀ (e : Ts) (l : List Ts) (s : State), s.ridge.syncs = e :: l → s.flag PAT_STATUS.ARMED = true → s.get PAT_CTRL.SWAP_SRC = 2 →
    Leads .syncExecute s (fun t => t.ridge.syncs = l ∧ t.pat.selected = true ∧ t.now = max s.now e)) ∧
  (∀ (path : Path) (e : Ts) (t s : State), s.power.episode = none → (s.pathSession path).isSome = true →
    e = s.now + s.get RDG_HORIZON.H * 1000 * ns → t = s.originate 6 e (beBytes 1 (s.get RDG_SYNC.GROUP)) →
    exec (.ridgeSyncSend path) s = .next (if s.get PAT_CTRL.SWAP_SRC = 2 then { t with ridge := { t.ridge with syncs := t.ridge.syncs ++ [e] } } else t))

/-- AGC_INTERVAL_END, while the sweeps run, counts the clipped samples of its lanes and, where the path is under AGC, decides the
step of the next boundary from the codes that count: none where no return was held, one down where too many clipped, one up after
enough quiet intervals, and otherwise none. REF_VIS_LOW shows the visibility and latches REF_LOW when it falls below half.
PHASE_CHAIN_SHOT takes the oldest shot of its port, which is one of its position, off the list, and outside a signature every channel of the port is carried on.
SIGNATURE_VERDICT, once the signature shots are in, counts the check and gives verdict 1 where every used port matches its own set, 2
with the ports dark and the device in STANDBY where both match the other's instead, and 3 otherwise. DECIMATION_OUTPUT of a stream
takes its waiting output. -/
def Obligations.ChainsComplete : Prop :=
  (∀ (p : Port) (brl : Bool) (lanes : List (List Int)) (refI refQ : List Int) (refs : List (Int × Int)) (l : List Int) (s : State),
    s.grid.running = true → s.grid.started = true → refs = refI.zip refQ → l = lanes.flatMap (s.agcCodes p) →
    Leads (.agcIntervalEnd p brl lanes refI refQ) s (fun t => t.regs = (s.countClips p brl lanes refs).regs ∧
      (s.flag (agcFld p brl) = false → t.agc p brl = s.agc p brl) ∧
      (s.flag (agcFld p brl) = true →
        (t.agc p brl).clips = l.countP clipped12 ∧ (t.agc p brl).peak = maxN (l.map Int.natAbs) ∧
        (s.agcHeld p = false → (t.agc p brl).quiet = 0 ∧ (t.agc p brl).step = 0) ∧
        (s.agcHeld p = true → s.get RX_AGC.CLIP_HI < l.countP clipped12 →
          (t.agc p brl).quiet = 0 ∧ (t.agc p brl).step = if s.get (actFld p brl) = 0 then 0 else -1) ∧
        (s.agcHeld p = true → l.countP clipped12 = 0 → quietPeak (maxN (l.map Int.natAbs)) (s.get RX_AGC.LOW_DBFS) = true →
          (t.agc p brl).quiet = (s.agc p brl).quiet + 1 ∧
          (t.agc p brl).step = if s.get RX_AGC.HOLD ≤ (s.agc p brl).quiet + 1 ∧ s.get (actFld p brl) < 7 then 1 else 0)))) ∧
  (∀ (refs : List (Int × Int)) (s : State), Leads (.refVisLow refs) s (fun t => t.rx.visLow = decide (fringeVis refs < 2048) ∧
    t.get RX_REF.VIS = fringeVis refs % 2 ^ RX_REF.VIS.width ∧
    (fringeVis refs < 2048 → s.rx.visLow = false → t.flag RX_STATUS.REF_LOW = true))) ∧
  (∀ (sh : ShotReturn) (i : Inflight) (s : State), s.grid.inflight.find? (fun i => i.port == sh.port) = some i → i.pos = sh.pos →
    Leads (.phaseChainShot sh) s (fun t => t.grid.inflight = s.grid.inflight.erase i ∧
      (i.sig = false → (t.chans i.port).length = i.phs.nch))) ∧
  (∀ (tol : Nat) (own cross : Port → Bool) (u s : State), s.phs.sigDue = true → s.grid.inflight.any (fun (i : Inflight) => i.sig) = false →
    u = ((((if s.get (PAT_RANGE.N_BIN 0) ≠ 0 then s.measure .a s.phs.sigA.int s.phs.sigA.conts else s) |>
      (fun v => if s.get (PAT_RANGE.N_BIN 1) ≠ 0 then v.measure .b s.phs.sigB.int s.phs.sigB.conts else v)).sigLearn .a).sigLearn .b) →
    tol = s.get LSD_APR_CTRL.TOL → own = (fun p => decide (s.get (PAT_RANGE.N_BIN p.idx) = 0) || sigMatch tol (u.sigMeas p) (u.sigStore p)) →
    cross = (fun p => decide (s.get (PAT_RANGE.N_BIN p.idx) ≠ 0) && sigMatch tol (u.sigMeas p) (u.sigStore p.other)) →
    Leads (.signatureVerdict () () () ()) s (fun t => t.phs.sigDue = false ∧
      t.get PHS_SIG_STAT.CHECKS = (u.get PHS_SIG_STAT.CHECKS + 1) % 2 ^ PHS_SIG_STAT.CHECKS.width ∧
      ((own .a && own .b) = true → t.get PHS_SIG_STAT.VERDICT = 1) ∧
      ((own .a && own .b) = false → (cross .a && cross .b) = true → t.get PHS_SIG_STAT.VERDICT = 2 ∧ t.dev = 2 ∧ t.grid.running = false) ∧
      ((own .a && own .b) = false → (cross .a && cross .b) = false → t.get PHS_SIG_STAT.VERDICT = 3))) ∧
  (∀ (stream : Fin 64) (i : Inflight) (s : State), (s.filt stream.val).out = some i →
    Leads (.decimationOutput stream) s (fun t => (t.filt stream.val).out = none))

/-- HISTORY_WRITE_MISS notes the gap and takes its outputs out of the ring. CAPTURE_WRITE_DEADLINE of an ACTIVE capture that has
started stores the interval in progress with what has arrived, and the last interval closes it. CAP_ARM without an error arms the
unit; CAP_ABORT by its session frees it from ARMED or ACTIVE; CAP_RELEASE by its session frees it from CLOSED, and arms it again with
AUTO_REARM where nothing speaks against it. CAP_READ of a CLOSED
capture replies with a block of its region. CAP_SEND of one is accepted as a long operation and waits to be sent;
CAP_SEND_COMPLETE hands the region over, to the host's memory or in datagrams, and takes it off the list; where the next hop of a UDPDEST
is not resolved it is asked for and the region waits. -/
def Obligations.CapturesComplete : Prop :=
  (∀ (stream : Fin 64) (first len : Nat) (s : State), Leads (.historyWriteMiss stream first len) s (fun t => t.regs = s.regs ∧
    t.trg.histGaps = s.trg.histGaps ++ [{ stream := stream.val, first := first, len := len }] ∧
    ∀ o ∈ t.histOf stream.val, stream.val < s.trg.hist.length → o.idx < first ∨ first + len ≤ o.idx)) ∧
  (∀ (c : Fin 16) (s : State), s.capState c.val = 2 → (s.cap c.val).start.isSome = true → c.val < s.trg.caps.length →
    Leads (.captureWriteDeadline c false) s (fun t =>
      ((s.cap c.val).ivs.length + 1 < (s.cap c.val).pre + (s.cap c.val).post →
        t.capState c.val = 2 ∧ (t.cap c.val).ivs.length = (s.cap c.val).ivs.length + 1) ∧
      ((s.cap c.val).pre + (s.cap c.val).post ≤ (s.cap c.val).ivs.length + 1 → t.capState c.val = 3))) ∧
  (∀ (q : ReqHdr) (c : Fin 16) (s : State), s.admits q →
    ((s.taken q 0x0401).armError c.val (some q.session.val) = none →
      Leads (.capArm q c.val) s (fun t => s.replied t q 0x0401 stOk [] ∧ t.capState c.val = 1)) ∧
    (s.capOwner c.val = some q.session.val →
      (s.capState c.val = 1 ∨ s.capState c.val = 2 →
        Leads (.capAbort q c.val) s (fun t => s.replied t q 0x0402 stOk [] ∧ t.capState c.val = 0)) ∧
      (s.capState c.val = 3 → s.capSending c.val = false →
        Leads (.capRelease q c.val) s (fun t => s.replied t q 0x0403 stOk [] ∧
          (s.flag (CAPU_W0.AUTO_REARM c.val) = false → t.capState c.val = 0) ∧
          (s.flag (CAPU_W0.AUTO_REARM c.val) = true → ((s.taken q 0x0403).capFree c.val).armError c.val (some q.session.val) = none →
            t.capState c.val = 1)))) ∧
    (s.capState c.val = 3 → ∀ offset count level : Nat, 1 ≤ count → count ≤ 8128 → level ≤ 9 → offset + count ≤ (s.cap c.val).region →
      Leads (.capRead q c.val offset count level) s (fun t => s.qcpOnly t ∧ s.replied t q 0x0404 stOk
        [itData (pieceBlock level (offset + count == (s.cap c.val).region) [] (((s.capRegion c.val).drop offset).take count))]))) ∧
  (∀ (q : ReqHdr) (c : Fin 16) (level : Nat) (dest : Option (Fin 2 × Bool × BitVec 128 × BitVec 16)) (haddr : BitVec 64) (s : State),
    s.admitsLong q → s.capState c.val = 3 → level ≤ 9 → s.dev ≠ 1 →
    Leads (.capSend q c.val level dest haddr) s (fun t => s.began t q 0x0405 c.val ∧ t.trg.sends = s.trg.sends ++
      [{ session := q.session, seq := q.seq, unit := c.val, level := level, dest := dest, haddr := haddr }])) ∧
  (∀ (session : Fin 8) (seq : BitVec 32) (x : CapSend) (s : State),
    s.trg.sends.find? (fun x => x.session == session && x.seq == seq) = some x → x.dest = none →
    Leads (.capSendComplete session seq) s (fun t => s.out ++ [.host x.haddr.toNat (s.capRegion x.unit)] <+: t.out ∧
      t.trg.sends = s.trg.sends.filter (fun y => !(y.session == session && y.seq == seq)))) ∧
  (∀ (session : Fin 8) (seq : BitVec 32) (x : CapSend) (e : Fin 2) (v6 : Bool) (a : BitVec 128) (port : BitVec 16) (u s : State),
    s.trg.sends.find? (fun x => x.session == session && x.seq == seq) = some x → x.dest = some (e, v6, a, port) → u = s.capDatagrams x e v6 a port →
    (s.capHop x = none → Leads (.capSendComplete session seq) s (fun t => u.out <+: t.out ∧
      t.trg.sends = s.trg.sends.filter (fun y => !(y.session == session && y.seq == seq)))) ∧
    (s.capHop x ≠ none → exec (.capSendComplete session seq) s = .next (s.askHop e.val (s.nextHopOf e.val v6 a))))

/-- TRIGGER_EVALUATE of a source takes its oldest waiting sample instant, with every other source's at that instant, off the queue and decides coalescing once; then each unit
takes what it reads of it, unit by unit: a unit of a ridge identifier fires once, any other evaluates its samples and takes its part of
the instant; restarts that follow reset the units after it. TRIGGER of a command unit by its owner fires it once at the ingress
instant, outside SHADOW, and replies OK. EVENT_READ returns the oldest records of the session's units and takes them out of the
buffer; EVENT_RECORD_DELIVER takes the oldest record that some EVENT stream takes out of it. A ridge trigger frame, the first copy of
another node's, is scheduled one horizon after its time and fires the units of its identifier; the next one scheduled executes at
the capture units that accept its identifier. -/
def Obligations.TriggersComplete : Prop :=
  (∀ (kind : Fin 8) (src : Nat) (e : TrigIn) (mine : List TrigIn) (v s : State),
    s.trg.inq.find? (fun x => x.kind == kind.val && x.src == src) = some e → mine = s.trg.inq.filter (fun x => x.inst == e.inst) →
    v = (List.finRange 64).foldl (fun (t : State) u => mine.foldl (fun (t : State) x => t.unitTakes u x) t)
      (({ s with trg := { s.trg with inq := s.trg.inq.filter (fun x => !(x.inst == e.inst)) } }).coalesce e.inst) →
    exec (.triggerEvaluate kind src) s = .next (v.resetUnits (fun u => mine.any (fun x => x.reset && v.trgReads u x.kind x.src)))) ∧
  (∀ (u : Fin 64) (x : TrigIn) (r : List TrigCh × List Firing) (s : State), s.trgReads u.val x.kind x.src = true →
    r = trgRun (s.trgSet u.val) (s.get (TRGU_W6.EXCL u.val)) (s.trg.ch.getD u.val []) (s.trgSamples u.val x) →
    (x.kind = 6 → s.unitTakes u x = s.fireOnce u x.raw.toNat) ∧
    (x.kind ≠ 6 → s.unitTakes u x = ({ s with trg := { s.trg with ch := setAt s.trg.ch u.val r.1 } }).fireInstant u r.2 x.epoch x.inst)) ∧
  (∀ (q : ReqHdr) (u : Fin 64) (ingress : Ts) (s : State), s.admits q → s.trgOn u.val = true → s.trgKind u.val = 7 →
    s.trgOwner u.val = some q.session.val → s.dev ≠ 1 →
    (s.trgMute = false → exec (.trigger q u.val ingress) s =
      .next ((((s.taken q 0x0400).coalesce ingress).fireOnce u ingress).reply q 0x0400 stOk)) ∧
    (s.trgMute = true → exec (.trigger q u.val ingress) s = .next ((s.taken q 0x0400).reply q 0x0400 stOk))) ∧
  (∀ (q : ReqHdr) (count : Nat) (mine : List EvRec) (s : State), s.admits q → 1 ≤ count → count ≤ 254 →
    mine = (s.trg.buf.filter (fun e => s.trgOwner e.unit.val == some q.session.val)).take count →
    Leads (.eventRead q count) s (fun t => s.replied t q 0x0303 stOk [itWords (mine.flatMap (·.words))] ∧
      t.trg.buf = mine.foldl (fun (l : List EvRec) e => l.erase e) s.trg.buf)) ∧
  (∀ (e : EvRec) (n : Nat) (s : State), s.trg.buf.find? (fun e => (s.recStream e).isSome) = some e → s.recStream e = some n →
    Leads .eventRecordDeliver s (fun t => t.trg.buf = s.trg.buf.erase e)) ∧
  (∀ (h : RidgeHdr) (tref : Ts) (id : BitVec 8) (horizon : Nat) (u v s : State), s.ridgeOn = true → s.laneUp h.laneW = true →
    h.origin ≠ s.nodeId →
    u = (s.goodFrame h.laneW).forward h 5 (timeBytes tref ++ beBytes 1 id.toNat ++ beBytes 3 0 ++ beBytes 4 horizon) →
    u.ridge.seen.contains (h.origin, h.seq) = false →
    v = { u with ridge := { u.ridge with seen := u.ridge.seen ++ [(h.origin, h.seq)] } } →
    exec (.ridgeTriggerFrame h tref id horizon) s = .next (({ v with ridge := ({ v.ridge with trigs := v.ridge.trigs ++
      [{ execAt := h.time + horizon * 1000 * ns, tref := tref, id := id, origin := h.origin, seq := h.seq,
         late := decide (h.time + horizon * 1000 * ns < v.now) }] } : Ridge) } : State).fireUnits 6 (fun k => v.get (TRGU_W0.RIDGE_ID k) == id.toNat) tref)) ∧
  (∀ (a g : RidgeTrig) (rest : List RidgeTrig) (u s : State), s.ridge.trigs = a :: rest →
    g = rest.foldl (fun (b : RidgeTrig) x => if x.before b then x else b) a →
    u = ({ s with ridge := { s.ridge with trigs := s.ridge.trigs.erase g } }).at g.execAt →
    Leads .ridgeTriggerExecute s (fun t => t.ridge.trigs = s.ridge.trigs.erase g ∧ t.now = max s.now g.execAt ∧
      ((∀ c : Fin 16, s.flag (CAPU_W0.RIDGE_EN c.val) = false) → t = u) ∧
      (∀ c : Fin 16, s.flag (CAPU_W0.RIDGE_EN c.val) = true → s.get (CAPU_W0.RIDGE_ID c.val) = g.id.toNat → s.capState c.val = 1 →
        (s.capOwner c.val).isSome = true → t.capState c.val = 2 ∨ t.capState c.val = 3)))

/-- BRL_SHOT_CONTRIBUTION takes its shot off the list, and the shot, compressed at its point, contributes to the period it was launched
in, the one in progress or the one that closed after it, with the window, points and bins of that period. BRL_FOLD, at a cycle boundary at least 1 s after the last, folds the period in progress of both ports. PERIOD_CLOSE counts a
period and closes the one in progress of an enabled port whose averaging time has passed, whose READY clears. BRL_RESULT_READY takes up
the fits of the closed periods: values, coil correction, baseline, the published set, the anchors. BRL_READ of a READY set replies
with its sequence and its records. BASELINE of the owner is accepted as a long operation and arms the port. -/
def Obligations.BrillouinCompletes : Prop :=
  (∀ (p : Port) (pos : Fin 16) (lanesX lanesY lanes : List (List Int)) (i : Inflight) (c new : BrlPeriod) (d : Int) (s : State),
    s.brl.inflight.find? (fun i => i.port == p && i.pos == pos) = some i → c.start ≤ i.launch → lanes = lanesX ++ lanesY →
    d = pointOffset c.wide c.npt i.point → new = contribute p i (s.compress i true c.wide d lanes) (s.brlMarks i c.wide d lanes) c →
    ((s.brlPort p).closing = none → (s.brlPort p).cur = some c → c.close = none →
      Leads (.brlShotContribution p pos lanesX lanesY) s (fun t => t.brl.inflight = s.brl.inflight.erase i ∧ (t.brlPort p).cur = some new)) ∧
    (∀ b, (s.brlPort p).closing = some c → c.close = some b → i.launch < b.1 →
      Leads (.brlShotContribution p pos lanesX lanesY) s (fun t => t.brl.inflight = s.brl.inflight.erase i ∧ (t.brlPort p).closing = some new ∧
        (t.brlPort p).cur = (s.brlPort p).cur))) ∧
  (∀ (b : Ts × Ts) (s : State), s.cycleBoundary = some b → s.brl.lastFold + 1000000000 * ns ≤ b.1 →
    Leads .brlFold s (fun t => t.brl.portA.cur = s.brl.portA.cur.map BrlPeriod.folded ∧
      t.brl.portB.cur = s.brl.portB.cur.map BrlPeriod.folded ∧ t.brl.lastFold = b.1)) ∧
  (∀ (p : Port) (b g : Ts) (x : BrlPeriod) (s : State), s.cycleBoundary = some (b, g) → (s.brlPort p).cur = some x → s.closeDue p g = true →
    (x.restarted = false ∨ s.avgSpan ≤ (b - x.start) * 2) →
    Leads .periodClose s (fun t => (t.brlPort p).closing = some { x.folded with close := some (b, secOf g, s.epochAt ((g : Int) - 1)), bank := s.bankAt ((g : Int) - 1) } ∧
      t.flag (BRL_RES_STAT.READY p.idx) = false ∧ t.brl.lastFold = b ∧
      t.get BRL_STATUS.PERIODS = (s.get BRL_STATUS.PERIODS + 1) % 2 ^ BRL_STATUS.PERIODS.width)) ∧
  (∀ (p : Port) (c : BrlPeriod) (s : State), (s.brlPort p).closing = some c →
    Leads .brlResultReady s (fun t => (t.brlPort p).closing = none ∧ t.flag (BRL_RES_STAT.READY p.idx) = true ∧
      t.get (BRL_RES_STAT.SEQ p.idx) = (s.get (BRL_RES_STAT.SEQ p.idx) + 1) % 256 ∧ (t.brlPort p).set.length = c.run.length)) ∧
  (∀ (q : ReqHdr) (p : Port) (first count : Nat) (s : State), s.admits q → s.flag (BRL_RES_STAT.READY p.idx) = true → 1 ≤ count → count ≤ 508 →
    Leads (.brlRead q p.idx first count) s (fun t => s.qcpOnly t ∧ s.replied t q 0x0304 stOk [itSeq (s.get (BRL_RES_STAT.SEQ p.idx)),
      itWords ((List.range count).flatMap (fun i => s.recordWords p (first + i)))])) ∧
  (∀ (q : ReqHdr) (p : Port) (s : State), s.admitsLong q → s.flag (BRL_BASE.BUSY p.idx) = false → s.owner = q.session.val → s.dev ≠ 1 →
    Leads (.baseline q p.idx) s (fun t => s.began t q 0x0504 p.idx ∧ t.flag (BRL_BASE.BUSY p.idx) = true ∧ (t.brlPort p).armed = some s.now))

/-- On a resting unit in split mode, a defined instruction without moves takes one cycle and issues in each of the eight lanes: for mpy,
mac, msu, sqa, adda, suba, addi, adds, shra, shla, absa, nrm, movda and ash the new value of its accumulator, for chains after one
cycle and for views after two, with AOV where the 40 bits overflow; for bexp, movad, movi, mov, movf, mant and nrm the new value of its
register after one cycle, with SAT where a value was held at 16 bits. x1 and x2 are its register operands, aa its accumulator in the
chain, av the other one's view. -/
def Obligations.ReedArithmeticIssues : Prop :=
  ∀ (u : Fin 16) (a : ReedArgs) (s : State) (rb : Nat), s.restingUnit u → rb = (s.runit u.val).rb → a.xm = 0 →
  ∀ (acc wrap : Nat → Int → Bool → List (Nat × RWr)) (dst : Nat → Int → Bool → List (Nat × RWr)) (x1 x2 aa av : RLane → Int),
    acc = (fun l v ov => [(1, .accChain l a.acc v), (2, .accView l a.acc v)] ++ (if ov then [(2, .aov l)] else [])) →
    wrap = (fun l v told => acc l (wrap40 v).1 (told && (wrap40 v).2)) →
    dst = (fun l v st => [(1, .reg l (physReg rb a.dst) (BitVec.ofInt 16 v))] ++ (if st then [(2, .sat l)] else [])) →
    x1 = (fun y => (y.reg rb a.s1).toInt) → x2 = (fun y => (y.reg rb a.s2).toInt) → aa = (fun y => y.acc a.acc) → av = (fun y => y.view a.acc2) →
    (reedOk .addi a = true → s.lanesIssue u (.addi u a) (fun l y => wrap l (aa y + (BitVec.ofNat 16 a.imm16).toInt) true)) ∧
    (reedOk .movi a = true → s.lanesIssue u (.movi u a) (fun l _ => [(1, .reg l (physReg rb a.dst) (BitVec.ofNat 16 a.imm16))])) ∧
    (a.ym = 0 →
      (reedOk .mpy a = true → s.lanesIssue u (.mpy u a) (fun l y => acc l (x1 y * x2 y) false)) ∧
      (reedOk .mac a = true → s.lanesIssue u (.mac u a) (fun l y => wrap l (aa y + x1 y * x2 y) true)) ∧
      (reedOk .msu a = true → s.lanesIssue u (.msu u a) (fun l y => wrap l (aa y - x1 y * x2 y) true)) ∧
      (reedOk .sqa a = true → s.lanesIssue u (.sqa u a) (fun l y => (if (satTo 16 (av y / 2 ^ a.imm6)).2 then [(2, .sat l)] else []) ++
        wrap l (aa y + (satTo 16 (av y / 2 ^ a.imm6)).1 * (satTo 16 (av y / 2 ^ a.imm6)).1) true)) ∧
      (reedOk .adda a = true → s.lanesIssue u (.adda u a) (fun l y => wrap l (aa y + av y) true)) ∧
      (reedOk .suba a = true → s.lanesIssue u (.suba u a) (fun l y => wrap l (aa y - av y) true)) ∧
      (reedOk .adds a = true → s.lanesIssue u (.adds u a) (fun l y => wrap l (aa y + x1 y) true)) ∧
      (reedOk .shra a = true → s.lanesIssue u (.shra u a) (fun l y => acc l (aa y / 2 ^ a.imm6) false)) ∧
      (reedOk .shla a = true → s.lanesIssue u (.shla u a) (fun l y => wrap l (aa y * 2 ^ a.imm6) true)) ∧
      (reedOk .absa a = true → s.lanesIssue u (.absa u a) (fun l y =>
        if aa y = -(2 ^ 39) then acc l (2 ^ 39 - 1) true else acc l (aa y).natAbs false)) ∧
      (reedOk .bexp a = true → s.lanesIssue u (.bexp u a) (fun l y => dst l (max (y.reg rb a.dst).toInt (blockExp (av y))) false)) ∧
      (reedOk .nrm a = true → s.lanesIssue u (.nrm u a) (fun l y =>
        if aa y = 0 then [(1, .reg l (physReg rb a.s2) (BitVec.ofInt 16 (-32768)))]
        else acc l (shiftBy (aa y) (normCount (aa y))) false ++ [(1, .reg l (physReg rb a.s2) (BitVec.ofInt 16 (normCount (aa y))))])) ∧
      (reedOk .movad a = true → s.lanesIssue u (.movad u a) (fun l y => dst l (satTo 16 (av y / 2 ^ a.imm6)).1 (satTo 16 (av y / 2 ^ a.imm6)).2)) ∧
      (reedOk .movda a = true → s.lanesIssue u (.movda u a) (fun l y => acc l (x1 y) false)) ∧
      (reedOk .mov a = true → s.lanesIssue u (.mov u a) (fun l y => [(1, .reg l (physReg rb a.dst) (y.reg rb a.s1))])) ∧
      (reedOk .movf a = true → s.lanesIssue u (.movf u a) (fun l y =>
        [(1, .reg l (physReg rb a.dst) (BitVec.ofNat 16 (y.sat.toNat + 2 * y.aov.toNat)))])) ∧
      (reedOk .mant a = true → s.lanesIssue u (.mant u a) (fun l y =>
        dst l (satTo 16 (roundEvenI (av y) (2 ^ min 24 ((y.reg rb a.s1).toNat % 32)))).1
          (satTo 16 (roundEvenI (av y) (2 ^ min 24 ((y.reg rb a.s1).toNat % 32)))).2)) ∧
      (reedOk .ash a = true → s.lanesIssue u (.ash u a) (fun l y =>
        wrap l (shiftBy (aa y) (clampI (-39) 39 (x1 y))) (decide (0 ≤ clampI (-39) 39 (x1 y))))))

/-- On a resting unit, with defined fields and no moves: nop issues nothing; end ends the pass; loop and loopr open a loop of LEN
instructions with their count, and a count of 0 skips the body; rotw turns the window base down by one; ldp, addp, setam, setq and sethd
write their pointer, mode, Q or HD after two cycles. On the lower unit of a whole-mode bundle whose slot does not run, one repetition
of dput pushes the samples at HD + 1, dget fetches the entries at HD - Q, and dtap accumulates the product of its entry and its
coefficient and steps Q. -/
def Obligations.ReedSequencingIssues : Prop :=
  (∀ (u : Fin 16) (a : ReedArgs) (s : State) (x : RUnit), s.restingUnit u → x = s.runit u.val → a.xm = 0 →
    (a.ym = 0 →
      (reedOk .nop a = true → s.issues u (.nop u a) 1 []) ∧
      (reedOk .endPass a = true → Leads (.endPass u a) s (fun t => (t.runit u.val).ended = true ∧ (t.runit u.val).pc = x.pc ∧
        (t.runit u.val).cyc = x.cyc + 12 ∧ (t.runit u.val).pend = [])) ∧
      (reedOk .rotw a = true → Leads (.rotw u a) s (fun t => (t.runit u.val).rb = (x.rb + 15) % 16 ∧ (t.runit u.val).pc = x.pc + 1 ∧
        (t.runit u.val).cyc = x.cyc + 1)) ∧
      (reedOk .loopr a = true → ∀ n : BitVec 16, n ≠ 0 → 1 ≤ x.lanes.length → (∀ y ∈ x.lanes, y.reg x.rb a.s1 = n) →
        Leads (.loopr u a) s (fun t => (t.runit u.val).loops = [{ first := x.pc + 1, last := x.pc + a.len, left := n.toNat, rot := a.zFlag }] ∧
          (t.runit u.val).pc = x.pc + 1 ∧ (t.runit u.val).cyc = x.cyc + 2))) ∧
    (reedOk .loop a = true →
      (a.imm16 ≠ 0 → Leads (.loop u a) s (fun t =>
        (t.runit u.val).loops = [{ first := x.pc + 1, last := x.pc + a.len, left := a.imm16, rot := a.zFlag }] ∧
        (t.runit u.val).pc = x.pc + 1 ∧ (t.runit u.val).cyc = x.cyc + 2)) ∧
      (a.imm16 = 0 → Leads (.loop u a) s (fun t => (t.runit u.val).loops = [] ∧ (t.runit u.val).pc = x.pc + a.len + 1))) ∧
    (reedOk .ldp a = true → s.issues u (.ldp u a) 1 [(2, .ptr a.ptr (a.imm16 % 16384))]) ∧
    (reedOk .addp a = true → s.issues u (.addp u a) 1 [(2, .ptr a.ptr (ptrStep (x.am.getD a.ptr (0, 0)).1 (x.am.getD a.ptr (0, 0)).2
      (x.p.getD a.ptr 0) (BitVec.ofNat 16 a.imm16).toInt 1))]) ∧
    (reedOk .setam a = true → s.issues u (.setam u a) 1 [(2, .am a.ptr a.mode (2 * (a.imm16 + 1)))]) ∧
    (reedOk .setq a = true → s.issues u (.setq u a) 1 [(2, .q a.imm16)])) ∧
  (∀ (u : Fin 16) (a : ReedArgs) (s : State) (x : RUnit) (ls : List (RLane × Nat)), s.flag (REED_UNIT.BUSY u.val) = true →
    s.flag (REEDS_W0.WHOLE (s.get (REED_UNIT.SLOT u.val))) = true → s.slotState (s.get (REED_UNIT.SLOT u.val)) ≠ 2 → u.val % 2 = 0 →
    u.val < s.reed.units.length → x = s.runit u.val → x.pend = [] → x.loops = [] → ls = (x.lanes.take 16).zipIdx →
    (reedOk .sethd a = true → a.xm = 0 → s.issues u (.sethd u a) 1 [(2, .hd a.imm16)]) ∧
    (reedOk .dput a = true → a.ym = 0 → a.imm6 = 0 → s.issues u (.dput u a) 1
      (ls.map (fun p => (2, .dly p.2 ((x.hd + 1) % 1024) (s.rdElem (memWord u.val p.2 false (x.mvElem a.xm)) (x.mvElem a.xm)))) ++
        [(1, .hd ((x.hd + 1) % 1024))] ++ x.mvPtrWrite a.xm)) ∧
    (reedOk .dget a = true → a.ym = 0 → a.imm6 = 0 → ∀ idx, idx = (x.hd + 1024 - x.q) % 1024 → s.issues u (.dget u a) 1
      (ls.map (fun p => (2, .mem p.2 false (x.mvElem a.xm) (s.rdElem (dlyWord u.val p.2 idx) idx))) ++ x.mvPtrWrite a.xm ++
        [(1, .q ((x.q + (if a.pFlag then 1023 else 1)) % 1024))])) ∧
    (reedOk .dtap a = true → a.imm6 = 0 → a.pFlag = false → a.cFlag = false → a.zFlag = false → ∀ idx, idx = (x.hd + 1024 - x.q) % 1024 →
      s.issues u (.dtap u a) 1 (ls.flatMap (fun p => accumulate p.2 a.acc (p.1.acc a.acc +
        (s.rdElem (memWord u.val p.2 true (x.mvElem a.ym)) (x.mvElem a.ym)).toInt * (s.rdElem (dlyWord u.val p.2 idx) idx).toInt)) ++
        x.mvPtrWrite a.ym ++ [(1, .q ((x.q + 1) % 1024))])))

/-- REED_PASS of a ready block runs the program from its entry: to the end of the pass, or to the fault of its cause.
REED_CYCLE_LIMIT of a RUNNING slot with no group delivered yet leaves it FAULTED with cause 1 and tells its owner; an undefined encoding
on its unit does so with cause 2. SLOT_START_EFFECT sets a slot RUNNING. REED_PUT stages bytes; REED_LOAD onto free units is accepted
and holds the image; REED_LOAD_COMMIT of an image that verifies leaves the slot LOADED on its unit. REED_START of the owner's LOADED
slot sets its start 10 µs on; REED_STOP of a RUNNING one leaves it LOADED; REED_UNLOAD leaves it EMPTY. -/
def Obligations.ReedSlotsComplete : Prop :=
  (∀ (o : Fin 16) (l : List FeedSample) (r : State × Nat) (s : State), s.readyBlock o.val = some l → (s.rslot o.val).clearAt = [] →
    r = (s.passEntry o.val l).runProg (s.slotUnit o.val) (s.get (REEDS_W5.C_MAX o.val)) (s.flag (REEDS_W0.WHOLE o.val)) (s.get (REEDS_W5.C_MAX o.val) + 1) →
    (r.2 = 0 → exec (.reedPass o) s = .next (r.1.passEnd o.val l)) ∧
    (r.2 ≠ 0 → exec (.reedPass o) s = .next
      (((r.1.rFlush (s.slotUnit o.val)).countUse o.val ((r.1.runit (s.slotUnit o.val)).cyc + 4)).slotFault o.val r.2))) ∧
  (∀ (o : Fin 16) (s : State), s.slotState o.val = 2 → (s.rslot o.val).outs = [] → s.get (REEDS_W0.OWNER o.val) < s.qcp.sess.length →
    Leads (.reedCycleLimit o) s (fun t => t.slotState o.val = 3 ∧ t.get (REEDS_W0.FCAUSE o.val) = 1 ∧
      s.told t (s.get (REEDS_W0.OWNER o.val)) 0x0701 o.val)) ∧
  (∀ (o u : Fin 16) (w : BitVec 64) (s : State), s.flag (REED_UNIT.BUSY u.val) = true → s.get (REED_UNIT.SLOT u.val) = o.val →
    s.flag (REEDS_W0.WHOLE o.val) = false → s.slotState o.val = 2 → (s.rslot o.val).outs = [] → s.get (REEDS_W0.OWNER o.val) < s.qcp.sess.length →
    decodeReed w = none →
    Leads (.undefinedEncoding u w) s (fun t => t.slotState o.val = 3 ∧ t.get (REEDS_W0.FCAUSE o.val) = 2 ∧
      s.told t (s.get (REEDS_W0.OWNER o.val)) 0x0701 o.val)) ∧
  (∀ (o : Fin 16) (e : Ts) (s : State), (s.rslot o.val).startAt = some e → o.val < s.reed.slots.length →
    Leads (.slotStartEffect o) s (fun t => t.slotState o.val = 2 ∧ t.get (REEDS_W0.FCAUSE o.val) = 0 ∧ (t.rslot o.val).startAt = none ∧
      (t.rslot o.val).samples = [])) ∧
  (∀ (q : ReqHdr) (o : Fin 16) (offset : Nat) (data : List Byte) (s : State), s.admits q → q.session.val < s.qcp.sess.length →
    offset + data.length ≤ 1048576 → Leads (.reedPut q o.val offset data) s (fun t => s.replied t q 0x0700 stOk [] ∧
      (o.val, putBytes ((((s.sess q.session.val).reedImage.find? (fun e => e.1 == o.val)).map (·.2)).getD []) offset data) ∈
        (t.sess q.session.val).reedImage)) ∧
  (∀ (q : ReqHdr) (o : Fin 16) (u count : Nat) (i : Config.ReedImage) (v s : State), s.admitsLong q → u < 8 → count ≤ 1048576 → s.slotState o.val = 0 →
    (s.rslot o.val).load = none → o.val < s.reed.slots.length → v = s.taken q 0x0701 → v.unitsHeld [2 * u] = false →
    v.reedUse q.session.val < (s.sess q.session.val).quotas.reed → v.isOverdrawn q.session.val = false →
    Config.reedImage ((s.sess q.session.val).reedBytes o.val count) = some i → imageConflict i false = false →
    1 ≤ i.block → i.block ≤ 64 → 1 ≤ i.outN → i.outN ≤ 16 → i.block % i.outN = 0 → s.dev ≠ 1 →
    Leads (.reedLoad q o.val (BitVec.ofNat 32 (256 * u)) count) s (fun t => s.began t q 0x0701 o.val ∧ (t.rslot o.val).load =
      some (q.session, q.seq, 2 * u, false, (s.sess q.session.val).reedBytes o.val count))) ∧
  (∀ (o : Fin 16) (r : Fin 8) (seq : BitVec 32) (u : Nat) (whole : Bool) (bytes : List Byte) (i : Config.ReedImage) (s : State),
    (s.rslot o.val).load = some (r, seq, u, whole, bytes) → Config.reedImage bytes = some i → u < 16 →
    Leads (.reedLoadCommit o) s (fun t => t.slotState o.val = 1 ∧ t.get (REEDS_W0.UNIT o.val) = u % 2 ^ (REEDS_W0.UNIT o.val).width ∧
      t.get (REEDS_W0.OWNER o.val) = r.val)) ∧
  (∀ (q : ReqHdr) (o : Fin 16) (s : State), s.admits q → s.slotOwner o.val = some q.session.val → o.val < s.reed.slots.length →
    (s.slotState o.val = 1 → s.startConflict o.val = false → s.dev ≠ 1 → Leads (.reedStart q o.val) s (fun t =>
      s.replied t q 0x0702 stOk [] ∧ (t.rslot o.val).startAt = some (s.now + 10000 * ns))) ∧
    (s.slotState o.val = 2 → (s.rslot o.val).outs = [] → Leads (.reedStop q o.val) s (fun t =>
      s.replied t q 0x0703 stOk [] ∧ t.slotState o.val = 1 ∧ (t.rslot o.val).samples = [])) ∧
    (s.admitsLong q → s.slotState o.val = 1 → Leads (.reedUnload q o.val) s (fun t =>
      s.answered t q 0x0704 stAccepted [] ∧ t.slotState o.val = 0)))

/-- On a pair device: PAIR_HB notes the partner's health and its arrival; PAIR_CFG_FRAME shows the partner's channel and node, compares the
configurations, and stops the launches of a device that is not active where the channels are equal; PAIR_LINK_UP and PAIR_LINK_DOWN set
and clear LINK_UP; PAIR_HB_SEND sends the health word; SNAP gathers the frames of a snapshot in order and takes it up where it is whole
and sound; FINAL_SEQ hands the SEQs over and ends the wait; PAIR_IDLE carries nothing. PAIR_CYCLE_BOUNDARY, once the boundary lies in
the sweep in progress or at its end, opens the cycle: the active sends its snapshot in frames, the standby keeps its own levels. -/
def Obligations.PairLinkCompletes : Prop :=
  (∀ s : State, exec .pairIdle s = .next s ∧ Leads .pairLinkDown s (fun t => t.flag PAIR_STATUS.LINK_UP = false) ∧
    (s.pairOn = true → Leads .pairLinkUp s (fun t => t.flag PAIR_STATUS.LINK_UP = true) ∧
      Leads .pairHbSend s (fun t => (s.emit (.pair s.pair.frameSeq (.hb (BitVec.ofNat 12 s.healthWord)))).out <+: t.out))) ∧
  (∀ (health : BitVec 12) (s : State), s.pairOn = true →
    Leads (.pairHb health) s (fun t => t.pair.partner = some (s.now, health) ∧ t.regs = s.regs)) ∧
  (∀ (tsw nslot : Nat) (alignMod : Ts) (ch : BitVec 8) (node : BitVec 12) (s : State), s.pairOn = true →
    Leads (.pairCfgFrame tsw nslot alignMod ch node) s (fun t => t.get PAIR_PARTNER.CH = ch.toNat ∧ t.get PAIR_PARTNER.NODE = node.toNat ∧
      t.flag PAIR_STATUS.CFG_MISMATCH = !(tsw == s.get PAT_SWEEP.TSW && nslot == s.get PAT_SWEEP.N_SLOT && alignMod == s.alignMod) ∧
      t.pair.pcfg = some (tsw, nslot, alignMod) ∧ (ch.toNat = s.get LSD_LASER.CH → s.role ≠ 1 → t.pat.clash = true))) ∧
  (∀ (offset total : Nat) (body l : List Byte) (s : State), s.pairOn = true → s.role ≠ 1 →
    l = (if offset = 0 then body else if offset = s.pair.snapIn.length && total = s.pair.snapLen then s.pair.snapIn ++ body else []) →
    (l.length ≠ total → Leads (.snap offset total body) s (fun t => t.pair.snapIn = l ∧ t.pair.snapLen = total ∧ t.pair.snap = s.pair.snap)) ∧
    (l.length = total → 68 ≤ total → wordBytes (crc32c (l.take (l.length - 4))) = l.drop (l.length - 4) →
      snapWord l 0 = 0x50530100 → Leads (.snap offset total body) s (fun t => t.pair.snap = some l ∧
        t.get PAIR_SNAP.AGE = 0 ∧ t.get PAIR_SNAP.SIZE = total % 2 ^ PAIR_SNAP.SIZE.width))) ∧
  (∀ (seqs : List (Fin 64 × BitVec 32)) (l : List (Nat × BOut)) (s : State), s.strm.held = some l →
    Leads (.finalSeq seqs) s (fun t => t.strm.held = none ∧
      (l = [] → (seqs.map (·.1)).Nodup → ∀ e ∈ seqs, t.get (STR_W10.SEQ e.1.val) = e.2.toNat))) ∧
  (∀ (m : Nat) (s : State), s.pairOn = true → s.grid.running = true → s.grid.started = true → m = s.pairCycle →
    s.pairCycleAt m ≤ s.grid.align + (s.grid.k + 1) * s.tSw →
    Leads .pairCycleBoundary s (fun t => t.grid.cycle = some m ∧
      (s.role = 1 → ∃ l : List Byte, t.get PAIR_SNAP.SIZE = l.length % 2 ^ PAIR_SNAP.SIZE.width ∧
        t.pair.frameSeq = s.pair.frameSeq + BitVec.ofNat 32 (snapFrames l).length) ∧
      (s.role ≠ 1 → t.pair.own = some (s.shotNo (s.pairCycleAt m), s.phs.chA.map (·.phi), s.phs.chB.map (·.phi)))))

/-- FENCE of the active, at the end of the time since its newest echo, fences it, unless its partner reports no referee either, and
PARTNER_HEARTBEAT_LOSS fences it later. TAKE_EXECUTE stops the former active, and its target becomes the active, with its takes counted
and its first sweeps marked FAILOVER. TAKE_AT tells the active when to stop, and relays a switch-back to the standby. MAKE_START starts
every position in SHADOW. SWITCH_INSTANT ends the switch-back: the outgoing device with an able partner becomes the standby, the incoming
one that is healthy becomes the active, and the referee watches. PAIR_CMD, the first copy of another node's, with the pair's identifier, is a TAKE
for its target, tells the active when to stop, or schedules a switch-back. -/
def Obligations.PairTakesComplete : Prop :=
  (∀ u s : State, s.role = 1 → u = s.at (s.echoTime + us 500) →
    (u.pair.partner.any (fun p => u.recent (some p.1) && !p.2.getLsbD 7) = false → Leads .fence s (fun t => t.role = 3 ∧ t.pair.draining = true ∧
      t.get (LSD_PWR.ACTUAL 0) = 0x8000 ∧ t.get (LSD_PWR.ACTUAL 1) = 0x8000)) ∧
    (u.pair.partner.any (fun p => u.recent (some p.1) && !p.2.getLsbD 7) = true → Leads .fence s (fun t => t.role = 1 ∧
      t.flag PAIR_STATUS.REF_LOST = true)) ∧
    (s.flag PAIR_STATUS.REF_LOST = true → Leads .partnerHeartbeatLoss s (fun t => t.role = 3 ∧ t.pair.draining = true))) ∧
  (∀ (x : Ts) (s : State),
    (s.pair.stopAt = some x → s.pair.takeAt = none → Leads .takeExecute s (fun t => t.pair.stopAt = none ∧ t.pair.stopped = true ∧
      t.pair.draining = true ∧ t.get (LSD_PWR.ACTUAL 0) = 0x8000 ∧ t.get (LSD_PWR.ACTUAL 1) = 0x8000)) ∧
    (s.pair.stopAt = none → s.pair.takeAt = some x → s.dev = 4 → Leads .takeExecute s (fun t => t.dev = 3 ∧ t.role = 1 ∧
      t.pair.takeAt = none ∧ t.grid.failover = true ∧ t.flag PAIR_STATUS.SWITCHING = false ∧
      t.get PAIR_STATUS.TAKES = (s.get PAIR_STATUS.TAKES + 1) % 2 ^ PAIR_STATUS.TAKES.width))) ∧
  (∀ (x : Ts) (s : State), s.pairOn = true →
    (s.role = 1 → Leads (.takeAt x) s (fun t => t.pair.stopAt = some x ∧ t.regs = s.regs)) ∧
    (s.role ≠ 1 → s.dev = 4 → Leads (.takeAt x) s (fun t => t.pair.switch = some { ts := x, w := s.makeInterval, incoming := true } ∧
      t.flag PAIR_STATUS.SWITCHING = true))) ∧
  (∀ (w : Switch) (s : State), s.pair.switch = some w →
    (s.dev = 4 → w.incoming = true → s.pair.making = false → Leads .makeStart s (fun t => t.pair.making = true)) ∧
    (w.incoming = false → s.role = 1 → Leads .switchInstant s (fun t => t.pair.switch = none ∧ t.flag PAIR_STATUS.SWITCHING = false ∧
      (s.pair.partner.any (fun p => s.recent (some p.1) && ableWord p.2.toNat) = true → t.dev = 4 ∧ t.role = 2 ∧ t.pair.finalDue = true) ∧
      (s.pair.partner.any (fun p => s.recent (some p.1) && ableWord p.2.toNat) = false → t.dev = s.dev ∧ t.role = 1))) ∧
    (w.incoming = true → s.dev = 4 → Leads .switchInstant s (fun t => t.pair.switch = none ∧ t.pair.making = false ∧
      t.flag PAIR_STATUS.SWITCHING = false ∧
      (s.pair.making = true → healthy s.healthWord = true → t.dev = 3 ∧ t.role = 1) ∧
      ((s.pair.making && healthy s.healthWord) = false → t.dev = 4 ∧ t.role = s.role)))) ∧
  (∀ (x : Ts) (s : State), s.pair.switch = none → s.pair.ref.switchAt = some x → s.refOn = true → s.get PAIR_RSTAT.STATE = 5 →
    Leads .switchInstant s (fun t => t.get PAIR_RSTAT.STATE = 2 ∧ t.get PAIR_RSTAT.ACTIVE_B = s.pref.toNat ∧ t.pair.ref.switchAt = none)) ∧
  (∀ (h : RidgeHdr) (pairId : BitVec 12) (cmd : BitVec 4) (target : BitVec 12) (cseq w : BitVec 32) (b : List Byte) (u v s : State),
    s.ridgeOn = true → s.laneUp h.laneW = true → h.origin ≠ s.nodeId →
    b = [pairId.toNat * 65536, cmd.toNat * 2 ^ 28 + target.toNat, cseq.toNat, w.toNat, 0, 0, 0, 0].flatMap (beBytes 4) →
    u = (s.goodFrame h.laneW).forward h 8 b → u.ridge.seen.contains (h.origin, h.seq) = false →
    v = { u with ridge := { u.ridge with seen := u.ridge.seen ++ [(h.origin, h.seq)] } } →
    v.pairOn = true → pairId.toNat = v.get PAIR_CFG.PAIR_ID →
    (cmd = 1 → target = v.nodeId → v.eligible = true → Leads (.pairCmd h pairId cmd target cseq w) s (fun t => t.pair.takeAt = some h.time)) ∧
    (cmd = 1 → target = v.nodeId → v.eligible = false → exec (.pairCmd h pairId cmd target cseq w) s = .next (v.countSat PAIR_CNT.TAKE_REJ)) ∧
    (cmd = 1 → target ≠ v.nodeId → v.role = 1 ∨ v.role = 3 → Leads (.pairCmd h pairId cmd target cseq w) s (fun t => t.pair.stopAt = some h.time)) ∧
    (cmd = 2 → (target = v.nodeId ∧ v.dev = 4) ∨ (target ≠ v.nodeId ∧ v.role = 1) →
      Leads (.pairCmd h pairId cmd target cseq w) s (fun t => t.flag PAIR_STATUS.SWITCHING = true ∧
        t.pair.switch = some { ts := h.time, w := us w.toNat, incoming := target == v.nodeId })))

/-- HEALTH_UPDATE shows the health word, and a device that stopped for its partner enters SHADOW once healthy. HEARTBEAT_SEND of a pair
device notes the departure and goes on to the next sequence; the referee's goes on too. HEARTBEAT_FRAME, the first copy of another
node's, is the referee's echo at the pair device and the device's state at the referee. REF_LOSS_DECLARE orders the take of an eligible
standby, or leaves the pair DARK; REVERT_HOLD_EXPIRE schedules the switch-back. PAIR_STATUS, REF_ATTACH, REF_DETACH, TAKE and
SWITCH_BACK of a session that may do so answer and take effect. -/
def Obligations.PairHealthCompletes : Prop :=
  (∀ s : State, s.pairOn = true → Leads .healthUpdate s (fun t => t.get PAIR_HEALTH.HEALTH = s.healthWord % 2 ^ PAIR_HEALTH.HEALTH.width ∧
    t.get PAIR_STATUS.REF_SEEN = s.healthWord / 128 % 2 ∧
    (s.pair.stopped = true → healthy s.healthWord = true → s.dev = 3 ∨ s.dev = 5 → t.dev = 4 ∧ t.role = 2 ∧ t.pair.stopped = false))) ∧
  (∀ s : State, (s.pairOn = true → Leads .heartbeatSend s (fun t => t.pair.sent = ((s.pair.hseq, s.now) :: s.pair.sent).take 64)) ∧
    (s.pairOn = false → s.refOn = true → Leads .heartbeatSend s (fun t => t.pair.hseq = s.pair.hseq + 1))) ∧
  (∀ (h : RidgeHdr) (hb : Heartbeat) (b : List Byte) (u v s : State), s.ridgeOn = true → s.laneUp h.laneW = true → h.origin ≠ s.nodeId →
    b = hbBytes hb.pairId.toNat hb.role.val hb.st.toNat hb.hseq.toNat hb.health.toNat hb.epoch.toNat hb.echo0.toNat hb.echo1.toNat →
    u = (s.goodFrame h.laneW).forward h 7 b → u.ridge.seen.contains (h.origin, h.seq) = false →
    v = { u with ridge := { u.ridge with seen := u.ridge.seen ++ [(h.origin, h.seq)] } } →
    (v.pairOn = true → hb.pairId.toNat = v.get PAIR_CFG.PAIR_ID → hb.role.val = 0 →
      Leads (.heartbeatFrame h hb) s (fun t => t.pair.refAt = some v.now ∧ t.pair.refHseq = hb.hseq)) ∧
    (∀ c : Bool, v.refOn = true → hb.pairId.toNat = v.get PAIR_RID.PAIR_ID → hb.role.val ≠ 0 → v.refId false ≠ v.refId true →
      h.origin.toNat = v.refId c → Leads (.heartbeatFrame h hb) s (fun t => t.refNode c =
        { seen := true, hseq := hb.hseq, depart := h.time, role := hb.role.val, st := hb.st.toNat, health := hb.health }))) ∧
  (∀ (b : Bool) (u s : State), s.refOn = true → 2 ≤ s.get PAIR_RSTAT.STATE → s.get PAIR_RSTAT.STATE ≤ 5 → b = s.flag PAIR_RSTAT.ACTIVE_B →
    u = s.at ((s.refNode b).depart + us 300 + s.refDelay b) →
    (u.refEligible (!b) = true → Leads .refLossDeclare s (fun t => t.flag PAIR_RSTAT.ACTIVE_B = !b ∧
      t.get PAIR_RSTAT.STATE = if (!b) == s.pref then 2 else 3)) ∧
    (u.refEligible (!b) = false → Leads .refLossDeclare s (fun t => t.get PAIR_RSTAT.STATE = 6))) ∧
  (∀ s : State, s.refOn = true → s.get PAIR_RSTAT.STATE = 4 → Leads .revertHoldExpire s (fun t => t.get PAIR_RSTAT.STATE = 5 ∧
    t.pair.ref.holdSince = none ∧ t.pair.ref.switchAt.isSome = true)) ∧
  (∀ (q : ReqHdr) (s : State), s.admits q →
    Leads (.pairStatus q) s (fun t => s.qcpOnly t ∧ s.replied t q 0x0600 stOk [itWords [s.rd PAIR_STATUS.ROLE.addr]]) ∧
    (s.isReferee q = true → Leads (.refDetach q) s (fun t => s.replied t q 0x0602 stOk [] ∧ t.pair.host = none ∧
      t.get PAIR_RSTAT.STATE = if s.refOn then 1 else 0)) ∧
    (s.isReferee q = true → s.eligible = true → Leads (.take q) s (fun t => t.pair.takeAt = some (s.shotAt (s.now + us 20)) ∧
      .qcp q.via (replyPacket s q 0x0603 stOk []) ∈ t.out))) ∧
  (∀ (q : ReqHdr) (s : State), s.admitsLong q →
    (∀ pairId : BitVec 12, s.pair.host = none ∨ s.isReferee q = true → s.pairOn = true → s.get PAIR_CFG.PAIR_ID = pairId.toNat →
      Leads (.refAttach q pairId) s (fun t => s.answered t q 0x0601 stAccepted [] ∧ t.pair.host = some q.session ∧ t.get PAIR_RSTAT.STATE = 1)) ∧
    (∀ x : Ts, s.role = 1 → s.pair.switch = none → s.isReferee q = true → Leads (.switchBack q x) s (fun t =>
      s.answered t q 0x0604 stAccepted [] ∧ t.pair.switch = some { ts := x, w := s.makeInterval, incoming := false } ∧
      t.pair.switchOp = some (q.session, q.seq) ∧ t.flag PAIR_STATUS.SWITCHING = true)))

/-- BATTEN_CLOSE of a running stream closes its open battens, completed with what is missing of their period, when the period is full,
the last output is in, or they hold events, and suspends a stream chosen for it; of a suspended stream that fits its quotas again, the
oldest started of its session's, it resumes it. BATTEN_SEND sends the batten at its
turn, on an Ethernet port that is not scheduled with all its fragments, into a ring where it has room, and drops it where it has none.
BATTEN_AGE_EXPIRE drops the oldest batten not yet started. LAUNCH_WINDOW_OPEN opens the port's window for its width. RESEND_TAKE queues
the next sequence asked for; RETAIN_EXPIRE drops the oldest retained packet. STREAM_STATUS, RESEND and FLUSH answer and take effect. -/
def Obligations.StreamsComplete : Prop :=
  (∀ (n : Fin 64) (s : State),
    (∀ v : State, v = s.fillOpen n.val → s.strState n.val = 1 → (s.str n.val).open_ ≠ [] →
      (v.periodFull n.val || v.lastOut n.val || v.strKind n.val == 3) = true → Leads (.battenClose n) s (fun t => (t.str n.val).open_ = [] ∧ s.strm.q <+: t.strm.q ∧
        t.strState n.val = if (s.str n.val).chosen then 2 else 1)) ∧
    (∀ r : Nat, s.strState n.val = 2 → s.strOwner n.val = some r → s.isOverdrawn r = false →
      (∀ m < 64, s.strState m = 2 → s.strOwner m = some r → (s.str n.val).order ≤ (s.str m).order) →
      s.handedOver.streamsFit r (n.val :: s.handedOver.runningOf r) = true →
      Leads (.battenClose n) s (fun t => t.strState n.val = 1))) ∧
  (∀ (x : Fin 2) (e : Egr) (mine : List Egr) (f : Fld) (s : State), s.flag (NET_W1.LINK x.val) = true → s.bpHeld (3 - x.val) = false →
    s.flag (STR_PORT.SCHED x.val) = false → mine = s.strm.q.filter (fun e => e.egress == .eth x) →
    (mine.find? (fun e => decide (0 < e.frag))).orElse (fun _ => pickEgr mine (fun e => s.hopKnown x.val e.udp)) = some e →
    e.frag ≤ e.frags →
    f = (if e.expired then STR_W14.EXPIRED e.stream else if e.resend then STR_W13.RESENT e.stream else STR_W11.SENT e.stream) →
    Leads (.battenSend (.eth x)) s (fun t => t.strm.q = s.strm.q.erase e ∧ t.get f = (s.get f + 1) % 2 ^ f.width ∧
      (s.get PTB_CRC.N = 0 → t.out.length = s.out.length + (e.frags - e.frag)))) ∧
  (∀ (r : Fin 8) (e : Egr) (need : Nat) (s : State), pickEgr (s.strm.q.filter (fun e => e.egress == .ring r)) (fun _ => true) = some e →
    need = (e.bytes.length + 63) / 64 * 64 →
    (s.bpHeld 1 = false → need ≤ s.ringFree r.val → Leads (.battenSend (.ring r)) s (fun t => t.strm.q = s.strm.q.erase e ∧
      t.get (RING_W6.WPTR r.val) = (s.get (RING_W6.WPTR r.val) + need) % s.ringSize r.val % 2 ^ (RING_W6.WPTR r.val).width)) ∧
    (s.bpHeld 1 = true ∨ s.ringFree r.val < need → Leads (.battenSend (.ring r)) s (fun t => t.strm.q = s.strm.q.erase e ∧
      t.get (RING_W7.FULLCNT r.val) = (s.get (RING_W7.FULLCNT r.val) + 1) % 2 ^ (RING_W7.FULLCNT r.val).width ∧
      t.get (STR_W12.DROPPED e.stream) = (s.get (STR_W12.DROPPED e.stream) + 1) % 2 ^ (STR_W12.DROPPED e.stream).width))) ∧
  (∀ (x : Fin 2) (e : Egr) (s : State), (s.strm.q.filter (fun e => e.egress == .eth x && e.frag == 0)).foldl (fun (b : Option Egr) e =>
      match b with
      | none => some e
      | some y => if e.closed < y.closed then some e else some y) none = some e →
    Leads (.battenAgeExpire x) s (fun t => t.strm.q = s.strm.q.erase e ∧
      t.get (STR_W12.DROPPED e.stream) = (s.get (STR_W12.DROPPED e.stream) + 1) % 2 ^ (STR_W12.DROPPED e.stream).width)) ∧
  (∀ (x : Fin 2) (p o : Nat) (s : State), s.flag (STR_PORT.SCHED x.val) = true → p = s.get (LWIN_W0.PERIOD x.val) * 1000 * ns →
    o = s.get (LWIN_W1.OFFSET x.val) * ns → o < p →
    Leads (.launchWindowOpen x) s (fun t => ∃ a : Nat, s.now ≤ a ∧ a < s.now + p ∧ a % p = o ∧ t.now = a ∧
      (0 < s.get (LWIN_W2.WIDTH x.val) → t.winEnd x.val a = a + s.get (LWIN_W2.WIDTH x.val) * ns) ∧ t.regs = s.regs)) ∧
  (∀ (n : Fin 64) (s : State), Leads (.retainExpire n) s (fun t => (t.str n.val).retain = (s.str n.val).retain.drop 1 ∧ t.regs = s.regs) ∧
    (∀ (seq : BitVec 32) (rest : List (BitVec 32)), (s.str n.val).resendQ = seq :: rest →
      Leads (.resendTake n) s (fun t => (t.str n.val).resendQ = rest ∧ ∃ e : Egr, t.strm.q = s.strm.q ++ [e] ∧ e.seq = seq ∧ e.resend = true))) ∧
  (∀ (q : ReqHdr) (n : Fin 64) (s : State), s.admits q →
    Leads (.streamStatus q n.val) s (fun t => s.qcpOnly t ∧ s.replied t q 0x0300 stOk [itWords (s.rdWords (STR_W10.SEQ n.val).addr 6)]) ∧
    (s.strOwner n.val = some q.session.val → s.dev ≠ 1 →
      Leads (.flush q n.val) s (fun t => .qcp q.via (replyPacket s q 0x0302 stOk []) ∈ t.out ∧ (t.str n.val).open_ = []) ∧
      (∀ (seq : BitVec 32) (cnt : Nat), n.val < s.strm.st.length → 1 ≤ cnt → cnt ≤ 256 →
        (s.rd (STR_W10.SEQ n.val).addr - 1 - seq).toNat < 2 ^ 31 →
        Leads (.resend q n.val seq cnt) s (fun t => s.replied t q 0x0301 stOk [] ∧
          (t.str n.val).resendQ = (s.str n.val).resendQ ++ (List.range cnt).map (fun i => seq + BitVec.ofNat 32 i)))))

/-- SHUTDOWN of the owner, outside an active pair device, is accepted: while sweeps start it waits for the boundary, otherwise the device goes
dark into SHUTDOWN with its self-test due. DIAG_ENTER does so into DIAG; DIAG_LEAVE from DIAG enters STANDBY. BIST_READ returns the
newest report. SELF_TEST_ITEM ends the item in progress, or skips the one that needs light, and goes on to the next that is not masked;
after the last the report is ready, and after a SHUTDOWN's the device is ready to be switched off. -/
def Obligations.SelfTestCompletes : Prop :=
  (∀ (q : ReqHdr) (s : State), s.admitsLong q → s.dev ≠ 0 → s.dev ≠ 6 → s.power.op = none → s.owner = q.session.val →
    (¬ (s.pairOn = true ∧ s.get PAIR_STATUS.ROLE = 1) →
      (s.sweeping = true → Leads (.shutdown q) s (fun t => s.began t q 0x0104 0 ∧ t.power.op = some (q.session, q.seq) ∧
        t.power.shutDue = true ∧ t.dev = s.dev)) ∧
      (s.sweeping = false → Leads (.shutdown q) s (fun t => s.answered t q 0x0104 stAccepted [] ∧ t.power.op = some (q.session, q.seq) ∧
        t.dev = 6 ∧ t.power.testDue = some true ∧ t.grid.running = false))) ∧
    Leads (.diagEnter q) s (fun t => s.answered t q 0x0A00 stAccepted [] ∧ t.power.op = some (q.session, q.seq) ∧ t.dev = 7 ∧
      t.power.testDue = some false ∧ t.grid.running = false)) ∧
  (∀ (q : ReqHdr) (s : State), s.admits q →
    (s.power.op = none → s.dev = 7 → s.owner = q.session.val →
      Leads (.diagLeave q) s (fun t => .qcp q.via (replyPacket s q 0x0A01 stOk []) ∈ t.out ∧ t.dev = 2)) ∧
    (∀ l : List Byte, s.flag BIST_STATUS.READY = true → s.newestReport = some l →
      Leads (.bistRead q) s (fun t => s.qcpOnly t ∧ s.replied t q 0x0A02 stOk [itData l]))) ∧
  (∀ (pass : Bool) (measured limit detail : Word) (ms n : Nat) (x : SelfTest) (r : List Word) (u s : State), u = s.startTest →
    u.power.test = some x → n = nextItem (u.get BIST_MASK.MASK) (x.item + 1) →
    r = (if x.item == 2 && !(u.flag LSD_LASER_STATUS.LOCK && !u.flag LSD_ILK.CLAMP) then idleItem x.item 2
      else [itemWord x.item (!pass).toNat ms, measured, limit, detail]) →
    (n < 6 → Leads (.selfTestItem pass measured limit detail ms) s (fun t => t.get BIST_STATUS.ITEM = n ∧
      t.power.test = some { x with item := n, items := withSkipped (x.items ++ [r]) n })) ∧
    (n = 6 → Leads (.selfTestItem pass measured limit detail ms) s (fun t => t.power.test = none ∧ t.flag BIST_STATUS.RUNNING = false ∧
      t.flag BIST_STATUS.READY = true ∧ (x.shutdown = true → t.flag SYS_CTRL.OFFREADY = true ∧ t.power.pins.flashClosed = true))))

/-- POWER_ON, SUPPLY_DROP, a PORESET_N pulse of 1 µs, THERMAL_RESET, the watchdog, a WARMRST_N pulse of 1 µs, and the owner's writes of
COLD and WARM assert an episode of their reach or the wider one in force, set their cause and close the gates; a release of the thermal
reset lets it end. RESET of the owner answers, and its reset is due. ISLAND_STOP, the island's watchdog and the owner's write of FIELD
take the island down; its write of BLOCK resets the named block. RESET_EXIT with every source released ends the episode;
FLASH_HOLD_EXPIRE of a WARM one closes the flashing; BLOCK_RESET_END ends a block's. -/
def Obligations.ResetsComplete : Prop :=
  (∀ (c : Instr) (src : RstSource) (reach width : Nat) (s : State), 1000 ≤ width →
    (c, src, reach) ∈ [(.powerOn, .power, 4), (.supplyDrop, .supply, 4), (.poresetNLow width, .poreset, 4), (.thermalReset true, .thermal, 3),
      (.watchdogExpire, .wdog, 2), (.warmrstNLow width, .warmrst, 2)] →
    Leads c s (fun t => t.isDark ∧ (t.rd 0x010000).getLsbD src.bit = true ∧
      ∃ e, t.power.episode = some e ∧ e.reach = max ((s.power.episode.map (·.reach)).getD 0) reach ∧ src ∈ e.sources)) ∧
  (∀ (path : Path) (s : State), s.power.episode = none → s.pathOwns path = true →
    Leads (.coldResetWrite path) s (fun t => t.isDark ∧ ∃ e, t.power.episode = some e ∧ e.reach = 3 ∧ e.sources = [.rstCold]) ∧
    Leads (.warmResetWrite path) s (fun t => t.isDark ∧ ∃ e, t.power.episode = some e ∧ e.reach = 2 ∧ e.sources = [.rstWarm]) ∧
    Leads (.fieldResetWrite path) s (fun t => t.isl.up = false ∧ (t.rd 0x010000).getLsbD 9 = true) ∧
    (∀ blk : Byte, s.blockAllowed blk.toNat = true →
      Leads (.blockResetWrite path blk) s (fun t => (∃ c, t.power.blockRst = some (blk, c)) ∧ (t.rd 0x010000).getLsbD 11 = true))) ∧
  (∀ s : State, Leads (.thermalReset false) s (fun t => ∀ e, t.power.episode = some e → e.hot = false) ∧
    (s.isl.up = true → Leads .islandStop s (fun t => t.isl.up = false ∧ (t.rd 0x010000).getLsbD 8 = true) ∧
      Leads .islandWatchdog s (fun t => t.isl.up = false ∧ (t.rd 0x010000).getLsbD 10 = true))) ∧
  (∀ (q : ReqHdr) (count : Nat) (s : State), s.admits q → count = 1 ∨ count = 2 → s.owner = q.session.val →
    Leads (.reset q count) s (fun t => s.replied t q 0x0105 stOk [] ∧ t.power.rstPending = some (count + 1, s.cyc))) ∧
  (∀ (e : Episode) (s : State), s.power.episode = some e →
    (e.hot = false → s.flag KEY_STATUS.SCAN = false → Leads .resetExit s (fun t => t.power.episode = none ∧ t.power.bootDue = true ∧
      t.get RST_LAST.REACH = e.reach % 2 ^ RST_LAST.REACH.width ∧ t.dmc.selfRefresh = false ∧ t.dmc.resetLow = false)) ∧
    (e.reach = 2 → Leads .flashHoldExpire s (fun t => t.power.pins.flashClosed = true))) ∧
  (∀ (b : Byte) (c : Nat) (s : State), s.power.blockRst = some (b, c) → Leads .blockResetEnd s (fun t => t.get RST_LAST.REACH = 1))

/-- CAL_RUN of the owner is accepted and makes every domain it names due, or leaves it running; RESTORE_FACTORY, none in
progress, is accepted and waits.
CAL_STATUS and CAL_READ of a ready record answer. CAL_SENSOR_READ takes the temperatures up. CAL_MICRO_STEP of a domain that may step
counts the step, unless a lane clipped, and runs until its last step, which ends in the check of its values. CAL_RETRY_EXPIRE makes a
failed domain due again; CAL_USER_SAVE saves the user record. -/
def Obligations.CalCompletes : Prop :=
  (∀ (q : ReqHdr) (mask : BitVec 64) (s : State), s.admitsLong q → mask.toNat ≤ 8191 → s.dev ≠ 1 → s.owner = q.session.val →
    Leads (.calRun q mask) s (fun t => s.answered t q 0x0500 stAccepted [] ∧
      (mask.toNat ≠ 0 → t.cal.ops = s.cal.ops ++ [{ sess := q.session.val, seq := q.seq, left := mask.toNat }]) ∧
      ∀ d : Fin 13, mask.toNat / 2 ^ d.val % 2 = 1 → (t.cbit CAL_STATUS.RUNNING d.val || t.cbit CAL_DUE.DUE d.val) = true)) ∧
  (∀ (q : ReqHdr) (s : State), s.admitsLong q → s.owner = q.session.val → s.cal.restore = none →
    Leads (.restoreFactory q) s (fun t => s.began t q 0x0503 0 ∧ t.cal.restore = some (q.session.val, q.seq, s.cyc))) ∧
  (∀ (q : ReqHdr) (s : State), s.admits q →
    Leads (.calStatus q) s (fun t => s.qcpOnly t ∧ s.replied t q 0x0501 stOk [itWords [s.rd 0x140000]]) ∧
    (∀ d : Fin 13, s.flag (CALREC_W0.READY d.val) = true → Leads (.calRead q d.val) s (fun t => s.qcpOnly t ∧
      s.replied t q 0x0502 stOk [itWords (s.rdWords (CALREC_W0.READY d.val).addr 8)]))) ∧
  (∀ (die0 die1 die2 die3 tcase : Int) (s : State), Leads (.calSensorRead die0 die1 die2 die3 tcase) s (fun t =>
    t.cal.temps = [die0, die1, die2, die3, tcase] ∧ (500 < (die2 - s.dmc.trainTemp).natAbs → t.dmc.trainDue = true))) ∧
  (∀ (d : Fin 13) (clipped : Bool) (values : List Int) (n : Nat) (s : State), d.val < s.cal.doms.length →
    (s.cbit CAL_STATUS.RUNNING d.val || s.cbit CAL_DUE.DUE d.val) = true → s.calBlocked d.val = false → s.calWaits d.val = false →
    (s.dom d.val).ready = none → n = (s.dom d.val).steps + (!clipped).toNat →
    (n < calSteps d.val → Leads (.calMicroStep d clipped values) s (fun t => t.cbit CAL_STATUS.RUNNING d.val = true ∧
      (t.dom d.val).steps = n ∧ (t.dom d.val).tries = (s.dom d.val).tries + 1)) ∧
    (calSteps d.val ≤ n → ∃ u : State, exec (.calMicroStep d clipped values) s = .next (u.calCheck d.val values) ∧
      u.cbit CAL_STATUS.RUNNING d.val = true ∧ (u.dom d.val).steps = n)) ∧
  (∀ (d : Fin 13) (s : State), (s.dom d.val).retry = true → s.cbit CAL_STUCK.STUCK d.val = false →
    Leads (.calRetryExpire d) s (fun t => (t.dom d.val).retry = false ∧
      (s.cbit CAL_STATUS.RUNNING d.val = false → t.cbit CAL_DUE.DUE d.val = true))) ∧
  (∀ s : State, s.cal.ownerDirty = true ∨ (s.cal.runDirty = true ∧ ∀ c, s.cal.savedAt = some c → c + 86400 * sCyc ≤ s.cyc) →
    Leads .calUserSave s (fun t => t.cal.user = some { words := calWords.map (fun o => (o, s.rd o)), trims := s.cal.trims } ∧
      t.cal.ownerDirty = false ∧ t.cal.runDirty = false ∧ t.regs = s.regs))

/-- While the island runs: CFG applies a changed word; CMD starts the rounds it names where none runs; FOUT sets the outputs and ends a
host loss; HB starts the host-loss timer again; TSYNC is answered with a tick and BUFREQ with the records. ILK and FIN show the field
inputs, ILK in the interlock as well; RESULT writes the result register; STATUS shows the flags; TICK and BUFDATA are kept. ILK_SEND and
TSYNC_SEND send their frames, and a frame in error is counted by its receiver. -/
def Obligations.BarrierMessagesComplete : Prop :=
  ∀ s : State, s.isl.up = true →
    (∀ (off : BitVec 16) (value : Word),
      (s.isl.regs.read (0x120000 + off.toNat) = value → exec (.cfg off value) s = .next s) ∧
      (s.isl.regs.read (0x120000 + off.toNat) ≠ value → Leads (.cfg off value) s (fun t => t.isl.regs = s.isl.regs.write (0x120000 + off.toNat) value))) ∧
    (∀ regular injected : Bool, Leads (.cmd regular injected) s (fun t =>
      (regular = true → s.isl.rounds.reg = none → s.iget FLD_CTRL.N_REG ≠ 0 → t.isl.rounds.reg.isSome = true ∧ t.flag FLD_CTRL.BUSY_REG = true) ∧
      (injected = true → s.isl.rounds.inj = none → s.iget FLD_CTRL.N_INJ ≠ 0 → t.isl.rounds.inj.isSome = true ∧ t.flag FLD_CTRL.BUSY_INJ = true))) ∧
    (∀ mask : BitVec 2, Leads (.fout mask) s (fun t => t.get FLD_FOUT.ACT = mask.toNat ∧ t.flag FLD_STATUS.HOSTLOSS = false)) ∧
    Leads .hb s (fun t => t.isl.hb = s.cyc ∧ t.regs = s.regs) ∧
    Leads .tsync s (fun t => t.out = (s.emit (.barrier false s.isl.seqFrom (.tick s.islTick))).out ∧ t.isl.seqFrom = s.isl.seqFrom + 1) ∧
    (∀ (ch : Fin 8) (first count : BitVec 16), Leads (.bufreq ch first count) s (fun t => t.isl.seqFrom = s.isl.seqFrom +
      BitVec.ofNat 8 (((((s.isl.rings.getD ch.val []).drop first.toNat).take count.toNat).length + 1) / 2))) ∧
    (∀ (closed : Bool) (tick : BitVec 32), Leads (.ilk closed tick) s (fun t => t.flag FLD_STATUS.UP = true ∧
      t.get FLD_FIN.STATE = setBit (s.get FLD_FIN.STATE) 0 closed % 16 ∧ t.flag LSD_ILK.FIN0_OK = closed ∧ (closed = false → t.isDark))) ∧
    (∀ (states : BitVec 4) (tick : BitVec 32), Leads (.fin states tick) s (fun t => t.flag FLD_STATUS.UP = true ∧ t.get FLD_FIN.STATE = states.toNat)) ∧
    (∀ (index qual : BitVec 4) (seq : Byte) (gain : BitVec 3) (opened : Bool) (code tick : Word),
      Leads (.result index qual seq gain opened code tick) s (fun t => t.flag (FLDRES_W0.READY index.toNat) = true ∧
        t.get (FLDRES_W0.SEQ index.toNat) = (s.get (FLDRES_W0.SEQ index.toNat) + 1) % 256 ∧
        t.get (FLDRES_W0.QUAL index.toNat) = qualCode (worseQual (qualOf qual.toNat) (if s.tbCold then .tbCold else .good)) ∧
        t.flag (FLDRES_W0.OPEN index.toNat) = opened ∧ t.get (FLDRES_W0.GAIN index.toNat) = gain.toNat)) ∧
    (∀ (flags : Word) (vin echo : Byte) (crcerr badmsg : BitVec 16), Leads (.status flags vin echo crcerr badmsg) s (fun t =>
      t.get FLD_STATUS.VIN = vin.toNat ∧ t.get FLD_LINKI.CRCERR = crcerr.toNat ∧ t.get FLD_LINKI.BADMSG = badmsg.toNat ∧
      t.isl.echo = echo ∧ t.isl.told = true)) ∧
    (∀ tick : BitVec 32, Leads (.tick tick) s (fun t => t.isl.map = ((tick.toNat, s.isl.tsync) :: s.isl.map).take 2)) ∧
    (∀ (ch : Fin 8) (index : BitVec 16) (rec0 rec1 : Word), Leads (.bufdata ch index rec0 rec1) s (fun t =>
      (ch.val, index.toNat, rec0) ∈ t.isl.got ∧ (ch.val, index.toNat + 1, rec1) ∈ t.isl.got)) ∧
    exec (.barrierFrameError true true) s = .next (s.countSat FLD_LINKI.CRCERR) ∧
    exec (.barrierFrameError true false) s = .next (s.countSat FLD_LINKI.BADMSG) ∧
    exec (.barrierFrameError false true) s = .next (s.countSat FLD_LINK.CRCERR) ∧
    exec (.barrierFrameError false false) s = .next (s.countSat FLD_LINK.BADMSG) ∧
    Leads .ilkSend s (fun t => t.out = (s.emit (.barrier false s.isl.seqFrom (.ilk (s.isl.fin % 2 == 1) s.islTick))).out) ∧
    Leads .tsyncSend s (fun t => t.isl.tsync = s.now ∧ t.isl.seqTo = s.isl.seqTo + 1)

/-- ISLAND_START starts an island that is off, its outputs de-energised, and reports. FIN0_CHANGE and FIN_DEBOUNCED change a filtered
input and report it; HOSTLOSS de-energises the outputs; FOUT_OVERCURRENT and EXC_LIMIT flag their output, the former de-energised;
EXC_SETTLE_EXPIRE ends the wait for an excitation. ROUND_TIMER_TICK starts a round of a timed converter where none runs.
FIELD_CONVERSION of a settled entry reports a result and goes on in its round; MONITOR_CONVERSION with the reference settled writes its
result register and goes on. -/
def Obligations.FieldEventsComplete : Prop :=
  (∀ s : State, s.isl.up = false → Leads .islandStart s (fun t => t.isl.up = true ∧ t.isl.since = s.cyc ∧ t.get FLD_FOUT.ACT = 0 ∧
    t.isl.rounds = {} ∧ t.isl.seqFrom = 1)) ∧
  (∀ s : State, s.isl.up = true →
    (∀ (closed : Bool) (tick : BitVec 32), Leads (.fin0Change closed tick) s (fun t => t.isl.fin = setBit s.isl.fin 0 closed ∧
      t.out = (s.emit (.barrier false s.isl.seqFrom (.ilk closed tick.toNat))).out)) ∧
    (∀ (input : Fin 3) (closed : Bool) (tick : BitVec 32), Leads (.finDebounced input closed tick) s (fun t =>
      t.isl.fin = setBit s.isl.fin (input.val + 1) closed ∧ t.isl.seqFrom = s.isl.seqFrom + 1)) ∧
    Leads .hostloss s (fun t => t.get FLD_FOUT.ACT = 0 ∧ t.flag FLD_STATUS.HOSTLOSS = true) ∧
    (∀ n : Fin 2, s.get FLD_FOUT.ACT / 2 ^ n.val % 2 = 1 → Leads (.foutOvercurrent n) s (fun t =>
      t.get FLD_FOUT.ACT = setBit (s.get FLD_FOUT.ACT) n.val false % 4 ∧
      t.get FLD_STATUS.FOUT_OVC = setBit (s.get FLD_STATUS.FOUT_OVC) n.val true % 4)) ∧
    (∀ n : Fin 2, s.iget (if n.val = 0 then FLD_EXC.EXC0 else FLD_EXC.EXC1) ≠ 0 → Leads (.excLimit n) s (fun t =>
      t.get FLD_STATUS.EXC_SHORT = setBit (s.get FLD_STATUS.EXC_SHORT) n.val true % 4)) ∧
    (s.isl.settling = true → Leads .excSettleExpire s (fun t => t.isl.settling = false ∧ t.isl.excMoved = 0 ∧
      t.get FLD_STATUS.REF_OK = (s.get FLD_STATUS.REF_OK ||| 4 * s.isl.excMoved) % 16)) ∧
    (s.iget FLD_CTRL.RSTART = 1 → s.isl.rounds.reg = none → s.iget FLD_CTRL.N_REG ≠ 0 →
      Leads (.roundTimerTick false) s (fun t => t.isl.rounds.reg.isSome = true)) ∧
    (s.iget FLD_CTRL.RSTART = 1 → s.isl.rounds.reg.isSome = true → Leads (.roundTimerTick false) s (fun t =>
      t.isl.rounds = s.isl.rounds ∧ t.get FLD_OVR.ROVR = min (s.get FLD_OVR.ROVR + 1) (2 ^ FLD_OVR.ROVR.width - 1))) ∧
    (∀ (c : FieldConv) (r : Round) (e : Nat), s.isl.rounds.inj = (if c.injected then some r else none) →
      (c.injected = false → s.isl.rounds.reg = some r) → e = (if c.injected then 16 + r.entry else r.entry) → s.refSettled e = true →
      Leads (.fieldConversion c) s (fun t => t.isl.seqFrom = s.isl.seqFrom + 1 ∧
        (c.injected = true → t.isl.rounds = { s.isl.rounds with inj := r.next (s.iget (FLDE_W0.N_C e)) (s.iget FLD_CTRL.N_INJ) }) ∧
        (c.injected = false → s.iget FLD_CTRL.RSTART ≠ 3 →
          t.isl.rounds = { s.isl.rounds with reg := r.next (s.iget (FLDE_W0.N_C e)) (s.iget FLD_CTRL.N_REG) })))) ∧
  (∀ s : State, s.get MON_CTRL.RSTART = 1 → s.mon.rounds.reg = none → s.get MON_CTRL.N_REG ≠ 0 →
    Leads (.roundTimerTick true) s (fun t => t.mon.rounds.reg = some { start := s.now } ∧ t.flag MON_CTRL.BUSY_REG = true)) ∧
  (∀ (injected : Bool) (codes : List Nat) (at_ : Ts) (r : Round) (i : Nat) (u s : State), u = (s.at at_).updMonRef →
    u.mon.rounds.inj = (if injected then some r else none) → (injected = false → u.mon.rounds.reg = some r) → u.flag MON_CTRL.REF_OK = true →
    i = (if injected then 40 + r.entry else u.get (MONE.INPUT r.entry)) →
    Leads (.monitorConversion injected codes at_) s (fun t => t.flag (MONRES_W0.READY i) = true ∧
      t.get (MONRES_W0.SEQ i) = (u.get (MONRES_W0.SEQ i) + 1) % 256 ∧ t.get (MONRES_W0.RAW i) = codes.getLast?.getD 0 % 4096 ∧
      t.get (MONRES_W0.QUAL i) = qualCode (if u.tbCold then .tbCold else .good) ∧
      (injected = true → t.mon.rounds = { u.mon.rounds with inj := r.next 1 (u.get MON_CTRL.N_INJ) }) ∧
      (injected = false → u.get MON_CTRL.RSTART ≠ 3 → t.mon.rounds = { u.mon.rounds with reg := r.next 1 (u.get MON_CTRL.N_REG) })))

/-- Of a bound session, out of reset: FLD_SWSTART takes the results of the sequence back and sends the command, FLD_INJSTART sends it,
MON_SWSTART and MON_INJSTART start a round where none runs. KICK of the owner sends a heartbeat, FLD_FOUT_WRITE the mask as well.
FLD_READ and MON_READ of a ready record return it, FLD_BUFFER the newest records, CONV_START starts a round, and FOUT_SET of the owner
sets the outputs. -/
def Obligations.FieldCommandsComplete : Prop :=
  (∀ (path : Path) (s : State), s.power.episode = none → (s.pathSession path).isSome = true →
    Leads (.fldSwstart path) s (fun t => (∀ e, e < s.get FLD_CTRL.N_REG → t.flag (FLDRES_W0.READY (s.get (FLDE_W0.CH e))) = false) ∧
      (s.isl.up = true → t.isl.seqTo = s.isl.seqTo + 1)) ∧
    exec (.fldInjstart path) s = .next (s.toIsl (.cmd false true)) ∧
    (s.mon.rounds.reg = none → s.get MON_CTRL.N_REG ≠ 0 → Leads (.monSwstart path) s (fun t => t.mon.rounds.reg = some { start := s.now } ∧
      t.flag MON_CTRL.BUSY_REG = true)) ∧
    (s.mon.rounds.inj = none → s.get MON_CTRL.N_INJ ≠ 0 → Leads (.monInjstart path) s (fun t => t.mon.rounds.inj = some { start := s.now } ∧
      t.flag MON_CTRL.BUSY_INJ = true))) ∧
  (∀ (path : Path) (s : State), s.power.episode = none → s.pathOwns path = true →
    exec (.kick path) s = .next (s.toIsl .hb) ∧
    (∀ mask : BitVec 2, Leads (.fldFoutWrite path mask) s (fun t => t.get FLD_FOUT.SET = mask.toNat ∧
      (s.isl.up = true → t.isl.seqTo = s.isl.seqTo + 1 + 1)))) ∧
  (∀ (q : ReqHdr) (s : State), s.admits q →
    (∀ index : Fin 8, s.flag (FLDRES_W0.READY index.val) = true → Leads (.fldRead q index.val) s (fun t => s.qcpOnly t ∧
      s.replied t q 0x0800 stOk [itSeq (s.get (FLDRES_W0.SEQ index.val)), itWords (s.rdWords (FLDRES_W0.READY index.val).addr 5)])) ∧
    (∀ index : Fin 40, s.flag (MONRES_W0.READY index.val) = true → Leads (.monRead q index.val) s (fun t => s.qcpOnly t ∧
      s.replied t q 0x0802 stOk [itSeq (s.get (MONRES_W0.SEQ index.val)), itWords (s.rdWords (MONRES_W0.READY index.val).addr 5)])) ∧
    (∀ (index : Fin 8) (count : Nat) (l : List BufRec), 1 ≤ count → count ≤ 2032 →
      l = (s.isl.rings.getD index.val []).drop ((s.isl.rings.getD index.val []).length - count) →
      Leads (.fldBuffer q index.val count) s (fun t => ∃ h : List Byte, s.replied t q 0x0801 stOk [itData (h ++ l.flatMap (fun r => wordBytes r.word))])) ∧
    Leads (.convStart q 0) s (fun t => .qcp q.via (replyPacket s q 0x0803 stOk []) ∈ t.out ∧ (s.isl.up = true → t.isl.seqTo = s.isl.seqTo + 1)) ∧
    (s.mon.rounds.reg = none → s.get MON_CTRL.N_REG ≠ 0 → Leads (.convStart q 1) s (fun t => s.replied t q 0x0803 stOk [] ∧
      t.mon.rounds.reg = some { start := s.now })) ∧
    (∀ mask : BitVec 64, mask.toNat ≤ 3 → s.owner = q.session.val → Leads (.foutSet q mask) s (fun t =>
      .qcp q.via (replyPacket s q 0x0804 stOk []) ∈ t.out ∧ t.get FLD_FOUT.SET = mask.toNat)))

/-- A request that meets its turn at once: TIME_GET answers the local clock. With PTP_CFG.SRC 1 the owner's TIME_SET steps the clock to the time
given, discards the slew, counts and flags the step and unlocks both servos; TIME_ADJ adds to the outstanding slew, which SLEWING
shows, and leaves the clock. With another source both answer PARAM_CONFLICT, to another session NOT_OWNER, and change nothing. -/
def Obligations.ClockRequestsComplete : Prop :=
  ∀ (q : ReqHdr) (s : State), s.admits q →
    Leads (.timeGet q) s (fun t => s.qcpOnly t ∧ s.replied t q 0x0900 stOk [itTime s.now]) ∧
    (∀ time : Ts,
      (s.get PTP_CFG.SRC = 1 → s.owner = q.session.val → Leads (.timeSet q time) s (fun t => s.replied t q 0x0901 stOk [] ∧ t.now = time ∧ t.ptp.slew = 0 ∧
        t.flag PTP_STATUS.SLEWING = false ∧ t.get PTP_STATUS.STEPS = (s.get PTP_STATUS.STEPS + 1) % 65536 ∧ t.flag PTP_STATUS.STEPPED = true ∧
        t.flag PTP_STATUS.LOCKED = false ∧ t.flag RDG_STATUS.LOCKED = false ∧ t.cyc = s.cyc)) ∧
      (s.get PTP_CFG.SRC ≠ 1 → Leads (.timeSet q time) s (fun t => s.qcpOnly t ∧ s.replied t q 0x0901 stParamConflict [])) ∧
      (s.get PTP_CFG.SRC = 1 → s.owner ≠ q.session.val → Leads (.timeSet q time) s (fun t => s.qcpOnly t ∧ s.replied t q 0x0901 stNotOwner []))) ∧
    (∀ n : Int,
      (s.get PTP_CFG.SRC = 1 → s.owner = q.session.val → Leads (.timeAdj q n) s (fun t => s.replied t q 0x0902 stOk [] ∧ t.ptp.slew = s.ptp.slew + n * 2 ^ 40 ∧
        t.flag PTP_STATUS.SLEWING = decide (s.ptp.slew + n * 2 ^ 40 ≠ 0) ∧ t.clk = s.clk)) ∧
      (s.get PTP_CFG.SRC ≠ 1 → Leads (.timeAdj q n) s (fun t => s.qcpOnly t ∧ s.replied t q 0x0902 stParamConflict [])) ∧
      (s.get PTP_CFG.SRC = 1 → s.owner ≠ q.session.val → Leads (.timeAdj q n) s (fun t => s.qcpOnly t ∧ s.replied t q 0x0902 stNotOwner [])))

/-- On the instance's port: a Sync is held with its corrected time, its Follow_Up completes it, and a timeout discards one that waits.
A Delay_Resp to the outstanding request gives the mean path delay and the offset, and with SRC 0 the clock steps by an offset beyond
STEP_THR, otherwise FADJ moves and 16 small offsets lock. Announce selects the best master, or leaves a better device master; its timeout
is holdover. A master sends Sync, Announce and Delay_Resp, a slave Delay_Req, with corrected times. On the other port every message is
counted in RXDROP. -/
def Obligations.PtpCompletes : Prop :=
  (∀ (x : Fin 2) (seqId : BitVec 16) (two : Bool) (origin raw : Ts) (corr : Int) (identity : BitVec 64) (dataset : Nat) (c : Instr) (s : State),
    x.val ≠ s.ptpPort → c ∈ [.ptpSyncRx x seqId two origin corr raw, .ptpFollowUpRx x seqId origin corr, .ptpDelayRespRx x seqId origin corr,
      .ptpAnnounceRx x identity dataset, .ptpDelayReqRx x seqId raw] → exec c s = .next (s.count (NET_W20.RXDROP x.val))) ∧
  (∀ (x : Fin 2) (s : State), x.val = s.ptpPort →
    (∀ (seqId : BitVec 16) (two : Bool) (origin : Ts) (corr : Int) (raw : Ts), Leads (.ptpSyncRx x seqId two origin corr raw) s (fun t =>
      t.ptp.sync = some { seqId := seqId, t1 := if two then none else some origin, t2 := s.ingress x.val raw, corr := corr })) ∧
    (∀ (y : SyncRx) (origin : Ts) (corr : Int), s.ptp.sync = some y → y.t1 = none → Leads (.ptpFollowUpRx x y.seqId origin corr) s (fun t =>
      t.ptp.sync = some { y with t1 := some origin, corr := y.corr + corr } ∧ t.regs = s.regs)) ∧
    (∀ (y : SyncRx) (seqId : BitVec 16) (t1 t3 t4 : Ts) (corr a b off : Int), s.ptp.sync = some y → y.t1 = some t1 →
      s.ptp.delayReq = some (seqId, t3) → a = y.t2 - t1 - y.corr → b = t4 - t3 - corr → off = divRound (a - b) 2 →
      Leads (.ptpDelayRespRx x seqId t4 corr) s (fun t => t.ptp.sync = none ∧ t.ptp.delayReq = none ∧ t.ptp.pathDelay = divRound (a + b) 2 ∧
        t.geti PTP_OFFSET.OFFSET = clampI (-(2 ^ 31)) (2 ^ 31 - 1) (divRound off 16384) ∧ t.get PTP_STATUS.PSTATE = 9 ∧
        t.flag PTP_STATUS.HOLDOVER = false ∧
        (s.get PTP_CFG.SRC = 0 → s.get PTP_SERVO.STEP_THR * 10 * ns < off.natAbs → t.now = ((s.now : Int) - off).toNat ∧
          t.flag PTP_STATUS.LOCKED = false) ∧
        (s.get PTP_CFG.SRC = 0 → off.natAbs ≤ s.get PTP_SERVO.STEP_THR * 10 * ns → t.clk = s.clk ∧
          t.ptp.integ = clampI (-(2 ^ 31)) (2 ^ 31 - 1) (s.ptp.integ + Config.servoI 0 off) ∧
          t.geti PTP_FADJ.FADJ = clampI (-(2 ^ 31)) (2 ^ 31 - 1) (t.ptp.integ + Config.servoP 0 off) ∧ (t.ptp.good = 16 → t.flag PTP_STATUS.LOCKED = true)) ∧
        (s.get PTP_CFG.SRC ≠ 0 → t.clk = s.clk ∧ t.get PTP_FADJ.FADJ = s.get PTP_FADJ.FADJ))) ∧
    (∀ (identity : BitVec 64) (dataset : Nat),
      (s.flag PTP_CFG.MASTER = true → Config.ownDataset < dataset → Leads (.ptpAnnounceRx x identity dataset) s (fun t =>
        t.ptp.master = none ∧ t.get PTP_STATUS.PSTATE = 6)) ∧
      (¬ (s.flag PTP_CFG.MASTER = true ∧ Config.ownDataset < dataset) → (∀ i d, s.ptp.master = some (i, d) → i = identity ∨ dataset < d) →
        Leads (.ptpAnnounceRx x identity dataset) s (fun t => t.ptp.master = some (identity, dataset) ∧ (t.get PTP_STATUS.PSTATE = 8 ∨
          t.get PTP_STATUS.PSTATE = 9)))) ∧
    (∀ (seqId : BitVec 16) (raw : Ts), s.get PTP_STATUS.PSTATE = 6 → Leads (.ptpDelayReqRx x seqId raw) s (fun t =>
      t.out = s.out ++ [.eth x (.ptpDelayResp s.ptpHead seqId (s.ingress x.val raw))]))) ∧
  (∀ s : State,
    Leads .announceTimeout s (fun t => t.ptp.master = none ∧ t.ptp.sync = none ∧ t.flag PTP_STATUS.HOLDOVER = true ∧
      t.flag PTP_STATUS.LOCKED = false ∧ t.get PTP_STATUS.PSTATE = (if s.flag PTP_CFG.MASTER then 6 else 4)) ∧
    (∀ y : SyncRx, s.ptp.sync = some y → y.t1 = none →
      Leads .followUpTimeout s (fun t => t.ptp.sync = none ∧ t.regs = s.regs ∧ t.ptp.delayReq = s.ptp.delayReq)) ∧
    (∀ raw e : Ts, e = s.egress s.ptpPort raw →
      (s.get PTP_STATUS.PSTATE = 6 → Leads (.syncSend raw) s (fun t => t.ptp.syncSeq = s.ptp.syncSeq + 1 ∧
        t.out = s.out ++ (if s.flag (if s.ptpPort = 0 then PTP_CFG.ONESTEP0 else PTP_CFG.ONESTEP1)
          then [.ptpSync (s.ptpHead true) s.ptp.syncSeq (some (e / ns)) (e % ns)]
          else [.ptpSync s.ptpHead s.ptp.syncSeq none 0, .ptpFollowUp s.ptpHead s.ptp.syncSeq (e / ns) (e % ns)]).map (Out.eth (Fin.ofNat 2 s.ptpPort)))) ∧
      (s.get PTP_STATUS.PSTATE = 8 ∨ s.get PTP_STATUS.PSTATE = 9 → Leads (.delayReqSend raw) s (fun t =>
        t.ptp.delayReq = some (s.ptp.dreqSeq, e) ∧ t.ptp.dreqSeq = s.ptp.dreqSeq + 1 ∧
        t.out = s.out ++ [.eth (Fin.ofNat 2 s.ptpPort) (.ptpDelayReq s.ptpHead s.ptp.dreqSeq)]))) ∧
    (s.flag PTP_CFG.MASTER = true → s.get PTP_STATUS.PSTATE = 6 → Leads .announceSend s (fun t => t.ptp.annSeq = s.ptp.annSeq + 1 ∧
      t.out = s.out ++ [.eth (Fin.ofNat 2 s.ptpPort) (.ptpAnnounce s.ptpHead s.ptp.annSeq 248)])))

/-- A link of an enabled port comes up with FEC lock where FEC is set; a loss is counted. A next hop that waits is asked for again; one
that expires leaves the table; a source's fragments are discarded at their timeout. A frame with a bad FCS, or shorter than 64 or longer
than 9,238 bytes, is dropped and counted, a PAUSE counted, one for another station dropped; an accepted one is answered where it asks for an address of the port, teaches a next
hop, joins the fragments of its source, or changes nothing. -/
def Obligations.EthernetCompletes : Prop :=
  (∀ (x : Fin 2) (s : State),
    (s.flag (NET_W0.EN x.val) = true → s.flag (NET_W1.LINK x.val) = false → Leads (.ethLinkChange x true) s (fun t =>
      t.flag (NET_W1.LINK x.val) = true ∧ t.flag (NET_W1.FECLOCK x.val) = decide (s.get (NET_W0.FEC x.val) ≠ 0))) ∧
    (s.flag (NET_W1.LINK x.val) = true → Leads (.ethLinkChange x false) s (fun t => t.flag (NET_W1.LINK x.val) = false ∧
      t.flag (NET_W1.FECLOCK x.val) = false ∧ t.get (NET_W1.LINKDOWNS x.val) = (s.get (NET_W1.LINKDOWNS x.val) + 1) % 65536)) ∧
    (∀ addr : BitVec 128,
      (∀ h ∈ s.hops x.val, h.addr = addr → h.mac = none → Leads (.nextHopRetry x addr) s (fun t => t.regs = s.regs ∧ t.net = s.net ∧
        t.out = s.out ++ [.eth x (.neighbourRequest addr)])) ∧
      Leads (.nextHopExpire x addr) s (fun t => t.regs = s.regs ∧ t.hops (1 - x.val) = s.hops (1 - x.val) ∧
        (∀ h ∈ t.hops x.val, h.addr = addr → h.mac = none) ∧
        (s.routedBy x.val addr = false → ∀ h, h ∈ t.hops x.val ↔ h ∈ s.hops x.val ∧ (h.addr = addr → h.mac = none))))) ∧
  (∀ (src : BitVec 128) (s : State), Leads (.reassemblyTimeout src) s (fun t => t.regs = s.regs ∧
    ∀ r, r ∈ t.net.reasm ↔ r ∈ s.net.reasm ∧ r.src.addr ≠ src)) ∧
  (∀ (x : Fin 2) (f : EthFrame) (s : State), s.flag (NET_W1.LINK x.val) = true → s.power.episode = none →
    (f.fcsOk = false → Leads (.ethFrameRx x f) s (fun t => t.get (NET_W20.RXDROP x.val) = (s.get (NET_W20.RXDROP x.val) + 1) % 2 ^ 32 ∧
      t.get (NET_W22.FCSERR x.val) = (s.get (NET_W22.FCSERR x.val) + 1) % 2 ^ 32)) ∧
    (f.fcsOk = true → frameSized f = false → exec (.ethFrameRx x f) s = .next (s.count (NET_W20.RXDROP x.val))) ∧
    (f.fcsOk = true → frameSized f = true →
      (f.kind = .pause → exec (.ethFrameRx x f) s = .next (s.count (NET_W21.PAUSE x.val))) ∧
      (f.kind ≠ .pause → s.acceptsFrame x.val f = false → exec (.ethFrameRx x f) s = .next (s.count (NET_W20.RXDROP x.val))) ∧
      (s.acceptsFrame x.val f = true →
        (∀ target : BitVec 32, f.kind = .arpRequest target → target.setWidth 128 ∈ s.own4 x.val → Leads (.ethFrameRx x f) s (fun t =>
          t.out = s.out ++ [.eth x (.neighbourReply (target.setWidth 128) f.src)])) ∧
        (∀ target : BitVec 128, f.kind = .neighbourSolicit target → target ∈ s.own6 x.val → Leads (.ethFrameRx x f) s (fun t =>
          t.out = s.out ++ [.eth x (.neighbourReply target f.src)])) ∧
        (∀ (target : BitVec 128) (size : Nat), f.kind = .echoRequest target size → target ∈ s.own4 x.val ++ s.own6 x.val → size ≤ 1500 →
          Leads (.ethFrameRx x f) s (fun t => t.out = s.out ++ [.eth x (.echoReply target f.src size)])) ∧
        (∀ (addr : BitVec 128) (mac : BitVec 48), f.kind = .neighbourReply addr mac → Leads (.ethFrameRx x f) s (fun t =>
          (∀ h ∈ t.hops x.val, h.addr = addr → h.mac = some mac) ∧ (t.hops x.val).map (·.addr) = (s.hops x.val).map (·.addr))) ∧
        (∀ (src : UdpPeer) (off : Nat) (more : Bool) (l : List Byte), f.kind = .qcpFragment src off more l →
          exec (.ethFrameRx x f) s = .next (s.fragment { src with eth := x } (off, more, l))) ∧
        (f.kind = .qcp ∨ f.kind = .other ∨ (f.kind = .ptp ∧ s.get PTP_CFG.PORT = x.val) → exec (.ethFrameRx x f) s = .next s))))

/-- The oven's events set and clear WARM and FAIL, and FAIL is a fault under which the device runs on. Loss of a selected reference
holds, its return steers again. Loss of a synthesiser's lock stops launching and is flagged, its return clears the fault, and its absence
is a hardware fault that brings RUN to SAFE. A PPS_OUT edge comes DELAY after a whole second, the next that lies ahead. An edge of PPS_IN
or of a selected event input is stamped to 2^-8 ns and taken by the PPS_IN window or by the trigger units and both converters; one less
than 20 ns after the last is only counted. -/
def Obligations.TimeBaseCompletes : Prop :=
  (∀ s : State,
    Leads .ovenWarm s (fun t => t.flag OCX_STATUS.WARM = true ∧ t.get OCX_STATUS.FAIL = s.get OCX_STATUS.FAIL) ∧
    Leads .ovenCool s (fun t => t.flag OCX_STATUS.WARM = false ∧ t.tb.tic.cold = true) ∧
    Leads .ovenFail s (fun t => t.flag OCX_STATUS.FAIL = true ∧ HwFault.oven ∈ t.light.faults ∧ t.dev = s.dev) ∧
    (s.get OCX_CTRL.SRC ≠ 0 → Leads .refSourceLoss s (fun t => t.flag OCX_STATUS.HOLD = true ∧ t.flag OCX_STATUS.DISC = false ∧
      (s.get OCX_CTRL.SRC = 1 → t.flag OCX_STATUS.REF_LOS = true) ∧ t.get OCX_EFC.EFC = s.get OCX_EFC.EFC)) ∧
    (s.get OCX_CTRL.SRC ≠ 0 → s.flag OCX_STATUS.HOLD = true → Leads .refSourceResume s (fun t => t.flag OCX_STATUS.HOLD = false ∧
      t.flag OCX_STATUS.REF_LOS = false ∧ -2000000 ≤ t.geti OCX_EFC.EFC ∧ t.geti OCX_EFC.EFC ≤ 2000000)) ∧
    (s.flag OCX_STATUS.SYN_LOCK = true → Leads .synthUnlock s (fun t => t.flag OCX_STATUS.SYN_LOCK = false ∧
      t.flag OCX_STATUS.SYN_UNLK = true ∧ t.light.hold = true ∧ t.dev = s.dev)) ∧
    (s.flag OCX_STATUS.SYN_LOCK = false →
      Leads .synthRelock s (fun t => t.flag OCX_STATUS.SYN_LOCK = true ∧ HwFault.synth ∉ t.light.faults) ∧
      Leads .synthLockTimeout s (fun t => HwFault.synth ∈ t.light.faults ∧ t.tb.synLate = true ∧ (s.dev = 3 → t.dev = 5 ∧ t.light.safeFrom = 3))) ∧
    Leads .ppsOutFall s (fun t => t.power.pins.ppsOut = false ∧ t.regs = s.regs ∧ t.out = s.out)) ∧
  (∀ s : State, s.power.episode = none →
    (s.flag OCX_CTRL.PPS_EN = true → s.power.pins.ppsOut = false → Leads .ppsOutEdge s (fun t => t.power.pins.ppsOut = true ∧
      t.out = s.out ++ [.pps t.now] ∧ s.now ≤ t.now ∧ t.now < s.now + 1000000000 * ns ∧
      ((t.now : Int) - s.geti OCX_PPSOUT.DELAY * 16384) % (1000000000 * ns) = 0)) ∧
    (∀ (ts : Ts) (last : Option Ts) (u : State), u = s.at ts → s.tb.lastEdge.getD 4 none = last → 4 < s.tb.lastEdge.length →
      ((∃ l, last = some l ∧ l ≤ stamp ts ∧ stamp ts < l + 20 * ns) → exec (.ppsInEdge ts) s = .next (u.countSat OCX_STATUS.CLOSE_EDGES)) ∧
      ((∀ l, last = some l → stamp ts < l ∨ l + 20 * ns ≤ stamp ts) → Leads (.ppsInEdge ts) s (fun t =>
        t.tb.lastEdge.getD 4 none = some (stamp ts) ∧ t.get PPS_IN_NS.NS = nsOf (stamp ts) ∧ t.get PPS_IN_SEC_HI.FRAC = fracOf (stamp ts) ∧
        t.get PPS_IN_SEC_LO.SEC_LO = secOf (stamp ts) % 2 ^ 32))) ∧
    (∀ (x : Fin 4) (rising : Bool) (ts : Ts) (last : Option Ts) (u : State), s.edgeSelected x.val rising = true → u = s.at ts →
      s.tb.lastEdge.getD x.val none = last →
      ((∃ l, last = some l ∧ l ≤ stamp ts ∧ stamp ts < l + 20 * ns) → exec (.evtEdge x rising ts) s = .next (u.countSat OCX_STATUS.CLOSE_EDGES)) ∧
      ((∀ l, last = some l → stamp ts < l ∨ l + 20 * ns ≤ stamp ts) → ∃ v : State,
        v = { u with tb := { u.tb with lastEdge := setAt u.tb.lastEdge x.val (some (stamp ts)) } } ∧
        exec (.evtEdge x rising ts) s = .next (((v.fireUnits 5 (s.edgeUnit x.val rising) (stamp ts)).fieldEvt x.val).monTrig x.val))))

/-- TIC_START of an idle counter, in range, is accepted and runs it from zero; TIC_READ returns a ready set. While it runs, in MODE 0 a
start edge opens an interval and the next stop edge after it closes it; otherwise every K-th start edge closes one and opens the next.
A closed interval under 20 ns is discarded and counted, another is kept and counted, and the N-th ends the measurement with its set
ready; a timeout ends it PARTIAL. -/
def Obligations.IntervalCounterCompletes : Prop :=
  (∀ (q : ReqHdr) (s : State),
    (∀ (x : Fin 6) (n : Nat), s.admitsLong q → s.flag TIC_CTRL.RUN = false → 2 ≤ n → n ≤ 16777216 → Leads (.ticStart q x.val n) s (fun t =>
      s.began t q 0x0903 x.val ∧ t.flag TIC_CTRL.RUN = true ∧ t.get TIC_CFG.START = x.val ∧ t.get TIC_N.N = n ∧ t.get TIC_CTRL.COUNT = 0 ∧
      t.flag TICRES_W0.READY = false ∧ t.tb.tic = { starter := some q.session.val, seq := some q.seq, cold := s.tbCold, since := s.cyc })) ∧
    (s.admits q → s.flag TICRES_W0.READY = true → Leads (.ticRead q) s (fun t => s.qcpOnly t ∧
      s.replied t q 0x0904 stOk [itSeq (s.get TICRES_W0.SEQ), itWords (s.rdWords TICRES_W0.READY.addr 11)]))) ∧
  (∀ (x : Fin 6) (rising isStart isStop : Bool) (ts : Nat) (s : State) (closed : Nat → State → Prop), s.flag TIC_CTRL.RUN = true →
    isStart = (decide (x.val = s.get TIC_CFG.START) && rising != s.flag TIC_CFG.POL_START) →
    isStop = (decide (x.val = s.get TIC_CFG.STOP) && rising != s.flag TIC_CFG.POL_STOP) →
    closed = (fun d t =>
      (d < 20 * 256 → t.tb.tic.ints = s.tb.tic.ints ∧ t.tb.tic.short = s.tb.tic.short + 1 ∧ t.flag TIC_CTRL.RUN = true) ∧
      (20 * 256 ≤ d → s.tb.tic.ints.length + 1 < s.get TIC_N.N → t.tb.tic.ints = d :: s.tb.tic.ints ∧
        t.get TIC_CTRL.COUNT = (s.get TIC_CTRL.COUNT + 1) % 2 ^ 25 ∧ t.flag TIC_CTRL.RUN = true) ∧
      (20 * 256 ≤ d → s.get TIC_N.N ≤ s.tb.tic.ints.length + 1 → t.flag TIC_CTRL.RUN = false ∧ t.flag TICRES_W0.READY = true ∧
        t.flag TICRES_W0.PARTIAL = false ∧ t.flag TICRES_W0.COLD = s.tb.tic.cold ∧
        t.get TICRES_W1.USED = (s.tb.tic.ints.length + 1) % 2 ^ 25 ∧ t.get TICRES_W0.SEQ = (s.get TICRES_W0.SEQ + 1) % 256)) →
    (s.get TIC_CFG.MODE = 0 →
      (isStart = true → s.tb.tic.start = none → Leads (.ticEdge x rising ts) s (fun t => t.tb.tic.start = some ts ∧ t.tb.tic.committed = true)) ∧
      (∀ a, isStart = false → isStop = true → s.tb.tic.start = some a → a < ts → Leads (.ticEdge x rising ts) s (fun t =>
        closed (ts - a) t ∧ t.tb.tic.start = none))) ∧
    (s.get TIC_CFG.MODE ≠ 0 → isStart = true →
      (s.tb.tic.start = none → Leads (.ticEdge x rising ts) s (fun t => t.tb.tic.start = some ts ∧ t.tb.tic.edges = 0 ∧
        t.tb.tic.committed = true)) ∧
      (∀ a, s.tb.tic.start = some a →
        (s.tb.tic.edges + 1 ≠ s.get TIC_K.K → Leads (.ticEdge x rising ts) s (fun t => t.tb.tic.edges = s.tb.tic.edges + 1 ∧
          t.tb.tic.start = some a ∧ t.regs = s.regs)) ∧
        (s.tb.tic.edges + 1 = s.get TIC_K.K → Leads (.ticEdge x rising ts) s (fun t => closed (ts - a) t ∧
          (t.flag TIC_CTRL.RUN = true → t.tb.tic.start = some ts ∧ t.tb.tic.edges = 0)))))) ∧
  (∀ s : State, s.flag TIC_CTRL.RUN = true → s.get TIC_CFG.TIMEOUT ≠ 0 → Leads .ticTimeout s (fun t => t.flag TIC_CTRL.RUN = false ∧
    t.flag TICRES_W0.READY = true ∧ t.flag TICRES_W0.PARTIAL = true ∧ t.get TICRES_W1.USED = s.tb.tic.ints.length % 2 ^ 25))

/-- An IDLE frame ends a run of bad ones; eight bad ones take the lane down. DLY_REQ is answered on its lane, DLY_RSP gives the hop delay
as the mean of the last 16. The device's own PRESENCE measures the ring while it is not wrapped; another node's enters the table, with
its path; a copy of its identifier from a smaller serial number is a duplicate. TIME gives its lane's delay, and steers a node whose
source is the ridge by the copies of FLANE; a master yields to a lower identifier. SYNC is taken where the swap source and the group are
the node's. -/
def Obligations.RidgeFramesComplete : Prop :=
  (∀ (h : RidgeHdr) (s : State), Leads (.ridgeIdleFrame h) s (fun t => (t.lane h.laneW).badRun = 0 ∧ t.regs = s.regs)) ∧
  (∀ (w : Bool) (s : State),
    ((s.lane w).badRun + 1 < 8 → Leads (.ridgeCrcError w) s (fun t => (t.lane w).badRun = (s.lane w).badRun + 1 ∧ t.laneUp w = s.laneUp w ∧
      t.get (RDG_CNT.CRCERR w.toNat) = min (s.get (RDG_CNT.CRCERR w.toNat) + 1) (2 ^ 16 - 1))) ∧
    (8 ≤ (s.lane w).badRun + 1 → Leads (.ridgeCrcError w) s (fun t => t.laneUp w = false ∧ (s.laneUp w = true →
      (t.lane w).badRun = 0 ∧ t.flag RDG_STATUS.WRAPPED = true)))) ∧
  (∀ (h : RidgeHdr) (s : State), s.ridgeOn = true → s.laneUp h.laneW = true →
    Leads (.dlyReq h) s (fun t => t.out = (s.emit (.ridge
      { type := 2, west := h.laneW, origin := s.nodeId, hops := 0, seq := 0, corr := 0, time := s.now
        payload := timeBytes h.time ++ timeBytes h.arrival })).out) ∧
    (∀ (t1 t2 : Ts) (d : Int) (l : List Int), (s.lane h.laneW).t1 = some t1 →
      d = h.arrival - t1 - (h.time - t2) + s.geti (RDG_ASYM.ASYM h.laneW.toNat) * 256 → l = (d :: (s.lane h.laneW).hops).take 16 →
      Leads (.dlyRsp h t1 t2) s (fun t => (t.lane h.laneW).hops = l ∧ (t.lane h.laneW).t1 = none ∧
        t.get (RDG_HOP.HOP h.laneW.toNat) = pattern 32 (divRound (sumI l) (l.length * 512)))) ∧
    (∀ (serial : BitVec 48) (eUp wUp : Bool),
      (h.origin = s.nodeId → serial.toNat = s.serial → Leads (.presence h serial eUp wUp) s (fun t =>
        (s.flag RDG_STATUS.WRAPPED = false → t.get RDG_LATMAX.LATMAX = h.corr / ns % 2 ^ 32) ∧
        t.flag RDG_STATUS.HSHORT = decide (t.get RDG_HORIZON.H * 1000 < t.get RDG_LATMAX.LATMAX + 1000))) ∧
      (h.origin = s.nodeId → serial.toNat < s.serial → (h.origin, h.seq) ∉ s.ridge.seen → Leads (.presence h serial eUp wUp) s (fun t =>
        t.flag RDG_STATUS.DUPID = true ∧ t.ridge.nodes = s.ridge.nodes)) ∧
      (h.origin ≠ s.nodeId → Leads (.presence h serial eUp wUp) s (fun t => t.flag (RDG_NODE_W0.PRESENT h.origin.toNat) = true ∧
        (∃ n ∈ t.ridge.nodes, n.id = h.origin ∧ n.serial = serial ∧ n.eUp = eUp ∧ n.wUp = wUp ∧
          (if h.laneW then n.viaW else n.viaE) = some (h.hops.toNat + 1, h.corr + s.hopDelay h.laneW)) ∧
        (∀ n, n.id ≠ h.origin → (n ∈ t.ridge.nodes ↔ n ∈ s.ridge.nodes)) ∧
        t.get RDG_STATUS.NODES = (t.ridge.nodes.length + 1) % 2 ^ RDG_STATUS.NODES.width))) ∧
    (h.origin ≠ s.nodeId →
      (∀ d : Nat, d = h.corr + s.hopDelay h.laneW → Leads (.timeFrame h) s (fun t => (t.lane h.laneW).timeDelay = some d ∧
        (s.flag RDG_CFG.TMASTER = true → h.origin < s.nodeId → (h.origin, h.seq) ∉ s.ridge.seen → t.ridge.yielded = true) ∧
        (s.get PTP_CFG.SRC = 2 → t.flag RDG_STATUS.FLANE = h.laneW →
          (1000 * ns < ((h.arrival : Int) - (h.time + d : Nat)).natAbs → t.now = ((s.now : Int) - (h.arrival - (h.time + d : Nat))).toNat ∧
            t.flag RDG_STATUS.LOCKED = false) ∧
          (((h.arrival : Int) - (h.time + d : Nat)).natAbs ≤ 1000 * ns → t.clk = s.clk ∧
            t.ptp.integ = clampI (-(2 ^ 31)) (2 ^ 31 - 1) (s.ptp.integ + Config.servoI 1 ((h.arrival : Int) - (h.time + d : Nat))) ∧
            t.geti PTP_FADJ.FADJ =
              clampI (-(2 ^ 31)) (2 ^ 31 - 1) (t.ptp.integ + Config.servoP 1 ((h.arrival : Int) - (h.time + d : Nat))))) ∧
        (s.get PTP_CFG.SRC ≠ 2 → t.clk = s.clk))) ∧
      (∀ group : BitVec 8, s.get PAT_CTRL.SWAP_SRC = 2 → s.get RDG_SYNC.GROUP = group.toNat → (h.origin, h.seq) ∉ s.ridge.seen →
        Leads (.syncFrame h group) s (fun t => t.ridge.syncs = s.ridge.syncs ++ [h.time]))))

/-- Loss of block lock or of frames takes a lane that is UP down, LANE_UP brings one up on an enabled bus; every change is counted, and
with a lane down the ring is WRAPPED. On an enabled bus, no perturbation in force, DLY_REQ goes out on each lane that is UP with its
departure kept, PRESENCE and a master's TIME as one copy on each. A node that expires leaves the table; loss of ridge time unlocks and
holds the adjustment; the bypass opens at its timer and on a lane lost, and inserts with both lanes UP. -/
def Obligations.RidgeLanesComplete : Prop :=
  (∀ (w : Bool) (s : State),
    (s.laneUp w = true → ∀ c ∈ [Instr.blockLockLoss w, .laneFrameTimeout w], Leads c s (fun t => t.laneUp w = false ∧ t.laneUp (!w) = s.laneUp (!w) ∧
      t.get (RDG_CNT.DOWNS w.toNat) = (s.get (RDG_CNT.DOWNS w.toNat) + 1) % 2 ^ 16 ∧ t.flag RDG_STATUS.WRAPPED = true ∧
      (t.lane w).timeDelay = none)) ∧
    (s.ridgeOn = true → s.laneUp w = false → Leads (.laneUp w) s (fun t => t.laneUp w = true ∧ t.laneUp (!w) = s.laneUp (!w) ∧
      t.get (RDG_CNT.DOWNS w.toNat) = (s.get (RDG_CNT.DOWNS w.toNat) + 1) % 2 ^ 16 ∧
      t.flag RDG_STATUS.WRAPPED = (!s.laneUp (!w) || s.ridge.nodes.any (fun n => !n.eUp || !n.wUp))))) ∧
  (∀ (s : State) (frames : Nat → BitVec 32 → List Byte → List Out), s.ridgeOn = true → s.get PTB_RDROP.N = 0 → s.get PTB_CRC.N = 0 →
    frames = (fun type seq payload => ([false, true].filter (fun w => s.laneUp w)).map (fun w => Out.ridge
      { type := type, west := w, origin := s.nodeId, hops := 0, seq := seq, corr := 0, time := s.now, payload := payload })) →
    Leads .dlyReqSend s (fun t => t.out = s.out ++ frames 1 0 [] ∧ ∀ w, s.laneUp w = true → (t.lane w).t1 = some s.now) ∧
    Leads .presenceSend s (fun t => t.ridge.seq = s.ridge.seq + 1 ∧
      t.out = s.out ++ frames 3 s.ridge.seq (beBytes 6 s.serial ++ [BitVec.ofNat 8 ((s.laneUp false).toNat * 2 + (s.laneUp true).toNat)])) ∧
    (s.flag RDG_CFG.TMASTER = true → s.ridge.yielded = false → s.flag RDG_STATUS.DUPID = false →
      Leads .timeSend s (fun t => t.ridge.seq = s.ridge.seq + 1 ∧ t.out = s.out ++ frames 4 s.ridge.seq []))) ∧
  (∀ s : State,
    (∀ n ∈ s.ridge.nodes, Leads (.nodeExpire n.id) s (fun t => (∀ m, m ∈ t.ridge.nodes ↔ m ∈ s.ridge.nodes ∧ m.id ≠ n.id) ∧
      t.flag (RDG_NODE_W0.PRESENT n.id.toNat) = false ∧ t.get RDG_STATUS.NODES = (t.ridge.nodes.length + 1) % 2 ^ RDG_STATUS.NODES.width)) ∧
    Leads .ridgeTimeLoss s (fun t => t.flag RDG_STATUS.LOCKED = false ∧ t.ridge.good = 0 ∧ (s.get PTP_CFG.SRC = 2 → s.ptp.hist ≠ [] →
      t.geti PTP_FADJ.FADJ = clampI (-(2 ^ 31)) (2 ^ 31 - 1) (divRound (sumI (s.ptp.hist.map (·.2))) s.ptp.hist.length))) ∧
    Leads .bypassTimerExpire s (fun t => t.flag RDG_STATUS.INS = false ∧ t.flag RDG_STATUS.WRAPPED = s.flag RDG_STATUS.WRAPPED) ∧
    (s.flag RDG_FLASH.BYP_EN = true → s.flag RDG_STATUS.INS = false → s.laneUp false = true → s.laneUp true = true → s.power.episode = none →
      Leads .bypassEnergize s (fun t => t.flag RDG_STATUS.INS = true ∧ t.flag RDG_STATUS.WRAPPED = s.flag RDG_STATUS.WRAPPED)) ∧
    (s.flag RDG_STATUS.INS = true → s.laneUp false = false ∨ s.laneUp true = false →
      Leads .bypassRelease s (fun t => t.flag RDG_STATUS.INS = false ∧ t.flag RDG_STATUS.WRAPPED = s.flag RDG_STATUS.WRAPPED)))

/-- MR4_READ shows each channel's code, and a rise multiplies its banks' debt. REFRESH_DUE adds to a bank's debt; REFRESH_ISSUE takes one
away and counts a forced one. An activate that no debt holds back counts in its row's entry or calls for a neighbour refresh;
RD_TABLE_CLEAR clears the tables and takes DMC_RD up. A read of an open channel is served, and counted where it met a queued write to its
64 B. TRAINING_STEP is counted and trains the set-point in force; FREQ_CHANGE brings the one asked for into force, no refresh owed. -/
def Obligations.MemoryControllerCompletes : Prop :=
  (∀ (f0 f1 f2 f3 : BitVec 3) (s : State), s.dmc.debt.length = 4 → s.dmc.burst.length = 4 → Leads (.mr4Read f0 f1 f2 f3) s (fun t =>
    ∀ (ch : Fin 4) (f : Nat), f = ([f0, f1, f2, f3].getD ch.val 0).toNat →
      (4 < f → t.get (fFld ch.val) = s.get (fFld ch.val)) ∧ (f ≤ 4 → t.get (fFld ch.val) = f) ∧
      t.dmc.debt.getD ch.val [] = (if f ≤ 4 ∧ s.get (fFld ch.val) < f then
        (s.dmc.debt.getD ch.val []).map (fun d => d * 2 ^ (f - s.get (fFld ch.val))) else s.dmc.debt.getD ch.val []))) ∧
  (∀ (ch : Fin 4) (b : Fin 16) (d c : Nat) (s : State), d = bankVal s.dmc.debt ch.val b.val → c = bankVal s.dmc.burst ch.val b.val →
    s.dmc.debt.length = 4 → (∀ l ∈ s.dmc.debt, l.length = 16) →
    (¬ (c = 0 ∧ 3 ≤ s.get (fFld ch.val) ∧ d ≠ 0) → Leads (.refreshDue ch b) s (fun t => bankVal t.dmc.debt ch.val b.val = d + 1)) ∧
    (c = 0 → 3 ≤ s.get (fFld ch.val) → d ≠ 0 → exec (.refreshDue ch b) s = .next s) ∧
    (d ≠ 0 → Leads (.refreshIssue ch b) s (fun t => bankVal t.dmc.debt ch.val b.val = d - 1 ∧
      t.get (DMC_REF.FORCED ch.val) = if c ≠ 0 ∨ (s.get (fFld ch.val) ≤ 2 ∧ 8 ≤ d) then min (s.get (DMC_REF.FORCED ch.val) + 1) 65535
        else s.get (DMC_REF.FORCED ch.val))) ∧
    (∀ row : Nat, c = 0 → ¬ (s.get (fFld ch.val) ≤ 2 ∧ 8 ≤ d) →
      (ch.val ≠ 0 → Leads (.rowActivate ch b row) s (fun t => t.get (DMC_NR.COUNT ch.val) =
        (if s.freeVal % 2 ^ s.dmc.rdP = 0 then s.get (DMC_NR.COUNT ch.val) + 1 else s.get (DMC_NR.COUNT ch.val)) % 2 ^ 32)) ∧
      (ch.val = 0 → b.val < s.dmc.tables.length → Leads (.rowActivate ch b row) s (fun t =>
        t.dmc.tables.getD b.val [] = (tableHit (s.dmc.tables.getD b.val []) row s.dmc.rdThr s.freeVal).1 ∧
        (∀ n, (s.dmc.tables.getD b.val []).find? (fun e => e.1 == row) = some (row, n) →
          (n + 1 < s.dmc.rdThr → (row, n + 1) ∈ t.dmc.tables.getD b.val [] ∧ t.get (DMC_NR.COUNT 0) = s.get (DMC_NR.COUNT 0)) ∧
          (s.dmc.rdThr ≤ n + 1 → (row, 0) ∈ t.dmc.tables.getD b.val [] ∧
            t.get (DMC_NR.COUNT 0) = (s.get (DMC_NR.COUNT 0) + 1) % 2 ^ 32)))))) ∧
  (∀ (ch : Fin 4) (cls addr : Nat) (s : State), s.dmc.selfRefresh = false → s.dmc.resetLow = false → s.stallHeld ch.val = false →
    s.bpHeld 0 = false → Leads (.dramRead ch cls addr) s (fun t => ∃ l, t.dmc.done = s.dmc.done ++ l ∧
      ({ ch := ch.val, write := false, cls := cls, addr := addr / 64 * 64, len := 64, since := s.cyc } : DramReq) ∈ l ∧
      t.get (DMC_RAW.COUNT ch.val) = (s.get (DMC_RAW.COUNT ch.val) + (s.dmc.queue.any (fun w => w.ch == ch.val && w.write &&
        w.hits { ch := ch.val, write := false, cls := cls, addr := addr / 64 * 64, len := 64, since := s.cyc })).toNat) % 2 ^ 32)) ∧
  (∀ s : State,
    Leads .rdTableClear s (fun t => t.dmc.tables = List.replicate 16 [] ∧ t.dmc.rdP = s.get DMC_RD.P ∧ t.dmc.rdThr = s.get DMC_RD.THR ∧
      t.regs = s.regs) ∧
    (∀ ch : Fin 4, Leads (.trainingStep ch) s (fun t => t.get DMC_TRAIN.STEPS = (s.get DMC_TRAIN.STEPS + 1) % 65536 ∧ t.dmc.trainDue = false ∧
      ∀ k, k ≠ ch.val → t.dmc.timing.getD k (0, 0) = s.dmc.timing.getD k (0, 0))) ∧
    (s.get DMC_STATUS.FSP = s.fspWanted → exec .freqChange s = .next s) ∧
    (s.get DMC_STATUS.FSP ≠ s.fspWanted → Leads .freqChange s (fun t => t.get DMC_STATUS.FSP = s.fspWanted ∧ t.dmc.trainDue = true ∧
      ∀ ch b, bankVal t.dmc.debt ch b = 0)))

/-- PTB_SET of one word of the block, in range, by a session with the right sets the word's fields and takes the session as the last to
set; CLEAR in it, a PTB_CLEAR by such a session and LIFE after the last PTB_SET return every word to its reset value, and the last sets
EXPIRED. ACTIVE shows whether any word is away from its reset value. PTB_SET without the right is refused. -/
def Obligations.PerturbationCompletes : Prop :=
  (∀ (q : ReqHdr) (s : State), s.admits q →
    (∀ (addr : BitVec 24) (l : List Word), s.ptbRight q.session.val = false → Leads (.ptbSet q addr l) s (fun t => s.qcpOnly t ∧
      s.replied t q 0x0A03 stNotOwner [])) ∧
    (∀ (addr : BitVec 24) (w : Word), s.ptbRight q.session.val = true → addr.toNat ∈ ptbWords → ptbValid addr.toNat w = true →
      ¬ (addr.toNat = 0x180020 ∧ 1000 * PTB_DSTALL.PERIOD.ofWord w ≤ PTB_DSTALL.STALL.ofWord w ∧ PTB_DSTALL.STALL.ofWord w ≠ 0) →
      Leads (.ptbSet q addr [w]) s (fun t =>
        (∀ o ∈ ptbWords, t.rd o = if addr.toNat = 0x180000 ∧ w.getLsbD 31 = true then resetWord o
          else if o = addr.toNat then (s.rd o &&& ~~~(ptbMask o)) ||| (w &&& ptbMask o) else s.rd o) ∧
        t.flag PTB_STATUS.ACTIVE = ptbWords.any (fun o => t.rd o != resetWord o) ∧
        (¬ (addr.toNat = 0x180000 ∧ w.getLsbD 31 = true) → t.ptb.by_ = some q.session.val ∧ t.ptb.since = s.cyc)))) ∧
  (∀ (r : Fin 8) (s : State), s.ptbRight r.val = true → Leads (.ptbClear (.qcp r)) s (fun t => (∀ o ∈ ptbWords, t.rd o = resetWord o) ∧
    t.ptb.by_ = none ∧ t.flag PTB_STATUS.ACTIVE = false)) ∧
  (∀ s : State, s.ptb.by_ ≠ none → Leads .ptbLifeExpire s (fun t => (∀ o ∈ ptbWords, t.rd o = resetWord o) ∧ t.ptb.by_ = none ∧
    t.flag PTB_STATUS.ACTIVE = false ∧ t.flag PTB_STATUS.EXPIRED = true ∧ s.ptb.since + s.get PTB_CTRL.LIFE * sCyc ≤ t.cyc))

/-- The boot that is due: a firmware image that fails its check leaves the device in BOOT with nothing else changed. With a good one the
device ends ready for QCP with SYS_RDY high and PTP listening; where training, memory tests and the slot are good the laser's first lock
attempt begins, and with nothing to load the device is HELD, dark, with an epoch past every one issued. -/
def Obligations.BootCompletes : Prop :=
  ∀ (trainFail : BitVec 4) (memOk : Bool) (s : State), s.power.bootDue = true → s.power.episode = none →
    exec (.bootSequence false trainFail memOk) s = .next { s with power := { s.power with bootDue := false } } ∧
    Leads (.bootSequence true trainFail memOk) s (fun t => t.power.qcpReady = true ∧ t.power.pins.sysRdy = true ∧ t.get PTP_STATUS.PSTATE = 4 ∧
      (memOk = true → s.bootSlot.isSome = true → (if s.bootWarm then s.get DMC_STATUS.TFAIL = 0 else trainFail = 0) → t.light.attempt = true) ∧
      (s.bootSlot = none → (∀ u, s.cal.user = some u → ∀ e ∈ u.words, e.1 ∈ calWords) →
        t.dev = 1 ∧ t.epoch = nextEpoch s.power.ret.epoch))

/-- TAP_RESET selects IDCODE with a new nonce. BYPASS, SAMPLE/PRELOAD, IDCODE and CHALLENGE are selected as they are, the last two with
their value shifted out; EXTEST, CLAMP, HIGHZ and INTSCAN are while scan is enabled, and are BYPASS otherwise. The first response to a nonce
counts: a wrong one is counted and with PERMIT the right one enables scan, erasing the keys under a reset of COLD reach. PERMIT of the
authenticated owner lasts 60 s. -/
def Obligations.TestAccessCompletes : Prop :=
  (∀ s : State,
    Leads .tapReset s (fun t => t.tap.ir = .idcode ∧ t.tap.fresh = true ∧ t.tap.matched = false ∧ t.tap.permit = s.tap.permit ∧
      t.tap.nonce = BitVec.ofNat 128 s.freeVal ∧ t.regs = s.regs) ∧
    Leads .jtagBypass s (fun t => t = { s with tap := { s.tap with ir := .bypass } }) ∧
    Leads .samplePreload s (fun t => t = { s with tap := { s.tap with ir := .samplePreload } }) ∧
    Leads .idcode s (fun t => t.tap.ir = .idcode ∧ t.out = s.out ++ [.tdo 32 0x1800256F] ∧ t.regs = s.regs) ∧
    Leads .challenge s (fun t => t.tap.ir = .challenge ∧ t.out = s.out ++ [.tdo 128 s.tap.nonce.toNat] ∧ t.regs = s.regs) ∧
    (∀ c i, (c, i) ∈ [(Instr.extest, TapInstr.extest), (.clamp, .clamp), (.highz, .highz), (.intscan, .intscan)] →
      Leads c s (fun t => t.tap.ir = (if s.flag KEY_STATUS.SCAN then i else .bypass) ∧ t.regs = s.regs ∧ t.out = s.out)) ∧
    (∀ value : BitVec 128,
      (value ≠ s.scanResponse → Leads (.response value) s (fun t => t.tap.ir = .response ∧ t.tap.matched = false ∧ t.tap.fresh = false ∧
        t.get KEY_STATUS.BADRESP = min (s.get KEY_STATUS.BADRESP + 1) 255 ∧ t.flag KEY_STATUS.SCAN = s.flag KEY_STATUS.SCAN)) ∧
      (value = s.scanResponse → s.tap.fresh = true →
        (s.flag KEY_JTAG.PERMIT = false ∨ s.flag KEY_STATUS.SCAN = true → Leads (.response value) s (fun t => t.tap.matched = true ∧
          t.tap.fresh = false ∧ t.regs = s.regs)) ∧
        (s.flag KEY_JTAG.PERMIT = true → s.flag KEY_STATUS.SCAN = false → Leads (.response value) s (fun t => t.flag KEY_STATUS.SCAN = true ∧
          t.keys.k = ({} : Keys).k ∧ t.isDark ∧ ∃ e, t.power.episode = some e ∧ 3 ≤ e.reach))) ∧
      (value = s.scanResponse → s.tap.fresh = false → s.tap.matched = false → Leads (.response value) s (fun t => t.tap.matched = false ∧
        t.regs = s.regs))) ∧
    (∀ p : Nat × Nat, s.tap.permit = some p → Leads .permitExpire s (fun t => t.tap.permit = none ∧ t.flag KEY_JTAG.PERMIT = false ∧
      p.2 + 60 * sCyc ≤ t.cyc))) ∧
  (∀ (path : Path) (s : State), s.power.episode = none → s.pathOwns path = true → (s.sess s.owner).auth = true →
    (s.tap.matched = false ∨ s.flag KEY_STATUS.SCAN = true → Leads (.permit path) s (fun t => t.flag KEY_JTAG.PERMIT = true ∧
      t.tap.permit = some (s.owner, s.cyc) ∧ t.get KEY_STATUS.SCANS = s.get KEY_STATUS.SCANS)) ∧
    (s.tap.matched = true → s.flag KEY_STATUS.SCAN = false → Leads (.permit path) s (fun t => t.flag KEY_STATUS.SCAN = true ∧
      t.keys.k = ({} : Keys).k ∧ t.isDark)))

/-- For every level, every part of a body that comes before and every piece: the sequences the coder makes, decoded by the sequence
format behind the part before, give that part with the piece after it. -/
def Obligations.CodedPieceDecodesBack : Prop :=
  ∀ (level : Nat) (before piece : List Byte), lzDecode (piece.length + 2) (lzCode level before piece) before = some (before ++ piece)

/-- Each of these commands runs, under conditions on the state and its operands alone, to the next state named here. The chain: an interval
of the gain control counts its clips, and decides only while a sweep runs under AGC; VIS turns low or stays high; a signature shot that was
not received leaves the list; a verdict is 1, 2 or 3 and counts; an output that a device in SHADOW holds back leaves no batten. The PAIR
link: a heartbeat, a configuration on another channel, the first frame of a longer snapshot, FINAL_SEQ, the health word, the link's fall and
rise, and the standby's pair cycle. The interval counter: its start, its first edge and its timeout. Register actions of the session they belong to.
REF_LOW at the turn alone and the standby's acknowledgement in PAIR_HB are the model's readings (log entries 145, 118). -/
def Obligations.ChainLinkAndActionCommandsRun : Prop :=
  (∀ (p : Port) (brl : Bool) (lanes : List (List Int)) (refI refQ l : List Int) (t s : State), t = s.countClips p brl lanes (refI.zip refQ) →
    l = lanes.flatMap (s.agcCodes p) →
    ((s.grid.running && s.grid.started && s.flag (agcFld p brl)) = false → exec (.agcIntervalEnd p brl lanes refI refQ) s = .next t) ∧
    ((s.grid.running && s.grid.started && s.flag (agcFld p brl)) = true → exec (.agcIntervalEnd p brl lanes refI refQ) s =
      .next (t.modAgc p brl (s.agcDecide p brl (s.agcHeld p) (l.countP clipped12) (maxN (l.map Int.natAbs)))))) ∧
  (∀ (refs : List (Int × Int)) (low : Bool) (t s : State), low = decide (fringeVis refs < 2048) →
    t = ({ s with rx := { s.rx with visLow := low } }).put RX_REF.VIS (fringeVis refs) →
    ((low && !s.rx.visLow) = false → exec (.refVisLow refs) s = .next t) ∧
    ((low && !s.rx.visLow) = true → exec (.refVisLow refs) s = .next ((t.put RX_STATUS.REF_LOW 1).eventAll 0x0104 0))) ∧
  (∀ (sh : ShotReturn) (i : Inflight) (s : State), s.shotDue sh.port sh.pos = some i → i.sig = true → (i.launched && sh.received) = false →
    exec (.phaseChainShot sh) s = .next (({ s with grid := { s.grid with inflight := s.grid.inflight.erase i } }).measureVis sh.refs)) ∧
  (∀ s : State, s.phs.sigDue = true → s.grid.inflight.any (fun (i : Inflight) => i.sig) = false →
    Leads (.signatureVerdict () () () ()) s (fun t => t.phs.sigDue = false ∧
      (t.get PHS_SIG_STAT.VERDICT = 1 ∨ t.get PHS_SIG_STAT.VERDICT = 2 ∨ t.get PHS_SIG_STAT.VERDICT = 3))) ∧
  (∀ (stream : Fin 64) (i : Inflight) (s : State), (s.filt stream.val).out = some i → i.send = false →
    Leads (.decimationOutput stream) s (fun t => (t.filt stream.val).out = none ∧ t.strm = s.strm ∧ t.trg = s.trg ∧ t.regs = s.regs)) ∧
  (∀ (health : BitVec 12) (s : State), s.pairOn = true →
    exec (.pairHb health) s = .next (s.modPair (fun x => { x with partner := some (s.now, health) })).ackSwitch ∧
    (s.pair.finalDue = false → exec .pairHbSend s = .next (s.sendPair (.hb (BitVec.ofNat 12 s.healthWord)))) ∧
    (s.flag PAIR_STATUS.LINK_UP = false → exec .pairLinkUp s = .next ((s.putFlag PAIR_STATUS.LINK_UP true).eventAll 0x0604 0)) ∧
    (s.flag PAIR_STATUS.LINK_UP = true → exec .pairLinkDown s = .next ((s.putFlag PAIR_STATUS.LINK_UP false).eventAll 0x0604 0)) ∧
    Leads .pairIdle s (fun t => t = s)) ∧
  (∀ (tsw nslot : Nat) (alignMod : Ts) (ch : BitVec 8) (node : BitVec 12) (ok : Bool) (s : State), s.pairOn = true →
    ch.toNat ≠ s.get LSD_LASER.CH → ok = (tsw == s.get PAT_SWEEP.TSW && nslot == s.get PAT_SWEEP.N_SLOT && alignMod == s.alignMod) →
    exec (.pairCfgFrame tsw nslot alignMod ch node) s = .next ((s.puts [(PAIR_PARTNER.CH, ch.toNat), (PAIR_PARTNER.NODE, node.toNat),
      (PAIR_STATUS.CFG_MISMATCH, (!ok).toNat)]).modPair (fun x => { x with pcfg := some (tsw, nslot, alignMod) }))) ∧
  (∀ (total : Nat) (body : List Byte) (s : State), s.pairOn = true → s.role ≠ 1 → body.length < total →
    exec (.snap 0 total body) s = .next (s.modPair (fun x => { x with snapIn := body, snapLen := total }))) ∧
  (∀ (seqs : List (Fin 64 × BitVec 32)) (l : List (Nat × BOut)) (s : State), s.strm.held = some l → exec (.finalSeq seqs) s =
    .next (l.foldl (fun (t : State) e => t.pushOut e.1 e.2) (seqs.foldl (fun (t : State) e => t.put (STR_W10.SEQ e.1.val) e.2.toNat)
      { s with strm := { s.strm with held := none } }))) ∧
  (∀ (m : Nat) (s : State), s.pairOn = true → s.grid.running = true → s.grid.started = true → m = s.pairCycle → s.role ≠ 1 →
    s.pairCycleAt m ≤ s.grid.align + (s.grid.k + 1) * s.tSw → Leads .pairCycleBoundary s (fun t => t.grid.cycle = some m ∧
      t.get PAIR_SNAP.AGE = min (s.get PAIR_SNAP.AGE + 1) (2 ^ PAIR_SNAP.AGE.width - 1) ∧
      t.pair.own.map (fun o => o.1) = some (s.shotNo (s.pairCycleAt m)))) ∧
  (∀ (x : Fin 6) (rising : Bool) (ts : Nat) (s : State), s.flag TIC_CTRL.RUN = true →
    (x.val = s.get TIC_CFG.START → rising ≠ s.flag TIC_CFG.POL_START → s.tb.tic.start = none → s.get TIC_CFG.MODE = 0 →
      exec (.ticEdge x rising ts) s = .next (s.ticCommit.modTic (fun c => { c with start := some ts }))) ∧
    (s.get TIC_CFG.TIMEOUT ≠ 0 → exec .ticTimeout s = .next ((s.atCyc (s.tb.tic.since + s.get TIC_CFG.TIMEOUT * sCyc)).ticEnd true))) ∧
  (∀ (q : ReqHdr) (s : State),
    (∀ (x : Fin 6) (n : Nat), s.admitsLong q → s.flag TIC_CTRL.RUN = false → 2 ≤ n → n ≤ 16777216 →
      Leads (.ticStart q x.val n) s (fun t => s.began t q 0x0903 x.val ∧ t.flag TIC_CTRL.RUN = true)) ∧
    (s.admits q → s.flag TICRES_W0.READY = false → Leads (.ticRead q) s (fun t => s.qcpOnly t ∧ s.replied t q 0x0904 stNotReady [])) ∧
    (s.admits q → s.flag TICRES_W0.READY = true → Leads (.ticRead q) s (fun t => s.qcpOnly t ∧
      s.replied t q 0x0904 stOk [itSeq (s.get TICRES_W0.SEQ), itWords (s.rdWords TICRES_W0.READY.addr 11)]))) ∧
  (∀ (path : Path) (r : Nat) (s : State), s.power.episode = none → s.pathSession path = some r →
    (∀ c : Fin 16, s.armError c.val (some r) = none → exec (.arm path c) s = .next (s.capArm c.val)) ∧
    (∀ c : Fin 16, s.capOwner c.val = some r → exec (.captureAbortBit path c) s = .next (s.capAbort c.val) ∧
      exec (.release path c) s = .next (s.capRelease c.val)) ∧
    (∀ o : Fin 16, s.slotOwner o.val = some r → exec (.reedStopBit path o) s = .next (s.reedStop o.val) ∧
      (s.slotState o.val ≠ 2 → s.startConflict o.val = false → s.dev ≠ 1 → exec (.reedStartBit path o) s = .next (s.reedStart o.val))) ∧
    (s.flag TIC_CTRL.RUN = false → exec (.ticStartBit path) s = .next (s.ticStart r none)) ∧
    (s.tb.tic.starter = some r → exec (.ticAbortBit path) s = .next s.ticAbort) ∧
    (∀ hseq : BitVec 32, s.pair.host.map (·.val) = some r → exec (.pairEchoWrite path hseq) s = .next (s.pairEcho hseq)))

/-- Each of these commands runs, under conditions on the state and its operands alone, to the next state named here, or to one with the
properties named. Brillouin: a shot that no period holds, a fold, the close of one port alone, a set of one port, a read of one record and a
baseline. Triggers: an instant of a source, a ridge trigger frame, a ridge trigger that no capture unit takes, a record delivered, a read of an empty buffer,
a command to a unit. Captures: the requests
of a session that may make them, a send to the host's memory, what history lost, and an interval that is given up. Calibration: a run, a
restore, the status and a record, the temperatures, a repeated step, a save, a retry. The time base: the oven, the reference, the synthesisers and the edges. The test access port: every instruction, with
scan off or on, and PERMIT. What RESTORE_FACTORY answers while one waits is the model's reading (log entry 195). -/
def Obligations.SensingTimeAndTestCommandsRun : Prop :=
  (∀ (p : Port) (pos : Fin 16) (lanesX lanesY : List (List Int)) (i : Inflight) (s : State),
    s.brl.inflight.find? (fun i => i.port == p && i.pos == pos) = some i → (s.brlPort p).closing = none → (s.brlPort p).cur = none →
    Leads (.brlShotContribution p pos lanesX lanesY) s (fun t => t.brl.inflight = s.brl.inflight.erase i ∧ t.regs = s.regs ∧
      (t.brlPort p).cur = none ∧ (t.brlPort p).closing = none)) ∧
  (∀ (b : Ts × Ts) (u s : State), s.cycleBoundary = some b → s.brl.lastFold + 1000000000 * ns ≤ b.1 →
    u = (s.modBrl .a (fun x => { x with cur := x.cur.map BrlPeriod.folded })).modBrl .b (fun x => { x with cur := x.cur.map BrlPeriod.folded }) →
    exec .brlFold s = .next ({ u with brl := { u.brl with lastFold := b.1 } }).foldWrites) ∧
  (∀ (b g : Ts) (u s : State), s.cycleBoundary = some (b, g) → u = (s.closePort .a b g).closePort .b b g →
    exec .periodClose s = .next (if (s.closeDue .a g && (u.brl.portA.cur.map (·.start)) == some b) ||
      (s.closeDue .b g && (u.brl.portB.cur.map (·.start)) == some b)
      then ({ u with brl := { u.brl with lastFold := b } }).foldWrites.count BRL_STATUS.PERIODS else u)) ∧
  (∀ (c : BrlPeriod) (s : State), s.brl.portA.closing = some c → s.brl.portB.closing = none →
    Leads .brlResultReady s (fun t => t.brl.portA.closing = none ∧ t.flag (BRL_RES_STAT.READY 0) = true)) ∧
  (∀ (q : ReqHdr) (p : Port) (b : Nat) (s : State), s.admits q → s.flag (BRL_RES_STAT.READY p.idx) = true →
    Leads (.brlRead q p.idx (b : Int) 1) s (fun t => s.qcpOnly t ∧
      s.replied t q 0x0304 stOk [itSeq (s.get (BRL_RES_STAT.SEQ p.idx)), itWords (s.recordWords p b)])) ∧
  (∀ (q : ReqHdr) (p : Port) (s : State), s.admitsLong q → s.flag (BRL_BASE.BUSY p.idx) = false → s.owner = q.session.val → s.dev ≠ 1 →
    Leads (.baseline q p.idx) s (fun t => s.began t q 0x0504 p.idx ∧ t.flag (BRL_BASE.BUSY p.idx) = true)) ∧
  (∀ (kind : Fin 8) (src : Nat) (e : TrigIn) (mine : List TrigIn) (v s : State),
    s.trg.inq.find? (fun x => x.kind == kind.val && x.src == src) = some e → mine = s.trg.inq.filter (fun x => x.inst == e.inst) →
    v = (List.finRange 64).foldl (fun (t : State) u => mine.foldl (fun (t : State) x => t.unitTakes u x) t)
      (({ s with trg := { s.trg with inq := s.trg.inq.filter (fun x => !(x.inst == e.inst)) } }).coalesce e.inst) →
    exec (.triggerEvaluate kind src) s = .next (v.resetUnits (fun u => mine.any (fun x => x.reset && v.trgReads u x.kind x.src)))) ∧
  (∀ (q : ReqHdr) (u : Fin 64) (ingress : Ts) (s : State), s.admits q → s.trgOn u.val = true → s.trgKind u.val = 7 →
    s.trgOwner u.val = some q.session.val → s.dev ≠ 1 →
    exec (.trigger q u.val ingress) s = .next ((if s.trgMute then s.taken q 0x0400 else
      ((s.taken q 0x0400).coalesce ingress).fireOnce u ingress).reply q 0x0400 stOk)) ∧
  (∀ (q : ReqHdr) (count : Nat) (s : State), s.admits q → 1 ≤ count → count ≤ 254 → s.trg.buf = [] →
    Leads (.eventRead q count) s (fun t => s.replied t q 0x0303 stOk [itWords []] ∧ t.trg.buf = [])) ∧
  (∀ (e : EvRec) (n : Nat) (s : State), s.trg.buf.find? (fun e => (s.recStream e).isSome) = some e → s.recStream e = some n →
    Leads .eventRecordDeliver s (fun t => t.trg.buf = s.trg.buf.erase e)) ∧
  (∀ (g : RidgeTrig) (s : State), s.ridge.trigs = [g] → (∀ c < 16, s.flag (CAPU_W0.RIDGE_EN c) = false) →
    exec .ridgeTriggerExecute s = .next (({ s with ridge := { s.ridge with trigs := [] } }).at g.execAt)) ∧
  (∀ (h : RidgeHdr) (tref : Ts) (id : BitVec 8) (horizon : Nat) (u : State) (s : State), s.ridgeOn = true → s.laneUp h.laneW = true →
    h.origin ≠ s.nodeId → u = (s.goodFrame h.laneW).forward h 5 (timeBytes tref ++ beBytes 1 id.toNat ++ beBytes 3 0 ++ beBytes 4 horizon) →
    u.ridge.seen.contains (h.origin, h.seq) = false → u.trgMute = true → Leads (.ridgeTriggerFrame h tref id horizon) s (fun t =>
      ∃ g : RidgeTrig, t.ridge.trigs = u.ridge.trigs ++ [g] ∧ g.execAt = h.time + horizon * 1000 * ns ∧ g.tref = tref ∧ g.id = id)) ∧
  (∀ (q : ReqHdr) (c : Fin 16) (s : State), s.admits q →
    ((s.taken q 0x0401).armError c.val (some q.session.val) = none →
      exec (.capArm q c.val) s = .next (((s.taken q 0x0401).capArm c.val).reply q 0x0401 stOk)) ∧
    (s.capOwner c.val = some q.session.val → s.capState c.val ≠ 3 →
      exec (.capAbort q c.val) s = .next (((s.taken q 0x0402).capAbort c.val).reply q 0x0402 stOk)) ∧
    (s.capOwner c.val = some q.session.val → s.capState c.val = 3 → s.capSending c.val = false →
      exec (.capRelease q c.val) s = .next (((s.taken q 0x0403).capRelease c.val).reply q 0x0403 stOk)) ∧
    (s.capState c.val = 3 → 1 ≤ (s.cap c.val).region → Leads (.capRead q c.val 0 1 0) s (fun t => s.qcpOnly t ∧ s.replied t q 0x0404 stOk
      [itData (pieceBlock 0 (0 + 1 == (s.cap c.val).region) [] (((s.capRegion c.val).drop 0).take 1))]))) ∧
  (∀ (q : ReqHdr) (c : Fin 16) (haddr : BitVec 64) (s : State), s.admitsLong q → s.capState c.val = 3 → s.dev ≠ 1 →
    Leads (.capSend q c.val 0 none haddr) s (fun t => s.began t q 0x0405 c.val ∧ t.trg.sends.length = s.trg.sends.length + 1)) ∧
  (∀ (x : CapSend) (s : State), s.trg.sends = [x] → x.dest = none → Leads (.capSendComplete x.session x.seq) s (fun t => t.trg.sends = [])) ∧
  (∀ (stream : Fin 64) (first len : Nat) (s : State), Leads (.historyWriteMiss stream first len) s (fun t =>
    t.trg.histGaps.length = s.trg.histGaps.length + 1)) ∧
  (∀ (c : Fin 16) (s : State), s.capState c.val = 2 → (s.cap c.val).start.isSome = true → c.val < s.trg.caps.length →
    (s.cap c.val).ivs.length + 1 < (s.cap c.val).pre + (s.cap c.val).post →
    Leads (.captureWriteDeadline c false) s (fun t => (t.cap c.val).ivs.length = (s.cap c.val).ivs.length + 1)) ∧
  (∀ (q : ReqHdr) (s : State), s.admitsLong q → s.owner = q.session.val →
    (s.dev ≠ 1 → Leads (.calRun q 1) s (fun t => s.answered t q 0x0500 stAccepted [])) ∧
    (s.cal.restore = none → Leads (.restoreFactory q) s (fun t => s.answered t q 0x0503 stAccepted [] ∧ t.cal.restore.isSome = true))) ∧
  (∀ (q : ReqHdr) (s : State), s.admits q →
    Leads (.calStatus q) s (fun t => s.replied t q 0x0501 stOk [itWords [s.rd 0x140000]]) ∧
    (∀ d : Fin 13, s.flag (CALREC_W0.READY d.val) = true → Leads (.calRead q d.val) s (fun t =>
      s.replied t q 0x0502 stOk [itWords (s.rdWords (CALREC_W0.READY d.val).addr 8)]))) ∧
  (∀ (die0 die1 die2 die3 tcase : Int) (s : State), Leads (.calSensorRead die0 die1 die2 die3 tcase) s (fun t =>
    t.cal.temps = [die0, die1, die2, die3, tcase])) ∧
  (∀ (d : Fin 13) (s : State), d.val < s.cal.doms.length → s.cbit CAL_STATUS.RUNNING d.val = true → s.calBlocked d.val = false →
    s.calWaits d.val = false → (s.dom d.val).ready = none → (s.dom d.val).steps < calSteps d.val →
    Leads (.calMicroStep d true []) s (fun t => (t.dom d.val).steps = (s.dom d.val).steps ∧ (t.dom d.val).tries = (s.dom d.val).tries + 1)) ∧
  (∀ (d : Fin 13) (s : State), (s.dom d.val).retry = true → s.cbit CAL_STUCK.STUCK d.val = false →
    exec (.calRetryExpire d) s = .next ((((s.atCyc ((s.dom d.val).failedAt + s.get CAL_RETRY.RETRY_T * sCyc)).modDom d.val
      (fun x => { x with retry := false })).calDue d.val).calSync d.val)) ∧
  (∀ s : State, s.cal.ownerDirty = true → exec .calUserSave s = .next s.calSave) ∧
  (∀ s : State,
    exec .ovenWarm s = .next (s.put OCX_STATUS.WARM 1) ∧
    Leads .ovenCool s (fun t => t.flag OCX_STATUS.WARM = false) ∧
    Leads .ovenFail s (fun t => t.flag OCX_STATUS.FAIL = true ∧ HwFault.oven ∈ t.light.faults) ∧
    (s.get OCX_CTRL.SRC = 1 → exec .refSourceLoss s = .next (s.puts [(OCX_STATUS.HOLD, 1), (OCX_STATUS.DISC, 0), (OCX_STATUS.REF_LOS, 1)])) ∧
    (s.get OCX_CTRL.SRC ≠ 0 → s.flag OCX_STATUS.HOLD = true → exec .refSourceResume s = .next s.steer) ∧
    (s.flag OCX_STATUS.SYN_LOCK = true → Leads .synthUnlock s (fun t => t.flag OCX_STATUS.SYN_UNLK = true ∧ t.light.hold = true)) ∧
    (s.flag OCX_STATUS.SYN_LOCK = false → exec .synthRelock s = .next ((s.put OCX_STATUS.SYN_LOCK 1).clearFault .synth) ∧
      exec .synthLockTimeout s = .next (({ s with tb := { s.tb with synLate := true } }).hwFault .synth)) ∧
    Leads .ppsOutFall s (fun t => t.power.pins.ppsOut = false)) ∧
  (∀ (ts : Ts) (u s : State), s.power.episode = none → u = s.at ts →
    (s.flag OCX_CTRL.PPS_EN = true → s.power.pins.ppsOut = false → Leads .ppsOutEdge s (fun t => t.power.pins.ppsOut = true)) ∧
    (s.tb.lastEdge.getD 4 none = none →
      exec (.ppsInEdge ts) s = .next (({ u with tb := { u.tb with lastEdge := setAt u.tb.lastEdge 4 (some (stamp ts)) } }).ppsWindow (stamp ts))) ∧
    (∀ (x : Fin 4) (rising : Bool), s.edgeSelected x.val rising = true → s.tb.lastEdge.getD x.val none = some (stamp ts) →
      exec (.evtEdge x rising ts) s = .next (u.countSat OCX_STATUS.CLOSE_EDGES))) ∧
  (∀ s : State,
    exec .tapReset s = .next (s.drew.modTap (fun _ => { ir := .idcode, nonce := BitVec.ofNat 128 s.freeVal, fresh := true, permit := s.tap.permit })) ∧
    exec .jtagBypass s = .next (s.modTap (fun t => { t with ir := .bypass })) ∧
    exec .samplePreload s = .next (s.modTap (fun t => { t with ir := .samplePreload })) ∧
    exec .idcode s = .next ((s.modTap (fun t => { t with ir := .idcode })).emit (.tdo 32 0x1800256F)) ∧
    exec .challenge s = .next ((s.modTap (fun t => { t with ir := .challenge })).emit (.tdo 128 s.tap.nonce.toNat)) ∧
    (s.scanOn = false → ∀ c ∈ [Instr.extest, .clamp, .highz, .intscan], exec c s = .next (s.modTap (fun t => { t with ir := .bypass }))) ∧
    (s.scanOn = true → ∀ c i, (c, i) ∈ [(Instr.extest, TapInstr.extest), (.clamp, .clamp), (.highz, .highz), (.intscan, .intscan)] →
      exec c s = .next (s.modTap (fun t => { t with ir := i }))) ∧
    (∀ value : BitVec 128, value ≠ s.scanResponse → Leads (.response value) s (fun t => t.tap.response = value ∧ t.tap.matched = false)) ∧
    (∀ path : Path, s.power.episode = none → s.pathOwns path = true → (s.sess s.owner).auth = true → exec (.permit path) s =
      .next ((({ s with tap := { s.tap with permit := some (s.owner, s.cyc) } }).put KEY_JTAG.PERMIT 1).scanCheck)) ∧
    (s.tap.permit.isSome = true → exec .permitExpire s = .next (((s.atCyc s.permitEnd).modTap (fun t => { t with permit := none })).put KEY_JTAG.PERMIT 0)))

/-- For each command of the sensing chain (light, sweeps, receiver, phases, Brillouin),
but those that reset or rewrite the whole block: every component of the state outside the listed ones and every register word outside
the listed blocks is as before, the queue is untouched, and what left the block before stays. -/
def Obligations.FrameOfSensing : Prop :=
  ∀ (c : Instr) (s t : State), exec c s = .next t → match c with
    | .sweepStart .. =>
      s.within t [.clk, .cyc, .light, .grid, .pat, .rx, .phs, .dec, .qcp, .strm, .trg, .brl, .pair, .mon, .cal, .dmc, .ptb, .power, .out] [0x00, 0x03, 0x04, 0x05, 0x06, 0x07, 0x08, 0x09, 0x0C, 0x11, 0x13, 0x14, 0x15, 0x18, 0x19]
    | .shotLaunch .. =>
      s.within t [.clk, .cyc, .grid, .rx, .brl, .ptb, .out] [0x18]
    | .diagnosticPulse .. =>
      s.within t [.light, .grid, .mon, .dmc, .ptb, .out] [0x00, 0x03, 0x13, 0x15, 0x18]
    | .compUpdate .. | .derateUpdate .. | .powerLoopStep .. | .lockLoss .. | .thermalFaultClear =>
      s.within t [.light] [0x03]
    | .powerShortfall .. =>
      s.within t [.qcp, .ptb, .out] [0x03, 0x18, 0x19]
    | .pumpOpenDetect .. | .intlkNRise =>
      s.within t [] [0x03]
    | .laserLocked .. =>
      s.within t [.light, .grid, .dmc, .power, .out] [0x00, 0x03, 0x10, 0x15]
    | .relockFail | .rprecFault | .intlkNFall | .thermalTrip =>
      s.within t [.light, .mon, .dmc] [0x00, 0x03, 0x13, 0x15]
    | .barrierSilence =>
      s.within t [.light, .mon, .dmc] [0x00, 0x03, 0x12, 0x13, 0x15]
    | .aprBreakDetect .. =>
      s.within t [.light, .grid, .dec, .strm, .reed, .mon, .dmc] [0x00, 0x03, 0x13, 0x15]
    | .restoreProbe .. =>
      s.within t [.light, .grid, .rx, .ptb, .out] [0x03, 0x18]
    | .sweepSyncEdge .. =>
      s.within t [.pat] []
    | .agcIntervalEnd .. =>
      s.within t [.rx] [0x05]
    | .refVisLow .. =>
      s.within t [.rx, .qcp, .ptb, .out] [0x05, 0x18, 0x19]
    | .phaseChainShot .. =>
      s.within t [.grid, .phs, .dec, .qcp, .strm, .trg, .reed, .brl, .dmc, .ptb, .out, .free] [0x00, 0x03, 0x05, 0x06, 0x07, 0x08, 0x09, 0x0C, 0x18, 0x19]
    | .signatureVerdict .. =>
      s.within t [.light, .grid, .phs, .qcp, .dmc, .ptb, .power, .out] [0x00, 0x03, 0x06, 0x10, 0x15, 0x18, 0x19]
    | .decimationOutput .. =>
      s.within t [.dec, .qcp, .strm, .trg, .brl, .dmc, .ptb, .out] [0x00, 0x07, 0x09, 0x0C, 0x18, 0x19]
    | .brlShotContribution .. =>
      s.within t [.brl] []
    | .brlFold =>
      s.within t [.brl, .dmc] []
    | .periodClose =>
      s.within t [.brl, .dmc] [0x08]
    | .brlResultReady =>
      s.within t [.dec, .qcp, .strm, .trg, .brl, .dmc, .ptb, .out, .free] [0x00, 0x07, 0x08, 0x09, 0x0C, 0x18, 0x19]
    | .brlRead .. =>
      s.within t [.qcp, .ptb, .out] [0x18, 0x19]
    | .baseline .. =>
      s.within t [.qcp, .brl, .ptb, .out] [0x08, 0x18, 0x19]
    | .syncExecute =>
      s.within t [.clk, .cyc, .pat, .ridge] []
    | .ridgeSyncSend .. =>
      s.within t [.ridge, .ptb, .out] [0x00, 0x18]
    | .flashingSettled =>
      s.within t [.light] [0x10]
    | .monitorConversion .. =>
      s.within t [.clk, .cyc, .mon] [0x13]
    | _ => True

/-- For each command of the QCP interpreter and the registers,
but those that reset or rewrite the whole block: every component of the state outside the listed ones and every register word outside
the listed blocks is as before, the queue is untouched, and what left the block before stays. -/
def Obligations.FrameOfQcp : Prop :=
  ∀ (c : Instr) (s t : State), exec c s = .next t → match c with
    | .stagedSetHandover =>
      s.within t [.qcp, .power] [0x00]
    | .failWrite .. =>
      s.within t [.light] [0x00, 0x03]
    | .rearm .. | .enableWrite .. =>
      s.within t [] [0x00, 0x03]
    | .aprEnWrite .. =>
      s.within t [.light, .qcp, .mon, .dmc, .ptb, .out] [0x00, 0x03, 0x13, 0x15, 0x18, 0x19]
    | .baselineArm .. =>
      s.within t [.brl] [0x00, 0x08]
    | .baselineAbort .. =>
      s.within t [.qcp, .brl, .ptb, .out] [0x00, 0x08, 0x18, 0x19]
    | .arm .. | .captureAbortBit .. | .release .. =>
      s.within t [.trg] [0x00, 0x09]
    | .reedStartBit .. =>
      s.within t [.reed] [0x00]
    | .reedStopBit .. =>
      s.within t [.dec, .qcp, .strm, .trg, .reed, .dmc, .ptb, .out] [0x00, 0x07, 0x09, 0x0A, 0x0C, 0x18, 0x19]
    | .qcpPacket .. | .ping .. | .info .. | .eventLog .. | .begin .. | .set .. | .discard .. | .storeSelect .. | .imagePut .. |
      .qcpCounters .. | .quotaGet .. | .sessionList .. =>
      s.within t [.qcp, .ptb, .out] [0x18, 0x19]
    | .read .. =>
      s.within t [.qcp, .ptb, .shadows, .out, .free] [0x00, 0x18, 0x19]
    | .abort .. =>
      s.within t [.light, .grid, .dec, .qcp, .tb, .strm, .trg, .reed, .brl, .pair, .mon, .cal, .dmc, .ptb, .power, .out] [0x00, 0x03, 0x07, 0x08, 0x0C, 0x0F, 0x10, 0x11, 0x13, 0x14, 0x15, 0x18, 0x19, 0x30, 0x40]
    | .commit .. | .imageApply .. =>
      s.within t [.qcp, .ptb, .out] [0x04, 0x18, 0x19]
    | .storeSave .. | .storeSaveCommit =>
      s.within t [.qcp, .ptb, .out] [0x00, 0x18, 0x19]
    | .openSession .. =>
      s.within t [.qcp, .net, .ptb, .tap, .out, .free] [0x17, 0x18, 0x19]
    | .close .. =>
      s.within t [.qcp, .ptb, .tap, .out] [0x17, 0x18, 0x19]
    | .quotaSet .. =>
      s.within t [.qcp, .strm, .ptb, .out] [0x00, 0x18, 0x19]
    | .keyProvision .. =>
      s.within t [.qcp, .ptb, .keys, .out] [0x17, 0x18, 0x19]
    | .sessionIdleClose .. =>
      s.within t [.clk, .cyc, .qcp, .ptb, .tap, .out] [0x17, 0x18, 0x19]
    | .groupLatchRead .. | .sysIgnCntRead .. | .spiReadCycle .. =>
      s.within t [.ptb, .shadows, .out, .free] [0x00, 0x18]
    | .ticStartBit .. =>
      s.within t [.tb] [0x00, 0x0F]
    | .ticAbortBit .. =>
      s.within t [.qcp, .tb, .ptb, .out] [0x00, 0x0F, 0x18, 0x19]
    | .pairEchoWrite .. =>
      s.within t [.pair] [0x00]
    | _ => True

/-- For each command of the recording units (captures, triggers, streams, reed slots),
but those that reset or rewrite the whole block: every component of the state outside the listed ones and every register word outside
the listed blocks is as before, the queue is untouched, and what left the block before stays. -/
def Obligations.FrameOfRecording : Prop :=
  ∀ (c : Instr) (s t : State), exec c s = .next t → match c with
    | .historyWriteMiss .. =>
      s.within t [.trg, .dmc] []
    | .triggerEvaluate .. | .ridgeTriggerFrame .. =>
      s.within t [.ridge, .trg, .dmc, .ptb, .out, .free] [0x00, 0x09, 0x18]
    | .reedPass .. | .nop .. | .endPass .. | .loop .. | .loopr .. | .ldp .. | .addp .. | .setam .. | .setq .. | .rotw .. | .mpy .. |
      .mac .. | .msu .. | .sqa .. | .adda .. | .suba .. | .addi .. | .adds .. | .shra .. | .shla .. | .absa .. | .bexp .. | .nrm .. |
      .movad .. | .movda .. | .movi .. | .mov .. | .movf .. | .mant .. | .ash .. | .dtap .. | .sethd .. | .dput .. | .dget .. =>
      s.within t [.dec, .qcp, .strm, .trg, .reed, .dmc, .ptb, .out, .free] [0x00, 0x07, 0x09, 0x0A, 0x0C, 0x18, 0x19, 0x30, 0x40]
    | .reedCycleLimit .. | .undefinedEncoding .. | .reedStop .. =>
      s.within t [.dec, .qcp, .strm, .trg, .reed, .dmc, .ptb, .out] [0x00, 0x07, 0x09, 0x0A, 0x0C, 0x18, 0x19]
    | .slotStartEffect .. =>
      s.within t [.clk, .cyc, .dec, .qcp, .strm, .reed, .dmc, .ptb, .out] [0x00, 0x07, 0x0A, 0x0C, 0x18, 0x19, 0x30, 0x40]
    | .battenClose .. =>
      s.within t [.grid, .dec, .qcp, .strm, .dmc, .ptb, .out] [0x00, 0x07, 0x0C, 0x18, 0x19]
    | .battenSend .. =>
      s.within t [.net, .strm, .ptb, .out] [0x0C, 0x18]
    | .battenAgeExpire .. =>
      s.within t [.clk, .cyc, .qcp, .strm, .ptb, .out] [0x0C, 0x18, 0x19]
    | .launchWindowOpen .. =>
      s.within t [.clk, .cyc] []
    | .resendTake .. =>
      s.within t [.strm] []
    | .retainExpire .. =>
      s.within t [.clk, .cyc, .strm] []
    | .streamStatus .. | .capRead .. | .reedPut .. =>
      s.within t [.qcp, .ptb, .out] [0x18, 0x19]
    | .resend .. =>
      s.within t [.qcp, .strm, .ptb, .out] [0x18, 0x19]
    | .flush .. =>
      s.within t [.dec, .qcp, .strm, .dmc, .ptb, .out] [0x00, 0x07, 0x0C, 0x18, 0x19]
    | .eventRead .. | .capArm .. =>
      s.within t [.qcp, .trg, .ptb, .out] [0x09, 0x18, 0x19]
    | .trigger .. =>
      s.within t [.qcp, .ridge, .trg, .dmc, .ptb, .out, .free] [0x00, 0x09, 0x18, 0x19]
    | .capAbort .. | .capRelease .. =>
      s.within t [.qcp, .trg, .ptb, .out] [0x00, 0x09, 0x18, 0x19]
    | .capSend .. =>
      s.within t [.qcp, .trg, .ptb, .out] [0x18, 0x19]
    | .reedLoad .. | .reedStart .. =>
      s.within t [.qcp, .reed, .ptb, .out] [0x18, 0x19]
    | .reedLoadCommit .. =>
      s.within t [.qcp, .reed, .ptb, .out, .free] [0x00, 0x0A, 0x18, 0x19, 0x30, 0x40]
    | .reedUnload .. =>
      s.within t [.dec, .qcp, .strm, .trg, .reed, .dmc, .ptb, .out] [0x00, 0x07, 0x09, 0x0A, 0x0C, 0x18, 0x19, 0x30, 0x40]
    | .ridgeTriggerExecute =>
      s.within t [.clk, .cyc, .ridge, .trg, .dmc] [0x00, 0x09]
    | .eventRecordDeliver =>
      s.within t [.dec, .qcp, .strm, .trg, .dmc, .ptb, .out] [0x00, 0x07, 0x09, 0x0C, 0x18, 0x19]
    | .captureWriteDeadline .. =>
      s.within t [.trg, .dmc] [0x00, 0x09]
    | .capSendComplete .. =>
      s.within t [.qcp, .net, .trg, .ptb, .out] [0x18, 0x19]
    | _ => True

/-- For each command of the time base, the Ethernet inputs and the ridge,
but those that reset or rewrite the whole block: every component of the state outside the listed ones and every register word outside
the listed blocks is as before, the queue is untouched, and what left the block before stays. -/
def Obligations.FrameOfTime : Prop :=
  ∀ (c : Instr) (s t : State), exec c s = .next t → match c with
    | .timeGet .. | .ticRead .. =>
      s.within t [.qcp, .ptb, .out] [0x18, 0x19]
    | .timeSet .. =>
      s.within t [.clk, .grid, .rx, .qcp, .ptp, .ridge, .strm, .reed, .brl, .pair, .ptb, .out] [0x0E, 0x10, 0x18, 0x19]
    | .timeAdj .. =>
      s.within t [.qcp, .ptp, .ptb, .out] [0x0E, 0x18, 0x19]
    | .ticStart .. | .ticEdge .. =>
      s.within t [.qcp, .tb, .ptb, .out] [0x0F, 0x18, 0x19]
    | .ethFrameRx .. =>
      s.within t [.qcp, .net, .ptb, .out] [0x0D, 0x18, 0x19]
    | .ethLinkChange .. =>
      s.within t [] [0x0D]
    | .nextHopRetry .. =>
      s.within t [.ptb, .out] [0x18]
    | .ptpSyncRx .. =>
      s.within t [.ptp] [0x0D, 0x18]
    | .ptpFollowUpRx .. =>
      s.within t [.ptp] [0x0D]
    | .ptpDelayRespRx .. =>
      s.within t [.clk, .grid, .rx, .qcp, .ptp, .ridge, .strm, .reed, .brl, .pair] [0x0D, 0x0E, 0x10]
    | .ptpAnnounceRx .. =>
      s.within t [.ptp] [0x0D, 0x0E]
    | .ptpDelayReqRx .. =>
      s.within t [.ptb, .out] [0x0D, 0x18]
    | .announceTimeout =>
      s.within t [.ptp] [0x0E]
    | .followUpTimeout =>
      s.within t [.ptp] []
    | .syncSend .. | .delayReqSend .. | .announceSend =>
      s.within t [.ptp, .ptb, .out] [0x18]
    | .ovenWarm | .refSourceLoss =>
      s.within t [] [0x02]
    | .ovenCool =>
      s.within t [.tb] [0x02]
    | .ovenFail | .synthRelock =>
      s.within t [.light] [0x02]
    | .refSourceResume =>
      s.within t [.free] [0x02]
    | .synthUnlock =>
      s.within t [.light, .tb] [0x02]
    | .synthLockTimeout =>
      s.within t [.light, .tb, .mon, .dmc] [0x00, 0x03, 0x13, 0x15]
    | .ppsOutEdge =>
      s.within t [.clk, .cyc, .ptb, .power, .out] [0x18]
    | .ppsInEdge .. =>
      s.within t [.clk, .cyc, .tb] [0x02]
    | .evtEdge .. =>
      s.within t [.clk, .cyc, .tb, .ridge, .trg, .isl, .mon, .dmc, .ptb, .out, .free] [0x00, 0x02, 0x09, 0x13, 0x18]
    | .ticTimeout =>
      s.within t [.clk, .cyc, .qcp, .tb, .ptb, .out] [0x0F, 0x18, 0x19]
    | .ridgeIdleFrame .. =>
      s.within t [.ridge] []
    | .dlyReq .. | .presenceSend | .dlyReqSend | .timeSend =>
      s.within t [.ridge, .ptb, .out] [0x18]
    | .dlyRsp .. =>
      s.within t [.ridge] [0x10]
    | .presence .. =>
      s.within t [.qcp, .ridge, .ptb, .out, .free] [0x10, 0x18, 0x19]
    | .timeFrame .. =>
      s.within t [.clk, .grid, .rx, .qcp, .ptp, .ridge, .strm, .reed, .brl, .pair, .ptb, .out, .free] [0x0E, 0x10, 0x18, 0x19]
    | .syncFrame .. =>
      s.within t [.ridge, .ptb, .out, .free] [0x18]
    | .ridgeCrcError .. | .blockLockLoss .. | .laneFrameTimeout .. | .laneUp .. | .nodeExpire .. =>
      s.within t [.qcp, .ridge, .ptb, .out] [0x10, 0x18, 0x19]
    | .ridgeTimeLoss =>
      s.within t [.ptp, .ridge] [0x0E, 0x10]
    | .bypassTimerExpire | .bypassEnergize | .bypassRelease =>
      s.within t [] [0x10]
    | .ppsOutFall =>
      s.within t [.power] []
    | .nextHopExpire .. =>
      s.within t [.net, .ptb, .out] [0x18]
    | .reassemblyTimeout .. =>
      s.within t [.clk, .cyc, .net] []
    | _ => True

/-- For each command of the pair, calibration, memory controller and perturbation units,
but those that reset or rewrite the whole block: every component of the state outside the listed ones and every register word outside
the listed blocks is as before, the queue is untouched, and what left the block before stays. -/
def Obligations.FrameOfSupport : Prop :=
  ∀ (c : Instr) (s t : State), exec c s = .next t → match c with
    | .pairCycleBoundary =>
      s.within t [.clk, .cyc, .grid, .pair, .ptb, .out] [0x11, 0x18]
    | .calRun .. =>
      s.within t [.qcp, .cal, .ptb, .out] [0x14, 0x18, 0x19]
    | .calStatus .. | .calRead .. | .pairStatus .. =>
      s.within t [.qcp, .ptb, .out] [0x18, 0x19]
    | .restoreFactory .. =>
      s.within t [.qcp, .cal, .ptb, .out] [0x18, 0x19]
    | .refAttach .. | .refDetach .. | .take .. | .switchBack .. =>
      s.within t [.qcp, .pair, .ptb, .out] [0x11, 0x18, 0x19]
    | .ptbSet .. | .ptbClear .. =>
      s.within t [.qcp, .ptb, .out] [0x00, 0x18, 0x19]
    | .heartbeatFrame .. =>
      s.within t [.qcp, .ridge, .pair, .ptb, .out, .free] [0x11, 0x18, 0x19]
    | .pairCmd .. =>
      s.within t [.ridge, .pair, .ptb, .out, .free] [0x11, 0x18]
    | .healthUpdate =>
      s.within t [.pair, .dmc] [0x00, 0x11, 0x15]
    | .heartbeatSend =>
      s.within t [.qcp, .ridge, .pair, .ptb, .out] [0x18, 0x19]
    | .fence | .partnerHeartbeatLoss =>
      s.within t [.clk, .cyc, .qcp, .pair, .ptb, .out] [0x03, 0x11, 0x18, 0x19]
    | .refLossDeclare | .revertHoldExpire =>
      s.within t [.clk, .cyc, .ridge, .pair, .ptb, .out] [0x11, 0x18]
    | .takeExecute =>
      s.within t [.clk, .cyc, .grid, .phs, .dec, .qcp, .strm, .brl, .pair, .dmc, .ptb, .power, .out] [0x00, 0x03, 0x0C, 0x11, 0x15, 0x18, 0x19]
    | .makeStart =>
      s.within t [.clk, .cyc, .grid, .dec, .qcp, .strm, .trg, .pair, .dmc, .ptb, .out] [0x00, 0x07, 0x0C, 0x18, 0x19]
    | .switchInstant =>
      s.within t [.clk, .cyc, .grid, .phs, .qcp, .strm, .brl, .pair, .dmc, .ptb, .power, .out] [0x00, 0x11, 0x15, 0x18, 0x19]
    | .pairIdle =>
      s.within t [] []
    | .pairHb .. =>
      s.within t [.qcp, .pair] []
    | .pairCfgFrame .. =>
      s.within t [.pat, .qcp, .pair, .ptb, .out] [0x11, 0x18, 0x19]
    | .snap .. =>
      s.within t [.phs, .brl, .pair] [0x11]
    | .finalSeq .. =>
      s.within t [.dec, .qcp, .strm, .dmc, .ptb, .out] [0x00, 0x07, 0x0C, 0x18, 0x19]
    | .takeAt .. =>
      s.within t [.pair] [0x11]
    | .pairHbSend =>
      s.within t [.pair, .ptb, .out] [0x18]
    | .pairLinkDown | .pairLinkUp =>
      s.within t [.qcp, .ptb, .out] [0x11, 0x18, 0x19]
    | .calSensorRead .. =>
      s.within t [.cal, .dmc] [0x14]
    | .calMicroStep .. =>
      s.within t [.qcp, .cal, .ptb, .out, .free] [0x05, 0x14, 0x18, 0x19]
    | .calRetryExpire .. =>
      s.within t [.clk, .cyc, .cal] [0x14]
    | .calUserSave =>
      s.within t [.cal] []
    | .mr4Read .. | .refreshDue .. | .refreshIssue .. | .dramRead .. | .freqChange =>
      s.within t [.dmc] [0x15]
    | .rowActivate .. | .trainingStep .. =>
      s.within t [.dmc, .free] [0x15]
    | .rdTableClear =>
      s.within t [.dmc] []
    | .ptbLifeExpire =>
      s.within t [.clk, .cyc, .qcp, .ptb, .out] [0x18, 0x19]
    | _ => True

/-- For each command of the field island, the self-test, the resets and the test access,
but those that reset or rewrite the whole block: every component of the state outside the listed ones and every register word outside
the listed blocks is as before, the queue is untouched, and what left the block before stays. -/
def Obligations.FrameOfBoard : Prop :=
  ∀ (c : Instr) (s t : State), exec c s = .next t → match c with
    | .shutdown .. | .diagEnter .. =>
      s.within t [.grid, .dec, .qcp, .strm, .cal, .dmc, .ptb, .power, .out] [0x00, 0x03, 0x07, 0x0C, 0x15, 0x18, 0x19]
    | .reset .. =>
      s.within t [.qcp, .ptb, .power, .out] [0x18, 0x19]
    | .fldRead .. =>
      s.within t [.qcp, .ptb, .out] [0x12, 0x18, 0x19]
    | .fldBuffer .. =>
      s.within t [.qcp, .ptb, .out, .free] [0x18, 0x19]
    | .monRead .. =>
      s.within t [.qcp, .ptb, .out] [0x13, 0x18, 0x19]
    | .convStart .. =>
      s.within t [.qcp, .isl, .mon, .ptb, .out] [0x12, 0x13, 0x18, 0x19]
    | .foutSet .. =>
      s.within t [.qcp, .isl, .ptb, .out] [0x12, 0x18, 0x19]
    | .diagLeave .. =>
      s.within t [.light, .qcp, .dmc, .ptb, .power, .out] [0x00, 0x03, 0x10, 0x15, 0x18, 0x19]
    | .bistRead .. =>
      s.within t [.qcp, .ptb, .out] [0x18, 0x19]
    | .cfg .. | .cmd .. =>
      s.within t [.isl, .free] [0x12]
    | .fout .. | .barrierFrameError .. =>
      s.within t [] [0x12]
    | .hb =>
      s.within t [.isl] []
    | .tsync | .bufreq .. | .ilkSend =>
      s.within t [.isl, .ptb, .out, .free] [0x18]
    | .ilk .. =>
      s.within t [.light, .trg, .mon, .dmc, .free] [0x00, 0x03, 0x12, 0x13, 0x15]
    | .fin .. =>
      s.within t [.light, .trg, .free] [0x03, 0x12]
    | .result .. =>
      s.within t [.light, .trg, .brl, .free] [0x03, 0x12]
    | .status .. =>
      s.within t [.light, .isl, .ptb, .out] [0x03, 0x12, 0x18]
    | .tick .. | .bufdata .. =>
      s.within t [.light, .isl] [0x03, 0x12]
    | .tsyncSend | .fin0Change .. =>
      s.within t [.isl, .ptb, .out] [0x18]
    | .islandStart | .foutOvercurrent .. | .excLimit .. =>
      s.within t [.isl, .ptb, .out] [0x12, 0x18]
    | .finDebounced .. | .fieldConversion .. =>
      s.within t [.isl, .ptb, .out, .free] [0x12, 0x18]
    | .hostloss =>
      s.within t [.clk, .cyc, .isl, .ptb, .out] [0x12, 0x18]
    | .excSettleExpire =>
      s.within t [.isl] [0x12]
    | .roundTimerTick .. =>
      s.within t [.isl, .mon, .free] [0x12, 0x13]
    | .fldSwstart .. | .fldFoutWrite .. =>
      s.within t [.isl, .ptb, .out] [0x00, 0x12, 0x18]
    | .fldInjstart .. | .kick .. =>
      s.within t [.isl, .ptb, .out] [0x00, 0x18]
    | .monSwstart .. | .monInjstart .. =>
      s.within t [.mon] [0x00, 0x13]
    | .flashHoldExpire =>
      s.within t [.clk, .cyc, .light, .power] [0x10]
    | .tapReset =>
      s.within t [.tap, .free] []
    | .jtagBypass | .samplePreload | .extest | .clamp | .highz | .intscan =>
      s.within t [.tap] []
    | .idcode | .challenge =>
      s.within t [.ptb, .tap, .out] [0x18]
    | .permitExpire =>
      s.within t [.clk, .cyc, .tap] [0x17]
    | .blockResetEnd =>
      s.within t [.light, .grid, .pat, .rx, .dec, .qcp, .ridge, .strm, .trg, .reed, .brl, .pair, .isl, .mon, .cal, .dmc, .ptb, .power, .out, .free] [0x00, 0x01, 0x02, 0x03, 0x04, 0x05, 0x06, 0x07, 0x08, 0x09, 0x0C, 0x0D, 0x10, 0x11, 0x13, 0x14, 0x15, 0x18, 0x19]
    | _ => True
end

