-- ==== Sys2Proof/Laws/Space.lean ====
section
/-! SUPPORT. Laws of the register space: what a word reads after a write, and the canonical form that every operation on the
space keeps. -/

namespace Sys2Proof.Machine

/-! ## Read after write -/

theorem Space.find_erase_same (m : Space) (off : Nat) : (m.erase off).find off = none := by
  induction m with
  | nil => rfl
  | cons e t ih =>
    obtain ⟨a, v⟩ := e
    by_cases h : a = off
    · simpa [Space.erase, h] using ih
    · simpa [Space.erase, Space.find, h] using ih

theorem Space.find_erase_other (m : Space) {off a : Nat} (h : a ≠ off) : (m.erase off).find a = m.find a := by
  induction m with
  | nil => rfl
  | cons e t ih =>
    obtain ⟨b, v⟩ := e
    by_cases hb : b = off
    · have : b ≠ a := fun hh => h (hh ▸ hb)
      simpa [Space.erase, Space.find, hb, this, Ne.symm h] using ih
    · by_cases ha : b = a
      · simp [Space.erase, Space.find, hb, ha, h]
      · simpa [Space.erase, Space.find, hb, ha] using ih

theorem Space.find_insert_same (m : Space) (off : Nat) (w : Word) : (m.insert off w).find off = some w := by
  induction m with
  | nil => simp [Space.insert, Space.find]
  | cons e t ih =>
    obtain ⟨a, v⟩ := e
    by_cases h : a = off
    · simp [Space.insert, Space.find, h]
    · by_cases hl : off < a
      · simp [Space.insert, Space.find, h, hl]
      · simpa [Space.insert, Space.find, h, hl] using ih

theorem Space.find_insert_other (m : Space) {off a : Nat} (w : Word) (h : a ≠ off) :
    (m.insert off w).find a = m.find a := by
  induction m with
  | nil => simp [Space.insert, Space.find, Ne.symm h]
  | cons e t ih =>
    obtain ⟨b, v⟩ := e
    by_cases hb : b = off
    · have : b ≠ a := fun hh => h (hh ▸ hb)
      simp [Space.insert, Space.find, hb, Ne.symm h]
    · by_cases hl : off < b
      · simp [Space.insert, Space.find, hb, hl, Ne.symm h]
      · by_cases ha : b = a
        · simp [Space.insert, Space.find, ha, h, show ¬ off < a from ha ▸ hl]
        · simpa [Space.insert, Space.find, hb, hl, ha] using ih

/-- A word reads what was written to it. -/
theorem Space.read_write_same (m : Space) (off : Nat) (w : Word) : (m.write off w).read off = w := by
  unfold Space.write Space.read
  split
  · rename_i h
    simp [Space.find_erase_same, h]
  · simp [Space.find_insert_same]

/-- A write leaves every other word as it was. -/
theorem Space.read_write_other (m : Space) {off a : Nat} (w : Word) (h : a ≠ off) : (m.write off w).read a = m.read a := by
  unfold Space.write Space.read
  split
  · simp [Space.find_erase_other m h]
  · simp [Space.find_insert_other m w h]

/-! ## The canonical form -/

/-- Offsets strictly rising, from a bound on. -/
def Space.rising (m : Space) : Prop := m.Pairwise (fun a b => a.1 < b.1)

/-- No word is listed at its reset value. -/
def Space.lean (m : Space) : Prop := ∀ e ∈ m, e.2 ≠ resetWord e.1

theorem Space.wf_iff (m : Space) : m.wf = true ↔ m.rising ∧ m.lean := by
  induction m with
  | nil => simp [Space.wf, Space.rising, Space.lean]
  | cons e t ih =>
    obtain ⟨a, v⟩ := e
    cases t with
    | nil => simp [Space.wf, Space.rising, Space.lean]
    | cons f u =>
      obtain ⟨b, w⟩ := f
      unfold Space.wf
      rw [Bool.and_eq_true, Bool.and_eq_true, ih]
      unfold Space.rising Space.lean
      constructor
      · rintro ⟨⟨h1, h2⟩, h3, h4⟩
        have h1 : v ≠ resetWord a := by simpa using h1
        have h2 : a < b := by simpa using h2
        refine ⟨List.pairwise_cons.2 ⟨?_, h3⟩, ?_⟩
        · intro x hx
          rcases List.mem_cons.1 hx with rfl | hx
          · exact h2
          · exact Nat.lt_trans h2 ((List.pairwise_cons.1 h3).1 x hx)
        · intro x hx
          rcases List.mem_cons.1 hx with rfl | hx
          · exact h1
          · exact h4 x hx
      · rintro ⟨h3, h4⟩
        have h3' := List.pairwise_cons.1 h3
        refine ⟨⟨?_, ?_⟩, h3'.2, fun x hx => h4 x (List.mem_cons_of_mem _ hx)⟩
        · simpa using h4 (a, v) (List.mem_cons_self ..)
        · simpa using h3'.1 (b, w) (List.mem_cons_self ..)

theorem Space.mem_erase {m : Space} {off : Nat} {e : Nat × Word} (h : e ∈ m.erase off) : e ∈ m := by
  induction m with
  | nil => simp [Space.erase] at h
  | cons f t ih =>
    obtain ⟨a, v⟩ := f
    by_cases ha : a = off
    · simp only [Space.erase, ha, if_true] at h
      exact List.mem_cons_of_mem _ (ih h)
    · simp only [Space.erase, ha, if_false] at h
      rcases List.mem_cons.1 h with rfl | h
      · exact List.mem_cons_self ..
      · exact List.mem_cons_of_mem _ (ih h)

theorem Space.mem_insert {m : Space} {off : Nat} {w : Word} {e : Nat × Word} (h : e ∈ m.insert off w) :
    e = (off, w) ∨ e ∈ m := by
  induction m with
  | nil => left; simpa [Space.insert] using h
  | cons f t ih =>
    obtain ⟨a, v⟩ := f
    by_cases ha : a = off
    · simp only [Space.insert, ha, if_true] at h
      rcases List.mem_cons.1 h with rfl | h
      · exact .inl rfl
      · exact .inr (List.mem_cons_of_mem _ h)
    · by_cases hl : off < a
      · simp only [Space.insert, ha, hl, if_true, if_false] at h
        rcases List.mem_cons.1 h with rfl | h
        · exact .inl rfl
        · exact .inr h
      · simp only [Space.insert, ha, hl, if_false] at h
        rcases List.mem_cons.1 h with rfl | h
        · exact .inr (List.mem_cons_self ..)
        · exact (ih h).imp id (List.mem_cons_of_mem _)

theorem Space.erase_wf {m : Space} (off : Nat) (h : m.wf = true) : (m.erase off).wf = true := by
  rw [Space.wf_iff] at *
  refine ⟨?_, fun e he => h.2 e (Space.mem_erase he)⟩
  have hr := h.1
  clear h
  unfold Space.rising at *
  induction m with
  | nil => exact List.Pairwise.nil
  | cons f t ih =>
    obtain ⟨a, v⟩ := f
    have hc := List.pairwise_cons.1 hr
    by_cases ha : a = off
    · simpa [Space.erase, ha] using ih hc.2
    · simp only [Space.erase, ha, if_false]
      exact List.pairwise_cons.2 ⟨fun x hx => hc.1 x (Space.mem_erase hx), ih hc.2⟩

theorem Space.insert_wf {m : Space} {off : Nat} {w : Word} (hw : w ≠ resetWord off) (h : m.wf = true) :
    (m.insert off w).wf = true := by
  rw [Space.wf_iff] at *
  constructor
  · have hr := h.1
    clear h
    unfold Space.rising at *
    induction m with
    | nil => simp [Space.insert]
    | cons f t ih =>
      obtain ⟨a, v⟩ := f
      have hc := List.pairwise_cons.1 hr
      by_cases ha : a = off
      · simp only [Space.insert, ha, if_true]
        exact List.pairwise_cons.2 ⟨fun x hx => ha ▸ hc.1 x hx, hc.2⟩
      · by_cases hl : off < a
        · simp only [Space.insert, ha, hl, if_true, if_false]
          refine List.pairwise_cons.2 ⟨fun x hx => ?_, hr⟩
          rcases List.mem_cons.1 hx with rfl | hx
          · exact hl
          · exact Nat.lt_trans hl (hc.1 x hx)
        · simp only [Space.insert, ha, hl, if_false]
          refine List.pairwise_cons.2 ⟨fun x hx => ?_, ih hc.2⟩
          rcases Space.mem_insert hx with rfl | hx
          · show a < off
            omega
          · exact hc.1 x hx
  · intro e he
    rcases Space.mem_insert he with rfl | he
    · exact hw
    · exact h.2 e he

/-- A write keeps the canonical form. -/
theorem Space.write_wf {m : Space} (off : Nat) (w : Word) (h : m.wf = true) : (m.write off w).wf = true := by
  unfold Space.write
  split
  · exact Space.erase_wf off h
  · rename_i hw
    exact Space.insert_wf hw h

end Sys2Proof.Machine
end

