-- ==== Sys2Proof/Laws/Fields.lean ====
section
/-! SUPPORT. Laws of register words and bit fields: what a field reads after a write of itself or of another field. -/

namespace Sys2Proof.Machine

theorem Fld.testBit_ofWord (f : Fld) (w : Word) (i : Nat) :
    (f.ofWord w).testBit i = (decide (i < f.width) && w.getLsbD (f.lo + i)) := by
  unfold Fld.ofWord
  rw [Nat.testBit_mod_two_pow, Nat.testBit_div_two_pow, Nat.add_comm i]
  rfl

theorem Fld.getLsbD_intoWord (f : Fld) (w : Word) (n i : Nat) :
    (f.intoWord w n).getLsbD i =
      if f.lo ≤ i ∧ i < f.lo + f.width then decide (i < 32) && n.testBit (i - f.lo) else w.getLsbD i := by
  unfold Fld.intoWord
  rw [BitVec.getLsbD_or, BitVec.getLsbD_and, BitVec.getLsbD_not, BitVec.getLsbD_ofNat, BitVec.getLsbD_ofNat,
    Nat.testBit_mul_two_pow, Nat.testBit_mul_two_pow, Nat.testBit_two_pow_sub_one, Nat.testBit_mod_two_pow]
  by_cases h32 : i < 32
  · by_cases hlo : f.lo ≤ i
    · by_cases hw : i < f.lo + f.width
      · have : i - f.lo < f.width := by omega
        simp [h32, hlo, hw, this]
      · have : ¬ i - f.lo < f.width := by omega
        simp [h32, hlo, hw, this]
    · simp [h32, hlo]
  · simp [h32, BitVec.getLsbD_of_ge w i (by omega)]

theorem Fld.ofWord_intoWord_same (f : Fld) (w : Word) (n : Nat) (h : f.lo + f.width ≤ 32) :
    f.ofWord (f.intoWord w n) = n % 2 ^ f.width := by
  apply Nat.eq_of_testBit_eq
  intro i
  rw [Fld.testBit_ofWord, Fld.getLsbD_intoWord, Nat.testBit_mod_two_pow]
  by_cases hi : i < f.width
  · have h1 : f.lo ≤ f.lo + i ∧ f.lo + i < f.lo + f.width := by omega
    have h2 : f.lo + i < 32 := by omega
    simp [hi, h1, h2]
  · simp [hi]

theorem Fld.ofWord_intoWord_other (f g : Fld) (w : Word) (n : Nat) (h : f.lo + f.width ≤ g.lo ∨ g.lo + g.width ≤ f.lo) :
    g.ofWord (f.intoWord w n) = g.ofWord w := by
  apply Nat.eq_of_testBit_eq
  intro i
  rw [Fld.testBit_ofWord, Fld.testBit_ofWord, Fld.getLsbD_intoWord]
  by_cases hi : i < g.width
  · have : ¬ (f.lo ≤ g.lo + i ∧ g.lo + i < f.lo + f.width) := by omega
    simp [hi, this]
  · simp [hi]

theorem Fld.ofWord_lt (f : Fld) (w : Word) : f.ofWord w < 2 ^ f.width := Nat.mod_lt _ (Nat.two_pow_pos _)

/-! ## Words of the state -/

@[simp] theorem State.rd_wr_same (s : State) (off : Nat) (w : Word) : (s.wr off w).rd off = w := Space.read_write_same ..

theorem State.rd_wr_other (s : State) {off a : Nat} (w : Word) (h : a ≠ off) : (s.wr off w).rd a = s.rd a :=
  Space.read_write_other _ _ h

theorem State.rd_put_other (s : State) {f : Fld} {a : Nat} (n : Nat) (h : a ≠ f.addr) : (s.put f n).rd a = s.rd a :=
  State.rd_wr_other _ _ h

/-! ## Fields of the state -/

/-- Two fields that share no bit. -/
abbrev Fld.apart (f g : Fld) : Prop := f.addr ≠ g.addr ∨ f.lo + f.width ≤ g.lo ∨ g.lo + g.width ≤ f.lo

theorem Fld.apart_comm {f g : Fld} (h : f.apart g) : g.apart f := by
  unfold Fld.apart at *
  rcases h with h | h | h
  · exact .inl (Ne.symm h)
  · exact .inr (.inr h)
  · exact .inr (.inl h)

theorem State.get_put_same (s : State) (f : Fld) (n : Nat) (h : f.lo + f.width ≤ 32) : (s.put f n).get f = n % 2 ^ f.width := by
  unfold State.get State.put
  rw [State.rd_wr_same, Fld.ofWord_intoWord_same _ _ _ h]

theorem State.get_put_other (s : State) (f g : Fld) (n : Nat) (h : f.apart g) : (s.put f n).get g = s.get g := by
  unfold State.get State.put
  by_cases ha : g.addr = f.addr
  · rw [ha, State.rd_wr_same]
    rcases h with h | h
    · exact absurd ha.symm h
    · exact Fld.ofWord_intoWord_other f g _ n h
  · rw [State.rd_wr_other _ _ ha]

theorem State.get_wr_other (s : State) {off : Nat} (g : Fld) (w : Word) (h : g.addr ≠ off) : (s.wr off w).get g = s.get g := by
  unfold State.get
  rw [State.rd_wr_other _ _ h]

theorem State.get_lt (s : State) (f : Fld) : s.get f < 2 ^ f.width := Fld.ofWord_lt ..

theorem State.flag_put_same (s : State) (f : Fld) (n : Nat) (h : f.lo + f.width ≤ 32) :
    (s.put f n).flag f = (n % 2 ^ f.width != 0) := by
  unfold State.flag
  rw [State.get_put_same _ _ _ h]

theorem State.flag_put_other (s : State) (f g : Fld) (n : Nat) (h : f.apart g) : (s.put f n).flag g = s.flag g := by
  unfold State.flag
  rw [State.get_put_other _ _ _ _ h]

theorem State.get_putFlag_other (s : State) (f g : Fld) (b : Bool) (h : f.apart g) : (s.putFlag f b).get g = s.get g :=
  State.get_put_other _ _ _ _ h

theorem State.flag_putFlag_same (s : State) (f : Fld) (b : Bool) (h : f.lo + f.width ≤ 32) (hw : f.width = 1) :
    (s.putFlag f b).flag f = b := by
  unfold State.putFlag
  rw [State.flag_put_same _ _ _ h, hw]
  cases b <;> rfl

theorem State.get_puts_other (s : State) (l : List (Fld × Nat)) (g : Fld) (h : ∀ p ∈ l, p.1.apart g) :
    (s.puts l).get g = s.get g := by
  unfold State.puts
  induction l generalizing s with
  | nil => rfl
  | cons p t ih =>
    rw [List.foldl_cons, ih _ (fun q hq => h q (List.mem_cons_of_mem _ hq)),
      State.get_put_other _ _ _ _ (h p (List.mem_cons_self ..))]

theorem State.puts_nil (s : State) : s.puts [] = s := rfl

theorem State.puts_cons (s : State) (p : Fld × Nat) (l : List (Fld × Nat)) : s.puts (p :: l) = (s.put p.1 p.2).puts l := rfl

end Sys2Proof.Machine
end

