-- ==== Sys2Proof/Laws/State.lean ====
section
/-! SUPPORT. What each elementary update of the state leaves as it was: one lemma for each field and update. -/

namespace Sys2Proof.Machine

@[simp] theorem State.wr_clk (s : State) (off : Nat) (w : Word) : (s.wr off w).clk = s.clk := rfl
@[simp] theorem State.wr_cyc (s : State) (off : Nat) (w : Word) : (s.wr off w).cyc = s.cyc := rfl
@[simp] theorem State.wr_light (s : State) (off : Nat) (w : Word) : (s.wr off w).light = s.light := rfl
@[simp] theorem State.wr_grid (s : State) (off : Nat) (w : Word) : (s.wr off w).grid = s.grid := rfl
@[simp] theorem State.wr_pat (s : State) (off : Nat) (w : Word) : (s.wr off w).pat = s.pat := rfl
@[simp] theorem State.wr_rx (s : State) (off : Nat) (w : Word) : (s.wr off w).rx = s.rx := rfl
@[simp] theorem State.wr_phs (s : State) (off : Nat) (w : Word) : (s.wr off w).phs = s.phs := rfl
@[simp] theorem State.wr_dec (s : State) (off : Nat) (w : Word) : (s.wr off w).dec = s.dec := rfl
@[simp] theorem State.wr_qcp (s : State) (off : Nat) (w : Word) : (s.wr off w).qcp = s.qcp := rfl
@[simp] theorem State.wr_ptp (s : State) (off : Nat) (w : Word) : (s.wr off w).ptp = s.ptp := rfl
@[simp] theorem State.wr_net (s : State) (off : Nat) (w : Word) : (s.wr off w).net = s.net := rfl
@[simp] theorem State.wr_tb (s : State) (off : Nat) (w : Word) : (s.wr off w).tb = s.tb := rfl
@[simp] theorem State.wr_ridge (s : State) (off : Nat) (w : Word) : (s.wr off w).ridge = s.ridge := rfl
@[simp] theorem State.wr_strm (s : State) (off : Nat) (w : Word) : (s.wr off w).strm = s.strm := rfl
@[simp] theorem State.wr_trg (s : State) (off : Nat) (w : Word) : (s.wr off w).trg = s.trg := rfl
@[simp] theorem State.wr_reed (s : State) (off : Nat) (w : Word) : (s.wr off w).reed = s.reed := rfl
@[simp] theorem State.wr_brl (s : State) (off : Nat) (w : Word) : (s.wr off w).brl = s.brl := rfl
@[simp] theorem State.wr_pair (s : State) (off : Nat) (w : Word) : (s.wr off w).pair = s.pair := rfl
@[simp] theorem State.wr_isl (s : State) (off : Nat) (w : Word) : (s.wr off w).isl = s.isl := rfl
@[simp] theorem State.wr_mon (s : State) (off : Nat) (w : Word) : (s.wr off w).mon = s.mon := rfl
@[simp] theorem State.wr_cal (s : State) (off : Nat) (w : Word) : (s.wr off w).cal = s.cal := rfl
@[simp] theorem State.wr_dmc (s : State) (off : Nat) (w : Word) : (s.wr off w).dmc = s.dmc := rfl
@[simp] theorem State.wr_ptb (s : State) (off : Nat) (w : Word) : (s.wr off w).ptb = s.ptb := rfl
@[simp] theorem State.wr_keys (s : State) (off : Nat) (w : Word) : (s.wr off w).keys = s.keys := rfl
@[simp] theorem State.wr_tap (s : State) (off : Nat) (w : Word) : (s.wr off w).tap = s.tap := rfl
@[simp] theorem State.wr_shadows (s : State) (off : Nat) (w : Word) : (s.wr off w).shadows = s.shadows := rfl
@[simp] theorem State.wr_power (s : State) (off : Nat) (w : Word) : (s.wr off w).power = s.power := rfl
@[simp] theorem State.wr_out (s : State) (off : Nat) (w : Word) : (s.wr off w).out = s.out := rfl
@[simp] theorem State.wr_free (s : State) (off : Nat) (w : Word) : (s.wr off w).free = s.free := rfl
@[simp] theorem State.wr_pending (s : State) (off : Nat) (w : Word) : (s.wr off w).pending = s.pending := rfl

@[simp] theorem State.put_clk (s : State) (f : Fld) (n : Nat) : (s.put f n).clk = s.clk := rfl
@[simp] theorem State.put_cyc (s : State) (f : Fld) (n : Nat) : (s.put f n).cyc = s.cyc := rfl
@[simp] theorem State.put_light (s : State) (f : Fld) (n : Nat) : (s.put f n).light = s.light := rfl
@[simp] theorem State.put_grid (s : State) (f : Fld) (n : Nat) : (s.put f n).grid = s.grid := rfl
@[simp] theorem State.put_pat (s : State) (f : Fld) (n : Nat) : (s.put f n).pat = s.pat := rfl
@[simp] theorem State.put_rx (s : State) (f : Fld) (n : Nat) : (s.put f n).rx = s.rx := rfl
@[simp] theorem State.put_phs (s : State) (f : Fld) (n : Nat) : (s.put f n).phs = s.phs := rfl
@[simp] theorem State.put_dec (s : State) (f : Fld) (n : Nat) : (s.put f n).dec = s.dec := rfl
@[simp] theorem State.put_qcp (s : State) (f : Fld) (n : Nat) : (s.put f n).qcp = s.qcp := rfl
@[simp] theorem State.put_ptp (s : State) (f : Fld) (n : Nat) : (s.put f n).ptp = s.ptp := rfl
@[simp] theorem State.put_net (s : State) (f : Fld) (n : Nat) : (s.put f n).net = s.net := rfl
@[simp] theorem State.put_tb (s : State) (f : Fld) (n : Nat) : (s.put f n).tb = s.tb := rfl
@[simp] theorem State.put_ridge (s : State) (f : Fld) (n : Nat) : (s.put f n).ridge = s.ridge := rfl
@[simp] theorem State.put_strm (s : State) (f : Fld) (n : Nat) : (s.put f n).strm = s.strm := rfl
@[simp] theorem State.put_trg (s : State) (f : Fld) (n : Nat) : (s.put f n).trg = s.trg := rfl
@[simp] theorem State.put_reed (s : State) (f : Fld) (n : Nat) : (s.put f n).reed = s.reed := rfl
@[simp] theorem State.put_brl (s : State) (f : Fld) (n : Nat) : (s.put f n).brl = s.brl := rfl
@[simp] theorem State.put_pair (s : State) (f : Fld) (n : Nat) : (s.put f n).pair = s.pair := rfl
@[simp] theorem State.put_isl (s : State) (f : Fld) (n : Nat) : (s.put f n).isl = s.isl := rfl
@[simp] theorem State.put_mon (s : State) (f : Fld) (n : Nat) : (s.put f n).mon = s.mon := rfl
@[simp] theorem State.put_cal (s : State) (f : Fld) (n : Nat) : (s.put f n).cal = s.cal := rfl
@[simp] theorem State.put_dmc (s : State) (f : Fld) (n : Nat) : (s.put f n).dmc = s.dmc := rfl
@[simp] theorem State.put_ptb (s : State) (f : Fld) (n : Nat) : (s.put f n).ptb = s.ptb := rfl
@[simp] theorem State.put_keys (s : State) (f : Fld) (n : Nat) : (s.put f n).keys = s.keys := rfl
@[simp] theorem State.put_tap (s : State) (f : Fld) (n : Nat) : (s.put f n).tap = s.tap := rfl
@[simp] theorem State.put_shadows (s : State) (f : Fld) (n : Nat) : (s.put f n).shadows = s.shadows := rfl
@[simp] theorem State.put_power (s : State) (f : Fld) (n : Nat) : (s.put f n).power = s.power := rfl
@[simp] theorem State.put_out (s : State) (f : Fld) (n : Nat) : (s.put f n).out = s.out := rfl
@[simp] theorem State.put_free (s : State) (f : Fld) (n : Nat) : (s.put f n).free = s.free := rfl
@[simp] theorem State.put_pending (s : State) (f : Fld) (n : Nat) : (s.put f n).pending = s.pending := rfl

@[simp] theorem State.putFlag_clk (s : State) (f : Fld) (b : Bool) : (s.putFlag f b).clk = s.clk := rfl
@[simp] theorem State.putFlag_cyc (s : State) (f : Fld) (b : Bool) : (s.putFlag f b).cyc = s.cyc := rfl
@[simp] theorem State.putFlag_light (s : State) (f : Fld) (b : Bool) : (s.putFlag f b).light = s.light := rfl
@[simp] theorem State.putFlag_grid (s : State) (f : Fld) (b : Bool) : (s.putFlag f b).grid = s.grid := rfl
@[simp] theorem State.putFlag_pat (s : State) (f : Fld) (b : Bool) : (s.putFlag f b).pat = s.pat := rfl
@[simp] theorem State.putFlag_rx (s : State) (f : Fld) (b : Bool) : (s.putFlag f b).rx = s.rx := rfl
@[simp] theorem State.putFlag_phs (s : State) (f : Fld) (b : Bool) : (s.putFlag f b).phs = s.phs := rfl
@[simp] theorem State.putFlag_dec (s : State) (f : Fld) (b : Bool) : (s.putFlag f b).dec = s.dec := rfl
@[simp] theorem State.putFlag_qcp (s : State) (f : Fld) (b : Bool) : (s.putFlag f b).qcp = s.qcp := rfl
@[simp] theorem State.putFlag_ptp (s : State) (f : Fld) (b : Bool) : (s.putFlag f b).ptp = s.ptp := rfl
@[simp] theorem State.putFlag_net (s : State) (f : Fld) (b : Bool) : (s.putFlag f b).net = s.net := rfl
@[simp] theorem State.putFlag_tb (s : State) (f : Fld) (b : Bool) : (s.putFlag f b).tb = s.tb := rfl
@[simp] theorem State.putFlag_ridge (s : State) (f : Fld) (b : Bool) : (s.putFlag f b).ridge = s.ridge := rfl
@[simp] theorem State.putFlag_strm (s : State) (f : Fld) (b : Bool) : (s.putFlag f b).strm = s.strm := rfl
@[simp] theorem State.putFlag_trg (s : State) (f : Fld) (b : Bool) : (s.putFlag f b).trg = s.trg := rfl
@[simp] theorem State.putFlag_reed (s : State) (f : Fld) (b : Bool) : (s.putFlag f b).reed = s.reed := rfl
@[simp] theorem State.putFlag_brl (s : State) (f : Fld) (b : Bool) : (s.putFlag f b).brl = s.brl := rfl
@[simp] theorem State.putFlag_pair (s : State) (f : Fld) (b : Bool) : (s.putFlag f b).pair = s.pair := rfl
@[simp] theorem State.putFlag_isl (s : State) (f : Fld) (b : Bool) : (s.putFlag f b).isl = s.isl := rfl
@[simp] theorem State.putFlag_mon (s : State) (f : Fld) (b : Bool) : (s.putFlag f b).mon = s.mon := rfl
@[simp] theorem State.putFlag_cal (s : State) (f : Fld) (b : Bool) : (s.putFlag f b).cal = s.cal := rfl
@[simp] theorem State.putFlag_dmc (s : State) (f : Fld) (b : Bool) : (s.putFlag f b).dmc = s.dmc := rfl
@[simp] theorem State.putFlag_ptb (s : State) (f : Fld) (b : Bool) : (s.putFlag f b).ptb = s.ptb := rfl
@[simp] theorem State.putFlag_keys (s : State) (f : Fld) (b : Bool) : (s.putFlag f b).keys = s.keys := rfl
@[simp] theorem State.putFlag_tap (s : State) (f : Fld) (b : Bool) : (s.putFlag f b).tap = s.tap := rfl
@[simp] theorem State.putFlag_shadows (s : State) (f : Fld) (b : Bool) : (s.putFlag f b).shadows = s.shadows := rfl
@[simp] theorem State.putFlag_power (s : State) (f : Fld) (b : Bool) : (s.putFlag f b).power = s.power := rfl
@[simp] theorem State.putFlag_out (s : State) (f : Fld) (b : Bool) : (s.putFlag f b).out = s.out := rfl
@[simp] theorem State.putFlag_free (s : State) (f : Fld) (b : Bool) : (s.putFlag f b).free = s.free := rfl
@[simp] theorem State.putFlag_pending (s : State) (f : Fld) (b : Bool) : (s.putFlag f b).pending = s.pending := rfl

@[simp] theorem State.puti_clk (s : State) (f : Fld) (i : Int) : (s.puti f i).clk = s.clk := rfl
@[simp] theorem State.puti_cyc (s : State) (f : Fld) (i : Int) : (s.puti f i).cyc = s.cyc := rfl
@[simp] theorem State.puti_light (s : State) (f : Fld) (i : Int) : (s.puti f i).light = s.light := rfl
@[simp] theorem State.puti_grid (s : State) (f : Fld) (i : Int) : (s.puti f i).grid = s.grid := rfl
@[simp] theorem State.puti_pat (s : State) (f : Fld) (i : Int) : (s.puti f i).pat = s.pat := rfl
@[simp] theorem State.puti_rx (s : State) (f : Fld) (i : Int) : (s.puti f i).rx = s.rx := rfl
@[simp] theorem State.puti_phs (s : State) (f : Fld) (i : Int) : (s.puti f i).phs = s.phs := rfl
@[simp] theorem State.puti_dec (s : State) (f : Fld) (i : Int) : (s.puti f i).dec = s.dec := rfl
@[simp] theorem State.puti_qcp (s : State) (f : Fld) (i : Int) : (s.puti f i).qcp = s.qcp := rfl
@[simp] theorem State.puti_ptp (s : State) (f : Fld) (i : Int) : (s.puti f i).ptp = s.ptp := rfl
@[simp] theorem State.puti_net (s : State) (f : Fld) (i : Int) : (s.puti f i).net = s.net := rfl
@[simp] theorem State.puti_tb (s : State) (f : Fld) (i : Int) : (s.puti f i).tb = s.tb := rfl
@[simp] theorem State.puti_ridge (s : State) (f : Fld) (i : Int) : (s.puti f i).ridge = s.ridge := rfl
@[simp] theorem State.puti_strm (s : State) (f : Fld) (i : Int) : (s.puti f i).strm = s.strm := rfl
@[simp] theorem State.puti_trg (s : State) (f : Fld) (i : Int) : (s.puti f i).trg = s.trg := rfl
@[simp] theorem State.puti_reed (s : State) (f : Fld) (i : Int) : (s.puti f i).reed = s.reed := rfl
@[simp] theorem State.puti_brl (s : State) (f : Fld) (i : Int) : (s.puti f i).brl = s.brl := rfl
@[simp] theorem State.puti_pair (s : State) (f : Fld) (i : Int) : (s.puti f i).pair = s.pair := rfl
@[simp] theorem State.puti_isl (s : State) (f : Fld) (i : Int) : (s.puti f i).isl = s.isl := rfl
@[simp] theorem State.puti_mon (s : State) (f : Fld) (i : Int) : (s.puti f i).mon = s.mon := rfl
@[simp] theorem State.puti_cal (s : State) (f : Fld) (i : Int) : (s.puti f i).cal = s.cal := rfl
@[simp] theorem State.puti_dmc (s : State) (f : Fld) (i : Int) : (s.puti f i).dmc = s.dmc := rfl
@[simp] theorem State.puti_ptb (s : State) (f : Fld) (i : Int) : (s.puti f i).ptb = s.ptb := rfl
@[simp] theorem State.puti_keys (s : State) (f : Fld) (i : Int) : (s.puti f i).keys = s.keys := rfl
@[simp] theorem State.puti_tap (s : State) (f : Fld) (i : Int) : (s.puti f i).tap = s.tap := rfl
@[simp] theorem State.puti_shadows (s : State) (f : Fld) (i : Int) : (s.puti f i).shadows = s.shadows := rfl
@[simp] theorem State.puti_power (s : State) (f : Fld) (i : Int) : (s.puti f i).power = s.power := rfl
@[simp] theorem State.puti_out (s : State) (f : Fld) (i : Int) : (s.puti f i).out = s.out := rfl
@[simp] theorem State.puti_free (s : State) (f : Fld) (i : Int) : (s.puti f i).free = s.free := rfl
@[simp] theorem State.puti_pending (s : State) (f : Fld) (i : Int) : (s.puti f i).pending = s.pending := rfl

@[simp] theorem State.count_clk (s : State) (f : Fld) (n : Nat) : (s.count f n).clk = s.clk := rfl
@[simp] theorem State.count_cyc (s : State) (f : Fld) (n : Nat) : (s.count f n).cyc = s.cyc := rfl
@[simp] theorem State.count_light (s : State) (f : Fld) (n : Nat) : (s.count f n).light = s.light := rfl
@[simp] theorem State.count_grid (s : State) (f : Fld) (n : Nat) : (s.count f n).grid = s.grid := rfl
@[simp] theorem State.count_pat (s : State) (f : Fld) (n : Nat) : (s.count f n).pat = s.pat := rfl
@[simp] theorem State.count_rx (s : State) (f : Fld) (n : Nat) : (s.count f n).rx = s.rx := rfl
@[simp] theorem State.count_phs (s : State) (f : Fld) (n : Nat) : (s.count f n).phs = s.phs := rfl
@[simp] theorem State.count_dec (s : State) (f : Fld) (n : Nat) : (s.count f n).dec = s.dec := rfl
@[simp] theorem State.count_qcp (s : State) (f : Fld) (n : Nat) : (s.count f n).qcp = s.qcp := rfl
@[simp] theorem State.count_ptp (s : State) (f : Fld) (n : Nat) : (s.count f n).ptp = s.ptp := rfl
@[simp] theorem State.count_net (s : State) (f : Fld) (n : Nat) : (s.count f n).net = s.net := rfl
@[simp] theorem State.count_tb (s : State) (f : Fld) (n : Nat) : (s.count f n).tb = s.tb := rfl
@[simp] theorem State.count_ridge (s : State) (f : Fld) (n : Nat) : (s.count f n).ridge = s.ridge := rfl
@[simp] theorem State.count_strm (s : State) (f : Fld) (n : Nat) : (s.count f n).strm = s.strm := rfl
@[simp] theorem State.count_trg (s : State) (f : Fld) (n : Nat) : (s.count f n).trg = s.trg := rfl
@[simp] theorem State.count_reed (s : State) (f : Fld) (n : Nat) : (s.count f n).reed = s.reed := rfl
@[simp] theorem State.count_brl (s : State) (f : Fld) (n : Nat) : (s.count f n).brl = s.brl := rfl
@[simp] theorem State.count_pair (s : State) (f : Fld) (n : Nat) : (s.count f n).pair = s.pair := rfl
@[simp] theorem State.count_isl (s : State) (f : Fld) (n : Nat) : (s.count f n).isl = s.isl := rfl
@[simp] theorem State.count_mon (s : State) (f : Fld) (n : Nat) : (s.count f n).mon = s.mon := rfl
@[simp] theorem State.count_cal (s : State) (f : Fld) (n : Nat) : (s.count f n).cal = s.cal := rfl
@[simp] theorem State.count_dmc (s : State) (f : Fld) (n : Nat) : (s.count f n).dmc = s.dmc := rfl
@[simp] theorem State.count_ptb (s : State) (f : Fld) (n : Nat) : (s.count f n).ptb = s.ptb := rfl
@[simp] theorem State.count_keys (s : State) (f : Fld) (n : Nat) : (s.count f n).keys = s.keys := rfl
@[simp] theorem State.count_tap (s : State) (f : Fld) (n : Nat) : (s.count f n).tap = s.tap := rfl
@[simp] theorem State.count_shadows (s : State) (f : Fld) (n : Nat) : (s.count f n).shadows = s.shadows := rfl
@[simp] theorem State.count_power (s : State) (f : Fld) (n : Nat) : (s.count f n).power = s.power := rfl
@[simp] theorem State.count_out (s : State) (f : Fld) (n : Nat) : (s.count f n).out = s.out := rfl
@[simp] theorem State.count_free (s : State) (f : Fld) (n : Nat) : (s.count f n).free = s.free := rfl
@[simp] theorem State.count_pending (s : State) (f : Fld) (n : Nat) : (s.count f n).pending = s.pending := rfl

@[simp] theorem State.countSat_clk (s : State) (f : Fld) (n : Nat) : (s.countSat f n).clk = s.clk := rfl
@[simp] theorem State.countSat_cyc (s : State) (f : Fld) (n : Nat) : (s.countSat f n).cyc = s.cyc := rfl
@[simp] theorem State.countSat_light (s : State) (f : Fld) (n : Nat) : (s.countSat f n).light = s.light := rfl
@[simp] theorem State.countSat_grid (s : State) (f : Fld) (n : Nat) : (s.countSat f n).grid = s.grid := rfl
@[simp] theorem State.countSat_pat (s : State) (f : Fld) (n : Nat) : (s.countSat f n).pat = s.pat := rfl
@[simp] theorem State.countSat_rx (s : State) (f : Fld) (n : Nat) : (s.countSat f n).rx = s.rx := rfl
@[simp] theorem State.countSat_phs (s : State) (f : Fld) (n : Nat) : (s.countSat f n).phs = s.phs := rfl
@[simp] theorem State.countSat_dec (s : State) (f : Fld) (n : Nat) : (s.countSat f n).dec = s.dec := rfl
@[simp] theorem State.countSat_qcp (s : State) (f : Fld) (n : Nat) : (s.countSat f n).qcp = s.qcp := rfl
@[simp] theorem State.countSat_ptp (s : State) (f : Fld) (n : Nat) : (s.countSat f n).ptp = s.ptp := rfl
@[simp] theorem State.countSat_net (s : State) (f : Fld) (n : Nat) : (s.countSat f n).net = s.net := rfl
@[simp] theorem State.countSat_tb (s : State) (f : Fld) (n : Nat) : (s.countSat f n).tb = s.tb := rfl
@[simp] theorem State.countSat_ridge (s : State) (f : Fld) (n : Nat) : (s.countSat f n).ridge = s.ridge := rfl
@[simp] theorem State.countSat_strm (s : State) (f : Fld) (n : Nat) : (s.countSat f n).strm = s.strm := rfl
@[simp] theorem State.countSat_trg (s : State) (f : Fld) (n : Nat) : (s.countSat f n).trg = s.trg := rfl
@[simp] theorem State.countSat_reed (s : State) (f : Fld) (n : Nat) : (s.countSat f n).reed = s.reed := rfl
@[simp] theorem State.countSat_brl (s : State) (f : Fld) (n : Nat) : (s.countSat f n).brl = s.brl := rfl
@[simp] theorem State.countSat_pair (s : State) (f : Fld) (n : Nat) : (s.countSat f n).pair = s.pair := rfl
@[simp] theorem State.countSat_isl (s : State) (f : Fld) (n : Nat) : (s.countSat f n).isl = s.isl := rfl
@[simp] theorem State.countSat_mon (s : State) (f : Fld) (n : Nat) : (s.countSat f n).mon = s.mon := rfl
@[simp] theorem State.countSat_cal (s : State) (f : Fld) (n : Nat) : (s.countSat f n).cal = s.cal := rfl
@[simp] theorem State.countSat_dmc (s : State) (f : Fld) (n : Nat) : (s.countSat f n).dmc = s.dmc := rfl
@[simp] theorem State.countSat_ptb (s : State) (f : Fld) (n : Nat) : (s.countSat f n).ptb = s.ptb := rfl
@[simp] theorem State.countSat_keys (s : State) (f : Fld) (n : Nat) : (s.countSat f n).keys = s.keys := rfl
@[simp] theorem State.countSat_tap (s : State) (f : Fld) (n : Nat) : (s.countSat f n).tap = s.tap := rfl
@[simp] theorem State.countSat_shadows (s : State) (f : Fld) (n : Nat) : (s.countSat f n).shadows = s.shadows := rfl
@[simp] theorem State.countSat_power (s : State) (f : Fld) (n : Nat) : (s.countSat f n).power = s.power := rfl
@[simp] theorem State.countSat_out (s : State) (f : Fld) (n : Nat) : (s.countSat f n).out = s.out := rfl
@[simp] theorem State.countSat_free (s : State) (f : Fld) (n : Nat) : (s.countSat f n).free = s.free := rfl
@[simp] theorem State.countSat_pending (s : State) (f : Fld) (n : Nat) : (s.countSat f n).pending = s.pending := rfl

@[simp] theorem State.put2_clk (s : State) (lo hi : Fld) (n : Nat) : (s.put2 lo hi n).clk = s.clk := rfl
@[simp] theorem State.put2_cyc (s : State) (lo hi : Fld) (n : Nat) : (s.put2 lo hi n).cyc = s.cyc := rfl
@[simp] theorem State.put2_light (s : State) (lo hi : Fld) (n : Nat) : (s.put2 lo hi n).light = s.light := rfl
@[simp] theorem State.put2_grid (s : State) (lo hi : Fld) (n : Nat) : (s.put2 lo hi n).grid = s.grid := rfl
@[simp] theorem State.put2_pat (s : State) (lo hi : Fld) (n : Nat) : (s.put2 lo hi n).pat = s.pat := rfl
@[simp] theorem State.put2_rx (s : State) (lo hi : Fld) (n : Nat) : (s.put2 lo hi n).rx = s.rx := rfl
@[simp] theorem State.put2_phs (s : State) (lo hi : Fld) (n : Nat) : (s.put2 lo hi n).phs = s.phs := rfl
@[simp] theorem State.put2_dec (s : State) (lo hi : Fld) (n : Nat) : (s.put2 lo hi n).dec = s.dec := rfl
@[simp] theorem State.put2_qcp (s : State) (lo hi : Fld) (n : Nat) : (s.put2 lo hi n).qcp = s.qcp := rfl
@[simp] theorem State.put2_ptp (s : State) (lo hi : Fld) (n : Nat) : (s.put2 lo hi n).ptp = s.ptp := rfl
@[simp] theorem State.put2_net (s : State) (lo hi : Fld) (n : Nat) : (s.put2 lo hi n).net = s.net := rfl
@[simp] theorem State.put2_tb (s : State) (lo hi : Fld) (n : Nat) : (s.put2 lo hi n).tb = s.tb := rfl
@[simp] theorem State.put2_ridge (s : State) (lo hi : Fld) (n : Nat) : (s.put2 lo hi n).ridge = s.ridge := rfl
@[simp] theorem State.put2_strm (s : State) (lo hi : Fld) (n : Nat) : (s.put2 lo hi n).strm = s.strm := rfl
@[simp] theorem State.put2_trg (s : State) (lo hi : Fld) (n : Nat) : (s.put2 lo hi n).trg = s.trg := rfl
@[simp] theorem State.put2_reed (s : State) (lo hi : Fld) (n : Nat) : (s.put2 lo hi n).reed = s.reed := rfl
@[simp] theorem State.put2_brl (s : State) (lo hi : Fld) (n : Nat) : (s.put2 lo hi n).brl = s.brl := rfl
@[simp] theorem State.put2_pair (s : State) (lo hi : Fld) (n : Nat) : (s.put2 lo hi n).pair = s.pair := rfl
@[simp] theorem State.put2_isl (s : State) (lo hi : Fld) (n : Nat) : (s.put2 lo hi n).isl = s.isl := rfl
@[simp] theorem State.put2_mon (s : State) (lo hi : Fld) (n : Nat) : (s.put2 lo hi n).mon = s.mon := rfl
@[simp] theorem State.put2_cal (s : State) (lo hi : Fld) (n : Nat) : (s.put2 lo hi n).cal = s.cal := rfl
@[simp] theorem State.put2_dmc (s : State) (lo hi : Fld) (n : Nat) : (s.put2 lo hi n).dmc = s.dmc := rfl
@[simp] theorem State.put2_ptb (s : State) (lo hi : Fld) (n : Nat) : (s.put2 lo hi n).ptb = s.ptb := rfl
@[simp] theorem State.put2_keys (s : State) (lo hi : Fld) (n : Nat) : (s.put2 lo hi n).keys = s.keys := rfl
@[simp] theorem State.put2_tap (s : State) (lo hi : Fld) (n : Nat) : (s.put2 lo hi n).tap = s.tap := rfl
@[simp] theorem State.put2_shadows (s : State) (lo hi : Fld) (n : Nat) : (s.put2 lo hi n).shadows = s.shadows := rfl
@[simp] theorem State.put2_power (s : State) (lo hi : Fld) (n : Nat) : (s.put2 lo hi n).power = s.power := rfl
@[simp] theorem State.put2_out (s : State) (lo hi : Fld) (n : Nat) : (s.put2 lo hi n).out = s.out := rfl
@[simp] theorem State.put2_free (s : State) (lo hi : Fld) (n : Nat) : (s.put2 lo hi n).free = s.free := rfl
@[simp] theorem State.put2_pending (s : State) (lo hi : Fld) (n : Nat) : (s.put2 lo hi n).pending = s.pending := rfl

@[simp] theorem State.drew_regs (s : State) (n : Nat) : (s.drew n).regs = s.regs := rfl
@[simp] theorem State.drew_clk (s : State) (n : Nat) : (s.drew n).clk = s.clk := rfl
@[simp] theorem State.drew_cyc (s : State) (n : Nat) : (s.drew n).cyc = s.cyc := rfl
@[simp] theorem State.drew_light (s : State) (n : Nat) : (s.drew n).light = s.light := rfl
@[simp] theorem State.drew_grid (s : State) (n : Nat) : (s.drew n).grid = s.grid := rfl
@[simp] theorem State.drew_pat (s : State) (n : Nat) : (s.drew n).pat = s.pat := rfl
@[simp] theorem State.drew_rx (s : State) (n : Nat) : (s.drew n).rx = s.rx := rfl
@[simp] theorem State.drew_phs (s : State) (n : Nat) : (s.drew n).phs = s.phs := rfl
@[simp] theorem State.drew_dec (s : State) (n : Nat) : (s.drew n).dec = s.dec := rfl
@[simp] theorem State.drew_qcp (s : State) (n : Nat) : (s.drew n).qcp = s.qcp := rfl
@[simp] theorem State.drew_ptp (s : State) (n : Nat) : (s.drew n).ptp = s.ptp := rfl
@[simp] theorem State.drew_net (s : State) (n : Nat) : (s.drew n).net = s.net := rfl
@[simp] theorem State.drew_tb (s : State) (n : Nat) : (s.drew n).tb = s.tb := rfl
@[simp] theorem State.drew_ridge (s : State) (n : Nat) : (s.drew n).ridge = s.ridge := rfl
@[simp] theorem State.drew_strm (s : State) (n : Nat) : (s.drew n).strm = s.strm := rfl
@[simp] theorem State.drew_trg (s : State) (n : Nat) : (s.drew n).trg = s.trg := rfl
@[simp] theorem State.drew_reed (s : State) (n : Nat) : (s.drew n).reed = s.reed := rfl
@[simp] theorem State.drew_brl (s : State) (n : Nat) : (s.drew n).brl = s.brl := rfl
@[simp] theorem State.drew_pair (s : State) (n : Nat) : (s.drew n).pair = s.pair := rfl
@[simp] theorem State.drew_isl (s : State) (n : Nat) : (s.drew n).isl = s.isl := rfl
@[simp] theorem State.drew_mon (s : State) (n : Nat) : (s.drew n).mon = s.mon := rfl
@[simp] theorem State.drew_cal (s : State) (n : Nat) : (s.drew n).cal = s.cal := rfl
@[simp] theorem State.drew_dmc (s : State) (n : Nat) : (s.drew n).dmc = s.dmc := rfl
@[simp] theorem State.drew_ptb (s : State) (n : Nat) : (s.drew n).ptb = s.ptb := rfl
@[simp] theorem State.drew_keys (s : State) (n : Nat) : (s.drew n).keys = s.keys := rfl
@[simp] theorem State.drew_tap (s : State) (n : Nat) : (s.drew n).tap = s.tap := rfl
@[simp] theorem State.drew_shadows (s : State) (n : Nat) : (s.drew n).shadows = s.shadows := rfl
@[simp] theorem State.drew_power (s : State) (n : Nat) : (s.drew n).power = s.power := rfl
@[simp] theorem State.drew_out (s : State) (n : Nat) : (s.drew n).out = s.out := rfl
@[simp] theorem State.drew_pending (s : State) (n : Nat) : (s.drew n).pending = s.pending := rfl

@[simp] theorem State.emitRaw_regs (s : State) (o : Out) : (s.emitRaw o).regs = s.regs := rfl
@[simp] theorem State.emitRaw_clk (s : State) (o : Out) : (s.emitRaw o).clk = s.clk := rfl
@[simp] theorem State.emitRaw_cyc (s : State) (o : Out) : (s.emitRaw o).cyc = s.cyc := rfl
@[simp] theorem State.emitRaw_light (s : State) (o : Out) : (s.emitRaw o).light = s.light := rfl
@[simp] theorem State.emitRaw_grid (s : State) (o : Out) : (s.emitRaw o).grid = s.grid := rfl
@[simp] theorem State.emitRaw_pat (s : State) (o : Out) : (s.emitRaw o).pat = s.pat := rfl
@[simp] theorem State.emitRaw_rx (s : State) (o : Out) : (s.emitRaw o).rx = s.rx := rfl
@[simp] theorem State.emitRaw_phs (s : State) (o : Out) : (s.emitRaw o).phs = s.phs := rfl
@[simp] theorem State.emitRaw_dec (s : State) (o : Out) : (s.emitRaw o).dec = s.dec := rfl
@[simp] theorem State.emitRaw_qcp (s : State) (o : Out) : (s.emitRaw o).qcp = s.qcp := rfl
@[simp] theorem State.emitRaw_ptp (s : State) (o : Out) : (s.emitRaw o).ptp = s.ptp := rfl
@[simp] theorem State.emitRaw_net (s : State) (o : Out) : (s.emitRaw o).net = s.net := rfl
@[simp] theorem State.emitRaw_tb (s : State) (o : Out) : (s.emitRaw o).tb = s.tb := rfl
@[simp] theorem State.emitRaw_ridge (s : State) (o : Out) : (s.emitRaw o).ridge = s.ridge := rfl
@[simp] theorem State.emitRaw_strm (s : State) (o : Out) : (s.emitRaw o).strm = s.strm := rfl
@[simp] theorem State.emitRaw_trg (s : State) (o : Out) : (s.emitRaw o).trg = s.trg := rfl
@[simp] theorem State.emitRaw_reed (s : State) (o : Out) : (s.emitRaw o).reed = s.reed := rfl
@[simp] theorem State.emitRaw_brl (s : State) (o : Out) : (s.emitRaw o).brl = s.brl := rfl
@[simp] theorem State.emitRaw_pair (s : State) (o : Out) : (s.emitRaw o).pair = s.pair := rfl
@[simp] theorem State.emitRaw_isl (s : State) (o : Out) : (s.emitRaw o).isl = s.isl := rfl
@[simp] theorem State.emitRaw_mon (s : State) (o : Out) : (s.emitRaw o).mon = s.mon := rfl
@[simp] theorem State.emitRaw_cal (s : State) (o : Out) : (s.emitRaw o).cal = s.cal := rfl
@[simp] theorem State.emitRaw_dmc (s : State) (o : Out) : (s.emitRaw o).dmc = s.dmc := rfl
@[simp] theorem State.emitRaw_ptb (s : State) (o : Out) : (s.emitRaw o).ptb = s.ptb := rfl
@[simp] theorem State.emitRaw_keys (s : State) (o : Out) : (s.emitRaw o).keys = s.keys := rfl
@[simp] theorem State.emitRaw_tap (s : State) (o : Out) : (s.emitRaw o).tap = s.tap := rfl
@[simp] theorem State.emitRaw_shadows (s : State) (o : Out) : (s.emitRaw o).shadows = s.shadows := rfl
@[simp] theorem State.emitRaw_power (s : State) (o : Out) : (s.emitRaw o).power = s.power := rfl
@[simp] theorem State.emitRaw_free (s : State) (o : Out) : (s.emitRaw o).free = s.free := rfl
@[simp] theorem State.emitRaw_pending (s : State) (o : Out) : (s.emitRaw o).pending = s.pending := rfl

@[simp] theorem State.issue_regs (s : State) (e : BitVec 32) : (s.issue e).regs = s.regs := rfl
@[simp] theorem State.issue_clk (s : State) (e : BitVec 32) : (s.issue e).clk = s.clk := rfl
@[simp] theorem State.issue_cyc (s : State) (e : BitVec 32) : (s.issue e).cyc = s.cyc := rfl
@[simp] theorem State.issue_light (s : State) (e : BitVec 32) : (s.issue e).light = s.light := rfl
@[simp] theorem State.issue_grid (s : State) (e : BitVec 32) : (s.issue e).grid = s.grid := rfl
@[simp] theorem State.issue_pat (s : State) (e : BitVec 32) : (s.issue e).pat = s.pat := rfl
@[simp] theorem State.issue_rx (s : State) (e : BitVec 32) : (s.issue e).rx = s.rx := rfl
@[simp] theorem State.issue_phs (s : State) (e : BitVec 32) : (s.issue e).phs = s.phs := rfl
@[simp] theorem State.issue_dec (s : State) (e : BitVec 32) : (s.issue e).dec = s.dec := rfl
@[simp] theorem State.issue_qcp (s : State) (e : BitVec 32) : (s.issue e).qcp = s.qcp := rfl
@[simp] theorem State.issue_ptp (s : State) (e : BitVec 32) : (s.issue e).ptp = s.ptp := rfl
@[simp] theorem State.issue_net (s : State) (e : BitVec 32) : (s.issue e).net = s.net := rfl
@[simp] theorem State.issue_tb (s : State) (e : BitVec 32) : (s.issue e).tb = s.tb := rfl
@[simp] theorem State.issue_ridge (s : State) (e : BitVec 32) : (s.issue e).ridge = s.ridge := rfl
@[simp] theorem State.issue_strm (s : State) (e : BitVec 32) : (s.issue e).strm = s.strm := rfl
@[simp] theorem State.issue_trg (s : State) (e : BitVec 32) : (s.issue e).trg = s.trg := rfl
@[simp] theorem State.issue_reed (s : State) (e : BitVec 32) : (s.issue e).reed = s.reed := rfl
@[simp] theorem State.issue_brl (s : State) (e : BitVec 32) : (s.issue e).brl = s.brl := rfl
@[simp] theorem State.issue_pair (s : State) (e : BitVec 32) : (s.issue e).pair = s.pair := rfl
@[simp] theorem State.issue_isl (s : State) (e : BitVec 32) : (s.issue e).isl = s.isl := rfl
@[simp] theorem State.issue_mon (s : State) (e : BitVec 32) : (s.issue e).mon = s.mon := rfl
@[simp] theorem State.issue_cal (s : State) (e : BitVec 32) : (s.issue e).cal = s.cal := rfl
@[simp] theorem State.issue_dmc (s : State) (e : BitVec 32) : (s.issue e).dmc = s.dmc := rfl
@[simp] theorem State.issue_ptb (s : State) (e : BitVec 32) : (s.issue e).ptb = s.ptb := rfl
@[simp] theorem State.issue_keys (s : State) (e : BitVec 32) : (s.issue e).keys = s.keys := rfl
@[simp] theorem State.issue_tap (s : State) (e : BitVec 32) : (s.issue e).tap = s.tap := rfl
@[simp] theorem State.issue_shadows (s : State) (e : BitVec 32) : (s.issue e).shadows = s.shadows := rfl
@[simp] theorem State.issue_out (s : State) (e : BitVec 32) : (s.issue e).out = s.out := rfl
@[simp] theorem State.issue_free (s : State) (e : BitVec 32) : (s.issue e).free = s.free := rfl
@[simp] theorem State.issue_pending (s : State) (e : BitVec 32) : (s.issue e).pending = s.pending := rfl

@[simp] theorem State.modSess_regs (s : State) (r : Nat) (f : Session → Session) : (s.modSess r f).regs = s.regs := rfl
@[simp] theorem State.modSess_clk (s : State) (r : Nat) (f : Session → Session) : (s.modSess r f).clk = s.clk := rfl
@[simp] theorem State.modSess_cyc (s : State) (r : Nat) (f : Session → Session) : (s.modSess r f).cyc = s.cyc := rfl
@[simp] theorem State.modSess_light (s : State) (r : Nat) (f : Session → Session) : (s.modSess r f).light = s.light := rfl
@[simp] theorem State.modSess_grid (s : State) (r : Nat) (f : Session → Session) : (s.modSess r f).grid = s.grid := rfl
@[simp] theorem State.modSess_pat (s : State) (r : Nat) (f : Session → Session) : (s.modSess r f).pat = s.pat := rfl
@[simp] theorem State.modSess_rx (s : State) (r : Nat) (f : Session → Session) : (s.modSess r f).rx = s.rx := rfl
@[simp] theorem State.modSess_phs (s : State) (r : Nat) (f : Session → Session) : (s.modSess r f).phs = s.phs := rfl
@[simp] theorem State.modSess_dec (s : State) (r : Nat) (f : Session → Session) : (s.modSess r f).dec = s.dec := rfl
@[simp] theorem State.modSess_ptp (s : State) (r : Nat) (f : Session → Session) : (s.modSess r f).ptp = s.ptp := rfl
@[simp] theorem State.modSess_net (s : State) (r : Nat) (f : Session → Session) : (s.modSess r f).net = s.net := rfl
@[simp] theorem State.modSess_tb (s : State) (r : Nat) (f : Session → Session) : (s.modSess r f).tb = s.tb := rfl
@[simp] theorem State.modSess_ridge (s : State) (r : Nat) (f : Session → Session) : (s.modSess r f).ridge = s.ridge := rfl
@[simp] theorem State.modSess_strm (s : State) (r : Nat) (f : Session → Session) : (s.modSess r f).strm = s.strm := rfl
@[simp] theorem State.modSess_trg (s : State) (r : Nat) (f : Session → Session) : (s.modSess r f).trg = s.trg := rfl
@[simp] theorem State.modSess_reed (s : State) (r : Nat) (f : Session → Session) : (s.modSess r f).reed = s.reed := rfl
@[simp] theorem State.modSess_brl (s : State) (r : Nat) (f : Session → Session) : (s.modSess r f).brl = s.brl := rfl
@[simp] theorem State.modSess_pair (s : State) (r : Nat) (f : Session → Session) : (s.modSess r f).pair = s.pair := rfl
@[simp] theorem State.modSess_isl (s : State) (r : Nat) (f : Session → Session) : (s.modSess r f).isl = s.isl := rfl
@[simp] theorem State.modSess_mon (s : State) (r : Nat) (f : Session → Session) : (s.modSess r f).mon = s.mon := rfl
@[simp] theorem State.modSess_cal (s : State) (r : Nat) (f : Session → Session) : (s.modSess r f).cal = s.cal := rfl
@[simp] theorem State.modSess_dmc (s : State) (r : Nat) (f : Session → Session) : (s.modSess r f).dmc = s.dmc := rfl
@[simp] theorem State.modSess_ptb (s : State) (r : Nat) (f : Session → Session) : (s.modSess r f).ptb = s.ptb := rfl
@[simp] theorem State.modSess_keys (s : State) (r : Nat) (f : Session → Session) : (s.modSess r f).keys = s.keys := rfl
@[simp] theorem State.modSess_tap (s : State) (r : Nat) (f : Session → Session) : (s.modSess r f).tap = s.tap := rfl
@[simp] theorem State.modSess_shadows (s : State) (r : Nat) (f : Session → Session) : (s.modSess r f).shadows = s.shadows := rfl
@[simp] theorem State.modSess_power (s : State) (r : Nat) (f : Session → Session) : (s.modSess r f).power = s.power := rfl
@[simp] theorem State.modSess_out (s : State) (r : Nat) (f : Session → Session) : (s.modSess r f).out = s.out := rfl
@[simp] theorem State.modSess_free (s : State) (r : Nat) (f : Session → Session) : (s.modSess r f).free = s.free := rfl
@[simp] theorem State.modSess_pending (s : State) (r : Nat) (f : Session → Session) : (s.modSess r f).pending = s.pending := rfl

@[simp] theorem State.modPl_regs (s : State) (p : Port) (f : PortLight → PortLight) : (s.modPl p f).regs = s.regs := by cases p <;> rfl
@[simp] theorem State.modPl_clk (s : State) (p : Port) (f : PortLight → PortLight) : (s.modPl p f).clk = s.clk := by cases p <;> rfl
@[simp] theorem State.modPl_cyc (s : State) (p : Port) (f : PortLight → PortLight) : (s.modPl p f).cyc = s.cyc := by cases p <;> rfl
@[simp] theorem State.modPl_grid (s : State) (p : Port) (f : PortLight → PortLight) : (s.modPl p f).grid = s.grid := by cases p <;> rfl
@[simp] theorem State.modPl_pat (s : State) (p : Port) (f : PortLight → PortLight) : (s.modPl p f).pat = s.pat := by cases p <;> rfl
@[simp] theorem State.modPl_rx (s : State) (p : Port) (f : PortLight → PortLight) : (s.modPl p f).rx = s.rx := by cases p <;> rfl
@[simp] theorem State.modPl_phs (s : State) (p : Port) (f : PortLight → PortLight) : (s.modPl p f).phs = s.phs := by cases p <;> rfl
@[simp] theorem State.modPl_dec (s : State) (p : Port) (f : PortLight → PortLight) : (s.modPl p f).dec = s.dec := by cases p <;> rfl
@[simp] theorem State.modPl_qcp (s : State) (p : Port) (f : PortLight → PortLight) : (s.modPl p f).qcp = s.qcp := by cases p <;> rfl
@[simp] theorem State.modPl_ptp (s : State) (p : Port) (f : PortLight → PortLight) : (s.modPl p f).ptp = s.ptp := by cases p <;> rfl
@[simp] theorem State.modPl_net (s : State) (p : Port) (f : PortLight → PortLight) : (s.modPl p f).net = s.net := by cases p <;> rfl
@[simp] theorem State.modPl_tb (s : State) (p : Port) (f : PortLight → PortLight) : (s.modPl p f).tb = s.tb := by cases p <;> rfl
@[simp] theorem State.modPl_ridge (s : State) (p : Port) (f : PortLight → PortLight) : (s.modPl p f).ridge = s.ridge := by cases p <;> rfl
@[simp] theorem State.modPl_strm (s : State) (p : Port) (f : PortLight → PortLight) : (s.modPl p f).strm = s.strm := by cases p <;> rfl
@[simp] theorem State.modPl_trg (s : State) (p : Port) (f : PortLight → PortLight) : (s.modPl p f).trg = s.trg := by cases p <;> rfl
@[simp] theorem State.modPl_reed (s : State) (p : Port) (f : PortLight → PortLight) : (s.modPl p f).reed = s.reed := by cases p <;> rfl
@[simp] theorem State.modPl_brl (s : State) (p : Port) (f : PortLight → PortLight) : (s.modPl p f).brl = s.brl := by cases p <;> rfl
@[simp] theorem State.modPl_pair (s : State) (p : Port) (f : PortLight → PortLight) : (s.modPl p f).pair = s.pair := by cases p <;> rfl
@[simp] theorem State.modPl_isl (s : State) (p : Port) (f : PortLight → PortLight) : (s.modPl p f).isl = s.isl := by cases p <;> rfl
@[simp] theorem State.modPl_mon (s : State) (p : Port) (f : PortLight → PortLight) : (s.modPl p f).mon = s.mon := by cases p <;> rfl
@[simp] theorem State.modPl_cal (s : State) (p : Port) (f : PortLight → PortLight) : (s.modPl p f).cal = s.cal := by cases p <;> rfl
@[simp] theorem State.modPl_dmc (s : State) (p : Port) (f : PortLight → PortLight) : (s.modPl p f).dmc = s.dmc := by cases p <;> rfl
@[simp] theorem State.modPl_ptb (s : State) (p : Port) (f : PortLight → PortLight) : (s.modPl p f).ptb = s.ptb := by cases p <;> rfl
@[simp] theorem State.modPl_keys (s : State) (p : Port) (f : PortLight → PortLight) : (s.modPl p f).keys = s.keys := by cases p <;> rfl
@[simp] theorem State.modPl_tap (s : State) (p : Port) (f : PortLight → PortLight) : (s.modPl p f).tap = s.tap := by cases p <;> rfl
@[simp] theorem State.modPl_shadows (s : State) (p : Port) (f : PortLight → PortLight) : (s.modPl p f).shadows = s.shadows := by cases p <;> rfl
@[simp] theorem State.modPl_power (s : State) (p : Port) (f : PortLight → PortLight) : (s.modPl p f).power = s.power := by cases p <;> rfl
@[simp] theorem State.modPl_out (s : State) (p : Port) (f : PortLight → PortLight) : (s.modPl p f).out = s.out := by cases p <;> rfl
@[simp] theorem State.modPl_free (s : State) (p : Port) (f : PortLight → PortLight) : (s.modPl p f).free = s.free := by cases p <;> rfl
@[simp] theorem State.modPl_pending (s : State) (p : Port) (f : PortLight → PortLight) : (s.modPl p f).pending = s.pending := by cases p <;> rfl

/-! ## Updates of several words -/

/-- Setting several fields changes the register space alone. -/
theorem State.puts_frame (s : State) (l : List (Fld × Nat)) : s.puts l = { s with regs := (s.puts l).regs } := by
  induction l generalizing s with
  | nil => rfl
  | cons p t ih =>
    rw [State.puts_cons, ih]
    rfl

/-- Writing several words changes the register space alone. -/
theorem State.wrWords_frame (s : State) (off : Nat) (l : List Word) : s.wrWords off l = { s with regs := (s.wrWords off l).regs } := by
  induction l generalizing s off with
  | nil => rfl
  | cons w t ih =>
    rw [State.wrWords, ih]
    rfl

/-- Resetting several words changes the register space alone. -/
theorem State.resetWords_frame (s : State) (l : List Nat) : s.resetWords l = { s with regs := (s.resetWords l).regs } := by
  unfold State.resetWords
  induction l generalizing s with
  | nil => rfl
  | cons w t ih =>
    rw [List.foldl_cons, ih]
    rfl

@[simp] theorem State.puts_clk (s : State) (l : List (Fld × Nat)) : (s.puts l).clk = s.clk := by rw [State.puts_frame]
@[simp] theorem State.puts_cyc (s : State) (l : List (Fld × Nat)) : (s.puts l).cyc = s.cyc := by rw [State.puts_frame]
@[simp] theorem State.puts_light (s : State) (l : List (Fld × Nat)) : (s.puts l).light = s.light := by rw [State.puts_frame]
@[simp] theorem State.puts_grid (s : State) (l : List (Fld × Nat)) : (s.puts l).grid = s.grid := by rw [State.puts_frame]
@[simp] theorem State.puts_pat (s : State) (l : List (Fld × Nat)) : (s.puts l).pat = s.pat := by rw [State.puts_frame]
@[simp] theorem State.puts_rx (s : State) (l : List (Fld × Nat)) : (s.puts l).rx = s.rx := by rw [State.puts_frame]
@[simp] theorem State.puts_phs (s : State) (l : List (Fld × Nat)) : (s.puts l).phs = s.phs := by rw [State.puts_frame]
@[simp] theorem State.puts_dec (s : State) (l : List (Fld × Nat)) : (s.puts l).dec = s.dec := by rw [State.puts_frame]
@[simp] theorem State.puts_qcp (s : State) (l : List (Fld × Nat)) : (s.puts l).qcp = s.qcp := by rw [State.puts_frame]
@[simp] theorem State.puts_ptp (s : State) (l : List (Fld × Nat)) : (s.puts l).ptp = s.ptp := by rw [State.puts_frame]
@[simp] theorem State.puts_net (s : State) (l : List (Fld × Nat)) : (s.puts l).net = s.net := by rw [State.puts_frame]
@[simp] theorem State.puts_tb (s : State) (l : List (Fld × Nat)) : (s.puts l).tb = s.tb := by rw [State.puts_frame]
@[simp] theorem State.puts_ridge (s : State) (l : List (Fld × Nat)) : (s.puts l).ridge = s.ridge := by rw [State.puts_frame]
@[simp] theorem State.puts_strm (s : State) (l : List (Fld × Nat)) : (s.puts l).strm = s.strm := by rw [State.puts_frame]
@[simp] theorem State.puts_trg (s : State) (l : List (Fld × Nat)) : (s.puts l).trg = s.trg := by rw [State.puts_frame]
@[simp] theorem State.puts_reed (s : State) (l : List (Fld × Nat)) : (s.puts l).reed = s.reed := by rw [State.puts_frame]
@[simp] theorem State.puts_brl (s : State) (l : List (Fld × Nat)) : (s.puts l).brl = s.brl := by rw [State.puts_frame]
@[simp] theorem State.puts_pair (s : State) (l : List (Fld × Nat)) : (s.puts l).pair = s.pair := by rw [State.puts_frame]
@[simp] theorem State.puts_isl (s : State) (l : List (Fld × Nat)) : (s.puts l).isl = s.isl := by rw [State.puts_frame]
@[simp] theorem State.puts_mon (s : State) (l : List (Fld × Nat)) : (s.puts l).mon = s.mon := by rw [State.puts_frame]
@[simp] theorem State.puts_cal (s : State) (l : List (Fld × Nat)) : (s.puts l).cal = s.cal := by rw [State.puts_frame]
@[simp] theorem State.puts_dmc (s : State) (l : List (Fld × Nat)) : (s.puts l).dmc = s.dmc := by rw [State.puts_frame]
@[simp] theorem State.puts_ptb (s : State) (l : List (Fld × Nat)) : (s.puts l).ptb = s.ptb := by rw [State.puts_frame]
@[simp] theorem State.puts_keys (s : State) (l : List (Fld × Nat)) : (s.puts l).keys = s.keys := by rw [State.puts_frame]
@[simp] theorem State.puts_tap (s : State) (l : List (Fld × Nat)) : (s.puts l).tap = s.tap := by rw [State.puts_frame]
@[simp] theorem State.puts_shadows (s : State) (l : List (Fld × Nat)) : (s.puts l).shadows = s.shadows := by rw [State.puts_frame]
@[simp] theorem State.puts_power (s : State) (l : List (Fld × Nat)) : (s.puts l).power = s.power := by rw [State.puts_frame]
@[simp] theorem State.puts_out (s : State) (l : List (Fld × Nat)) : (s.puts l).out = s.out := by rw [State.puts_frame]
@[simp] theorem State.puts_free (s : State) (l : List (Fld × Nat)) : (s.puts l).free = s.free := by rw [State.puts_frame]
@[simp] theorem State.puts_pending (s : State) (l : List (Fld × Nat)) : (s.puts l).pending = s.pending := by rw [State.puts_frame]

@[simp] theorem State.wrWords_clk (s : State) (off : Nat) (l : List Word) : (s.wrWords off l).clk = s.clk := by rw [State.wrWords_frame]
@[simp] theorem State.wrWords_cyc (s : State) (off : Nat) (l : List Word) : (s.wrWords off l).cyc = s.cyc := by rw [State.wrWords_frame]
@[simp] theorem State.wrWords_light (s : State) (off : Nat) (l : List Word) : (s.wrWords off l).light = s.light := by rw [State.wrWords_frame]
@[simp] theorem State.wrWords_grid (s : State) (off : Nat) (l : List Word) : (s.wrWords off l).grid = s.grid := by rw [State.wrWords_frame]
@[simp] theorem State.wrWords_pat (s : State) (off : Nat) (l : List Word) : (s.wrWords off l).pat = s.pat := by rw [State.wrWords_frame]
@[simp] theorem State.wrWords_rx (s : State) (off : Nat) (l : List Word) : (s.wrWords off l).rx = s.rx := by rw [State.wrWords_frame]
@[simp] theorem State.wrWords_phs (s : State) (off : Nat) (l : List Word) : (s.wrWords off l).phs = s.phs := by rw [State.wrWords_frame]
@[simp] theorem State.wrWords_dec (s : State) (off : Nat) (l : List Word) : (s.wrWords off l).dec = s.dec := by rw [State.wrWords_frame]
@[simp] theorem State.wrWords_qcp (s : State) (off : Nat) (l : List Word) : (s.wrWords off l).qcp = s.qcp := by rw [State.wrWords_frame]
@[simp] theorem State.wrWords_ptp (s : State) (off : Nat) (l : List Word) : (s.wrWords off l).ptp = s.ptp := by rw [State.wrWords_frame]
@[simp] theorem State.wrWords_net (s : State) (off : Nat) (l : List Word) : (s.wrWords off l).net = s.net := by rw [State.wrWords_frame]
@[simp] theorem State.wrWords_tb (s : State) (off : Nat) (l : List Word) : (s.wrWords off l).tb = s.tb := by rw [State.wrWords_frame]
@[simp] theorem State.wrWords_ridge (s : State) (off : Nat) (l : List Word) : (s.wrWords off l).ridge = s.ridge := by rw [State.wrWords_frame]
@[simp] theorem State.wrWords_strm (s : State) (off : Nat) (l : List Word) : (s.wrWords off l).strm = s.strm := by rw [State.wrWords_frame]
@[simp] theorem State.wrWords_trg (s : State) (off : Nat) (l : List Word) : (s.wrWords off l).trg = s.trg := by rw [State.wrWords_frame]
@[simp] theorem State.wrWords_reed (s : State) (off : Nat) (l : List Word) : (s.wrWords off l).reed = s.reed := by rw [State.wrWords_frame]
@[simp] theorem State.wrWords_brl (s : State) (off : Nat) (l : List Word) : (s.wrWords off l).brl = s.brl := by rw [State.wrWords_frame]
@[simp] theorem State.wrWords_pair (s : State) (off : Nat) (l : List Word) : (s.wrWords off l).pair = s.pair := by rw [State.wrWords_frame]
@[simp] theorem State.wrWords_isl (s : State) (off : Nat) (l : List Word) : (s.wrWords off l).isl = s.isl := by rw [State.wrWords_frame]
@[simp] theorem State.wrWords_mon (s : State) (off : Nat) (l : List Word) : (s.wrWords off l).mon = s.mon := by rw [State.wrWords_frame]
@[simp] theorem State.wrWords_cal (s : State) (off : Nat) (l : List Word) : (s.wrWords off l).cal = s.cal := by rw [State.wrWords_frame]
@[simp] theorem State.wrWords_dmc (s : State) (off : Nat) (l : List Word) : (s.wrWords off l).dmc = s.dmc := by rw [State.wrWords_frame]
@[simp] theorem State.wrWords_ptb (s : State) (off : Nat) (l : List Word) : (s.wrWords off l).ptb = s.ptb := by rw [State.wrWords_frame]
@[simp] theorem State.wrWords_keys (s : State) (off : Nat) (l : List Word) : (s.wrWords off l).keys = s.keys := by rw [State.wrWords_frame]
@[simp] theorem State.wrWords_tap (s : State) (off : Nat) (l : List Word) : (s.wrWords off l).tap = s.tap := by rw [State.wrWords_frame]
@[simp] theorem State.wrWords_shadows (s : State) (off : Nat) (l : List Word) : (s.wrWords off l).shadows = s.shadows := by rw [State.wrWords_frame]
@[simp] theorem State.wrWords_power (s : State) (off : Nat) (l : List Word) : (s.wrWords off l).power = s.power := by rw [State.wrWords_frame]
@[simp] theorem State.wrWords_out (s : State) (off : Nat) (l : List Word) : (s.wrWords off l).out = s.out := by rw [State.wrWords_frame]
@[simp] theorem State.wrWords_free (s : State) (off : Nat) (l : List Word) : (s.wrWords off l).free = s.free := by rw [State.wrWords_frame]
@[simp] theorem State.wrWords_pending (s : State) (off : Nat) (l : List Word) : (s.wrWords off l).pending = s.pending := by rw [State.wrWords_frame]

@[simp] theorem State.resetWords_clk (s : State) (l : List Nat) : (s.resetWords l).clk = s.clk := by rw [State.resetWords_frame]
@[simp] theorem State.resetWords_cyc (s : State) (l : List Nat) : (s.resetWords l).cyc = s.cyc := by rw [State.resetWords_frame]
@[simp] theorem State.resetWords_light (s : State) (l : List Nat) : (s.resetWords l).light = s.light := by rw [State.resetWords_frame]
@[simp] theorem State.resetWords_grid (s : State) (l : List Nat) : (s.resetWords l).grid = s.grid := by rw [State.resetWords_frame]
@[simp] theorem State.resetWords_pat (s : State) (l : List Nat) : (s.resetWords l).pat = s.pat := by rw [State.resetWords_frame]
@[simp] theorem State.resetWords_rx (s : State) (l : List Nat) : (s.resetWords l).rx = s.rx := by rw [State.resetWords_frame]
@[simp] theorem State.resetWords_phs (s : State) (l : List Nat) : (s.resetWords l).phs = s.phs := by rw [State.resetWords_frame]
@[simp] theorem State.resetWords_dec (s : State) (l : List Nat) : (s.resetWords l).dec = s.dec := by rw [State.resetWords_frame]
@[simp] theorem State.resetWords_qcp (s : State) (l : List Nat) : (s.resetWords l).qcp = s.qcp := by rw [State.resetWords_frame]
@[simp] theorem State.resetWords_ptp (s : State) (l : List Nat) : (s.resetWords l).ptp = s.ptp := by rw [State.resetWords_frame]
@[simp] theorem State.resetWords_net (s : State) (l : List Nat) : (s.resetWords l).net = s.net := by rw [State.resetWords_frame]
@[simp] theorem State.resetWords_tb (s : State) (l : List Nat) : (s.resetWords l).tb = s.tb := by rw [State.resetWords_frame]
@[simp] theorem State.resetWords_ridge (s : State) (l : List Nat) : (s.resetWords l).ridge = s.ridge := by rw [State.resetWords_frame]
@[simp] theorem State.resetWords_strm (s : State) (l : List Nat) : (s.resetWords l).strm = s.strm := by rw [State.resetWords_frame]
@[simp] theorem State.resetWords_trg (s : State) (l : List Nat) : (s.resetWords l).trg = s.trg := by rw [State.resetWords_frame]
@[simp] theorem State.resetWords_reed (s : State) (l : List Nat) : (s.resetWords l).reed = s.reed := by rw [State.resetWords_frame]
@[simp] theorem State.resetWords_brl (s : State) (l : List Nat) : (s.resetWords l).brl = s.brl := by rw [State.resetWords_frame]
@[simp] theorem State.resetWords_pair (s : State) (l : List Nat) : (s.resetWords l).pair = s.pair := by rw [State.resetWords_frame]
@[simp] theorem State.resetWords_isl (s : State) (l : List Nat) : (s.resetWords l).isl = s.isl := by rw [State.resetWords_frame]
@[simp] theorem State.resetWords_mon (s : State) (l : List Nat) : (s.resetWords l).mon = s.mon := by rw [State.resetWords_frame]
@[simp] theorem State.resetWords_cal (s : State) (l : List Nat) : (s.resetWords l).cal = s.cal := by rw [State.resetWords_frame]
@[simp] theorem State.resetWords_dmc (s : State) (l : List Nat) : (s.resetWords l).dmc = s.dmc := by rw [State.resetWords_frame]
@[simp] theorem State.resetWords_ptb (s : State) (l : List Nat) : (s.resetWords l).ptb = s.ptb := by rw [State.resetWords_frame]
@[simp] theorem State.resetWords_keys (s : State) (l : List Nat) : (s.resetWords l).keys = s.keys := by rw [State.resetWords_frame]
@[simp] theorem State.resetWords_tap (s : State) (l : List Nat) : (s.resetWords l).tap = s.tap := by rw [State.resetWords_frame]
@[simp] theorem State.resetWords_shadows (s : State) (l : List Nat) : (s.resetWords l).shadows = s.shadows := by rw [State.resetWords_frame]
@[simp] theorem State.resetWords_power (s : State) (l : List Nat) : (s.resetWords l).power = s.power := by rw [State.resetWords_frame]
@[simp] theorem State.resetWords_out (s : State) (l : List Nat) : (s.resetWords l).out = s.out := by rw [State.resetWords_frame]
@[simp] theorem State.resetWords_free (s : State) (l : List Nat) : (s.resetWords l).free = s.free := by rw [State.resetWords_frame]
@[simp] theorem State.resetWords_pending (s : State) (l : List Nat) : (s.resetWords l).pending = s.pending := by rw [State.resetWords_frame]

end Sys2Proof.Machine
end

