-- ==== Sys2Proof/Laws/Packet.lean ====
section
/-! SUPPORT. What sending, replying, logging an event and completing a long operation can touch: the sessions, the record of
what left the block, the counts of the perturbations, and words of the QCP and PTB blocks. -/

namespace Sys2Proof.Machine

theorem State.qcpOnly_refl (s : State) : s.qcpOnly s := ⟨rfl, fun _ _ => rfl⟩

theorem State.qcpOnly_trans {s t u : State} (h : s.qcpOnly t) (g : t.qcpOnly u) : s.qcpOnly u := by
  refine ⟨?_, fun a ha => (g.2 a ha).trans (h.2 a ha)⟩
  rw [g.1, h.1]

theorem State.qcpOnly_wr {s : State} {off : Nat} (w : Word) (h : qcpWord off) : s.qcpOnly (s.wr off w) := by
  refine ⟨rfl, fun a ha => State.rd_wr_other _ _ ?_⟩
  rintro rfl
  exact ha h

theorem State.qcpOnly_put {s : State} {f : Fld} (n : Nat) (h : qcpWord f.addr) : s.qcpOnly (s.put f n) :=
  State.qcpOnly_wr _ h

theorem State.qcpOnly_count {s : State} {f : Fld} (n : Nat) (h : qcpWord f.addr) : s.qcpOnly (s.count f n) :=
  State.qcpOnly_wr _ h

theorem State.qcpOnly_puts {s : State} (l : List (Fld × Nat)) (h : ∀ p ∈ l, qcpWord p.1.addr) : s.qcpOnly (s.puts l) := by
  induction l generalizing s with
  | nil => exact s.qcpOnly_refl
  | cons p t ih =>
    rw [State.puts_cons]
    exact State.qcpOnly_trans (State.qcpOnly_put _ (h p (List.mem_cons_self ..))) (ih (fun q hq => h q (List.mem_cons_of_mem _ hq)))

theorem State.qcpOnly_wrWords {s : State} {off : Nat} (l : List Word)
    (h : ∀ i, i < l.length → qcpWord (off + 4 * i)) : s.qcpOnly (s.wrWords off l) := by
  induction l generalizing s off with
  | nil => exact s.qcpOnly_refl
  | cons w t ih =>
    refine State.qcpOnly_trans (State.qcpOnly_wr w (by simpa using h 0 (by simp))) (ih (fun i hi => ?_))
    have := h (i + 1) (by simpa using hi)
    rwa [show off + 4 * (i + 1) = off + 4 + 4 * i by omega] at this

/-! ## What a state so related keeps -/

theorem State.qcpOnly_get {s t : State} (h : s.qcpOnly t) {f : Fld} (hf : ¬ qcpWord f.addr) : t.get f = s.get f := by
  unfold State.get
  rw [h.2 _ hf]

theorem State.qcpOnly_flag {s t : State} (h : s.qcpOnly t) {f : Fld} (hf : ¬ qcpWord f.addr) : t.flag f = s.flag f := by
  unfold State.flag
  rw [State.qcpOnly_get h hf]

/-! ## Emission -/

theorem State.emitRaw_qcpOnly (s : State) (o : Out) : s.qcpOnly (s.emitRaw o) := ⟨rfl, fun _ _ => rfl⟩

theorem State.msiSince_qcpOnly (t s : State) : t.qcpOnly (t.msiSince s) := by
  unfold State.msiSince
  split
  · exact State.emitRaw_qcpOnly _ _
  · exact t.qcpOnly_refl

theorem State.emitDrop_qcpOnly (s : State) (o : Out) : s.qcpOnly (s.emitDrop o) := by
  unfold State.emitDrop
  split
  · split
    · split
      · refine State.qcpOnly_trans ?_ (State.emitRaw_qcpOnly _ _)
        refine State.qcpOnly_trans (t := { s with ptb := { s.ptb with drops := 0 } }) ⟨rfl, fun _ _ => rfl⟩ ?_
        exact State.qcpOnly_count _ (by unfold qcpWord; decide)
      · exact State.qcpOnly_trans (t := { s with ptb := { s.ptb with drops := s.ptb.drops + 1 } }) ⟨rfl, fun _ _ => rfl⟩
          (State.emitRaw_qcpOnly _ _)
    · exact State.emitRaw_qcpOnly _ _
  · exact State.emitRaw_qcpOnly _ _

theorem State.emit_qcpOnly (s : State) (o : Out) : s.qcpOnly (s.emit o) := by
  unfold State.emit
  split
  · exact State.emitDrop_qcpOnly _ _
  · simp only
    split
    · exact State.emitDrop_qcpOnly _ _
    · refine State.qcpOnly_trans (State.emitDrop_qcpOnly s o) ?_
      split
      · refine State.qcpOnly_trans ?_ (State.emitRaw_qcpOnly _ _)
        refine State.qcpOnly_trans (t := { s.emitDrop o with ptb := _ }) ⟨rfl, fun _ _ => rfl⟩ ?_
        exact State.qcpOnly_count _ (by unfold qcpWord; decide)
      · exact ⟨rfl, fun _ _ => rfl⟩

/-- Outside the ridge and with no CRC perturbation armed, what leaves is what was sent. -/
theorem State.emit_out (s : State) (o : Out) (h : s.get PTB_CRC.N = 0) (hr : ∀ f, o ≠ .ridge f) :
    s.emit o = s.emitRaw o := by
  unfold State.emit State.emitDrop
  cases o <;> simp_all <;> split <;> simp_all

/-! ## Packets -/

theorem State.modSess_qcpOnly (s : State) (r : Nat) (f : Session → Session) : s.qcpOnly (s.modSess r f) :=
  ⟨rfl, fun _ _ => rfl⟩

theorem State.sendReply_qcpOnly (s : State) (v : Via) (p : Packet) : s.qcpOnly (s.sendReply v p) := by
  unfold State.sendReply
  split
  · exact State.emit_qcpOnly _ _
  · rename_i m
    refine State.qcpOnly_trans (State.qcpOnly_trans (State.qcpOnly_trans (State.qcpOnly_wrWords _ ?_) (State.qcpOnly_puts _ ?_))
      (State.emit_qcpOnly _ _)) (State.msiSince_qcpOnly _ _)
    · intro i hi
      have : i < 2048 := lt_of_lt_of_le hi (List.length_take_le _ _)
      have := m.isLt
      unfold qcpWord mbReply
      omega
    · have := m.isLt
      simp only [List.mem_cons, List.not_mem_nil, or_false]
      rintro q (rfl | rfl | rfl) <;> unfold qcpWord <;> simp <;> omega

theorem State.sendEvent_qcpOnly (s : State) (v : Via) (p : Packet) : s.qcpOnly (s.sendEvent v p) := by
  unfold State.sendEvent
  split
  · exact State.emit_qcpOnly _ _
  · rename_i m
    refine State.qcpOnly_trans (State.qcpOnly_trans (State.qcpOnly_trans (State.qcpOnly_wrWords _ ?_) (State.qcpOnly_puts _ ?_))
      (State.emit_qcpOnly _ _)) (State.msiSince_qcpOnly _ _)
    · intro i hi
      have : i < 2048 := lt_of_lt_of_le hi (List.length_take_le _ _)
      have := m.isLt
      unfold qcpWord mbEvent
      omega
    · have := m.isLt
      simp only [List.mem_cons, List.not_mem_nil, or_false]
      rintro q (rfl | rfl) <;> unfold qcpWord <;> simp <;> omega

theorem State.reply_qcpOnly (s : State) (q : ReqHdr) (op status : Nat) (items : List Item) : s.qcpOnly (s.reply q op status items) :=
  State.qcpOnly_trans (State.modSess_qcpOnly _ _ _) (State.sendReply_qcpOnly _ _ _)

theorem State.errorReply_qcpOnly (s : State) (v : Via) (r : Nat) (seq : BitVec 32) (op status : Nat) :
    s.qcpOnly (s.errorReply v r seq op status) := by
  unfold State.errorReply
  dsimp only
  generalize hn : (List.find? (fun e : Via × Nat × Nat => e.1 == Via.source v && e.2.1 == s.cyc / sCyc) s.qcp.errBucket).elim 0
    (fun e => e.2.2) = n
  by_cases h : 10 ≤ n
  · rw [if_pos h]
    cases v with
    | udp => exact State.qcpOnly_count _ (by unfold qcpWord; decide)
    | mailbox m =>
      have := m.isLt
      refine State.qcpOnly_trans (State.qcpOnly_count _ (by unfold qcpWord; decide)) (State.qcpOnly_put _ ?_)
      unfold qcpWord
      simp
      omega
  · rw [if_neg h]
    refine State.qcpOnly_trans ?_ (State.sendReply_qcpOnly _ _ _)
    exact ⟨rfl, fun _ _ => rfl⟩

theorem State.logEvent_qcpOnly (s : State) (r : Nat) (v : Via) (items : List Item) (op : Nat := 0x0180) : s.qcpOnly (s.logEvent r v items op) := by
  unfold State.logEvent
  simp only
  split
  · exact State.qcpOnly_trans (State.modSess_qcpOnly _ _ _) (State.sendEvent_qcpOnly _ _ _)
  · exact State.modSess_qcpOnly _ _ _

theorem State.trimLog_qcpOnly (s : State) (r : Nat) : s.qcpOnly (s.trimLog r) := by
  unfold State.trimLog
  simp only
  split
  · exact s.qcpOnly_refl
  · split
    · exact State.modSess_qcpOnly _ _ _
    · exact State.qcpOnly_trans (State.modSess_qcpOnly _ _ _) (State.logEvent_qcpOnly _ _ _ _)

theorem State.event_qcpOnly (s : State) (r code subject : Nat) (x : List Item) : s.qcpOnly (s.event r code subject x) :=
  State.qcpOnly_trans (State.logEvent_qcpOnly _ _ _ _) (State.trimLog_qcpOnly _ _)

theorem State.eventOwner_qcpOnly (s : State) (code subject : Nat) (x : List Item) : s.qcpOnly (s.eventOwner code subject x) :=
  State.event_qcpOnly _ _ _ _ _

/-- A fold of steps that each keep to the QCP interpreter keeps to it. -/
theorem State.foldl_qcpOnly {α : Type} (f : State → α → State) (h : ∀ (s : State) (a : α), s.qcpOnly (f s a)) (l : List α) (s : State) :
    s.qcpOnly (l.foldl f s) := by
  induction l generalizing s with
  | nil => exact s.qcpOnly_refl
  | cons a t ih => exact State.qcpOnly_trans (h s a) (ih _)

theorem State.eventAll_qcpOnly (s : State) (code subject : Nat) (x : List Item) : s.qcpOnly (s.eventAll code subject x) := by
  unfold State.eventAll
  refine State.foldl_qcpOnly (fun (t : State) (r : Nat) => if (t.sess r).isOpen then t.event r code subject x else t) (fun t r => ?_) _ _
  by_cases h : (t.sess r).isOpen = true
  · rw [if_pos h]
    exact State.event_qcpOnly _ _ _ _ _
  · rw [if_neg h]
    exact t.qcpOnly_refl

theorem State.qcpCount_qcpOnly (s : State) : s.qcpOnly s.qcpCount := by
  refine State.qcpOnly_puts _ ?_
  simp only [List.mem_cons, List.not_mem_nil, or_false]
  rintro q (rfl | rfl | rfl) <;> unfold qcpWord <;> simp

theorem State.commitPoint_qcpOnly (s : State) (r : Nat) (seq : BitVec 32) : s.qcpOnly (s.commitPoint r seq) :=
  State.modSess_qcpOnly _ _ _

theorem State.complete_qcpOnly (s : State) (r : Nat) (seq : BitVec 32) (status : Nat) (items : List Item) :
    s.qcpOnly (s.complete r seq status items) := by
  unfold State.complete
  split
  · exact s.qcpOnly_refl
  · split
    · exact s.qcpOnly_refl
    · simp only
      exact State.qcpOnly_trans (State.qcpOnly_trans (State.qcpOnly_trans (State.modSess_qcpOnly _ _ _)
        (State.logEvent_qcpOnly _ _ _ _)) (State.trimLog_qcpOnly _ _)) (State.qcpCount_qcpOnly _)

theorem State.completeAll_qcpOnly (s : State) (op : Nat) (sub : Nat → Bool) (status : Nat) (items : List Item) :
    s.qcpOnly (s.completeAll op sub status items) :=
  State.foldl_qcpOnly _ (fun _ _ => State.complete_qcpOnly _ _ _ _ _) _ _

theorem State.commitAll_qcpOnly (s : State) (op : Nat) (sub : Nat → Bool) : s.qcpOnly (s.commitAll op sub) :=
  State.foldl_qcpOnly _ (fun _ _ => State.commitPoint_qcpOnly _ _ _) _ _

theorem State.notFresh_qcpOnly (s : State) (q : ReqHdr) (op : Nat) (c : Option (BitVec 32)) : s.qcpOnly (s.notFresh q op c) := by
  unfold State.notFresh
  have h (i : Nat) (hi : i < 12) (p : Packet) : s.qcpOnly ((s.count (QCP_ERRCNT.COUNT i)).sendReply q.via p) := by
    refine State.qcpOnly_trans (State.qcpOnly_count _ ?_) (State.sendReply_qcpOnly _ _ _)
    unfold qcpWord
    simp
    omega
  split
  · split
    · exact h 11 (by decide) _
    · exact h 6 (by decide) _
  · exact h 6 (by decide) _

end Sys2Proof.Machine
end

