-- ==== Sys2Proof/Laws/Request.lean ====
section
/-! SUPPORT. What a request does that meets its turn at once, and what its reply leaves behind. -/

namespace Sys2Proof.Machine

/-- The session of a number after a change of another or of its own. -/
theorem updAt_getD {α : Type} (l : List α) (n m : Nat) (f : α → α) (d : α) :
    (updAt l n f).getD m d = if n = m ∧ m < l.length then f (l.getD m d) else l.getD m d := by
  induction l generalizing n m with
  | nil => simp [updAt]
  | cons a t ih =>
    cases n with
    | zero => cases m <;> simp [updAt]
    | succ n =>
      cases m with
      | zero => simp [updAt]
      | succ m => simpa [updAt] using ih n m

theorem State.sess_modSess_other (s : State) {r k : Nat} (f : Session → Session) (h : r ≠ k) :
    (s.modSess r f).sess k = s.sess k := by
  unfold State.sess State.modSess
  rw [updAt_getD]
  simp [h]

theorem State.sess_modSess_same (s : State) {r : Nat} (f : Session → Session) (h : r < s.qcp.sess.length) :
    (s.modSess r f).sess r = f (s.sess r) := by
  unfold State.sess State.modSess
  rw [updAt_getD]
  simp [h]

/-- No self-test and no completed shutdown holds the requests of a block that serves. -/
theorem State.serves_testHolds {s : State} (h : s.serves) (op : Nat) : s.testHolds op = false := by
  simp [State.testHolds, h.2.1, h.2.2.1]

/-- A request that meets its turn on arrival runs its body once its sequence is accepted (R429, R432, R434). -/
theorem State.request_admits {s : State} {q : ReqHdr} (h : s.admits q) (op : Nat) (body : State → State) (args : List Operand) :
    s.request q op body args = body (s.taken q op) := by
  obtain ⟨hs, ho, hq, hf⟩ := h
  have ht : (s.taken q op).testHolds op = false := State.serves_testHolds hs op
  simp only [State.request, hs.1, hq, ho, hf, Bool.not_true, Bool.false_eq_true, if_false]
  show State.runRequest (s.taken q op) q op body = _
  rw [State.runRequest, if_neg (by simp [ht])]

/-! ## What the state of an admitted request shares with the state before -/

theorem State.taken_qcpOnly (s : State) (q : ReqHdr) (op : Nat) : s.qcpOnly (s.taken q op) := State.modSess_qcpOnly _ _ _

@[simp] theorem State.taken_regs (s : State) (q : ReqHdr) (op : Nat) : (s.taken q op).regs = s.regs := rfl
@[simp] theorem State.taken_out (s : State) (q : ReqHdr) (op : Nat) : (s.taken q op).out = s.out := rfl
@[simp] theorem State.taken_rd (s : State) (q : ReqHdr) (op a : Nat) : (s.taken q op).rd a = s.rd a := rfl
@[simp] theorem State.taken_get (s : State) (q : ReqHdr) (op : Nat) (f : Fld) : (s.taken q op).get f = s.get f := rfl
@[simp] theorem State.taken_flag (s : State) (q : ReqHdr) (op : Nat) (f : Fld) : (s.taken q op).flag f = s.flag f := rfl
@[simp] theorem State.taken_cutOf (s : State) (q : ReqHdr) (op : Nat) : (s.taken q op).cutOf = s.cutOf := rfl
@[simp] theorem State.taken_owner (s : State) (q : ReqHdr) (op : Nat) : (s.taken q op).owner = s.owner := rfl

theorem State.sess_taken (s : State) (q : ReqHdr) (op : Nat) (k : Nat) :
    (s.taken q op).sess k = if q.session.val = k ∧ k < s.qcp.sess.length then (s.sess k).accept q.seq op none s.cyc else s.sess k := by
  unfold State.sess State.taken State.modSess
  exact updAt_getD ..

/-- Accepting a sequence changes no key. -/
@[simp] theorem Session.accept_key (x : Session) (seq : BitVec 32) (op : Nat) (c : Option (BitVec 32)) (n : Nat) :
    (x.accept seq op c n).key = x.key := rfl

theorem replyPacket_taken (s : State) (q : ReqHdr) (op op2 st : Nat) (l : List Item) :
    replyPacket (s.taken q op) q op2 st l = replyPacket s q op2 st l := by
  unfold replyPacket
  rw [State.sess_taken]
  split <;> simp

/-! ## The reply -/

theorem State.msiSince_out (t s : State) : (t.msiSince s).out = t.out ∨ (t.msiSince s).out = t.out ++ [.msi] := by
  unfold State.msiSince
  split
  · exact .inr rfl
  · exact .inl rfl

theorem State.sendReply_sent (s : State) (v : Via) (p : Packet) (h : s.get PTB_CRC.N = 0) : s.sentOne (s.sendReply v p) v p := by
  unfold State.sendReply
  cases v with
  | udp a => exact ⟨[], by rw [State.emit_out _ _ h (by intros; simp)]; rfl, .inl rfl⟩
  | mailbox m =>
    dsimp only
    have key : (((s.wrWords (mbReply m.val) ((bytesWords p.bytes).take 2048)).puts
        [(QCP_MB_RLEN.RLEN m.val, p.size), (QCP_MB_CTRL.BUSY m.val, 0), (QCP_MB_CTRL.DONE m.val, 1)]).emit (.qcp (.mailbox m) p)).out
        = s.out ++ [.qcp (.mailbox m) p] := ?_
    · obtain e | e := State.msiSince_out (((s.wrWords (mbReply m.val) ((bytesWords p.bytes).take 2048)).puts
        [(QCP_MB_RLEN.RLEN m.val, p.size), (QCP_MB_CTRL.BUSY m.val, 0), (QCP_MB_CTRL.DONE m.val, 1)]).emit (.qcp (.mailbox m) p)) s
      · exact ⟨[], e.trans key, .inl rfl⟩
      · exact ⟨[.msi], by rw [e, key]; simp, .inr ⟨rfl, m, rfl⟩⟩
    rw [State.emit_out]
    · show (State.puts _ _).out ++ _ = _
      rw [State.puts_out, State.wrWords_out]
    · have hm := m.isLt
      rw [← h]
      refine State.qcpOnly_get (State.qcpOnly_trans (State.qcpOnly_wrWords _ ?_) (State.qcpOnly_puts _ ?_)) (by unfold qcpWord; decide)
      · intro i hi
        have : i < 2048 := lt_of_lt_of_le hi (List.length_take_le _ _)
        unfold qcpWord mbReply
        omega
      · simp only [List.mem_cons, List.not_mem_nil, or_false]
        rintro q (rfl | rfl | rfl) <;> unfold qcpWord <;> simp <;> omega
    · intros; simp

/-- A reply leaves as one packet on the request's transport (R423). -/
theorem State.reply_replied (s : State) (q : ReqHdr) (op st : Nat) (l : List Item) (h : s.get PTB_CRC.N = 0) :
    s.replied (s.reply q op st l) q op st l := State.sendReply_sent _ _ _ h

/-- A reply keeps every word outside the QCP interpreter's. -/
theorem State.reply_get (s : State) (q : ReqHdr) (op st : Nat) (l : List Item) {f : Fld} (hf : ¬ qcpWord f.addr) :
    (s.reply q op st l).get f = s.get f := State.qcpOnly_get (State.reply_qcpOnly ..) hf

end Sys2Proof.Machine
end

