-- ==== Sys2Proof/Laws/Replies.lean ====
section
/-! SUPPORT. The fields of the state that sending, replying, events and completions leave as they were. -/

namespace Sys2Proof.Machine

@[simp] theorem State.emit_clk (s : State) (o : Out) : (s.emit o).clk = s.clk := by rw [(State.emit_qcpOnly s o).1]
@[simp] theorem State.emit_cyc (s : State) (o : Out) : (s.emit o).cyc = s.cyc := by rw [(State.emit_qcpOnly s o).1]
@[simp] theorem State.emit_light (s : State) (o : Out) : (s.emit o).light = s.light := by rw [(State.emit_qcpOnly s o).1]
@[simp] theorem State.emit_grid (s : State) (o : Out) : (s.emit o).grid = s.grid := by rw [(State.emit_qcpOnly s o).1]
@[simp] theorem State.emit_pat (s : State) (o : Out) : (s.emit o).pat = s.pat := by rw [(State.emit_qcpOnly s o).1]
@[simp] theorem State.emit_rx (s : State) (o : Out) : (s.emit o).rx = s.rx := by rw [(State.emit_qcpOnly s o).1]
@[simp] theorem State.emit_phs (s : State) (o : Out) : (s.emit o).phs = s.phs := by rw [(State.emit_qcpOnly s o).1]
@[simp] theorem State.emit_dec (s : State) (o : Out) : (s.emit o).dec = s.dec := by rw [(State.emit_qcpOnly s o).1]
@[simp] theorem State.emit_ptp (s : State) (o : Out) : (s.emit o).ptp = s.ptp := by rw [(State.emit_qcpOnly s o).1]
@[simp] theorem State.emit_net (s : State) (o : Out) : (s.emit o).net = s.net := by rw [(State.emit_qcpOnly s o).1]
@[simp] theorem State.emit_tb (s : State) (o : Out) : (s.emit o).tb = s.tb := by rw [(State.emit_qcpOnly s o).1]
@[simp] theorem State.emit_ridge (s : State) (o : Out) : (s.emit o).ridge = s.ridge := by rw [(State.emit_qcpOnly s o).1]
@[simp] theorem State.emit_strm (s : State) (o : Out) : (s.emit o).strm = s.strm := by rw [(State.emit_qcpOnly s o).1]
@[simp] theorem State.emit_trg (s : State) (o : Out) : (s.emit o).trg = s.trg := by rw [(State.emit_qcpOnly s o).1]
@[simp] theorem State.emit_reed (s : State) (o : Out) : (s.emit o).reed = s.reed := by rw [(State.emit_qcpOnly s o).1]
@[simp] theorem State.emit_brl (s : State) (o : Out) : (s.emit o).brl = s.brl := by rw [(State.emit_qcpOnly s o).1]
@[simp] theorem State.emit_pair (s : State) (o : Out) : (s.emit o).pair = s.pair := by rw [(State.emit_qcpOnly s o).1]
@[simp] theorem State.emit_isl (s : State) (o : Out) : (s.emit o).isl = s.isl := by rw [(State.emit_qcpOnly s o).1]
@[simp] theorem State.emit_mon (s : State) (o : Out) : (s.emit o).mon = s.mon := by rw [(State.emit_qcpOnly s o).1]
@[simp] theorem State.emit_cal (s : State) (o : Out) : (s.emit o).cal = s.cal := by rw [(State.emit_qcpOnly s o).1]
@[simp] theorem State.emit_dmc (s : State) (o : Out) : (s.emit o).dmc = s.dmc := by rw [(State.emit_qcpOnly s o).1]
@[simp] theorem State.emit_keys (s : State) (o : Out) : (s.emit o).keys = s.keys := by rw [(State.emit_qcpOnly s o).1]
@[simp] theorem State.emit_tap (s : State) (o : Out) : (s.emit o).tap = s.tap := by rw [(State.emit_qcpOnly s o).1]
@[simp] theorem State.emit_shadows (s : State) (o : Out) : (s.emit o).shadows = s.shadows := by rw [(State.emit_qcpOnly s o).1]
@[simp] theorem State.emit_power (s : State) (o : Out) : (s.emit o).power = s.power := by rw [(State.emit_qcpOnly s o).1]
@[simp] theorem State.emit_free (s : State) (o : Out) : (s.emit o).free = s.free := by rw [(State.emit_qcpOnly s o).1]
@[simp] theorem State.emit_pending (s : State) (o : Out) : (s.emit o).pending = s.pending := by rw [(State.emit_qcpOnly s o).1]

theorem State.emit_rd (s : State) (o : Out) {a : Nat} (h : ¬ qcpWord a) : (s.emit o).rd a = s.rd a := (State.emit_qcpOnly s o).2 a h
theorem State.emit_get (s : State) (o : Out) {f : Fld} (h : ¬ qcpWord f.addr) : (s.emit o).get f = s.get f :=
  State.qcpOnly_get (State.emit_qcpOnly s o) h
theorem State.emit_flag (s : State) (o : Out) {f : Fld} (h : ¬ qcpWord f.addr) : (s.emit o).flag f = s.flag f :=
  State.qcpOnly_flag (State.emit_qcpOnly s o) h

@[simp] theorem State.reply_clk (s : State) (q : ReqHdr) (op st : Nat) (l : List Item) : (s.reply q op st l).clk = s.clk := by rw [(State.reply_qcpOnly s q op st l).1]
@[simp] theorem State.reply_cyc (s : State) (q : ReqHdr) (op st : Nat) (l : List Item) : (s.reply q op st l).cyc = s.cyc := by rw [(State.reply_qcpOnly s q op st l).1]
@[simp] theorem State.reply_light (s : State) (q : ReqHdr) (op st : Nat) (l : List Item) : (s.reply q op st l).light = s.light := by rw [(State.reply_qcpOnly s q op st l).1]
@[simp] theorem State.reply_grid (s : State) (q : ReqHdr) (op st : Nat) (l : List Item) : (s.reply q op st l).grid = s.grid := by rw [(State.reply_qcpOnly s q op st l).1]
@[simp] theorem State.reply_pat (s : State) (q : ReqHdr) (op st : Nat) (l : List Item) : (s.reply q op st l).pat = s.pat := by rw [(State.reply_qcpOnly s q op st l).1]
@[simp] theorem State.reply_rx (s : State) (q : ReqHdr) (op st : Nat) (l : List Item) : (s.reply q op st l).rx = s.rx := by rw [(State.reply_qcpOnly s q op st l).1]
@[simp] theorem State.reply_phs (s : State) (q : ReqHdr) (op st : Nat) (l : List Item) : (s.reply q op st l).phs = s.phs := by rw [(State.reply_qcpOnly s q op st l).1]
@[simp] theorem State.reply_dec (s : State) (q : ReqHdr) (op st : Nat) (l : List Item) : (s.reply q op st l).dec = s.dec := by rw [(State.reply_qcpOnly s q op st l).1]
@[simp] theorem State.reply_ptp (s : State) (q : ReqHdr) (op st : Nat) (l : List Item) : (s.reply q op st l).ptp = s.ptp := by rw [(State.reply_qcpOnly s q op st l).1]
@[simp] theorem State.reply_net (s : State) (q : ReqHdr) (op st : Nat) (l : List Item) : (s.reply q op st l).net = s.net := by rw [(State.reply_qcpOnly s q op st l).1]
@[simp] theorem State.reply_tb (s : State) (q : ReqHdr) (op st : Nat) (l : List Item) : (s.reply q op st l).tb = s.tb := by rw [(State.reply_qcpOnly s q op st l).1]
@[simp] theorem State.reply_ridge (s : State) (q : ReqHdr) (op st : Nat) (l : List Item) : (s.reply q op st l).ridge = s.ridge := by rw [(State.reply_qcpOnly s q op st l).1]
@[simp] theorem State.reply_strm (s : State) (q : ReqHdr) (op st : Nat) (l : List Item) : (s.reply q op st l).strm = s.strm := by rw [(State.reply_qcpOnly s q op st l).1]
@[simp] theorem State.reply_trg (s : State) (q : ReqHdr) (op st : Nat) (l : List Item) : (s.reply q op st l).trg = s.trg := by rw [(State.reply_qcpOnly s q op st l).1]
@[simp] theorem State.reply_reed (s : State) (q : ReqHdr) (op st : Nat) (l : List Item) : (s.reply q op st l).reed = s.reed := by rw [(State.reply_qcpOnly s q op st l).1]
@[simp] theorem State.reply_brl (s : State) (q : ReqHdr) (op st : Nat) (l : List Item) : (s.reply q op st l).brl = s.brl := by rw [(State.reply_qcpOnly s q op st l).1]
@[simp] theorem State.reply_pair (s : State) (q : ReqHdr) (op st : Nat) (l : List Item) : (s.reply q op st l).pair = s.pair := by rw [(State.reply_qcpOnly s q op st l).1]
@[simp] theorem State.reply_isl (s : State) (q : ReqHdr) (op st : Nat) (l : List Item) : (s.reply q op st l).isl = s.isl := by rw [(State.reply_qcpOnly s q op st l).1]
@[simp] theorem State.reply_mon (s : State) (q : ReqHdr) (op st : Nat) (l : List Item) : (s.reply q op st l).mon = s.mon := by rw [(State.reply_qcpOnly s q op st l).1]
@[simp] theorem State.reply_cal (s : State) (q : ReqHdr) (op st : Nat) (l : List Item) : (s.reply q op st l).cal = s.cal := by rw [(State.reply_qcpOnly s q op st l).1]
@[simp] theorem State.reply_dmc (s : State) (q : ReqHdr) (op st : Nat) (l : List Item) : (s.reply q op st l).dmc = s.dmc := by rw [(State.reply_qcpOnly s q op st l).1]
@[simp] theorem State.reply_keys (s : State) (q : ReqHdr) (op st : Nat) (l : List Item) : (s.reply q op st l).keys = s.keys := by rw [(State.reply_qcpOnly s q op st l).1]
@[simp] theorem State.reply_tap (s : State) (q : ReqHdr) (op st : Nat) (l : List Item) : (s.reply q op st l).tap = s.tap := by rw [(State.reply_qcpOnly s q op st l).1]
@[simp] theorem State.reply_shadows (s : State) (q : ReqHdr) (op st : Nat) (l : List Item) : (s.reply q op st l).shadows = s.shadows := by rw [(State.reply_qcpOnly s q op st l).1]
@[simp] theorem State.reply_power (s : State) (q : ReqHdr) (op st : Nat) (l : List Item) : (s.reply q op st l).power = s.power := by rw [(State.reply_qcpOnly s q op st l).1]
@[simp] theorem State.reply_free (s : State) (q : ReqHdr) (op st : Nat) (l : List Item) : (s.reply q op st l).free = s.free := by rw [(State.reply_qcpOnly s q op st l).1]
@[simp] theorem State.reply_pending (s : State) (q : ReqHdr) (op st : Nat) (l : List Item) : (s.reply q op st l).pending = s.pending := by rw [(State.reply_qcpOnly s q op st l).1]

theorem State.reply_rd (s : State) (q : ReqHdr) (op st : Nat) (l : List Item) {a : Nat} (h : ¬ qcpWord a) : (s.reply q op st l).rd a = s.rd a := (State.reply_qcpOnly s q op st l).2 a h
theorem State.reply_flag (s : State) (q : ReqHdr) (op st : Nat) (l : List Item) {f : Fld} (h : ¬ qcpWord f.addr) : (s.reply q op st l).flag f = s.flag f :=
  State.qcpOnly_flag (State.reply_qcpOnly s q op st l) h

@[simp] theorem State.sendReply_clk (s : State) (v : Via) (p : Packet) : (s.sendReply v p).clk = s.clk := by rw [(State.sendReply_qcpOnly s v p).1]
@[simp] theorem State.sendReply_cyc (s : State) (v : Via) (p : Packet) : (s.sendReply v p).cyc = s.cyc := by rw [(State.sendReply_qcpOnly s v p).1]
@[simp] theorem State.sendReply_light (s : State) (v : Via) (p : Packet) : (s.sendReply v p).light = s.light := by rw [(State.sendReply_qcpOnly s v p).1]
@[simp] theorem State.sendReply_grid (s : State) (v : Via) (p : Packet) : (s.sendReply v p).grid = s.grid := by rw [(State.sendReply_qcpOnly s v p).1]
@[simp] theorem State.sendReply_pat (s : State) (v : Via) (p : Packet) : (s.sendReply v p).pat = s.pat := by rw [(State.sendReply_qcpOnly s v p).1]
@[simp] theorem State.sendReply_rx (s : State) (v : Via) (p : Packet) : (s.sendReply v p).rx = s.rx := by rw [(State.sendReply_qcpOnly s v p).1]
@[simp] theorem State.sendReply_phs (s : State) (v : Via) (p : Packet) : (s.sendReply v p).phs = s.phs := by rw [(State.sendReply_qcpOnly s v p).1]
@[simp] theorem State.sendReply_dec (s : State) (v : Via) (p : Packet) : (s.sendReply v p).dec = s.dec := by rw [(State.sendReply_qcpOnly s v p).1]
@[simp] theorem State.sendReply_ptp (s : State) (v : Via) (p : Packet) : (s.sendReply v p).ptp = s.ptp := by rw [(State.sendReply_qcpOnly s v p).1]
@[simp] theorem State.sendReply_net (s : State) (v : Via) (p : Packet) : (s.sendReply v p).net = s.net := by rw [(State.sendReply_qcpOnly s v p).1]
@[simp] theorem State.sendReply_tb (s : State) (v : Via) (p : Packet) : (s.sendReply v p).tb = s.tb := by rw [(State.sendReply_qcpOnly s v p).1]
@[simp] theorem State.sendReply_ridge (s : State) (v : Via) (p : Packet) : (s.sendReply v p).ridge = s.ridge := by rw [(State.sendReply_qcpOnly s v p).1]
@[simp] theorem State.sendReply_strm (s : State) (v : Via) (p : Packet) : (s.sendReply v p).strm = s.strm := by rw [(State.sendReply_qcpOnly s v p).1]
@[simp] theorem State.sendReply_trg (s : State) (v : Via) (p : Packet) : (s.sendReply v p).trg = s.trg := by rw [(State.sendReply_qcpOnly s v p).1]
@[simp] theorem State.sendReply_reed (s : State) (v : Via) (p : Packet) : (s.sendReply v p).reed = s.reed := by rw [(State.sendReply_qcpOnly s v p).1]
@[simp] theorem State.sendReply_brl (s : State) (v : Via) (p : Packet) : (s.sendReply v p).brl = s.brl := by rw [(State.sendReply_qcpOnly s v p).1]
@[simp] theorem State.sendReply_pair (s : State) (v : Via) (p : Packet) : (s.sendReply v p).pair = s.pair := by rw [(State.sendReply_qcpOnly s v p).1]
@[simp] theorem State.sendReply_isl (s : State) (v : Via) (p : Packet) : (s.sendReply v p).isl = s.isl := by rw [(State.sendReply_qcpOnly s v p).1]
@[simp] theorem State.sendReply_mon (s : State) (v : Via) (p : Packet) : (s.sendReply v p).mon = s.mon := by rw [(State.sendReply_qcpOnly s v p).1]
@[simp] theorem State.sendReply_cal (s : State) (v : Via) (p : Packet) : (s.sendReply v p).cal = s.cal := by rw [(State.sendReply_qcpOnly s v p).1]
@[simp] theorem State.sendReply_dmc (s : State) (v : Via) (p : Packet) : (s.sendReply v p).dmc = s.dmc := by rw [(State.sendReply_qcpOnly s v p).1]
@[simp] theorem State.sendReply_keys (s : State) (v : Via) (p : Packet) : (s.sendReply v p).keys = s.keys := by rw [(State.sendReply_qcpOnly s v p).1]
@[simp] theorem State.sendReply_tap (s : State) (v : Via) (p : Packet) : (s.sendReply v p).tap = s.tap := by rw [(State.sendReply_qcpOnly s v p).1]
@[simp] theorem State.sendReply_shadows (s : State) (v : Via) (p : Packet) : (s.sendReply v p).shadows = s.shadows := by rw [(State.sendReply_qcpOnly s v p).1]
@[simp] theorem State.sendReply_power (s : State) (v : Via) (p : Packet) : (s.sendReply v p).power = s.power := by rw [(State.sendReply_qcpOnly s v p).1]
@[simp] theorem State.sendReply_free (s : State) (v : Via) (p : Packet) : (s.sendReply v p).free = s.free := by rw [(State.sendReply_qcpOnly s v p).1]
@[simp] theorem State.sendReply_pending (s : State) (v : Via) (p : Packet) : (s.sendReply v p).pending = s.pending := by rw [(State.sendReply_qcpOnly s v p).1]

theorem State.sendReply_rd (s : State) (v : Via) (p : Packet) {a : Nat} (h : ¬ qcpWord a) : (s.sendReply v p).rd a = s.rd a := (State.sendReply_qcpOnly s v p).2 a h
theorem State.sendReply_get (s : State) (v : Via) (p : Packet) {f : Fld} (h : ¬ qcpWord f.addr) : (s.sendReply v p).get f = s.get f :=
  State.qcpOnly_get (State.sendReply_qcpOnly s v p) h
theorem State.sendReply_flag (s : State) (v : Via) (p : Packet) {f : Fld} (h : ¬ qcpWord f.addr) : (s.sendReply v p).flag f = s.flag f :=
  State.qcpOnly_flag (State.sendReply_qcpOnly s v p) h

@[simp] theorem State.logEvent_clk (s : State) (r : Nat) (v : Via) (l : List Item) : (s.logEvent r v l).clk = s.clk := by rw [(State.logEvent_qcpOnly s r v l).1]
@[simp] theorem State.logEvent_cyc (s : State) (r : Nat) (v : Via) (l : List Item) : (s.logEvent r v l).cyc = s.cyc := by rw [(State.logEvent_qcpOnly s r v l).1]
@[simp] theorem State.logEvent_light (s : State) (r : Nat) (v : Via) (l : List Item) : (s.logEvent r v l).light = s.light := by rw [(State.logEvent_qcpOnly s r v l).1]
@[simp] theorem State.logEvent_grid (s : State) (r : Nat) (v : Via) (l : List Item) : (s.logEvent r v l).grid = s.grid := by rw [(State.logEvent_qcpOnly s r v l).1]
@[simp] theorem State.logEvent_pat (s : State) (r : Nat) (v : Via) (l : List Item) : (s.logEvent r v l).pat = s.pat := by rw [(State.logEvent_qcpOnly s r v l).1]
@[simp] theorem State.logEvent_rx (s : State) (r : Nat) (v : Via) (l : List Item) : (s.logEvent r v l).rx = s.rx := by rw [(State.logEvent_qcpOnly s r v l).1]
@[simp] theorem State.logEvent_phs (s : State) (r : Nat) (v : Via) (l : List Item) : (s.logEvent r v l).phs = s.phs := by rw [(State.logEvent_qcpOnly s r v l).1]
@[simp] theorem State.logEvent_dec (s : State) (r : Nat) (v : Via) (l : List Item) : (s.logEvent r v l).dec = s.dec := by rw [(State.logEvent_qcpOnly s r v l).1]
@[simp] theorem State.logEvent_ptp (s : State) (r : Nat) (v : Via) (l : List Item) : (s.logEvent r v l).ptp = s.ptp := by rw [(State.logEvent_qcpOnly s r v l).1]
@[simp] theorem State.logEvent_net (s : State) (r : Nat) (v : Via) (l : List Item) : (s.logEvent r v l).net = s.net := by rw [(State.logEvent_qcpOnly s r v l).1]
@[simp] theorem State.logEvent_tb (s : State) (r : Nat) (v : Via) (l : List Item) : (s.logEvent r v l).tb = s.tb := by rw [(State.logEvent_qcpOnly s r v l).1]
@[simp] theorem State.logEvent_ridge (s : State) (r : Nat) (v : Via) (l : List Item) : (s.logEvent r v l).ridge = s.ridge := by rw [(State.logEvent_qcpOnly s r v l).1]
@[simp] theorem State.logEvent_strm (s : State) (r : Nat) (v : Via) (l : List Item) : (s.logEvent r v l).strm = s.strm := by rw [(State.logEvent_qcpOnly s r v l).1]
@[simp] theorem State.logEvent_trg (s : State) (r : Nat) (v : Via) (l : List Item) : (s.logEvent r v l).trg = s.trg := by rw [(State.logEvent_qcpOnly s r v l).1]
@[simp] theorem State.logEvent_reed (s : State) (r : Nat) (v : Via) (l : List Item) : (s.logEvent r v l).reed = s.reed := by rw [(State.logEvent_qcpOnly s r v l).1]
@[simp] theorem State.logEvent_brl (s : State) (r : Nat) (v : Via) (l : List Item) : (s.logEvent r v l).brl = s.brl := by rw [(State.logEvent_qcpOnly s r v l).1]
@[simp] theorem State.logEvent_pair (s : State) (r : Nat) (v : Via) (l : List Item) : (s.logEvent r v l).pair = s.pair := by rw [(State.logEvent_qcpOnly s r v l).1]
@[simp] theorem State.logEvent_isl (s : State) (r : Nat) (v : Via) (l : List Item) : (s.logEvent r v l).isl = s.isl := by rw [(State.logEvent_qcpOnly s r v l).1]
@[simp] theorem State.logEvent_mon (s : State) (r : Nat) (v : Via) (l : List Item) : (s.logEvent r v l).mon = s.mon := by rw [(State.logEvent_qcpOnly s r v l).1]
@[simp] theorem State.logEvent_cal (s : State) (r : Nat) (v : Via) (l : List Item) : (s.logEvent r v l).cal = s.cal := by rw [(State.logEvent_qcpOnly s r v l).1]
@[simp] theorem State.logEvent_dmc (s : State) (r : Nat) (v : Via) (l : List Item) : (s.logEvent r v l).dmc = s.dmc := by rw [(State.logEvent_qcpOnly s r v l).1]
@[simp] theorem State.logEvent_keys (s : State) (r : Nat) (v : Via) (l : List Item) : (s.logEvent r v l).keys = s.keys := by rw [(State.logEvent_qcpOnly s r v l).1]
@[simp] theorem State.logEvent_tap (s : State) (r : Nat) (v : Via) (l : List Item) : (s.logEvent r v l).tap = s.tap := by rw [(State.logEvent_qcpOnly s r v l).1]
@[simp] theorem State.logEvent_shadows (s : State) (r : Nat) (v : Via) (l : List Item) : (s.logEvent r v l).shadows = s.shadows := by rw [(State.logEvent_qcpOnly s r v l).1]
@[simp] theorem State.logEvent_power (s : State) (r : Nat) (v : Via) (l : List Item) : (s.logEvent r v l).power = s.power := by rw [(State.logEvent_qcpOnly s r v l).1]
@[simp] theorem State.logEvent_free (s : State) (r : Nat) (v : Via) (l : List Item) : (s.logEvent r v l).free = s.free := by rw [(State.logEvent_qcpOnly s r v l).1]
@[simp] theorem State.logEvent_pending (s : State) (r : Nat) (v : Via) (l : List Item) : (s.logEvent r v l).pending = s.pending := by rw [(State.logEvent_qcpOnly s r v l).1]

theorem State.logEvent_rd (s : State) (r : Nat) (v : Via) (l : List Item) {a : Nat} (h : ¬ qcpWord a) : (s.logEvent r v l).rd a = s.rd a := (State.logEvent_qcpOnly s r v l).2 a h
theorem State.logEvent_get (s : State) (r : Nat) (v : Via) (l : List Item) {f : Fld} (h : ¬ qcpWord f.addr) : (s.logEvent r v l).get f = s.get f :=
  State.qcpOnly_get (State.logEvent_qcpOnly s r v l) h
theorem State.logEvent_flag (s : State) (r : Nat) (v : Via) (l : List Item) {f : Fld} (h : ¬ qcpWord f.addr) : (s.logEvent r v l).flag f = s.flag f :=
  State.qcpOnly_flag (State.logEvent_qcpOnly s r v l) h

@[simp] theorem State.event_clk (s : State) (r c n : Nat) (l : List Item) : (s.event r c n l).clk = s.clk := by rw [(State.event_qcpOnly s r c n l).1]
@[simp] theorem State.event_cyc (s : State) (r c n : Nat) (l : List Item) : (s.event r c n l).cyc = s.cyc := by rw [(State.event_qcpOnly s r c n l).1]
@[simp] theorem State.event_light (s : State) (r c n : Nat) (l : List Item) : (s.event r c n l).light = s.light := by rw [(State.event_qcpOnly s r c n l).1]
@[simp] theorem State.event_grid (s : State) (r c n : Nat) (l : List Item) : (s.event r c n l).grid = s.grid := by rw [(State.event_qcpOnly s r c n l).1]
@[simp] theorem State.event_pat (s : State) (r c n : Nat) (l : List Item) : (s.event r c n l).pat = s.pat := by rw [(State.event_qcpOnly s r c n l).1]
@[simp] theorem State.event_rx (s : State) (r c n : Nat) (l : List Item) : (s.event r c n l).rx = s.rx := by rw [(State.event_qcpOnly s r c n l).1]
@[simp] theorem State.event_phs (s : State) (r c n : Nat) (l : List Item) : (s.event r c n l).phs = s.phs := by rw [(State.event_qcpOnly s r c n l).1]
@[simp] theorem State.event_dec (s : State) (r c n : Nat) (l : List Item) : (s.event r c n l).dec = s.dec := by rw [(State.event_qcpOnly s r c n l).1]
@[simp] theorem State.event_ptp (s : State) (r c n : Nat) (l : List Item) : (s.event r c n l).ptp = s.ptp := by rw [(State.event_qcpOnly s r c n l).1]
@[simp] theorem State.event_net (s : State) (r c n : Nat) (l : List Item) : (s.event r c n l).net = s.net := by rw [(State.event_qcpOnly s r c n l).1]
@[simp] theorem State.event_tb (s : State) (r c n : Nat) (l : List Item) : (s.event r c n l).tb = s.tb := by rw [(State.event_qcpOnly s r c n l).1]
@[simp] theorem State.event_ridge (s : State) (r c n : Nat) (l : List Item) : (s.event r c n l).ridge = s.ridge := by rw [(State.event_qcpOnly s r c n l).1]
@[simp] theorem State.event_strm (s : State) (r c n : Nat) (l : List Item) : (s.event r c n l).strm = s.strm := by rw [(State.event_qcpOnly s r c n l).1]
@[simp] theorem State.event_trg (s : State) (r c n : Nat) (l : List Item) : (s.event r c n l).trg = s.trg := by rw [(State.event_qcpOnly s r c n l).1]
@[simp] theorem State.event_reed (s : State) (r c n : Nat) (l : List Item) : (s.event r c n l).reed = s.reed := by rw [(State.event_qcpOnly s r c n l).1]
@[simp] theorem State.event_brl (s : State) (r c n : Nat) (l : List Item) : (s.event r c n l).brl = s.brl := by rw [(State.event_qcpOnly s r c n l).1]
@[simp] theorem State.event_pair (s : State) (r c n : Nat) (l : List Item) : (s.event r c n l).pair = s.pair := by rw [(State.event_qcpOnly s r c n l).1]
@[simp] theorem State.event_isl (s : State) (r c n : Nat) (l : List Item) : (s.event r c n l).isl = s.isl := by rw [(State.event_qcpOnly s r c n l).1]
@[simp] theorem State.event_mon (s : State) (r c n : Nat) (l : List Item) : (s.event r c n l).mon = s.mon := by rw [(State.event_qcpOnly s r c n l).1]
@[simp] theorem State.event_cal (s : State) (r c n : Nat) (l : List Item) : (s.event r c n l).cal = s.cal := by rw [(State.event_qcpOnly s r c n l).1]
@[simp] theorem State.event_dmc (s : State) (r c n : Nat) (l : List Item) : (s.event r c n l).dmc = s.dmc := by rw [(State.event_qcpOnly s r c n l).1]
@[simp] theorem State.event_keys (s : State) (r c n : Nat) (l : List Item) : (s.event r c n l).keys = s.keys := by rw [(State.event_qcpOnly s r c n l).1]
@[simp] theorem State.event_tap (s : State) (r c n : Nat) (l : List Item) : (s.event r c n l).tap = s.tap := by rw [(State.event_qcpOnly s r c n l).1]
@[simp] theorem State.event_shadows (s : State) (r c n : Nat) (l : List Item) : (s.event r c n l).shadows = s.shadows := by rw [(State.event_qcpOnly s r c n l).1]
@[simp] theorem State.event_power (s : State) (r c n : Nat) (l : List Item) : (s.event r c n l).power = s.power := by rw [(State.event_qcpOnly s r c n l).1]
@[simp] theorem State.event_free (s : State) (r c n : Nat) (l : List Item) : (s.event r c n l).free = s.free := by rw [(State.event_qcpOnly s r c n l).1]
@[simp] theorem State.event_pending (s : State) (r c n : Nat) (l : List Item) : (s.event r c n l).pending = s.pending := by rw [(State.event_qcpOnly s r c n l).1]

theorem State.event_rd (s : State) (r c n : Nat) (l : List Item) {a : Nat} (h : ¬ qcpWord a) : (s.event r c n l).rd a = s.rd a := (State.event_qcpOnly s r c n l).2 a h
theorem State.event_get (s : State) (r c n : Nat) (l : List Item) {f : Fld} (h : ¬ qcpWord f.addr) : (s.event r c n l).get f = s.get f :=
  State.qcpOnly_get (State.event_qcpOnly s r c n l) h
theorem State.event_flag (s : State) (r c n : Nat) (l : List Item) {f : Fld} (h : ¬ qcpWord f.addr) : (s.event r c n l).flag f = s.flag f :=
  State.qcpOnly_flag (State.event_qcpOnly s r c n l) h

@[simp] theorem State.eventOwner_clk (s : State) (c n : Nat) (l : List Item) : (s.eventOwner c n l).clk = s.clk := by rw [(State.eventOwner_qcpOnly s c n l).1]
@[simp] theorem State.eventOwner_cyc (s : State) (c n : Nat) (l : List Item) : (s.eventOwner c n l).cyc = s.cyc := by rw [(State.eventOwner_qcpOnly s c n l).1]
@[simp] theorem State.eventOwner_light (s : State) (c n : Nat) (l : List Item) : (s.eventOwner c n l).light = s.light := by rw [(State.eventOwner_qcpOnly s c n l).1]
@[simp] theorem State.eventOwner_grid (s : State) (c n : Nat) (l : List Item) : (s.eventOwner c n l).grid = s.grid := by rw [(State.eventOwner_qcpOnly s c n l).1]
@[simp] theorem State.eventOwner_pat (s : State) (c n : Nat) (l : List Item) : (s.eventOwner c n l).pat = s.pat := by rw [(State.eventOwner_qcpOnly s c n l).1]
@[simp] theorem State.eventOwner_rx (s : State) (c n : Nat) (l : List Item) : (s.eventOwner c n l).rx = s.rx := by rw [(State.eventOwner_qcpOnly s c n l).1]
@[simp] theorem State.eventOwner_phs (s : State) (c n : Nat) (l : List Item) : (s.eventOwner c n l).phs = s.phs := by rw [(State.eventOwner_qcpOnly s c n l).1]
@[simp] theorem State.eventOwner_dec (s : State) (c n : Nat) (l : List Item) : (s.eventOwner c n l).dec = s.dec := by rw [(State.eventOwner_qcpOnly s c n l).1]
@[simp] theorem State.eventOwner_ptp (s : State) (c n : Nat) (l : List Item) : (s.eventOwner c n l).ptp = s.ptp := by rw [(State.eventOwner_qcpOnly s c n l).1]
@[simp] theorem State.eventOwner_net (s : State) (c n : Nat) (l : List Item) : (s.eventOwner c n l).net = s.net := by rw [(State.eventOwner_qcpOnly s c n l).1]
@[simp] theorem State.eventOwner_tb (s : State) (c n : Nat) (l : List Item) : (s.eventOwner c n l).tb = s.tb := by rw [(State.eventOwner_qcpOnly s c n l).1]
@[simp] theorem State.eventOwner_ridge (s : State) (c n : Nat) (l : List Item) : (s.eventOwner c n l).ridge = s.ridge := by rw [(State.eventOwner_qcpOnly s c n l).1]
@[simp] theorem State.eventOwner_strm (s : State) (c n : Nat) (l : List Item) : (s.eventOwner c n l).strm = s.strm := by rw [(State.eventOwner_qcpOnly s c n l).1]
@[simp] theorem State.eventOwner_trg (s : State) (c n : Nat) (l : List Item) : (s.eventOwner c n l).trg = s.trg := by rw [(State.eventOwner_qcpOnly s c n l).1]
@[simp] theorem State.eventOwner_reed (s : State) (c n : Nat) (l : List Item) : (s.eventOwner c n l).reed = s.reed := by rw [(State.eventOwner_qcpOnly s c n l).1]
@[simp] theorem State.eventOwner_brl (s : State) (c n : Nat) (l : List Item) : (s.eventOwner c n l).brl = s.brl := by rw [(State.eventOwner_qcpOnly s c n l).1]
@[simp] theorem State.eventOwner_pair (s : State) (c n : Nat) (l : List Item) : (s.eventOwner c n l).pair = s.pair := by rw [(State.eventOwner_qcpOnly s c n l).1]
@[simp] theorem State.eventOwner_isl (s : State) (c n : Nat) (l : List Item) : (s.eventOwner c n l).isl = s.isl := by rw [(State.eventOwner_qcpOnly s c n l).1]
@[simp] theorem State.eventOwner_mon (s : State) (c n : Nat) (l : List Item) : (s.eventOwner c n l).mon = s.mon := by rw [(State.eventOwner_qcpOnly s c n l).1]
@[simp] theorem State.eventOwner_cal (s : State) (c n : Nat) (l : List Item) : (s.eventOwner c n l).cal = s.cal := by rw [(State.eventOwner_qcpOnly s c n l).1]
@[simp] theorem State.eventOwner_dmc (s : State) (c n : Nat) (l : List Item) : (s.eventOwner c n l).dmc = s.dmc := by rw [(State.eventOwner_qcpOnly s c n l).1]
@[simp] theorem State.eventOwner_keys (s : State) (c n : Nat) (l : List Item) : (s.eventOwner c n l).keys = s.keys := by rw [(State.eventOwner_qcpOnly s c n l).1]
@[simp] theorem State.eventOwner_tap (s : State) (c n : Nat) (l : List Item) : (s.eventOwner c n l).tap = s.tap := by rw [(State.eventOwner_qcpOnly s c n l).1]
@[simp] theorem State.eventOwner_shadows (s : State) (c n : Nat) (l : List Item) : (s.eventOwner c n l).shadows = s.shadows := by rw [(State.eventOwner_qcpOnly s c n l).1]
@[simp] theorem State.eventOwner_power (s : State) (c n : Nat) (l : List Item) : (s.eventOwner c n l).power = s.power := by rw [(State.eventOwner_qcpOnly s c n l).1]
@[simp] theorem State.eventOwner_free (s : State) (c n : Nat) (l : List Item) : (s.eventOwner c n l).free = s.free := by rw [(State.eventOwner_qcpOnly s c n l).1]
@[simp] theorem State.eventOwner_pending (s : State) (c n : Nat) (l : List Item) : (s.eventOwner c n l).pending = s.pending := by rw [(State.eventOwner_qcpOnly s c n l).1]

theorem State.eventOwner_rd (s : State) (c n : Nat) (l : List Item) {a : Nat} (h : ¬ qcpWord a) : (s.eventOwner c n l).rd a = s.rd a := (State.eventOwner_qcpOnly s c n l).2 a h
theorem State.eventOwner_get (s : State) (c n : Nat) (l : List Item) {f : Fld} (h : ¬ qcpWord f.addr) : (s.eventOwner c n l).get f = s.get f :=
  State.qcpOnly_get (State.eventOwner_qcpOnly s c n l) h
theorem State.eventOwner_flag (s : State) (c n : Nat) (l : List Item) {f : Fld} (h : ¬ qcpWord f.addr) : (s.eventOwner c n l).flag f = s.flag f :=
  State.qcpOnly_flag (State.eventOwner_qcpOnly s c n l) h

@[simp] theorem State.eventAll_clk (s : State) (c n : Nat) (l : List Item) : (s.eventAll c n l).clk = s.clk := by rw [(State.eventAll_qcpOnly s c n l).1]
@[simp] theorem State.eventAll_cyc (s : State) (c n : Nat) (l : List Item) : (s.eventAll c n l).cyc = s.cyc := by rw [(State.eventAll_qcpOnly s c n l).1]
@[simp] theorem State.eventAll_light (s : State) (c n : Nat) (l : List Item) : (s.eventAll c n l).light = s.light := by rw [(State.eventAll_qcpOnly s c n l).1]
@[simp] theorem State.eventAll_grid (s : State) (c n : Nat) (l : List Item) : (s.eventAll c n l).grid = s.grid := by rw [(State.eventAll_qcpOnly s c n l).1]
@[simp] theorem State.eventAll_pat (s : State) (c n : Nat) (l : List Item) : (s.eventAll c n l).pat = s.pat := by rw [(State.eventAll_qcpOnly s c n l).1]
@[simp] theorem State.eventAll_rx (s : State) (c n : Nat) (l : List Item) : (s.eventAll c n l).rx = s.rx := by rw [(State.eventAll_qcpOnly s c n l).1]
@[simp] theorem State.eventAll_phs (s : State) (c n : Nat) (l : List Item) : (s.eventAll c n l).phs = s.phs := by rw [(State.eventAll_qcpOnly s c n l).1]
@[simp] theorem State.eventAll_dec (s : State) (c n : Nat) (l : List Item) : (s.eventAll c n l).dec = s.dec := by rw [(State.eventAll_qcpOnly s c n l).1]
@[simp] theorem State.eventAll_ptp (s : State) (c n : Nat) (l : List Item) : (s.eventAll c n l).ptp = s.ptp := by rw [(State.eventAll_qcpOnly s c n l).1]
@[simp] theorem State.eventAll_net (s : State) (c n : Nat) (l : List Item) : (s.eventAll c n l).net = s.net := by rw [(State.eventAll_qcpOnly s c n l).1]
@[simp] theorem State.eventAll_tb (s : State) (c n : Nat) (l : List Item) : (s.eventAll c n l).tb = s.tb := by rw [(State.eventAll_qcpOnly s c n l).1]
@[simp] theorem State.eventAll_ridge (s : State) (c n : Nat) (l : List Item) : (s.eventAll c n l).ridge = s.ridge := by rw [(State.eventAll_qcpOnly s c n l).1]
@[simp] theorem State.eventAll_strm (s : State) (c n : Nat) (l : List Item) : (s.eventAll c n l).strm = s.strm := by rw [(State.eventAll_qcpOnly s c n l).1]
@[simp] theorem State.eventAll_trg (s : State) (c n : Nat) (l : List Item) : (s.eventAll c n l).trg = s.trg := by rw [(State.eventAll_qcpOnly s c n l).1]
@[simp] theorem State.eventAll_reed (s : State) (c n : Nat) (l : List Item) : (s.eventAll c n l).reed = s.reed := by rw [(State.eventAll_qcpOnly s c n l).1]
@[simp] theorem State.eventAll_brl (s : State) (c n : Nat) (l : List Item) : (s.eventAll c n l).brl = s.brl := by rw [(State.eventAll_qcpOnly s c n l).1]
@[simp] theorem State.eventAll_pair (s : State) (c n : Nat) (l : List Item) : (s.eventAll c n l).pair = s.pair := by rw [(State.eventAll_qcpOnly s c n l).1]
@[simp] theorem State.eventAll_isl (s : State) (c n : Nat) (l : List Item) : (s.eventAll c n l).isl = s.isl := by rw [(State.eventAll_qcpOnly s c n l).1]
@[simp] theorem State.eventAll_mon (s : State) (c n : Nat) (l : List Item) : (s.eventAll c n l).mon = s.mon := by rw [(State.eventAll_qcpOnly s c n l).1]
@[simp] theorem State.eventAll_cal (s : State) (c n : Nat) (l : List Item) : (s.eventAll c n l).cal = s.cal := by rw [(State.eventAll_qcpOnly s c n l).1]
@[simp] theorem State.eventAll_dmc (s : State) (c n : Nat) (l : List Item) : (s.eventAll c n l).dmc = s.dmc := by rw [(State.eventAll_qcpOnly s c n l).1]
@[simp] theorem State.eventAll_keys (s : State) (c n : Nat) (l : List Item) : (s.eventAll c n l).keys = s.keys := by rw [(State.eventAll_qcpOnly s c n l).1]
@[simp] theorem State.eventAll_tap (s : State) (c n : Nat) (l : List Item) : (s.eventAll c n l).tap = s.tap := by rw [(State.eventAll_qcpOnly s c n l).1]
@[simp] theorem State.eventAll_shadows (s : State) (c n : Nat) (l : List Item) : (s.eventAll c n l).shadows = s.shadows := by rw [(State.eventAll_qcpOnly s c n l).1]
@[simp] theorem State.eventAll_power (s : State) (c n : Nat) (l : List Item) : (s.eventAll c n l).power = s.power := by rw [(State.eventAll_qcpOnly s c n l).1]
@[simp] theorem State.eventAll_free (s : State) (c n : Nat) (l : List Item) : (s.eventAll c n l).free = s.free := by rw [(State.eventAll_qcpOnly s c n l).1]
@[simp] theorem State.eventAll_pending (s : State) (c n : Nat) (l : List Item) : (s.eventAll c n l).pending = s.pending := by rw [(State.eventAll_qcpOnly s c n l).1]

theorem State.eventAll_rd (s : State) (c n : Nat) (l : List Item) {a : Nat} (h : ¬ qcpWord a) : (s.eventAll c n l).rd a = s.rd a := (State.eventAll_qcpOnly s c n l).2 a h
theorem State.eventAll_get (s : State) (c n : Nat) (l : List Item) {f : Fld} (h : ¬ qcpWord f.addr) : (s.eventAll c n l).get f = s.get f :=
  State.qcpOnly_get (State.eventAll_qcpOnly s c n l) h
theorem State.eventAll_flag (s : State) (c n : Nat) (l : List Item) {f : Fld} (h : ¬ qcpWord f.addr) : (s.eventAll c n l).flag f = s.flag f :=
  State.qcpOnly_flag (State.eventAll_qcpOnly s c n l) h

@[simp] theorem State.complete_clk (s : State) (r : Nat) (q : BitVec 32) (st : Nat) (l : List Item) : (s.complete r q st l).clk = s.clk := by rw [(State.complete_qcpOnly s r q st l).1]
@[simp] theorem State.complete_cyc (s : State) (r : Nat) (q : BitVec 32) (st : Nat) (l : List Item) : (s.complete r q st l).cyc = s.cyc := by rw [(State.complete_qcpOnly s r q st l).1]
@[simp] theorem State.complete_light (s : State) (r : Nat) (q : BitVec 32) (st : Nat) (l : List Item) : (s.complete r q st l).light = s.light := by rw [(State.complete_qcpOnly s r q st l).1]
@[simp] theorem State.complete_grid (s : State) (r : Nat) (q : BitVec 32) (st : Nat) (l : List Item) : (s.complete r q st l).grid = s.grid := by rw [(State.complete_qcpOnly s r q st l).1]
@[simp] theorem State.complete_pat (s : State) (r : Nat) (q : BitVec 32) (st : Nat) (l : List Item) : (s.complete r q st l).pat = s.pat := by rw [(State.complete_qcpOnly s r q st l).1]
@[simp] theorem State.complete_rx (s : State) (r : Nat) (q : BitVec 32) (st : Nat) (l : List Item) : (s.complete r q st l).rx = s.rx := by rw [(State.complete_qcpOnly s r q st l).1]
@[simp] theorem State.complete_phs (s : State) (r : Nat) (q : BitVec 32) (st : Nat) (l : List Item) : (s.complete r q st l).phs = s.phs := by rw [(State.complete_qcpOnly s r q st l).1]
@[simp] theorem State.complete_dec (s : State) (r : Nat) (q : BitVec 32) (st : Nat) (l : List Item) : (s.complete r q st l).dec = s.dec := by rw [(State.complete_qcpOnly s r q st l).1]
@[simp] theorem State.complete_ptp (s : State) (r : Nat) (q : BitVec 32) (st : Nat) (l : List Item) : (s.complete r q st l).ptp = s.ptp := by rw [(State.complete_qcpOnly s r q st l).1]
@[simp] theorem State.complete_net (s : State) (r : Nat) (q : BitVec 32) (st : Nat) (l : List Item) : (s.complete r q st l).net = s.net := by rw [(State.complete_qcpOnly s r q st l).1]
@[simp] theorem State.complete_tb (s : State) (r : Nat) (q : BitVec 32) (st : Nat) (l : List Item) : (s.complete r q st l).tb = s.tb := by rw [(State.complete_qcpOnly s r q st l).1]
@[simp] theorem State.complete_ridge (s : State) (r : Nat) (q : BitVec 32) (st : Nat) (l : List Item) : (s.complete r q st l).ridge = s.ridge := by rw [(State.complete_qcpOnly s r q st l).1]
@[simp] theorem State.complete_strm (s : State) (r : Nat) (q : BitVec 32) (st : Nat) (l : List Item) : (s.complete r q st l).strm = s.strm := by rw [(State.complete_qcpOnly s r q st l).1]
@[simp] theorem State.complete_trg (s : State) (r : Nat) (q : BitVec 32) (st : Nat) (l : List Item) : (s.complete r q st l).trg = s.trg := by rw [(State.complete_qcpOnly s r q st l).1]
@[simp] theorem State.complete_reed (s : State) (r : Nat) (q : BitVec 32) (st : Nat) (l : List Item) : (s.complete r q st l).reed = s.reed := by rw [(State.complete_qcpOnly s r q st l).1]
@[simp] theorem State.complete_brl (s : State) (r : Nat) (q : BitVec 32) (st : Nat) (l : List Item) : (s.complete r q st l).brl = s.brl := by rw [(State.complete_qcpOnly s r q st l).1]
@[simp] theorem State.complete_pair (s : State) (r : Nat) (q : BitVec 32) (st : Nat) (l : List Item) : (s.complete r q st l).pair = s.pair := by rw [(State.complete_qcpOnly s r q st l).1]
@[simp] theorem State.complete_isl (s : State) (r : Nat) (q : BitVec 32) (st : Nat) (l : List Item) : (s.complete r q st l).isl = s.isl := by rw [(State.complete_qcpOnly s r q st l).1]
@[simp] theorem State.complete_mon (s : State) (r : Nat) (q : BitVec 32) (st : Nat) (l : List Item) : (s.complete r q st l).mon = s.mon := by rw [(State.complete_qcpOnly s r q st l).1]
@[simp] theorem State.complete_cal (s : State) (r : Nat) (q : BitVec 32) (st : Nat) (l : List Item) : (s.complete r q st l).cal = s.cal := by rw [(State.complete_qcpOnly s r q st l).1]
@[simp] theorem State.complete_dmc (s : State) (r : Nat) (q : BitVec 32) (st : Nat) (l : List Item) : (s.complete r q st l).dmc = s.dmc := by rw [(State.complete_qcpOnly s r q st l).1]
@[simp] theorem State.complete_keys (s : State) (r : Nat) (q : BitVec 32) (st : Nat) (l : List Item) : (s.complete r q st l).keys = s.keys := by rw [(State.complete_qcpOnly s r q st l).1]
@[simp] theorem State.complete_tap (s : State) (r : Nat) (q : BitVec 32) (st : Nat) (l : List Item) : (s.complete r q st l).tap = s.tap := by rw [(State.complete_qcpOnly s r q st l).1]
@[simp] theorem State.complete_shadows (s : State) (r : Nat) (q : BitVec 32) (st : Nat) (l : List Item) : (s.complete r q st l).shadows = s.shadows := by rw [(State.complete_qcpOnly s r q st l).1]
@[simp] theorem State.complete_power (s : State) (r : Nat) (q : BitVec 32) (st : Nat) (l : List Item) : (s.complete r q st l).power = s.power := by rw [(State.complete_qcpOnly s r q st l).1]
@[simp] theorem State.complete_free (s : State) (r : Nat) (q : BitVec 32) (st : Nat) (l : List Item) : (s.complete r q st l).free = s.free := by rw [(State.complete_qcpOnly s r q st l).1]
@[simp] theorem State.complete_pending (s : State) (r : Nat) (q : BitVec 32) (st : Nat) (l : List Item) : (s.complete r q st l).pending = s.pending := by rw [(State.complete_qcpOnly s r q st l).1]

theorem State.complete_rd (s : State) (r : Nat) (q : BitVec 32) (st : Nat) (l : List Item) {a : Nat} (h : ¬ qcpWord a) : (s.complete r q st l).rd a = s.rd a := (State.complete_qcpOnly s r q st l).2 a h
theorem State.complete_get (s : State) (r : Nat) (q : BitVec 32) (st : Nat) (l : List Item) {f : Fld} (h : ¬ qcpWord f.addr) : (s.complete r q st l).get f = s.get f :=
  State.qcpOnly_get (State.complete_qcpOnly s r q st l) h
theorem State.complete_flag (s : State) (r : Nat) (q : BitVec 32) (st : Nat) (l : List Item) {f : Fld} (h : ¬ qcpWord f.addr) : (s.complete r q st l).flag f = s.flag f :=
  State.qcpOnly_flag (State.complete_qcpOnly s r q st l) h

@[simp] theorem State.completeAll_clk (s : State) (op : Nat) (w : Nat → Bool) (st : Nat) (l : List Item) : (s.completeAll op w st l).clk = s.clk := by rw [(State.completeAll_qcpOnly s op w st l).1]
@[simp] theorem State.completeAll_cyc (s : State) (op : Nat) (w : Nat → Bool) (st : Nat) (l : List Item) : (s.completeAll op w st l).cyc = s.cyc := by rw [(State.completeAll_qcpOnly s op w st l).1]
@[simp] theorem State.completeAll_light (s : State) (op : Nat) (w : Nat → Bool) (st : Nat) (l : List Item) : (s.completeAll op w st l).light = s.light := by rw [(State.completeAll_qcpOnly s op w st l).1]
@[simp] theorem State.completeAll_grid (s : State) (op : Nat) (w : Nat → Bool) (st : Nat) (l : List Item) : (s.completeAll op w st l).grid = s.grid := by rw [(State.completeAll_qcpOnly s op w st l).1]
@[simp] theorem State.completeAll_pat (s : State) (op : Nat) (w : Nat → Bool) (st : Nat) (l : List Item) : (s.completeAll op w st l).pat = s.pat := by rw [(State.completeAll_qcpOnly s op w st l).1]
@[simp] theorem State.completeAll_rx (s : State) (op : Nat) (w : Nat → Bool) (st : Nat) (l : List Item) : (s.completeAll op w st l).rx = s.rx := by rw [(State.completeAll_qcpOnly s op w st l).1]
@[simp] theorem State.completeAll_phs (s : State) (op : Nat) (w : Nat → Bool) (st : Nat) (l : List Item) : (s.completeAll op w st l).phs = s.phs := by rw [(State.completeAll_qcpOnly s op w st l).1]
@[simp] theorem State.completeAll_dec (s : State) (op : Nat) (w : Nat → Bool) (st : Nat) (l : List Item) : (s.completeAll op w st l).dec = s.dec := by rw [(State.completeAll_qcpOnly s op w st l).1]
@[simp] theorem State.completeAll_ptp (s : State) (op : Nat) (w : Nat → Bool) (st : Nat) (l : List Item) : (s.completeAll op w st l).ptp = s.ptp := by rw [(State.completeAll_qcpOnly s op w st l).1]
@[simp] theorem State.completeAll_net (s : State) (op : Nat) (w : Nat → Bool) (st : Nat) (l : List Item) : (s.completeAll op w st l).net = s.net := by rw [(State.completeAll_qcpOnly s op w st l).1]
@[simp] theorem State.completeAll_tb (s : State) (op : Nat) (w : Nat → Bool) (st : Nat) (l : List Item) : (s.completeAll op w st l).tb = s.tb := by rw [(State.completeAll_qcpOnly s op w st l).1]
@[simp] theorem State.completeAll_ridge (s : State) (op : Nat) (w : Nat → Bool) (st : Nat) (l : List Item) : (s.completeAll op w st l).ridge = s.ridge := by rw [(State.completeAll_qcpOnly s op w st l).1]
@[simp] theorem State.completeAll_strm (s : State) (op : Nat) (w : Nat → Bool) (st : Nat) (l : List Item) : (s.completeAll op w st l).strm = s.strm := by rw [(State.completeAll_qcpOnly s op w st l).1]
@[simp] theorem State.completeAll_trg (s : State) (op : Nat) (w : Nat → Bool) (st : Nat) (l : List Item) : (s.completeAll op w st l).trg = s.trg := by rw [(State.completeAll_qcpOnly s op w st l).1]
@[simp] theorem State.completeAll_reed (s : State) (op : Nat) (w : Nat → Bool) (st : Nat) (l : List Item) : (s.completeAll op w st l).reed = s.reed := by rw [(State.completeAll_qcpOnly s op w st l).1]
@[simp] theorem State.completeAll_brl (s : State) (op : Nat) (w : Nat → Bool) (st : Nat) (l : List Item) : (s.completeAll op w st l).brl = s.brl := by rw [(State.completeAll_qcpOnly s op w st l).1]
@[simp] theorem State.completeAll_pair (s : State) (op : Nat) (w : Nat → Bool) (st : Nat) (l : List Item) : (s.completeAll op w st l).pair = s.pair := by rw [(State.completeAll_qcpOnly s op w st l).1]
@[simp] theorem State.completeAll_isl (s : State) (op : Nat) (w : Nat → Bool) (st : Nat) (l : List Item) : (s.completeAll op w st l).isl = s.isl := by rw [(State.completeAll_qcpOnly s op w st l).1]
@[simp] theorem State.completeAll_mon (s : State) (op : Nat) (w : Nat → Bool) (st : Nat) (l : List Item) : (s.completeAll op w st l).mon = s.mon := by rw [(State.completeAll_qcpOnly s op w st l).1]
@[simp] theorem State.completeAll_cal (s : State) (op : Nat) (w : Nat → Bool) (st : Nat) (l : List Item) : (s.completeAll op w st l).cal = s.cal := by rw [(State.completeAll_qcpOnly s op w st l).1]
@[simp] theorem State.completeAll_dmc (s : State) (op : Nat) (w : Nat → Bool) (st : Nat) (l : List Item) : (s.completeAll op w st l).dmc = s.dmc := by rw [(State.completeAll_qcpOnly s op w st l).1]
@[simp] theorem State.completeAll_keys (s : State) (op : Nat) (w : Nat → Bool) (st : Nat) (l : List Item) : (s.completeAll op w st l).keys = s.keys := by rw [(State.completeAll_qcpOnly s op w st l).1]
@[simp] theorem State.completeAll_tap (s : State) (op : Nat) (w : Nat → Bool) (st : Nat) (l : List Item) : (s.completeAll op w st l).tap = s.tap := by rw [(State.completeAll_qcpOnly s op w st l).1]
@[simp] theorem State.completeAll_shadows (s : State) (op : Nat) (w : Nat → Bool) (st : Nat) (l : List Item) : (s.completeAll op w st l).shadows = s.shadows := by rw [(State.completeAll_qcpOnly s op w st l).1]
@[simp] theorem State.completeAll_power (s : State) (op : Nat) (w : Nat → Bool) (st : Nat) (l : List Item) : (s.completeAll op w st l).power = s.power := by rw [(State.completeAll_qcpOnly s op w st l).1]
@[simp] theorem State.completeAll_free (s : State) (op : Nat) (w : Nat → Bool) (st : Nat) (l : List Item) : (s.completeAll op w st l).free = s.free := by rw [(State.completeAll_qcpOnly s op w st l).1]
@[simp] theorem State.completeAll_pending (s : State) (op : Nat) (w : Nat → Bool) (st : Nat) (l : List Item) : (s.completeAll op w st l).pending = s.pending := by rw [(State.completeAll_qcpOnly s op w st l).1]

theorem State.completeAll_rd (s : State) (op : Nat) (w : Nat → Bool) (st : Nat) (l : List Item) {a : Nat} (h : ¬ qcpWord a) : (s.completeAll op w st l).rd a = s.rd a := (State.completeAll_qcpOnly s op w st l).2 a h
theorem State.completeAll_get (s : State) (op : Nat) (w : Nat → Bool) (st : Nat) (l : List Item) {f : Fld} (h : ¬ qcpWord f.addr) : (s.completeAll op w st l).get f = s.get f :=
  State.qcpOnly_get (State.completeAll_qcpOnly s op w st l) h
theorem State.completeAll_flag (s : State) (op : Nat) (w : Nat → Bool) (st : Nat) (l : List Item) {f : Fld} (h : ¬ qcpWord f.addr) : (s.completeAll op w st l).flag f = s.flag f :=
  State.qcpOnly_flag (State.completeAll_qcpOnly s op w st l) h

@[simp] theorem State.commitAll_clk (s : State) (op : Nat) (w : Nat → Bool) : (s.commitAll op w).clk = s.clk := by rw [(State.commitAll_qcpOnly s op w).1]
@[simp] theorem State.commitAll_cyc (s : State) (op : Nat) (w : Nat → Bool) : (s.commitAll op w).cyc = s.cyc := by rw [(State.commitAll_qcpOnly s op w).1]
@[simp] theorem State.commitAll_light (s : State) (op : Nat) (w : Nat → Bool) : (s.commitAll op w).light = s.light := by rw [(State.commitAll_qcpOnly s op w).1]
@[simp] theorem State.commitAll_grid (s : State) (op : Nat) (w : Nat → Bool) : (s.commitAll op w).grid = s.grid := by rw [(State.commitAll_qcpOnly s op w).1]
@[simp] theorem State.commitAll_pat (s : State) (op : Nat) (w : Nat → Bool) : (s.commitAll op w).pat = s.pat := by rw [(State.commitAll_qcpOnly s op w).1]
@[simp] theorem State.commitAll_rx (s : State) (op : Nat) (w : Nat → Bool) : (s.commitAll op w).rx = s.rx := by rw [(State.commitAll_qcpOnly s op w).1]
@[simp] theorem State.commitAll_phs (s : State) (op : Nat) (w : Nat → Bool) : (s.commitAll op w).phs = s.phs := by rw [(State.commitAll_qcpOnly s op w).1]
@[simp] theorem State.commitAll_dec (s : State) (op : Nat) (w : Nat → Bool) : (s.commitAll op w).dec = s.dec := by rw [(State.commitAll_qcpOnly s op w).1]
@[simp] theorem State.commitAll_ptp (s : State) (op : Nat) (w : Nat → Bool) : (s.commitAll op w).ptp = s.ptp := by rw [(State.commitAll_qcpOnly s op w).1]
@[simp] theorem State.commitAll_net (s : State) (op : Nat) (w : Nat → Bool) : (s.commitAll op w).net = s.net := by rw [(State.commitAll_qcpOnly s op w).1]
@[simp] theorem State.commitAll_tb (s : State) (op : Nat) (w : Nat → Bool) : (s.commitAll op w).tb = s.tb := by rw [(State.commitAll_qcpOnly s op w).1]
@[simp] theorem State.commitAll_ridge (s : State) (op : Nat) (w : Nat → Bool) : (s.commitAll op w).ridge = s.ridge := by rw [(State.commitAll_qcpOnly s op w).1]
@[simp] theorem State.commitAll_strm (s : State) (op : Nat) (w : Nat → Bool) : (s.commitAll op w).strm = s.strm := by rw [(State.commitAll_qcpOnly s op w).1]
@[simp] theorem State.commitAll_trg (s : State) (op : Nat) (w : Nat → Bool) : (s.commitAll op w).trg = s.trg := by rw [(State.commitAll_qcpOnly s op w).1]
@[simp] theorem State.commitAll_reed (s : State) (op : Nat) (w : Nat → Bool) : (s.commitAll op w).reed = s.reed := by rw [(State.commitAll_qcpOnly s op w).1]
@[simp] theorem State.commitAll_brl (s : State) (op : Nat) (w : Nat → Bool) : (s.commitAll op w).brl = s.brl := by rw [(State.commitAll_qcpOnly s op w).1]
@[simp] theorem State.commitAll_pair (s : State) (op : Nat) (w : Nat → Bool) : (s.commitAll op w).pair = s.pair := by rw [(State.commitAll_qcpOnly s op w).1]
@[simp] theorem State.commitAll_isl (s : State) (op : Nat) (w : Nat → Bool) : (s.commitAll op w).isl = s.isl := by rw [(State.commitAll_qcpOnly s op w).1]
@[simp] theorem State.commitAll_mon (s : State) (op : Nat) (w : Nat → Bool) : (s.commitAll op w).mon = s.mon := by rw [(State.commitAll_qcpOnly s op w).1]
@[simp] theorem State.commitAll_cal (s : State) (op : Nat) (w : Nat → Bool) : (s.commitAll op w).cal = s.cal := by rw [(State.commitAll_qcpOnly s op w).1]
@[simp] theorem State.commitAll_dmc (s : State) (op : Nat) (w : Nat → Bool) : (s.commitAll op w).dmc = s.dmc := by rw [(State.commitAll_qcpOnly s op w).1]
@[simp] theorem State.commitAll_keys (s : State) (op : Nat) (w : Nat → Bool) : (s.commitAll op w).keys = s.keys := by rw [(State.commitAll_qcpOnly s op w).1]
@[simp] theorem State.commitAll_tap (s : State) (op : Nat) (w : Nat → Bool) : (s.commitAll op w).tap = s.tap := by rw [(State.commitAll_qcpOnly s op w).1]
@[simp] theorem State.commitAll_shadows (s : State) (op : Nat) (w : Nat → Bool) : (s.commitAll op w).shadows = s.shadows := by rw [(State.commitAll_qcpOnly s op w).1]
@[simp] theorem State.commitAll_power (s : State) (op : Nat) (w : Nat → Bool) : (s.commitAll op w).power = s.power := by rw [(State.commitAll_qcpOnly s op w).1]
@[simp] theorem State.commitAll_free (s : State) (op : Nat) (w : Nat → Bool) : (s.commitAll op w).free = s.free := by rw [(State.commitAll_qcpOnly s op w).1]
@[simp] theorem State.commitAll_pending (s : State) (op : Nat) (w : Nat → Bool) : (s.commitAll op w).pending = s.pending := by rw [(State.commitAll_qcpOnly s op w).1]

theorem State.commitAll_rd (s : State) (op : Nat) (w : Nat → Bool) {a : Nat} (h : ¬ qcpWord a) : (s.commitAll op w).rd a = s.rd a := (State.commitAll_qcpOnly s op w).2 a h
theorem State.commitAll_get (s : State) (op : Nat) (w : Nat → Bool) {f : Fld} (h : ¬ qcpWord f.addr) : (s.commitAll op w).get f = s.get f :=
  State.qcpOnly_get (State.commitAll_qcpOnly s op w) h
theorem State.commitAll_flag (s : State) (op : Nat) (w : Nat → Bool) {f : Fld} (h : ¬ qcpWord f.addr) : (s.commitAll op w).flag f = s.flag f :=
  State.qcpOnly_flag (State.commitAll_qcpOnly s op w) h

@[simp] theorem State.qcpCount_clk (s : State) : (s.qcpCount).clk = s.clk := by rw [(State.qcpCount_qcpOnly s).1]
@[simp] theorem State.qcpCount_cyc (s : State) : (s.qcpCount).cyc = s.cyc := by rw [(State.qcpCount_qcpOnly s).1]
@[simp] theorem State.qcpCount_light (s : State) : (s.qcpCount).light = s.light := by rw [(State.qcpCount_qcpOnly s).1]
@[simp] theorem State.qcpCount_grid (s : State) : (s.qcpCount).grid = s.grid := by rw [(State.qcpCount_qcpOnly s).1]
@[simp] theorem State.qcpCount_pat (s : State) : (s.qcpCount).pat = s.pat := by rw [(State.qcpCount_qcpOnly s).1]
@[simp] theorem State.qcpCount_rx (s : State) : (s.qcpCount).rx = s.rx := by rw [(State.qcpCount_qcpOnly s).1]
@[simp] theorem State.qcpCount_phs (s : State) : (s.qcpCount).phs = s.phs := by rw [(State.qcpCount_qcpOnly s).1]
@[simp] theorem State.qcpCount_dec (s : State) : (s.qcpCount).dec = s.dec := by rw [(State.qcpCount_qcpOnly s).1]
@[simp] theorem State.qcpCount_ptp (s : State) : (s.qcpCount).ptp = s.ptp := by rw [(State.qcpCount_qcpOnly s).1]
@[simp] theorem State.qcpCount_net (s : State) : (s.qcpCount).net = s.net := by rw [(State.qcpCount_qcpOnly s).1]
@[simp] theorem State.qcpCount_tb (s : State) : (s.qcpCount).tb = s.tb := by rw [(State.qcpCount_qcpOnly s).1]
@[simp] theorem State.qcpCount_ridge (s : State) : (s.qcpCount).ridge = s.ridge := by rw [(State.qcpCount_qcpOnly s).1]
@[simp] theorem State.qcpCount_strm (s : State) : (s.qcpCount).strm = s.strm := by rw [(State.qcpCount_qcpOnly s).1]
@[simp] theorem State.qcpCount_trg (s : State) : (s.qcpCount).trg = s.trg := by rw [(State.qcpCount_qcpOnly s).1]
@[simp] theorem State.qcpCount_reed (s : State) : (s.qcpCount).reed = s.reed := by rw [(State.qcpCount_qcpOnly s).1]
@[simp] theorem State.qcpCount_brl (s : State) : (s.qcpCount).brl = s.brl := by rw [(State.qcpCount_qcpOnly s).1]
@[simp] theorem State.qcpCount_pair (s : State) : (s.qcpCount).pair = s.pair := by rw [(State.qcpCount_qcpOnly s).1]
@[simp] theorem State.qcpCount_isl (s : State) : (s.qcpCount).isl = s.isl := by rw [(State.qcpCount_qcpOnly s).1]
@[simp] theorem State.qcpCount_mon (s : State) : (s.qcpCount).mon = s.mon := by rw [(State.qcpCount_qcpOnly s).1]
@[simp] theorem State.qcpCount_cal (s : State) : (s.qcpCount).cal = s.cal := by rw [(State.qcpCount_qcpOnly s).1]
@[simp] theorem State.qcpCount_dmc (s : State) : (s.qcpCount).dmc = s.dmc := by rw [(State.qcpCount_qcpOnly s).1]
@[simp] theorem State.qcpCount_keys (s : State) : (s.qcpCount).keys = s.keys := by rw [(State.qcpCount_qcpOnly s).1]
@[simp] theorem State.qcpCount_tap (s : State) : (s.qcpCount).tap = s.tap := by rw [(State.qcpCount_qcpOnly s).1]
@[simp] theorem State.qcpCount_shadows (s : State) : (s.qcpCount).shadows = s.shadows := by rw [(State.qcpCount_qcpOnly s).1]
@[simp] theorem State.qcpCount_power (s : State) : (s.qcpCount).power = s.power := by rw [(State.qcpCount_qcpOnly s).1]
@[simp] theorem State.qcpCount_free (s : State) : (s.qcpCount).free = s.free := by rw [(State.qcpCount_qcpOnly s).1]
@[simp] theorem State.qcpCount_pending (s : State) : (s.qcpCount).pending = s.pending := by rw [(State.qcpCount_qcpOnly s).1]

theorem State.qcpCount_rd (s : State)  {a : Nat} (h : ¬ qcpWord a) : (s.qcpCount).rd a = s.rd a := (State.qcpCount_qcpOnly s).2 a h
theorem State.qcpCount_get (s : State)  {f : Fld} (h : ¬ qcpWord f.addr) : (s.qcpCount).get f = s.get f :=
  State.qcpOnly_get (State.qcpCount_qcpOnly s ) h
theorem State.qcpCount_flag (s : State)  {f : Fld} (h : ¬ qcpWord f.addr) : (s.qcpCount).flag f = s.flag f :=
  State.qcpOnly_flag (State.qcpCount_qcpOnly s ) h

@[simp] theorem State.taken_clk (s : State) (q : ReqHdr) (op : Nat) : (s.taken q op).clk = s.clk := by rw [(State.taken_qcpOnly s q op).1]
@[simp] theorem State.taken_cyc (s : State) (q : ReqHdr) (op : Nat) : (s.taken q op).cyc = s.cyc := by rw [(State.taken_qcpOnly s q op).1]
@[simp] theorem State.taken_light (s : State) (q : ReqHdr) (op : Nat) : (s.taken q op).light = s.light := by rw [(State.taken_qcpOnly s q op).1]
@[simp] theorem State.taken_grid (s : State) (q : ReqHdr) (op : Nat) : (s.taken q op).grid = s.grid := by rw [(State.taken_qcpOnly s q op).1]
@[simp] theorem State.taken_pat (s : State) (q : ReqHdr) (op : Nat) : (s.taken q op).pat = s.pat := by rw [(State.taken_qcpOnly s q op).1]
@[simp] theorem State.taken_rx (s : State) (q : ReqHdr) (op : Nat) : (s.taken q op).rx = s.rx := by rw [(State.taken_qcpOnly s q op).1]
@[simp] theorem State.taken_phs (s : State) (q : ReqHdr) (op : Nat) : (s.taken q op).phs = s.phs := by rw [(State.taken_qcpOnly s q op).1]
@[simp] theorem State.taken_dec (s : State) (q : ReqHdr) (op : Nat) : (s.taken q op).dec = s.dec := by rw [(State.taken_qcpOnly s q op).1]
@[simp] theorem State.taken_ptp (s : State) (q : ReqHdr) (op : Nat) : (s.taken q op).ptp = s.ptp := by rw [(State.taken_qcpOnly s q op).1]
@[simp] theorem State.taken_net (s : State) (q : ReqHdr) (op : Nat) : (s.taken q op).net = s.net := by rw [(State.taken_qcpOnly s q op).1]
@[simp] theorem State.taken_tb (s : State) (q : ReqHdr) (op : Nat) : (s.taken q op).tb = s.tb := by rw [(State.taken_qcpOnly s q op).1]
@[simp] theorem State.taken_ridge (s : State) (q : ReqHdr) (op : Nat) : (s.taken q op).ridge = s.ridge := by rw [(State.taken_qcpOnly s q op).1]
@[simp] theorem State.taken_strm (s : State) (q : ReqHdr) (op : Nat) : (s.taken q op).strm = s.strm := by rw [(State.taken_qcpOnly s q op).1]
@[simp] theorem State.taken_trg (s : State) (q : ReqHdr) (op : Nat) : (s.taken q op).trg = s.trg := by rw [(State.taken_qcpOnly s q op).1]
@[simp] theorem State.taken_reed (s : State) (q : ReqHdr) (op : Nat) : (s.taken q op).reed = s.reed := by rw [(State.taken_qcpOnly s q op).1]
@[simp] theorem State.taken_brl (s : State) (q : ReqHdr) (op : Nat) : (s.taken q op).brl = s.brl := by rw [(State.taken_qcpOnly s q op).1]
@[simp] theorem State.taken_pair (s : State) (q : ReqHdr) (op : Nat) : (s.taken q op).pair = s.pair := by rw [(State.taken_qcpOnly s q op).1]
@[simp] theorem State.taken_isl (s : State) (q : ReqHdr) (op : Nat) : (s.taken q op).isl = s.isl := by rw [(State.taken_qcpOnly s q op).1]
@[simp] theorem State.taken_mon (s : State) (q : ReqHdr) (op : Nat) : (s.taken q op).mon = s.mon := by rw [(State.taken_qcpOnly s q op).1]
@[simp] theorem State.taken_cal (s : State) (q : ReqHdr) (op : Nat) : (s.taken q op).cal = s.cal := by rw [(State.taken_qcpOnly s q op).1]
@[simp] theorem State.taken_dmc (s : State) (q : ReqHdr) (op : Nat) : (s.taken q op).dmc = s.dmc := by rw [(State.taken_qcpOnly s q op).1]
@[simp] theorem State.taken_keys (s : State) (q : ReqHdr) (op : Nat) : (s.taken q op).keys = s.keys := by rw [(State.taken_qcpOnly s q op).1]
@[simp] theorem State.taken_tap (s : State) (q : ReqHdr) (op : Nat) : (s.taken q op).tap = s.tap := by rw [(State.taken_qcpOnly s q op).1]
@[simp] theorem State.taken_shadows (s : State) (q : ReqHdr) (op : Nat) : (s.taken q op).shadows = s.shadows := by rw [(State.taken_qcpOnly s q op).1]
@[simp] theorem State.taken_power (s : State) (q : ReqHdr) (op : Nat) : (s.taken q op).power = s.power := by rw [(State.taken_qcpOnly s q op).1]
@[simp] theorem State.taken_free (s : State) (q : ReqHdr) (op : Nat) : (s.taken q op).free = s.free := by rw [(State.taken_qcpOnly s q op).1]
@[simp] theorem State.taken_pending (s : State) (q : ReqHdr) (op : Nat) : (s.taken q op).pending = s.pending := by rw [(State.taken_qcpOnly s q op).1]

@[simp] theorem State.notFresh_clk (s : State) (q : ReqHdr) (op : Nat) (c : Option (BitVec 32)) : (s.notFresh q op c).clk = s.clk := by rw [(State.notFresh_qcpOnly s q op c).1]
@[simp] theorem State.notFresh_cyc (s : State) (q : ReqHdr) (op : Nat) (c : Option (BitVec 32)) : (s.notFresh q op c).cyc = s.cyc := by rw [(State.notFresh_qcpOnly s q op c).1]
@[simp] theorem State.notFresh_light (s : State) (q : ReqHdr) (op : Nat) (c : Option (BitVec 32)) : (s.notFresh q op c).light = s.light := by rw [(State.notFresh_qcpOnly s q op c).1]
@[simp] theorem State.notFresh_grid (s : State) (q : ReqHdr) (op : Nat) (c : Option (BitVec 32)) : (s.notFresh q op c).grid = s.grid := by rw [(State.notFresh_qcpOnly s q op c).1]
@[simp] theorem State.notFresh_pat (s : State) (q : ReqHdr) (op : Nat) (c : Option (BitVec 32)) : (s.notFresh q op c).pat = s.pat := by rw [(State.notFresh_qcpOnly s q op c).1]
@[simp] theorem State.notFresh_rx (s : State) (q : ReqHdr) (op : Nat) (c : Option (BitVec 32)) : (s.notFresh q op c).rx = s.rx := by rw [(State.notFresh_qcpOnly s q op c).1]
@[simp] theorem State.notFresh_phs (s : State) (q : ReqHdr) (op : Nat) (c : Option (BitVec 32)) : (s.notFresh q op c).phs = s.phs := by rw [(State.notFresh_qcpOnly s q op c).1]
@[simp] theorem State.notFresh_dec (s : State) (q : ReqHdr) (op : Nat) (c : Option (BitVec 32)) : (s.notFresh q op c).dec = s.dec := by rw [(State.notFresh_qcpOnly s q op c).1]
@[simp] theorem State.notFresh_ptp (s : State) (q : ReqHdr) (op : Nat) (c : Option (BitVec 32)) : (s.notFresh q op c).ptp = s.ptp := by rw [(State.notFresh_qcpOnly s q op c).1]
@[simp] theorem State.notFresh_net (s : State) (q : ReqHdr) (op : Nat) (c : Option (BitVec 32)) : (s.notFresh q op c).net = s.net := by rw [(State.notFresh_qcpOnly s q op c).1]
@[simp] theorem State.notFresh_tb (s : State) (q : ReqHdr) (op : Nat) (c : Option (BitVec 32)) : (s.notFresh q op c).tb = s.tb := by rw [(State.notFresh_qcpOnly s q op c).1]
@[simp] theorem State.notFresh_ridge (s : State) (q : ReqHdr) (op : Nat) (c : Option (BitVec 32)) : (s.notFresh q op c).ridge = s.ridge := by rw [(State.notFresh_qcpOnly s q op c).1]
@[simp] theorem State.notFresh_strm (s : State) (q : ReqHdr) (op : Nat) (c : Option (BitVec 32)) : (s.notFresh q op c).strm = s.strm := by rw [(State.notFresh_qcpOnly s q op c).1]
@[simp] theorem State.notFresh_trg (s : State) (q : ReqHdr) (op : Nat) (c : Option (BitVec 32)) : (s.notFresh q op c).trg = s.trg := by rw [(State.notFresh_qcpOnly s q op c).1]
@[simp] theorem State.notFresh_reed (s : State) (q : ReqHdr) (op : Nat) (c : Option (BitVec 32)) : (s.notFresh q op c).reed = s.reed := by rw [(State.notFresh_qcpOnly s q op c).1]
@[simp] theorem State.notFresh_brl (s : State) (q : ReqHdr) (op : Nat) (c : Option (BitVec 32)) : (s.notFresh q op c).brl = s.brl := by rw [(State.notFresh_qcpOnly s q op c).1]
@[simp] theorem State.notFresh_pair (s : State) (q : ReqHdr) (op : Nat) (c : Option (BitVec 32)) : (s.notFresh q op c).pair = s.pair := by rw [(State.notFresh_qcpOnly s q op c).1]
@[simp] theorem State.notFresh_isl (s : State) (q : ReqHdr) (op : Nat) (c : Option (BitVec 32)) : (s.notFresh q op c).isl = s.isl := by rw [(State.notFresh_qcpOnly s q op c).1]
@[simp] theorem State.notFresh_mon (s : State) (q : ReqHdr) (op : Nat) (c : Option (BitVec 32)) : (s.notFresh q op c).mon = s.mon := by rw [(State.notFresh_qcpOnly s q op c).1]
@[simp] theorem State.notFresh_cal (s : State) (q : ReqHdr) (op : Nat) (c : Option (BitVec 32)) : (s.notFresh q op c).cal = s.cal := by rw [(State.notFresh_qcpOnly s q op c).1]
@[simp] theorem State.notFresh_dmc (s : State) (q : ReqHdr) (op : Nat) (c : Option (BitVec 32)) : (s.notFresh q op c).dmc = s.dmc := by rw [(State.notFresh_qcpOnly s q op c).1]
@[simp] theorem State.notFresh_keys (s : State) (q : ReqHdr) (op : Nat) (c : Option (BitVec 32)) : (s.notFresh q op c).keys = s.keys := by rw [(State.notFresh_qcpOnly s q op c).1]
@[simp] theorem State.notFresh_tap (s : State) (q : ReqHdr) (op : Nat) (c : Option (BitVec 32)) : (s.notFresh q op c).tap = s.tap := by rw [(State.notFresh_qcpOnly s q op c).1]
@[simp] theorem State.notFresh_shadows (s : State) (q : ReqHdr) (op : Nat) (c : Option (BitVec 32)) : (s.notFresh q op c).shadows = s.shadows := by rw [(State.notFresh_qcpOnly s q op c).1]
@[simp] theorem State.notFresh_power (s : State) (q : ReqHdr) (op : Nat) (c : Option (BitVec 32)) : (s.notFresh q op c).power = s.power := by rw [(State.notFresh_qcpOnly s q op c).1]
@[simp] theorem State.notFresh_free (s : State) (q : ReqHdr) (op : Nat) (c : Option (BitVec 32)) : (s.notFresh q op c).free = s.free := by rw [(State.notFresh_qcpOnly s q op c).1]
@[simp] theorem State.notFresh_pending (s : State) (q : ReqHdr) (op : Nat) (c : Option (BitVec 32)) : (s.notFresh q op c).pending = s.pending := by rw [(State.notFresh_qcpOnly s q op c).1]

theorem State.notFresh_rd (s : State) (q : ReqHdr) (op : Nat) (c : Option (BitVec 32)) {a : Nat} (h : ¬ qcpWord a) : (s.notFresh q op c).rd a = s.rd a := (State.notFresh_qcpOnly s q op c).2 a h
theorem State.notFresh_get (s : State) (q : ReqHdr) (op : Nat) (c : Option (BitVec 32)) {f : Fld} (h : ¬ qcpWord f.addr) : (s.notFresh q op c).get f = s.get f :=
  State.qcpOnly_get (State.notFresh_qcpOnly s q op c) h
theorem State.notFresh_flag (s : State) (q : ReqHdr) (op : Nat) (c : Option (BitVec 32)) {f : Fld} (h : ¬ qcpWord f.addr) : (s.notFresh q op c).flag f = s.flag f :=
  State.qcpOnly_flag (State.notFresh_qcpOnly s q op c) h

end Sys2Proof.Machine
end

