-- ==== Sys2Proof/Laws/Within.lean ====
section
/-! SUPPORT. How the relation State.within composes, and that every elementary update of the state has it. -/

namespace Sys2Proof.Machine

theorem Comp.same_refl (s : State) (c : Comp) : Comp.same s s c := by cases c <;> rfl

theorem Comp.same_trans {s t u : State} {c : Comp} (h : Comp.same s t c) (g : Comp.same t u c) : Comp.same s u c := by
  cases c <;> exact Eq.trans g h

theorem blockOf_mem_all (a : Nat) : blockOf a ∈ allBlocks := by
  unfold allBlocks blockOf
  rw [List.mem_range]
  split
  · omega
  · split
    · omega
    · split <;> omega

/-- The block of a register's word. -/
theorem mem_block {a b : Nat} {B : List Nat} (h : a / 0x10000 = b ∧ b < 0x20) (hb : b ∈ B) : blockOf a ∈ B := by
  unfold blockOf
  rw [if_pos (by omega), h.1]
  exact hb

/-- The block of a field's word. -/
theorem mem_fld {f : Fld} {a l w b : Nat} {B : List Nat} (hf : f = ⟨a, l, w⟩) (h : a / 0x10000 = b ∧ b < 0x20) (hb : b ∈ B) : blockOf f.addr ∈ B := by
  subst hf
  exact mem_block h hb

theorem State.within_refl {s : State} (K : List Comp) (B : List Nat) : s.within s K B :=
  ⟨fun c _ => Comp.same_refl s c, fun _ _ => rfl, rfl, id, List.prefix_refl _, le_refl _, le_refl _⟩

theorem State.within.trans {s t u : State} {K : List Comp} {B : List Nat} (h : s.within t K B) (g : t.within u K B) : s.within u K B :=
  ⟨fun c hc => Comp.same_trans (h.comp c hc) (g.comp c hc), fun a ha => (g.word a ha).trans (h.word a ha), g.pending.trans h.pending,
    fun hs => g.sound (h.sound hs), h.out.trans g.out, le_trans h.cyc g.cyc, le_trans h.free g.free⟩

theorem State.within.mono {s t : State} {K L : List Comp} {B D : List Nat} (h : s.within t K B) (hk : K ⊆ L) (hb : B ⊆ D) : s.within t L D :=
  ⟨fun c hc => h.comp c (fun g => hc (hk g)), fun a ha => h.word a (fun g => ha (hb g)), h.pending, h.sound, h.out, h.cyc, h.free⟩

/-- One more step whose reach lies within. -/
theorem State.within.step {s t u : State} {K L : List Comp} {B D : List Nat} (g : t.within u L D) (h : s.within t K B)
    (hk : L ⊆ K) (hb : D ⊆ B) : s.within u K B := h.trans (g.mono hk hb)

section

variable {s0 : State} {K : List Comp} {B : List Nat}

/-- An update of components that leaves the words, the queue, the record and the counts alone. -/
theorem State.within_upd {s : State} {v_clk : _} {v_light : _} {v_grid : _} {v_pat : _} {v_rx : _} {v_phs : _} {v_dec : _} {v_qcp : _} {v_ptp : _} {v_net : _} {v_tb : _} {v_ridge : _} {v_strm : _} {v_trg : _} {v_reed : _} {v_brl : _} {v_pair : _} {v_isl : _} {v_mon : _} {v_cal : _} {v_dmc : _} {v_ptb : _} {v_keys : _} {v_tap : _} {v_shadows : _} {v_power : _}
    (hk : ∀ c, c ∉ K → Comp.same s ⟨s.regs, v_clk, s.cyc, v_light, v_grid, v_pat, v_rx, v_phs, v_dec, v_qcp, v_ptp, v_net, v_tb, v_ridge, v_strm, v_trg, v_reed, v_brl, v_pair, v_isl, v_mon, v_cal, v_dmc, v_ptb, v_keys, v_tap, v_shadows, v_power, s.out, s.free, s.pending⟩ c)
    (h : s0.within s K B) :
    s0.within ⟨s.regs, v_clk, s.cyc, v_light, v_grid, v_pat, v_rx, v_phs, v_dec, v_qcp, v_ptp, v_net, v_tb, v_ridge, v_strm, v_trg, v_reed, v_brl, v_pair, v_isl, v_mon, v_cal, v_dmc, v_ptb, v_keys, v_tap, v_shadows, v_power, s.out, s.free, s.pending⟩ K B :=
  h.trans ⟨hk, fun _ _ => rfl, rfl, id, List.prefix_refl _, le_refl _, le_refl _⟩

theorem State.wr_within {s : State} {off : Nat} {w : Word} (hb : blockOf off ∈ B) (h : s0.within s K B) : s0.within (s.wr off w) K B :=
  h.trans ⟨fun c _ => by cases c <;> rfl, fun a ha => State.rd_wr_other _ _ (by rintro rfl; exact ha hb), rfl,
    fun hs => Space.write_wf _ _ hs, List.prefix_refl _, le_refl _, le_refl _⟩

theorem State.put_within {s : State} {f : Fld} {a l w n : Nat} (hf : f = ⟨a, l, w⟩) (hb : blockOf a ∈ B) (h : s0.within s K B) :
    s0.within (s.put f n) K B := by
  subst hf
  exact State.wr_within hb h

theorem State.putFlag_within {s : State} {f : Fld} {a l w : Nat} {b : Bool} (hf : f = ⟨a, l, w⟩) (hb : blockOf a ∈ B) (h : s0.within s K B) :
    s0.within (s.putFlag f b) K B := State.put_within hf hb h

theorem State.puti_within {s : State} {f : Fld} {a l w : Nat} {i : Int} (hf : f = ⟨a, l, w⟩) (hb : blockOf a ∈ B) (h : s0.within s K B) :
    s0.within (s.puti f i) K B := State.put_within hf hb h

theorem State.count_within {s : State} {f : Fld} {a l w n : Nat} (hf : f = ⟨a, l, w⟩) (hb : blockOf a ∈ B) (h : s0.within s K B) :
    s0.within (s.count f n) K B := State.put_within hf hb h

theorem State.countSat_within {s : State} {f : Fld} {a l w n : Nat} (hf : f = ⟨a, l, w⟩) (hb : blockOf a ∈ B) (h : s0.within s K B) :
    s0.within (s.countSat f n) K B := State.put_within hf hb h

theorem State.put_any {s : State} {f : Fld} {n : Nat} (hb : blockOf f.addr ∈ B) (h : s0.within s K B) : s0.within (s.put f n) K B :=
  State.wr_within hb h

theorem State.putFlag_any {s : State} {f : Fld} {b : Bool} (hb : blockOf f.addr ∈ B) (h : s0.within s K B) : s0.within (s.putFlag f b) K B :=
  State.wr_within hb h

theorem State.puti_any {s : State} {f : Fld} {i : Int} (hb : blockOf f.addr ∈ B) (h : s0.within s K B) : s0.within (s.puti f i) K B :=
  State.wr_within hb h

theorem State.count_any {s : State} {f : Fld} {n : Nat} (hb : blockOf f.addr ∈ B) (h : s0.within s K B) : s0.within (s.count f n) K B :=
  State.wr_within hb h

theorem State.countSat_any {s : State} {f : Fld} {n : Nat} (hb : blockOf f.addr ∈ B) (h : s0.within s K B) : s0.within (s.countSat f n) K B :=
  State.wr_within hb h

theorem State.put2_within {s : State} {f g : Fld} {a l w b m v n : Nat} (hf : f = ⟨a, l, w⟩) (hg : g = ⟨b, m, v⟩) (ha : blockOf a ∈ B)
    (hb : blockOf b ∈ B) (h : s0.within s K B) : s0.within (s.put2 f g n) K B := State.put_within hg hb (State.put_within hf ha h)

theorem State.puts_within {s : State} {l : List (Fld × Nat)} (hl : ∀ p ∈ l, blockOf p.1.addr ∈ B) (h : s0.within s K B) :
    s0.within (s.puts l) K B := by
  induction l generalizing s with
  | nil => exact h
  | cons p t ih =>
    rw [State.puts_cons]
    exact ih (fun q hq => hl q (List.mem_cons_of_mem _ hq)) (State.put_within rfl (hl p (List.mem_cons_self ..)) h)

theorem State.puts_nil_within {s : State} (h : s0.within s K B) : s0.within (s.puts []) K B := h

theorem State.puts_cons_within {s : State} {p : Fld × Nat} {t : List (Fld × Nat)} (h : s0.within ((s.put p.1 p.2).puts t) K B) :
    s0.within (s.puts (p :: t)) K B := h

theorem State.puts_append_within {s : State} {l m : List (Fld × Nat)} (h : s0.within ((s.puts l).puts m) K B) : s0.within (s.puts (l ++ m)) K B := by
  unfold State.puts at *
  rw [List.foldl_append]
  exact h

theorem State.puts_map_within {s : State} {α : Type} {g : α → Fld × Nat} {l : List α} (hg : ∀ x, blockOf (g x).1.addr ∈ B)
    (h : s0.within s K B) : s0.within (s.puts (l.map g)) K B := by
  refine State.puts_within (fun p hp => ?_) h
  obtain ⟨x, _, rfl⟩ := List.mem_map.1 hp
  exact hg x

theorem State.resetWords_within {s : State} {l : List Nat} (hl : ∀ a ∈ l, blockOf a ∈ B) (h : s0.within s K B) :
    s0.within (s.resetWords l) K B := by
  unfold State.resetWords
  induction l generalizing s with
  | nil => exact h
  | cons a t ih =>
    rw [List.foldl_cons]
    exact ih (fun q hq => hl q (List.mem_cons_of_mem _ hq)) (State.wr_within (hl a (List.mem_cons_self ..)) h)

theorem State.wrWords_within {s : State} {off : Nat} {l : List Word} (hl : ∀ i, i < l.length → blockOf (off + 4 * i) ∈ B)
    (h : s0.within s K B) : s0.within (s.wrWords off l) K B := by
  induction l generalizing s off with
  | nil => exact h
  | cons w t ih =>
    refine ih (fun i hi => ?_) (State.wr_within (by simpa using hl 0 (by simp)) h)
    have := hl (i + 1) (by simpa using hi)
    rwa [show off + 4 * (i + 1) = off + 4 + 4 * i by omega] at this

theorem State.drew_within {s : State} {n : Nat} (hk : .free ∈ K) (h : s0.within s K B) : s0.within (s.drew n) K B := by
  refine h.trans ⟨fun c hc => ?_, fun _ _ => rfl, rfl, id, List.prefix_refl _, le_refl _, Nat.le_add_right _ _⟩
  cases c <;> first | rfl | exact absurd hk hc

theorem State.emitRaw_within {s : State} {o : Out} (hk : .out ∈ K) (h : s0.within s K B) : s0.within (s.emitRaw o) K B := by
  refine h.trans ⟨fun c hc => ?_, fun _ _ => rfl, rfl, id, List.prefix_append _ _, le_refl _, le_refl _⟩
  cases c <;> first | rfl | exact absurd hk hc

theorem State.at_within {s : State} {t : Ts} : s.within (s.at t) [.clk, .cyc] [] := by
  unfold State.at
  split
  · exact State.within_refl _ _
  · refine ⟨fun c hc => ?_, fun _ _ => rfl, rfl, id, List.prefix_refl _, Nat.le_add_right _ _, le_refl _⟩
    cases c <;> first | rfl | exact absurd (by decide) hc

/-! ## Control -/

theorem State.within_ite {c : Prop} [Decidable c] {a b : State} (ha : s0.within a K B) (hb : s0.within b K B) :
    s0.within (if c then a else b) K B := by
  split
  · exact ha
  · exact hb

theorem State.within_foldl {α : Type} {f : State → α → State} {l : List α} {s : State} (hf : ∀ t x, s0.within t K B → s0.within (f t x) K B)
    (h : s0.within s K B) : s0.within (l.foldl f s) K B := by
  induction l generalizing s with
  | nil => exact h
  | cons a t ih => exact ih (hf _ _ h)

theorem State.whenDo_within {s : State} {c : Bool} {f : State → State} (hf : s0.within (f s) K B) (h : s0.within s K B) :
    s0.within (s.whenDo c f) K B := State.within_ite hf h

/-! ## Outcomes of register actions and of commands -/

/-- Where an action takes place, it stays within. -/
def State.withinE (s : State) (r : Except Nat State) (K : List Comp) (B : List Nat) : Prop := ∀ t, r = .ok t → s.within t K B

theorem State.withinE_ok {t : State} (h : s0.within t K B) : s0.withinE (.ok t) K B := by
  rintro u ⟨⟩
  exact h

theorem State.withinE_error {n : Nat} : s0.withinE (.error n) K B := by
  rintro u ⟨⟩

theorem State.withinE_ite {c : Prop} [Decidable c] {a b : Except Nat State} (ha : s0.withinE a K B) (hb : s0.withinE b K B) :
    s0.withinE (if c then a else b) K B := by
  split
  · exact ha
  · exact hb

theorem State.withinE.step {s t : State} {K L : List Comp} {B D : List Nat} {r : Except Nat State} (g : t.withinE r L D) (h : s.within t K B)
    (hk : L ⊆ K) (hb : D ⊆ B) : s.withinE r K B := fun u hu => (g u hu).step h hk hb

/-- Where there is a state, it stays within. -/
def State.withinO (s : State) (r : Option State) (K : List Comp) (B : List Nat) : Prop := ∀ t, r = some t → s.within t K B

theorem State.withinO_some {t : State} (h : s0.within t K B) : s0.withinO (some t) K B := by
  rintro u ⟨⟩
  exact h

theorem State.withinO_none : s0.withinO none K B := by
  rintro u ⟨⟩

theorem State.withinO_ite {c : Prop} [Decidable c] {a b : Option State} (ha : s0.withinO a K B) (hb : s0.withinO b K B) :
    s0.withinO (if c then a else b) K B := by
  split
  · exact ha
  · exact hb

theorem State.withinO.step {s t : State} {K L : List Comp} {B D : List Nat} {r : Option State} (g : t.withinO r L D) (h : s.within t K B)
    (hk : L ⊆ K) (hb : D ⊆ B) : s.withinO r K B := fun u hu => (g u hu).step h hk hb

/-- The next state of a command stays within. -/
def State.withinC (s : State) (r : Host.Outcome State Fault Refusal) (K : List Comp) (B : List Nat) : Prop := ∀ t, r = .next t → s.within t K B

theorem State.withinC_next {t : State} (h : s0.within t K B) : s0.withinC (.next t) K B := by
  rintro u ⟨⟩
  exact h

end

end Sys2Proof.Machine
end

