-- ==== Sys2Proof/Laws/Layout.lean ====
section
/-! SUPPORT. Where the memories of the reed units lie in the register space, and that the operations which take many words
back to their reset value keep the canonical form. -/

namespace Sys2Proof.Machine

theorem Space.sublist_wf {l m : Space} (hs : l.Sublist m) (h : m.wf = true) : l.wf = true := by
  rw [Space.wf_iff] at *
  exact ⟨h.1.sublist hs, fun e he => h.2 e (hs.mem he)⟩

/-- A reset that keeps some bits of each word keeps the canonical form. -/
theorem Space.keep_wf {m : Space} (k : Nat → Nat) (h : m.wf = true) : (m.keep k).wf = true := by
  rw [Space.wf_iff] at *
  constructor
  · unfold Space.rising Space.keep
    refine List.Pairwise.filterMap _ (S := fun (a b : Nat × Word) => a.1 < b.1) (fun (a b : Nat × Word) (hab : a.1 < b.1) c hc d hd => ?_) h.1
    dsimp only at hc hd
    split at hc <;> simp at hc
    split at hd <;> simp at hd
    subst hc hd
    exact hab
  · intro e he
    unfold Space.keep at he
    obtain ⟨f, _, hf⟩ := List.mem_filterMap.1 he
    dsimp only at hf
    split at hf <;> simp at hf
    subst hf
    assumption

/-- Taking a range of words out leaves the words outside it. -/
theorem State.rd_clearRange {s : State} {lo hi a : Nat} (h : ¬ (lo ≤ a ∧ a < hi)) : (s.clearRange lo hi).rd a = s.rd a := by
  unfold State.rd State.clearRange Space.read
  congr 1
  dsimp only
  generalize s.regs = m
  induction m with
  | nil => rfl
  | cons e t ih =>
    obtain ⟨b, v⟩ := e
    rw [List.filter_cons]
    split
    · unfold Space.find
      rw [ih]
    · rename_i hb
      have : b ≠ a := by
        rintro rfl
        exact hb (by simp; omega)
      rw [ih]
      conv_rhs => unfold Space.find
      rw [if_neg this]

theorem memWord_ge {u l e : Nat} {y : Bool} : 0x300000 ≤ memWord u l y e := by unfold memWord; omega

theorem dlyWord_ge {u l i : Nat} : 0x300000 ≤ dlyWord u l i := by unfold dlyWord; omega

theorem progBase_ge {u : Nat} : 0x300000 ≤ progBase u := by unfold progBase; omega

/-- Words from 0x300000 on lie in the memories of the reed units. -/
theorem blockOf_reed {a : Nat} (h : 0x300000 ≤ a) : blockOf a ∈ [48, 64] := by
  unfold blockOf
  repeat' split
  all_goals first | decide | omega

/-- A fold over a state paired with something else. -/
theorem State.within_foldl_fst {s0 : State} {K : List Comp} {B : List Nat} {α β : Type} {f : State × β → α → State × β} {l : List α} {p : State × β}
    (hf : ∀ p x, s0.within p.1 K B → s0.within (f p x).1 K B) (h : s0.within p.1 K B) : s0.within (l.foldl f p).1 K B := by
  induction l generalizing p with
  | nil => exact h
  | cons a t ih => exact ih (hf _ _ h)

theorem calWords_block : ∀ a ∈ calWords, blockOf a ∈ [3, 5] := by
  intro a ha
  have h : 0x50000 ≤ a ∧ a < 0x60000 ∨ 0x30000 ≤ a ∧ a < 0x40000 := by
    unfold calWords at ha
    simp only [List.mem_append, List.mem_map, List.mem_range] at ha
    rcases ha with (⟨i, _, rfl⟩ | ⟨i, _, rfl⟩) | ⟨i, _, rfl⟩ <;> omega
  unfold blockOf
  rw [if_pos (by omega)]
  have : a / 0x10000 = 5 ∨ a / 0x10000 = 3 := by omega
  rcases this with h | h <;> rw [h] <;> decide

theorem ptbWords_block : ∀ a ∈ ptbWords, blockOf a ∈ [24] := by decide

theorem State.setCbit_within {s0 s : State} {K : List Comp} {B : List Nat} {f : Fld} {d : Nat} {b : Bool} {a l w : Nat} (hf : f = ⟨a, l, w⟩)
    (hb : blockOf a ∈ B) (h : s0.within s K B) : s0.within (s.setCbit f d b) K B := State.put_within hf hb h

/-- Fields that calibration sets lie in the receiver's block. -/
theorem calFld_block {d q : Nat} {f : Fld} (h : calFld d q = some f) : blockOf f.addr = 5 := by
  have key : ∀ {a : Nat}, a / 0x10000 = 5 → blockOf a = 5 := by
    intro a ha
    unfold blockOf
    rw [if_pos (by omega), ha]
  unfold calFld laneFld at h
  dsimp only at h
  repeat' split at h
  all_goals first | (injection h with h; subst h; exact key (by dsimp only; omega)) | simp at h

end Sys2Proof.Machine
end

