-- ==== Sys2Proof/Laws/WithinCore.lean ====
section
/-! SUPPORT. What each named operation and each act of the interpreter can change. -/

namespace Sys2Proof.Machine

theorem State.atCyc_within {s : State} {c : ℕ} : s.within (State.atCyc s c) [.clk, .cyc] [] := by
  unfold State.atCyc
  refine State.within.step State.at_within ?_ (by decide) (by decide)
  exact State.within_refl _ _

theorem State.modPl_within {s : State} {p : Port} {f : PortLight → PortLight} : s.within (State.modPl s p f) [.light] [] := by
  unfold State.modPl
  split
  · refine State.within_upd (by intro c hc; cases c <;> first | rfl | exact absurd (by decide) hc) ?_
    exact State.within_refl _ _
  · refine State.within_upd (by intro c hc; cases c <;> first | rfl | exact absurd (by decide) hc) ?_
    exact State.within_refl _ _

theorem State.dramServe_within {s : State} {ch : ℕ} {pick : DramReq → Bool} : s.within (State.dramServe s ch pick) [.dmc] [] := by
  unfold State.dramServe
  split
  · exact State.within_refl _ _
  · refine State.within_upd (by intro c hc; cases c <;> first | rfl | exact absurd (by decide) hc) ?_
    exact State.within_refl _ _

theorem State.dramCycle_within {s : State} : s.within (State.dramCycle s) [.dmc] [] := by
  unfold State.dramCycle
  refine State.within_foldl (fun t1 y1 ht1 => ?_) ?_
  · refine State.within.step State.dramServe_within ?_ (by decide) (by decide)
    assumption
  · exact State.within_refl _ _

theorem State.dramDrain_within {s : State} : s.within (State.dramDrain s) [.dmc] [] := by
  unfold State.dramDrain
  refine State.within_foldl (fun t1 y1 ht1 => ?_) ?_
  · refine State.within_foldl (fun t2 y2 ht2 => ?_) ?_
    · refine State.within.step State.dramServe_within ?_ (by decide) (by decide)
      assumption
    · assumption
  · exact State.within_refl _ _

theorem State.dramWrite_within {s : State} {cls : ℕ} {owner : ℕ} {item : ℕ} {len : ℕ} : s.within (State.dramWrite s cls owner item len) [.dmc] [] := by
  unfold State.dramWrite
  extract_lets x1 x2 x3 x4
  clear_value x1
  clear_value x2
  clear_value x3
  clear_value x4
  refine State.within_upd (by intro c hc; cases c <;> first | rfl | exact absurd (by decide) hc) ?_
  exact State.within_refl _ _

theorem State.changeFsp_within {s : State} {n : ℕ} : s.within (State.changeFsp s n) [.dmc] [21] := by
  unfold State.changeFsp
  refine State.within_ite ?_ ?_
  · exact State.within_refl _ _
  · extract_lets x1 x2
    have hx1 : s.within x1 [.dmc] [21] := by
      unfold x1
      refine State.within.step State.dramDrain_within ?_ (by decide) (by decide)
      exact State.within_refl _ _
    clear_value x1
    clear_value x2
    refine State.put_within rfl (mem_block (b := 21) (by decide) (by decide)) ?_
    refine State.within_upd (by intro c hc; cases c <;> first | rfl | exact absurd (by decide) hc) ?_
    assumption

theorem State.enter_within {s : State} {n : ℕ} : s.within (State.enter s n) [.dmc] [0, 21] := by
  unfold State.enter
  refine State.within_ite ?_ ?_
  · exact State.within_refl _ _
  · extract_lets x1
    have hx1 : s.within x1 [.dmc] [0, 21] := by
      unfold x1
      refine State.within_ite ?_ ?_
      · exact State.within_refl _ _
      · refine State.within.step State.changeFsp_within ?_ (by decide) (by decide)
        exact State.within_refl _ _
    clear_value x1
    refine State.wr_within (mem_block (b := 0) (by decide) (by decide)) ?_
    assumption

theorem State.issue_within {s : State} {e : BitVec 32} : s.within (State.issue s e) [.power] [] := by
  unfold State.issue
  refine State.within_upd (by intro c hc; cases c <;> first | rfl | exact absurd (by decide) hc) ?_
  exact State.within_refl _ _

theorem State.setEpoch_within {s : State} {t : Ts} {e : BitVec 32} : s.within (State.setEpoch s t e) [.grid, .power] [0] := by
  unfold State.setEpoch
  extract_lets x1 x2
  have hx1 : s.within x1 [.grid, .power] [0] := by
    unfold x1
    refine State.within.step State.issue_within ?_ (by decide) (by decide)
    refine State.put_within rfl (mem_block (b := 0) (by decide) (by decide)) ?_
    exact State.within_refl _ _
  clear_value x1
  clear_value x2
  refine State.within_upd (by intro c hc; cases c <;> first | rfl | exact absurd (by decide) hc) ?_
  assumption

theorem State.emitDrop_within {s : State} {o : Out} : s.within (State.emitDrop s o) [.ptb, .out] [24] := by
  unfold State.emitDrop
  split
  · refine State.within_ite ?_ ?_
    · refine State.within_ite ?_ ?_
      · refine State.emitRaw_within (by decide) ?_
        refine State.count_within rfl (mem_block (b := 24) (by decide) (by decide)) ?_
        refine State.within_upd (by intro c hc; cases c <;> first | rfl | exact absurd (by decide) hc) ?_
        exact State.within_refl _ _
      · refine State.emitRaw_within (by decide) ?_
        refine State.within_upd (by intro c hc; cases c <;> first | rfl | exact absurd (by decide) hc) ?_
        exact State.within_refl _ _
    · refine State.emitRaw_within (by decide) ?_
      exact State.within_refl _ _
  · refine State.emitRaw_within (by decide) ?_
    exact State.within_refl _ _

theorem State.emit_within {s : State} {o : Out} : s.within (State.emit s o) [.ptb, .out] [24] := by
  unfold State.emit
  extract_lets x1 x2
  have hx1 : s.within x1 [.ptb, .out] [24] := by
    unfold x1
    refine State.within.step State.emitDrop_within ?_ (by decide) (by decide)
    exact State.within_refl _ _
  clear_value x1
  clear_value x2
  split
  · assumption
  · refine State.within_ite ?_ ?_
    · assumption
    · extract_lets x3
      clear_value x3
      refine State.within_ite ?_ ?_
      · refine State.emitRaw_within (by decide) ?_
        refine State.count_within rfl (mem_block (b := 24) (by decide) (by decide)) ?_
        refine State.within_upd (by intro c hc; cases c <;> first | rfl | exact absurd (by decide) hc) ?_
        assumption
      · refine State.within_upd (by intro c hc; cases c <;> first | rfl | exact absurd (by decide) hc) ?_
        assumption

theorem State.msiSince_within {s : State} {a1 : State} : s.within (State.msiSince s a1) [.out] [] := by
  unfold State.msiSince
  refine State.within_ite ?_ ?_
  · refine State.emitRaw_within (by decide) ?_
    exact State.within_refl _ _
  · exact State.within_refl _ _

theorem State.sendReply_within {s : State} {via : Via} {p : Packet} : s.within (State.sendReply s via p) [.ptb, .out] [24, 25] := by
  unfold State.sendReply
  split
  · exact State.within.step State.emit_within (State.within_refl _ _) (by decide) (by decide)
  · rename_i m
    have hm := m.isLt
    extract_lets t
    refine State.within.step State.msiSince_within ?_ (by decide) (by decide)
    refine State.within.step State.emit_within ?_ (by decide) (by decide)
    refine State.puts_cons_within ?_
    refine State.puts_cons_within ?_
    refine State.puts_cons_within ?_
    refine State.puts_nil_within ?_
    refine State.put_within rfl (mem_block (b := 25) (by omega) (by decide)) (State.put_within rfl (mem_block (b := 25) (by omega) (by decide)) (State.put_within rfl (mem_block (b := 25) (by omega) (by decide)) (State.wrWords_within ?_ (State.within_refl _ _))))
    · intro i hi
      have : i < 2048 := lt_of_lt_of_le hi (List.length_take_le _ _)
      exact mem_block (b := 25) (by unfold mbReply; omega) (by decide)

theorem State.sendEvent_within {s : State} {via : Via} {p : Packet} : s.within (State.sendEvent s via p) [.ptb, .out] [24, 25] := by
  unfold State.sendEvent
  split
  · exact State.within.step State.emit_within (State.within_refl _ _) (by decide) (by decide)
  · rename_i m
    have hm := m.isLt
    extract_lets t
    refine State.within.step State.msiSince_within ?_ (by decide) (by decide)
    refine State.within.step State.emit_within ?_ (by decide) (by decide)
    refine State.puts_cons_within ?_
    refine State.puts_cons_within ?_
    refine State.puts_nil_within ?_
    refine State.put_within rfl (mem_block (b := 25) (by omega) (by decide)) (State.put_within rfl (mem_block (b := 25) (by omega) (by decide)) (State.wrWords_within ?_ (State.within_refl _ _)))
    · intro i hi
      have : i < 2048 := lt_of_lt_of_le hi (List.length_take_le _ _)
      exact mem_block (b := 25) (by unfold mbEvent; omega) (by decide)

theorem State.setHops_within {s : State} {x : ℕ} {l : List NextHop} : s.within (State.setHops s x l) [.net] [] := by
  unfold State.setHops
  refine State.within_ite ?_ ?_
  · refine State.within_upd (by intro c hc; cases c <;> first | rfl | exact absurd (by decide) hc) ?_
    exact State.within_refl _ _
  · refine State.within_upd (by intro c hc; cases c <;> first | rfl | exact absurd (by decide) hc) ?_
    exact State.within_refl _ _

theorem State.modSess_within {s : State} {r : ℕ} {f : Session → Session} : s.within (State.modSess s r f) [.qcp] [] := by
  unfold State.modSess
  refine State.within_upd (by intro c hc; cases c <;> first | rfl | exact absurd (by decide) hc) ?_
  exact State.within_refl _ _

theorem State.qcpCount_within {s : State} : s.within (State.qcpCount s) [] [25] := by
  unfold State.qcpCount
  refine State.puts_cons_within ?_
  refine State.puts_cons_within ?_
  refine State.puts_cons_within ?_
  refine State.puts_nil_within ?_
  refine State.put_within rfl (mem_block (b := 25) (by omega) (by decide)) ?_
  refine State.put_within rfl (mem_block (b := 25) (by omega) (by decide)) ?_
  refine State.put_within rfl (mem_block (b := 25) (by omega) (by decide)) ?_
  exact State.within_refl _ _

theorem State.reply_within {s : State} {q : ReqHdr} {op : ℕ} {status : ℕ} {items : List Item} : s.within (State.reply s q op status items) [.qcp, .ptb, .out] [24, 25] := by
  unfold State.reply
  extract_lets x1
  clear_value x1
  refine State.within.step State.sendReply_within ?_ (by decide) (by decide)
  refine State.within.step State.modSess_within ?_ (by decide) (by decide)
  exact State.within_refl _ _

theorem State.errorReply_within {s : State} {via : Via} {r : ℕ} {seq : BitVec 32} {op : ℕ} {status : ℕ} : s.within (State.errorReply s via r seq op status) [.qcp, .ptb, .out] [24, 25] := by
  unfold State.errorReply
  extract_lets x1 x2 x3 x4 x5 x6
  clear_value x1
  clear_value x2
  clear_value x3
  have hx4 : s.within x4 [.qcp, .ptb, .out] [24, 25] := by
    unfold x4
    refine State.count_within rfl (mem_block (b := 25) (by decide) (by decide)) ?_
    exact State.within_refl _ _
  clear_value x4
  clear_value x5
  have hx6 : s.within x6 [.qcp, .ptb, .out] [24, 25] := by
    unfold x6
    refine State.within_upd (by intro c hc; cases c <;> first | rfl | exact absurd (by decide) hc) ?_
    exact State.within_refl _ _
  clear_value x6
  refine State.within_ite ?_ ?_
  · split
    · refine State.put_within rfl (mem_block (b := 25) (by omega) (by decide)) ?_
      assumption
    · assumption
  · refine State.within.step State.sendReply_within ?_ (by decide) (by decide)
    assumption

theorem State.logEvent_within {s : State} {r : ℕ} {via : Via} {items : List Item} {op : ℕ} : s.within (State.logEvent s r via items op) [.qcp, .ptb, .out] [24, 25] := by
  unfold State.logEvent
  extract_lets x1 x2 x3
  clear_value x1
  clear_value x2
  have hx3 : s.within x3 [.qcp, .ptb, .out] [24, 25] := by
    unfold x3
    refine State.within.step State.modSess_within ?_ (by decide) (by decide)
    exact State.within_refl _ _
  clear_value x3
  refine State.within_ite ?_ ?_
  · refine State.within.step State.sendEvent_within ?_ (by decide) (by decide)
    assumption
  · assumption

theorem State.trimLog_within {s : State} {r : ℕ} : s.within (State.trimLog s r) [.qcp, .ptb, .out] [24, 25] := by
  unfold State.trimLog
  extract_lets x1 x2
  clear_value x1
  clear_value x2
  refine State.within_ite ?_ ?_
  · exact State.within_refl _ _
  · refine State.within_ite ?_ ?_
    · refine State.within.step State.modSess_within ?_ (by decide) (by decide)
      exact State.within_refl _ _
    · refine State.within.step State.logEvent_within ?_ (by decide) (by decide)
      refine State.within.step State.modSess_within ?_ (by decide) (by decide)
      exact State.within_refl _ _

theorem State.event_within {s : State} {r : ℕ} {code : ℕ} {subject : ℕ} {extra : List Item} : s.within (State.event s r code subject extra) [.qcp, .ptb, .out] [24, 25] := by
  unfold State.event
  refine State.within.step State.trimLog_within ?_ (by decide) (by decide)
  refine State.within.step State.logEvent_within ?_ (by decide) (by decide)
  exact State.within_refl _ _

theorem State.eventOwner_within {s : State} {code : ℕ} {subject : ℕ} {extra : List Item} : s.within (State.eventOwner s code subject extra) [.qcp, .ptb, .out] [24, 25] := by
  unfold State.eventOwner
  refine State.within.step State.event_within ?_ (by decide) (by decide)
  exact State.within_refl _ _

theorem State.eventAll_within {s : State} {code : ℕ} {subject : ℕ} {extra : List Item} : s.within (State.eventAll s code subject extra) [.qcp, .ptb, .out] [24, 25] := by
  unfold State.eventAll
  refine State.within_foldl (fun t1 y1 ht1 => ?_) ?_
  · refine State.within_ite ?_ ?_
    · refine State.within.step State.event_within ?_ (by decide) (by decide)
      assumption
    · assumption
  · exact State.within_refl _ _

theorem State.commitPoint_within {s : State} {r : ℕ} {seq : BitVec 32} : s.within (State.commitPoint s r seq) [.qcp] [] := by
  unfold State.commitPoint
  refine State.within.step State.modSess_within ?_ (by decide) (by decide)
  exact State.within_refl _ _

theorem State.complete_within {s : State} {r : ℕ} {seq : BitVec 32} {status : ℕ} {items : List Item} : s.within (State.complete s r seq status items) [.qcp, .ptb, .out] [24, 25] := by
  unfold State.complete
  split
  · exact State.within_refl _ _
  · refine State.within_ite ?_ ?_
    · exact State.within_refl _ _
    · extract_lets x1
      have hx1 : s.within x1 [.qcp, .ptb, .out] [24, 25] := by
        unfold x1
        refine State.within.step State.modSess_within ?_ (by decide) (by decide)
        exact State.within_refl _ _
      clear_value x1
      refine State.within.step State.qcpCount_within ?_ (by decide) (by decide)
      refine State.within.step State.trimLog_within ?_ (by decide) (by decide)
      refine State.within.step State.logEvent_within ?_ (by decide) (by decide)
      assumption

theorem State.completeAll_within {s : State} {op : ℕ} {subject : ℕ → Bool} {status : ℕ} {items : List Item} : s.within (State.completeAll s op subject status items) [.qcp, .ptb, .out] [24, 25] := by
  unfold State.completeAll
  refine State.within_foldl (fun t1 y1 ht1 => ?_) ?_
  · refine State.within.step State.complete_within ?_ (by decide) (by decide)
    assumption
  · exact State.within_refl _ _

theorem State.commitAll_within {s : State} {op : ℕ} {subject : ℕ → Bool} : s.within (State.commitAll s op subject) [.qcp] [] := by
  unfold State.commitAll
  refine State.within_foldl (fun t1 y1 ht1 => ?_) ?_
  · refine State.within.step State.commitPoint_within ?_ (by decide) (by decide)
    assumption
  · exact State.within_refl _ _

theorem State.notFresh_within {s : State} {q : ReqHdr} {op : ℕ} {crc : Option (BitVec 32)} : s.within (State.notFresh s q op crc) [.ptb, .out] [24, 25] := by
  unfold State.notFresh
  split
  · split
    · refine State.within.step State.sendReply_within ?_ (by decide) (by decide)
      refine State.count_within rfl (mem_block (b := 25) (by decide) (by decide)) ?_
      exact State.within_refl _ _
    · refine State.within.step State.sendReply_within ?_ (by decide) (by decide)
      refine State.count_within rfl (mem_block (b := 25) (by decide) (by decide)) ?_
      exact State.within_refl _ _
  · refine State.within.step State.sendReply_within ?_ (by decide) (by decide)
    refine State.count_within rfl (mem_block (b := 25) (by decide) (by decide)) ?_
    exact State.within_refl _ _

section

variable {s0 : State} {K : List Comp} {B : List Nat}

theorem State.runRequest_within {s : State} {q : ReqHdr} {op : Nat} {body : State → State} (hk : [.qcp, .ptb, .out] ⊆ K) (hb : [24, 25] ⊆ B)
    (hf : ∀ t, s0.within t K B → s0.within (body t) K B) (h : s0.within s K B) : s0.within (s.runRequest q op body) K B :=
  State.within_ite (State.reply_within.step h hk hb) (hf _ h)

theorem State.checks_within {s : State} {q : ReqHdr} {op : Nat} {l : List (Bool × Nat)} {body : State → State} (hk : [.qcp, .ptb, .out] ⊆ K)
    (hb : [24, 25] ⊆ B) (hf : ∀ t, s0.within t K B → s0.within (body t) K B) (h : s0.within s K B) :
    s0.within (s.checks q op l body) K B := by
  induction l with
  | nil => exact hf _ h
  | cons p t ih =>
    obtain ⟨bad, status⟩ := p
    exact State.within_ite (State.reply_within.step h hk hb) ih

theorem State.ownerOnly_within {s : State} {q : ReqHdr} {op : Nat} {body : State → State} (hk : [.qcp, .ptb, .out] ⊆ K) (hb : [24, 25] ⊆ B)
    (hf : ∀ t, s0.within t K B → s0.within (body t) K B) (h : s0.within s K B) : s0.within (s.ownerOnly q op body) K B :=
  State.within_ite (hf _ h) (State.reply_within.step h hk hb)

theorem State.startLong_within {s : State} {q : ReqHdr} {op n : Nat} {body : State → State} (hk : [.qcp, .ptb, .out] ⊆ K) (hb : [24, 25] ⊆ B)
    (hf : ∀ t, s0.within t K B → s0.within (body t) K B) (h : s0.within s K B) : s0.within (s.startLong q op n body) K B := by
  refine State.within_ite (State.reply_within.step h hk hb) (hf _ ?_)
  refine State.qcpCount_within.step (State.reply_within.step (State.modSess_within.step h ?_ (by simp)) hk hb) (by simp) ?_
  · exact fun c hc => hk (by revert hc c; decide)
  · exact fun c hc => hb (by revert hc c; decide)

/-- What a request does beside its body stays with the sessions, the transports and the counts. -/
theorem State.request_within {s : State} {q : ReqHdr} {op : Nat} {body : State → State} {args : List Operand} (hk : [.qcp, .ptb, .out] ⊆ K) (hb : [24, 25] ⊆ B)
    (hf : ∀ t, s0.within t K B → s0.within (body t) K B) (h : s0.within s K B) : s0.within (s.request q op body args) K B := by
  have hq : ([.qcp] : List Comp) ⊆ K := fun c hc => hk (by revert hc c; decide)
  have hpo : ([.ptb, .out] : List Comp) ⊆ K := fun c hc => hk (by revert hc c; decide)
  have h25 : [25] ⊆ B := fun c hc => hb (by revert hc c; decide)
  have hm (f : Session → Session) : s0.within (s.modSess q.session.val f) K B := State.modSess_within.step h hq (by simp)
  unfold State.request
  dsimp only
  refine State.within_ite h ?_
  split
  · refine State.within_ite (State.runRequest_within hk hb hf (State.qcpCount_within.step (hm _) (by simp) h25)) ?_
    refine State.within_ite h (State.within_ite (State.notFresh_within.step h hpo hb) (State.within_ite ?_ ?_))
    · refine State.reply_within.step (State.count_within rfl (mem_block (b := 25) (by decide) (h25 (by decide))) (hm _)) hk hb
    · exact State.qcpCount_within.step (hm _) (by simp) h25
  · refine State.within_ite ?_ (State.within_ite (State.notFresh_within.step h hpo hb) (State.runRequest_within hk hb hf (hm _)))
    exact State.errorReply_within.step (State.count_within rfl (mem_block (b := 25) (by decide) (h25 (by decide))) h) hk hb

end

theorem State.ignore_within {s : State} {path : Path} {off : ℕ} {cause : ℕ} : s.within (State.ignore s path off cause) [] [0] := by
  unfold State.ignore
  extract_lets x1
  clear_value x1
  refine State.puts_cons_within ?_
  refine State.puts_cons_within ?_
  refine State.puts_cons_within ?_
  refine State.puts_cons_within ?_
  refine State.puts_nil_within ?_
  refine State.put_within rfl (mem_block (b := 0) (by omega) (by decide)) ?_
  refine State.put_within rfl (mem_block (b := 0) (by omega) (by decide)) ?_
  refine State.put_within rfl (mem_block (b := 0) (by omega) (by decide)) ?_
  refine State.put_within rfl (mem_block (b := 0) (by omega) (by decide)) ?_
  refine State.countSat_within rfl (mem_block (b := 0) (by decide) (by decide)) ?_
  exact State.within_refl _ _

section

variable {s0 : State} {K : List Comp} {B : List Nat}

theorem State.byOwner_within {s : State} {path : Path} {f : State → State} (hf : ∀ t, s0.within t K B → s0.within (f t) K B)
    (h : s0.within s K B) : s0.withinE (s.byOwner path f) K B :=
  State.withinE_ite (State.withinE_ok (hf _ h)) State.withinE_error

theorem State.byBound_within {s : State} {path : Path} {f : State → State} (hf : ∀ t, s0.within t K B → s0.within (f t) K B)
    (h : s0.within s K B) : s0.withinE (s.byBound path f) K B :=
  State.withinE_ite (State.withinE_ok (hf _ h)) State.withinE_error

theorem State.acted_within {s : State} {path : Path} {off : Nat} {r : Except Nat State} (hb : [0] ⊆ B) (hr : s0.withinE r K B)
    (h : s0.within s K B) : s0.within (s.acted path off r) K B := by
  refine State.within_ite h ?_
  split
  · exact hr _ rfl
  · exact State.ignore_within.step h (by simp) hb

end

theorem State.putStamp_within {s0 s : State} {K : List Comp} {B : List Nat} {f g h : Fld} {t : Ts} {a l w b m v c n u : Nat}
    (hf : f = ⟨a, l, w⟩) (hg : g = ⟨b, m, v⟩) (hh : h = ⟨c, n, u⟩) (ha : blockOf a ∈ B) (hb : blockOf b ∈ B) (hc : blockOf c ∈ B)
    (hs : s0.within s K B) : s0.within (s.putStamp f g h t) K B :=
  State.put_within hh hc (State.put_within hg hb (State.put_within hf ha hs))

end Sys2Proof.Machine
end

