-- ==== Sys2Proof/Laws/WithinLight.lean ====
section
/-! SUPPORT. What each meaning of the light sources, the clock and the time base can change. -/

namespace Sys2Proof.Machine

theorem State.setMon_within {s : State} {r : Rounds} : s.within (State.setMon s r) [.mon] [19] := by
  unfold State.setMon
  refine State.puts_cons_within ?_
  refine State.puts_cons_within ?_
  refine State.puts_nil_within ?_
  refine State.put_within rfl (mem_block (b := 19) (by omega) (by decide)) ?_
  refine State.put_within rfl (mem_block (b := 19) (by omega) (by decide)) ?_
  refine State.within_upd (by intro c hc; cases c <;> first | rfl | exact absurd (by decide) hc) ?_
  exact State.within_refl _ _

theorem State.monReg_within {s : State} : s.within (State.monReg s) [.mon] [19] := by
  unfold State.monReg
  extract_lets x1
  clear_value x1
  refine State.within_ite ?_ ?_
  · refine State.countSat_within rfl (mem_block (b := 19) (by decide) (by decide)) ?_
    exact State.within_refl _ _
  · refine State.within.step State.setMon_within ?_ (by decide) (by decide)
    exact State.within_refl _ _

theorem State.monInj_within {s : State} : s.within (State.monInj s) [.mon] [19] := by
  unfold State.monInj
  extract_lets x1
  clear_value x1
  refine State.within_ite ?_ ?_
  · refine State.countSat_within rfl (mem_block (b := 19) (by decide) (by decide)) ?_
    exact State.within_refl _ _
  · refine State.puts_map_within (fun _ => mem_fld (b := 19) rfl (by omega) (by decide)) ?_
    refine State.within.step State.setMon_within ?_ (by decide) (by decide)
    exact State.within_refl _ _

theorem State.monTrig_within {s : State} {code : ℕ} : s.within (State.monTrig s code) [.mon] [19] := by
  unfold State.monTrig
  extract_lets x1
  have hx1 : s.within x1 [.mon] [19] := by
    unfold x1
    refine State.within_ite ?_ ?_
    · refine State.within.step State.monInj_within ?_ (by decide) (by decide)
      exact State.within_refl _ _
    · exact State.within_refl _ _
  clear_value x1
  refine State.within_ite ?_ ?_
  · refine State.within.step State.monReg_within ?_ (by decide) (by decide)
    assumption
  · assumption

theorem State.monSw_within {s : State} : s.within (State.monSw s) [.mon] [19] := by
  unfold State.monSw
  refine State.within.step State.monReg_within ?_ (by decide) (by decide)
  refine State.puts_map_within (fun _ => mem_fld (b := 19) rfl (by omega) (by decide)) ?_
  exact State.within_refl _ _

theorem State.updMonRef_within {s : State} : s.within (State.updMonRef s) [] [19] := by
  unfold State.updMonRef
  refine State.within_ite ?_ ?_
  · refine State.put_within rfl (mem_block (b := 19) (by decide) (by decide)) ?_
    exact State.within_refl _ _
  · exact State.within_refl _ _

theorem State.monRefMove_within {s : State} : s.within (State.monRefMove s) [.mon] [19] := by
  unfold State.monRefMove
  refine State.put_within rfl (mem_block (b := 19) (by decide) (by decide)) ?_
  refine State.within_upd (by intro c hc; cases c <;> first | rfl | exact absurd (by decide) hc) ?_
  exact State.within_refl _ _

theorem State.monChange_within {s : State} : s.within (State.monChange s) [.mon] [19] := by
  unfold State.monChange
  extract_lets x1
  have hx1 : s.within x1 [.mon] [19] := by
    unfold x1
    refine State.within.step State.setMon_within ?_ (by decide) (by decide)
    exact State.within_refl _ _
  clear_value x1
  refine State.within_ite ?_ ?_
  · refine State.within.step State.monReg_within ?_ (by decide) (by decide)
    assumption
  · assumption

theorem monitorConversionStep_within {injected : Bool} {codes : List ℕ} {t : Ts} {s : State} : s.within (monitorConversionStep injected codes t s) [.clk, .cyc, .mon] [19] := by
  unfold monitorConversionStep
  extract_lets x1 x2 x3
  have hx1 : s.within x1 [.clk, .cyc, .mon] [19] := by
    unfold x1
    refine State.within.step State.updMonRef_within ?_ (by decide) (by decide)
    refine State.within.step State.at_within ?_ (by decide) (by decide)
    exact State.within_refl _ _
  clear_value x1
  clear_value x2
  clear_value x3
  split
  · assumption
  · refine State.within_ite ?_ ?_
    · assumption
    · extract_lets x4 x5 x6 x7 x8
      clear_value x4
      clear_value x5
      have hx6 : s.within x6 [.clk, .cyc, .mon] [19] := by
        unfold x6
        refine State.putStamp_within rfl rfl rfl (mem_block (b := 19) (by omega) (by decide)) (mem_block (b := 19) (by omega) (by decide)) (mem_block (b := 19) (by omega) (by decide)) ?_
        refine State.puts_cons_within ?_
        refine State.puts_cons_within ?_
        refine State.puts_cons_within ?_
        refine State.puts_cons_within ?_
        refine State.puts_nil_within ?_
        refine State.put_within rfl (mem_block (b := 19) (by omega) (by decide)) ?_
        refine State.put_within rfl (mem_block (b := 19) (by omega) (by decide)) ?_
        refine State.put_within rfl (mem_block (b := 19) (by omega) (by decide)) ?_
        refine State.put_within rfl (mem_block (b := 19) (by omega) (by decide)) ?_
        refine State.count_within rfl (mem_block (b := 19) (by omega) (by decide)) ?_
        assumption
      clear_value x6
      clear_value x7
      have hx8 : s.within x8 [.clk, .cyc, .mon] [19] := by
        unfold x8
        refine State.within.step State.setMon_within ?_ (by decide) (by decide)
        assumption
      clear_value x8
      refine State.within_ite ?_ ?_
      · refine State.within.step State.setMon_within ?_ (by decide) (by decide)
        assumption
      · refine State.within_ite ?_ ?_
        · refine State.within.step State.monReg_within ?_ (by decide) (by decide)
          assumption
        · assumption

theorem execMonitorConversion_within {injected : Bool} {codes : List ℕ} {ts : Ts} {s : State} : s.withinC (execMonitorConversion injected codes ts s) [.clk, .cyc, .mon] [19] := by
  unfold execMonitorConversion
  refine State.withinC_next ?_
  refine State.within.step monitorConversionStep_within ?_ (by decide) (by decide)
  exact State.within_refl _ _

theorem State.startGrid_within {s : State} {from_ : Ts} : s.within (State.startGrid s from_) [.grid] [] := by
  unfold State.startGrid
  refine State.within_upd (by intro c hc; cases c <;> first | rfl | exact absurd (by decide) hc) ?_
  exact State.within_refl _ _

theorem State.stopGrid_within {s : State} : s.within (State.stopGrid s) [.grid] [] := by
  unfold State.stopGrid
  refine State.within_upd (by intro c hc; cases c <;> first | rfl | exact absurd (by decide) hc) ?_
  exact State.within_refl _ _

theorem State.unsettleDas_within {s : State} {p : Port} : s.within (State.unsettleDas s p) [.grid] [] := by
  unfold State.unsettleDas
  split
  · refine State.within_upd (by intro c hc; cases c <;> first | rfl | exact absurd (by decide) hc) ?_
    exact State.within_refl _ _
  · refine State.within_upd (by intro c hc; cases c <;> first | rfl | exact absurd (by decide) hc) ?_
    exact State.within_refl _ _

theorem State.unsettleBrl_within {s : State} {p : Port} : s.within (State.unsettleBrl s p) [.rx] [] := by
  unfold State.unsettleBrl
  split
  · refine State.within_upd (by intro c hc; cases c <;> first | rfl | exact absurd (by decide) hc) ?_
    exact State.within_refl _ _
  · refine State.within_upd (by intro c hc; cases c <;> first | rfl | exact absurd (by decide) hc) ?_
    exact State.within_refl _ _

theorem State.unsettlePort_within {s : State} {p : Port} : s.within (State.unsettlePort s p) [.grid, .rx] [] := by
  unfold State.unsettlePort
  refine State.within.step State.unsettleBrl_within ?_ (by decide) (by decide)
  refine State.within.step State.unsettleDas_within ?_ (by decide) (by decide)
  exact State.within_refl _ _

theorem State.unsettle2_within {s : State} : s.within (State.unsettle2 s) [.grid, .rx] [] := by
  unfold State.unsettle2
  refine State.within.step State.unsettlePort_within ?_ (by decide) (by decide)
  refine State.within.step State.unsettlePort_within ?_ (by decide) (by decide)
  exact State.within_refl _ _

theorem State.reinit_within {s : State} {p : Port} {r : Reinit} : s.within (State.reinit s p r) [.grid] [] := by
  unfold State.reinit
  extract_lets x1 x2
  clear_value x2
  split
  · refine State.within_upd (by intro c hc; cases c <;> first | rfl | exact absurd (by decide) hc) ?_
    exact State.within_refl _ _
  · refine State.within_upd (by intro c hc; cases c <;> first | rfl | exact absurd (by decide) hc) ?_
    exact State.within_refl _ _

theorem State.reinitAll_within {s : State} : s.within (State.reinitAll s) [.grid] [] := by
  unfold State.reinitAll
  refine State.within.step State.reinit_within ?_ (by decide) (by decide)
  refine State.within.step State.reinit_within ?_ (by decide) (by decide)
  exact State.within_refl _ _

theorem State.closeClamp_within {s : State} : s.within (State.closeClamp s) [] [3] := by
  unfold State.closeClamp
  refine State.puts_cons_within ?_
  refine State.puts_cons_within ?_
  refine State.puts_cons_within ?_
  refine State.puts_nil_within ?_
  refine State.put_within rfl (mem_block (b := 3) (by decide) (by decide)) ?_
  refine State.put_within rfl (mem_block (b := 3) (by decide) (by decide)) ?_
  refine State.put_within rfl (mem_block (b := 3) (by decide) (by decide)) ?_
  exact State.within_refl _ _

theorem State.settleClamp_within {s : State} : s.within (State.settleClamp s) [] [3] := by
  unfold State.settleClamp
  refine State.within_ite ?_ ?_
  · refine State.within.step State.closeClamp_within ?_ (by decide) (by decide)
    exact State.within_refl _ _
  · refine State.within_ite ?_ ?_
    · exact State.within_refl _ _
    · refine State.put_within rfl (mem_block (b := 3) (by decide) (by decide)) ?_
      exact State.within_refl _ _

theorem State.latchLive_within {s : State} : s.within (State.latchLive s) [] [3] := by
  unfold State.latchLive
  refine State.put_within rfl (mem_block (b := 3) (by decide) (by decide)) ?_
  exact State.within_refl _ _

theorem State.enterSafe_within {s : State} : s.within (State.enterSafe s) [.light, .mon, .dmc] [0, 3, 19, 21] := by
  unfold State.enterSafe
  extract_lets x1 x2
  clear_value x1
  clear_value x2
  refine State.within_ite ?_ ?_
  · exact State.within_refl _ _
  · refine State.within_ite ?_ ?_
    · refine State.within.step State.monTrig_within ?_ (by decide) (by decide)
      refine State.within.step State.enter_within ?_ (by decide) (by decide)
      refine State.within_upd (by intro c hc; cases c <;> first | rfl | exact absurd (by decide) hc) ?_
      exact State.within_refl _ _
    · refine State.within.step State.monTrig_within ?_ (by decide) (by decide)
      refine State.within.step State.latchLive_within ?_ (by decide) (by decide)
      refine State.within.step State.enter_within ?_ (by decide) (by decide)
      exact State.within_refl _ _

theorem State.trip_within {s : State} {bit : ℕ} : s.within (State.trip s bit) [.light, .mon, .dmc] [0, 3, 19, 21] := by
  unfold State.trip
  extract_lets x1
  have hx1 : s.within x1 [.light, .mon, .dmc] [0, 3, 19, 21] := by
    unfold x1
    refine State.within.step State.closeClamp_within ?_ (by decide) (by decide)
    exact State.within_refl _ _
  clear_value x1
  refine State.within_ite ?_ ?_
  · refine State.within.step State.enterSafe_within ?_ (by decide) (by decide)
    refine State.put_within rfl (mem_block (b := 3) (by decide) (by decide)) ?_
    assumption
  · assumption

theorem State.hwFault_within {s : State} {f : HwFault} : s.within (State.hwFault s f) [.light, .mon, .dmc] [0, 3, 19, 21] := by
  unfold State.hwFault
  extract_lets x1 x2 x3 x4
  clear_value x1
  have hx2 : s.within x2 [.light, .mon, .dmc] [0, 3, 19, 21] := by
    unfold x2
    refine State.within_upd (by intro c hc; cases c <;> first | rfl | exact absurd (by decide) hc) ?_
    exact State.within_refl _ _
  clear_value x2
  clear_value x3
  clear_value x4
  refine State.within_ite ?_ ?_
  · refine State.within.step State.enterSafe_within ?_ (by decide) (by decide)
    refine State.within_upd (by intro c hc; cases c <;> first | rfl | exact absurd (by decide) hc) ?_
    assumption
  · assumption

theorem State.clearFault_within {s : State} {f : HwFault} : s.within (State.clearFault s f) [.light] [] := by
  unfold State.clearFault
  refine State.within_upd (by intro c hc; cases c <;> first | rfl | exact absurd (by decide) hc) ?_
  exact State.within_refl _ _

theorem State.driveFlash_within {s : State} {closed : Bool} : s.within (State.driveFlash s closed) [.light, .power] [16] := by
  unfold State.driveFlash
  extract_lets x1 x2 x3 x4 x5
  clear_value x1
  clear_value x2
  have hx3 : s.within x3 [.light, .power] [16] := by
    unfold x3
    refine State.within_upd (by intro c hc; cases c <;> first | rfl | exact absurd (by decide) hc) ?_
    exact State.within_refl _ _
  clear_value x3
  clear_value x4
  clear_value x5
  refine State.within_ite ?_ ?_
  · assumption
  · refine State.put_within rfl (mem_block (b := 16) (by decide) (by decide)) ?_
    refine State.within_upd (by intro c hc; cases c <;> first | rfl | exact absurd (by decide) hc) ?_
    assumption

theorem State.toStandby_within {s : State} : s.within (State.toStandby s) [.light, .dmc, .power, .out] [0, 16, 21] := by
  unfold State.toStandby
  extract_lets x1 x2
  clear_value x1
  have hx2 : s.within x2 [.light, .dmc, .power, .out] [0, 16, 21] := by
    unfold x2
    refine State.within.step State.msiSince_within ?_ (by decide) (by decide)
    refine State.within.step State.enter_within ?_ (by decide) (by decide)
    refine State.within_upd (by intro c hc; cases c <;> first | rfl | exact absurd (by decide) hc) ?_
    exact State.within_refl _ _
  clear_value x2
  refine State.within.step State.driveFlash_within ?_ (by decide) (by decide)
  assumption

theorem flashingSettledStep_within {s : State} : s.within (flashingSettledStep s) [.light] [16] := by
  unfold flashingSettledStep
  refine State.whenDo_within ?_ ?_
  · refine State.within_ite ?_ ?_
    · refine State.put_within rfl (mem_block (b := 16) (by decide) (by decide)) ?_
      exact State.within_refl _ _
    · refine State.put_within rfl (mem_block (b := 16) (by decide) (by decide)) ?_
      refine State.within_upd (by intro c hc; cases c <;> first | rfl | exact absurd (by decide) hc) ?_
      exact State.within_refl _ _
  · exact State.within_refl _ _

theorem State.reducePort_within {s : State} {p : Port} {st : ℕ} : s.within (State.reducePort s p st) [.light, .mon, .dmc] [0, 3, 19, 21] := by
  unfold State.reducePort
  refine State.within.step State.enterSafe_within ?_ (by decide) (by decide)
  refine State.within.step State.modPl_within ?_ (by decide) (by decide)
  refine State.put_within rfl (mem_block (b := 3) (by omega) (by decide)) ?_
  exact State.within_refl _ _

theorem State.learnPort_within {s : State} {p : Port} : s.within (State.learnPort s p) [.light, .mon, .dmc] [0, 3, 19, 21] := by
  unfold State.learnPort
  refine State.within_ite ?_ ?_
  · refine State.within.step State.reducePort_within ?_ (by decide) (by decide)
    exact State.within_refl _ _
  · exact State.within_refl _ _

theorem State.learnPorts_within {s : State} : s.within (State.learnPorts s) [.light, .mon, .dmc] [0, 3, 19, 21] := by
  unfold State.learnPorts
  refine State.within.step State.learnPort_within ?_ (by decide) (by decide)
  refine State.within.step State.learnPort_within ?_ (by decide) (by decide)
  exact State.within_refl _ _

theorem State.restorePort_within {s : State} {p : Port} : s.within (State.restorePort s p) [.light] [3] := by
  unfold State.restorePort
  refine State.within.step State.modPl_within ?_ (by decide) (by decide)
  refine State.put_within rfl (mem_block (b := 3) (by omega) (by decide)) ?_
  exact State.within_refl _ _

theorem State.aprEnChanged_within {s : State} : s.within (State.aprEnChanged s) [.light, .qcp, .mon, .dmc, .ptb, .out] [0, 3, 19, 21, 24, 25] := by
  unfold State.aprEnChanged
  extract_lets x1 x2
  have hx1 : s.within x1 [.light, .qcp, .mon, .dmc, .ptb, .out] [0, 3, 19, 21, 24, 25] := by
    unfold x1
    refine State.within.step State.eventAll_within ?_ (by decide) (by decide)
    exact State.within_refl _ _
  clear_value x1
  have hx2 : ∀ a0 a1, s.within a0 [.light, .qcp, .mon, .dmc, .ptb, .out] [0, 3, 19, 21, 24, 25] → s.within (x2 a0 a1) [.light, .qcp, .mon, .dmc, .ptb, .out] [0, 3, 19, 21, 24, 25] := by
    intro a0 a1 ha
    unfold x2
    refine State.within_ite ?_ ?_
    · assumption
    · refine State.within.step State.modPl_within ?_ (by decide) (by decide)
      assumption
  refine State.within_ite ?_ ?_
  · refine State.within.step State.learnPorts_within ?_ (by decide) (by decide)
    refine State.within.step State.modPl_within ?_ (by decide) (by decide)
    refine State.within.step State.modPl_within ?_ (by decide) (by decide)
    assumption
  · refine hx2 _ _ ?_
    refine hx2 _ _ ?_
    assumption

theorem State.diagPort_within {s : State} {p : Port} {low : Bool} : s.within (State.diagPort s p low) [.light, .grid, .mon, .dmc, .ptb, .out] [0, 3, 19, 21, 24] := by
  unfold State.diagPort
  refine State.within_ite ?_ ?_
  · exact State.within_refl _ _
  · refine State.within_ite ?_ ?_
    · refine State.within.step State.modPl_within ?_ (by decide) (by decide)
      exact State.within_refl _ _
    · extract_lets x1 x2 x3 x4 x5
      clear_value x1
      clear_value x2
      clear_value x3
      have hx4 : s.within x4 [.light, .grid, .mon, .dmc, .ptb, .out] [0, 3, 19, 21, 24] := by
        unfold x4
        refine State.within.step State.emit_within ?_ (by decide) (by decide)
        refine State.within_upd (by intro c hc; cases c <;> first | rfl | exact absurd (by decide) hc) ?_
        exact State.within_refl _ _
      clear_value x4
      have hx5 : s.within x5 [.light, .grid, .mon, .dmc, .ptb, .out] [0, 3, 19, 21, 24] := by
        unfold x5
        refine State.within.step State.modPl_within ?_ (by decide) (by decide)
        assumption
      clear_value x5
      refine State.within_ite ?_ ?_
      · refine State.within.step State.hwFault_within ?_ (by decide) (by decide)
        refine State.put_within rfl (mem_block (b := 3) (by decide) (by decide)) ?_
        refine State.within.step State.modPl_within ?_ (by decide) (by decide)
        assumption
      · assumption

theorem diagnosticPulseStep_within {lowA : Bool} {lowB : Bool} {s : State} : s.within (diagnosticPulseStep lowA lowB s) [.light, .grid, .mon, .dmc, .ptb, .out] [0, 3, 19, 21, 24] := by
  unfold diagnosticPulseStep
  extract_lets x1 x2
  clear_value x1
  have hx2 : ∀ a0 a1 a2, s.within a2 [.light, .grid, .mon, .dmc, .ptb, .out] [0, 3, 19, 21, 24] → s.within (x2 a0 a1 a2) [.light, .grid, .mon, .dmc, .ptb, .out] [0, 3, 19, 21, 24] := by
    intro a0 a1 a2 ha
    unfold x2
    refine State.within_ite ?_ ?_
    · refine State.within.step State.diagPort_within ?_ (by decide) (by decide)
      assumption
    · assumption
  refine State.whenDo_within ?_ ?_
  · refine hx2 _ _ _ ?_
    refine hx2 _ _ _ ?_
    refine State.within_upd (by intro c hc; cases c <;> first | rfl | exact absurd (by decide) hc) ?_
    exact State.within_refl _ _
  · exact State.within_refl _ _

theorem State.sinkClips_within {s : State} : s.within (State.sinkClips s) [] [3] := by
  unfold State.sinkClips
  refine State.within_foldl (fun t1 y1 ht1 => ?_) ?_
  · refine State.within_ite ?_ ?_
    · refine State.put_within rfl (mem_block (b := 3) (by decide) (by decide)) ?_
      assumption
    · assumption
  · exact State.within_refl _ _

theorem State.setDens_within {s : State} : s.within (State.setDens s) [.light] [3] := by
  unfold State.setDens
  refine State.puts_map_within (fun _ => mem_fld (b := 3) rfl (by omega) (by decide)) ?_
  refine State.within_upd (by intro c hc; cases c <;> first | rfl | exact absurd (by decide) hc) ?_
  exact State.within_refl _ _

theorem compUpdateStep_within {therm : List ℤ} {s : State} : s.within (compUpdateStep therm s) [.light] [3] := by
  unfold compUpdateStep
  refine State.whenDo_within ?_ ?_
  · extract_lets x2 x3 x4 x5
    clear_value x2
    clear_value x3
    clear_value x4
    clear_value x5
    refine State.within.step State.setDens_within ?_ (by decide) (by decide)
    refine State.within.step State.sinkClips_within ?_ (by decide) (by decide)
    refine State.within_upd (by intro c hc; cases c <;> first | rfl | exact absurd (by decide) hc) ?_
    exact State.within_refl _ _
  · exact State.within_refl _ _

theorem derateUpdateStep_within {tcase : ℤ} {s : State} : s.within (derateUpdateStep tcase s) [.light] [3] := by
  unfold derateUpdateStep
  extract_lets x1 x2 x3
  clear_value x1
  clear_value x2
  clear_value x3
  refine State.within.step State.setDens_within ?_ (by decide) (by decide)
  refine State.puts_append_within ?_
  refine State.puts_map_within (fun _ => mem_fld (b := 3) rfl (by omega) (by decide)) ?_
  refine State.puts_cons_within ?_
  refine State.puts_cons_within ?_
  refine State.puts_nil_within ?_
  refine State.put_within rfl (mem_block (b := 3) (by omega) (by decide)) ?_
  refine State.put_within rfl (mem_block (b := 3) (by omega) (by decide)) ?_
  refine State.within_upd (by intro c hc; cases c <;> first | rfl | exact absurd (by decide) hc) ?_
  exact State.within_refl _ _

theorem powerLoopStepStep_within {p : Port} {measured : ℤ} {s : State} : s.within (powerLoopStepStep p measured s) [.light] [3] := by
  unfold powerLoopStepStep
  refine State.whenDo_within ?_ ?_
  · extract_lets x2 x3 x4 x5
    clear_value x2
    have hx3 : s.within x3 [.light] [3] := by
      unfold x3
      refine State.puti_within rfl (mem_block (b := 3) (by omega) (by decide)) ?_
      refine State.within.step State.modPl_within ?_ (by decide) (by decide)
      exact State.within_refl _ _
    clear_value x3
    clear_value x5
    refine State.within.step State.setDens_within ?_ (by decide) (by decide)
    refine State.within.step State.sinkClips_within ?_ (by decide) (by decide)
    refine State.within_upd (by intro c hc; cases c <;> first | rfl | exact absurd (by decide) hc) ?_
    assumption
  · exact State.within_refl _ _

theorem powerShortfallStep_within {p : Port} {measured : ℤ} {s : State} : s.within (powerShortfallStep p measured s) [.qcp, .ptb, .out] [3, 24, 25] := by
  unfold powerShortfallStep
  extract_lets x1
  clear_value x1
  refine State.whenDo_within ?_ ?_
  · refine State.within.step State.eventOwner_within ?_ (by decide) (by decide)
    refine State.puti_within rfl (mem_block (b := 3) (by omega) (by decide)) ?_
    exact State.within_refl _ _
  · exact State.within_refl _ _

theorem pumpOpenDetectStep_within {pump : Fin 4} {s : State} : s.within (pumpOpenDetectStep pump s) [] [3] := by
  unfold pumpOpenDetectStep
  refine State.put_within rfl (mem_block (b := 3) (by decide) (by decide)) ?_
  exact State.within_refl _ _

theorem State.startLock_within {s : State} : s.within (State.startLock s) [.light] [] := by
  unfold State.startLock
  refine State.within_upd (by intro c hc; cases c <;> first | rfl | exact absurd (by decide) hc) ?_
  exact State.within_refl _ _

theorem lockLossStep_within {ferr : BitVec 16} {s : State} : s.within (lockLossStep ferr s) [.light] [3] := by
  unfold lockLossStep
  refine State.whenDo_within ?_ ?_
  · refine State.within.step State.startLock_within ?_ (by decide) (by decide)
    refine State.puts_cons_within ?_
    refine State.puts_cons_within ?_
    refine State.puts_nil_within ?_
    refine State.put_within rfl (mem_block (b := 3) (by omega) (by decide)) ?_
    refine State.put_within rfl (mem_block (b := 3) (by decide) (by decide)) ?_
    exact State.within_refl _ _
  · exact State.within_refl _ _

theorem laserLockedStep_within {ferr : BitVec 16} {s : State} : s.within (laserLockedStep ferr s) [.light, .grid, .dmc, .power, .out] [0, 3, 16, 21] := by
  unfold laserLockedStep
  refine State.whenDo_within ?_ ?_
  · extract_lets x2 x3 x4 x5 x6 x7
    have hx2 : s.within x2 [.light, .grid, .dmc, .power, .out] [0, 3, 16, 21] := by
      unfold x2
      refine State.puts_cons_within ?_
      refine State.puts_cons_within ?_
      refine State.puts_cons_within ?_
      refine State.puts_nil_within ?_
      refine State.put_within rfl (mem_block (b := 3) (by omega) (by decide)) ?_
      refine State.put_within rfl (mem_block (b := 3) (by decide) (by decide)) ?_
      refine State.put_within rfl (mem_block (b := 3) (by decide) (by decide)) ?_
      exact State.within_refl _ _
    have hx3 : s.within x3 [.light, .grid, .dmc, .power, .out] [0, 3, 16, 21] := by
      unfold x3
      refine State.within_ite ?_ ?_
      · refine State.countSat_within rfl (mem_block (b := 3) (by decide) (by decide)) ?_
        assumption
      · assumption
    have hx5 : s.within x5 [.light, .grid, .dmc, .power, .out] [0, 3, 16, 21] := by
      unfold x5
      refine State.within_upd (by intro c hc; cases c <;> first | rfl | exact absurd (by decide) hc) ?_
      assumption
    have hx7 : s.within x7 [.light, .grid, .dmc, .power, .out] [0, 3, 16, 21] := by
      unfold x7
      refine State.within_ite ?_ ?_
      · refine State.within_upd (by intro c hc; cases c <;> first | rfl | exact absurd (by decide) hc) ?_
        assumption
      · assumption
    refine State.within_ite ?_ ?_
    · refine State.within.step State.toStandby_within ?_ (by decide) (by decide)
      assumption
    · assumption
  · exact State.within_refl _ _

theorem relockFailStep_within {s : State} : s.within (relockFailStep s) [.light, .mon, .dmc] [0, 3, 19, 21] := by
  unfold relockFailStep
  refine State.whenDo_within ?_ ?_
  · refine State.within.step State.hwFault_within ?_ (by decide) (by decide)
    extract_lets x2 x3
    have hx2 : s.within x2 [.light, .mon, .dmc] [0, 3, 19, 21] := by
      unfold x2
      refine State.puts_cons_within ?_
      refine State.puts_cons_within ?_
      refine State.puts_nil_within ?_
      refine State.put_within rfl (mem_block (b := 3) (by decide) (by decide)) ?_
      refine State.put_within rfl (mem_block (b := 3) (by decide) (by decide)) ?_
      exact State.within_refl _ _
    clear_value x2
    clear_value x3
    refine State.within_upd (by intro c hc; cases c <;> first | rfl | exact absurd (by decide) hc) ?_
    assumption
  · exact State.within_refl _ _

theorem State.failCleared_within {s : State} : s.within (State.failCleared s) [.light] [3] := by
  unfold State.failCleared
  refine State.within.step State.clearFault_within ?_ (by decide) (by decide)
  refine State.within.step State.startLock_within ?_ (by decide) (by decide)
  refine State.put_within rfl (mem_block (b := 3) (by decide) (by decide)) ?_
  exact State.within_refl _ _

theorem rprecFaultStep_within {s : State} : s.within (rprecFaultStep s) [.light, .mon, .dmc] [0, 3, 19, 21] := by
  unfold rprecFaultStep
  refine State.within.step State.hwFault_within ?_ (by decide) (by decide)
  refine State.within.step State.trip_within ?_ (by decide) (by decide)
  refine State.within.step State.setDens_within ?_ (by decide) (by decide)
  refine State.within_upd (by intro c hc; cases c <;> first | rfl | exact absurd (by decide) hc) ?_
  exact State.within_refl _ _

theorem intlkNFallStep_within {s : State} : s.within (intlkNFallStep s) [.light, .mon, .dmc] [0, 3, 19, 21] := by
  unfold intlkNFallStep
  refine State.within.step State.trip_within ?_ (by decide) (by decide)
  refine State.put_within rfl (mem_block (b := 3) (by decide) (by decide)) ?_
  exact State.within_refl _ _

theorem intlkNRiseStep_within {s : State} : s.within (intlkNRiseStep s) [] [3] := by
  unfold intlkNRiseStep
  refine State.within.step State.settleClamp_within ?_ (by decide) (by decide)
  refine State.put_within rfl (mem_block (b := 3) (by decide) (by decide)) ?_
  exact State.within_refl _ _

theorem thermalTripStep_within {s : State} : s.within (thermalTripStep s) [.light, .mon, .dmc] [0, 3, 19, 21] := by
  unfold thermalTripStep
  refine State.whenDo_within ?_ ?_
  · refine State.within.step State.trip_within ?_ (by decide) (by decide)
    refine State.within_upd (by intro c hc; cases c <;> first | rfl | exact absurd (by decide) hc) ?_
    exact State.within_refl _ _
  · exact State.within_refl _ _

theorem thermalFaultClearStep_within {s : State} : s.within (thermalFaultClearStep s) [.light] [3] := by
  unfold thermalFaultClearStep
  refine State.whenDo_within ?_ ?_
  · refine State.within.step State.settleClamp_within ?_ (by decide) (by decide)
    refine State.within_upd (by intro c hc; cases c <;> first | rfl | exact absurd (by decide) hc) ?_
    exact State.within_refl _ _
  · exact State.within_refl _ _

theorem State.fin0_within {s : State} {closed : Bool} : s.within (State.fin0 s closed) [.light, .mon, .dmc] [0, 3, 19, 21] := by
  unfold State.fin0
  refine State.within_ite ?_ ?_
  · refine State.within.step State.settleClamp_within ?_ (by decide) (by decide)
    refine State.put_within rfl (mem_block (b := 3) (by decide) (by decide)) ?_
    exact State.within_refl _ _
  · refine State.within.step State.trip_within ?_ (by decide) (by decide)
    refine State.put_within rfl (mem_block (b := 3) (by decide) (by decide)) ?_
    exact State.within_refl _ _

theorem barrierSilenceStep_within {s : State} : s.within (barrierSilenceStep s) [.light, .mon, .dmc] [0, 3, 18, 19, 21] := by
  unfold barrierSilenceStep
  refine State.within.step State.trip_within ?_ (by decide) (by decide)
  refine State.put_within rfl (mem_block (b := 18) (by decide) (by decide)) ?_
  refine State.within_upd (by intro c hc; cases c <;> first | rfl | exact absurd (by decide) hc) ?_
  exact State.within_refl _ _

theorem State.rearm_within {s : State} : s.within (State.rearm s) [] [3] := by
  unfold State.rearm
  refine State.within_ite ?_ ?_
  · refine State.put_within rfl (mem_block (b := 3) (by decide) (by decide)) ?_
    exact State.within_refl _ _
  · refine State.within.step State.settleClamp_within ?_ (by decide) (by decide)
    refine State.put_within rfl (mem_block (b := 3) (by decide) (by decide)) ?_
    exact State.within_refl _ _

theorem State.setEnable_within {s : State} {on : Bool} : s.within (State.setEnable s on) [] [3] := by
  unfold State.setEnable
  refine State.within.step State.settleClamp_within ?_ (by decide) (by decide)
  refine State.putFlag_within rfl (mem_block (b := 3) (by decide) (by decide)) ?_
  exact State.within_refl _ _

theorem State.noteShot_within {s : State} {p : Port} {t : Ts} {d : ℕ} : s.within (State.noteShot s p t d) [.rx] [] := by
  unfold State.noteShot
  split
  · refine State.within_upd (by intro c hc; cases c <;> first | rfl | exact absurd (by decide) hc) ?_
    exact State.within_refl _ _
  · refine State.within_upd (by intro c hc; cases c <;> first | rfl | exact absurd (by decide) hc) ?_
    exact State.within_refl _ _

theorem restoreProbeStep_within {p : Port} {contLen : ℕ} {s : State} : s.within (restoreProbeStep p contLen s) [.light, .grid, .rx, .ptb, .out] [3, 24] := by
  unfold restoreProbeStep
  refine State.whenDo_within ?_ ?_
  · extract_lets x2 x3 x4 x5 x6 x7 x8 x9
    clear_value x2
    clear_value x3
    clear_value x4
    have hx5 : s.within x5 [.light, .grid, .rx, .ptb, .out] [3, 24] := by
      unfold x5
      refine State.within.step State.noteShot_within ?_ (by decide) (by decide)
      refine State.within.step State.emit_within ?_ (by decide) (by decide)
      refine State.within_upd (by intro c hc; cases c <;> first | rfl | exact absurd (by decide) hc) ?_
      exact State.within_refl _ _
    clear_value x5
    have hx6 : s.within x6 [.light, .grid, .rx, .ptb, .out] [3, 24] := by
      unfold x6
      refine State.put_within rfl (mem_block (b := 3) (by omega) (by decide)) ?_
      refine State.within.step State.modPl_within ?_ (by decide) (by decide)
      assumption
    clear_value x6
    clear_value x7
    clear_value x8
    clear_value x9
    refine State.within_ite ?_ ?_
    · refine State.within_ite ?_ ?_
      · refine State.within.step State.restorePort_within ?_ (by decide) (by decide)
        assumption
      · refine State.within.step State.modPl_within ?_ (by decide) (by decide)
        assumption
    · refine State.within_ite ?_ ?_
      · refine State.within.step State.restorePort_within ?_ (by decide) (by decide)
        refine State.put_within rfl (mem_block (b := 3) (by omega) (by decide)) ?_
        assumption
      · refine State.within.step State.modPl_within ?_ (by decide) (by decide)
        assumption
  · exact State.within_refl _ _

theorem State.openClamp_within {s : State} : s.within (State.openClamp s) [] [3] := by
  unfold State.openClamp
  refine State.within_ite ?_ ?_
  · exact State.within_refl _ _
  · refine State.put_within rfl (mem_block (b := 3) (by decide) (by decide)) ?_
    exact State.within_refl _ _

theorem State.aprBoundary_within {s : State} {p : Port} : s.within (State.aprBoundary s p) [.light] [3] := by
  unfold State.aprBoundary
  refine State.within_ite ?_ ?_
  · refine State.within.step State.restorePort_within ?_ (by decide) (by decide)
    exact State.within_refl _ _
  · exact State.within_refl _ _

theorem State.normalPort_within {s : State} {p : Port} : s.within (State.normalPort s p) [.grid, .rx] [3] := by
  unfold State.normalPort
  refine State.within_ite ?_ ?_
  · refine State.within.step State.unsettlePort_within ?_ (by decide) (by decide)
    refine State.put_within rfl (mem_block (b := 3) (by omega) (by decide)) ?_
    exact State.within_refl _ _
  · exact State.within_refl _ _

theorem State.leaveSafe_within {s : State} : s.within (State.leaveSafe s) [.dmc] [0, 21] := by
  unfold State.leaveSafe
  refine State.within_ite ?_ ?_
  · refine State.within.step State.enter_within ?_ (by decide) (by decide)
    exact State.within_refl _ _
  · exact State.within_refl _ _

theorem State.liftHolds_within {s : State} : s.within (State.liftHolds s) [.light, .grid, .rx] [] := by
  unfold State.liftHolds
  extract_lets x1 x2 x3 x4
  clear_value x1
  clear_value x2
  clear_value x3
  have hx4 : s.within x4 [.light, .grid, .rx] [] := by
    unfold x4
    refine State.within_upd (by intro c hc; cases c <;> first | rfl | exact absurd (by decide) hc) ?_
    exact State.within_refl _ _
  clear_value x4
  refine State.within_ite ?_ ?_
  · refine State.within.step State.reinitAll_within ?_ (by decide) (by decide)
    refine State.within.step State.unsettle2_within ?_ (by decide) (by decide)
    assumption
  · assumption

theorem execDiagnosticPulse_within {lowA : Bool} {lowB : Bool} {s : State} : s.withinC (execDiagnosticPulse lowA lowB s) [.light, .grid, .mon, .dmc, .ptb, .out] [0, 3, 19, 21, 24] := by
  unfold execDiagnosticPulse
  refine State.withinC_next ?_
  refine State.within.step diagnosticPulseStep_within ?_ (by decide) (by decide)
  exact State.within_refl _ _

theorem execCompUpdate_within {therm : List ℤ} {s : State} : s.withinC (execCompUpdate therm s) [.light] [3] := by
  unfold execCompUpdate
  refine State.withinC_next ?_
  refine State.within.step compUpdateStep_within ?_ (by decide) (by decide)
  exact State.within_refl _ _

theorem execDerateUpdate_within {tcase : ℤ} {s : State} : s.withinC (execDerateUpdate tcase s) [.light] [3] := by
  unfold execDerateUpdate
  refine State.withinC_next ?_
  refine State.within.step derateUpdateStep_within ?_ (by decide) (by decide)
  exact State.within_refl _ _

theorem execPowerLoopStep_within {port : Port} {measured : ℤ} {s : State} : s.withinC (execPowerLoopStep port measured s) [.light] [3] := by
  unfold execPowerLoopStep
  refine State.withinC_next ?_
  refine State.within.step powerLoopStepStep_within ?_ (by decide) (by decide)
  exact State.within_refl _ _

theorem execPowerShortfall_within {port : Port} {measured : ℤ} {s : State} : s.withinC (execPowerShortfall port measured s) [.qcp, .ptb, .out] [3, 24, 25] := by
  unfold execPowerShortfall
  refine State.withinC_next ?_
  refine State.within.step powerShortfallStep_within ?_ (by decide) (by decide)
  exact State.within_refl _ _

theorem execPumpOpenDetect_within {pump : Fin 4} {s : State} : s.withinC (execPumpOpenDetect pump s) [] [3] := by
  unfold execPumpOpenDetect
  refine State.withinC_next ?_
  refine State.within.step pumpOpenDetectStep_within ?_ (by decide) (by decide)
  exact State.within_refl _ _

theorem execLockLoss_within {ferr : BitVec 16} {s : State} : s.withinC (execLockLoss ferr s) [.light] [3] := by
  unfold execLockLoss
  refine State.withinC_next ?_
  refine State.within.step lockLossStep_within ?_ (by decide) (by decide)
  exact State.within_refl _ _

theorem execLaserLocked_within {ferr : BitVec 16} {s : State} : s.withinC (execLaserLocked ferr s) [.light, .grid, .dmc, .power, .out] [0, 3, 16, 21] := by
  unfold execLaserLocked
  refine State.withinC_next ?_
  refine State.within.step laserLockedStep_within ?_ (by decide) (by decide)
  exact State.within_refl _ _

theorem execRelockFail_within {s : State} : s.withinC (execRelockFail s) [.light, .mon, .dmc] [0, 3, 19, 21] := by
  unfold execRelockFail
  refine State.withinC_next ?_
  refine State.within.step relockFailStep_within ?_ (by decide) (by decide)
  exact State.within_refl _ _

theorem execRprecFault_within {s : State} : s.withinC (execRprecFault s) [.light, .mon, .dmc] [0, 3, 19, 21] := by
  unfold execRprecFault
  refine State.withinC_next ?_
  refine State.within.step rprecFaultStep_within ?_ (by decide) (by decide)
  exact State.within_refl _ _

theorem execIntlkNFall_within {s : State} : s.withinC (execIntlkNFall s) [.light, .mon, .dmc] [0, 3, 19, 21] := by
  unfold execIntlkNFall
  refine State.withinC_next ?_
  refine State.within.step intlkNFallStep_within ?_ (by decide) (by decide)
  exact State.within_refl _ _

theorem execThermalTrip_within {s : State} : s.withinC (execThermalTrip s) [.light, .mon, .dmc] [0, 3, 19, 21] := by
  unfold execThermalTrip
  refine State.withinC_next ?_
  refine State.within.step thermalTripStep_within ?_ (by decide) (by decide)
  exact State.within_refl _ _

theorem execBarrierSilence_within {s : State} : s.withinC (execBarrierSilence s) [.light, .mon, .dmc] [0, 3, 18, 19, 21] := by
  unfold execBarrierSilence
  refine State.withinC_next ?_
  refine State.within.step barrierSilenceStep_within ?_ (by decide) (by decide)
  exact State.within_refl _ _

theorem execRestoreProbe_within {port : Port} {contLen : ℕ} {s : State} : s.withinC (execRestoreProbe port contLen s) [.light, .grid, .rx, .ptb, .out] [3, 24] := by
  unfold execRestoreProbe
  refine State.withinC_next ?_
  refine State.within.step restoreProbeStep_within ?_ (by decide) (by decide)
  exact State.within_refl _ _

theorem execFlashingSettled_within {s : State} : s.withinC (execFlashingSettled s) [.light] [16] := by
  unfold execFlashingSettled
  refine State.withinC_next ?_
  refine State.within.step flashingSettledStep_within ?_ (by decide) (by decide)
  exact State.within_refl _ _

theorem execIntlkNRise_within {s : State} : s.withinC (execIntlkNRise s) [] [3] := by
  unfold execIntlkNRise
  refine State.withinC_next ?_
  refine State.within.step intlkNRiseStep_within ?_ (by decide) (by decide)
  exact State.within_refl _ _

theorem execThermalFaultClear_within {s : State} : s.withinC (execThermalFaultClear s) [.light] [3] := by
  unfold execThermalFaultClear
  refine State.withinC_next ?_
  refine State.within.step thermalFaultClearStep_within ?_ (by decide) (by decide)
  exact State.within_refl _ _

theorem State.rebuildFilters_within {s : State} : s.within (State.rebuildFilters s) [.rx] [] := by
  unfold State.rebuildFilters
  refine State.within_upd (by intro c hc; cases c <;> first | rfl | exact absurd (by decide) hc) ?_
  exact State.within_refl _ _

section

variable {s0 : State} {K : List Comp} {B : List Nat}

theorem State.skewed_within {s : State} {f : Fld} (hb : [24] ⊆ B) (h : s0.within s K B) : s0.within (s.skewed f) K B :=
  State.within_ite (State.count_within rfl (mem_block (b := 24) (by decide) (hb (by decide))) h) h

theorem State.onPtp_within {s : State} {x : Nat} {f : State → State} (hb : [13] ⊆ B) (hf : ∀ t, s0.within t K B → s0.within (f t) K B)
    (h : s0.within s K B) : s0.within (s.onPtp x f) K B :=
  State.within_ite (hf _ h) (State.count_within rfl (mem_block (b := 13) (by omega) (hb (by decide))) h)

end

theorem State.clockCycle_within {s : State} : s.within (State.clockCycle s) [.clk, .cyc, .ptp] [14] := by
  unfold State.clockCycle
  extract_lets x1 x2 x3
  refine State.putFlag_within rfl (mem_block (b := 14) (by decide) (by decide)) ?_
  refine ⟨fun c hc => ?_, fun _ _ => rfl, rfl, id, List.prefix_refl _, Nat.le_succ _, le_refl _⟩
  cases c <;> first | rfl | exact absurd (by decide) hc

theorem State.setSlew_within {s : State} {v : ℤ} : s.within (State.setSlew s v) [.ptp] [14] := by
  unfold State.setSlew
  refine State.putFlag_within rfl (mem_block (b := 14) (by decide) (by decide)) ?_
  refine State.within_upd (by intro c hc; cases c <;> first | rfl | exact absurd (by decide) hc) ?_
  exact State.within_refl _ _

theorem State.lockLost_within {s : State} : s.within (State.lockLost s) [.ptp] [14] := by
  unfold State.lockLost
  refine State.put_within rfl (mem_block (b := 14) (by decide) (by decide)) ?_
  refine State.within_upd (by intro c hc; cases c <;> first | rfl | exact absurd (by decide) hc) ?_
  exact State.within_refl _ _

theorem State.stepTo_within {s : State} {t : Ts} : s.within (State.stepTo s t) [.clk, .grid, .rx, .qcp, .ptp, .ridge, .strm, .reed, .brl, .pair] [14, 16] := by
  unfold State.stepTo
  extract_lets x1 x2 x3 x4 x5 x6 x7 x8 x9 x10 x11 x12 x13 x14 x15
  clear_value x1
  clear_value x3
  clear_value x4
  clear_value x5
  clear_value x6
  clear_value x7
  clear_value x8
  clear_value x9
  clear_value x10
  clear_value x11
  clear_value x12
  clear_value x13
  clear_value x14
  have hx15 : s.within x15 [.clk, .grid, .rx, .qcp, .ptp, .ridge, .strm, .reed, .brl, .pair] [14, 16] := by
    unfold x15
    refine State.within_upd (by intro c hc; cases c <;> first | rfl | exact absurd (by decide) hc) ?_
    exact State.within_refl _ _
  clear_value x15
  refine State.within.step State.lockLost_within ?_ (by decide) (by decide)
  refine State.puts_cons_within ?_
  refine State.puts_cons_within ?_
  refine State.puts_nil_within ?_
  refine State.put_within rfl (mem_block (b := 16) (by decide) (by decide)) ?_
  refine State.put_within rfl (mem_block (b := 14) (by decide) (by decide)) ?_
  refine State.count_within rfl (mem_block (b := 14) (by decide) (by decide)) ?_
  assumption

theorem State.stepBy_within {s : State} {d : ℤ} : s.within (State.stepBy s d) [.clk, .grid, .rx, .qcp, .ptp, .ridge, .strm, .reed, .brl, .pair] [14, 16] := by
  unfold State.stepBy
  refine State.within.step State.stepTo_within ?_ (by decide) (by decide)
  exact State.within_refl _ _

theorem State.setFadj_within {s : State} {v : ℤ} {locked : Bool} : s.within (State.setFadj s v locked) [.ptp] [14] := by
  unfold State.setFadj
  extract_lets x1 x2 x3
  clear_value x1
  have hx2 : s.within x2 [.ptp] [14] := by
    unfold x2
    refine State.puti_within rfl (mem_block (b := 14) (by decide) (by decide)) ?_
    exact State.within_refl _ _
  clear_value x2
  clear_value x3
  refine State.within_ite ?_ ?_
  · refine State.within_upd (by intro c hc; cases c <;> first | rfl | exact absurd (by decide) hc) ?_
    assumption
  · assumption

theorem State.piAdjust_within {s : State} {servo : ℕ} {off : ℤ} {locked : Bool} : s.within (State.piAdjust s servo off locked) [.ptp] [14] := by
  unfold State.piAdjust
  extract_lets x1 x2
  clear_value x1
  clear_value x2
  refine State.within.step State.setFadj_within ?_ (by decide) (by decide)
  refine State.within_upd (by intro c hc; cases c <;> first | rfl | exact absurd (by decide) hc) ?_
  exact State.within_refl _ _

theorem State.holdFadj_within {s : State} : s.within (State.holdFadj s) [.ptp] [14] := by
  unfold State.holdFadj
  refine State.within_ite ?_ ?_
  · exact State.within_refl _ _
  · extract_lets x1 x2
    clear_value x1
    clear_value x2
    refine State.within.step State.setFadj_within ?_ (by decide) (by decide)
    refine State.within_upd (by intro c hc; cases c <;> first | rfl | exact absurd (by decide) hc) ?_
    exact State.within_refl _ _

theorem ptpSyncRxStep_within {x : Fin 2} {seqId : BitVec 16} {twoStep : Bool} {origin : Ts} {corr : ℤ} {raw : Ts} {s : State} : s.within (ptpSyncRxStep x seqId twoStep origin corr raw s) [.ptp] [13, 24] := by
  unfold ptpSyncRxStep
  refine State.onPtp_within (by decide) (fun t1 ht1 => ?_) ?_
  · refine State.skewed_within (by decide) ?_
    refine State.within_upd (by intro c hc; cases c <;> first | rfl | exact absurd (by decide) hc) ?_
    assumption
  · exact State.within_refl _ _

theorem ptpFollowUpRxStep_within {x : Fin 2} {seqId : BitVec 16} {origin : Ts} {corr : ℤ} {s : State} : s.within (ptpFollowUpRxStep x seqId origin corr s) [.ptp] [13] := by
  unfold ptpFollowUpRxStep
  refine State.onPtp_within (by decide) (fun t1 ht1 => ?_) ?_
  · split
    · refine State.within_ite ?_ ?_
      · refine State.within_upd (by intro c hc; cases c <;> first | rfl | exact absurd (by decide) hc) ?_
        assumption
      · assumption
    · assumption
  · exact State.within_refl _ _

theorem followUpTimeoutStep_within {s : State} : s.within (followUpTimeoutStep s) [.ptp] [] := by
  unfold followUpTimeoutStep
  split
  · refine State.within_ite ?_ ?_
    · refine State.within_upd (by intro c hc; cases c <;> first | rfl | exact absurd (by decide) hc) ?_
      exact State.within_refl _ _
    · exact State.within_refl _ _
  · exact State.within_refl _ _

theorem State.lockCount_within {s : State} {off : ℤ} : s.within (State.lockCount s off) [.ptp] [14] := by
  unfold State.lockCount
  extract_lets x1 x2 x3 x4 x5
  clear_value x1
  clear_value x2
  clear_value x3
  clear_value x4
  have hx5 : s.within x5 [.ptp] [14] := by
    unfold x5
    refine State.within_upd (by intro c hc; cases c <;> first | rfl | exact absurd (by decide) hc) ?_
    exact State.within_refl _ _
  clear_value x5
  refine State.within_ite ?_ ?_
  · refine State.put_within rfl (mem_block (b := 14) (by decide) (by decide)) ?_
    assumption
  · refine State.within_ite ?_ ?_
    · refine State.put_within rfl (mem_block (b := 14) (by decide) (by decide)) ?_
      assumption
    · assumption

theorem State.servo_within {s : State} {off : ℤ} : s.within (State.servo s off) [.clk, .grid, .rx, .qcp, .ptp, .ridge, .strm, .reed, .brl, .pair] [14, 16] := by
  unfold State.servo
  extract_lets x1 x2
  have hx1 : s.within x1 [.clk, .grid, .rx, .qcp, .ptp, .ridge, .strm, .reed, .brl, .pair] [14, 16] := by
    unfold x1
    refine State.puts_cons_within ?_
    refine State.puts_cons_within ?_
    refine State.puts_nil_within ?_
    refine State.put_within rfl (mem_block (b := 14) (by decide) (by decide)) ?_
    refine State.put_within rfl (mem_block (b := 14) (by decide) (by decide)) ?_
    refine State.puti_within rfl (mem_block (b := 14) (by decide) (by decide)) ?_
    exact State.within_refl _ _
  clear_value x1
  have hx2 : s.within x2 [.clk, .grid, .rx, .qcp, .ptp, .ridge, .strm, .reed, .brl, .pair] [14, 16] := by
    unfold x2
    refine State.within.step State.lockCount_within ?_ (by decide) (by decide)
    assumption
  clear_value x2
  refine State.within_ite ?_ ?_
  · refine State.within.step State.lockCount_within ?_ (by decide) (by decide)
    assumption
  · refine State.within_ite ?_ ?_
    · refine State.within.step State.stepBy_within ?_ (by decide) (by decide)
      assumption
    · refine State.within.step State.piAdjust_within ?_ (by decide) (by decide)
      assumption

theorem ptpDelayRespRxStep_within {x : Fin 2} {seqId : BitVec 16} {t4 : Ts} {corr : ℤ} {s : State} : s.within (ptpDelayRespRxStep x seqId t4 corr s) [.clk, .grid, .rx, .qcp, .ptp, .ridge, .strm, .reed, .brl, .pair] [13, 14, 16] := by
  unfold ptpDelayRespRxStep
  refine State.onPtp_within (by decide) (fun t1 ht1 => ?_) ?_
  · split
    · split
      · refine State.within_ite ?_ ?_
        · extract_lets x2 x3 x4 x5
          clear_value x2
          clear_value x3
          clear_value x4
          have hx5 : s.within x5 [.clk, .grid, .rx, .qcp, .ptp, .ridge, .strm, .reed, .brl, .pair] [13, 14, 16] := by
            unfold x5
            refine State.within_upd (by intro c hc; cases c <;> first | rfl | exact absurd (by decide) hc) ?_
            assumption
          clear_value x5
          refine State.within.step State.servo_within ?_ (by decide) (by decide)
          assumption
        · assumption
      · assumption
    · assumption
  · exact State.within_refl _ _

theorem ptpAnnounceRxStep_within {x : Fin 2} {identity : BitVec 64} {dataset : ℕ} {s : State} : s.within (ptpAnnounceRxStep x identity dataset s) [.ptp] [13, 14] := by
  unfold ptpAnnounceRxStep
  refine State.onPtp_within (by decide) (fun t1 ht1 => ?_) ?_
  · extract_lets x2 x3 x4 x5
    clear_value x2
    clear_value x3
    clear_value x4
    have hx5 : s.within x5 [.ptp] [13, 14] := by
      unfold x5
      refine State.within_upd (by intro c hc; cases c <;> first | rfl | exact absurd (by decide) hc) ?_
      assumption
    clear_value x5
    refine State.within_ite ?_ ?_
    · refine State.put_within rfl (mem_block (b := 14) (by decide) (by decide)) ?_
      refine State.within_upd (by intro c hc; cases c <;> first | rfl | exact absurd (by decide) hc) ?_
      assumption
    · refine State.within_ite ?_ ?_
      · refine State.within_ite ?_ ?_
        · assumption
        · refine State.put_within rfl (mem_block (b := 14) (by decide) (by decide)) ?_
          assumption
      · assumption
  · exact State.within_refl _ _

theorem announceTimeoutStep_within {s : State} : s.within (announceTimeoutStep s) [.ptp] [14] := by
  unfold announceTimeoutStep
  extract_lets x1 x2
  clear_value x1
  have hx2 : s.within x2 [.ptp] [14] := by
    unfold x2
    refine State.put_within rfl (mem_block (b := 14) (by decide) (by decide)) ?_
    refine State.within_upd (by intro c hc; cases c <;> first | rfl | exact absurd (by decide) hc) ?_
    exact State.within_refl _ _
  clear_value x2
  refine State.put_within rfl (mem_block (b := 14) (by decide) (by decide)) ?_
  refine State.within.step State.lockLost_within ?_ (by decide) (by decide)
  refine State.within_ite ?_ ?_
  · refine State.within.step State.holdFadj_within ?_ (by decide) (by decide)
    assumption
  · assumption

theorem State.ptpOut_within {s : State} {f : EthOut} : s.within (State.ptpOut s f) [.ptb, .out] [24] := by
  unfold State.ptpOut
  refine State.within.step State.emit_within ?_ (by decide) (by decide)
  exact State.within_refl _ _

theorem syncSendStep_within {raw : Ts} {s : State} : s.within (syncSendStep raw s) [.ptp, .ptb, .out] [24] := by
  unfold syncSendStep
  refine State.whenDo_within ?_ ?_
  · extract_lets x2 x3 x4 x5 x6
    clear_value x2
    clear_value x3
    clear_value x4
    have hx5 : s.within x5 [.ptp, .ptb, .out] [24] := by
      unfold x5
      refine State.skewed_within (by decide) ?_
      refine State.within_upd (by intro c hc; cases c <;> first | rfl | exact absurd (by decide) hc) ?_
      exact State.within_refl _ _
    clear_value x5
    clear_value x6
    refine State.within_ite ?_ ?_
    · refine State.within.step State.ptpOut_within ?_ (by decide) (by decide)
      assumption
    · refine State.within.step State.ptpOut_within ?_ (by decide) (by decide)
      refine State.within.step State.ptpOut_within ?_ (by decide) (by decide)
      assumption
  · exact State.within_refl _ _

theorem delayReqSendStep_within {raw : Ts} {s : State} : s.within (delayReqSendStep raw s) [.ptp, .ptb, .out] [24] := by
  unfold delayReqSendStep
  refine State.whenDo_within ?_ ?_
  · extract_lets x2 x3
    clear_value x2
    clear_value x3
    refine State.within.step State.ptpOut_within ?_ (by decide) (by decide)
    refine State.skewed_within (by decide) ?_
    refine State.within_upd (by intro c hc; cases c <;> first | rfl | exact absurd (by decide) hc) ?_
    exact State.within_refl _ _
  · exact State.within_refl _ _

theorem ptpDelayReqRxStep_within {x : Fin 2} {seqId : BitVec 16} {raw : Ts} {s : State} : s.within (ptpDelayReqRxStep x seqId raw s) [.ptb, .out] [13, 24] := by
  unfold ptpDelayReqRxStep
  refine State.onPtp_within (by decide) (fun t1 ht1 => ?_) ?_
  · refine State.whenDo_within ?_ ?_
    · refine State.within.step State.ptpOut_within ?_ (by decide) (by decide)
      refine State.skewed_within (by decide) ?_
      assumption
    · assumption
  · exact State.within_refl _ _

theorem announceSendStep_within {s : State} : s.within (announceSendStep s) [.ptp, .ptb, .out] [24] := by
  unfold announceSendStep
  refine State.whenDo_within ?_ ?_
  · refine State.within.step State.ptpOut_within ?_ (by decide) (by decide)
    refine State.within_upd (by intro c hc; cases c <;> first | rfl | exact absurd (by decide) hc) ?_
    exact State.within_refl _ _
  · exact State.within_refl _ _

theorem timeGetBody_within {q : ReqHdr} {s : State} : s.within (timeGetBody q s) [.qcp, .ptb, .out] [24, 25] := by
  unfold timeGetBody
  refine State.within.step State.reply_within ?_ (by decide) (by decide)
  exact State.within_refl _ _

theorem timeSetBody_within {q : ReqHdr} {t : Ts} {s : State} : s.within (timeSetBody q t s) [.clk, .grid, .rx, .qcp, .ptp, .ridge, .strm, .reed, .brl, .pair, .ptb, .out] [14, 16, 24, 25] := by
  unfold timeSetBody
  refine State.checks_within (by decide) (by decide) (fun t1 ht1 => ?_) ?_
  · refine State.within.step State.reply_within ?_ (by decide) (by decide)
    refine State.within.step State.stepTo_within ?_ (by decide) (by decide)
    refine State.within.step State.setSlew_within ?_ (by decide) (by decide)
    assumption
  · exact State.within_refl _ _

theorem timeAdjBody_within {q : ReqHdr} {n : ℤ} {s : State} : s.within (timeAdjBody q n s) [.qcp, .ptp, .ptb, .out] [14, 24, 25] := by
  unfold timeAdjBody
  refine State.checks_within (by decide) (by decide) (fun t1 ht1 => ?_) ?_
  · refine State.within.step State.reply_within ?_ (by decide) (by decide)
    refine State.within.step State.setSlew_within ?_ (by decide) (by decide)
    assumption
  · exact State.within_refl _ _

theorem ethLinkChangeStep_within {x : Fin 2} {up : Bool} {s : State} : s.within (ethLinkChangeStep x up s) [] [13] := by
  unfold ethLinkChangeStep
  refine State.within_ite ?_ ?_
  · refine State.whenDo_within ?_ ?_
    · refine State.putFlag_within rfl (mem_block (b := 13) (by omega) (by decide)) ?_
      refine State.put_within rfl (mem_block (b := 13) (by omega) (by decide)) ?_
      exact State.within_refl _ _
    · exact State.within_refl _ _
  · refine State.whenDo_within ?_ ?_
    · refine State.count_within rfl (mem_block (b := 13) (by omega) (by decide)) ?_
      refine State.puts_cons_within ?_
      refine State.puts_cons_within ?_
      refine State.puts_nil_within ?_
      refine State.put_within rfl (mem_block (b := 13) (by omega) (by decide)) ?_
      refine State.put_within rfl (mem_block (b := 13) (by omega) (by decide)) ?_
      exact State.within_refl _ _
    · exact State.within_refl _ _

theorem nextHopRetryStep_within {x : Fin 2} {addr : BitVec 128} {s : State} : s.within (nextHopRetryStep x addr s) [.ptb, .out] [24] := by
  unfold nextHopRetryStep
  refine State.whenDo_within ?_ ?_
  · refine State.within.step State.emit_within ?_ (by decide) (by decide)
    exact State.within_refl _ _
  · exact State.within_refl _ _

theorem State.askHop_within {s : State} {x : ℕ} {addr : BitVec 128} : s.within (State.askHop s x addr) [.net, .ptb, .out] [24] := by
  unfold State.askHop
  refine State.within_ite ?_ ?_
  · exact State.within_refl _ _
  · refine State.within_ite ?_ ?_
    · exact State.within_refl _ _
    · refine State.within.step State.emit_within ?_ (by decide) (by decide)
      refine State.within.step State.setHops_within ?_ (by decide) (by decide)
      exact State.within_refl _ _

theorem nextHopExpireStep_within {x : Fin 2} {addr : BitVec 128} {s : State} : s.within (nextHopExpireStep x addr s) [.net, .ptb, .out] [24] := by
  unfold nextHopExpireStep
  extract_lets x1
  have hx1 : s.within x1 [.net, .ptb, .out] [24] := by
    unfold x1
    refine State.within.step State.setHops_within ?_ (by decide) (by decide)
    exact State.within_refl _ _
  clear_value x1
  refine State.within_ite ?_ ?_
  · refine State.within.step State.askHop_within ?_ (by decide) (by decide)
    assumption
  · assumption

theorem State.learnHop_within {s : State} {x : ℕ} {addr : BitVec 128} {mac : BitVec 48} : s.within (State.learnHop s x addr mac) [.net] [] := by
  unfold State.learnHop
  refine State.within.step State.setHops_within ?_ (by decide) (by decide)
  exact State.within_refl _ _

theorem State.dropFrags_within {s : State} {src : BitVec 128} : s.within (State.dropFrags s src) [.net] [] := by
  unfold State.dropFrags
  refine State.within_upd (by intro c hc; cases c <;> first | rfl | exact absurd (by decide) hc) ?_
  exact State.within_refl _ _

theorem reassemblyTimeoutStep_within {src : BitVec 128} {s : State} : s.within (reassemblyTimeoutStep src s) [.clk, .cyc, .net] [] := by
  unfold reassemblyTimeoutStep
  split
  · exact State.within_refl _ _
  · refine State.within.step State.dropFrags_within ?_ (by decide) (by decide)
    refine State.within.step State.atCyc_within ?_ (by decide) (by decide)
    exact State.within_refl _ _

theorem execTimeGet_within {q : ReqHdr} {s : State} : s.withinC (execTimeGet q s) [.qcp, .ptb, .out] [24, 25] := by
  unfold execTimeGet
  refine State.withinC_next ?_
  refine State.request_within (by decide) (by decide) (fun t1 ht1 => ?_) ?_
  · refine State.within.step timeGetBody_within ?_ (by decide) (by decide)
    assumption
  · exact State.within_refl _ _

theorem execTimeSet_within {q : ReqHdr} {time : Ts} {s : State} : s.withinC (execTimeSet q time s) [.clk, .grid, .rx, .qcp, .ptp, .ridge, .strm, .reed, .brl, .pair, .ptb, .out] [14, 16, 24, 25] := by
  unfold execTimeSet
  refine State.withinC_next ?_
  refine State.request_within (by decide) (by decide) (fun t1 ht1 => ?_) ?_
  · refine State.within.step timeSetBody_within ?_ (by decide) (by decide)
    assumption
  · exact State.within_refl _ _

theorem execTimeAdj_within {q : ReqHdr} {ns : ℤ} {s : State} : s.withinC (execTimeAdj q ns s) [.qcp, .ptp, .ptb, .out] [14, 24, 25] := by
  unfold execTimeAdj
  refine State.withinC_next ?_
  refine State.request_within (by decide) (by decide) (fun t1 ht1 => ?_) ?_
  · refine State.within.step timeAdjBody_within ?_ (by decide) (by decide)
    assumption
  · exact State.within_refl _ _

theorem execEthLinkChange_within {eth : Fin 2} {up : Bool} {s : State} : s.withinC (execEthLinkChange eth up s) [] [13] := by
  unfold execEthLinkChange
  refine State.withinC_next ?_
  refine State.within.step ethLinkChangeStep_within ?_ (by decide) (by decide)
  exact State.within_refl _ _

theorem execNextHopRetry_within {eth : Fin 2} {addr : BitVec 128} {s : State} : s.withinC (execNextHopRetry eth addr s) [.ptb, .out] [24] := by
  unfold execNextHopRetry
  refine State.withinC_next ?_
  refine State.within.step nextHopRetryStep_within ?_ (by decide) (by decide)
  exact State.within_refl _ _

theorem execPtpSyncRx_within {eth : Fin 2} {seqId : BitVec 16} {twoStep : Bool} {origin : Ts} {corr : ℤ} {raw : Ts} {s : State} : s.withinC (execPtpSyncRx eth seqId twoStep origin corr raw s) [.ptp] [13, 24] := by
  unfold execPtpSyncRx
  refine State.withinC_next ?_
  refine State.within.step ptpSyncRxStep_within ?_ (by decide) (by decide)
  exact State.within_refl _ _

theorem execPtpFollowUpRx_within {eth : Fin 2} {seqId : BitVec 16} {origin : Ts} {corr : ℤ} {s : State} : s.withinC (execPtpFollowUpRx eth seqId origin corr s) [.ptp] [13] := by
  unfold execPtpFollowUpRx
  refine State.withinC_next ?_
  refine State.within.step ptpFollowUpRxStep_within ?_ (by decide) (by decide)
  exact State.within_refl _ _

theorem execPtpDelayRespRx_within {eth : Fin 2} {seqId : BitVec 16} {t4 : Ts} {corr : ℤ} {s : State} : s.withinC (execPtpDelayRespRx eth seqId t4 corr s) [.clk, .grid, .rx, .qcp, .ptp, .ridge, .strm, .reed, .brl, .pair] [13, 14, 16] := by
  unfold execPtpDelayRespRx
  refine State.withinC_next ?_
  refine State.within.step ptpDelayRespRxStep_within ?_ (by decide) (by decide)
  exact State.within_refl _ _

theorem execPtpAnnounceRx_within {eth : Fin 2} {identity : BitVec 64} {dataset : ℕ} {s : State} : s.withinC (execPtpAnnounceRx eth identity dataset s) [.ptp] [13, 14] := by
  unfold execPtpAnnounceRx
  refine State.withinC_next ?_
  refine State.within.step ptpAnnounceRxStep_within ?_ (by decide) (by decide)
  exact State.within_refl _ _

theorem execPtpDelayReqRx_within {eth : Fin 2} {seqId : BitVec 16} {raw : Ts} {s : State} : s.withinC (execPtpDelayReqRx eth seqId raw s) [.ptb, .out] [13, 24] := by
  unfold execPtpDelayReqRx
  refine State.withinC_next ?_
  refine State.within.step ptpDelayReqRxStep_within ?_ (by decide) (by decide)
  exact State.within_refl _ _

theorem execAnnounceTimeout_within {s : State} : s.withinC (execAnnounceTimeout s) [.ptp] [14] := by
  unfold execAnnounceTimeout
  refine State.withinC_next ?_
  refine State.within.step announceTimeoutStep_within ?_ (by decide) (by decide)
  exact State.within_refl _ _

theorem execFollowUpTimeout_within {s : State} : s.withinC (execFollowUpTimeout s) [.ptp] [] := by
  unfold execFollowUpTimeout
  refine State.withinC_next ?_
  refine State.within.step followUpTimeoutStep_within ?_ (by decide) (by decide)
  exact State.within_refl _ _

theorem execSyncSend_within {raw : Ts} {s : State} : s.withinC (execSyncSend raw s) [.ptp, .ptb, .out] [24] := by
  unfold execSyncSend
  refine State.withinC_next ?_
  refine State.within.step syncSendStep_within ?_ (by decide) (by decide)
  exact State.within_refl _ _

theorem execDelayReqSend_within {raw : Ts} {s : State} : s.withinC (execDelayReqSend raw s) [.ptp, .ptb, .out] [24] := by
  unfold execDelayReqSend
  refine State.withinC_next ?_
  refine State.within.step delayReqSendStep_within ?_ (by decide) (by decide)
  exact State.within_refl _ _

theorem execAnnounceSend_within {s : State} : s.withinC (execAnnounceSend s) [.ptp, .ptb, .out] [24] := by
  unfold execAnnounceSend
  refine State.withinC_next ?_
  refine State.within.step announceSendStep_within ?_ (by decide) (by decide)
  exact State.within_refl _ _

theorem execNextHopExpire_within {eth : Fin 2} {addr : BitVec 128} {s : State} : s.withinC (execNextHopExpire eth addr s) [.net, .ptb, .out] [24] := by
  unfold execNextHopExpire
  refine State.withinC_next ?_
  refine State.within.step nextHopExpireStep_within ?_ (by decide) (by decide)
  exact State.within_refl _ _

theorem execReassemblyTimeout_within {src : BitVec 128} {s : State} : s.withinC (execReassemblyTimeout src s) [.clk, .cyc, .net] [] := by
  unfold execReassemblyTimeout
  refine State.withinC_next ?_
  refine State.within.step reassemblyTimeoutStep_within ?_ (by decide) (by decide)
  exact State.within_refl _ _

theorem ovenWarmStep_within {s : State} : s.within (ovenWarmStep s) [] [2] := by
  unfold ovenWarmStep
  refine State.put_within rfl (mem_block (b := 2) (by decide) (by decide)) ?_
  exact State.within_refl _ _

theorem ovenCoolStep_within {s : State} : s.within (ovenCoolStep s) [.tb] [2] := by
  unfold ovenCoolStep
  refine State.put_within rfl (mem_block (b := 2) (by decide) (by decide)) ?_
  refine State.within_upd (by intro c hc; cases c <;> first | rfl | exact absurd (by decide) hc) ?_
  exact State.within_refl _ _

theorem ovenFailStep_within {s : State} : s.within (ovenFailStep s) [.light] [2] := by
  unfold ovenFailStep
  extract_lets x1 x2
  have hx1 : s.within x1 [.light] [2] := by
    unfold x1
    refine State.put_within rfl (mem_block (b := 2) (by decide) (by decide)) ?_
    exact State.within_refl _ _
  clear_value x1
  clear_value x2
  refine State.within_upd (by intro c hc; cases c <;> first | rfl | exact absurd (by decide) hc) ?_
  assumption

theorem refSourceLossStep_within {s : State} : s.within (refSourceLossStep s) [] [2] := by
  unfold refSourceLossStep
  refine State.whenDo_within ?_ ?_
  · extract_lets x2
    have hx2 : s.within x2 [] [2] := by
      unfold x2
      refine State.puts_cons_within ?_
      refine State.puts_cons_within ?_
      refine State.puts_nil_within ?_
      refine State.put_within rfl (mem_block (b := 2) (by decide) (by decide)) ?_
      refine State.put_within rfl (mem_block (b := 2) (by decide) (by decide)) ?_
      exact State.within_refl _ _
    clear_value x2
    refine State.within_ite ?_ ?_
    · refine State.put_within rfl (mem_block (b := 2) (by decide) (by decide)) ?_
      assumption
    · assumption
  · exact State.within_refl _ _

theorem State.steer_within {s : State} : s.within (State.steer s) [.free] [2] := by
  unfold State.steer
  refine State.drew_within (by decide) ?_
  refine State.puti_within rfl (mem_block (b := 2) (by decide) (by decide)) ?_
  refine State.puts_cons_within ?_
  refine State.puts_cons_within ?_
  refine State.puts_cons_within ?_
  refine State.puts_nil_within ?_
  refine State.put_within rfl (mem_block (b := 2) (by omega) (by decide)) ?_
  refine State.put_within rfl (mem_block (b := 2) (by decide) (by decide)) ?_
  refine State.put_within rfl (mem_block (b := 2) (by decide) (by decide)) ?_
  exact State.within_refl _ _

theorem refSourceResumeStep_within {s : State} : s.within (refSourceResumeStep s) [.free] [2] := by
  unfold refSourceResumeStep
  refine State.whenDo_within ?_ ?_
  · refine State.within.step State.steer_within ?_ (by decide) (by decide)
    exact State.within_refl _ _
  · exact State.within_refl _ _

theorem State.steerMoved_within {s : State} : s.within (State.steerMoved s) [.free] [2] := by
  unfold State.steerMoved
  refine State.within_ite ?_ ?_
  · refine State.puts_cons_within ?_
    refine State.puts_cons_within ?_
    refine State.puts_cons_within ?_
    refine State.puts_cons_within ?_
    refine State.puts_nil_within ?_
    refine State.put_within rfl (mem_block (b := 2) (by decide) (by decide)) ?_
    refine State.put_within rfl (mem_block (b := 2) (by decide) (by decide)) ?_
    refine State.put_within rfl (mem_block (b := 2) (by decide) (by decide)) ?_
    refine State.put_within rfl (mem_block (b := 2) (by decide) (by decide)) ?_
    exact State.within_refl _ _
  · refine State.within.step State.steer_within ?_ (by decide) (by decide)
    exact State.within_refl _ _

theorem synthUnlockStep_within {s : State} : s.within (synthUnlockStep s) [.light, .tb] [2] := by
  unfold synthUnlockStep
  refine State.whenDo_within ?_ ?_
  · refine State.puts_cons_within ?_
    refine State.puts_cons_within ?_
    refine State.puts_nil_within ?_
    refine State.put_within rfl (mem_block (b := 2) (by decide) (by decide)) ?_
    refine State.put_within rfl (mem_block (b := 2) (by decide) (by decide)) ?_
    refine State.within_upd (by intro c hc; cases c <;> first | rfl | exact absurd (by decide) hc) ?_
    exact State.within_refl _ _
  · exact State.within_refl _ _

theorem synthRelockStep_within {s : State} : s.within (synthRelockStep s) [.light] [2] := by
  unfold synthRelockStep
  refine State.whenDo_within ?_ ?_
  · refine State.within.step State.clearFault_within ?_ (by decide) (by decide)
    refine State.put_within rfl (mem_block (b := 2) (by decide) (by decide)) ?_
    exact State.within_refl _ _
  · exact State.within_refl _ _

theorem synthLockTimeoutStep_within {s : State} : s.within (synthLockTimeoutStep s) [.light, .tb, .mon, .dmc] [0, 3, 19, 21] := by
  unfold synthLockTimeoutStep
  refine State.whenDo_within ?_ ?_
  · refine State.within.step State.hwFault_within ?_ (by decide) (by decide)
    refine State.within_upd (by intro c hc; cases c <;> first | rfl | exact absurd (by decide) hc) ?_
    exact State.within_refl _ _
  · exact State.within_refl _ _

theorem ppsOutEdgeStep_within {s : State} : s.within (ppsOutEdgeStep s) [.clk, .cyc, .ptb, .power, .out] [24] := by
  unfold ppsOutEdgeStep
  refine State.whenDo_within ?_ ?_
  · extract_lets x2 x3 x4 x5
    clear_value x2
    have hx3 : s.within x3 [.clk, .cyc, .ptb, .power, .out] [24] := by
      unfold x3
      refine State.within.step State.at_within ?_ (by decide) (by decide)
      exact State.within_refl _ _
    clear_value x3
    clear_value x4
    clear_value x5
    refine State.within.step State.emit_within ?_ (by decide) (by decide)
    refine State.within_upd (by intro c hc; cases c <;> first | rfl | exact absurd (by decide) hc) ?_
    assumption
  · exact State.within_refl _ _

theorem ppsOutFallStep_within {s : State} : s.within (ppsOutFallStep s) [.power] [] := by
  unfold ppsOutFallStep
  refine State.within_upd (by intro c hc; cases c <;> first | rfl | exact absurd (by decide) hc) ?_
  exact State.within_refl _ _

theorem State.stampEdge_within {s : State} {input : ℕ} {t : Ts} : s.within (State.stampEdge s input t).1 [.tb] [2] := by
  unfold State.stampEdge
  extract_lets x1 x2
  clear_value x1
  clear_value x2
  split
  · split
    · dsimp only
      refine State.countSat_within rfl (mem_block (b := 2) (by decide) (by decide)) ?_
      exact State.within_refl _ _
    · dsimp only
      refine State.within_upd (by intro c hc; cases c <;> first | rfl | exact absurd (by decide) hc) ?_
      exact State.within_refl _ _
  · dsimp only
    refine State.within_upd (by intro c hc; cases c <;> first | rfl | exact absurd (by decide) hc) ?_
    exact State.within_refl _ _

theorem State.ppsWindow_within {s : State} {t : Ts} : s.within (State.ppsWindow s t) [] [2] := by
  unfold State.ppsWindow
  refine State.puts_cons_within ?_
  refine State.puts_cons_within ?_
  refine State.puts_cons_within ?_
  refine State.puts_cons_within ?_
  refine State.puts_nil_within ?_
  refine State.put_within rfl (mem_block (b := 2) (by omega) (by decide)) ?_
  refine State.put_within rfl (mem_block (b := 2) (by omega) (by decide)) ?_
  refine State.put_within rfl (mem_block (b := 2) (by omega) (by decide)) ?_
  refine State.put_within rfl (mem_block (b := 2) (by omega) (by decide)) ?_
  exact State.within_refl _ _

theorem State.modTic_within {s : State} {f : Tic → Tic} : s.within (State.modTic s f) [.tb] [] := by
  unfold State.modTic
  refine State.within_upd (by intro c hc; cases c <;> first | rfl | exact absurd (by decide) hc) ?_
  exact State.within_refl _ _

theorem State.ticStart_within {s : State} {r : ℕ} {seq : Option (BitVec 32)} : s.within (State.ticStart s r seq) [.tb] [15] := by
  unfold State.ticStart
  refine State.puts_cons_within ?_
  refine State.puts_cons_within ?_
  refine State.puts_cons_within ?_
  refine State.puts_nil_within ?_
  refine State.put_within rfl (mem_block (b := 15) (by decide) (by decide)) ?_
  refine State.put_within rfl (mem_block (b := 15) (by decide) (by decide)) ?_
  refine State.put_within rfl (mem_block (b := 15) (by decide) (by decide)) ?_
  refine State.within.step State.modTic_within ?_ (by decide) (by decide)
  exact State.within_refl _ _

theorem State.ticEnd_within {s : State} {part : Bool} : s.within (State.ticEnd s part) [.qcp, .tb, .ptb, .out] [15, 24, 25] := by
  unfold State.ticEnd
  extract_lets x1 x2 x3 x4 x5 x6
  have hx5 : s.within x5 [.qcp, .tb, .ptb, .out] [15, 24, 25] := by
    refine State.puts_within (fun p hp => ?_) (State.count_within rfl (mem_block (b := 15) (by decide) (by decide)) (State.within_refl _ _))
    simp only [x4, List.mem_append, List.mem_cons, List.not_mem_nil, or_false] at hp
    rcases hp with ((((h | h | h | h | h | h | h) | h | h) | h | h) | h | h) | h | h <;> subst h <;>
      exact mem_fld (b := 15) rfl (by omega) (by decide)
  clear_value x5
  have hx6 : s.within x6 [.qcp, .tb, .ptb, .out] [15, 24, 25] := by
    refine State.within.step State.modTic_within ?_ (by decide) (by decide)
    exact hx5
  clear_value x6
  split
  · exact State.within.step State.complete_within hx6 (by decide) (by decide)
  · exact hx6

theorem State.ticCancel_within {s : State} : s.within (State.ticCancel s) [.tb] [15] := by
  unfold State.ticCancel
  refine State.put_within rfl (mem_block (b := 15) (by decide) (by decide)) ?_
  refine State.within.step State.modTic_within ?_ (by decide) (by decide)
  exact State.within_refl _ _

theorem State.ticInterval_within {s : State} {t : ℕ} : s.within (State.ticInterval s t) [.qcp, .tb, .ptb, .out] [15, 24, 25] := by
  unfold State.ticInterval
  refine State.within_ite ?_ ?_
  · refine State.within.step State.modTic_within ?_ (by decide) (by decide)
    exact State.within_refl _ _
  · extract_lets x1
    have hx1 : s.within x1 [.qcp, .tb, .ptb, .out] [15, 24, 25] := by
      unfold x1
      refine State.count_within rfl (mem_block (b := 15) (by decide) (by decide)) ?_
      refine State.within.step State.modTic_within ?_ (by decide) (by decide)
      exact State.within_refl _ _
    clear_value x1
    refine State.within_ite ?_ ?_
    · refine State.within.step State.ticEnd_within ?_ (by decide) (by decide)
      assumption
    · assumption

theorem State.ticCommit_within {s : State} : s.within (State.ticCommit s) [.qcp, .tb] [] := by
  unfold State.ticCommit
  extract_lets x1
  have hx1 : s.within x1 [.qcp, .tb] [] := by
    unfold x1
    refine State.within.step State.modTic_within ?_ (by decide) (by decide)
    exact State.within_refl _ _
  clear_value x1
  split
  · refine State.within.step State.commitPoint_within ?_ (by decide) (by decide)
    assumption
  · assumption

theorem ticEdgeStep_within {input : Fin 6} {rising : Bool} {t : ℕ} {s : State} : s.within (ticEdgeStep input rising t s) [.qcp, .tb, .ptb, .out] [15, 24, 25] := by
  unfold ticEdgeStep
  refine State.whenDo_within ?_ ?_
  · extract_lets x2 x3 x4 x5 x6
    clear_value x2
    clear_value x3
    clear_value x4
    have hx5 : s.within x5 [.qcp, .tb, .ptb, .out] [15, 24, 25] := by
      unfold x5
      split
      · refine State.within.step State.ticInterval_within ?_ (by decide) (by decide)
        refine State.within.step State.modTic_within ?_ (by decide) (by decide)
        refine State.within.step State.ticCommit_within ?_ (by decide) (by decide)
        exact State.within_refl _ _
      · exact State.within_refl _ _
    clear_value x5
    clear_value x6
    refine State.within_ite ?_ ?_
    · refine State.within_ite ?_ ?_
      · refine State.within.step State.modTic_within ?_ (by decide) (by decide)
        refine State.within.step State.ticCommit_within ?_ (by decide) (by decide)
        assumption
      · assumption
    · refine State.within_ite ?_ ?_
      · split
        · refine State.within.step State.modTic_within ?_ (by decide) (by decide)
          refine State.within.step State.ticCommit_within ?_ (by decide) (by decide)
          exact State.within_refl _ _
        · refine State.within_ite ?_ ?_
          · refine State.within.step State.ticInterval_within ?_ (by decide) (by decide)
            refine State.within.step State.modTic_within ?_ (by decide) (by decide)
            exact State.within_refl _ _
          · refine State.within.step State.modTic_within ?_ (by decide) (by decide)
            exact State.within_refl _ _
      · exact State.within_refl _ _
  · exact State.within_refl _ _

theorem ticTimeoutStep_within {s : State} : s.within (ticTimeoutStep s) [.clk, .cyc, .qcp, .tb, .ptb, .out] [15, 24, 25] := by
  unfold ticTimeoutStep
  refine State.whenDo_within ?_ ?_
  · refine State.within.step State.ticEnd_within ?_ (by decide) (by decide)
    refine State.within.step State.atCyc_within ?_ (by decide) (by decide)
    exact State.within_refl _ _
  · exact State.within_refl _ _

theorem ticStartBody_within {q : ReqHdr} {input : ℕ} {n : ℕ} {s : State} : s.within (ticStartBody q input n s) [.qcp, .tb, .ptb, .out] [15, 24, 25] := by
  unfold ticStartBody
  refine State.within_ite ?_ ?_
  · refine State.within.step State.reply_within ?_ (by decide) (by decide)
    exact State.within_refl _ _
  · refine State.within_ite ?_ ?_
    · refine State.within.step State.reply_within ?_ (by decide) (by decide)
      exact State.within_refl _ _
    · refine State.startLong_within (by decide) (by decide) (fun t1 ht1 => ?_) ?_
      · refine State.within.step State.ticStart_within ?_ (by decide) (by decide)
        refine State.put_within rfl (mem_block (b := 15) (by decide) (by decide)) ?_
        refine State.put_within rfl (mem_block (b := 15) (by decide) (by decide)) ?_
        assumption
      · exact State.within_refl _ _

theorem ticReadBody_within {q : ReqHdr} {s : State} : s.within (ticReadBody q s) [.qcp, .ptb, .out] [24, 25] := by
  unfold ticReadBody
  refine State.within_ite ?_ ?_
  · refine State.within.step State.reply_within ?_ (by decide) (by decide)
    exact State.within_refl _ _
  · refine State.within.step State.reply_within ?_ (by decide) (by decide)
    exact State.within_refl _ _

theorem execTicStart_within {q : ReqHdr} {index : ℕ} {count : ℕ} {s : State} : s.withinC (execTicStart q index count s) [.qcp, .tb, .ptb, .out] [15, 24, 25] := by
  unfold execTicStart
  refine State.withinC_next ?_
  refine State.request_within (by decide) (by decide) (fun t1 ht1 => ?_) ?_
  · refine State.within.step ticStartBody_within ?_ (by decide) (by decide)
    assumption
  · exact State.within_refl _ _

theorem execTicRead_within {q : ReqHdr} {s : State} : s.withinC (execTicRead q s) [.qcp, .ptb, .out] [24, 25] := by
  unfold execTicRead
  refine State.withinC_next ?_
  refine State.request_within (by decide) (by decide) (fun t1 ht1 => ?_) ?_
  · refine State.within.step ticReadBody_within ?_ (by decide) (by decide)
    assumption
  · exact State.within_refl _ _

theorem execOvenWarm_within {s : State} : s.withinC (execOvenWarm s) [] [2] := by
  unfold execOvenWarm
  refine State.withinC_next ?_
  refine State.within.step ovenWarmStep_within ?_ (by decide) (by decide)
  exact State.within_refl _ _

theorem execOvenCool_within {s : State} : s.withinC (execOvenCool s) [.tb] [2] := by
  unfold execOvenCool
  refine State.withinC_next ?_
  refine State.within.step ovenCoolStep_within ?_ (by decide) (by decide)
  exact State.within_refl _ _

theorem execOvenFail_within {s : State} : s.withinC (execOvenFail s) [.light] [2] := by
  unfold execOvenFail
  refine State.withinC_next ?_
  refine State.within.step ovenFailStep_within ?_ (by decide) (by decide)
  exact State.within_refl _ _

theorem execRefSourceLoss_within {s : State} : s.withinC (execRefSourceLoss s) [] [2] := by
  unfold execRefSourceLoss
  refine State.withinC_next ?_
  refine State.within.step refSourceLossStep_within ?_ (by decide) (by decide)
  exact State.within_refl _ _

theorem execRefSourceResume_within {s : State} : s.withinC (execRefSourceResume s) [.free] [2] := by
  unfold execRefSourceResume
  refine State.withinC_next ?_
  refine State.within.step refSourceResumeStep_within ?_ (by decide) (by decide)
  exact State.within_refl _ _

theorem execSynthUnlock_within {s : State} : s.withinC (execSynthUnlock s) [.light, .tb] [2] := by
  unfold execSynthUnlock
  refine State.withinC_next ?_
  refine State.within.step synthUnlockStep_within ?_ (by decide) (by decide)
  exact State.within_refl _ _

theorem execSynthRelock_within {s : State} : s.withinC (execSynthRelock s) [.light] [2] := by
  unfold execSynthRelock
  refine State.withinC_next ?_
  refine State.within.step synthRelockStep_within ?_ (by decide) (by decide)
  exact State.within_refl _ _

theorem execSynthLockTimeout_within {s : State} : s.withinC (execSynthLockTimeout s) [.light, .tb, .mon, .dmc] [0, 3, 19, 21] := by
  unfold execSynthLockTimeout
  refine State.withinC_next ?_
  refine State.within.step synthLockTimeoutStep_within ?_ (by decide) (by decide)
  exact State.within_refl _ _

theorem execPpsOutEdge_within {s : State} : s.withinC (execPpsOutEdge s) [.clk, .cyc, .ptb, .power, .out] [24] := by
  unfold execPpsOutEdge
  refine State.withinC_next ?_
  refine State.within.step ppsOutEdgeStep_within ?_ (by decide) (by decide)
  exact State.within_refl _ _

theorem execTicEdge_within {input : Fin 6} {rising : Bool} {ts : ℕ} {s : State} : s.withinC (execTicEdge input rising ts s) [.qcp, .tb, .ptb, .out] [15, 24, 25] := by
  unfold execTicEdge
  refine State.withinC_next ?_
  refine State.within.step ticEdgeStep_within ?_ (by decide) (by decide)
  exact State.within_refl _ _

theorem execTicTimeout_within {s : State} : s.withinC (execTicTimeout s) [.clk, .cyc, .qcp, .tb, .ptb, .out] [15, 24, 25] := by
  unfold execTicTimeout
  refine State.withinC_next ?_
  refine State.within.step ticTimeoutStep_within ?_ (by decide) (by decide)
  exact State.within_refl _ _

theorem execPpsOutFall_within {s : State} : s.withinC (execPpsOutFall s) [.power] [] := by
  unfold execPpsOutFall
  refine State.withinC_next ?_
  refine State.within.step ppsOutFallStep_within ?_ (by decide) (by decide)
  exact State.within_refl _ _

end Sys2Proof.Machine
end

