-- ==== Sys2Proof/Laws/WithinLinks.lean ====
section
/-! SUPPORT. What each meaning of the ridge bus and of streams and battens can change. -/

namespace Sys2Proof.Machine

theorem State.modLane_within {s : State} {w : Bool} {f : Lane → Lane} : s.within (State.modLane s w f) [.ridge] [] := by
  unfold State.modLane
  refine State.within_ite ?_ ?_
  · refine State.within_upd (by intro c hc; cases c <;> first | rfl | exact absurd (by decide) hc) ?_
    exact State.within_refl _ _
  · refine State.within_upd (by intro c hc; cases c <;> first | rfl | exact absurd (by decide) hc) ?_
    exact State.within_refl _ _

theorem State.updWrapped_within {s : State} : s.within (State.updWrapped s) [.qcp, .ptb, .out] [16, 24, 25] := by
  unfold State.updWrapped
  extract_lets x1
  clear_value x1
  refine State.within_ite ?_ ?_
  · exact State.within_refl _ _
  · refine State.within.step State.eventAll_within ?_ (by decide) (by decide)
    refine State.putFlag_within rfl (mem_block (b := 16) (by decide) (by decide)) ?_
    exact State.within_refl _ _

theorem State.updFlane_within {s : State} : s.within (State.updFlane s) [] [16] := by
  unfold State.updFlane
  refine State.putFlag_within rfl (mem_block (b := 16) (by decide) (by decide)) ?_
  exact State.within_refl _ _

theorem State.setLane_within {s : State} {w : Bool} {up : Bool} : s.within (State.setLane s w up) [.qcp, .ridge, .ptb, .out] [16, 24, 25] := by
  unfold State.setLane
  refine State.within_ite ?_ ?_
  · exact State.within_refl _ _
  · refine State.within.step State.updWrapped_within ?_ (by decide) (by decide)
    refine State.within.step State.updFlane_within ?_ (by decide) (by decide)
    refine State.within.step State.modLane_within ?_ (by decide) (by decide)
    refine State.count_within rfl (mem_block (b := 16) (by omega) (by decide)) ?_
    refine State.putFlag_any ?_ (State.within_refl _ _)
    cases w <;> exact mem_fld (b := 16) rfl (by decide) (by decide)

theorem blockLockLossStep_within {w : Bool} {s : State} : s.within (blockLockLossStep w s) [.qcp, .ridge, .ptb, .out] [16, 24, 25] := by
  unfold blockLockLossStep
  refine State.within.step State.setLane_within ?_ (by decide) (by decide)
  exact State.within_refl _ _

theorem laneFrameTimeoutStep_within {w : Bool} {s : State} : s.within (laneFrameTimeoutStep w s) [.qcp, .ridge, .ptb, .out] [16, 24, 25] := by
  unfold laneFrameTimeoutStep
  refine State.within.step State.setLane_within ?_ (by decide) (by decide)
  exact State.within_refl _ _

theorem laneUpStep_within {w : Bool} {s : State} : s.within (laneUpStep w s) [.qcp, .ridge, .ptb, .out] [16, 24, 25] := by
  unfold laneUpStep
  refine State.whenDo_within ?_ ?_
  · refine State.within.step State.setLane_within ?_ (by decide) (by decide)
    exact State.within_refl _ _
  · exact State.within_refl _ _

theorem ridgeCrcErrorStep_within {w : Bool} {s : State} : s.within (ridgeCrcErrorStep w s) [.qcp, .ridge, .ptb, .out] [16, 24, 25] := by
  unfold ridgeCrcErrorStep
  extract_lets x1 x2 x3
  have hx1 : s.within x1 [.qcp, .ridge, .ptb, .out] [16, 24, 25] := by
    unfold x1
    refine State.countSat_within rfl (mem_block (b := 16) (by omega) (by decide)) ?_
    exact State.within_refl _ _
  clear_value x1
  clear_value x2
  have hx3 : s.within x3 [.qcp, .ridge, .ptb, .out] [16, 24, 25] := by
    unfold x3
    refine State.within.step State.modLane_within ?_ (by decide) (by decide)
    assumption
  clear_value x3
  refine State.within_ite ?_ ?_
  · refine State.within.step State.setLane_within ?_ (by decide) (by decide)
    assumption
  · assumption

theorem State.goodFrame_within {s : State} {w : Bool} : s.within (State.goodFrame s w) [.ridge] [] := by
  unfold State.goodFrame
  refine State.within.step State.modLane_within ?_ (by decide) (by decide)
  exact State.within_refl _ _

theorem ridgeIdleFrameStep_within {h : RidgeHdr} {s : State} : s.within (ridgeIdleFrameStep h s) [.ridge] [] := by
  unfold ridgeIdleFrameStep
  refine State.within.step State.goodFrame_within ?_ (by decide) (by decide)
  exact State.within_refl _ _

theorem State.sendLane_within {s : State} {w : Bool} {f : RidgeFrame} : s.within (State.sendLane s w f) [.ptb, .out] [24] := by
  unfold State.sendLane
  refine State.within_ite ?_ ?_
  · refine State.within.step State.emit_within ?_ (by decide) (by decide)
    exact State.within_refl _ _
  · exact State.within_refl _ _

theorem State.originate_within {s : State} {type : ℕ} {time : Ts} {payload : List Byte} : s.within (State.originate s type time payload) [.ridge, .ptb, .out] [24] := by
  unfold State.originate
  refine State.within_ite ?_ ?_
  · exact State.within_refl _ _
  · extract_lets x1 x2 x3
    clear_value x1
    clear_value x2
    have hx3 : s.within x3 [.ridge, .ptb, .out] [24] := by
      unfold x3
      refine State.within_upd (by intro c hc; cases c <;> first | rfl | exact absurd (by decide) hc) ?_
      exact State.within_refl _ _
    clear_value x3
    refine State.within.step State.sendLane_within ?_ (by decide) (by decide)
    refine State.within.step State.sendLane_within ?_ (by decide) (by decide)
    assumption

theorem State.forward_within {s : State} {h : RidgeHdr} {type : ℕ} {payload : List Byte} : s.within (State.forward s h type payload) [.ptb, .out, .free] [24] := by
  unfold State.forward
  extract_lets x1 x2 x3
  clear_value x1
  clear_value x2
  clear_value x3
  refine State.within_ite ?_ ?_
  · exact State.within_refl _ _
  · refine State.within.step State.sendLane_within ?_ (by decide) (by decide)
    refine State.drew_within (by decide) ?_
    exact State.within_refl _ _

theorem State.ringFrame_within {s0 s : State} {K : List Comp} {B : List Nat} {h : RidgeHdr} {type : Nat} {payload : List Byte} {act : State → State}
    (hk : [.ridge, .ptb, .out, .free] ⊆ K) (hb : [24] ⊆ B) (hf : ∀ t, s0.within t K B → s0.within (act t) K B) (hs : s0.within s K B) :
    s0.within (s.ringFrame h type payload act) K B := by
  have h1 (t : State) (g : s0.within t K B) : s0.within (t.goodFrame h.laneW) K B :=
    State.goodFrame_within.step g (fun c hc => hk (by revert hc c; decide)) (fun c hc => hb (by revert hc c; decide))
  have h2 (t : State) (g : s0.within t K B) : s0.within (t.forward h type payload) K B :=
    State.forward_within.step g (fun c hc => hk (by revert hc c; decide)) (fun c hc => hb (by revert hc c; decide))
  unfold State.ringFrame
  refine State.within_ite hs (State.within_ite (h1 _ hs) (State.within_ite ?_ (hf _ ?_)))
  · refine State.within_upd (by intro c hc; cases c <;> first | rfl | exact absurd (hk (by decide)) hc) ?_
    exact h2 _ (h1 _ hs)
  · refine State.within_upd (by intro c hc; cases c <;> first | rfl | exact absurd (hk (by decide)) hc) ?_
    exact h2 _ (h1 _ hs)

theorem State.updHorizon_within {s : State} : s.within (State.updHorizon s) [.qcp, .ptb, .out] [16, 24, 25] := by
  unfold State.updHorizon
  extract_lets x1
  clear_value x1
  refine State.within_ite ?_ ?_
  · refine State.within.step State.eventAll_within ?_ (by decide) (by decide)
    refine State.put_within rfl (mem_block (b := 16) (by decide) (by decide)) ?_
    exact State.within_refl _ _
  · refine State.putFlag_within rfl (mem_block (b := 16) (by decide) (by decide)) ?_
    exact State.within_refl _ _

theorem State.updNodes_within {s : State} : s.within (State.updNodes s) [] [16] := by
  unfold State.updNodes
  refine State.put_within rfl (mem_block (b := 16) (by decide) (by decide)) ?_
  exact State.within_refl _ _

theorem State.nodeEntry_within {s : State} {n : RidgeNode} : s.within (State.nodeEntry s n) [] [16] := by
  unfold State.nodeEntry
  extract_lets x1 x2
  clear_value x1
  clear_value x2
  refine State.puts_cons_within ?_
  refine State.puts_cons_within ?_
  refine State.puts_cons_within ?_
  refine State.puts_cons_within ?_
  refine State.puts_nil_within ?_
  refine State.put_within rfl (mem_block (b := 16) (by omega) (by decide)) ?_
  refine State.put_within rfl (mem_block (b := 16) (by omega) (by decide)) ?_
  refine State.put_within rfl (mem_block (b := 16) (by omega) (by decide)) ?_
  refine State.put_within rfl (mem_block (b := 16) (by omega) (by decide)) ?_
  exact State.within_refl _ _

theorem State.learnPath_within {s : State} {h : RidgeHdr} {serial : BitVec 48} {eUp : Bool} {wUp : Bool} : s.within (State.learnPath s h serial eUp wUp) [.ridge] [16] := by
  unfold State.learnPath
  extract_lets x1 x2 x3 x4 x5
  clear_value x1
  clear_value x2
  clear_value x3
  clear_value x4
  have hx5 : s.within x5 [.ridge] [16] := by
    unfold x5
    refine State.within_upd (by intro c hc; cases c <;> first | rfl | exact absurd (by decide) hc) ?_
    exact State.within_refl _ _
  clear_value x5
  refine State.within.step State.updNodes_within ?_ (by decide) (by decide)
  refine State.within.step State.nodeEntry_within ?_ (by decide) (by decide)
  assumption

theorem presenceStep_within {h : RidgeHdr} {serial : BitVec 48} {eUp : Bool} {wUp : Bool} {s : State} : s.within (presenceStep h serial eUp wUp s) [.qcp, .ridge, .ptb, .out, .free] [16, 24, 25] := by
  unfold presenceStep
  extract_lets x1
  clear_value x1
  refine State.within_ite ?_ ?_
  · refine State.whenDo_within ?_ ?_
    · extract_lets x3
      have hx3 : s.within x3 [.qcp, .ridge, .ptb, .out, .free] [16, 24, 25] := by
        unfold x3
        refine State.within.step State.goodFrame_within ?_ (by decide) (by decide)
        exact State.within_refl _ _
      clear_value x3
      refine State.within.step State.updHorizon_within ?_ (by decide) (by decide)
      refine State.within_ite ?_ ?_
      · assumption
      · refine State.put_within rfl (mem_block (b := 16) (by decide) (by decide)) ?_
        assumption
    · exact State.within_refl _ _
  · refine State.whenDo_within ?_ ?_
    · refine State.within.step State.updWrapped_within ?_ (by decide) (by decide)
      refine State.within.step State.learnPath_within ?_ (by decide) (by decide)
      refine State.ringFrame_within (by decide) (by decide) (fun t5 ht5 => ?_) ?_
      · refine State.within_ite ?_ ?_
        · refine State.within_ite ?_ ?_
          · refine State.within.step State.eventAll_within ?_ (by decide) (by decide)
            refine State.put_within rfl (mem_block (b := 16) (by decide) (by decide)) ?_
            assumption
          · assumption
        · assumption
      · exact State.within_refl _ _
    · refine State.ringFrame_within (by decide) (by decide) (fun t6 ht6 => ?_) ?_
      · refine State.within_ite ?_ ?_
        · refine State.within_ite ?_ ?_
          · refine State.within.step State.eventAll_within ?_ (by decide) (by decide)
            refine State.put_within rfl (mem_block (b := 16) (by decide) (by decide)) ?_
            assumption
          · assumption
        · assumption
      · exact State.within_refl _ _

theorem nodeExpireStep_within {node : BitVec 12} {s : State} : s.within (nodeExpireStep node s) [.qcp, .ridge, .ptb, .out] [16, 24, 25] := by
  unfold nodeExpireStep
  refine State.whenDo_within ?_ ?_
  · extract_lets x2 x3
    clear_value x2
    have hx3 : s.within x3 [.qcp, .ridge, .ptb, .out] [16, 24, 25] := by
      unfold x3
      refine State.within_upd (by intro c hc; cases c <;> first | rfl | exact absurd (by decide) hc) ?_
      exact State.within_refl _ _
    clear_value x3
    refine State.within.step State.updWrapped_within ?_ (by decide) (by decide)
    refine State.within.step State.updNodes_within ?_ (by decide) (by decide)
    refine State.puts_cons_within ?_
    refine State.puts_cons_within ?_
    refine State.puts_cons_within ?_
    refine State.puts_cons_within ?_
    refine State.puts_nil_within ?_
    refine State.put_within rfl (mem_block (b := 16) (by omega) (by decide)) ?_
    refine State.put_within rfl (mem_block (b := 16) (by omega) (by decide)) ?_
    refine State.put_within rfl (mem_block (b := 16) (by omega) (by decide)) ?_
    refine State.put_within rfl (mem_block (b := 16) (by omega) (by decide)) ?_
    assumption
  · exact State.within_refl _ _

theorem presenceSendStep_within {s : State} : s.within (presenceSendStep s) [.ridge, .ptb, .out] [24] := by
  unfold presenceSendStep
  refine State.within.step State.originate_within ?_ (by decide) (by decide)
  exact State.within_refl _ _

theorem State.sendHop_within {s : State} {w : Bool} {type : ℕ} {time : Ts} {payload : List Byte} : s.within (State.sendHop s w type time payload) [.ptb, .out] [24] := by
  unfold State.sendHop
  refine State.within.step State.sendLane_within ?_ (by decide) (by decide)
  exact State.within_refl _ _

theorem dlyReqSendStep_within {s : State} : s.within (dlyReqSendStep s) [.ridge, .ptb, .out] [24] := by
  unfold dlyReqSendStep
  refine State.whenDo_within ?_ ?_
  · extract_lets x2
    have hx2 : ∀ a0 a1, s.within a0 [.ridge, .ptb, .out] [24] → s.within (x2 a0 a1) [.ridge, .ptb, .out] [24] := by
      intro a0 a1 ha
      unfold x2
      refine State.within_ite ?_ ?_
      · refine State.within.step State.sendHop_within ?_ (by decide) (by decide)
        refine State.within.step State.modLane_within ?_ (by decide) (by decide)
        assumption
      · assumption
    refine hx2 _ _ ?_
    refine hx2 _ _ ?_
    exact State.within_refl _ _
  · exact State.within_refl _ _

theorem dlyReqStep_within {h : RidgeHdr} {s : State} : s.within (dlyReqStep h s) [.ridge, .ptb, .out] [24] := by
  unfold dlyReqStep
  refine State.whenDo_within ?_ ?_
  · refine State.within.step State.sendHop_within ?_ (by decide) (by decide)
    refine State.within.step State.goodFrame_within ?_ (by decide) (by decide)
    exact State.within_refl _ _
  · exact State.within_refl _ _

theorem dlyRspStep_within {h : RidgeHdr} {t1 : Ts} {t2 : Ts} {s : State} : s.within (dlyRspStep h t1 t2 s) [.ridge] [16] := by
  unfold dlyRspStep
  refine State.whenDo_within ?_ ?_
  · extract_lets x2 x3 x4
    clear_value x2
    clear_value x3
    have hx4 : s.within x4 [.ridge] [16] := by
      unfold x4
      refine State.within.step State.modLane_within ?_ (by decide) (by decide)
      refine State.within.step State.goodFrame_within ?_ (by decide) (by decide)
      exact State.within_refl _ _
    clear_value x4
    refine State.puti_within rfl (mem_block (b := 16) (by omega) (by decide)) ?_
    assumption
  · exact State.within_refl _ _

theorem timeSendStep_within {s : State} : s.within (timeSendStep s) [.ridge, .ptb, .out] [24] := by
  unfold timeSendStep
  refine State.whenDo_within ?_ ?_
  · refine State.within.step State.originate_within ?_ (by decide) (by decide)
    exact State.within_refl _ _
  · exact State.within_refl _ _

theorem State.ridgeOffset_within {s : State} {off : ℤ} : s.within (State.ridgeOffset s off) [.clk, .grid, .rx, .qcp, .ptp, .ridge, .strm, .reed, .brl, .pair] [14, 16] := by
  unfold State.ridgeOffset
  refine State.within_ite ?_ ?_
  · refine State.within.step State.stepBy_within ?_ (by decide) (by decide)
    exact State.within_refl _ _
  · extract_lets x1 x2 x3 x4
    clear_value x1
    clear_value x2
    have hx3 : s.within x3 [.clk, .grid, .rx, .qcp, .ptp, .ridge, .strm, .reed, .brl, .pair] [14, 16] := by
      unfold x3
      refine State.within_upd (by intro c hc; cases c <;> first | rfl | exact absurd (by decide) hc) ?_
      exact State.within_refl _ _
    clear_value x3
    have hx4 : s.within x4 [.clk, .grid, .rx, .qcp, .ptp, .ridge, .strm, .reed, .brl, .pair] [14, 16] := by
      unfold x4
      refine State.within_ite ?_ ?_
      · refine State.put_within rfl (mem_block (b := 16) (by decide) (by decide)) ?_
        assumption
      · assumption
    clear_value x4
    refine State.within.step State.piAdjust_within ?_ (by decide) (by decide)
    assumption

theorem timeFrameStep_within {h : RidgeHdr} {s : State} : s.within (timeFrameStep h s) [.clk, .grid, .rx, .qcp, .ptp, .ridge, .strm, .reed, .brl, .pair, .ptb, .out, .free] [14, 16, 24, 25] := by
  unfold timeFrameStep
  extract_lets x1
  have hx1 : s.within x1 [.clk, .grid, .rx, .qcp, .ptp, .ridge, .strm, .reed, .brl, .pair, .ptb, .out, .free] [14, 16, 24, 25] := by
    unfold x1
    refine State.ringFrame_within (by decide) (by decide) (fun t2 ht2 => ?_) ?_
    · refine State.within_ite ?_ ?_
      · refine State.within.step State.eventAll_within ?_ (by decide) (by decide)
        refine State.within_upd (by intro c hc; cases c <;> first | rfl | exact absurd (by decide) hc) ?_
        assumption
      · assumption
    · exact State.within_refl _ _
  clear_value x1
  refine State.whenDo_within ?_ ?_
  · extract_lets x4 x5
    clear_value x4
    have hx5 : s.within x5 [.clk, .grid, .rx, .qcp, .ptp, .ridge, .strm, .reed, .brl, .pair, .ptb, .out, .free] [14, 16, 24, 25] := by
      unfold x5
      refine State.within.step State.updFlane_within ?_ (by decide) (by decide)
      refine State.within.step State.modLane_within ?_ (by decide) (by decide)
      assumption
    clear_value x5
    refine State.within_ite ?_ ?_
    · refine State.within.step State.ridgeOffset_within ?_ (by decide) (by decide)
      assumption
    · assumption
  · assumption

theorem ridgeTimeLossStep_within {s : State} : s.within (ridgeTimeLossStep s) [.ptp, .ridge] [14, 16] := by
  unfold ridgeTimeLossStep
  extract_lets x1 x2
  clear_value x1
  have hx2 : s.within x2 [.ptp, .ridge] [14, 16] := by
    unfold x2
    refine State.put_within rfl (mem_block (b := 16) (by decide) (by decide)) ?_
    refine State.within_upd (by intro c hc; cases c <;> first | rfl | exact absurd (by decide) hc) ?_
    exact State.within_refl _ _
  clear_value x2
  refine State.within_ite ?_ ?_
  · refine State.within.step State.holdFadj_within ?_ (by decide) (by decide)
    assumption
  · assumption

theorem State.sendRidgeTrigger_within {s : State} {origin : Ts} {tref : Ts} {id : ℕ} : s.within (State.sendRidgeTrigger s origin tref id) [.ridge, .ptb, .out] [24] := by
  unfold State.sendRidgeTrigger
  extract_lets x1 x2 x3
  clear_value x1
  have hx2 : s.within x2 [.ridge, .ptb, .out] [24] := by
    unfold x2
    refine State.within.step State.originate_within ?_ (by decide) (by decide)
    exact State.within_refl _ _
  clear_value x2
  clear_value x3
  refine State.within_upd (by intro c hc; cases c <;> first | rfl | exact absurd (by decide) hc) ?_
  assumption

theorem State.sendRidgeSync_within {s : State} : s.within (State.sendRidgeSync s) [.ridge, .ptb, .out] [24] := by
  unfold State.sendRidgeSync
  extract_lets x1 x2 x3
  clear_value x1
  have hx2 : s.within x2 [.ridge, .ptb, .out] [24] := by
    unfold x2
    refine State.within.step State.originate_within ?_ (by decide) (by decide)
    exact State.within_refl _ _
  clear_value x2
  clear_value x3
  refine State.within_ite ?_ ?_
  · refine State.within_upd (by intro c hc; cases c <;> first | rfl | exact absurd (by decide) hc) ?_
    assumption
  · assumption

theorem syncFrameStep_within {h : RidgeHdr} {group : BitVec 8} {s : State} : s.within (syncFrameStep h group s) [.ridge, .ptb, .out, .free] [24] := by
  unfold syncFrameStep
  refine State.ringFrame_within (by decide) (by decide) (fun t1 ht1 => ?_) ?_
  · refine State.within_ite ?_ ?_
    · refine State.within_upd (by intro c hc; cases c <;> first | rfl | exact absurd (by decide) hc) ?_
      assumption
    · assumption
  · exact State.within_refl _ _

theorem bypassTimerExpireStep_within {s : State} : s.within (bypassTimerExpireStep s) [] [16] := by
  unfold bypassTimerExpireStep
  refine State.put_within rfl (mem_block (b := 16) (by decide) (by decide)) ?_
  exact State.within_refl _ _

theorem bypassEnergizeStep_within {s : State} : s.within (bypassEnergizeStep s) [] [16] := by
  unfold bypassEnergizeStep
  refine State.whenDo_within ?_ ?_
  · refine State.put_within rfl (mem_block (b := 16) (by decide) (by decide)) ?_
    exact State.within_refl _ _
  · exact State.within_refl _ _

theorem bypassReleaseStep_within {s : State} : s.within (bypassReleaseStep s) [] [16] := by
  unfold bypassReleaseStep
  refine State.whenDo_within ?_ ?_
  · refine State.put_within rfl (mem_block (b := 16) (by decide) (by decide)) ?_
    exact State.within_refl _ _
  · exact State.within_refl _ _

theorem execRidgeIdleFrame_within {h : RidgeHdr} {s : State} : s.withinC (execRidgeIdleFrame h s) [.ridge] [] := by
  unfold execRidgeIdleFrame
  refine State.withinC_next ?_
  refine State.within.step ridgeIdleFrameStep_within ?_ (by decide) (by decide)
  exact State.within_refl _ _

theorem execDlyReq_within {h : RidgeHdr} {s : State} : s.withinC (execDlyReq h s) [.ridge, .ptb, .out] [24] := by
  unfold execDlyReq
  refine State.withinC_next ?_
  refine State.within.step dlyReqStep_within ?_ (by decide) (by decide)
  exact State.within_refl _ _

theorem execDlyRsp_within {h : RidgeHdr} {t1 : Ts} {t2 : Ts} {s : State} : s.withinC (execDlyRsp h t1 t2 s) [.ridge] [16] := by
  unfold execDlyRsp
  refine State.withinC_next ?_
  refine State.within.step dlyRspStep_within ?_ (by decide) (by decide)
  exact State.within_refl _ _

theorem execPresence_within {h : RidgeHdr} {serial : BitVec 48} {eUp : Bool} {wUp : Bool} {s : State} : s.withinC (execPresence h serial eUp wUp s) [.qcp, .ridge, .ptb, .out, .free] [16, 24, 25] := by
  unfold execPresence
  refine State.withinC_next ?_
  refine State.within.step presenceStep_within ?_ (by decide) (by decide)
  exact State.within_refl _ _

theorem execTimeFrame_within {h : RidgeHdr} {s : State} : s.withinC (execTimeFrame h s) [.clk, .grid, .rx, .qcp, .ptp, .ridge, .strm, .reed, .brl, .pair, .ptb, .out, .free] [14, 16, 24, 25] := by
  unfold execTimeFrame
  refine State.withinC_next ?_
  refine State.within.step timeFrameStep_within ?_ (by decide) (by decide)
  exact State.within_refl _ _

theorem execSyncFrame_within {h : RidgeHdr} {group : BitVec 8} {s : State} : s.withinC (execSyncFrame h group s) [.ridge, .ptb, .out, .free] [24] := by
  unfold execSyncFrame
  refine State.withinC_next ?_
  refine State.within.step syncFrameStep_within ?_ (by decide) (by decide)
  exact State.within_refl _ _

theorem execRidgeCrcError_within {laneW : Bool} {s : State} : s.withinC (execRidgeCrcError laneW s) [.qcp, .ridge, .ptb, .out] [16, 24, 25] := by
  unfold execRidgeCrcError
  refine State.withinC_next ?_
  refine State.within.step ridgeCrcErrorStep_within ?_ (by decide) (by decide)
  exact State.within_refl _ _

theorem execPresenceSend_within {s : State} : s.withinC (execPresenceSend s) [.ridge, .ptb, .out] [24] := by
  unfold execPresenceSend
  refine State.withinC_next ?_
  refine State.within.step presenceSendStep_within ?_ (by decide) (by decide)
  exact State.within_refl _ _

theorem execDlyReqSend_within {s : State} : s.withinC (execDlyReqSend s) [.ridge, .ptb, .out] [24] := by
  unfold execDlyReqSend
  refine State.withinC_next ?_
  refine State.within.step dlyReqSendStep_within ?_ (by decide) (by decide)
  exact State.within_refl _ _

theorem execTimeSend_within {s : State} : s.withinC (execTimeSend s) [.ridge, .ptb, .out] [24] := by
  unfold execTimeSend
  refine State.withinC_next ?_
  refine State.within.step timeSendStep_within ?_ (by decide) (by decide)
  exact State.within_refl _ _

theorem execBlockLockLoss_within {laneW : Bool} {s : State} : s.withinC (execBlockLockLoss laneW s) [.qcp, .ridge, .ptb, .out] [16, 24, 25] := by
  unfold execBlockLockLoss
  refine State.withinC_next ?_
  refine State.within.step blockLockLossStep_within ?_ (by decide) (by decide)
  exact State.within_refl _ _

theorem execLaneFrameTimeout_within {laneW : Bool} {s : State} : s.withinC (execLaneFrameTimeout laneW s) [.qcp, .ridge, .ptb, .out] [16, 24, 25] := by
  unfold execLaneFrameTimeout
  refine State.withinC_next ?_
  refine State.within.step laneFrameTimeoutStep_within ?_ (by decide) (by decide)
  exact State.within_refl _ _

theorem execLaneUp_within {laneW : Bool} {s : State} : s.withinC (execLaneUp laneW s) [.qcp, .ridge, .ptb, .out] [16, 24, 25] := by
  unfold execLaneUp
  refine State.withinC_next ?_
  refine State.within.step laneUpStep_within ?_ (by decide) (by decide)
  exact State.within_refl _ _

theorem execNodeExpire_within {node : BitVec 12} {s : State} : s.withinC (execNodeExpire node s) [.qcp, .ridge, .ptb, .out] [16, 24, 25] := by
  unfold execNodeExpire
  refine State.withinC_next ?_
  refine State.within.step nodeExpireStep_within ?_ (by decide) (by decide)
  exact State.within_refl _ _

theorem execRidgeTimeLoss_within {s : State} : s.withinC (execRidgeTimeLoss s) [.ptp, .ridge] [14, 16] := by
  unfold execRidgeTimeLoss
  refine State.withinC_next ?_
  refine State.within.step ridgeTimeLossStep_within ?_ (by decide) (by decide)
  exact State.within_refl _ _

theorem execBypassTimerExpire_within {s : State} : s.withinC (execBypassTimerExpire s) [] [16] := by
  unfold execBypassTimerExpire
  refine State.withinC_next ?_
  refine State.within.step bypassTimerExpireStep_within ?_ (by decide) (by decide)
  exact State.within_refl _ _

theorem execBypassEnergize_within {s : State} : s.withinC (execBypassEnergize s) [] [16] := by
  unfold execBypassEnergize
  refine State.withinC_next ?_
  refine State.within.step bypassEnergizeStep_within ?_ (by decide) (by decide)
  exact State.within_refl _ _

theorem execBypassRelease_within {s : State} : s.withinC (execBypassRelease s) [] [16] := by
  unfold execBypassRelease
  refine State.withinC_next ?_
  refine State.within.step bypassReleaseStep_within ?_ (by decide) (by decide)
  exact State.within_refl _ _

theorem State.modFilt_within {s : State} {n : ℕ} {f : StreamFilter → StreamFilter} : s.within (State.modFilt s n f) [.dec] [] := by
  unfold State.modFilt
  refine State.within_upd (by intro c hc; cases c <;> first | rfl | exact absurd (by decide) hc) ?_
  exact State.within_refl _ _

theorem State.modRslot_within {s : State} {o : ℕ} {f : RSlot → RSlot} : s.within (State.modRslot s o f) [.reed] [] := by
  unfold State.modRslot
  refine State.within_upd (by intro c hc; cases c <;> first | rfl | exact absurd (by decide) hc) ?_
  exact State.within_refl _ _

theorem State.eventStream_within {s : State} {n : ℕ} {code : ℕ} : s.within (State.eventStream s n code) [.qcp, .ptb, .out] [24, 25] := by
  unfold State.eventStream
  split
  · refine State.within.step State.event_within ?_ (by decide) (by decide)
    exact State.within_refl _ _
  · exact State.within_refl _ _

theorem State.modStr_within {s : State} {n : ℕ} {f : StreamSt → StreamSt} : s.within (State.modStr s n f) [.strm] [] := by
  unfold State.modStr
  refine State.within_upd (by intro c hc; cases c <;> first | rfl | exact absurd (by decide) hc) ?_
  exact State.within_refl _ _

theorem State.mergeWords_within {s : State} {l : List (ℕ × Word)} : s.within (State.mergeWords s l) [] allBlocks := by
  unfold State.mergeWords
  refine State.within_foldl (fun t1 y1 ht1 => ?_) ?_
  · refine State.wr_within (blockOf_mem_all _) ?_
    assumption
  · exact State.within_refl _ _

theorem State.claimStr_within {s : State} {r : Fin 8} : s.within (State.claimStr s r) [.qcp] [] := by
  unfold State.claimStr
  refine State.within_upd (by intro c hc; cases c <;> first | rfl | exact absurd (by decide) hc) ?_
  exact State.within_refl _ _

theorem State.updPool_within {s : State} : s.within (State.updPool s) [] [9, 12, 21] := by
  unfold State.updPool
  refine State.put_within rfl (mem_block (b := 21) (by decide) (by decide)) ?_
  exact State.within_refl _ _

theorem State.handedOver_within {s : State} : s.within (State.handedOver s) [.qcp] allBlocks := by
  unfold State.handedOver
  refine State.within_foldl (fun t1 y1 ht1 => ?_) ?_
  · refine State.within.step State.updPool_within ?_ (by decide) (by decide)
    refine State.within.step State.claimStr_within ?_ (by decide) (by decide)
    refine State.within.step State.mergeWords_within ?_ (by decide) (by decide)
    assumption
  · exact State.within_refl _ _

theorem State.updOverdrawn_within {s : State} : s.within (State.updOverdrawn s) [] [0] := by
  unfold State.updOverdrawn
  refine State.put_within rfl (mem_block (b := 0) (by decide) (by decide)) ?_
  exact State.within_refl _ _

theorem State.queueBytes_within {s : State} {n : ℕ} {mk : BitVec 32 → Bool → List Byte} : s.within (State.queueBytes s n mk) [.strm, .dmc] [12] := by
  unfold State.queueBytes
  extract_lets x1 x2 x3 x4 x5 x6
  clear_value x1
  clear_value x2
  have hx3 : s.within x3 [.strm, .dmc] [12] := by
    unfold x3
    refine State.count_within rfl (mem_block (b := 12) (by omega) (by decide)) ?_
    exact State.within_refl _ _
  clear_value x3
  have hx4 : s.within x4 [.strm, .dmc] [12] := by
    unfold x4
    refine State.within.step State.modStr_within ?_ (by decide) (by decide)
    assumption
  clear_value x4
  have hx5 : s.within x5 [.strm, .dmc] [12] := by
    unfold x5
    refine State.within_ite ?_ ?_
    · assumption
    · refine State.within.step State.dramWrite_within ?_ (by decide) (by decide)
      assumption
  clear_value x5
  clear_value x6
  refine State.within_upd (by intro c hc; cases c <;> first | rfl | exact absurd (by decide) hc) ?_
  assumption

theorem State.sendGap_within {s : State} {n : ℕ} {like : Option BOut} : s.within (State.sendGap s n like) [.strm, .dmc] [12] := by
  unfold State.sendGap
  split
  · exact State.within_refl _ _
  · extract_lets x1 x2 x3
    clear_value x1
    clear_value x2
    have hx3 : s.within x3 [.strm, .dmc] [12] := by
      unfold x3
      refine State.within.step State.queueBytes_within ?_ (by decide) (by decide)
      exact State.within_refl _ _
    clear_value x3
    refine State.within.step State.modStr_within ?_ (by decide) (by decide)
    assumption

theorem State.closeOpen_within {s : State} {n : ℕ} : s.within (State.closeOpen s n) [.strm, .dmc] [12] := by
  unfold State.closeOpen
  extract_lets x1 x2 x3 x4 x5 x6
  clear_value x1
  have hx2 : s.within x2 [.strm, .dmc] [12] := by
    unfold x2
    refine State.within.step State.sendGap_within ?_ (by decide) (by decide)
    exact State.within_refl _ _
  clear_value x2
  clear_value x3
  have hx4 : s.within x4 [.strm, .dmc] [12] := by
    unfold x4
    refine State.within.step State.modStr_within ?_ (by decide) (by decide)
    assumption
  clear_value x4
  clear_value x5
  clear_value x6
  refine State.within_ite ?_ ?_
  · exact State.within_refl _ _
  · refine State.within_ite ?_ ?_
    · refine State.within.step State.queueBytes_within ?_ (by decide) (by decide)
      assumption
    · refine State.within_foldl (fun t7 y7 ht7 => ?_) ?_
      · refine State.within.step State.queueBytes_within ?_ (by decide) (by decide)
        assumption
      · assumption

theorem State.evalFallback_within {s : State} : s.within (State.evalFallback s) [.dec] [7] := by
  unfold State.evalFallback
  extract_lets x1 x2 x3 x4 x5
  clear_value x1
  have hx2 : s.within x2 [.dec] [7] := by
    unfold x2
    refine State.put_within rfl (mem_block (b := 7) (by decide) (by decide)) ?_
    exact State.within_refl _ _
  clear_value x2
  clear_value x3
  clear_value x4
  clear_value x5
  refine State.within_upd (by intro c hc; cases c <;> first | rfl | exact absurd (by decide) hc) ?_
  assumption

theorem State.suspend_within {s : State} {n : ℕ} : s.within (State.suspend s n) [.dec, .qcp, .strm, .ptb, .out] [0, 7, 12, 24, 25] := by
  unfold State.suspend
  refine State.within.step State.evalFallback_within ?_ (by decide) (by decide)
  refine State.within.step State.eventStream_within ?_ (by decide) (by decide)
  refine State.within.step State.updOverdrawn_within ?_ (by decide) (by decide)
  refine State.put_within rfl (mem_block (b := 12) (by omega) (by decide)) ?_
  refine State.within.step State.modStr_within ?_ (by decide) (by decide)
  exact State.within_refl _ _

theorem State.closeFull_within {s : State} {n : ℕ} : s.within (State.closeFull s n) [.dec, .qcp, .strm, .dmc, .ptb, .out] [0, 7, 12, 24, 25] := by
  unfold State.closeFull
  extract_lets x1
  have hx1 : s.within x1 [.dec, .qcp, .strm, .dmc, .ptb, .out] [0, 7, 12, 24, 25] := by
    unfold x1
    refine State.within.step State.closeOpen_within ?_ (by decide) (by decide)
    exact State.within_refl _ _
  clear_value x1
  refine State.within_ite ?_ ?_
  · refine State.within.step State.suspend_within ?_ (by decide) (by decide)
    assumption
  · assumption

theorem State.awaitRestart_within {s : State} {n : ℕ} : s.within (State.awaitRestart s n) [.grid, .dec] [] := by
  unfold State.awaitRestart
  refine State.within_upd (by intro c hc; cases c <;> first | rfl | exact absurd (by decide) hc) ?_
  exact State.within_refl _ _

theorem State.tryResume_within {s : State} {n : ℕ} : s.within (State.tryResume s n) [.grid, .dec] [0, 7, 12] := by
  unfold State.tryResume
  split
  · exact State.within_refl _ _
  · refine State.within_ite ?_ ?_
    · refine State.within.step State.evalFallback_within ?_ (by decide) (by decide)
      refine State.within.step State.awaitRestart_within ?_ (by decide) (by decide)
      refine State.within.step State.updOverdrawn_within ?_ (by decide) (by decide)
      refine State.put_within rfl (mem_block (b := 12) (by omega) (by decide)) ?_
      exact State.within_refl _ _
    · exact State.within_refl _ _

theorem State.addOut_within {s : State} {n : ℕ} {o : BOut} : s.within (State.addOut s n o) [.strm] [] := by
  unfold State.addOut
  refine State.within.step State.modStr_within ?_ (by decide) (by decide)
  exact State.within_refl _ _

theorem State.fillGap_within {s : State} {n : ℕ} {like : BOut} {i : ℕ} {j : ℕ} : s.within (State.fillGap s n like i j) [.strm] [] := by
  unfold State.fillGap
  refine State.within_foldl (fun t1 y1 ht1 => ?_) ?_
  · refine State.within.step State.addOut_within ?_ (by decide) (by decide)
    assumption
  · exact State.within_refl _ _

theorem State.missing_within {s : State} {n : ℕ} {o : BOut} : s.within (State.missing s n o) [.dec, .qcp, .strm, .dmc, .ptb, .out] [0, 7, 12, 24, 25] := by
  unfold State.missing
  split
  · exact State.within_refl _ _
  · refine State.within_ite ?_ ?_
    · exact State.within_refl _ _
    · extract_lets x1 x2 x3 x4 x5 x6 x7 x8
      clear_value x1
      clear_value x2
      have hx3 : s.within x3 [.dec, .qcp, .strm, .dmc, .ptb, .out] [0, 7, 12, 24, 25] := by
        unfold x3
        refine State.within_ite ?_ ?_
        · exact State.within_refl _ _
        · refine State.within.step State.fillGap_within ?_ (by decide) (by decide)
          exact State.within_refl _ _
      clear_value x3
      clear_value x4
      have hx5 : s.within x5 [.dec, .qcp, .strm, .dmc, .ptb, .out] [0, 7, 12, 24, 25] := by
        unfold x5
        refine State.within_ite ?_ ?_
        · refine State.within.step State.closeFull_within ?_ (by decide) (by decide)
          assumption
        · assumption
      clear_value x5
      clear_value x6
      have hx7 : s.within x7 [.dec, .qcp, .strm, .dmc, .ptb, .out] [0, 7, 12, 24, 25] := by
        unfold x7
        refine State.within_ite ?_ ?_
        · assumption
        · refine State.within.step State.modStr_within ?_ (by decide) (by decide)
          assumption
      clear_value x7
      clear_value x8
      refine State.within_ite ?_ ?_
      · assumption
      · refine State.within.step State.fillGap_within ?_ (by decide) (by decide)
        assumption

theorem State.turnSeries_within {s : State} {n : ℕ} {o : BOut} : s.within (State.turnSeries s n o) [.strm, .dmc] [12] := by
  unfold State.turnSeries
  refine State.within_ite ?_ ?_
  · exact State.within_refl _ _
  · refine State.within.step State.modStr_within ?_ (by decide) (by decide)
    refine State.within.step State.sendGap_within ?_ (by decide) (by decide)
    refine State.within.step State.closeOpen_within ?_ (by decide) (by decide)
    exact State.within_refl _ _

theorem State.pushOut_within {s : State} {n : ℕ} {o : BOut} : s.within (State.pushOut s n o) [.dec, .qcp, .strm, .dmc, .ptb, .out] [0, 7, 12, 24, 25] := by
  unfold State.pushOut
  refine State.within_ite ?_ ?_
  · exact State.within_refl _ _
  · refine State.within_ite ?_ ?_
    · refine State.within_upd (by intro c hc; cases c <;> first | rfl | exact absurd (by decide) hc) ?_
      exact State.within_refl _ _
    · extract_lets x1 x2 x3 x4
      clear_value x1
      have hx2 : s.within x2 [.dec, .qcp, .strm, .dmc, .ptb, .out] [0, 7, 12, 24, 25] := by
        unfold x2
        refine State.within.step State.turnSeries_within ?_ (by decide) (by decide)
        exact State.within_refl _ _
      clear_value x2
      have hx3 : s.within x3 [.dec, .qcp, .strm, .dmc, .ptb, .out] [0, 7, 12, 24, 25] := by
        unfold x3
        refine State.within_ite ?_ ?_
        · refine State.within.step State.closeFull_within ?_ (by decide) (by decide)
          assumption
        · refine State.within_ite ?_ ?_
          · refine State.within.step State.closeOpen_within ?_ (by decide) (by decide)
            assumption
          · assumption
      clear_value x3
      have hx4 : s.within x4 [.dec, .qcp, .strm, .dmc, .ptb, .out] [0, 7, 12, 24, 25] := by
        unfold x4
        refine State.within_ite ?_ ?_
        · assumption
        · refine State.within.step State.missing_within ?_ (by decide) (by decide)
          assumption
      clear_value x4
      refine State.within_ite ?_ ?_
      · refine State.within.step State.addOut_within ?_ (by decide) (by decide)
        assumption
      · assumption

theorem State.startStream_within {s : State} {n : ℕ} : s.within (State.startStream s n) [.dec, .strm] [12] := by
  unfold State.startStream
  extract_lets x1 x2 x3
  clear_value x1
  clear_value x2
  have hx3 : s.within x3 [.dec, .strm] [12] := by
    unfold x3
    refine State.within_upd (by intro c hc; cases c <;> first | rfl | exact absurd (by decide) hc) ?_
    exact State.within_refl _ _
  clear_value x3
  refine State.puts_cons_within ?_
  refine State.puts_cons_within ?_
  refine State.puts_nil_within ?_
  refine State.put_within rfl (mem_block (b := 12) (by omega) (by decide)) ?_
  refine State.put_within rfl (mem_block (b := 12) (by omega) (by decide)) ?_
  refine State.within.step State.modStr_within ?_ (by decide) (by decide)
  assumption

theorem State.stopStream_within {s : State} {n : ℕ} : s.within (State.stopStream s n) [.strm, .dmc] [12] := by
  unfold State.stopStream
  extract_lets x1
  have hx1 : s.within x1 [.strm, .dmc] [12] := by
    unfold x1
    refine State.within.step State.sendGap_within ?_ (by decide) (by decide)
    refine State.within.step State.closeOpen_within ?_ (by decide) (by decide)
    exact State.within_refl _ _
  clear_value x1
  refine State.put_within rfl (mem_block (b := 12) (by omega) (by decide)) ?_
  refine State.within.step State.modStr_within ?_ (by decide) (by decide)
  assumption

theorem State.sendFrag_within {s : State} {x : Fin 2} {e : Egr} {i : ℕ} : s.within (State.sendFrag s x e i) [.ptb, .out] [24] := by
  unfold State.sendFrag
  extract_lets x1 x2
  clear_value x1
  clear_value x2
  refine State.within.step State.emit_within ?_ (by decide) (by decide)
  exact State.within_refl _ _

theorem State.setBusy_within {s : State} {x : ℕ} {t : Ts} : s.within (State.setBusy s x t) [.strm] [] := by
  unfold State.setBusy
  refine State.within_ite ?_ ?_
  · refine State.within_upd (by intro c hc; cases c <;> first | rfl | exact absurd (by decide) hc) ?_
    exact State.within_refl _ _
  · refine State.within_upd (by intro c hc; cases c <;> first | rfl | exact absurd (by decide) hc) ?_
    exact State.within_refl _ _

theorem State.sendFrags_within {s : State} {x : Fin 2} {e : Egr} {k : ℕ} {i : ℕ} : s.within (State.sendFrags s x e k i).1 [.strm, .ptb, .out] [24] := by
  induction k generalizing s i with
  | zero => exact State.within_refl _ _
  | succ k ih =>
    unfold State.sendFrags
    split
    · refine State.within.step ih ?_ (by decide) (by decide)
      refine State.within.step State.setBusy_within ?_ (by decide) (by decide)
      refine State.within.step State.sendFrag_within ?_ (by decide) (by decide)
      exact State.within_refl _ _
    · exact State.within_refl _ _

theorem State.dropEgr_within {s : State} {e : Egr} : s.within (State.dropEgr s e) [.strm] [] := by
  unfold State.dropEgr
  refine State.within_upd (by intro c hc; cases c <;> first | rfl | exact absurd (by decide) hc) ?_
  exact State.within_refl _ _

theorem State.countSent_within {s : State} {e : Egr} : s.within (State.countSent s e) [] [12] := by
  unfold State.countSent
  refine State.count_any ?_ (State.within_refl _ _)
  split
  · exact mem_fld (b := 12) rfl (by omega) (by decide)
  · split <;> exact mem_fld (b := 12) rfl (by omega) (by decide)

theorem State.sendEth_within {s : State} {x : Fin 2} : s.within (State.sendEth s x) [.net, .strm, .ptb, .out] [12, 24] := by
  unfold State.sendEth
  refine State.within_ite ?_ ?_
  · exact State.within_refl _ _
  · extract_lets x1 x2 x3
    clear_value x1
    clear_value x2
    split
    · extract_lets x4 x5 x6 x7
      clear_value x4
      have hx5 : s.within x5.1 [.net, .strm, .ptb, .out] [12, 24] := by
        unfold x5
        refine State.within.step State.sendFrags_within ?_ (by decide) (by decide)
        exact State.within_refl _ _
      have hx6 : s.within x6 [.net, .strm, .ptb, .out] [12, 24] := by
        unfold x6
        assumption
      clear_value x6
      clear_value x7
      refine State.within_ite ?_ ?_
      · refine State.within.step State.countSent_within ?_ (by decide) (by decide)
        refine State.within.step State.dropEgr_within ?_ (by decide) (by decide)
        assumption
      · refine State.within_upd (by intro c hc; cases c <;> first | rfl | exact absurd (by decide) hc) ?_
        assumption
    · split
      · refine State.within.step State.askHop_within ?_ (by decide) (by decide)
        exact State.within_refl _ _
      · exact State.within_refl _ _

theorem State.sendRing_within {s : State} {r : Fin 8} : s.within (State.sendRing s r) [.strm, .ptb, .out] [12, 24] := by
  unfold State.sendRing
  split
  · exact State.within_refl _ _
  · extract_lets x1 x2 x3 x4 x5 x6 x7 x8
    clear_value x1
    have hx2 : s.within x2 [.strm, .ptb, .out] [12, 24] := by
      unfold x2
      refine State.within.step State.dropEgr_within ?_ (by decide) (by decide)
      exact State.within_refl _ _
    clear_value x2
    clear_value x3
    clear_value x4
    clear_value x5
    have hx6 : s.within x6 [.strm, .ptb, .out] [12, 24] := by
      unfold x6
      refine State.within.step State.emit_within ?_ (by decide) (by decide)
      assumption
    clear_value x6
    have hx7 : s.within x7 [.strm, .ptb, .out] [12, 24] := by
      unfold x7
      refine State.within_ite ?_ ?_
      · refine State.within.step State.emit_within ?_ (by decide) (by decide)
        assumption
      · assumption
    clear_value x7
    clear_value x8
    refine State.within_ite ?_ ?_
    · refine State.count_within rfl (mem_block (b := 12) (by omega) (by decide)) ?_
      refine State.count_within rfl (mem_block (b := 12) (by omega) (by decide)) ?_
      assumption
    · refine State.within.step State.countSent_within ?_ (by decide) (by decide)
      refine State.within.step State.emit_within ?_ (by decide) (by decide)
      refine State.put_within rfl (mem_block (b := 12) (by omega) (by decide)) ?_
      assumption

theorem battenSendStep_within {e : Egress} {s : State} : s.within (battenSendStep e s) [.net, .strm, .ptb, .out] [12, 24] := by
  unfold battenSendStep
  split
  · refine State.within.step State.sendEth_within ?_ (by decide) (by decide)
    exact State.within_refl _ _
  · refine State.within.step State.sendRing_within ?_ (by decide) (by decide)
    exact State.within_refl _ _

theorem battenAgeExpireStep_within {x : Fin 2} {s : State} : s.within (battenAgeExpireStep x s) [.clk, .cyc, .qcp, .strm, .ptb, .out] [12, 24, 25] := by
  unfold battenAgeExpireStep
  split
  · exact State.within_refl _ _
  · refine State.within.step State.eventStream_within ?_ (by decide) (by decide)
    refine State.count_within rfl (mem_block (b := 12) (by omega) (by decide)) ?_
    refine State.within.step State.dropEgr_within ?_ (by decide) (by decide)
    refine State.within.step State.atCyc_within ?_ (by decide) (by decide)
    exact State.within_refl _ _

theorem launchWindowOpenStep_within {x : Fin 2} {s : State} : s.within (launchWindowOpenStep x s) [.clk, .cyc] [] := by
  unfold launchWindowOpenStep
  refine State.whenDo_within ?_ ?_
  · refine State.within.step State.at_within ?_ (by decide) (by decide)
    exact State.within_refl _ _
  · exact State.within_refl _ _

theorem resendTakeStep_within {n : ℕ} {s : State} : s.within (resendTakeStep n s) [.strm] [] := by
  unfold resendTakeStep
  split
  · exact State.within_refl _ _
  · extract_lets x1 x2 x3 x4
    have hx1 : s.within x1 [.strm] [] := by
      unfold x1
      refine State.within.step State.modStr_within ?_ (by decide) (by decide)
      exact State.within_refl _ _
    clear_value x1
    clear_value x2
    have hx3 : s.within x3 [.strm] [] := by
      unfold x3
      refine State.within_ite ?_ ?_
      · refine State.within.step State.modStr_within ?_ (by decide) (by decide)
        assumption
      · assumption
    clear_value x3
    clear_value x4
    refine State.within_upd (by intro c hc; cases c <;> first | rfl | exact absurd (by decide) hc) ?_
    assumption

theorem retainExpireStep_within {n : ℕ} {s : State} : s.within (retainExpireStep n s) [.clk, .cyc, .strm] [] := by
  unfold retainExpireStep
  split
  · exact State.within_refl _ _
  · refine State.within.step State.modStr_within ?_ (by decide) (by decide)
    refine State.within.step State.atCyc_within ?_ (by decide) (by decide)
    exact State.within_refl _ _

theorem resendBody_within {q : ReqHdr} {n : ℕ} {seq : BitVec 32} {cnt : ℕ} {s : State} : s.within (resendBody q n seq cnt s) [.qcp, .strm, .ptb, .out] [24, 25] := by
  unfold resendBody
  refine State.within_ite ?_ ?_
  · refine State.within.step State.reply_within ?_ (by decide) (by decide)
    exact State.within_refl _ _
  · refine State.within_ite ?_ ?_
    · refine State.within.step State.reply_within ?_ (by decide) (by decide)
      exact State.within_refl _ _
    · refine State.within_ite ?_ ?_
      · refine State.within.step State.reply_within ?_ (by decide) (by decide)
        exact State.within_refl _ _
      · refine State.within_ite ?_ ?_
        · refine State.within.step State.reply_within ?_ (by decide) (by decide)
          exact State.within_refl _ _
        · refine State.within.step State.reply_within ?_ (by decide) (by decide)
          refine State.within.step State.modStr_within ?_ (by decide) (by decide)
          exact State.within_refl _ _

theorem streamStatusBody_within {q : ReqHdr} {n : ℕ} {s : State} : s.within (streamStatusBody q n s) [.qcp, .ptb, .out] [24, 25] := by
  unfold streamStatusBody
  refine State.within_ite ?_ ?_
  · refine State.within.step State.reply_within ?_ (by decide) (by decide)
    exact State.within_refl _ _
  · refine State.within.step State.reply_within ?_ (by decide) (by decide)
    exact State.within_refl _ _

theorem execBattenSend_within {egress : Egress} {s : State} : s.withinC (execBattenSend egress s) [.net, .strm, .ptb, .out] [12, 24] := by
  unfold execBattenSend
  refine State.withinC_next ?_
  refine State.within.step battenSendStep_within ?_ (by decide) (by decide)
  exact State.within_refl _ _

theorem execBattenAgeExpire_within {eth : Fin 2} {s : State} : s.withinC (execBattenAgeExpire eth s) [.clk, .cyc, .qcp, .strm, .ptb, .out] [12, 24, 25] := by
  unfold execBattenAgeExpire
  refine State.withinC_next ?_
  refine State.within.step battenAgeExpireStep_within ?_ (by decide) (by decide)
  exact State.within_refl _ _

theorem execLaunchWindowOpen_within {eth : Fin 2} {s : State} : s.withinC (execLaunchWindowOpen eth s) [.clk, .cyc] [] := by
  unfold execLaunchWindowOpen
  refine State.withinC_next ?_
  refine State.within.step launchWindowOpenStep_within ?_ (by decide) (by decide)
  exact State.within_refl _ _

theorem execResendTake_within {stream : Fin 64} {s : State} : s.withinC (execResendTake stream s) [.strm] [] := by
  unfold execResendTake
  refine State.withinC_next ?_
  refine State.within.step resendTakeStep_within ?_ (by decide) (by decide)
  exact State.within_refl _ _

theorem execRetainExpire_within {stream : Fin 64} {s : State} : s.withinC (execRetainExpire stream s) [.clk, .cyc, .strm] [] := by
  unfold execRetainExpire
  refine State.withinC_next ?_
  refine State.within.step retainExpireStep_within ?_ (by decide) (by decide)
  exact State.within_refl _ _

theorem execStreamStatus_within {q : ReqHdr} {index : ℕ} {s : State} : s.withinC (execStreamStatus q index s) [.qcp, .ptb, .out] [24, 25] := by
  unfold execStreamStatus
  refine State.withinC_next ?_
  refine State.request_within (by decide) (by decide) (fun t1 ht1 => ?_) ?_
  · refine State.within.step streamStatusBody_within ?_ (by decide) (by decide)
    assumption
  · exact State.within_refl _ _

theorem execResend_within {q : ReqHdr} {index : ℕ} {seq : BitVec 32} {count : ℕ} {s : State} : s.withinC (execResend q index seq count s) [.qcp, .strm, .ptb, .out] [24, 25] := by
  unfold execResend
  refine State.withinC_next ?_
  refine State.request_within (by decide) (by decide) (fun t1 ht1 => ?_) ?_
  · refine State.within.step resendBody_within ?_ (by decide) (by decide)
    assumption
  · exact State.within_refl _ _

end Sys2Proof.Machine
end

