-- ==== Sys2Proof/Laws/WithinEvents.lean ====
section
/-! SUPPORT. For each operation of the capture groups, the triggers and the receiver: which components and which register blocks it may change. -/

namespace Sys2Proof.Machine

theorem State.updHistory_within {s : State} : s.within (State.updHistory s) [.trg] [9] := by
  unfold State.updHistory
  refine State.put_within rfl (mem_block (b := 9) (by decide) (by decide)) ?_
  refine State.within_upd (by intro c hc; cases c <;> first | rfl | exact absurd (by decide) hc) ?_
  exact State.within_refl _ _

theorem State.histPush_within {s : State} {n : ℕ} {o : HistOut} : s.within (State.histPush s n o) [.trg, .dmc] [] := by
  unfold State.histPush
  refine State.within_ite ?_ ?_
  · extract_lets x1 x2 x3
    clear_value x1
    clear_value x2
    clear_value x3
    refine State.within.step State.dramWrite_within ?_ (by decide) (by decide)
    refine State.within_upd (by intro c hc; cases c <;> first | rfl | exact absurd (by decide) hc) ?_
    exact State.within_refl _ _
  · exact State.within_refl _ _

theorem historyWriteMissStep_within {n : ℕ} {first : ℕ} {len : ℕ} {s : State} : s.within (historyWriteMissStep n first len s) [.trg, .dmc] [] := by
  unfold historyWriteMissStep
  extract_lets x1 x2 x3
  clear_value x2
  clear_value x3
  refine State.within_upd (by intro c hc; cases c <;> first | rfl | exact absurd (by decide) hc) ?_
  exact State.within_refl _ _

theorem State.modCap_within {s : State} {c : ℕ} {f : Cap → Cap} : s.within (State.modCap s c f) [.trg] [] := by
  unfold State.modCap
  refine State.within_upd (by intro c hc; cases c <;> first | rfl | exact absurd (by decide) hc) ?_
  exact State.within_refl _ _

theorem State.capFlags_within {s : State} {c : ℕ} : s.within (State.capFlags s c) [] [9] := by
  unfold State.capFlags
  extract_lets x1 x2
  clear_value x1
  clear_value x2
  refine State.put_within rfl (mem_block (b := 9) (by omega) (by decide)) ?_
  exact State.within_refl _ _

theorem State.capTruncate_within {s : State} {c : ℕ} : s.within (State.capTruncate s c) [.trg] [0, 9] := by
  unfold State.capTruncate
  split
  · exact State.within_refl _ _
  · extract_lets x1 x2 x3 x4 x5 x6
    clear_value x1
    clear_value x2
    clear_value x3
    clear_value x4
    clear_value x5
    clear_value x6
    refine State.within_ite ?_ ?_
    · exact State.within_refl _ _
    · refine State.within_ite ?_ ?_
      · exact State.within_refl _ _
      · refine State.within.step State.updOverdrawn_within ?_ (by decide) (by decide)
        refine State.put_within rfl (mem_block (b := 9) (by omega) (by decide)) ?_
        refine State.put_within rfl (mem_block (b := 9) (by omega) (by decide)) ?_
        refine State.within.step State.modCap_within ?_ (by decide) (by decide)
        exact State.within_refl _ _

theorem State.capClose_within {s : State} {c : ℕ} : s.within (State.capClose s c) [.trg] [0, 9] := by
  unfold State.capClose
  refine State.within.step State.capFlags_within ?_ (by decide) (by decide)
  refine State.within.step State.capTruncate_within ?_ (by decide) (by decide)
  refine State.put_within rfl (mem_block (b := 9) (by omega) (by decide)) ?_
  exact State.within_refl _ _

theorem State.capStore_within {s : State} {c : ℕ} {i : Interval} : s.within (State.capStore s c i) [.trg, .dmc] [0, 9] := by
  unfold State.capStore
  extract_lets x1 x2 x3
  have hx1 : s.within x1 [.trg, .dmc] [0, 9] := by
    unfold x1
    refine State.within.step State.capFlags_within ?_ (by decide) (by decide)
    refine State.within.step State.modCap_within ?_ (by decide) (by decide)
    exact State.within_refl _ _
  clear_value x1
  have hx2 : s.within x2 [.trg, .dmc] [0, 9] := by
    unfold x2
    refine State.within.step State.dramWrite_within ?_ (by decide) (by decide)
    assumption
  clear_value x2
  clear_value x3
  refine State.within_ite ?_ ?_
  · refine State.within.step State.capClose_within ?_ (by decide) (by decide)
    assumption
  · assumption

theorem State.capEndInterval_within {s : State} {c : ℕ} : s.within (State.capEndInterval s c) [.trg, .dmc] [0, 9] := by
  unfold State.capEndInterval
  extract_lets x1 x2
  clear_value x1
  clear_value x2
  refine State.within.step State.capStore_within ?_ (by decide) (by decide)
  exact State.within_refl _ _

theorem State.capFeed_within {s : State} {c : ℕ} {o : HistOut} : s.within (State.capFeed s c o) [.trg, .dmc] [0, 9] := by
  unfold State.capFeed
  split
  · exact State.within_refl _ _
  · extract_lets x1 x2 x3 x4 x5
    clear_value x1
    clear_value x2
    clear_value x3
    have hx4 : s.within x4 [.trg, .dmc] [0, 9] := by
      unfold x4
      refine State.within_foldl (fun t6 y6 ht6 => ?_) ?_
      · refine State.within_ite ?_ ?_
        · refine State.within.step State.capEndInterval_within ?_ (by decide) (by decide)
          assumption
        · assumption
      · exact State.within_refl _ _
    clear_value x4
    have hx5 : s.within x5 [.trg, .dmc] [0, 9] := by
      unfold x5
      refine State.within.step State.modCap_within ?_ (by decide) (by decide)
      assumption
    clear_value x5
    refine State.within_ite ?_ ?_
    · assumption
    · refine State.within_ite ?_ ?_
      · refine State.within.step State.capEndInterval_within ?_ (by decide) (by decide)
        assumption
      · assumption

theorem State.capBegin_within {s : State} {c : ℕ} {st : ℕ} {have_ : List HistOut} : s.within (State.capBegin s c st have_) [.trg, .dmc] [0, 9] := by
  unfold State.capBegin
  extract_lets x1 x2 x3 x4 x5 x6
  clear_value x1
  clear_value x2
  clear_value x3
  clear_value x5
  have hx6 : s.within x6 [.trg, .dmc] [0, 9] := by
    unfold x6
    refine State.within.step State.capFlags_within ?_ (by decide) (by decide)
    refine State.within.step State.modCap_within ?_ (by decide) (by decide)
    exact State.within_refl _ _
  clear_value x6
  refine State.within_ite ?_ ?_
  · refine State.within.step State.capClose_within ?_ (by decide) (by decide)
    assumption
  · refine State.within_foldl (fun t7 y7 ht7 => ?_) ?_
    · refine State.within_ite ?_ ?_
      · refine State.within.step State.capFeed_within ?_ (by decide) (by decide)
        assumption
      · assumption
    · assumption

theorem State.recordOut_within {s : State} {n : ℕ} {o : HistOut} : s.within (State.recordOut s n o) [.trg, .dmc] [0, 9] := by
  unfold State.recordOut
  extract_lets x1
  have hx1 : s.within x1 [.trg, .dmc] [0, 9] := by
    unfold x1
    refine State.within.step State.histPush_within ?_ (by decide) (by decide)
    exact State.within_refl _ _
  clear_value x1
  refine State.within_foldl (fun t2 y2 ht2 => ?_) ?_
  · refine State.within_ite ?_ ?_
    · split
      · refine State.within.step State.capFeed_within ?_ (by decide) (by decide)
        assumption
      · extract_lets x3
        have hx3 : s.within x3 [.trg, .dmc] [0, 9] := by
          unfold x3
          refine State.within.step State.modCap_within ?_ (by decide) (by decide)
          assumption
        clear_value x3
        refine State.within_ite ?_ ?_
        · refine State.within.step State.capBegin_within ?_ (by decide) (by decide)
          assumption
        · assumption
    · assumption
  · assumption

theorem State.capExecute_within {s : State} {c : ℕ} {tref : ℤ} {late : Bool} {x : CapTook} : s.within (State.capExecute s c tref late x) [.trg, .dmc] [0, 9] := by
  unfold State.capExecute
  refine State.within_ite ?_ ?_
  · refine State.countSat_within rfl (mem_block (b := 9) (by omega) (by decide)) ?_
    exact State.within_refl _ _
  · extract_lets x1 x2 x3 x4 x5
    have hx1 : s.within x1 [.trg, .dmc] [0, 9] := by
      unfold x1
      refine State.within_ite ?_ ?_
      · refine State.countSat_within rfl (mem_block (b := 9) (by omega) (by decide)) ?_
        exact State.within_refl _ _
      · exact State.within_refl _ _
    clear_value x1
    clear_value x2
    have hx3 : s.within x3 [.trg, .dmc] [0, 9] := by
      unfold x3
      refine State.puts_cons_within ?_
      refine State.puts_cons_within ?_
      refine State.puts_cons_within ?_
      refine State.puts_cons_within ?_
      refine State.puts_cons_within ?_
      refine State.puts_nil_within ?_
      refine State.put_within rfl (mem_block (b := 9) (by omega) (by decide)) ?_
      refine State.put_within rfl (mem_block (b := 9) (by omega) (by decide)) ?_
      refine State.put_within rfl (mem_block (b := 9) (by omega) (by decide)) ?_
      refine State.put_within rfl (mem_block (b := 9) (by omega) (by decide)) ?_
      refine State.put_within rfl (mem_block (b := 9) (by omega) (by decide)) ?_
      assumption
    clear_value x3
    have hx4 : s.within x4 [.trg, .dmc] [0, 9] := by
      unfold x4
      refine State.within.step State.capTruncate_within ?_ (by decide) (by decide)
      refine State.within.step State.modCap_within ?_ (by decide) (by decide)
      assumption
    clear_value x4
    clear_value x5
    refine State.within_ite ?_ ?_
    · refine State.within.step State.capClose_within ?_ (by decide) (by decide)
      assumption
    · split
      · refine State.within_ite ?_ ?_
        · refine State.within.step State.capBegin_within ?_ (by decide) (by decide)
          assumption
        · assumption
      · assumption

theorem captureWriteDeadlineStep_within {c : ℕ} {close : Bool} {s : State} : s.within (captureWriteDeadlineStep c close s) [.trg, .dmc] [0, 9] := by
  unfold captureWriteDeadlineStep
  refine State.whenDo_within ?_ ?_
  · extract_lets x2 x3 x4 x5
    clear_value x2
    have hx3 : s.within x3 [.trg, .dmc] [0, 9] := by
      unfold x3
      refine State.within_ite ?_ ?_
      · exact State.within_refl _ _
      · refine State.within.step State.capBegin_within ?_ (by decide) (by decide)
        exact State.within_refl _ _
    clear_value x3
    clear_value x4
    have hx5 : ∀ a0, s.within a0 [.trg, .dmc] [0, 9] → s.within (x5 a0) [.trg, .dmc] [0, 9] := by
      intro a0 ha
      unfold x5
      refine State.within.step State.capEndInterval_within ?_ (by decide) (by decide)
      refine State.within.step State.modCap_within ?_ (by decide) (by decide)
      assumption
    refine State.within_ite ?_ ?_
    · refine State.within_foldl (fun t6 y6 ht6 => ?_) ?_
      · refine State.within_ite ?_ ?_
        · refine hx5 _ ?_
          assumption
        · assumption
      · assumption
    · refine State.within_ite ?_ ?_
      · refine hx5 _ ?_
        assumption
      · assumption
  · exact State.within_refl _ _

theorem State.capArm_within {s : State} {c : ℕ} : s.within (State.capArm s c) [.trg] [9] := by
  unfold State.capArm
  extract_lets x1 x2 x3 x4 x5
  clear_value x1
  clear_value x2
  clear_value x3
  clear_value x4
  clear_value x5
  refine State.puts_cons_within ?_
  refine State.puts_cons_within ?_
  refine State.puts_cons_within ?_
  refine State.puts_nil_within ?_
  refine State.put_within rfl (mem_block (b := 9) (by omega) (by decide)) ?_
  refine State.put_within rfl (mem_block (b := 9) (by omega) (by decide)) ?_
  refine State.put_within rfl (mem_block (b := 9) (by omega) (by decide)) ?_
  refine State.within.step State.modCap_within ?_ (by decide) (by decide)
  exact State.within_refl _ _

theorem State.capArmOr_within {s : State} {c : ℕ} {err : Option ℕ} : s.within (State.capArmOr s c err) [.trg] [9] := by
  unfold State.capArmOr
  split
  · refine State.within.step State.capArm_within ?_ (by decide) (by decide)
    exact State.within_refl _ _
  · refine State.within_ite ?_ ?_
    · refine State.put_within rfl (mem_block (b := 9) (by omega) (by decide)) ?_
      exact State.within_refl _ _
    · refine State.within_ite ?_ ?_
      · refine State.put_within rfl (mem_block (b := 9) (by omega) (by decide)) ?_
        exact State.within_refl _ _
      · refine State.within_ite ?_ ?_
        · refine State.put_within rfl (mem_block (b := 9) (by omega) (by decide)) ?_
          exact State.within_refl _ _
        · exact State.within_refl _ _

theorem State.capArmBit_within {s : State} {c : ℕ} {r : Option ℕ} : s.within (State.capArmBit s c r) [.trg] [9] := by
  unfold State.capArmBit
  refine State.within.step State.capArmOr_within ?_ (by decide) (by decide)
  exact State.within_refl _ _

theorem State.capFree_within {s : State} {c : ℕ} : s.within (State.capFree s c) [.trg] [0, 9] := by
  unfold State.capFree
  refine State.within.step State.updOverdrawn_within ?_ (by decide) (by decide)
  refine State.puts_cons_within ?_
  refine State.puts_cons_within ?_
  refine State.puts_nil_within ?_
  refine State.put_within rfl (mem_block (b := 9) (by omega) (by decide)) ?_
  refine State.put_within rfl (mem_block (b := 9) (by omega) (by decide)) ?_
  refine State.within.step State.modCap_within ?_ (by decide) (by decide)
  exact State.within_refl _ _

theorem State.capAbort_within {s : State} {c : ℕ} : s.within (State.capAbort s c) [.trg] [0, 9] := by
  unfold State.capAbort
  refine State.within_ite ?_ ?_
  · refine State.within.step State.capFree_within ?_ (by decide) (by decide)
    exact State.within_refl _ _
  · exact State.within_refl _ _

theorem State.capRelease_within {s : State} {c : ℕ} : s.within (State.capRelease s c) [.trg] [0, 9] := by
  unfold State.capRelease
  refine State.within_ite ?_ ?_
  · exact State.within_refl _ _
  · extract_lets x1
    have hx1 : s.within x1 [.trg] [0, 9] := by
      unfold x1
      refine State.within.step State.capFree_within ?_ (by decide) (by decide)
      exact State.within_refl _ _
    clear_value x1
    refine State.within_ite ?_ ?_
    · refine State.within.step State.capArmBit_within ?_ (by decide) (by decide)
      assumption
    · assumption

theorem capArmBody_within {q : ReqHdr} {c : ℕ} {s : State} : s.within (capArmBody q c s) [.qcp, .trg, .ptb, .out] [9, 24, 25] := by
  unfold capArmBody
  refine State.within_ite ?_ ?_
  · refine State.within.step State.reply_within ?_ (by decide) (by decide)
    exact State.within_refl _ _
  · split
    · refine State.within.step State.reply_within ?_ (by decide) (by decide)
      exact State.within_refl _ _
    · refine State.within.step State.reply_within ?_ (by decide) (by decide)
      refine State.within.step State.capArm_within ?_ (by decide) (by decide)
      exact State.within_refl _ _

theorem capAbortBody_within {q : ReqHdr} {c : ℕ} {s : State} : s.within (capAbortBody q c s) [.qcp, .trg, .ptb, .out] [0, 9, 24, 25] := by
  unfold capAbortBody
  refine State.within_ite ?_ ?_
  · refine State.within.step State.reply_within ?_ (by decide) (by decide)
    exact State.within_refl _ _
  · refine State.within_ite ?_ ?_
    · refine State.within.step State.reply_within ?_ (by decide) (by decide)
      exact State.within_refl _ _
    · refine State.within_ite ?_ ?_
      · refine State.within.step State.reply_within ?_ (by decide) (by decide)
        exact State.within_refl _ _
      · refine State.within.step State.reply_within ?_ (by decide) (by decide)
        refine State.within.step State.capAbort_within ?_ (by decide) (by decide)
        exact State.within_refl _ _

theorem capReleaseBody_within {q : ReqHdr} {c : ℕ} {s : State} : s.within (capReleaseBody q c s) [.qcp, .trg, .ptb, .out] [0, 9, 24, 25] := by
  unfold capReleaseBody
  refine State.within_ite ?_ ?_
  · refine State.within.step State.reply_within ?_ (by decide) (by decide)
    exact State.within_refl _ _
  · refine State.within_ite ?_ ?_
    · refine State.within.step State.reply_within ?_ (by decide) (by decide)
      exact State.within_refl _ _
    · refine State.within_ite ?_ ?_
      · refine State.within.step State.reply_within ?_ (by decide) (by decide)
        exact State.within_refl _ _
      · refine State.within_ite ?_ ?_
        · refine State.within.step State.reply_within ?_ (by decide) (by decide)
          exact State.within_refl _ _
        · refine State.within.step State.reply_within ?_ (by decide) (by decide)
          refine State.within.step State.capRelease_within ?_ (by decide) (by decide)
          exact State.within_refl _ _

theorem capReadBody_within {q : ReqHdr} {c : ℕ} {offset : ℕ} {count : ℕ} {level : ℕ} {s : State} : s.within (capReadBody q c offset count level s) [.qcp, .ptb, .out] [24, 25] := by
  unfold capReadBody
  refine State.within_ite ?_ ?_
  · refine State.within.step State.reply_within ?_ (by decide) (by decide)
    exact State.within_refl _ _
  · refine State.within_ite ?_ ?_
    · refine State.within.step State.reply_within ?_ (by decide) (by decide)
      exact State.within_refl _ _
    · refine State.within_ite ?_ ?_
      · refine State.within.step State.reply_within ?_ (by decide) (by decide)
        exact State.within_refl _ _
      · refine State.within.step State.reply_within ?_ (by decide) (by decide)
        exact State.within_refl _ _

theorem capSendBody_within {q : ReqHdr} {c : ℕ} {level : ℕ} {dest : Option (Fin 2 × Bool × BitVec 128 × BitVec 16)} {haddr : BitVec 64} {s : State} : s.within (capSendBody q c level dest haddr s) [.qcp, .trg, .ptb, .out] [24, 25] := by
  unfold capSendBody
  refine State.checks_within (by decide) (by decide) (fun t1 ht1 => ?_) ?_
  · refine State.startLong_within (by decide) (by decide) (fun t2 ht2 => ?_) ?_
    · refine State.within_upd (by intro c hc; cases c <;> first | rfl | exact absurd (by decide) hc) ?_
      assumption
    · assumption
  · exact State.within_refl _ _

theorem State.capDatagrams_within {s : State} {x : CapSend} {e : Fin 2} {v6 : Bool} {a : BitVec 128} {port : BitVec 16} : s.within (State.capDatagrams s x e v6 a port) [.ptb, .out] [24] := by
  unfold State.capDatagrams
  extract_lets x1 x2 x3
  clear_value x1
  clear_value x2
  clear_value x3
  refine State.within_foldl (fun t4 y4 ht4 => ?_) ?_
  · extract_lets x5 x6
    clear_value x5
    clear_value x6
    refine State.within.step State.emit_within ?_ (by decide) (by decide)
    assumption
  · exact State.within_refl _ _

theorem capSendCompleteStep_within {session : Fin 8} {seq : BitVec 32} {s : State} : s.within (capSendCompleteStep session seq s) [.qcp, .net, .trg, .ptb, .out] [24, 25] := by
  unfold capSendCompleteStep
  split
  · exact State.within_refl _ _
  · split
    · refine State.within.step State.askHop_within ?_ (by decide) (by decide)
      exact State.within_refl _ _
    · extract_lets x1 x2
      have hx1 : s.within x1 [.qcp, .net, .trg, .ptb, .out] [24, 25] := by
        unfold x1
        split
        · refine State.within.step State.capDatagrams_within ?_ (by decide) (by decide)
          exact State.within_refl _ _
        · refine State.within.step State.emit_within ?_ (by decide) (by decide)
          exact State.within_refl _ _
      clear_value x1
      clear_value x2
      refine State.within.step State.complete_within ?_ (by decide) (by decide)
      refine State.within_upd (by intro c hc; cases c <;> first | rfl | exact absurd (by decide) hc) ?_
      assumption

theorem execHistoryWriteMiss_within {stream : Fin 64} {first : ℕ} {len : ℕ} {s : State} : s.withinC (execHistoryWriteMiss stream first len s) [.trg, .dmc] [] := by
  unfold execHistoryWriteMiss
  refine State.withinC_next ?_
  refine State.within.step historyWriteMissStep_within ?_ (by decide) (by decide)
  exact State.within_refl _ _

theorem execCapArm_within {q : ReqHdr} {index : ℕ} {s : State} : s.withinC (execCapArm q index s) [.qcp, .trg, .ptb, .out] [9, 24, 25] := by
  unfold execCapArm
  refine State.withinC_next ?_
  refine State.request_within (by decide) (by decide) (fun t1 ht1 => ?_) ?_
  · refine State.within.step capArmBody_within ?_ (by decide) (by decide)
    assumption
  · exact State.within_refl _ _

theorem execCapAbort_within {q : ReqHdr} {index : ℕ} {s : State} : s.withinC (execCapAbort q index s) [.qcp, .trg, .ptb, .out] [0, 9, 24, 25] := by
  unfold execCapAbort
  refine State.withinC_next ?_
  refine State.request_within (by decide) (by decide) (fun t1 ht1 => ?_) ?_
  · refine State.within.step capAbortBody_within ?_ (by decide) (by decide)
    assumption
  · exact State.within_refl _ _

theorem execCapRelease_within {q : ReqHdr} {index : ℕ} {s : State} : s.withinC (execCapRelease q index s) [.qcp, .trg, .ptb, .out] [0, 9, 24, 25] := by
  unfold execCapRelease
  refine State.withinC_next ?_
  refine State.request_within (by decide) (by decide) (fun t1 ht1 => ?_) ?_
  · refine State.within.step capReleaseBody_within ?_ (by decide) (by decide)
    assumption
  · exact State.within_refl _ _

theorem execCapRead_within {q : ReqHdr} {index : ℕ} {offset : ℕ} {count : ℕ} {level : ℕ} {s : State} : s.withinC (execCapRead q index offset count level s) [.qcp, .ptb, .out] [24, 25] := by
  unfold execCapRead
  refine State.withinC_next ?_
  refine State.request_within (by decide) (by decide) (fun t1 ht1 => ?_) ?_
  · refine State.within.step capReadBody_within ?_ (by decide) (by decide)
    assumption
  · exact State.within_refl _ _

theorem execCapSend_within {q : ReqHdr} {index : ℕ} {level : ℕ} {dest : Option (Fin 2 × Bool × BitVec 128 × BitVec 16)} {haddr : BitVec 64} {s : State} : s.withinC (execCapSend q index level dest haddr s) [.qcp, .trg, .ptb, .out] [24, 25] := by
  unfold execCapSend
  refine State.withinC_next ?_
  refine State.request_within (by decide) (by decide) (fun t1 ht1 => ?_) ?_
  · refine State.within.step capSendBody_within ?_ (by decide) (by decide)
    assumption
  · exact State.within_refl _ _

theorem execCaptureWriteDeadline_within {unit : Fin 16} {close : Bool} {s : State} : s.withinC (execCaptureWriteDeadline unit close s) [.trg, .dmc] [0, 9] := by
  unfold execCaptureWriteDeadline
  refine State.withinC_next ?_
  refine State.within.step captureWriteDeadlineStep_within ?_ (by decide) (by decide)
  exact State.within_refl _ _

theorem execCapSendComplete_within {session : Fin 8} {seq : BitVec 32} {s : State} : s.withinC (execCapSendComplete session seq s) [.qcp, .net, .trg, .ptb, .out] [24, 25] := by
  unfold execCapSendComplete
  refine State.withinC_next ?_
  refine State.within.step capSendCompleteStep_within ?_ (by decide) (by decide)
  exact State.within_refl _ _

theorem State.resetUnits_within {s : State} {which : ℕ → Bool} : s.within (State.resetUnits s which) [.trg] [] := by
  unfold State.resetUnits
  refine State.within_upd (by intro c hc; cases c <;> first | rfl | exact absurd (by decide) hc) ?_
  exact State.within_refl _ _

theorem State.trgOffer_within {s : State} {x : TrigIn} : s.within (State.trgOffer s x) [.trg] [] := by
  unfold State.trgOffer
  refine State.within_ite ?_ ?_
  · exact State.within_refl _ _
  · refine State.within_upd (by intro c hc; cases c <;> first | rfl | exact absurd (by decide) hc) ?_
    exact State.within_refl _ _

theorem State.resetSource_within {s : State} {kind : ℕ} {src : ℕ} : s.within (State.resetSource s kind src) [.trg] [] := by
  unfold State.resetSource
  refine State.within_ite ?_ ?_
  · refine State.within_upd (by intro c hc; cases c <;> first | rfl | exact absurd (by decide) hc) ?_
    exact State.within_refl _ _
  · refine State.within.step State.resetUnits_within ?_ (by decide) (by decide)
    exact State.within_refl _ _

theorem State.resetUnitsOf_within {s : State} {n : ℕ} : s.within (State.resetUnitsOf s n) [.trg] [] := by
  unfold State.resetUnitsOf
  refine State.within_foldl (fun t1 y1 ht1 => ?_) ?_
  · refine State.within_ite ?_ ?_
    · refine State.within.step State.resetSource_within ?_ (by decide) (by decide)
      assumption
    · assumption
  · refine State.within.step State.resetSource_within ?_ (by decide) (by decide)
    exact State.within_refl _ _

theorem State.updOcc_within {s : State} : s.within (State.updOcc s) [] [9] := by
  unfold State.updOcc
  refine State.put_within rfl (mem_block (b := 9) (by decide) (by decide)) ?_
  exact State.within_refl _ _

theorem State.coalesce_within {s : State} {inst : ℤ} : s.within (State.coalesce s inst) [.trg] [9] := by
  unfold State.coalesce
  refine State.within_ite ?_ ?_
  · exact State.within_refl _ _
  · extract_lets x1 x2
    clear_value x1
    have hx2 : s.within x2 [.trg] [9] := by
      unfold x2
      refine State.within_upd (by intro c hc; cases c <;> first | rfl | exact absurd (by decide) hc) ?_
      exact State.within_refl _ _
    clear_value x2
    refine State.within_ite ?_ ?_
    · refine State.put_within rfl (mem_block (b := 9) (by decide) (by decide)) ?_
      assumption
    · refine State.within_ite ?_ ?_
      · refine State.put_within rfl (mem_block (b := 9) (by decide) (by decide)) ?_
        assumption
      · assumption

theorem State.queueRec_within {s : State} {u : Fin 64} {gapSlot : Bool} {mk : BitVec 16 → List Word} : s.within (State.queueRec s u gapSlot mk) [.trg] [9] := by
  unfold State.queueRec
  extract_lets x1 x2
  clear_value x1
  clear_value x2
  refine State.count_within rfl (mem_block (b := 9) (by decide) (by decide)) ?_
  refine State.within_upd (by intro c hc; cases c <;> first | rfl | exact absurd (by decide) hc) ?_
  exact State.within_refl _ _

theorem State.queueGap_within {s : State} {u : Fin 64} : s.within (State.queueGap s u) [.trg] [9] := by
  unfold State.queueGap
  split
  · exact State.within_refl _ _
  · refine State.within_ite ?_ ?_
    · exact State.within_refl _ _
    · extract_lets x1 x2
      clear_value x1
      have hx2 : s.within x2 [.trg] [9] := by
        unfold x2
        refine State.within_upd (by intro c hc; cases c <;> first | rfl | exact absurd (by decide) hc) ?_
        exact State.within_refl _ _
      clear_value x2
      refine State.within.step State.queueRec_within ?_ (by decide) (by decide)
      assumption

theorem State.loseRec_within {s : State} {u : Fin 64} {l : List Firing} {epoch : BitVec 32} {inst : ℤ} : s.within (State.loseRec s u l epoch inst) [.trg] [9] := by
  unfold State.loseRec
  extract_lets x1 x2 x3 x4 x5
  clear_value x1
  clear_value x2
  clear_value x3
  clear_value x4
  clear_value x5
  refine State.put_within rfl (mem_block (b := 9) (by decide) (by decide)) ?_
  refine State.count_within rfl (mem_block (b := 9) (by decide) (by decide)) ?_
  refine State.within_upd (by intro c hc; cases c <;> first | rfl | exact absurd (by decide) hc) ?_
  exact State.within_refl _ _

theorem State.trgActions_within {s : State} {u : ℕ} {ts : Ts} : s.within (State.trgActions s u ts) [.ridge, .trg, .dmc, .ptb, .out] [0, 9, 24] := by
  unfold State.trgActions
  extract_lets x1 x2 x3
  have hx1 : s.within x1 [.ridge, .trg, .dmc, .ptb, .out] [0, 9, 24] := by
    unfold x1
    refine State.within_ite ?_ ?_
    · refine State.within.step State.msiSince_within ?_ (by decide) (by decide)
      refine State.put_within rfl (mem_block (b := 9) (by decide) (by decide)) ?_
      exact State.within_refl _ _
    · exact State.within_refl _ _
  clear_value x1
  have hx2 : s.within x2 [.ridge, .trg, .dmc, .ptb, .out] [0, 9, 24] := by
    unfold x2
    refine State.within_ite ?_ ?_
    · refine State.within.step State.capExecute_within ?_ (by decide) (by decide)
      assumption
    · assumption
  clear_value x2
  clear_value x3
  refine State.within_ite ?_ ?_
  · refine State.within.step State.trgOffer_within ?_ (by decide) (by decide)
    refine State.within.step State.sendRidgeTrigger_within ?_ (by decide) (by decide)
    assumption
  · assumption

theorem State.fireInstant_within {s : State} {u : Fin 64} {l : List Firing} {epoch : BitVec 32} {inst : ℤ} : s.within (State.fireInstant s u l epoch inst) [.ridge, .trg, .dmc, .ptb, .out] [0, 9, 24] := by
  unfold State.fireInstant
  extract_lets x1 x2 x3 x4 x5
  clear_value x1
  clear_value x2
  clear_value x3
  have hx4 : s.within x4 [.ridge, .trg, .dmc, .ptb, .out] [0, 9, 24] := by
    unfold x4
    refine State.within_ite ?_ ?_
    · refine State.within.step State.queueGap_within ?_ (by decide) (by decide)
      exact State.within_refl _ _
    · exact State.within_refl _ _
  clear_value x4
  have hx5 : s.within x5 [.ridge, .trg, .dmc, .ptb, .out] [0, 9, 24] := by
    unfold x5
    refine State.within_ite ?_ ?_
    · refine State.within_foldl (fun t6 y6 ht6 => ?_) ?_
      · refine State.within.step State.loseRec_within ?_ (by decide) (by decide)
        assumption
      · refine State.within_foldl (fun t7 y7 ht7 => ?_) ?_
        · refine State.within.step State.queueRec_within ?_ (by decide) (by decide)
          assumption
        · assumption
    · assumption
  clear_value x5
  refine State.within.step State.updOcc_within ?_ (by decide) (by decide)
  refine State.within_foldl (fun t8 y8 ht8 => ?_) ?_
  · refine State.within.step State.trgActions_within ?_ (by decide) (by decide)
    assumption
  · assumption

theorem State.evalUnit_within {s : State} {u : Fin 64} {x : TrigIn} : s.within (State.evalUnit s u x) [.ridge, .trg, .dmc, .ptb, .out] [0, 9, 24] := by
  unfold State.evalUnit
  extract_lets x1 x2
  clear_value x1
  clear_value x2
  refine State.within.step State.fireInstant_within ?_ (by decide) (by decide)
  refine State.within_upd (by intro c hc; cases c <;> first | rfl | exact absurd (by decide) hc) ?_
  exact State.within_refl _ _

theorem State.fireOnce_within {s : State} {u : Fin 64} {ts : Ts} : s.within (State.fireOnce s u ts) [.ridge, .trg, .dmc, .ptb, .out, .free] [0, 9, 24] := by
  unfold State.fireOnce
  refine State.within.step State.fireInstant_within ?_ (by decide) (by decide)
  refine State.drew_within (by decide) ?_
  exact State.within_refl _ _

theorem State.fireUnits_within {s : State} {kind : ℕ} {pick : ℕ → Bool} {ts : Ts} : s.within (State.fireUnits s kind pick ts) [.ridge, .trg, .dmc, .ptb, .out, .free] [0, 9, 24] := by
  unfold State.fireUnits
  refine State.within_ite ?_ ?_
  · exact State.within_refl _ _
  · refine State.within_foldl (fun t1 y1 ht1 => ?_) ?_
    · refine State.within_ite ?_ ?_
      · refine State.within.step State.fireOnce_within ?_ (by decide) (by decide)
        assumption
      · assumption
    · refine State.within.step State.coalesce_within ?_ (by decide) (by decide)
      exact State.within_refl _ _

theorem State.unitTakes_within {s : State} {u : Fin 64} {x : TrigIn} : s.within (State.unitTakes s u x) [.ridge, .trg, .dmc, .ptb, .out, .free] [0, 9, 24] := by
  unfold State.unitTakes
  refine State.within_ite ?_ ?_
  · exact State.within_refl _ _
  · refine State.within_ite ?_ ?_
    · refine State.within.step State.fireOnce_within ?_ (by decide) (by decide)
      exact State.within_refl _ _
    · refine State.within.step State.evalUnit_within ?_ (by decide) (by decide)
      exact State.within_refl _ _

theorem triggerEvaluateStep_within {kind : ℕ} {src : ℕ} {s : State} : s.within (triggerEvaluateStep kind src s) [.ridge, .trg, .dmc, .ptb, .out, .free] [0, 9, 24] := by
  unfold triggerEvaluateStep
  split
  · exact State.within_refl _ _
  · extract_lets x1 x2 x3 x4
    clear_value x1
    clear_value x2
    have hx3 : s.within x3 [.ridge, .trg, .dmc, .ptb, .out, .free] [0, 9, 24] := by
      unfold x3
      refine State.within.step State.coalesce_within ?_ (by decide) (by decide)
      refine State.within_upd (by intro c hc; cases c <;> first | rfl | exact absurd (by decide) hc) ?_
      exact State.within_refl _ _
    clear_value x3
    have hx4 : s.within x4 [.ridge, .trg, .dmc, .ptb, .out, .free] [0, 9, 24] := by
      unfold x4
      refine State.within_foldl (fun t5 y5 ht5 => ?_) ?_
      · refine State.within_foldl (fun t6 y6 ht6 => ?_) ?_
        · refine State.within.step State.unitTakes_within ?_ (by decide) (by decide)
          assumption
        · assumption
      · assumption
    clear_value x4
    refine State.within.step State.resetUnits_within ?_ (by decide) (by decide)
    assumption

theorem eventRecordDeliverStep_within {s : State} : s.within (eventRecordDeliverStep s) [.dec, .qcp, .strm, .trg, .dmc, .ptb, .out] [0, 7, 9, 12, 24, 25] := by
  unfold eventRecordDeliverStep
  split
  · exact State.within_refl _ _
  · split
    · exact State.within_refl _ _
    · extract_lets x1 x2 x3 x4
      clear_value x2
      clear_value x3
      have hx4 : s.within x4 [.dec, .qcp, .strm, .trg, .dmc, .ptb, .out] [0, 7, 9, 12, 24, 25] := by
        unfold x4
        refine State.within.step State.updOcc_within ?_ (by decide) (by decide)
        refine State.within_upd (by intro c hc; cases c <;> first | rfl | exact absurd (by decide) hc) ?_
        exact State.within_refl _ _
      clear_value x4
      refine State.within.step State.pushOut_within ?_ (by decide) (by decide)
      assumption

theorem eventReadBody_within {q : ReqHdr} {count : ℕ} {s : State} : s.within (eventReadBody q count s) [.qcp, .trg, .ptb, .out] [9, 24, 25] := by
  unfold eventReadBody
  refine State.within_ite ?_ ?_
  · refine State.within.step State.reply_within ?_ (by decide) (by decide)
    exact State.within_refl _ _
  · extract_lets x1 x2 x3
    clear_value x1
    clear_value x2
    have hx3 : s.within x3 [.qcp, .trg, .ptb, .out] [9, 24, 25] := by
      unfold x3
      refine State.within.step State.updOcc_within ?_ (by decide) (by decide)
      refine State.within_upd (by intro c hc; cases c <;> first | rfl | exact absurd (by decide) hc) ?_
      exact State.within_refl _ _
    clear_value x3
    refine State.within.step State.reply_within ?_ (by decide) (by decide)
    assumption

theorem triggerBody_within {q : ReqHdr} {u : ℕ} {ingress : Ts} {s : State} : s.within (triggerBody q u ingress s) [.qcp, .ridge, .trg, .dmc, .ptb, .out, .free] [0, 9, 24, 25] := by
  unfold triggerBody
  split
  · refine State.within_ite ?_ ?_
    · refine State.within.step State.reply_within ?_ (by decide) (by decide)
      exact State.within_refl _ _
    · refine State.within_ite ?_ ?_
      · refine State.within.step State.reply_within ?_ (by decide) (by decide)
        exact State.within_refl _ _
      · refine State.within_ite ?_ ?_
        · refine State.within.step State.reply_within ?_ (by decide) (by decide)
          exact State.within_refl _ _
        · refine State.within.step State.reply_within ?_ (by decide) (by decide)
          refine State.within_ite ?_ ?_
          · exact State.within_refl _ _
          · refine State.within.step State.fireOnce_within ?_ (by decide) (by decide)
            refine State.within.step State.coalesce_within ?_ (by decide) (by decide)
            exact State.within_refl _ _
  · refine State.within.step State.reply_within ?_ (by decide) (by decide)
    exact State.within_refl _ _

theorem ridgeTriggerFrameStep_within {h : RidgeHdr} {tref : Ts} {id : BitVec 8} {horizon : ℕ} {s : State} : s.within (ridgeTriggerFrameStep h tref id horizon s) [.ridge, .trg, .dmc, .ptb, .out, .free] [0, 9, 24] := by
  unfold ridgeTriggerFrameStep
  refine State.ringFrame_within (by decide) (by decide) (fun t1 ht1 => ?_) ?_
  · extract_lets x2 x3 x4 x5
    clear_value x2
    clear_value x3
    clear_value x4
    have hx5 : s.within x5 [.ridge, .trg, .dmc, .ptb, .out, .free] [0, 9, 24] := by
      unfold x5
      refine State.within_upd (by intro c hc; cases c <;> first | rfl | exact absurd (by decide) hc) ?_
      assumption
    clear_value x5
    refine State.within.step State.fireUnits_within ?_ (by decide) (by decide)
    assumption
  · exact State.within_refl _ _

theorem ridgeTriggerExecuteStep_within {s : State} : s.within (ridgeTriggerExecuteStep s) [.clk, .cyc, .ridge, .trg, .dmc] [0, 9] := by
  unfold ridgeTriggerExecuteStep
  split
  · exact State.within_refl _ _
  · extract_lets x1 x2 x3
    clear_value x1
    clear_value x2
    have hx3 : s.within x3 [.clk, .cyc, .ridge, .trg, .dmc] [0, 9] := by
      unfold x3
      refine State.within.step State.at_within ?_ (by decide) (by decide)
      refine State.within_upd (by intro c hc; cases c <;> first | rfl | exact absurd (by decide) hc) ?_
      exact State.within_refl _ _
    clear_value x3
    refine State.within_foldl (fun t4 y4 ht4 => ?_) ?_
    · refine State.within_ite ?_ ?_
      · refine State.within.step State.capExecute_within ?_ (by decide) (by decide)
        assumption
      · assumption
    · assumption

theorem execTriggerEvaluate_within {kind : Fin 8} {src : ℕ} {s : State} : s.withinC (execTriggerEvaluate kind src s) [.ridge, .trg, .dmc, .ptb, .out, .free] [0, 9, 24] := by
  unfold execTriggerEvaluate
  refine State.withinC_next ?_
  refine State.within.step triggerEvaluateStep_within ?_ (by decide) (by decide)
  exact State.within_refl _ _

theorem execEventRead_within {q : ReqHdr} {count : ℕ} {s : State} : s.withinC (execEventRead q count s) [.qcp, .trg, .ptb, .out] [9, 24, 25] := by
  unfold execEventRead
  refine State.withinC_next ?_
  refine State.request_within (by decide) (by decide) (fun t1 ht1 => ?_) ?_
  · refine State.within.step eventReadBody_within ?_ (by decide) (by decide)
    assumption
  · exact State.within_refl _ _

theorem execTrigger_within {q : ReqHdr} {index : ℕ} {ingress : Ts} {s : State} : s.withinC (execTrigger q index ingress s) [.qcp, .ridge, .trg, .dmc, .ptb, .out, .free] [0, 9, 24, 25] := by
  unfold execTrigger
  refine State.withinC_next ?_
  refine State.request_within (by decide) (by decide) (fun t1 ht1 => ?_) ?_
  · refine State.within.step triggerBody_within ?_ (by decide) (by decide)
    assumption
  · exact State.within_refl _ _

theorem execRidgeTriggerFrame_within {h : RidgeHdr} {tref : Ts} {ridgeId : BitVec 8} {horizon : ℕ} {s : State} : s.withinC (execRidgeTriggerFrame h tref ridgeId horizon s) [.ridge, .trg, .dmc, .ptb, .out, .free] [0, 9, 24] := by
  unfold execRidgeTriggerFrame
  refine State.withinC_next ?_
  refine State.within.step ridgeTriggerFrameStep_within ?_ (by decide) (by decide)
  exact State.within_refl _ _

theorem execRidgeTriggerExecute_within {s : State} : s.withinC (execRidgeTriggerExecute s) [.clk, .cyc, .ridge, .trg, .dmc] [0, 9] := by
  unfold execRidgeTriggerExecute
  refine State.withinC_next ?_
  refine State.within.step ridgeTriggerExecuteStep_within ?_ (by decide) (by decide)
  exact State.within_refl _ _

theorem execEventRecordDeliver_within {s : State} : s.withinC (execEventRecordDeliver s) [.dec, .qcp, .strm, .trg, .dmc, .ptb, .out] [0, 7, 9, 12, 24, 25] := by
  unfold execEventRecordDeliver
  refine State.withinC_next ?_
  refine State.within.step eventRecordDeliverStep_within ?_ (by decide) (by decide)
  exact State.within_refl _ _

theorem State.modAgc_within {s : State} {p : Port} {brl : Bool} {f : Agc → Agc} : s.within (State.modAgc s p brl f) [.rx] [] := by
  unfold State.modAgc
  split
  · refine State.within_upd (by intro c hc; cases c <;> first | rfl | exact absurd (by decide) hc) ?_
    exact State.within_refl _ _
  · refine State.within_upd (by intro c hc; cases c <;> first | rfl | exact absurd (by decide) hc) ?_
    exact State.within_refl _ _
  · refine State.within_upd (by intro c hc; cases c <;> first | rfl | exact absurd (by decide) hc) ?_
    exact State.within_refl _ _
  · refine State.within_upd (by intro c hc; cases c <;> first | rfl | exact absurd (by decide) hc) ?_
    exact State.within_refl _ _

theorem State.countLane_within {s : State} {lane : ℕ} {n : ℕ} : s.within (State.countLane s lane n) [] [5] := by
  unfold State.countLane
  refine State.within_ite ?_ ?_
  · exact State.within_refl _ _
  · refine State.put_any (by unfold clipFld; (repeat' split) <;> exact mem_fld (b := 5) rfl (by omega) (by decide)) ?_
    refine State.count_within rfl (mem_block (b := 5) (by omega) (by decide)) ?_
    exact State.within_refl _ _

theorem State.countClips_within {s : State} {p : Port} {brl : Bool} {lanes : List (List ℤ)} {refs : List (ℤ × ℤ)} : s.within (State.countClips s p brl lanes refs) [] [5] := by
  unfold State.countClips
  extract_lets x1 x2
  clear_value x1
  have hx2 : s.within x2 [] [5] := by
    unfold x2
    refine State.within_foldl (fun t3 y3 ht3 => ?_) ?_
    · refine State.within.step State.countLane_within ?_ (by decide) (by decide)
      assumption
    · exact State.within_refl _ _
  clear_value x2
  refine State.within_ite ?_ ?_
  · refine State.within.step State.countLane_within ?_ (by decide) (by decide)
    refine State.within.step State.countLane_within ?_ (by decide) (by decide)
    assumption
  · assumption

theorem agcIntervalEndStep_within {p : Port} {brl : Bool} {lanes : List (List ℤ)} {refs : List (ℤ × ℤ)} {s : State} : s.within (agcIntervalEndStep p brl lanes refs s) [.rx] [5] := by
  unfold agcIntervalEndStep
  extract_lets x1 x2
  have hx1 : s.within x1 [.rx] [5] := by
    unfold x1
    refine State.within.step State.countClips_within ?_ (by decide) (by decide)
    exact State.within_refl _ _
  clear_value x1
  clear_value x2
  refine State.within_ite ?_ ?_
  · refine State.within.step State.modAgc_within ?_ (by decide) (by decide)
    assumption
  · assumption

theorem State.gainMarks_within {s : State} {p : Port} {brl : Bool} {boundary : Ts} : s.within (State.gainMarks s p brl boundary) [.grid, .rx, .brl] [] := by
  unfold State.gainMarks
  extract_lets x1 x2 x3 x4 x5 x6
  clear_value x1
  clear_value x5
  clear_value x6
  refine State.within_ite ?_ ?_
  · refine State.within.step State.unsettleBrl_within ?_ (by decide) (by decide)
    refine State.within_upd (by intro c hc; cases c <;> first | rfl | exact absurd (by decide) hc) ?_
    exact State.within_refl _ _
  · refine State.within.step State.unsettleDas_within ?_ (by decide) (by decide)
    refine State.within_upd (by intro c hc; cases c <;> first | rfl | exact absurd (by decide) hc) ?_
    exact State.within_refl _ _

theorem State.gainBoundary_within {s : State} {p : Port} {brl : Bool} {boundary : Ts} : s.within (State.gainBoundary s p brl boundary) [.grid, .rx, .brl] [5] := by
  unfold State.gainBoundary
  extract_lets x1 x2 x3
  clear_value x1
  have hx2 : s.within x2 [.grid, .rx, .brl] [5] := by
    unfold x2
    refine State.within.step State.modAgc_within ?_ (by decide) (by decide)
    exact State.within_refl _ _
  clear_value x2
  have hx3 : s.within x3 [.grid, .rx, .brl] [5] := by
    unfold x3
    refine State.within.step State.modAgc_within ?_ (by decide) (by decide)
    assumption
  clear_value x3
  refine State.within_ite ?_ ?_
  · assumption
  · refine State.within.step State.gainMarks_within ?_ (by decide) (by decide)
    refine State.count_within rfl (mem_block (b := 5) (by decide) (by decide)) ?_
    refine State.put_any (by unfold actFld; (repeat' split) <;> exact mem_fld (b := 5) rfl (by omega) (by decide)) ?_
    assumption

theorem State.gainCommit_within {s : State} {p : Port} {brl : Bool} {boundary : Ts} : s.within (State.gainCommit s p brl boundary) [.grid, .rx, .brl] [5] := by
  unfold State.gainCommit
  extract_lets x1
  have hx1 : s.within x1 [.grid, .rx, .brl] [5] := by
    unfold x1
    refine State.within.step State.modAgc_within ?_ (by decide) (by decide)
    exact State.within_refl _ _
  clear_value x1
  refine State.within_ite ?_ ?_
  · assumption
  · refine State.within.step State.gainMarks_within ?_ (by decide) (by decide)
    refine State.put_any (by unfold actFld; (repeat' split) <;> exact mem_fld (b := 5) rfl (by omega) (by decide)) ?_
    assumption

theorem State.measureVis_within {s : State} {refs : List (ℤ × ℤ)} : s.within (State.measureVis s refs) [] [5] := by
  unfold State.measureVis
  refine State.within_ite ?_ ?_
  · exact State.within_refl _ _
  · refine State.put_within rfl (mem_block (b := 5) (by decide) (by decide)) ?_
    exact State.within_refl _ _

theorem refVisLowStep_within {refs : List (ℤ × ℤ)} {s : State} : s.within (refVisLowStep refs s) [.rx, .qcp, .ptb, .out] [5, 24, 25] := by
  unfold refVisLowStep
  extract_lets x1 x2 x3
  clear_value x1
  clear_value x2
  have hx3 : s.within x3 [.rx, .qcp, .ptb, .out] [5, 24, 25] := by
    unfold x3
    refine State.put_within rfl (mem_block (b := 5) (by decide) (by decide)) ?_
    refine State.within_upd (by intro c hc; cases c <;> first | rfl | exact absurd (by decide) hc) ?_
    exact State.within_refl _ _
  clear_value x3
  refine State.within_ite ?_ ?_
  · refine State.within.step State.eventAll_within ?_ (by decide) (by decide)
    refine State.put_within rfl (mem_block (b := 5) (by decide) (by decide)) ?_
    assumption
  · assumption

theorem State.lncBoundary_within {s : State} : s.within (State.lncBoundary s) [.grid] [6] := by
  unfold State.lncBoundary
  refine State.within_ite ?_ ?_
  · exact State.within_refl _ _
  · extract_lets x1 x2
    have hx1 : s.within x1 [.grid] [6] := by
      unfold x1
      refine State.putFlag_within rfl (mem_block (b := 6) (by decide) (by decide)) ?_
      exact State.within_refl _ _
    clear_value x1
    have hx2 : s.within x2 [.grid] [6] := by
      unfold x2
      refine State.within_ite ?_ ?_
      · refine State.within.step State.unsettleDas_within ?_ (by decide) (by decide)
        assumption
      · assumption
    clear_value x2
    refine State.within_ite ?_ ?_
    · refine State.within.step State.unsettleDas_within ?_ (by decide) (by decide)
      assumption
    · assumption

theorem execAgcIntervalEnd_within {port : Port} {brl : Bool} {lanes : List (List ℤ)} {refI : List ℤ} {refQ : List ℤ} {s : State} : s.withinC (execAgcIntervalEnd port brl lanes refI refQ s) [.rx] [5] := by
  unfold execAgcIntervalEnd
  refine State.withinC_next ?_
  refine State.within.step agcIntervalEndStep_within ?_ (by decide) (by decide)
  exact State.within_refl _ _

theorem execRefVisLow_within {refs : List (ℤ × ℤ)} {s : State} : s.withinC (execRefVisLow refs s) [.rx, .qcp, .ptb, .out] [5, 24, 25] := by
  unfold execRefVisLow
  refine State.withinC_next ?_
  refine State.within.step refVisLowStep_within ?_ (by decide) (by decide)
  exact State.within_refl _ _

end Sys2Proof.Machine
end

