-- ==== Sys2Proof/Laws/WithinReed.lean ====
section
/-! SUPPORT. For each operation of the reed units and slots and of the Brillouin chain: which components and which register blocks it may change. -/

namespace Sys2Proof.Machine

theorem State.modRunit_within {s : State} {u : ℕ} {f : RUnit → RUnit} : s.within (State.modRunit s u f) [.reed] [] := by
  unfold State.modRunit
  refine State.within_upd (by intro c hc; cases c <;> first | rfl | exact absurd (by decide) hc) ?_
  exact State.within_refl _ _

theorem State.wrElem_within {s : State} {off : ℕ} {elem : ℕ} {v : BitVec 16}
    (h : 0x300000 ≤ off := by first | exact memWord_ge | exact dlyWord_ge) : s.within (State.wrElem s off elem v) [] [48, 64] := by
  unfold State.wrElem
  exact State.wr_within (blockOf_reed h) (State.within_refl _ _)

theorem State.rApply_within {s : State} {u : ℕ} {a2 : RWr} : s.within (State.rApply s u a2) [.reed] [48, 64] := by
  unfold State.rApply
  split
  · refine State.within.step State.modRunit_within ?_ (by decide) (by decide)
    exact State.within_refl _ _
  · refine State.within.step State.modRunit_within ?_ (by decide) (by decide)
    exact State.within_refl _ _
  · refine State.within.step State.modRunit_within ?_ (by decide) (by decide)
    exact State.within_refl _ _
  · refine State.within.step State.modRunit_within ?_ (by decide) (by decide)
    exact State.within_refl _ _
  · refine State.within.step State.modRunit_within ?_ (by decide) (by decide)
    exact State.within_refl _ _
  · refine State.within.step State.modRunit_within ?_ (by decide) (by decide)
    exact State.within_refl _ _
  · refine State.within.step State.modRunit_within ?_ (by decide) (by decide)
    exact State.within_refl _ _
  · refine State.within.step State.modRunit_within ?_ (by decide) (by decide)
    exact State.within_refl _ _
  · refine State.within.step State.modRunit_within ?_ (by decide) (by decide)
    exact State.within_refl _ _
  · refine State.within.step State.wrElem_within ?_ (by decide) (by decide)
    exact State.within_refl _ _
  · refine State.within.step State.wrElem_within ?_ (by decide) (by decide)
    exact State.within_refl _ _

theorem State.rSettle_within {s : State} {u : ℕ} : s.within (State.rSettle s u) [.reed] [48, 64] := by
  unfold State.rSettle
  extract_lets x1
  clear_value x1
  refine State.within_foldl (fun t2 y2 ht2 => ?_) ?_
  · refine State.within.step State.rApply_within ?_ (by decide) (by decide)
    assumption
  · refine State.within.step State.modRunit_within ?_ (by decide) (by decide)
    exact State.within_refl _ _

theorem State.rIssue_within {s : State} {u : ℕ} {l : List (ℕ × RWr)} : s.within (State.rIssue s u l) [.reed] [] := by
  unfold State.rIssue
  refine State.within.step State.modRunit_within ?_ (by decide) (by decide)
  exact State.within_refl _ _

theorem State.dlyRep_within {s : State} {u : ℕ} {op : ROp} {o : ReedArgs} {i : ℕ} : s.within (State.dlyRep s u op o i) [.reed] [] := by
  unfold State.dlyRep
  extract_lets x1 x2 x3 x4 x5 x6 x7 x8 x9 x10 x11 x12
  clear_value x1
  clear_value x3
  clear_value x4
  clear_value x5
  clear_value x6
  clear_value x7
  clear_value x8
  clear_value x9
  clear_value x10
  clear_value x11
  split
  · refine State.within.step State.rIssue_within ?_ (by decide) (by decide)
    exact State.within_refl _ _
  · refine State.within.step State.rIssue_within ?_ (by decide) (by decide)
    exact State.within_refl _ _
  · refine State.within.step State.rIssue_within ?_ (by decide) (by decide)
    exact State.within_refl _ _

theorem State.dlyRun_within {s : State} {u : ℕ} {op : ROp} {o : ReedArgs} {a4 : ℕ} {a5 : ℕ} : s.within (State.dlyRun s u op o a4 a5) [.reed] [48, 64] := by
  induction a4 generalizing s a5 with
  | zero => exact State.within_refl _ _
  | succ k ih =>
    refine State.within_ite (State.within_refl _ _) (State.within.trans ?_ ih)
    refine State.within.step State.modRunit_within ?_ (by decide) (by decide)
    refine State.within.step State.dlyRep_within ?_ (by decide) (by decide)
    exact State.rSettle_within

theorem State.reedIssue_within {s : State} {u : ℕ} {op : ROp} {o : ReedArgs} : s.within (State.reedIssue s u op o) [.reed, .free] [48, 64] := by
  unfold State.reedIssue
  extract_lets x1 x2 x3 x4 x5 x6
  have hx1 : s.within x1 [.reed, .free] [48, 64] := by
    unfold x1
    refine State.within.step State.rSettle_within ?_ (by decide) (by decide)
    exact State.within_refl _ _
  clear_value x1
  clear_value x2
  clear_value x3
  clear_value x4
  clear_value x5
  have hx6 : s.within x6 [.reed, .free] [48, 64] := by
    unfold x6
    refine State.within.step State.modRunit_within ?_ (by decide) (by decide)
    refine State.within.step State.rIssue_within ?_ (by decide) (by decide)
    assumption
  clear_value x6
  split
  · refine State.within.step State.modRunit_within ?_ (by decide) (by decide)
    refine State.within.step State.dlyRun_within ?_ (by decide) (by decide)
    assumption
  · refine State.within.step State.modRunit_within ?_ (by decide) (by decide)
    refine State.within.step State.dlyRun_within ?_ (by decide) (by decide)
    assumption
  · refine State.within.step State.modRunit_within ?_ (by decide) (by decide)
    refine State.within.step State.dlyRun_within ?_ (by decide) (by decide)
    assumption
  · split
    · refine State.within.step State.modRunit_within ?_ (by decide) (by decide)
      assumption
    · refine State.within.step State.modRunit_within ?_ (by decide) (by decide)
      refine State.drew_within (by decide) ?_
      assumption
    · refine State.within.step State.modRunit_within ?_ (by decide) (by decide)
      assumption
    · refine State.within.step State.modRunit_within ?_ (by decide) (by decide)
      assumption
    · refine State.within.step State.modRunit_within ?_ (by decide) (by decide)
      assumption

theorem State.rFlush_within {s : State} {u : ℕ} : s.within (State.rFlush s u) [.reed] [48, 64] := by
  unfold State.rFlush
  refine State.within.step State.modRunit_within ?_ (by decide) (by decide)
  refine State.within.step State.rSettle_within ?_ (by decide) (by decide)
  refine State.within.step State.modRunit_within ?_ (by decide) (by decide)
  exact State.within_refl _ _

theorem State.modBrl_within {s : State} {p : Port} {f : BrlPort → BrlPort} : s.within (State.modBrl s p f) [.brl] [] := by
  unfold State.modBrl
  split
  · refine State.within_upd (by intro c hc; cases c <;> first | rfl | exact absurd (by decide) hc) ?_
    exact State.within_refl _ _
  · refine State.within_upd (by intro c hc; cases c <;> first | rfl | exact absurd (by decide) hc) ?_
    exact State.within_refl _ _

theorem State.updUsed_within {s : State} : s.within (State.updUsed s) [] [8] := by
  unfold State.updUsed
  extract_lets x1
  refine State.put_within rfl (mem_block (b := 8) (by decide) (by decide)) ?_
  exact State.within_refl _ _

theorem State.anchorSums_within {s : State} {p : Port} {keep : Bool} : s.within (State.anchorSums s p keep) [.brl] [] := by
  unfold State.anchorSums
  refine State.within_upd (by intro c hc; cases c <;> first | rfl | exact absurd (by decide) hc) ?_
  exact State.within_refl _ _

theorem State.brlBoundary_within {s : State} {p : Port} {k : ℕ} {t : Ts} : s.within (State.brlBoundary s p k t) [.brl] [] := by
  unfold State.brlBoundary
  refine State.within_ite ?_ ?_
  · refine State.within.step State.modBrl_within ?_ (by decide) (by decide)
    refine State.within.step State.anchorSums_within ?_ (by decide) (by decide)
    exact State.within_refl _ _
  · exact State.within_refl _ _

theorem State.brlAbandon_within {s : State} {p : Port} : s.within (State.brlAbandon s p) [.brl] [8] := by
  unfold State.brlAbandon
  refine State.within.step State.updUsed_within ?_ (by decide) (by decide)
  refine State.within.step State.modBrl_within ?_ (by decide) (by decide)
  exact State.within_refl _ _

theorem brlShotContributionStep_within {p : Port} {pos : Fin 16} {lanes : List (List ℤ)} {s : State} : s.within (brlShotContributionStep p pos lanes s) [.brl] [] := by
  unfold brlShotContributionStep
  split
  · exact State.within_refl _ _
  · extract_lets x1 x2
    clear_value x1
    have hx2 : s.within x2 [.brl] [] := by
      unfold x2
      refine State.within_upd (by intro c hc; cases c <;> first | rfl | exact absurd (by decide) hc) ?_
      exact State.within_refl _ _
    clear_value x2
    refine State.within.step State.modBrl_within ?_ (by decide) (by decide)
    assumption

theorem State.foldWrites_within {s : State} : s.within (State.foldWrites s) [.dmc] [] := by
  unfold State.foldWrites
  refine State.within.step State.dramWrite_within ?_ (by decide) (by decide)
  refine State.within.step State.dramWrite_within ?_ (by decide) (by decide)
  exact State.within_refl _ _

theorem brlFoldStep_within {s : State} : s.within (brlFoldStep s) [.brl, .dmc] [] := by
  unfold brlFoldStep
  split
  · exact State.within_refl _ _
  · refine State.whenDo_within ?_ ?_
    · extract_lets x2 x3 x4
      have hx3 : s.within x3 [.brl, .dmc] [] := by
        unfold x3
        refine State.within.step State.modBrl_within ?_ (by decide) (by decide)
        refine State.within.step State.modBrl_within ?_ (by decide) (by decide)
        exact State.within_refl _ _
      clear_value x3
      clear_value x4
      refine State.within.step State.foldWrites_within ?_ (by decide) (by decide)
      refine State.within_upd (by intro c hc; cases c <;> first | rfl | exact absurd (by decide) hc) ?_
      assumption
    · exact State.within_refl _ _

theorem State.closePort_within {s : State} {p : Port} {b : Ts} {g : Ts} : s.within (State.closePort s p b g) [.brl] [8] := by
  unfold State.closePort
  split
  · exact State.within_refl _ _
  · refine State.within_ite ?_ ?_
    · exact State.within_refl _ _
    · refine State.within_ite ?_ ?_
      · refine State.within.step State.modBrl_within ?_ (by decide) (by decide)
        exact State.within_refl _ _
      · extract_lets x1 x2 x3
        clear_value x1
        clear_value x2
        clear_value x3
        refine State.put_within rfl (mem_block (b := 8) (by omega) (by decide)) ?_
        refine State.within.step State.modBrl_within ?_ (by decide) (by decide)
        refine State.within.step State.anchorSums_within ?_ (by decide) (by decide)
        exact State.within_refl _ _

theorem State.edgeTimes_within {s : State} {g : Ts} {edge : Ts} : s.within (State.edgeTimes s g edge) [.brl] [] := by
  unfold State.edgeTimes
  extract_lets x1 x2 x3 x4
  have hx3 : s.within x3 [.brl] [] := by
    unfold x3
    refine State.within.step State.modBrl_within ?_ (by decide) (by decide)
    refine State.within.step State.modBrl_within ?_ (by decide) (by decide)
    exact State.within_refl _ _
  clear_value x3
  clear_value x4
  refine State.within_upd (by intro c hc; cases c <;> first | rfl | exact absurd (by decide) hc) ?_
  assumption

theorem periodCloseStep_within {s : State} : s.within (periodCloseStep s) [.brl, .dmc] [8] := by
  unfold periodCloseStep
  split
  · exact State.within_refl _ _
  · extract_lets x1 x2 x3
    have hx1 : s.within x1 [.brl, .dmc] [8] := by
      unfold x1
      refine State.within.step State.closePort_within ?_ (by decide) (by decide)
      refine State.within.step State.closePort_within ?_ (by decide) (by decide)
      exact State.within_refl _ _
    clear_value x1
    clear_value x3
    refine State.within_ite ?_ ?_
    · refine State.count_within rfl (mem_block (b := 8) (by decide) (by decide)) ?_
      refine State.within.step State.foldWrites_within ?_ (by decide) (by decide)
      refine State.within_upd (by intro c hc; cases c <;> first | rfl | exact absurd (by decide) hc) ?_
      assumption
    · assumption

theorem State.updRd_within {s : State} {p : Port} : s.within (State.updRd s p) [] [8] := by
  unfold State.updRd
  have hw : (s.recordWords p (s.get (BRL_RDIDX.IDX p.idx))).length = 4 := by
    unfold State.recordWords
    repeat' (first | rfl | split)
  generalize s.recordWords p (s.get (BRL_RDIDX.IDX p.idx)) = w at hw ⊢
  refine State.wrWords_within (fun i hi => ?_) (State.within_refl _ _)
  rw [hw] at hi
  cases p <;> exact mem_block (b := 8) (by simp [Port.idx]; omega) (by decide)

theorem State.coilResult_within {s : State} {ain : ℕ} {t : Ts} {v : ℤ} : s.within (State.coilResult s ain t v) [.brl] [] := by
  unfold State.coilResult
  refine State.within_foldl (fun t1 y1 ht1 => ?_) ?_
  · refine State.within_ite ?_ ?_
    · refine State.within.step State.modBrl_within ?_ (by decide) (by decide)
      assumption
    · assumption
  · exact State.within_refl _ _

theorem State.coilStale_within {s : State} {p : Port} {none_ : Bool} : s.within (State.coilStale s p none_) [.brl] [8] := by
  unfold State.coilStale
  extract_lets x1 x2 x3
  clear_value x1
  have hx2 : s.within x2 [.brl] [8] := by
    unfold x2
    refine State.within.step State.modBrl_within ?_ (by decide) (by decide)
    exact State.within_refl _ _
  clear_value x2
  have hx3 : s.within x3 [.brl] [8] := by
    unfold x3
    refine State.within.step State.modBrl_within ?_ (by decide) (by decide)
    exact State.within_refl _ _
  clear_value x3
  refine State.within_ite ?_ ?_
  · refine State.within_ite ?_ ?_
    · refine State.put_within rfl (mem_block (b := 8) (by omega) (by decide)) ?_
      assumption
    · assumption
  · refine State.within_ite ?_ ?_
    · refine State.put_within rfl (mem_block (b := 8) (by omega) (by decide)) ?_
      assumption
    · assumption

theorem State.updDelta_within {s : State} {p : Port} {c : BrlPeriod} {l : List BrlRec} : s.within (State.updDelta s p c l) [.brl] [8] := by
  unfold State.updDelta
  extract_lets x1 x2 x3 x4 x5 x6 x7 x8
  clear_value x1
  clear_value x2
  have hx3 : s.within x3 [.brl] [8] := by
    unfold x3
    refine State.within.step State.coilStale_within ?_ (by decide) (by decide)
    exact State.within_refl _ _
  clear_value x3
  clear_value x4
  clear_value x5
  clear_value x6
  clear_value x7
  clear_value x8
  refine State.within_ite ?_ ?_
  · exact State.within_refl _ _
  · refine State.within_ite ?_ ?_
    · assumption
    · refine State.puti_within rfl (mem_block (b := 8) (by omega) (by decide)) ?_
      refine State.put_within rfl (mem_block (b := 8) (by omega) (by decide)) ?_
      refine State.within.step State.modBrl_within ?_ (by decide) (by decide)
      assumption

theorem State.brlArm_within {s : State} {p : Port} : s.within (State.brlArm s p) [.brl] [8] := by
  unfold State.brlArm
  refine State.within_ite ?_ ?_
  · exact State.within_refl _ _
  · refine State.put_within rfl (mem_block (b := 8) (by omega) (by decide)) ?_
    refine State.within.step State.modBrl_within ?_ (by decide) (by decide)
    exact State.within_refl _ _

theorem State.brlBaseAbort_within {s : State} {p : Port} : s.within (State.brlBaseAbort s p) [.qcp, .brl, .ptb, .out] [8, 24, 25] := by
  unfold State.brlBaseAbort
  refine State.within_ite ?_ ?_
  · exact State.within_refl _ _
  · refine State.within.step State.completeAll_within ?_ (by decide) (by decide)
    refine State.put_within rfl (mem_block (b := 8) (by omega) (by decide)) ?_
    refine State.within.step State.modBrl_within ?_ (by decide) (by decide)
    exact State.within_refl _ _

theorem State.takeBaseline_within {s : State} {p : Port} {c : BrlPeriod} {l : List BrlRec} {temps : List BrlRec} : s.within (State.takeBaseline s p c l temps) [.qcp, .brl, .ptb, .out] [8, 24, 25] := by
  unfold State.takeBaseline
  split
  · exact State.within_refl _ _
  · refine State.within_ite ?_ ?_
    · exact State.within_refl _ _
    · extract_lets x1 x2 x3
      clear_value x2
      have hx3 : s.within x3 [.qcp, .brl, .ptb, .out] [8, 24, 25] := by
        unfold x3
        refine State.puts_cons_within ?_
        refine State.puts_cons_within ?_
        refine State.puts_nil_within ?_
        refine State.put_within rfl (mem_block (b := 8) (by omega) (by decide)) ?_
        refine State.put_within rfl (mem_block (b := 8) (by omega) (by decide)) ?_
        refine State.within.step State.modBrl_within ?_ (by decide) (by decide)
        exact State.within_refl _ _
      clear_value x3
      refine State.within.step State.completeAll_within ?_ (by decide) (by decide)
      assumption

theorem State.anchorUpdate_within {s : State} {p : Port} {c : BrlPeriod} {l : List BrlRec} : s.within (State.anchorUpdate s p c l) [.brl] [8] := by
  unfold State.anchorUpdate
  refine State.within_foldl (fun t1 y1 ht1 => ?_) ?_
  · extract_lets x2 x3 x4 x5 x6 x7 x8
    clear_value x2
    clear_value x3
    clear_value x4
    clear_value x5
    clear_value x6
    have hx7 : s.within x7 [.brl] [8] := by
      unfold x7
      refine State.within_upd (by intro c hc; cases c <;> first | rfl | exact absurd (by decide) hc) ?_
      assumption
    clear_value x7
    have hx8 : s.within x8 [.brl] [8] := by
      unfold x8
      refine State.putFlag_within rfl (mem_block (b := 8) (by omega) (by decide)) ?_
      assumption
    clear_value x8
    refine State.within_ite ?_ ?_
    · assumption
    · refine State.within_ite ?_ ?_
      · refine State.count_within rfl (mem_block (b := 8) (by omega) (by decide)) ?_
        refine State.put_within rfl (mem_block (b := 8) (by omega) (by decide)) ?_
        assumption
      · assumption
  · exact State.within_refl _ _

theorem State.anchorReinit_within {s : State} {p : Port} {at_ : Ts} : s.within (State.anchorReinit s p at_) [.brl] [8] := by
  unfold State.anchorReinit
  refine State.within_foldl (fun t1 y1 ht1 => ?_) ?_
  · refine State.within_ite ?_ ?_
    · extract_lets x2 x3
      clear_value x2
      clear_value x3
      refine State.put_within rfl (mem_block (b := 8) (by omega) (by decide)) ?_
      refine State.within_upd (by intro c hc; cases c <;> first | rfl | exact absurd (by decide) hc) ?_
      assumption
    · assumption
  · exact State.within_refl _ _

theorem State.anchorStart_within {s : State} {a : ℕ} : s.within (State.anchorStart s a) [.brl] [8] := by
  unfold State.anchorStart
  extract_lets x1 x2
  clear_value x2
  refine State.wr_within (mem_block (b := 8) (by dsimp only; omega) (by decide)) ?_
  refine State.within_upd (by intro c hc; cases c <;> first | rfl | exact absurd (by decide) hc) ?_
  exact State.within_refl _ _

theorem State.deliverSet_within {s : State} {p : Port} {c : BrlPeriod} {mid : ℤ} {l : List BrlRec} : s.within (State.deliverSet s p c mid l) [.dec, .qcp, .strm, .trg, .dmc, .ptb, .out] [0, 7, 9, 12, 24, 25] := by
  unfold State.deliverSet
  extract_lets x1 x2 x3 x4
  clear_value x1
  clear_value x2
  clear_value x3
  have hx4 : s.within x4 [.dec, .qcp, .strm, .trg, .dmc, .ptb, .out] [0, 7, 9, 12, 24, 25] := by
    unfold x4
    refine State.within.step State.trgOffer_within ?_ (by decide) (by decide)
    exact State.within_refl _ _
  clear_value x4
  refine State.within_foldl (fun t5 y5 ht5 => ?_) ?_
  · refine State.within_ite ?_ ?_
    · extract_lets x6 x7 x8
      clear_value x6
      clear_value x7
      have hx8 : s.within x8 [.dec, .qcp, .strm, .trg, .dmc, .ptb, .out] [0, 7, 9, 12, 24, 25] := by
        unfold x8
        refine State.within.step State.pushOut_within ?_ (by decide) (by decide)
        assumption
      clear_value x8
      refine State.within_ite ?_ ?_
      · refine State.within.step State.recordOut_within ?_ (by decide) (by decide)
        assumption
      · assumption
    · assumption
  · assumption

theorem State.publishSet_within {s : State} {p : Port} {c : BrlPeriod} {l : List BrlRec} : s.within (State.publishSet s p c l) [.dec, .qcp, .strm, .trg, .brl, .dmc, .ptb, .out] [0, 7, 8, 9, 12, 24, 25] := by
  unfold State.publishSet
  extract_lets x1 x2 x3 x4
  clear_value x1
  clear_value x2
  clear_value x3
  have hx4 : s.within x4 [.dec, .qcp, .strm, .trg, .brl, .dmc, .ptb, .out] [0, 7, 8, 9, 12, 24, 25] := by
    unfold x4
    refine State.puts_cons_within ?_
    refine State.puts_cons_within ?_
    refine State.puts_cons_within ?_
    refine State.puts_cons_within ?_
    refine State.puts_cons_within ?_
    refine State.puts_cons_within ?_
    refine State.puts_cons_within ?_
    refine State.puts_nil_within ?_
    refine State.put_within rfl (mem_block (b := 8) (by omega) (by decide)) ?_
    refine State.put_within rfl (mem_block (b := 8) (by omega) (by decide)) ?_
    refine State.put_within rfl (mem_block (b := 8) (by omega) (by decide)) ?_
    refine State.put_within rfl (mem_block (b := 8) (by omega) (by decide)) ?_
    refine State.put_within rfl (mem_block (b := 8) (by omega) (by decide)) ?_
    refine State.put_within rfl (mem_block (b := 8) (by omega) (by decide)) ?_
    refine State.put_within rfl (mem_block (b := 8) (by omega) (by decide)) ?_
    refine State.within.step State.modBrl_within ?_ (by decide) (by decide)
    exact State.within_refl _ _
  clear_value x4
  refine State.within.step State.deliverSet_within ?_ (by decide) (by decide)
  refine State.within.step State.updRd_within ?_ (by decide) (by decide)
  assumption

theorem brlResultReadyStep_within {s : State} : s.within (brlResultReadyStep s) [.dec, .qcp, .strm, .trg, .brl, .dmc, .ptb, .out, .free] [0, 7, 8, 9, 12, 24, 25] := by
  unfold brlResultReadyStep
  extract_lets x1 x2 x3 x4 x5 x6 x7
  clear_value x2
  clear_value x3
  clear_value x5
  clear_value x6
  have hx7 : ∀ a0 a1 a2 a3, s.within a0 [.dec, .qcp, .strm, .trg, .brl, .dmc, .ptb, .out, .free] [0, 7, 8, 9, 12, 24, 25] → s.within (x7 a0 a1 a2 a3) [.dec, .qcp, .strm, .trg, .brl, .dmc, .ptb, .out, .free] [0, 7, 8, 9, 12, 24, 25] := by
    intro a0 a1 a2 a3 ha
    unfold x7
    split
    · assumption
    · refine State.within.step State.anchorUpdate_within ?_ (by decide) (by decide)
      refine State.within.step State.publishSet_within ?_ (by decide) (by decide)
      refine State.within.step State.takeBaseline_within ?_ (by decide) (by decide)
      refine State.within.step State.updDelta_within ?_ (by decide) (by decide)
      assumption
  refine State.whenDo_within ?_ ?_
  · refine State.drew_within (by decide) ?_
    refine hx7 _ _ _ _ ?_
    refine hx7 _ _ _ _ ?_
    exact State.within_refl _ _
  · exact State.within_refl _ _

theorem brlReadBody_within {q : ReqHdr} {index : ℕ} {first : ℤ} {count : ℕ} {s : State} : s.within (brlReadBody q index first count s) [.qcp, .ptb, .out] [24, 25] := by
  unfold brlReadBody
  refine State.checks_within (by decide) (by decide) (fun t1 ht1 => ?_) ?_
  · refine State.within.step State.reply_within ?_ (by decide) (by decide)
    assumption
  · exact State.within_refl _ _

theorem baselineBody_within {q : ReqHdr} {index : ℕ} {s : State} : s.within (baselineBody q index s) [.qcp, .brl, .ptb, .out] [8, 24, 25] := by
  unfold baselineBody
  refine State.checks_within (by decide) (by decide) (fun t1 ht1 => ?_) ?_
  · refine State.startLong_within (by decide) (by decide) (fun t2 ht2 => ?_) ?_
    · refine State.within.step State.brlArm_within ?_ (by decide) (by decide)
      assumption
    · assumption
  · exact State.within_refl _ _

theorem execBrlShotContribution_within {port : Port} {pos : Fin 16} {lanesX : List (List ℤ)} {lanesY : List (List ℤ)} {s : State} : s.withinC (execBrlShotContribution port pos lanesX lanesY s) [.brl] [] := by
  unfold execBrlShotContribution
  refine State.withinC_next ?_
  refine State.within.step brlShotContributionStep_within ?_ (by decide) (by decide)
  exact State.within_refl _ _

theorem execBrlFold_within {s : State} : s.withinC (execBrlFold s) [.brl, .dmc] [] := by
  unfold execBrlFold
  refine State.withinC_next ?_
  refine State.within.step brlFoldStep_within ?_ (by decide) (by decide)
  exact State.within_refl _ _

theorem execPeriodClose_within {s : State} : s.withinC (execPeriodClose s) [.brl, .dmc] [8] := by
  unfold execPeriodClose
  refine State.withinC_next ?_
  refine State.within.step periodCloseStep_within ?_ (by decide) (by decide)
  exact State.within_refl _ _

theorem execBrlResultReady_within {s : State} : s.withinC (execBrlResultReady s) [.dec, .qcp, .strm, .trg, .brl, .dmc, .ptb, .out, .free] [0, 7, 8, 9, 12, 24, 25] := by
  unfold execBrlResultReady
  refine State.withinC_next ?_
  refine State.within.step brlResultReadyStep_within ?_ (by decide) (by decide)
  exact State.within_refl _ _

theorem execBrlRead_within {q : ReqHdr} {index : ℕ} {first : ℤ} {count : ℕ} {s : State} : s.withinC (execBrlRead q index first count s) [.qcp, .ptb, .out] [24, 25] := by
  unfold execBrlRead
  refine State.withinC_next ?_
  refine State.request_within (by decide) (by decide) (fun t1 ht1 => ?_) ?_
  · refine State.within.step brlReadBody_within ?_ (by decide) (by decide)
    assumption
  · exact State.within_refl _ _

theorem execBaseline_within {q : ReqHdr} {index : ℕ} {s : State} : s.withinC (execBaseline q index s) [.qcp, .brl, .ptb, .out] [8, 24, 25] := by
  unfold execBaseline
  refine State.withinC_next ?_
  refine State.request_within (by decide) (by decide) (fun t1 ht1 => ?_) ?_
  · refine State.within.step baselineBody_within ?_ (by decide) (by decide)
    assumption
  · exact State.within_refl _ _

theorem State.setAbs_within {s : State} {p : Port} {b : Bool} : s.within (State.setAbs s p b) [.grid] [] := by
  unfold State.setAbs
  split
  · refine State.within_upd (by intro c hc; cases c <;> first | rfl | exact absurd (by decide) hc) ?_
    exact State.within_refl _ _
  · refine State.within_upd (by intro c hc; cases c <;> first | rfl | exact absurd (by decide) hc) ?_
    exact State.within_refl _ _

theorem State.accountTo_within {s : State} {n : ℕ} {idx : ℕ} : s.within (State.accountTo s n idx) [.dec, .qcp, .strm, .dmc, .ptb, .out] [0, 7, 12, 24, 25] := by
  unfold State.accountTo
  refine State.within_ite ?_ ?_
  · exact State.within_refl _ _
  · extract_lets x1
    have hx1 : s.within x1 [.dec, .qcp, .strm, .dmc, .ptb, .out] [0, 7, 12, 24, 25] := by
      unfold x1
      refine State.within.step State.turnSeries_within ?_ (by decide) (by decide)
      exact State.within_refl _ _
    clear_value x1
    refine State.within.step State.missing_within ?_ (by decide) (by decide)
    assumption

theorem State.account_within {s : State} {n : ℕ} : s.within (State.account s n) [.dec, .qcp, .strm, .dmc, .ptb, .out] [0, 7, 12, 24, 25] := by
  unfold State.account
  refine State.within.step State.accountTo_within ?_ (by decide) (by decide)
  exact State.within_refl _ _

theorem State.settleTo_within {s : State} {n : ℕ} {idx : ℕ} : s.within (State.settleTo s n idx) [.dec, .qcp, .strm, .dmc, .ptb, .out] [0, 7, 12, 24, 25] := by
  unfold State.settleTo
  extract_lets x1
  have hx1 : s.within x1 [.dec, .qcp, .strm, .dmc, .ptb, .out] [0, 7, 12, 24, 25] := by
    unfold x1
    refine State.within.step State.accountTo_within ?_ (by decide) (by decide)
    exact State.within_refl _ _
  clear_value x1
  refine State.within.step State.sendGap_within ?_ (by decide) (by decide)
  refine State.within.step State.closeOpen_within ?_ (by decide) (by decide)
  assumption

theorem State.settle_within {s : State} {n : ℕ} : s.within (State.settle s n) [.dec, .qcp, .strm, .dmc, .ptb, .out] [0, 7, 12, 24, 25] := by
  unfold State.settle
  refine State.within.step State.settleTo_within ?_ (by decide) (by decide)
  exact State.within_refl _ _

theorem State.fillOpen_within {s : State} {n : ℕ} : s.within (State.fillOpen s n) [.strm] [] := by
  unfold State.fillOpen
  split
  · extract_lets x1 x2
    clear_value x1
    clear_value x2
    refine State.within_ite ?_ ?_
    · exact State.within_refl _ _
    · refine State.within_ite ?_ ?_
      · exact State.within_refl _ _
      · refine State.within.step State.fillGap_within ?_ (by decide) (by decide)
        exact State.within_refl _ _
  · exact State.within_refl _ _

theorem State.endStream_within {s : State} {n : ℕ} : s.within (State.endStream s n) [.dec, .qcp, .strm, .dmc, .ptb, .out] [0, 7, 12, 24, 25] := by
  unfold State.endStream
  refine State.within.step State.stopStream_within ?_ (by decide) (by decide)
  refine State.within.step State.settle_within ?_ (by decide) (by decide)
  exact State.within_refl _ _

theorem State.rebase_within {s0 : State} {K : List Comp} {B : List ℕ} {s : State} {n : ℕ} {x : ℕ} {f : State → State}
    (hk : [.dec, .qcp, .strm, .dmc, .ptb, .out] ⊆ K) (hb : [0, 7, 12, 24, 25] ⊆ B)
    (hf : ∀ t, s0.within t K B → s0.within (f t) K B) (h : s0.within s K B) : s0.within (State.rebase s n x f) K B := by
  unfold State.rebase
  extract_lets t
  have ht : s0.within t K B := hf _ (State.within_ite (State.settleTo_within.step h hk hb) h)
  clear_value t
  exact State.within_ite ht (State.modStr_within.step ht (fun c hc => hk (by revert hc c; decide)) (by simp))

theorem State.acrossBasis_within {s0 : State} {K : List Comp} {B : List ℕ} {s : State} {x : ℕ} {f : State → State}
    (hk : [.dec, .qcp, .strm, .dmc, .ptb, .out] ⊆ K) (hb : [0, 7, 12, 24, 25] ⊆ B)
    (hf : ∀ t, s0.within t K B → s0.within (f t) K B) (h : s0.within s K B) : s0.within (State.acrossBasis s x f) K B := by
  unfold State.acrossBasis
  extract_lets moved
  clear_value moved
  refine State.within_foldl (fun t n ht => State.within_ite ht (State.modStr_within.step ht (fun c hc => hk (by revert hc c; decide)) (by simp))) (hf _ ?_)
  exact State.within_foldl (fun t n ht => State.within_ite (State.settleTo_within.step ht hk hb) ht) h

theorem State.resumeAt_within {s : State} {n : ℕ} : s.within (State.resumeAt s n) [.grid, .dec] [0, 7, 12] := by
  unfold State.resumeAt
  extract_lets x1
  clear_value x1
  refine State.within_foldl (fun t2 y2 ht2 => ?_) ?_
  · refine State.within.step State.tryResume_within ?_ (by decide) (by decide)
    assumption
  · exact State.within_refl _ _

theorem battenCloseStep_within {n : ℕ} {s : State} : s.within (battenCloseStep n s) [.grid, .dec, .qcp, .strm, .dmc, .ptb, .out] [0, 7, 12, 24, 25] := by
  unfold battenCloseStep
  split
  · extract_lets x1
    have hx1 : s.within x1 [.grid, .dec, .qcp, .strm, .dmc, .ptb, .out] [0, 7, 12, 24, 25] := by
      unfold x1
      refine State.within.step State.fillOpen_within ?_ (by decide) (by decide)
      exact State.within_refl _ _
    clear_value x1
    refine State.within_ite ?_ ?_
    · refine State.within.step State.closeFull_within ?_ (by decide) (by decide)
      assumption
    · refine State.within_ite ?_ ?_
      · refine State.within.step State.suspend_within ?_ (by decide) (by decide)
        assumption
      · assumption
  · refine State.within.step State.resumeAt_within ?_ (by decide) (by decide)
    exact State.within_refl _ _
  · exact State.within_refl _ _

theorem flushBody_within {q : ReqHdr} {n : ℕ} {s : State} : s.within (flushBody q n s) [.dec, .qcp, .strm, .dmc, .ptb, .out] [0, 7, 12, 24, 25] := by
  unfold flushBody
  refine State.within_ite ?_ ?_
  · refine State.within.step State.reply_within ?_ (by decide) (by decide)
    exact State.within_refl _ _
  · refine State.within_ite ?_ ?_
    · refine State.within.step State.reply_within ?_ (by decide) (by decide)
      exact State.within_refl _ _
    · refine State.within_ite ?_ ?_
      · refine State.within.step State.reply_within ?_ (by decide) (by decide)
        exact State.within_refl _ _
      · extract_lets x1
        have hx1 : s.within x1 [.dec, .qcp, .strm, .dmc, .ptb, .out] [0, 7, 12, 24, 25] := by
          unfold x1
          refine State.within_ite ?_ ?_
          · exact State.within_refl _ _
          · refine State.within.step State.fillOpen_within ?_ (by decide) (by decide)
            exact State.within_refl _ _
        clear_value x1
        refine State.within.step State.reply_within ?_ (by decide) (by decide)
        refine State.within_ite ?_ ?_
        · refine State.within.step State.closeFull_within ?_ (by decide) (by decide)
          assumption
        · refine State.within.step State.closeOpen_within ?_ (by decide) (by decide)
          assumption

theorem execBattenClose_within {stream : Fin 64} {s : State} : s.withinC (execBattenClose stream s) [.grid, .dec, .qcp, .strm, .dmc, .ptb, .out] [0, 7, 12, 24, 25] := by
  unfold execBattenClose
  refine State.withinC_next ?_
  refine State.within.step battenCloseStep_within ?_ (by decide) (by decide)
  exact State.within_refl _ _

theorem execFlush_within {q : ReqHdr} {index : ℕ} {s : State} : s.withinC (execFlush q index s) [.dec, .qcp, .strm, .dmc, .ptb, .out] [0, 7, 12, 24, 25] := by
  unfold execFlush
  refine State.withinC_next ?_
  refine State.request_within (by decide) (by decide) (fun t1 ht1 => ?_) ?_
  · refine State.within.step flushBody_within ?_ (by decide) (by decide)
    assumption
  · exact State.within_refl _ _

theorem State.setSlot_within {s : State} {o : ℕ} {st : ℕ} : s.within (State.setSlot s o st) [] [10] := by
  unfold State.setSlot
  refine State.put_within rfl (mem_block (b := 10) (by decide) (by decide)) ?_
  refine State.put_within rfl (mem_block (b := 10) (by decide) (by decide)) ?_
  refine State.put_within rfl (mem_block (b := 10) (by omega) (by decide)) ?_
  exact State.within_refl _ _

theorem State.clearRange_within {s : State} {lo : ℕ} {hi : ℕ} (h : 0x300000 ≤ lo := by first | exact progBase_ge | omega) :
    s.within (State.clearRange s lo hi) [] [48, 64] := by
  refine ⟨fun c _ => by cases c <;> rfl, fun a ha => State.rd_clearRange fun g => ha (blockOf_reed (le_trans h g.1)), rfl,
    fun hs => Space.sublist_wf List.filter_sublist hs, List.prefix_refl _, le_refl _, le_refl _⟩

theorem State.clearUnits_within {s : State} {u : ℕ} {whole : Bool} : s.within (State.clearUnits s u whole) [] [48, 64] := by
  unfold State.clearUnits
  extract_lets x1
  have hx1 : s.within x1 [] [48, 64] := by
    unfold x1
    refine State.within_foldl (fun t2 y2 ht2 => ?_) ?_
    · refine State.within.step State.clearRange_within ?_ (by decide) (by decide)
      refine State.within.step State.clearRange_within ?_ (by decide) (by decide)
      assumption
    · exact State.within_refl _ _
  clear_value x1
  refine State.within_ite ?_ ?_
  · refine State.within.step State.clearRange_within ?_ (by decide) (by decide)
    assumption
  · assumption

theorem State.wrElems_within {s : State} {base : Nat → Nat} {e : Nat} {l : List (BitVec 16)}
    (h : ∀ i, 0x300000 ≤ base i := by intro i; first | exact memWord_ge | exact dlyWord_ge) : s.within (State.wrElems s base e l) [] [48, 64] := by
  unfold State.wrElems
  refine State.within_foldl (fun t p ht => ?_) (State.within_refl _ _)
  exact State.within.step (State.wrElem_within (h _)) ht (by decide) (by decide)

theorem State.zeroBytes_within {s : State} {u : ℕ} {l : ℕ} {y : Bool} {lo : ℕ} {hi : ℕ} : s.within (State.zeroBytes s u l y lo hi) [] [48, 64] := by
  unfold State.zeroBytes
  refine State.within.step State.wrElems_within ?_ (by decide) (by decide)
  exact State.within_refl _ _

theorem State.zeroFrames_within {s : State} {o : ℕ} : s.within (State.zeroFrames s o) [] [48, 64] := by
  unfold State.zeroFrames
  extract_lets x1 x2
  clear_value x1
  clear_value x2
  refine State.within_foldl (fun t3 y3 ht3 => ?_) ?_
  · refine State.within.step State.zeroBytes_within ?_ (by decide) (by decide)
    refine State.within.step State.zeroBytes_within ?_ (by decide) (by decide)
    assumption
  · exact State.within_refl _ _

theorem State.frameClear_within {s : State} {o : ℕ} : s.within (State.frameClear s o) [.reed] [10, 48, 64] := by
  unfold State.frameClear
  refine State.within.step State.modRslot_within ?_ (by decide) (by decide)
  refine State.count_within rfl (mem_block (b := 10) (by omega) (by decide)) ?_
  refine State.within.step State.zeroFrames_within ?_ (by decide) (by decide)
  exact State.within_refl _ _

theorem State.reedFeed_within {s : State} {n : ℕ} {tap : ℕ} {it : ℕ} {vals : List (ℤ × Option ℤ × Qual)} {ts : ℤ} {chDt : ℕ} {i : Inflight} : s.within (State.reedFeed s n tap it vals ts chDt i) [.reed, .free] [] := by
  unfold State.reedFeed
  refine State.within_foldl (fun t1 y1 ht1 => ?_) ?_
  · extract_lets x2 x3 x4 x5 x6 x7
    clear_value x2
    clear_value x3
    clear_value x5
    clear_value x6
    have hx7 : s.within x7 [.reed, .free] [] := by
      unfold x7
      refine State.within.step State.modRslot_within ?_ (by decide) (by decide)
      assumption
    clear_value x7
    refine State.within_ite ?_ ?_
    · assumption
    · refine State.within_ite ?_ ?_
      · refine State.drew_within (by decide) ?_
        assumption
      · assumption
  · exact State.within_refl _ _

theorem State.reedRestart_within {s : State} {n : ℕ} {s1 : ℕ} : s.within (State.reedRestart s n s1) [.reed] [] := by
  unfold State.reedRestart
  refine State.within_foldl (fun t1 y1 ht1 => ?_) ?_
  · refine State.within_ite ?_ ?_
    · refine State.within.step State.modRslot_within ?_ (by decide) (by decide)
      assumption
    · assumption
  · exact State.within_refl _ _

theorem State.passEntry_within {s : State} {o : ℕ} {l : List FeedSample} : s.within (State.passEntry s o l) [.reed] [48, 64] := by
  unfold State.passEntry
  extract_lets x1 x2 x3 x4 x5 x6
  clear_value x1
  clear_value x2
  clear_value x3
  clear_value x4
  clear_value x5
  have hx6 : s.within x6 [.reed] [48, 64] := by
    unfold x6
    refine State.within_foldl (fun t7 y7 ht7 => ?_) ?_
    · refine State.within.step State.wrElems_within ?_ (by decide) (by decide)
      assumption
    · exact State.within_refl _ _
  clear_value x6
  refine State.within.step State.modRunit_within ?_ (by decide) (by decide)
  assumption

theorem State.runProg_within {s : State} {u : ℕ} {cmax : ℕ} {whole : Bool} {a4 : ℕ} : s.within (State.runProg s u cmax whole a4).1 [.reed, .free] [48, 64] := by
  induction a4 generalizing s with
  | zero => exact State.within_refl _ _
  | succ k ih =>
    unfold State.runProg
    extract_lets x
    split
    · exact State.within_refl _ _
    · split
      · exact State.within_refl _ _
      · split
        · exact State.within_refl _ _
        · split
          · exact State.within_refl _ _
          · split
            · exact State.within_refl _ _
            · exact State.within.trans State.reedIssue_within ih

theorem State.countUse_within {s : State} {o : ℕ} {cycles : ℕ} : s.within (State.countUse s o cycles) [.reed] [10] := by
  unfold State.countUse
  extract_lets x1
  clear_value x1
  refine State.within_foldl (fun t2 y2 ht2 => ?_) ?_
  · extract_lets x3
    have hx3 : s.within x3 [.reed] [10] := by
      unfold x3
      refine State.within.step State.modRunit_within ?_ (by decide) (by decide)
      assumption
    clear_value x3
    refine State.put_within rfl (mem_block (b := 10) (by omega) (by decide)) ?_
    assumption
  · exact State.within_refl _ _

theorem State.reedDeliver_within {s : State} {o : ℕ} {l : List FeedSample} {outs : List PassOut} : s.within (State.reedDeliver s o l outs) [.dec, .qcp, .strm, .trg, .reed, .dmc, .ptb, .out] [0, 7, 9, 12, 24, 25] := by
  unfold State.reedDeliver
  extract_lets x1 x2 x3 x4 x5 x6 x7
  clear_value x1
  clear_value x2
  clear_value x3
  clear_value x4
  clear_value x5
  clear_value x6
  have hx7 : s.within x7 [.dec, .qcp, .strm, .trg, .reed, .dmc, .ptb, .out] [0, 7, 9, 12, 24, 25] := by
    unfold x7
    refine State.within_foldl (fun t8 y8 ht8 => ?_) ?_
    · split
      · assumption
      · extract_lets x9 x10 x11
        clear_value x9
        clear_value x10
        have hx11 : s.within x11 [.dec, .qcp, .strm, .trg, .reed, .dmc, .ptb, .out] [0, 7, 9, 12, 24, 25] := by
          unfold x11
          refine State.within.step State.trgOffer_within ?_ (by decide) (by decide)
          assumption
        clear_value x11
        refine State.within_ite ?_ ?_
        · assumption
        · refine State.within_foldl (fun t12 y12 ht12 => ?_) ?_
          · refine State.within_ite ?_ ?_
            · extract_lets x13 x14 x15 x16 x17
              clear_value x13
              clear_value x14
              clear_value x15
              clear_value x16
              have hx17 : s.within x17 [.dec, .qcp, .strm, .trg, .reed, .dmc, .ptb, .out] [0, 7, 9, 12, 24, 25] := by
                unfold x17
                refine State.within.step State.pushOut_within ?_ (by decide) (by decide)
                assumption
              clear_value x17
              refine State.within_ite ?_ ?_
              · refine State.within.step State.recordOut_within ?_ (by decide) (by decide)
                assumption
              · assumption
            · assumption
          · assumption
    · exact State.within_refl _ _
  clear_value x7
  refine State.within.step State.modRslot_within ?_ (by decide) (by decide)
  assumption

theorem State.reedCut_within {s : State} {o : ℕ} : s.within (State.reedCut s o) [.dec, .qcp, .strm, .trg, .reed, .dmc, .ptb, .out] [0, 7, 9, 12, 24, 25] := by
  unfold State.reedCut
  extract_lets x1
  clear_value x1
  refine State.within_ite ?_ ?_
  · exact State.within_refl _ _
  · refine State.within.step State.reedDeliver_within ?_ (by decide) (by decide)
    exact State.within_refl _ _

theorem State.slotFault_within {s : State} {o : ℕ} {cause : ℕ} : s.within (State.slotFault s o cause) [.dec, .qcp, .strm, .trg, .reed, .dmc, .ptb, .out] [0, 7, 9, 10, 12, 24, 25] := by
  unfold State.slotFault
  extract_lets x1
  have hx1 : s.within x1 [.dec, .qcp, .strm, .trg, .reed, .dmc, .ptb, .out] [0, 7, 9, 10, 12, 24, 25] := by
    unfold x1
    refine State.within.step State.modRslot_within ?_ (by decide) (by decide)
    refine State.within.step State.reedCut_within ?_ (by decide) (by decide)
    exact State.within_refl _ _
  clear_value x1
  refine State.within.step State.event_within ?_ (by decide) (by decide)
  refine State.put_within rfl (mem_block (b := 10) (by omega) (by decide)) ?_
  refine State.within.step State.setSlot_within ?_ (by decide) (by decide)
  assumption

theorem State.passEnd_within {s : State} {o : ℕ} {l : List FeedSample} : s.within (State.passEnd s o l) [.dec, .qcp, .strm, .trg, .reed, .dmc, .ptb, .out] [0, 7, 9, 10, 12, 24, 25, 48, 64] := by
  unfold State.passEnd
  extract_lets x1 x2 x3 x4 x5
  clear_value x1
  have hx2 : s.within x2 [.dec, .qcp, .strm, .trg, .reed, .dmc, .ptb, .out] [0, 7, 9, 10, 12, 24, 25, 48, 64] := by
    unfold x2
    refine State.within.step State.rFlush_within ?_ (by decide) (by decide)
    exact State.within_refl _ _
  clear_value x2
  clear_value x3
  have hx4 : s.within x4 [.dec, .qcp, .strm, .trg, .reed, .dmc, .ptb, .out] [0, 7, 9, 10, 12, 24, 25, 48, 64] := by
    unfold x4
    refine State.within.step State.modRslot_within ?_ (by decide) (by decide)
    refine State.within.step State.countUse_within ?_ (by decide) (by decide)
    refine State.count_within rfl (mem_block (b := 10) (by omega) (by decide)) ?_
    assumption
  clear_value x4
  have hx5 : s.within x5 [.dec, .qcp, .strm, .trg, .reed, .dmc, .ptb, .out] [0, 7, 9, 10, 12, 24, 25, 48, 64] := by
    unfold x5
    refine State.within.step State.modRunit_within ?_ (by decide) (by decide)
    assumption
  clear_value x5
  refine State.within_ite ?_ ?_
  · assumption
  · refine State.within.step State.reedDeliver_within ?_ (by decide) (by decide)
    assumption

theorem reedPassStep_within {o : ℕ} {s : State} : s.within (reedPassStep o s) [.dec, .qcp, .strm, .trg, .reed, .dmc, .ptb, .out, .free] [0, 7, 9, 10, 12, 24, 25, 48, 64] := by
  unfold reedPassStep
  split
  · exact State.within_refl _ _
  · extract_lets x1 x2 x3 x4 x5
    clear_value x1
    clear_value x2
    have hx3 : s.within x3 [.dec, .qcp, .strm, .trg, .reed, .dmc, .ptb, .out, .free] [0, 7, 9, 10, 12, 24, 25, 48, 64] := by
      unfold x3
      refine State.within_ite ?_ ?_
      · refine State.within.step State.modRslot_within ?_ (by decide) (by decide)
        refine State.within.step State.frameClear_within ?_ (by decide) (by decide)
        exact State.within_refl _ _
      · exact State.within_refl _ _
    clear_value x3
    clear_value x4
    have hx5 : s.within x5.1 [.dec, .qcp, .strm, .trg, .reed, .dmc, .ptb, .out, .free] [0, 7, 9, 10, 12, 24, 25, 48, 64] := by
      unfold x5
      refine State.within.step State.runProg_within ?_ (by decide) (by decide)
      refine State.within.step State.passEntry_within ?_ (by decide) (by decide)
      assumption
    refine State.within_ite ?_ ?_
    · refine State.within.step State.passEnd_within ?_ (by decide) (by decide)
      assumption
    · refine State.within.step State.slotFault_within ?_ (by decide) (by decide)
      refine State.within.step State.countUse_within ?_ (by decide) (by decide)
      refine State.within.step State.rFlush_within ?_ (by decide) (by decide)
      assumption

theorem reedCycleLimitStep_within {o : ℕ} {s : State} : s.within (reedCycleLimitStep o s) [.dec, .qcp, .strm, .trg, .reed, .dmc, .ptb, .out] [0, 7, 9, 10, 12, 24, 25] := by
  unfold reedCycleLimitStep
  refine State.whenDo_within ?_ ?_
  · refine State.within.step State.slotFault_within ?_ (by decide) (by decide)
    exact State.within_refl _ _
  · exact State.within_refl _ _

theorem reedInstr_within {op : ROp} {u0 : ℕ} {a : ReedArgs} {s : State} : s.within (reedInstr op u0 a s) [.dec, .qcp, .strm, .trg, .reed, .dmc, .ptb, .out, .free] [0, 7, 9, 10, 12, 24, 25, 48, 64] := by
  unfold reedInstr
  extract_lets x1 x2
  clear_value x1
  have hx2 : s.within x2 [.dec, .qcp, .strm, .trg, .reed, .dmc, .ptb, .out, .free] [0, 7, 9, 10, 12, 24, 25, 48, 64] := by
    unfold x2
    refine State.within.step State.reedIssue_within ?_ (by decide) (by decide)
    exact State.within_refl _ _
  clear_value x2
  split
  · refine State.within_ite ?_ ?_
    · exact State.within_refl _ _
    · split
      · refine State.within.step State.rFlush_within ?_ (by decide) (by decide)
        refine State.within.step State.reedIssue_within ?_ (by decide) (by decide)
        exact State.within_refl _ _
      · refine State.within.step State.reedIssue_within ?_ (by decide) (by decide)
        exact State.within_refl _ _
  · refine State.within_ite ?_ ?_
    · refine State.within.step State.slotFault_within ?_ (by decide) (by decide)
      exact State.within_refl _ _
    · refine State.within_ite ?_ ?_
      · refine State.within.step State.slotFault_within ?_ (by decide) (by decide)
        exact State.within_refl _ _
      · split
        · refine State.within_ite ?_ ?_
          · refine State.within.step State.slotFault_within ?_ (by decide) (by decide)
            refine State.within.step State.rFlush_within ?_ (by decide) (by decide)
            assumption
          · refine State.within.step State.passEnd_within ?_ (by decide) (by decide)
            assumption
        · refine State.within.step State.rFlush_within ?_ (by decide) (by decide)
          assumption
        · assumption

theorem undefinedEncodingStep_within {u0 : ℕ} {w : BitVec 64} {s : State} : s.within (undefinedEncodingStep u0 w s) [.dec, .qcp, .strm, .trg, .reed, .dmc, .ptb, .out] [0, 7, 9, 10, 12, 24, 25] := by
  unfold undefinedEncodingStep
  extract_lets x1 x2
  clear_value x1
  clear_value x2
  split
  · refine State.within_ite ?_ ?_
    · refine State.within.step State.slotFault_within ?_ (by decide) (by decide)
      exact State.within_refl _ _
    · exact State.within_refl _ _
  · exact State.within_refl _ _

theorem State.reedStart_within {s : State} {o : ℕ} : s.within (State.reedStart s o) [.reed] [] := by
  unfold State.reedStart
  refine State.within_ite ?_ ?_
  · refine State.within.step State.modRslot_within ?_ (by decide) (by decide)
    exact State.within_refl _ _
  · exact State.within_refl _ _

theorem slotStartEffectStep_within {o : ℕ} {s : State} : s.within (slotStartEffectStep o s) [.clk, .cyc, .dec, .qcp, .strm, .reed, .dmc, .ptb, .out] [0, 7, 10, 12, 24, 25, 48, 64] := by
  unfold slotStartEffectStep
  split
  · exact State.within_refl _ _
  · extract_lets x1
    have hx1 : s.within x1 [.clk, .cyc, .dec, .qcp, .strm, .reed, .dmc, .ptb, .out] [0, 7, 10, 12, 24, 25, 48, 64] := by
      unfold x1
      refine State.within.step State.at_within ?_ (by decide) (by decide)
      exact State.within_refl _ _
    clear_value x1
    refine State.acrossBasis_within (by decide) (by decide) (fun t2 ht2 => ?_) ?_
    · extract_lets x3 x4
      clear_value x3
      have hx4 : s.within x4 [.clk, .cyc, .dec, .qcp, .strm, .reed, .dmc, .ptb, .out] [0, 7, 10, 12, 24, 25, 48, 64] := by
        unfold x4
        refine State.within.step State.frameClear_within ?_ (by decide) (by decide)
        refine State.within.step State.modRslot_within ?_ (by decide) (by decide)
        refine State.within.step State.setSlot_within ?_ (by decide) (by decide)
        assumption
      clear_value x4
      refine State.put_within rfl (mem_block (b := 10) (by omega) (by decide)) ?_
      assumption
    · assumption

theorem State.reedStop_within {s : State} {o : ℕ} : s.within (State.reedStop s o) [.dec, .qcp, .strm, .trg, .reed, .dmc, .ptb, .out] [0, 7, 9, 10, 12, 24, 25] := by
  unfold State.reedStop
  extract_lets x1
  have hx1 : s.within x1 [.dec, .qcp, .strm, .trg, .reed, .dmc, .ptb, .out] [0, 7, 9, 10, 12, 24, 25] := by
    unfold x1
    refine State.within.step State.modRslot_within ?_ (by decide) (by decide)
    exact State.within_refl _ _
  clear_value x1
  refine State.within_ite ?_ ?_
  · refine State.within.step State.setSlot_within ?_ (by decide) (by decide)
    refine State.within.step State.modRslot_within ?_ (by decide) (by decide)
    refine State.within.step State.reedCut_within ?_ (by decide) (by decide)
    assumption
  · assumption

theorem State.startBit_within {s : State} {o : ℕ} {r : Option ℕ} : s.withinO (State.startBit s o r) [.reed] [] := by
  unfold State.startBit
  refine State.withinO_ite ?_ ?_
  · exact State.withinO_none
  · refine State.withinO_ite ?_ ?_
    · refine State.withinO_some ?_
      exact State.within_refl _ _
    · refine State.withinO_ite ?_ ?_
      · exact State.withinO_none
      · refine State.withinO_some ?_
        refine State.within.step State.reedStart_within ?_ (by decide) (by decide)
        exact State.within_refl _ _

theorem State.stopBit_within {s : State} {o : ℕ} {r : Option ℕ} : s.withinO (State.stopBit s o r) [.dec, .qcp, .strm, .trg, .reed, .dmc, .ptb, .out] [0, 7, 9, 10, 12, 24, 25] := by
  unfold State.stopBit
  refine State.withinO_ite ?_ ?_
  · exact State.withinO_none
  · refine State.withinO_some ?_
    refine State.within.step State.reedStop_within ?_ (by decide) (by decide)
    exact State.within_refl _ _

theorem reedPutBody_within {q : ReqHdr} {index : ℕ} {offset : ℕ} {data : List Byte} {s : State} : s.within (reedPutBody q index offset data s) [.qcp, .ptb, .out] [24, 25] := by
  unfold reedPutBody
  refine State.within_ite ?_ ?_
  · refine State.within.step State.reply_within ?_ (by decide) (by decide)
    exact State.within_refl _ _
  · refine State.within.step State.reply_within ?_ (by decide) (by decide)
    refine State.within.step State.modSess_within ?_ (by decide) (by decide)
    exact State.within_refl _ _

theorem reedLoadBody_within {q : ReqHdr} {index : ℕ} {place : BitVec 32} {count : ℕ} {s : State} : s.within (reedLoadBody q index place count s) [.qcp, .reed, .ptb, .out] [24, 25] := by
  unfold reedLoadBody
  extract_lets x1 x2 x3 x4 x5 x6 x7 x8
  clear_value x1
  clear_value x3
  clear_value x4
  clear_value x5
  clear_value x6
  refine State.within_ite ?_ ?_
  · refine State.within.step State.reply_within ?_ (by decide) (by decide)
    exact State.within_refl _ _
  · refine State.within_ite ?_ ?_
    · refine State.within.step State.reply_within ?_ (by decide) (by decide)
      exact State.within_refl _ _
    · refine State.within_ite ?_ ?_
      · refine State.within.step State.reply_within ?_ (by decide) (by decide)
        exact State.within_refl _ _
      · refine State.within_ite ?_ ?_
        · refine State.within.step State.reply_within ?_ (by decide) (by decide)
          exact State.within_refl _ _
        · refine State.within_ite ?_ ?_
          · refine State.within.step State.reply_within ?_ (by decide) (by decide)
            exact State.within_refl _ _
          · refine State.within_ite ?_ ?_
            · refine State.within.step State.reply_within ?_ (by decide) (by decide)
              exact State.within_refl _ _
            · refine State.within_ite ?_ ?_
              · refine State.within.step State.reply_within ?_ (by decide) (by decide)
                exact State.within_refl _ _
              · refine State.within_ite ?_ ?_
                · refine State.within.step State.reply_within ?_ (by decide) (by decide)
                  exact State.within_refl _ _
                · refine State.startLong_within (by decide) (by decide) (fun t9 ht9 => ?_) ?_
                  · refine State.within.step State.modRslot_within ?_ (by decide) (by decide)
                    assumption
                  · exact State.within_refl _ _

theorem State.writeImage_within {s : State} {u : ℕ} {whole : Bool} {i : Config.ReedImage} : s.within (State.writeImage s u whole i) [] [48, 64] := by
  unfold State.writeImage
  extract_lets x1 x2 x3 x4 x5
  have hx1 : s.within x1 [] [48, 64] := by
    unfold x1
    refine State.within.step State.clearUnits_within ?_ (by decide) (by decide)
    exact State.within_refl _ _
  clear_value x1
  have hx2 : s.within x2 [] [48, 64] := by
    unfold x2
    refine State.within_foldl (fun t6 y6 ht6 => ?_) ?_
    · refine State.wr_within (blockOf_reed (Nat.le_add_right_of_le (Nat.le_add_right_of_le progBase_ge))) ?_
      refine State.wr_within (blockOf_reed (Nat.le_add_right_of_le progBase_ge)) ?_
      assumption
    · assumption
  clear_value x2
  clear_value x3
  have hx4 : s.within x4 [] [48, 64] := by
    unfold x4
    refine State.within_foldl (fun t7 y7 ht7 => ?_) ?_
    · refine State.within.step State.wrElems_within ?_ (by decide) (by decide)
      assumption
    · assumption
  clear_value x4
  have hx5 : s.within x5 [] [48, 64] := by
    unfold x5
    refine State.within_foldl (fun t8 y8 ht8 => ?_) ?_
    · refine State.within.step State.wrElems_within ?_ (by decide) (by decide)
      assumption
    · assumption
  clear_value x5
  refine State.within_ite ?_ ?_
  · refine State.within_foldl (fun t9 y9 ht9 => ?_) ?_
    · refine State.within.step State.wrElems_within ?_ (by decide) (by decide)
      assumption
    · assumption
  · assumption

theorem reedLoadCommitStep_within {o : ℕ} {s : State} : s.within (reedLoadCommitStep o s) [.qcp, .reed, .ptb, .out, .free] [0, 10, 24, 25, 48, 64] := by
  unfold reedLoadCommitStep
  split
  · exact State.within_refl _ _
  · extract_lets x1
    have hx1 : s.within x1 [.qcp, .reed, .ptb, .out, .free] [0, 10, 24, 25, 48, 64] := by
      unfold x1
      refine State.within.step State.modRslot_within ?_ (by decide) (by decide)
      exact State.within_refl _ _
    clear_value x1
    split
    · refine State.within.step State.complete_within ?_ (by decide) (by decide)
      refine State.drew_within (by decide) ?_
      assumption
    · extract_lets x2 x3 x4
      have hx2 : s.within x2 [.qcp, .reed, .ptb, .out, .free] [0, 10, 24, 25, 48, 64] := by
        unfold x2
        refine State.within.step State.modRslot_within ?_ (by decide) (by decide)
        refine State.within.step State.writeImage_within ?_ (by decide) (by decide)
        assumption
      clear_value x2
      have hx3 : s.within x3 [.qcp, .reed, .ptb, .out, .free] [0, 10, 24, 25, 48, 64] := by
        unfold x3
        refine State.within_foldl (fun t5 y5 ht5 => ?_) ?_
        · refine State.within.step State.modRunit_within ?_ (by decide) (by decide)
          refine State.puts_cons_within ?_
          refine State.puts_cons_within ?_
          refine State.puts_cons_within ?_
          refine State.puts_nil_within ?_
          refine State.put_within rfl (mem_block (b := 10) (by omega) (by decide)) ?_
          refine State.put_within rfl (mem_block (b := 10) (by omega) (by decide)) ?_
          refine State.put_within rfl (mem_block (b := 10) (by omega) (by decide)) ?_
          assumption
        · assumption
      clear_value x3
      have hx4 : s.within x4 [.qcp, .reed, .ptb, .out, .free] [0, 10, 24, 25, 48, 64] := by
        unfold x4
        refine State.puts_cons_within ?_
        refine State.puts_cons_within ?_
        refine State.puts_cons_within ?_
        refine State.puts_cons_within ?_
        refine State.puts_cons_within ?_
        refine State.puts_cons_within ?_
        refine State.puts_cons_within ?_
        refine State.puts_cons_within ?_
        refine State.puts_cons_within ?_
        refine State.puts_cons_within ?_
        refine State.puts_cons_within ?_
        refine State.puts_nil_within ?_
        refine State.put_within rfl (mem_block (b := 10) (by omega) (by decide)) ?_
        refine State.put_within rfl (mem_block (b := 10) (by omega) (by decide)) ?_
        refine State.put_within rfl (mem_block (b := 10) (by omega) (by decide)) ?_
        refine State.put_within rfl (mem_block (b := 10) (by omega) (by decide)) ?_
        refine State.put_within rfl (mem_block (b := 10) (by omega) (by decide)) ?_
        refine State.put_within rfl (mem_block (b := 10) (by omega) (by decide)) ?_
        refine State.put_within rfl (mem_block (b := 10) (by omega) (by decide)) ?_
        refine State.put_within rfl (mem_block (b := 10) (by omega) (by decide)) ?_
        refine State.put_within rfl (mem_block (b := 10) (by omega) (by decide)) ?_
        refine State.put_within rfl (mem_block (b := 10) (by omega) (by decide)) ?_
        refine State.put_within rfl (mem_block (b := 10) (by omega) (by decide)) ?_
        assumption
      clear_value x4
      refine State.within.step State.complete_within ?_ (by decide) (by decide)
      refine State.within.step State.commitPoint_within ?_ (by decide) (by decide)
      refine State.within.step State.updOverdrawn_within ?_ (by decide) (by decide)
      refine State.within.step State.setSlot_within ?_ (by decide) (by decide)
      assumption

theorem State.reedLoadAbort_within {s : State} {o : ℕ} : s.within (State.reedLoadAbort s o) [.reed] [48, 64] := by
  unfold State.reedLoadAbort
  split
  · exact State.within_refl _ _
  · refine State.within.step State.modRslot_within ?_ (by decide) (by decide)
    refine State.within.step State.clearUnits_within ?_ (by decide) (by decide)
    exact State.within_refl _ _

theorem reedStartBody_within {q : ReqHdr} {index : ℕ} {s : State} : s.within (reedStartBody q index s) [.qcp, .reed, .ptb, .out] [24, 25] := by
  unfold reedStartBody
  split
  · refine State.within.step State.reply_within ?_ (by decide) (by decide)
    exact State.within_refl _ _
  · refine State.within_ite ?_ ?_
    · refine State.within.step State.reply_within ?_ (by decide) (by decide)
      exact State.within_refl _ _
    · refine State.within_ite ?_ ?_
      · refine State.within.step State.reply_within ?_ (by decide) (by decide)
        exact State.within_refl _ _
      · refine State.within_ite ?_ ?_
        · refine State.within.step State.reply_within ?_ (by decide) (by decide)
          exact State.within_refl _ _
        · refine State.within.step State.reply_within ?_ (by decide) (by decide)
          refine State.within.step State.reedStart_within ?_ (by decide) (by decide)
          exact State.within_refl _ _

theorem reedStopBody_within {q : ReqHdr} {index : ℕ} {s : State} : s.within (reedStopBody q index s) [.dec, .qcp, .strm, .trg, .reed, .dmc, .ptb, .out] [0, 7, 9, 10, 12, 24, 25] := by
  unfold reedStopBody
  split
  · refine State.within.step State.reply_within ?_ (by decide) (by decide)
    exact State.within_refl _ _
  · refine State.within.step State.reply_within ?_ (by decide) (by decide)
    refine State.within.step State.reedStop_within ?_ (by decide) (by decide)
    exact State.within_refl _ _

theorem State.slotEmpty_within {s : State} {o : ℕ} : s.within (State.slotEmpty s o) [.dec, .qcp, .strm, .reed, .dmc, .ptb, .out] [0, 7, 10, 12, 24, 25, 48, 64] := by
  unfold State.slotEmpty
  refine State.acrossBasis_within (by decide) (by decide) (fun t1 ht1 => ?_) ?_
  · extract_lets x2 x3 x4 x5
    clear_value x2
    clear_value x3
    have hx4 : s.within x4 [.dec, .qcp, .strm, .reed, .dmc, .ptb, .out] [0, 7, 10, 12, 24, 25, 48, 64] := by
      unfold x4
      refine State.within.step State.modRslot_within ?_ (by decide) (by decide)
      refine State.within.step State.clearUnits_within ?_ (by decide) (by decide)
      assumption
    clear_value x4
    have hx5 : s.within x5 [.dec, .qcp, .strm, .reed, .dmc, .ptb, .out] [0, 7, 10, 12, 24, 25, 48, 64] := by
      unfold x5
      refine State.within_foldl (fun t6 y6 ht6 => ?_) ?_
      · refine State.within.step State.modRunit_within ?_ (by decide) (by decide)
        refine State.puts_cons_within ?_
        refine State.puts_cons_within ?_
        refine State.puts_cons_within ?_
        refine State.puts_nil_within ?_
        refine State.put_within rfl (mem_block (b := 10) (by omega) (by decide)) ?_
        refine State.put_within rfl (mem_block (b := 10) (by omega) (by decide)) ?_
        refine State.put_within rfl (mem_block (b := 10) (by omega) (by decide)) ?_
        assumption
      · assumption
    clear_value x5
    refine State.within.step State.updOverdrawn_within ?_ (by decide) (by decide)
    refine State.within.step State.setSlot_within ?_ (by decide) (by decide)
    refine State.puts_cons_within ?_
    refine State.puts_cons_within ?_
    refine State.puts_cons_within ?_
    refine State.puts_cons_within ?_
    refine State.puts_cons_within ?_
    refine State.puts_cons_within ?_
    refine State.puts_cons_within ?_
    refine State.puts_cons_within ?_
    refine State.puts_cons_within ?_
    refine State.puts_cons_within ?_
    refine State.puts_cons_within ?_
    refine State.puts_nil_within ?_
    refine State.put_within rfl (mem_block (b := 10) (by omega) (by decide)) ?_
    refine State.put_within rfl (mem_block (b := 10) (by omega) (by decide)) ?_
    refine State.put_within rfl (mem_block (b := 10) (by omega) (by decide)) ?_
    refine State.put_within rfl (mem_block (b := 10) (by omega) (by decide)) ?_
    refine State.put_within rfl (mem_block (b := 10) (by omega) (by decide)) ?_
    refine State.put_within rfl (mem_block (b := 10) (by omega) (by decide)) ?_
    refine State.put_within rfl (mem_block (b := 10) (by omega) (by decide)) ?_
    refine State.put_within rfl (mem_block (b := 10) (by omega) (by decide)) ?_
    refine State.put_within rfl (mem_block (b := 10) (by omega) (by decide)) ?_
    refine State.put_within rfl (mem_block (b := 10) (by omega) (by decide)) ?_
    refine State.put_within rfl (mem_block (b := 10) (by omega) (by decide)) ?_
    assumption
  · exact State.within_refl _ _

theorem reedUnloadBody_within {q : ReqHdr} {index : ℕ} {s : State} : s.within (reedUnloadBody q index s) [.dec, .qcp, .strm, .trg, .reed, .dmc, .ptb, .out] [0, 7, 9, 10, 12, 24, 25, 48, 64] := by
  unfold reedUnloadBody
  split
  · refine State.within.step State.reply_within ?_ (by decide) (by decide)
    exact State.within_refl _ _
  · refine State.startLong_within (by decide) (by decide) (fun t1 ht1 => ?_) ?_
    · refine State.within.step State.complete_within ?_ (by decide) (by decide)
      refine State.within.step State.commitPoint_within ?_ (by decide) (by decide)
      refine State.within.step State.slotEmpty_within ?_ (by decide) (by decide)
      refine State.within.step State.reedStop_within ?_ (by decide) (by decide)
      assumption
    · exact State.within_refl _ _

theorem execReedPass_within {slot : Fin 16} {s : State} : s.withinC (execReedPass slot s) [.dec, .qcp, .strm, .trg, .reed, .dmc, .ptb, .out, .free] [0, 7, 9, 10, 12, 24, 25, 48, 64] := by
  unfold execReedPass
  refine State.withinC_next ?_
  refine State.within.step reedPassStep_within ?_ (by decide) (by decide)
  exact State.within_refl _ _

theorem execReedCycleLimit_within {slot : Fin 16} {s : State} : s.withinC (execReedCycleLimit slot s) [.dec, .qcp, .strm, .trg, .reed, .dmc, .ptb, .out] [0, 7, 9, 10, 12, 24, 25] := by
  unfold execReedCycleLimit
  refine State.withinC_next ?_
  refine State.within.step reedCycleLimitStep_within ?_ (by decide) (by decide)
  exact State.within_refl _ _

theorem execSlotStartEffect_within {slot : Fin 16} {s : State} : s.withinC (execSlotStartEffect slot s) [.clk, .cyc, .dec, .qcp, .strm, .reed, .dmc, .ptb, .out] [0, 7, 10, 12, 24, 25, 48, 64] := by
  unfold execSlotStartEffect
  refine State.withinC_next ?_
  refine State.within.step slotStartEffectStep_within ?_ (by decide) (by decide)
  exact State.within_refl _ _

theorem execUndefinedEncoding_within {unit : Fin 16} {word : BitVec 64} {s : State} : s.withinC (execUndefinedEncoding unit word s) [.dec, .qcp, .strm, .trg, .reed, .dmc, .ptb, .out] [0, 7, 9, 10, 12, 24, 25] := by
  unfold execUndefinedEncoding
  refine State.withinC_next ?_
  refine State.within.step undefinedEncodingStep_within ?_ (by decide) (by decide)
  exact State.within_refl _ _

theorem execNop_within {unit : Fin 16} {o : ReedArgs} {s : State} : s.withinC (execNop unit o s) [.dec, .qcp, .strm, .trg, .reed, .dmc, .ptb, .out, .free] [0, 7, 9, 10, 12, 24, 25, 48, 64] := by
  unfold execNop
  refine State.withinC_next ?_
  refine State.within.step reedInstr_within ?_ (by decide) (by decide)
  exact State.within_refl _ _

theorem execEndPass_within {unit : Fin 16} {o : ReedArgs} {s : State} : s.withinC (execEndPass unit o s) [.dec, .qcp, .strm, .trg, .reed, .dmc, .ptb, .out, .free] [0, 7, 9, 10, 12, 24, 25, 48, 64] := by
  unfold execEndPass
  refine State.withinC_next ?_
  refine State.within.step reedInstr_within ?_ (by decide) (by decide)
  exact State.within_refl _ _

theorem execLoop_within {unit : Fin 16} {o : ReedArgs} {s : State} : s.withinC (execLoop unit o s) [.dec, .qcp, .strm, .trg, .reed, .dmc, .ptb, .out, .free] [0, 7, 9, 10, 12, 24, 25, 48, 64] := by
  unfold execLoop
  refine State.withinC_next ?_
  refine State.within.step reedInstr_within ?_ (by decide) (by decide)
  exact State.within_refl _ _

theorem execLoopr_within {unit : Fin 16} {o : ReedArgs} {s : State} : s.withinC (execLoopr unit o s) [.dec, .qcp, .strm, .trg, .reed, .dmc, .ptb, .out, .free] [0, 7, 9, 10, 12, 24, 25, 48, 64] := by
  unfold execLoopr
  refine State.withinC_next ?_
  refine State.within.step reedInstr_within ?_ (by decide) (by decide)
  exact State.within_refl _ _

theorem execLdp_within {unit : Fin 16} {o : ReedArgs} {s : State} : s.withinC (execLdp unit o s) [.dec, .qcp, .strm, .trg, .reed, .dmc, .ptb, .out, .free] [0, 7, 9, 10, 12, 24, 25, 48, 64] := by
  unfold execLdp
  refine State.withinC_next ?_
  refine State.within.step reedInstr_within ?_ (by decide) (by decide)
  exact State.within_refl _ _

theorem execAddp_within {unit : Fin 16} {o : ReedArgs} {s : State} : s.withinC (execAddp unit o s) [.dec, .qcp, .strm, .trg, .reed, .dmc, .ptb, .out, .free] [0, 7, 9, 10, 12, 24, 25, 48, 64] := by
  unfold execAddp
  refine State.withinC_next ?_
  refine State.within.step reedInstr_within ?_ (by decide) (by decide)
  exact State.within_refl _ _

theorem execSetam_within {unit : Fin 16} {o : ReedArgs} {s : State} : s.withinC (execSetam unit o s) [.dec, .qcp, .strm, .trg, .reed, .dmc, .ptb, .out, .free] [0, 7, 9, 10, 12, 24, 25, 48, 64] := by
  unfold execSetam
  refine State.withinC_next ?_
  refine State.within.step reedInstr_within ?_ (by decide) (by decide)
  exact State.within_refl _ _

theorem execSetq_within {unit : Fin 16} {o : ReedArgs} {s : State} : s.withinC (execSetq unit o s) [.dec, .qcp, .strm, .trg, .reed, .dmc, .ptb, .out, .free] [0, 7, 9, 10, 12, 24, 25, 48, 64] := by
  unfold execSetq
  refine State.withinC_next ?_
  refine State.within.step reedInstr_within ?_ (by decide) (by decide)
  exact State.within_refl _ _

theorem execRotw_within {unit : Fin 16} {o : ReedArgs} {s : State} : s.withinC (execRotw unit o s) [.dec, .qcp, .strm, .trg, .reed, .dmc, .ptb, .out, .free] [0, 7, 9, 10, 12, 24, 25, 48, 64] := by
  unfold execRotw
  refine State.withinC_next ?_
  refine State.within.step reedInstr_within ?_ (by decide) (by decide)
  exact State.within_refl _ _

theorem execMpy_within {unit : Fin 16} {o : ReedArgs} {s : State} : s.withinC (execMpy unit o s) [.dec, .qcp, .strm, .trg, .reed, .dmc, .ptb, .out, .free] [0, 7, 9, 10, 12, 24, 25, 48, 64] := by
  unfold execMpy
  refine State.withinC_next ?_
  refine State.within.step reedInstr_within ?_ (by decide) (by decide)
  exact State.within_refl _ _

theorem execMac_within {unit : Fin 16} {o : ReedArgs} {s : State} : s.withinC (execMac unit o s) [.dec, .qcp, .strm, .trg, .reed, .dmc, .ptb, .out, .free] [0, 7, 9, 10, 12, 24, 25, 48, 64] := by
  unfold execMac
  refine State.withinC_next ?_
  refine State.within.step reedInstr_within ?_ (by decide) (by decide)
  exact State.within_refl _ _

theorem execMsu_within {unit : Fin 16} {o : ReedArgs} {s : State} : s.withinC (execMsu unit o s) [.dec, .qcp, .strm, .trg, .reed, .dmc, .ptb, .out, .free] [0, 7, 9, 10, 12, 24, 25, 48, 64] := by
  unfold execMsu
  refine State.withinC_next ?_
  refine State.within.step reedInstr_within ?_ (by decide) (by decide)
  exact State.within_refl _ _

theorem execSqa_within {unit : Fin 16} {o : ReedArgs} {s : State} : s.withinC (execSqa unit o s) [.dec, .qcp, .strm, .trg, .reed, .dmc, .ptb, .out, .free] [0, 7, 9, 10, 12, 24, 25, 48, 64] := by
  unfold execSqa
  refine State.withinC_next ?_
  refine State.within.step reedInstr_within ?_ (by decide) (by decide)
  exact State.within_refl _ _

theorem execAdda_within {unit : Fin 16} {o : ReedArgs} {s : State} : s.withinC (execAdda unit o s) [.dec, .qcp, .strm, .trg, .reed, .dmc, .ptb, .out, .free] [0, 7, 9, 10, 12, 24, 25, 48, 64] := by
  unfold execAdda
  refine State.withinC_next ?_
  refine State.within.step reedInstr_within ?_ (by decide) (by decide)
  exact State.within_refl _ _

theorem execSuba_within {unit : Fin 16} {o : ReedArgs} {s : State} : s.withinC (execSuba unit o s) [.dec, .qcp, .strm, .trg, .reed, .dmc, .ptb, .out, .free] [0, 7, 9, 10, 12, 24, 25, 48, 64] := by
  unfold execSuba
  refine State.withinC_next ?_
  refine State.within.step reedInstr_within ?_ (by decide) (by decide)
  exact State.within_refl _ _

theorem execAddi_within {unit : Fin 16} {o : ReedArgs} {s : State} : s.withinC (execAddi unit o s) [.dec, .qcp, .strm, .trg, .reed, .dmc, .ptb, .out, .free] [0, 7, 9, 10, 12, 24, 25, 48, 64] := by
  unfold execAddi
  refine State.withinC_next ?_
  refine State.within.step reedInstr_within ?_ (by decide) (by decide)
  exact State.within_refl _ _

theorem execAdds_within {unit : Fin 16} {o : ReedArgs} {s : State} : s.withinC (execAdds unit o s) [.dec, .qcp, .strm, .trg, .reed, .dmc, .ptb, .out, .free] [0, 7, 9, 10, 12, 24, 25, 48, 64] := by
  unfold execAdds
  refine State.withinC_next ?_
  refine State.within.step reedInstr_within ?_ (by decide) (by decide)
  exact State.within_refl _ _

theorem execShra_within {unit : Fin 16} {o : ReedArgs} {s : State} : s.withinC (execShra unit o s) [.dec, .qcp, .strm, .trg, .reed, .dmc, .ptb, .out, .free] [0, 7, 9, 10, 12, 24, 25, 48, 64] := by
  unfold execShra
  refine State.withinC_next ?_
  refine State.within.step reedInstr_within ?_ (by decide) (by decide)
  exact State.within_refl _ _

theorem execShla_within {unit : Fin 16} {o : ReedArgs} {s : State} : s.withinC (execShla unit o s) [.dec, .qcp, .strm, .trg, .reed, .dmc, .ptb, .out, .free] [0, 7, 9, 10, 12, 24, 25, 48, 64] := by
  unfold execShla
  refine State.withinC_next ?_
  refine State.within.step reedInstr_within ?_ (by decide) (by decide)
  exact State.within_refl _ _

theorem execAbsa_within {unit : Fin 16} {o : ReedArgs} {s : State} : s.withinC (execAbsa unit o s) [.dec, .qcp, .strm, .trg, .reed, .dmc, .ptb, .out, .free] [0, 7, 9, 10, 12, 24, 25, 48, 64] := by
  unfold execAbsa
  refine State.withinC_next ?_
  refine State.within.step reedInstr_within ?_ (by decide) (by decide)
  exact State.within_refl _ _

theorem execBexp_within {unit : Fin 16} {o : ReedArgs} {s : State} : s.withinC (execBexp unit o s) [.dec, .qcp, .strm, .trg, .reed, .dmc, .ptb, .out, .free] [0, 7, 9, 10, 12, 24, 25, 48, 64] := by
  unfold execBexp
  refine State.withinC_next ?_
  refine State.within.step reedInstr_within ?_ (by decide) (by decide)
  exact State.within_refl _ _

theorem execNrm_within {unit : Fin 16} {o : ReedArgs} {s : State} : s.withinC (execNrm unit o s) [.dec, .qcp, .strm, .trg, .reed, .dmc, .ptb, .out, .free] [0, 7, 9, 10, 12, 24, 25, 48, 64] := by
  unfold execNrm
  refine State.withinC_next ?_
  refine State.within.step reedInstr_within ?_ (by decide) (by decide)
  exact State.within_refl _ _

theorem execMovad_within {unit : Fin 16} {o : ReedArgs} {s : State} : s.withinC (execMovad unit o s) [.dec, .qcp, .strm, .trg, .reed, .dmc, .ptb, .out, .free] [0, 7, 9, 10, 12, 24, 25, 48, 64] := by
  unfold execMovad
  refine State.withinC_next ?_
  refine State.within.step reedInstr_within ?_ (by decide) (by decide)
  exact State.within_refl _ _

theorem execMovda_within {unit : Fin 16} {o : ReedArgs} {s : State} : s.withinC (execMovda unit o s) [.dec, .qcp, .strm, .trg, .reed, .dmc, .ptb, .out, .free] [0, 7, 9, 10, 12, 24, 25, 48, 64] := by
  unfold execMovda
  refine State.withinC_next ?_
  refine State.within.step reedInstr_within ?_ (by decide) (by decide)
  exact State.within_refl _ _

theorem execMovi_within {unit : Fin 16} {o : ReedArgs} {s : State} : s.withinC (execMovi unit o s) [.dec, .qcp, .strm, .trg, .reed, .dmc, .ptb, .out, .free] [0, 7, 9, 10, 12, 24, 25, 48, 64] := by
  unfold execMovi
  refine State.withinC_next ?_
  refine State.within.step reedInstr_within ?_ (by decide) (by decide)
  exact State.within_refl _ _

theorem execMov_within {unit : Fin 16} {o : ReedArgs} {s : State} : s.withinC (execMov unit o s) [.dec, .qcp, .strm, .trg, .reed, .dmc, .ptb, .out, .free] [0, 7, 9, 10, 12, 24, 25, 48, 64] := by
  unfold execMov
  refine State.withinC_next ?_
  refine State.within.step reedInstr_within ?_ (by decide) (by decide)
  exact State.within_refl _ _

theorem execMovf_within {unit : Fin 16} {o : ReedArgs} {s : State} : s.withinC (execMovf unit o s) [.dec, .qcp, .strm, .trg, .reed, .dmc, .ptb, .out, .free] [0, 7, 9, 10, 12, 24, 25, 48, 64] := by
  unfold execMovf
  refine State.withinC_next ?_
  refine State.within.step reedInstr_within ?_ (by decide) (by decide)
  exact State.within_refl _ _

theorem execMant_within {unit : Fin 16} {o : ReedArgs} {s : State} : s.withinC (execMant unit o s) [.dec, .qcp, .strm, .trg, .reed, .dmc, .ptb, .out, .free] [0, 7, 9, 10, 12, 24, 25, 48, 64] := by
  unfold execMant
  refine State.withinC_next ?_
  refine State.within.step reedInstr_within ?_ (by decide) (by decide)
  exact State.within_refl _ _

theorem execAsh_within {unit : Fin 16} {o : ReedArgs} {s : State} : s.withinC (execAsh unit o s) [.dec, .qcp, .strm, .trg, .reed, .dmc, .ptb, .out, .free] [0, 7, 9, 10, 12, 24, 25, 48, 64] := by
  unfold execAsh
  refine State.withinC_next ?_
  refine State.within.step reedInstr_within ?_ (by decide) (by decide)
  exact State.within_refl _ _

theorem execDtap_within {unit : Fin 16} {o : ReedArgs} {s : State} : s.withinC (execDtap unit o s) [.dec, .qcp, .strm, .trg, .reed, .dmc, .ptb, .out, .free] [0, 7, 9, 10, 12, 24, 25, 48, 64] := by
  unfold execDtap
  refine State.withinC_next ?_
  refine State.within.step reedInstr_within ?_ (by decide) (by decide)
  exact State.within_refl _ _

theorem execSethd_within {unit : Fin 16} {o : ReedArgs} {s : State} : s.withinC (execSethd unit o s) [.dec, .qcp, .strm, .trg, .reed, .dmc, .ptb, .out, .free] [0, 7, 9, 10, 12, 24, 25, 48, 64] := by
  unfold execSethd
  refine State.withinC_next ?_
  refine State.within.step reedInstr_within ?_ (by decide) (by decide)
  exact State.within_refl _ _

theorem execDput_within {unit : Fin 16} {o : ReedArgs} {s : State} : s.withinC (execDput unit o s) [.dec, .qcp, .strm, .trg, .reed, .dmc, .ptb, .out, .free] [0, 7, 9, 10, 12, 24, 25, 48, 64] := by
  unfold execDput
  refine State.withinC_next ?_
  refine State.within.step reedInstr_within ?_ (by decide) (by decide)
  exact State.within_refl _ _

theorem execDget_within {unit : Fin 16} {o : ReedArgs} {s : State} : s.withinC (execDget unit o s) [.dec, .qcp, .strm, .trg, .reed, .dmc, .ptb, .out, .free] [0, 7, 9, 10, 12, 24, 25, 48, 64] := by
  unfold execDget
  refine State.withinC_next ?_
  refine State.within.step reedInstr_within ?_ (by decide) (by decide)
  exact State.within_refl _ _

theorem execReedPut_within {q : ReqHdr} {index : ℕ} {offset : ℕ} {data : List Byte} {s : State} : s.withinC (execReedPut q index offset data s) [.qcp, .ptb, .out] [24, 25] := by
  unfold execReedPut
  refine State.withinC_next ?_
  refine State.request_within (by decide) (by decide) (fun t1 ht1 => ?_) ?_
  · refine State.within.step reedPutBody_within ?_ (by decide) (by decide)
    assumption
  · exact State.within_refl _ _

theorem execReedLoad_within {q : ReqHdr} {index : ℕ} {place : BitVec 32} {count : ℕ} {s : State} : s.withinC (execReedLoad q index place count s) [.qcp, .reed, .ptb, .out] [24, 25] := by
  unfold execReedLoad
  refine State.withinC_next ?_
  refine State.request_within (by decide) (by decide) (fun t1 ht1 => ?_) ?_
  · refine State.within.step reedLoadBody_within ?_ (by decide) (by decide)
    assumption
  · exact State.within_refl _ _

theorem execReedLoadCommit_within {slot : Fin 16} {s : State} : s.withinC (execReedLoadCommit slot s) [.qcp, .reed, .ptb, .out, .free] [0, 10, 24, 25, 48, 64] := by
  unfold execReedLoadCommit
  refine State.withinC_next ?_
  refine State.within.step reedLoadCommitStep_within ?_ (by decide) (by decide)
  exact State.within_refl _ _

theorem execReedStart_within {q : ReqHdr} {index : ℕ} {s : State} : s.withinC (execReedStart q index s) [.qcp, .reed, .ptb, .out] [24, 25] := by
  unfold execReedStart
  refine State.withinC_next ?_
  refine State.request_within (by decide) (by decide) (fun t1 ht1 => ?_) ?_
  · refine State.within.step reedStartBody_within ?_ (by decide) (by decide)
    assumption
  · exact State.within_refl _ _

theorem execReedStop_within {q : ReqHdr} {index : ℕ} {s : State} : s.withinC (execReedStop q index s) [.dec, .qcp, .strm, .trg, .reed, .dmc, .ptb, .out] [0, 7, 9, 10, 12, 24, 25] := by
  unfold execReedStop
  refine State.withinC_next ?_
  refine State.request_within (by decide) (by decide) (fun t1 ht1 => ?_) ?_
  · refine State.within.step reedStopBody_within ?_ (by decide) (by decide)
    assumption
  · exact State.within_refl _ _

theorem execReedUnload_within {q : ReqHdr} {index : ℕ} {s : State} : s.withinC (execReedUnload q index s) [.dec, .qcp, .strm, .trg, .reed, .dmc, .ptb, .out] [0, 7, 9, 10, 12, 24, 25, 48, 64] := by
  unfold execReedUnload
  refine State.withinC_next ?_
  refine State.request_within (by decide) (by decide) (fun t1 ht1 => ?_) ?_
  · refine State.within.step reedUnloadBody_within ?_ (by decide) (by decide)
    assumption
  · exact State.within_refl _ _

end Sys2Proof.Machine
end

