-- ==== Sys2Proof/Laws/WithinChain.lean ====
section
/-! SUPPORT. For each operation of the decimation and the phase chain: which components and which register blocks it may change. -/

namespace Sys2Proof.Machine

theorem State.tellFilter_within {s : State} {n : ℕ} : s.within (State.tellFilter s n) [] [7] := by
  unfold State.tellFilter
  extract_lets x1 x2 x3
  clear_value x1
  have hx2 : s.within x2 [] [7] := by
    unfold x2
    refine State.puts_cons_within ?_
    refine State.puts_cons_within ?_
    refine State.puts_cons_within ?_
    refine State.puts_nil_within ?_
    refine State.put_within rfl (mem_block (b := 7) (by omega) (by decide)) ?_
    refine State.put_within rfl (mem_block (b := 7) (by omega) (by decide)) ?_
    refine State.put_within rfl (mem_block (b := 7) (by omega) (by decide)) ?_
    exact State.within_refl _ _
  clear_value x2
  have hx3 : s.within x3 [] [7] := by
    unfold x3
    refine State.within_ite ?_ ?_
    · refine State.put_within rfl (mem_block (b := 7) (by decide) (by decide)) ?_
      assumption
    · refine State.put_within rfl (mem_block (b := 7) (by decide) (by decide)) ?_
      assumption
  clear_value x3
  refine State.put_within rfl (mem_block (b := 7) (by decide) (by decide)) ?_
  assumption

theorem State.decRestart_within {s : State} {n : ℕ} {s0 : ℕ} : s.within (State.decRestart s n s0) [.dec, .qcp, .strm, .trg, .dmc, .ptb, .out] [0, 7, 12, 24, 25] := by
  unfold State.decRestart
  extract_lets x1 x2 x3 x4
  clear_value x1
  clear_value x2
  have hx3 : ∀ a0, s.within a0 [.dec, .qcp, .strm, .trg, .dmc, .ptb, .out] [0, 7, 12, 24, 25] → s.within (x3 a0) [.dec, .qcp, .strm, .trg, .dmc, .ptb, .out] [0, 7, 12, 24, 25] := by
    intro a0 ha
    unfold x3
    refine State.within.step State.modFilt_within ?_ (by decide) (by decide)
    assumption
  have hx4 : s.within x4 [.dec, .qcp, .strm, .trg, .dmc, .ptb, .out] [0, 7, 12, 24, 25] := by
    unfold x4
    refine State.acrossBasis_within (by decide) (by decide) (fun t5 ht5 => ?_) ?_
    · refine State.within_ite ?_ ?_
      · refine State.rebase_within (by decide) (by decide) (fun t6 ht6 => ?_) ?_
        · refine hx3 _ ?_
          assumption
        · assumption
      · refine hx3 _ ?_
        assumption
    · exact State.within_refl _ _
  clear_value x4
  refine State.within.step State.resetUnitsOf_within ?_ (by decide) (by decide)
  refine State.within.step State.tellFilter_within ?_ (by decide) (by decide)
  assumption

theorem State.decOutput_within {s : State} {n : ℕ} : s.within (State.decOutput s n) [.dec, .qcp, .strm, .trg, .brl, .dmc, .ptb, .out] [0, 7, 9, 12, 24, 25] := by
  unfold State.decOutput
  extract_lets x1 x2 x3 x4 x5
  clear_value x1
  clear_value x2
  clear_value x3
  clear_value x4
  clear_value x5
  split
  · exact State.within_refl _ _
  · extract_lets x6 x7 x8 x9 x10 x11
    clear_value x6
    have hx7 : s.within x7.2 [.dec, .qcp, .strm, .trg, .brl, .dmc, .ptb, .out] [0, 7, 9, 12, 24, 25] := by
      unfold x7
      split
      · dsimp only
        exact State.within_refl _ _
      · extract_lets x12
        clear_value x12
        dsimp only
        refine State.within_upd (by intro c hc; cases c <;> first | rfl | exact absurd (by decide) hc) ?_
        exact State.within_refl _ _
    clear_value x8
    clear_value x9
    clear_value x10
    have hx11 : s.within x11 [.dec, .qcp, .strm, .trg, .brl, .dmc, .ptb, .out] [0, 7, 9, 12, 24, 25] := by
      unfold x11
      refine State.within.step State.modFilt_within ?_ (by decide) (by decide)
      assumption
    clear_value x11
    refine State.within_ite ?_ ?_
    · refine State.within.step State.trgOffer_within ?_ (by decide) (by decide)
      refine State.within.step State.recordOut_within ?_ (by decide) (by decide)
      refine State.within.step State.pushOut_within ?_ (by decide) (by decide)
      assumption
    · assumption

theorem decimationOutputStep_within {n : ℕ} {s : State} : s.within (decimationOutputStep n s) [.dec, .qcp, .strm, .trg, .brl, .dmc, .ptb, .out] [0, 7, 9, 12, 24, 25] := by
  unfold decimationOutputStep
  refine State.within.step State.decOutput_within ?_ (by decide) (by decide)
  exact State.within_refl _ _

theorem State.restartFilter_within {s : State} {n : ℕ} : s.within (State.restartFilter s n) [.grid, .dec, .qcp, .strm, .trg, .brl, .dmc, .ptb, .out] [0, 7, 9, 12, 24, 25] := by
  unfold State.restartFilter
  extract_lets x1 x2
  clear_value x1
  clear_value x2
  refine State.within_ite ?_ ?_
  · refine State.within_ite ?_ ?_
    · exact State.within_refl _ _
    · refine State.within_upd (by intro c hc; cases c <;> first | rfl | exact absurd (by decide) hc) ?_
      exact State.within_refl _ _
  · refine State.within.step State.decRestart_within ?_ (by decide) (by decide)
    refine State.within.step State.decOutput_within ?_ (by decide) (by decide)
    exact State.within_refl _ _

theorem State.fallbackMoves_within {s : State} : s.within (State.fallbackMoves s) [.grid, .dec, .qcp, .strm, .trg, .brl, .dmc, .ptb, .out] [0, 7, 9, 12, 24, 25] := by
  unfold State.fallbackMoves
  refine State.within_ite ?_ ?_
  · refine State.within_upd (by intro c hc; cases c <;> first | rfl | exact absurd (by decide) hc) ?_
    exact State.within_refl _ _
  · refine State.within_foldl (fun t1 y1 ht1 => ?_) ?_
    · refine State.within.step State.eventStream_within ?_ (by decide) (by decide)
      refine State.within.step State.restartFilter_within ?_ (by decide) (by decide)
      refine State.putFlag_within rfl (mem_block (b := 7) (by omega) (by decide)) ?_
      assumption
    · refine State.within_upd (by intro c hc; cases c <;> first | rfl | exact absurd (by decide) hc) ?_
      exact State.within_refl _ _

theorem State.noteMissed_within {s : State} {n : ℕ} {s0 : ℕ} {l : List ℕ} : s.within (State.noteMissed s n s0 l) [.strm] [] := by
  unfold State.noteMissed
  refine State.within_ite ?_ ?_
  · exact State.within_refl _ _
  · extract_lets x1
    have hx1 : s.within x1 [.strm] [] := by
      unfold x1
      refine State.within.step State.modStr_within ?_ (by decide) (by decide)
      exact State.within_refl _ _
    clear_value x1
    refine State.within_foldl (fun t2 y2 ht2 => ?_) ?_
    · extract_lets x3 x4 x5
      clear_value x3
      clear_value x4
      clear_value x5
      refine State.within_ite ?_ ?_
      · refine State.within.step State.modStr_within ?_ (by decide) (by decide)
        assumption
      · assumption
    · assumption

theorem State.decFeed_within {s : State} {n : ℕ} {i : Inflight} {restart : Bool} {ins : List DecIn} : s.within (State.decFeed s n i restart ins) [.dec, .qcp, .strm, .trg, .reed, .brl, .dmc, .ptb, .out, .free] [0, 7, 9, 12, 24, 25] := by
  unfold State.decFeed
  extract_lets x1 x2 x3 x4 x5 x6 x7 x8 x9 x10 x11 x12
  have hx1 : s.within x1 [.dec, .qcp, .strm, .trg, .reed, .brl, .dmc, .ptb, .out, .free] [0, 7, 9, 12, 24, 25] := by
    unfold x1
    refine State.within.step State.decOutput_within ?_ (by decide) (by decide)
    exact State.within_refl _ _
  clear_value x1
  have hx2 : s.within x2 [.dec, .qcp, .strm, .trg, .reed, .brl, .dmc, .ptb, .out, .free] [0, 7, 9, 12, 24, 25] := by
    unfold x2
    refine State.within_ite ?_ ?_
    · refine State.within.step State.decRestart_within ?_ (by decide) (by decide)
      assumption
    · assumption
  clear_value x2
  clear_value x3
  clear_value x4
  clear_value x5
  have hx6 : s.within x6 [.dec, .qcp, .strm, .trg, .reed, .brl, .dmc, .ptb, .out, .free] [0, 7, 9, 12, 24, 25] := by
    unfold x6
    refine State.within_ite ?_ ?_
    · refine State.within.step State.reedRestart_within ?_ (by decide) (by decide)
      refine State.count_within rfl (mem_block (b := 7) (by omega) (by decide)) ?_
      assumption
    · assumption
  clear_value x6
  have hx7 : s.within x7 [.dec, .qcp, .strm, .trg, .reed, .brl, .dmc, .ptb, .out, .free] [0, 7, 9, 12, 24, 25] := by
    unfold x7
    refine State.within.step State.noteMissed_within ?_ (by decide) (by decide)
    assumption
  clear_value x7
  clear_value x8
  clear_value x9
  clear_value x10
  clear_value x11
  have hx12 : s.within x12 [.dec, .qcp, .strm, .trg, .reed, .brl, .dmc, .ptb, .out, .free] [0, 7, 9, 12, 24, 25] := by
    unfold x12
    refine State.within.step State.modFilt_within ?_ (by decide) (by decide)
    assumption
  clear_value x12
  refine State.within_foldl (fun t13 y13 ht13 => ?_) ?_
  · extract_lets x14
    clear_value x14
    refine State.within_ite ?_ ?_
    · assumption
    · refine State.within.step State.reedFeed_within ?_ (by decide) (by decide)
      assumption
  · assumption

theorem State.decShot_within {s : State} {i : Inflight} {ins : List DecIn} : s.within (State.decShot s i ins) [.dec, .qcp, .strm, .trg, .reed, .brl, .dmc, .ptb, .out, .free] [0, 7, 9, 12, 24, 25] := by
  unfold State.decShot
  refine State.within_foldl (fun t1 y1 ht1 => ?_) ?_
  · refine State.within_ite ?_ ?_
    · refine State.within.step State.decFeed_within ?_ (by decide) (by decide)
      assumption
    · assumption
  · exact State.within_refl _ _

theorem execDecimationOutput_within {stream : Fin 64} {s : State} : s.withinC (execDecimationOutput stream s) [.dec, .qcp, .strm, .trg, .brl, .dmc, .ptb, .out] [0, 7, 9, 12, 24, 25] := by
  unfold execDecimationOutput
  refine State.withinC_next ?_
  refine State.within.step decimationOutputStep_within ?_ (by decide) (by decide)
  exact State.within_refl _ _

theorem State.setChans_within {s : State} {p : Port} {l : List Chan} : s.within (State.setChans s p l) [.phs] [] := by
  unfold State.setChans
  split
  · refine State.within_upd (by intro c hc; cases c <;> first | rfl | exact absurd (by decide) hc) ?_
    exact State.within_refl _ _
  · refine State.within_upd (by intro c hc; cases c <;> first | rfl | exact absurd (by decide) hc) ?_
    exact State.within_refl _ _

theorem State.centreTheta_within {s : State} : s.within (State.centreTheta s) [.phs] [] := by
  unfold State.centreTheta
  refine State.within.step State.setChans_within ?_ (by decide) (by decide)
  refine State.within.step State.setChans_within ?_ (by decide) (by decide)
  exact State.within_refl _ _

theorem State.countChain_within {s : State} {p : Port} {slips : ℕ} {reacqs : ℕ} : s.within (State.countChain s p slips reacqs) [] [6] := by
  unfold State.countChain
  extract_lets x1
  have hx1 : s.within x1 [] [6] := by
    unfold x1
    refine State.within_ite ?_ ?_
    · exact State.within_refl _ _
    · refine State.put_within rfl (mem_block (b := 6) (by decide) (by decide)) ?_
      refine State.count_within rfl (mem_block (b := 6) (by omega) (by decide)) ?_
      exact State.within_refl _ _
  clear_value x1
  refine State.within_ite ?_ ?_
  · assumption
  · refine State.count_within rfl (mem_block (b := 6) (by omega) (by decide)) ?_
    assumption

theorem State.signatureShot_within {s : State} {i : Inflight} {bins : List BinSample} : s.within (State.signatureShot s i bins) [.phs] [] := by
  unfold State.signatureShot
  extract_lets x1 x2 x3 x4
  clear_value x1
  clear_value x2
  clear_value x3
  clear_value x4
  refine State.within_ite ?_ ?_
  · refine State.within_upd (by intro c hc; cases c <;> first | rfl | exact absurd (by decide) hc) ?_
    exact State.within_refl _ _
  · refine State.within_upd (by intro c hc; cases c <;> first | rfl | exact absurd (by decide) hc) ?_
    exact State.within_refl _ _

theorem State.flushOutputs_within {s : State} {p : Port} : s.within (State.flushOutputs s p) [.dec, .qcp, .strm, .trg, .brl, .dmc, .ptb, .out] [0, 7, 9, 12, 24, 25] := by
  unfold State.flushOutputs
  refine State.within_foldl (fun t1 y1 ht1 => ?_) ?_
  · refine State.within_ite ?_ ?_
    · refine State.within.step State.decOutput_within ?_ (by decide) (by decide)
      assumption
    · assumption
  · exact State.within_refl _ _

theorem phaseChainShotStep_within {sh : ShotReturn} {s : State} : s.within (phaseChainShotStep sh s) [.grid, .phs, .dec, .qcp, .strm, .trg, .reed, .brl, .dmc, .ptb, .out, .free] [0, 3, 5, 6, 7, 8, 9, 12, 24, 25] := by
  unfold phaseChainShotStep
  split
  · exact State.within_refl _ _
  · extract_lets x1 x2 x3 x4 x5 x6 x7 x8
    clear_value x1
    have hx2 : s.within x2 [.grid, .phs, .dec, .qcp, .strm, .trg, .reed, .brl, .dmc, .ptb, .out, .free] [0, 3, 5, 6, 7, 8, 9, 12, 24, 25] := by
      unfold x2
      refine State.within.step State.measureVis_within ?_ (by decide) (by decide)
      refine State.within_upd (by intro c hc; cases c <;> first | rfl | exact absurd (by decide) hc) ?_
      exact State.within_refl _ _
    clear_value x2
    clear_value x3
    have hx4 : s.within x4 [.grid, .phs, .dec, .qcp, .strm, .trg, .reed, .brl, .dmc, .ptb, .out, .free] [0, 3, 5, 6, 7, 8, 9, 12, 24, 25] := by
      unfold x4
      refine State.within_ite ?_ ?_
      · refine State.put_within rfl (mem_block (b := 3) (by omega) (by decide)) ?_
        assumption
      · assumption
    clear_value x4
    clear_value x5
    have hx6 : s.within x6 [.grid, .phs, .dec, .qcp, .strm, .trg, .reed, .brl, .dmc, .ptb, .out, .free] [0, 3, 5, 6, 7, 8, 9, 12, 24, 25] := by
      unfold x6
      refine State.within_ite ?_ ?_
      · refine State.within.step State.anchorReinit_within ?_ (by decide) (by decide)
        refine State.within.step State.flushOutputs_within ?_ (by decide) (by decide)
        assumption
      · assumption
    clear_value x6
    clear_value x7
    have hx8 : s.within x8 [.grid, .phs, .dec, .qcp, .strm, .trg, .reed, .brl, .dmc, .ptb, .out, .free] [0, 3, 5, 6, 7, 8, 9, 12, 24, 25] := by
      unfold x8
      refine State.within.step State.countChain_within ?_ (by decide) (by decide)
      refine State.within.step State.setChans_within ?_ (by decide) (by decide)
      assumption
    clear_value x8
    refine State.within_ite ?_ ?_
    · refine State.within_ite ?_ ?_
      · refine State.within.step State.signatureShot_within ?_ (by decide) (by decide)
        assumption
      · assumption
    · refine State.within_ite ?_ ?_
      · refine State.within.step State.decShot_within ?_ (by decide) (by decide)
        assumption
      · assumption

theorem State.markApr_within {s : State} {p : Port} {since : ℤ} : s.within (State.markApr s p since) [.dec, .strm, .reed] [] := by
  unfold State.markApr
  extract_lets x1 x2 x3 x4 x5 x6 x7 x8
  clear_value x6
  clear_value x7
  clear_value x8
  refine State.within_upd (by intro c hc; cases c <;> first | rfl | exact absurd (by decide) hc) ?_
  exact State.within_refl _ _

theorem aprBreakDetectStep_within {p : Port} {len0 : ℕ} {len1 : ℕ} {s : State} : s.within (aprBreakDetectStep p len0 len1 s) [.light, .grid, .dec, .strm, .reed, .mon, .dmc] [0, 3, 19, 21] := by
  unfold aprBreakDetectStep
  extract_lets x1 x2 x3
  clear_value x1
  clear_value x2
  clear_value x3
  refine State.whenDo_within ?_ ?_
  · extract_lets x5 x6 x7 x8
    clear_value x5
    clear_value x7
    have hx8 : s.within x8 [.light, .grid, .dec, .strm, .reed, .mon, .dmc] [0, 3, 19, 21] := by
      unfold x8
      refine State.within_upd (by intro c hc; cases c <;> first | rfl | exact absurd (by decide) hc) ?_
      exact State.within_refl _ _
    clear_value x8
    refine State.put_within rfl (mem_block (b := 3) (by omega) (by decide)) ?_
    refine State.within.step State.reducePort_within ?_ (by decide) (by decide)
    refine State.within.step State.markApr_within ?_ (by decide) (by decide)
    assumption
  · exact State.within_refl _ _

theorem State.dark_within {s : State} : s.within (State.dark s) [.grid] [3] := by
  unfold State.dark
  refine State.puts_cons_within ?_
  refine State.puts_cons_within ?_
  refine State.puts_nil_within ?_
  refine State.put_within rfl (mem_block (b := 3) (by decide) (by decide)) ?_
  refine State.put_within rfl (mem_block (b := 3) (by decide) (by decide)) ?_
  refine State.within.step State.stopGrid_within ?_ (by decide) (by decide)
  exact State.within_refl _ _

theorem State.measure_within {s : State} {p : Port} {int : List ℕ} {cont : List ℕ} : s.within (State.measure s p int cont) [] [6] := by
  unfold State.measure
  refine State.wrWords_within (fun i hi => ?_) (State.within_refl _ _)
  simp only [List.length_append, List.length_map, List.length_range, List.length_singleton] at hi
  cases p <;> exact mem_block (b := 6) (by simp [Port.idx]; omega) (by decide)

theorem State.sigLearn_within {s : State} {p : Port} : s.within (State.sigLearn s p) [] [6] := by
  unfold State.sigLearn
  refine State.within_ite ?_ ?_
  · exact State.within_refl _ _
  · refine State.put_any (by cases p <;> decide) ?_
    refine State.wrWords_within (fun i hi => ?_) (State.within_refl _ _)
    unfold State.sigMeas at hi
    unfold State.rdWords at hi
    simp only [List.length_map, List.length_range] at hi
    cases p <;> exact mem_block (b := 6) (by simp [Port.idx]; omega) (by decide)

theorem signatureVerdictStep_within {s : State} : s.within (signatureVerdictStep s) [.light, .grid, .phs, .qcp, .dmc, .ptb, .power, .out] [0, 3, 6, 16, 21, 24, 25] := by
  unfold signatureVerdictStep
  refine State.whenDo_within ?_ ?_
  · extract_lets x2 x3 x4 x5 x6 x7 x8 x9 x10 x11 x12
    have hx3 : s.within x3 [.light, .grid, .phs, .qcp, .dmc, .ptb, .power, .out] [0, 3, 6, 16, 21, 24, 25] := by
      unfold x3
      refine State.within_ite ?_ ?_
      · refine State.within.step State.measure_within ?_ (by decide) (by decide)
        exact State.within_refl _ _
      · exact State.within_refl _ _
    clear_value x3
    have hx4 : s.within x4 [.light, .grid, .phs, .qcp, .dmc, .ptb, .power, .out] [0, 3, 6, 16, 21, 24, 25] := by
      unfold x4
      refine State.within_ite ?_ ?_
      · refine State.within.step State.measure_within ?_ (by decide) (by decide)
        assumption
      · assumption
    clear_value x4
    have hx5 : s.within x5 [.light, .grid, .phs, .qcp, .dmc, .ptb, .power, .out] [0, 3, 6, 16, 21, 24, 25] := by
      unfold x5
      refine State.count_within rfl (mem_block (b := 6) (by decide) (by decide)) ?_
      refine State.within.step State.sigLearn_within ?_ (by decide) (by decide)
      refine State.within.step State.sigLearn_within ?_ (by decide) (by decide)
      assumption
    clear_value x5
    clear_value x6
    have hx7 : s.within x7 [.light, .grid, .phs, .qcp, .dmc, .ptb, .power, .out] [0, 3, 6, 16, 21, 24, 25] := by
      unfold x7
      refine State.within_upd (by intro c hc; cases c <;> first | rfl | exact absurd (by decide) hc) ?_
      assumption
    clear_value x7
    clear_value x8
    clear_value x10
    have hx11 : s.within x11 [.light, .grid, .phs, .qcp, .dmc, .ptb, .power, .out] [0, 3, 6, 16, 21, 24, 25] := by
      unfold x11
      refine State.put_within rfl (mem_block (b := 6) (by decide) (by decide)) ?_
      assumption
    clear_value x11
    have hx12 : s.within x12 [.light, .grid, .phs, .qcp, .dmc, .ptb, .power, .out] [0, 3, 6, 16, 21, 24, 25] := by
      unfold x12
      refine State.within_ite ?_ ?_
      · assumption
      · refine State.within.step State.eventAll_within ?_ (by decide) (by decide)
        assumption
    clear_value x12
    refine State.within_ite ?_ ?_
    · refine State.put_within rfl (mem_block (b := 6) (by decide) (by decide)) ?_
      assumption
    · refine State.within_ite ?_ ?_
      · refine State.within.step State.eventAll_within ?_ (by decide) (by decide)
        refine State.within.step State.toStandby_within ?_ (by decide) (by decide)
        refine State.within.step State.dark_within ?_ (by decide) (by decide)
        refine State.put_within rfl (mem_block (b := 6) (by decide) (by decide)) ?_
        refine State.within_upd (by intro c hc; cases c <;> first | rfl | exact absurd (by decide) hc) ?_
        assumption
      · refine State.within_ite ?_ ?_
        · assumption
        · refine State.within.step State.eventAll_within ?_ (by decide) (by decide)
          assumption
  · exact State.within_refl _ _

theorem execPhaseChainShot_within {shot : ShotReturn} {s : State} : s.withinC (execPhaseChainShot shot s) [.grid, .phs, .dec, .qcp, .strm, .trg, .reed, .brl, .dmc, .ptb, .out, .free] [0, 3, 5, 6, 7, 8, 9, 12, 24, 25] := by
  unfold execPhaseChainShot
  refine State.withinC_next ?_
  refine State.within.step phaseChainShotStep_within ?_ (by decide) (by decide)
  exact State.within_refl _ _

theorem execAprBreakDetect_within {port : Port} {len0 : ℕ} {len1 : ℕ} {s : State} : s.withinC (execAprBreakDetect port len0 len1 s) [.light, .grid, .dec, .strm, .reed, .mon, .dmc] [0, 3, 19, 21] := by
  unfold execAprBreakDetect
  refine State.withinC_next ?_
  refine State.within.step aprBreakDetectStep_within ?_ (by decide) (by decide)
  exact State.within_refl _ _

theorem execSignatureVerdict_within {a0 : Unit} {a1 : Unit} {a2 : Unit} {a3 : Unit} {s : State} : s.withinC (execSignatureVerdict a0 a1 a2 a3 s) [.light, .grid, .phs, .qcp, .dmc, .ptb, .power, .out] [0, 3, 6, 16, 21, 24, 25] := by
  unfold execSignatureVerdict
  refine State.withinC_next ?_
  refine State.within.step signatureVerdictStep_within ?_ (by decide) (by decide)
  exact State.within_refl _ _

end Sys2Proof.Machine
end

