-- ==== Sys2Proof/Laws/WithinPair.lean ====
section
/-! SUPPORT. For each operation of the pair laboratory: which components and which register blocks it may change. -/

namespace Sys2Proof.Machine

theorem State.modPair_within {s : State} {f : Pair → Pair} : s.within (State.modPair s f) [.pair] [] := by
  unfold State.modPair
  refine State.within_upd (by intro c hc; cases c <;> first | rfl | exact absurd (by decide) hc) ?_
  exact State.within_refl _ _

theorem healthUpdateStep_within {s : State} : s.within (healthUpdateStep s) [.pair, .dmc] [0, 17, 21] := by
  unfold healthUpdateStep
  refine State.whenDo_within ?_ ?_
  · extract_lets x2 x3
    clear_value x2
    have hx3 : s.within x3 [.pair, .dmc] [0, 17, 21] := by
      unfold x3
      refine State.puts_cons_within ?_
      refine State.puts_cons_within ?_
      refine State.puts_nil_within ?_
      refine State.put_within rfl (mem_block (b := 17) (by omega) (by decide)) ?_
      refine State.put_within rfl (mem_block (b := 17) (by omega) (by decide)) ?_
      exact State.within_refl _ _
    clear_value x3
    refine State.within_ite ?_ ?_
    · refine State.put_within rfl (mem_block (b := 17) (by decide) (by decide)) ?_
      refine State.within.step State.enter_within ?_ (by decide) (by decide)
      refine State.within.step State.modPair_within ?_ (by decide) (by decide)
      assumption
    · assumption
  · exact State.within_refl _ _

theorem State.sendPair_within {s : State} {f : PairFrame} : s.within (State.sendPair s f) [.pair, .ptb, .out] [24] := by
  unfold State.sendPair
  refine State.within.step State.modPair_within ?_ (by decide) (by decide)
  refine State.within.step State.emit_within ?_ (by decide) (by decide)
  exact State.within_refl _ _

theorem State.sendCfg_within {s : State} : s.within (State.sendCfg s) [.pair, .ptb, .out] [24] := by
  unfold State.sendCfg
  refine State.within_ite ?_ ?_
  · refine State.within.step State.sendPair_within ?_ (by decide) (by decide)
    exact State.within_refl _ _
  · exact State.within_refl _ _

theorem pairIdleStep_within {s : State} : s.within (pairIdleStep s) [] [] := by
  unfold pairIdleStep
  exact State.within_refl _ _

theorem State.ackSwitch_within {s : State} : s.within (State.ackSwitch s) [.qcp] [] := by
  unfold State.ackSwitch
  split
  · refine State.within.step State.commitPoint_within ?_ (by decide) (by decide)
    exact State.within_refl _ _
  · exact State.within_refl _ _

theorem pairHbStep_within {health : BitVec 12} {s : State} : s.within (pairHbStep health s) [.qcp, .pair] [] := by
  unfold pairHbStep
  refine State.whenDo_within ?_ ?_
  · refine State.within.step State.ackSwitch_within ?_ (by decide) (by decide)
    refine State.within.step State.modPair_within ?_ (by decide) (by decide)
    exact State.within_refl _ _
  · exact State.within_refl _ _

theorem State.clashCheck_within {s : State} : s.within (State.clashCheck s) [.pat, .qcp, .ptb, .out] [24, 25] := by
  unfold State.clashCheck
  refine State.within_ite ?_ ?_
  · refine State.within_upd (by intro c hc; cases c <;> first | rfl | exact absurd (by decide) hc) ?_
    exact State.within_refl _ _
  · refine State.within_ite ?_ ?_
    · exact State.within_refl _ _
    · refine State.within.step State.eventAll_within ?_ (by decide) (by decide)
      refine State.within_upd (by intro c hc; cases c <;> first | rfl | exact absurd (by decide) hc) ?_
      exact State.within_refl _ _

theorem pairCfgFrameStep_within {tsw : ℕ} {nslot : ℕ} {alignMod : Ts} {ch : BitVec 8} {node : BitVec 12} {s : State} : s.within (pairCfgFrameStep tsw nslot alignMod ch node s) [.pat, .qcp, .pair, .ptb, .out] [17, 24, 25] := by
  unfold pairCfgFrameStep
  refine State.whenDo_within ?_ ?_
  · extract_lets x2 x3 x4
    clear_value x2
    have hx3 : s.within x3 [.pat, .qcp, .pair, .ptb, .out] [17, 24, 25] := by
      unfold x3
      refine State.within.step State.modPair_within ?_ (by decide) (by decide)
      refine State.puts_cons_within ?_
      refine State.puts_cons_within ?_
      refine State.puts_cons_within ?_
      refine State.puts_nil_within ?_
      refine State.put_within rfl (mem_block (b := 17) (by omega) (by decide)) ?_
      refine State.put_within rfl (mem_block (b := 17) (by omega) (by decide)) ?_
      refine State.put_within rfl (mem_block (b := 17) (by omega) (by decide)) ?_
      exact State.within_refl _ _
    clear_value x3
    clear_value x4
    refine State.within_ite ?_ ?_
    · refine State.within.step State.eventAll_within ?_ (by decide) (by decide)
      refine State.within_upd (by intro c hc; cases c <;> first | rfl | exact absurd (by decide) hc) ?_
      assumption
    · assumption
  · exact State.within_refl _ _

theorem State.setLink_within {s : State} {up : Bool} : s.within (State.setLink s up) [.qcp, .ptb, .out] [17, 24, 25] := by
  unfold State.setLink
  refine State.within_ite ?_ ?_
  · exact State.within_refl _ _
  · refine State.within.step State.eventAll_within ?_ (by decide) (by decide)
    refine State.putFlag_within rfl (mem_block (b := 17) (by decide) (by decide)) ?_
    exact State.within_refl _ _

theorem pairLinkDownStep_within {s : State} : s.within (pairLinkDownStep s) [.qcp, .ptb, .out] [17, 24, 25] := by
  unfold pairLinkDownStep
  refine State.within.step State.setLink_within ?_ (by decide) (by decide)
  exact State.within_refl _ _

theorem pairLinkUpStep_within {s : State} : s.within (pairLinkUpStep s) [.qcp, .ptb, .out] [17, 24, 25] := by
  unfold pairLinkUpStep
  refine State.whenDo_within ?_ ?_
  · refine State.within.step State.setLink_within ?_ (by decide) (by decide)
    exact State.within_refl _ _
  · exact State.within_refl _ _

theorem pairHbSendStep_within {s : State} : s.within (pairHbSendStep s) [.pair, .ptb, .out] [24] := by
  unfold pairHbSendStep
  refine State.whenDo_within ?_ ?_
  · extract_lets x2 x3
    have hx2 : s.within x2 [.pair, .ptb, .out] [24] := by
      unfold x2
      refine State.within.step State.sendPair_within ?_ (by decide) (by decide)
      exact State.within_refl _ _
    clear_value x2
    clear_value x3
    refine State.within_ite ?_ ?_
    · refine State.within.step State.modPair_within ?_ (by decide) (by decide)
      refine State.within.step State.sendPair_within ?_ (by decide) (by decide)
      assumption
    · assumption
  · exact State.within_refl _ _

theorem finalSeqStep_within {seqs : List (Fin 64 × BitVec 32)} {s : State} : s.within (finalSeqStep seqs s) [.dec, .qcp, .strm, .dmc, .ptb, .out] [0, 7, 12, 24, 25] := by
  unfold finalSeqStep
  split
  · exact State.within_refl _ _
  · extract_lets x1 x2
    clear_value x1
    have hx2 : s.within x2 [.dec, .qcp, .strm, .dmc, .ptb, .out] [0, 7, 12, 24, 25] := by
      unfold x2
      refine State.within_foldl (fun t3 y3 ht3 => ?_) ?_
      · refine State.put_within rfl (mem_block (b := 12) (by omega) (by decide)) ?_
        assumption
      · refine State.within_upd (by intro c hc; cases c <;> first | rfl | exact absurd (by decide) hc) ?_
        exact State.within_refl _ _
    clear_value x2
    refine State.within_foldl (fun t4 y4 ht4 => ?_) ?_
    · refine State.within.step State.pushOut_within ?_ (by decide) (by decide)
      assumption
    · assumption

theorem State.hostHeartbeat_within {s : State} {bytes : List Byte} : s.within (State.hostHeartbeat s bytes) [.qcp, .ptb, .out] [24, 25] := by
  unfold State.hostHeartbeat
  split
  · exact State.within_refl _ _
  · refine State.within_ite ?_ ?_
    · refine State.within.step State.trimLog_within ?_ (by decide) (by decide)
      refine State.within.step State.logEvent_within ?_ (by decide) (by decide)
      exact State.within_refl _ _
    · exact State.within_refl _ _

theorem heartbeatSendStep_within {s : State} : s.within (heartbeatSendStep s) [.qcp, .ridge, .pair, .ptb, .out] [24, 25] := by
  unfold heartbeatSendStep
  extract_lets x1 x2 x3 x4 x5 x6 x7
  clear_value x1
  clear_value x2
  clear_value x3
  have hx4 : s.within x4 [.qcp, .ridge, .pair, .ptb, .out] [24, 25] := by
    unfold x4
    refine State.within_ite ?_ ?_
    · refine State.within.step State.modPair_within ?_ (by decide) (by decide)
      refine State.within.step State.hostHeartbeat_within ?_ (by decide) (by decide)
      refine State.within.step State.originate_within ?_ (by decide) (by decide)
      exact State.within_refl _ _
    · exact State.within_refl _ _
  clear_value x4
  clear_value x5
  clear_value x6
  clear_value x7
  refine State.within_ite ?_ ?_
  · refine State.within.step State.modPair_within ?_ (by decide) (by decide)
    refine State.within.step State.originate_within ?_ (by decide) (by decide)
    assumption
  · assumption

theorem State.echoed_within {s : State} {hseq : BitVec 32} : s.within (State.echoed s hseq) [.pair] [] := by
  unfold State.echoed
  split
  · exact State.within_refl _ _
  · refine State.within.step State.modPair_within ?_ (by decide) (by decide)
    exact State.within_refl _ _

theorem State.pairEcho_within {s : State} {hseq : BitVec 32} : s.within (State.pairEcho s hseq) [.pair] [] := by
  unfold State.pairEcho
  refine State.within.step State.echoed_within ?_ (by decide) (by decide)
  refine State.within.step State.modPair_within ?_ (by decide) (by decide)
  exact State.within_refl _ _

theorem State.modRef_within {s : State} {f : Referee → Referee} : s.within (State.modRef s f) [.pair] [] := by
  unfold State.modRef
  refine State.within.step State.modPair_within ?_ (by decide) (by decide)
  exact State.within_refl _ _

theorem State.sendPairCmd_within {s : State} {cmd : ℕ} {b : Bool} {time : Ts} {w : ℕ} : s.within (State.sendPairCmd s cmd b time w) [.ridge, .pair, .ptb, .out] [17, 24] := by
  unfold State.sendPairCmd
  extract_lets x1
  clear_value x1
  refine State.count_within rfl (mem_block (b := 17) (by decide) (by decide)) ?_
  refine State.within.step State.modRef_within ?_ (by decide) (by decide)
  refine State.within.step State.originate_within ?_ (by decide) (by decide)
  exact State.within_refl _ _

theorem State.refTake_within {s : State} {b : Bool} {after : Ts} : s.within (State.refTake s b after) [.ridge, .pair, .ptb, .out] [17, 24] := by
  unfold State.refTake
  extract_lets x1 x2
  clear_value x1
  have hx2 : s.within x2 [.ridge, .pair, .ptb, .out] [17, 24] := by
    unfold x2
    refine State.within.step State.sendPairCmd_within ?_ (by decide) (by decide)
    exact State.within_refl _ _
  clear_value x2
  refine State.puts_cons_within ?_
  refine State.puts_cons_within ?_
  refine State.puts_nil_within ?_
  refine State.put_within rfl (mem_block (b := 17) (by omega) (by decide)) ?_
  refine State.put_within rfl (mem_block (b := 17) (by omega) (by decide)) ?_
  refine State.within.step State.modRef_within ?_ (by decide) (by decide)
  assumption

theorem State.refDeclare_within {s : State} {after : Ts} : s.within (State.refDeclare s after) [.ridge, .pair, .ptb, .out] [17, 24] := by
  unfold State.refDeclare
  extract_lets x1
  clear_value x1
  refine State.within_ite ?_ ?_
  · refine State.within.step State.refTake_within ?_ (by decide) (by decide)
    exact State.within_refl _ _
  · refine State.put_within rfl (mem_block (b := 17) (by decide) (by decide)) ?_
    refine State.within.step State.modRef_within ?_ (by decide) (by decide)
    exact State.within_refl _ _

theorem State.refEval_within {s : State} : s.within (State.refEval s) [.ridge, .pair, .ptb, .out] [17, 24] := by
  unfold State.refEval
  extract_lets x1 x2 x3 x4
  clear_value x1
  clear_value x2
  clear_value x3
  clear_value x4
  split
  · refine State.within_ite ?_ ?_
    · refine State.within.step State.refTake_within ?_ (by decide) (by decide)
      exact State.within_refl _ _
    · refine State.within_ite ?_ ?_
      · refine State.within.step State.refTake_within ?_ (by decide) (by decide)
        exact State.within_refl _ _
      · exact State.within_refl _ _
  · refine State.within_ite ?_ ?_
    · refine State.within.step State.refTake_within ?_ (by decide) (by decide)
      exact State.within_refl _ _
    · refine State.within_ite ?_ ?_
      · refine State.within.step State.refTake_within ?_ (by decide) (by decide)
        exact State.within_refl _ _
      · exact State.within_refl _ _
  · refine State.within_ite ?_ ?_
    · refine State.within.step State.refDeclare_within ?_ (by decide) (by decide)
      exact State.within_refl _ _
    · exact State.within_refl _ _
  · refine State.within_ite ?_ ?_
    · refine State.within.step State.refDeclare_within ?_ (by decide) (by decide)
      exact State.within_refl _ _
    · refine State.within_ite ?_ ?_
      · refine State.put_within rfl (mem_block (b := 17) (by decide) (by decide)) ?_
        refine State.within.step State.modRef_within ?_ (by decide) (by decide)
        exact State.within_refl _ _
      · exact State.within_refl _ _
  · refine State.within_ite ?_ ?_
    · refine State.within.step State.refDeclare_within ?_ (by decide) (by decide)
      exact State.within_refl _ _
    · refine State.within_ite ?_ ?_
      · exact State.within_refl _ _
      · refine State.put_within rfl (mem_block (b := 17) (by decide) (by decide)) ?_
        refine State.within.step State.modRef_within ?_ (by decide) (by decide)
        exact State.within_refl _ _
  · refine State.within_ite ?_ ?_
    · refine State.within.step State.refDeclare_within ?_ (by decide) (by decide)
      exact State.within_refl _ _
    · refine State.within_ite ?_ ?_
      · exact State.within_refl _ _
      · refine State.put_within rfl (mem_block (b := 17) (by decide) (by decide)) ?_
        refine State.within.step State.modRef_within ?_ (by decide) (by decide)
        exact State.within_refl _ _
  · exact State.within_refl _ _

theorem heartbeatFrameStep_within {h : RidgeHdr} {hb : Heartbeat} {s : State} : s.within (heartbeatFrameStep h hb s) [.qcp, .ridge, .pair, .ptb, .out, .free] [17, 24, 25] := by
  unfold heartbeatFrameStep
  extract_lets x1 x2
  clear_value x1
  clear_value x2
  refine State.ringFrame_within (by decide) (by decide) (fun t3 ht3 => ?_) ?_
  · extract_lets x4 x5
    have hx4 : s.within x4 [.qcp, .ridge, .pair, .ptb, .out, .free] [17, 24, 25] := by
      unfold x4
      refine State.within.step State.modPair_within ?_ (by decide) (by decide)
      assumption
    clear_value x4
    have hx5 : s.within x5 [.qcp, .ridge, .pair, .ptb, .out, .free] [17, 24, 25] := by
      unfold x5
      refine State.within_ite ?_ ?_
      · refine State.within_ite ?_ ?_
        · refine State.within.step State.echoed_within ?_ (by decide) (by decide)
          assumption
        · refine State.within.step State.hostHeartbeat_within ?_ (by decide) (by decide)
          assumption
      · assumption
    clear_value x5
    refine State.within_ite ?_ ?_
    · refine State.within_ite ?_ ?_
      · refine State.within.step State.refEval_within ?_ (by decide) (by decide)
        refine State.within.step State.modRef_within ?_ (by decide) (by decide)
        assumption
      · refine State.within_ite ?_ ?_
        · refine State.within.step State.refEval_within ?_ (by decide) (by decide)
          refine State.within.step State.modRef_within ?_ (by decide) (by decide)
          assumption
        · assumption
    · assumption
  · exact State.within_refl _ _

theorem refLossDeclareStep_within {s : State} : s.within (refLossDeclareStep s) [.clk, .cyc, .ridge, .pair, .ptb, .out] [17, 24] := by
  unfold refLossDeclareStep
  extract_lets x1 x2 x3
  clear_value x1
  clear_value x2
  clear_value x3
  refine State.whenDo_within ?_ ?_
  · refine State.within.step State.refDeclare_within ?_ (by decide) (by decide)
    refine State.within.step State.at_within ?_ (by decide) (by decide)
    exact State.within_refl _ _
  · exact State.within_refl _ _

theorem revertHoldExpireStep_within {s : State} : s.within (revertHoldExpireStep s) [.clk, .cyc, .ridge, .pair, .ptb, .out] [17, 24] := by
  unfold revertHoldExpireStep
  refine State.whenDo_within ?_ ?_
  · extract_lets x2 x3 x4
    have hx2 : s.within x2 [.clk, .cyc, .ridge, .pair, .ptb, .out] [17, 24] := by
      unfold x2
      refine State.within.step State.at_within ?_ (by decide) (by decide)
      exact State.within_refl _ _
    clear_value x2
    clear_value x3
    clear_value x4
    refine State.put_within rfl (mem_block (b := 17) (by decide) (by decide)) ?_
    refine State.within.step State.modRef_within ?_ (by decide) (by decide)
    refine State.within.step State.sendPairCmd_within ?_ (by decide) (by decide)
    assumption
  · exact State.within_refl _ _

theorem State.acceptTake_within {s : State} {t : Ts} : s.within (State.acceptTake s t) [.pair] [17] := by
  unfold State.acceptTake
  refine State.within_ite ?_ ?_
  · refine State.within.step State.modPair_within ?_ (by decide) (by decide)
    exact State.within_refl _ _
  · refine State.countSat_within rfl (mem_block (b := 17) (by decide) (by decide)) ?_
    exact State.within_refl _ _

theorem State.schedule_within {s : State} {ts : Ts} {w : Ts} {incoming : Bool} : s.within (State.schedule s ts w incoming) [.pair] [17] := by
  unfold State.schedule
  refine State.put_within rfl (mem_block (b := 17) (by decide) (by decide)) ?_
  refine State.within.step State.modPair_within ?_ (by decide) (by decide)
  exact State.within_refl _ _

theorem State.endSwitchOp_within {s : State} {status : ℕ} : s.within (State.endSwitchOp s status) [.qcp, .pair, .ptb, .out] [24, 25] := by
  unfold State.endSwitchOp
  split
  · refine State.within.step State.complete_within ?_ (by decide) (by decide)
    refine State.within.step State.modPair_within ?_ (by decide) (by decide)
    exact State.within_refl _ _
  · exact State.within_refl _ _

theorem State.dropSwitch_within {s : State} : s.within (State.dropSwitch s) [.qcp, .pair, .ptb, .out] [17, 24, 25] := by
  unfold State.dropSwitch
  refine State.within.step State.endSwitchOp_within ?_ (by decide) (by decide)
  refine State.put_within rfl (mem_block (b := 17) (by decide) (by decide)) ?_
  refine State.within.step State.modPair_within ?_ (by decide) (by decide)
  exact State.within_refl _ _

theorem pairCmdStep_within {h : RidgeHdr} {pairId : BitVec 12} {cmd : BitVec 4} {target : BitVec 12} {cseq : BitVec 32} {w : BitVec 32} {s : State} : s.within (pairCmdStep h pairId cmd target cseq w s) [.ridge, .pair, .ptb, .out, .free] [17, 24] := by
  unfold pairCmdStep
  extract_lets x1
  clear_value x1
  refine State.ringFrame_within (by decide) (by decide) (fun t2 ht2 => ?_) ?_
  · refine State.within_ite ?_ ?_
    · assumption
    · split
      · refine State.within_ite ?_ ?_
        · refine State.within.step State.acceptTake_within ?_ (by decide) (by decide)
          assumption
        · refine State.within_ite ?_ ?_
          · refine State.within.step State.modPair_within ?_ (by decide) (by decide)
            assumption
          · assumption
      · refine State.within_ite ?_ ?_
        · refine State.within_ite ?_ ?_
          · refine State.within.step State.schedule_within ?_ (by decide) (by decide)
            assumption
          · assumption
        · refine State.within_ite ?_ ?_
          · refine State.within.step State.schedule_within ?_ (by decide) (by decide)
            assumption
          · assumption
      · assumption
  · exact State.within_refl _ _

theorem takeAtStep_within {t : Ts} {s : State} : s.within (takeAtStep t s) [.pair] [17] := by
  unfold takeAtStep
  refine State.whenDo_within ?_ ?_
  · refine State.within_ite ?_ ?_
    · refine State.within.step State.modPair_within ?_ (by decide) (by decide)
      exact State.within_refl _ _
    · refine State.within_ite ?_ ?_
      · refine State.within.step State.schedule_within ?_ (by decide) (by decide)
        exact State.within_refl _ _
      · exact State.within_refl _ _
  · exact State.within_refl _ _

theorem State.joinPort_within {s : State} {l : List Byte} {p : Port} : s.within (State.joinPort s l p).1 [.phs] [] := by
  unfold State.joinPort
  extract_lets x1 x2 x3
  clear_value x1
  clear_value x2
  clear_value x3
  dsimp only
  refine State.within.step State.setChans_within ?_ (by decide) (by decide)
  exact State.within_refl _ _

theorem State.joinAnchors_within {s : State} {l : List Byte} : s.within (State.joinAnchors s l) [.brl] [] := by
  unfold State.joinAnchors
  refine State.within_foldl (fun t1 y1 ht1 => ?_) ?_
  · extract_lets x2 x3 x4 x5
    clear_value x2
    clear_value x3
    clear_value x4
    clear_value x5
    refine State.within_upd (by intro c hc; cases c <;> first | rfl | exact absurd (by decide) hc) ?_
    assumption
  · exact State.within_refl _ _

theorem State.joinLevels_within {s : State} {l : List Byte} : s.within (State.joinLevels s l) [.phs, .brl, .pair] [] := by
  unfold State.joinLevels
  extract_lets x1 x2
  have hx1 : s.within x1.1 [.phs, .brl, .pair] [] := by
    unfold x1
    refine State.within.step State.joinPort_within ?_ (by decide) (by decide)
    exact State.within_refl _ _
  have hx2 : s.within x2.1 [.phs, .brl, .pair] [] := by
    unfold x2
    refine State.within.step State.joinPort_within ?_ (by decide) (by decide)
    assumption
  refine State.within.step State.modPair_within ?_ (by decide) (by decide)
  refine State.within.step State.joinAnchors_within ?_ (by decide) (by decide)
  assumption

theorem pairCycleBoundaryStep_within {s : State} : s.within (pairCycleBoundaryStep s) [.clk, .cyc, .grid, .pair, .ptb, .out] [17, 24] := by
  unfold pairCycleBoundaryStep
  extract_lets x1
  refine State.whenDo_within ?_ ?_
  · extract_lets x3 x4 x5 x6 x7
    have hx3 : s.within x3 [.clk, .cyc, .grid, .pair, .ptb, .out] [17, 24] := by
      unfold x3
      refine State.within.step State.at_within ?_ (by decide) (by decide)
      exact State.within_refl _ _
    clear_value x4
    have hx5 : s.within x5 [.clk, .cyc, .grid, .pair, .ptb, .out] [17, 24] := by
      unfold x5
      refine State.within_upd (by intro c hc; cases c <;> first | rfl | exact absurd (by decide) hc) ?_
      assumption
    clear_value x6
    clear_value x7
    refine State.within_ite ?_ ?_
    · refine State.within_foldl (fun t8 y8 ht8 => ?_) ?_
      · refine State.within.step State.sendPair_within ?_ (by decide) (by decide)
        assumption
      · refine State.put_within rfl (mem_block (b := 17) (by decide) (by decide)) ?_
        assumption
    · refine State.within.step State.modPair_within ?_ (by decide) (by decide)
      refine State.countSat_within rfl (mem_block (b := 17) (by decide) (by decide)) ?_
      assumption
  · exact State.within_refl _ _

theorem snapStep_within {offset : ℕ} {total : ℕ} {body : List Byte} {s : State} : s.within (snapStep offset total body s) [.phs, .brl, .pair] [17] := by
  unfold snapStep
  refine State.whenDo_within ?_ ?_
  · extract_lets x2 x3 x4 x5
    clear_value x2
    have hx3 : s.within x3 [.phs, .brl, .pair] [17] := by
      unfold x3
      refine State.within.step State.modPair_within ?_ (by decide) (by decide)
      exact State.within_refl _ _
    clear_value x3
    clear_value x4
    have hx5 : s.within x5 [.phs, .brl, .pair] [17] := by
      unfold x5
      refine State.puts_cons_within ?_
      refine State.puts_cons_within ?_
      refine State.puts_nil_within ?_
      refine State.put_within rfl (mem_block (b := 17) (by omega) (by decide)) ?_
      refine State.put_within rfl (mem_block (b := 17) (by decide) (by decide)) ?_
      refine State.within.step State.modPair_within ?_ (by decide) (by decide)
      assumption
    clear_value x5
    refine State.within_ite ?_ ?_
    · refine State.within_ite ?_ ?_
      · refine State.within.step State.joinLevels_within ?_ (by decide) (by decide)
        assumption
      · assumption
    · assumption
  · exact State.within_refl _ _

theorem State.pairEpoch_within {s : State} : s.within (State.pairEpoch s) [.grid, .power] [0] := by
  unfold State.pairEpoch
  extract_lets x1
  clear_value x1
  refine State.within.step State.issue_within ?_ (by decide) (by decide)
  refine State.within.step State.setEpoch_within ?_ (by decide) (by decide)
  exact State.within_refl _ _

theorem State.takeStream_within {s : State} {snap : List Byte} {matched : List Bool} {s0 : ℕ} {n : ℕ} {prime : Bool} : s.within (State.takeStream s snap matched s0 n prime) [.dec, .strm] [12] := by
  unfold State.takeStream
  extract_lets x1 x2 x3 x4 x5 x6 x7 x8 x9 x10 x11
  clear_value x1
  clear_value x2
  clear_value x3
  clear_value x4
  have hx5 : s.within x5 [.dec, .strm] [12] := by
    unfold x5
    refine State.within_ite ?_ ?_
    · refine State.within.step State.modFilt_within ?_ (by decide) (by decide)
      exact State.within_refl _ _
    · exact State.within_refl _ _
  clear_value x5
  clear_value x6
  clear_value x7
  clear_value x8
  clear_value x9
  clear_value x10
  clear_value x11
  split
  · assumption
  · extract_lets x12
    clear_value x12
    refine State.within.step State.modStr_within ?_ (by decide) (by decide)
    refine State.put_within rfl (mem_block (b := 12) (by omega) (by decide)) ?_
    assumption

theorem State.becomeActive_within {s : State} : s.within (State.becomeActive s) [.pair, .dmc] [0, 17, 21] := by
  unfold State.becomeActive
  refine State.put_within rfl (mem_block (b := 17) (by decide) (by decide)) ?_
  refine State.within.step State.enter_within ?_ (by decide) (by decide)
  refine State.within.step State.modPair_within ?_ (by decide) (by decide)
  exact State.within_refl _ _

theorem State.doTake_within {s : State} {at_ : Ts} : s.within (State.doTake s at_) [.grid, .phs, .dec, .qcp, .strm, .brl, .pair, .dmc, .ptb, .power, .out] [0, 12, 17, 21, 24, 25] := by
  unfold State.doTake
  extract_lets x1 x2 x3 x4 x5 x6 x7 x8 x9 x10 x11 x12 x13 x14 x15
  clear_value x1
  clear_value x2
  have hx3 : s.within x3.1 [.grid, .phs, .dec, .qcp, .strm, .brl, .pair, .dmc, .ptb, .power, .out] [0, 12, 17, 21, 24, 25] := by
    unfold x3
    refine State.within.step State.joinPort_within ?_ (by decide) (by decide)
    exact State.within_refl _ _
  have hx4 : s.within x4.1 [.grid, .phs, .dec, .qcp, .strm, .brl, .pair, .dmc, .ptb, .power, .out] [0, 12, 17, 21, 24, 25] := by
    unfold x4
    refine State.within.step State.joinPort_within ?_ (by decide) (by decide)
    assumption
  have hx5 : s.within x5 [.grid, .phs, .dec, .qcp, .strm, .brl, .pair, .dmc, .ptb, .power, .out] [0, 12, 17, 21, 24, 25] := by
    unfold x5
    refine State.within.step State.becomeActive_within ?_ (by decide) (by decide)
    refine State.within.step State.joinAnchors_within ?_ (by decide) (by decide)
    assumption
  clear_value x5
  clear_value x6
  clear_value x7
  clear_value x8
  clear_value x9
  have hx10 : s.within x10 [.grid, .phs, .dec, .qcp, .strm, .brl, .pair, .dmc, .ptb, .power, .out] [0, 12, 17, 21, 24, 25] := by
    unfold x10
    refine State.within_ite ?_ ?_
    · refine State.within.step State.reinit_within ?_ (by decide) (by decide)
      refine State.within.step State.reinit_within ?_ (by decide) (by decide)
      assumption
    · assumption
  clear_value x10
  have hx11 : s.within x11 [.grid, .phs, .dec, .qcp, .strm, .brl, .pair, .dmc, .ptb, .power, .out] [0, 12, 17, 21, 24, 25] := by
    unfold x11
    refine State.within_foldl (fun t16 y16 ht16 => ?_) ?_
    · refine State.within_ite ?_ ?_
      · refine State.within.step State.takeStream_within ?_ (by decide) (by decide)
        assumption
      · assumption
    · assumption
  clear_value x11
  have hx13 : s.within x13 [.grid, .phs, .dec, .qcp, .strm, .brl, .pair, .dmc, .ptb, .power, .out] [0, 12, 17, 21, 24, 25] := by
    unfold x13
    refine State.within.step State.modBrl_within ?_ (by decide) (by decide)
    refine State.within.step State.modBrl_within ?_ (by decide) (by decide)
    assumption
  clear_value x13
  clear_value x14
  have hx15 : s.within x15 [.grid, .phs, .dec, .qcp, .strm, .brl, .pair, .dmc, .ptb, .power, .out] [0, 12, 17, 21, 24, 25] := by
    unfold x15
    refine State.within.step State.modPair_within ?_ (by decide) (by decide)
    refine State.within_upd (by intro c hc; cases c <;> first | rfl | exact absurd (by decide) hc) ?_
    assumption
  clear_value x15
  refine State.within.step State.eventAll_within ?_ (by decide) (by decide)
  refine State.within.step State.pairEpoch_within ?_ (by decide) (by decide)
  refine State.count_within rfl (mem_block (b := 17) (by decide) (by decide)) ?_
  refine State.put_within rfl (mem_block (b := 17) (by decide) (by decide)) ?_
  assumption

theorem takeExecuteStep_within {s : State} : s.within (takeExecuteStep s) [.clk, .cyc, .grid, .phs, .dec, .qcp, .strm, .brl, .pair, .dmc, .ptb, .power, .out] [0, 3, 12, 17, 21, 24, 25] := by
  unfold takeExecuteStep
  extract_lets x1
  have hx1 : s.within x1 [.clk, .cyc, .grid, .phs, .dec, .qcp, .strm, .brl, .pair, .dmc, .ptb, .power, .out] [0, 3, 12, 17, 21, 24, 25] := by
    unfold x1
    split
    · extract_lets x2 x3
      have hx2 : s.within x2 [.clk, .cyc, .grid, .phs, .dec, .qcp, .strm, .brl, .pair, .dmc, .ptb, .power, .out] [0, 3, 12, 17, 21, 24, 25] := by
        unfold x2
        refine State.within.step State.at_within ?_ (by decide) (by decide)
        exact State.within_refl _ _
      clear_value x2
      have hx3 : s.within x3 [.clk, .cyc, .grid, .phs, .dec, .qcp, .strm, .brl, .pair, .dmc, .ptb, .power, .out] [0, 3, 12, 17, 21, 24, 25] := by
        unfold x3
        refine State.within.step State.dropSwitch_within ?_ (by decide) (by decide)
        refine State.within.step State.modPair_within ?_ (by decide) (by decide)
        assumption
      clear_value x3
      refine State.puts_cons_within ?_
      refine State.puts_cons_within ?_
      refine State.puts_nil_within ?_
      refine State.put_within rfl (mem_block (b := 3) (by decide) (by decide)) ?_
      refine State.put_within rfl (mem_block (b := 3) (by decide) (by decide)) ?_
      assumption
    · exact State.within_refl _ _
  clear_value x1
  split
  · refine State.within_ite ?_ ?_
    · refine State.within.step State.doTake_within ?_ (by decide) (by decide)
      refine State.within.step State.at_within ?_ (by decide) (by decide)
      assumption
    · refine State.within.step State.modPair_within ?_ (by decide) (by decide)
      assumption
  · assumption

theorem State.fence_within {s : State} : s.within (State.fence s) [.qcp, .pair, .ptb, .out] [3, 17, 24, 25] := by
  unfold State.fence
  refine State.within.step State.eventAll_within ?_ (by decide) (by decide)
  refine State.count_within rfl (mem_block (b := 17) (by decide) (by decide)) ?_
  refine State.put_within rfl (mem_block (b := 17) (by decide) (by decide)) ?_
  refine State.puts_cons_within ?_
  refine State.puts_cons_within ?_
  refine State.puts_nil_within ?_
  refine State.put_within rfl (mem_block (b := 3) (by decide) (by decide)) ?_
  refine State.put_within rfl (mem_block (b := 3) (by decide) (by decide)) ?_
  refine State.within.step State.modPair_within ?_ (by decide) (by decide)
  exact State.within_refl _ _

theorem fenceStep_within {s : State} : s.within (fenceStep s) [.clk, .cyc, .qcp, .pair, .ptb, .out] [3, 17, 24, 25] := by
  unfold fenceStep
  refine State.whenDo_within ?_ ?_
  · extract_lets x2 x3
    have hx2 : s.within x2 [.clk, .cyc, .qcp, .pair, .ptb, .out] [3, 17, 24, 25] := by
      unfold x2
      refine State.within.step State.at_within ?_ (by decide) (by decide)
      exact State.within_refl _ _
    clear_value x2
    clear_value x3
    refine State.within_ite ?_ ?_
    · refine State.within.step State.fence_within ?_ (by decide) (by decide)
      assumption
    · refine State.within_ite ?_ ?_
      · assumption
      · refine State.within.step State.eventAll_within ?_ (by decide) (by decide)
        refine State.put_within rfl (mem_block (b := 17) (by decide) (by decide)) ?_
        assumption
  · exact State.within_refl _ _

theorem partnerHeartbeatLossStep_within {s : State} : s.within (partnerHeartbeatLossStep s) [.clk, .cyc, .qcp, .pair, .ptb, .out] [3, 17, 24, 25] := by
  unfold partnerHeartbeatLossStep
  refine State.whenDo_within ?_ ?_
  · refine State.within.step State.fence_within ?_ (by decide) (by decide)
    refine State.within.step State.at_within ?_ (by decide) (by decide)
    exact State.within_refl _ _
  · exact State.within_refl _ _

theorem makeStartStep_within {s : State} : s.within (makeStartStep s) [.clk, .cyc, .grid, .dec, .qcp, .strm, .trg, .pair, .dmc, .ptb, .out] [0, 7, 12, 24, 25] := by
  unfold makeStartStep
  refine State.whenDo_within ?_ ?_
  · extract_lets x2 x3 x4 x5 x6 x7
    have hx2 : s.within x2 [.clk, .cyc, .grid, .dec, .qcp, .strm, .trg, .pair, .dmc, .ptb, .out] [0, 7, 12, 24, 25] := by
      unfold x2
      refine State.within.step State.at_within ?_ (by decide) (by decide)
      exact State.within_refl _ _
    clear_value x2
    clear_value x4
    clear_value x5
    have hx6 : s.within x6 [.clk, .cyc, .grid, .dec, .qcp, .strm, .trg, .pair, .dmc, .ptb, .out] [0, 7, 12, 24, 25] := by
      unfold x6
      refine State.within.step State.reinit_within ?_ (by decide) (by decide)
      refine State.within.step State.reinit_within ?_ (by decide) (by decide)
      assumption
    clear_value x6
    have hx7 : s.within x7 [.clk, .cyc, .grid, .dec, .qcp, .strm, .trg, .pair, .dmc, .ptb, .out] [0, 7, 12, 24, 25] := by
      unfold x7
      refine State.within_foldl (fun t8 y8 ht8 => ?_) ?_
      · refine State.within_ite ?_ ?_
        · refine State.within.step State.decRestart_within ?_ (by decide) (by decide)
          assumption
        · assumption
      · assumption
    clear_value x7
    refine State.within.step State.modPair_within ?_ (by decide) (by decide)
    assumption
  · exact State.within_refl _ _

theorem State.switchOut_within {s : State} {w : Switch} : s.within (State.switchOut s w) [.clk, .cyc, .qcp, .pair, .dmc, .ptb, .out] [0, 17, 21, 24, 25] := by
  unfold State.switchOut
  extract_lets x1 x2
  clear_value x1
  have hx2 : s.within x2 [.clk, .cyc, .qcp, .pair, .dmc, .ptb, .out] [0, 17, 21, 24, 25] := by
    unfold x2
    refine State.within.step State.endSwitchOp_within ?_ (by decide) (by decide)
    refine State.put_within rfl (mem_block (b := 17) (by decide) (by decide)) ?_
    refine State.within.step State.modPair_within ?_ (by decide) (by decide)
    refine State.within.step State.at_within ?_ (by decide) (by decide)
    exact State.within_refl _ _
  clear_value x2
  refine State.within_ite ?_ ?_
  · refine State.put_within rfl (mem_block (b := 17) (by decide) (by decide)) ?_
    refine State.within.step State.enter_within ?_ (by decide) (by decide)
    refine State.within.step State.modPair_within ?_ (by decide) (by decide)
    assumption
  · assumption

theorem State.switchIn_within {s : State} {w : Switch} : s.within (State.switchIn s w) [.clk, .cyc, .grid, .phs, .strm, .brl, .pair, .dmc, .power] [0, 17, 21] := by
  unfold State.switchIn
  extract_lets x1 x2 x3 x4 x5 x6
  clear_value x1
  have hx2 : s.within x2 [.clk, .cyc, .grid, .phs, .strm, .brl, .pair, .dmc, .power] [0, 17, 21] := by
    unfold x2
    refine State.put_within rfl (mem_block (b := 17) (by decide) (by decide)) ?_
    refine State.within.step State.modPair_within ?_ (by decide) (by decide)
    refine State.within.step State.at_within ?_ (by decide) (by decide)
    exact State.within_refl _ _
  clear_value x2
  have hx3 : s.within x3 [.clk, .cyc, .grid, .phs, .strm, .brl, .pair, .dmc, .power] [0, 17, 21] := by
    unfold x3
    refine State.within_ite ?_ ?_
    · split
      · refine State.within.step State.joinLevels_within ?_ (by decide) (by decide)
        assumption
      · assumption
    · assumption
  clear_value x3
  clear_value x4
  have hx5 : s.within x5 [.clk, .cyc, .grid, .phs, .strm, .brl, .pair, .dmc, .power] [0, 17, 21] := by
    unfold x5
    refine State.within_upd (by intro c hc; cases c <;> first | rfl | exact absurd (by decide) hc) ?_
    assumption
  clear_value x5
  have hx6 : s.within x6 [.clk, .cyc, .grid, .phs, .strm, .brl, .pair, .dmc, .power] [0, 17, 21] := by
    unfold x6
    refine State.within_foldl (fun t7 y7 ht7 => ?_) ?_
    · refine State.within.step State.modStr_within ?_ (by decide) (by decide)
      assumption
    · assumption
  clear_value x6
  refine State.within_ite ?_ ?_
  · assumption
  · refine State.within.step State.pairEpoch_within ?_ (by decide) (by decide)
    refine State.within.step State.becomeActive_within ?_ (by decide) (by decide)
    assumption

theorem switchInstantStep_within {s : State} : s.within (switchInstantStep s) [.clk, .cyc, .grid, .phs, .qcp, .strm, .brl, .pair, .dmc, .ptb, .power, .out] [0, 17, 21, 24, 25] := by
  unfold switchInstantStep
  extract_lets x1
  have hx1 : s.within x1 [.clk, .cyc, .grid, .phs, .qcp, .strm, .brl, .pair, .dmc, .ptb, .power, .out] [0, 17, 21, 24, 25] := by
    unfold x1
    split
    · refine State.within_ite ?_ ?_
      · refine State.within_ite ?_ ?_
        · refine State.within.step State.switchIn_within ?_ (by decide) (by decide)
          exact State.within_refl _ _
        · exact State.within_refl _ _
      · refine State.within_ite ?_ ?_
        · refine State.within.step State.switchOut_within ?_ (by decide) (by decide)
          exact State.within_refl _ _
        · refine State.within.step State.dropSwitch_within ?_ (by decide) (by decide)
          refine State.within.step State.at_within ?_ (by decide) (by decide)
          exact State.within_refl _ _
    · exact State.within_refl _ _
  clear_value x1
  split
  · refine State.within_ite ?_ ?_
    · refine State.puts_cons_within ?_
      refine State.puts_cons_within ?_
      refine State.puts_nil_within ?_
      refine State.put_within rfl (mem_block (b := 17) (by omega) (by decide)) ?_
      refine State.put_within rfl (mem_block (b := 17) (by decide) (by decide)) ?_
      refine State.within.step State.modRef_within ?_ (by decide) (by decide)
      assumption
    · assumption
  · assumption

theorem pairStatusBody_within {q : ReqHdr} {s : State} : s.within (pairStatusBody q s) [.qcp, .ptb, .out] [24, 25] := by
  unfold pairStatusBody
  refine State.within.step State.reply_within ?_ (by decide) (by decide)
  exact State.within_refl _ _

theorem refAttachBody_within {q : ReqHdr} {pairId : BitVec 12} {s : State} : s.within (refAttachBody q pairId s) [.qcp, .pair, .ptb, .out] [17, 24, 25] := by
  unfold refAttachBody
  refine State.checks_within (by decide) (by decide) (fun t1 ht1 => ?_) ?_
  · refine State.startLong_within (by decide) (by decide) (fun t2 ht2 => ?_) ?_
    · refine State.within.step State.complete_within ?_ (by decide) (by decide)
      refine State.within.step State.commitPoint_within ?_ (by decide) (by decide)
      refine State.put_within rfl (mem_block (b := 17) (by decide) (by decide)) ?_
      refine State.within.step State.modPair_within ?_ (by decide) (by decide)
      assumption
    · assumption
  · exact State.within_refl _ _

theorem refDetachBody_within {q : ReqHdr} {s : State} : s.within (refDetachBody q s) [.qcp, .pair, .ptb, .out] [17, 24, 25] := by
  unfold refDetachBody
  refine State.checks_within (by decide) (by decide) (fun t1 ht1 => ?_) ?_
  · refine State.within.step State.reply_within ?_ (by decide) (by decide)
    refine State.put_within rfl (mem_block (b := 17) (by decide) (by decide)) ?_
    refine State.within.step State.modPair_within ?_ (by decide) (by decide)
    assumption
  · exact State.within_refl _ _

theorem takeBody_within {q : ReqHdr} {s : State} : s.within (takeBody q s) [.qcp, .pair, .ptb, .out] [17, 24, 25] := by
  unfold takeBody
  beta_reduce
  refine State.within_ite ?_ ?_
  · refine State.countSat_within rfl (mem_block (b := 17) (by decide) (by decide)) ?_
    refine State.checks_within (by decide) (by decide) (fun t1 ht1 => ?_) ?_
    · extract_lets x2
      clear_value x2
      refine State.within.step State.reply_within ?_ (by decide) (by decide)
      refine State.within.step State.sendPair_within ?_ (by decide) (by decide)
      refine State.within.step State.acceptTake_within ?_ (by decide) (by decide)
      assumption
    · exact State.within_refl _ _
  · refine State.checks_within (by decide) (by decide) (fun t3 ht3 => ?_) ?_
    · extract_lets x4
      clear_value x4
      refine State.within.step State.reply_within ?_ (by decide) (by decide)
      refine State.within.step State.sendPair_within ?_ (by decide) (by decide)
      refine State.within.step State.acceptTake_within ?_ (by decide) (by decide)
      assumption
    · exact State.within_refl _ _

theorem switchBackBody_within {q : ReqHdr} {time : Ts} {s : State} : s.within (switchBackBody q time s) [.qcp, .pair, .ptb, .out] [17, 24, 25] := by
  unfold switchBackBody
  refine State.checks_within (by decide) (by decide) (fun t1 ht1 => ?_) ?_
  · refine State.startLong_within (by decide) (by decide) (fun t2 ht2 => ?_) ?_
    · refine State.within.step State.sendPair_within ?_ (by decide) (by decide)
      refine State.within.step State.modPair_within ?_ (by decide) (by decide)
      refine State.within.step State.schedule_within ?_ (by decide) (by decide)
      assumption
    · assumption
  · exact State.within_refl _ _

theorem execPairCycleBoundary_within {s : State} : s.withinC (execPairCycleBoundary s) [.clk, .cyc, .grid, .pair, .ptb, .out] [17, 24] := by
  unfold execPairCycleBoundary
  refine State.withinC_next ?_
  refine State.within.step pairCycleBoundaryStep_within ?_ (by decide) (by decide)
  exact State.within_refl _ _

theorem execPairStatus_within {q : ReqHdr} {s : State} : s.withinC (execPairStatus q s) [.qcp, .ptb, .out] [24, 25] := by
  unfold execPairStatus
  refine State.withinC_next ?_
  refine State.request_within (by decide) (by decide) (fun t1 ht1 => ?_) ?_
  · refine State.within.step pairStatusBody_within ?_ (by decide) (by decide)
    assumption
  · exact State.within_refl _ _

theorem execRefAttach_within {q : ReqHdr} {pairId : BitVec 12} {s : State} : s.withinC (execRefAttach q pairId s) [.qcp, .pair, .ptb, .out] [17, 24, 25] := by
  unfold execRefAttach
  refine State.withinC_next ?_
  refine State.request_within (by decide) (by decide) (fun t1 ht1 => ?_) ?_
  · refine State.within.step refAttachBody_within ?_ (by decide) (by decide)
    assumption
  · exact State.within_refl _ _

theorem execRefDetach_within {q : ReqHdr} {s : State} : s.withinC (execRefDetach q s) [.qcp, .pair, .ptb, .out] [17, 24, 25] := by
  unfold execRefDetach
  refine State.withinC_next ?_
  refine State.request_within (by decide) (by decide) (fun t1 ht1 => ?_) ?_
  · refine State.within.step refDetachBody_within ?_ (by decide) (by decide)
    assumption
  · exact State.within_refl _ _

theorem execTake_within {q : ReqHdr} {s : State} : s.withinC (execTake q s) [.qcp, .pair, .ptb, .out] [17, 24, 25] := by
  unfold execTake
  refine State.withinC_next ?_
  refine State.request_within (by decide) (by decide) (fun t1 ht1 => ?_) ?_
  · refine State.within.step takeBody_within ?_ (by decide) (by decide)
    assumption
  · exact State.within_refl _ _

theorem execSwitchBack_within {q : ReqHdr} {time : Ts} {s : State} : s.withinC (execSwitchBack q time s) [.qcp, .pair, .ptb, .out] [17, 24, 25] := by
  unfold execSwitchBack
  refine State.withinC_next ?_
  refine State.request_within (by decide) (by decide) (fun t1 ht1 => ?_) ?_
  · refine State.within.step switchBackBody_within ?_ (by decide) (by decide)
    assumption
  · exact State.within_refl _ _

theorem execHeartbeatFrame_within {h : RidgeHdr} {hb : Heartbeat} {s : State} : s.withinC (execHeartbeatFrame h hb s) [.qcp, .ridge, .pair, .ptb, .out, .free] [17, 24, 25] := by
  unfold execHeartbeatFrame
  refine State.withinC_next ?_
  refine State.within.step heartbeatFrameStep_within ?_ (by decide) (by decide)
  exact State.within_refl _ _

theorem execPairCmd_within {h : RidgeHdr} {pairId : BitVec 12} {cmd : BitVec 4} {target : BitVec 12} {cseq : BitVec 32} {w : BitVec 32} {s : State} : s.withinC (execPairCmd h pairId cmd target cseq w s) [.ridge, .pair, .ptb, .out, .free] [17, 24] := by
  unfold execPairCmd
  refine State.withinC_next ?_
  refine State.within.step pairCmdStep_within ?_ (by decide) (by decide)
  exact State.within_refl _ _

theorem execHealthUpdate_within {s : State} : s.withinC (execHealthUpdate s) [.pair, .dmc] [0, 17, 21] := by
  unfold execHealthUpdate
  refine State.withinC_next ?_
  refine State.within.step healthUpdateStep_within ?_ (by decide) (by decide)
  exact State.within_refl _ _

theorem execHeartbeatSend_within {s : State} : s.withinC (execHeartbeatSend s) [.qcp, .ridge, .pair, .ptb, .out] [24, 25] := by
  unfold execHeartbeatSend
  refine State.withinC_next ?_
  refine State.within.step heartbeatSendStep_within ?_ (by decide) (by decide)
  exact State.within_refl _ _

theorem execFence_within {s : State} : s.withinC (execFence s) [.clk, .cyc, .qcp, .pair, .ptb, .out] [3, 17, 24, 25] := by
  unfold execFence
  refine State.withinC_next ?_
  refine State.within.step fenceStep_within ?_ (by decide) (by decide)
  exact State.within_refl _ _

theorem execRefLossDeclare_within {s : State} : s.withinC (execRefLossDeclare s) [.clk, .cyc, .ridge, .pair, .ptb, .out] [17, 24] := by
  unfold execRefLossDeclare
  refine State.withinC_next ?_
  refine State.within.step refLossDeclareStep_within ?_ (by decide) (by decide)
  exact State.within_refl _ _

theorem execTakeExecute_within {s : State} : s.withinC (execTakeExecute s) [.clk, .cyc, .grid, .phs, .dec, .qcp, .strm, .brl, .pair, .dmc, .ptb, .power, .out] [0, 3, 12, 17, 21, 24, 25] := by
  unfold execTakeExecute
  refine State.withinC_next ?_
  refine State.within.step takeExecuteStep_within ?_ (by decide) (by decide)
  exact State.within_refl _ _

theorem execRevertHoldExpire_within {s : State} : s.withinC (execRevertHoldExpire s) [.clk, .cyc, .ridge, .pair, .ptb, .out] [17, 24] := by
  unfold execRevertHoldExpire
  refine State.withinC_next ?_
  refine State.within.step revertHoldExpireStep_within ?_ (by decide) (by decide)
  exact State.within_refl _ _

theorem execMakeStart_within {s : State} : s.withinC (execMakeStart s) [.clk, .cyc, .grid, .dec, .qcp, .strm, .trg, .pair, .dmc, .ptb, .out] [0, 7, 12, 24, 25] := by
  unfold execMakeStart
  refine State.withinC_next ?_
  refine State.within.step makeStartStep_within ?_ (by decide) (by decide)
  exact State.within_refl _ _

theorem execSwitchInstant_within {s : State} : s.withinC (execSwitchInstant s) [.clk, .cyc, .grid, .phs, .qcp, .strm, .brl, .pair, .dmc, .ptb, .power, .out] [0, 17, 21, 24, 25] := by
  unfold execSwitchInstant
  refine State.withinC_next ?_
  refine State.within.step switchInstantStep_within ?_ (by decide) (by decide)
  exact State.within_refl _ _

theorem execPairIdle_within {s : State} : s.withinC (execPairIdle s) [] [] := by
  unfold execPairIdle
  refine State.withinC_next ?_
  refine State.within.step pairIdleStep_within ?_ (by decide) (by decide)
  exact State.within_refl _ _

theorem execPairHb_within {health : BitVec 12} {s : State} : s.withinC (execPairHb health s) [.qcp, .pair] [] := by
  unfold execPairHb
  refine State.withinC_next ?_
  refine State.within.step pairHbStep_within ?_ (by decide) (by decide)
  exact State.within_refl _ _

theorem execPairCfgFrame_within {tsw : ℕ} {nslot : ℕ} {alignMod : Ts} {ch : BitVec 8} {node : BitVec 12} {s : State} : s.withinC (execPairCfgFrame tsw nslot alignMod ch node s) [.pat, .qcp, .pair, .ptb, .out] [17, 24, 25] := by
  unfold execPairCfgFrame
  refine State.withinC_next ?_
  refine State.within.step pairCfgFrameStep_within ?_ (by decide) (by decide)
  exact State.within_refl _ _

theorem execSnap_within {offset : ℕ} {total : ℕ} {body : List Byte} {s : State} : s.withinC (execSnap offset total body s) [.phs, .brl, .pair] [17] := by
  unfold execSnap
  refine State.withinC_next ?_
  refine State.within.step snapStep_within ?_ (by decide) (by decide)
  exact State.within_refl _ _

theorem execFinalSeq_within {seqs : List (Fin 64 × BitVec 32)} {s : State} : s.withinC (execFinalSeq seqs s) [.dec, .qcp, .strm, .dmc, .ptb, .out] [0, 7, 12, 24, 25] := by
  unfold execFinalSeq
  refine State.withinC_next ?_
  refine State.within.step finalSeqStep_within ?_ (by decide) (by decide)
  exact State.within_refl _ _

theorem execTakeAt_within {time : Ts} {s : State} : s.withinC (execTakeAt time s) [.pair] [17] := by
  unfold execTakeAt
  refine State.withinC_next ?_
  refine State.within.step takeAtStep_within ?_ (by decide) (by decide)
  exact State.within_refl _ _

theorem execPairHbSend_within {s : State} : s.withinC (execPairHbSend s) [.pair, .ptb, .out] [24] := by
  unfold execPairHbSend
  refine State.withinC_next ?_
  refine State.within.step pairHbSendStep_within ?_ (by decide) (by decide)
  exact State.within_refl _ _

theorem execPairLinkDown_within {s : State} : s.withinC (execPairLinkDown s) [.qcp, .ptb, .out] [17, 24, 25] := by
  unfold execPairLinkDown
  refine State.withinC_next ?_
  refine State.within.step pairLinkDownStep_within ?_ (by decide) (by decide)
  exact State.within_refl _ _

theorem execPairLinkUp_within {s : State} : s.withinC (execPairLinkUp s) [.qcp, .ptb, .out] [17, 24, 25] := by
  unfold execPairLinkUp
  refine State.withinC_next ?_
  refine State.within.step pairLinkUpStep_within ?_ (by decide) (by decide)
  exact State.within_refl _ _

theorem execPartnerHeartbeatLoss_within {s : State} : s.withinC (execPartnerHeartbeatLoss s) [.clk, .cyc, .qcp, .pair, .ptb, .out] [3, 17, 24, 25] := by
  unfold execPartnerHeartbeatLoss
  refine State.withinC_next ?_
  refine State.within.step partnerHeartbeatLossStep_within ?_ (by decide) (by decide)
  exact State.within_refl _ _

end Sys2Proof.Machine
end

