-- ==== Sys2Proof/Laws/WithinField.lean ====
section
/-! SUPPORT. For each operation of the instrument island, its link and its conversions: which components and which register blocks it may change. -/

namespace Sys2Proof.Machine

theorem State.modIsl_within {s : State} {f : Island → Island} : s.within (State.modIsl s f) [.isl] [] := by
  unfold State.modIsl
  refine State.within_upd (by intro c hc; cases c <;> first | rfl | exact absurd (by decide) hc) ?_
  exact State.within_refl _ _

theorem State.toIsl_within {s : State} {m : BarMsg} : s.within (State.toIsl s m) [.isl, .ptb, .out] [24] := by
  unfold State.toIsl
  refine State.within_ite ?_ ?_
  · refine State.within.step State.modIsl_within ?_ (by decide) (by decide)
    refine State.within.step State.emit_within ?_ (by decide) (by decide)
    exact State.within_refl _ _
  · exact State.within_refl _ _

theorem State.fromIsl_within {s : State} {m : BarMsg} : s.within (State.fromIsl s m) [.isl, .ptb, .out] [24] := by
  unfold State.fromIsl
  refine State.within.step State.modIsl_within ?_ (by decide) (by decide)
  refine State.within.step State.emit_within ?_ (by decide) (by decide)
  exact State.within_refl _ _

theorem State.heard_within {s0 s : State} {K : List Comp} {B : List Nat} {f : State → State} (hk : [.light] ⊆ K) (hb : [18, 3] ⊆ B)
    (hf : ∀ t, s0.within t K B → s0.within (f t) K B) (h : s0.within s K B) : s0.within (s.heard f) K B := by
  have h1 : s0.within (s.put FLD_STATUS.UP 1) K B := State.put_within rfl (mem_block (b := 18) (by decide) (hb (by decide))) h
  refine State.whenDo_within (hf _ (State.within_ite ?_ h1)) h
  refine State.settleClamp_within.step ?_ (by simp) (fun c hc => hb (by revert hc c; decide))
  refine State.within_upd (by intro c hc; cases c <;> first | rfl | exact absurd (hk (by decide)) hc) ?_
  exact h1

theorem State.onIsl_within {s0 s : State} {K : List Comp} {B : List Nat} {f : State → State} (hf : ∀ t, s0.within t K B → s0.within (f t) K B)
    (h : s0.within s K B) : s0.within (s.onIsl f) K B := State.whenDo_within (hf _ h) h

theorem State.sendCfgWord_within {s : State} {off : ℕ} : s.within (State.sendCfgWord s off) [.isl, .ptb, .out] [24] := by
  unfold State.sendCfgWord
  extract_lets x1 x2
  clear_value x1
  clear_value x2
  refine State.within.step State.toIsl_within ?_ (by decide) (by decide)
  refine State.within.step State.modIsl_within ?_ (by decide) (by decide)
  exact State.within_refl _ _

theorem State.setFld_within {s : State} {r : Rounds} : s.within (State.setFld s r) [.isl] [18] := by
  unfold State.setFld
  refine State.puts_cons_within ?_
  refine State.puts_cons_within ?_
  refine State.puts_nil_within ?_
  refine State.put_within rfl (mem_block (b := 18) (by omega) (by decide)) ?_
  refine State.put_within rfl (mem_block (b := 18) (by omega) (by decide)) ?_
  refine State.within.step State.modIsl_within ?_ (by decide) (by decide)
  exact State.within_refl _ _

theorem State.bufPut_within {s : State} {ch : ℕ} {r : BufRec} : s.within (State.bufPut s ch r) [.isl] [] := by
  unfold State.bufPut
  refine State.within.step State.modIsl_within ?_ (by decide) (by decide)
  exact State.within_refl _ _

theorem State.bufGap_within {s : State} {start : Ts} : s.within (State.bufGap s start) [.isl] [] := by
  unfold State.bufGap
  refine State.within_foldl (fun t1 y1 ht1 => ?_) ?_
  · refine State.within_ite ?_ ?_
    · assumption
    · refine State.within.step State.bufPut_within ?_ (by decide) (by decide)
      assumption
  · exact State.within_refl _ _

theorem State.fldReg_within {s : State} : s.within (State.fldReg s) [.isl, .free] [18] := by
  unfold State.fldReg
  extract_lets x1
  clear_value x1
  refine State.within_ite ?_ ?_
  · refine State.countSat_within rfl (mem_block (b := 18) (by decide) (by decide)) ?_
    exact State.within_refl _ _
  · refine State.within.step State.setFld_within ?_ (by decide) (by decide)
    refine State.drew_within (by decide) ?_
    exact State.within_refl _ _

theorem State.fldInj_within {s : State} : s.within (State.fldInj s) [.isl] [18] := by
  unfold State.fldInj
  extract_lets x1
  clear_value x1
  refine State.within_ite ?_ ?_
  · refine State.countSat_within rfl (mem_block (b := 18) (by decide) (by decide)) ?_
    exact State.within_refl _ _
  · refine State.puts_map_within (fun _ => mem_fld (b := 18) rfl (by omega) (by decide)) ?_
    refine State.within.step State.setFld_within ?_ (by decide) (by decide)
    refine State.within.step State.modIsl_within ?_ (by decide) (by decide)
    exact State.within_refl _ _

theorem State.fldStarts_within {s : State} {regular : Bool} {injected : Bool} : s.within (State.fldStarts s regular injected) [.isl, .free] [18] := by
  unfold State.fldStarts
  extract_lets x1
  have hx1 : s.within x1 [.isl, .free] [18] := by
    unfold x1
    refine State.within_ite ?_ ?_
    · refine State.within.step State.fldInj_within ?_ (by decide) (by decide)
      exact State.within_refl _ _
    · exact State.within_refl _ _
  clear_value x1
  refine State.within_ite ?_ ?_
  · refine State.within.step State.fldReg_within ?_ (by decide) (by decide)
    assumption
  · assumption

theorem State.fldAbandon_within {s : State} : s.within (State.fldAbandon s) [.isl] [18] := by
  unfold State.fldAbandon
  extract_lets x1
  have hx1 : s.within x1 [.isl] [18] := by
    unfold x1
    split
    · refine State.within_ite ?_ ?_
      · refine State.within.step State.bufGap_within ?_ (by decide) (by decide)
        exact State.within_refl _ _
      · exact State.within_refl _ _
    · exact State.within_refl _ _
  clear_value x1
  refine State.within.step State.setFld_within ?_ (by decide) (by decide)
  assumption

theorem State.fieldEvt_within {s : State} {code : ℕ} : s.within (State.fieldEvt s code) [.isl, .ptb, .out] [24] := by
  unfold State.fieldEvt
  extract_lets x1 x2
  clear_value x1
  clear_value x2
  refine State.within_ite ?_ ?_
  · refine State.within.step State.toIsl_within ?_ (by decide) (by decide)
    exact State.within_refl _ _
  · exact State.within_refl _ _

theorem State.fldSw_within {s : State} : s.within (State.fldSw s) [.isl, .ptb, .out] [18, 24] := by
  unfold State.fldSw
  refine State.within.step State.toIsl_within ?_ (by decide) (by decide)
  refine State.puts_map_within (fun _ => mem_fld (b := 18) rfl (by omega) (by decide)) ?_
  exact State.within_refl _ _

theorem State.entryMoved_within {s : State} {e : ℕ} {chans : List ℕ} : s.within (State.entryMoved s e chans) [.isl] [18] := by
  unfold State.entryMoved
  refine State.within_ite ?_ ?_
  · refine State.put_within rfl (mem_block (b := 18) (by omega) (by decide)) ?_
    exact State.within_refl _ _
  · refine State.within_foldl (fun t1 y1 ht1 => ?_) ?_
    · refine State.put_within rfl (mem_block (b := 18) (by omega) (by decide)) ?_
      refine State.within.step State.modIsl_within ?_ (by decide) (by decide)
      assumption
    · exact State.within_refl _ _

theorem cfgStep_within {off : ℕ} {value : Word} {s : State} : s.within (cfgStep off value s) [.isl, .free] [18] := by
  unfold cfgStep
  refine State.onIsl_within (fun t1 ht1 => ?_) ?_
  · refine State.within_ite ?_ ?_
    · assumption
    · extract_lets x2 x3 x4 x5 x6 x7 x8 x9 x10 x11
      clear_value x2
      clear_value x3
      clear_value x4
      clear_value x5
      have hx6 : s.within x6 [.isl, .free] [18] := by
        unfold x6
        refine State.within_ite ?_ ?_
        · refine State.within.step State.fldAbandon_within ?_ (by decide) (by decide)
          assumption
        · assumption
      clear_value x6
      have hx7 : s.within x7 [.isl, .free] [18] := by
        unfold x7
        refine State.within.step State.modIsl_within ?_ (by decide) (by decide)
        assumption
      clear_value x7
      have hx8 : s.within x8 [.isl, .free] [18] := by
        unfold x8
        refine State.within_ite ?_ ?_
        · refine State.within.step State.entryMoved_within ?_ (by decide) (by decide)
          refine State.within.step State.modIsl_within ?_ (by decide) (by decide)
          assumption
        · refine State.within_ite ?_ ?_
          · refine State.within.step State.modIsl_within ?_ (by decide) (by decide)
            assumption
          · assumption
      clear_value x8
      clear_value x9
      clear_value x10
      have hx11 : s.within x11 [.isl, .free] [18] := by
        unfold x11
        refine State.within_ite ?_ ?_
        · refine State.put_within rfl (mem_block (b := 18) (by decide) (by decide)) ?_
          refine State.within.step State.modIsl_within ?_ (by decide) (by decide)
          assumption
        · assumption
      clear_value x11
      refine State.within_ite ?_ ?_
      · refine State.within.step State.fldReg_within ?_ (by decide) (by decide)
        assumption
      · assumption
  · exact State.within_refl _ _

theorem cmdStep_within {regular : Bool} {injected : Bool} {s : State} : s.within (cmdStep regular injected s) [.isl, .free] [18] := by
  unfold cmdStep
  refine State.onIsl_within (fun t1 ht1 => ?_) ?_
  · refine State.within.step State.fldStarts_within ?_ (by decide) (by decide)
    assumption
  · exact State.within_refl _ _

theorem foutStep_within {mask : ℕ} {s : State} : s.within (foutStep mask s) [] [18] := by
  unfold foutStep
  refine State.onIsl_within (fun t1 ht1 => ?_) ?_
  · refine State.puts_cons_within ?_
    refine State.puts_cons_within ?_
    refine State.puts_nil_within ?_
    refine State.put_within rfl (mem_block (b := 18) (by decide) (by decide)) ?_
    refine State.put_within rfl (mem_block (b := 18) (by omega) (by decide)) ?_
    assumption
  · exact State.within_refl _ _

theorem hbStep_within {s : State} : s.within (hbStep s) [.isl] [] := by
  unfold hbStep
  refine State.onIsl_within (fun t1 ht1 => ?_) ?_
  · refine State.within.step State.modIsl_within ?_ (by decide) (by decide)
    assumption
  · exact State.within_refl _ _

theorem tsyncStep_within {s : State} : s.within (tsyncStep s) [.isl, .ptb, .out, .free] [24] := by
  unfold tsyncStep
  refine State.onIsl_within (fun t1 ht1 => ?_) ?_
  · refine State.drew_within (by decide) ?_
    refine State.within.step State.fromIsl_within ?_ (by decide) (by decide)
    assumption
  · exact State.within_refl _ _

theorem bufreqStep_within {ch : ℕ} {first : ℕ} {count : ℕ} {s : State} : s.within (bufreqStep ch first count s) [.isl, .ptb, .out, .free] [24] := by
  unfold bufreqStep
  refine State.onIsl_within (fun t1 ht1 => ?_) ?_
  · extract_lets x2
    clear_value x2
    refine State.within_foldl (fun t3 y3 ht3 => ?_) ?_
    · extract_lets x4
      refine State.drew_within (by decide) ?_
      refine State.within.step State.fromIsl_within ?_ (by decide) (by decide)
      assumption
    · assumption
  · exact State.within_refl _ _

theorem State.finNow_within {s : State} {states : ℕ} {tick : ℕ} : s.within (State.finNow s states tick) [.trg, .free] [18] := by
  unfold State.finNow
  extract_lets x1 x2
  clear_value x1
  clear_value x2
  refine State.within_foldl (fun t3 y3 ht3 => ?_) ?_
  · extract_lets x4
    clear_value x4
    refine State.within_ite ?_ ?_
    · assumption
    · refine State.within.step State.trgOffer_within ?_ (by decide) (by decide)
      assumption
  · refine State.drew_within (by decide) ?_
    refine State.put_within rfl (mem_block (b := 18) (by decide) (by decide)) ?_
    exact State.within_refl _ _

theorem ilkStep_within {closed : Bool} {tick : ℕ} {s : State} : s.within (ilkStep closed tick s) [.light, .trg, .mon, .dmc, .free] [0, 3, 18, 19, 21] := by
  unfold ilkStep
  refine State.heard_within (by decide) (by decide) (fun t1 ht1 => ?_) ?_
  · refine State.within.step State.fin0_within ?_ (by decide) (by decide)
    refine State.within.step State.finNow_within ?_ (by decide) (by decide)
    assumption
  · exact State.within_refl _ _

theorem finStep_within {states : ℕ} {tick : ℕ} {s : State} : s.within (finStep states tick s) [.light, .trg, .free] [3, 18] := by
  unfold finStep
  refine State.heard_within (by decide) (by decide) (fun t1 ht1 => ?_) ?_
  · refine State.within.step State.finNow_within ?_ (by decide) (by decide)
    assumption
  · exact State.within_refl _ _

theorem statusStep_within {flags : Word} {vin : ℕ} {echo : ℕ} {crcerr : ℕ} {badmsg : ℕ} {s : State} : s.within (statusStep flags vin echo crcerr badmsg s) [.light, .isl, .ptb, .out] [3, 18, 24] := by
  unfold statusStep
  refine State.heard_within (by decide) (by decide) (fun t1 ht1 => ?_) ?_
  · extract_lets x2 x3 x4
    have hx2 : s.within x2 [.light, .isl, .ptb, .out] [3, 18, 24] := by
      unfold x2
      refine State.puts_cons_within ?_
      refine State.puts_cons_within ?_
      refine State.puts_cons_within ?_
      refine State.puts_cons_within ?_
      refine State.puts_cons_within ?_
      refine State.puts_cons_within ?_
      refine State.puts_cons_within ?_
      refine State.puts_cons_within ?_
      refine State.puts_nil_within ?_
      refine State.put_within rfl (mem_block (b := 18) (by omega) (by decide)) ?_
      refine State.put_within rfl (mem_block (b := 18) (by omega) (by decide)) ?_
      refine State.put_within rfl (mem_block (b := 18) (by omega) (by decide)) ?_
      refine State.put_within rfl (mem_block (b := 18) (by omega) (by decide)) ?_
      refine State.put_within rfl (mem_block (b := 18) (by omega) (by decide)) ?_
      refine State.put_within rfl (mem_block (b := 18) (by omega) (by decide)) ?_
      refine State.put_within rfl (mem_block (b := 18) (by omega) (by decide)) ?_
      refine State.put_within rfl (mem_block (b := 18) (by omega) (by decide)) ?_
      assumption
    clear_value x2
    clear_value x3
    have hx4 : s.within x4 [.light, .isl, .ptb, .out] [3, 18, 24] := by
      unfold x4
      refine State.within.step State.modIsl_within ?_ (by decide) (by decide)
      assumption
    clear_value x4
    refine State.within_ite ?_ ?_
    · refine State.within_foldl (fun t5 y5 ht5 => ?_) ?_
      · refine State.within.step State.sendCfgWord_within ?_ (by decide) (by decide)
        assumption
      · assumption
    · assumption
  · exact State.within_refl _ _

theorem tickStep_within {tick : ℕ} {s : State} : s.within (tickStep tick s) [.light, .isl] [3, 18] := by
  unfold tickStep
  refine State.heard_within (by decide) (by decide) (fun t1 ht1 => ?_) ?_
  · refine State.within.step State.modIsl_within ?_ (by decide) (by decide)
    assumption
  · exact State.within_refl _ _

theorem bufdataStep_within {ch : ℕ} {index : ℕ} {rec0 : Word} {rec1 : Word} {s : State} : s.within (bufdataStep ch index rec0 rec1 s) [.light, .isl] [3, 18] := by
  unfold bufdataStep
  refine State.heard_within (by decide) (by decide) (fun t1 ht1 => ?_) ?_
  · refine State.within.step State.modIsl_within ?_ (by decide) (by decide)
    assumption
  · exact State.within_refl _ _

theorem barrierFrameErrorStep_within {toIsland : Bool} {badCrc : Bool} {s : State} : s.within (barrierFrameErrorStep toIsland badCrc s) [] [18] := by
  unfold barrierFrameErrorStep
  refine State.onIsl_within (fun t1 ht1 => State.countSat_any ?_ ht1) (State.within_refl _ _)
  cases toIsland <;> cases badCrc <;> exact mem_fld (b := 18) rfl (by decide) (by decide)

theorem ilkSendStep_within {s : State} : s.within (ilkSendStep s) [.isl, .ptb, .out, .free] [24] := by
  unfold ilkSendStep
  refine State.onIsl_within (fun t1 ht1 => ?_) ?_
  · refine State.drew_within (by decide) ?_
    refine State.within.step State.fromIsl_within ?_ (by decide) (by decide)
    assumption
  · exact State.within_refl _ _

theorem tsyncSendStep_within {s : State} : s.within (tsyncSendStep s) [.isl, .ptb, .out] [24] := by
  unfold tsyncSendStep
  refine State.onIsl_within (fun t1 ht1 => ?_) ?_
  · refine State.within.step State.toIsl_within ?_ (by decide) (by decide)
    refine State.within.step State.modIsl_within ?_ (by decide) (by decide)
    assumption
  · exact State.within_refl _ _

theorem State.updFldRef_within {s : State} : s.within (State.updFldRef s) [] [18] := by
  unfold State.updFldRef
  refine State.within_ite ?_ ?_
  · refine State.put_within rfl (mem_block (b := 18) (by decide) (by decide)) ?_
    exact State.within_refl _ _
  · exact State.within_refl _ _

theorem State.sendStatus_within {s : State} : s.within (State.sendStatus s) [.isl, .ptb, .out] [24] := by
  unfold State.sendStatus
  refine State.within.step State.fromIsl_within ?_ (by decide) (by decide)
  exact State.within_refl _ _

theorem State.islOff_within {s : State} : s.within (State.islOff s) [.isl] [18] := by
  unfold State.islOff
  refine State.puts_cons_within ?_
  refine State.puts_cons_within ?_
  refine State.puts_cons_within ?_
  refine State.puts_cons_within ?_
  refine State.puts_cons_within ?_
  refine State.puts_cons_within ?_
  refine State.puts_nil_within ?_
  refine State.put_within rfl (mem_block (b := 18) (by decide) (by decide)) ?_
  refine State.put_within rfl (mem_block (b := 18) (by decide) (by decide)) ?_
  refine State.put_within rfl (mem_block (b := 18) (by decide) (by decide)) ?_
  refine State.put_within rfl (mem_block (b := 18) (by decide) (by decide)) ?_
  refine State.put_within rfl (mem_block (b := 18) (by decide) (by decide)) ?_
  refine State.put_within rfl (mem_block (b := 18) (by decide) (by decide)) ?_
  refine State.within_upd (by intro c hc; cases c <;> first | rfl | exact absurd (by decide) hc) ?_
  exact State.within_refl _ _

theorem islandStartStep_within {s : State} : s.within (islandStartStep s) [.isl, .ptb, .out] [18, 24] := by
  unfold islandStartStep
  refine State.whenDo_within ?_ ?_
  · refine State.within.step State.sendStatus_within ?_ (by decide) (by decide)
    refine State.within.step State.modIsl_within ?_ (by decide) (by decide)
    refine State.within.step State.islOff_within ?_ (by decide) (by decide)
    exact State.within_refl _ _
  · exact State.within_refl _ _

theorem fin0ChangeStep_within {closed : Bool} {tick : ℕ} {s : State} : s.within (fin0ChangeStep closed tick s) [.isl, .ptb, .out] [24] := by
  unfold fin0ChangeStep
  refine State.onIsl_within (fun t1 ht1 => ?_) ?_
  · refine State.within.step State.fromIsl_within ?_ (by decide) (by decide)
    refine State.within.step State.modIsl_within ?_ (by decide) (by decide)
    assumption
  · exact State.within_refl _ _

theorem finDebouncedStep_within {input : ℕ} {closed : Bool} {tick : ℕ} {s : State} : s.within (finDebouncedStep input closed tick s) [.isl, .ptb, .out, .free] [18, 24] := by
  unfold finDebouncedStep
  refine State.onIsl_within (fun t1 ht1 => ?_) ?_
  · extract_lets x2 x3
    clear_value x2
    have hx3 : s.within x3 [.isl, .ptb, .out, .free] [18, 24] := by
      unfold x3
      refine State.within.step State.fromIsl_within ?_ (by decide) (by decide)
      refine State.within.step State.modIsl_within ?_ (by decide) (by decide)
      assumption
    clear_value x3
    refine State.within.step State.fldStarts_within ?_ (by decide) (by decide)
    assumption
  · exact State.within_refl _ _

theorem hostlossStep_within {s : State} : s.within (hostlossStep s) [.clk, .cyc, .isl, .ptb, .out] [18, 24] := by
  unfold hostlossStep
  refine State.onIsl_within (fun t1 ht1 => ?_) ?_
  · refine State.within.step State.sendStatus_within ?_ (by decide) (by decide)
    refine State.puts_cons_within ?_
    refine State.puts_cons_within ?_
    refine State.puts_nil_within ?_
    refine State.put_within rfl (mem_block (b := 18) (by decide) (by decide)) ?_
    refine State.put_within rfl (mem_block (b := 18) (by decide) (by decide)) ?_
    refine State.within.step State.atCyc_within ?_ (by decide) (by decide)
    assumption
  · exact State.within_refl _ _

theorem foutOvercurrentStep_within {n : ℕ} {s : State} : s.within (foutOvercurrentStep n s) [.isl, .ptb, .out] [18, 24] := by
  unfold foutOvercurrentStep
  refine State.whenDo_within ?_ ?_
  · refine State.within.step State.sendStatus_within ?_ (by decide) (by decide)
    refine State.puts_cons_within ?_
    refine State.puts_cons_within ?_
    refine State.puts_nil_within ?_
    refine State.put_within rfl (mem_block (b := 18) (by omega) (by decide)) ?_
    refine State.put_within rfl (mem_block (b := 18) (by omega) (by decide)) ?_
    exact State.within_refl _ _
  · exact State.within_refl _ _

theorem excLimitStep_within {n : ℕ} {s : State} : s.within (excLimitStep n s) [.isl, .ptb, .out] [18, 24] := by
  unfold excLimitStep
  refine State.whenDo_within ?_ ?_
  · refine State.within.step State.sendStatus_within ?_ (by decide) (by decide)
    refine State.put_within rfl (mem_block (b := 18) (by decide) (by decide)) ?_
    exact State.within_refl _ _
  · exact State.within_refl _ _

theorem excSettleExpireStep_within {s : State} : s.within (excSettleExpireStep s) [.isl] [18] := by
  unfold excSettleExpireStep
  refine State.whenDo_within ?_ ?_
  · refine State.within.step State.modIsl_within ?_ (by decide) (by decide)
    refine State.put_within rfl (mem_block (b := 18) (by decide) (by decide)) ?_
    exact State.within_refl _ _
  · exact State.within_refl _ _

theorem State.fldAdvance_within {s : State} {injected : Bool} {r : Round} {e : ℕ} {qual : ℕ} {value : ℤ} : s.within (State.fldAdvance s injected r e qual value) [.isl, .free] [18] := by
  unfold State.fldAdvance
  extract_lets x1 x2 x3 x4 x5 x6
  clear_value x1
  clear_value x2
  clear_value x3
  have hx4 : s.within x4 [.isl, .free] [18] := by
    unfold x4
    refine State.within_ite ?_ ?_
    · refine State.within.step State.bufPut_within ?_ (by decide) (by decide)
      exact State.within_refl _ _
    · exact State.within_refl _ _
  clear_value x4
  clear_value x5
  have hx6 : s.within x6 [.isl, .free] [18] := by
    unfold x6
    refine State.within.step State.setFld_within ?_ (by decide) (by decide)
    assumption
  clear_value x6
  refine State.within_ite ?_ ?_
  · refine State.within.step State.setFld_within ?_ (by decide) (by decide)
    refine State.within.step State.modIsl_within ?_ (by decide) (by decide)
    exact State.within_refl _ _
  · refine State.within_ite ?_ ?_
    · refine State.within.step State.fldReg_within ?_ (by decide) (by decide)
      assumption
    · assumption

theorem fieldConversionStep_within {c : FieldConv} {s : State} : s.within (fieldConversionStep c s) [.isl, .ptb, .out, .free] [18, 24] := by
  unfold fieldConversionStep
  extract_lets x1 x2 x3
  clear_value x1
  clear_value x2
  clear_value x3
  split
  · exact State.within_refl _ _
  · extract_lets x4 x5 x6 x7 x8 x9 x10 x11 x12 x13 x14 x15 x16 x17 x18 x19 x20 x21 x22 x23 x24
    clear_value x4
    clear_value x5
    clear_value x6
    clear_value x7
    clear_value x8
    clear_value x9
    clear_value x10
    clear_value x11
    clear_value x12
    clear_value x13
    clear_value x14
    clear_value x15
    clear_value x16
    clear_value x17
    clear_value x18
    clear_value x19
    clear_value x20
    have hx21 : s.within x21 [.isl, .ptb, .out, .free] [18, 24] := by
      unfold x21
      refine State.within.step State.modIsl_within ?_ (by decide) (by decide)
      refine State.drew_within (by decide) ?_
      exact State.within_refl _ _
    clear_value x21
    have hx22 : s.within x22 [.isl, .ptb, .out, .free] [18, 24] := by
      unfold x22
      refine State.within.step State.updFldRef_within ?_ (by decide) (by decide)
      assumption
    clear_value x22
    have hx23 : s.within x23 [.isl, .ptb, .out, .free] [18, 24] := by
      unfold x23
      refine State.within_ite ?_ ?_
      · refine State.put_within rfl (mem_block (b := 18) (by decide) (by decide)) ?_
        assumption
      · assumption
    clear_value x23
    have hx24 : s.within x24 [.isl, .ptb, .out, .free] [18, 24] := by
      unfold x24
      refine State.within.step State.fromIsl_within ?_ (by decide) (by decide)
      assumption
    clear_value x24
    refine State.within_ite ?_ ?_
    · exact State.within_refl _ _
    · refine State.within.step State.fldAdvance_within ?_ (by decide) (by decide)
      assumption

theorem resultStep_within {index : ℕ} {qual : ℕ} {gain : ℕ} {opened : Bool} {code : Word} {tick : Word} {s : State} : s.within (resultStep index qual gain opened code tick s) [.light, .trg, .brl, .free] [3, 18] := by
  unfold resultStep
  refine State.heard_within (by decide) (by decide) (fun t1 ht1 => ?_) ?_
  · extract_lets x2 x3 x4 x5 x6 x7 x8 x9
    clear_value x2
    clear_value x3
    clear_value x4
    clear_value x5
    clear_value x6
    have hx7 : s.within x7 [.light, .trg, .brl, .free] [3, 18] := by
      unfold x7
      refine State.putStamp_within rfl rfl rfl (mem_block (b := 18) (by omega) (by decide)) (mem_block (b := 18) (by omega) (by decide)) (mem_block (b := 18) (by omega) (by decide)) ?_
      refine State.puts_cons_within ?_
      refine State.puts_cons_within ?_
      refine State.puts_cons_within ?_
      refine State.puts_cons_within ?_
      refine State.puts_cons_within ?_
      refine State.puts_nil_within ?_
      refine State.put_within rfl (mem_block (b := 18) (by omega) (by decide)) ?_
      refine State.put_within rfl (mem_block (b := 18) (by omega) (by decide)) ?_
      refine State.put_within rfl (mem_block (b := 18) (by omega) (by decide)) ?_
      refine State.put_within rfl (mem_block (b := 18) (by omega) (by decide)) ?_
      refine State.put_within rfl (mem_block (b := 18) (by omega) (by decide)) ?_
      refine State.count_within rfl (mem_block (b := 18) (by omega) (by decide)) ?_
      refine State.drew_within (by decide) ?_
      assumption
    clear_value x7
    have hx8 : s.within x8 [.light, .trg, .brl, .free] [3, 18] := by
      unfold x8
      refine State.within_ite ?_ ?_
      · refine State.put_within rfl (mem_block (b := 18) (by decide) (by decide)) ?_
        assumption
      · assumption
    clear_value x8
    have hx9 : s.within x9 [.light, .trg, .brl, .free] [3, 18] := by
      unfold x9
      refine State.within_ite ?_ ?_
      · refine State.within.step State.trgOffer_within ?_ (by decide) (by decide)
        assumption
      · assumption
    clear_value x9
    refine State.within_ite ?_ ?_
    · refine State.within.step State.coilResult_within ?_ (by decide) (by decide)
      assumption
    · assumption
  · exact State.within_refl _ _

theorem roundTimerTickStep_within {mon : Bool} {s : State} : s.within (roundTimerTickStep mon s) [.isl, .mon, .free] [18, 19] := by
  unfold roundTimerTickStep
  refine State.within_ite ?_ ?_
  · refine State.whenDo_within ?_ ?_
    · refine State.within.step State.monReg_within ?_ (by decide) (by decide)
      exact State.within_refl _ _
    · exact State.within_refl _ _
  · refine State.whenDo_within ?_ ?_
    · refine State.within_ite ?_ ?_
      · refine State.within.step State.fldReg_within ?_ (by decide) (by decide)
        refine State.within.step State.bufGap_within ?_ (by decide) (by decide)
        refine State.drew_within (by decide) ?_
        exact State.within_refl _ _
      · refine State.within.step State.fldReg_within ?_ (by decide) (by decide)
        exact State.within_refl _ _
    · exact State.within_refl _ _

theorem State.fldSwAct_within {s : State} {path : Path} : s.withinE (State.fldSwAct s path) [.isl, .ptb, .out] [18, 24] := by
  unfold State.fldSwAct
  refine State.byBound_within (fun t1 ht1 => ?_) ?_
  · refine State.within.step State.fldSw_within ?_ (by decide) (by decide)
    assumption
  · exact State.within_refl _ _

theorem State.fldInjAct_within {s : State} {path : Path} : s.withinE (State.fldInjAct s path) [.isl, .ptb, .out] [24] := by
  unfold State.fldInjAct
  refine State.byBound_within (fun t1 ht1 => ?_) ?_
  · refine State.within.step State.toIsl_within ?_ (by decide) (by decide)
    assumption
  · exact State.within_refl _ _

theorem State.monSwAct_within {s : State} {path : Path} : s.withinE (State.monSwAct s path) [.mon] [19] := by
  unfold State.monSwAct
  refine State.byBound_within (fun t1 ht1 => ?_) ?_
  · refine State.within.step State.monSw_within ?_ (by decide) (by decide)
    assumption
  · exact State.within_refl _ _

theorem State.monInjAct_within {s : State} {path : Path} : s.withinE (State.monInjAct s path) [.mon] [19] := by
  unfold State.monInjAct
  refine State.byBound_within (fun t1 ht1 => ?_) ?_
  · refine State.within.step State.monInj_within ?_ (by decide) (by decide)
    assumption
  · exact State.within_refl _ _

theorem State.kickAct_within {s : State} {path : Path} : s.withinE (State.kickAct s path) [.isl, .ptb, .out] [24] := by
  unfold State.kickAct
  refine State.byOwner_within (fun t1 ht1 => ?_) ?_
  · refine State.within.step State.toIsl_within ?_ (by decide) (by decide)
    assumption
  · exact State.within_refl _ _

theorem State.foutSet_within {s : State} {mask : ℕ} : s.within (State.foutSet s mask) [.isl, .ptb, .out] [18, 24] := by
  unfold State.foutSet
  refine State.within.step State.toIsl_within ?_ (by decide) (by decide)
  refine State.within.step State.toIsl_within ?_ (by decide) (by decide)
  refine State.put_within rfl (mem_block (b := 18) (by decide) (by decide)) ?_
  exact State.within_refl _ _

theorem State.foutAct_within {s : State} {path : Path} {mask : ℕ} : s.withinE (State.foutAct s path mask) [.isl, .ptb, .out] [18, 24] := by
  unfold State.foutAct
  refine State.byOwner_within (fun t1 ht1 => ?_) ?_
  · refine State.within.step State.foutSet_within ?_ (by decide) (by decide)
    assumption
  · exact State.within_refl _ _

theorem fldSwstartStep_within {path : Path} {s : State} : s.within (fldSwstartStep path s) [.isl, .ptb, .out] [0, 18, 24] := by
  unfold fldSwstartStep
  refine State.acted_within (by decide) ?_ ?_
  · refine State.withinE.step State.fldSwAct_within ?_ (by decide) (by decide)
    exact State.within_refl _ _
  · exact State.within_refl _ _

theorem fldInjstartStep_within {path : Path} {s : State} : s.within (fldInjstartStep path s) [.isl, .ptb, .out] [0, 24] := by
  unfold fldInjstartStep
  refine State.acted_within (by decide) ?_ ?_
  · refine State.withinE.step State.fldInjAct_within ?_ (by decide) (by decide)
    exact State.within_refl _ _
  · exact State.within_refl _ _

theorem monSwstartStep_within {path : Path} {s : State} : s.within (monSwstartStep path s) [.mon] [0, 19] := by
  unfold monSwstartStep
  refine State.acted_within (by decide) ?_ ?_
  · refine State.withinE.step State.monSwAct_within ?_ (by decide) (by decide)
    exact State.within_refl _ _
  · exact State.within_refl _ _

theorem monInjstartStep_within {path : Path} {s : State} : s.within (monInjstartStep path s) [.mon] [0, 19] := by
  unfold monInjstartStep
  refine State.acted_within (by decide) ?_ ?_
  · refine State.withinE.step State.monInjAct_within ?_ (by decide) (by decide)
    exact State.within_refl _ _
  · exact State.within_refl _ _

theorem kickStep_within {path : Path} {s : State} : s.within (kickStep path s) [.isl, .ptb, .out] [0, 24] := by
  unfold kickStep
  refine State.acted_within (by decide) ?_ ?_
  · refine State.withinE.step State.kickAct_within ?_ (by decide) (by decide)
    exact State.within_refl _ _
  · exact State.within_refl _ _

theorem fldFoutWriteStep_within {path : Path} {mask : ℕ} {s : State} : s.within (fldFoutWriteStep path mask s) [.isl, .ptb, .out] [0, 18, 24] := by
  unfold fldFoutWriteStep
  refine State.acted_within (by decide) ?_ ?_
  · refine State.withinE.step State.foutAct_within ?_ (by decide) (by decide)
    exact State.within_refl _ _
  · exact State.within_refl _ _

theorem State.replyResult_within {s : State} {q : ReqHdr} {op : ℕ} {ready : Fld} {seq : Fld} : s.within (State.replyResult s q op ready seq) [.qcp, .ptb, .out] [24, 25] := by
  unfold State.replyResult
  refine State.within_ite ?_ ?_
  · refine State.within.step State.reply_within ?_ (by decide) (by decide)
    exact State.within_refl _ _
  · refine State.within.step State.reply_within ?_ (by decide) (by decide)
    exact State.within_refl _ _

theorem fldReadBody_within {q : ReqHdr} {index : ℕ} {s : State} : s.within (fldReadBody q index s) [.qcp, .ptb, .out] [18, 24, 25] := by
  unfold fldReadBody
  refine State.checks_within (by decide) (by decide) (fun t1 ht1 => ?_) ?_
  · refine State.within.step State.replyResult_within ?_ (by decide) (by decide)
    assumption
  · exact State.within_refl _ _

theorem monReadBody_within {q : ReqHdr} {index : ℕ} {s : State} : s.within (monReadBody q index s) [.qcp, .ptb, .out] [19, 24, 25] := by
  unfold monReadBody
  refine State.checks_within (by decide) (by decide) (fun t1 ht1 => ?_) ?_
  · refine State.within.step State.replyResult_within ?_ (by decide) (by decide)
    assumption
  · exact State.within_refl _ _

theorem fldBufferBody_within {q : ReqHdr} {index : ℕ} {count : ℕ} {s : State} : s.within (fldBufferBody q index count s) [.qcp, .ptb, .out, .free] [24, 25] := by
  unfold fldBufferBody
  refine State.checks_within (by decide) (by decide) (fun t1 ht1 => ?_) ?_
  · extract_lets x2 x3 x4 x5
    clear_value x2
    clear_value x3
    clear_value x4
    clear_value x5
    refine State.within.step State.reply_within ?_ (by decide) (by decide)
    refine State.drew_within (by decide) ?_
    assumption
  · exact State.within_refl _ _

theorem convStartBody_within {q : ReqHdr} {index : ℕ} {s : State} : s.within (convStartBody q index s) [.qcp, .isl, .mon, .ptb, .out] [18, 19, 24, 25] := by
  unfold convStartBody
  refine State.checks_within (by decide) (by decide) (fun t1 ht1 => ?_) ?_
  · refine State.within.step State.reply_within ?_ (by decide) (by decide)
    refine State.within_ite ?_ ?_
    · refine State.within.step State.fldSw_within ?_ (by decide) (by decide)
      assumption
    · refine State.within.step State.monSw_within ?_ (by decide) (by decide)
      assumption
  · exact State.within_refl _ _

theorem foutSetBody_within {q : ReqHdr} {mask : ℕ} {s : State} : s.within (foutSetBody q mask s) [.qcp, .isl, .ptb, .out] [18, 24, 25] := by
  unfold foutSetBody
  refine State.checks_within (by decide) (by decide) (fun t1 ht1 => ?_) ?_
  · refine State.within.step State.reply_within ?_ (by decide) (by decide)
    refine State.within.step State.foutSet_within ?_ (by decide) (by decide)
    assumption
  · exact State.within_refl _ _

theorem execFldRead_within {q : ReqHdr} {index : ℕ} {s : State} : s.withinC (execFldRead q index s) [.qcp, .ptb, .out] [18, 24, 25] := by
  unfold execFldRead
  refine State.withinC_next ?_
  refine State.request_within (by decide) (by decide) (fun t1 ht1 => ?_) ?_
  · refine State.within.step fldReadBody_within ?_ (by decide) (by decide)
    assumption
  · exact State.within_refl _ _

theorem execFldBuffer_within {q : ReqHdr} {index : ℕ} {count : ℕ} {s : State} : s.withinC (execFldBuffer q index count s) [.qcp, .ptb, .out, .free] [24, 25] := by
  unfold execFldBuffer
  refine State.withinC_next ?_
  refine State.request_within (by decide) (by decide) (fun t1 ht1 => ?_) ?_
  · refine State.within.step fldBufferBody_within ?_ (by decide) (by decide)
    assumption
  · exact State.within_refl _ _

theorem execMonRead_within {q : ReqHdr} {index : ℕ} {s : State} : s.withinC (execMonRead q index s) [.qcp, .ptb, .out] [19, 24, 25] := by
  unfold execMonRead
  refine State.withinC_next ?_
  refine State.request_within (by decide) (by decide) (fun t1 ht1 => ?_) ?_
  · refine State.within.step monReadBody_within ?_ (by decide) (by decide)
    assumption
  · exact State.within_refl _ _

theorem execConvStart_within {q : ReqHdr} {index : ℕ} {s : State} : s.withinC (execConvStart q index s) [.qcp, .isl, .mon, .ptb, .out] [18, 19, 24, 25] := by
  unfold execConvStart
  refine State.withinC_next ?_
  refine State.request_within (by decide) (by decide) (fun t1 ht1 => ?_) ?_
  · refine State.within.step convStartBody_within ?_ (by decide) (by decide)
    assumption
  · exact State.within_refl _ _

theorem execFoutSet_within {q : ReqHdr} {mask : BitVec 64} {s : State} : s.withinC (execFoutSet q mask s) [.qcp, .isl, .ptb, .out] [18, 24, 25] := by
  unfold execFoutSet
  refine State.withinC_next ?_
  refine State.request_within (by decide) (by decide) (fun t1 ht1 => ?_) ?_
  · refine State.within.step foutSetBody_within ?_ (by decide) (by decide)
    assumption
  · exact State.within_refl _ _

theorem execCfg_within {off : BitVec 16} {value : Word} {s : State} : s.withinC (execCfg off value s) [.isl, .free] [18] := by
  unfold execCfg
  refine State.withinC_next ?_
  refine State.within.step cfgStep_within ?_ (by decide) (by decide)
  exact State.within_refl _ _

theorem execCmd_within {regular : Bool} {injected : Bool} {s : State} : s.withinC (execCmd regular injected s) [.isl, .free] [18] := by
  unfold execCmd
  refine State.withinC_next ?_
  refine State.within.step cmdStep_within ?_ (by decide) (by decide)
  exact State.within_refl _ _

theorem execFout_within {mask : BitVec 2} {s : State} : s.withinC (execFout mask s) [] [18] := by
  unfold execFout
  refine State.withinC_next ?_
  refine State.within.step foutStep_within ?_ (by decide) (by decide)
  exact State.within_refl _ _

theorem execHb_within {s : State} : s.withinC (execHb s) [.isl] [] := by
  unfold execHb
  refine State.withinC_next ?_
  refine State.within.step hbStep_within ?_ (by decide) (by decide)
  exact State.within_refl _ _

theorem execTsync_within {s : State} : s.withinC (execTsync s) [.isl, .ptb, .out, .free] [24] := by
  unfold execTsync
  refine State.withinC_next ?_
  refine State.within.step tsyncStep_within ?_ (by decide) (by decide)
  exact State.within_refl _ _

theorem execBufreq_within {ch : Fin 8} {first : BitVec 16} {count : BitVec 16} {s : State} : s.withinC (execBufreq ch first count s) [.isl, .ptb, .out, .free] [24] := by
  unfold execBufreq
  refine State.withinC_next ?_
  refine State.within.step bufreqStep_within ?_ (by decide) (by decide)
  exact State.within_refl _ _

theorem execIlk_within {closed : Bool} {tick : BitVec 32} {s : State} : s.withinC (execIlk closed tick s) [.light, .trg, .mon, .dmc, .free] [0, 3, 18, 19, 21] := by
  unfold execIlk
  refine State.withinC_next ?_
  refine State.within.step ilkStep_within ?_ (by decide) (by decide)
  exact State.within_refl _ _

theorem execFin_within {states : BitVec 4} {tick : BitVec 32} {s : State} : s.withinC (execFin states tick s) [.light, .trg, .free] [3, 18] := by
  unfold execFin
  refine State.withinC_next ?_
  refine State.within.step finStep_within ?_ (by decide) (by decide)
  exact State.within_refl _ _

theorem execResult_within {index : BitVec 4} {qual : BitVec 4} {a2 : Byte} {gain : BitVec 3} {opened : Bool} {code : Word} {tick : Word} {s : State} : s.withinC (execResult index qual a2 gain opened code tick s) [.light, .trg, .brl, .free] [3, 18] := by
  unfold execResult
  refine State.withinC_next ?_
  refine State.within.step resultStep_within ?_ (by decide) (by decide)
  exact State.within_refl _ _

theorem execStatus_within {flags : Word} {vin : Byte} {echo : Byte} {crcerr : BitVec 16} {badmsg : BitVec 16} {s : State} : s.withinC (execStatus flags vin echo crcerr badmsg s) [.light, .isl, .ptb, .out] [3, 18, 24] := by
  unfold execStatus
  refine State.withinC_next ?_
  refine State.within.step statusStep_within ?_ (by decide) (by decide)
  exact State.within_refl _ _

theorem execTick_within {tick : BitVec 32} {s : State} : s.withinC (execTick tick s) [.light, .isl] [3, 18] := by
  unfold execTick
  refine State.withinC_next ?_
  refine State.within.step tickStep_within ?_ (by decide) (by decide)
  exact State.within_refl _ _

theorem execBufdata_within {ch : Fin 8} {index : BitVec 16} {rec0 : Word} {rec1 : Word} {s : State} : s.withinC (execBufdata ch index rec0 rec1 s) [.light, .isl] [3, 18] := by
  unfold execBufdata
  refine State.withinC_next ?_
  refine State.within.step bufdataStep_within ?_ (by decide) (by decide)
  exact State.within_refl _ _

theorem execBarrierFrameError_within {toIsland : Bool} {badCrc : Bool} {s : State} : s.withinC (execBarrierFrameError toIsland badCrc s) [] [18] := by
  unfold execBarrierFrameError
  refine State.withinC_next ?_
  refine State.within.step barrierFrameErrorStep_within ?_ (by decide) (by decide)
  exact State.within_refl _ _

theorem execIlkSend_within {s : State} : s.withinC (execIlkSend s) [.isl, .ptb, .out, .free] [24] := by
  unfold execIlkSend
  refine State.withinC_next ?_
  refine State.within.step ilkSendStep_within ?_ (by decide) (by decide)
  exact State.within_refl _ _

theorem execTsyncSend_within {s : State} : s.withinC (execTsyncSend s) [.isl, .ptb, .out] [24] := by
  unfold execTsyncSend
  refine State.withinC_next ?_
  refine State.within.step tsyncSendStep_within ?_ (by decide) (by decide)
  exact State.within_refl _ _

theorem execIslandStart_within {s : State} : s.withinC (execIslandStart s) [.isl, .ptb, .out] [18, 24] := by
  unfold execIslandStart
  refine State.withinC_next ?_
  refine State.within.step islandStartStep_within ?_ (by decide) (by decide)
  exact State.within_refl _ _

theorem execFin0Change_within {closed : Bool} {tick : BitVec 32} {s : State} : s.withinC (execFin0Change closed tick s) [.isl, .ptb, .out] [24] := by
  unfold execFin0Change
  refine State.withinC_next ?_
  refine State.within.step fin0ChangeStep_within ?_ (by decide) (by decide)
  exact State.within_refl _ _

theorem execFinDebounced_within {input : Fin 3} {closed : Bool} {tick : BitVec 32} {s : State} : s.withinC (execFinDebounced input closed tick s) [.isl, .ptb, .out, .free] [18, 24] := by
  unfold execFinDebounced
  refine State.withinC_next ?_
  refine State.within.step finDebouncedStep_within ?_ (by decide) (by decide)
  exact State.within_refl _ _

theorem execHostloss_within {s : State} : s.withinC (execHostloss s) [.clk, .cyc, .isl, .ptb, .out] [18, 24] := by
  unfold execHostloss
  refine State.withinC_next ?_
  refine State.within.step hostlossStep_within ?_ (by decide) (by decide)
  exact State.within_refl _ _

theorem execFoutOvercurrent_within {output : Fin 2} {s : State} : s.withinC (execFoutOvercurrent output s) [.isl, .ptb, .out] [18, 24] := by
  unfold execFoutOvercurrent
  refine State.withinC_next ?_
  refine State.within.step foutOvercurrentStep_within ?_ (by decide) (by decide)
  exact State.within_refl _ _

theorem execExcLimit_within {output : Fin 2} {s : State} : s.withinC (execExcLimit output s) [.isl, .ptb, .out] [18, 24] := by
  unfold execExcLimit
  refine State.withinC_next ?_
  refine State.within.step excLimitStep_within ?_ (by decide) (by decide)
  exact State.within_refl _ _

theorem execExcSettleExpire_within {s : State} : s.withinC (execExcSettleExpire s) [.isl] [18] := by
  unfold execExcSettleExpire
  refine State.withinC_next ?_
  refine State.within.step excSettleExpireStep_within ?_ (by decide) (by decide)
  exact State.within_refl _ _

theorem execRoundTimerTick_within {mon : Bool} {s : State} : s.withinC (execRoundTimerTick mon s) [.isl, .mon, .free] [18, 19] := by
  unfold execRoundTimerTick
  refine State.withinC_next ?_
  refine State.within.step roundTimerTickStep_within ?_ (by decide) (by decide)
  exact State.within_refl _ _

theorem execFieldConversion_within {c : FieldConv} {s : State} : s.withinC (execFieldConversion c s) [.isl, .ptb, .out, .free] [18, 24] := by
  unfold execFieldConversion
  refine State.withinC_next ?_
  refine State.within.step fieldConversionStep_within ?_ (by decide) (by decide)
  exact State.within_refl _ _

theorem execFldSwstart_within {path : Path} {s : State} : s.withinC (execFldSwstart path s) [.isl, .ptb, .out] [0, 18, 24] := by
  unfold execFldSwstart
  refine State.withinC_next ?_
  refine State.within.step fldSwstartStep_within ?_ (by decide) (by decide)
  exact State.within_refl _ _

theorem execFldInjstart_within {path : Path} {s : State} : s.withinC (execFldInjstart path s) [.isl, .ptb, .out] [0, 24] := by
  unfold execFldInjstart
  refine State.withinC_next ?_
  refine State.within.step fldInjstartStep_within ?_ (by decide) (by decide)
  exact State.within_refl _ _

theorem execMonSwstart_within {path : Path} {s : State} : s.withinC (execMonSwstart path s) [.mon] [0, 19] := by
  unfold execMonSwstart
  refine State.withinC_next ?_
  refine State.within.step monSwstartStep_within ?_ (by decide) (by decide)
  exact State.within_refl _ _

theorem execMonInjstart_within {path : Path} {s : State} : s.withinC (execMonInjstart path s) [.mon] [0, 19] := by
  unfold execMonInjstart
  refine State.withinC_next ?_
  refine State.within.step monInjstartStep_within ?_ (by decide) (by decide)
  exact State.within_refl _ _

theorem execKick_within {path : Path} {s : State} : s.withinC (execKick path s) [.isl, .ptb, .out] [0, 24] := by
  unfold execKick
  refine State.withinC_next ?_
  refine State.within.step kickStep_within ?_ (by decide) (by decide)
  exact State.within_refl _ _

theorem execFldFoutWrite_within {path : Path} {mask : BitVec 2} {s : State} : s.withinC (execFldFoutWrite path mask s) [.isl, .ptb, .out] [0, 18, 24] := by
  unfold execFldFoutWrite
  refine State.withinC_next ?_
  refine State.within.step fldFoutWriteStep_within ?_ (by decide) (by decide)
  exact State.within_refl _ _

end Sys2Proof.Machine
end

