-- ==== Sys2Proof/Laws/WithinCal.lean ====
section
/-! SUPPORT. For each operation of calibration, the controller of the external memory and the perturbations: which components and which register blocks it may change. -/

namespace Sys2Proof.Machine

theorem State.calSet_within {s : State} {d : ℕ} {q : ℕ} {v : ℤ} : s.within (State.calSet s d q v) [.cal] [5] := by
  unfold State.calSet
  split
  · rename_i f hf
    exact State.puti_any (by rw [calFld_block hf]; decide) (State.within_refl _ _)
  · refine State.within_upd (by intro c hc; cases c <;> first | rfl | exact absurd (by decide) hc) ?_
    exact State.within_refl _ _

theorem State.modCal_within {s : State} {f : Calib → Calib} : s.within (State.modCal s f) [.cal] [] := by
  unfold State.modCal
  refine State.within_upd (by intro c hc; cases c <;> first | rfl | exact absurd (by decide) hc) ?_
  exact State.within_refl _ _

theorem State.modDom_within {s : State} {d : ℕ} {f : CalDom → CalDom} : s.within (State.modDom s d f) [.cal] [] := by
  unfold State.modDom
  refine State.within.step State.modCal_within ?_ (by decide) (by decide)
  exact State.within_refl _ _

theorem State.useWindow_within {s : State} {d : ℕ} : s.within (State.useWindow s d) [.cal] [] := by
  unfold State.useWindow
  split
  · refine State.within.step State.modDom_within ?_ (by decide) (by decide)
    exact State.within_refl _ _
  · exact State.within_refl _ _

theorem State.calSync_within {s : State} {d : ℕ} : s.within (State.calSync s d) [] [20] := by
  unfold State.calSync
  extract_lets x1 x2 x3 x4
  clear_value x1
  clear_value x2
  clear_value x3
  clear_value x4
  refine State.put_within rfl (mem_block (b := 20) (by omega) (by decide)) ?_
  refine State.setCbit_within rfl (mem_block (b := 20) (by decide) (by decide)) ?_
  exact State.within_refl _ _

theorem State.calSyncAll_within {s : State} : s.within (State.calSyncAll s) [] [20] := by
  unfold State.calSyncAll
  refine State.within_foldl (fun t1 y1 ht1 => ?_) ?_
  · refine State.within.step State.calSync_within ?_ (by decide) (by decide)
    assumption
  · exact State.within_refl _ _

theorem State.calDue_within {s : State} {d : ℕ} : s.within (State.calDue s d) [.cal] [20] := by
  unfold State.calDue
  extract_lets x1
  have hx1 : s.within x1 [.cal] [20] := by
    unfold x1
    refine State.within.step State.modDom_within ?_ (by decide) (by decide)
    exact State.within_refl _ _
  clear_value x1
  refine State.within_ite ?_ ?_
  · assumption
  · refine State.setCbit_within rfl (mem_block (b := 20) (by decide) (by decide)) ?_
    assumption

theorem State.calDueAll_within {s : State} : s.within (State.calDueAll s) [.cal] [20] := by
  unfold State.calDueAll
  refine State.within.step State.calSyncAll_within ?_ (by decide) (by decide)
  refine State.within_foldl (fun t1 y1 ht1 => ?_) ?_
  · refine State.within.step State.calDue_within ?_ (by decide) (by decide)
    assumption
  · exact State.within_refl _ _

theorem State.calEnd_within {s : State} {d : ℕ} {ok : Bool} : s.within (State.calEnd s d ok) [.qcp, .cal, .ptb, .out] [24, 25] := by
  unfold State.calEnd
  extract_lets x1 x2
  clear_value x1
  have hx2 : s.within x2 [.qcp, .cal, .ptb, .out] [24, 25] := by
    unfold x2
    refine State.within.step State.modCal_within ?_ (by decide) (by decide)
    exact State.within_refl _ _
  clear_value x2
  refine State.within_foldl (fun t3 y3 ht3 => ?_) ?_
  · refine State.within.step State.complete_within ?_ (by decide) (by decide)
    assumption
  · assumption

theorem State.calClose_within {s : State} {d : ℕ} {result : ℕ} : s.within (State.calClose s d result) [.cal] [20] := by
  unfold State.calClose
  extract_lets x1
  have hx1 : s.within x1 [.cal] [20] := by
    unfold x1
    refine State.setCbit_within rfl (mem_block (b := 20) (by decide) (by decide)) ?_
    refine State.puts_cons_within ?_
    refine State.puts_cons_within ?_
    refine State.puts_cons_within ?_
    refine State.puts_nil_within ?_
    refine State.put_within rfl (mem_block (b := 20) (by omega) (by decide)) ?_
    refine State.put_within rfl (mem_block (b := 20) (by omega) (by decide)) ?_
    refine State.put_within rfl (mem_block (b := 20) (by omega) (by decide)) ?_
    refine State.count_within rfl (mem_block (b := 20) (by omega) (by decide)) ?_
    exact State.within_refl _ _
  clear_value x1
  refine State.within.step State.modDom_within ?_ (by decide) (by decide)
  assumption

theorem State.calAbandon_within {s : State} {d : ℕ} : s.within (State.calAbandon s d) [.cal] [20] := by
  unfold State.calAbandon
  refine State.within_ite ?_ ?_
  · refine State.within.step State.modDom_within ?_ (by decide) (by decide)
    refine State.puts_cons_within ?_
    refine State.puts_cons_within ?_
    refine State.puts_nil_within ?_
    refine State.put_within rfl (mem_block (b := 20) (by omega) (by decide)) ?_
    refine State.put_within rfl (mem_block (b := 20) (by omega) (by decide)) ?_
    refine State.count_within rfl (mem_block (b := 20) (by omega) (by decide)) ?_
    exact State.within_refl _ _
  · exact State.within_refl _ _

theorem State.calApply_within {s : State} {d : ℕ} : s.within (State.calApply s d) [.qcp, .cal, .ptb, .out] [5, 20, 24, 25] := by
  unfold State.calApply
  split
  · exact State.within_refl _ _
  · extract_lets x1 x2 x3 x4
    have hx1 : s.within x1 [.qcp, .cal, .ptb, .out] [5, 20, 24, 25] := by
      unfold x1
      refine State.within_foldl (fun t5 y5 ht5 => ?_) ?_
      · refine State.within.step State.calSet_within ?_ (by decide) (by decide)
        assumption
      · exact State.within_refl _ _
    clear_value x1
    have hx2 : s.within x2 [.qcp, .cal, .ptb, .out] [5, 20, 24, 25] := by
      unfold x2
      refine State.within_foldl (fun t6 y6 ht6 => ?_) ?_
      · refine State.within.step State.commitPoint_within ?_ (by decide) (by decide)
        assumption
      · assumption
    clear_value x2
    have hx3 : s.within x3 [.qcp, .cal, .ptb, .out] [5, 20, 24, 25] := by
      unfold x3
      refine State.putStamp_within rfl rfl rfl (mem_block (b := 20) (by omega) (by decide)) (mem_block (b := 20) (by omega) (by decide)) (mem_block (b := 20) (by omega) (by decide)) ?_
      refine State.puts_cons_within ?_
      refine State.puts_cons_within ?_
      refine State.puts_cons_within ?_
      refine State.puts_nil_within ?_
      refine State.put_within rfl (mem_block (b := 20) (by omega) (by decide)) ?_
      refine State.put_within rfl (mem_block (b := 20) (by decide) (by decide)) ?_
      refine State.put_within rfl (mem_block (b := 20) (by omega) (by decide)) ?_
      refine State.count_within rfl (mem_block (b := 20) (by omega) (by decide)) ?_
      assumption
    clear_value x3
    have hx4 : s.within x4 [.qcp, .cal, .ptb, .out] [5, 20, 24, 25] := by
      unfold x4
      refine State.within.step State.modDom_within ?_ (by decide) (by decide)
      refine State.within.step State.calClose_within ?_ (by decide) (by decide)
      assumption
    clear_value x4
    refine State.within.step State.calSync_within ?_ (by decide) (by decide)
    refine State.within.step State.calEnd_within ?_ (by decide) (by decide)
    refine State.within.step State.modCal_within ?_ (by decide) (by decide)
    assumption

theorem State.calApplyAll_within {s : State} {boundary : Bool} : s.within (State.calApplyAll s boundary) [.qcp, .cal, .ptb, .out] [5, 20, 24, 25] := by
  unfold State.calApplyAll
  refine State.within_foldl (fun t1 y1 ht1 => ?_) ?_
  · refine State.within_ite ?_ ?_
    · refine State.within.step State.calApply_within ?_ (by decide) (by decide)
      assumption
    · assumption
  · exact State.within_refl _ _

theorem State.calCheck_within {s : State} {d : ℕ} {values : List ℤ} : s.within (State.calCheck s d values) [.qcp, .cal, .ptb, .out, .free] [5, 20, 24, 25] := by
  unfold State.calCheck
  extract_lets x1 x2 x3 x4 x5 x6
  clear_value x1
  clear_value x2
  clear_value x3
  have hx4 : s.within x4 [.qcp, .cal, .ptb, .out, .free] [5, 20, 24, 25] := by
    unfold x4
    refine State.put_within rfl (mem_block (b := 20) (by omega) (by decide)) ?_
    refine State.drew_within (by decide) ?_
    exact State.within_refl _ _
  clear_value x4
  have hx5 : s.within x5 [.qcp, .cal, .ptb, .out, .free] [5, 20, 24, 25] := by
    unfold x5
    refine State.within.step State.modDom_within ?_ (by decide) (by decide)
    assumption
  clear_value x5
  have hx6 : s.within x6 [.qcp, .cal, .ptb, .out, .free] [5, 20, 24, 25] := by
    unfold x6
    refine State.countSat_within rfl (mem_block (b := 20) (by omega) (by decide)) ?_
    refine State.countSat_within rfl (mem_block (b := 20) (by omega) (by decide)) ?_
    refine State.setCbit_within rfl (mem_block (b := 20) (by decide) (by decide)) ?_
    assumption
  clear_value x6
  split
  · refine State.within_ite ?_ ?_
    · refine State.within.step State.calApply_within ?_ (by decide) (by decide)
      assumption
    · assumption
  · extract_lets x7 x8
    have hx7 : s.within x7 [.qcp, .cal, .ptb, .out, .free] [5, 20, 24, 25] := by
      unfold x7
      refine State.within.step State.calEnd_within ?_ (by decide) (by decide)
      refine State.within.step State.eventOwner_within ?_ (by decide) (by decide)
      refine State.within.step State.calClose_within ?_ (by decide) (by decide)
      assumption
    clear_value x7
    have hx8 : s.within x8 [.qcp, .cal, .ptb, .out, .free] [5, 20, 24, 25] := by
      unfold x8
      refine State.within_ite ?_ ?_
      · refine State.within.step State.eventAll_within ?_ (by decide) (by decide)
        refine State.setCbit_within rfl (mem_block (b := 20) (by decide) (by decide)) ?_
        assumption
      · refine State.within.step State.modDom_within ?_ (by decide) (by decide)
        assumption
    clear_value x8
    refine State.within.step State.calSync_within ?_ (by decide) (by decide)
    assumption

theorem calMicroStepStep_within {d : ℕ} {clipped : Bool} {values : List ℤ} {s : State} : s.within (calMicroStepStep d clipped values s) [.qcp, .cal, .ptb, .out, .free] [5, 20, 24, 25] := by
  unfold calMicroStepStep
  extract_lets x1
  clear_value x1
  refine State.whenDo_within ?_ ?_
  · extract_lets x3 x4 x5
    have hx3 : s.within x3 [.qcp, .cal, .ptb, .out, .free] [5, 20, 24, 25] := by
      unfold x3
      refine State.within_ite ?_ ?_
      · exact State.within_refl _ _
      · refine State.put_within rfl (mem_block (b := 20) (by omega) (by decide)) ?_
        refine State.setCbit_within rfl (mem_block (b := 20) (by decide) (by decide)) ?_
        refine State.setCbit_within rfl (mem_block (b := 20) (by decide) (by decide)) ?_
        exact State.within_refl _ _
    clear_value x3
    clear_value x4
    have hx5 : s.within x5 [.qcp, .cal, .ptb, .out, .free] [5, 20, 24, 25] := by
      unfold x5
      refine State.within.step State.calSync_within ?_ (by decide) (by decide)
      refine State.within.step State.modDom_within ?_ (by decide) (by decide)
      refine State.within.step State.useWindow_within ?_ (by decide) (by decide)
      assumption
    clear_value x5
    refine State.within_ite ?_ ?_
    · assumption
    · refine State.within.step State.calCheck_within ?_ (by decide) (by decide)
      assumption
  · exact State.within_refl _ _

theorem State.trainMoved_within {s : State} : s.within (State.trainMoved s) [.dmc] [] := by
  unfold State.trainMoved
  refine State.within_ite ?_ ?_
  · refine State.within_upd (by intro c hc; cases c <;> first | rfl | exact absurd (by decide) hc) ?_
    exact State.within_refl _ _
  · exact State.within_refl _ _

theorem calSensorReadStep_within {die0 : ℤ} {die1 : ℤ} {die2 : ℤ} {die3 : ℤ} {tcase : ℤ} {s : State} : s.within (calSensorReadStep die0 die1 die2 die3 tcase s) [.cal, .dmc] [20] := by
  unfold calSensorReadStep
  extract_lets x1
  have hx1 : s.within x1 [.cal, .dmc] [20] := by
    unfold x1
    refine State.within.step State.trainMoved_within ?_ (by decide) (by decide)
    refine State.within.step State.modCal_within ?_ (by decide) (by decide)
    exact State.within_refl _ _
  clear_value x1
  refine State.within.step State.calSyncAll_within ?_ (by decide) (by decide)
  refine State.within_foldl (fun t2 y2 ht2 => ?_) ?_
  · split
    · assumption
    · extract_lets x3 x4
      clear_value x3
      clear_value x4
      refine State.within_ite ?_ ?_
      · refine State.within.step State.calDue_within ?_ (by decide) (by decide)
        assumption
      · assumption
  · assumption

theorem calRetryExpireStep_within {d : ℕ} {s : State} : s.within (calRetryExpireStep d s) [.clk, .cyc, .cal] [20] := by
  unfold calRetryExpireStep
  refine State.whenDo_within ?_ ?_
  · refine State.within.step State.calSync_within ?_ (by decide) (by decide)
    refine State.within.step State.calDue_within ?_ (by decide) (by decide)
    refine State.within.step State.modDom_within ?_ (by decide) (by decide)
    refine State.within.step State.atCyc_within ?_ (by decide) (by decide)
    exact State.within_refl _ _
  · exact State.within_refl _ _

theorem State.calSave_within {s : State} : s.within (State.calSave s) [.cal] [] := by
  unfold State.calSave
  refine State.within.step State.modCal_within ?_ (by decide) (by decide)
  exact State.within_refl _ _

theorem calUserSaveStep_within {s : State} : s.within (calUserSaveStep s) [.cal] [] := by
  unfold calUserSaveStep
  extract_lets x1
  clear_value x1
  refine State.whenDo_within ?_ ?_
  · refine State.within.step State.calSave_within ?_ (by decide) (by decide)
    exact State.within_refl _ _
  · exact State.within_refl _ _

theorem State.calLoad_within {s : State} : s.within (State.calLoad s) [.qcp, .cal, .ptb, .out] allBlocks := by
  unfold State.calLoad
  split
  · exact State.within_refl _ _
  · refine State.within_ite ?_ ?_
    · refine State.put_within rfl (blockOf_mem_all _) ?_
      refine State.within.step State.modCal_within ?_ (by decide) (by decide)
      refine State.within_foldl (fun t1 y1 ht1 => ?_) ?_
      · refine State.wr_within (blockOf_mem_all _) ?_
        assumption
      · exact State.within_refl _ _
    · refine State.within.step State.eventAll_within ?_ (by decide) (by decide)
      refine State.put_within rfl (blockOf_mem_all _) ?_
      exact State.within_refl _ _

theorem State.calRestore_within {s : State} : s.within (State.calRestore s) [.qcp, .cal, .ptb, .out] [3, 5, 20, 24, 25] := by
  unfold State.calRestore
  split
  · exact State.within_refl _ _
  · extract_lets x1 x2
    have hx1 : s.within x1 [.qcp, .cal, .ptb, .out] [3, 5, 20, 24, 25] := by
      unfold x1
      refine State.within_foldl (fun t3 y3 ht3 => ?_) ?_
      · refine State.setCbit_within rfl (mem_block (b := 20) (by decide) (by decide)) ?_
        refine State.within.step State.calAbandon_within ?_ (by decide) (by decide)
        assumption
      · exact State.within_refl _ _
    clear_value x1
    have hx2 : s.within x2 [.qcp, .cal, .ptb, .out] [3, 5, 20, 24, 25] := by
      unfold x2
      refine State.within.step State.modCal_within ?_ (by decide) (by decide)
      refine State.puts_cons_within ?_
      refine State.puts_cons_within ?_
      refine State.puts_nil_within ?_
      refine State.put_within rfl (mem_block (b := 20) (by decide) (by decide)) ?_
      refine State.put_within rfl (mem_block (b := 20) (by decide) (by decide)) ?_
      refine State.resetWords_within (fun a ha => (by decide : [3, 5] ⊆ _) (calWords_block a ha)) ?_
      assumption
    clear_value x2
    refine State.within.step State.complete_within ?_ (by decide) (by decide)
    refine State.within.step State.calDueAll_within ?_ (by decide) (by decide)
    assumption

theorem State.calRestoreDue_within {s : State} : s.within (State.calRestoreDue s) [.qcp, .cal, .ptb, .out] [3, 5, 20, 24, 25] := by
  unfold State.calRestoreDue
  split
  · refine State.within_ite ?_ ?_
    · refine State.within.step State.calRestore_within ?_ (by decide) (by decide)
      exact State.within_refl _ _
    · exact State.within_refl _ _
  · exact State.within_refl _ _

theorem State.calBoundary_within {s : State} : s.within (State.calBoundary s) [.qcp, .cal, .ptb, .out] [3, 5, 20, 24, 25] := by
  unfold State.calBoundary
  refine State.within.step State.calSyncAll_within ?_ (by decide) (by decide)
  refine State.within.step State.calApplyAll_within ?_ (by decide) (by decide)
  refine State.within_ite ?_ ?_
  · refine State.within.step State.calRestore_within ?_ (by decide) (by decide)
    exact State.within_refl _ _
  · exact State.within_refl _ _

theorem State.calPortMoved_within {s : State} {p : Port} : s.within (State.calPortMoved s p) [.cal] [20] := by
  unfold State.calPortMoved
  extract_lets x1
  clear_value x1
  refine State.within.step State.calSyncAll_within ?_ (by decide) (by decide)
  refine State.within_foldl (fun t2 y2 ht2 => ?_) ?_
  · refine State.within.step State.calAbandon_within ?_ (by decide) (by decide)
    assumption
  · exact State.within_refl _ _

theorem calRunBody_within {q : ReqHdr} {mask : ℕ} {s : State} : s.within (calRunBody q mask s) [.qcp, .cal, .ptb, .out] [20, 24, 25] := by
  unfold calRunBody
  refine State.checks_within (by decide) (by decide) (fun t1 ht1 => ?_) ?_
  · refine State.startLong_within (by decide) (by decide) (fun t2 ht2 => ?_) ?_
    · extract_lets x3 x4
      have hx3 : s.within x3 [.qcp, .cal, .ptb, .out] [20, 24, 25] := by
        unfold x3
        refine State.within_foldl (fun t5 y5 ht5 => ?_) ?_
        · extract_lets x6
          have hx6 : s.within x6 [.qcp, .cal, .ptb, .out] [20, 24, 25] := by
            unfold x6
            refine State.setCbit_within rfl (mem_block (b := 20) (by decide) (by decide)) ?_
            assumption
          clear_value x6
          refine State.within_ite ?_ ?_
          · assumption
          · refine State.setCbit_within rfl (mem_block (b := 20) (by decide) (by decide)) ?_
            assumption
        · assumption
      clear_value x3
      have hx4 : s.within x4 [.qcp, .cal, .ptb, .out] [20, 24, 25] := by
        unfold x4
        refine State.within.step State.calSyncAll_within ?_ (by decide) (by decide)
        refine State.within.step State.modCal_within ?_ (by decide) (by decide)
        assumption
      clear_value x4
      refine State.within_ite ?_ ?_
      · refine State.within.step State.complete_within ?_ (by decide) (by decide)
        refine State.within.step State.modCal_within ?_ (by decide) (by decide)
        assumption
      · assumption
    · assumption
  · exact State.within_refl _ _

theorem State.calAbort_within {s : State} {r : ℕ} {seq : BitVec 32} : s.within (State.calAbort s r seq) [.cal] [20] := by
  unfold State.calAbort
  extract_lets x1 x2 x3
  clear_value x2
  have hx3 : s.within x3 [.cal] [20] := by
    unfold x3
    refine State.within.step State.modCal_within ?_ (by decide) (by decide)
    exact State.within_refl _ _
  clear_value x3
  refine State.within.step State.calSyncAll_within ?_ (by decide) (by decide)
  refine State.within_foldl (fun t4 y4 ht4 => ?_) ?_
  · refine State.within_ite ?_ ?_
    · assumption
    · refine State.within_ite ?_ ?_
      · refine State.within.step State.calClose_within ?_ (by decide) (by decide)
        assumption
      · refine State.setCbit_within rfl (mem_block (b := 20) (by decide) (by decide)) ?_
        assumption
  · assumption

theorem calStatusBody_within {q : ReqHdr} {s : State} : s.within (calStatusBody q s) [.qcp, .ptb, .out] [24, 25] := by
  unfold calStatusBody
  refine State.within.step State.reply_within ?_ (by decide) (by decide)
  exact State.within_refl _ _

theorem calReadBody_within {q : ReqHdr} {d : ℕ} {s : State} : s.within (calReadBody q d s) [.qcp, .ptb, .out] [24, 25] := by
  unfold calReadBody
  refine State.checks_within (by decide) (by decide) (fun t1 ht1 => ?_) ?_
  · refine State.within.step State.reply_within ?_ (by decide) (by decide)
    assumption
  · exact State.within_refl _ _

theorem restoreFactoryBody_within {q : ReqHdr} {s : State} : s.within (restoreFactoryBody q s) [.qcp, .cal, .ptb, .out] [24, 25] := by
  unfold restoreFactoryBody
  refine State.checks_within (by decide) (by decide) (fun t1 ht1 => ?_) ?_
  · refine State.startLong_within (by decide) (by decide) (fun t2 ht2 => ?_) ?_
    · refine State.within.step State.modCal_within ?_ (by decide) (by decide)
      assumption
    · assumption
  · exact State.within_refl _ _

theorem execCalRun_within {q : ReqHdr} {mask : BitVec 64} {s : State} : s.withinC (execCalRun q mask s) [.qcp, .cal, .ptb, .out] [20, 24, 25] := by
  unfold execCalRun
  refine State.withinC_next ?_
  refine State.request_within (by decide) (by decide) (fun t1 ht1 => ?_) ?_
  · refine State.within.step calRunBody_within ?_ (by decide) (by decide)
    assumption
  · exact State.within_refl _ _

theorem execCalStatus_within {q : ReqHdr} {s : State} : s.withinC (execCalStatus q s) [.qcp, .ptb, .out] [24, 25] := by
  unfold execCalStatus
  refine State.withinC_next ?_
  refine State.request_within (by decide) (by decide) (fun t1 ht1 => ?_) ?_
  · refine State.within.step calStatusBody_within ?_ (by decide) (by decide)
    assumption
  · exact State.within_refl _ _

theorem execCalRead_within {q : ReqHdr} {index : ℕ} {s : State} : s.withinC (execCalRead q index s) [.qcp, .ptb, .out] [24, 25] := by
  unfold execCalRead
  refine State.withinC_next ?_
  refine State.request_within (by decide) (by decide) (fun t1 ht1 => ?_) ?_
  · refine State.within.step calReadBody_within ?_ (by decide) (by decide)
    assumption
  · exact State.within_refl _ _

theorem execRestoreFactory_within {q : ReqHdr} {s : State} : s.withinC (execRestoreFactory q s) [.qcp, .cal, .ptb, .out] [24, 25] := by
  unfold execRestoreFactory
  refine State.withinC_next ?_
  refine State.request_within (by decide) (by decide) (fun t1 ht1 => ?_) ?_
  · refine State.within.step restoreFactoryBody_within ?_ (by decide) (by decide)
    assumption
  · exact State.within_refl _ _

theorem execCalSensorRead_within {die0 : ℤ} {die1 : ℤ} {die2 : ℤ} {die3 : ℤ} {tcase : ℤ} {s : State} : s.withinC (execCalSensorRead die0 die1 die2 die3 tcase s) [.cal, .dmc] [20] := by
  unfold execCalSensorRead
  refine State.withinC_next ?_
  refine State.within.step calSensorReadStep_within ?_ (by decide) (by decide)
  exact State.within_refl _ _

theorem execCalMicroStep_within {domain : Fin 13} {clipped : Bool} {values : List ℤ} {s : State} : s.withinC (execCalMicroStep domain clipped values s) [.qcp, .cal, .ptb, .out, .free] [5, 20, 24, 25] := by
  unfold execCalMicroStep
  refine State.withinC_next ?_
  refine State.within.step calMicroStepStep_within ?_ (by decide) (by decide)
  exact State.within_refl _ _

theorem execCalRetryExpire_within {domain : Fin 13} {s : State} : s.withinC (execCalRetryExpire domain s) [.clk, .cyc, .cal] [20] := by
  unfold execCalRetryExpire
  refine State.withinC_next ?_
  refine State.within.step calRetryExpireStep_within ?_ (by decide) (by decide)
  exact State.within_refl _ _

theorem execCalUserSave_within {s : State} : s.withinC (execCalUserSave s) [.cal] [] := by
  unfold execCalUserSave
  refine State.withinC_next ?_
  refine State.within.step calUserSaveStep_within ?_ (by decide) (by decide)
  exact State.within_refl _ _

theorem State.modDmc_within {s : State} {f : Dmc → Dmc} : s.within (State.modDmc s f) [.dmc] [] := by
  unfold State.modDmc
  refine State.within_upd (by intro c hc; cases c <;> first | rfl | exact absurd (by decide) hc) ?_
  exact State.within_refl _ _

theorem State.maxDebt_within {s : State} {ch : ℕ} : s.within (State.maxDebt s ch) [] [21] := by
  unfold State.maxDebt
  refine State.put_within rfl (mem_block (b := 21) (by omega) (by decide)) ?_
  exact State.within_refl _ _

theorem State.readDens_within {s : State} : s.within (State.readDens s) [] [21] := by
  unfold State.readDens
  extract_lets x1 x2
  clear_value x1
  clear_value x2
  refine State.puts_cons_within ?_
  refine State.puts_cons_within ?_
  refine State.puts_nil_within ?_
  refine State.put_within rfl (mem_block (b := 21) (by omega) (by decide)) ?_
  refine State.put_within rfl (mem_block (b := 21) (by omega) (by decide)) ?_
  exact State.within_refl _ _

theorem State.mr4_within {s : State} {ch : ℕ} {code : ℕ} : s.within (State.mr4 s ch code) [.dmc] [21] := by
  unfold State.mr4
  extract_lets x1 x2 x3
  clear_value x1
  have hx2 : s.within x2 [.dmc] [21] := by
    unfold x2
    refine State.put_any (by unfold fFld; (repeat' split) <;> exact mem_fld (b := 21) rfl (by omega) (by decide)) ?_
    exact State.within_refl _ _
  clear_value x2
  clear_value x3
  refine State.within_ite ?_ ?_
  · exact State.within_refl _ _
  · refine State.within_ite ?_ ?_
    · assumption
    · refine State.within.step State.maxDebt_within ?_ (by decide) (by decide)
      refine State.within.step State.modDmc_within ?_ (by decide) (by decide)
      assumption

theorem mr4ReadStep_within {f0 : ℕ} {f1 : ℕ} {f2 : ℕ} {f3 : ℕ} {s : State} : s.within (mr4ReadStep f0 f1 f2 f3 s) [.dmc] [21] := by
  unfold mr4ReadStep
  refine State.within.step State.mr4_within ?_ (by decide) (by decide)
  refine State.within.step State.mr4_within ?_ (by decide) (by decide)
  refine State.within.step State.mr4_within ?_ (by decide) (by decide)
  refine State.within.step State.mr4_within ?_ (by decide) (by decide)
  exact State.within_refl _ _

theorem refreshDueStep_within {ch : ℕ} {b : ℕ} {s : State} : s.within (refreshDueStep ch b s) [.dmc] [21] := by
  unfold refreshDueStep
  extract_lets x1 x2
  clear_value x1
  clear_value x2
  refine State.within_ite ?_ ?_
  · exact State.within_refl _ _
  · refine State.within.step State.maxDebt_within ?_ (by decide) (by decide)
    refine State.within.step State.modDmc_within ?_ (by decide) (by decide)
    exact State.within_refl _ _

theorem refreshIssueStep_within {ch : ℕ} {b : ℕ} {s : State} : s.within (refreshIssueStep ch b s) [.dmc] [21] := by
  unfold refreshIssueStep
  extract_lets x1 x2
  clear_value x1
  clear_value x2
  refine State.whenDo_within ?_ ?_
  · extract_lets x4
    have hx4 : s.within x4 [.dmc] [21] := by
      unfold x4
      refine State.within.step State.modDmc_within ?_ (by decide) (by decide)
      exact State.within_refl _ _
    clear_value x4
    refine State.within_ite ?_ ?_
    · refine State.countSat_within rfl (mem_block (b := 21) (by omega) (by decide)) ?_
      assumption
    · assumption
  · exact State.within_refl _ _

theorem rowActivateStep_within {ch : ℕ} {b : ℕ} {row : ℕ} {s : State} : s.within (rowActivateStep ch b row s) [.dmc, .free] [21] := by
  unfold rowActivateStep
  extract_lets x1
  clear_value x1
  refine State.whenDo_within ?_ ?_
  · refine State.within_ite ?_ ?_
    · extract_lets x3 x4
      clear_value x3
      have hx4 : s.within x4 [.dmc, .free] [21] := by
        unfold x4
        refine State.within.step State.modDmc_within ?_ (by decide) (by decide)
        refine State.drew_within (by decide) ?_
        exact State.within_refl _ _
      clear_value x4
      refine State.within_ite ?_ ?_
      · refine State.count_within rfl (mem_block (b := 21) (by decide) (by decide)) ?_
        assumption
      · assumption
    · refine State.within_ite ?_ ?_
      · refine State.count_within rfl (mem_block (b := 21) (by omega) (by decide)) ?_
        refine State.drew_within (by decide) ?_
        exact State.within_refl _ _
      · refine State.drew_within (by decide) ?_
        exact State.within_refl _ _
  · exact State.within_refl _ _

theorem rdTableClearStep_within {s : State} : s.within (rdTableClearStep s) [.dmc] [] := by
  unfold rdTableClearStep
  refine State.within.step State.modDmc_within ?_ (by decide) (by decide)
  exact State.within_refl _ _

theorem State.dramUntil_within {s : State} {r : DramReq} {n : ℕ} : s.within (State.dramUntil s r n) [.dmc] [] := by
  induction n generalizing s with
  | zero => exact State.within_refl _ _
  | succ n ih =>
    unfold State.dramUntil
    refine State.within_ite ?_ (State.within_refl _ _)
    refine State.within.step ih ?_ (by decide) (by decide)
    refine State.within.step State.dramServe_within ?_ (by decide) (by decide)
    exact State.within_refl _ _

theorem dramReadStep_within {ch : ℕ} {cls : ℕ} {addr : ℕ} {s : State} : s.within (dramReadStep ch cls addr s) [.dmc] [21] := by
  unfold dramReadStep
  extract_lets x1 x2 x3
  clear_value x1
  have hx2 : s.within x2 [.dmc] [21] := by
    unfold x2
    refine State.within_ite ?_ ?_
    · refine State.count_within rfl (mem_block (b := 21) (by omega) (by decide)) ?_
      exact State.within_refl _ _
    · exact State.within_refl _ _
  clear_value x2
  have hx3 : s.within x3 [.dmc] [21] := by
    unfold x3
    refine State.within.step State.modDmc_within ?_ (by decide) (by decide)
    assumption
  clear_value x3
  refine State.within.step State.dramUntil_within ?_ (by decide) (by decide)
  assumption

theorem State.trainOne_within {s : State} {ch : ℕ} : s.within (State.trainOne s ch) [.dmc, .free] [] := by
  unfold State.trainOne
  extract_lets x1
  clear_value x1
  refine State.within.step State.modDmc_within ?_ (by decide) (by decide)
  refine State.drew_within (by decide) ?_
  exact State.within_refl _ _

theorem trainingStepStep_within {ch : ℕ} {s : State} : s.within (trainingStepStep ch s) [.dmc, .free] [21] := by
  unfold trainingStepStep
  refine State.count_within rfl (mem_block (b := 21) (by decide) (by decide)) ?_
  refine State.within.step State.modDmc_within ?_ (by decide) (by decide)
  refine State.within.step State.trainOne_within ?_ (by decide) (by decide)
  exact State.within_refl _ _

theorem freqChangeStep_within {s : State} : s.within (freqChangeStep s) [.dmc] [21] := by
  unfold freqChangeStep
  refine State.within.step State.changeFsp_within ?_ (by decide) (by decide)
  exact State.within_refl _ _

theorem execMr4Read_within {f0 : BitVec 3} {f1 : BitVec 3} {f2 : BitVec 3} {f3 : BitVec 3} {s : State} : s.withinC (execMr4Read f0 f1 f2 f3 s) [.dmc] [21] := by
  unfold execMr4Read
  refine State.withinC_next ?_
  refine State.within.step mr4ReadStep_within ?_ (by decide) (by decide)
  exact State.within_refl _ _

theorem execRefreshDue_within {ch : Fin 4} {bank : Fin 16} {s : State} : s.withinC (execRefreshDue ch bank s) [.dmc] [21] := by
  unfold execRefreshDue
  refine State.withinC_next ?_
  refine State.within.step refreshDueStep_within ?_ (by decide) (by decide)
  exact State.within_refl _ _

theorem execRefreshIssue_within {ch : Fin 4} {bank : Fin 16} {s : State} : s.withinC (execRefreshIssue ch bank s) [.dmc] [21] := by
  unfold execRefreshIssue
  refine State.withinC_next ?_
  refine State.within.step refreshIssueStep_within ?_ (by decide) (by decide)
  exact State.within_refl _ _

theorem execRowActivate_within {ch : Fin 4} {bank : Fin 16} {row : ℕ} {s : State} : s.withinC (execRowActivate ch bank row s) [.dmc, .free] [21] := by
  unfold execRowActivate
  refine State.withinC_next ?_
  refine State.within.step rowActivateStep_within ?_ (by decide) (by decide)
  exact State.within_refl _ _

theorem execRdTableClear_within {s : State} : s.withinC (execRdTableClear s) [.dmc] [] := by
  unfold execRdTableClear
  refine State.withinC_next ?_
  refine State.within.step rdTableClearStep_within ?_ (by decide) (by decide)
  exact State.within_refl _ _

theorem execDramRead_within {ch : Fin 4} {cls : ℕ} {addr : ℕ} {s : State} : s.withinC (execDramRead ch cls addr s) [.dmc] [21] := by
  unfold execDramRead
  refine State.withinC_next ?_
  refine State.within.step dramReadStep_within ?_ (by decide) (by decide)
  exact State.within_refl _ _

theorem execTrainingStep_within {ch : Fin 4} {s : State} : s.withinC (execTrainingStep ch s) [.dmc, .free] [21] := by
  unfold execTrainingStep
  refine State.withinC_next ?_
  refine State.within.step trainingStepStep_within ?_ (by decide) (by decide)
  exact State.within_refl _ _

theorem execFreqChange_within {s : State} : s.withinC (execFreqChange s) [.dmc] [21] := by
  unfold execFreqChange
  refine State.withinC_next ?_
  refine State.within.step freqChangeStep_within ?_ (by decide) (by decide)
  exact State.within_refl _ _

theorem State.updPtb_within {s : State} : s.within (State.updPtb s) [.qcp, .ptb, .out] [24, 25] := by
  unfold State.updPtb
  extract_lets x1 x2
  clear_value x1
  have hx2 : s.within x2 [.qcp, .ptb, .out] [24, 25] := by
    unfold x2
    refine State.put_within rfl (mem_block (b := 24) (by decide) (by decide)) ?_
    exact State.within_refl _ _
  clear_value x2
  refine State.within_ite ?_ ?_
  · assumption
  · refine State.within.step State.eventAll_within ?_ (by decide) (by decide)
    refine State.putFlag_within rfl (mem_block (b := 24) (by decide) (by decide)) ?_
    assumption

theorem State.foldActs_within {s : State} : s.within (State.foldActs s) [] [24] := by
  unfold State.foldActs
  refine State.count_within rfl (mem_block (b := 24) (by decide) (by decide)) ?_
  refine State.count_within rfl (mem_block (b := 24) (by decide) (by decide)) ?_
  exact State.within_refl _ _

theorem State.ptbReset_within {s : State} : s.within (State.ptbReset s) [.qcp, .ptb, .out] [24, 25] := by
  unfold State.ptbReset
  refine State.within.step State.updPtb_within ?_ (by decide) (by decide)
  refine State.within_upd (by intro c hc; cases c <;> first | rfl | exact absurd (by decide) hc) ?_
  refine State.resetWords_within (fun a ha => (by decide : [24] ⊆ [24, 25]) (ptbWords_block a ha)) ?_
  refine State.within.step State.foldActs_within ?_ (by decide) (by decide)
  exact State.within_refl _ _

theorem State.ptbClosed_within {s : State} {r : ℕ} : s.within (State.ptbClosed s r) [.qcp, .ptb, .out] [24, 25] := by
  unfold State.ptbClosed
  refine State.within_ite ?_ ?_
  · refine State.within.step State.ptbReset_within ?_ (by decide) (by decide)
    exact State.within_refl _ _
  · exact State.within_refl _ _

theorem State.ptbWord_within {s : State} {path : Path} {off : ℕ} {w : Word} : s.within (State.ptbWord s path off w).1 [.qcp, .ptb, .out] [0, 24, 25] := by
  unfold State.ptbWord
  split
  · dsimp only
    refine State.within_ite ?_ ?_
    · refine State.put_within rfl (mem_block (b := 24) (by decide) (by decide)) ?_
      exact State.within_refl _ _
    · exact State.within_refl _ _
  · split
    · rename_i h
      have hb : blockOf off ∈ [24] := ptbWords_block off (by simp only [Bool.and_eq_true] at h; simpa using h.1)
      extract_lets x1 src x2
      have hx1 : s.within x1 [.qcp, .ptb, .out] [0, 24, 25] := by
        unfold x1
        refine State.wr_within ((by decide : [24] ⊆ [0, 24, 25]) hb) ?_
        refine State.within.step State.foldActs_within ?_ (by decide) (by decide)
        exact State.within_refl _ _
      have hx2 : s.within x2 [.qcp, .ptb, .out] [0, 24, 25] := by
        unfold x2 src
        refine State.within_upd (by intro c hc; cases c <;> first | rfl | exact absurd (by decide) hc) ?_
        exact hx1
      clear_value x2
      dsimp only
      refine State.within_ite ?_ hx2
      refine State.within.step State.ptbReset_within ?_ (by decide) (by decide)
      exact hx2
    · dsimp only
      refine State.within.step State.ignore_within ?_ (by decide) (by decide)
      exact State.within_refl _ _

theorem ptbSetBody_within {q : ReqHdr} {addr : ℕ} {data : List Word} {s : State} : s.within (ptbSetBody q addr data s) [.qcp, .ptb, .out] [0, 24, 25] := by
  unfold ptbSetBody
  extract_lets x1
  clear_value x1
  refine State.checks_within (by decide) (by decide) (fun t2 ht2 => ?_) (State.within_refl _ _)
  extract_lets x3 x4
  clear_value x3
  have hx4 : s.within x4.1 [.qcp, .ptb, .out] [0, 24, 25] := by
    unfold x4
    refine State.within_foldl_fst (fun p e hp => ?_) ?_
    · exact State.within.step State.ptbWord_within hp (by decide) (by decide)
    · refine State.within_upd (by intro c hc; cases c <;> first | rfl | exact absurd (by decide) hc) ?_
      assumption
  refine State.within.step State.reply_within ?_ (by decide) (by decide)
  refine State.within.step State.updPtb_within ?_ (by decide) (by decide)
  assumption

theorem ptbClearStep_within {path : Path} {s : State} : s.within (ptbClearStep path s) [.qcp, .ptb, .out] [0, 24, 25] := by
  unfold ptbClearStep
  split
  · refine State.within_ite ?_ ?_
    · refine State.within.step State.ptbReset_within ?_ (by decide) (by decide)
      exact State.within_refl _ _
    · refine State.within.step State.ignore_within ?_ (by decide) (by decide)
      exact State.within_refl _ _
  · refine State.within.step State.ignore_within ?_ (by decide) (by decide)
    exact State.within_refl _ _

theorem ptbLifeExpireStep_within {s : State} : s.within (ptbLifeExpireStep s) [.clk, .cyc, .qcp, .ptb, .out] [24, 25] := by
  unfold ptbLifeExpireStep
  refine State.whenDo_within ?_ ?_
  · refine State.put_within rfl (mem_block (b := 24) (by decide) (by decide)) ?_
    refine State.within.step State.ptbReset_within ?_ (by decide) (by decide)
    refine State.within.step State.atCyc_within ?_ (by decide) (by decide)
    exact State.within_refl _ _
  · exact State.within_refl _ _

theorem execPtbSet_within {q : ReqHdr} {addr : BitVec 24} {data : List Word} {s : State} : s.withinC (execPtbSet q addr data s) [.qcp, .ptb, .out] [0, 24, 25] := by
  unfold execPtbSet
  refine State.withinC_next ?_
  refine State.request_within (by decide) (by decide) (fun t1 ht1 => ?_) ?_
  · refine State.within.step ptbSetBody_within ?_ (by decide) (by decide)
    assumption
  · exact State.within_refl _ _

theorem execPtbClear_within {path : Path} {s : State} : s.withinC (execPtbClear path s) [.qcp, .ptb, .out] [0, 24, 25] := by
  unfold execPtbClear
  refine State.withinC_next ?_
  refine State.within.step ptbClearStep_within ?_ (by decide) (by decide)
  exact State.within_refl _ _

theorem execPtbLifeExpire_within {s : State} : s.withinC (execPtbLifeExpire s) [.clk, .cyc, .qcp, .ptb, .out] [24, 25] := by
  unfold execPtbLifeExpire
  refine State.withinC_next ?_
  refine State.within.step ptbLifeExpireStep_within ?_ (by decide) (by decide)
  exact State.within_refl _ _

end Sys2Proof.Machine
end

