-- ==== Sys2Proof/Laws/WithinSweep.lean ====
section
/-! SUPPORT. For each operation of sweeps, staging, sessions, commitment and the saved record: which components and which register blocks it may change. -/

namespace Sys2Proof.Machine

theorem State.seriesReset_within {s : State} : s.within (State.seriesReset s) [.grid] [] := by
  unfold State.seriesReset
  refine State.within_upd (by intro c hc; cases c <;> first | rfl | exact absurd (by decide) hc) ?_
  exact State.within_refl _ _

theorem State.seedSeries_within {s : State} {t : Ts} : s.within (State.seedSeries s t) [.strm] [] := by
  unfold State.seedSeries
  refine State.within_foldl (fun t1 y1 ht1 => ?_) ?_
  · refine State.within_ite ?_ ?_
    · refine State.within.step State.modStr_within ?_ (by decide) (by decide)
      assumption
    · assumption
  · exact State.within_refl _ _

theorem State.probeChanged_within {s : State} {p : Port} : s.within (State.probeChanged s p) [.grid, .brl] [8] := by
  unfold State.probeChanged
  refine State.within.step State.brlAbandon_within ?_ (by decide) (by decide)
  refine State.within.step State.reinit_within ?_ (by decide) (by decide)
  refine State.within.step State.unsettleDas_within ?_ (by decide) (by decide)
  exact State.within_refl _ _

theorem State.swapBanks_within {s : State} {at_ : Ts} : s.within (State.swapBanks s at_) [.grid, .pat, .rx, .brl] [4, 8] := by
  unfold State.swapBanks
  extract_lets x1 x2 x3 x4
  clear_value x1
  have hx2 : s.within x2 [.grid, .pat, .rx, .brl] [4, 8] := by
    unfold x2
    refine State.within_upd (by intro c hc; cases c <;> first | rfl | exact absurd (by decide) hc) ?_
    exact State.within_refl _ _
  clear_value x2
  have hx3 : s.within x3 [.grid, .pat, .rx, .brl] [4, 8] := by
    unfold x3
    refine State.count_within rfl (mem_block (b := 4) (by decide) (by decide)) ?_
    refine State.puts_cons_within ?_
    refine State.puts_cons_within ?_
    refine State.puts_nil_within ?_
    refine State.put_within rfl (mem_block (b := 4) (by decide) (by decide)) ?_
    refine State.put_within rfl (mem_block (b := 4) (by omega) (by decide)) ?_
    assumption
  clear_value x3
  clear_value x4
  refine State.within.step State.probeChanged_within ?_ (by decide) (by decide)
  refine State.within.step State.probeChanged_within ?_ (by decide) (by decide)
  refine State.within.step State.rebuildFilters_within ?_ (by decide) (by decide)
  refine State.within_upd (by intro c hc; cases c <;> first | rfl | exact absurd (by decide) hc) ?_
  assumption

theorem State.syncArrives_within {s : State} {src : ℕ} : s.within (State.syncArrives s src) [.pat] [] := by
  unfold State.syncArrives
  refine State.within_ite ?_ ?_
  · refine State.within_upd (by intro c hc; cases c <;> first | rfl | exact absurd (by decide) hc) ?_
    exact State.within_refl _ _
  · exact State.within_refl _ _

theorem sweepSyncEdgeStep_within {rising : Bool} {s : State} : s.within (sweepSyncEdgeStep rising s) [.pat] [] := by
  unfold sweepSyncEdgeStep
  refine State.whenDo_within ?_ ?_
  · refine State.within.step State.syncArrives_within ?_ (by decide) (by decide)
    exact State.within_refl _ _
  · exact State.within_refl _ _

theorem syncExecuteStep_within {s : State} : s.within (syncExecuteStep s) [.clk, .cyc, .pat, .ridge] [] := by
  unfold syncExecuteStep
  split
  · exact State.within_refl _ _
  · refine State.within.step State.syncArrives_within ?_ (by decide) (by decide)
    refine State.within.step State.at_within ?_ (by decide) (by decide)
    refine State.within_upd (by intro c hc; cases c <;> first | rfl | exact absurd (by decide) hc) ?_
    exact State.within_refl _ _

theorem State.ridgeSyncAct_within {s : State} {path : Path} : s.withinE (State.ridgeSyncAct s path) [.ridge, .ptb, .out] [24] := by
  unfold State.ridgeSyncAct
  refine State.byBound_within (fun t1 ht1 => ?_) ?_
  · refine State.within.step State.sendRidgeSync_within ?_ (by decide) (by decide)
    assumption
  · exact State.within_refl _ _

theorem ridgeSyncSendStep_within {path : Path} {s : State} : s.within (ridgeSyncSendStep path s) [.ridge, .ptb, .out] [0, 24] := by
  unfold ridgeSyncSendStep
  refine State.acted_within (by decide) ?_ ?_
  · refine State.withinE.step State.ridgeSyncAct_within ?_ (by decide) (by decide)
    exact State.within_refl _ _
  · exact State.within_refl _ _

theorem State.startSignature_within {s : State} : s.within (State.startSignature s) [.phs] [] := by
  unfold State.startSignature
  refine State.within_upd (by intro c hc; cases c <;> first | rfl | exact absurd (by decide) hc) ?_
  exact State.within_refl _ _

theorem State.enterEmission_within {s : State} : s.within (State.enterEmission s) [.light, .phs, .pair, .mon, .dmc, .power] [0, 3, 17, 19, 21] := by
  unfold State.enterEmission
  extract_lets x1 x2 x3 x4 x5 x6 x7 x8 x9 x10
  clear_value x1
  clear_value x2
  clear_value x3
  clear_value x4
  have hx5 : s.within x5 [.light, .phs, .pair, .mon, .dmc, .power] [0, 3, 17, 19, 21] := by
    unfold x5
    refine State.within_upd (by intro c hc; cases c <;> first | rfl | exact absurd (by decide) hc) ?_
    exact State.within_refl _ _
  clear_value x5
  have hx6 : s.within x6 [.light, .phs, .pair, .mon, .dmc, .power] [0, 3, 17, 19, 21] := by
    unfold x6
    refine State.within_ite ?_ ?_
    · refine State.put_within rfl (mem_block (b := 17) (by decide) (by decide)) ?_
      refine State.within.step State.modPair_within ?_ (by decide) (by decide)
      assumption
    · assumption
  clear_value x6
  have hx7 : s.within x7 [.light, .phs, .pair, .mon, .dmc, .power] [0, 3, 17, 19, 21] := by
    unfold x7
    refine State.within.step State.startSignature_within ?_ (by decide) (by decide)
    assumption
  clear_value x7
  have hx8 : s.within x8 [.light, .phs, .pair, .mon, .dmc, .power] [0, 3, 17, 19, 21] := by
    unfold x8
    refine State.within.step State.latchLive_within ?_ (by decide) (by decide)
    assumption
  clear_value x8
  clear_value x9
  have hx10 : s.within x10 [.light, .phs, .pair, .mon, .dmc, .power] [0, 3, 17, 19, 21] := by
    unfold x10
    refine State.within_ite ?_ ?_
    · refine State.within.step State.monTrig_within ?_ (by decide) (by decide)
      refine State.within.step State.enter_within ?_ (by decide) (by decide)
      refine State.within_upd (by intro c hc; cases c <;> first | rfl | exact absurd (by decide) hc) ?_
      assumption
    · refine State.within.step State.enter_within ?_ (by decide) (by decide)
      assumption
  clear_value x10
  refine State.within.step State.settleClamp_within ?_ (by decide) (by decide)
  refine State.within.step State.learnPorts_within ?_ (by decide) (by decide)
  assumption

theorem State.beginGrid_within {s : State} {t : Ts} : s.within (State.beginGrid s t) [.grid] [] := by
  unfold State.beginGrid
  extract_lets x1
  clear_value x1
  refine State.within.step State.startGrid_within ?_ (by decide) (by decide)
  refine State.within_ite ?_ ?_
  · exact State.within_refl _ _
  · refine State.within.step State.seriesReset_within ?_ (by decide) (by decide)
    exact State.within_refl _ _

theorem State.requestRun_within {s : State} {t : Ts} : s.within (State.requestRun s t) [.light, .grid, .phs, .pair, .mon, .dmc, .power] [0, 3, 17, 19, 21] := by
  unfold State.requestRun
  refine State.within_ite ?_ ?_
  · exact State.within_refl _ _
  · refine State.within_ite ?_ ?_
    · refine State.within.step State.enterEmission_within ?_ (by decide) (by decide)
      refine State.within.step State.beginGrid_within ?_ (by decide) (by decide)
      exact State.within_refl _ _
    · refine State.within.step State.beginGrid_within ?_ (by decide) (by decide)
      refine State.within_upd (by intro c hc; cases c <;> first | rfl | exact absurd (by decide) hc) ?_
      exact State.within_refl _ _

theorem State.requestStop_within {s : State} : s.within (State.requestStop s) [.light, .grid, .phs, .qcp, .pair, .dmc, .ptb, .power, .out] [0, 3, 16, 17, 21, 24, 25] := by
  unfold State.requestStop
  extract_lets x1 x2 x3 x4 x5
  clear_value x1
  clear_value x2
  have hx3 : s.within x3 [.light, .grid, .phs, .qcp, .pair, .dmc, .ptb, .power, .out] [0, 3, 16, 17, 21, 24, 25] := by
    unfold x3
    refine State.within_upd (by intro c hc; cases c <;> first | rfl | exact absurd (by decide) hc) ?_
    exact State.within_refl _ _
  clear_value x3
  have hx4 : s.within x4 [.light, .grid, .phs, .qcp, .pair, .dmc, .ptb, .power, .out] [0, 3, 16, 17, 21, 24, 25] := by
    unfold x4
    refine State.within.step State.dark_within ?_ (by decide) (by decide)
    assumption
  clear_value x4
  have hx5 : s.within x5 [.light, .grid, .phs, .qcp, .pair, .dmc, .ptb, .power, .out] [0, 3, 16, 17, 21, 24, 25] := by
    unfold x5
    refine State.within_ite ?_ ?_
    · refine State.put_within rfl (mem_block (b := 17) (by decide) (by decide)) ?_
      refine State.within.step State.dropSwitch_within ?_ (by decide) (by decide)
      refine State.within.step State.modPair_within ?_ (by decide) (by decide)
      assumption
    · assumption
  clear_value x5
  refine State.within_ite ?_ ?_
  · refine State.within_ite ?_ ?_
    · refine State.within.step State.stopGrid_within ?_ (by decide) (by decide)
      assumption
    · assumption
  · refine State.within.step State.settleClamp_within ?_ (by decide) (by decide)
    refine State.within_ite ?_ ?_
    · refine State.within.step State.toStandby_within ?_ (by decide) (by decide)
      assumption
    · refine State.within.step State.enter_within ?_ (by decide) (by decide)
      assumption

theorem State.goDark_within {s : State} {shutdown : Bool} : s.within (State.goDark s shutdown) [.grid, .dec, .qcp, .strm, .cal, .dmc, .ptb, .power, .out] [0, 3, 7, 12, 21, 24, 25] := by
  unfold State.goDark
  extract_lets x1 x2 x3 x4 x5 x6
  clear_value x1
  have hx2 : s.within x2 [.grid, .dec, .qcp, .strm, .cal, .dmc, .ptb, .power, .out] [0, 3, 7, 12, 21, 24, 25] := by
    unfold x2
    refine State.within_foldl (fun t7 y7 ht7 => ?_) ?_
    · refine State.within.step State.account_within ?_ (by decide) (by decide)
      assumption
    · exact State.within_refl _ _
  clear_value x2
  have hx3 : s.within x3 [.grid, .dec, .qcp, .strm, .cal, .dmc, .ptb, .power, .out] [0, 3, 7, 12, 21, 24, 25] := by
    unfold x3
    refine State.within.step State.dark_within ?_ (by decide) (by decide)
    refine State.within_ite ?_ ?_
    · refine State.within_foldl (fun t8 y8 ht8 => ?_) ?_
      · refine State.within.step State.endStream_within ?_ (by decide) (by decide)
        assumption
      · exact State.within_refl _ _
    · exact State.within_refl _ _
  clear_value x3
  clear_value x4
  have hx5 : s.within x5 [.grid, .dec, .qcp, .strm, .cal, .dmc, .ptb, .power, .out] [0, 3, 7, 12, 21, 24, 25] := by
    unfold x5
    refine State.within_upd (by intro c hc; cases c <;> first | rfl | exact absurd (by decide) hc) ?_
    assumption
  clear_value x5
  have hx6 : s.within x6 [.grid, .dec, .qcp, .strm, .cal, .dmc, .ptb, .power, .out] [0, 3, 7, 12, 21, 24, 25] := by
    unfold x6
    refine State.within.step State.settleClamp_within ?_ (by decide) (by decide)
    refine State.within.step State.enter_within ?_ (by decide) (by decide)
    assumption
  clear_value x6
  refine State.within_ite ?_ ?_
  · refine State.within.step State.calSave_within ?_ (by decide) (by decide)
    refine State.within.step State.evalFallback_within ?_ (by decide) (by decide)
    assumption
  · assumption

theorem State.closeSweep_within {s : State} : s.within (State.closeSweep s) [.grid, .rx, .phs] [] := by
  unfold State.closeSweep
  refine State.within_ite ?_ ?_
  · exact State.within_refl _ _
  · extract_lets x1 x2 x3 x4
    clear_value x1
    clear_value x2
    clear_value x3
    clear_value x4
    refine State.within_upd (by intro c hc; cases c <;> first | rfl | exact absurd (by decide) hc) ?_
    exact State.within_refl _ _

theorem State.reanchor_within {s : State} {backward : Bool} {k : ℕ} : s.within (State.reanchor s backward k) [.grid, .rx] [0] := by
  unfold State.reanchor
  extract_lets x1 x2 x3 x4
  have hx1 : s.within x1 [.grid, .rx] [0] := by
    unfold x1
    refine State.puts_cons_within ?_
    refine State.puts_cons_within ?_
    refine State.puts_cons_within ?_
    refine State.puts_nil_within ?_
    refine State.put_within rfl (mem_block (b := 0) (by omega) (by decide)) ?_
    refine State.put_within rfl (mem_block (b := 0) (by omega) (by decide)) ?_
    refine State.put_within rfl (mem_block (b := 0) (by omega) (by decide)) ?_
    exact State.within_refl _ _
  clear_value x1
  have hx2 : s.within x2 [.grid, .rx] [0] := by
    unfold x2
    refine State.within.step State.reinitAll_within ?_ (by decide) (by decide)
    refine State.within.step State.unsettle2_within ?_ (by decide) (by decide)
    assumption
  clear_value x2
  clear_value x3
  have hx4 : s.within x4 [.grid, .rx] [0] := by
    unfold x4
    refine State.within_upd (by intro c hc; cases c <;> first | rfl | exact absurd (by decide) hc) ?_
    assumption
  clear_value x4
  refine State.within_ite ?_ ?_
  · refine State.within.step State.seriesReset_within ?_ (by decide) (by decide)
    assumption
  · assumption

theorem State.failoverSweep_within {s : State} : s.within (State.failoverSweep s) [.grid, .pair] [] := by
  unfold State.failoverSweep
  refine State.within_ite ?_ ?_
  · exact State.within_refl _ _
  · extract_lets x1 x2
    have hx1 : s.within x1 [.grid, .pair] [] := by
      unfold x1
      refine State.within.step State.modPair_within ?_ (by decide) (by decide)
      exact State.within_refl _ _
    clear_value x1
    clear_value x2
    refine State.within_ite ?_ ?_
    · refine State.within_upd (by intro c hc; cases c <;> first | rfl | exact absurd (by decide) hc) ?_
      assumption
    · assumption

theorem State.boundaryActs_within {s : State} {k : ℕ} {t : Ts} : s.within (State.boundaryActs s k t) [.light, .grid, .pat, .rx, .phs, .dec, .qcp, .strm, .trg, .brl, .pair, .mon, .cal, .dmc, .ptb, .out] [0, 3, 4, 5, 6, 7, 8, 9, 12, 19, 20, 21, 24, 25] := by
  unfold State.boundaryActs
  extract_lets x1 x2 x3 x4 x5
  have hx1 : s.within x1 [.light, .grid, .pat, .rx, .phs, .dec, .qcp, .strm, .trg, .brl, .pair, .mon, .cal, .dmc, .ptb, .out] [0, 3, 4, 5, 6, 7, 8, 9, 12, 19, 20, 21, 24, 25] := by
    unfold x1
    refine State.within.step State.normalPort_within ?_ (by decide) (by decide)
    refine State.within.step State.normalPort_within ?_ (by decide) (by decide)
    refine State.within.step State.aprBoundary_within ?_ (by decide) (by decide)
    refine State.within.step State.aprBoundary_within ?_ (by decide) (by decide)
    refine State.within.step State.openClamp_within ?_ (by decide) (by decide)
    exact State.within_refl _ _
  clear_value x1
  have hx2 : s.within x2 [.light, .grid, .pat, .rx, .phs, .dec, .qcp, .strm, .trg, .brl, .pair, .mon, .cal, .dmc, .ptb, .out] [0, 3, 4, 5, 6, 7, 8, 9, 12, 19, 20, 21, 24, 25] := by
    unfold x2
    refine State.within.step State.liftHolds_within ?_ (by decide) (by decide)
    refine State.within.step State.leaveSafe_within ?_ (by decide) (by decide)
    assumption
  clear_value x2
  have hx3 : s.within x3 [.light, .grid, .pat, .rx, .phs, .dec, .qcp, .strm, .trg, .brl, .pair, .mon, .cal, .dmc, .ptb, .out] [0, 3, 4, 5, 6, 7, 8, 9, 12, 19, 20, 21, 24, 25] := by
    unfold x3
    refine State.within_ite ?_ ?_
    · refine State.within.step State.swapBanks_within ?_ (by decide) (by decide)
      assumption
    · assumption
  clear_value x3
  have hx4 : s.within x4 [.light, .grid, .pat, .rx, .phs, .dec, .qcp, .strm, .trg, .brl, .pair, .mon, .cal, .dmc, .ptb, .out] [0, 3, 4, 5, 6, 7, 8, 9, 12, 19, 20, 21, 24, 25] := by
    unfold x4
    refine State.within.step State.gainBoundary_within ?_ (by decide) (by decide)
    refine State.within.step State.gainBoundary_within ?_ (by decide) (by decide)
    refine State.within.step State.gainBoundary_within ?_ (by decide) (by decide)
    refine State.within.step State.gainBoundary_within ?_ (by decide) (by decide)
    assumption
  clear_value x4
  have hx5 : s.within x5 [.light, .grid, .pat, .rx, .phs, .dec, .qcp, .strm, .trg, .brl, .pair, .mon, .cal, .dmc, .ptb, .out] [0, 3, 4, 5, 6, 7, 8, 9, 12, 19, 20, 21, 24, 25] := by
    unfold x5
    refine State.within.step State.fallbackMoves_within ?_ (by decide) (by decide)
    refine State.within.step State.centreTheta_within ?_ (by decide) (by decide)
    refine State.within.step State.lncBoundary_within ?_ (by decide) (by decide)
    assumption
  clear_value x5
  refine State.within.step State.monTrig_within ?_ (by decide) (by decide)
  refine State.within.step State.failoverSweep_within ?_ (by decide) (by decide)
  refine State.within.step State.calBoundary_within ?_ (by decide) (by decide)
  refine State.within.step State.brlBoundary_within ?_ (by decide) (by decide)
  refine State.within.step State.brlBoundary_within ?_ (by decide) (by decide)
  assumption

theorem State.startSweep_within {s : State} {edge : Ts} : s.within (State.startSweep s edge) [.clk, .cyc, .light, .grid, .pat, .rx, .phs, .dec, .qcp, .strm, .trg, .brl, .pair, .mon, .cal, .dmc, .ptb, .out] [0, 3, 4, 5, 6, 7, 8, 9, 12, 19, 20, 21, 24, 25] := by
  unfold State.startSweep
  extract_lets x1 x2 x3 x4 x5 x6 x7 x8
  clear_value x1
  have hx2 : s.within x2 [.clk, .cyc, .light, .grid, .pat, .rx, .phs, .dec, .qcp, .strm, .trg, .brl, .pair, .mon, .cal, .dmc, .ptb, .out] [0, 3, 4, 5, 6, 7, 8, 9, 12, 19, 20, 21, 24, 25] := by
    unfold x2
    refine State.within.step State.edgeTimes_within ?_ (by decide) (by decide)
    refine State.within.step State.at_within ?_ (by decide) (by decide)
    refine State.within.step State.closeSweep_within ?_ (by decide) (by decide)
    exact State.within_refl _ _
  clear_value x2
  have hx3 : s.within x3 [.clk, .cyc, .light, .grid, .pat, .rx, .phs, .dec, .qcp, .strm, .trg, .brl, .pair, .mon, .cal, .dmc, .ptb, .out] [0, 3, 4, 5, 6, 7, 8, 9, 12, 19, 20, 21, 24, 25] := by
    unfold x3
    split
    · refine State.within.step State.reanchor_within ?_ (by decide) (by decide)
      assumption
    · assumption
  clear_value x3
  clear_value x4
  clear_value x5
  have hx6 : s.within x6 [.clk, .cyc, .light, .grid, .pat, .rx, .phs, .dec, .qcp, .strm, .trg, .brl, .pair, .mon, .cal, .dmc, .ptb, .out] [0, 3, 4, 5, 6, 7, 8, 9, 12, 19, 20, 21, 24, 25] := by
    unfold x6
    refine State.within_upd (by intro c hc; cases c <;> first | rfl | exact absurd (by decide) hc) ?_
    assumption
  clear_value x6
  have hx7 : s.within x7 [.clk, .cyc, .light, .grid, .pat, .rx, .phs, .dec, .qcp, .strm, .trg, .brl, .pair, .mon, .cal, .dmc, .ptb, .out] [0, 3, 4, 5, 6, 7, 8, 9, 12, 19, 20, 21, 24, 25] := by
    unfold x7
    refine State.put2_within rfl rfl (mem_block (b := 0) (by decide) (by decide)) (mem_block (b := 0) (by decide) (by decide)) ?_
    refine State.within.step State.seedSeries_within ?_ (by decide) (by decide)
    assumption
  clear_value x7
  have hx8 : ∀ a0 a1, s.within a0 [.clk, .cyc, .light, .grid, .pat, .rx, .phs, .dec, .qcp, .strm, .trg, .brl, .pair, .mon, .cal, .dmc, .ptb, .out] [0, 3, 4, 5, 6, 7, 8, 9, 12, 19, 20, 21, 24, 25] → s.within (x8 a0 a1) [.clk, .cyc, .light, .grid, .pat, .rx, .phs, .dec, .qcp, .strm, .trg, .brl, .pair, .mon, .cal, .dmc, .ptb, .out] [0, 3, 4, 5, 6, 7, 8, 9, 12, 19, 20, 21, 24, 25] := by
    intro a0 a1 ha
    unfold x8
    refine State.within.step State.modPl_within ?_ (by decide) (by decide)
    assumption
  refine State.within.step State.boundaryActs_within ?_ (by decide) (by decide)
  refine hx8 _ _ ?_
  refine hx8 _ _ ?_
  assumption

theorem State.takenUp_within {s : State} {p : Port} : s.within (State.takenUp s p) [.grid] [] := by
  unfold State.takenUp
  extract_lets x1 x2
  clear_value x1
  clear_value x2
  split
  · refine State.within_upd (by intro c hc; cases c <;> first | rfl | exact absurd (by decide) hc) ?_
    exact State.within_refl _ _
  · refine State.within_upd (by intro c hc; cases c <;> first | rfl | exact absurd (by decide) hc) ?_
    exact State.within_refl _ _

theorem State.fireProbe_within {s : State} {p : Port} {pos : Fin 16} : s.within (State.fireProbe s p pos) [.rx, .ptb, .out] [24] := by
  unfold State.fireProbe
  extract_lets x1
  clear_value x1
  refine State.within.step State.noteShot_within ?_ (by decide) (by decide)
  refine State.within.step State.emit_within ?_ (by decide) (by decide)
  exact State.within_refl _ _

theorem State.awaitShot_within {s : State} {i : Inflight} : s.within (State.awaitShot s i) [.grid] [] := by
  unfold State.awaitShot
  refine State.within_upd (by intro c hc; cases c <;> first | rfl | exact absurd (by decide) hc) ?_
  exact State.within_refl _ _

theorem State.launchPort_within {s : State} {pos : Fin 16} {p : Port} : s.within (State.launchPort s pos p) [.grid, .rx, .brl, .ptb, .out] [24] := by
  unfold State.launchPort
  extract_lets x1 x2 x3 x4 x5 x6 x7 x8 x9 x10 x11
  clear_value x1
  clear_value x2
  have hx3 : s.within x3 [.grid, .rx, .brl, .ptb, .out] [24] := by
    unfold x3
    refine State.within_upd (by intro c hc; cases c <;> first | rfl | exact absurd (by decide) hc) ?_
    exact State.within_refl _ _
  clear_value x4
  have hx5 : s.within x5 [.grid, .rx, .brl, .ptb, .out] [24] := by
    unfold x5
    refine State.within_ite ?_ ?_
    · assumption
    · refine State.within.step State.fireProbe_within ?_ (by decide) (by decide)
      assumption
  clear_value x5
  clear_value x6
  have hx7 : s.within x7 [.grid, .rx, .brl, .ptb, .out] [24] := by
    unfold x7
    refine State.within_ite ?_ ?_
    · assumption
    · refine State.within.step State.awaitShot_within ?_ (by decide) (by decide)
      assumption
  clear_value x7
  clear_value x8
  have hx9 : s.within x9 [.grid, .rx, .brl, .ptb, .out] [24] := by
    unfold x9
    refine State.within.step State.takenUp_within ?_ (by decide) (by decide)
    refine State.within.step State.awaitShot_within ?_ (by decide) (by decide)
    assumption
  clear_value x9
  have hx10 : s.within x10 [.grid, .rx, .brl, .ptb, .out] [24] := by
    unfold x10
    refine State.within.step State.fireProbe_within ?_ (by decide) (by decide)
    assumption
  clear_value x10
  clear_value x11
  refine State.within_ite ?_ ?_
  · assumption
  · refine State.within_ite ?_ ?_
    · refine State.within.step State.setAbs_within ?_ (by decide) (by decide)
      refine State.within_ite ?_ ?_
      · refine State.within.step State.awaitShot_within ?_ (by decide) (by decide)
        assumption
      · assumption
    · refine State.within_ite ?_ ?_
      · assumption
      · refine State.within_ite ?_ ?_
        · refine State.within.step State.setAbs_within ?_ (by decide) (by decide)
          assumption
        · refine State.within_ite ?_ ?_
          · assumption
          · refine State.within_ite ?_ ?_
            · refine State.within_upd (by intro c hc; cases c <;> first | rfl | exact absurd (by decide) hc) ?_
              assumption
            · assumption

theorem shotLaunchStep_within {pos : Fin 16} {s : State} : s.within (shotLaunchStep pos s) [.clk, .cyc, .grid, .rx, .brl, .ptb, .out] [24] := by
  unfold shotLaunchStep
  extract_lets x1
  clear_value x1
  refine State.whenDo_within ?_ ?_
  · extract_lets x3 x4
    have hx3 : s.within x3 [.clk, .cyc, .grid, .rx, .brl, .ptb, .out] [24] := by
      unfold x3
      refine State.within.step State.at_within ?_ (by decide) (by decide)
      exact State.within_refl _ _
    clear_value x3
    clear_value x4
    refine State.within.step State.launchPort_within ?_ (by decide) (by decide)
    refine State.within.step State.launchPort_within ?_ (by decide) (by decide)
    refine State.within_upd (by intro c hc; cases c <;> first | rfl | exact absurd (by decide) hc) ?_
    assumption
  · exact State.within_refl _ _

theorem execShotLaunch_within {pos : Fin 16} {s : State} : s.withinC (execShotLaunch pos s) [.clk, .cyc, .grid, .rx, .brl, .ptb, .out] [24] := by
  unfold execShotLaunch
  refine State.withinC_next ?_
  refine State.within.step shotLaunchStep_within ?_ (by decide) (by decide)
  exact State.within_refl _ _

theorem execSweepSyncEdge_within {rising : Bool} {s : State} : s.withinC (execSweepSyncEdge rising s) [.pat] [] := by
  unfold execSweepSyncEdge
  refine State.withinC_next ?_
  refine State.within.step sweepSyncEdgeStep_within ?_ (by decide) (by decide)
  exact State.within_refl _ _

theorem execSyncExecute_within {s : State} : s.withinC (execSyncExecute s) [.clk, .cyc, .pat, .ridge] [] := by
  unfold execSyncExecute
  refine State.withinC_next ?_
  refine State.within.step syncExecuteStep_within ?_ (by decide) (by decide)
  exact State.within_refl _ _

theorem execRidgeSyncSend_within {path : Path} {s : State} : s.withinC (execRidgeSyncSend path s) [.ridge, .ptb, .out] [0, 24] := by
  unfold execRidgeSyncSend
  refine State.withinC_next ?_
  refine State.within.step ridgeSyncSendStep_within ?_ (by decide) (by decide)
  exact State.within_refl _ _

theorem State.commitWord_within {s : State} {r : Fin 8} {off : ℕ} {w : Word} : s.within (State.commitWord s r off w) [] allBlocks := by
  unfold State.commitWord
  refine State.within_ite ?_ ?_
  · refine State.within.step State.ignore_within ?_ (by decide) (by decide)
    exact State.within_refl _ _
  · refine State.within_ite ?_ ?_
    · refine State.within.step State.ignore_within ?_ (by decide) (by decide)
      exact State.within_refl _ _
    · refine State.wr_within (blockOf_mem_all _) ?_
      exact State.within_refl _ _

theorem State.commitWords_within {s : State} {r : Fin 8} {l : List (ℕ × Word)} : s.within (State.commitWords s r l) [] allBlocks := by
  unfold State.commitWords
  refine State.within_foldl (fun t1 y1 ht1 => ?_) ?_
  · refine State.within.step State.commitWord_within ?_ (by decide) (by decide)
    assumption
  · exact State.within_refl _ _

theorem State.claimTrg_within {s : State} {r : Fin 8} {l : List (ℕ × Word)} : s.within (State.claimTrg s r l) [.qcp] [] := by
  unfold State.claimTrg
  refine State.within_upd (by intro c hc; cases c <;> first | rfl | exact absurd (by decide) hc) ?_
  exact State.within_refl _ _

theorem State.claimCap_within {s : State} {r : Fin 8} {l : List (ℕ × Word)} : s.within (State.claimCap s r l) [.qcp] [] := by
  unfold State.claimCap
  refine State.within_upd (by intro c hc; cases c <;> first | rfl | exact absurd (by decide) hc) ?_
  exact State.within_refl _ _

theorem State.adopt_within {s : State} {r : Fin 8} {l : List (ℕ × Word)} : s.within (State.adopt s r l) [.qcp] allBlocks := by
  unfold State.adopt
  refine State.within.step State.claimStr_within ?_ (by decide) (by decide)
  refine State.within.step State.claimCap_within ?_ (by decide) (by decide)
  refine State.within.step State.claimTrg_within ?_ (by decide) (by decide)
  refine State.within.step State.commitWords_within ?_ (by decide) (by decide)
  exact State.within_refl _ _

theorem State.foresee_within {s : State} {r : Fin 8} {l : List (ℕ × Word)} : s.within (State.foresee s r l) [.qcp] allBlocks := by
  unfold State.foresee
  extract_lets x1 x2
  have hx1 : s.within x1 [.qcp] allBlocks := by
    unfold x1
    refine State.within.step State.adopt_within ?_ (by decide) (by decide)
    exact State.within_refl _ _
  clear_value x1
  have hx2 : s.within x2 [.qcp] allBlocks := by
    unfold x2
    refine State.within_ite ?_ ?_
    · refine State.put_within rfl (blockOf_mem_all _) ?_
      assumption
    · assumption
  clear_value x2
  refine State.within_foldl (fun t3 y3 ht3 => ?_) ?_
  · refine State.within_ite ?_ ?_
    · refine State.within_ite ?_ ?_
      · refine State.put_within rfl (blockOf_mem_all _) ?_
        assumption
      · assumption
    · refine State.put_within rfl (blockOf_mem_all _) ?_
      assumption
  · assumption

theorem State.foreseen_within {s : State} : s.within (State.foreseen s) [.qcp] allBlocks := by
  unfold State.foreseen
  refine State.within_foldl (fun t1 y1 ht1 => ?_) ?_
  · refine State.within.step State.foresee_within ?_ (by decide) (by decide)
    assumption
  · exact State.within_refl _ _

theorem State.markBanks_within {s : State} {r : Fin 8} {l : List (ℕ × Word)} : s.within (State.markBanks s r l) [] [4] := by
  unfold State.markBanks
  split
  · split
    · refine State.put_within rfl (mem_block (b := 4) (by decide) (by decide)) ?_
      exact State.within_refl _ _
    · refine State.put_within rfl (mem_block (b := 4) (by decide) (by decide)) ?_
      exact State.within_refl _ _
    · exact State.within_refl _ _
  · exact State.within_refl _ _

theorem State.updKeys_within {s : State} : s.within (State.updKeys s) [] [23] := by
  unfold State.updKeys
  refine State.puts_cons_within ?_
  refine State.puts_cons_within ?_
  refine State.puts_nil_within ?_
  refine State.put_within rfl (mem_block (b := 23) (by omega) (by decide)) ?_
  refine State.put_within rfl (mem_block (b := 23) (by omega) (by decide)) ?_
  exact State.within_refl _ _

theorem State.setKey_within {s : State} {target : ℕ} {k : Option (List Byte)} : s.within (State.setKey s target k) [.keys] [23] := by
  unfold State.setKey
  refine State.within.step State.updKeys_within ?_ (by decide) (by decide)
  refine State.within_upd (by intro c hc; cases c <;> first | rfl | exact absurd (by decide) hc) ?_
  exact State.within_refl _ _

theorem keyProvisionBody_within {q : ReqHdr} {target : Word} {op : Word} {wrapped : List Byte} {s : State} : s.within (keyProvisionBody q target op wrapped s) [.qcp, .ptb, .keys, .out] [23, 24, 25] := by
  unfold keyProvisionBody
  extract_lets x1 x2
  clear_value x1
  clear_value x2
  refine State.checks_within (by decide) (by decide) (fun t3 ht3 => ?_) ?_
  · refine State.within.step State.reply_within ?_ (by decide) (by decide)
    refine State.within.step State.setKey_within ?_ (by decide) (by decide)
    assumption
  · exact State.within_refl _ _

theorem State.freeMail_within {s : State} {l : List Queued} : s.within (State.freeMail s l) [] [25] := by
  unfold State.freeMail
  refine State.within_foldl (fun t1 y1 ht1 => ?_) ?_
  · split
    · refine State.put_within rfl (mem_block (b := 25) (by omega) (by decide)) ?_
      assumption
    · assumption
  · exact State.within_refl _ _

theorem State.closeSession_within {s : State} {r : ℕ} : s.within (State.closeSession s r) [.qcp, .ptb, .tap, .out] [23, 24, 25] := by
  unfold State.closeSession
  extract_lets x1 x2 x3 x4 x5 x6 x7
  have hx1 : s.within x1 [.qcp, .ptb, .tap, .out] [23, 24, 25] := by
    unfold x1
    refine State.within.step State.freeMail_within ?_ (by decide) (by decide)
    exact State.within_refl _ _
  clear_value x1
  have hx2 : s.within x2 [.qcp, .ptb, .tap, .out] [23, 24, 25] := by
    unfold x2
    refine State.within.step State.modSess_within ?_ (by decide) (by decide)
    assumption
  clear_value x2
  clear_value x4
  have hx5 : s.within x5 [.qcp, .ptb, .tap, .out] [23, 24, 25] := by
    unfold x5
    refine State.within_upd (by intro c hc; cases c <;> first | rfl | exact absurd (by decide) hc) ?_
    assumption
  clear_value x5
  clear_value x6
  have hx7 : s.within x7 [.qcp, .ptb, .tap, .out] [23, 24, 25] := by
    unfold x7
    refine State.within_ite ?_ ?_
    · refine State.puts_cons_within ?_
      refine State.puts_cons_within ?_
      refine State.puts_nil_within ?_
      refine State.put_within rfl (mem_block (b := 23) (by decide) (by decide)) ?_
      refine State.put_within rfl (mem_block (b := 23) (by decide) (by decide)) ?_
      refine State.within_upd (by intro c hc; cases c <;> first | rfl | exact absurd (by decide) hc) ?_
      assumption
    · assumption
  clear_value x7
  refine State.within.step State.qcpCount_within ?_ (by decide) (by decide)
  refine State.within.step State.ptbClosed_within ?_ (by decide) (by decide)
  assumption

theorem closeBody_within {q : ReqHdr} {s : State} : s.within (closeBody q s) [.qcp, .ptb, .tap, .out] [23, 24, 25] := by
  unfold closeBody
  refine State.within.step State.closeSession_within ?_ (by decide) (by decide)
  refine State.within.step State.reply_within ?_ (by decide) (by decide)
  exact State.within_refl _ _

theorem sessionIdleCloseStep_within {r : Fin 8} {s : State} : s.within (sessionIdleCloseStep r s) [.clk, .cyc, .qcp, .ptb, .tap, .out] [23, 24, 25] := by
  unfold sessionIdleCloseStep
  refine State.whenDo_within ?_ ?_
  · refine State.within.step State.closeSession_within ?_ (by decide) (by decide)
    refine State.within.step State.atCyc_within ?_ (by decide) (by decide)
    exact State.within_refl _ _
  · exact State.within_refl _ _

theorem State.bindVia_within {s : State} {via : Via} {r : Fin 8} : s.within (State.bindVia s via r) [.qcp] [] := by
  unfold State.bindVia
  split
  · exact State.within_refl _ _
  · refine State.within_upd (by intro c hc; cases c <;> first | rfl | exact absurd (by decide) hc) ?_
    exact State.within_refl _ _

theorem State.askRoute_within {s : State} {a1 : Via} : s.within (State.askRoute s a1) [.net, .ptb, .out] [24] := by
  unfold State.askRoute
  split
  · refine State.within_ite ?_ ?_
    · refine State.within.step State.askHop_within ?_ (by decide) (by decide)
      exact State.within_refl _ _
    · exact State.within_refl _ _
  · exact State.within_refl _ _

theorem State.openAccepted_within {s : State} {q : ReqHdr} {o : OpenArgs} {crc : Option (BitVec 32)} : s.within (State.openAccepted s q o crc) [.qcp, .net, .ptb, .tap, .out, .free] [23, 24, 25] := by
  unfold State.openAccepted
  extract_lets x1 x2 x3 x4 x5 x6 x7 x8 x9
  clear_value x1
  have hx2 : s.within x2 [.qcp, .net, .ptb, .tap, .out, .free] [23, 24, 25] := by
    unfold x2
    refine State.within_ite ?_ ?_
    · refine State.within.step State.closeSession_within ?_ (by decide) (by decide)
      exact State.within_refl _ _
    · exact State.within_refl _ _
  clear_value x2
  clear_value x3
  clear_value x4
  clear_value x5
  have hx6 : s.within x6 [.qcp, .net, .ptb, .tap, .out, .free] [23, 24, 25] := by
    unfold x6
    refine State.within.step State.modSess_within ?_ (by decide) (by decide)
    assumption
  clear_value x6
  have hx7 : s.within x7 [.qcp, .net, .ptb, .tap, .out, .free] [23, 24, 25] := by
    unfold x7
    refine State.put_within rfl (mem_block (b := 23) (by omega) (by decide)) ?_
    refine State.within_ite ?_ ?_
    · refine State.drew_within (by decide) ?_
      assumption
    · assumption
  clear_value x7
  have hx8 : s.within x8 [.qcp, .net, .ptb, .tap, .out, .free] [23, 24, 25] := by
    unfold x8
    refine State.within.step State.qcpCount_within ?_ (by decide) (by decide)
    refine State.within.step State.askRoute_within ?_ (by decide) (by decide)
    refine State.within_ite ?_ ?_
    · refine State.within.step State.bindVia_within ?_ (by decide) (by decide)
      assumption
    · assumption
  clear_value x8
  clear_value x9
  refine State.within.step State.reply_within ?_ (by decide) (by decide)
  assumption

theorem openBody_within {q : ReqHdr} {o : OpenArgs} {crc : Option (BitVec 32)} {s : State} : s.within (openBody q o crc s) [.qcp, .net, .ptb, .tap, .out, .free] [23, 24, 25] := by
  unfold openBody
  extract_lets x1 x2 x3
  clear_value x1
  clear_value x2
  clear_value x3
  refine State.checks_within (by decide) (by decide) (fun t4 ht4 => ?_) ?_
  · refine State.within.step State.openAccepted_within ?_ (by decide) (by decide)
    assumption
  · exact State.within_refl _ _

theorem openSessionStep_within {q : ReqHdr} {o : OpenArgs} {s : State} : s.within (openSessionStep q o s) [.qcp, .net, .ptb, .tap, .out, .free] [23, 24, 25] := by
  unfold openSessionStep
  extract_lets x1 x2
  clear_value x1
  clear_value x2
  refine State.within_ite ?_ ?_
  · exact State.within_refl _ _
  · split
    · refine State.within_ite ?_ ?_
      · extract_lets x3
        have hx3 : s.within x3 [.qcp, .net, .ptb, .tap, .out, .free] [23, 24, 25] := by
          unfold x3
          refine State.within.step State.qcpCount_within ?_ (by decide) (by decide)
          refine State.within.step State.modSess_within ?_ (by decide) (by decide)
          exact State.within_refl _ _
        clear_value x3
        refine State.within_ite ?_ ?_
        · refine State.within.step State.notFresh_within ?_ (by decide) (by decide)
          assumption
        · refine State.runRequest_within (by decide) (by decide) (fun t4 ht4 => ?_) ?_
          · refine State.within.step openBody_within ?_ (by decide) (by decide)
            assumption
          · assumption
      · refine State.within_ite ?_ ?_
        · exact State.within_refl _ _
        · refine State.within_ite ?_ ?_
          · refine State.within.step State.notFresh_within ?_ (by decide) (by decide)
            exact State.within_refl _ _
          · refine State.within_ite ?_ ?_
            · refine State.within.step State.reply_within ?_ (by decide) (by decide)
              refine State.count_within rfl (mem_block (b := 25) (by decide) (by decide)) ?_
              exact State.within_refl _ _
            · refine State.within.step State.qcpCount_within ?_ (by decide) (by decide)
              refine State.within.step State.modSess_within ?_ (by decide) (by decide)
              exact State.within_refl _ _
    · refine State.within_ite ?_ ?_
      · refine State.within.step State.notFresh_within ?_ (by decide) (by decide)
        exact State.within_refl _ _
      · refine State.runRequest_within (by decide) (by decide) (fun t5 ht5 => ?_) ?_
        · refine State.within.step openBody_within ?_ (by decide) (by decide)
          assumption
        · exact State.within_refl _ _

theorem State.chooseSuspend_within {s : State} {r : ℕ} : s.within (State.chooseSuspend s r) [.strm] [] := by
  unfold State.chooseSuspend
  extract_lets x1 x2
  clear_value x1
  clear_value x2
  refine State.within_foldl (fun t3 y3 ht3 => ?_) ?_
  · refine State.within.step State.modStr_within ?_ (by decide) (by decide)
    assumption
  · exact State.within_refl _ _

theorem State.setQuotas_within {s : State} {r : ℕ} {x : Quotas} : s.within (State.setQuotas s r x) [.qcp, .strm] [0] := by
  unfold State.setQuotas
  refine State.within.step State.chooseSuspend_within ?_ (by decide) (by decide)
  refine State.within.step State.updOverdrawn_within ?_ (by decide) (by decide)
  refine State.within.step State.modSess_within ?_ (by decide) (by decide)
  exact State.within_refl _ _

theorem quotaSetBody_within {q : ReqHdr} {index : ℕ} {l : List Word} {s : State} : s.within (quotaSetBody q index l s) [.qcp, .strm, .ptb, .out] [0, 24, 25] := by
  unfold quotaSetBody
  extract_lets x1
  clear_value x1
  refine State.checks_within (by decide) (by decide) (fun t2 ht2 => ?_) ?_
  · refine State.within.step State.reply_within ?_ (by decide) (by decide)
    refine State.within.step State.setQuotas_within ?_ (by decide) (by decide)
    assumption
  · exact State.within_refl _ _

theorem quotaGetBody_within {q : ReqHdr} {index : ℕ} {s : State} : s.within (quotaGetBody q index s) [.qcp, .ptb, .out] [24, 25] := by
  unfold quotaGetBody
  refine State.checks_within (by decide) (by decide) (fun t1 ht1 => ?_) ?_
  · refine State.within.step State.reply_within ?_ (by decide) (by decide)
    assumption
  · exact State.within_refl _ _

theorem sessionListBody_within {q : ReqHdr} {s : State} : s.within (sessionListBody q s) [.qcp, .ptb, .out] [24, 25] := by
  unfold sessionListBody
  refine State.within.step State.reply_within ?_ (by decide) (by decide)
  exact State.within_refl _ _

theorem execOpenSession_within {q : ReqHdr} {o : OpenArgs} {s : State} : s.withinC (execOpenSession q o s) [.qcp, .net, .ptb, .tap, .out, .free] [23, 24, 25] := by
  unfold execOpenSession
  refine State.withinC_next ?_
  refine State.within.step openSessionStep_within ?_ (by decide) (by decide)
  exact State.within_refl _ _

theorem execClose_within {q : ReqHdr} {s : State} : s.withinC (execClose q s) [.qcp, .ptb, .tap, .out] [23, 24, 25] := by
  unfold execClose
  refine State.withinC_next ?_
  refine State.request_within (by decide) (by decide) (fun t1 ht1 => ?_) ?_
  · refine State.within.step closeBody_within ?_ (by decide) (by decide)
    assumption
  · exact State.within_refl _ _

theorem execQuotaSet_within {q : ReqHdr} {index : ℕ} {quotas : List Word} {s : State} : s.withinC (execQuotaSet q index quotas s) [.qcp, .strm, .ptb, .out] [0, 24, 25] := by
  unfold execQuotaSet
  refine State.withinC_next ?_
  refine State.request_within (by decide) (by decide) (fun t1 ht1 => ?_) ?_
  · refine State.within.step quotaSetBody_within ?_ (by decide) (by decide)
    assumption
  · exact State.within_refl _ _

theorem execQuotaGet_within {q : ReqHdr} {index : ℕ} {s : State} : s.withinC (execQuotaGet q index s) [.qcp, .ptb, .out] [24, 25] := by
  unfold execQuotaGet
  refine State.withinC_next ?_
  refine State.request_within (by decide) (by decide) (fun t1 ht1 => ?_) ?_
  · refine State.within.step quotaGetBody_within ?_ (by decide) (by decide)
    assumption
  · exact State.within_refl _ _

theorem execKeyProvision_within {q : ReqHdr} {target : Word} {op : Word} {wrapped : List Byte} {s : State} : s.withinC (execKeyProvision q target op wrapped s) [.qcp, .ptb, .keys, .out] [23, 24, 25] := by
  unfold execKeyProvision
  refine State.withinC_next ?_
  refine State.request_within (by decide) (by decide) (fun t1 ht1 => ?_) ?_
  · refine State.within.step keyProvisionBody_within ?_ (by decide) (by decide)
    assumption
  · exact State.within_refl _ _

theorem execSessionList_within {q : ReqHdr} {s : State} : s.withinC (execSessionList q s) [.qcp, .ptb, .out] [24, 25] := by
  unfold execSessionList
  refine State.withinC_next ?_
  refine State.request_within (by decide) (by decide) (fun t1 ht1 => ?_) ?_
  · refine State.within.step sessionListBody_within ?_ (by decide) (by decide)
    assumption
  · exact State.within_refl _ _

theorem execSessionIdleClose_within {session : Fin 8} {s : State} : s.withinC (execSessionIdleClose session s) [.clk, .cyc, .qcp, .ptb, .tap, .out] [23, 24, 25] := by
  unfold execSessionIdleClose
  refine State.withinC_next ?_
  refine State.within.step sessionIdleCloseStep_within ?_ (by decide) (by decide)
  exact State.within_refl _ _

theorem State.retune_within {s : State} : s.within (State.retune s) [.light, .brl] [3, 8] := by
  unfold State.retune
  refine State.within.step State.brlAbandon_within ?_ (by decide) (by decide)
  refine State.within.step State.brlAbandon_within ?_ (by decide) (by decide)
  refine State.within.step State.startLock_within ?_ (by decide) (by decide)
  refine State.puts_cons_within ?_
  refine State.puts_cons_within ?_
  refine State.puts_nil_within ?_
  refine State.put_within rfl (mem_block (b := 3) (by decide) (by decide)) ?_
  refine State.put_within rfl (mem_block (b := 3) (by decide) (by decide)) ?_
  exact State.within_refl _ _

theorem State.lightChanges_within {s : State} {o : State} : s.within (State.lightChanges s o) [.light, .qcp, .brl, .mon, .dmc, .ptb, .power, .out] [0, 3, 8, 16, 19, 21, 24, 25] := by
  unfold State.lightChanges
  extract_lets x1 x2 x3 x4 x5
  have hx1 : s.within x1 [.light, .qcp, .brl, .mon, .dmc, .ptb, .power, .out] [0, 3, 8, 16, 19, 21, 24, 25] := by
    unfold x1
    refine State.within_ite ?_ ?_
    · refine State.within.step State.settleClamp_within ?_ (by decide) (by decide)
      exact State.within_refl _ _
    · exact State.within_refl _ _
  clear_value x1
  have hx2 : s.within x2 [.light, .qcp, .brl, .mon, .dmc, .ptb, .power, .out] [0, 3, 8, 16, 19, 21, 24, 25] := by
    unfold x2
    refine State.within_ite ?_ ?_
    · refine State.within.step State.aprEnChanged_within ?_ (by decide) (by decide)
      assumption
    · assumption
  clear_value x2
  have hx3 : s.within x3 [.light, .qcp, .brl, .mon, .dmc, .ptb, .power, .out] [0, 3, 8, 16, 19, 21, 24, 25] := by
    unfold x3
    refine State.within_ite ?_ ?_
    · refine State.within.step State.learnPorts_within ?_ (by decide) (by decide)
      assumption
    · assumption
  clear_value x3
  have hx4 : s.within x4 [.light, .qcp, .brl, .mon, .dmc, .ptb, .power, .out] [0, 3, 8, 16, 19, 21, 24, 25] := by
    unfold x4
    refine State.within_ite ?_ ?_
    · refine State.within.step State.retune_within ?_ (by decide) (by decide)
      assumption
    · assumption
  clear_value x4
  have hx5 : s.within x5 [.light, .qcp, .brl, .mon, .dmc, .ptb, .power, .out] [0, 3, 8, 16, 19, 21, 24, 25] := by
    unfold x5
    refine State.within_ite ?_ ?_
    · refine State.within.step State.driveFlash_within ?_ (by decide) (by decide)
      assumption
    · assumption
  clear_value x5
  refine State.within_ite ?_ ?_
  · refine State.within.step State.sinkClips_within ?_ (by decide) (by decide)
    assumption
  · assumption

theorem State.newGrid_within {s : State} {at_ : Ts} : s.within (State.newGrid s at_) [.grid, .rx, .brl] [8] := by
  unfold State.newGrid
  extract_lets x1 x2 x3
  have hx1 : s.within x1 [.grid, .rx, .brl] [8] := by
    unfold x1
    refine State.within_ite ?_ ?_
    · refine State.within.step State.startGrid_within ?_ (by decide) (by decide)
      refine State.within.step State.seriesReset_within ?_ (by decide) (by decide)
      exact State.within_refl _ _
    · exact State.within_refl _ _
  clear_value x1
  clear_value x2
  have hx3 : s.within x3 [.grid, .rx, .brl] [8] := by
    unfold x3
    refine State.within_upd (by intro c hc; cases c <;> first | rfl | exact absurd (by decide) hc) ?_
    assumption
  clear_value x3
  refine State.within.step State.brlAbandon_within ?_ (by decide) (by decide)
  refine State.within.step State.brlAbandon_within ?_ (by decide) (by decide)
  refine State.within.step State.reinitAll_within ?_ (by decide) (by decide)
  refine State.within.step State.unsettle2_within ?_ (by decide) (by decide)
  assumption

theorem State.gridChanges_within {s : State} {o : State} {at_ : Ts} : s.within (State.gridChanges s o at_) [.grid, .rx, .brl] [8] := by
  unfold State.gridChanges
  refine State.within_ite ?_ ?_
  · refine State.within.step State.newGrid_within ?_ (by decide) (by decide)
    exact State.within_refl _ _
  · refine State.within_ite ?_ ?_
    · extract_lets x1 x2
      clear_value x1
      have hx2 : s.within x2 [.grid, .rx, .brl] [8] := by
        unfold x2
        refine State.within_ite ?_ ?_
        · refine State.within.step State.seriesReset_within ?_ (by decide) (by decide)
          refine State.within_upd (by intro c hc; cases c <;> first | rfl | exact absurd (by decide) hc) ?_
          exact State.within_refl _ _
        · exact State.within_refl _ _
      clear_value x2
      refine State.within.step State.probeChanged_within ?_ (by decide) (by decide)
      refine State.within.step State.probeChanged_within ?_ (by decide) (by decide)
      assumption
    · exact State.within_refl _ _

theorem State.portChanges_within {s : State} {o : State} {l : List (ℕ × Word)} {p : Port} : s.within (State.portChanges s o l p) [.grid, .brl, .cal] [8, 20] := by
  unfold State.portChanges
  extract_lets x1 x2 x3 x4 x5
  clear_value x1
  have hx2 : s.within x2 [.grid, .brl, .cal] [8, 20] := by
    unfold x2
    refine State.within_ite ?_ ?_
    · refine State.within.step State.probeChanged_within ?_ (by decide) (by decide)
      exact State.within_refl _ _
    · exact State.within_refl _ _
  clear_value x2
  have hx3 : s.within x3 [.grid, .brl, .cal] [8, 20] := by
    unfold x3
    refine State.within_ite ?_ ?_
    · refine State.within.step State.reinit_within ?_ (by decide) (by decide)
      refine State.within.step State.unsettleDas_within ?_ (by decide) (by decide)
      assumption
    · assumption
  clear_value x3
  have hx4 : s.within x4 [.grid, .brl, .cal] [8, 20] := by
    unfold x4
    refine State.within_ite ?_ ?_
    · refine State.within.step State.reinit_within ?_ (by decide) (by decide)
      refine State.within.step State.unsettleDas_within ?_ (by decide) (by decide)
      assumption
    · assumption
  clear_value x4
  have hx5 : s.within x5 [.grid, .brl, .cal] [8, 20] := by
    unfold x5
    refine State.within_ite ?_ ?_
    · refine State.within.step State.unsettleDas_within ?_ (by decide) (by decide)
      assumption
    · assumption
  clear_value x5
  refine State.within_ite ?_ ?_
  · refine State.within.step State.calPortMoved_within ?_ (by decide) (by decide)
    assumption
  · assumption

theorem State.brlChanges_within {s : State} {o : State} : s.within (State.brlChanges s o) [.brl] [8] := by
  unfold State.brlChanges
  extract_lets x1 x2 x3 x4
  clear_value x1
  have hx2 : ∀ a0 a1, s.within a0 [.brl] [8] → s.within (x2 a0 a1) [.brl] [8] := by
    intro a0 a1 ha
    unfold x2
    refine State.within_ite ?_ ?_
    · refine State.within.step State.brlAbandon_within ?_ (by decide) (by decide)
      assumption
    · assumption
  have hx3 : s.within x3 [.brl] [8] := by
    unfold x3
    refine State.within.step State.updUsed_within ?_ (by decide) (by decide)
    refine hx2 _ _ ?_
    refine hx2 _ _ ?_
    exact State.within_refl _ _
  clear_value x3
  have hx4 : s.within x4 [.brl] [8] := by
    unfold x4
    refine State.within_foldl (fun t5 y5 ht5 => ?_) ?_
    · refine State.within_ite ?_ ?_
      · refine State.within.step State.updRd_within ?_ (by decide) (by decide)
        assumption
      · assumption
    · assumption
  clear_value x4
  refine State.within_foldl (fun t6 y6 ht6 => ?_) ?_
  · refine State.within_ite ?_ ?_
    · refine State.within.step State.anchorStart_within ?_ (by decide) (by decide)
      assumption
    · assumption
  · assumption

theorem State.gainChanges_within {s : State} {o : State} {at_ : Ts} : s.within (State.gainChanges s o at_) [.grid, .rx, .brl] [5] := by
  unfold State.gainChanges
  refine State.within_foldl (fun t1 y1 ht1 => ?_) ?_
  · refine State.within_ite ?_ ?_
    · refine State.within.step State.gainCommit_within ?_ (by decide) (by decide)
      assumption
    · assumption
  · exact State.within_refl _ _

theorem State.updKphi_within {s : State} : s.within (State.updKphi s) [] [6] := by
  unfold State.updKphi
  refine State.puts_cons_within ?_
  refine State.puts_cons_within ?_
  refine State.puts_nil_within ?_
  refine State.put_within rfl (mem_block (b := 6) (by omega) (by decide)) ?_
  refine State.put_within rfl (mem_block (b := 6) (by omega) (by decide)) ?_
  exact State.within_refl _ _

theorem State.bankChanges_within {s : State} {at_ : Ts} : s.within (State.bankChanges s at_) [.grid, .pat, .rx, .brl, .cal] [4, 8, 20] := by
  unfold State.bankChanges
  refine State.within_ite ?_ ?_
  · refine State.put_within rfl (mem_block (b := 4) (by decide) (by decide)) ?_
    refine State.within_upd (by intro c hc; cases c <;> first | rfl | exact absurd (by decide) hc) ?_
    exact State.within_refl _ _
  · refine State.within_ite ?_ ?_
    · extract_lets x1
      have hx1 : ∀ a0 a1, s.within a0 [.grid, .pat, .rx, .brl, .cal] [4, 8, 20] → s.within (x1 a0 a1) [.grid, .pat, .rx, .brl, .cal] [4, 8, 20] := by
        intro a0 a1 ha
        unfold x1
        refine State.within.step State.calPortMoved_within ?_ (by decide) (by decide)
        assumption
      refine hx1 _ _ ?_
      refine hx1 _ _ ?_
      refine State.within.step State.swapBanks_within ?_ (by decide) (by decide)
      exact State.within_refl _ _
    · refine State.put_within rfl (mem_block (b := 4) (by decide) (by decide)) ?_
      exact State.within_refl _ _

theorem State.swapSource_within {s : State} {o : State} : s.within (State.swapSource s o) [.pat] [] := by
  unfold State.swapSource
  refine State.within_ite ?_ ?_
  · refine State.within_upd (by intro c hc; cases c <;> first | rfl | exact absurd (by decide) hc) ?_
    exact State.within_refl _ _
  · exact State.within_refl _ _

theorem State.streamCloses_within {s : State} {t : State} : s.within (State.streamCloses s t) [.dec, .qcp, .strm, .dmc, .ptb, .out] [0, 7, 12, 24, 25] := by
  unfold State.streamCloses
  refine State.within_foldl (fun t1 y1 ht1 => ?_) ?_
  · refine State.within_ite ?_ ?_
    · refine State.within.step State.endStream_within ?_ (by decide) (by decide)
      assumption
    · refine State.within_ite ?_ ?_
      · refine State.within.step State.settle_within ?_ (by decide) (by decide)
        assumption
      · refine State.within_ite ?_ ?_
        · refine State.within.step State.account_within ?_ (by decide) (by decide)
          assumption
        · assumption
  · exact State.within_refl _ _

theorem State.reseat_within {s : State} {o : State} {n : ℕ} : s.within (State.reseat s o n) [.strm] [] := by
  unfold State.reseat
  refine State.within_ite ?_ ?_
  · exact State.within_refl _ _
  · refine State.within_ite ?_ ?_
    · refine State.within.step State.modStr_within ?_ (by decide) (by decide)
      exact State.within_refl _ _
    · refine State.within_ite ?_ ?_
      · refine State.within.step State.modStr_within ?_ (by decide) (by decide)
        exact State.within_refl _ _
      · exact State.within_refl _ _

theorem State.streamStarts_within {s : State} {o : State} {l : List (ℕ × Word)} : s.within (State.streamStarts s o l) [.grid, .dec, .qcp, .strm, .trg, .brl, .dmc, .ptb, .out] [0, 7, 9, 12, 24, 25] := by
  unfold State.streamStarts
  refine State.within_foldl (fun t1 y1 ht1 => ?_) ?_
  · extract_lets x2
    have hx2 : s.within x2 [.grid, .dec, .qcp, .strm, .trg, .brl, .dmc, .ptb, .out] [0, 7, 9, 12, 24, 25] := by
      unfold x2
      refine State.within_ite ?_ ?_
      · refine State.within.step State.awaitRestart_within ?_ (by decide) (by decide)
        refine State.within.step State.startStream_within ?_ (by decide) (by decide)
        assumption
      · refine State.within.step State.reseat_within ?_ (by decide) (by decide)
        assumption
    clear_value x2
    refine State.within_ite ?_ ?_
    · refine State.within.step State.restartFilter_within ?_ (by decide) (by decide)
      assumption
    · assumption
  · exact State.within_refl _ _

theorem State.feedChanges_within {s : State} {o : State} {at_ : Ts} : s.within (State.feedChanges s o at_) [.reed] [] := by
  unfold State.feedChanges
  refine State.within_foldl (fun t1 y1 ht1 => ?_) ?_
  · refine State.within_ite ?_ ?_
    · refine State.within.step State.modRslot_within ?_ (by decide) (by decide)
      assumption
    · assumption
  · exact State.within_refl _ _

theorem State.trgChanges_within {s : State} {o : State} : s.within (State.trgChanges s o) [.trg] [] := by
  unfold State.trgChanges
  refine State.within.step State.resetUnits_within ?_ (by decide) (by decide)
  exact State.within_refl _ _

theorem State.dropLink_within {s : State} {x : ℕ} : s.within (State.dropLink s x) [] [13] := by
  unfold State.dropLink
  refine State.within_ite ?_ ?_
  · refine State.count_within rfl (mem_block (b := 13) (by omega) (by decide)) ?_
    refine State.puts_cons_within ?_
    refine State.puts_cons_within ?_
    refine State.puts_nil_within ?_
    refine State.put_within rfl (mem_block (b := 13) (by omega) (by decide)) ?_
    refine State.put_within rfl (mem_block (b := 13) (by omega) (by decide)) ?_
    exact State.within_refl _ _
  · exact State.within_refl _ _

theorem State.setLatency_within {s : State} {x : ℕ} : s.within (State.setLatency s x) [] [13] := by
  unfold State.setLatency
  extract_lets x1
  refine State.puts_cons_within ?_
  refine State.puts_cons_within ?_
  refine State.puts_nil_within ?_
  refine State.put_within rfl (mem_block (b := 13) (by omega) (by decide)) ?_
  refine State.put_within rfl (mem_block (b := 13) (by omega) (by decide)) ?_
  exact State.within_refl _ _

theorem State.netChanges_within {s : State} {o : State} : s.within (State.netChanges s o) [] [13] := by
  unfold State.netChanges
  refine State.within_foldl (fun t1 y1 ht1 => ?_) ?_
  · refine State.within_ite ?_ ?_
    · refine State.within.step State.setLatency_within ?_ (by decide) (by decide)
      refine State.within.step State.dropLink_within ?_ (by decide) (by decide)
      assumption
    · refine State.within_ite ?_ ?_
      · assumption
      · refine State.within.step State.dropLink_within ?_ (by decide) (by decide)
        assumption
  · exact State.within_refl _ _

theorem State.ridgeChanges_within {s : State} {o : State} : s.within (State.ridgeChanges s o) [.qcp, .ridge, .ptb, .out, .free] [2, 16, 24, 25] := by
  unfold State.ridgeChanges
  extract_lets x1 x2 x3 x4 x5
  have hx1 : s.within x1 [.qcp, .ridge, .ptb, .out, .free] [2, 16, 24, 25] := by
    unfold x1
    refine State.within_ite ?_ ?_
    · refine State.within.step State.steerMoved_within ?_ (by decide) (by decide)
      exact State.within_refl _ _
    · exact State.within_refl _ _
  clear_value x1
  clear_value x2
  have hx3 : s.within x3 [.qcp, .ridge, .ptb, .out, .free] [2, 16, 24, 25] := by
    unfold x3
    refine State.within_ite ?_ ?_
    · refine State.within_upd (by intro c hc; cases c <;> first | rfl | exact absurd (by decide) hc) ?_
      assumption
    · assumption
  clear_value x3
  have hx4 : s.within x4 [.qcp, .ridge, .ptb, .out, .free] [2, 16, 24, 25] := by
    unfold x4
    refine State.within_ite ?_ ?_
    · refine State.put_within rfl (mem_block (b := 16) (by decide) (by decide)) ?_
      assumption
    · assumption
  clear_value x4
  have hx5 : s.within x5 [.qcp, .ridge, .ptb, .out, .free] [2, 16, 24, 25] := by
    unfold x5
    refine State.within_ite ?_ ?_
    · refine State.within.step State.setLane_within ?_ (by decide) (by decide)
      refine State.within.step State.setLane_within ?_ (by decide) (by decide)
      assumption
    · assumption
  clear_value x5
  refine State.within_ite ?_ ?_
  · refine State.within.step State.updHorizon_within ?_ (by decide) (by decide)
    assumption
  · assumption

theorem State.pairChanges_within {s : State} {o : State} : s.within (State.pairChanges s o) [.qcp, .pair, .ptb, .out] [17, 24, 25] := by
  unfold State.pairChanges
  refine State.within_ite ?_ ?_
  · refine State.puts_cons_within ?_
    refine State.puts_cons_within ?_
    refine State.puts_nil_within ?_
    refine State.put_within rfl (mem_block (b := 17) (by decide) (by decide)) ?_
    refine State.put_within rfl (mem_block (b := 17) (by decide) (by decide)) ?_
    refine State.within.step State.dropSwitch_within ?_ (by decide) (by decide)
    refine State.within.step State.modPair_within ?_ (by decide) (by decide)
    exact State.within_refl _ _
  · exact State.within_refl _ _

theorem State.refChanges_within {s : State} {o : State} : s.within (State.refChanges s o) [.pair] [17] := by
  unfold State.refChanges
  refine State.within_ite ?_ ?_
  · refine State.put_within rfl (mem_block (b := 17) (by decide) (by decide)) ?_
    refine State.within.step State.modPair_within ?_ (by decide) (by decide)
    exact State.within_refl _ _
  · exact State.within_refl _ _

theorem State.convChanges_within {s : State} {o : State} : s.within (State.convChanges s o) [.isl, .mon, .ptb, .out] [19, 24] := by
  unfold State.convChanges
  extract_lets x1 x2 x3 x4
  have hx1 : s.within x1 [.isl, .mon, .ptb, .out] [19, 24] := by
    unfold x1
    refine State.within_foldl (fun t5 y5 ht5 => ?_) ?_
    · refine State.within_ite ?_ ?_
      · refine State.within.step State.sendCfgWord_within ?_ (by decide) (by decide)
        assumption
      · assumption
    · exact State.within_refl _ _
  clear_value x1
  have hx2 : s.within x2 [.isl, .mon, .ptb, .out] [19, 24] := by
    unfold x2
    refine State.within_ite ?_ ?_
    · refine State.within.step State.monRefMove_within ?_ (by decide) (by decide)
      assumption
    · assumption
  clear_value x2
  have hx3 : s.within x3 [.isl, .mon, .ptb, .out] [19, 24] := by
    unfold x3
    refine State.within_foldl (fun t6 y6 ht6 => ?_) ?_
    · refine State.within_ite ?_ ?_
      · refine State.puts_cons_within ?_
        refine State.puts_cons_within ?_
        refine State.puts_nil_within ?_
        refine State.put_within rfl (mem_block (b := 19) (by omega) (by decide)) ?_
        refine State.put_within rfl (mem_block (b := 19) (by omega) (by decide)) ?_
        assumption
      · assumption
    · assumption
  clear_value x3
  have hx4 : s.within x4 [.isl, .mon, .ptb, .out] [19, 24] := by
    unfold x4
    refine State.within_foldl (fun t7 y7 ht7 => ?_) ?_
    · refine State.within_ite ?_ ?_
      · refine State.put_within rfl (mem_block (b := 19) (by omega) (by decide)) ?_
        assumption
      · assumption
    · assumption
  clear_value x4
  refine State.within_ite ?_ ?_
  · refine State.within.step State.monChange_within ?_ (by decide) (by decide)
    assumption
  · assumption

theorem State.calChanges_within {s : State} {o : State} {l : List (ℕ × Word)} : s.within (State.calChanges s o l) [.cal] [20] := by
  unfold State.calChanges
  refine State.within_ite ?_ ?_
  · refine State.put_within rfl (mem_block (b := 20) (by decide) (by decide)) ?_
    refine State.within.step State.modCal_within ?_ (by decide) (by decide)
    exact State.within_refl _ _
  · exact State.within_refl _ _

theorem State.effects_within {s : State} {o : State} {l : List (ℕ × Word)} {at_ : Ts} : s.within (State.effects s o l at_) [.light, .grid, .pat, .rx, .dec, .qcp, .ridge, .strm, .trg, .reed, .brl, .pair, .isl, .mon, .cal, .dmc, .ptb, .power, .out, .free] [0, 2, 3, 5, 6, 7, 8, 9, 12, 13, 16, 17, 19, 20, 21, 24, 25] := by
  unfold State.effects
  extract_lets x1 x2 x3 x4 x5
  have hx1 : s.within x1 [.light, .grid, .pat, .rx, .dec, .qcp, .ridge, .strm, .trg, .reed, .brl, .pair, .isl, .mon, .cal, .dmc, .ptb, .power, .out, .free] [0, 2, 3, 5, 6, 7, 8, 9, 12, 13, 16, 17, 19, 20, 21, 24, 25] := by
    unfold x1
    refine State.within.step State.gridChanges_within ?_ (by decide) (by decide)
    refine State.within.step State.lightChanges_within ?_ (by decide) (by decide)
    exact State.within_refl _ _
  clear_value x1
  have hx2 : s.within x2 [.light, .grid, .pat, .rx, .dec, .qcp, .ridge, .strm, .trg, .reed, .brl, .pair, .isl, .mon, .cal, .dmc, .ptb, .power, .out, .free] [0, 2, 3, 5, 6, 7, 8, 9, 12, 13, 16, 17, 19, 20, 21, 24, 25] := by
    unfold x2
    refine State.within.step State.brlChanges_within ?_ (by decide) (by decide)
    refine State.within.step State.portChanges_within ?_ (by decide) (by decide)
    refine State.within.step State.portChanges_within ?_ (by decide) (by decide)
    assumption
  clear_value x2
  have hx3 : s.within x3 [.light, .grid, .pat, .rx, .dec, .qcp, .ridge, .strm, .trg, .reed, .brl, .pair, .isl, .mon, .cal, .dmc, .ptb, .power, .out, .free] [0, 2, 3, 5, 6, 7, 8, 9, 12, 13, 16, 17, 19, 20, 21, 24, 25] := by
    unfold x3
    refine State.within.step State.updKphi_within ?_ (by decide) (by decide)
    refine State.within.step State.swapSource_within ?_ (by decide) (by decide)
    refine State.within.step State.gainChanges_within ?_ (by decide) (by decide)
    assumption
  clear_value x3
  have hx4 : s.within x4 [.light, .grid, .pat, .rx, .dec, .qcp, .ridge, .strm, .trg, .reed, .brl, .pair, .isl, .mon, .cal, .dmc, .ptb, .power, .out, .free] [0, 2, 3, 5, 6, 7, 8, 9, 12, 13, 16, 17, 19, 20, 21, 24, 25] := by
    unfold x4
    refine State.within.step State.trgChanges_within ?_ (by decide) (by decide)
    refine State.within.step State.feedChanges_within ?_ (by decide) (by decide)
    refine State.within.step State.streamStarts_within ?_ (by decide) (by decide)
    assumption
  clear_value x4
  have hx5 : s.within x5 [.light, .grid, .pat, .rx, .dec, .qcp, .ridge, .strm, .trg, .reed, .brl, .pair, .isl, .mon, .cal, .dmc, .ptb, .power, .out, .free] [0, 2, 3, 5, 6, 7, 8, 9, 12, 13, 16, 17, 19, 20, 21, 24, 25] := by
    unfold x5
    refine State.within.step State.calChanges_within ?_ (by decide) (by decide)
    refine State.within.step State.convChanges_within ?_ (by decide) (by decide)
    refine State.within.step State.refChanges_within ?_ (by decide) (by decide)
    refine State.within.step State.pairChanges_within ?_ (by decide) (by decide)
    refine State.within.step State.ridgeChanges_within ?_ (by decide) (by decide)
    refine State.within.step State.netChanges_within ?_ (by decide) (by decide)
    assumption
  clear_value x5
  refine State.within.step State.evalFallback_within ?_ (by decide) (by decide)
  refine State.within.step State.updOverdrawn_within ?_ (by decide) (by decide)
  refine State.within.step State.updHistory_within ?_ (by decide) (by decide)
  refine State.within.step State.updPool_within ?_ (by decide) (by decide)
  assumption

theorem beginBody_within {q : ReqHdr} {s : State} : s.within (beginBody q s) [.qcp, .ptb, .out] [24, 25] := by
  unfold beginBody
  refine State.within_ite ?_ ?_
  · refine State.within.step State.reply_within ?_ (by decide) (by decide)
    exact State.within_refl _ _
  · refine State.within.step State.reply_within ?_ (by decide) (by decide)
    refine State.within.step State.modSess_within ?_ (by decide) (by decide)
    exact State.within_refl _ _

theorem setBody_within {q : ReqHdr} {addr : ℕ} {data : List Word} {s : State} : s.within (setBody q addr data s) [.qcp, .ptb, .out] [24, 25] := by
  unfold setBody
  extract_lets x1
  clear_value x1
  split
  · refine State.within.step State.reply_within ?_ (by decide) (by decide)
    exact State.within_refl _ _
  · extract_lets x2
    clear_value x2
    refine State.checks_within (by decide) (by decide) (fun t3 ht3 => ?_) ?_
    · refine State.within.step State.reply_within ?_ (by decide) (by decide)
      refine State.within.step State.modSess_within ?_ (by decide) (by decide)
      assumption
    · exact State.within_refl _ _

theorem discardBody_within {q : ReqHdr} {s : State} : s.within (discardBody q s) [.qcp, .ptb, .out] [24, 25] := by
  unfold discardBody
  refine State.within_ite ?_ ?_
  · refine State.within.step State.reply_within ?_ (by decide) (by decide)
    exact State.within_refl _ _
  · refine State.within.step State.reply_within ?_ (by decide) (by decide)
    refine State.within.step State.modSess_within ?_ (by decide) (by decide)
    exact State.within_refl _ _

theorem State.stageSet_within {s : State} {x : StagedSet} : s.within (State.stageSet s x) [.qcp] [] := by
  unfold State.stageSet
  refine State.within_upd (by intro c hc; cases c <;> first | rfl | exact absurd (by decide) hc) ?_
  exact State.within_refl _ _

theorem State.validateSet_within {s : State} {q : ReqHdr} {op : ℕ} {l : List (ℕ × Word)} {epoch : Option (BitVec 32)} {image : Bool} : s.within (State.validateSet s q op l epoch image) [.qcp, .ptb, .out] [4, 24, 25] := by
  unfold State.validateSet
  split
  · refine State.within.step State.complete_within ?_ (by decide) (by decide)
    refine State.within.step State.markBanks_within ?_ (by decide) (by decide)
    exact State.within_refl _ _
  · refine State.within.step State.stageSet_within ?_ (by decide) (by decide)
    exact State.within_refl _ _

theorem commitBody_within {q : ReqHdr} {epoch : Option (BitVec 32)} {s : State} : s.within (commitBody q epoch s) [.qcp, .ptb, .out] [4, 24, 25] := by
  unfold commitBody
  extract_lets x1
  clear_value x1
  refine State.checks_within (by decide) (by decide) (fun t2 ht2 => ?_) ?_
  · refine State.startLong_within (by decide) (by decide) (fun t3 ht3 => ?_) ?_
    · refine State.within.step State.validateSet_within ?_ (by decide) (by decide)
      refine State.within.step State.modSess_within ?_ (by decide) (by decide)
      assumption
    · assumption
  · exact State.within_refl _ _

theorem State.cancelSet_within {s : State} {r : ℕ} {seq : BitVec 32} : s.within (State.cancelSet s r seq) [.qcp, .ptb, .out] [24, 25] := by
  unfold State.cancelSet
  extract_lets x1 x2
  clear_value x2
  refine State.within_ite ?_ ?_
  · refine State.within.step State.complete_within ?_ (by decide) (by decide)
    refine State.within_upd (by intro c hc; cases c <;> first | rfl | exact absurd (by decide) hc) ?_
    exact State.within_refl _ _
  · exact State.within_refl _ _

theorem stagedSetHandoverStep_within {s : State} : s.within (stagedSetHandoverStep s) [.qcp, .power] [0] := by
  unfold stagedSetHandoverStep
  split
  · exact State.within_refl _ _
  · extract_lets x1 x2 x3
    clear_value x1
    have hx2 : s.within x2 [.qcp, .power] [0] := by
      unfold x2
      refine State.within_upd (by intro c hc; cases c <;> first | rfl | exact absurd (by decide) hc) ?_
      exact State.within_refl _ _
    clear_value x2
    have hx3 : s.within x3 [.qcp, .power] [0] := by
      unfold x3
      refine State.within.step State.updOverdrawn_within ?_ (by decide) (by decide)
      refine State.within.step State.issue_within ?_ (by decide) (by decide)
      assumption
    clear_value x3
    split
    · refine State.within.step State.commitPoint_within ?_ (by decide) (by decide)
      assumption
    · assumption

theorem State.loadExtras_within {s : State} {i : CfgImage} : s.within (State.loadExtras s i) [.qcp, .brl] [8] := by
  unfold State.loadExtras
  extract_lets x1 x2 x3
  clear_value x1
  have hx2 : s.within x2 [.qcp, .brl] [8] := by
    unfold x2
    refine State.within_upd (by intro c hc; cases c <;> first | rfl | exact absurd (by decide) hc) ?_
    exact State.within_refl _ _
  clear_value x2
  have hx3 : s.within x3 [.qcp, .brl] [8] := by
    unfold x3
    refine State.within.step State.modBrl_within ?_ (by decide) (by decide)
    refine State.within.step State.modBrl_within ?_ (by decide) (by decide)
    assumption
  clear_value x3
  refine State.puts_cons_within ?_
  refine State.puts_cons_within ?_
  refine State.puts_nil_within ?_
  refine State.put_within rfl (mem_block (b := 8) (by omega) (by decide)) ?_
  refine State.put_within rfl (mem_block (b := 8) (by omega) (by decide)) ?_
  assumption

theorem State.loadQuotas_within {s : State} {l : List Quotas} : s.within (State.loadQuotas s l) [.qcp, .strm] [0] := by
  unfold State.loadQuotas
  extract_lets x1 x2 x3
  have hx2 : ∀ a0 a1, s.within a0 [.qcp, .strm] [0] → s.within (x2 a0 a1) [.qcp, .strm] [0] := by
    intro a0 a1 ha
    unfold x2
    refine State.within.step State.setQuotas_within ?_ (by decide) (by decide)
    assumption
  clear_value x3
  refine State.within_foldl (fun t4 y4 ht4 => ?_) ?_
  · refine hx2 _ _ ?_
    assumption
  · refine State.within_foldl (fun t5 y5 ht5 => ?_) ?_
    · refine hx2 _ _ ?_
      assumption
    · exact State.within_refl _ _

theorem State.runAlone_within {s : State} : s.within (State.runAlone s) [.grid, .dmc] [0, 21] := by
  unfold State.runAlone
  refine State.within.step State.enter_within ?_ (by decide) (by decide)
  refine State.within.step State.reinitAll_within ?_ (by decide) (by decide)
  refine State.within_upd (by intro c hc; cases c <;> first | rfl | exact absurd (by decide) hc) ?_
  exact State.within_refl _ _

theorem State.runWord_within {s : State} {l : List (ℕ × Word)} {t : Ts} : s.within (State.runWord s l t) [.light, .grid, .phs, .qcp, .pair, .mon, .dmc, .ptb, .power, .out] [0, 3, 16, 17, 19, 21, 24, 25] := by
  unfold State.runWord
  split
  · exact State.within_refl _ _
  · refine State.within_ite ?_ ?_
    · refine State.within.step State.requestStop_within ?_ (by decide) (by decide)
      exact State.within_refl _ _
    · refine State.within_ite ?_ ?_
      · refine State.within.step State.runAlone_within ?_ (by decide) (by decide)
        exact State.within_refl _ _
      · refine State.within_ite ?_ ?_
        · exact State.within_refl _ _
        · refine State.within.step State.requestRun_within ?_ (by decide) (by decide)
          exact State.within_refl _ _

theorem State.runEpoch_within {s : State} {t : Ts} : s.within (State.runEpoch s t) [.grid, .qcp, .power] [0] := by
  unfold State.runEpoch
  refine State.within.step State.setEpoch_within ?_ (by decide) (by decide)
  refine State.within_upd (by intro c hc; cases c <;> first | rfl | exact absurd (by decide) hc) ?_
  exact State.within_refl _ _

theorem State.enterDue_within {s : State} : s.within (State.enterDue s) [.light, .grid, .phs, .qcp, .pair, .mon, .dmc, .power] [0, 3, 17, 19, 21] := by
  unfold State.enterDue
  refine State.within_ite ?_ ?_
  · refine State.within.step State.enterEmission_within ?_ (by decide) (by decide)
    exact State.within_refl _ _
  · refine State.within_ite ?_ ?_
    · refine State.within.step State.stopGrid_within ?_ (by decide) (by decide)
      refine State.within_upd (by intro c hc; cases c <;> first | rfl | exact absurd (by decide) hc) ?_
      exact State.within_refl _ _
    · refine State.within.step State.enterEmission_within ?_ (by decide) (by decide)
      refine State.within.step State.runEpoch_within ?_ (by decide) (by decide)
      exact State.within_refl _ _

theorem sweepStartStep_within {edge : Ts} {s : State} : s.within (sweepStartStep edge s) [.clk, .cyc, .light, .grid, .pat, .rx, .phs, .dec, .qcp, .strm, .trg, .brl, .pair, .mon, .cal, .dmc, .ptb, .power, .out] [0, 3, 4, 5, 6, 7, 8, 9, 12, 17, 19, 20, 21, 24, 25] := by
  unfold sweepStartStep
  extract_lets x1
  clear_value x1
  refine State.whenDo_within ?_ ?_
  · refine State.within_ite ?_ ?_
    · refine State.within.step State.goDark_within ?_ (by decide) (by decide)
      refine State.within.step State.at_within ?_ (by decide) (by decide)
      refine State.within.step State.closeSweep_within ?_ (by decide) (by decide)
      exact State.within_refl _ _
    · extract_lets x3
      have hx3 : s.within x3 [.clk, .cyc, .light, .grid, .pat, .rx, .phs, .dec, .qcp, .strm, .trg, .brl, .pair, .mon, .cal, .dmc, .ptb, .power, .out] [0, 3, 4, 5, 6, 7, 8, 9, 12, 17, 19, 20, 21, 24, 25] := by
        unfold x3
        refine State.within_ite ?_ ?_
        · refine State.within.step State.enterDue_within ?_ (by decide) (by decide)
          exact State.within_refl _ _
        · exact State.within_refl _ _
      clear_value x3
      refine State.within_ite ?_ ?_
      · refine State.within.step State.startSweep_within ?_ (by decide) (by decide)
        assumption
      · assumption
  · exact State.within_refl _ _

theorem State.spoilClean_within {s : State} : s.within (State.spoilClean s) [.power] [] := by
  unfold State.spoilClean
  refine State.within_upd (by intro c hc; cases c <;> first | rfl | exact absurd (by decide) hc) ?_
  exact State.within_refl _ _

theorem State.leaveHeld_within {s : State} : s.within (State.leaveHeld s) [.light, .dmc, .power, .out] [0, 3, 16, 21] := by
  unfold State.leaveHeld
  refine State.within_ite ?_ ?_
  · exact State.within_refl _ _
  · refine State.within_ite ?_ ?_
    · refine State.within.step State.toStandby_within ?_ (by decide) (by decide)
      exact State.within_refl _ _
    · refine State.within.step State.startLock_within ?_ (by decide) (by decide)
      refine State.put_within rfl (mem_block (b := 3) (by decide) (by decide)) ?_
      refine State.within.step State.enter_within ?_ (by decide) (by decide)
      exact State.within_refl _ _

theorem State.applySettings_within {s : State} {x : StagedSet} {t : Ts} : s.within (State.applySettings s x t) [.light, .grid, .pat, .rx, .phs, .dec, .qcp, .ridge, .strm, .trg, .reed, .brl, .pair, .isl, .mon, .cal, .dmc, .ptb, .power, .out, .free] allBlocks := by
  unfold State.applySettings
  extract_lets x1 x2 x3 x4 x5 x6 x7 x8 x9 x10 x11 x12 x13 x14 x15
  clear_value x1
  have hx2 : s.within x2 [.light, .grid, .pat, .rx, .phs, .dec, .qcp, .ridge, .strm, .trg, .reed, .brl, .pair, .isl, .mon, .cal, .dmc, .ptb, .power, .out, .free] allBlocks := by
    unfold x2
    refine State.within_ite ?_ ?_
    · refine State.within.step State.requestStop_within ?_ (by decide) (by decide)
      exact State.within_refl _ _
    · exact State.within_refl _ _
  clear_value x2
  have hx3 : s.within x3 [.light, .grid, .pat, .rx, .phs, .dec, .qcp, .ridge, .strm, .trg, .reed, .brl, .pair, .isl, .mon, .cal, .dmc, .ptb, .power, .out, .free] allBlocks := by
    unfold x3
    refine State.within.step State.streamCloses_within ?_ (by decide) (by decide)
    assumption
  clear_value x3
  have hx4 : s.within x4 [.light, .grid, .pat, .rx, .phs, .dec, .qcp, .ridge, .strm, .trg, .reed, .brl, .pair, .isl, .mon, .cal, .dmc, .ptb, .power, .out, .free] allBlocks := by
    unfold x4
    refine State.within.step State.adopt_within ?_ (by decide) (by decide)
    assumption
  clear_value x4
  have hx5 : s.within x5 [.light, .grid, .pat, .rx, .phs, .dec, .qcp, .ridge, .strm, .trg, .reed, .brl, .pair, .isl, .mon, .cal, .dmc, .ptb, .power, .out, .free] allBlocks := by
    unfold x5
    split
    · refine State.within.step State.loadExtras_within ?_ (by decide) (by decide)
      assumption
    · assumption
  clear_value x5
  have hx6 : s.within x6 [.light, .grid, .pat, .rx, .phs, .dec, .qcp, .ridge, .strm, .trg, .reed, .brl, .pair, .isl, .mon, .cal, .dmc, .ptb, .power, .out, .free] allBlocks := by
    unfold x6
    refine State.within.step State.bankChanges_within ?_ (by decide) (by decide)
    refine State.within.step State.effects_within ?_ (by decide) (by decide)
    assumption
  clear_value x6
  have hx7 : s.within x7 [.light, .grid, .pat, .rx, .phs, .dec, .qcp, .ridge, .strm, .trg, .reed, .brl, .pair, .isl, .mon, .cal, .dmc, .ptb, .power, .out, .free] allBlocks := by
    unfold x7
    refine State.within.step State.rebuildFilters_within ?_ (by decide) (by decide)
    assumption
  clear_value x7
  have hx8 : s.within x8 [.light, .grid, .pat, .rx, .phs, .dec, .qcp, .ridge, .strm, .trg, .reed, .brl, .pair, .isl, .mon, .cal, .dmc, .ptb, .power, .out, .free] allBlocks := by
    unfold x8
    refine State.within_ite ?_ ?_
    · refine State.put_within rfl (blockOf_mem_all _) ?_
      assumption
    · assumption
  clear_value x8
  clear_value x9
  clear_value x10
  clear_value x11
  clear_value x12
  have hx13 : s.within x13 [.light, .grid, .pat, .rx, .phs, .dec, .qcp, .ridge, .strm, .trg, .reed, .brl, .pair, .isl, .mon, .cal, .dmc, .ptb, .power, .out, .free] allBlocks := by
    unfold x13
    refine State.within_upd (by intro c hc; cases c <;> first | rfl | exact absurd (by decide) hc) ?_
    assumption
  clear_value x13
  have hx14 : s.within x14 [.light, .grid, .pat, .rx, .phs, .dec, .qcp, .ridge, .strm, .trg, .reed, .brl, .pair, .isl, .mon, .cal, .dmc, .ptb, .power, .out, .free] allBlocks := by
    unfold x14
    refine State.within.step State.spoilClean_within ?_ (by decide) (by decide)
    refine State.put_within rfl (blockOf_mem_all _) ?_
    refine State.within.step State.setEpoch_within ?_ (by decide) (by decide)
    assumption
  clear_value x14
  have hx15 : s.within x15 [.light, .grid, .pat, .rx, .phs, .dec, .qcp, .ridge, .strm, .trg, .reed, .brl, .pair, .isl, .mon, .cal, .dmc, .ptb, .power, .out, .free] allBlocks := by
    unfold x15
    split
    · refine State.within.step State.loadQuotas_within ?_ (by decide) (by decide)
      assumption
    · assumption
  clear_value x15
  refine State.within.step State.leaveHeld_within ?_ (by decide) (by decide)
  assumption

theorem State.applySet_within {s : State} {x : StagedSet} {t : Ts} : s.within (State.applySet s x t) [.light, .grid, .pat, .rx, .phs, .dec, .qcp, .ridge, .strm, .trg, .reed, .brl, .pair, .isl, .mon, .cal, .dmc, .ptb, .power, .out, .free] allBlocks := by
  unfold State.applySet
  extract_lets x1
  have hx1 : s.within x1 [.light, .grid, .pat, .rx, .phs, .dec, .qcp, .ridge, .strm, .trg, .reed, .brl, .pair, .isl, .mon, .cal, .dmc, .ptb, .power, .out, .free] allBlocks := by
    unfold x1
    refine State.within.step State.clashCheck_within ?_ (by decide) (by decide)
    refine State.within.step State.sendCfg_within ?_ (by decide) (by decide)
    refine State.within.step State.runWord_within ?_ (by decide) (by decide)
    refine State.within.step State.applySettings_within ?_ (by decide) (by decide)
    exact State.within_refl _ _
  clear_value x1
  refine State.within_foldl (fun t2 y2 ht2 => ?_) ?_
  · refine State.within_ite ?_ ?_
    · refine State.within.step State.chooseSuspend_within ?_ (by decide) (by decide)
      assumption
    · assumption
  · assumption

theorem State.toBoundary_within {s : State} {t : Ts} : s.within (State.toBoundary s t) [.clk, .cyc, .grid, .rx, .phs, .dec, .qcp, .strm, .trg, .brl, .dmc, .ptb, .out] [0, 7, 9, 12, 24, 25] := by
  unfold State.toBoundary
  extract_lets x1
  have hx1 : s.within x1 [.clk, .cyc, .grid, .rx, .phs, .dec, .qcp, .strm, .trg, .brl, .dmc, .ptb, .out] [0, 7, 9, 12, 24, 25] := by
    unfold x1
    refine State.within.step State.at_within ?_ (by decide) (by decide)
    exact State.within_refl _ _
  clear_value x1
  refine State.within_ite ?_ ?_
  · assumption
  · refine State.within.step State.fallbackMoves_within ?_ (by decide) (by decide)
    refine State.within_ite ?_ ?_
    · refine State.within.step State.closeSweep_within ?_ (by decide) (by decide)
      assumption
    · assumption

theorem epochBoundaryStep_within {s : State} : s.within (epochBoundaryStep s) [.clk, .cyc, .light, .grid, .pat, .rx, .phs, .dec, .qcp, .ridge, .strm, .trg, .reed, .brl, .pair, .isl, .mon, .cal, .dmc, .ptb, .power, .out, .free] allBlocks := by
  unfold epochBoundaryStep
  split
  · exact State.within_refl _ _
  · split
    · exact State.within_refl _ _
    · extract_lets x1 x2 x3
      clear_value x1
      clear_value x2
      have hx3 : s.within x3 [.clk, .cyc, .light, .grid, .pat, .rx, .phs, .dec, .qcp, .ridge, .strm, .trg, .reed, .brl, .pair, .isl, .mon, .cal, .dmc, .ptb, .power, .out, .free] allBlocks := by
        unfold x3
        refine State.within.step State.toBoundary_within ?_ (by decide) (by decide)
        refine State.within_upd (by intro c hc; cases c <;> first | rfl | exact absurd (by decide) hc) ?_
        exact State.within_refl _ _
      clear_value x3
      refine State.within_ite ?_ ?_
      · exact State.within_refl _ _
      · refine State.within.step State.complete_within ?_ (by decide) (by decide)
        refine State.within.step State.applySet_within ?_ (by decide) (by decide)
        assumption

theorem execSweepStart_within {edge : Ts} {s : State} : s.withinC (execSweepStart edge s) [.clk, .cyc, .light, .grid, .pat, .rx, .phs, .dec, .qcp, .strm, .trg, .brl, .pair, .mon, .cal, .dmc, .ptb, .power, .out] [0, 3, 4, 5, 6, 7, 8, 9, 12, 17, 19, 20, 21, 24, 25] := by
  unfold execSweepStart
  refine State.withinC_next ?_
  refine State.within.step sweepStartStep_within ?_ (by decide) (by decide)
  exact State.within_refl _ _

theorem execStagedSetHandover_within {s : State} : s.withinC (execStagedSetHandover s) [.qcp, .power] [0] := by
  unfold execStagedSetHandover
  refine State.withinC_next ?_
  refine State.within.step stagedSetHandoverStep_within ?_ (by decide) (by decide)
  exact State.within_refl _ _

theorem execEpochBoundary_within {s : State} : s.withinC (execEpochBoundary s) [.clk, .cyc, .light, .grid, .pat, .rx, .phs, .dec, .qcp, .ridge, .strm, .trg, .reed, .brl, .pair, .isl, .mon, .cal, .dmc, .ptb, .power, .out, .free] allBlocks := by
  unfold execEpochBoundary
  refine State.withinC_next ?_
  refine State.within.step epochBoundaryStep_within ?_ (by decide) (by decide)
  exact State.within_refl _ _

theorem execBegin_within {q : ReqHdr} {s : State} : s.withinC (execBegin q s) [.qcp, .ptb, .out] [24, 25] := by
  unfold execBegin
  refine State.withinC_next ?_
  refine State.request_within (by decide) (by decide) (fun t1 ht1 => ?_) ?_
  · refine State.within.step beginBody_within ?_ (by decide) (by decide)
    assumption
  · exact State.within_refl _ _

theorem execSet_within {q : ReqHdr} {addr : BitVec 24} {data : List Word} {s : State} : s.withinC (execSet q addr data s) [.qcp, .ptb, .out] [24, 25] := by
  unfold execSet
  refine State.withinC_next ?_
  refine State.request_within (by decide) (by decide) (fun t1 ht1 => ?_) ?_
  · refine State.within.step setBody_within ?_ (by decide) (by decide)
    assumption
  · exact State.within_refl _ _

theorem execCommit_within {q : ReqHdr} {epoch : Option (BitVec 32)} {s : State} : s.withinC (execCommit q epoch s) [.qcp, .ptb, .out] [4, 24, 25] := by
  unfold execCommit
  refine State.withinC_next ?_
  refine State.request_within (by decide) (by decide) (fun t1 ht1 => ?_) ?_
  · refine State.within.step commitBody_within ?_ (by decide) (by decide)
    assumption
  · exact State.within_refl _ _

theorem execDiscard_within {q : ReqHdr} {s : State} : s.withinC (execDiscard q s) [.qcp, .ptb, .out] [24, 25] := by
  unfold execDiscard
  refine State.withinC_next ?_
  refine State.request_within (by decide) (by decide) (fun t1 ht1 => ?_) ?_
  · refine State.within.step discardBody_within ?_ (by decide) (by decide)
    assumption
  · exact State.within_refl _ _

theorem State.setSlotImage_within {s : State} {b : Bool} {x : Slot} : s.within (State.setSlotImage s b x) [.qcp] [] := by
  unfold State.setSlotImage
  refine State.within_upd (by intro c hc; cases c <;> first | rfl | exact absurd (by decide) hc) ?_
  exact State.within_refl _ _

theorem State.updStore_within {s : State} : s.within (State.updStore s) [] [0] := by
  unfold State.updStore
  refine State.puts_cons_within ?_
  refine State.puts_cons_within ?_
  refine State.puts_cons_within ?_
  refine State.puts_nil_within ?_
  refine State.put_within rfl (mem_block (b := 0) (by omega) (by decide)) ?_
  refine State.put_within rfl (mem_block (b := 0) (by omega) (by decide)) ?_
  refine State.put_within rfl (mem_block (b := 0) (by omega) (by decide)) ?_
  exact State.within_refl _ _

theorem storeSaveBody_within {q : ReqHdr} {index : ℕ} {s : State} : s.within (storeSaveBody q index s) [.qcp, .ptb, .out] [0, 24, 25] := by
  unfold storeSaveBody
  refine State.checks_within (by decide) (by decide) (fun t1 ht1 => ?_) ?_
  · refine State.startLong_within (by decide) (by decide) (fun t2 ht2 => ?_) ?_
    · extract_lets x3 x4 x5
      clear_value x3
      clear_value x4
      clear_value x5
      refine State.within.step State.updStore_within ?_ (by decide) (by decide)
      refine State.within.step State.setSlotImage_within ?_ (by decide) (by decide)
      refine State.within_upd (by intro c hc; cases c <;> first | rfl | exact absurd (by decide) hc) ?_
      assumption
    · assumption
  · exact State.within_refl _ _

theorem storeSaveCommitStep_within {s : State} : s.within (storeSaveCommitStep s) [.qcp, .ptb, .out] [0, 24, 25] := by
  unfold storeSaveCommitStep
  split
  · exact State.within_refl _ _
  · refine State.within.step State.completeAll_within ?_ (by decide) (by decide)
    refine State.within.step State.updStore_within ?_ (by decide) (by decide)
    refine State.within.step State.setSlotImage_within ?_ (by decide) (by decide)
    refine State.within_upd (by intro c hc; cases c <;> first | rfl | exact absurd (by decide) hc) ?_
    exact State.within_refl _ _

theorem State.saveAbort_within {s : State} {r : ℕ} {seq : BitVec 32} : s.within (State.saveAbort s r seq) [.qcp, .ptb, .out] [24, 25] := by
  unfold State.saveAbort
  refine State.within.step State.complete_within ?_ (by decide) (by decide)
  refine State.within_upd (by intro c hc; cases c <;> first | rfl | exact absurd (by decide) hc) ?_
  exact State.within_refl _ _

theorem storeSelectBody_within {q : ReqHdr} {index : ℕ} {s : State} : s.within (storeSelectBody q index s) [.qcp, .ptb, .out] [24, 25] := by
  unfold storeSelectBody
  refine State.checks_within (by decide) (by decide) (fun t1 ht1 => ?_) ?_
  · refine State.startLong_within (by decide) (by decide) (fun t2 ht2 => ?_) ?_
    · split
      · refine State.within_ite ?_ ?_
        · refine State.within.step State.commitPoint_within ?_ (by decide) (by decide)
          refine State.within.step State.stageSet_within ?_ (by decide) (by decide)
          assumption
        · refine State.within.step State.complete_within ?_ (by decide) (by decide)
          assumption
      · refine State.within.step State.complete_within ?_ (by decide) (by decide)
        assumption
    · assumption
  · exact State.within_refl _ _

theorem imagePutBody_within {q : ReqHdr} {offset : ℕ} {data : List Byte} {s : State} : s.within (imagePutBody q offset data s) [.qcp, .ptb, .out] [24, 25] := by
  unfold imagePutBody
  refine State.within_ite ?_ ?_
  · refine State.within.step State.reply_within ?_ (by decide) (by decide)
    exact State.within_refl _ _
  · refine State.within.step State.reply_within ?_ (by decide) (by decide)
    refine State.within.step State.modSess_within ?_ (by decide) (by decide)
    exact State.within_refl _ _

theorem imageApplyBody_within {q : ReqHdr} {count : ℕ} {s : State} : s.within (imageApplyBody q count s) [.qcp, .ptb, .out] [4, 24, 25] := by
  unfold imageApplyBody
  refine State.checks_within (by decide) (by decide) (fun t1 ht1 => ?_) ?_
  · refine State.startLong_within (by decide) (by decide) (fun t2 ht2 => ?_) ?_
    · split
      · refine State.within.step State.complete_within ?_ (by decide) (by decide)
        assumption
      · split
        · refine State.within.step State.complete_within ?_ (by decide) (by decide)
          assumption
        · refine State.within.step State.validateSet_within ?_ (by decide) (by decide)
          assumption
    · assumption
  · exact State.within_refl _ _

theorem execStoreSave_within {q : ReqHdr} {index : ℕ} {s : State} : s.withinC (execStoreSave q index s) [.qcp, .ptb, .out] [0, 24, 25] := by
  unfold execStoreSave
  refine State.withinC_next ?_
  refine State.request_within (by decide) (by decide) (fun t1 ht1 => ?_) ?_
  · refine State.within.step storeSaveBody_within ?_ (by decide) (by decide)
    assumption
  · exact State.within_refl _ _

theorem execStoreSaveCommit_within {s : State} : s.withinC (execStoreSaveCommit s) [.qcp, .ptb, .out] [0, 24, 25] := by
  unfold execStoreSaveCommit
  refine State.withinC_next ?_
  refine State.within.step storeSaveCommitStep_within ?_ (by decide) (by decide)
  exact State.within_refl _ _

theorem execStoreSelect_within {q : ReqHdr} {index : ℕ} {s : State} : s.withinC (execStoreSelect q index s) [.qcp, .ptb, .out] [24, 25] := by
  unfold execStoreSelect
  refine State.withinC_next ?_
  refine State.request_within (by decide) (by decide) (fun t1 ht1 => ?_) ?_
  · refine State.within.step storeSelectBody_within ?_ (by decide) (by decide)
    assumption
  · exact State.within_refl _ _

theorem execImagePut_within {q : ReqHdr} {offset : ℕ} {data : List Byte} {s : State} : s.withinC (execImagePut q offset data s) [.qcp, .ptb, .out] [24, 25] := by
  unfold execImagePut
  refine State.withinC_next ?_
  refine State.request_within (by decide) (by decide) (fun t1 ht1 => ?_) ?_
  · refine State.within.step imagePutBody_within ?_ (by decide) (by decide)
    assumption
  · exact State.within_refl _ _

theorem execImageApply_within {q : ReqHdr} {count : ℕ} {s : State} : s.withinC (execImageApply q count s) [.qcp, .ptb, .out] [4, 24, 25] := by
  unfold execImageApply
  refine State.withinC_next ?_
  refine State.request_within (by decide) (by decide) (fun t1 ht1 => ?_) ?_
  · refine State.within.step imageApplyBody_within ?_ (by decide) (by decide)
    assumption
  · exact State.within_refl _ _

end Sys2Proof.Machine
end

