-- ==== Sys2Proof/Laws/WithinReset.lean ====
section
/-! SUPPORT. For each operation of block initialisation, the self-test, resets, the boot and the test port: which components and which register blocks it may change. -/

namespace Sys2Proof.Machine

theorem State.loseDram_within {s : State} : s.within (State.loseDram s) [.strm, .trg] [0, 9] := by
  unfold State.loseDram
  extract_lets x1 x2 x3
  have hx1 : s.within x1 [.strm, .trg] [0, 9] := by
    unfold x1
    refine State.within_foldl (fun t4 y4 ht4 => ?_) ?_
    · refine State.within.step State.capFree_within ?_ (by decide) (by decide)
      assumption
    · exact State.within_refl _ _
  clear_value x1
  clear_value x2
  clear_value x3
  refine State.within_upd (by intro c hc; cases c <;> first | rfl | exact absurd (by decide) hc) ?_
  assumption

theorem State.reedIdle_within {s : State} : s.within (State.reedIdle s) [.reed] [10] := by
  unfold State.reedIdle
  refine State.within_foldl (fun t1 y1 ht1 => ?_) ?_
  · extract_lets x2
    have hx2 : s.within x2 [.reed] [10] := by
      unfold x2
      refine State.within.step State.modRslot_within ?_ (by decide) (by decide)
      assumption
    clear_value x2
    refine State.within_ite ?_ ?_
    · refine State.within.step State.setSlot_within ?_ (by decide) (by decide)
      assumption
    · assumption
  · refine State.within_upd (by intro c hc; cases c <;> first | rfl | exact absurd (by decide) hc) ?_
    exact State.within_refl _ _

theorem State.filtersLost_within {s : State} : s.within (State.filtersLost s) [.grid, .dec, .qcp, .strm, .trg, .brl, .dmc, .ptb, .out] [0, 7, 9, 12, 24, 25] := by
  unfold State.filtersLost
  refine State.within_foldl (fun t1 y1 ht1 => ?_) ?_
  · refine State.within_ite ?_ ?_
    · refine State.within.step State.restartFilter_within ?_ (by decide) (by decide)
      assumption
    · assumption
  · refine State.within_upd (by intro c hc; cases c <;> first | rfl | exact absurd (by decide) hc) ?_
    exact State.within_refl _ _

theorem State.blockLogic_within {s : State} {b : ℕ} : s.within (State.blockLogic s b) [.light, .grid, .pat, .rx, .phs, .dec, .qcp, .net, .tb, .ridge, .strm, .trg, .reed, .brl, .pair, .isl, .mon, .cal, .dmc, .ptb, .out] [0, 3, 7, 9, 10, 12, 24, 25] := by
  unfold State.blockLogic
  extract_lets x1 x2
  clear_value x1
  have hx2 : s.within x2 [.light, .grid, .pat, .rx, .phs, .dec, .qcp, .net, .tb, .ridge, .strm, .trg, .reed, .brl, .pair, .isl, .mon, .cal, .dmc, .ptb, .out] [0, 3, 7, 9, 10, 12, 24, 25] := by
    unfold x2
    refine State.within.step State.loseDram_within ?_ (by decide) (by decide)
    exact State.within_refl _ _
  clear_value x2
  refine State.within_ite ?_ ?_
  · refine State.within.step State.settleClamp_within ?_ (by decide) (by decide)
    refine State.within_upd (by intro c hc; cases c <;> first | rfl | exact absurd (by decide) hc) ?_
    exact State.within_refl _ _
  · refine State.within_ite ?_ ?_
    · refine State.within_upd (by intro c hc; cases c <;> first | rfl | exact absurd (by decide) hc) ?_
      exact State.within_refl _ _
    · refine State.within_ite ?_ ?_
      · refine State.within_upd (by intro c hc; cases c <;> first | rfl | exact absurd (by decide) hc) ?_
        exact State.within_refl _ _
      · refine State.within_ite ?_ ?_
        · refine State.within.step State.reinitAll_within ?_ (by decide) (by decide)
          refine State.within_upd (by intro c hc; cases c <;> first | rfl | exact absurd (by decide) hc) ?_
          exact State.within_refl _ _
        · refine State.within_ite ?_ ?_
          · refine State.within.step State.filtersLost_within ?_ (by decide) (by decide)
            exact State.within_refl _ _
          · refine State.within_ite ?_ ?_
            · refine State.within.step State.completeAll_within ?_ (by decide) (by decide)
              refine State.within_upd (by intro c hc; cases c <;> first | rfl | exact absurd (by decide) hc) ?_
              exact State.within_refl _ _
            · refine State.within_ite ?_ ?_
              · refine State.within.step State.completeAll_within ?_ (by decide) (by decide)
                refine State.within_upd (by intro c hc; cases c <;> first | rfl | exact absurd (by decide) hc) ?_
                assumption
              · refine State.within_ite ?_ ?_
                · refine State.within.step State.reedIdle_within ?_ (by decide) (by decide)
                  exact State.within_refl _ _
                · refine State.within_ite ?_ ?_
                  · refine State.within_upd (by intro c hc; cases c <;> first | rfl | exact absurd (by decide) hc) ?_
                    exact State.within_refl _ _
                  · refine State.within_ite ?_ ?_
                    · refine State.within_upd (by intro c hc; cases c <;> first | rfl | exact absurd (by decide) hc) ?_
                      exact State.within_refl _ _
                    · refine State.within_ite ?_ ?_
                      · refine State.within.step State.completeAll_within ?_ (by decide) (by decide)
                        refine State.within_upd (by intro c hc; cases c <;> first | rfl | exact absurd (by decide) hc) ?_
                        exact State.within_refl _ _
                      · refine State.within_ite ?_ ?_
                        · refine State.within_upd (by intro c hc; cases c <;> first | rfl | exact absurd (by decide) hc) ?_
                          exact State.within_refl _ _
                        · refine State.within_ite ?_ ?_
                          · refine State.within.step State.completeAll_within ?_ (by decide) (by decide)
                            refine State.within.step State.completeAll_within ?_ (by decide) (by decide)
                            refine State.within_upd (by intro c hc; cases c <;> first | rfl | exact absurd (by decide) hc) ?_
                            exact State.within_refl _ _
                          · refine State.within_ite ?_ ?_
                            · refine State.within.step State.modIsl_within ?_ (by decide) (by decide)
                              exact State.within_refl _ _
                            · refine State.within_ite ?_ ?_
                              · refine State.within_upd (by intro c hc; cases c <;> first | rfl | exact absurd (by decide) hc) ?_
                                exact State.within_refl _ _
                              · refine State.within_ite ?_ ?_
                                · refine State.within.step State.modCal_within ?_ (by decide) (by decide)
                                  exact State.within_refl _ _
                                · refine State.within_ite ?_ ?_
                                  · refine State.within.step State.modDmc_within ?_ (by decide) (by decide)
                                    exact State.within_refl _ _
                                  · refine State.within_ite ?_ ?_
                                    · refine State.within_upd (by intro c hc; cases c <;> first | rfl | exact absurd (by decide) hc) ?_
                                      exact State.within_refl _ _
                                    · exact State.within_refl _ _

theorem State.blockInit_within {s : State} {b : ℕ} : s.within (State.blockInit s b) [.light, .grid, .pat, .rx, .phs, .dec, .qcp, .net, .tb, .ridge, .strm, .trg, .reed, .brl, .pair, .isl, .mon, .cal, .dmc, .ptb, .out] allBlocks := by
  unfold State.blockInit
  refine State.within.step State.blockLogic_within ?_ (by decide) (by decide)
  exact ⟨fun c hc => by cases c <;> first | rfl | exact absurd (by decide) hc, fun a ha => absurd (blockOf_mem_all a) ha, rfl,
    fun hs => Space.keep_wf _ hs, List.prefix_refl _, le_refl _, le_refl _⟩

theorem State.blockStreams_within {s : State} : s.within (State.blockStreams s) [.dec, .strm] [12] := by
  unfold State.blockStreams
  refine State.within_foldl (fun t1 y1 ht1 => ?_) ?_
  · refine State.within_ite ?_ ?_
    · refine State.within.step State.startStream_within ?_ (by decide) (by decide)
      assumption
    · assumption
  · exact State.within_refl _ _

theorem State.blockAgain_within {s : State} {b : ℕ} : s.within (State.blockAgain s b) [.light, .grid, .pat, .rx, .dec, .qcp, .ridge, .strm, .trg, .reed, .brl, .pair, .isl, .mon, .cal, .dmc, .ptb, .power, .out, .free] [0, 2, 3, 4, 5, 6, 7, 8, 9, 12, 13, 16, 17, 19, 20, 21, 24, 25] := by
  unfold State.blockAgain
  extract_lets x1
  have hx1 : s.within x1 [.light, .grid, .pat, .rx, .dec, .qcp, .ridge, .strm, .trg, .reed, .brl, .pair, .isl, .mon, .cal, .dmc, .ptb, .power, .out, .free] [0, 2, 3, 4, 5, 6, 7, 8, 9, 12, 13, 16, 17, 19, 20, 21, 24, 25] := by
    unfold x1
    refine State.within_ite ?_ ?_
    · refine State.within_foldl (fun t2 y2 ht2 => ?_) ?_
      · refine State.within.step State.gainCommit_within ?_ (by decide) (by decide)
        assumption
      · exact State.within_refl _ _
    · refine State.within_ite ?_ ?_
      · refine State.within.step State.bankChanges_within ?_ (by decide) (by decide)
        exact State.within_refl _ _
      · refine State.within_ite ?_ ?_
        · refine State.within.step State.blockStreams_within ?_ (by decide) (by decide)
          exact State.within_refl _ _
        · refine State.within_ite ?_ ?_
          · refine State.within.step State.calSyncAll_within ?_ (by decide) (by decide)
            refine State.within_foldl (fun t3 y3 ht3 => ?_) ?_
            · refine State.setCbit_within rfl (mem_block (b := 20) (by decide) (by decide)) ?_
              assumption
            · exact State.within_refl _ _
          · exact State.within_refl _ _
  clear_value x1
  refine State.within.step State.effects_within ?_ (by decide) (by decide)
  assumption

theorem State.blockAbsence_within {s : State} {b : ℕ} : s.within (State.blockAbsence s b) [.grid] [] := by
  unfold State.blockAbsence
  refine State.within_ite ?_ ?_
  · refine State.within_upd (by intro c hc; cases c <;> first | rfl | exact absurd (by decide) hc) ?_
    exact State.within_refl _ _
  · exact State.within_refl _ _

theorem State.blockReset_within {s : State} {b : ℕ} : s.within (State.blockReset s b) [.light, .grid, .pat, .rx, .phs, .dec, .qcp, .net, .tb, .ridge, .strm, .trg, .reed, .brl, .pair, .isl, .mon, .cal, .dmc, .ptb, .power, .out, .free] allBlocks := by
  unfold State.blockReset
  refine State.within.step State.blockAbsence_within ?_ (by decide) (by decide)
  refine State.within.step State.blockAgain_within ?_ (by decide) (by decide)
  refine State.within.step State.blockInit_within ?_ (by decide) (by decide)
  exact State.within_refl _ _

theorem State.updBist_within {s : State} : s.within (State.updBist s) [] [22] := by
  unfold State.updBist
  split
  · refine State.puts_cons_within ?_
    refine State.puts_cons_within ?_
    refine State.puts_cons_within ?_
    refine State.puts_cons_within ?_
    refine State.puts_nil_within ?_
    refine State.put_within rfl (mem_block (b := 22) (by omega) (by decide)) ?_
    refine State.put_within rfl (mem_block (b := 22) (by omega) (by decide)) ?_
    refine State.put_within rfl (mem_block (b := 22) (by omega) (by decide)) ?_
    refine State.put_within rfl (mem_block (b := 22) (by decide) (by decide)) ?_
    exact State.within_refl _ _
  · exact State.within_refl _ _

theorem State.putReport_within {s : State} {kind : ℕ} {verdict : ℕ} {epoch : ℕ} {ms : ℕ} {start : Ts} {items : List (List Word)} : s.within (State.putReport s kind verdict epoch ms start items) [.power] [22] := by
  unfold State.putReport
  extract_lets x1 x2
  clear_value x1
  clear_value x2
  refine State.within.step State.updBist_within ?_ (by decide) (by decide)
  refine State.within_upd (by intro c hc; cases c <;> first | rfl | exact absurd (by decide) hc) ?_
  exact State.within_refl _ _

theorem State.cutTest_within {s : State} {writes : Bool} : s.within (State.cutTest s writes) [.power] [22] := by
  unfold State.cutTest
  split
  · exact State.within_refl _ _
  · extract_lets x1 x2 x3
    clear_value x1
    clear_value x2
    have hx3 : s.within x3 [.power] [22] := by
      unfold x3
      refine State.put_within rfl (mem_block (b := 22) (by decide) (by decide)) ?_
      refine State.within_upd (by intro c hc; cases c <;> first | rfl | exact absurd (by decide) hc) ?_
      exact State.within_refl _ _
    clear_value x3
    refine State.within_ite ?_ ?_
    · refine State.within.step State.putReport_within ?_ (by decide) (by decide)
      assumption
    · assumption

theorem State.testOpDone_within {s : State} {status : ℕ} : s.within (State.testOpDone s status) [.qcp, .ptb, .power, .out] [24, 25] := by
  unfold State.testOpDone
  split
  · refine State.within.step State.complete_within ?_ (by decide) (by decide)
    refine State.within_upd (by intro c hc; cases c <;> first | rfl | exact absurd (by decide) hc) ?_
    exact State.within_refl _ _
  · exact State.within_refl _ _

theorem State.offReady_within {s : State} {pass : Bool} : s.within (State.offReady s pass) [.light, .qcp, .isl, .ptb, .power, .out] [0, 16, 18, 24, 25] := by
  unfold State.offReady
  extract_lets x1 x2 x3
  clear_value x1
  clear_value x2
  have hx3 : s.within x3 [.light, .qcp, .isl, .ptb, .power, .out] [0, 16, 18, 24, 25] := by
    unfold x3
    refine State.within_ite ?_ ?_
    · refine State.within_upd (by intro c hc; cases c <;> first | rfl | exact absurd (by decide) hc) ?_
      exact State.within_refl _ _
    · exact State.within_refl _ _
  clear_value x3
  refine State.within.step State.testOpDone_within ?_ (by decide) (by decide)
  refine State.put_within rfl (mem_block (b := 0) (by decide) (by decide)) ?_
  refine State.within.step State.foutSet_within ?_ (by decide) (by decide)
  refine State.put_within rfl (mem_block (b := 16) (by decide) (by decide)) ?_
  refine State.within.step State.driveFlash_within ?_ (by decide) (by decide)
  assumption

theorem State.endTest_within {s : State} {t : SelfTest} {items : List (List Word)} : s.within (State.endTest s t items) [.light, .qcp, .isl, .ptb, .power, .out] [0, 16, 18, 22, 24, 25] := by
  unfold State.endTest
  extract_lets x1 x2 x3 x4
  clear_value x1
  clear_value x2
  have hx3 : s.within x3 [.light, .qcp, .isl, .ptb, .power, .out] [0, 16, 18, 22, 24, 25] := by
    unfold x3
    refine State.put_within rfl (mem_block (b := 22) (by decide) (by decide)) ?_
    refine State.within_upd (by intro c hc; cases c <;> first | rfl | exact absurd (by decide) hc) ?_
    exact State.within_refl _ _
  clear_value x3
  have hx4 : s.within x4 [.light, .qcp, .isl, .ptb, .power, .out] [0, 16, 18, 22, 24, 25] := by
    unfold x4
    refine State.within.step State.putReport_within ?_ (by decide) (by decide)
    assumption
  clear_value x4
  refine State.within_ite ?_ ?_
  · refine State.within.step State.offReady_within ?_ (by decide) (by decide)
    assumption
  · refine State.within.step State.testOpDone_within ?_ (by decide) (by decide)
    assumption

theorem State.toItem_within {s : State} {t : SelfTest} {items : List (List Word)} {i : ℕ} : s.within (State.toItem s t items i) [.light, .qcp, .isl, .ptb, .power, .out] [0, 16, 18, 22, 24, 25] := by
  unfold State.toItem
  extract_lets x1 x2 x3
  clear_value x1
  clear_value x2
  clear_value x3
  refine State.within_ite ?_ ?_
  · refine State.put_within rfl (mem_block (b := 22) (by decide) (by decide)) ?_
    refine State.within_upd (by intro c hc; cases c <;> first | rfl | exact absurd (by decide) hc) ?_
    exact State.within_refl _ _
  · refine State.within.step State.endTest_within ?_ (by decide) (by decide)
    exact State.within_refl _ _

theorem State.abandonRuns_within {s : State} : s.within (State.abandonRuns s) [.cal] [20] := by
  unfold State.abandonRuns
  refine State.within.step State.calSyncAll_within ?_ (by decide) (by decide)
  refine State.within_foldl (fun t1 y1 ht1 => ?_) ?_
  · refine State.within_ite ?_ ?_
    · refine State.put_within rfl (mem_block (b := 20) (by omega) (by decide)) ?_
      refine State.setCbit_within rfl (mem_block (b := 20) (by decide) (by decide)) ?_
      refine State.setCbit_within rfl (mem_block (b := 20) (by decide) (by decide)) ?_
      refine State.within.step State.calAbandon_within ?_ (by decide) (by decide)
      assumption
    · assumption
  · exact State.within_refl _ _

theorem State.startTest_within {s : State} : s.within (State.startTest s) [.light, .grid, .dec, .qcp, .strm, .isl, .cal, .dmc, .ptb, .power, .out] [0, 3, 7, 12, 16, 18, 20, 21, 22, 24, 25] := by
  unfold State.startTest
  extract_lets x1 x2 x3 x4
  have hx1 : s.within x1 [.light, .grid, .dec, .qcp, .strm, .isl, .cal, .dmc, .ptb, .power, .out] [0, 3, 7, 12, 16, 18, 20, 21, 22, 24, 25] := by
    unfold x1
    refine State.within_ite ?_ ?_
    · refine State.within.step State.goDark_within ?_ (by decide) (by decide)
      exact State.within_refl _ _
    · exact State.within_refl _ _
  clear_value x1
  have hx2 : s.within x2 [.light, .grid, .dec, .qcp, .strm, .isl, .cal, .dmc, .ptb, .power, .out] [0, 3, 7, 12, 16, 18, 20, 21, 22, 24, 25] := by
    unfold x2
    split
    · refine State.within.step State.commitPoint_within ?_ (by decide) (by decide)
      assumption
    · assumption
  clear_value x2
  clear_value x3
  have hx4 : s.within x4 [.light, .grid, .dec, .qcp, .strm, .isl, .cal, .dmc, .ptb, .power, .out] [0, 3, 7, 12, 16, 18, 20, 21, 22, 24, 25] := by
    unfold x4
    refine State.within.step State.abandonRuns_within ?_ (by decide) (by decide)
    refine State.puts_cons_within ?_
    refine State.puts_cons_within ?_
    refine State.puts_nil_within ?_
    refine State.put_within rfl (mem_block (b := 22) (by decide) (by decide)) ?_
    refine State.put_within rfl (mem_block (b := 22) (by decide) (by decide)) ?_
    refine State.within_upd (by intro c hc; cases c <;> first | rfl | exact absurd (by decide) hc) ?_
    assumption
  clear_value x4
  split
  · assumption
  · refine State.within.step State.toItem_within ?_ (by decide) (by decide)
    assumption

theorem State.itemEffects_within {s : State} {id : ℕ} : s.within (State.itemEffects s id) [.light, .grid, .pat, .rx, .phs, .dec, .qcp, .net, .tb, .ridge, .strm, .trg, .reed, .brl, .pair, .isl, .mon, .cal, .dmc, .ptb, .power, .out, .free] allBlocks := by
  unfold State.itemEffects
  refine State.within_ite ?_ ?_
  · refine State.within.step State.blockReset_within ?_ (by decide) (by decide)
    refine State.within.step State.blockReset_within ?_ (by decide) (by decide)
    exact State.within_refl _ _
  · refine State.within_ite ?_ ?_
    · refine State.within.step State.blockReset_within ?_ (by decide) (by decide)
      refine State.within.step State.blockReset_within ?_ (by decide) (by decide)
      exact State.within_refl _ _
    · refine State.within_ite ?_ ?_
      · refine State.within.step State.blockReset_within ?_ (by decide) (by decide)
        refine State.within.step State.blockReset_within ?_ (by decide) (by decide)
        refine State.within.step State.blockReset_within ?_ (by decide) (by decide)
        refine State.within.step State.blockReset_within ?_ (by decide) (by decide)
        exact State.within_refl _ _
      · refine State.within_ite ?_ ?_
        · extract_lets x1 x2 x3 x4 x5
          clear_value x1
          have hx2 : s.within x2 [.light, .grid, .pat, .rx, .phs, .dec, .qcp, .net, .tb, .ridge, .strm, .trg, .reed, .brl, .pair, .isl, .mon, .cal, .dmc, .ptb, .power, .out, .free] allBlocks := by
            unfold x2
            refine State.within.step State.reedIdle_within ?_ (by decide) (by decide)
            refine State.within.step State.filtersLost_within ?_ (by decide) (by decide)
            refine State.within.step State.reinitAll_within ?_ (by decide) (by decide)
            refine State.within_upd (by intro c hc; cases c <;> first | rfl | exact absurd (by decide) hc) ?_
            exact State.within_refl _ _
          clear_value x2
          clear_value x4
          clear_value x5
          refine State.within_upd (by intro c hc; cases c <;> first | rfl | exact absurd (by decide) hc) ?_
          assumption
        · refine State.within_ite ?_ ?_
          · refine State.within.step State.loseDram_within ?_ (by decide) (by decide)
            exact State.within_refl _ _
          · exact State.within_refl _ _

theorem selfTestItemStep_within {pass : Bool} {measured : Word} {limit : Word} {detail : Word} {ms : ℕ} {s : State} : s.within (selfTestItemStep pass measured limit detail ms s) [.light, .grid, .pat, .rx, .phs, .dec, .qcp, .net, .tb, .ridge, .strm, .trg, .reed, .brl, .pair, .isl, .mon, .cal, .dmc, .ptb, .power, .out, .free] allBlocks := by
  unfold selfTestItemStep
  extract_lets x1
  have hx1 : s.within x1 [.light, .grid, .pat, .rx, .phs, .dec, .qcp, .net, .tb, .ridge, .strm, .trg, .reed, .brl, .pair, .isl, .mon, .cal, .dmc, .ptb, .power, .out, .free] allBlocks := by
    unfold x1
    refine State.within.step State.startTest_within ?_ (by decide) (by decide)
    exact State.within_refl _ _
  clear_value x1
  split
  · assumption
  · extract_lets x2 x3
    clear_value x2
    clear_value x3
    refine State.within.step State.toItem_within ?_ (by decide) (by decide)
    refine State.within_ite ?_ ?_
    · assumption
    · refine State.within.step State.itemEffects_within ?_ (by decide) (by decide)
      assumption

theorem shutdownBody_within {q : ReqHdr} {s : State} : s.within (shutdownBody q s) [.grid, .dec, .qcp, .strm, .cal, .dmc, .ptb, .power, .out] [0, 3, 7, 12, 21, 24, 25] := by
  unfold shutdownBody
  refine State.checks_within (by decide) (by decide) (fun t1 ht1 => ?_) ?_
  · refine State.startLong_within (by decide) (by decide) (fun t2 ht2 => ?_) ?_
    · extract_lets x3 x4 x5
      clear_value x3
      have hx4 : s.within x4 [.grid, .dec, .qcp, .strm, .cal, .dmc, .ptb, .power, .out] [0, 3, 7, 12, 21, 24, 25] := by
        unfold x4
        refine State.within_upd (by intro c hc; cases c <;> first | rfl | exact absurd (by decide) hc) ?_
        assumption
      clear_value x4
      clear_value x5
      refine State.within_ite ?_ ?_
      · refine State.within_upd (by intro c hc; cases c <;> first | rfl | exact absurd (by decide) hc) ?_
        assumption
      · refine State.within.step State.goDark_within ?_ (by decide) (by decide)
        assumption
    · assumption
  · exact State.within_refl _ _

theorem State.backFrom_within {s : State} : s.within (State.backFrom s) [.light, .grid, .qcp, .mon, .dmc, .power, .out] [0, 3, 16, 19, 21] := by
  unfold State.backFrom
  extract_lets x1 x2 x3 x4 x5 x6
  clear_value x1
  clear_value x2
  have hx3 : s.within x3 [.light, .grid, .qcp, .mon, .dmc, .power, .out] [0, 3, 16, 19, 21] := by
    unfold x3
    refine State.within_ite ?_ ?_
    · refine State.within.step State.runEpoch_within ?_ (by decide) (by decide)
      exact State.within_refl _ _
    · exact State.within_refl _ _
  clear_value x3
  have hx4 : s.within x4 [.light, .grid, .qcp, .mon, .dmc, .power, .out] [0, 3, 16, 19, 21] := by
    unfold x4
    refine State.within.step State.enter_within ?_ (by decide) (by decide)
    assumption
  clear_value x4
  have hx5 : s.within x5 [.light, .grid, .qcp, .mon, .dmc, .power, .out] [0, 3, 16, 19, 21] := by
    unfold x5
    refine State.within_ite ?_ ?_
    · refine State.within.step State.latchLive_within ?_ (by decide) (by decide)
      assumption
    · assumption
  clear_value x5
  have hx6 : s.within x6 [.light, .grid, .qcp, .mon, .dmc, .power, .out] [0, 3, 16, 19, 21] := by
    unfold x6
    refine State.within_ite ?_ ?_
    · refine State.within.step State.enterSafe_within ?_ (by decide) (by decide)
      assumption
    · assumption
  clear_value x6
  refine State.within_ite ?_ ?_
  · refine State.within.step State.toStandby_within ?_ (by decide) (by decide)
    exact State.within_refl _ _
  · refine State.within_ite ?_ ?_
    · refine State.within.step State.beginGrid_within ?_ (by decide) (by decide)
      assumption
    · assumption

theorem State.testAbort_within {s : State} {r : ℕ} {seq : BitVec 32} : s.within (State.testAbort s r seq) [.light, .grid, .dec, .qcp, .strm, .mon, .dmc, .ptb, .power, .out] [0, 3, 7, 12, 16, 19, 21, 24, 25] := by
  unfold State.testAbort
  extract_lets x1 x2 x3 x4
  clear_value x1
  have hx2 : s.within x2 [.light, .grid, .dec, .qcp, .strm, .mon, .dmc, .ptb, .power, .out] [0, 3, 7, 12, 16, 19, 21, 24, 25] := by
    unfold x2
    refine State.within_upd (by intro c hc; cases c <;> first | rfl | exact absurd (by decide) hc) ?_
    exact State.within_refl _ _
  clear_value x2
  have hx3 : s.within x3 [.light, .grid, .dec, .qcp, .strm, .mon, .dmc, .ptb, .power, .out] [0, 3, 7, 12, 16, 19, 21, 24, 25] := by
    unfold x3
    refine State.within.step State.backFrom_within ?_ (by decide) (by decide)
    assumption
  clear_value x3
  have hx4 : s.within x4 [.light, .grid, .dec, .qcp, .strm, .mon, .dmc, .ptb, .power, .out] [0, 3, 7, 12, 16, 19, 21, 24, 25] := by
    unfold x4
    refine State.within_ite ?_ ?_
    · assumption
    · refine State.within.step State.settleClamp_within ?_ (by decide) (by decide)
      refine State.within.step State.evalFallback_within ?_ (by decide) (by decide)
      refine State.within.step State.updOverdrawn_within ?_ (by decide) (by decide)
      refine State.within_foldl (fun t5 y5 ht5 => ?_) ?_
      · refine State.within.step State.modStr_within ?_ (by decide) (by decide)
        refine State.put_within rfl (mem_block (b := 12) (by omega) (by decide)) ?_
        assumption
      · assumption
  clear_value x4
  refine State.within.step State.complete_within ?_ (by decide) (by decide)
  assumption

theorem diagEnterBody_within {q : ReqHdr} {s : State} : s.within (diagEnterBody q s) [.grid, .dec, .qcp, .strm, .cal, .dmc, .ptb, .power, .out] [0, 3, 7, 12, 21, 24, 25] := by
  unfold diagEnterBody
  refine State.checks_within (by decide) (by decide) (fun t1 ht1 => ?_) ?_
  · refine State.startLong_within (by decide) (by decide) (fun t2 ht2 => ?_) ?_
    · refine State.within.step State.goDark_within ?_ (by decide) (by decide)
      refine State.within_upd (by intro c hc; cases c <;> first | rfl | exact absurd (by decide) hc) ?_
      assumption
    · assumption
  · exact State.within_refl _ _

theorem diagLeaveBody_within {q : ReqHdr} {s : State} : s.within (diagLeaveBody q s) [.light, .qcp, .dmc, .ptb, .power, .out] [0, 3, 16, 21, 24, 25] := by
  unfold diagLeaveBody
  refine State.checks_within (by decide) (by decide) (fun t1 ht1 => ?_) ?_
  · refine State.within.step State.reply_within ?_ (by decide) (by decide)
    refine State.within.step State.settleClamp_within ?_ (by decide) (by decide)
    refine State.within.step State.toStandby_within ?_ (by decide) (by decide)
    assumption
  · exact State.within_refl _ _

theorem bistReadBody_within {q : ReqHdr} {s : State} : s.within (bistReadBody q s) [.qcp, .ptb, .out] [24, 25] := by
  unfold bistReadBody
  split
  · refine State.within.step State.reply_within ?_ (by decide) (by decide)
    exact State.within_refl _ _
  · refine State.within.step State.reply_within ?_ (by decide) (by decide)
    exact State.within_refl _ _

theorem execShutdown_within {q : ReqHdr} {s : State} : s.withinC (execShutdown q s) [.grid, .dec, .qcp, .strm, .cal, .dmc, .ptb, .power, .out] [0, 3, 7, 12, 21, 24, 25] := by
  unfold execShutdown
  refine State.withinC_next ?_
  refine State.request_within (by decide) (by decide) (fun t1 ht1 => ?_) ?_
  · refine State.within.step shutdownBody_within ?_ (by decide) (by decide)
    assumption
  · exact State.within_refl _ _

theorem execDiagEnter_within {q : ReqHdr} {s : State} : s.withinC (execDiagEnter q s) [.grid, .dec, .qcp, .strm, .cal, .dmc, .ptb, .power, .out] [0, 3, 7, 12, 21, 24, 25] := by
  unfold execDiagEnter
  refine State.withinC_next ?_
  refine State.request_within (by decide) (by decide) (fun t1 ht1 => ?_) ?_
  · refine State.within.step diagEnterBody_within ?_ (by decide) (by decide)
    assumption
  · exact State.within_refl _ _

theorem execDiagLeave_within {q : ReqHdr} {s : State} : s.withinC (execDiagLeave q s) [.light, .qcp, .dmc, .ptb, .power, .out] [0, 3, 16, 21, 24, 25] := by
  unfold execDiagLeave
  refine State.withinC_next ?_
  refine State.request_within (by decide) (by decide) (fun t1 ht1 => ?_) ?_
  · refine State.within.step diagLeaveBody_within ?_ (by decide) (by decide)
    assumption
  · exact State.within_refl _ _

theorem execBistRead_within {q : ReqHdr} {s : State} : s.withinC (execBistRead q s) [.qcp, .ptb, .out] [24, 25] := by
  unfold execBistRead
  refine State.withinC_next ?_
  refine State.request_within (by decide) (by decide) (fun t1 ht1 => ?_) ?_
  · refine State.within.step bistReadBody_within ?_ (by decide) (by decide)
    assumption
  · exact State.within_refl _ _

theorem execSelfTestItem_within {pass : Bool} {measured : Word} {limit : Word} {detail : Word} {ms : ℕ} {s : State} : s.withinC (execSelfTestItem pass measured limit detail ms s) [.light, .grid, .pat, .rx, .phs, .dec, .qcp, .net, .tb, .ridge, .strm, .trg, .reed, .brl, .pair, .isl, .mon, .cal, .dmc, .ptb, .power, .out, .free] allBlocks := by
  unfold execSelfTestItem
  refine State.withinC_next ?_
  refine State.within.step selfTestItemStep_within ?_ (by decide) (by decide)
  exact State.within_refl _ _

theorem State.resetBy_within {s : State} {reach : ℕ} : s.within (State.resetBy s reach) [.clk, .light, .grid, .pat, .rx, .phs, .dec, .qcp, .ptp, .net, .tb, .ridge, .strm, .trg, .reed, .brl, .pair, .isl, .mon, .cal, .dmc, .ptb, .tap, .shadows, .power] allBlocks := by
  unfold State.resetBy
  extract_lets x1 x2 x3
  clear_value x1
  clear_value x2
  clear_value x3
  exact ⟨fun c hc => by cases c <;> first | rfl | exact absurd (by decide) hc, fun a ha => absurd (blockOf_mem_all a) ha, rfl,
    fun hs => Space.keep_wf _ hs, List.prefix_refl _, le_refl _, le_refl _⟩

theorem State.cause_within {s : State} {bit : ℕ} : s.within (State.cause s bit) [] [1] := by
  unfold State.cause
  refine State.wr_within (mem_block (b := 1) (by decide) (by decide)) ?_
  exact State.within_refl _ _

theorem State.assertReset_within {s : State} {src : List RstSource} {reach : ℕ} : s.within (State.assertReset s src reach) [.clk, .light, .grid, .pat, .rx, .phs, .dec, .qcp, .ptp, .net, .tb, .ridge, .strm, .trg, .reed, .brl, .pair, .isl, .mon, .cal, .dmc, .ptb, .tap, .shadows, .power] allBlocks := by
  unfold State.assertReset
  extract_lets x1 x2 x3 x4 x5 x6 x7 x8
  have hx1 : s.within x1 [.clk, .light, .grid, .pat, .rx, .phs, .dec, .qcp, .ptp, .net, .tb, .ridge, .strm, .trg, .reed, .brl, .pair, .isl, .mon, .cal, .dmc, .ptb, .tap, .shadows, .power] allBlocks := by
    unfold x1
    refine State.within.step State.cutTest_within ?_ (by decide) (by decide)
    exact State.within_refl _ _
  clear_value x1
  clear_value x2
  clear_value x3
  clear_value x4
  have hx5 : s.within x5 [.clk, .light, .grid, .pat, .rx, .phs, .dec, .qcp, .ptp, .net, .tb, .ridge, .strm, .trg, .reed, .brl, .pair, .isl, .mon, .cal, .dmc, .ptb, .tap, .shadows, .power] allBlocks := by
    unfold x5
    refine State.within_ite ?_ ?_
    · refine State.within.step State.resetBy_within ?_ (by decide) (by decide)
      assumption
    · assumption
  clear_value x5
  clear_value x6
  have hx7 : s.within x7 [.clk, .light, .grid, .pat, .rx, .phs, .dec, .qcp, .ptp, .net, .tb, .ridge, .strm, .trg, .reed, .brl, .pair, .isl, .mon, .cal, .dmc, .ptb, .tap, .shadows, .power] allBlocks := by
    unfold x7
    refine State.within_upd (by intro c hc; cases c <;> first | rfl | exact absurd (by decide) hc) ?_
    assumption
  clear_value x7
  have hx8 : s.within x8 [.clk, .light, .grid, .pat, .rx, .phs, .dec, .qcp, .ptp, .net, .tb, .ridge, .strm, .trg, .reed, .brl, .pair, .isl, .mon, .cal, .dmc, .ptb, .tap, .shadows, .power] allBlocks := by
    unfold x8
    refine State.within_foldl (fun t9 y9 ht9 => ?_) ?_
    · refine State.within.step State.cause_within ?_ (by decide) (by decide)
      assumption
    · assumption
  clear_value x8
  refine State.within.step State.closeClamp_within ?_ (by decide) (by decide)
  refine State.within_ite ?_ ?_
  · assumption
  · refine State.within.step State.cause_within ?_ (by decide) (by decide)
    assumption

theorem powerOnStep_within {s : State} : s.within (powerOnStep s) [.clk, .light, .grid, .pat, .rx, .phs, .dec, .qcp, .ptp, .net, .tb, .ridge, .strm, .trg, .reed, .brl, .pair, .isl, .mon, .cal, .dmc, .ptb, .tap, .shadows, .power] allBlocks := by
  unfold powerOnStep
  refine State.within.step State.assertReset_within ?_ (by decide) (by decide)
  exact State.within_refl _ _

theorem supplyDropStep_within {s : State} : s.within (supplyDropStep s) [.clk, .light, .grid, .pat, .rx, .phs, .dec, .qcp, .ptp, .net, .tb, .ridge, .strm, .trg, .reed, .brl, .pair, .isl, .mon, .cal, .dmc, .ptb, .tap, .shadows, .power] allBlocks := by
  unfold supplyDropStep
  refine State.within.step State.assertReset_within ?_ (by decide) (by decide)
  exact State.within_refl _ _

theorem State.pinReset_within {s : State} {ns_ : ℕ} {src : RstSource} {reach : ℕ} : s.within (State.pinReset s ns_ src reach) [.clk, .light, .grid, .pat, .rx, .phs, .dec, .qcp, .ptp, .net, .tb, .ridge, .strm, .trg, .reed, .brl, .pair, .isl, .mon, .cal, .dmc, .ptb, .tap, .shadows, .power, .free] allBlocks := by
  unfold State.pinReset
  refine State.within_ite ?_ ?_
  · exact State.within_refl _ _
  · refine State.within_ite ?_ ?_
    · refine State.within.step State.assertReset_within ?_ (by decide) (by decide)
      exact State.within_refl _ _
    · refine State.within_ite ?_ ?_
      · refine State.within.step State.assertReset_within ?_ (by decide) (by decide)
        refine State.drew_within (by decide) ?_
        exact State.within_refl _ _
      · refine State.drew_within (by decide) ?_
        exact State.within_refl _ _

theorem poresetNLowStep_within {ns_ : ℕ} {s : State} : s.within (poresetNLowStep ns_ s) [.clk, .light, .grid, .pat, .rx, .phs, .dec, .qcp, .ptp, .net, .tb, .ridge, .strm, .trg, .reed, .brl, .pair, .isl, .mon, .cal, .dmc, .ptb, .tap, .shadows, .power, .free] allBlocks := by
  unfold poresetNLowStep
  refine State.within.step State.pinReset_within ?_ (by decide) (by decide)
  exact State.within_refl _ _

theorem warmrstNLowStep_within {ns_ : ℕ} {s : State} : s.within (warmrstNLowStep ns_ s) [.clk, .light, .grid, .pat, .rx, .phs, .dec, .qcp, .ptp, .net, .tb, .ridge, .strm, .trg, .reed, .brl, .pair, .isl, .mon, .cal, .dmc, .ptb, .tap, .shadows, .power, .free] allBlocks := by
  unfold warmrstNLowStep
  refine State.within.step State.pinReset_within ?_ (by decide) (by decide)
  exact State.within_refl _ _

theorem thermalResetStep_within {asserted : Bool} {s : State} : s.within (thermalResetStep asserted s) [.clk, .light, .grid, .pat, .rx, .phs, .dec, .qcp, .ptp, .net, .tb, .ridge, .strm, .trg, .reed, .brl, .pair, .isl, .mon, .cal, .dmc, .ptb, .tap, .shadows, .power] allBlocks := by
  unfold thermalResetStep
  refine State.within_ite ?_ ?_
  · refine State.within.step State.assertReset_within ?_ (by decide) (by decide)
    exact State.within_refl _ _
  · refine State.within_upd (by intro c hc; cases c <;> first | rfl | exact absurd (by decide) hc) ?_
    exact State.within_refl _ _

theorem watchdogExpireStep_within {s : State} : s.within (watchdogExpireStep s) [.clk, .light, .grid, .pat, .rx, .phs, .dec, .qcp, .ptp, .net, .tb, .ridge, .strm, .trg, .reed, .brl, .pair, .isl, .mon, .cal, .dmc, .ptb, .tap, .shadows, .power] allBlocks := by
  unfold watchdogExpireStep
  refine State.within.step State.assertReset_within ?_ (by decide) (by decide)
  exact State.within_refl _ _

theorem State.coldAct_within {s : State} {path : Path} : s.withinE (State.coldAct s path) [.clk, .light, .grid, .pat, .rx, .phs, .dec, .qcp, .ptp, .net, .tb, .ridge, .strm, .trg, .reed, .brl, .pair, .isl, .mon, .cal, .dmc, .ptb, .tap, .shadows, .power] allBlocks := by
  unfold State.coldAct
  refine State.byOwner_within (fun t1 ht1 => ?_) ?_
  · refine State.within.step State.assertReset_within ?_ (by decide) (by decide)
    assumption
  · exact State.within_refl _ _

theorem State.warmAct_within {s : State} {path : Path} : s.withinE (State.warmAct s path) [.clk, .light, .grid, .pat, .rx, .phs, .dec, .qcp, .ptp, .net, .tb, .ridge, .strm, .trg, .reed, .brl, .pair, .isl, .mon, .cal, .dmc, .ptb, .tap, .shadows, .power] allBlocks := by
  unfold State.warmAct
  refine State.byOwner_within (fun t1 ht1 => ?_) ?_
  · refine State.within.step State.assertReset_within ?_ (by decide) (by decide)
    assumption
  · exact State.within_refl _ _

theorem coldResetWriteStep_within {path : Path} {s : State} : s.within (coldResetWriteStep path s) [.clk, .light, .grid, .pat, .rx, .phs, .dec, .qcp, .ptp, .net, .tb, .ridge, .strm, .trg, .reed, .brl, .pair, .isl, .mon, .cal, .dmc, .ptb, .tap, .shadows, .power] allBlocks := by
  unfold coldResetWriteStep
  refine State.acted_within (by decide) ?_ ?_
  · refine State.withinE.step State.coldAct_within ?_ (by decide) (by decide)
    exact State.within_refl _ _
  · exact State.within_refl _ _

theorem warmResetWriteStep_within {path : Path} {s : State} : s.within (warmResetWriteStep path s) [.clk, .light, .grid, .pat, .rx, .phs, .dec, .qcp, .ptp, .net, .tb, .ridge, .strm, .trg, .reed, .brl, .pair, .isl, .mon, .cal, .dmc, .ptb, .tap, .shadows, .power] allBlocks := by
  unfold warmResetWriteStep
  refine State.acted_within (by decide) ?_ ?_
  · refine State.withinE.step State.warmAct_within ?_ (by decide) (by decide)
    exact State.within_refl _ _
  · exact State.within_refl _ _

theorem resetBody_within {q : ReqHdr} {count : ℕ} {s : State} : s.within (resetBody q count s) [.qcp, .ptb, .power, .out] [24, 25] := by
  unfold resetBody
  refine State.checks_within (by decide) (by decide) (fun t1 ht1 => ?_) ?_
  · extract_lets x2 x3
    have hx2 : s.within x2 [.qcp, .ptb, .power, .out] [24, 25] := by
      unfold x2
      refine State.within.step State.reply_within ?_ (by decide) (by decide)
      assumption
    clear_value x2
    clear_value x3
    refine State.within_upd (by intro c hc; cases c <;> first | rfl | exact absurd (by decide) hc) ?_
    assumption
  · exact State.within_refl _ _

theorem State.rstNow_within {s : State} : s.within (State.rstNow s) [.clk, .light, .grid, .pat, .rx, .phs, .dec, .qcp, .ptp, .net, .tb, .ridge, .strm, .trg, .reed, .brl, .pair, .isl, .mon, .cal, .dmc, .ptb, .tap, .shadows, .power] allBlocks := by
  unfold State.rstNow
  split
  · exact State.within_refl _ _
  · refine State.within.step State.assertReset_within ?_ (by decide) (by decide)
    exact State.within_refl _ _

theorem State.rstDue_within {s : State} : s.within (State.rstDue s) [.clk, .light, .grid, .pat, .rx, .phs, .dec, .qcp, .ptp, .net, .tb, .ridge, .strm, .trg, .reed, .brl, .pair, .isl, .mon, .cal, .dmc, .ptb, .tap, .shadows, .power] allBlocks := by
  unfold State.rstDue
  refine State.within_ite ?_ ?_
  · refine State.within.step State.rstNow_within ?_ (by decide) (by decide)
    exact State.within_refl _ _
  · exact State.within_refl _ _

theorem State.rstLast_within {s : State} {reach : ℕ} {since : ℕ} : s.within (State.rstLast s reach since) [] [1] := by
  unfold State.rstLast
  refine State.puts_cons_within ?_
  refine State.puts_cons_within ?_
  refine State.puts_nil_within ?_
  refine State.put_within rfl (mem_block (b := 1) (by omega) (by decide)) ?_
  refine State.put_within rfl (mem_block (b := 1) (by omega) (by decide)) ?_
  exact State.within_refl _ _

theorem resetExitStep_within {s : State} : s.within (resetExitStep s) [.clk, .light, .grid, .pat, .rx, .phs, .dec, .qcp, .ptp, .net, .tb, .ridge, .strm, .trg, .reed, .brl, .pair, .isl, .mon, .cal, .dmc, .ptb, .tap, .shadows, .power] allBlocks := by
  unfold resetExitStep
  extract_lets x1
  have hx1 : s.within x1 [.clk, .light, .grid, .pat, .rx, .phs, .dec, .qcp, .ptp, .net, .tb, .ridge, .strm, .trg, .reed, .brl, .pair, .isl, .mon, .cal, .dmc, .ptb, .tap, .shadows, .power] allBlocks := by
    unfold x1
    refine State.within_ite ?_ ?_
    · refine State.within.step State.rstNow_within ?_ (by decide) (by decide)
      exact State.within_refl _ _
    · exact State.within_refl _ _
  clear_value x1
  split
  · assumption
  · refine State.whenDo_within ?_ ?_
    · extract_lets x3 x4 x5 x6
      clear_value x3
      clear_value x4
      have hx5 : s.within x5 [.clk, .light, .grid, .pat, .rx, .phs, .dec, .qcp, .ptp, .net, .tb, .ridge, .strm, .trg, .reed, .brl, .pair, .isl, .mon, .cal, .dmc, .ptb, .tap, .shadows, .power] allBlocks := by
        unfold x5
        refine State.within_upd (by intro c hc; cases c <;> first | rfl | exact absurd (by decide) hc) ?_
        assumption
      clear_value x5
      have hx6 : s.within x6 [.clk, .light, .grid, .pat, .rx, .phs, .dec, .qcp, .ptp, .net, .tb, .ridge, .strm, .trg, .reed, .brl, .pair, .isl, .mon, .cal, .dmc, .ptb, .tap, .shadows, .power] allBlocks := by
        unfold x6
        refine State.within_ite ?_ ?_
        · assumption
        · refine State.within.step State.spoilClean_within ?_ (by decide) (by decide)
          assumption
      clear_value x6
      refine State.within.step State.settleClamp_within ?_ (by decide) (by decide)
      refine State.within.step State.rstLast_within ?_ (by decide) (by decide)
      refine State.within_ite ?_ ?_
      · assumption
      · refine State.put_within rfl (blockOf_mem_all _) ?_
        assumption
    · assumption

theorem flashHoldExpireStep_within {s : State} : s.within (flashHoldExpireStep s) [.clk, .cyc, .light, .power] [16] := by
  unfold flashHoldExpireStep
  split
  · refine State.within_ite ?_ ?_
    · refine State.within.step State.driveFlash_within ?_ (by decide) (by decide)
      refine State.within.step State.atCyc_within ?_ (by decide) (by decide)
      exact State.within_refl _ _
    · exact State.within_refl _ _
  · exact State.within_refl _ _

theorem State.fieldReset_within {s : State} {bit : ℕ} : s.within (State.fieldReset s bit) [.isl, .cal] allBlocks := by
  unfold State.fieldReset
  extract_lets x1 x2
  have hx1 : s.within x1 [.isl, .cal] allBlocks := by
    unfold x1
    refine State.within.step State.cause_within ?_ (by decide) (by decide)
    refine State.within.step State.islOff_within ?_ (by decide) (by decide)
    exact ⟨fun c hc => by cases c <;> first | rfl | exact absurd (by decide) hc, fun a ha => absurd (blockOf_mem_all a) ha, rfl,
      fun hs => Space.keep_wf _ hs, List.prefix_refl _, le_refl _, le_refl _⟩
  clear_value x1
  refine State.within.step State.modCal_within ?_ (by decide) (by decide)
  assumption

theorem islandStopStep_within {s : State} : s.within (islandStopStep s) [.isl, .cal] allBlocks := by
  unfold islandStopStep
  refine State.whenDo_within ?_ ?_
  · refine State.within.step State.fieldReset_within ?_ (by decide) (by decide)
    exact State.within_refl _ _
  · exact State.within_refl _ _

theorem islandWatchdogStep_within {s : State} : s.within (islandWatchdogStep s) [.isl, .cal] allBlocks := by
  unfold islandWatchdogStep
  refine State.whenDo_within ?_ ?_
  · refine State.within.step State.fieldReset_within ?_ (by decide) (by decide)
    exact State.within_refl _ _
  · exact State.within_refl _ _

theorem State.fieldAct_within {s : State} {path : Path} : s.withinE (State.fieldAct s path) [.isl, .cal] allBlocks := by
  unfold State.fieldAct
  refine State.byOwner_within (fun t1 ht1 => ?_) ?_
  · refine State.within.step State.fieldReset_within ?_ (by decide) (by decide)
    assumption
  · exact State.within_refl _ _

theorem fieldResetWriteStep_within {path : Path} {s : State} : s.within (fieldResetWriteStep path s) [.isl, .cal] allBlocks := by
  unfold fieldResetWriteStep
  refine State.acted_within (by decide) ?_ ?_
  · refine State.withinE.step State.fieldAct_within ?_ (by decide) (by decide)
    exact State.within_refl _ _
  · exact State.within_refl _ _

theorem State.blockNow_within {s : State} {b : ℕ} : s.within (State.blockNow s b) [.light, .grid, .pat, .rx, .phs, .dec, .qcp, .net, .tb, .ridge, .strm, .trg, .reed, .brl, .pair, .isl, .mon, .cal, .dmc, .ptb, .power, .out] allBlocks := by
  unfold State.blockNow
  extract_lets x1 x2
  have hx1 : s.within x1 [.light, .grid, .pat, .rx, .phs, .dec, .qcp, .net, .tb, .ridge, .strm, .trg, .reed, .brl, .pair, .isl, .mon, .cal, .dmc, .ptb, .power, .out] allBlocks := by
    unfold x1
    refine State.within.step State.blockAbsence_within ?_ (by decide) (by decide)
    refine State.within.step State.blockInit_within ?_ (by decide) (by decide)
    refine State.within.step State.cutTest_within ?_ (by decide) (by decide)
    exact State.within_refl _ _
  clear_value x1
  clear_value x2
  refine State.within.step State.settleClamp_within ?_ (by decide) (by decide)
  refine State.within.step State.cause_within ?_ (by decide) (by decide)
  refine State.within_upd (by intro c hc; cases c <;> first | rfl | exact absurd (by decide) hc) ?_
  assumption

theorem State.blockAct_within {s : State} {path : Path} {b : ℕ} : s.withinE (State.blockAct s path b) [.light, .grid, .pat, .rx, .phs, .dec, .qcp, .net, .tb, .ridge, .strm, .trg, .reed, .brl, .pair, .isl, .mon, .cal, .dmc, .ptb, .power, .out] allBlocks := by
  unfold State.blockAct
  refine State.withinE_ite ?_ ?_
  · exact State.withinE_error
  · extract_lets x1
    have hx1 : s.within x1 [.light, .grid, .pat, .rx, .phs, .dec, .qcp, .net, .tb, .ridge, .strm, .trg, .reed, .brl, .pair, .isl, .mon, .cal, .dmc, .ptb, .power, .out] allBlocks := by
      unfold x1
      refine State.put_within rfl (blockOf_mem_all _) ?_
      exact State.within_refl _ _
    clear_value x1
    refine State.withinE_ite ?_ ?_
    · refine State.withinE_ok ?_
      refine State.within.step State.blockNow_within ?_ (by decide) (by decide)
      assumption
    · exact State.withinE_error

theorem blockResetWriteStep_within {path : Path} {b : ℕ} {s : State} : s.within (blockResetWriteStep path b s) [.light, .grid, .pat, .rx, .phs, .dec, .qcp, .net, .tb, .ridge, .strm, .trg, .reed, .brl, .pair, .isl, .mon, .cal, .dmc, .ptb, .power, .out] allBlocks := by
  unfold blockResetWriteStep
  refine State.within_ite ?_ ?_
  · refine State.within.step State.cause_within ?_ (by decide) (by decide)
    exact State.within_refl _ _
  · refine State.acted_within (by decide) ?_ ?_
    · refine State.withinE.step State.blockAct_within ?_ (by decide) (by decide)
      exact State.within_refl _ _
    · exact State.within_refl _ _

theorem blockResetEndStep_within {s : State} : s.within (blockResetEndStep s) [.light, .grid, .pat, .rx, .dec, .qcp, .ridge, .strm, .trg, .reed, .brl, .pair, .isl, .mon, .cal, .dmc, .ptb, .power, .out, .free] [0, 1, 2, 3, 4, 5, 6, 7, 8, 9, 12, 13, 16, 17, 19, 20, 21, 24, 25] := by
  unfold blockResetEndStep
  split
  · exact State.within_refl _ _
  · refine State.within.step State.settleClamp_within ?_ (by decide) (by decide)
    refine State.within.step State.rstLast_within ?_ (by decide) (by decide)
    refine State.within.step State.blockAgain_within ?_ (by decide) (by decide)
    refine State.within_upd (by intro c hc; cases c <;> first | rfl | exact absurd (by decide) hc) ?_
    exact State.within_refl _ _

theorem execReset_within {q : ReqHdr} {count : ℕ} {s : State} : s.withinC (execReset q count s) [.qcp, .ptb, .power, .out] [24, 25] := by
  unfold execReset
  refine State.withinC_next ?_
  refine State.request_within (by decide) (by decide) (fun t1 ht1 => ?_) ?_
  · refine State.within.step resetBody_within ?_ (by decide) (by decide)
    assumption
  · exact State.within_refl _ _

theorem execIslandStop_within {s : State} : s.withinC (execIslandStop s) [.isl, .cal] allBlocks := by
  unfold execIslandStop
  refine State.withinC_next ?_
  refine State.within.step islandStopStep_within ?_ (by decide) (by decide)
  exact State.within_refl _ _

theorem execPowerOn_within {s : State} : s.withinC (execPowerOn s) [.clk, .light, .grid, .pat, .rx, .phs, .dec, .qcp, .ptp, .net, .tb, .ridge, .strm, .trg, .reed, .brl, .pair, .isl, .mon, .cal, .dmc, .ptb, .tap, .shadows, .power] allBlocks := by
  unfold execPowerOn
  refine State.withinC_next ?_
  refine State.within.step powerOnStep_within ?_ (by decide) (by decide)
  exact State.within_refl _ _

theorem execSupplyDrop_within {s : State} : s.withinC (execSupplyDrop s) [.clk, .light, .grid, .pat, .rx, .phs, .dec, .qcp, .ptp, .net, .tb, .ridge, .strm, .trg, .reed, .brl, .pair, .isl, .mon, .cal, .dmc, .ptb, .tap, .shadows, .power] allBlocks := by
  unfold execSupplyDrop
  refine State.withinC_next ?_
  refine State.within.step supplyDropStep_within ?_ (by decide) (by decide)
  exact State.within_refl _ _

theorem execPoresetNLow_within {ns : ℕ} {s : State} : s.withinC (execPoresetNLow ns s) [.clk, .light, .grid, .pat, .rx, .phs, .dec, .qcp, .ptp, .net, .tb, .ridge, .strm, .trg, .reed, .brl, .pair, .isl, .mon, .cal, .dmc, .ptb, .tap, .shadows, .power, .free] allBlocks := by
  unfold execPoresetNLow
  refine State.withinC_next ?_
  refine State.within.step poresetNLowStep_within ?_ (by decide) (by decide)
  exact State.within_refl _ _

theorem execWarmrstNLow_within {ns : ℕ} {s : State} : s.withinC (execWarmrstNLow ns s) [.clk, .light, .grid, .pat, .rx, .phs, .dec, .qcp, .ptp, .net, .tb, .ridge, .strm, .trg, .reed, .brl, .pair, .isl, .mon, .cal, .dmc, .ptb, .tap, .shadows, .power, .free] allBlocks := by
  unfold execWarmrstNLow
  refine State.withinC_next ?_
  refine State.within.step warmrstNLowStep_within ?_ (by decide) (by decide)
  exact State.within_refl _ _

theorem execThermalReset_within {asserted : Bool} {s : State} : s.withinC (execThermalReset asserted s) [.clk, .light, .grid, .pat, .rx, .phs, .dec, .qcp, .ptp, .net, .tb, .ridge, .strm, .trg, .reed, .brl, .pair, .isl, .mon, .cal, .dmc, .ptb, .tap, .shadows, .power] allBlocks := by
  unfold execThermalReset
  refine State.withinC_next ?_
  refine State.within.step thermalResetStep_within ?_ (by decide) (by decide)
  exact State.within_refl _ _

theorem execWatchdogExpire_within {s : State} : s.withinC (execWatchdogExpire s) [.clk, .light, .grid, .pat, .rx, .phs, .dec, .qcp, .ptp, .net, .tb, .ridge, .strm, .trg, .reed, .brl, .pair, .isl, .mon, .cal, .dmc, .ptb, .tap, .shadows, .power] allBlocks := by
  unfold execWatchdogExpire
  refine State.withinC_next ?_
  refine State.within.step watchdogExpireStep_within ?_ (by decide) (by decide)
  exact State.within_refl _ _

theorem execIslandWatchdog_within {s : State} : s.withinC (execIslandWatchdog s) [.isl, .cal] allBlocks := by
  unfold execIslandWatchdog
  refine State.withinC_next ?_
  refine State.within.step islandWatchdogStep_within ?_ (by decide) (by decide)
  exact State.within_refl _ _

theorem execColdResetWrite_within {path : Path} {s : State} : s.withinC (execColdResetWrite path s) [.clk, .light, .grid, .pat, .rx, .phs, .dec, .qcp, .ptp, .net, .tb, .ridge, .strm, .trg, .reed, .brl, .pair, .isl, .mon, .cal, .dmc, .ptb, .tap, .shadows, .power] allBlocks := by
  unfold execColdResetWrite
  refine State.withinC_next ?_
  refine State.within.step coldResetWriteStep_within ?_ (by decide) (by decide)
  exact State.within_refl _ _

theorem execWarmResetWrite_within {path : Path} {s : State} : s.withinC (execWarmResetWrite path s) [.clk, .light, .grid, .pat, .rx, .phs, .dec, .qcp, .ptp, .net, .tb, .ridge, .strm, .trg, .reed, .brl, .pair, .isl, .mon, .cal, .dmc, .ptb, .tap, .shadows, .power] allBlocks := by
  unfold execWarmResetWrite
  refine State.withinC_next ?_
  refine State.within.step warmResetWriteStep_within ?_ (by decide) (by decide)
  exact State.within_refl _ _

theorem execFieldResetWrite_within {path : Path} {s : State} : s.withinC (execFieldResetWrite path s) [.isl, .cal] allBlocks := by
  unfold execFieldResetWrite
  refine State.withinC_next ?_
  refine State.within.step fieldResetWriteStep_within ?_ (by decide) (by decide)
  exact State.within_refl _ _

theorem execBlockResetWrite_within {path : Path} {blk : Byte} {s : State} : s.withinC (execBlockResetWrite path blk s) [.light, .grid, .pat, .rx, .phs, .dec, .qcp, .net, .tb, .ridge, .strm, .trg, .reed, .brl, .pair, .isl, .mon, .cal, .dmc, .ptb, .power, .out] allBlocks := by
  unfold execBlockResetWrite
  refine State.withinC_next ?_
  refine State.within.step blockResetWriteStep_within ?_ (by decide) (by decide)
  exact State.within_refl _ _

theorem execResetExit_within {s : State} : s.withinC (execResetExit s) [.clk, .light, .grid, .pat, .rx, .phs, .dec, .qcp, .ptp, .net, .tb, .ridge, .strm, .trg, .reed, .brl, .pair, .isl, .mon, .cal, .dmc, .ptb, .tap, .shadows, .power] allBlocks := by
  unfold execResetExit
  refine State.withinC_next ?_
  refine State.within.step resetExitStep_within ?_ (by decide) (by decide)
  exact State.within_refl _ _

theorem execFlashHoldExpire_within {s : State} : s.withinC (execFlashHoldExpire s) [.clk, .cyc, .light, .power] [16] := by
  unfold execFlashHoldExpire
  refine State.withinC_next ?_
  refine State.within.step flashHoldExpireStep_within ?_ (by decide) (by decide)
  exact State.within_refl _ _

theorem execBlockResetEnd_within {s : State} : s.withinC (execBlockResetEnd s) [.light, .grid, .pat, .rx, .dec, .qcp, .ridge, .strm, .trg, .reed, .brl, .pair, .isl, .mon, .cal, .dmc, .ptb, .power, .out, .free] [0, 1, 2, 3, 4, 5, 6, 7, 8, 9, 12, 13, 16, 17, 19, 20, 21, 24, 25] := by
  unfold execBlockResetEnd
  refine State.withinC_next ?_
  refine State.within.step blockResetEndStep_within ?_ (by decide) (by decide)
  exact State.within_refl _ _

theorem State.bootTrain_within {s : State} {fail : ℕ} : s.within (State.bootTrain s fail) [.dmc, .free] [21] := by
  unfold State.bootTrain
  extract_lets x1
  refine State.put_within rfl (mem_block (b := 21) (by decide) (by decide)) ?_
  refine State.within.step State.readDens_within ?_ (by decide) (by decide)
  refine State.drew_within (by decide) ?_
  refine State.within.step State.modDmc_within ?_ (by decide) (by decide)
  exact State.within_refl _ _

theorem State.bootTests_within {s : State} {ok : Bool} : s.within (State.bootTests s ok) [.power, .free] [22] := by
  unfold State.bootTests
  extract_lets x1 x2
  refine State.within.step State.putReport_within ?_ (by decide) (by decide)
  refine State.drew_within (by decide) ?_
  exact State.within_refl _ _

theorem State.bootLoad_within {s : State} {i : CfgImage} {loaded : ℕ} : s.within (State.bootLoad s i loaded) [.light, .grid, .pat, .rx, .dec, .qcp, .ridge, .strm, .trg, .reed, .brl, .pair, .isl, .mon, .cal, .dmc, .ptb, .power, .out, .free] allBlocks := by
  unfold State.bootLoad
  extract_lets x1 x2 x3
  clear_value x1
  have hx2 : s.within x2 [.light, .grid, .pat, .rx, .dec, .qcp, .ridge, .strm, .trg, .reed, .brl, .pair, .isl, .mon, .cal, .dmc, .ptb, .power, .out, .free] allBlocks := by
    unfold x2
    refine State.within.step State.effects_within ?_ (by decide) (by decide)
    refine State.within.step State.loadExtras_within ?_ (by decide) (by decide)
    refine State.within.step State.adopt_within ?_ (by decide) (by decide)
    exact State.within_refl _ _
  clear_value x2
  have hx3 : s.within x3 [.light, .grid, .pat, .rx, .dec, .qcp, .ridge, .strm, .trg, .reed, .brl, .pair, .isl, .mon, .cal, .dmc, .ptb, .power, .out, .free] allBlocks := by
    unfold x3
    refine State.within.step State.bankChanges_within ?_ (by decide) (by decide)
    refine State.puts_cons_within ?_
    refine State.puts_cons_within ?_
    refine State.puts_cons_within ?_
    refine State.puts_cons_within ?_
    refine State.puts_cons_within ?_
    refine State.puts_nil_within ?_
    refine State.put_within rfl (blockOf_mem_all _) ?_
    refine State.put_within rfl (blockOf_mem_all _) ?_
    refine State.put_within rfl (blockOf_mem_all _) ?_
    refine State.put_within rfl (blockOf_mem_all _) ?_
    refine State.put_within rfl (blockOf_mem_all _) ?_
    assumption
  clear_value x3
  refine State.within.step State.clashCheck_within ?_ (by decide) (by decide)
  refine State.within.step State.sendCfg_within ?_ (by decide) (by decide)
  refine State.within.step State.loadQuotas_within ?_ (by decide) (by decide)
  assumption

theorem State.enterHeld_within {s : State} : s.within (State.enterHeld s) [.light, .dmc, .power] [0, 16, 21] := by
  unfold State.enterHeld
  refine State.within.step State.driveFlash_within ?_ (by decide) (by decide)
  refine State.within.step State.enter_within ?_ (by decide) (by decide)
  exact State.within_refl _ _

theorem State.qcpReadyNow_within {s : State} : s.within (State.qcpReadyNow s) [.power] [14] := by
  unfold State.qcpReadyNow
  refine State.put_within rfl (mem_block (b := 14) (by decide) (by decide)) ?_
  refine State.within_upd (by intro c hc; cases c <;> first | rfl | exact absurd (by decide) hc) ?_
  exact State.within_refl _ _

theorem State.bootEpoch_within {s : State} {slot : BitVec 32} : s.within (State.bootEpoch s slot) [.power] [0] := by
  unfold State.bootEpoch
  extract_lets x1
  clear_value x1
  refine State.within.step State.issue_within ?_ (by decide) (by decide)
  refine State.put_within rfl (mem_block (b := 0) (by decide) (by decide)) ?_
  exact State.within_refl _ _

theorem State.bootMemory_within {s : State} {trainFail : ℕ} {memOk : Bool} : s.within (State.bootMemory s trainFail memOk) [.dmc, .power, .free] [0, 21, 22] := by
  unfold State.bootMemory
  extract_lets x1
  have hx1 : s.within x1 [.dmc, .power, .free] [0, 21, 22] := by
    unfold x1
    refine State.within_ite ?_ ?_
    · refine State.within.step State.readDens_within ?_ (by decide) (by decide)
      exact State.within_refl _ _
    · refine State.within.step State.bootTrain_within ?_ (by decide) (by decide)
      exact State.within_refl _ _
  clear_value x1
  refine State.within_ite ?_ ?_
  · refine State.put_within rfl (mem_block (b := 0) (by decide) (by decide)) ?_
    refine State.within.step State.spoilClean_within ?_ (by decide) (by decide)
    assumption
  · refine State.within_ite ?_ ?_
    · assumption
    · refine State.within.step State.bootTests_within ?_ (by decide) (by decide)
      assumption

theorem bootSequenceStep_within {fwOk : Bool} {trainFail : ℕ} {memOk : Bool} {s : State} : s.within (bootSequenceStep fwOk trainFail memOk s) [.light, .grid, .pat, .rx, .dec, .qcp, .ridge, .strm, .trg, .reed, .brl, .pair, .isl, .mon, .cal, .dmc, .ptb, .power, .out, .free] allBlocks := by
  unfold bootSequenceStep
  refine State.whenDo_within ?_ ?_
  · extract_lets x2 x3 x4 x5 x6 x7 x8 x9
    clear_value x2
    have hx3 : s.within x3 [.light, .grid, .pat, .rx, .dec, .qcp, .ridge, .strm, .trg, .reed, .brl, .pair, .isl, .mon, .cal, .dmc, .ptb, .power, .out, .free] allBlocks := by
      unfold x3
      refine State.within_upd (by intro c hc; cases c <;> first | rfl | exact absurd (by decide) hc) ?_
      exact State.within_refl _ _
    clear_value x3
    clear_value x4
    have hx5 : s.within x5 [.light, .grid, .pat, .rx, .dec, .qcp, .ridge, .strm, .trg, .reed, .brl, .pair, .isl, .mon, .cal, .dmc, .ptb, .power, .out, .free] allBlocks := by
      unfold x5
      refine State.within.step State.updStore_within ?_ (by decide) (by decide)
      refine State.within.step State.updBist_within ?_ (by decide) (by decide)
      refine State.within.step State.bootMemory_within ?_ (by decide) (by decide)
      assumption
    clear_value x5
    have hx6 : s.within x6 [.light, .grid, .pat, .rx, .dec, .qcp, .ridge, .strm, .trg, .reed, .brl, .pair, .isl, .mon, .cal, .dmc, .ptb, .power, .out, .free] allBlocks := by
      unfold x6
      refine State.within.step State.updKphi_within ?_ (by decide) (by decide)
      refine State.within.step State.updPool_within ?_ (by decide) (by decide)
      refine State.put_within rfl (blockOf_mem_all _) ?_
      assumption
    clear_value x6
    clear_value x7
    have hx8 : s.within x8 [.light, .grid, .pat, .rx, .dec, .qcp, .ridge, .strm, .trg, .reed, .brl, .pair, .isl, .mon, .cal, .dmc, .ptb, .power, .out, .free] allBlocks := by
      unfold x8
      refine State.within.step State.enterHeld_within ?_ (by decide) (by decide)
      refine State.within.step State.bootEpoch_within ?_ (by decide) (by decide)
      assumption
    clear_value x8
    have hx9 : s.within x9 [.light, .grid, .pat, .rx, .dec, .qcp, .ridge, .strm, .trg, .reed, .brl, .pair, .isl, .mon, .cal, .dmc, .ptb, .power, .out, .free] allBlocks := by
      unfold x9
      split
      · refine State.within.step State.startLock_within ?_ (by decide) (by decide)
        refine State.put_within rfl (blockOf_mem_all _) ?_
        refine State.within.step State.bootEpoch_within ?_ (by decide) (by decide)
        refine State.within.step State.bootLoad_within ?_ (by decide) (by decide)
        assumption
      · refine State.within_ite ?_ ?_
        · refine State.within.step State.hwFault_within ?_ (by decide) (by decide)
          assumption
        · assumption
    clear_value x9
    refine State.within_ite ?_ ?_
    · assumption
    · refine State.within.step State.qcpReadyNow_within ?_ (by decide) (by decide)
      refine State.within.step State.calDueAll_within ?_ (by decide) (by decide)
      refine State.within.step State.calLoad_within ?_ (by decide) (by decide)
      assumption
  · exact State.within_refl _ _

theorem execBootSequence_within {fwOk : Bool} {trainFail : BitVec 4} {memOk : Bool} {s : State} : s.withinC (execBootSequence fwOk trainFail memOk s) [.light, .grid, .pat, .rx, .dec, .qcp, .ridge, .strm, .trg, .reed, .brl, .pair, .isl, .mon, .cal, .dmc, .ptb, .power, .out, .free] allBlocks := by
  unfold execBootSequence
  refine State.withinC_next ?_
  refine State.within.step bootSequenceStep_within ?_ (by decide) (by decide)
  exact State.within_refl _ _

theorem State.modTap_within {s : State} {f : Tap → Tap} : s.within (State.modTap s f) [.tap] [] := by
  unfold State.modTap
  refine State.within_upd (by intro c hc; cases c <;> first | rfl | exact absurd (by decide) hc) ?_
  exact State.within_refl _ _

theorem State.tapSelect_within {s : State} {i : TapInstr} {scan : Bool} : s.within (State.tapSelect s i scan) [.tap] [] := by
  unfold State.tapSelect
  refine State.within.step State.modTap_within ?_ (by decide) (by decide)
  exact State.within_refl _ _

theorem State.scanClear_within {s : State} : s.within (State.scanClear s) [.clk, .light, .grid, .pat, .rx, .phs, .dec, .qcp, .ptp, .net, .tb, .ridge, .strm, .trg, .reed, .brl, .pair, .isl, .mon, .cal, .dmc, .ptb, .keys, .tap, .shadows, .power] allBlocks := by
  unfold State.scanClear
  extract_lets x1
  have hx1 : s.within x1 [.clk, .light, .grid, .pat, .rx, .phs, .dec, .qcp, .ptp, .net, .tb, .ridge, .strm, .trg, .reed, .brl, .pair, .isl, .mon, .cal, .dmc, .ptb, .keys, .tap, .shadows, .power] allBlocks := by
    unfold x1
    refine State.within.step State.assertReset_within ?_ (by decide) (by decide)
    exact State.within_refl _ _
  clear_value x1
  refine State.puts_cons_within ?_
  refine State.puts_cons_within ?_
  refine State.puts_nil_within ?_
  refine State.put_within rfl (blockOf_mem_all _) ?_
  refine State.put_within rfl (blockOf_mem_all _) ?_
  refine State.countSat_within rfl (blockOf_mem_all _) ?_
  refine State.within.step State.updKeys_within ?_ (by decide) (by decide)
  refine State.within_upd (by intro c hc; cases c <;> first | rfl | exact absurd (by decide) hc) ?_
  assumption

theorem State.scanCheck_within {s : State} : s.within (State.scanCheck s) [.clk, .light, .grid, .pat, .rx, .phs, .dec, .qcp, .ptp, .net, .tb, .ridge, .strm, .trg, .reed, .brl, .pair, .isl, .mon, .cal, .dmc, .ptb, .keys, .tap, .shadows, .power] allBlocks := by
  unfold State.scanCheck
  refine State.within_ite ?_ ?_
  · refine State.within.step State.scanClear_within ?_ (by decide) (by decide)
    exact State.within_refl _ _
  · exact State.within_refl _ _

theorem tapResetStep_within {s : State} : s.within (tapResetStep s) [.tap, .free] [] := by
  unfold tapResetStep
  refine State.within.step State.modTap_within ?_ (by decide) (by decide)
  refine State.drew_within (by decide) ?_
  exact State.within_refl _ _

theorem jtagBypassStep_within {s : State} : s.within (jtagBypassStep s) [.tap] [] := by
  unfold jtagBypassStep
  refine State.within.step State.tapSelect_within ?_ (by decide) (by decide)
  exact State.within_refl _ _

theorem idcodeStep_within {s : State} : s.within (idcodeStep s) [.ptb, .tap, .out] [24] := by
  unfold idcodeStep
  refine State.within.step State.emit_within ?_ (by decide) (by decide)
  refine State.within.step State.tapSelect_within ?_ (by decide) (by decide)
  exact State.within_refl _ _

theorem samplePreloadStep_within {s : State} : s.within (samplePreloadStep s) [.tap] [] := by
  unfold samplePreloadStep
  refine State.within.step State.tapSelect_within ?_ (by decide) (by decide)
  exact State.within_refl _ _

theorem challengeStep_within {s : State} : s.within (challengeStep s) [.ptb, .tap, .out] [24] := by
  unfold challengeStep
  refine State.within.step State.emit_within ?_ (by decide) (by decide)
  refine State.within.step State.tapSelect_within ?_ (by decide) (by decide)
  exact State.within_refl _ _

theorem responseStep_within {value : BitVec 128} {s : State} : s.within (responseStep value s) [.clk, .light, .grid, .pat, .rx, .phs, .dec, .qcp, .ptp, .net, .tb, .ridge, .strm, .trg, .reed, .brl, .pair, .isl, .mon, .cal, .dmc, .ptb, .keys, .tap, .shadows, .power] allBlocks := by
  unfold responseStep
  extract_lets x1 x2
  clear_value x1
  have hx2 : s.within x2 [.clk, .light, .grid, .pat, .rx, .phs, .dec, .qcp, .ptp, .net, .tb, .ridge, .strm, .trg, .reed, .brl, .pair, .isl, .mon, .cal, .dmc, .ptb, .keys, .tap, .shadows, .power] allBlocks := by
    unfold x2
    refine State.within.step State.modTap_within ?_ (by decide) (by decide)
    refine State.within.step State.tapSelect_within ?_ (by decide) (by decide)
    exact State.within_refl _ _
  clear_value x2
  refine State.within.step State.scanCheck_within ?_ (by decide) (by decide)
  refine State.within_ite ?_ ?_
  · assumption
  · refine State.countSat_within rfl (blockOf_mem_all _) ?_
    assumption

theorem extestStep_within {s : State} : s.within (extestStep s) [.tap] [] := by
  unfold extestStep
  refine State.within.step State.tapSelect_within ?_ (by decide) (by decide)
  exact State.within_refl _ _

theorem clampStep_within {s : State} : s.within (clampStep s) [.tap] [] := by
  unfold clampStep
  refine State.within.step State.tapSelect_within ?_ (by decide) (by decide)
  exact State.within_refl _ _

theorem highzStep_within {s : State} : s.within (highzStep s) [.tap] [] := by
  unfold highzStep
  refine State.within.step State.tapSelect_within ?_ (by decide) (by decide)
  exact State.within_refl _ _

theorem intscanStep_within {s : State} : s.within (intscanStep s) [.tap] [] := by
  unfold intscanStep
  refine State.within.step State.tapSelect_within ?_ (by decide) (by decide)
  exact State.within_refl _ _

theorem State.permitAct_within {s : State} {path : Path} : s.withinE (State.permitAct s path) [.clk, .light, .grid, .pat, .rx, .phs, .dec, .qcp, .ptp, .net, .tb, .ridge, .strm, .trg, .reed, .brl, .pair, .isl, .mon, .cal, .dmc, .ptb, .keys, .tap, .shadows, .power] allBlocks := by
  unfold State.permitAct
  refine State.withinE_ite ?_ ?_
  · refine State.withinE_ok ?_
    refine State.within.step State.scanCheck_within ?_ (by decide) (by decide)
    refine State.put_within rfl (blockOf_mem_all _) ?_
    refine State.within_upd (by intro c hc; cases c <;> first | rfl | exact absurd (by decide) hc) ?_
    exact State.within_refl _ _
  · exact State.withinE_error

theorem permitStep_within {path : Path} {s : State} : s.within (permitStep path s) [.clk, .light, .grid, .pat, .rx, .phs, .dec, .qcp, .ptp, .net, .tb, .ridge, .strm, .trg, .reed, .brl, .pair, .isl, .mon, .cal, .dmc, .ptb, .keys, .tap, .shadows, .power] allBlocks := by
  unfold permitStep
  refine State.acted_within (by decide) ?_ ?_
  · refine State.withinE.step State.permitAct_within ?_ (by decide) (by decide)
    exact State.within_refl _ _
  · exact State.within_refl _ _

theorem permitExpireStep_within {s : State} : s.within (permitExpireStep s) [.clk, .cyc, .tap] [23] := by
  unfold permitExpireStep
  refine State.whenDo_within ?_ ?_
  · refine State.put_within rfl (mem_block (b := 23) (by decide) (by decide)) ?_
    refine State.within.step State.modTap_within ?_ (by decide) (by decide)
    refine State.within.step State.atCyc_within ?_ (by decide) (by decide)
    exact State.within_refl _ _
  · exact State.within_refl _ _

theorem execTapReset_within {s : State} : s.withinC (execTapReset s) [.tap, .free] [] := by
  unfold execTapReset
  refine State.withinC_next ?_
  refine State.within.step tapResetStep_within ?_ (by decide) (by decide)
  exact State.within_refl _ _

theorem execJtagBypass_within {s : State} : s.withinC (execJtagBypass s) [.tap] [] := by
  unfold execJtagBypass
  refine State.withinC_next ?_
  refine State.within.step jtagBypassStep_within ?_ (by decide) (by decide)
  exact State.within_refl _ _

theorem execIdcode_within {s : State} : s.withinC (execIdcode s) [.ptb, .tap, .out] [24] := by
  unfold execIdcode
  refine State.withinC_next ?_
  refine State.within.step idcodeStep_within ?_ (by decide) (by decide)
  exact State.within_refl _ _

theorem execSamplePreload_within {s : State} : s.withinC (execSamplePreload s) [.tap] [] := by
  unfold execSamplePreload
  refine State.withinC_next ?_
  refine State.within.step samplePreloadStep_within ?_ (by decide) (by decide)
  exact State.within_refl _ _

theorem execChallenge_within {s : State} : s.withinC (execChallenge s) [.ptb, .tap, .out] [24] := by
  unfold execChallenge
  refine State.withinC_next ?_
  refine State.within.step challengeStep_within ?_ (by decide) (by decide)
  exact State.within_refl _ _

theorem execResponse_within {value : BitVec 128} {s : State} : s.withinC (execResponse value s) [.clk, .light, .grid, .pat, .rx, .phs, .dec, .qcp, .ptp, .net, .tb, .ridge, .strm, .trg, .reed, .brl, .pair, .isl, .mon, .cal, .dmc, .ptb, .keys, .tap, .shadows, .power] allBlocks := by
  unfold execResponse
  refine State.withinC_next ?_
  refine State.within.step responseStep_within ?_ (by decide) (by decide)
  exact State.within_refl _ _

theorem execExtest_within {s : State} : s.withinC (execExtest s) [.tap] [] := by
  unfold execExtest
  refine State.withinC_next ?_
  refine State.within.step extestStep_within ?_ (by decide) (by decide)
  exact State.within_refl _ _

theorem execClamp_within {s : State} : s.withinC (execClamp s) [.tap] [] := by
  unfold execClamp
  refine State.withinC_next ?_
  refine State.within.step clampStep_within ?_ (by decide) (by decide)
  exact State.within_refl _ _

theorem execHighz_within {s : State} : s.withinC (execHighz s) [.tap] [] := by
  unfold execHighz
  refine State.withinC_next ?_
  refine State.within.step highzStep_within ?_ (by decide) (by decide)
  exact State.within_refl _ _

theorem execIntscan_within {s : State} : s.withinC (execIntscan s) [.tap] [] := by
  unfold execIntscan
  refine State.withinC_next ?_
  refine State.within.step intscanStep_within ?_ (by decide) (by decide)
  exact State.within_refl _ _

theorem execPermit_within {path : Path} {s : State} : s.withinC (execPermit path s) [.clk, .light, .grid, .pat, .rx, .phs, .dec, .qcp, .ptp, .net, .tb, .ridge, .strm, .trg, .reed, .brl, .pair, .isl, .mon, .cal, .dmc, .ptb, .keys, .tap, .shadows, .power] allBlocks := by
  unfold execPermit
  refine State.withinC_next ?_
  refine State.within.step permitStep_within ?_ (by decide) (by decide)
  exact State.within_refl _ _

theorem execPermitExpire_within {s : State} : s.withinC (execPermitExpire s) [.clk, .cyc, .tap] [23] := by
  unfold execPermitExpire
  refine State.withinC_next ?_
  refine State.within.step permitExpireStep_within ?_ (by decide) (by decide)
  exact State.within_refl _ _

end Sys2Proof.Machine
end

