-- ==== Sys2Proof/Laws/WithinRegs.lean ====
section
/-! SUPPORT. For each operation of packets, direct reads and writes, the inputs of the pins and the idle cycle: which components and which register blocks it may change. -/

namespace Sys2Proof.Machine

theorem State.dropPacket_within {s : State} {via : Via} {i : ℕ} : s.within (State.dropPacket s via i) [] [25] := by
  unfold State.dropPacket
  extract_lets x1
  have hx1 : s.within x1 [] [25] := by
    unfold x1
    refine State.count_within rfl (mem_block (b := 25) (by omega) (by decide)) ?_
    exact State.within_refl _ _
  clear_value x1
  split
  · assumption
  · refine State.put_within rfl (mem_block (b := 25) (by omega) (by decide)) ?_
    assumption

theorem State.enqueue_within {s : State} {q : ReqHdr} {op : ℕ} {l : List Byte} : s.within (State.enqueue s q op l) [.qcp, .ptb, .out] [24, 25] := by
  unfold State.enqueue
  refine State.within_ite ?_ ?_
  · refine State.within.step State.reply_within ?_ (by decide) (by decide)
    refine State.count_within rfl (mem_block (b := 25) (by decide) (by decide)) ?_
    exact State.within_refl _ _
  · refine State.within_ite ?_ ?_
    · refine State.within.step State.reply_within ?_ (by decide) (by decide)
      refine State.count_within rfl (mem_block (b := 25) (by decide) (by decide)) ?_
      exact State.within_refl _ _
    · refine State.within_ite ?_ ?_
      · refine State.within.step State.reply_within ?_ (by decide) (by decide)
        refine State.count_within rfl (mem_block (b := 25) (by decide) (by decide)) ?_
        exact State.within_refl _ _
      · refine State.within.step State.qcpCount_within ?_ (by decide) (by decide)
        refine State.within.step State.modSess_within ?_ (by decide) (by decide)
        exact State.within_refl _ _

theorem State.checkSequence_within {s : State} {q : ReqHdr} {op : ℕ} {l : List Byte} : s.within (State.checkSequence s q op l) [.qcp, .ptb, .out] [24, 25] := by
  unfold State.checkSequence
  extract_lets x1
  clear_value x1
  refine State.within_ite ?_ ?_
  · refine State.within_ite ?_ ?_
    · refine State.within.step State.enqueue_within ?_ (by decide) (by decide)
      exact State.within_refl _ _
    · refine State.within.step State.notFresh_within ?_ (by decide) (by decide)
      exact State.within_refl _ _
  · refine State.within_ite ?_ ?_
    · refine State.within.step State.enqueue_within ?_ (by decide) (by decide)
      refine State.within.step State.modSess_within ?_ (by decide) (by decide)
      exact State.within_refl _ _
    · refine State.within.step State.notFresh_within ?_ (by decide) (by decide)
      exact State.within_refl _ _

theorem State.checkSession_within {s : State} {via : Via} {r : Fin 8} {l : List Byte} : s.within (State.checkSession s via r l) [.qcp, .ptb, .out] [24, 25] := by
  unfold State.checkSession
  extract_lets x1 x2
  clear_value x1
  clear_value x2
  refine State.within_ite ?_ ?_
  · refine State.within.step State.errorReply_within ?_ (by decide) (by decide)
    refine State.count_within rfl (mem_block (b := 25) (by decide) (by decide)) ?_
    exact State.within_refl _ _
  · refine State.within_ite ?_ ?_
    · refine State.within.step State.errorReply_within ?_ (by decide) (by decide)
      refine State.count_within rfl (mem_block (b := 25) (by decide) (by decide)) ?_
      exact State.within_refl _ _
    · refine State.within.step State.checkSequence_within ?_ (by decide) (by decide)
      exact State.within_refl _ _

theorem State.receive_within {s : State} {via : Via} {l : List Byte} : s.within (State.receive s via l) [.qcp, .ptb, .out] [24, 25] := by
  unfold State.receive
  refine State.within_ite ?_ ?_
  · refine State.within.step State.dropPacket_within ?_ (by decide) (by decide)
    exact State.within_refl _ _
  · refine State.within_ite ?_ ?_
    · refine State.within.step State.dropPacket_within ?_ (by decide) (by decide)
      exact State.within_refl _ _
    · refine State.within_ite ?_ ?_
      · refine State.within.step State.dropPacket_within ?_ (by decide) (by decide)
        exact State.within_refl _ _
      · extract_lets x1 x2 x3
        clear_value x1
        clear_value x2
        clear_value x3
        refine State.within_ite ?_ ?_
        · refine State.within.step State.errorReply_within ?_ (by decide) (by decide)
          refine State.count_within rfl (mem_block (b := 25) (by decide) (by decide)) ?_
          exact State.within_refl _ _
        · split
          · refine State.within.step State.checkSession_within ?_ (by decide) (by decide)
            exact State.within_refl _ _
          · refine State.within.step State.errorReply_within ?_ (by decide) (by decide)
            refine State.count_within rfl (mem_block (b := 25) (by decide) (by decide)) ?_
            exact State.within_refl _ _

theorem qcpPacketStep_within {via : Via} {l : List Byte} {s : State} : s.within (qcpPacketStep via l s) [.qcp, .ptb, .out] [24, 25] := by
  unfold qcpPacketStep
  refine State.whenDo_within ?_ ?_
  · refine State.within.step State.receive_within ?_ (by decide) (by decide)
    exact State.within_refl _ _
  · exact State.within_refl _ _

theorem execQcpPacket_within {via : Via} {bytes : List Byte} {s : State} : s.withinC (execQcpPacket via bytes s) [.qcp, .ptb, .out] [24, 25] := by
  unfold execQcpPacket
  refine State.withinC_next ?_
  refine State.within.step qcpPacketStep_within ?_ (by decide) (by decide)
  exact State.within_refl _ _

theorem State.see_within {s : State} {path : Path} {off : ℕ} : s.within (State.see s path off).2 [.free] [] := by
  unfold State.see
  split
  · dsimp only
    exact State.within_refl _ _
  · split
    · dsimp only
      exact State.within_refl _ _
    · split
      · extract_lets x1
        clear_value x1
        split
        · dsimp only
          exact State.within_refl _ _
        · dsimp only
          refine State.drew_within (by decide) ?_
          exact State.within_refl _ _
      · dsimp only
        exact State.within_refl _ _

theorem State.putShadow_within {s : State} {x : Shadow} : s.within (State.putShadow s x) [.shadows] [] := by
  unfold State.putShadow
  refine State.within_upd (by intro c hc; cases c <;> first | rfl | exact absurd (by decide) hc) ?_
  exact State.within_refl _ _

theorem State.latch_within {s : State} {path : Path} {low : ℕ} {n : ℕ} : s.within (State.latch s path low n) [.shadows] [] := by
  unfold State.latch
  extract_lets x1 x2
  clear_value x1
  clear_value x2
  refine State.within.step State.putShadow_within ?_ (by decide) (by decide)
  exact State.within_refl _ _

theorem State.takeIgn_within {s : State} {path : Path} : s.within (State.takeIgn s path).2 [.shadows] [0] := by
  unfold State.takeIgn
  extract_lets x1 x2
  clear_value x1
  clear_value x2
  split
  · dsimp only
    refine State.put_within rfl (mem_block (b := 0) (by decide) (by decide)) ?_
    refine State.within.step State.putShadow_within ?_ (by decide) (by decide)
    exact State.within_refl _ _
  · dsimp only
    exact State.within_refl _ _

theorem State.readWord_within {s : State} {path : Path} {off : ℕ} : s.within (State.readWord s path off).2 [.shadows, .free] [0] := by
  unfold State.readWord
  split
  · refine State.within.step State.takeIgn_within ?_ (by decide) (by decide)
    exact State.within_refl _ _
  · split
    · refine State.within.step State.see_within ?_ (by decide) (by decide)
      exact State.within_refl _ _
    · split
      · dsimp only
        refine State.within.step State.latch_within ?_ (by decide) (by decide)
        exact State.within_refl _ _
      · dsimp only
        exact State.within_refl _ _

theorem State.readWords_within {s : State} {path : Path} {a2 : ℕ} {a3 : ℕ} : s.within (State.readWords s path a2 a3).2 [.shadows, .free] [0] := by
  induction a3 generalizing s a2 with
  | zero => exact State.within_refl _ _
  | succ n ih => exact State.within.trans State.readWord_within ih

theorem State.directRead_within {s : State} {path : Path} {off : ℕ} {n : ℕ} : s.within (State.directRead s path off n) [.ptb, .shadows, .out, .free] [0, 24] := by
  unfold State.directRead
  split
  · refine State.within_ite ?_ ?_
    · refine State.within.step State.emit_within ?_ (by decide) (by decide)
      exact State.within_refl _ _
    · refine State.within.step State.emit_within ?_ (by decide) (by decide)
      exact State.within_refl _ _
  · extract_lets x1
    have hx1 : s.within x1.2 [.ptb, .shadows, .out, .free] [0, 24] := by
      unfold x1
      refine State.within.step State.readWords_within ?_ (by decide) (by decide)
      exact State.within_refl _ _
    refine State.within.step State.emit_within ?_ (by decide) (by decide)
    assumption

theorem groupLatchReadStep_within {path : Path} {off : ℕ} {s : State} : s.within (groupLatchReadStep path off s) [.ptb, .shadows, .out, .free] [0, 24] := by
  unfold groupLatchReadStep
  refine State.whenDo_within ?_ ?_
  · refine State.within.step State.directRead_within ?_ (by decide) (by decide)
    exact State.within_refl _ _
  · exact State.within_refl _ _

theorem sysIgnCntReadStep_within {path : Path} {s : State} : s.within (sysIgnCntReadStep path s) [.ptb, .shadows, .out, .free] [0, 24] := by
  unfold sysIgnCntReadStep
  refine State.within.step State.directRead_within ?_ (by decide) (by decide)
  exact State.within_refl _ _

theorem execGroupLatchRead_within {path : Path} {off : BitVec 24} {s : State} : s.withinC (execGroupLatchRead path off s) [.ptb, .shadows, .out, .free] [0, 24] := by
  unfold execGroupLatchRead
  refine State.withinC_next ?_
  refine State.within.step groupLatchReadStep_within ?_ (by decide) (by decide)
  exact State.within_refl _ _

theorem execSysIgnCntRead_within {path : Path} {s : State} : s.withinC (execSysIgnCntRead path s) [.ptb, .shadows, .out, .free] [0, 24] := by
  unfold execSysIgnCntRead
  refine State.withinC_next ?_
  refine State.within.step sysIgnCntReadStep_within ?_ (by decide) (by decide)
  exact State.within_refl _ _

theorem State.failAct_within {s : State} {path : Path} : s.withinE (State.failAct s path) [.light] [3] := by
  unfold State.failAct
  refine State.byOwner_within (fun t1 ht1 => ?_) ?_
  · refine State.within_ite ?_ ?_
    · refine State.within.step State.failCleared_within ?_ (by decide) (by decide)
      assumption
    · assumption
  · exact State.within_refl _ _

theorem State.rearmAct_within {s : State} {path : Path} : s.withinE (State.rearmAct s path) [] [3] := by
  unfold State.rearmAct
  refine State.byOwner_within (fun t1 ht1 => ?_) ?_
  · refine State.within.step State.rearm_within ?_ (by decide) (by decide)
    assumption
  · exact State.within_refl _ _

theorem State.clearGates_within {s : State} {bits : ℕ} : s.within (State.clearGates s bits) [.light] [3] := by
  unfold State.clearGates
  extract_lets x1 x2
  have hx1 : ∀ a0 a1, s.within a0 [.light] [3] → s.within (x1 a0 a1) [.light] [3] := by
    intro a0 a1 ha
    unfold x1
    refine State.within_ite ?_ ?_
    · refine State.within.step State.modPl_within ?_ (by decide) (by decide)
      assumption
    · assumption
  have hx2 : s.within x2 [.light] [3] := by
    unfold x2
    refine State.put_within rfl (mem_block (b := 3) (by decide) (by decide)) ?_
    refine hx1 _ _ ?_
    refine hx1 _ _ ?_
    exact State.within_refl _ _
  clear_value x2
  refine State.within_ite ?_ ?_
  · assumption
  · refine State.within.step State.clearFault_within ?_ (by decide) (by decide)
    assumption

theorem State.clearBits_within {s : State} {off : ℕ} {bits : Word} : s.within (State.clearBits s off bits) [.light] allBlocks := by
  unfold State.clearBits
  extract_lets x1 x2
  have hx1 : s.within x1 [.light] allBlocks := by
    unfold x1
    refine State.within_ite ?_ ?_
    · refine State.within.step State.clearGates_within ?_ (by decide) (by decide)
      exact State.within_refl _ _
    · exact State.within_refl _ _
  clear_value x1
  have hx2 : s.within x2 [.light] allBlocks := by
    unfold x2
    refine State.wr_within (blockOf_mem_all _) ?_
    assumption
  clear_value x2
  refine State.within_ite ?_ ?_
  · refine State.within.step State.clearFault_within ?_ (by decide) (by decide)
    assumption
  · assumption

theorem State.mailGo_within {s : State} {m : Fin 2} : s.within (State.mailGo s m) [.qcp, .ptb, .out] [24, 25] := by
  unfold State.mailGo
  refine State.within_ite ?_ ?_
  · refine State.countSat_within rfl (mem_block (b := 25) (by omega) (by decide)) ?_
    exact State.within_refl _ _
  · refine State.within.step qcpPacketStep_within ?_ (by decide) (by decide)
    refine State.put_within rfl (mem_block (b := 25) (by omega) (by decide)) ?_
    exact State.within_refl _ _

theorem State.nextMail_within {s : State} {m : Fin 2} : s.within (State.nextMail s m) [.qcp, .ptb, .out] [24, 25] := by
  unfold State.nextMail
  extract_lets x1
  split
  · exact State.within_refl _ _
  · refine State.within.step State.sendEvent_within ?_ (by decide) (by decide)
    refine State.within.step State.modSess_within ?_ (by decide) (by decide)
    exact State.within_refl _ _

theorem State.mailEvt_within {s : State} {m : Fin 2} : s.within (State.mailEvt s m) [.qcp, .ptb, .out] [24, 25] := by
  unfold State.mailEvt
  refine State.within_ite ?_ ?_
  · refine State.within.step State.nextMail_within ?_ (by decide) (by decide)
    refine State.put_within rfl (mem_block (b := 25) (by omega) (by decide)) ?_
    exact State.within_refl _ _
  · exact State.within_refl _ _

theorem State.mailWrite_within {s : State} {m : Fin 2} {off : ℕ} {w : Word} : s.withinE (State.mailWrite s m off w) [.qcp, .ptb, .out] [24, 25] := by
  unfold State.mailWrite
  refine State.withinE_ite ?_ ?_
  · extract_lets go len busy taken x4 x5 x6 x7
    clear_value go len busy taken
    refine State.withinE_ite State.withinE_error ?_
    have hx4 : s.within x4 [.qcp, .ptb, .out] [24, 25] :=
      State.within_ite (State.put_within rfl (mem_block (b := 25) (by omega) (by decide)) (State.within_refl _ _)) (State.within_refl _ _)
    clear_value x4
    have hx5 : s.within x5 [.qcp, .ptb, .out] [24, 25] := State.within_ite (State.mailEvt_within.step hx4 (by decide) (by decide)) hx4
    clear_value x5
    have hx6 : s.within x6 [.qcp, .ptb, .out] [24, 25] :=
      State.msiSince_within.step (State.putFlag_within rfl (mem_block (b := 25) (by omega) (by decide)) hx5) (by decide) (by decide)
    clear_value x6
    have hx7 : s.within x7 [.qcp, .ptb, .out] [24, 25] :=
      State.within_ite hx6 (State.put_within rfl (mem_block (b := 25) (by omega) (by decide)) hx6)
    clear_value x7
    exact State.withinE_ok (State.within_ite hx7 (State.within_ite
      (State.countSat_within rfl (mem_block (b := 25) (by omega) (by decide)) hx7) (State.mailGo_within.step hx7 (by decide) (by decide))))
  · split
    · rename_i h
      rw [Bool.and_eq_true, decide_eq_true_eq, decide_eq_true_eq] at h
      unfold mbRequest mbReply at h
      exact State.withinE_ok (State.wr_within (mem_block (b := 25) (by omega) (by decide)) (State.within_refl _ _))
    · exact State.withinE_error

theorem State.baseArmAct_within {s : State} {path : Path} {p : Port} : s.withinE (State.baseArmAct s path p) [.brl] [8] := by
  unfold State.baseArmAct
  refine State.byOwner_within (fun t1 ht1 => ?_) ?_
  · refine State.within.step State.brlArm_within ?_ (by decide) (by decide)
    assumption
  · exact State.within_refl _ _

theorem State.baseAbortAct_within {s : State} {path : Path} {p : Port} : s.withinE (State.baseAbortAct s path p) [.qcp, .brl, .ptb, .out] [8, 24, 25] := by
  unfold State.baseAbortAct
  refine State.byOwner_within (fun t1 ht1 => ?_) ?_
  · refine State.within.step State.brlBaseAbort_within ?_ (by decide) (by decide)
    assumption
  · exact State.within_refl _ _

theorem State.capArmAct_within {s : State} {path : Path} {c : ℕ} : s.withinE (State.capArmAct s path c) [.trg] [9] := by
  unfold State.capArmAct
  split
  · exact State.withinE_error
  · refine State.withinE_ok ?_
    refine State.within.step State.capArmBit_within ?_ (by decide) (by decide)
    exact State.within_refl _ _

theorem State.capOwnAct_within {s0 s : State} {K : List Comp} {B : List Nat} {path : Path} {c : Nat} {f : State → State}
    (hf : ∀ t, s0.within t K B → s0.within (f t) K B) (h : s0.within s K B) : s0.withinE (s.capOwnAct path c f) K B :=
  State.withinE_ite (State.withinE_ok (hf _ h)) State.withinE_error

theorem State.slotAct_within {s0 s : State} {K : List Comp} {B : List Nat} {path : Path} {o : Nat} {act : Nat → Option Nat → Option State}
    (hf : ∀ a b, s0.withinO (act a b) K B) : s0.withinE (s.slotAct path o act) K B := by
  unfold State.slotAct
  refine State.withinE_ite State.withinE_error ?_
  split
  · rename_i h
    exact State.withinE_ok (hf _ _ _ h)
  · exact State.withinE_error

theorem State.ticStartAct_within {s : State} {path : Path} : s.withinE (State.ticStartAct s path) [.tb] [15] := by
  unfold State.ticStartAct
  split
  · exact State.withinE_error
  · refine State.withinE_ite ?_ ?_
    · exact State.withinE_error
    · refine State.withinE_ok ?_
      refine State.within.step State.ticStart_within ?_ (by decide) (by decide)
      exact State.within_refl _ _

theorem State.ticAbort_within {s : State} : s.within (State.ticAbort s) [.qcp, .tb, .ptb, .out] [15, 24, 25] := by
  unfold State.ticAbort
  refine State.within_ite ?_ ?_
  · exact State.within_refl _ _
  · split
    · refine State.within.step State.complete_within ?_ (by decide) (by decide)
      refine State.within.step State.ticCancel_within ?_ (by decide) (by decide)
      exact State.within_refl _ _
    · refine State.within.step State.ticCancel_within ?_ (by decide) (by decide)
      exact State.within_refl _ _

theorem State.ticAbortAct_within {s : State} {path : Path} : s.withinE (State.ticAbortAct s path) [.qcp, .tb, .ptb, .out] [15, 24, 25] := by
  unfold State.ticAbortAct
  refine State.withinE_ite ?_ ?_
  · exact State.withinE_error
  · refine State.withinE_ok ?_
    refine State.within.step State.ticAbort_within ?_ (by decide) (by decide)
    exact State.within_refl _ _

theorem State.echoAct_within {s : State} {path : Path} {w : Word} : s.withinE (State.echoAct s path w) [.pair] [] := by
  unfold State.echoAct
  refine State.withinE_ite ?_ ?_
  · refine State.withinE_ok ?_
    refine State.within.step State.pairEcho_within ?_ (by decide) (by decide)
    exact State.within_refl _ _
  · exact State.withinE_error

theorem State.clearPart_within {s : State} {path : Path} {row : RegRow} {off : ℕ} {bits : Word} : s.withinE (State.clearPart s path row off bits) [.light] allBlocks := by
  unfold State.clearPart
  refine State.withinE_ite ?_ ?_
  · refine State.withinE.step State.failAct_within ?_ (by decide) (by decide)
    exact State.within_refl _ _
  · split
    · exact State.withinE_error
    · refine State.withinE_ite ?_ ?_
      · refine State.withinE_ok ?_
        refine State.within.step State.clearBits_within ?_ (by decide) (by decide)
        exact State.within_refl _ _
      · exact State.withinE_error

theorem State.setWord_within {s : State} {path : Path} {off : ℕ} {w : Word} : s.withinE (State.setWord s path off w) [.light, .grid, .pat, .rx, .dec, .qcp, .ridge, .strm, .trg, .reed, .brl, .pair, .isl, .mon, .cal, .dmc, .ptb, .power, .out, .free] allBlocks := by
  unfold State.setWord
  refine State.withinE_ite ?_ ?_
  · refine State.withinE.step State.foutAct_within ?_ (by decide) (by decide)
    exact State.within_refl _ _
  · extract_lets x1 x2 x3
    clear_value x1
    have hx2 : s.within x2 [.light, .grid, .pat, .rx, .dec, .qcp, .ridge, .strm, .trg, .reed, .brl, .pair, .isl, .mon, .cal, .dmc, .ptb, .power, .out, .free] allBlocks := by
      unfold x2
      refine State.within.step State.effects_within ?_ (by decide) (by decide)
      refine State.wr_within (blockOf_mem_all _) ?_
      exact State.within_refl _ _
    clear_value x2
    clear_value x3
    refine State.withinE_ok ?_
    refine State.within_upd (by intro c hc; cases c <;> first | rfl | exact absurd (by decide) hc) ?_
    assumption

theorem State.valuePart_within {s : State} {path : Path} {off : ℕ} {w : Word} : s.withinE (State.valuePart s path off w) [.light, .grid, .pat, .rx, .dec, .qcp, .ridge, .strm, .trg, .reed, .brl, .pair, .isl, .mon, .cal, .dmc, .ptb, .power, .out, .free] allBlocks := by
  unfold State.valuePart
  extract_lets x1 x2
  clear_value x1
  clear_value x2
  refine State.withinE_ite ?_ ?_
  · exact State.withinE_error
  · refine State.withinE_ite ?_ ?_
    · exact State.withinE_error
    · refine State.withinE_ite ?_ ?_
      · refine State.withinE_ok ?_
        exact State.within_refl _ _
      · refine State.withinE_ite ?_ ?_
        · exact State.withinE_error
        · split
          · exact State.withinE_error
          · refine State.withinE_ite ?_ ?_
            · exact State.withinE_error
            · refine State.withinE_ite ?_ ?_
              · exact State.withinE_error
              · refine State.withinE_ite ?_ ?_
                · exact State.withinE_error
                · split
                  · refine State.withinE_ite ?_ ?_
                    · refine State.withinE.step State.setWord_within ?_ (by decide) (by decide)
                      exact State.within_refl _ _
                    · exact State.withinE_error
                  · exact State.withinE_error

theorem runParts_within {s0 s : State} {K : List Comp} {B : List Nat} {l : List Part} (hf : ∀ p ∈ l, ∀ t : State, t.withinE (p t) K B)
    (h : s0.within s K B) : s0.within (runParts l s).1 K B := by
  induction l generalizing s with
  | nil => exact h
  | cons p t ih =>
    have ht := fun q hq => hf q (List.mem_cons_of_mem _ hq)
    unfold runParts
    split
    · exact h
    · split
      · rename_i u hu
        exact ih ht (h.trans (hf p (List.mem_cons_self ..) s u hu))
      · exact ih ht h

theorem State.tryWrite_within {s : State} {path : Path} {off : ℕ} {w : Word} : s.within (State.tryWrite s path off w).1 [.clk, .light, .grid, .pat, .rx, .phs, .dec, .qcp, .ptp, .net, .tb, .ridge, .strm, .trg, .reed, .brl, .pair, .isl, .mon, .cal, .dmc, .ptb, .keys, .tap, .shadows, .power, .out, .free] allBlocks := by
  have one : ∀ {p : Part} {b : Nat} {K : List Comp} {B : List Nat}, (∀ t : State, t.withinE (p t) K B) → ∀ q ∈ part w b p, ∀ t : State, t.withinE (q t) K B := by
    intro p b K B hp q hq
    unfold part at hq
    split at hq
    · rw [List.mem_singleton.1 hq]
      exact hp
    · simp at hq
  have two : ∀ {c : Prop} [Decidable c] {a b : List Part} {P : Part → Prop}, (∀ q ∈ a, P q) → (∀ q ∈ b, P q) →
      ∀ q ∈ (if c then a else b), P q := by
    intro c _ a b P ha hb
    split
    · exact ha
    · exact hb
  unfold State.tryWrite
  split
  · exact State.within_refl _ _
  · split
    · split
      · rename_i h
        exact State.within.step (State.valuePart_within _ h) (State.within_refl _ _) (by decide) (by decide)
      · exact State.within_refl _ _
    · split
      · exact State.within_refl _ _
      · split
        · exact State.within_refl _ _
        · split
          · exact State.within_refl _ _
          · refine runParts_within ?_ (State.within_refl _ _)
            unfold writeParts actionParts rstParts
            dsimp only
            repeat' first
              | refine List.forall_mem_append.2 ⟨?_, ?_⟩
              | refine two ?_ ?_
              | refine one (fun t => ?_)
              | refine List.forall_mem_singleton.2 (fun t => ?_)
              | exact fun q hq => absurd hq (List.not_mem_nil)
            · exact State.withinE.step State.clearPart_within (State.within_refl _ _) (by decide) (by decide)
            · exact State.withinE.step State.fieldAct_within (State.within_refl _ _) (by decide) (by decide)
            · exact State.withinE.step State.coldAct_within (State.within_refl _ _) (by decide) (by decide)
            · exact State.withinE.step State.warmAct_within (State.within_refl _ _) (by decide) (by decide)
            · exact State.withinE.step State.blockAct_within (State.within_refl _ _) (by decide) (by decide)
            · exact State.withinE.step State.rearmAct_within (State.within_refl _ _) (by decide) (by decide)
            · exact State.withinE.step State.baseArmAct_within (State.within_refl _ _) (by decide) (by decide)
            · exact State.withinE.step State.baseAbortAct_within (State.within_refl _ _) (by decide) (by decide)
            · exact State.withinE.step State.baseArmAct_within (State.within_refl _ _) (by decide) (by decide)
            · exact State.withinE.step State.baseAbortAct_within (State.within_refl _ _) (by decide) (by decide)
            · exact State.capOwnAct_within (fun u hu => State.within.step State.capAbort_within hu (by decide) (by decide)) (State.within_refl _ _)
            · exact State.capOwnAct_within (fun u hu => State.within.step State.capRelease_within hu (by decide) (by decide)) (State.within_refl _ _)
            · exact State.withinE.step State.capArmAct_within (State.within_refl _ _) (by decide) (by decide)
            · exact State.slotAct_within (fun _ _ => State.withinO.step State.stopBit_within (State.within_refl _ _) (by decide) (by decide))
            · exact State.slotAct_within (fun _ _ => State.withinO.step State.startBit_within (State.within_refl _ _) (by decide) (by decide))
            · exact State.withinE.step State.ticAbortAct_within (State.within_refl _ _) (by decide) (by decide)
            · exact State.withinE.step State.ticStartAct_within (State.within_refl _ _) (by decide) (by decide)
            · exact State.withinE.step State.ridgeSyncAct_within (State.within_refl _ _) (by decide) (by decide)
            · exact State.withinE.step State.echoAct_within (State.within_refl _ _) (by decide) (by decide)
            · exact State.withinE.step State.fldSwAct_within (State.within_refl _ _) (by decide) (by decide)
            · exact State.withinE.step State.fldInjAct_within (State.within_refl _ _) (by decide) (by decide)
            · exact State.withinE.step State.monSwAct_within (State.within_refl _ _) (by decide) (by decide)
            · exact State.withinE.step State.monInjAct_within (State.within_refl _ _) (by decide) (by decide)
            · exact State.withinE.step State.kickAct_within (State.within_refl _ _) (by decide) (by decide)
            · exact State.withinE.step State.permitAct_within (State.within_refl _ _) (by decide) (by decide)
            · exact State.withinE.step State.valuePart_within (State.within_refl _ _) (by decide) (by decide)

theorem State.directWrite_within {s : State} {path : Path} {off : ℕ} {w : Word} : s.within (State.directWrite s path off w).1 [.clk, .light, .grid, .pat, .rx, .phs, .dec, .qcp, .ptp, .net, .tb, .ridge, .strm, .trg, .reed, .brl, .pair, .isl, .mon, .cal, .dmc, .ptb, .keys, .tap, .shadows, .power, .out, .free] allBlocks := by
  unfold State.directWrite
  extract_lets flag
  have hflag : ∀ r : State × Option Nat, s.within r.1 [.clk, .light, .grid, .pat, .rx, .phs, .dec, .qcp, .ptp, .net, .tb, .ridge, .strm, .trg, .reed, .brl, .pair, .isl, .mon, .cal, .dmc, .ptb, .keys, .tap, .shadows, .power, .out, .free] allBlocks → s.within (flag r).1 [.clk, .light, .grid, .pat, .rx, .phs, .dec, .qcp, .ptp, .net, .tb, .ridge, .strm, .trg, .reed, .brl, .pair, .isl, .mon, .cal, .dmc, .ptb, .keys, .tap, .shadows, .power, .out, .free] allBlocks := by
    intro r hr
    unfold flag
    split
    · exact hr
    · exact State.within.step State.ignore_within hr (by decide) (by decide)
  clear_value flag
  split
  · split
    · exact hflag _ (State.within_refl _ _)
    · split
      · rename_i h
        exact State.within.step (State.mailWrite_within _ h) (State.within_refl _ _) (by decide) (by decide)
      · exact hflag _ (State.within_refl _ _)
  · exact hflag _ State.tryWrite_within

theorem State.writeIn_within {s : State} {path : Path} {off : ℕ} {w : Word} : s.within (State.writeIn s path off w) [.clk, .light, .grid, .pat, .rx, .phs, .dec, .qcp, .ptp, .net, .tb, .ridge, .strm, .trg, .reed, .brl, .pair, .isl, .mon, .cal, .dmc, .ptb, .keys, .tap, .shadows, .power, .out, .free] allBlocks := by
  unfold State.writeIn
  refine State.within_ite ?_ ?_
  · exact State.within_refl _ _
  · refine State.within.step State.directWrite_within ?_ (by decide) (by decide)
    exact State.within_refl _ _

theorem registerWriteStep_within {path : Path} {off : ℕ} {w : Word} {s : State} : s.within (registerWriteStep path off w s) [.clk, .light, .grid, .pat, .rx, .phs, .dec, .qcp, .ptp, .net, .tb, .ridge, .strm, .trg, .reed, .brl, .pair, .isl, .mon, .cal, .dmc, .ptb, .keys, .tap, .shadows, .power, .out, .free] allBlocks := by
  unfold registerWriteStep
  refine State.within.step State.writeIn_within ?_ (by decide) (by decide)
  exact State.within_refl _ _

theorem failWriteStep_within {path : Path} {s : State} : s.within (failWriteStep path s) [.light] [0, 3] := by
  unfold failWriteStep
  refine State.acted_within (by decide) ?_ ?_
  · refine State.withinE.step State.failAct_within ?_ (by decide) (by decide)
    exact State.within_refl _ _
  · exact State.within_refl _ _

theorem rearmStep_within {path : Path} {s : State} : s.within (rearmStep path s) [] [0, 3] := by
  unfold rearmStep
  refine State.acted_within (by decide) ?_ ?_
  · refine State.withinE.step State.rearmAct_within ?_ (by decide) (by decide)
    exact State.within_refl _ _
  · exact State.within_refl _ _

theorem enableWriteStep_within {path : Path} {on : Bool} {s : State} : s.within (enableWriteStep path on s) [] [0, 3] := by
  unfold enableWriteStep
  refine State.acted_within (by decide) ?_ ?_
  · refine State.byOwner_within (fun t2 ht2 => ?_) ?_
    · refine State.within.step State.setEnable_within ?_ (by decide) (by decide)
      assumption
    · exact State.within_refl _ _
  · exact State.within_refl _ _

theorem aprEnWriteStep_within {path : Path} {on : Bool} {s : State} : s.within (aprEnWriteStep path on s) [.light, .qcp, .mon, .dmc, .ptb, .out] [0, 3, 19, 21, 24, 25] := by
  unfold aprEnWriteStep
  refine State.acted_within (by decide) ?_ ?_
  · refine State.byOwner_within (fun t2 ht2 => ?_) ?_
    · refine State.within_ite ?_ ?_
      · assumption
      · refine State.within.step State.aprEnChanged_within ?_ (by decide) (by decide)
        refine State.putFlag_within rfl (mem_block (b := 3) (by decide) (by decide)) ?_
        assumption
    · exact State.within_refl _ _
  · exact State.within_refl _ _

theorem baselineArmStep_within {path : Path} {p : Port} {s : State} : s.within (baselineArmStep path p s) [.brl] [0, 8] := by
  unfold baselineArmStep
  refine State.acted_within (by decide) ?_ ?_
  · refine State.withinE.step State.baseArmAct_within ?_ (by decide) (by decide)
    exact State.within_refl _ _
  · exact State.within_refl _ _

theorem baselineAbortStep_within {path : Path} {p : Port} {s : State} : s.within (baselineAbortStep path p s) [.qcp, .brl, .ptb, .out] [0, 8, 24, 25] := by
  unfold baselineAbortStep
  refine State.acted_within (by decide) ?_ ?_
  · refine State.withinE.step State.baseAbortAct_within ?_ (by decide) (by decide)
    exact State.within_refl _ _
  · exact State.within_refl _ _

theorem armStep_within {path : Path} {c : ℕ} {s : State} : s.within (armStep path c s) [.trg] [0, 9] := by
  unfold armStep
  refine State.acted_within (by decide) ?_ ?_
  · refine State.withinE.step State.capArmAct_within ?_ (by decide) (by decide)
    exact State.within_refl _ _
  · exact State.within_refl _ _

theorem captureAbortBitStep_within {path : Path} {c : ℕ} {s : State} : s.within (captureAbortBitStep path c s) [.trg] [0, 9] := by
  unfold captureAbortBitStep
  refine State.acted_within (by decide) ?_ ?_
  · refine State.capOwnAct_within (fun t2 ht2 => ?_) ?_
    · refine State.within.step State.capAbort_within ?_ (by decide) (by decide)
      assumption
    · exact State.within_refl _ _
  · exact State.within_refl _ _

theorem releaseStep_within {path : Path} {c : ℕ} {s : State} : s.within (releaseStep path c s) [.trg] [0, 9] := by
  unfold releaseStep
  refine State.acted_within (by decide) ?_ ?_
  · refine State.capOwnAct_within (fun t2 ht2 => ?_) ?_
    · refine State.within.step State.capRelease_within ?_ (by decide) (by decide)
      assumption
    · exact State.within_refl _ _
  · exact State.within_refl _ _

theorem reedStartBitStep_within {path : Path} {o : ℕ} {s : State} : s.within (reedStartBitStep path o s) [.reed] [0] := by
  unfold reedStartBitStep
  refine State.acted_within (by decide) ?_ ?_
  · refine State.slotAct_within (fun _ _ => ?_)
    refine State.withinO.step State.startBit_within ?_ (by decide) (by decide)
    exact State.within_refl _ _
  · exact State.within_refl _ _

theorem reedStopBitStep_within {path : Path} {o : ℕ} {s : State} : s.within (reedStopBitStep path o s) [.dec, .qcp, .strm, .trg, .reed, .dmc, .ptb, .out] [0, 7, 9, 10, 12, 24, 25] := by
  unfold reedStopBitStep
  refine State.acted_within (by decide) ?_ ?_
  · refine State.slotAct_within (fun _ _ => ?_)
    refine State.withinO.step State.stopBit_within ?_ (by decide) (by decide)
    exact State.within_refl _ _
  · exact State.within_refl _ _

theorem ticStartBitStep_within {path : Path} {s : State} : s.within (ticStartBitStep path s) [.tb] [0, 15] := by
  unfold ticStartBitStep
  refine State.acted_within (by decide) ?_ ?_
  · refine State.withinE.step State.ticStartAct_within ?_ (by decide) (by decide)
    exact State.within_refl _ _
  · exact State.within_refl _ _

theorem ticAbortBitStep_within {path : Path} {s : State} : s.within (ticAbortBitStep path s) [.qcp, .tb, .ptb, .out] [0, 15, 24, 25] := by
  unfold ticAbortBitStep
  refine State.acted_within (by decide) ?_ ?_
  · refine State.withinE.step State.ticAbortAct_within ?_ (by decide) (by decide)
    exact State.within_refl _ _
  · exact State.within_refl _ _

theorem pairEchoWriteStep_within {path : Path} {hseq : BitVec 32} {s : State} : s.within (pairEchoWriteStep path hseq s) [.pair] [0] := by
  unfold pairEchoWriteStep
  refine State.acted_within (by decide) ?_ ?_
  · refine State.withinE.step State.echoAct_within ?_ (by decide) (by decide)
    exact State.within_refl _ _
  · exact State.within_refl _ _

theorem State.mailCtrl_within {s : State} {path : Path} {bits : ℕ} {len : ℕ} : s.within (State.mailCtrl s path bits len) [.clk, .light, .grid, .pat, .rx, .phs, .dec, .qcp, .ptp, .net, .tb, .ridge, .strm, .trg, .reed, .brl, .pair, .isl, .mon, .cal, .dmc, .ptb, .keys, .tap, .shadows, .power, .out, .free] allBlocks := by
  unfold State.mailCtrl
  split
  · exact State.within_refl _ _
  · refine State.within.step State.writeIn_within ?_ (by decide) (by decide)
    exact State.within_refl _ _

theorem mailboxGoStep_within {path : Path} {len : ℕ} {s : State} : s.within (mailboxGoStep path len s) [.clk, .light, .grid, .pat, .rx, .phs, .dec, .qcp, .ptp, .net, .tb, .ridge, .strm, .trg, .reed, .brl, .pair, .isl, .mon, .cal, .dmc, .ptb, .keys, .tap, .shadows, .power, .out, .free] allBlocks := by
  unfold mailboxGoStep
  refine State.within.step State.mailCtrl_within ?_ (by decide) (by decide)
  exact State.within_refl _ _

theorem mailboxDoneClearStep_within {path : Path} {s : State} : s.within (mailboxDoneClearStep path s) [.clk, .light, .grid, .pat, .rx, .phs, .dec, .qcp, .ptp, .net, .tb, .ridge, .strm, .trg, .reed, .brl, .pair, .isl, .mon, .cal, .dmc, .ptb, .keys, .tap, .shadows, .power, .out, .free] allBlocks := by
  unfold mailboxDoneClearStep
  refine State.within.step State.mailCtrl_within ?_ (by decide) (by decide)
  exact State.within_refl _ _

theorem mailboxEvtClearStep_within {path : Path} {s : State} : s.within (mailboxEvtClearStep path s) [.clk, .light, .grid, .pat, .rx, .phs, .dec, .qcp, .ptp, .net, .tb, .ridge, .strm, .trg, .reed, .brl, .pair, .isl, .mon, .cal, .dmc, .ptb, .keys, .tap, .shadows, .power, .out, .free] allBlocks := by
  unfold mailboxEvtClearStep
  refine State.within.step State.mailCtrl_within ?_ (by decide) (by decide)
  exact State.within_refl _ _

theorem spiReadCycleStep_within {cmd : Byte} {off : ℕ} {count : ℕ} {s : State} : s.within (spiReadCycleStep cmd off count s) [.ptb, .shadows, .out, .free] [0, 24] := by
  unfold spiReadCycleStep
  refine State.within_ite ?_ ?_
  · exact State.within_refl _ _
  · refine State.within_ite ?_ ?_
    · refine State.acted_within (by decide) ?_ ?_
      · exact State.withinE_error
      · exact State.within_refl _ _
    · refine State.within.step State.directRead_within ?_ (by decide) (by decide)
      exact State.within_refl _ _

theorem State.spiWords_within {s : State} {a1 : ℕ} {a2 : List Word} : s.within (State.spiWords s a1 a2) [.clk, .light, .grid, .pat, .rx, .phs, .dec, .qcp, .ptp, .net, .tb, .ridge, .strm, .trg, .reed, .brl, .pair, .isl, .mon, .cal, .dmc, .ptb, .keys, .tap, .shadows, .power, .out, .free] allBlocks := by
  induction a2 generalizing s a1 with
  | nil => exact State.within_refl _ _
  | cons w t ih => exact State.within.trans State.writeIn_within ih

theorem spiWriteCycleStep_within {cmd : Byte} {off : ℕ} {data : List Word} {s : State} : s.within (spiWriteCycleStep cmd off data s) [.clk, .light, .grid, .pat, .rx, .phs, .dec, .qcp, .ptp, .net, .tb, .ridge, .strm, .trg, .reed, .brl, .pair, .isl, .mon, .cal, .dmc, .ptb, .keys, .tap, .shadows, .power, .out, .free] allBlocks := by
  unfold spiWriteCycleStep
  refine State.within_ite ?_ ?_
  · exact State.within_refl _ _
  · refine State.within_ite ?_ ?_
    · refine State.acted_within (by decide) ?_ ?_
      · exact State.withinE_error
      · exact State.within_refl _ _
    · refine State.within.step State.spiWords_within ?_ (by decide) (by decide)
      exact State.within_refl _ _

theorem execFailWrite_within {path : Path} {s : State} : s.withinC (execFailWrite path s) [.light] [0, 3] := by
  unfold execFailWrite
  refine State.withinC_next ?_
  refine State.within.step failWriteStep_within ?_ (by decide) (by decide)
  exact State.within_refl _ _

theorem execRearm_within {path : Path} {s : State} : s.withinC (execRearm path s) [] [0, 3] := by
  unfold execRearm
  refine State.withinC_next ?_
  refine State.within.step rearmStep_within ?_ (by decide) (by decide)
  exact State.within_refl _ _

theorem execEnableWrite_within {path : Path} {on : Bool} {s : State} : s.withinC (execEnableWrite path on s) [] [0, 3] := by
  unfold execEnableWrite
  refine State.withinC_next ?_
  refine State.within.step enableWriteStep_within ?_ (by decide) (by decide)
  exact State.within_refl _ _

theorem execAprEnWrite_within {path : Path} {on : Bool} {s : State} : s.withinC (execAprEnWrite path on s) [.light, .qcp, .mon, .dmc, .ptb, .out] [0, 3, 19, 21, 24, 25] := by
  unfold execAprEnWrite
  refine State.withinC_next ?_
  refine State.within.step aprEnWriteStep_within ?_ (by decide) (by decide)
  exact State.within_refl _ _

theorem execBaselineArm_within {path : Path} {port : Port} {s : State} : s.withinC (execBaselineArm path port s) [.brl] [0, 8] := by
  unfold execBaselineArm
  refine State.withinC_next ?_
  refine State.within.step baselineArmStep_within ?_ (by decide) (by decide)
  exact State.within_refl _ _

theorem execBaselineAbort_within {path : Path} {port : Port} {s : State} : s.withinC (execBaselineAbort path port s) [.qcp, .brl, .ptb, .out] [0, 8, 24, 25] := by
  unfold execBaselineAbort
  refine State.withinC_next ?_
  refine State.within.step baselineAbortStep_within ?_ (by decide) (by decide)
  exact State.within_refl _ _

theorem execArm_within {path : Path} {unit : Fin 16} {s : State} : s.withinC (execArm path unit s) [.trg] [0, 9] := by
  unfold execArm
  refine State.withinC_next ?_
  refine State.within.step armStep_within ?_ (by decide) (by decide)
  exact State.within_refl _ _

theorem execCaptureAbortBit_within {path : Path} {unit : Fin 16} {s : State} : s.withinC (execCaptureAbortBit path unit s) [.trg] [0, 9] := by
  unfold execCaptureAbortBit
  refine State.withinC_next ?_
  refine State.within.step captureAbortBitStep_within ?_ (by decide) (by decide)
  exact State.within_refl _ _

theorem execRelease_within {path : Path} {unit : Fin 16} {s : State} : s.withinC (execRelease path unit s) [.trg] [0, 9] := by
  unfold execRelease
  refine State.withinC_next ?_
  refine State.within.step releaseStep_within ?_ (by decide) (by decide)
  exact State.within_refl _ _

theorem execReedStartBit_within {path : Path} {slot : Fin 16} {s : State} : s.withinC (execReedStartBit path slot s) [.reed] [0] := by
  unfold execReedStartBit
  refine State.withinC_next ?_
  refine State.within.step reedStartBitStep_within ?_ (by decide) (by decide)
  exact State.within_refl _ _

theorem execReedStopBit_within {path : Path} {slot : Fin 16} {s : State} : s.withinC (execReedStopBit path slot s) [.dec, .qcp, .strm, .trg, .reed, .dmc, .ptb, .out] [0, 7, 9, 10, 12, 24, 25] := by
  unfold execReedStopBit
  refine State.withinC_next ?_
  refine State.within.step reedStopBitStep_within ?_ (by decide) (by decide)
  exact State.within_refl _ _

theorem execMailboxGo_within {path : Path} {len : BitVec 14} {s : State} : s.withinC (execMailboxGo path len s) [.clk, .light, .grid, .pat, .rx, .phs, .dec, .qcp, .ptp, .net, .tb, .ridge, .strm, .trg, .reed, .brl, .pair, .isl, .mon, .cal, .dmc, .ptb, .keys, .tap, .shadows, .power, .out, .free] allBlocks := by
  unfold execMailboxGo
  refine State.withinC_next ?_
  refine State.within.step mailboxGoStep_within ?_ (by decide) (by decide)
  exact State.within_refl _ _

theorem execMailboxDoneClear_within {path : Path} {s : State} : s.withinC (execMailboxDoneClear path s) [.clk, .light, .grid, .pat, .rx, .phs, .dec, .qcp, .ptp, .net, .tb, .ridge, .strm, .trg, .reed, .brl, .pair, .isl, .mon, .cal, .dmc, .ptb, .keys, .tap, .shadows, .power, .out, .free] allBlocks := by
  unfold execMailboxDoneClear
  refine State.withinC_next ?_
  refine State.within.step mailboxDoneClearStep_within ?_ (by decide) (by decide)
  exact State.within_refl _ _

theorem execMailboxEvtClear_within {path : Path} {s : State} : s.withinC (execMailboxEvtClear path s) [.clk, .light, .grid, .pat, .rx, .phs, .dec, .qcp, .ptp, .net, .tb, .ridge, .strm, .trg, .reed, .brl, .pair, .isl, .mon, .cal, .dmc, .ptb, .keys, .tap, .shadows, .power, .out, .free] allBlocks := by
  unfold execMailboxEvtClear
  refine State.withinC_next ?_
  refine State.within.step mailboxEvtClearStep_within ?_ (by decide) (by decide)
  exact State.within_refl _ _

theorem execRegisterWrite_within {path : Path} {off : BitVec 24} {value : Word} {s : State} : s.withinC (execRegisterWrite path off value s) [.clk, .light, .grid, .pat, .rx, .phs, .dec, .qcp, .ptp, .net, .tb, .ridge, .strm, .trg, .reed, .brl, .pair, .isl, .mon, .cal, .dmc, .ptb, .keys, .tap, .shadows, .power, .out, .free] allBlocks := by
  unfold execRegisterWrite
  refine State.withinC_next ?_
  refine State.within.step registerWriteStep_within ?_ (by decide) (by decide)
  exact State.within_refl _ _

theorem execSpiReadCycle_within {cmd : Byte} {off : BitVec 24} {count : ℕ} {s : State} : s.withinC (execSpiReadCycle cmd off count s) [.ptb, .shadows, .out, .free] [0, 24] := by
  unfold execSpiReadCycle
  refine State.withinC_next ?_
  refine State.within.step spiReadCycleStep_within ?_ (by decide) (by decide)
  exact State.within_refl _ _

theorem execSpiWriteCycle_within {cmd : Byte} {off : BitVec 24} {data : List Word} {s : State} : s.withinC (execSpiWriteCycle cmd off data s) [.clk, .light, .grid, .pat, .rx, .phs, .dec, .qcp, .ptp, .net, .tb, .ridge, .strm, .trg, .reed, .brl, .pair, .isl, .mon, .cal, .dmc, .ptb, .keys, .tap, .shadows, .power, .out, .free] allBlocks := by
  unfold execSpiWriteCycle
  refine State.withinC_next ?_
  refine State.within.step spiWriteCycleStep_within ?_ (by decide) (by decide)
  exact State.within_refl _ _

theorem execTicStartBit_within {path : Path} {s : State} : s.withinC (execTicStartBit path s) [.tb] [0, 15] := by
  unfold execTicStartBit
  refine State.withinC_next ?_
  refine State.within.step ticStartBitStep_within ?_ (by decide) (by decide)
  exact State.within_refl _ _

theorem execTicAbortBit_within {path : Path} {s : State} : s.withinC (execTicAbortBit path s) [.qcp, .tb, .ptb, .out] [0, 15, 24, 25] := by
  unfold execTicAbortBit
  refine State.withinC_next ?_
  refine State.within.step ticAbortBitStep_within ?_ (by decide) (by decide)
  exact State.within_refl _ _

theorem execPairEchoWrite_within {path : Path} {hseq : BitVec 32} {s : State} : s.withinC (execPairEchoWrite path hseq s) [.pair] [0] := by
  unfold execPairEchoWrite
  refine State.withinC_next ?_
  refine State.within.step pairEchoWriteStep_within ?_ (by decide) (by decide)
  exact State.within_refl _ _

theorem pingBody_within {q : ReqHdr} {s : State} : s.within (pingBody q s) [.qcp, .ptb, .out] [24, 25] := by
  unfold pingBody
  refine State.within.step State.reply_within ?_ (by decide) (by decide)
  exact State.within_refl _ _

theorem infoBody_within {q : ReqHdr} {s : State} : s.within (infoBody q s) [.qcp, .ptb, .out] [24, 25] := by
  unfold infoBody
  refine State.within.step State.reply_within ?_ (by decide) (by decide)
  exact State.within_refl _ _

theorem readBody_within {q : ReqHdr} {addr : ℕ} {count : ℕ} {s : State} : s.within (readBody q addr count s) [.qcp, .ptb, .shadows, .out, .free] [0, 24, 25] := by
  unfold readBody
  refine State.checks_within (by decide) (by decide) (fun t1 ht1 => ?_) ?_
  · extract_lets x2
    have hx2 : s.within x2.2 [.qcp, .ptb, .shadows, .out, .free] [0, 24, 25] := by
      unfold x2
      refine State.within.step State.readWords_within ?_ (by decide) (by decide)
      assumption
    refine State.within.step State.reply_within ?_ (by decide) (by decide)
    assumption
  · exact State.within_refl _ _

theorem State.writeWords_within {s : State} {path : Path} {a2 : ℕ} {a3 : List Word} : s.within (State.writeWords s path a2 a3).1 [.clk, .light, .grid, .pat, .rx, .phs, .dec, .qcp, .ptp, .net, .tb, .ridge, .strm, .trg, .reed, .brl, .pair, .isl, .mon, .cal, .dmc, .ptb, .keys, .tap, .shadows, .power, .out, .free] allBlocks := by
  induction a3 generalizing s a2 with
  | nil => exact State.within_refl _ _
  | cons w t ih =>
    unfold State.writeWords
    split
    · exact State.within_refl _ _
    · exact State.within.trans State.directWrite_within ih

theorem writeBody_within {q : ReqHdr} {addr : ℕ} {data : List Word} {s : State} : s.within (writeBody q addr data s) [.clk, .light, .grid, .pat, .rx, .phs, .dec, .qcp, .ptp, .net, .tb, .ridge, .strm, .trg, .reed, .brl, .pair, .isl, .mon, .cal, .dmc, .ptb, .keys, .tap, .shadows, .power, .out, .free] allBlocks := by
  unfold writeBody
  refine State.checks_within (by decide) (by decide) (fun t1 ht1 => ?_) ?_
  · extract_lets x2
    have hx2 : s.within x2.1 [.clk, .light, .grid, .pat, .rx, .phs, .dec, .qcp, .ptp, .net, .tb, .ridge, .strm, .trg, .reed, .brl, .pair, .isl, .mon, .cal, .dmc, .ptb, .keys, .tap, .shadows, .power, .out, .free] allBlocks := by
      unfold x2
      refine State.within.step State.writeWords_within ?_ (by decide) (by decide)
      assumption
    refine State.within_ite ?_ ?_
    · assumption
    · refine State.within.step State.reply_within ?_ (by decide) (by decide)
      assumption
  · exact State.within_refl _ _

theorem State.cancelLong_within {s : State} {r : ℕ} {l : LongOp} : s.within (State.cancelLong s r l) [.light, .grid, .dec, .qcp, .tb, .strm, .trg, .reed, .brl, .pair, .mon, .cal, .dmc, .ptb, .power, .out] [0, 3, 7, 8, 12, 15, 16, 17, 19, 20, 21, 24, 25, 48, 64] := by
  unfold State.cancelLong
  extract_lets x1 x2
  clear_value x1
  clear_value x2
  refine State.within_ite ?_ ?_
  · refine State.within.step State.cancelSet_within ?_ (by decide) (by decide)
    exact State.within_refl _ _
  · refine State.within_ite ?_ ?_
    · refine State.within.step State.saveAbort_within ?_ (by decide) (by decide)
      exact State.within_refl _ _
    · refine State.within_ite ?_ ?_
      · refine State.within.step State.complete_within ?_ (by decide) (by decide)
        refine State.within.step State.reedLoadAbort_within ?_ (by decide) (by decide)
        exact State.within_refl _ _
      · refine State.within_ite ?_ ?_
        · refine State.within.step State.brlBaseAbort_within ?_ (by decide) (by decide)
          exact State.within_refl _ _
        · refine State.within_ite ?_ ?_
          · refine State.within.step State.complete_within ?_ (by decide) (by decide)
            refine State.within.step State.calAbort_within ?_ (by decide) (by decide)
            exact State.within_refl _ _
          · refine State.within_ite ?_ ?_
            · refine State.within.step State.testAbort_within ?_ (by decide) (by decide)
              exact State.within_refl _ _
            · refine State.within_ite ?_ ?_
              · refine State.within.step State.ticAbort_within ?_ (by decide) (by decide)
                exact State.within_refl _ _
              · refine State.within_ite ?_ ?_
                · refine State.within.step State.complete_within ?_ (by decide) (by decide)
                  refine State.within.step State.dropSwitch_within ?_ (by decide) (by decide)
                  exact State.within_refl _ _
                · refine State.within_ite ?_ ?_
                  · refine State.within.step State.complete_within ?_ (by decide) (by decide)
                    refine State.within_upd (by intro c hc; cases c <;> first | rfl | exact absurd (by decide) hc) ?_
                    exact State.within_refl _ _
                  · refine State.within.step State.complete_within ?_ (by decide) (by decide)
                    exact State.within_refl _ _

theorem abortBody_within {q : ReqHdr} {seq : BitVec 32} {s : State} : s.within (abortBody q seq s) [.light, .grid, .dec, .qcp, .tb, .strm, .trg, .reed, .brl, .pair, .mon, .cal, .dmc, .ptb, .power, .out] [0, 3, 7, 8, 12, 15, 16, 17, 19, 20, 21, 24, 25, 48, 64] := by
  unfold abortBody
  split
  · refine State.within.step State.reply_within ?_ (by decide) (by decide)
    exact State.within_refl _ _
  · refine State.within_ite ?_ ?_
    · refine State.within.step State.reply_within ?_ (by decide) (by decide)
      exact State.within_refl _ _
    · refine State.within.step State.cancelLong_within ?_ (by decide) (by decide)
      refine State.within.step State.reply_within ?_ (by decide) (by decide)
      exact State.within_refl _ _

theorem eventLogBody_within {q : ReqHdr} {seq : BitVec 32} {count : ℕ} {s : State} : s.within (eventLogBody q seq count s) [.qcp, .ptb, .out] [24, 25] := by
  unfold eventLogBody
  extract_lets x1 x2
  clear_value x1
  clear_value x2
  refine State.checks_within (by decide) (by decide) (fun t3 ht3 => ?_) ?_
  · refine State.within.step State.reply_within ?_ (by decide) (by decide)
    assumption
  · exact State.within_refl _ _

theorem qcpCountersBody_within {q : ReqHdr} {s : State} : s.within (qcpCountersBody q s) [.qcp, .ptb, .out] [24, 25] := by
  unfold qcpCountersBody
  refine State.within.step State.reply_within ?_ (by decide) (by decide)
  exact State.within_refl _ _

theorem execPing_within {q : ReqHdr} {s : State} : s.withinC (execPing q s) [.qcp, .ptb, .out] [24, 25] := by
  unfold execPing
  refine State.withinC_next ?_
  refine State.request_within (by decide) (by decide) (fun t1 ht1 => ?_) ?_
  · refine State.within.step pingBody_within ?_ (by decide) (by decide)
    assumption
  · exact State.within_refl _ _

theorem execInfo_within {q : ReqHdr} {s : State} : s.withinC (execInfo q s) [.qcp, .ptb, .out] [24, 25] := by
  unfold execInfo
  refine State.withinC_next ?_
  refine State.request_within (by decide) (by decide) (fun t1 ht1 => ?_) ?_
  · refine State.within.step infoBody_within ?_ (by decide) (by decide)
    assumption
  · exact State.within_refl _ _

theorem execRead_within {q : ReqHdr} {addr : BitVec 24} {count : ℕ} {s : State} : s.withinC (execRead q addr count s) [.qcp, .ptb, .shadows, .out, .free] [0, 24, 25] := by
  unfold execRead
  refine State.withinC_next ?_
  refine State.request_within (by decide) (by decide) (fun t1 ht1 => ?_) ?_
  · refine State.within.step readBody_within ?_ (by decide) (by decide)
    assumption
  · exact State.within_refl _ _

theorem execWrite_within {q : ReqHdr} {addr : BitVec 24} {data : List Word} {s : State} : s.withinC (execWrite q addr data s) [.clk, .light, .grid, .pat, .rx, .phs, .dec, .qcp, .ptp, .net, .tb, .ridge, .strm, .trg, .reed, .brl, .pair, .isl, .mon, .cal, .dmc, .ptb, .keys, .tap, .shadows, .power, .out, .free] allBlocks := by
  unfold execWrite
  refine State.withinC_next ?_
  refine State.request_within (by decide) (by decide) (fun t1 ht1 => ?_) ?_
  · refine State.within.step writeBody_within ?_ (by decide) (by decide)
    assumption
  · exact State.within_refl _ _

theorem execAbort_within {q : ReqHdr} {seq : BitVec 32} {s : State} : s.withinC (execAbort q seq s) [.light, .grid, .dec, .qcp, .tb, .strm, .trg, .reed, .brl, .pair, .mon, .cal, .dmc, .ptb, .power, .out] [0, 3, 7, 8, 12, 15, 16, 17, 19, 20, 21, 24, 25, 48, 64] := by
  unfold execAbort
  refine State.withinC_next ?_
  refine State.request_within (by decide) (by decide) (fun t1 ht1 => ?_) ?_
  · refine State.within.step abortBody_within ?_ (by decide) (by decide)
    assumption
  · exact State.within_refl _ _

theorem execEventLog_within {q : ReqHdr} {seq : BitVec 32} {count : ℕ} {s : State} : s.withinC (execEventLog q seq count s) [.qcp, .ptb, .out] [24, 25] := by
  unfold execEventLog
  refine State.withinC_next ?_
  refine State.request_within (by decide) (by decide) (fun t1 ht1 => ?_) ?_
  · refine State.within.step eventLogBody_within ?_ (by decide) (by decide)
    assumption
  · exact State.within_refl _ _

theorem execQcpCounters_within {q : ReqHdr} {s : State} : s.withinC (execQcpCounters q s) [.qcp, .ptb, .out] [24, 25] := by
  unfold execQcpCounters
  refine State.withinC_next ?_
  refine State.request_within (by decide) (by decide) (fun t1 ht1 => ?_) ?_
  · refine State.within.step qcpCountersBody_within ?_ (by decide) (by decide)
    assumption
  · exact State.within_refl _ _

theorem State.fragment_within {s : State} {src : UdpPeer} {e : ℕ × Bool × List Byte} : s.within (State.fragment s src e) [.qcp, .net, .ptb, .out] [24, 25] := by
  unfold State.fragment
  extract_lets x1 x2 x3 x4 x5 x6 x7
  clear_value x2
  clear_value x3
  clear_value x4
  clear_value x5
  have hx6 : s.within x6 [.qcp, .net, .ptb, .out] [24, 25] := by
    unfold x6
    refine State.within_upd (by intro c hc; cases c <;> first | rfl | exact absurd (by decide) hc) ?_
    exact State.within_refl _ _
  clear_value x6
  clear_value x7
  refine State.within_ite ?_ ?_
  · assumption
  · split
    · refine State.within.step qcpPacketStep_within ?_ (by decide) (by decide)
      assumption
    · refine State.within_upd (by intro c hc; cases c <;> first | rfl | exact absurd (by decide) hc) ?_
      assumption

theorem State.frameDoes_within {s : State} {x : Fin 2} {f : EthFrame} : s.within (State.frameDoes s x f) [.qcp, .net, .ptb, .out] [13, 24, 25] := by
  unfold State.frameDoes
  split
  · exact State.within_refl _ _
  · refine State.within_ite ?_ ?_
    · refine State.within.step State.emit_within ?_ (by decide) (by decide)
      exact State.within_refl _ _
    · exact State.within_refl _ _
  · refine State.within_ite ?_ ?_
    · refine State.within.step State.emit_within ?_ (by decide) (by decide)
      exact State.within_refl _ _
    · exact State.within_refl _ _
  · refine State.within.step State.learnHop_within ?_ (by decide) (by decide)
    exact State.within_refl _ _
  · refine State.within_ite ?_ ?_
    · refine State.within.step State.emit_within ?_ (by decide) (by decide)
      exact State.within_refl _ _
    · exact State.within_refl _ _
  · refine State.within_ite ?_ ?_
    · exact State.within_refl _ _
    · refine State.count_within rfl (mem_block (b := 13) (by omega) (by decide)) ?_
      exact State.within_refl _ _
  · exact State.within_refl _ _
  · refine State.within.step State.fragment_within ?_ (by decide) (by decide)
    exact State.within_refl _ _
  · exact State.within_refl _ _

theorem ethFrameRxStep_within {x : Fin 2} {f : EthFrame} {s : State} : s.within (ethFrameRxStep x f s) [.qcp, .net, .ptb, .out] [13, 24, 25] := by
  unfold ethFrameRxStep
  refine State.whenDo_within ?_ ?_
  · refine State.within_ite ?_ ?_
    · refine State.count_within rfl (mem_block (b := 13) (by omega) (by decide)) ?_
      refine State.count_within rfl (mem_block (b := 13) (by omega) (by decide)) ?_
      exact State.within_refl _ _
    · refine State.within_ite ?_ ?_
      · refine State.count_within rfl (mem_block (b := 13) (by omega) (by decide)) ?_
        exact State.within_refl _ _
      · refine State.within_ite ?_ ?_
        · refine State.count_within rfl (mem_block (b := 13) (by omega) (by decide)) ?_
          exact State.within_refl _ _
        · refine State.within_ite ?_ ?_
          · refine State.within.step State.frameDoes_within ?_ (by decide) (by decide)
            exact State.within_refl _ _
          · refine State.count_within rfl (mem_block (b := 13) (by omega) (by decide)) ?_
            exact State.within_refl _ _
  · exact State.within_refl _ _

theorem ppsInEdgeStep_within {ts : Ts} {s : State} : s.within (ppsInEdgeStep ts s) [.clk, .cyc, .tb] [2] := by
  unfold ppsInEdgeStep
  refine State.whenDo_within ?_ ?_
  · extract_lets x2
    have hx2 : s.within x2.1 [.clk, .cyc, .tb] [2] := by
      unfold x2
      refine State.within.step State.stampEdge_within ?_ (by decide) (by decide)
      refine State.within.step State.at_within ?_ (by decide) (by decide)
      exact State.within_refl _ _
    split
    · refine State.within.step State.ppsWindow_within ?_ (by decide) (by decide)
      assumption
    · assumption
  · exact State.within_refl _ _

theorem evtEdgeStep_within {input : ℕ} {rising : Bool} {ts : Ts} {s : State} : s.within (evtEdgeStep input rising ts s) [.clk, .cyc, .tb, .ridge, .trg, .isl, .mon, .dmc, .ptb, .out, .free] [0, 2, 9, 19, 24] := by
  unfold evtEdgeStep
  refine State.whenDo_within ?_ ?_
  · extract_lets x2
    have hx2 : s.within x2.1 [.clk, .cyc, .tb, .ridge, .trg, .isl, .mon, .dmc, .ptb, .out, .free] [0, 2, 9, 19, 24] := by
      unfold x2
      refine State.within.step State.stampEdge_within ?_ (by decide) (by decide)
      refine State.within.step State.at_within ?_ (by decide) (by decide)
      exact State.within_refl _ _
    split
    · refine State.within.step State.monTrig_within ?_ (by decide) (by decide)
      refine State.within.step State.fieldEvt_within ?_ (by decide) (by decide)
      refine State.within.step State.fireUnits_within ?_ (by decide) (by decide)
      assumption
    · assumption
  · exact State.within_refl _ _

theorem execEthFrameRx_within {eth : Fin 2} {frame : EthFrame} {s : State} : s.withinC (execEthFrameRx eth frame s) [.qcp, .net, .ptb, .out] [13, 24, 25] := by
  unfold execEthFrameRx
  refine State.withinC_next ?_
  refine State.within.step ethFrameRxStep_within ?_ (by decide) (by decide)
  exact State.within_refl _ _

theorem execPpsInEdge_within {ts : Ts} {s : State} : s.withinC (execPpsInEdge ts s) [.clk, .cyc, .tb] [2] := by
  unfold execPpsInEdge
  refine State.withinC_next ?_
  refine State.within.step ppsInEdgeStep_within ?_ (by decide) (by decide)
  exact State.within_refl _ _

theorem execEvtEdge_within {input : Fin 4} {rising : Bool} {ts : Ts} {s : State} : s.withinC (execEvtEdge input rising ts s) [.clk, .cyc, .tb, .ridge, .trg, .isl, .mon, .dmc, .ptb, .out, .free] [0, 2, 9, 19, 24] := by
  unfold execEvtEdge
  refine State.withinC_next ?_
  refine State.within.step evtEdgeStep_within ?_ (by decide) (by decide)
  exact State.within_refl _ _

theorem State.resetCycle_within {s : State} : s.within (State.resetCycle s) [.clk, .cyc, .ptp] [14] := by
  unfold State.resetCycle
  refine State.within_ite ?_ ?_
  · refine ⟨fun c hc => ?_, fun _ _ => rfl, rfl, id, List.prefix_refl _, Nat.le_succ _, le_refl _⟩
    cases c <;> first | rfl | exact absurd (by decide) hc
  · refine State.within.step State.clockCycle_within ?_ (by decide) (by decide)
    exact State.within_refl _ _

theorem State.testStart_within {s : State} : s.within (State.testStart s) [.light, .grid, .dec, .qcp, .strm, .isl, .cal, .dmc, .ptb, .power, .out] [0, 3, 7, 12, 16, 18, 20, 21, 22, 24, 25] := by
  unfold State.testStart
  refine State.within_ite ?_ ?_
  · refine State.within.step State.startTest_within ?_ (by decide) (by decide)
    exact State.within_refl _ _
  · exact State.within_refl _ _

theorem State.tick_within {s : State} : s.within (State.tick s) [.clk, .cyc, .light, .grid, .pat, .rx, .phs, .dec, .qcp, .ptp, .net, .tb, .ridge, .strm, .trg, .reed, .brl, .pair, .isl, .mon, .cal, .dmc, .ptb, .tap, .shadows, .power, .out] allBlocks := by
  unfold State.tick
  extract_lets x1
  have hx1 : s.within x1 [.clk, .cyc, .light, .grid, .pat, .rx, .phs, .dec, .qcp, .ptp, .net, .tb, .ridge, .strm, .trg, .reed, .brl, .pair, .isl, .mon, .cal, .dmc, .ptb, .tap, .shadows, .power, .out] allBlocks := by
    unfold x1
    refine State.within.step State.resetCycle_within ?_ (by decide) (by decide)
    exact State.within_refl _ _
  clear_value x1
  refine State.within_ite ?_ ?_
  · assumption
  · refine State.within.step State.rstDue_within ?_ (by decide) (by decide)
    refine State.within.step State.testStart_within ?_ (by decide) (by decide)
    refine State.within.step State.calApplyAll_within ?_ (by decide) (by decide)
    refine State.within.step State.calRestoreDue_within ?_ (by decide) (by decide)
    refine State.within.step State.updMonRef_within ?_ (by decide) (by decide)
    refine State.within.step State.dramCycle_within ?_ (by decide) (by decide)
    assumption

end Sys2Proof.Machine
end

