-- ==== Sys2Proof/Laws/WithinStep.lean ====
section
/-! SUPPORT. What every command and every step may change: the register space keeps its canonical form, the queue loses its
front alone, and what left the block is never taken back. -/

namespace Sys2Proof.Machine

/-- All components. -/
def Comp.all : List Comp := [.clk, .cyc, .light, .grid, .pat, .rx, .phs, .dec, .qcp, .ptp, .net, .tb, .ridge, .strm, .trg, .reed, .brl, .pair,
  .isl, .mon, .cal, .dmc, .ptb, .keys, .tap, .shadows, .power, .out, .free]

theorem Comp.mem_all (c : Comp) : c ∈ Comp.all := by cases c <;> decide

theorem allBlocks_of {l : List Nat} (h : ∀ a ∈ l, a < 0x41) : l ⊆ allBlocks := fun a ha => List.mem_range.2 (h a ha)

/-- Every command has a next state. -/
theorem exec_next (i : Instr) (s : State) : ∃ t, exec i s = .next t := by
  cases i <;> exact ⟨_, rfl⟩

/-- What a command may change, whichever it is. -/
theorem exec_withinC (i : Instr) (s : State) : s.withinC (exec i s) Comp.all allBlocks := by
  have up : ∀ {r : Host.Outcome State Fault Refusal} {K : List Comp} {B : List Nat}, s.withinC r K B → B ⊆ allBlocks → s.withinC r Comp.all allBlocks :=
    fun h hb t ht => (h t ht).mono (fun c _ => Comp.mem_all c) hb
  cases i
  · exact up execSweepStart_within (allBlocks_of (by decide))
  · exact up execShotLaunch_within (allBlocks_of (by decide))
  · exact up execStagedSetHandover_within (allBlocks_of (by decide))
  · exact up execEpochBoundary_within (List.Subset.refl _)
  · exact up execPairCycleBoundary_within (allBlocks_of (by decide))
  · exact up execDiagnosticPulse_within (allBlocks_of (by decide))
  · exact up execCompUpdate_within (allBlocks_of (by decide))
  · exact up execDerateUpdate_within (allBlocks_of (by decide))
  · exact up execPowerLoopStep_within (allBlocks_of (by decide))
  · exact up execPowerShortfall_within (allBlocks_of (by decide))
  · exact up execPumpOpenDetect_within (allBlocks_of (by decide))
  · exact up execLockLoss_within (allBlocks_of (by decide))
  · exact up execLaserLocked_within (allBlocks_of (by decide))
  · exact up execRelockFail_within (allBlocks_of (by decide))
  · exact up execFailWrite_within (allBlocks_of (by decide))
  · exact up execRprecFault_within (allBlocks_of (by decide))
  · exact up execIntlkNFall_within (allBlocks_of (by decide))
  · exact up execThermalTrip_within (allBlocks_of (by decide))
  · exact up execBarrierSilence_within (allBlocks_of (by decide))
  · exact up execRearm_within (allBlocks_of (by decide))
  · exact up execEnableWrite_within (allBlocks_of (by decide))
  · exact up execAprBreakDetect_within (allBlocks_of (by decide))
  · exact up execRestoreProbe_within (allBlocks_of (by decide))
  · exact up execAprEnWrite_within (allBlocks_of (by decide))
  · exact up execSweepSyncEdge_within (allBlocks_of (by decide))
  · exact up execAgcIntervalEnd_within (allBlocks_of (by decide))
  · exact up execRefVisLow_within (allBlocks_of (by decide))
  · exact up execPhaseChainShot_within (allBlocks_of (by decide))
  · exact up (execSignatureVerdict_within (a0 := ()) (a1 := ()) (a2 := ()) (a3 := ())) (allBlocks_of (by decide))
  · exact up execDecimationOutput_within (allBlocks_of (by decide))
  · exact up execHistoryWriteMiss_within (allBlocks_of (by decide))
  · exact up execBrlShotContribution_within (allBlocks_of (by decide))
  · exact up execBrlFold_within (allBlocks_of (by decide))
  · exact up execPeriodClose_within (allBlocks_of (by decide))
  · exact up execBrlResultReady_within (allBlocks_of (by decide))
  · exact up execBaselineArm_within (allBlocks_of (by decide))
  · exact up execBaselineAbort_within (allBlocks_of (by decide))
  · exact up execTriggerEvaluate_within (allBlocks_of (by decide))
  · exact up execArm_within (allBlocks_of (by decide))
  · exact up execCaptureAbortBit_within (allBlocks_of (by decide))
  · exact up execRelease_within (allBlocks_of (by decide))
  · exact up execReedPass_within (allBlocks_of (by decide))
  · exact up execReedCycleLimit_within (allBlocks_of (by decide))
  · exact up execSlotStartEffect_within (allBlocks_of (by decide))
  · exact up execReedStartBit_within (allBlocks_of (by decide))
  · exact up execReedStopBit_within (allBlocks_of (by decide))
  · exact up execUndefinedEncoding_within (allBlocks_of (by decide))
  · exact up execNop_within (allBlocks_of (by decide))
  · exact up execEndPass_within (allBlocks_of (by decide))
  · exact up execLoop_within (allBlocks_of (by decide))
  · exact up execLoopr_within (allBlocks_of (by decide))
  · exact up execLdp_within (allBlocks_of (by decide))
  · exact up execAddp_within (allBlocks_of (by decide))
  · exact up execSetam_within (allBlocks_of (by decide))
  · exact up execSetq_within (allBlocks_of (by decide))
  · exact up execRotw_within (allBlocks_of (by decide))
  · exact up execMpy_within (allBlocks_of (by decide))
  · exact up execMac_within (allBlocks_of (by decide))
  · exact up execMsu_within (allBlocks_of (by decide))
  · exact up execSqa_within (allBlocks_of (by decide))
  · exact up execAdda_within (allBlocks_of (by decide))
  · exact up execSuba_within (allBlocks_of (by decide))
  · exact up execAddi_within (allBlocks_of (by decide))
  · exact up execAdds_within (allBlocks_of (by decide))
  · exact up execShra_within (allBlocks_of (by decide))
  · exact up execShla_within (allBlocks_of (by decide))
  · exact up execAbsa_within (allBlocks_of (by decide))
  · exact up execBexp_within (allBlocks_of (by decide))
  · exact up execNrm_within (allBlocks_of (by decide))
  · exact up execMovad_within (allBlocks_of (by decide))
  · exact up execMovda_within (allBlocks_of (by decide))
  · exact up execMovi_within (allBlocks_of (by decide))
  · exact up execMov_within (allBlocks_of (by decide))
  · exact up execMovf_within (allBlocks_of (by decide))
  · exact up execMant_within (allBlocks_of (by decide))
  · exact up execAsh_within (allBlocks_of (by decide))
  · exact up execDtap_within (allBlocks_of (by decide))
  · exact up execSethd_within (allBlocks_of (by decide))
  · exact up execDput_within (allBlocks_of (by decide))
  · exact up execDget_within (allBlocks_of (by decide))
  · exact up execBattenClose_within (allBlocks_of (by decide))
  · exact up execBattenSend_within (allBlocks_of (by decide))
  · exact up execBattenAgeExpire_within (allBlocks_of (by decide))
  · exact up execLaunchWindowOpen_within (allBlocks_of (by decide))
  · exact up execResendTake_within (allBlocks_of (by decide))
  · exact up execRetainExpire_within (allBlocks_of (by decide))
  · exact up execQcpPacket_within (allBlocks_of (by decide))
  · exact up execMailboxGo_within (List.Subset.refl _)
  · exact up execMailboxDoneClear_within (List.Subset.refl _)
  · exact up execMailboxEvtClear_within (List.Subset.refl _)
  · exact up execPing_within (allBlocks_of (by decide))
  · exact up execInfo_within (allBlocks_of (by decide))
  · exact up execRead_within (allBlocks_of (by decide))
  · exact up execWrite_within (List.Subset.refl _)
  · exact up execShutdown_within (allBlocks_of (by decide))
  · exact up execReset_within (allBlocks_of (by decide))
  · exact up execAbort_within (allBlocks_of (by decide))
  · exact up execEventLog_within (allBlocks_of (by decide))
  · exact up execBegin_within (allBlocks_of (by decide))
  · exact up execSet_within (allBlocks_of (by decide))
  · exact up execCommit_within (allBlocks_of (by decide))
  · exact up execDiscard_within (allBlocks_of (by decide))
  · exact up execStoreSave_within (allBlocks_of (by decide))
  · exact up execStoreSaveCommit_within (allBlocks_of (by decide))
  · exact up execStoreSelect_within (allBlocks_of (by decide))
  · exact up execImagePut_within (allBlocks_of (by decide))
  · exact up execImageApply_within (allBlocks_of (by decide))
  · exact up execStreamStatus_within (allBlocks_of (by decide))
  · exact up execResend_within (allBlocks_of (by decide))
  · exact up execFlush_within (allBlocks_of (by decide))
  · exact up execEventRead_within (allBlocks_of (by decide))
  · exact up execBrlRead_within (allBlocks_of (by decide))
  · exact up execTrigger_within (allBlocks_of (by decide))
  · exact up execCapArm_within (allBlocks_of (by decide))
  · exact up execCapAbort_within (allBlocks_of (by decide))
  · exact up execCapRelease_within (allBlocks_of (by decide))
  · exact up execCapRead_within (allBlocks_of (by decide))
  · exact up execCapSend_within (allBlocks_of (by decide))
  · exact up execCalRun_within (allBlocks_of (by decide))
  · exact up execCalStatus_within (allBlocks_of (by decide))
  · exact up execCalRead_within (allBlocks_of (by decide))
  · exact up execRestoreFactory_within (allBlocks_of (by decide))
  · exact up execBaseline_within (allBlocks_of (by decide))
  · exact up execPairStatus_within (allBlocks_of (by decide))
  · exact up execRefAttach_within (allBlocks_of (by decide))
  · exact up execRefDetach_within (allBlocks_of (by decide))
  · exact up execTake_within (allBlocks_of (by decide))
  · exact up execSwitchBack_within (allBlocks_of (by decide))
  · exact up execReedPut_within (allBlocks_of (by decide))
  · exact up execReedLoad_within (allBlocks_of (by decide))
  · exact up execReedLoadCommit_within (allBlocks_of (by decide))
  · exact up execReedStart_within (allBlocks_of (by decide))
  · exact up execReedStop_within (allBlocks_of (by decide))
  · exact up execReedUnload_within (allBlocks_of (by decide))
  · exact up execFldRead_within (allBlocks_of (by decide))
  · exact up execFldBuffer_within (allBlocks_of (by decide))
  · exact up execMonRead_within (allBlocks_of (by decide))
  · exact up execConvStart_within (allBlocks_of (by decide))
  · exact up execFoutSet_within (allBlocks_of (by decide))
  · exact up execTimeGet_within (allBlocks_of (by decide))
  · exact up execTimeSet_within (allBlocks_of (by decide))
  · exact up execTimeAdj_within (allBlocks_of (by decide))
  · exact up execTicStart_within (allBlocks_of (by decide))
  · exact up execTicRead_within (allBlocks_of (by decide))
  · exact up execDiagEnter_within (allBlocks_of (by decide))
  · exact up execDiagLeave_within (allBlocks_of (by decide))
  · exact up execBistRead_within (allBlocks_of (by decide))
  · exact up execPtbSet_within (allBlocks_of (by decide))
  · exact up execQcpCounters_within (allBlocks_of (by decide))
  · exact up execOpenSession_within (allBlocks_of (by decide))
  · exact up execClose_within (allBlocks_of (by decide))
  · exact up execQuotaSet_within (allBlocks_of (by decide))
  · exact up execQuotaGet_within (allBlocks_of (by decide))
  · exact up execKeyProvision_within (allBlocks_of (by decide))
  · exact up execSessionList_within (allBlocks_of (by decide))
  · exact up execSessionIdleClose_within (allBlocks_of (by decide))
  · exact up execRegisterWrite_within (List.Subset.refl _)
  · exact up execGroupLatchRead_within (allBlocks_of (by decide))
  · exact up execSysIgnCntRead_within (allBlocks_of (by decide))
  · exact up execSpiReadCycle_within (allBlocks_of (by decide))
  · exact up execSpiWriteCycle_within (List.Subset.refl _)
  · exact up execEthFrameRx_within (allBlocks_of (by decide))
  · exact up execEthLinkChange_within (allBlocks_of (by decide))
  · exact up execNextHopRetry_within (allBlocks_of (by decide))
  · exact up execPtpSyncRx_within (allBlocks_of (by decide))
  · exact up execPtpFollowUpRx_within (allBlocks_of (by decide))
  · exact up execPtpDelayRespRx_within (allBlocks_of (by decide))
  · exact up execPtpAnnounceRx_within (allBlocks_of (by decide))
  · exact up execPtpDelayReqRx_within (allBlocks_of (by decide))
  · exact up execAnnounceTimeout_within (allBlocks_of (by decide))
  · exact up execFollowUpTimeout_within (allBlocks_of (by decide))
  · exact up execSyncSend_within (allBlocks_of (by decide))
  · exact up execDelayReqSend_within (allBlocks_of (by decide))
  · exact up execOvenWarm_within (allBlocks_of (by decide))
  · exact up execOvenCool_within (allBlocks_of (by decide))
  · exact up execOvenFail_within (allBlocks_of (by decide))
  · exact up execRefSourceLoss_within (allBlocks_of (by decide))
  · exact up execRefSourceResume_within (allBlocks_of (by decide))
  · exact up execSynthUnlock_within (allBlocks_of (by decide))
  · exact up execSynthRelock_within (allBlocks_of (by decide))
  · exact up execSynthLockTimeout_within (allBlocks_of (by decide))
  · exact up execPpsOutEdge_within (allBlocks_of (by decide))
  · exact up execPpsInEdge_within (allBlocks_of (by decide))
  · exact up execEvtEdge_within (allBlocks_of (by decide))
  · exact up execTicStartBit_within (allBlocks_of (by decide))
  · exact up execTicAbortBit_within (allBlocks_of (by decide))
  · exact up execTicEdge_within (allBlocks_of (by decide))
  · exact up execTicTimeout_within (allBlocks_of (by decide))
  · exact up execRidgeIdleFrame_within (allBlocks_of (by decide))
  · exact up execDlyReq_within (allBlocks_of (by decide))
  · exact up execDlyRsp_within (allBlocks_of (by decide))
  · exact up execPresence_within (allBlocks_of (by decide))
  · exact up execTimeFrame_within (allBlocks_of (by decide))
  · exact up execRidgeTriggerFrame_within (allBlocks_of (by decide))
  · exact up execSyncFrame_within (allBlocks_of (by decide))
  · exact up execHeartbeatFrame_within (allBlocks_of (by decide))
  · exact up execPairCmd_within (allBlocks_of (by decide))
  · exact up execRidgeCrcError_within (allBlocks_of (by decide))
  · exact up execPresenceSend_within (allBlocks_of (by decide))
  · exact up execDlyReqSend_within (allBlocks_of (by decide))
  · exact up execTimeSend_within (allBlocks_of (by decide))
  · exact up execBlockLockLoss_within (allBlocks_of (by decide))
  · exact up execLaneFrameTimeout_within (allBlocks_of (by decide))
  · exact up execLaneUp_within (allBlocks_of (by decide))
  · exact up execNodeExpire_within (allBlocks_of (by decide))
  · exact up execRidgeTimeLoss_within (allBlocks_of (by decide))
  · exact up execRidgeTriggerExecute_within (allBlocks_of (by decide))
  · exact up execSyncExecute_within (allBlocks_of (by decide))
  · exact up execRidgeSyncSend_within (allBlocks_of (by decide))
  · exact up execBypassTimerExpire_within (allBlocks_of (by decide))
  · exact up execBypassEnergize_within (allBlocks_of (by decide))
  · exact up execBypassRelease_within (allBlocks_of (by decide))
  · exact up execFlashingSettled_within (allBlocks_of (by decide))
  · exact up execHealthUpdate_within (allBlocks_of (by decide))
  · exact up execHeartbeatSend_within (allBlocks_of (by decide))
  · exact up execPairEchoWrite_within (allBlocks_of (by decide))
  · exact up execFence_within (allBlocks_of (by decide))
  · exact up execRefLossDeclare_within (allBlocks_of (by decide))
  · exact up execTakeExecute_within (allBlocks_of (by decide))
  · exact up execRevertHoldExpire_within (allBlocks_of (by decide))
  · exact up execMakeStart_within (allBlocks_of (by decide))
  · exact up execSwitchInstant_within (allBlocks_of (by decide))
  · exact up execPairIdle_within (allBlocks_of (by decide))
  · exact up execPairHb_within (allBlocks_of (by decide))
  · exact up execPairCfgFrame_within (allBlocks_of (by decide))
  · exact up execSnap_within (allBlocks_of (by decide))
  · exact up execFinalSeq_within (allBlocks_of (by decide))
  · exact up execTakeAt_within (allBlocks_of (by decide))
  · exact up execPairHbSend_within (allBlocks_of (by decide))
  · exact up execPairLinkDown_within (allBlocks_of (by decide))
  · exact up execPairLinkUp_within (allBlocks_of (by decide))
  · exact up execCfg_within (allBlocks_of (by decide))
  · exact up execCmd_within (allBlocks_of (by decide))
  · exact up execFout_within (allBlocks_of (by decide))
  · exact up execHb_within (allBlocks_of (by decide))
  · exact up execTsync_within (allBlocks_of (by decide))
  · exact up execBufreq_within (allBlocks_of (by decide))
  · exact up execIlk_within (allBlocks_of (by decide))
  · exact up execFin_within (allBlocks_of (by decide))
  · exact up (by apply execResult_within; exact default) (allBlocks_of (by decide))
  · exact up execStatus_within (allBlocks_of (by decide))
  · exact up execTick_within (allBlocks_of (by decide))
  · exact up execBufdata_within (allBlocks_of (by decide))
  · exact up execBarrierFrameError_within (allBlocks_of (by decide))
  · exact up execIlkSend_within (allBlocks_of (by decide))
  · exact up execTsyncSend_within (allBlocks_of (by decide))
  · exact up execIslandStart_within (allBlocks_of (by decide))
  · exact up execIslandStop_within (List.Subset.refl _)
  · exact up execFin0Change_within (allBlocks_of (by decide))
  · exact up execFinDebounced_within (allBlocks_of (by decide))
  · exact up execHostloss_within (allBlocks_of (by decide))
  · exact up execFoutOvercurrent_within (allBlocks_of (by decide))
  · exact up execExcLimit_within (allBlocks_of (by decide))
  · exact up execExcSettleExpire_within (allBlocks_of (by decide))
  · exact up execRoundTimerTick_within (allBlocks_of (by decide))
  · exact up execFieldConversion_within (allBlocks_of (by decide))
  · exact up execMonitorConversion_within (allBlocks_of (by decide))
  · exact up execFldSwstart_within (allBlocks_of (by decide))
  · exact up execFldInjstart_within (allBlocks_of (by decide))
  · exact up execMonSwstart_within (allBlocks_of (by decide))
  · exact up execMonInjstart_within (allBlocks_of (by decide))
  · exact up execKick_within (allBlocks_of (by decide))
  · exact up execFldFoutWrite_within (allBlocks_of (by decide))
  · exact up execCalSensorRead_within (allBlocks_of (by decide))
  · exact up execCalMicroStep_within (allBlocks_of (by decide))
  · exact up execCalRetryExpire_within (allBlocks_of (by decide))
  · exact up execCalUserSave_within (allBlocks_of (by decide))
  · exact up execMr4Read_within (allBlocks_of (by decide))
  · exact up execRefreshDue_within (allBlocks_of (by decide))
  · exact up execRefreshIssue_within (allBlocks_of (by decide))
  · exact up execRowActivate_within (allBlocks_of (by decide))
  · exact up execRdTableClear_within (allBlocks_of (by decide))
  · exact up execDramRead_within (allBlocks_of (by decide))
  · exact up execTrainingStep_within (allBlocks_of (by decide))
  · exact up execFreqChange_within (allBlocks_of (by decide))
  · exact up execPowerOn_within (List.Subset.refl _)
  · exact up execSupplyDrop_within (List.Subset.refl _)
  · exact up execPoresetNLow_within (List.Subset.refl _)
  · exact up execWarmrstNLow_within (List.Subset.refl _)
  · exact up execThermalReset_within (List.Subset.refl _)
  · exact up execWatchdogExpire_within (List.Subset.refl _)
  · exact up execIslandWatchdog_within (List.Subset.refl _)
  · exact up execColdResetWrite_within (List.Subset.refl _)
  · exact up execWarmResetWrite_within (List.Subset.refl _)
  · exact up execFieldResetWrite_within (List.Subset.refl _)
  · exact up execBlockResetWrite_within (List.Subset.refl _)
  · exact up execResetExit_within (List.Subset.refl _)
  · exact up execFlashHoldExpire_within (allBlocks_of (by decide))
  · exact up execBootSequence_within (List.Subset.refl _)
  · exact up execSelfTestItem_within (List.Subset.refl _)
  · exact up execTapReset_within (allBlocks_of (by decide))
  · exact up execJtagBypass_within (allBlocks_of (by decide))
  · exact up execIdcode_within (allBlocks_of (by decide))
  · exact up execSamplePreload_within (allBlocks_of (by decide))
  · exact up execChallenge_within (allBlocks_of (by decide))
  · exact up execResponse_within (List.Subset.refl _)
  · exact up execExtest_within (allBlocks_of (by decide))
  · exact up execClamp_within (allBlocks_of (by decide))
  · exact up execHighz_within (allBlocks_of (by decide))
  · exact up execIntscan_within (allBlocks_of (by decide))
  · exact up execPermit_within (List.Subset.refl _)
  · exact up execPermitExpire_within (allBlocks_of (by decide))
  · exact up execPtbClear_within (allBlocks_of (by decide))
  · exact up execPtbLifeExpire_within (allBlocks_of (by decide))
  · exact up execIntlkNRise_within (allBlocks_of (by decide))
  · exact up execThermalFaultClear_within (allBlocks_of (by decide))
  · exact up execEventRecordDeliver_within (allBlocks_of (by decide))
  · exact up execCaptureWriteDeadline_within (allBlocks_of (by decide))
  · exact up execCapSendComplete_within (allBlocks_of (by decide))
  · exact up execAnnounceSend_within (allBlocks_of (by decide))
  · exact up execPpsOutFall_within (allBlocks_of (by decide))
  · exact up execNextHopExpire_within (allBlocks_of (by decide))
  · exact up execReassemblyTimeout_within (allBlocks_of (by decide))
  · exact up execBlockResetEnd_within (allBlocks_of (by decide))
  · exact up execPartnerHeartbeatLoss_within (allBlocks_of (by decide))

theorem exec_within {i : Instr} {s t : State} (h : exec i s = .next t) : s.within t Comp.all allBlocks := exec_withinC i s t h

/-- Every step has a next state. -/
theorem step_next (s : State) : ∃ t, step s = .next t := by
  unfold step
  split
  · exact ⟨_, rfl⟩
  · exact exec_next _ _

/-- A step takes the front of the queue and nothing else of it. -/
theorem step_pending {s t : State} (h : step s = .next t) : t.pending = s.pending.tail := by
  unfold step at h
  split at h
  · rename_i hp
    injection h with h
    subst h
    rw [State.tick_within.pending, hp, List.tail_nil]
  · rename_i c rest hp
    rw [(exec_within h).pending, hp, List.tail_cons]

/-- A step keeps the canonical form of the register space. -/
theorem step_sound {s t : State} (h : step s = .next t) (hs : s.sound) : t.sound := by
  unfold step at h
  split at h
  · injection h with h
    subst h
    exact State.tick_within.sound hs
  · exact (exec_within h).sound hs

/-- What left the block stays on record in its order. -/
theorem step_out {s t : State} (h : step s = .next t) : s.out <+: t.out := by
  unfold step at h
  split at h
  · injection h with h
    subst h
    exact State.tick_within.out
  · exact (exec_within h).out

end Sys2Proof.Machine
end

