-- ==== Sys2Proof/Laws/Frames.lean ====
section
/-! SUPPORT. Reading a field or a component across an operation: what lies outside the operation's reach reads as before. -/

namespace Sys2Proof.Machine

section

variable {s t : State} {K : List Comp} {B : List Nat}

theorem State.within.rd (h : s.within t K B) {a : Nat} (ha : blockOf a ∉ B) : t.rd a = s.rd a := h.word a ha

theorem State.within.get (h : s.within t K B) {f : Fld} (hf : blockOf f.addr ∉ B) : t.get f = s.get f := by
  unfold State.get
  rw [h.word _ hf]

theorem State.within.flag (h : s.within t K B) {f : Fld} (hf : blockOf f.addr ∉ B) : t.flag f = s.flag f := by
  unfold State.flag
  rw [h.get hf]

theorem State.within.geti (h : s.within t K B) {f : Fld} (hf : blockOf f.addr ∉ B) : t.geti f = s.geti f := by
  unfold State.geti
  rw [h.get hf]

theorem State.within.dev (h : s.within t K B) (hb : 0 ∉ B) : t.dev = s.dev := h.get hb

end

theorem pattern_lt (w : Nat) (i : Int) : pattern w i < 2 ^ w := by
  unfold pattern
  have h : (0 : Int) < ((2 ^ w : Nat) : Int) := by exact_mod_cast Nat.two_pow_pos w
  have h1 := Int.emod_nonneg i (ne_of_gt h)
  have h2 := Int.emod_lt_of_pos i h
  omega

theorem pattern_mod (w : Nat) (i : Int) : pattern w i % 2 ^ w = pattern w i := Nat.mod_eq_of_lt (pattern_lt w i)

/-- An update of components leaves every field of a register. -/
theorem State.get_upd {s : State} {v_clk : _} {v_cyc : _} {v_light : _} {v_grid : _} {v_pat : _} {v_rx : _} {v_phs : _} {v_dec : _} {v_qcp : _} {v_ptp : _} {v_net : _} {v_tb : _} {v_ridge : _} {v_strm : _} {v_trg : _} {v_reed : _} {v_brl : _} {v_pair : _} {v_isl : _} {v_mon : _} {v_cal : _} {v_dmc : _} {v_ptb : _} {v_keys : _} {v_tap : _} {v_shadows : _} {v_power : _} {v_out : _} {v_free : _} {v_pending : _} (f : Fld) :
    (State.mk s.regs v_clk v_cyc v_light v_grid v_pat v_rx v_phs v_dec v_qcp v_ptp v_net v_tb v_ridge v_strm v_trg v_reed v_brl v_pair v_isl v_mon v_cal v_dmc v_ptb v_keys v_tap v_shadows v_power v_out v_free v_pending).get f = s.get f := rfl

/-- An update of components leaves every word. -/
theorem State.rd_upd {s : State} {v_clk : _} {v_cyc : _} {v_light : _} {v_grid : _} {v_pat : _} {v_rx : _} {v_phs : _} {v_dec : _} {v_qcp : _} {v_ptp : _} {v_net : _} {v_tb : _} {v_ridge : _} {v_strm : _} {v_trg : _} {v_reed : _} {v_brl : _} {v_pair : _} {v_isl : _} {v_mon : _} {v_cal : _} {v_dmc : _} {v_ptb : _} {v_keys : _} {v_tap : _} {v_shadows : _} {v_power : _} {v_out : _} {v_free : _} {v_pending : _} (a : Nat) :
    (State.mk s.regs v_clk v_cyc v_light v_grid v_pat v_rx v_phs v_dec v_qcp v_ptp v_net v_tb v_ridge v_strm v_trg v_reed v_brl v_pair v_isl v_mon v_cal v_dmc v_ptb v_keys v_tap v_shadows v_power v_out v_free v_pending).rd a = s.rd a := rfl

end Sys2Proof.Machine
end

