-- ==== Sys2Proof/Laws/Actions.lean ====
section
/-! SUPPORT. Register actions: who may act, and what an action or an ignored write comes to. -/

namespace Sys2Proof.Machine

theorem State.whenDo_pos {s : State} {c : Bool} {f : State → State} (h : c = true) : s.whenDo c f = f s := by
  subst h
  rfl

theorem State.whenDo_neg {s : State} {c : Bool} {f : State → State} (h : c = false) : s.whenDo c f = s := by
  subst h
  rfl

theorem State.acted_ok {s t : State} {path : Path} {off : Nat} (h : s.power.episode = none) : s.acted path off (.ok t) = t := by
  unfold State.acted
  simp [h]

theorem State.acted_error {s : State} {path : Path} {off c : Nat} (h : s.power.episode = none) :
    s.acted path off (.error c) = s.ignore path off c := by
  unfold State.acted
  simp [h]

theorem State.byOwner_ok {s : State} {path : Path} {f : State → State} (h : s.pathOwns path = true) : s.byOwner path f = .ok (f s) := by
  unfold State.byOwner
  simp [h]

theorem State.byOwner_error {s : State} {path : Path} {f : State → State} (h : s.pathOwns path = false) : s.byOwner path f = .error 3 := by
  unfold State.byOwner
  simp [h]

theorem State.capArmOr_none (s : State) (c : Nat) : s.capArmOr c none = s.capArm c := rfl

/-- The ARM bit of a unit that nothing refuses. -/
theorem State.capArmBit_ok {s : State} {c : Nat} {r : Option Nat} (h : s.armError c r = none) : s.capArmBit c r = s.capArm c := by
  rw [State.capArmBit, h, State.capArmOr_none]

theorem State.capArmAct_ok {s : State} {path : Path} {c r : Nat} (h : s.pathSession path = some r) :
    s.capArmAct path c = .ok (s.capArmBit c (some r)) := by
  simp only [State.capArmAct, h]

theorem State.writeIn_ok {s : State} {path : Path} {off : Nat} {w : Word} (h : s.power.episode = none) :
    s.writeIn path off w = (s.directWrite path off w).1 := by
  unfold State.writeIn
  simp [h]

/-- A direct read of one word. -/
theorem State.directRead_one {s : State} {path : Path} {off : Nat} (h : s.power.episode = none) :
    s.directRead path off 1 = ((s.readWord path (off % 0x1000000)).2).emit (.read path [(s.readWord path (off % 0x1000000)).1]) := by
  unfold State.directRead
  rw [h]
  rfl

end Sys2Proof.Machine
end

