-- ==== Sys2Proof/Laws/Events.lean ====
section
/-! SUPPORT. What an event and a completion leave in the log of their session. -/

namespace Sys2Proof.Machine

theorem State.emit_qcp (s : State) (o : Out) : (s.emit o).qcp = s.qcp := by
  have hd : (s.emitDrop o).qcp = s.qcp := by
    unfold State.emitDrop
    repeat' split
    all_goals rfl
  unfold State.emit
  dsimp only
  repeat' split
  all_goals exact hd

theorem State.msiSince_qcp (t s : State) : (t.msiSince s).qcp = t.qcp := by
  unfold State.msiSince
  split <;> rfl

theorem State.sendEvent_qcp (s : State) (v : Via) (p : Packet) : (s.sendEvent v p).qcp = s.qcp := by
  unfold State.sendEvent
  split
  · exact State.emit_qcp ..
  · rw [State.msiSince_qcp, State.emit_qcp, State.puts_qcp, State.wrWords_qcp]

theorem State.sendReply_qcp (s : State) (v : Via) (p : Packet) : (s.sendReply v p).qcp = s.qcp := by
  unfold State.sendReply
  split
  · exact State.emit_qcp ..
  · rw [State.msiSince_qcp, State.emit_qcp, State.puts_qcp, State.wrWords_qcp]

theorem State.qcpCount_qcp (s : State) : s.qcpCount.qcp = s.qcp := State.puts_qcp ..

theorem State.sess_congr {s t : State} (h : t.qcp = s.qcp) (r : Nat) : t.sess r = s.sess r := by
  unfold State.sess
  rw [h]

/-- The session after a packet has been added to its log. -/
theorem State.sess_logEvent (s : State) {r : Nat} (v : Via) (items : List Item) (op : Nat) (h : r < s.qcp.sess.length) :
    (s.logEvent r v items op).sess r = { s.sess r with
      eseq := (s.sess r).eseq + 1,
      log := (s.sess r).log ++ [{ eseq := (s.sess r).eseq, pkt := eventPacket s r v items op, dest := v, delivered := (s.sess r).isOpen && s.canDeliver v }] } := by
  unfold State.logEvent
  dsimp only
  split
  · rw [State.sess_congr (State.sendEvent_qcp ..), State.sess_modSess_same _ _ h]
  · rw [State.sess_modSess_same _ _ h]

theorem updAt_length {α : Type} (l : List α) (n : Nat) (f : α → α) : (updAt l n f).length = l.length := by
  induction l generalizing n with
  | nil => rfl
  | cons a t ih => cases n <;> simp [updAt, ih]

theorem State.logEvent_length (s : State) (r : Nat) (v : Via) (items : List Item) (op : Nat) :
    (s.logEvent r v items op).qcp.sess.length = s.qcp.sess.length := by
  unfold State.logEvent
  dsimp only
  split
  · rw [State.sendEvent_qcp]
    exact updAt_length ..
  · exact updAt_length ..

/-- The newest entry of a log survives the trimming of the log, with the long operations as they were. -/
theorem State.trimLog_last (s : State) {r : Nat} {l : List LogEntry} {e : LogEntry} (hr : r < s.qcp.sess.length)
    (h : (s.sess r).log = l ++ [e]) :
    e ∈ ((s.trimLog r).sess r).log ∧ ((s.trimLog r).sess r).longs = (s.sess r).longs := by
  have hd : ∀ n, n ≤ l.length → e ∈ (l ++ [e]).drop n := by
    intro n hn
    rw [List.drop_append_of_le_length hn]
    exact List.mem_append_right _ (List.mem_singleton.2 rfl)
  unfold State.trimLog
  dsimp only
  split
  · rw [h]
    exact ⟨List.mem_append_right _ (List.mem_singleton.2 rfl), rfl⟩
  · rename_i hlen
    rw [h, List.length_append, List.length_singleton] at hlen
    split
    · rw [State.sess_modSess_same _ _ hr, h]
      exact ⟨hd 1 (by omega), rfl⟩
    · have hm : (s.modSess r (fun x => { x with log := x.log.drop 2 })).qcp.sess.length = s.qcp.sess.length := by
        unfold State.modSess
        exact updAt_length ..
      rw [State.sess_logEvent _ _ _ _ (by rw [hm]; exact hr), State.sess_modSess_same _ _ hr, h]
      exact ⟨List.mem_append_left _ (hd 2 (by omega)), rfl⟩

/-- An event reaches the log of its session. -/
theorem State.event_told (s : State) {r : Nat} (code subject : Nat) (x : List Item) (h : r < s.qcp.sess.length) :
    s.told (s.event r code subject x) r code subject := by
  have hl := State.sess_logEvent s (s.sess r).route (itEvcode code subject :: x) 0x0180 h
  refine ⟨_, (State.trimLog_last _ (by rw [State.logEvent_length]; exact h) (by rw [hl])).1, rfl, rfl, rfl⟩

/-- An event to the owner reaches its log. -/
theorem State.eventOwner_told {s u : State} (code subject : Nat) (x : List Item) (hq : u.qcp = s.qcp)
    (ho : u.get SYS_SESS.OWNER = s.get SYS_SESS.OWNER) (h : s.owner < s.qcp.sess.length) :
    s.told (u.eventOwner code subject x) s.owner code subject := by
  have hu : u.owner = s.owner := ho
  have := State.event_told u code subject x (r := s.owner) (by rw [hq]; exact h)
  unfold State.told at *
  unfold State.eventOwner
  rw [hu]
  rwa [State.sess_congr hq] at this

/-- A completion reaches the log of its session, and its operation is done. -/
theorem State.complete_ended (s : State) {r : Nat} {seq : BitVec 32} {l : LongOp} (status : Nat) (x : List Item) (h : r < s.qcp.sess.length)
    (hl : s.findLong r seq = some l) (hd : l.done = false) : s.ended (s.complete r seq status x) r seq l.opcode status := by
  unfold State.complete
  rw [hl]
  dsimp only
  rw [if_neg (by simp [hd])]
  generalize hu : s.modSess r (fun x => { x with
    longs := x.longs.map (fun y => if y.seq = seq then { y with done := true, committed := true } else y) }) = u
  have hs : u.sess r = { s.sess r with
      longs := (s.sess r).longs.map (fun y => if y.seq = seq then { y with done := true, committed := true } else y) } := by
    rw [← hu, State.sess_modSess_same _ _ h]
  have hlen : r < u.qcp.sess.length := by
    rw [← hu]
    unfold State.modSess
    rw [updAt_length]
    exact h
  have he := State.sess_logEvent u l.via ([itEvcode 0x0001 0, itOpcode l.opcode, itSeq seq.toNat, itStatus status] ++ x) 0x0180 hlen
  obtain ⟨h1, h2⟩ := State.trimLog_last (u.logEvent r l.via ([itEvcode 0x0001 0, itOpcode l.opcode, itSeq seq.toNat, itStatus status] ++ x))
    (by rw [State.logEvent_length]; exact hlen) (by rw [he])
  unfold State.ended
  rw [State.sess_congr (State.qcpCount_qcp _)]
  refine ⟨?_, _, h1, by rw [hs], rfl⟩
  rw [h2, he, hs]
  intro y hy hq
  obtain ⟨z, _, rfl⟩ := List.mem_map.1 hy
  by_cases hz : z.seq = seq
  · simp [hz]
  · simp [hz] at hq

end Sys2Proof.Machine
end

