-- ==== Sys2Proof/Laws/Light.lean ====
section
/-! SUPPORT. What entering a device state, SAFE, a trip of the clamp and a hardware fault come to. -/

namespace Sys2Proof.Machine

theorem State.enter_dev (s : State) (n : Nat) (h : n < 16) : (s.enter n).dev = n := by
  unfold State.enter
  split
  · assumption
  · show SYS_STATE.STATE.ofWord _ = n
    rw [State.rd_wr_same, Fld.ofWord_intoWord_other _ _ _ _ (by decide), Fld.ofWord_intoWord_same _ _ _ (by decide)]
    exact Nat.mod_eq_of_lt h

theorem State.enterSafe_dev (s : State) : s.enterSafe.dev = 5 := by
  unfold State.enterSafe
  dsimp only
  split
  · assumption
  · split
    · rw [State.monTrig_within.dev (by decide), State.enter_dev _ _ (by decide)]
    · rw [State.monTrig_within.dev (by decide), State.latchLive_within.dev (by decide), State.enter_dev _ _ (by decide)]

/-- Entering SAFE leaves every field but CAUSE, the state and the monitor as it is. -/
theorem State.enterSafe_get (s : State) {f : Fld} (ha : LSD_ILK.CAUSE.apart f) (hb : blockOf f.addr ∉ [0, 19, 21]) :
    s.enterSafe.get f = s.get f := by
  unfold State.enterSafe
  dsimp only
  split
  · rfl
  · split
    · rw [State.monTrig_within.get (fun h => hb (by simp at h ⊢; tauto)), State.enter_within.get (fun h => hb (by simp at h ⊢; tauto))]
      rfl
    · rw [State.monTrig_within.get (fun h => hb (by simp at h ⊢; tauto))]
      unfold State.latchLive
      rw [State.get_put_other _ _ _ _ ha, State.enter_within.get (fun h => hb (by simp at h ⊢; tauto))]

/-- Entering SAFE leaves the clamp as it is. -/
theorem State.enterSafe_clamp (s : State) : s.enterSafe.flag LSD_ILK.CLAMP = s.flag LSD_ILK.CLAMP :=
  congrArg (· != 0) (s.enterSafe_get (by decide) (by decide))

/-- Entering SAFE from a state that emits latches nothing by itself. -/
theorem State.enterSafe_cause {s : State} (h : s.dev = 3 ∨ s.dev = 4 ∨ s.dev = 5) : s.enterSafe.get LSD_ILK.CAUSE = s.get LSD_ILK.CAUSE := by
  unfold State.enterSafe
  dsimp only
  split
  · rfl
  · rw [if_pos (by simp only [Bool.or_eq_true, decide_eq_true_eq]; omega)]
    rw [State.monTrig_within.get (by decide), State.enter_within.get (by decide)]
    rfl

/-- A device that emits is in RUN, SHADOW or SAFE. -/
theorem State.emits_iff (s : State) : s.emits = true ↔ s.dev = 3 ∨ s.dev = 4 ∨ s.dev = 5 := by
  unfold State.emits
  simp [or_assoc]

theorem State.closeClamp_clamp (s : State) : s.closeClamp.flag LSD_ILK.CLAMP = true := by
  unfold State.closeClamp
  rw [State.puts_cons, State.puts_cons, State.puts_cons, State.puts_nil]
  rw [State.flag_put_other _ _ _ _ (by decide), State.flag_put_other _ _ _ _ (by decide), State.flag_put_same _ _ _ (by decide)]
  rfl

theorem State.trip_clamp (s : State) (bit : Nat) : (s.trip bit).flag LSD_ILK.CLAMP = true := by
  unfold State.trip
  dsimp only
  split
  · rw [State.enterSafe_clamp, State.flag_put_other _ _ _ _ (by decide), State.closeClamp_clamp]
  · exact State.closeClamp_clamp s

/-- A trip while the device emits takes it to SAFE and latches the cause. -/
theorem State.trip_emits {s : State} (h : s.emits = true) (bit : Nat) :
    (s.trip bit).dev = 5 ∧ (s.trip bit).get LSD_ILK.CAUSE = setBit (s.get LSD_ILK.CAUSE) bit true % 32 := by
  unfold State.trip
  dsimp only
  rw [if_pos h]
  refine ⟨State.enterSafe_dev _, ?_⟩
  have hd : (s.closeClamp.put LSD_ILK.CAUSE (setBit (s.closeClamp.get LSD_ILK.CAUSE) bit true)).dev = s.dev := by
    have hp : ∀ (u : State) (n : Nat), (u.put LSD_ILK.CAUSE n).dev = u.dev := fun u n => State.get_put_other u _ _ n (by decide)
    rw [hp]
    exact State.closeClamp_within.dev (by decide)
  rw [State.enterSafe_cause (by rw [hd]; rw [State.emits_iff] at h; exact h), State.get_put_same _ _ _ (by decide)]
  unfold State.closeClamp
  rw [State.get_puts_other _ _ _ (by decide)]
  rfl

/-- A hardware fault from RUN, SHADOW, SAFE, STANDBY or BOOT takes the device to SAFE. -/
theorem State.hwFault_dev {s : State} (f : HwFault) (h : s.dev = 0 ∨ s.dev = 2 ∨ s.emits = true) : (s.hwFault f).dev = 5 := by
  rw [State.emits_iff] at h
  unfold State.hwFault
  dsimp only
  rw [if_pos (by simp only [Bool.or_eq_true, decide_eq_true_eq]; omega), State.enterSafe_dev]

/-- Entering SAFE notes the state to go back to and leaves the rest of the light path. -/
theorem State.enterSafe_light (s : State) : ∃ d, s.enterSafe.light = { s.light with safeFrom := d } := by
  have he : ∀ (v : State) (n : Nat), ((v.enter n).monTrig 5).light = v.light := by
    intro v n
    rw [State.monTrig_within.comp .light (by decide), State.enter_within.comp .light (by decide)]
  have hl : ∀ (v : State) (n : Nat), ((v.enter n).latchLive.monTrig 5).light = v.light := by
    intro v n
    rw [State.monTrig_within.comp .light (by decide), State.latchLive_within.comp .light (by decide), State.enter_within.comp .light (by decide)]
  unfold State.enterSafe
  dsimp only
  split
  · exact ⟨s.light.safeFrom, rfl⟩
  · split
    · exact ⟨_, he _ _⟩
    · exact ⟨s.light.safeFrom, hl _ _⟩

theorem State.trip_light (s : State) (bit : Nat) : ∃ d, (s.trip bit).light = { s.light with safeFrom := d } := by
  unfold State.trip
  dsimp only
  split
  · exact State.enterSafe_light _
  · exact ⟨s.light.safeFrom, rfl⟩

/-- A hardware fault is noted as outstanding, and the rest of the light path but for the way into SAFE stays. -/
theorem State.hwFault_light (s : State) (f : HwFault) :
    ∃ d h l, f ∈ l ∧ (s.hwFault f).light = { s.light with safeFrom := d, hwHeld := h, faults := l } := by
  have hl : f ∈ (if s.light.faults.contains f then s.light.faults else s.light.faults ++ [f]) := by
    split
    · rename_i h
      exact List.contains_iff_mem.1 h
    · exact List.mem_append_right _ (List.mem_singleton.2 rfl)
  unfold State.hwFault
  dsimp only
  split
  · obtain ⟨d, hd⟩ := State.enterSafe_light _
    exact ⟨d, _, _, hl, hd⟩
  · exact ⟨s.light.safeFrom, s.light.hwHeld, _, hl, rfl⟩

theorem State.driveFlash_light (s : State) (c : Bool) : ∃ b, (s.driveFlash c).light = { s.light with flashHold := b } := by
  unfold State.driveFlash
  cases c <;> dsimp only <;> by_cases h : s.get RDG_FLASH.OFL_STATE = 1 <;> by_cases g : s.get RDG_FLASH.OFL_STATE = 0 <;>
    simp only [h, g, if_true, if_false, Bool.false_eq_true, one_ne_zero, zero_ne_one] <;>
    first
    | exact ⟨s.light.flashHold, rfl⟩
    | exact ⟨true, rfl⟩

/-- Reaching STANDBY. -/
theorem State.toStandby_dev (s : State) : s.toStandby.dev = 2 := by
  unfold State.toStandby
  rw [State.driveFlash_within.dev (by decide), State.msiSince_within.dev (by decide), State.enter_dev _ _ (by decide)]

theorem State.toStandby_light (s : State) : ∃ b, s.toStandby.light = { s.light with flashHold := b } := by
  unfold State.toStandby
  obtain ⟨b, hb⟩ := State.driveFlash_light _ _
  refine ⟨b, hb.trans ?_⟩
  rw [State.msiSince_within.comp .light (by decide), State.enter_within.comp .light (by decide)]

end Sys2Proof.Machine
end

