-- ==== Sys2Proof/Machine/Figures.lean ====
section
/-! DEFINITION. The figures that the fixed filters meet, whose taps Config leaves open (R153, R207): statements that need them take
them as hypotheses. -/

namespace Sys2Proof.Machine

/-- A half-band of an odd length with taps in 2^-24 meets its figures: ripple in dB up to the passband's edge, rejection in dB from
the stopband's edge on, frequencies in units of the rate at its input (R207). -/
def HalfBandMeets (half : Nat) (h : Nat → Int) (pass ripple stop rejection : ℝ) : Prop :=
  ∀ f g : ℝ, g = ∑ k ∈ Finset.range (2 * half + 1),
      (hbTap half h (min k (2 * half - k)) : ℝ) / 2 ^ 24 * Real.cos (2 * Real.pi * f * ((k : ℝ) - half)) →
    (0 ≤ f → f ≤ pass → abs (20 * Real.logb 10 (abs g)) ≤ ripple) ∧ (stop ≤ f → f ≤ 1 / 2 → abs g ≤ 10 ^ (-rejection / 20))

/-- HB1 and HB2 of the device meet their figures (R207). -/
def HalfBandFigures : Prop :=
  HalfBandMeets 11 Config.hb1Tap 0.10 0.001 0.40 90 ∧ HalfBandMeets 23 Config.hb2Tap 0.20 0.005 0.30 70

/-- The channelizer's filter meets its figures: frequencies in MHz from the channel's centre, the input at 4 GS/s (R152, R153). -/
def ChannelizerFigures : Prop :=
  ∀ f c s g : ℝ, c = ∑ k ∈ Finset.range 480, (Config.protoTap k : ℝ) / 2 ^ 16 * Real.cos (2 * Real.pi * f * k / 4000) →
    s = ∑ k ∈ Finset.range 480, (Config.protoTap k : ℝ) / 2 ^ 16 * Real.sin (2 * Real.pi * f * k / 4000) →
    g = Real.sqrt (c ^ 2 + s ^ 2) →
    (|f| ≤ 80 → |20 * Real.logb 10 g| ≤ 0.05) ∧ (120 ≤ |f| → |f| ≤ 2000 → g ≤ 10 ^ (-80 / 20 : ℝ))

end Sys2Proof.Machine
end

