-- ==== Sys2Proof/Machine/Pins.lean ====
section
/-! DEFINITION. The levels of the output pins, which the state decides (R290, R536, R571, R574, R634, R734 to R737). -/

namespace Sys2Proof.Machine

/-- The output pins of R734. -/
structure PinLevels where
  /-- Level of the open-drain IRQ_N: true is high, released. -/
  irqN : Bool
  sysRdy : Bool
  sysEmit : Bool
  ppsOut : Bool
  /-- REF_OUT carries the crystal's 10 MHz. -/
  refOut : Bool
  /-- The optical flashing is driven CLOSED. -/
  flashClosed : Bool
  /-- RDG_BYP_E and RDG_BYP_W are driven: the node stands in the ring. -/
  rdgByp : Bool
  /-- FOUT1 and FOUT0 energised. -/
  fout : Nat
  /-- The LPDDR5 reset is driven low (R730). -/
  dramReset : Bool
  deriving DecidableEq, Repr

/-- SYS_EMIT: high in RUN, SHADOW and SAFE while the clamp is open, low throughout every reset (R737). -/
def State.sysEmitLevel (s : State) : Bool := s.emits && !s.flag LSD_ILK.CLAMP && !s.inReset 2

/-- REF_OUT carries 10 MHz with REFOUT_EN, but for a FULL reset; COLD and WARM leave it as it is (R536, R734). -/
def State.refOutOn (s : State) : Bool := s.flag OCX_CTRL.REFOUT_EN && !s.inReset 4

/-- The levels of the output pins. -/
def State.pinLevels (s : State) : PinLevels :=
  { irqN := s.irqNLevel, sysRdy := s.power.pins.sysRdy, sysEmit := s.sysEmitLevel, ppsOut := s.power.pins.ppsOut
    refOut := s.refOutOn, flashClosed := s.power.pins.flashClosed, rdgByp := s.flag RDG_STATUS.INS, fout := s.get FLD_FOUT.ACT
    dramReset := s.dmc.resetLow }

end Sys2Proof.Machine
end

