-- ==== Sys2Proof/Machine/Wire.lean ====
section
/-! DEFINITION. The bytes of the frames that leave on the ridge, PAIR and barrier links, most significant byte first (R9, R551, R605,
R624 to R626). -/

namespace Sys2Proof.Machine

/-- A list of bytes filled with zeros to a length. -/
def padTo (n : Nat) (l : List Byte) : List Byte := l ++ List.replicate (n - l.length) 0

/-- The 64 bytes of a ridge frame (R551). -/
def RidgeFrame.bytes (f : RidgeFrame) : List Byte :=
  let l := beBytes 4 (f.type % 16 * 2 ^ 28 + f.west.toNat * 2 ^ 27 + f.origin.toNat * 2 ^ 12 + f.hops.toNat) ++ wordBytes f.seq ++ beBytes 8 f.corr
    ++ timeBytes f.time ++ padTo 32 f.payload
  l ++ wordBytes (crc32c l)

/-- TYPE of a PAIR frame, its offset within the snapshot, and its body (R605); the words of a body stand in the order in which the
rules name them (DESIGN CHOICE: log entry 155). -/
def PairFrame.parts : PairFrame → Nat × Nat × List Byte
  | .hb h => (1, 0, beBytes 4 h.toNat)
  | .cfg tsw nslot al ch node => (2, 0, beBytes 4 tsw ++ beBytes 4 nslot ++ timeBytes al ++ beBytes 4 ch.toNat ++ beBytes 4 node.toNat)
  | .snap off _ body => (3, off, body)
  | .finalSeq l => (4, 0, l.flatMap (fun e => beBytes 4 (e.1 * 2 ^ 26) ++ wordBytes e.2))
  | .takeAt t => (5, 0, timeBytes t)

/-- The bytes of a PAIR frame (R605). -/
def PairFrame.bytes (seq : BitVec 32) (f : PairFrame) : List Byte :=
  let p := f.parts
  let l := beBytes 4 (p.1 * 2 ^ 28) ++ wordBytes seq ++ beBytes 4 p.2.1 ++ beBytes 4 p.2.2.length ++ p.2.2
  l ++ wordBytes (crc32c l)

/-- TYPE and payload of a barrier message (R626); the places of the fields that share a byte, and the order within STATUS, are the
model's (DESIGN CHOICE: log entry 155). -/
def BarMsg.parts : BarMsg → Nat × List Byte
  | .cfg off v => (1, beBytes 2 off ++ wordBytes v)
  | .cmd reg inj => (2, beBytes 1 (reg.toNat * 4 + inj.toNat * 2))
  | .fout m => (3, beBytes 1 m)
  | .hb => (4, [])
  | .tsync => (5, [])
  | .bufreq ch first n => (6, beBytes 1 ch ++ beBytes 2 first ++ beBytes 2 n)
  | .ilk closed ti => (7, beBytes 1 closed.toNat ++ beBytes 4 ti)
  | .fin states ti => (8, beBytes 1 states ++ beBytes 4 ti)
  | .result i q seq gain op code ti =>
    (9, beBytes 1 (i * 16 + q) ++ beBytes 1 seq ++ beBytes 1 (gain * 16 + op.toNat) ++ beBytes 1 0 ++ wordBytes code ++ wordBytes ti)
  | .status flags vin echo crc bad => (10, wordBytes flags ++ beBytes 2 vin ++ beBytes 1 echo ++ beBytes 1 0 ++ beBytes 2 crc ++ beBytes 2 bad)
  | .tick t => (11, beBytes 4 t)
  | .bufdata ch i a b => (12, beBytes 1 ch ++ beBytes 1 0 ++ beBytes 2 i ++ wordBytes a ++ wordBytes b)

/-- A barrier frame behind its delimiter: header, SEQ, payload and CRC-16 (R624, R625). -/
def BarMsg.bytes (seq : Byte) (m : BarMsg) : List Byte :=
  let p := m.parts
  let l := beBytes 1 (p.1 * 16 + p.2.length) ++ [seq] ++ p.2
  l ++ beBytes 2 (crc16 l).toNat

/-- The tag control information of every frame that an Ethernet port sends while VLAN is 1: PCP and VID (R501). -/
def State.ethTag (s : State) (x : Nat) : Option (BitVec 16) :=
  if s.flag (NET_W0.VLAN x) then some (BitVec.ofNat 16 (s.get (NET_W0.PCP x) * 2 ^ 13 + s.get (NET_W0.VID x))) else none

/-- The Ethernet port and the tag, if any, of what leaves as an Ethernet frame (R501). -/
def State.outTag (s : State) : Out → Option (Fin 2 × Option (BitVec 16))
  | .eth x _ => some (x, s.ethTag x.val)
  | .datagram x _ _ => some (x, s.ethTag x.val)
  | .qcp (.udp p) _ => some (p.eth, s.ethTag p.eth.val)
  | _ => none

/-- The bytes of what leaves on the three links. -/
def Out.linkBytes : Out → Option (List Byte)
  | .ridge f => some f.bytes
  | .pair seq f => some (f.bytes seq)
  | .barrier _ seq m => some (m.bytes seq)
  | _ => none

end Sys2Proof.Machine
end

