-- ==== Sys2Proof/Tests/Slice0.lean ====
section
/-! SUPPORT. Tests: ill-formed commands that Instr.wf refuses, and, for each statement with hypotheses, a state and operands that
meet them. -/

namespace Sys2Proof.Tests

open Sys2Proof Sys2Proof.Machine

/-! ## Ill-formed commands, one for each check -/

/-- A request on session 0 from the first mailbox. -/
def q0 : ReqHdr := { session := 0, seq := 1, via := .mailbox 0 }

theorem test_wf_therm : (Instr.compUpdate [0, 0, 0, 0, 0, 0, 0]).wf = false := by decide

theorem test_wf_packet : (Instr.qcpPacket (.mailbox 0) (List.replicate 8193 0)).wf = false := by
  simp only [Instr.wf, List.length_replicate]
  rfl

/-- A value that fits no 4-byte item. -/
def big : Nat := 2 ^ 32

theorem test_wf_counts : (Instr.read q0 0 big).wf = false ∧ (Instr.reset q0 big).wf = false ∧ (Instr.eventLog q0 0 big).wf = false ∧
    (Instr.imageApply q0 big).wf = false ∧ (Instr.eventRead q0 big).wf = false ∧ (Instr.resend q0 0 0 big).wf = false ∧
    (Instr.brlRead q0 0 0 big).wf = false ∧ (Instr.capRead q0 0 0 big 0).wf = false ∧ (Instr.reedLoad q0 0 0 big).wf = false ∧
    (Instr.fldBuffer q0 0 big).wf = false ∧ (Instr.ticStart q0 0 big).wf = false := by decide

theorem test_wf_levels : (Instr.capRead q0 0 0 0 big).wf = false ∧ (Instr.capSend q0 0 big none 0).wf = false := by decide

theorem test_wf_indexes : (Instr.storeSave q0 big).wf = false ∧ (Instr.storeSelect q0 big).wf = false ∧ (Instr.streamStatus q0 big).wf = false ∧
    (Instr.resend q0 big 0 0).wf = false ∧ (Instr.flush q0 big).wf = false ∧ (Instr.brlRead q0 big 0 0).wf = false ∧
    (Instr.trigger q0 big 0).wf = false ∧ (Instr.capArm q0 big).wf = false ∧ (Instr.capAbort q0 big).wf = false ∧
    (Instr.capRelease q0 big).wf = false ∧ (Instr.capRead q0 big 0 0 0).wf = false ∧ (Instr.capSend q0 big 0 none 0).wf = false ∧
    (Instr.calRead q0 big).wf = false ∧ (Instr.baseline q0 big).wf = false := by decide

theorem test_wf_indexes_of_units : (Instr.reedPut q0 big 0 []).wf = false ∧ (Instr.reedLoad q0 big 0 0).wf = false ∧
    (Instr.reedStart q0 big).wf = false ∧ (Instr.reedStop q0 big).wf = false ∧ (Instr.reedUnload q0 big).wf = false ∧
    (Instr.fldRead q0 big).wf = false ∧ (Instr.fldBuffer q0 big 0).wf = false ∧ (Instr.monRead q0 big).wf = false ∧
    (Instr.convStart q0 big).wf = false ∧ (Instr.ticStart q0 big 0).wf = false ∧ (Instr.quotaSet q0 big [0, 0, 0, 0]).wf = false ∧
    (Instr.quotaGet q0 big).wf = false := by decide

theorem test_wf_offsets : (Instr.imagePut q0 (2 ^ 64) []).wf = false ∧ (Instr.capRead q0 0 (2 ^ 64) 0 0).wf = false ∧
    (Instr.reedPut q0 0 (2 ^ 64) []).wf = false := by decide

theorem test_wf_signed : (Instr.brlRead q0 0 (2 ^ 31) 0).wf = false ∧ (Instr.timeAdj q0 (-(2 ^ 31) - 1)).wf = false := by decide

theorem test_wf_data : (Instr.write q0 0 []).wf = false ∧ (Instr.set q0 0 []).wf = false ∧ (Instr.ptbSet q0 0 []).wf = false := by decide

theorem test_wf_data_length : (Instr.write q0 0 (List.replicate 2039 0)).wf = false ∧ (Instr.imagePut q0 0 (List.replicate 8153 0)).wf = false ∧
    (Instr.reedPut q0 0 0 (List.replicate 8153 0)).wf = false := by
  simp only [Instr.wf, dataFits, List.length_replicate]
  exact ⟨rfl, rfl, rfl⟩

theorem test_wf_sessions : (Instr.openSession q0 { authBit := false, macFlag := false, takeover := false, bind := false, nonceH := [], dest := none }).wf = false ∧
    (Instr.quotaSet q0 0 [0]).wf = false ∧ (Instr.keyProvision q0 0 0 []).wf = false := by decide

/-- 9,239 bytes of an echo request are more than a port takes, and so is a fragment that ends beyond 65,535. -/
theorem test_wf_frame : (Instr.ethFrameRx 0 { dst := 0, src := 0, vlan := none, fcsOk := true, kind := .echoRequest 0 9239 }).wf = false ∧
    (Instr.ethFrameRx 0 { dst := 0, src := 0, vlan := none, fcsOk := true, kind := .qcpFragment { eth := 0, v6 := false, addr := 0, port := 0 } 65535 false [0] }).wf = false := by decide

theorem test_wf_corrections : (Instr.ptpSyncRx 0 0 false 0 (2 ^ 63) 0).wf = false ∧ (Instr.ptpFollowUpRx 0 0 0 (2 ^ 63)).wf = false ∧
    (Instr.ptpDelayRespRx 0 0 0 (2 ^ 63)).wf = false := by decide

theorem test_wf_snap : (Instr.snap 1 1 [0]).wf = false := by decide

/-! ## States and operands that meet the hypotheses of the statements

An equation that names a value (`u = …`) is met by that value, and is left out. -/

/-- The state after reset with some fields set. -/
def up (l : List (Fld × Nat)) : State := State.reset.puts l

/-- Session 0 is open and takes requests. -/
def ready (l : List (Fld × Nat)) : State :=
  let s := up l
  { s with power := { s.power with qcpReady := true }, qcp := { s.qcp with sess := updAt s.qcp.sess 0 (fun x => { x with isOpen := true }) } }

/-- The device runs: a sweep has started, the clamp is open. -/
def sweep (l : List (Fld × Nat)) : State :=
  { up ([(SYS_STATE.STATE, 3), (LSD_ILK.CLAMP, 0), (PAT_RANGE.N_BIN 0, 100)] ++ l) with
    grid := { running := true, started := true, closed := false, absA := false }
    light := { hold := false, flashHold := false } }

theorem witness_Admits : (ready []).admits q0 ∧ (ready []).admitsLong q0 := by
  unfold State.admitsLong State.admits State.serves
  decide

theorem witness_IdleStepTicks : State.reset.pending = [] := rfl

theorem witness_EveryCommandAnswers : State.reset.sound := by
  unfold State.sound
  decide

theorem witness_StepKeepsInvariant : ∃ t, step State.reset = .next t := ⟨_, rfl⟩

theorem witness_ReedWordsRoundTrip :
    reedOk .nop { arg := 0, xm := 0, ym := 0 } = true ∧ (decodeReed (reedWord .nop { arg := 0, xm := 0, ym := 0 })).isSome = true := by decide

theorem witness_RearmRejected : State.reset.power.episode = none ∧ State.reset.pathOwns (.qcp 0) = true ∧ State.reset.liveCauses ≠ 0 := by decide

theorem witness_IdleSyncHasNoEffect : State.reset.flag PAT_STATUS.ARMED = false ∧
    ({ State.reset with ridge := { State.reset.ridge with syncs := [0] } } : State).ridge.syncs = [0] := by decide

theorem witness_PathsKeepTheirShadows : State.reset.power.episode = none ∧ groupAt 0x000008 = some (0x000008, 2) := by decide

theorem witness_LightDriveCompletes :
    let s := sweep [(LSD_DIAG.PERIOD, 1), (LSD_DERATE.FACTOR, 99)]
    let t := { s with light := { s.light with portA := { gateLow := 1 } } }
    s.emits = true ∧ s.flag LSD_ILK.CLAMP = false ∧ -1000 < s.target .a - 5 ∧ s.get LSD_DERATE.FACTOR < 100 ∧ s.owner < s.qcp.sess.length ∧
    t.emits = true ∧ t.flag LSD_ILK.CLAMP = false ∧ t.grid.started = true ∧ t.grid.diagDone = false ∧ t.get LSD_DIAG.PERIOD ≠ 0 ∧
    t.grid.k % t.get LSD_DIAG.PERIOD = 0 ∧ t.get (PAT_RANGE.N_BIN 0) ≠ 0 ∧ t.guardShort .a = false ∧ 1 ≤ (t.pl .a).gateLow := by decide

theorem witness_LightFaultsComplete_lock :
    let s := up [(LSD_LASER_STATUS.LOCK, 1)]
    let t := { State.reset with light := { State.reset.light with attempt := true } }
    s.flag LSD_LASER_STATUS.LOCK = true ∧ 50 < (51 : BitVec 16).toInt ∧
    t.light.attempt = true ∧ t.flag LSD_LASER_STATUS.LOCK = false ∧ (20 : BitVec 16).toInt ≤ 20 ∧ -20 ≤ (20 : BitVec 16).toInt ∧ t.dev = 0 := by
  decide

theorem witness_LightFaultsComplete_clear :
    let s := { up [(SYS_STATE.STATE, 2), (LSD_ILK.ENABLE, 1), (LSD_ILK.FIN0_OK, 1), (LSD_ILK.INTLK, 1)] with light := { silent := false } }
    s.dev = 2 ∧ s.power.episode = none ∧ s.power.blockRst = none ∧ s.flag LSD_ILK.ENABLE = true ∧ s.get LSD_ILK.CAUSE = 0 ∧ s.light.rprec = false ∧
    s.light.silent = false ∧ s.flag LSD_ILK.FIN0_OK = true ∧ s.light.thermal = false ∧ s.flag LSD_ILK.INTLK = true ∧
    s.light.tcase ≤ 7800 ∧ (∀ x ∈ s.light.therm.drop 4, x ≤ 8000) ∧ s.light.laserOff = none := by decide

theorem witness_LightFaultsComplete_trip :
    let s := sweep []
    let h : State := { s with light := { s.light with tcase := 7801 } }
    let u : State := { s with light := { s.light with therm := [2500, 2500, 2500, 2500, 8001, 2500, 2500, 2500] } }
    let l : State := { s with cyc := 50000000, light := { s.light with laserOff := some 0 } }
    h.emits = true ∧ 7800 < h.light.tcase ∧ u.emits = true ∧ (∃ x ∈ u.light.therm.drop 4, 8000 < x) ∧
    l.emits = true ∧ l.light.laserOff = some 0 ∧ 0 + 50000000 ≤ l.cyc := by decide

theorem witness_LightFaultsComplete_apr :
    let s := sweep [(LSD_APR_CTRL.EN, 1), (LSD_APR_END.FIBRE_END 0, 2000), (LSD_APR_CTRL.TOL, 10)]
    s.emits = true ∧ s.flag LSD_APR_CTRL.EN = true ∧ s.flag LSD_ILK.CLAMP = false ∧ s.apr .a = 0 ∧
    1989 + s.get LSD_APR_CTRL.TOL < s.get (LSD_APR_END.FIBRE_END Port.a.idx) := by decide

set_option maxRecDepth 20000 in
theorem witness_LightFaultsComplete_restore :
    (sweep [(LSD_APR_CTRL.EN, 1), (LSD_APR_STAT.STATE 0, 1), (LSD_DIAG.PERIOD, 0)]).restoreTurn .a = true ∧
    (up [(RDG_FLASH.OFL_STATE, 2)]).get RDG_FLASH.OFL_STATE = 2 := by decide

theorem witness_OwnerActionsComplete :
    let s := up [(LSD_LASER_STATUS.FAIL, 1), (BRL_BASE.BUSY 1, 1)]
    let t := { up [(LSD_ILK.INTLK, 1), (LSD_ILK.FIN0_OK, 1)] with light := { silent := false } }
    s.power.episode = none ∧ s.pathOwns (.qcp 0) = true ∧ s.pathOwns (.qcp 1) = false ∧ s.flag LSD_LASER_STATUS.FAIL = true ∧
    s.liveCauses ≠ 0 ∧ s.flag (BRL_BASE.BUSY 0) = false ∧ s.flag (BRL_BASE.BUSY 1) = true ∧
    t.pathOwns (.qcp 0) = true ∧ t.liveCauses = 0 ∧ t.flag LSD_APR_CTRL.EN ≠ !t.flag LSD_APR_CTRL.EN := by decide

/-- Session 0 owns every capture unit and every stream and trigger unit. -/
def owning (s : State) : State :=
  { s with qcp := { s.qcp with
    sess := s.qcp.sess.map (fun x => { x with quotas := { streams := 64, bandwidth := 1000, capture := some 64, reed := 8 } })
    capOwner := List.replicate 16 (some 0)
    streamOwner := List.replicate 64 (some 0)
    trgOwner := List.replicate 64 (some 0) } }

theorem witness_SessionActionsComplete :
    let s := owning (up [(CAPU_W0.STATE 1, 2), (CAPU_W0.STATE 2, 3), (REEDS_W0.STATE 0, 1), (REEDS_W6.BLOCK 0, 1), (REEDS_W3.N_CH 0, 1),
      (REEDS_W5.C_MAX 0, 1)])
    let t := { up [(TIC_CTRL.RUN, 1)] with tb := { tic := { starter := some 0 } }, pair := { host := some 0 } }
    s.power.episode = none ∧ s.pathSession (.qcp 0) = some 0 ∧ s.capOwner 1 = some 0 ∧ s.capState 1 = 2 ∧ s.capOwner 2 = some 0 ∧
    s.capState 2 = 3 ∧ s.capSending 2 = false ∧ s.flag (CAPU_W0.AUTO_REARM 2) = false ∧ s.slotOwner 0 = some 0 ∧ s.slotState 0 = 1 ∧
    s.startConflict 0 = false ∧ s.dev ≠ 1 ∧ s.flag TIC_CTRL.RUN = false ∧ t.flag TIC_CTRL.RUN = true ∧ t.tb.tic.starter = some 0 ∧
    t.tb.tic.committed = false ∧ t.pair.host.map (·.val) = some 0 := by decide

theorem witness_SessionActionsComplete_arm : (owning (up [])).armError 0 (some 0) = none := by decide
theorem witness_DirectAccessCompletes_write :
    let s := State.reset
    let off : BitVec 24 := 0x040000
    s.power.episode = none ∧ off.toNat % 4 = 0 ∧ mailboxOf off.toNat = none ∧ inPattern off.toNat = false ∧ inProgram off.toNat = false ∧
    inReedData off.toNat = false ∧ (∃ row, rowAt off.toNat = some row ∧ row.w1c = 0 ∧ row.w1s = 0 ∧ row.rw ≠ 0 ∧
      (row.shapes && s.emits) = false ∧ row.txnOnly = false) ∧ off.toNat / 0x10000 ≠ 0x18 ∧ actionParts (.qcp 0) off.toNat 0 = [] ∧
    s.pathSession (.qcp 0) = some 0 ∧ s.mayCommit 0 off.toNat 0 = true ∧ s.locked off.toNat = false ∧ off.toNat ≠ FLD_FOUT.SET.addr :=
  ⟨rfl, rfl, rfl, rfl, rfl, rfl, ⟨_, rfl, by decide⟩, by decide⟩

set_option maxRecDepth 20000 in
theorem witness_DirectAccessCompletes_value : State.reset.valueOk 0 0x040000 (State.reset.rd 0x040000) = true := by decide

theorem witness_DirectAccessCompletes_read :
    let s := up [(QCP_MB_CTRL.EVT 0, 1)]
    let off : BitVec 24 := 0x000060
    let t := { State.reset with shadows := [{ path := .pcie, ignFresh := true }] }
    s.power.episode = none ∧ off.toNat % 4 = 0 ∧ mailboxOf off.toNat = none ∧ off.toNat / 0x10000 ≠ 0x17 ∧ inProgram off.toNat = false ∧
    inReedData off.toNat = false ∧ groupAt off.toNat = none ∧ off.toNat ≠ 0x000034 ∧ groupAt 0x000008 = some (0x000008, 2) ∧
    t.power.episode = none ∧ (t.shadow .pcie).ignFresh = true ∧ 20 ≤ (20 : BitVec 14).toNat ∧ (8192 : BitVec 14).toNat ≤ 8192 ∧
    s.flag (QCP_MB_CTRL.BUSY 0) = false ∧ s.flag (QCP_MB_CTRL.DONE 0) = false ∧ s.flag (QCP_MB_CTRL.EVT 0) = true := by decide

theorem witness_DirectAccessCompletes_events : ∀ r, (State.reset.sess r).log.all (·.delivered) = true := by
  intro r
  have e : ∀ x ∈ State.reset.qcp.sess, x.log = [] := by decide
  unfold State.sess
  cases h : State.reset.qcp.sess[r]? with
  | none => simp [List.getD, h]
  | some x => simp [List.getD, h, e x (List.mem_of_getElem? h)]

theorem witness_RequestsAnswer : (ready []).admits q0 ∧ (0x000060 : BitVec 24).toNat % 4 = 0 ∧ (0x000060 : BitVec 24).toNat + 4 * 1 ≤ 0x1000000 ∧
    (0xFFE040 : BitVec 24).toNat + 4 * 2032 ≤ 0x1000000 ∧ ((ready []).sess 0).logAfter 0 = false := by
  unfold State.admits State.serves
  decide

/-- The same with a long operation of session 0 under way. -/
def busy (l : LongOp) (f : List (Fld × Nat)) : State :=
  let s := ready f
  { s with qcp := { s.qcp with sess := updAt s.qcp.sess 0 (fun x => { x with longs := [l] }) } }

theorem witness_WriteAndAbort :
    let s := busy { seq := 0, opcode := 0x0504, via := .mailbox 0, subject := 1 } [(BRL_BASE.BUSY 1, 1)]
    let t := busy { seq := 0, opcode := 0x0403, via := .mailbox 0, subject := 0 } []
    let u := busy { seq := 0, opcode := 0x0403, via := .mailbox 0, subject := 0, committed := true } []
    (s.admits q0 ∧ (∃ l, s.findLong 0 0 = some l ∧ l.done = false ∧ l.committed = false ∧ l.opcode = 0x0504 ∧
      s.flag (BRL_BASE.BUSY l.subject) = true ∧ l.subject < 2) ∧ s.findLong 0 5 = none) ∧
    (t.admits q0 ∧ (t.sess 0).log = [] ∧ ∃ l, t.findLong 0 0 = some l ∧ l.done = false ∧ l.committed = false ∧ l.opcode = 0x0403) ∧
    u.admits q0 ∧ ∃ l, u.findLong 0 0 = some l ∧ l.committed = true := by
  unfold State.admits State.serves
  exact ⟨⟨by decide, ⟨_, rfl, by decide⟩, by decide⟩, ⟨by decide, by decide, ⟨_, rfl, by decide⟩⟩, by decide, ⟨_, rfl, by decide⟩⟩

theorem witness_WriteAndAbort_reset :
    ((((ready []).taken q0 0x0103).writeWords (.qcp 0) 0x000060 [0]).1.power.episode = none) := by decide

theorem witness_SessionsComplete :
    let s := ready [(SYS_SESS.PLAIN, 2)]
    let t := { s with qcp := { s.qcp with sess := updAt s.qcp.sess 0 (fun x => { x with auth := true }) } }
    (s.serves ∧ (s.sess 1).queue = [] ∧ (s.sess 1).isOpen = false ∧ s.openFresh 1 1 = true ∧ s.plainAllowed 1 = true ∧
      (s.keyOf 0).isSome = true ∧ 1 < s.qcp.sess.length ∧ s.ptb.by_ ≠ some 0 ∧ (s.sess 0).isOpen = true) ∧
    (up [(SYS_SESS.IDLE, 1)]).flag SYS_SESS.IDLE = true ∧ quotasInRange 7 (quotasOf [0, 0, 0, 0]) = true ∧
    (s.taken q0 0x0B02).quotaConflict 7 (quotasOf [0, 0, 0, 0]) = false ∧ s.owner = 0 ∧
    t.admits q0 ∧ s.keys.k.length = 8 ∧ (List.replicate 32 (0 : Byte)).length = 32 ∧ (t.sess 0).auth = true := by
  unfold State.admits State.serves
  decide

/-- A PING of session 0. -/
def ping : List Byte := ({ session := 0, seq := 1, opcode := 0x0100 } : Packet).bytes

set_option maxRecDepth 20000 in
theorem witness_PacketsComplete :
    let s := ready []
    s.served (.mailbox 0) = true ∧ frameOk ping = true ∧ lengthOk ping = true ∧ crc32c (ping.take (bodySize ping)) = packetCrc ping ∧
    packetField ping 2 1 = 1 ∧ packetField ping 4 1 = 0 ∧ 0 < s.qcp.sess.length ∧ (s.sess 0).isOpen = true ∧ (s.sess 0).key = none ∧
    packetField ping 12 2 ≠ 0x0B00 ∧ (s.sess 0).fresh (BitVec.ofNat 32 (packetField ping 8 4)) = true ∧
    (tagsOf (packetField ping 12 2)).isSome = true ∧ paramsOk (packetField ping 12 2) (packetParams ping) = true ∧
    (s.sess 0).queue.length < 16 := by decide

theorem witness_PacketsComplete_dropped :
    let s := up [(QCP_CFG.UDP_EN0, 1), (QCP_CFG.UDP_PORT, 7)]
    s.served (.udp { eth := 0, v6 := false, addr := 0, port := 0, dport := 7 }) = true ∧ s.power.qcpReady = false ∧ frameOk [] = false ∧ frameOk (ping.take 20) = true ∧
    lengthOk (ping.take 20 ++ [0]) = false ∧ crc32c ((ping.set 8 1).take (bodySize (ping.set 8 1))) ≠ packetCrc (ping.set 8 1) := by
  set_option maxRecDepth 20000 in decide
theorem witness_TransactionsComplete :
    let s := ready []
    let t := { s with qcp := { s.qcp with sess := updAt s.qcp.sess 0 (fun x => { x with txn := some [] }) } }
    (s.admits q0 ∧ 0 < s.qcp.sess.length ∧ (s.sess 0).txn = none) ∧
    (t.admits q0 ∧ t.admitsLong q0 ∧ (t.sess 0).txn = some [] ∧ (spread 0x040000 [0]).all (fun e => stageable e.1) = true ∧
      ((spread 0x040000 [0]).foldl (fun (a : List (Nat × Word)) e => stage a e.1 e.2) []).length ≤ 65536 ∧
      (spread 0x040000 [0]).all (fun e => (t.taken q0 0x0201).mayCommit 0 e.1 e.2) = true ∧ t.flag DMC_STATUS.TFAIL = false) := by
  unfold State.admitsLong State.admits State.serves
  decide

set_option maxRecDepth 20000 in
theorem witness_TransactionsComplete_commit :
    let s := ready []
    let t := { s with qcp := { s.qcp with sess := updAt s.qcp.sess 0 (fun x => { x with txn := some [] }) } }
    (((t.taken q0 0x0202).accepted q0 0x0202 0).modSess 0 (fun x => { x with txn := none })).validate 0 [] none = none := by decide

/-- A set of session 0 waits for the next epoch boundary. -/
def staged (h : Option Ts) (s : State) : State :=
  { s with qcp := { s.qcp with staged := [{ session := 0, seq := 1, opcode := 0x0202, words := [], handed := h }] } }

theorem witness_TransactionsComplete_boundary :
    (∃ x l, (staged none State.reset).qcp.staged = x :: l ∧ x.handed = none ∧ x.session.val < State.reset.qcp.sess.length) ∧
    (∃ x l, (staged (some 0) State.reset).qcp.staged = x :: l ∧ x.handed = some 0) ∧ (staged (some 0) State.reset).sweeping = false ∧
    (staged (some 0) (sweep [])).sweeping = true ∧ (sweep []).boundaryTaken (sweep []).nextBoundary = false ∧
    0 + 10000 * ns ≤ (sweep []).nextBoundary :=
  ⟨⟨_, _, rfl, rfl, by decide⟩, ⟨_, _, rfl, rfl⟩, by decide⟩

/-- An image sound under an empty configuration key. -/
def image0 : CfgImage := {}

theorem witness_StoreCompletes :
    let s := { ready [] with keys := { kcfg := some [] } }
    let t := { s with qcp := { s.qcp with slotA := .image image0, saving := some (false, image0) } }
    s.admitsLong q0 ∧ s.qcp.saving = none ∧ s.keys.kcfg.isSome = true ∧ s.owner = 0 ∧ t.admitsLong q0 ∧ t.owner = 0 ∧
    t.flag DMC_STATUS.TFAIL = false ∧ t.slot false = .image image0 ∧ t.slotCode false = 1 ∧ t.qcp.saving = some (false, image0) ∧
    1048575 + ([0] : List Byte).length ≤ 1048576 := by
  unfold State.admitsLong State.admits State.serves
  decide

theorem witness_SweepsComplete :
    let s := sweep [(PAT_STATUS.ARMED, 1), (PAT_CTRL.SWAP_SRC, 1)]
    let t := { up [(PAT_STATUS.ARMED, 1), (PAT_CTRL.SWAP_SRC, 2)] with ridge := { syncs := [0] } }
    s.grid.running = true ∧ s.emits = true ∧ s.nextBoundary ≤ s.nextBoundary ∧ s.nextBoundary < s.nextBoundary + ns ∧
    s.power.shutDue = false ∧ s.light.runDue = false ∧ s.grid.started = true ∧ s.grid.closed = false ∧ s.grid.nextPos ≤ 0 ∧ 15 < s.grid.nslot ∧
    s.portLaunches .a = true ∧ (Port.a, (0 : Fin 16)) ∉ s.grid.skip ∧ s.shadowing = false ∧ s.phs.sigLeft = 0 ∧ s.phs.sigDue = false ∧
    true ≠ s.flag PAT_CTRL.SYNC_POL ∧ s.flag PAT_STATUS.ARMED = true ∧ s.get PAT_CTRL.SWAP_SRC = 1 ∧
    t.ridge.syncs = [0] ∧ t.flag PAT_STATUS.ARMED = true ∧ t.get PAT_CTRL.SWAP_SRC = 2 ∧ t.power.episode = none ∧
    (t.pathSession (.qcp 0)).isSome = true := by decide

/-- A shot of the first position under way. -/
def shot0 (sig : Bool) : Inflight :=
  { port := .a, pos := 0, sweep := 0, s := 0, tk := 0, launch := 0, clk := 0, slot := 0, dur := 100, nbin := 100, ext := false, nslot := 16,
    tsw := 80000, bank := false, epoch := 1, kphi := 0, phs := {}, lnc := false, launched := true, unsettled := false, apr := false,
    failover := false, tbCold := false, sig := sig }

theorem witness_ChainsComplete :
    let s := sweep [(agcFld .a true, 0)]
    let t := { s with rx := { s.rx with shotsA := [(0, 100)] } }
    let u := { s with grid := { s.grid with inflight := [shot0 false] } }
    s.grid.running = true ∧ s.grid.started = true ∧ s.flag (agcFld .a false) = true ∧ s.agcHeld .a = false ∧ t.agcHeld .a = true ∧
    s.flag (agcFld .a true) = false ∧ s.get RX_AGC.CLIP_HI < (List.replicate 4096 (2047 : Int)).length ∧
    ([] : List Int).countP clipped12 = 0 ∧ quietPeak (maxN (([] : List Int).map Int.natAbs)) (s.get RX_AGC.LOW_DBFS) = true ∧
    s.rx.visLow = false ∧
    u.grid.inflight.find? (fun i => i.port == Port.a) = some (shot0 false) ∧ (shot0 false).sig = false := by
  simp only [List.length_replicate]
  decide

theorem witness_ChainsComplete_vis : fringeVis [] < 2048 := by
  simp only [fringeVis, List.length_nil, Nat.zero_mul]
  decide

theorem witness_ChainsComplete_verdict :
    let s := { State.reset with phs := { sigDue := true }, dec := { f := [{ out := some (shot0 false) }] } }
    s.phs.sigDue = true ∧ s.grid.inflight.any (fun (i : Inflight) => i.sig) = false ∧ (s.filt 0).out = some (shot0 false) ∧
    s.get (PAT_RANGE.N_BIN 0) = 0 ∧ s.get (PAT_RANGE.N_BIN 1) = 0 := by decide

theorem witness_CapturesComplete :
    let s := owning (ready [(CAPU_W0.STATE 0, 2), (CAPU_W0.STATE 1, 3)])
    let c : Cap := { start := some 0, pre := 1, post := 1, region := 128 }
    let t := { s with trg := { s.trg with caps := List.replicate 16 c } }
    let x : CapSend := { session := 0, seq := 1, unit := 1, level := 0, dest := none, haddr := 0 }
    let u := { s with trg := { s.trg with sends := [x] } }
    (t.capState 0 = 2 ∧ (t.cap 0).start.isSome = true ∧ 0 < t.trg.caps.length ∧ (t.cap 0).ivs.length + 1 < (t.cap 0).pre + (t.cap 0).post) ∧
    (s.admits q0 ∧ s.capOwner 0 = some 0 ∧ s.capState 0 = 2 ∧ s.capOwner 1 = some 0 ∧ s.capState 1 = 3 ∧ s.capSending 1 = false ∧
      s.flag (CAPU_W0.AUTO_REARM 1) = false) ∧
    (t.admits q0 ∧ t.admitsLong q0 ∧ t.capState 1 = 3 ∧ 0 + 128 ≤ (t.cap 1).region ∧ t.dev ≠ 1) ∧
    u.trg.sends.find? (fun x => x.session == 0 && x.seq == 1) = some x ∧ x.dest = none := by
  unfold State.admitsLong State.admits State.serves
  decide

theorem witness_CapturesComplete_arm :
    let s := owning (ready [(CAPU_W0.STATE 1, 3), (CAPU_W0.AUTO_REARM 1, 1)])
    (s.taken q0 0x0401).armError 0 (some 0) = none ∧ s.flag (CAPU_W0.AUTO_REARM 1) = true ∧
    ((s.taken q0 0x0403).capFree 1).armError 1 (some 0) = none := by decide

theorem witness_CapturesComplete_last :
    let c : Cap := { start := some 0, pre := 0, post := 1 }
    let s := { up [(CAPU_W0.STATE 0, 2)] with trg := { caps := List.replicate 16 c } }
    let x : CapSend := { session := 0, seq := 1, unit := 1, level := 0, dest := some (0, false, 0, 0), haddr := 0 }
    s.capState 0 = 2 ∧ (s.cap 0).start.isSome = true ∧ (s.cap 0).pre + (s.cap 0).post ≤ (s.cap 0).ivs.length + 1 ∧
    ({ State.reset with trg := { sends := [x] } } : State).trg.sends.find? (fun x => x.session == 0 && x.seq == 1) = some x := by decide

theorem witness_TriggersComplete :
    let e : TrigIn := { kind := 0, src := 0, inst := 0, raw := 0, epoch := 1, vals := [] }
    let r : EvRec := { unit := 0, words := [] }
    let s := owning (ready [(TRGU_W0.EN 0, 1), (TRGU_W0.EN 1, 1), (TRGU_W0.SRC_KIND 1, 7), (STR_W15.STATE 0, 1), (STR_W0.KIND 0, 3)])
    let t := { s with trg := { s.trg with inq := [e], buf := [r] } }
    t.trg.inq.find? (fun x => x.kind == 0 && x.src == 0) = some e ∧ t.trgReads 0 e.kind e.src = true ∧ e.kind ≠ 6 ∧ s.admits q0 ∧ s.trgOn 1 = true ∧ s.trgKind 1 = 7 ∧ s.trgOwner 1 = some 0 ∧
    s.dev ≠ 1 ∧ s.trgMute = false ∧
    t.trg.buf.find? (fun e => (t.recStream e).isSome) = some r := by
  unfold State.admits State.serves
  decide

/-- Ridge bus enabled, both lanes UP. -/
def lanes (l : List (Fld × Nat)) : State := up ([(RDG_CFG.EN, 1), (upFld false, 1), (upFld true, 1)] ++ l)

/-- A frame of node 5 on RDG_E. -/
def h0 : RidgeHdr := { laneW := false, origin := 5, hops := 0, seq := 0, corr := 0, time := 0, arrival := 0 }

theorem witness_TriggersComplete_ridge :
    let s := lanes []
    let g : RidgeTrig := { execAt := 0, tref := 0, id := 0, origin := 5, seq := 0, late := false }
    let t := owning { up [(CAPU_W0.RIDGE_EN 0, 1), (CAPU_W0.STATE 0, 1)] with ridge := { trigs := [g] } }
    s.ridgeOn = true ∧ s.laneUp h0.laneW = true ∧ h0.origin ≠ s.nodeId ∧ s.ridge.seen.contains (h0.origin, h0.seq) = false ∧
    t.ridge.trigs = [g] ∧ t.flag (CAPU_W0.RIDGE_EN 0) = true ∧ t.get (CAPU_W0.RIDGE_ID 0) = g.id.toNat ∧ t.capState 0 = 1 ∧
    (t.capOwner 0).isSome = true := by decide

theorem witness_BrillouinCompletes :
    let c : BrlPeriod := { start := 0, fb := 0, npt := 1, wide := false, run := [], fold := [], counts := [] }
    let s := { sweep [(brlEnFld .a, 1)] with brl := { portA := { cur := some c }, inflight := [shot0 false] } }
    let g := 3600000000000 * ns
    s.brl.inflight.find? (fun i => i.port == Port.a && i.pos == 0) = some (shot0 false) ∧ (s.brlPort .a).closing = none ∧
    (s.brlPort .a).cur = some c ∧ c.start ≤ (shot0 false).launch ∧ (s.cycleBoundary).isSome = true ∧ s.closeDue .a g = true ∧
    c.restarted = false := by decide

theorem witness_BrillouinCompletes_ready :
    let c : BrlPeriod := { start := 0, fb := 0, npt := 1, wide := false, run := [], fold := [], counts := [] }
    let s := ready [(BRL_RES_STAT.READY 0, 1)]
    let t := { s with brl := { portA := { closing := some c } } }
    s.admits q0 ∧ s.admitsLong q0 ∧ s.flag (BRL_RES_STAT.READY Port.a.idx) = true ∧ s.flag (BRL_BASE.BUSY Port.a.idx) = false ∧ s.owner = 0 ∧
    s.dev ≠ 1 ∧ (t.brlPort .a).closing = some c := by
  unfold State.admitsLong State.admits State.serves
  decide
set_option maxRecDepth 20000 in
theorem witness_ReedArithmeticIssues :
    let a : ReedArgs := { arg := 0, xm := 0, ym := 0 }
    let s := State.reset
    (s.flag (REED_UNIT.BUSY 15) = false ∧ 15 < s.reed.units.length ∧ (s.runit 15).pend = [] ∧ (s.runit 15).loops = []) ∧ a.xm = 0 ∧ a.ym = 0 ∧
    [ROp.addi, .movi, .mpy, .mac, .msu, .sqa, .adda, .suba, .adds, .shra, .shla, .absa, .bexp, .nrm, .movad, .movda, .mov, .movf, .mant,
      .ash].all (fun op => reedOk op a) = true := by decide

set_option maxRecDepth 20000 in
theorem witness_ReedSequencingIssues :
    let a : ReedArgs := { arg := 0, xm := 0, ym := 0 }
    let s := State.reset
    (s.flag (REED_UNIT.BUSY 0) = false ∧ 0 < s.reed.units.length ∧ (s.runit 0).pend = [] ∧ (s.runit 0).loops = []) ∧ a.xm = 0 ∧ a.ym = 0 ∧
    1 ≤ (s.runit 0).lanes.length ∧
    [ROp.nop, .endPass, .rotw, .ldp, .addp, .setam, .setq].all (fun op => reedOk op a) = true ∧
    [ROp.loop, .loopr].all (fun op => reedOk op { a with arg := 1 }) = true := by decide

theorem witness_ReedSequencingIssues_count :
    let s := { State.reset with reed := { units := List.replicate 16 { lanes := List.replicate 16 { r := List.replicate 32 1 } } } }
    (1 : BitVec 16) ≠ 0 ∧ 1 ≤ (s.runit 0).lanes.length ∧ ∀ y ∈ (s.runit 0).lanes, y.reg (s.runit 0).rb 0 = 1 := by decide

set_option maxRecDepth 20000 in
theorem witness_ReedSequencingIssues_whole :
    let a : ReedArgs := { arg := 0, xm := 0, ym := 0 }
    let s := up [(REED_UNIT.BUSY 14, 1), (REED_UNIT.SLOT 14, 15), (REEDS_W0.WHOLE 15, 1), (REEDS_W0.STATE 15, 1)]
    s.flag (REED_UNIT.BUSY 14) = true ∧ s.flag (REEDS_W0.WHOLE (s.get (REED_UNIT.SLOT 14))) = true ∧ s.slotState (s.get (REED_UNIT.SLOT 14)) ≠ 2 ∧
    14 % 2 = 0 ∧ 14 < s.reed.units.length ∧ (s.runit 14).pend = [] ∧ (s.runit 14).loops = [] ∧ a.imm6 = 0 ∧ a.pFlag = false ∧ a.cFlag = false ∧
    a.zFlag = false ∧ reedOk .sethd a = true ∧ reedOk .dput { a with xm := 0x20000 } = true ∧ reedOk .dget { a with xm := 0x40000 } = true ∧
    reedOk .dtap { a with ym := 0x20000 } = true := by decide

theorem witness_ReedSlotsComplete :
    let x : FeedSample := { it := 0, xs := [(0, .good)], ts := 0, chDt := 0, epoch := 1, bank := false }
    let s := { ready [(REEDS_W0.STATE 0, 2), (REEDS_W6.BLOCK 0, 1), (REEDS_W3.N_CH 0, 1), (REEDS_W0.UNIT 0, 3), (REED_UNIT.BUSY 3, 1)] with
      reed := { slots := updAt (List.replicate 16 {}) 0 (fun y => { y with feed := { nch := 1 }, samples := [x] }) } }
    let t := { State.reset with reed := { slots := updAt (List.replicate 16 {}) 15 (fun y => { y with startAt := some 0 }) } }
    s.readyBlock 0 = some [x] ∧ (s.rslot 0).clearAt = [] ∧ s.slotState 0 = 2 ∧ (s.rslot 0).outs = [] ∧
    s.get (REEDS_W0.OWNER 0) < s.qcp.sess.length ∧ s.flag (REED_UNIT.BUSY 3) = true ∧ s.get (REED_UNIT.SLOT 3) = 0 ∧
    s.flag (REEDS_W0.WHOLE 0) = false ∧ decodeReed 0xFFFFFFFFFFFFFFFF = none ∧
    (t.rslot 15).startAt = some 0 ∧ 15 < t.reed.slots.length ∧ 1048575 + ([0] : List Byte).length ≤ 1048576 := by decide

theorem witness_ReedSlotsComplete_owner :
    let s := owning (ready [(REEDS_W0.STATE 0, 1), (REEDS_W6.BLOCK 0, 1), (REEDS_W3.N_CH 0, 1), (REEDS_W5.C_MAX 0, 1), (REEDS_W0.STATE 1, 2)])
    s.admits q0 ∧ s.admitsLong q0 ∧ s.slotOwner 0 = some 0 ∧ s.slotState 0 = 1 ∧ s.startConflict 0 = false ∧ s.dev ≠ 1 ∧ s.slotOwner 1 = some 0 ∧
    s.slotState 1 = 2 ∧ (s.rslot 1).outs = [] ∧ s.slotState 15 = 0 ∧ (s.rslot 15).load = none ∧ (s.taken q0 0x0701).unitsHeld [14] = false ∧
    (s.taken q0 0x0701).reedUse 0 < (s.sess 0).quotas.reed ∧ (s.taken q0 0x0701).isOverdrawn 0 = false := by
  unfold State.admitsLong State.admits State.serves
  decide

theorem witness_PairLinkCompletes :
    let s := { sweep [(PAIR_CFG.EN, 1), (PAIR_STATUS.ROLE, 1)] with strm := { held := some [] } }
    let t := up [(PAIR_CFG.EN, 1), (PAIR_STATUS.ROLE, 2)]
    s.pairOn = true ∧ s.role = 1 ∧ t.pairOn = true ∧ t.role ≠ 1 ∧ s.grid.running = true ∧ s.grid.started = true ∧ s.strm.held = some [] ∧
    s.pairCycleAt s.pairCycle ≤ s.grid.align + (s.grid.k + 1) * s.tSw := by decide

/-- A snapshot of 68 bytes that is whole and sound. -/
def snap0 : List Byte := beBytes 4 0x50530100 ++ List.replicate 60 0 ++ wordBytes (crc32c (beBytes 4 0x50530100 ++ List.replicate 60 0))

set_option maxRecDepth 20000 in
theorem witness_PairLinkCompletes_snap :
    snap0.length = 68 ∧ wordBytes (crc32c (snap0.take (snap0.length - 4))) = snap0.drop (snap0.length - 4) ∧
    snapWord snap0 0 = 0x50530100 := by decide

/-- A healthy standby of a pair: its snapshot is fresh, the referee and its partner have just been heard. -/
def standby (l : List (Fld × Nat)) : State :=
  { up ([(PAIR_CFG.EN, 1), (PAIR_STATUS.ROLE, 2), (PAIR_STATUS.LINK_UP, 1), (SYS_STATE.STATE, 4), (LSD_LASER_STATUS.LOCK, 1),
      (OCX_STATUS.SYN_LOCK, 1), (RDG_STATUS.LOCKED, 1), (PAIR_SNAP.AGE, 0), (RDG_CFG.EN, 1), (upFld false, 1), (upFld true, 1)] ++ l) with
    pair := { refAt := some 0, snap := some [], sent := [(0, 0)], partner := some (0, 0xFFF) } }

set_option maxRecDepth 20000 in
theorem witness_PairTakesComplete :
    let s := up [(PAIR_CFG.EN, 1), (PAIR_STATUS.ROLE, 1), (PAIR_STATUS.REF_LOST, 1)]
    let u := s.at (s.echoTime + us 500)
    let v := { s with pair := { partner := some (us 500, 0) } }
    let t := { standby [] with pair := { takeAt := some 0 } }
    s.role = 1 ∧ u.pair.partner.any (fun p => u.recent (some p.1) && !p.2.getLsbD 7) = false ∧ s.flag PAIR_STATUS.REF_LOST = true ∧ v.role = 1 ∧
    ((v.at (v.echoTime + us 500)).pair.partner.any (fun p => (v.at (v.echoTime + us 500)).recent (some p.1) && !p.2.getLsbD 7)) = true ∧
    ({ s with pair := { stopAt := some 0 } } : State).pair.stopAt = some 0 ∧ t.pair.stopAt = none ∧ t.pair.takeAt = some 0 ∧ t.dev = 4 ∧
    s.pairOn = true ∧ t.pairOn = true ∧ t.role ≠ 1 := by decide

set_option maxRecDepth 20000 in
theorem witness_PairTakesComplete_switch :
    let w : Switch := { ts := 0, w := 0, incoming := true }
    let s := { standby [] with pair := { switch := some w } }
    let t := { standby [] with pair := { (standby []).pair with switch := some w, making := true } }
    let u := { up [(PAIR_STATUS.ROLE, 1)] with pair := { switch := some { w with incoming := false } } }
    let v := { u with pair := { u.pair with partner := some (0, 0xFF7#12 &&& 0x7FF#12) } }
    let r := { up [(PAIR_RCFG.EN, 1), (PAIR_RSTAT.STATE, 5)] with pair := { ref := { switchAt := some 0 } } }
    s.pair.switch = some w ∧ s.dev = 4 ∧ w.incoming = true ∧ s.pair.making = false ∧ (s.pair.making && healthy s.healthWord) = false ∧
    t.pair.making = true ∧ healthy t.healthWord = true ∧ u.role = 1 ∧
    u.pair.partner.any (fun p => u.recent (some p.1) && ableWord p.2.toNat) = false ∧
    v.pair.partner.any (fun p => v.recent (some p.1) && ableWord p.2.toNat) = true ∧
    r.pair.switch = none ∧ r.pair.ref.switchAt = some 0 ∧ r.refOn = true ∧ r.get PAIR_RSTAT.STATE = 5 := by decide

set_option maxRecDepth 20000 in
theorem witness_PairTakesComplete_command :
    let s := standby []
    let b := [0 * 65536, 1 * 2 ^ 28 + s.nodeId.toNat, 0, 0, 0, 0, 0, 0].flatMap (beBytes 4)
    let u := (s.goodFrame h0.laneW).forward h0 8 b
    let v := { u with ridge := { u.ridge with seen := u.ridge.seen ++ [(h0.origin, h0.seq)] } }
    s.ridgeOn = true ∧ s.laneUp h0.laneW = true ∧ h0.origin ≠ s.nodeId ∧ u.ridge.seen.contains (h0.origin, h0.seq) = false ∧ v.pairOn = true ∧
    v.get PAIR_CFG.PAIR_ID = 0 ∧ s.nodeId = v.nodeId ∧ v.dev = 4 ∧ v.eligible = true := by decide

set_option maxRecDepth 20000 in
theorem witness_PairHealthCompletes :
    let s := standby [(SYS_STATE.STATE, 3)]
    let t := { s with pair := { s.pair with stopped := true } }
    let r := { up [(PAIR_RCFG.EN, 1), (RDG_CFG.EN, 1), (upFld false, 1), (PAIR_RCFG.NODE_A, 5), (PAIR_RCFG.NODE_B, 6), (PAIR_RSTAT.STATE, 2)] with
      pair := { ref := { nodeB := { seen := true, depart := us 300, st := 4, health := 0x7F7 } } } }
    let u := r.at ((r.refNode false).depart + us 300 + r.refDelay false)
    t.pairOn = true ∧ t.pair.stopped = true ∧ healthy t.healthWord = true ∧ t.dev = 3 ∧ r.refOn = true ∧ 2 ≤ r.get PAIR_RSTAT.STATE ∧
    r.flag PAIR_RSTAT.ACTIVE_B = false ∧ u.refEligible true = true ∧ u.refEligible false = false ∧ r.pairOn = false ∧
    (up [(PAIR_RCFG.EN, 1), (PAIR_RSTAT.STATE, 4)]).get PAIR_RSTAT.STATE = 4 ∧ r.ridgeOn = true ∧ r.laneUp false = true ∧ (5 : BitVec 12) ≠ r.nodeId ∧
    r.refId false ≠ r.refId true ∧ (5 : BitVec 12).toNat = r.refId false := by decide

theorem witness_PairHealthCompletes_host :
    let s := { ready [(PAIR_CFG.EN, 1), (PAIR_STATUS.ROLE, 1)] with pair := { host := some 0 } }
    let x := standby []
    let t := { x with power := { x.power with qcpReady := true }, qcp := { x.qcp with sess := updAt x.qcp.sess 0 (fun y => { y with isOpen := true }) }
                      pair := { x.pair with host := some 0 } }
    s.admits q0 ∧ s.admitsLong q0 ∧ s.isReferee q0 = true ∧ s.pairOn = true ∧ s.get PAIR_CFG.PAIR_ID = (0 : BitVec 12).toNat ∧ s.role = 1 ∧
    s.pair.switch = none ∧ t.admits q0 ∧ t.isReferee q0 = true ∧ t.eligible = true := by
  unfold State.admitsLong State.admits State.serves
  decide
/-- An output of one channel. -/
def out0 : BOut := { idx := 0, ts := 0, chDt := 0, period := 0, epoch := 1, bank := false, vals := [([0], .good)] }

/-- A closed batten of stream 63 that waits for an egress. -/
def egr0 (e : Egress) : Egr := { stream := 63, seq := 0, prio := 0, egress := e, closed := 0, bytes := List.replicate 64 0, udp := { fragMax := 1000 } }

theorem witness_StreamsComplete_close :
    let s := { owning (up [(STR_W15.STATE 0, 1), (STR_W15.STATE 1, 2), (STR_W0.KIND 0, 3)]) with
      strm := { st := updAt (List.replicate 64 {}) 0 (fun x => { x with open_ := [out0] }) } }
    s.strState 0 = 1 ∧ (s.str 0).open_ ≠ [] ∧ (s.periodFull 0 || s.lastOut 0 || s.strKind 0 == 3) = true ∧ s.strState 1 = 2 ∧
    s.strOwner 1 = some 0 ∧ s.isOverdrawn 0 = false ∧ (∀ m < 64, s.strState m = 2 → s.strOwner m = some 0 → (s.str 1).order ≤ (s.str m).order) ∧
    s.handedOver.streamsFit 0 (1 :: s.handedOver.runningOf 0) = true ∧ (s.fillOpen 0).strKind 0 = 3 := by decide

set_option maxRecDepth 20000 in
theorem witness_StreamsComplete_send :
    let e := { egr0 (.eth 1) with frag := 1 }
    let g := egr0 (.ring 7)
    let s := { up [(NET_W1.LINK 1, 1)] with strm := { q := [e] } }
    let t := { up [(RING_W2.LOG2 7, 20)] with strm := { q := [g] } }
    let u := { up [(RING_W2.LOG2 7, 20), (RING_W6.WPTR 7, 2 ^ 20 - 64)] with strm := { q := [g] } }
    s.flag (NET_W1.LINK 1) = true ∧ s.bpHeld 2 = false ∧ s.flag (STR_PORT.SCHED 1) = false ∧
    ((s.strm.q.filter (fun e => e.egress == .eth 1)).find? (fun e => decide (0 < e.frag))).orElse
      (fun _ => pickEgr (s.strm.q.filter (fun e => e.egress == .eth 1)) (fun e => s.hopKnown 1 e.udp)) = some e ∧ e.frag ≤ e.frags ∧
    s.get PTB_CRC.N = 0 ∧ pickEgr (t.strm.q.filter (fun e => e.egress == .ring 7)) (fun _ => true) = some g ∧ t.bpHeld 1 = false ∧
    (g.bytes.length + 63) / 64 * 64 ≤ t.ringFree 7 ∧ u.ringFree 7 < (g.bytes.length + 63) / 64 * 64 := by decide

theorem witness_StreamsComplete :
    let e := egr0 (.eth 0)
    let s := { owning (ready [(STR_PORT.SCHED 0, 1)]) with
      strm := { q := [e], st := updAt (List.replicate 64 {}) 63 (fun x => { x with resendQ := [0] }) } }
    (s.strm.q.filter (fun e => e.egress == .eth 0 && e.frag == 0)).foldl (fun (b : Option Egr) e =>
      match b with
      | none => some e
      | some y => if e.closed < y.closed then some e else some y) none = some e ∧
    s.flag (STR_PORT.SCHED 0) = true ∧ (s.str 63).resendQ = 0 :: [] ∧ s.admits q0 ∧ s.strOwner 63 = some 0 ∧ s.dev ≠ 1 ∧
    63 < s.strm.st.length ∧ (s.rd (STR_W10.SEQ 63).addr - 1 - (0xFFFFFFFF : BitVec 32)).toNat < 2 ^ 31 := by
  unfold State.admits State.serves
  decide

theorem witness_StreamsComplete_window :
    let s := up [(STR_PORT.SCHED 1, 1)]
    s.flag (STR_PORT.SCHED 1) = true ∧ s.get (LWIN_W0.PERIOD 1) * 1000 * ns = 1000000 * ns ∧
    s.get (LWIN_W1.OFFSET 1) * ns = 0 ∧ 0 < s.get (LWIN_W0.PERIOD 1) * 1000 * ns := by decide

theorem witness_SelfTestCompletes :
    let s := ready [(SYS_STATE.STATE, 2)]
    let t := sweep []
    let u := { t with power := { t.power with qcpReady := true }, qcp := { t.qcp with sess := updAt t.qcp.sess 0 (fun y => { y with isOpen := true }) } }
    let v := { ready [(SYS_STATE.STATE, 7), (BIST_STATUS.READY, 1)] with power := { (ready []).power with report := some [] } }
    s.admitsLong q0 ∧ s.dev ≠ 0 ∧ s.dev ≠ 6 ∧ s.power.op = none ∧ s.owner = 0 ∧ ¬ (s.pairOn = true ∧ s.get PAIR_STATUS.ROLE = 1) ∧
    s.sweeping = false ∧ u.admitsLong q0 ∧ u.dev ≠ 0 ∧ u.dev ≠ 6 ∧ u.power.op = none ∧ u.owner = 0 ∧
    ¬ (u.pairOn = true ∧ u.get PAIR_STATUS.ROLE = 1) ∧ u.sweeping = true ∧ v.admits q0 ∧ v.power.op = none ∧ v.dev = 7 ∧ v.owner = 0 ∧
    v.flag BIST_STATUS.READY = true ∧ v.newestReport = some [] := by
  unfold State.admitsLong State.admits State.serves
  decide

theorem witness_SelfTestCompletes_item :
    let x : SelfTest := { shutdown := true, item := 0, start := 0, since := 0, epoch := 1 }
    let s := { State.reset with power := { State.reset.power with test := some x } }
    let t := { State.reset with power := { State.reset.power with test := some { x with item := 5 } } }
    s.startTest.power.test = some x ∧ nextItem (s.startTest.get BIST_MASK.MASK) (x.item + 1) < 6 ∧
    t.startTest.power.test = some { x with item := 5 } ∧ nextItem (t.startTest.get BIST_MASK.MASK) (5 + 1) = 6 := by decide

theorem witness_ResetsComplete :
    let e : Episode := { reach := 2, since := 0, sources := [.wdog], hot := false, flashHold := 100 }
    let s := { State.reset with power := { State.reset.power with episode := some e } }
    let t := { State.reset with isl := { State.reset.isl with up := true }, power := { State.reset.power with blockRst := some (2, 0) } }
    State.reset.power.episode = none ∧ State.reset.pathOwns (.qcp 0) = true ∧ State.reset.blockAllowed 2 = true ∧ t.isl.up = true ∧
    s.power.episode = some e ∧ e.hot = false ∧ s.flag KEY_STATUS.SCAN = false ∧ e.reach = 2 ∧ t.power.blockRst = some (2, 0) ∧
    (ready []).admits q0 ∧ (ready []).owner = 0 ∧
    (Instr.warmrstNLow 1000, RstSource.warmrst, 2) ∈ [(Instr.powerOn, RstSource.power, 4), (.supplyDrop, .supply, 4), (.poresetNLow 1000, .poreset, 4),
      (.thermalReset true, .thermal, 3), (.watchdogExpire, .wdog, 2), (.warmrstNLow 1000, .warmrst, 2)] := by
  unfold State.admits State.serves
  decide

theorem witness_CalCompletes :
    let s := ready [(CALREC_W0.READY 12, 1)]
    let t := { up [(CAL_DUE.DUE, 1)] with cal := { State.reset.cal with doms := updAt State.reset.cal.doms 12 (fun x => { x with retry := true }) } }
    let u := { State.reset with cal := { State.reset.cal with ownerDirty := true } }
    s.admits q0 ∧ s.admitsLong q0 ∧ (8191 : BitVec 64).toNat ≤ 8191 ∧ s.dev ≠ 1 ∧ s.owner = 0 ∧ s.cal.restore = none ∧ s.flag (CALREC_W0.READY 12) = true ∧
    500 < ((501 : Int) - State.reset.dmc.trainTemp).natAbs ∧ 0 < t.cal.doms.length ∧ (t.cbit CAL_STATUS.RUNNING 0 || t.cbit CAL_DUE.DUE 0) = true ∧
    t.calBlocked 0 = false ∧ t.calWaits 0 = false ∧ (t.dom 0).ready = none ∧ (t.dom 12).retry = true ∧ t.cbit CAL_STUCK.STUCK 12 = false ∧
    (t.dom 0).steps + (!true).toNat < calSteps 0 ∧ u.cal.ownerDirty = true := by
  unfold State.admitsLong State.admits State.serves
  decide

/-- The island runs and its reference is settled. -/
def island (l : List (Fld × Nat)) (r : Rounds) : State :=
  { up l with isl := { State.reset.isl with up := true, rounds := r }, cyc := 5 * msCyc }

theorem witness_BarrierMessagesComplete :
    let s := island [] {}
    s.isl.up = true ∧ s.isl.regs.read 0x130008 = s.isl.regs.read 0x130008 ∧ s.isl.regs.read 0x130008 ≠ s.isl.regs.read 0x130008 + 1 ∧
    s.isl.rounds.reg = none ∧ s.isl.rounds.inj = none := by decide

theorem witness_FieldEventsComplete :
    let s := island [(FLD_FOUT.ACT, 2)] { reg := some {} }
    let t := { s with isl := { s.isl with settling := true } }
    State.reset.isl.up = false ∧ s.isl.up = true ∧ s.get FLD_FOUT.ACT / 2 ^ 1 % 2 = 1 ∧ t.isl.settling = true ∧
    s.isl.rounds.inj = none ∧ s.isl.rounds.reg = some {} ∧ s.refSettled 0 = true := by decide

theorem witness_FieldEventsComplete_monitor :
    let s := up [(MON_CTRL.RSTART, 1), (MON_CTRL.N_REG, 1)]
    let t := { up [(MON_CTRL.N_REG, 1)] with mon := { rounds := { reg := some {} } }, cyc := 100 * msCyc }
    s.get MON_CTRL.RSTART = 1 ∧ s.mon.rounds.reg = none ∧ s.get MON_CTRL.N_REG ≠ 0 ∧ (t.at 0).updMonRef.mon.rounds.inj = none ∧
    (t.at 0).updMonRef.mon.rounds.reg = some {} ∧ (t.at 0).updMonRef.flag MON_CTRL.REF_OK = true := by decide

theorem witness_FieldCommandsComplete :
    let s := ready [(FLDRES_W0.READY 7, 1), (MONRES_W0.READY 39, 1), (MON_CTRL.N_REG, 1), (MON_CTRL.N_INJ, 1)]
    s.power.episode = none ∧ (s.pathSession (.qcp 0)).isSome = true ∧ s.pathOwns (.qcp 0) = true ∧ s.mon.rounds.reg = none ∧
    s.get MON_CTRL.N_REG ≠ 0 ∧ s.mon.rounds.inj = none ∧ s.get MON_CTRL.N_INJ ≠ 0 ∧ s.admits q0 ∧ s.flag (FLDRES_W0.READY 7) = true ∧
    s.flag (MONRES_W0.READY 39) = true ∧ (3 : BitVec 64).toNat ≤ 3 ∧ s.owner = 0 := by
  unfold State.admits State.serves
  decide
theorem witness_ClockRequestsComplete :
    (ready [(PTP_CFG.SRC, 1)]).admits q0 ∧ (ready [(PTP_CFG.SRC, 1)]).get PTP_CFG.SRC = 1 ∧ (ready [(PTP_CFG.SRC, 1)]).owner = 0 ∧
    (ready [(PTP_CFG.SRC, 1)]).owner ≠ 1 ∧ (ready [(PTP_CFG.SRC, 2)]).admits q0 ∧
    (ready [(PTP_CFG.SRC, 2)]).get PTP_CFG.SRC ≠ 1 := by
  unfold State.admits State.serves
  decide

theorem witness_PtpCompletes :
    let y : SyncRx := { seqId := 0, t1 := none, t2 := 0, corr := 0 }
    let s := { up [(PTP_STATUS.PSTATE, 6), (PTP_CFG.MASTER, 1), (PTP_CFG.SRC, 0)] with ptp := { sync := some y, delayReq := some (0, 0) } }
    let t := { s with ptp := { sync := some { y with t1 := some 0 }, delayReq := some (0, 0) } }
    (1 : Fin 2).val ≠ s.ptpPort ∧ (0 : Fin 2).val = s.ptpPort ∧ s.ptp.sync = some y ∧ y.t1 = none ∧ t.ptp.sync = some { y with t1 := some 0 } ∧
    t.ptp.delayReq = some (0, 0) ∧ s.get PTP_STATUS.PSTATE = 6 ∧ s.flag PTP_CFG.MASTER = true ∧ s.get PTP_CFG.SRC = 0 ∧
    s.ptp.master = none ∧ (up [(PTP_STATUS.PSTATE, 9)]).get PTP_STATUS.PSTATE = 9 ∧ (up [(PTP_CFG.SRC, 1)]).get PTP_CFG.SRC ≠ 0 := by decide

set_option maxRecDepth 20000 in
theorem witness_EthernetCompletes :
    let s := up [(NET_W0.EN 1, 1)]
    let t := { up [(NET_W1.LINK 1, 1)] with net := { hops1 := [{ addr := 0, mac := none }] } }
    let f : EthFrame := { dst := 0xFFFFFFFFFFFF, src := 0, vlan := none, fcsOk := true, kind := .other }
    let v := up [(NET_W1.LINK 0, 1), (NET_W0.VLAN 0, 1)]
    v.flag (NET_W0.VLAN 0) = true ∧ t.flag (NET_W0.VLAN 0) = false ∧
    s.flag (NET_W0.EN 1) = true ∧ s.flag (NET_W1.LINK 1) = false ∧ t.flag (NET_W1.LINK 1) = true ∧ (∀ h ∈ t.hops 1, h.addr = 0 → h.mac = none) ∧
    t.power.episode = none ∧ f.fcsOk = true ∧ frameSized f = true ∧ frameSized { f with size := 63 } = false ∧ t.routedBy 1 0 = false ∧ f.kind ≠ .pause ∧ v.flag (NET_W1.LINK 0) = true := by decide

theorem witness_EthernetCompletes_frame (s t : State) (hs : s.flag (NET_W0.VLAN 0) = false) (ht : t.flag (NET_W0.VLAN 0) = true) :
    let f : EthFrame := { dst := 0xFFFFFFFFFFFF, src := 0, vlan := none, fcsOk := true, kind := .other }
    s.acceptsFrame 0 f = true ∧ t.acceptsFrame 0 f = false := by
  simp [State.acceptsFrame, hs, ht]

set_option maxRecDepth 20000 in
theorem witness_TimeBaseCompletes :
    let s := up [(OCX_CTRL.SRC, 1), (OCX_STATUS.HOLD, 1), (OCX_STATUS.SYN_LOCK, 1), (OCX_CTRL.PPS_EN, 1)]
    let t := { s with tb := { lastEdge := [some 0, none, none, none, some 0] } }
    s.get OCX_CTRL.SRC ≠ 0 ∧ s.flag OCX_STATUS.HOLD = true ∧ s.flag OCX_STATUS.SYN_LOCK = true ∧
    (up [(OCX_STATUS.SYN_LOCK, 0)]).flag OCX_STATUS.SYN_LOCK = false ∧
    s.power.episode = none ∧ s.flag OCX_CTRL.PPS_EN = true ∧ s.power.pins.ppsOut = false ∧ 4 < s.tb.lastEdge.length ∧
    s.tb.lastEdge.getD 4 none = none ∧ t.tb.lastEdge.getD 4 none = some 0 ∧ 0 ≤ stamp 0 ∧ stamp (19 * ns) < 0 + 20 * ns ∧
    0 + 20 * ns ≤ stamp (20 * ns) ∧ s.edgeSelected 3 true = true ∧ s.tb.lastEdge.getD 3 none = none := by decide

theorem witness_IntervalCounterCompletes :
    let s := ready [(TICRES_W0.READY, 1)]
    let t := { up [(TIC_CTRL.RUN, 1), (TIC_CFG.MODE, 0), (TIC_CFG.START, 5), (TIC_CFG.STOP, 4), (TIC_CFG.TIMEOUT, 1)] with
      tb := { tic := { start := some 0 } } }
    let u := { up [(TIC_CTRL.RUN, 1), (TIC_CFG.MODE, 1), (TIC_K.K, 1)] with tb := { tic := { start := some 0, edges := 0 } } }
    s.admits q0 ∧ s.admitsLong q0 ∧ s.flag TIC_CTRL.RUN = false ∧ 2 ≤ 16777216 ∧ s.flag TICRES_W0.READY = true ∧ t.flag TIC_CTRL.RUN = true ∧
    t.get TIC_CFG.MODE = 0 ∧ t.tb.tic.start = some 0 ∧ (((4 : Nat) == t.get TIC_CFG.START) && (true != t.flag TIC_CFG.POL_START)) = false ∧
    (((4 : Nat) == t.get TIC_CFG.STOP) && (true != t.flag TIC_CFG.POL_STOP)) = true ∧ 0 < 20 * 256 ∧ t.get TIC_CFG.TIMEOUT ≠ 0 ∧
    u.flag TIC_CTRL.RUN = true ∧ u.get TIC_CFG.MODE ≠ 0 ∧ u.tb.tic.start = some 0 ∧ u.tb.tic.edges + 1 = u.get TIC_K.K := by
  unfold State.admitsLong State.admits State.serves
  decide

theorem witness_RidgeFramesComplete :
    let s := { lanes [(PTP_CFG.SRC, 2), (PAT_CTRL.SWAP_SRC, 2), (RDG_CFG.TMASTER, 1), (RDG_CFG.NODE_ID, 6)] with
      ridge := { laneE := { t1 := some 0, badRun := 7 } } }
    s.ridgeOn = true ∧ s.laneUp h0.laneW = true ∧ (s.lane h0.laneW).t1 = some 0 ∧ h0.origin ≠ s.nodeId ∧ h0.origin < s.nodeId ∧
    8 ≤ (s.lane false).badRun + 1 ∧ (s.lane true).badRun + 1 < 8 ∧ (h0.origin, h0.seq) ∉ s.ridge.seen ∧ s.get PTP_CFG.SRC = 2 ∧
    s.get PAT_CTRL.SWAP_SRC = 2 ∧ s.get RDG_SYNC.GROUP = (0 : BitVec 8).toNat := by decide

theorem witness_RidgeLanesComplete :
    let n : RidgeNode := { id := 5, serial := 0 }
    let s := { lanes [(RDG_CFG.TMASTER, 1), (RDG_FLASH.BYP_EN, 1)] with ridge := { nodes := [n] } }
    let t := up [(RDG_CFG.EN, 1), (RDG_STATUS.INS, 1)]
    s.laneUp false = true ∧ s.laneUp true = true ∧ s.ridgeOn = true ∧ s.get PTB_RDROP.N = 0 ∧ s.get PTB_CRC.N = 0 ∧ s.flag RDG_CFG.TMASTER = true ∧
    s.ridge.yielded = false ∧ s.flag RDG_STATUS.DUPID = false ∧ n ∈ s.ridge.nodes ∧ s.flag RDG_FLASH.BYP_EN = true ∧
    s.flag RDG_STATUS.INS = false ∧ s.power.episode = none ∧ t.ridgeOn = true ∧ t.laneUp false = false ∧ t.flag RDG_STATUS.INS = true := by decide

theorem witness_MemoryControllerCompletes :
    let s := State.reset
    let t := { up [(fFld 3, 3)] with dmc := { debt := List.replicate 4 (List.replicate 16 8) } }
    let u := { up [(fFld 0, 2)] with dmc := { burst := List.replicate 4 (List.replicate 16 1), tables := List.replicate 16 [(0, 0)] } }
    s.dmc.debt.length = 4 ∧ s.dmc.burst.length = 4 ∧ (∀ l ∈ s.dmc.debt, l.length = 16) ∧ bankVal t.dmc.burst 3 15 = 0 ∧
    3 ≤ t.get (fFld 3) ∧ bankVal t.dmc.debt 3 15 ≠ 0 ∧ bankVal u.dmc.burst 0 0 ≠ 0 ∧ bankVal s.dmc.burst 0 15 = 0 ∧
    ¬ (s.get (fFld 0) ≤ 2 ∧ 8 ≤ bankVal s.dmc.debt 0 15) ∧ 15 < s.dmc.tables.length ∧
    (u.dmc.tables.getD 15 []).find? (fun e => e.1 == 0) = some (0, 0) ∧ s.dmc.selfRefresh = false ∧ s.dmc.resetLow = false ∧
    s.stallHeld 3 = false ∧ s.bpHeld 0 = false ∧ s.get DMC_STATUS.FSP = s.fspWanted ∧
    (up [(DMC_CFG.AUTO, 1), (SYS_STATE.STATE, 2)]).get DMC_STATUS.FSP ≠ (up [(DMC_CFG.AUTO, 1), (SYS_STATE.STATE, 2)]).fspWanted := by decide

theorem witness_PerturbationCompletes :
    let s := ready []
    let t := { s with ptb := { s.ptb with by_ := some 0 }, qcp := { s.qcp with sess := updAt s.qcp.sess 0 (fun x => { x with auth := true }) } }
    s.admits q0 ∧ s.ptbRight 0 = false ∧ t.admits q0 ∧ t.ptbRight 0 = true ∧ (0x180020 : BitVec 24).toNat ∈ ptbWords ∧
    ptbValid 0x180020 (resetWord 0x180020) = true ∧ ¬ ((0x180020 : BitVec 24).toNat = 0x180020 ∧
      1000 * PTB_DSTALL.PERIOD.ofWord (resetWord 0x180020) ≤ PTB_DSTALL.STALL.ofWord (resetWord 0x180020) ∧
        PTB_DSTALL.STALL.ofWord (resetWord 0x180020) ≠ 0) ∧ t.ptb.by_ ≠ none := by
  unfold State.admits State.serves
  decide

theorem witness_BootCompletes :
    let s := State.reset
    let t := { s with qcp := { s.qcp with slotA := .image image0, journal := some (false, 0) }, keys := { kcfg := some [] } }
    s.power.bootDue = true ∧ s.power.episode = none ∧ s.bootSlot = none ∧ (∀ u, s.cal.user = some u → ∀ e ∈ u.words, e.1 ∈ calWords) ∧
    t.power.bootDue = true ∧ t.bootSlot.isSome = true ∧ s.bootWarm = false :=
  ⟨by decide, by decide, by decide, (fun u h => by cases h), by decide, by decide, by decide⟩

theorem witness_TestAccessCompletes :
    let s := ready [(KEY_JTAG.PERMIT, 1)]
    let t := { s with tap := { fresh := true, matched := true, permit := some (0, 0) }, qcp := { s.qcp with sess := updAt s.qcp.sess 0 (fun x => { x with auth := true }) } }
    t.tap.fresh = true ∧ s.tap.fresh = false ∧ s.tap.matched = false ∧ s.flag KEY_JTAG.PERMIT = true ∧ s.flag KEY_STATUS.SCAN = false ∧
    t.tap.permit = some (0, 0) ∧ t.power.episode = none ∧ t.pathOwns (.qcp 0) = true ∧ (t.sess t.owner).auth = true ∧ t.tap.matched = true := by decide

/-- A value that is wrong, and the right one: hypotheses of RESPONSE. -/
theorem witness_TestAccessCompletes_response (s : State) : (∃ v, v = s.scanResponse) ∧ ∃ v, v ≠ s.scanResponse :=
  ⟨⟨_, rfl⟩, s.scanResponse + 1, by simp⟩

theorem witness_Frames : ∃ t, exec .healthUpdate State.reset = .next t := ⟨_, rfl⟩
/-! ## Witnesses of the two statements of next states -/

theorem witness_ChainLinkAndActionCommandsRun :
    let s := sweep [(agcFld .a true, 0)]
    let u := { s with grid := { s.grid with inflight := [{ shot0 true with launched := false }] } }
    let v := { State.reset with phs := { sigDue := true }, dec := { f := [{ out := some { shot0 false with send := false } }] } }
    (s.grid.running && s.grid.started && s.flag (agcFld .a true)) = false ∧ (s.grid.running && s.grid.started && s.flag (agcFld .a false)) = true ∧
    s.rx.visLow = false ∧ u.shotDue .a 0 = some { shot0 true with launched := false } ∧ (shot0 true).sig = true ∧
    v.phs.sigDue = true ∧ v.grid.inflight.any (fun (i : Inflight) => i.sig) = false ∧ (v.filt 0).out = some { shot0 false with send := false } := by
  decide

theorem witness_ChainLinkAndActionCommandsRun_link :
    let s := { sweep [(PAIR_CFG.EN, 1), (PAIR_STATUS.ROLE, 2), (PAIR_STATUS.LINK_UP, 1)] with strm := { held := some [] } }
    let t := up [(PAIR_CFG.EN, 1)]
    s.pairOn = true ∧ s.pair.finalDue = false ∧ s.flag PAIR_STATUS.LINK_UP = true ∧ t.pairOn = true ∧ t.flag PAIR_STATUS.LINK_UP = false ∧
    (255 : BitVec 8).toNat ≠ s.get LSD_LASER.CH ∧ s.role ≠ 1 ∧ ([] : List Byte).length < 68 ∧ s.strm.held = some [] ∧
    s.grid.running = true ∧ s.grid.started = true ∧ s.pairCycleAt s.pairCycle ≤ s.grid.align + (s.grid.k + 1) * s.tSw := by decide

theorem witness_ChainLinkAndActionCommandsRun_counter :
    let s := ready [(TICRES_W0.READY, 1)]
    let t := up [(TIC_CTRL.RUN, 1), (TIC_CFG.MODE, 0), (TIC_CFG.START, 5), (TIC_CFG.TIMEOUT, 1)]
    s.admits q0 ∧ s.admitsLong q0 ∧ s.flag TIC_CTRL.RUN = false ∧ s.flag TICRES_W0.READY = true ∧ (ready []).admits q0 ∧
    (ready []).flag TICRES_W0.READY = false ∧ t.flag TIC_CTRL.RUN = true ∧ 5 = t.get TIC_CFG.START ∧ true ≠ t.flag TIC_CFG.POL_START ∧
    t.tb.tic.start = none ∧ t.get TIC_CFG.MODE = 0 ∧ t.get TIC_CFG.TIMEOUT ≠ 0 := by
  unfold State.admitsLong State.admits State.serves
  decide

theorem witness_ChainLinkAndActionCommandsRun_actions :
    let s := owning (up [(REEDS_W0.STATE 0, 1), (REEDS_W6.BLOCK 0, 1), (REEDS_W3.N_CH 0, 1), (REEDS_W5.C_MAX 0, 1)])
    let t := { up [(TIC_CTRL.RUN, 1)] with tb := { tic := { starter := some 0 } }, pair := { host := some 0 } }
    s.power.episode = none ∧ s.pathSession (.qcp 0) = some 0 ∧ s.armError 0 (some 0) = none ∧ s.capOwner 0 = some 0 ∧ s.slotOwner 0 = some 0 ∧
    s.slotState 0 ≠ 2 ∧ s.startConflict 0 = false ∧ s.dev ≠ 1 ∧ s.flag TIC_CTRL.RUN = false ∧ t.tb.tic.starter = some 0 ∧
    t.power.episode = none ∧ t.pathSession (.qcp 0) = some 0 ∧ t.pair.host.map (·.val) = some 0 := by decide

theorem witness_SensingTimeAndTestCommandsRun :
    let c : BrlPeriod := { start := 0, fb := 0, npt := 1, wide := false, run := [], fold := [], counts := [] }
    let s := { sweep [(brlEnFld .a, 1)] with brl := { inflight := [shot0 false] }, clk := 1000000000 * ns }
    let t := { ready [(BRL_RES_STAT.READY 0, 1)] with brl := { portA := { closing := some c } } }
    s.brl.inflight.find? (fun i => i.port == Port.a && i.pos == 0) = some (shot0 false) ∧ (s.brlPort .a).closing = none ∧
    (s.brlPort .a).cur = none ∧ s.cycleBoundary.isSome = true ∧ t.brl.portA.closing = some c ∧ t.brl.portB.closing = none ∧ t.admits q0 ∧
    t.admitsLong q0 ∧ t.flag (BRL_RES_STAT.READY Port.a.idx) = true ∧ t.flag (BRL_BASE.BUSY Port.a.idx) = false ∧ t.owner = 0 ∧ t.dev ≠ 1 := by
  unfold State.admitsLong State.admits State.serves
  decide

/-- A fold is due: the boundary at hand lies a second after the last. -/
theorem witness_SensingTimeAndTestCommandsRun_fold :
    let s := { sweep [] with grid := { (sweep []).grid with start := 1000000000 * ns } }
    ∃ b, s.cycleBoundary = some b ∧ s.brl.lastFold + 1000000000 * ns ≤ b.1 := ⟨_, rfl, by decide⟩

theorem witness_SensingTimeAndTestCommandsRun_triggers :
    let e : TrigIn := { kind := 0, src := 0, inst := 0, raw := 0, epoch := 1, vals := [] }
    let r : EvRec := { unit := 0, words := [] }
    let s := owning (ready [(TRGU_W0.EN 1, 1), (TRGU_W0.SRC_KIND 1, 7), (STR_W15.STATE 0, 1), (STR_W0.KIND 0, 3)])
    let t := { s with trg := { s.trg with inq := [e], buf := [r] } }
    let g : RidgeTrig := { execAt := 0, tref := 0, id := 0, origin := 5, seq := 0, late := false }
    let v := { lanes [(SYS_STATE.STATE, 4)] with ridge := { trigs := [g] } }
    t.trg.inq.find? (fun x => x.kind == 0 && x.src == 0) = some e ∧ s.admits q0 ∧ s.trgOn 1 = true ∧ s.trgKind 1 = 7 ∧
    s.trgOwner 1 = some 0 ∧ s.dev ≠ 1 ∧ s.trg.buf = [] ∧ t.trg.buf.find? (fun e => (t.recStream e).isSome) = some r ∧
    (t.recStream r).isSome = true ∧ v.ridge.trigs = [g] ∧ (∀ c < 16, v.flag (CAPU_W0.RIDGE_EN c) = false) ∧ v.ridgeOn = true ∧
    v.laneUp h0.laneW = true ∧ h0.origin ≠ v.nodeId ∧ v.ridge.seen.contains (h0.origin, h0.seq) = false ∧ v.trgMute = true := by
  unfold State.admits State.serves
  decide

theorem witness_SensingTimeAndTestCommandsRun_captures :
    let s := owning (ready [(CAPU_W0.STATE 1, 2), (CAPU_W0.STATE 2, 3)])
    let c : Cap := { start := some 0, pre := 1, post := 1, region := 128 }
    let t := { s with trg := { s.trg with caps := List.replicate 16 c } }
    let x : CapSend := { session := 0, seq := 1, unit := 2, level := 0, dest := none, haddr := 0 }
    let u := { s with trg := { s.trg with sends := [x] } }
    (s.taken q0 0x0401).armError 0 (some 0) = none ∧ s.capOwner 1 = some 0 ∧ s.capState 1 ≠ 3 ∧ s.capOwner 2 = some 0 ∧ s.capState 2 = 3 ∧
    s.capSending 2 = false ∧ t.admits q0 ∧ t.admitsLong q0 ∧ t.capState 2 = 3 ∧ 1 ≤ (t.cap 2).region ∧ t.dev ≠ 1 ∧ u.trg.sends = [x] ∧
    x.dest = none ∧ t.capState 1 = 2 ∧ (t.cap 1).start.isSome = true ∧ 1 < t.trg.caps.length ∧
    (t.cap 1).ivs.length + 1 < (t.cap 1).pre + (t.cap 1).post := by
  unfold State.admitsLong State.admits State.serves
  decide

theorem witness_SensingTimeAndTestCommandsRun_calibration :
    let s := ready [(CALREC_W0.READY 12, 1)]
    let t := { up [(CAL_STATUS.RUNNING, 1)] with
      cal := { State.reset.cal with ownerDirty := true, doms := updAt State.reset.cal.doms 12 (fun x => { x with retry := true }) } }
    s.admits q0 ∧ s.admitsLong q0 ∧ s.owner = 0 ∧ s.dev ≠ 1 ∧ s.cal.restore = none ∧ s.flag (CALREC_W0.READY 12) = true ∧
    0 < t.cal.doms.length ∧ t.cbit CAL_STATUS.RUNNING 0 = true ∧ t.calBlocked 0 = false ∧ t.calWaits 0 = false ∧ (t.dom 0).ready = none ∧
    (t.dom 0).steps < calSteps 0 ∧ (t.dom 12).retry = true ∧ t.cbit CAL_STUCK.STUCK 12 = false ∧ t.cal.ownerDirty = true := by
  unfold State.admitsLong State.admits State.serves
  decide

theorem witness_SensingTimeAndTestCommandsRun_time :
    let s := up [(OCX_CTRL.SRC, 1), (OCX_STATUS.HOLD, 1), (OCX_STATUS.SYN_LOCK, 1), (OCX_CTRL.PPS_EN, 1)]
    let t := { s with tb := { lastEdge := [some 0, none, none, none, none] } }
    s.get OCX_CTRL.SRC = 1 ∧ s.flag OCX_STATUS.HOLD = true ∧ s.flag OCX_STATUS.SYN_LOCK = true ∧
    (up [(OCX_STATUS.SYN_LOCK, 0)]).flag OCX_STATUS.SYN_LOCK = false ∧ t.power.episode = none ∧ t.flag OCX_CTRL.PPS_EN = true ∧
    t.power.pins.ppsOut = false ∧ t.tb.lastEdge.getD 4 none = none ∧ t.edgeSelected 0 true = true ∧
    t.tb.lastEdge.getD 0 none = some (stamp 0) := by decide

theorem witness_SensingTimeAndTestCommandsRun_port :
    let s := up [(KEY_STATUS.SCAN, 1)]
    let t := { ready [] with tap := { permit := some (0, 0) }, qcp := { (ready []).qcp with sess := updAt (ready []).qcp.sess 0 (fun x => { x with auth := true }) } }
    s.scanOn = true ∧ t.scanOn = false ∧ t.power.episode = none ∧ t.pathOwns (.qcp 0) = true ∧ (t.sess t.owner).auth = true ∧
    t.tap.permit.isSome = true := by decide

/-- A set that asks for no run is refused none; one that asks for it from STANDBY while a port swap stands is. -/
theorem witness_TransactionsComplete_refused (x : StagedSet) :
    ((State.reset.applySettings x 0).runRefusal [] = none) ∧
    ∃ f, State.runRefusal { up [(SYS_STATE.STATE, 2), (SYS_CTRL.RUN, 1)] with phs := { swapHeld := true } } [(SYS_CTRL.RUN.addr, 1)] = some f := by
  refine ⟨rfl, ?_⟩
  have h : (Sys2Proof.Machine.staged [(SYS_CTRL.RUN.addr, (1 : Word))] SYS_CTRL.RUN.addr).isSome = true := by decide
  unfold State.runRefusal
  rw [h]
  rw [if_pos (by decide)]
  unfold State.runFailing worstFailing
  exact ⟨_, rfl⟩

/-- A CAP_SEND to a UDPDEST whose next hop is known, and to one whose next hop is not. -/
theorem witness_CapturesComplete_hop :
    let x : CapSend := { session := 0, seq := 1, unit := 1, level := 0, dest := some (0, false, 5, 5), haddr := 0 }
    let s := { State.reset with net := { State.reset.net with hops0 := [{ addr := State.reset.nextHopOf 0 false 5, mac := some 1 }] } }
    s.capHop x = none ∧ State.reset.capHop x ≠ none := by decide

/-- CFG writes its word at its offset in the FLD block (R642). -/
theorem test_cfg_offset : ∃ t, exec (.cfg 4 5) (island [] {}) = .next t ∧ t.isl.regs.read 0x120004 = 5 := ⟨_, rfl, by decide⟩


end Sys2Proof.Tests
end

section
/-! SUPPORT. What a direct read returns and latches (R13, R426, R462, R789 to R793). -/

namespace Sys2Proof.Machine

/-! ## Shadows -/

theorem State.shadow_congr {s t : State} (h : t.shadows = s.shadows) (path : Path) : t.shadow path = s.shadow path := by
  unfold State.shadow
  rw [h]

theorem State.shadow_path (s : State) (path : Path) : (s.shadow path).path = path := by
  unfold State.shadow
  cases h : s.shadows.find? (fun x => x.path == path) with
  | none => rfl
  | some x => simpa using List.find?_some h

theorem State.shadow_putShadow (s : State) (x : Shadow) : (s.putShadow x).shadow x.path = x := by
  simp [State.shadow, State.putShadow]

/-- A word that a latch holds for the group at its place is the one the path reads from its shadow. -/
theorem Shadow.word_latched (x : Shadow) (v : Nat → Word) (rest : List (Nat × Word)) (low : Nat) {i n : Nat} (hi : i < n)
    (hx : x.words = (List.range n).map (fun j => (low + 4 * j, v j)) ++ rest) : x.word (low + 4 * i) = v i := by
  have hf : ((List.range n).map (fun j => (low + 4 * j, v j))).find? (fun e => e.1 == low + 4 * i) = some (low + 4 * i, v i) := by
    have hp : ((fun e : Nat × Word => e.1 == low + 4 * i) ∘ fun j => (low + 4 * j, v j)) = (· == i) := by
      funext j
      rw [Bool.eq_iff_iff]
      simp
    have hr : (List.range n).find? (· == i) = some i :=
      List.find?_range_eq_some.2 ⟨beq_self_eq_true i, List.mem_range.2 hi, fun j hj => by simp; omega⟩
    rw [List.find?_map, hp, hr]
    rfl
  unfold Shadow.word
  rw [hx, List.find?_append, hf]
  rfl

/-- A latch holds every word of its group as it stands (R790). -/
theorem State.latch_word (s : State) (path : Path) (low : Nat) {i n : Nat} (hi : i < n) :
    ((s.latch path low n).shadow path).word (low + 4 * i) = s.live (low + 4 * i) := by
  have hs := State.shadow_putShadow s { s.shadow path with
    words := (List.range n).map (fun j => (low + 4 * j, s.live (low + 4 * j))) ++
      (s.shadow path).words.filter (fun e => decide (e.1 < low) || decide (low + 4 * n ≤ e.1))
    ignFresh := if low = 0x000030 then true else (s.shadow path).ignFresh }
  rw [State.shadow_path] at hs
  unfold State.latch
  rw [hs]
  exact Shadow.word_latched _ (fun j => s.live (low + 4 * j)) _ low hi rfl

/-! ## Reads of one word -/

/-- A word outside the mailboxes, the keys and the reed windows is seen as it stands. -/
theorem State.see_plain {s : State} {path : Path} {off : Nat} (hm : mailboxOf off = none) (hk : off / 0x10000 ≠ 0x17)
    (hp : inProgram off = false) (hr : inReedData off = false) : s.see path off = (s.live off, s) := by
  simp [State.see, hm, hk, hp, hr]

theorem State.readWord_ungrouped {s : State} {path : Path} {off : Nat} (hi : off ≠ 0x000034) (hg : groupAt off = none) :
    s.readWord path off = s.see path off := by
  unfold State.readWord
  rw [if_neg hi, hg]

/-- The lowest word of a group reads as it stands, and the group is latched. -/
theorem State.readWord_lowest {s : State} {path : Path} {off n : Nat} (hi : off ≠ 0x000034) (hg : groupAt off = some (off, n)) :
    s.readWord path off = (s.live off, s.latch path off n) := by
  unfold State.readWord
  rw [if_neg hi, hg]
  exact if_pos rfl

/-- The first read of SYS_IGN_CNT after the path's latch. -/
theorem State.readWord_ignCnt {s : State} {path : Path} (h : (s.shadow path).ignFresh = true) :
    s.readWord path 0x000034 = ((s.shadow path).word 0x000034,
      (s.putShadow { s.shadow path with ignFresh := false }).put SYS_IGN_CNT.COUNT
        (s.get SYS_IGN_CNT.COUNT - ((s.shadow path).word 0x000034).toNat)) := by
  unfold State.readWord State.takeIgn
  rw [if_pos rfl, if_pos h]

/-- No perturbation touches what a direct read returns. -/
theorem State.emit_read (s : State) (path : Path) (l : List Word) : s.emit (.read path l) = s.emitRaw (.read path l) := rfl

/-- Out of reset a direct read of one word of the space sends what the read gives. -/
theorem State.directRead_word {s u : State} {path : Path} {off : Nat} {w : Word} (h : s.power.episode = none) (hlt : off < 0x1000000)
    (hr : s.readWord path off = (w, u)) : s.directRead path off 1 = u.emitRaw (.read path [w]) := by
  rw [State.directRead_one h, Nat.mod_eq_of_lt hlt, hr, State.emit_read]

end Sys2Proof.Machine
end

section
/-! SUPPORT. What a direct write of a settings word comes to (R488 to R490, R829), and the SPI write cycle of one word (R814). -/

namespace Sys2Proof.Machine

theorem exec_registerWrite (path : Path) (off : BitVec 24) (w : Word) (s : State) :
    exec (.registerWrite path off w) s = .next (s.writeIn path off.toNat w) := rfl

theorem exec_spiWriteCycle (cmd : Byte) (off : BitVec 24) (data : List Word) (s : State) :
    exec (.spiWriteCycle cmd off data) s = .next (spiWriteCycleStep cmd off.toNat data s) := rfl

/-- Outside the mailboxes a write that is taken whole leaves the state it tries. -/
theorem State.directWrite_ok {s t : State} {path : Path} {off : Nat} {w : Word} (hm : mailboxOf off = none)
    (h : s.tryWrite path off w = (t, none)) : (s.directWrite path off w).1 = t := by
  simp only [State.directWrite, hm, h]

/-- Outside the mailboxes a write with a cause is ignored and flagged (R489). -/
theorem State.directWrite_ignored {s t : State} {path : Path} {off c : Nat} {w : Word} (hm : mailboxOf off = none)
    (h : s.tryWrite path off w = (t, some c)) : (s.directWrite path off w).1 = t.ignore path off c := by
  simp only [State.directWrite, hm, h]

theorem State.tryWrite_misaligned {s : State} {path : Path} {off : Nat} {w : Word} (h : off % 4 ≠ 0) :
    s.tryWrite path off w = (s, some 4) := by
  unfold State.tryWrite
  rw [if_pos (by simpa using h)]

/-- A session that may commit an owner's word is the owner (R829). -/
theorem State.notOwners_of_writerOk {s : State} {path : Path} {row : RegRow} {r off : Nat} {w : Word} (hs : s.pathSession path = some r)
    (hw : s.writerOk r off w row.writer = true) : s.notOwners path row = false := by
  unfold State.notOwners
  cases hr : row.writer with
  | owner =>
    have ho : r = s.owner := by simpa [hr, State.writerOk] using hw
    simp [hs, ho]
  | _ => rfl

theorem State.setWord_ok {s : State} {path : Path} {off : Nat} {w v : Word} {u : State} (hf : off ≠ FLD_FOUT.SET.addr)
    (hv : v = mergeWord off (s.rd off) w) (hu : u = (s.wr off v).effects s [(off, v)] s.now) :
    s.setWord path off w = .ok { u with qcp := { u.qcp with touched := u.qcp.touched || shapesSweep off } } := by
  unfold State.setWord
  rw [if_neg hf, hu, hv]

section

variable {s : State} {path : Path} {off : Nat} {w : Word} {r : Fin 8} {row : RegRow}

/-- The settings of a word that starts and clears nothing are set by a session that may commit them, outside a lock and within
their ranges (R488, R829, R830). -/
theorem State.valuePart_settings (hi : inPattern off = false) (hp : inProgram off = false) (hd : inReedData off = false)
    (hrow : rowAt off = some row) (hc : row.w1c = 0) (h1 : row.w1s = 0) (hs : s.pathSession path = some r.val)
    (he : (row.shapes && s.emits) = false) (ht : row.txnOnly = false) (hm : s.mayCommit r.val off w = true)
    (hl : s.locked off = false) (hv : s.valueOk r off w = true) : s.valuePart path off w = s.setWord path off w := by
  have hw : s.writerOk r.val off w row.writer = true := by simpa [State.mayCommit, hi, hp, hd, hrow] using hm
  have hn : s.notOwners path row = false := State.notOwners_of_writerOk hs hw
  simp only [State.valuePart, hrow, Option.any_some, he, hc, h1, hn, ht, hs, hp, hm, hl, hv]
  simp

/-- A word of the map that holds settings alone has its value for its one part. -/
theorem writeParts_settings (hc : row.w1c = 0) (hw : row.rw ≠ 0) (ha : actionParts path off w = []) :
    writeParts path row off w = [fun s => s.valuePart path off w] := by
  simp [writeParts, hc, hw, ha]

/-- One part that is taken, out of reset. -/
theorem runParts_one {p : Part} {t : State} (h : s.power.episode = none) (hp : p s = .ok t) : runParts [p] s = (t, none) := by
  simp [runParts, h, hp]

theorem State.tryWrite_settings {t : State} (h : s.power.episode = none) (h4 : off % 4 = 0) (hi : inPattern off = false)
    (hp : inProgram off = false) (hd : inReedData off = false) (hrow : rowAt off = some row) (hc : row.w1c = 0) (hw : row.rw ≠ 0)
    (h18 : off / 0x10000 ≠ 0x18) (ha : actionParts path off w = []) (hs : (s.pathSession path).isSome = true)
    (hv : s.valuePart path off w = .ok t) : s.tryWrite path off w = (t, none) := by
  have hn : (s.pathSession path).isNone = false := by simpa [Option.isSome_iff_ne_none] using hs
  simp [State.tryWrite, h4, hi, hp, hd, hrow, hn, h18, hw, writeParts_settings hc hw ha, runParts_one (p := fun s => s.valuePart path off w) h hv]

end

/-- The SPI write of one word at an aligned offset of the space is that direct write (R814). -/
theorem spiWriteCycle_word {off : Nat} {w : Word} {s : State} (h4 : off % 4 = 0) (hlt : off < 0x1000000) :
    spiWriteCycleStep 0x02 off [w] s = s.writeIn .spi off w := by
  simp [spiWriteCycleStep, State.spiWords, h4, Nat.mod_eq_of_lt hlt]

theorem spiWriteCycle_otherCommand {cmd : Byte} {off : Nat} {data : List Word} {s : State} (h : cmd ≠ 0x02) :
    spiWriteCycleStep cmd off data s = s := by
  unfold spiWriteCycleStep
  rw [if_pos (by simpa using h)]

end Sys2Proof.Machine
end

section
/-! SUPPORT. What a write of a mailbox's control word comes to on the mailbox's own path (R426 to R428). -/

namespace Sys2Proof.Machine

/-! ## The word that MAILBOX_GO, MAILBOX_DONE_CLEAR and MAILBOX_EVT_CLEAR write -/

/-- A control word with one bit of GO, DONE and EVT, counted from that of IRQ_EN, and with IRQ_EN and LEN. -/
def mailWord (bit : Nat) (irq : Bool) (len : Nat) : Word := BitVec.ofNat 32 (2 ^ 27 * (2 ^ bit + irq.toNat) + len)

/-- The bits of a control word from IRQ_EN on. -/
theorem mailWord_bit (bit : Nat) (irq : Bool) {len i : Nat} (hl : len < 2 ^ 14) (hi : i < 5) :
    (mailWord bit irq len).getLsbD (27 + i) = (2 ^ bit + irq.toNat).testBit i := by
  unfold mailWord
  rw [BitVec.getLsbD_ofNat, Nat.testBit_two_pow_mul_add _ (by omega), if_neg (by omega), Nat.add_sub_cancel_left,
    decide_eq_true (by omega), Bool.true_and]

theorem mailWord_len (bit : Nat) (irq : Bool) (m : Nat) {len : Nat} (hl : len < 2 ^ 14) :
    (QCP_MB_CTRL.LEN m).ofWord (mailWord bit irq len) = len := by
  unfold Fld.ofWord mailWord
  rw [BitVec.toNat_ofNat]
  generalize 2 ^ bit + irq.toNat = n
  dsimp only
  omega

theorem State.get_irqEn (s : State) (m : Nat) : s.get (QCP_MB_CTRL.IRQ_EN m) = (s.flag (QCP_MB_CTRL.IRQ_EN m)).toNat := by
  have h := s.get_lt (QCP_MB_CTRL.IRQ_EN m)
  unfold State.flag
  obtain h0 | h1 : s.get (QCP_MB_CTRL.IRQ_EN m) = 0 ∨ s.get (QCP_MB_CTRL.IRQ_EN m) = 1 := by dsimp only at h; omega
  · rw [h0]
    rfl
  · rw [h1]
    rfl

/-- The commands of a mailbox write its control word on its own path. -/
theorem State.mailCtrl_writeIn (s : State) (m : Fin 2) (bit len : Nat) :
    s.mailCtrl (mailboxPath m) (2 ^ (27 + bit)) len =
      s.writeIn (mailboxPath m) (QCP_MB_CTRL.GO m.val).addr (mailWord bit (s.flag (QCP_MB_CTRL.IRQ_EN m.val)) len) := by
  have hm : pathMailbox (mailboxPath m) = some m := by fin_cases m <;> rfl
  unfold State.mailCtrl mailWord
  rw [hm]
  dsimp only
  rw [State.get_irqEn]
  congr 2
  ring

/-! ## The write -/

theorem mailboxOf_ctrl (m : Fin 2) : mailboxOf (QCP_MB_CTRL.GO m.val).addr = some m := by fin_cases m <;> rfl

/-- A write of a mailbox's word on its own path that the mailbox takes. -/
theorem State.directWrite_mailbox {s t : State} {m : Fin 2} {off : Nat} {w : Word} (hm : mailboxOf off = some m)
    (hw : s.mailWrite m off w = .ok t) : (s.directWrite (mailboxPath m) off w).1 = t := by
  simp [State.directWrite, hm, hw]

theorem State.writeIn_ctrl {s t : State} {m : Fin 2} {w : Word} (h : s.power.episode = none)
    (hw : s.mailWrite m (QCP_MB_CTRL.GO m.val).addr w = .ok t) : s.writeIn (mailboxPath m) (QCP_MB_CTRL.GO m.val).addr w = t := by
  rw [State.writeIn_ok h]
  exact State.directWrite_mailbox (mailboxOf_ctrl m) hw

/-- A state with what DONE and EVT written 1 do to a mailbox. -/
def State.mailCleared (s : State) (m : Fin 2) (done evt : Bool) : State :=
  let s := if done then s.put (QCP_MB_CTRL.DONE m.val) 0 else s
  if evt then s.mailEvt m else s

/-- A state with IRQ_EN of a mailbox written, and the MSI where IRQ_N becomes asserted by it. -/
def State.mailIrq (s : State) (m : Fin 2) (irq : Bool) : State := (s.putFlag (QCP_MB_CTRL.IRQ_EN m.val) irq).msiSince s

theorem State.mailIrq_flag (s : State) {m : Fin 2} (irq : Bool) {f : Fld} (hf : (QCP_MB_CTRL.IRQ_EN m.val).apart f) :
    (s.mailIrq m irq).flag f = s.flag f := by
  unfold State.mailIrq
  rw [State.msiSince_within.flag (List.not_mem_nil), State.putFlag, State.flag_put_other _ _ _ _ hf]

section

variable {s : State} {m : Fin 2} {w : Word}

/-- A write without GO clears what it is written to clear, and sets IRQ_EN and, while BUSY is 0, LEN. -/
theorem State.mailWrite_noGo (hg : w.getLsbD 31 = false) : s.mailWrite m (QCP_MB_CTRL.GO m.val).addr w =
    .ok (if s.flag (QCP_MB_CTRL.BUSY m.val) then (s.mailCleared m (w.getLsbD 29) (w.getLsbD 28)).mailIrq m (w.getLsbD 27)
      else ((s.mailCleared m (w.getLsbD 29) (w.getLsbD 28)).mailIrq m (w.getLsbD 27)).put (QCP_MB_CTRL.LEN m.val)
        ((QCP_MB_CTRL.LEN m.val).ofWord w)) := by
  unfold State.mailWrite
  rw [if_pos rfl]
  simp only [hg, Bool.false_and, Bool.or_false, Bool.not_false, Bool.false_eq_true, if_false, if_true]
  rfl

/-- A GO of a mailbox that takes one, with a LEN in range, submits the request (R427). -/
theorem State.mailWrite_go {len : Nat} (hg : w.getLsbD 31 = true) (hd : w.getLsbD 29 = false) (he : w.getLsbD 28 = false)
    (hlen : (QCP_MB_CTRL.LEN m.val).ofWord w = len) (h20 : 20 ≤ len) (h8 : len ≤ 8192) (hb : s.flag (QCP_MB_CTRL.BUSY m.val) = false)
    (hdone : s.flag (QCP_MB_CTRL.DONE m.val) = false) : s.mailWrite m (QCP_MB_CTRL.GO m.val).addr w =
    .ok (((s.mailIrq m (w.getLsbD 27)).put (QCP_MB_CTRL.LEN m.val) len).mailGo m) := by
  have h1 : decide (len < 20) = false := decide_eq_false (by omega)
  have h2 : decide (8192 < len) = false := decide_eq_false (by omega)
  unfold State.mailWrite
  rw [if_pos rfl]
  simp only [hg, hd, he, hlen, hb, hdone, h1, h2, Bool.or_false, Bool.and_false, Bool.not_true, Bool.false_eq_true, if_false]
  rfl

/-- GO of a mailbox that is neither busy nor done. -/
theorem State.mailGo_submits (hb : s.flag (QCP_MB_CTRL.BUSY m.val) = false) (hd : s.flag (QCP_MB_CTRL.DONE m.val) = false) :
    s.mailGo m = qcpPacketStep (.mailbox m) (s.mailBytes m (s.get (QCP_MB_CTRL.LEN m.val))) (s.put (QCP_MB_CTRL.BUSY m.val) 1) := by
  unfold State.mailGo
  rw [if_neg (by simp [hb, hd])]

/-- With every event of the logs delivered, none waits for a mailbox. -/
theorem State.nextMail_none (h : ∀ r, (s.sess r).log.all (·.delivered) = true) : s.nextMail m = s := by
  have hn : ∀ r, (s.sess r).log.find? (fun e => !e.delivered && e.dest == .mailbox m) = none := by
    intro r
    rw [List.find?_eq_none]
    intro e he
    simp [List.all_eq_true.1 (h r) e he]
  have hf : (List.range 8).findSome? (fun r =>
      ((s.sess r).log.find? (fun e => !e.delivered && e.dest == .mailbox m)).map (fun e => (r, e))) = none := by
    simp [List.findSome?_eq_none_iff, hn]
  unfold State.nextMail
  simp only [hf]

/-- EVT written 1 with no event waiting frees the event buffer (R428). -/
theorem State.mailEvt_frees (he : s.flag (QCP_MB_CTRL.EVT m.val) = true) (h : ∀ r, (s.sess r).log.all (·.delivered) = true) :
    s.mailEvt m = s.put (QCP_MB_CTRL.EVT m.val) 0 := by
  unfold State.mailEvt
  rw [if_pos he]
  exact State.nextMail_none h

/-- A write without GO leaves every field of the mailbox but IRQ_EN and LEN as the clearing leaves it. -/
theorem State.writeIn_ctrl_flag {f : Fld} (h : s.power.episode = none) (hg : w.getLsbD 31 = false)
    (hi : (QCP_MB_CTRL.IRQ_EN m.val).apart f) (hl : (QCP_MB_CTRL.LEN m.val).apart f) :
    (s.writeIn (mailboxPath m) (QCP_MB_CTRL.GO m.val).addr w).flag f = (s.mailCleared m (w.getLsbD 29) (w.getLsbD 28)).flag f := by
  rw [State.writeIn_ctrl h (State.mailWrite_noGo hg)]
  split
  · exact State.mailIrq_flag _ _ hi
  · rw [State.flag_put_other _ _ _ _ hl, State.mailIrq_flag _ _ hi]

end

end Sys2Proof.Machine
end

section
/-! Direct access to the register space (O16): writes of settings, reads with their shadows, and the mailboxes' control words. -/

namespace Sys2Proof.Machine

/-- A direct write of a word that holds settings alone puts the value in force with the effects of a commit (R488 to R490). -/
theorem State.writeIn_settings {s t u : State} {path : Path} {off : Nat} {w v : Word} {r : Fin 8} {row : RegRow}
    (h : s.power.episode = none) (h4 : off % 4 = 0) (hmb : mailboxOf off = none) (hi : inPattern off = false)
    (hp : inProgram off = false) (hd : inReedData off = false) (hrow : rowAt off = some row) (hc : row.w1c = 0) (h1 : row.w1s = 0)
    (hw : row.rw ≠ 0) (h18 : off / 0x10000 ≠ 0x18) (ha : actionParts path off w = []) (hs : s.pathSession path = some r.val)
    (he : (row.shapes && s.emits) = false) (ht : row.txnOnly = false) (hm : s.mayCommit r.val off w = true)
    (hl : s.locked off = false) (hv : s.valueOk r off w = true) (hf : off ≠ FLD_FOUT.SET.addr)
    (hmv : v = mergeWord off (s.rd off) w) (hu : u = (s.wr off v).effects s [(off, v)] s.now)
    (htu : t = { u with qcp := { u.qcp with touched := u.qcp.touched || shapesSweep off } }) : s.writeIn path off w = t := by
  have hpart : s.valuePart path off w = .ok t := by
    rw [State.valuePart_settings hi hp hd hrow hc h1 hs he ht hm hl hv, State.setWord_ok hf hmv hu, htu]
  rw [State.writeIn_ok h]
  exact State.directWrite_ok hmb (State.tryWrite_settings h h4 hi hp hd hrow hc hw h18 ha (by simp [hs]) hpart)

/-- A direct write at a misaligned offset is ignored with cause 4 (R489). -/
theorem State.writeIn_misaligned {s : State} {path : Path} {off : Nat} {w : Word} (h : s.power.episode = none)
    (hmb : mailboxOf off = none) (h4 : off % 4 ≠ 0) : s.writeIn path off w = s.ignore path off 4 := by
  rw [State.writeIn_ok h]
  exact State.directWrite_ignored hmb (State.tryWrite_misaligned h4)

/-- SPI_READ_CYCLE of one plain word (R813). -/
theorem spiReadCycle_plain {off : BitVec 24} {s : State} (h : s.power.episode = none) (h4 : off.toNat % 4 = 0)
    (hmb : mailboxOf off.toNat = none) (hk : off.toNat / 0x10000 ≠ 0x17) (hp : inProgram off.toNat = false)
    (hd : inReedData off.toNat = false) (hg : groupAt off.toNat = none) (hi : off.toNat ≠ 0x000034) :
    exec (.spiReadCycle 0x0B off 1) s = .next (s.emitRaw (.read .spi [s.live off.toNat])) := by
  have hr : s.readWord .spi off.toNat = (s.live off.toNat, s) := by rw [State.readWord_ungrouped hi hg, State.see_plain hmb hk hp hd]
  show Host.Outcome.next (spiReadCycleStep 0x0B off.toNat 1 s) = _
  unfold spiReadCycleStep
  rw [if_neg (by decide), if_neg (by simp [h4]), State.directRead_word h off.isLt hr]

/-- GROUP_LATCH_READ of the lowest word of a group (R13, R790). -/
theorem groupLatchRead_latches {path : Path} {off : BitVec 24} {n : Nat} {s : State} (h : s.power.episode = none)
    (hg : groupAt off.toNat = some (off.toNat, n)) (hi : off.toNat ≠ 0x000034) :
    exec (.groupLatchRead path off) s = .next ((s.latch path off.toNat n).emitRaw (.read path [s.live off.toNat])) := by
  show Host.Outcome.next (groupLatchReadStep path off.toNat s) = _
  unfold groupLatchReadStep
  rw [State.whenDo_pos (by simp [hg]), State.directRead_word h off.isLt (State.readWord_lowest hi hg)]

/-- SYS_IGN_CNT_READ after a latch of its path (R793). -/
theorem sysIgnCntRead_takes {path : Path} {s : State} (h : s.power.episode = none) (hf : (s.shadow path).ignFresh = true) :
    Leads (.sysIgnCntRead path) s (fun t => t.out = s.out ++ [.read path [(s.shadow path).word 0x000034]] ∧
      (t.shadow path).ignFresh = false ∧
      t.get SYS_IGN_CNT.COUNT = s.get SYS_IGN_CNT.COUNT - ((s.shadow path).word 0x000034).toNat) := by
  have hd := State.directRead_word h (by decide) (State.readWord_ignCnt hf)
  have hs := State.shadow_putShadow s { s.shadow path with ignFresh := false }
  rw [State.shadow_path] at hs
  refine ⟨_, congrArg Host.Outcome.next hd, rfl, ?_, ?_⟩
  · exact congrArg Shadow.ignFresh hs
  · have hlt := s.get_lt SYS_IGN_CNT.COUNT
    refine (State.get_put_same (s.putShadow _) SYS_IGN_CNT.COUNT _ (by decide)).trans (Nat.mod_eq_of_lt ?_)
    omega

section

variable {m : Fin 2} {s : State}

theorem exec_mailboxGo (path : Path) (len : BitVec 14) (s : State) :
    exec (.mailboxGo path len) s = .next (s.mailCtrl path (2 ^ (27 + 4)) len.toNat) := rfl

/-- MAILBOX_GO while BUSY and DONE are 0, with a LEN in range (R427). -/
theorem mailboxGo_submits {len : BitVec 14} {u : State} (h : s.power.episode = none) (h20 : 20 ≤ len.toNat) (h8 : len.toNat ≤ 8192)
    (hb : s.flag (QCP_MB_CTRL.BUSY m.val) = false) (hd : s.flag (QCP_MB_CTRL.DONE m.val) = false)
    (hu : u = (s.mailIrq m (s.flag (QCP_MB_CTRL.IRQ_EN m.val))).put (QCP_MB_CTRL.LEN m.val) len.toNat) :
    exec (.mailboxGo (mailboxPath m) len) s =
      .next (qcpPacketStep (.mailbox m) (u.mailBytes m len.toNat) (u.put (QCP_MB_CTRL.BUSY m.val) 1)) := by
  generalize hq : s.flag (QCP_MB_CTRL.IRQ_EN m.val) = irq at hu
  have hkeep : ∀ f : Fld, (QCP_MB_CTRL.IRQ_EN m.val).apart f → (QCP_MB_CTRL.LEN m.val).apart f → u.flag f = s.flag f := by
    intro f hi hl
    rw [hu, State.flag_put_other _ _ _ _ hl, State.mailIrq_flag _ _ hi]
  have hlen : u.get (QCP_MB_CTRL.LEN m.val) = len.toNat := by
    rw [hu, State.get_put_same _ _ _ (by simp)]
    exact Nat.mod_eq_of_lt len.isLt
  have hbit := fun i hi => mailWord_bit 4 irq (i := i) len.isLt hi
  have hw := State.mailWrite_go (s := s) (m := m) (w := mailWord 4 irq len.toNat)
    ((hbit 4 (by decide)).trans (by cases irq <;> rfl)) ((hbit 2 (by decide)).trans (by cases irq <;> rfl))
    ((hbit 1 (by decide)).trans (by cases irq <;> rfl)) (mailWord_len 4 irq m.val len.isLt) h20 h8 hb hd
  have h27 : (mailWord 4 irq len.toNat).getLsbD 27 = irq := (hbit 0 (by decide)).trans (by cases irq <;> rfl)
  rw [h27, ← hu, State.mailGo_submits ((hkeep _ (.inr (by simp)) (.inr (by simp))).trans hb)
    ((hkeep _ (.inr (by simp)) (.inr (by simp))).trans hd), hlen] at hw
  rw [exec_mailboxGo, State.mailCtrl_writeIn, hq, State.writeIn_ctrl h hw]

/-- The LEN that a mailbox holds fits its control word. -/
theorem State.mailLen_lt : s.mailLen (mailboxPath m) < 2 ^ 14 := by
  fin_cases m <;> exact State.get_lt ..

/-- What MAILBOX_DONE_CLEAR and MAILBOX_EVT_CLEAR write: DONE or EVT, without GO. -/
theorem State.mailCtrl_clears_flag {bit : Nat} {f : Fld} (h : s.power.episode = none) (hbit : bit = 1 ∨ bit = 2)
    (hi : (QCP_MB_CTRL.IRQ_EN m.val).apart f) (hl : (QCP_MB_CTRL.LEN m.val).apart f) :
    (s.mailCtrl (mailboxPath m) (2 ^ (27 + bit)) (s.mailLen (mailboxPath m))).flag f =
      (s.mailCleared m (decide (bit = 2)) (decide (bit = 1))).flag f := by
  rw [State.mailCtrl_writeIn]
  generalize s.flag (QCP_MB_CTRL.IRQ_EN m.val) = irq
  have hb := fun i hi => mailWord_bit bit irq (i := i) (State.mailLen_lt (m := m) (s := s)) hi
  have h31 := hb 4 (by decide)
  have h29 := hb 2 (by decide)
  have h28 := hb 1 (by decide)
  rw [State.writeIn_ctrl_flag h (h31.trans ?_) hi hl, h29, h28]
  · obtain rfl | rfl := hbit <;> cases irq <;> rfl
  · obtain rfl | rfl := hbit <;> cases irq <;> rfl

/-- MAILBOX_DONE_CLEAR (R426). -/
theorem mailboxDoneClear_clears (h : s.power.episode = none) :
    Leads (.mailboxDoneClear (mailboxPath m)) s (fun t => t.flag (QCP_MB_CTRL.DONE m.val) = false) := by
  refine ⟨_, rfl, (State.mailCtrl_clears_flag h (.inr rfl) (.inr (by simp)) (.inr (by simp))).trans ?_⟩
  exact State.flag_put_same s _ _ (by simp)

/-- MAILBOX_EVT_CLEAR with no event waiting (R428). -/
theorem mailboxEvtClear_frees (h : s.power.episode = none) (he : s.flag (QCP_MB_CTRL.EVT m.val) = true)
    (hlog : ∀ r, (s.sess r).log.all (·.delivered) = true) :
    Leads (.mailboxEvtClear (mailboxPath m)) s (fun t => t.flag (QCP_MB_CTRL.EVT m.val) = false) := by
  refine ⟨_, rfl, (State.mailCtrl_clears_flag h (.inl rfl) (.inr (by simp)) (.inr (by simp))).trans ?_⟩
  show (s.mailEvt m).flag _ = false
  rw [State.mailEvt_frees he hlog]
  exact State.flag_put_same s _ _ (by simp)

end

/-- Settles O16: each direct access by the lemma of its row. -/
theorem directAccessCompletes : Obligations.DirectAccessCompletes := by
  unfold Obligations.DirectAccessCompletes
  refine ⟨?_, ?_, ?_, ?_, ?_, ?_, ?_⟩
  · intro path off w r row s h h4 hmb hi hp hd hrow hc h1 hw h18 ha hs he ht hm hl hv hf v u hmv hu t htu
    have hwr : s.writeIn path off.toNat w = t :=
      State.writeIn_settings h h4 hmb hi hp hd hrow hc h1 hw h18 ha hs he ht hm hl hv hf hmv hu htu
    refine ⟨by rw [exec_registerWrite, hwr], ?_⟩
    rintro rfl
    rw [exec_spiWriteCycle, spiWriteCycle_word h4 off.isLt, hwr]
  · intro path off w s h hmb h4
    rw [exec_registerWrite, State.writeIn_misaligned h hmb h4]
  · intro cmd off data s hcmd
    rw [exec_spiWriteCycle, spiWriteCycle_otherCommand hcmd]
  · intro off s h h4 hmb hk hp hd hg hi
    exact ⟨_, spiReadCycle_plain h h4 hmb hk hp hd hg hi, rfl, rfl⟩
  · intro path off n s h hg hi
    exact ⟨_, groupLatchRead_latches h hg hi, rfl, fun i hin => State.latch_word s path off.toNat hin⟩
  · intro path s h hf
    exact sysIgnCntRead_takes h hf
  · intro m s h
    refine ⟨?_, mailboxDoneClear_clears h, mailboxEvtClear_frees h⟩
    intro len h20 h8 hb hd u hu
    exact mailboxGo_submits h h20 h8 hb hd hu

end Sys2Proof.Machine
end

section
/-! The order of quality codes (O8), the state after reset (O5, O6), and what every step keeps (O4). -/

namespace Sys2Proof.Machine

/-! ## Quality codes (R6) -/

/-- The codes of R6, from the most to the least severe. -/
def severityCodes : List Qual := [.gap, .clipped, .apr, .unsettled, .failover, .fallback, .lowq, .tbCold, .good]

/-- A code's rank counts the codes that stand after it in the order of R6. -/
theorem qualRank_add_idxOf (q : Qual) : qualRank q + severityCodes.idxOf q = 8 := by cases q <;> rfl

/-- Settles O8: the rank by which the model compares falls along the order of R6. -/
theorem severityOrder : Obligations.SeverityOrder := by
  unfold Obligations.SeverityOrder
  rintro a b l rfl
  show worseQual a b = if severityCodes.idxOf a ≤ severityCodes.idxOf b then a else b
  have ha := qualRank_add_idxOf a
  have hb := qualRank_add_idxOf b
  unfold worseQual
  by_cases h : severityCodes.idxOf a ≤ severityCodes.idxOf b
  · rw [if_pos h, if_neg (by omega)]
  · rw [if_neg h, if_pos (by omega)]

/-! ## The state after reset (R11, R728) -/

/-- The only words that the state after reset lists are RST_CAUSE and the synthesisers' status. -/
theorem State.reset_rd {a : Nat} (hc : a ≠ 0x010000) (hs : a ≠ 0x020004) : State.reset.rd a = resetWord a := by
  have hf : Space.find State.reset.regs a = none := by
    simp [State.reset, Space.find, Ne.symm hc, Ne.symm hs]
  unfold State.rd Space.read
  rw [hf, Option.getD_none]

theorem State.reset_dev : State.reset.dev = 0 := by decide

theorem State.reset_isDark : State.reset.isDark := by
  unfold State.isDark
  decide

/-- The eight sessions are closed at reset (R469), and a session beyond them does not exist. -/
theorem State.reset_closed (r : Nat) : (State.reset.sess r).isOpen = false := by
  have he : ∀ x ∈ freshSessions, x.isOpen = false := by decide
  show (freshSessions.getD r {}).isOpen = false
  rw [List.getD_eq_getElem?_getD]
  cases h : freshSessions[r]? with
  | none => rfl
  | some x => exact he x (List.mem_of_getElem? h)

/-- Settles O6: the list of the register space at reset, its device state and its sessions. -/
theorem resetLeavesRegisters : Obligations.ResetLeavesRegisters := by
  unfold Obligations.ResetLeavesRegisters
  refine ⟨fun _ hc hs => State.reset_rd hc hs, State.reset_dev, ?_, State.reset_isDark, rfl, rfl, State.reset_closed⟩
  unfold State.emits
  rw [State.reset_dev]
  decide

/-- Settles O5: the two words listed at reset stand in rising order and differ from their reset values. -/
theorem resetIsSound : Obligations.ResetIsSound := by
  unfold Obligations.ResetIsSound State.sound
  decide

/-! ## What every step keeps -/

/-- Settles O4: each part is what every command keeps (exec_within) and the idle cycle keeps (State.tick_within). -/
theorem stepKeepsInvariant : Obligations.StepKeepsInvariant := by
  unfold Obligations.StepKeepsInvariant
  intro s t hs h
  exact ⟨step_sound h hs, step_pending h, step_out h⟩

end Sys2Proof.Machine
end

section
/-! A step with a command waiting (O1), and what the commands of the sensing chain (O55) and of the pair, calibration, memory
controller and perturbation units (O59) leave unchanged. -/

namespace Sys2Proof.Machine

/-- With a command at its front, the queue gives it up and the step is its meaning (log entries 2 and 4). -/
theorem step_cons {s : State} {c : Instr} {rest : List Instr} (h : s.pending = c :: rest) :
    step s = exec c { s with pending := rest } := by
  simp only [step, h]

/-- Settles O1: the queue of the state is the command and the rest. -/
theorem stepRunsFront : Obligations.StepRunsFront := fun _ _ _ => step_cons rfl

/-- Settles O55: each command's own frame (Sys2Proof/Laws), found by the case split on the command. -/
theorem frameOfSensing : Obligations.FrameOfSensing := by
  intro c s t h
  cases c with
  | sweepStart => exact execSweepStart_within t h
  | shotLaunch => exact execShotLaunch_within t h
  | diagnosticPulse => exact execDiagnosticPulse_within t h
  | compUpdate => exact execCompUpdate_within t h
  | derateUpdate => exact execDerateUpdate_within t h
  | powerLoopStep => exact execPowerLoopStep_within t h
  | lockLoss => exact execLockLoss_within t h
  | thermalFaultClear => exact execThermalFaultClear_within t h
  | powerShortfall => exact execPowerShortfall_within t h
  | pumpOpenDetect => exact execPumpOpenDetect_within t h
  | intlkNRise => exact execIntlkNRise_within t h
  | laserLocked => exact execLaserLocked_within t h
  | relockFail => exact execRelockFail_within t h
  | rprecFault => exact execRprecFault_within t h
  | intlkNFall => exact execIntlkNFall_within t h
  | thermalTrip => exact execThermalTrip_within t h
  | barrierSilence => exact execBarrierSilence_within t h
  | aprBreakDetect => exact execAprBreakDetect_within t h
  | restoreProbe => exact execRestoreProbe_within t h
  | sweepSyncEdge => exact execSweepSyncEdge_within t h
  | agcIntervalEnd => exact execAgcIntervalEnd_within t h
  | refVisLow => exact execRefVisLow_within t h
  | phaseChainShot => exact execPhaseChainShot_within t h
  | signatureVerdict intA intB contA contB => exact execSignatureVerdict_within (a0 := intA) (a1 := intB) (a2 := contA) (a3 := contB) t h
  | decimationOutput => exact execDecimationOutput_within t h
  | brlShotContribution => exact execBrlShotContribution_within t h
  | brlFold => exact execBrlFold_within t h
  | periodClose => exact execPeriodClose_within t h
  | brlResultReady => exact execBrlResultReady_within t h
  | brlRead => exact execBrlRead_within t h
  | baseline => exact execBaseline_within t h
  | syncExecute => exact execSyncExecute_within t h
  | ridgeSyncSend => exact execRidgeSyncSend_within t h
  | flashingSettled => exact execFlashingSettled_within t h
  | monitorConversion => exact execMonitorConversion_within t h
  | _ => trivial

/-- Settles O59: each command's own frame (Sys2Proof/Laws), found by the case split on the command. -/
theorem frameOfSupport : Obligations.FrameOfSupport := by
  intro c s t h
  cases c with
  | pairCycleBoundary => exact execPairCycleBoundary_within t h
  | calRun => exact execCalRun_within t h
  | calStatus => exact execCalStatus_within t h
  | calRead => exact execCalRead_within t h
  | pairStatus => exact execPairStatus_within t h
  | restoreFactory => exact execRestoreFactory_within t h
  | refAttach => exact execRefAttach_within t h
  | refDetach => exact execRefDetach_within t h
  | take => exact execTake_within t h
  | switchBack => exact execSwitchBack_within t h
  | ptbSet => exact execPtbSet_within t h
  | ptbClear => exact execPtbClear_within t h
  | heartbeatFrame => exact execHeartbeatFrame_within t h
  | pairCmd => exact execPairCmd_within t h
  | healthUpdate => exact execHealthUpdate_within t h
  | heartbeatSend => exact execHeartbeatSend_within t h
  | fence => exact execFence_within t h
  | partnerHeartbeatLoss => exact execPartnerHeartbeatLoss_within t h
  | refLossDeclare => exact execRefLossDeclare_within t h
  | revertHoldExpire => exact execRevertHoldExpire_within t h
  | takeExecute => exact execTakeExecute_within t h
  | makeStart => exact execMakeStart_within t h
  | switchInstant => exact execSwitchInstant_within t h
  | pairIdle => exact execPairIdle_within t h
  | pairHb => exact execPairHb_within t h
  | pairCfgFrame => exact execPairCfgFrame_within t h
  | snap => exact execSnap_within t h
  | finalSeq => exact execFinalSeq_within t h
  | takeAt => exact execTakeAt_within t h
  | pairHbSend => exact execPairHbSend_within t h
  | pairLinkDown => exact execPairLinkDown_within t h
  | pairLinkUp => exact execPairLinkUp_within t h
  | calSensorRead => exact execCalSensorRead_within t h
  | calMicroStep => exact execCalMicroStep_within t h
  | calRetryExpire => exact execCalRetryExpire_within t h
  | calUserSave => exact execCalUserSave_within t h
  | mr4Read => exact execMr4Read_within t h
  | refreshDue => exact execRefreshDue_within t h
  | refreshIssue => exact execRefreshIssue_within t h
  | dramRead => exact execDramRead_within t h
  | freqChange => exact execFreqChange_within t h
  | rowActivate => exact execRowActivate_within t h
  | trainingStep => exact execTrainingStep_within t h
  | rdTableClear => exact execRdTableClear_within t h
  | ptbLifeExpire => exact execPtbLifeExpire_within t h
  | _ => trivial

end Sys2Proof.Machine
end

section
/-! SUPPORT. What a session holds after a request has been taken and answered, and after a long operation has been accepted
(R432, R443). -/

namespace Sys2Proof.Machine

/-! ## The session across a change of its sequences, its cache and a reply -/

/-- What a change of a session's record leaves alone reads as before in every session. -/
theorem State.sess_modSess_keeps {α : Type} (s : State) (r k : Nat) {f : Session → Session} {g : Session → α} (hf : ∀ x, g (f x) = g x) :
    g ((s.modSess r f).sess k) = g (s.sess k) := by
  unfold State.sess State.modSess
  rw [updAt_getD]
  split
  · exact hf _
  · rfl

theorem State.sess_taken_txn (s : State) (q : ReqHdr) (op k : Nat) : ((s.taken q op).sess k).txn = (s.sess k).txn :=
  s.sess_modSess_keeps (g := Session.txn) _ _ fun _ => rfl

theorem State.sess_taken_longs (s : State) (q : ReqHdr) (op k : Nat) : ((s.taken q op).sess k).longs = (s.sess k).longs :=
  s.sess_modSess_keeps (g := Session.longs) _ _ fun _ => rfl

theorem State.modSess_staged (s : State) (r : Nat) (f : Session → Session) : (s.modSess r f).qcp.staged = s.qcp.staged := rfl

theorem State.taken_staged (s : State) (q : ReqHdr) (op : Nat) : (s.taken q op).qcp.staged = s.qcp.staged := s.modSess_staged ..

theorem State.modSess_length (s : State) (r : Nat) (f : Session → Session) : (s.modSess r f).qcp.sess.length = s.qcp.sess.length :=
  updAt_length ..

theorem State.taken_length (s : State) (q : ReqHdr) (op : Nat) : (s.taken q op).qcp.sess.length = s.qcp.sess.length := s.modSess_length ..

/-- A reply is noted in the session's cache, and changes nothing else of the interpreter. -/
theorem State.reply_qcp (s : State) (q : ReqHdr) (op st : Nat) (l : List Item) :
    (s.reply q op st l).qcp = (s.modSess q.session.val (fun x => x.cacheReply q.seq (replyPacket s q op st l))).qcp := State.sendReply_qcp ..

theorem State.sess_reply_txn (s : State) (q : ReqHdr) (op st : Nat) (l : List Item) (k : Nat) :
    ((s.reply q op st l).sess k).txn = (s.sess k).txn := by
  rw [State.sess_congr (s.reply_qcp ..)]
  exact s.sess_modSess_keeps (g := Session.txn) _ _ fun _ => rfl

theorem State.sess_reply_longs (s : State) (q : ReqHdr) (op st : Nat) (l : List Item) (k : Nat) :
    ((s.reply q op st l).sess k).longs = (s.sess k).longs := by
  rw [State.sess_congr (s.reply_qcp ..)]
  exact s.sess_modSess_keeps (g := Session.longs) _ _ fun _ => rfl

theorem State.reply_staged (s : State) (q : ReqHdr) (op st : Nat) (l : List Item) : (s.reply q op st l).qcp.staged = s.qcp.staged :=
  by
  rw [s.reply_qcp, State.modSess_staged]

/-! ## The reply of an admitted request -/

/-- A reply from a state that has sent the same so far and signs alike is a reply from the state before (R423). -/
theorem State.replied_congr {s u t : State} {q : ReqHdr} {op st : Nat} {l : List Item} (ho : u.out = s.out)
    (hp : replyPacket u q op st l = replyPacket s q op st l) (h : u.replied t q op st l) : s.replied t q op st l := by
  unfold State.replied State.sentOne at *
  rwa [ho, hp] at h

/-- A change of a session that leaves its key leaves the packet of a reply. -/
theorem replyPacket_modSess (s : State) (q : ReqHdr) (op st r : Nat) (l : List Item) {f : Session → Session} (hf : ∀ x, (f x).key = x.key) :
    replyPacket (s.modSess r f) q op st l = replyPacket s q op st l := by
  unfold replyPacket
  rw [s.sess_modSess_keeps r _ (g := Session.key) hf]
  rfl

/-- The reply of an admitted request that has changed its session, but not the key. -/
theorem State.taken_reply_replied {s : State} {q : ReqHdr} (h : s.admits q) (op st : Nat) (l : List Item) {f : Session → Session}
    (hf : ∀ x, (f x).key = x.key) : s.replied (((s.taken q op).modSess q.session.val f).reply q op st l) q op st l := by
  obtain ⟨⟨-, -, -, hc⟩, -⟩ := h
  exact State.replied_congr (u := (s.taken q op).modSess q.session.val f) rfl
    ((replyPacket_modSess _ _ _ _ _ _ hf).trans (replyPacket_taken ..)) (State.reply_replied _ _ _ _ _ hc)

/-- Checks that all pass lead to the body (R440). -/
theorem State.checks_pass {s : State} {q : ReqHdr} {op : Nat} {l : List (Bool × Nat)} {body : State → State} (h : ∀ c ∈ l, c.1 = false) :
    s.checks q op l body = body s := by
  induction l with
  | nil => rfl
  | cons c t ih =>
    rw [State.checks, h c (List.mem_cons_self ..), if_neg Bool.false_ne_true]
    exact ih fun d hd => h d (List.mem_cons_of_mem _ hd)

/-! ## Long operations (R443) -/

theorem State.longsFull_taken {s : State} {q : ReqHdr} (h : s.admitsLong q) (op : Nat) : (s.taken q op).longsFull q = false := by
  unfold State.longsFull Session.inProgress
  rw [State.sess_taken_longs]
  exact decide_eq_false (Nat.not_le.2 h.2.1)

/-- A session with room for it accepts a long operation. -/
theorem State.startLong_accepted {s : State} {q : ReqHdr} {op n : Nat} {body : State → State} (h : s.longsFull q = false) :
    s.startLong q op n body = body (s.accepted q op n) := by
  unfold State.startLong
  rw [h, if_neg Bool.false_ne_true]
  rfl

theorem State.accepted_staged (s : State) (q : ReqHdr) (op n : Nat) : (s.accepted q op n).qcp.staged = s.qcp.staged := by
  unfold State.accepted
  rw [State.qcpCount_qcp, State.reply_staged, State.modSess_staged]

theorem State.accepted_length (s : State) (q : ReqHdr) (op n : Nat) : (s.accepted q op n).qcp.sess.length = s.qcp.sess.length := by
  unfold State.accepted
  rw [State.qcpCount_qcp, State.reply_qcp, State.modSess_length, State.modSess_length]

/-- The newest long operation of the session is the one accepted. -/
theorem State.accepted_longs (s : State) {q : ReqHdr} (op n : Nat) (h : q.session.val < s.qcp.sess.length) :
    ((s.accepted q op n).sess q.session.val).longs.head? = some { seq := q.seq, opcode := op, via := q.via, subject := n } := by
  unfold State.accepted
  rw [State.sess_congr (State.qcpCount_qcp _), State.sess_reply_longs, State.sess_modSess_same _ _ h]
  rfl

/-- The acceptance of an admitted request is answered before anything else leaves. -/
theorem State.taken_accepted_answered {s : State} {q : ReqHdr} (h : s.admits q) (op n : Nat) :
    s.answered ((s.taken q op).accepted q op n) q op stAccepted [] := by
  obtain ⟨l, hl, -⟩ := State.taken_reply_replied h op stAccepted [] (f := fun x => { x with
    longs := keepLongs ({ seq := q.seq, opcode := op, via := q.via, subject := n } :: x.longs) }) fun _ => rfl
  refine ⟨l, ?_⟩
  unfold State.accepted State.qcpCount
  rw [State.puts_out, hl, List.append_assoc]
  rfl

/-- An admitted request for a long operation that is accepted has begun. -/
theorem State.taken_accepted_began {s : State} {q : ReqHdr} (h : s.admitsLong q) (op n : Nat) :
    s.began ((s.taken q op).accepted q op n) q op n := by
  obtain ⟨ha, -, hr⟩ := h
  exact ⟨State.taken_accepted_answered ha op n, State.accepted_longs _ _ _ (by rwa [State.taken_length])⟩

/-- The commit point marks the operations of its sequence (R444). -/
theorem State.commitPoint_committed (s : State) {r : Nat} {seq : BitVec 32} (h : r < s.qcp.sess.length) :
    ∀ y ∈ ((s.commitPoint r seq).sess r).longs, y.seq = seq → y.committed = true := by
  unfold State.commitPoint
  rw [State.sess_modSess_same _ _ h]
  intro y hy hq
  obtain ⟨z, -, rfl⟩ := List.mem_map.1 hy
  split at hq
  · rw [if_pos ‹_›]
  · exact absurd hq ‹_›

end Sys2Proof.Machine
end

section
/-! Transactions (O21): BEGIN, SET, DISCARD, COMMIT, the handover of a staged set and the epoch boundary (R29, R479 to R484). -/

namespace Sys2Proof.Machine

/-! ## BEGIN, SET, DISCARD (R479, R480) -/

/-- The state in which an admitted request has set the transaction of its session and is answered. -/
def State.txnSet (s : State) (q : ReqHdr) (op : Nat) (m : Option (List (Nat × Word))) : State :=
  ((s.taken q op).modSess q.session.val (fun x => { x with txn := m })).reply q op stOk

theorem State.txnSet_replied {s : State} {q : ReqHdr} (h : s.admits q) (hr : q.session.val < s.qcp.sess.length) (op : Nat)
    (m : Option (List (Nat × Word))) :
    s.replied (s.txnSet q op m) q op stOk [] ∧ ((s.txnSet q op m).sess q.session.val).txn = m := by
  refine ⟨State.taken_reply_replied h _ _ _ fun _ => rfl, ?_⟩
  unfold State.txnSet
  rw [State.sess_reply_txn, State.sess_modSess_same _ _ (by rwa [State.taken_length])]

theorem exec_begin {s : State} {q : ReqHdr} (h : s.admits q) (ht : (s.sess q.session.val).txn = none) :
    exec (.begin q) s = .next (s.txnSet q 0x0200 (some [])) := by
  show Host.Outcome.next (s.request q 0x0200 (beginBody q)) = _
  rw [State.request_admits h, beginBody, State.sess_taken_txn, ht]
  rfl

theorem exec_discard {s : State} {q : ReqHdr} {l : List (Nat × Word)} (h : s.admits q) (ht : (s.sess q.session.val).txn = some l) :
    exec (.discard q) s = .next (s.txnSet q 0x0203 none) := by
  show Host.Outcome.next (s.request q 0x0203 (discardBody q)) = _
  rw [State.request_admits h, discardBody, State.sess_taken_txn, ht]
  rfl

/-- SET of words that may be staged, by a session that may commit them, puts them into its transaction. -/
theorem exec_set {s : State} {q : ReqHdr} {addr : BitVec 24} {data : List Word} {l new : List (Nat × Word)} (h : s.admits q)
    (ht : (s.sess q.session.val).txn = some l)
    (hn : new = (spread addr.toNat data).foldl (fun (a : List (Nat × Word)) e => stage a e.1 e.2) l)
    (hs : (spread addr.toNat data).all (fun e => stageable e.1) = true) (hl : new.length ≤ 65536)
    (hc : (spread addr.toNat data).all (fun e => (s.taken q 0x0201).mayCommit q.session.val e.1 e.2) = true) :
    exec (.set q addr data) s = .next (s.txnSet q 0x0201 (some new)) := by
  subst hn
  show Host.Outcome.next (s.request q 0x0201 (setBody q addr.toNat data) _) = _
  rw [State.request_admits h, setBody, State.sess_taken_txn, ht]
  dsimp only
  rw [State.checks_pass]
  · rfl
  · rw [List.all_eq_not_any_not, Bool.not_eq_true'] at hs hc
    simp [hs, hc, hl]

/-! ## COMMIT (R481 to R483) -/

/-- A set that validates is staged behind those validated (R482, R483). -/
theorem State.validateSet_staged {s : State} {q : ReqHdr} {op : Nat} {l : List (Nat × Word)} {epoch : Option (BitVec 32)}
    (h : s.validate q.session l epoch = none) :
    s.validateSet q op l epoch = s.stageSet { session := q.session, seq := q.seq, opcode := op, words := sortWords l } := by
  unfold State.validateSet
  rw [if_neg Bool.false_ne_true, h]

/-- Staging a set leaves the sessions and what has left the block. -/
theorem State.began_stageSet {s t : State} {q : ReqHdr} {op n : Nat} (x : StagedSet) (h : s.began t q op n) : s.began (t.stageSet x) q op n := h

/-- A change of a session that leaves its long operations leaves what has begun. -/
theorem State.began_modSess {s t : State} {q : ReqHdr} {op n : Nat} {f : Session → Session} (hf : ∀ x, (f x).longs = x.longs)
    (h : s.began t q op n) : s.began (t.modSess q.session.val f) q op n := by
  refine ⟨h.1, ?_⟩
  rw [t.sess_modSess_keeps _ _ (g := Session.longs) hf]
  exact h.2

/-- COMMIT of a transaction that validates. -/
theorem exec_commit {s u : State} {q : ReqHdr} {epoch : Option (BitVec 32)} {l : List (Nat × Word)} (h : s.admitsLong q)
    (ht : (s.sess q.session.val).txn = some l) (hf : s.flag DMC_STATUS.TFAIL = false)
    (hu : u = ((s.taken q 0x0202).accepted q 0x0202 0).modSess q.session.val (fun x => { x with txn := none }))
    (hv : u.validate q.session l epoch = none) :
    exec (.commit q epoch) s = .next (u.stageSet { session := q.session, seq := q.seq, opcode := 0x0202, words := sortWords l }) := by
  have hfull := State.longsFull_taken h 0x0202
  show Host.Outcome.next (s.request q 0x0202 (commitBody q epoch) _) = _
  rw [State.request_admits h.1, commitBody, State.sess_taken_txn, ht, State.checks_pass (by simp [hfull, hf]),
    State.startLong_accepted hfull, ← hu]
  exact congrArg _ (State.validateSet_staged hv)

/-! ## The handover (R29, R444, R483) -/

/-- The epoch number that the next set handed over gets is counted from the epoch in force by the sets handed over. -/
theorem State.assigned_eq (s : State) : s.assigned = nextEpoch^[s.handedSets.length] s.epoch := List.foldl_const ..

theorem State.le_issue (s : State) (e : BitVec 32) : e ≤ (s.issue e).power.ret.epoch := by
  unfold State.issue
  dsimp only
  split
  · exact BitVec.le_refl e
  · exact BitVec.not_lt.1 ‹_›

/-- The state in which the oldest set of those staged is handed over. -/
def State.handFront (s : State) (x : StagedSet) (l : List StagedSet) : State :=
  { s with qcp := { s.qcp with staged := { x with handed := some s.now } :: l } }

/-- A set handed over takes the next epoch number. -/
theorem State.assigned_handFront {s : State} {x : StagedSet} {l : List StagedSet} (hs : s.qcp.staged = x :: l) (hx : x.handed = none) :
    (s.handFront x l).assigned = nextEpoch s.assigned := by
  have hl : (s.handFront x l).handedSets.length = s.handedSets.length + 1 := by
    simp [State.handedSets, State.handFront, hs, hx]
  rw [State.assigned_eq, State.assigned_eq, hl, Function.iterate_succ_apply']
  rfl

theorem exec_stagedSetHandover_front {s : State} {x : StagedSet} {l : List StagedSet} (hs : s.qcp.staged = x :: l) (hx : x.handed = none) :
    exec .stagedSetHandover s = .next
      ((((s.handFront x l).issue (s.handFront x l).assigned).updOverdrawn).commitPoint x.session.val x.seq) := by
  show Host.Outcome.next (stagedSetHandoverStep s) = _
  simp [stagedSetHandoverStep, State.handFront, hs, hx, updAt, List.findIdx?_cons]

/-! ## The epoch boundary (R29, R484, R485) -/

section

variable {s a : State} {x : StagedSet} {l : List StagedSet} {h b : Ts}

/-- A set waits while a sweep grid runs whose next boundary is too close to the handover, or has taken a set (R483, R484). -/
theorem exec_epochBoundary_waits (hs : s.qcp.staged = x :: l) (hx : x.handed = some h) (hb : b = if s.sweeping then s.nextBoundary else s.now)
    (hw : s.sweeping = true) (hn : b < h + 10000 * ns ∨ s.boundaryTaken b = true) : exec .epochBoundary s = .next s := by
  show Host.Outcome.next (epochBoundaryStep s) = _
  simp only [epochBoundaryStep, hs, hx, ← hb]
  rw [if_pos (by simpa [hw] using hn)]

/-- A set whose boundary has come takes effect and completes (R29, R445). -/
theorem exec_epochBoundary_applies (hs : s.qcp.staged = x :: l) (hx : x.handed = some h) (hb : b = if s.sweeping then s.nextBoundary else s.now)
    (ha : a = ({ s with qcp := { s.qcp with staged := l } }).toBoundary b)
    (hd : s.sweeping = true → h + 10000 * ns ≤ b ∧ s.boundaryTaken b = false) :
    exec .epochBoundary s =
      .next ((a.applySet x b).complete x.session.val x.seq (a.setResult x b).1 (a.setResult x b).2) := by
  show Host.Outcome.next (epochBoundaryStep s) = _
  simp only [epochBoundaryStep, hs, hx, ← hb, ← ha]
  refine congrArg _ (if_neg ?_)
  cases hw : s.sweeping with
  | false => simp
  | true =>
    obtain ⟨hd, ht⟩ := hd hw
    simp [ht, hd]

theorem State.setResult_ok (hr : (a.applySettings x b).runRefusal (a.setWords x) = none) :
    a.setResult x b = (stOk, if x.opcode = 0x0202 then [itEpoch (nextEpoch a.epoch).toNat] else []) := by
  unfold State.setResult
  rw [hr]

theorem State.setResult_refused {f : Failing} (hr : (a.applySettings x b).runRefusal (a.setWords x) = some f) :
    a.setResult x b = (f.status, (f.off.map itAddr).toList) := by
  unfold State.setResult
  rw [hr]

end

/-- Settles O21: each command by the lemma of its section above. -/
theorem transactionsComplete : Obligations.TransactionsComplete := by
  unfold Obligations.TransactionsComplete
  refine ⟨fun q s h hr => ⟨fun ht => ⟨_, exec_begin h ht, State.txnSet_replied h hr ..⟩, fun l ht =>
      ⟨⟨_, exec_discard h ht, State.txnSet_replied h hr ..⟩, fun addr data new hn hs hl hc =>
        ⟨_, exec_set h ht hn hs hl hc, State.txnSet_replied h hr ..⟩⟩⟩, ?commit, fun x l s hs => ⟨?handover, ?boundary⟩⟩
  case commit =>
    intro q epoch l u s h ht hf hu hv
    have hlen : q.session.val < ((s.taken q 0x0202).accepted q 0x0202 0).qcp.sess.length := by
      rw [State.accepted_length, State.taken_length]
      exact h.2.2
    have htxn : (u.sess q.session.val).txn = none := by rw [hu, State.sess_modSess_same _ _ hlen]
    have hstaged : u.qcp.staged = s.qcp.staged := by
      rw [hu, State.modSess_staged, State.accepted_staged, State.taken_staged]
    refine ⟨_, exec_commit h ht hf hu hv, State.began_stageSet _ ?_, htxn, congrArg (· ++ _) hstaged⟩
    rw [hu]
    exact State.began_modSess (fun _ => rfl) (State.taken_accepted_began h 0x0202 0)
  case handover =>
    intro hx hr
    refine ⟨_, exec_stagedSetHandover_front hs hx, rfl, ?_, State.commitPoint_committed _ hr⟩
    rw [← State.assigned_handFront hs hx]
    exact State.le_issue ..
  case boundary =>
    intro h hx b a hb ha
    refine ⟨fun hw hn => exec_epochBoundary_waits hs hx hb hw hn, fun hd => ⟨fun hr => ?_, fun f hr => ?_⟩⟩
    · rw [exec_epochBoundary_applies hs hx hb ha hd, State.setResult_ok hr]
    · rw [exec_epochBoundary_applies hs hx hb ha hd, State.setResult_refused hr]

end Sys2Proof.Machine
end

section
/-! SUPPORT. The launch of one port's shot (R21, R94, R98): what it looks at, which the launch of the other port leaves as it is, and
what it sends and notes. -/

namespace Sys2Proof.Machine

/-- Two states in which the launch of a shot finds the same: they differ at most in the local clock, the receiver and the Brillouin
chain, what has left, and the grid's record of positions, absences and shots in flight. -/
def State.launchAlike (s t : State) : Prop :=
  t = { s with
    clk := t.clk, cyc := t.cyc, rx := t.rx, brl := t.brl, out := t.out
    grid := { s.grid with
      nextPos := t.grid.nextPos, skip := t.grid.skip, restarts := t.grid.restarts, reinitA := t.grid.reinitA, reinitB := t.grid.reinitB
      absA := t.grid.absA, absB := t.grid.absB, inflight := t.grid.inflight, lastS := t.grid.lastS } }

/-- A shot that waits for its return is the one of a port and a position of the sweep in progress, launched. -/
def State.ownShot (s : State) (p : Port) (pos : Fin 16) (i : Inflight) : Prop :=
  i.port = p ∧ i.pos = pos ∧ i.launched = true ∧ i.s = s.grid.k * s.grid.nslot + pos.val ∧ i.launch = s.grid.start + s.launchOffset pos.val

theorem State.launchAlike.trans {s t u : State} (h : s.launchAlike t) (g : t.launchAlike u) : s.launchAlike u :=
  Eq.trans g (by rw [h])

section

variable {s t : State} (h : s.launchAlike t) (p : Port) (pos : Fin 16)

include h

theorem State.launchAlike.portLaunches : t.portLaunches p = s.portLaunches p := by rw [h]; rfl

theorem State.launchAlike.shadowing : t.shadowing = s.shadowing := by rw [h]; rfl

theorem State.launchAlike.shadowIndex (n : Nat) : t.shadowIndex n = s.shadowIndex n := by rw [h]; rfl

theorem State.launchAlike.phs : t.phs = s.phs := by rw [h]

theorem State.launchAlike.launchTime :
    t.onClock (t.grid.start + t.launchOffset pos.val) = s.onClock (s.grid.start + s.launchOffset pos.val) := by rw [h]; rfl

theorem State.launchAlike.probeOf (c : Ts) : t.probeOf p pos c = s.probeOf p pos c := by rw [h]; rfl

theorem State.launchAlike.ownShot (i : Inflight) : t.ownShot p pos i ↔ s.ownShot p pos i := by rw [h]; rfl

end

/-- What the parts of a launch keep: the shots in flight and what has left only grow, and no position passes. -/
structure State.launchKeeps (s t : State) : Prop where
  alike : s.launchAlike t
  nextPos : t.grid.nextPos = s.grid.nextPos
  skip : t.grid.skip = s.grid.skip
  inflight : s.grid.inflight <+: t.grid.inflight
  out : s.out <+: t.out

theorem State.launchKeeps.refl (s : State) : s.launchKeeps s := ⟨rfl, rfl, rfl, List.prefix_refl _, List.prefix_refl _⟩

theorem State.launchKeeps.trans {s t u : State} (h : s.launchKeeps t) (g : t.launchKeeps u) : s.launchKeeps u :=
  ⟨h.alike.trans g.alike, g.nextPos.trans h.nextPos, g.skip.trans h.skip, h.inflight.trans g.inflight, h.out.trans g.out⟩

/-! ## The parts of a launch -/

theorem State.at_alike (s : State) (t : Ts) : s.launchAlike (s.at t) := by
  unfold State.at
  split <;> rfl

theorem State.setAbs_keeps (s : State) (p : Port) (b : Bool) : s.launchKeeps (s.setAbs p b) := by
  cases p <;> exact ⟨rfl, rfl, rfl, List.prefix_refl _, List.prefix_refl _⟩

theorem State.takenUp_keeps (s : State) (p : Port) : s.launchKeeps (s.takenUp p) := by
  cases p <;> exact ⟨rfl, rfl, rfl, List.prefix_refl _, List.prefix_refl _⟩

theorem State.awaitShot_keeps (s : State) (i : Inflight) : s.launchKeeps (s.awaitShot i) :=
  ⟨rfl, rfl, rfl, List.prefix_append .., List.prefix_refl _⟩

theorem State.fireProbe_keeps (s : State) (p : Port) (pos : Fin 16) : s.launchKeeps (s.fireProbe p pos) := by
  cases p <;> exact ⟨rfl, rfl, rfl, List.prefix_refl _, List.prefix_append ..⟩

theorem State.launchKeeps.ite {s t u : State} {c : Prop} [Decidable c] (h : s.launchKeeps t) (g : s.launchKeeps u) :
    s.launchKeeps (if c then t else u) := by
  split
  · exact h
  · exact g

theorem State.launchKeeps.pos {s t u : State} {c : Prop} [Decidable c] (hc : c) (h : s.launchKeeps t) :
    s.launchKeeps (if c then t else u) := by rwa [if_pos hc]

theorem State.launchKeeps.neg {s t u : State} {c : Prop} [Decidable c] (hc : ¬ c) (h : s.launchKeeps u) :
    s.launchKeeps (if c then t else u) := by rwa [if_neg hc]

/-- A shot may also wait for its Brillouin return. -/
theorem State.brlAwait_keeps (s : State) (b : Brl) : s.launchKeeps { s with brl := b } :=
  ⟨rfl, rfl, rfl, List.prefix_refl _, List.prefix_refl _⟩

theorem State.fireProbe_sent (s : State) (p : Port) (pos : Fin 16) :
    .probe (s.probeOf p pos (s.onClock (s.grid.start + s.launchOffset pos.val))) ∈ (s.fireProbe p pos).out := by
  cases p <;> exact List.mem_append_right _ (List.mem_singleton.2 rfl)

theorem State.awaitShot_waits (s : State) (i : Inflight) : i ∈ (s.awaitShot i).grid.inflight :=
  List.mem_append_right _ (List.mem_singleton.2 rfl)

/-! ## The launch of one port -/

/-- The state in which a position is no longer to be left out on a port. -/
def State.skipDone (s : State) (p : Port) (pos : Fin 16) : State :=
  { s with grid := { s.grid with skip := s.grid.skip.erase (p, pos) } }

theorem State.skipDone_alike (s : State) (p : Port) (pos : Fin 16) : s.launchAlike (s.skipDone p pos) := rfl

theorem State.launchPort_keeps (s : State) (pos : Fin 16) (p : Port) : (s.skipDone p pos).launchKeeps (s.launchPort pos p) := by
  have fire : ∀ (u : State) (c : Bool), u.launchKeeps (if c then u else u.fireProbe p pos) := fun u _ =>
    .ite (.refl u) (u.fireProbe_keeps p pos)
  unfold State.launchPort
  refine .ite (.refl _) (.ite ?dark (.ite (.refl _) (.ite ?signature (.ite ?skipped ?launched))))
  case dark => exact .trans (.ite (State.awaitShot_keeps ..) (.refl _)) (State.setAbs_keeps ..)
  case signature => exact .trans (.ite (fire ..) ((fire ..).trans (State.awaitShot_keeps ..))) (State.setAbs_keeps ..)
  case skipped => exact (State.awaitShot_keeps ..).trans (State.takenUp_keeps ..)
  case launched =>
    refine .trans ((State.awaitShot_keeps ..).trans (State.takenUp_keeps ..)) (.trans (State.fireProbe_keeps ..) (.ite ?_ (.refl _)))
    exact State.brlAwait_keeps ..

/-- A port that may launch has its light on and a return window. -/
theorem State.nbin_of_portLaunches {s : State} {p : Port} (h : s.portLaunches p = true) : s.get (PAT_RANGE.N_BIN p.idx) ≠ 0 := by
  unfold State.portLaunches at h
  simp only [Bool.and_eq_true, bne_iff_ne, ne_eq] at h
  tauto

/-- A port launches the shot of a position: its light is on, the shot is not left out, and in SHADOW the position is one of the two. -/
structure State.launches (s : State) (p : Port) (pos : Fin 16) : Prop where
  on : s.portLaunches p = true
  kept : (p, pos) ∉ s.grid.skip
  shadow : s.shadowing = true → (s.shadowIndex pos.val).isSome = true

/-- By a later state the probe of a position of the sweep has left a port, and without a signature its shot waits for its return. -/
def State.shotLeft (s : State) (p : Port) (pos : Fin 16) (t : State) : Prop :=
  .probe (s.probeOf p pos (s.onClock (s.grid.start + s.launchOffset pos.val))) ∈ t.out ∧
  (s.phs.sigLeft = 0 → s.phs.sigDue = false → ∃ i ∈ t.grid.inflight, s.ownShot p pos i)

theorem State.shotLeft.mono {s t u : State} {p : Port} {pos : Fin 16} (h : s.shotLeft p pos t) (ho : t.out <+: u.out)
    (hi : t.grid.inflight <+: u.grid.inflight) : s.shotLeft p pos u := by
  refine ⟨ho.subset h.1, fun h0 hd => ?_⟩
  obtain ⟨i, hm, h⟩ := h.2 h0 hd
  exact ⟨i, hi.subset hm, h⟩

/-- What leaves on a launch is the same from a state in which the launch finds the same. -/
theorem State.shotLeft.of_alike {s t u : State} {p : Port} {pos : Fin 16} (h : s.launchAlike t) (g : t.shotLeft p pos u) :
    s.shotLeft p pos u := by
  unfold State.shotLeft at *
  simpa only [h.probeOf, h.launchTime, h.phs, h.ownShot] using g

/-- A probe that leaves after its shot waits. -/
theorem State.fireProbe_shotLeft (s : State) (p : Port) (pos : Fin 16)
    (h : s.phs.sigLeft = 0 → s.phs.sigDue = false → ∃ i ∈ s.grid.inflight, s.ownShot p pos i) : s.shotLeft p pos (s.fireProbe p pos) := by
  refine ⟨s.fireProbe_sent p pos, fun h0 hd => ?_⟩
  obtain ⟨i, hi, h⟩ := h h0 hd
  exact ⟨i, (s.fireProbe_keeps p pos).inflight.subset hi, h⟩

/-- A port that launches fires its probe in a state in which, without a signature, its shot already waits (R94, R98). -/
theorem State.launchPort_fires {s : State} {p : Port} {pos : Fin 16} (h : s.launches p pos) :
    ∃ v, s.launchAlike v ∧ (v.fireProbe p pos).launchKeeps (s.launchPort pos p) ∧
      (v.phs.sigLeft = 0 → v.phs.sigDue = false → ∃ i ∈ v.grid.inflight, v.ownShot p pos i) := by
  have hu := s.skipDone_alike p pos
  have hn := State.nbin_of_portLaunches h.on
  have hl : ¬ (!(s.skipDone p pos).portLaunches p) = true := by simp [hu.portLaunches, h.on]
  have hk : ¬ s.grid.skip.contains (p, pos) = true := by simpa using h.kept
  have hd : ¬ ((s.skipDone p pos).shadowing && ((s.skipDone p pos).shadowIndex pos.val).isNone) = true := by
    simpa [hu.shadowing, hu.shadowIndex, Option.isSome_iff_ne_none] using h.shadow
  by_cases hg : (s.phs.sigLeft != 0 || s.phs.sigDue) = true
  · have ht : ((s.skipDone p pos).fireProbe p pos).launchKeeps
        (if s.grid.skip.contains (p, pos) then s.skipDone p pos else (s.skipDone p pos).fireProbe p pos) := .neg hk (.refl _)
    refine ⟨s.skipDone p pos, hu, ?_, fun h0 hw => absurd hg ?_⟩
    · unfold State.launchPort
      exact .neg hn (.neg hl (.neg hd (.pos hg (.trans (.ite ht (ht.trans (State.awaitShot_keeps ..))) (State.setAbs_keeps ..)))))
    · rw [hu.phs] at h0 hw
      simp [h0, hw]
  · have hi := ((s.skipDone p pos).awaitShot_keeps ((s.skipDone p pos).shotOf p pos (!s.grid.skip.contains (p, pos)))).trans
      (State.takenUp_keeps _ p)
    refine ⟨_, hu.trans hi.alike, ?_, fun _ _ => ⟨_, (State.takenUp_keeps _ p).inflight.subset (State.awaitShot_waits ..), ?_⟩⟩
    · unfold State.launchPort
      exact .neg hn (.neg hl (.neg hd (.neg hg (.neg hk (.ite (State.brlAwait_keeps ..) (.refl _))))))
    · exact ((hu.trans hi.alike).ownShot p pos _).2 ⟨rfl, rfl, congrArg not (Bool.eq_false_of_not_eq_true hk), rfl, rfl⟩

theorem State.launchPort_shotLeft {s : State} {p : Port} {pos : Fin 16} (h : s.launches p pos) : s.shotLeft p pos (s.launchPort pos p) := by
  obtain ⟨v, hv, hf, hi⟩ := State.launchPort_fires h
  exact .of_alike hv ((v.fireProbe_shotLeft p pos hi).mono hf.out hf.inflight)

/-! ## The launch of a position on both ports (R94) -/

/-- The state in which the shots of a position are launched: its instant has come, and the position passes. -/
def State.posReached (s : State) (pos : Fin 16) : State :=
  let t := s.at (s.onClock (s.grid.start + s.launchOffset pos.val))
  { t with grid := { t.grid with nextPos := pos.val + 1 } }

theorem State.posReached_alike (s : State) (pos : Fin 16) : s.launchAlike (s.posReached pos) := (s.at_alike _).trans rfl

theorem State.at_grid (s : State) (t : Ts) : (s.at t).grid = s.grid := State.at_within.comp .grid (by decide)

theorem State.posReached_skip (s : State) (pos : Fin 16) : (s.posReached pos).grid.skip = s.grid.skip := by
  unfold State.posReached
  dsimp only
  rw [State.at_grid]

theorem State.launches.of_alike {s t : State} {p : Port} {pos : Fin 16} (h : s.launches p pos) (g : s.launchAlike t)
    (hk : (p, pos) ∉ t.grid.skip) : t.launches p pos :=
  ⟨by rw [g.portLaunches, h.on], hk, by rw [g.shadowing, g.shadowIndex]; exact h.shadow⟩

theorem State.launchPort_alike (s : State) (pos : Fin 16) (p : Port) : s.launchAlike (s.launchPort pos p) :=
  (s.skipDone_alike p pos).trans (s.launchPort_keeps pos p).alike

/-- Once a position is reached, each port that launches launches its shot. -/
theorem State.posReached_shotLeft {s : State} {p : Port} {pos : Fin 16} (h : s.launches p pos) :
    s.shotLeft p pos (((s.posReached pos).launchPort pos .a).launchPort pos .b) := by
  have hr := s.posReached_alike pos
  have ha := hr.trans ((s.posReached pos).launchPort_alike pos .a)
  have hk : (p, pos) ∉ (s.posReached pos).grid.skip := by rw [State.posReached_skip]; exact h.kept
  cases p with
  | a =>
    have hl := State.launchPort_shotLeft (h.of_alike hr hk)
    have hb := ((s.posReached pos).launchPort pos .a).launchPort_keeps pos .b
    exact (hl.mono hb.out hb.inflight).of_alike hr
  | b =>
    refine (State.launchPort_shotLeft (h.of_alike ha fun hm => hk ?_)).of_alike ha
    rw [((s.posReached pos).launchPort_keeps pos .a).skip] at hm
    exact List.mem_of_mem_erase hm

end Sys2Proof.Machine
end

section
/-! Sweeps and shots (O23): the start of a sweep, the launch of its shots, and the syncs that select a bank swap (R15 to R22, R33,
R94, R114 to R116, R569). -/

namespace Sys2Proof.Machine

/-! ## SWEEP_START (R15, R17) -/

theorem State.get_congr {s t : State} (h : t.regs = s.regs) (f : Fld) : t.get f = s.get f := by
  unfold State.get State.rd
  rw [h]

theorem State.seedSeries_grid (s : State) (t : Ts) : (s.seedSeries t).grid = s.grid := State.seedSeries_within.comp .grid (by decide)

/-- What the start of a sweep leaves behind before the acts of its boundary: its index, its start, and no shot launched yet. -/
structure State.sweepBegun (u : State) (k : Nat) (edge : Ts) : Prop where
  index : u.grid.k = k
  start : u.grid.start = edge
  started : u.grid.started = true
  closed : u.grid.closed = false
  nextPos : u.grid.nextPos = 0
  resume : u.grid.resume = none
  indexLo : u.get SYS_SWEEP_LO.IDX_LO = k % 2 ^ 32
  indexHi : u.get SYS_SWEEP_HI.IDX_HI = k / 2 ^ 32 % 2 ^ 16

/-- A sweep starts with its index and start in force, and the acts of R33 follow. -/
theorem State.startSweep_begun (s : State) (edge : Ts) :
    ∃ u : State, s.startSweep edge = u.boundaryActs s.nextK edge ∧ u.sweepBegun s.nextK edge := by
  have hreg : ∀ (v : State) (f g : PortLight → PortLight) (h : Fld), ((v.modPl .a f).modPl .b g).get h = v.get h := fun v f g h =>
    State.get_congr (by rw [State.modPl_regs, State.modPl_regs]) h
  unfold State.startSweep
  refine ⟨_, rfl, ?_, ?_, ?_, ?_, ?_, ?_, ?_, ?_⟩
  case refine_7 =>
    rw [hreg, State.put2, State.get_put_other _ _ _ _ (by decide), State.get_put_same _ _ _ (by decide)]
  case refine_8 =>
    rw [hreg, State.put2, State.get_put_same _ _ _ (by decide)]
  all_goals simp only [State.modPl_grid, State.put2_grid, State.seedSeries_grid]

/-- SWEEP_START on the first edge within 1 ns of the grid time, while the device emits. -/
theorem exec_sweepStart {edge : Ts} {s : State} (hr : s.grid.running = true) (h1 : s.nextBoundary ≤ edge) (h2 : edge < s.nextBoundary + ns)
    (he : s.emits = true) (hs : s.power.shutDue = false) (hd : s.light.runDue = false) :
    exec (.sweepStart edge) s = .next (s.startSweep edge) := by
  show Host.Outcome.next (sweepStartStep edge s) = _
  simp [sweepStartStep, State.whenDo, hr, h1, h2, he, hs, hd]

/-! ## SHOT_LAUNCH (R94) -/

theorem exec_shotLaunch {pos : Fin 16} {s : State} (hr : s.grid.running = true) (hs : s.grid.started = true) (hc : s.grid.closed = false)
    (h1 : s.grid.nextPos ≤ pos.val) (h2 : pos.val < s.grid.nslot) :
    exec (.shotLaunch pos) s = .next (((s.posReached pos).launchPort pos .a).launchPort pos .b) := by
  show Host.Outcome.next (shotLaunchStep pos s) = _
  unfold shotLaunchStep
  dsimp only
  rw [State.whenDo_pos (by simp [hr, hs, hc, h1, h2])]
  rfl

theorem State.posReached_nextPos (s : State) (pos : Fin 16) :
    (((s.posReached pos).launchPort pos .a).launchPort pos .b).grid.nextPos = pos.val + 1 :=
  (State.launchPort_keeps _ pos .b).nextPos.trans ((s.posReached pos).launchPort_keeps pos .a).nextPos

/-! ## The syncs of a bank swap (R114 to R116, R569) -/

/-- A sync of the source in force selects the armed swap, and leaves the rest as it is. -/
theorem State.syncArrives_selects {s : State} {src : Nat} (ha : s.flag PAT_STATUS.ARMED = true) (hs : s.get PAT_CTRL.SWAP_SRC = src) :
    s.syncArrives src = { s with pat := { s.pat with selected := true } } := by
  unfold State.syncArrives
  cases h : s.pat.selected with
  | false => simp [ha, hs]
  | true => simp [← h]

theorem exec_sweepSyncEdge {rising : Bool} {s : State} (hp : rising ≠ s.flag PAT_CTRL.SYNC_POL) :
    exec (.sweepSyncEdge rising) s = .next (s.syncArrives 1) := congrArg _ (State.whenDo_pos (by simpa using hp))

theorem exec_syncExecute {e : Ts} {l : List Ts} {s : State} (h : s.ridge.syncs = e :: l) :
    exec .syncExecute s = .next ((({ s with ridge := { s.ridge with syncs := l } }).at e).syncArrives 2) := by
  show Host.Outcome.next (syncExecuteStep s) = _
  unfold syncExecuteStep
  rw [h]

/-- The clock comes to an instant unless it is past it. -/
theorem State.at_now (s : State) (t : Ts) : (s.at t).now = max s.now t := by
  unfold State.at
  split
  · exact (max_eq_left ‹_›).symm
  · rw [max_eq_right (le_of_not_ge ‹_›)]
    exact Nat.mul_div_cancel _ (by decide)

theorem exec_ridgeSyncSend {path : Path} {s : State} (he : s.power.episode = none) (hp : (s.pathSession path).isSome = true) :
    exec (.ridgeSyncSend path) s = .next s.sendRidgeSync := by
  show Host.Outcome.next (ridgeSyncSendStep path s) = _
  rw [ridgeSyncSendStep, State.ridgeSyncAct, State.byBound, if_pos hp, State.acted_ok he]

/-- Settles O23: each command by the lemmas of its section above. -/
theorem sweepsComplete : Obligations.SweepsComplete := by
  unfold Obligations.SweepsComplete
  refine ⟨?start, ?launch, ?edge, ?execute, ?send⟩
  case start =>
    intro edge s hr h1 h2 he hs hd
    obtain ⟨u, hu, hb⟩ := s.startSweep_begun edge
    refine ⟨u, ?_, hb.index, hb.start, hb.started, hb.closed, hb.nextPos, hb.resume, hb.indexLo, hb.indexHi⟩
    rw [exec_sweepStart hr h1 h2 he hs hd, hu]
  case launch =>
    intro pos p s hr hs hc h1 h2 hl hk hw
    exact ⟨_, exec_shotLaunch hr hs hc h1 h2, s.posReached_nextPos pos, State.posReached_shotLeft ⟨hl, hk, hw⟩⟩
  case edge =>
    intro rising s hp ha hs
    rw [Leads, exec_sweepSyncEdge hp, State.syncArrives_selects ha hs]
    exact ⟨_, rfl, rfl, rfl⟩
  case execute =>
    intro e l s h ha hs
    have hw := State.at_within (s := { s with ridge := { s.ridge with syncs := l } }) (t := e)
    rw [Leads, exec_syncExecute h, State.syncArrives_selects ((hw.flag (by decide)).trans ha) ((hw.get (by decide)).trans hs)]
    exact ⟨_, rfl, congrArg (·.syncs) (hw.comp .ridge (by decide)), rfl, State.at_now ..⟩
  case send =>
    rintro path e t s he hp rfl rfl
    exact exec_ridgeSyncSend he hp

end Sys2Proof.Machine
end

section
/-! SUPPORT. Several fields set at once, one bit of a field, and the light path of one port. -/

namespace Sys2Proof.Machine

/-! ## Several fields -/

theorem State.puts_append (s : State) (l m : List (Fld × Nat)) : s.puts (l ++ m) = (s.puts l).puts m := List.foldl_append

/-- A field of an array of fields that a list of the array's fields sets. -/
theorem State.get_puts_range_same (s : State) (F : Nat → Fld) (v : Nat → Nat) {k n : Nat} (hn : n < k) (hw : (F n).lo + (F n).width ≤ 32)
    (ha : ∀ m < k, m ≠ n → (F m).apart (F n)) :
    (s.puts ((List.range k).map fun m => (F m, v m))).get (F n) = v n % 2 ^ (F n).width := by
  induction k with
  | zero => omega
  | succ k ih =>
    rw [List.range_succ, List.map_append, State.puts_append]
    show ((s.puts _).put (F k) (v k)).get (F n) = _
    by_cases hk : k = n
    · rw [hk, State.get_put_same _ _ _ hw]
    · rw [State.get_put_other _ _ _ _ (ha k k.lt_succ_self hk), ih (by omega) fun m hm => ha m (by omega)]

/-- A field that no field of an array overlaps. -/
theorem State.get_puts_map_other {α : Type} (s : State) (F : α → Fld) (v : α → Nat) (l : List α) {g : Fld} (h : ∀ m, (F m).apart g) :
    (s.puts (l.map fun m => (F m, v m))).get g = s.get g := by
  refine State.get_puts_other _ _ _ fun p hp => ?_
  obtain ⟨m, -, rfl⟩ := List.mem_map.1 hp
  exact h m

theorem State.flag_congr {s t : State} {f : Fld} (h : t.get f = s.get f) : t.flag f = s.flag f := congrArg (· != 0) h

theorem State.flag_eq_false {s : State} {f : Fld} : s.flag f = false ↔ s.get f = 0 := by simp [State.flag]

/-! ## One bit -/

theorem setBit_true_eq (m i : Nat) : setBit m i true = 2 ^ i * (2 * (m / 2 ^ i / 2) + 1) + m % 2 ^ i := by
  have hm := Nat.div_add_mod m (2 ^ i)
  unfold setBit
  generalize m / 2 ^ i = q at *
  generalize m % 2 ^ i = r at *
  subst hm
  obtain ⟨k, rfl | rfl⟩ := Nat.even_or_odd' q
  · rw [Nat.mul_mod_right, Nat.mul_div_cancel_left k two_pos, Bool.toNat_true]
    rw [Nat.zero_mul, Nat.sub_zero]
    ring
  · rw [Nat.mul_add_mod, show (2 * k + 1) / 2 = k by omega, Bool.toNat_true, Nat.one_mod, Nat.one_mul]
    refine Nat.sub_add_cancel (le_trans ?_ (Nat.le_add_right _ _))
    exact Nat.le_mul_of_pos_right _ (Nat.succ_pos _)

/-- Setting a bit sets that bit alone. -/
theorem testBit_setBit (m i j : Nat) : (setBit m i true).testBit j = (m.testBit j || decide (i = j)) := by
  rw [setBit_true_eq, Nat.testBit_two_pow_mul_add _ (Nat.mod_lt _ (Nat.two_pow_pos i))]
  split
  · rename_i h
    simp [Nat.testBit_mod_two_pow, h, show i ≠ j by omega]
  · rename_i h
    obtain ⟨k, rfl⟩ : ∃ k, j = i + k := ⟨j - i, by omega⟩
    rw [Nat.add_sub_cancel_left, Nat.add_comm i k, ← Nat.testBit_div_two_pow]
    cases k with
    | zero => simp
    | succ k => simp [Nat.testBit_succ, Nat.mul_add_div]

/-! ## The light path of one port -/

theorem State.get_modPl (s : State) (p : Port) (f : PortLight → PortLight) (g : Fld) : (s.modPl p f).get g = s.get g :=
  State.get_congr (s.modPl_regs p f) g

theorem State.pl_modPl_same (s : State) (p : Port) (f : PortLight → PortLight) : (s.modPl p f).pl p = f (s.pl p) := by
  cases p <;> rfl

theorem State.pl_modPl_other (s : State) {p q : Port} (f : PortLight → PortLight) (h : q ≠ p) : (s.modPl p f).pl q = s.pl q := by
  cases p with
  | a =>
    cases q with
    | a => exact absurd rfl h
    | b => rfl
  | b =>
    cases q with
    | a => rfl
    | b => exact absurd rfl h

theorem State.pl_congr {s t : State} (h : t.light = s.light) (p : Port) : t.pl p = s.pl p := by
  unfold State.pl
  rw [h]

end Sys2Proof.Machine
end

section
/-! SUPPORT. Pump densities (R43, R45, R46) and clip bits (R40): what setting them leaves, and what they come to. -/

namespace Sys2Proof.Machine

/-! ## Pump densities -/

theorem State.setDens_light (s : State) : s.setDens.light = { s.light with dens := (List.range 4).map s.densBase } := by
  unfold State.setDens
  rw [State.puts_light]

theorem State.setDens_pl (s : State) (p : Port) : s.setDens.pl p = s.pl p := by
  unfold State.pl
  rw [State.setDens_light]

theorem State.setDens_get (s : State) {f : Fld} (h : ∀ n, (LSD_PUMP_STAT.DENS n).apart f) : s.setDens.get f = s.get f := by
  unfold State.setDens
  rw [State.get_puts_map_other _ _ _ _ h]
  rfl

/-- No word but those of the pumps holds a density. -/
theorem dens_apart {f : Fld} (h : f.addr < 0x030040 ∨ 0x030050 ≤ f.addr) (n : Nat) : (LSD_PUMP_STAT.DENS n).apart f :=
  .inl (by dsimp only; omega)

theorem State.setDens_dens (s : State) (n : Nat) : s.setDens.get (LSD_PUMP_STAT.DENS n) = s.pumpDens (n % 4) % 2 ^ 16 := by
  have hn : LSD_PUMP_STAT.DENS n = LSD_PUMP_STAT.DENS (n % 4) := by simp
  unfold State.setDens
  rw [hn, State.get_puts_range_same _ LSD_PUMP_STAT.DENS _ (Nat.mod_lt n four_pos) (by simp)
    fun m hm hne => .inl (by dsimp only; omega)]

theorem State.densBase_le (s : State) (n : Nat) : s.densBase n ≤ s.light.dens.getD n 0 := by
  unfold State.densBase
  dsimp only
  split
  · exact le_refl _
  · exact min_le_left ..

/-- Cut to the caps, no chosen density rises. -/
theorem State.densBases_le (s : State) (n : Nat) : ((List.range 4).map s.densBase).getD n 0 ≤ s.light.dens.getD n 0 := by
  rw [List.getD_eq_getElem?_getD, List.getElem?_map]
  by_cases h : n < 4
  · rw [List.getElem?_range h]
    exact s.densBase_le n
  · rw [List.getElem?_eq_none (by simpa using h)]
    exact Nat.zero_le _

theorem State.densBase_congr {s t : State} (hc : ∀ n, t.get (LSD_PUMP_STAT.CAP n) = s.get (LSD_PUMP_STAT.CAP n))
    (hk : t.light.comp = s.light.comp) (hd : t.light.dens = s.light.dens) : t.densBase = s.densBase := by
  funext n
  unfold State.densBase State.pumpFactor
  rw [hc, hk, hd]

/-! ## Clip bits -/

/-- A sink whose current its settings put at full scale is so in any state with the same settings and no lower densities. -/
theorem State.sinkOver_mono {s t : State} {n : Nat} (hs : ∀ n, t.get (LSD_SINK_SET.SET n) = s.get (LSD_SINK_SET.SET n))
    (hg : t.get LSD_GSCALE.GSCALE = s.get LSD_GSCALE.GSCALE) (hk : t.light.comp = s.light.comp)
    (hd : ∀ n, t.light.dens.getD n 0 ≤ s.light.dens.getD n 0) (h : t.sinkOver n = true) : s.sinkOver n = true := by
  unfold State.sinkOver State.sinkScale State.pumpFactor at *
  rw [hs, hg, hk] at h
  by_cases hn : n < 4
  · rwa [if_pos hn] at h ⊢
  · rw [if_neg hn, decide_eq_true_iff] at h ⊢
    exact lt_of_lt_of_le h (Nat.mul_le_mul_right _ (hd _))

/-- One sink's clip bit is set where the sink is held at full scale. -/
def State.clip (s : State) (n : Nat) : State :=
  if s.sinkOver n then s.put LSD_GSCALE.TCCLIP (setBit (s.get LSD_GSCALE.TCCLIP) n true) else s

theorem State.sinkClips_eq (s : State) : s.sinkClips = (List.range 8).foldl State.clip s := rfl

theorem State.clip_light (s : State) (n : Nat) : (s.clip n).light = s.light := by
  unfold State.clip
  split <;> rfl

theorem State.clip_get (s : State) (n : Nat) {f : Fld} (h : LSD_GSCALE.TCCLIP.apart f) : (s.clip n).get f = s.get f := by
  unfold State.clip
  split
  · exact State.get_put_other _ _ _ _ h
  · rfl

theorem State.clip_sinkOver (s : State) (m n : Nat) : (s.clip m).sinkOver n = s.sinkOver n := by
  have hs : ∀ n, (s.clip m).get (LSD_SINK_SET.SET n) = s.get (LSD_SINK_SET.SET n) := fun n =>
    s.clip_get m (.inl (by dsimp only; omega))
  have hg := s.clip_get m (f := LSD_GSCALE.GSCALE) (by decide)
  have hl := s.clip_light m
  rw [Bool.eq_iff_iff]
  exact ⟨State.sinkOver_mono hs hg (by rw [hl]) (by simp [hl]),
    State.sinkOver_mono (fun n => (hs n).symm) hg.symm (by rw [hl]) (by simp [hl])⟩

theorem State.clip_bit (s : State) (m : Nat) {n : Nat} (hn : n < 8) :
    ((s.clip m).get LSD_GSCALE.TCCLIP).testBit n = ((s.get LSD_GSCALE.TCCLIP).testBit n || (decide (m = n) && s.sinkOver n)) := by
  unfold State.clip
  split
  · rename_i h
    rw [State.get_put_same _ _ _ (by decide), Nat.testBit_mod_two_pow, testBit_setBit]
    by_cases hm : m = n
    · simp [hn, hm, hm ▸ h]
    · simp [hn, hm]
  · rename_i h
    by_cases hm : m = n
    · simp [hm, hm ▸ h]
    · simp [hm]

theorem State.clips_light (s : State) (l : List Nat) : (l.foldl State.clip s).light = s.light := by
  induction l generalizing s with
  | nil => rfl
  | cons m t ih => rw [List.foldl_cons, ih, State.clip_light]

theorem State.clips_get (s : State) (l : List Nat) {f : Fld} (h : LSD_GSCALE.TCCLIP.apart f) : (l.foldl State.clip s).get f = s.get f := by
  induction l generalizing s with
  | nil => rfl
  | cons m t ih => rw [List.foldl_cons, ih, State.clip_get _ _ h]

theorem State.clips_bit (s : State) (l : List Nat) {n : Nat} (hn : n < 8) : ((l.foldl State.clip s).get LSD_GSCALE.TCCLIP).testBit n =
    ((s.get LSD_GSCALE.TCCLIP).testBit n || (decide (n ∈ l) && s.sinkOver n)) := by
  induction l generalizing s with
  | nil => simp
  | cons m t ih =>
    rw [List.foldl_cons, ih, State.clip_bit _ _ hn, State.clip_sinkOver]
    by_cases hm : m = n
    · cases h : s.sinkOver n <;> simp [hm]
    · simp [hm, Ne.symm hm]

theorem State.sinkClips_light (s : State) : s.sinkClips.light = s.light := s.clips_light _

theorem State.sinkClips_get (s : State) {f : Fld} (h : LSD_GSCALE.TCCLIP.apart f) : s.sinkClips.get f = s.get f := s.clips_get _ h

/-- The clip bits keep what they held and take in every sink held at full scale (R40). -/
theorem State.sinkClips_bit (s : State) {n : Nat} (hn : n < 8) :
    (s.sinkClips.get LSD_GSCALE.TCCLIP).testBit n = ((s.get LSD_GSCALE.TCCLIP).testBit n || s.sinkOver n) := by
  rw [State.sinkClips_eq, State.clips_bit _ _ hn]
  simp [hn]

theorem State.sinkClips_setDens_light (s : State) :
    s.sinkClips.setDens.light = { s.light with dens := (List.range 4).map s.densBase } := by
  rw [State.setDens_light, s.sinkClips_light,
    State.densBase_congr (fun n => s.sinkClips_get (.inl (by dsimp only; omega))) (by rw [s.sinkClips_light]) (by rw [s.sinkClips_light])]

/-- After the clip bits the densities change nothing of the other words. -/
theorem State.sinkClips_setDens_get (s : State) {f : Fld} (hc : LSD_GSCALE.TCCLIP.apart f)
    (hd : f.addr < 0x030040 ∨ 0x030050 ≤ f.addr) : s.sinkClips.setDens.get f = s.get f := by
  rw [State.setDens_get _ (dens_apart hd), s.sinkClips_get hc]

/-- Once the densities are set, every sink then held at full scale has its clip bit. -/
theorem State.sinkClips_setDens_bit (s : State) {n : Nat} (hn : n < 8)
    (h : (s.get LSD_GSCALE.TCCLIP).testBit n = true ∨ s.sinkClips.setDens.sinkOver n = true) :
    (s.sinkClips.setDens.get LSD_GSCALE.TCCLIP).testBit n = true := by
  have ho : s.sinkClips.setDens.sinkOver n = true → s.sinkOver n = true :=
    State.sinkOver_mono (fun n => s.sinkClips_setDens_get (.inl (by dsimp only; omega)) (.inl (by dsimp only; omega)))
      (s.sinkClips_setDens_get (by decide) (by decide)) (by rw [s.sinkClips_setDens_light])
      (by rw [s.sinkClips_setDens_light]; exact s.densBases_le)
  rw [State.setDens_get _ (dens_apart (by decide)), s.sinkClips_bit hn, Bool.or_eq_true]
  exact h.imp_right ho

end Sys2Proof.Machine
end

section
/-! Compensation, derating, the power loop and the open pump (O12: R40 to R50, R87). -/

namespace Sys2Proof.Machine

/-! ## COMP_UPDATE (R40, R42, R43) -/

/-- What COMP_UPDATE holds before the clip bits and the densities follow. -/
def State.compensated (s : State) (therm : List Int) : State :=
  { s with light := { s.light with
    comp := (List.range 8).map (fun n => s.compAt n (therm.getD n 0))
    cooler := clampI (-2000) 2000 (Config.coolerDrive s.light.cooler (therm.getD 0 0))
    therm := therm, laserOff := s.offSince (therm.getD 0 0) } }

theorem exec_compUpdate {therm : List Int} {s : State} (h : therm.length = 8) :
    exec (.compUpdate therm) s = .next ((s.compensated therm).sinkClips.setDens) := by
  show Host.Outcome.next (compUpdateStep therm s) = _
  unfold compUpdateStep
  rw [State.whenDo_pos (by simp [h])]
  rfl

theorem compUpdate_completes {therm : List Int} (s : State) (h : therm.length = 8) :
    Leads (.compUpdate therm) s (fun t =>
      t.light.comp = (List.range 8).map (fun n => s.compAt n (therm.getD n 0)) ∧ t.light.therm = therm ∧
      t.light.laserOff = s.offSince (therm.getD 0 0) ∧
      ∀ n < 8, (s.get LSD_GSCALE.TCCLIP).testBit n = true ∨ t.sinkOver n = true → (t.get LSD_GSCALE.TCCLIP).testBit n = true) := by
  have hl := (s.compensated therm).sinkClips_setDens_light
  refine ⟨_, exec_compUpdate h, ?_, ?_, ?_, fun n hn => (s.compensated therm).sinkClips_setDens_bit hn⟩
  all_goals rw [hl]; rfl

theorem State.offSince_near {s : State} {t : Int} (h : (t - Config.laserSet (s.get LSD_LASER.CH)).natAbs ≤ 100) : s.offSince t = none :=
  if_pos h

theorem State.offSince_far {s : State} {t : Int} (h : 100 < (t - Config.laserSet (s.get LSD_LASER.CH)).natAbs) :
    s.offSince t = some (s.light.laserOff.getD s.cyc) := if_neg (Nat.not_le.2 h)

/-! ## DERATE_UPDATE (R46, R47) -/

/-- What DERATE_UPDATE writes before the densities follow. -/
def State.derated (s : State) (tcase : Int) (f : Nat × Nat) : State :=
  ({ s with light := { s.light with tcase := tcase } }).puts
    ([(LSD_DERATE.FACTOR, (divRound (f.1 * 100 : Nat) f.2).toNat), (LSD_DERATE.LOSS, derateLoss f)]
      ++ (List.range 4).map (fun n => (LSD_PUMP_STAT.CAP n, (divRound (f.1 * 65535 : Nat) f.2).toNat)))

theorem exec_derateUpdate (tcase : Int) (s : State) :
    exec (.derateUpdate tcase) s = .next ((s.derated tcase (derate tcase (s.get LSD_DERATE.KNEE))).setDens) := rfl

theorem State.derated_light (s : State) (tcase : Int) (f : Nat × Nat) : (s.derated tcase f).light = { s.light with tcase := tcase } := by
  unfold State.derated
  rw [State.puts_light]

theorem State.derated_get (s : State) (tcase : Int) (f : Nat × Nat) :
    (s.derated tcase f).get LSD_DERATE.FACTOR = (divRound (f.1 * 100 : Nat) f.2).toNat % 256 ∧
    (s.derated tcase f).get LSD_DERATE.LOSS = derateLoss f % 256 := by
  have hcap : ∀ (u : State) (g : Fld) (v : Nat), g.addr = 0x030060 →
      (u.puts ((List.range 4).map fun n => (LSD_PUMP_STAT.CAP n, v))).get g = u.get g := fun u g v hg =>
    u.get_puts_map_other LSD_PUMP_STAT.CAP (fun _ => v) _ fun m => .inl (by rw [hg]; dsimp only; omega)
  unfold State.derated
  rw [State.puts_append, hcap _ _ _ rfl, hcap _ _ _ rfl, State.puts_cons, State.puts_cons, State.puts_nil]
  dsimp only
  constructor
  · rw [State.get_put_other _ _ _ _ (by decide), State.get_put_same _ _ _ (by decide)]
    rfl
  · rw [State.get_put_same _ _ _ (by decide)]
    rfl

theorem State.derated_cap (s : State) (tcase : Int) (f : Nat × Nat) (n : Nat) :
    (s.derated tcase f).get (LSD_PUMP_STAT.CAP n) = (divRound (f.1 * 65535 : Nat) f.2).toNat % 65536 := by
  have hn : LSD_PUMP_STAT.CAP n = LSD_PUMP_STAT.CAP (n % 4) := by simp
  unfold State.derated
  rw [State.puts_append, hn, State.get_puts_range_same _ LSD_PUMP_STAT.CAP (fun _ => _) (Nat.mod_lt n four_pos) (by simp)
    fun m hm hne => .inl (by dsimp only; omega)]
  rfl

/-! ## POWER_LOOP_STEP (R48, R49, R88) -/

/-- Below +5.0 dBm, with no pump open, the loop asks no pump to change (R49). -/
theorem State.pumpAsk_low {s : State} {n : Nat} {level measured : Int} (hl : level < 50) (ho : s.get LSD_DIAG.PUMP_OPEN = 0) :
    s.pumpAsk n level measured = 0 := by
  unfold State.pumpAsk State.pumpOpen
  simp [ho, hl]

/-- What the loop makes of the densities of a port's two pumps. -/
def State.loopDens (s : State) (p : Port) (lv measured : Int) : List Nat :=
  let move (l : List Nat) (n : Nat) : List Nat :=
    if s.pumpAsk n lv measured = 0 then l else setAt l n (pumpMove n (l.getD n 0) (s.pumpAsk n lv measured))
  move (move s.light.dens (2 * p.idx)) (2 * p.idx + 1)

theorem State.loopDens_low {s : State} {p : Port} {lv measured : Int} (hl : lv < 50) (ho : s.get LSD_DIAG.PUMP_OPEN = 0) :
    s.loopDens p lv measured = s.light.dens := by
  unfold State.loopDens
  simp only [State.pumpAsk_low hl ho, if_true]

/-- The state in which the loop has chosen a port's level and densities and reported its measured power. -/
def State.looped (s : State) (p : Port) (measured : Int) : State :=
  let lv := stepLevel (s.pl p).level (s.levelGoal p)
  let t := (s.modPl p (fun x => { x with level := lv })).puti (LSD_PWR.ACTUAL p.idx) measured
  { t with light := { t.light with dens := s.loopDens p lv measured } }

theorem exec_powerLoopStep {p : Port} {measured : Int} {s : State} (he : s.emits = true) (hc : s.flag LSD_ILK.CLAMP = false) :
    exec (.powerLoopStep p measured) s = .next ((s.looped p measured).sinkClips.setDens) := by
  refine congrArg Host.Outcome.next ((State.whenDo_pos (by simp [he, hc])).trans ?_)
  cases p <;> rfl

theorem State.looped_pl (s : State) (p : Port) (measured : Int) :
    ((s.looped p measured).pl p).level = stepLevel (s.pl p).level (s.levelGoal p) := by cases p <;> rfl

theorem State.looped_actual (s : State) (p : Port) (measured : Int) :
    (s.looped p measured).get (LSD_PWR.ACTUAL p.idx) = pattern 16 measured :=
  (State.get_put_same (s.modPl p _) (LSD_PWR.ACTUAL p.idx) _ (by dsimp only; decide)).trans (pattern_mod 16 measured)

theorem State.looped_densBase {s : State} {p : Port} {measured : Int} (hl : ((s.looped p measured).pl p).level < 50)
    (ho : s.get LSD_DIAG.PUMP_OPEN = 0) : (s.looped p measured).densBase = s.densBase := by
  rw [State.looped_pl] at hl
  refine State.densBase_congr (fun n => ?_) ?_ (State.loopDens_low hl ho)
  · exact (State.get_put_other (s.modPl p _) _ _ _ (.inl (by dsimp only; omega))).trans (s.get_modPl ..)
  · cases p <;> rfl

theorem powerLoopStep_completes {p : Port} {measured : Int} {s : State} (he : s.emits = true) (hc : s.flag LSD_ILK.CLAMP = false) :
    Leads (.powerLoopStep p measured) s (fun t =>
      (t.pl p).level = (s.pl p).level + clampI (-2) 2 (s.levelGoal p - (s.pl p).level) ∧
      t.get (LSD_PWR.ACTUAL p.idx) = pattern 16 measured ∧
      ((t.pl p).level < 50 → s.get LSD_DIAG.PUMP_OPEN = 0 → t.light.dens = (List.range 4).map s.densBase)) := by
  refine ⟨_, exec_powerLoopStep he hc, ?_⟩
  have hpl : (s.looped p measured).sinkClips.setDens.pl p = (s.looped p measured).pl p := by
    rw [State.setDens_pl, State.pl_congr (State.sinkClips_light _)]
  show _ = _ ∧ _ ∧ _
  rw [hpl]
  refine ⟨s.looped_pl p measured, ?_, fun hl ho => ?_⟩
  · rw [State.sinkClips_setDens_get _ (.inl (by dsimp only; omega)) (.inr (by dsimp only; omega)), State.looped_actual]
  · rw [State.sinkClips_setDens_light, State.looped_densBase hl ho]

/-! ## POWER_SHORTFALL (R50) -/

theorem exec_powerShortfall {p : Port} {measured : Int} {s : State} (he : s.emits = true)
    (hw : s.get LSD_DERATE.FACTOR < 100 ∨ s.get LSD_DIAG.PUMP_OPEN / 4 ^ p.idx % 4 ≠ 0) (hm : measured < s.target p - 5) :
    exec (.powerShortfall p measured) s = .next ((s.puti (LSD_PWR.ACTUAL p.idx) measured).eventOwner 0x0101 p.idx) := by
  show Host.Outcome.next (powerShortfallStep p measured s) = _
  unfold powerShortfallStep
  dsimp only
  rw [State.whenDo_pos (by simpa [he, hm] using hw)]

theorem powerShortfall_completes {p : Port} {measured : Int} {s : State} (he : s.emits = true)
    (hw : s.get LSD_DERATE.FACTOR < 100 ∨ s.get LSD_DIAG.PUMP_OPEN / 4 ^ p.idx % 4 ≠ 0) (hm : measured < s.target p - 5)
    (ho : s.owner < s.qcp.sess.length) :
    Leads (.powerShortfall p measured) s (fun t =>
      t.get (LSD_PWR.ACTUAL p.idx) = pattern 16 measured ∧ s.told t s.owner 0x0101 p.idx) := by
  refine ⟨_, exec_powerShortfall he hw hm, ?_, ?_⟩
  · rw [State.eventOwner_get _ _ _ _ (by unfold qcpWord; dsimp only; omega)]
    exact (State.get_put_same _ _ _ (by dsimp only; decide)).trans (pattern_mod 16 measured)
  · exact State.eventOwner_told _ _ _ rfl (State.get_put_other _ _ _ _ (.inl (by dsimp only; omega))) ho

/-! ## PUMP_OPEN_DETECT (R87) -/

theorem pumpOpenDetect_completes (pump : Fin 4) (s : State) :
    Leads (.pumpOpenDetect pump) s (fun t => t.get LSD_DIAG.PUMP_OPEN = setBit (s.get LSD_DIAG.PUMP_OPEN) pump.val true % 16) :=
  ⟨_, rfl, State.get_put_same s LSD_DIAG.PUMP_OPEN _ (by decide)⟩

end Sys2Proof.Machine
end

section
/-! SUPPORT. Trips, hardware faults and reduced ports: the fields they leave as they are. -/

namespace Sys2Proof.Machine

theorem State.emits_congr {s t : State} (h : t.dev = s.dev) : t.emits = s.emits := by
  unfold State.emits
  rw [h]

theorem State.closeClamp_get (s : State) {f : Fld} (h : ∀ g ∈ [LSD_ILK.CLAMP, LSD_PWR.ACTUAL 0, LSD_PWR.ACTUAL 1], g.apart f) :
    s.closeClamp.get f = s.get f := by
  refine State.get_puts_other _ _ _ ?_
  simpa using h

/-- A trip of the clamp leaves every field but those of the clamp, the ports' power, the latched causes, the state and the monitor. -/
theorem State.trip_get (s : State) (bit : Nat) {f : Fld}
    (h : ∀ g ∈ [LSD_ILK.CLAMP, LSD_PWR.ACTUAL 0, LSD_PWR.ACTUAL 1, LSD_ILK.CAUSE], g.apart f) (hb : blockOf f.addr ∉ [0, 19, 21]) :
    (s.trip bit).get f = s.get f := by
  have hc : LSD_ILK.CAUSE.apart f := h _ (by simp)
  have hs := s.closeClamp_get (f := f) fun g hg => h g (by simp at hg ⊢; tauto)
  unfold State.trip
  dsimp only
  split
  · rw [State.enterSafe_get _ hc hb, State.get_put_other _ _ _ _ hc, hs]
  · exact hs

/-- A hardware fault leaves every field but the latched causes, the state and the monitor. -/
theorem State.hwFault_get (s : State) (e : HwFault) {f : Fld} (hc : LSD_ILK.CAUSE.apart f) (hb : blockOf f.addr ∉ [0, 19, 21]) :
    (s.hwFault e).get f = s.get f := by
  unfold State.hwFault
  dsimp only
  split
  · exact State.enterSafe_get _ hc hb
  · rfl

/-- Entering SAFE from SAFE changes nothing. -/
theorem State.enterSafe_safe {s : State} (h : s.dev = 5) : s.enterSafe = s := if_pos h

/-- A hardware fault in SAFE changes no register. -/
theorem State.hwFault_regs {s : State} (e : HwFault) (h : s.dev = 5) : (s.hwFault e).regs = s.regs := by
  unfold State.hwFault
  dsimp only
  rw [if_pos (by simp [h]), State.enterSafe_safe (by exact h)]

theorem State.hwFault_pl (s : State) (e : HwFault) (p : Port) : (s.hwFault e).pl p = s.pl p := by
  obtain ⟨d, h, l, -, hl⟩ := s.hwFault_light e
  unfold State.pl
  rw [hl]

theorem State.enterSafe_pl (s : State) (p : Port) : s.enterSafe.pl p = s.pl p := by
  obtain ⟨d, hl⟩ := s.enterSafe_light
  unfold State.pl
  rw [hl]

/-- A reduced port's power is at LEVEL at most, and the device is in SAFE (R73, R79). -/
theorem State.reducePort_reduces (s : State) (p : Port) {st : Nat} (hst : st < 4) :
    (s.reducePort p st).apr p = st ∧ (s.reducePort p st).dev = 5 ∧ ((s.reducePort p st).pl p).level ≤ s.aprLevel := by
  unfold State.reducePort
  refine ⟨?_, State.enterSafe_dev _, ?_⟩
  · unfold State.apr
    rw [State.enterSafe_get _ (.inl (by dsimp only; omega)) (by cases p <;> decide), State.get_modPl,
      State.get_put_same _ _ _ (by dsimp only; decide)]
    exact Nat.mod_eq_of_lt hst
  · rw [State.enterSafe_pl, State.pl_modPl_same]
    dsimp only
    split
    · exact le_of_lt ‹_›
    · exact le_refl _

theorem State.reducePort_get (s : State) (p : Port) (st : Nat) {f : Fld} (hp : (LSD_APR_STAT.STATE p.idx).apart f)
    (hc : LSD_ILK.CAUSE.apart f) (hb : blockOf f.addr ∉ [0, 19, 21]) : (s.reducePort p st).get f = s.get f := by
  unfold State.reducePort
  rw [State.enterSafe_get _ hc hb, State.get_modPl, State.get_put_other _ _ _ _ hp]

end Sys2Proof.Machine
end

section
/-! The open-circuit diagnosis (O12: R82 to R86). -/

namespace Sys2Proof.Machine

/-! ## What the pulse of one port leaves of the other -/

/-- Two states in which a port's diagnostic pulse is the same: they differ at most in the words of some blocks, in positions left out,
and in the light path outside that port. -/
structure State.diagAlike (s t : State) (p : Port) : Prop where
  word : ∀ a, blockOf a ∉ [0, 3, 19, 21, 24] → t.rd a = s.rd a
  grid : t.grid = { s.grid with skip := t.grid.skip, diagDone := t.grid.diagDone }
  pl : t.pl p = s.pl p

section

variable {s t : State} {p : Port} (h : s.diagAlike t p)

include h

theorem State.diagAlike.get {f : Fld} (hf : blockOf f.addr ∉ [0, 3, 19, 21, 24]) : t.get f = s.get f := by
  unfold State.get
  rw [h.word _ hf]

theorem State.diagAlike.nbin : t.get (PAT_RANGE.N_BIN p.idx) = s.get (PAT_RANGE.N_BIN p.idx) := h.get (by cases p <;> decide)

theorem State.diagAlike.bank : t.bank = s.bank := h.get (by decide)

theorem State.diagAlike.binNs : t.binNs p = s.binNs p := by
  unfold State.binNs State.flag
  rw [h.get (by cases p <;> decide)]

theorem State.diagAlike.physOf : t.physOf p = s.physOf p := by
  unfold State.physOf State.flag
  rw [h.get (by decide)]

/-- The pattern banks are none of those blocks. -/
theorem State.diagAlike.bankWord (b n : Nat) : t.rd (bankBase p b + n) = s.rd (bankBase p b + n) := by
  refine h.word _ ?_
  unfold blockOf bankBase
  split
  · omega
  · split
    · decide
    · split <;> decide

theorem State.diagAlike.durAt : t.durAt p = s.durAt p := by
  funext b pos
  unfold State.durAt State.descWord State.slotEntry
  simp only [Nat.add_assoc, h.bankWord]

theorem State.diagAlike.restoreDur : t.restoreDur = s.restoreDur := by
  unfold State.restoreDur
  rw [h.grid]

theorem State.diagAlike.durMax (b n : Nat) : t.durMax p b n = s.durMax p b n := by
  unfold State.durMax
  rw [h.durAt]

theorem State.diagAlike.guardShort : t.guardShort p = s.guardShort p := by
  unfold State.guardShort State.guardShortAt
  rw [h.pl, h.durMax, h.bank, h.restoreDur, h.grid]

theorem State.diagAlike.boundaryDur : t.boundaryDur p = s.boundaryDur p := by
  unfold State.boundaryDur State.shotDur
  rw [h.pl, h.durAt, h.bank, h.restoreDur, h.grid]

theorem State.diagAlike.diagSpan : t.diagSpan p = s.diagSpan p := by
  unfold State.diagSpan State.guardNs
  rw [h.nbin, h.binNs, h.boundaryDur, h.grid]

end

/-! ## The pulse of one port -/

/-- The state after a port's pulse: it has left into the dump, and its reading is counted (R83, R86). -/
def State.diagFired (s : State) (p : Port) (n : Nat) : State :=
  (({ s with grid := { s.grid with skip := s.grid.skip ++ s.diagOmits p } }).emit
    (.diagPulse (s.physOf p) (s.diagSpan p).1 (s.diagSpan p).2)).modPl p
      (fun x => { x with gateLow := n, diagDue := false, diagSweep := some s.grid.k })

/-- A port's gate is found open: it launches no more, and the fault is reported (R86). -/
def State.gateFailed (s : State) (p : Port) : State :=
  ((s.modPl p (fun x => { x with stopped := true })).put LSD_DIAG.GATE_OPEN (setBit (s.get LSD_DIAG.GATE_OPEN) p.idx true)).hwFault .gate

/-- Low readings of a port's gate in a row, with a new one. -/
def State.lowCount (s : State) (p : Port) (low : Bool) : Nat := if low then (s.pl p).gateLow + 1 else 0

theorem State.diagPort_unused {s : State} {p : Port} (low : Bool) (h : s.get (PAT_RANGE.N_BIN p.idx) = 0) : s.diagPort p low = s := if_pos h

theorem State.diagPort_short {s : State} {p : Port} (low : Bool) (h : s.get (PAT_RANGE.N_BIN p.idx) ≠ 0) (hg : s.guardShort p = true) :
    s.diagPort p low = s.modPl p (fun x => { x with diagDue := true }) := (if_neg h).trans (if_pos hg)

theorem State.diagPort_fires {s : State} {p : Port} (low : Bool) (h : s.get (PAT_RANGE.N_BIN p.idx) ≠ 0) (hg : s.guardShort p = false) :
    s.diagPort p low = if 2 ≤ s.lowCount p low then (s.diagFired p (s.lowCount p low)).gateFailed p else s.diagFired p (s.lowCount p low) :=
  (if_neg h).trans (if_neg (by simp [hg]))

theorem State.diagFired_pl_same (s : State) (p : Port) (n : Nat) :
    (s.diagFired p n).pl p = { s.pl p with gateLow := n, diagDue := false, diagSweep := some s.grid.k } :=
  State.pl_modPl_same ..

theorem State.diagFired_pl_other (s : State) {p q : Port} (n : Nat) (h : q ≠ p) : (s.diagFired p n).pl q = s.pl q :=
  State.pl_modPl_other _ _ h

theorem State.diagFired_get (s : State) (p : Port) (n : Nat) (f : Fld) : (s.diagFired p n).get f = s.get f := State.get_modPl ..

theorem State.diagFired_sends (s : State) (p : Port) (n : Nat) :
    .diagPulse (s.physOf p) (s.diagSpan p).1 (s.diagSpan p).2 ∈ (s.diagFired p n).out := by
  unfold State.diagFired
  rw [State.modPl_out]
  exact List.mem_append_right _ (List.mem_singleton.2 rfl)

theorem State.gateFailed_pl_same (s : State) (p : Port) : (s.gateFailed p).pl p = { s.pl p with stopped := true } :=
  (State.hwFault_pl _ _ _).trans (s.pl_modPl_same p _)

theorem State.gateFailed_pl_other (s : State) {p q : Port} (h : q ≠ p) : (s.gateFailed p).pl q = s.pl q :=
  (State.hwFault_pl _ _ _).trans (s.pl_modPl_other _ h)

theorem State.gateFailed_out (s : State) (p : Port) : (s.gateFailed p).out = s.out := by
  unfold State.gateFailed
  rw [State.hwFault_within.comp .out (by decide), State.put_out, State.modPl_out]

theorem State.gateFailed_grid (s : State) (p : Port) : (s.gateFailed p).grid = s.grid := by
  unfold State.gateFailed
  rw [State.hwFault_within.comp .grid (by decide), State.put_grid, State.modPl_grid]

/-- GATE_OPEN takes in the port. -/
theorem State.gateFailed_gate (s : State) (p : Port) {i : Nat} (hi : i < 2) :
    ((s.gateFailed p).get LSD_DIAG.GATE_OPEN).testBit i = ((s.get LSD_DIAG.GATE_OPEN).testBit i || decide (p.idx = i)) := by
  unfold State.gateFailed
  rw [State.hwFault_get _ _ (by decide) (by decide), State.get_put_same _ _ _ (by decide), Nat.testBit_mod_two_pow, testBit_setBit]
  simp [hi]

theorem State.gateFailed_dev {s : State} (p : Port) (h : s.emits = true) : (s.gateFailed p).dev = 5 := by
  refine State.hwFault_dev _ (.inr (.inr ?_))
  rwa [State.emits_congr]
  exact (State.get_put_other _ _ _ _ (by decide)).trans (State.get_modPl ..)

/-- What one port's pulse keeps for the other's: its own light path, the grid but for positions left out, and latched gates. -/
structure State.diagKeeps (s t : State) (p : Port) : Prop where
  pl : ∀ q, q ≠ p → t.pl q = s.pl q
  grid : t.grid = { s.grid with skip := t.grid.skip }
  gate : ∀ i < 2, (s.get LSD_DIAG.GATE_OPEN).testBit i = true → (t.get LSD_DIAG.GATE_OPEN).testBit i = true
  emits : s.emits = true → t.dev = s.dev ∨ t.dev = 5

theorem State.diagFired_keeps (s : State) (p : Port) (n : Nat) : s.diagKeeps (s.diagFired p n) p where
  pl _ h := s.diagFired_pl_other n h
  grid := by
    unfold State.diagFired
    rw [State.modPl_grid]
    rfl
  gate i _ h := by rwa [State.diagFired_get]
  emits _ := .inl (s.diagFired_get p n _)

theorem State.diagPort_keeps (s : State) (p : Port) (low : Bool) : s.diagKeeps (s.diagPort p low) p := by
  by_cases hn : s.get (PAT_RANGE.N_BIN p.idx) = 0
  · rw [State.diagPort_unused low hn]
    exact ⟨fun _ _ => rfl, rfl, fun _ _ h => h, fun _ => .inl rfl⟩
  · cases hg : s.guardShort p with
    | true =>
      rw [State.diagPort_short low hn hg]
      exact ⟨fun _ h => s.pl_modPl_other _ h, by rw [State.modPl_grid], fun _ _ h => by rwa [State.get_modPl],
        fun _ => .inl (State.get_modPl ..)⟩
    | false =>
      have hf := s.diagFired_keeps p (s.lowCount p low)
      rw [State.diagPort_fires low hn hg]
      split
      · refine ⟨fun _ h => (State.gateFailed_pl_other _ h).trans (hf.pl _ h), ?_, fun i hi h => ?_, fun he => .inr ?_⟩
        · rw [State.gateFailed_grid]
          exact hf.grid
        · rw [State.gateFailed_gate _ _ hi, hf.gate i hi h, Bool.true_or]
        · exact State.gateFailed_dev _ (by rwa [State.emits_congr (s.diagFired_get p _ _)])
      · exact hf

/-- The other port's pulse finds what it found before. -/
theorem State.diagPort_alike (s : State) {p q : Port} (low : Bool) (h : q ≠ p) : s.diagAlike (s.diagPort p low) q := by
  have hk := s.diagPort_keeps p low
  refine ⟨State.diagPort_within.word, hk.grid.trans ?_, hk.pl q h⟩
  rw [hk.grid]

/-- What a port's pulse does from a state: it leaves into the dump of the physical port, and its reading is counted; the second low one
in a row latches GATE_OPEN of the port, which launches no more, and the device is in SAFE. -/
def State.diagDone (s : State) (p : Port) (low : Bool) (t : State) : Prop :=
  .diagPulse (s.physOf p) (s.diagSpan p).1 (s.diagSpan p).2 ∈ t.out ∧ (t.pl p).gateLow = s.lowCount p low ∧
  (2 ≤ s.lowCount p low → (t.get LSD_DIAG.GATE_OPEN).testBit p.idx = true ∧ (t.pl p).stopped = true ∧ t.dev = 5)

theorem State.diagPort_done {s : State} {p : Port} (low : Bool) (he : s.emits = true) (h : s.get (PAT_RANGE.N_BIN p.idx) ≠ 0)
    (hg : s.guardShort p = false) : s.diagDone p low (s.diagPort p low) := by
  have hs := s.diagFired_sends p (s.lowCount p low)
  rw [State.diagPort_fires low h hg]
  split
  · refine ⟨by rwa [State.gateFailed_out], ?_, fun _ => ⟨?_, ?_, State.gateFailed_dev _ ?_⟩⟩
    · rw [State.gateFailed_pl_same, State.diagFired_pl_same]
    · rw [State.gateFailed_gate _ _ (by cases p <;> decide)]
      simp
    · rw [State.gateFailed_pl_same]
    · rwa [State.emits_congr (s.diagFired_get p _ _)]
  · exact ⟨hs, by rw [State.diagFired_pl_same], fun h2 => absurd h2 ‹_›⟩

/-- What a port's pulse has done stands after the other port's. -/
theorem State.diagDone.mono {s t : State} {p q : Port} {low low' : Bool} (h : s.diagDone p low t) (hq : p ≠ q) :
    s.diagDone p low (t.diagPort q low') := by
  obtain ⟨ho, hl, hg⟩ := h
  have hk := t.diagPort_keeps q low'
  refine ⟨State.diagPort_within.out.subset ho, by rw [hk.pl p hq, hl], fun h2 => ?_⟩
  obtain ⟨hb, hs, hd⟩ := hg h2
  refine ⟨hk.gate _ (by cases p <;> decide) hb, by rw [hk.pl p hq, hs], ?_⟩
  exact (hk.emits (t.emits_iff.2 (by omega))).elim (·.trans hd) id

/-- What a port's pulse does is the same from a state in which it finds the same. -/
theorem State.diagDone.of_alike {s u t : State} {p : Port} {low : Bool} (ha : s.diagAlike u p) (h : u.diagDone p low t) : s.diagDone p low t := by
  unfold State.diagDone State.lowCount at *
  rwa [ha.physOf, ha.diagSpan, ha.pl] at h

/-! ## DIAGNOSTIC_PULSE -/

/-- The state in which this sweep's pulse counts as fired. -/
def State.diagBegun (s : State) : State := { s with grid := { s.grid with diagDone := true } }

theorem State.diagBegun_alike (s : State) (p : Port) : s.diagAlike s.diagBegun p := ⟨fun _ _ => rfl, rfl, rfl⟩

section

variable {s : State} {lowA lowB : Bool}

theorem exec_diagnosticPulse (he : s.emits = true) (hs : s.grid.started = true) (hd : s.grid.diagDone = false)
    (hc : s.flag LSD_ILK.CLAMP = false) (hp : s.get LSD_DIAG.PERIOD ≠ 0) (hk : s.grid.k % s.get LSD_DIAG.PERIOD = 0) :
    exec (.diagnosticPulse lowA lowB) s = .next ((s.diagBegun.diagPort .a lowA).diagPort .b lowB) := by
  have ht : ∀ p, s.diagTurn p = true := fun p => by simp [State.diagTurn, hp, hk]
  show Host.Outcome.next (diagnosticPulseStep lowA lowB s) = _
  unfold diagnosticPulseStep
  dsimp only
  rw [State.whenDo_pos (by simp [he, hs, hd, hc, ht]), ht, if_pos rfl, ht, if_pos rfl]
  rfl

/-- Each used port whose guard window is whole has had its pulse after both. -/
theorem State.diagPorts_done (he : s.emits = true) (p : Port) (hn : s.get (PAT_RANGE.N_BIN p.idx) ≠ 0) (hg : s.guardShort p = false) :
    s.diagDone p (if p = .a then lowA else lowB) ((s.diagBegun.diagPort .a lowA).diagPort .b lowB) := by
  have hb := s.diagBegun_alike p
  have hbe : s.diagBegun.emits = true := he
  cases p with
  | a => exact ((State.diagPort_done lowA hbe (by rwa [hb.nbin]) (by rwa [hb.guardShort])).mono (by decide)).of_alike hb
  | b =>
    have ha := s.diagBegun.diagPort_alike (p := .a) (q := .b) lowA (by decide)
    have hd : (s.diagBegun.diagPort .a lowA).emits = true := by
      obtain h | h := (s.diagBegun.diagPort_keeps .a lowA).emits hbe
      · rwa [State.emits_congr h]
      · exact (State.emits_iff _).2 (by omega)
    refine .of_alike hb (.of_alike ha (State.diagPort_done lowB hd ?_ ?_))
    · rwa [ha.nbin, hb.nbin]
    · rwa [ha.guardShort, hb.guardShort]

theorem State.diagPorts_grid : ((s.diagBegun.diagPort .a lowA).diagPort .b lowB).grid.diagDone = true := by
  rw [((s.diagBegun.diagPort .a lowA).diagPort_keeps .b lowB).grid, (s.diagBegun.diagPort_keeps .a lowA).grid]
  rfl

end

/-- Settles O12: each command by the lemmas of its section above. That the owner is told of a shortfall rests on log entry 87, and what
the laser's reading notes on log entry 186. -/
theorem lightDriveCompletes : Obligations.LightDriveCompletes := by
  unfold Obligations.LightDriveCompletes
  refine ⟨?comp, ?derate, fun p m s he hc => powerLoopStep_completes he hc, fun p m s he hw hm ho => powerShortfall_completes he hw hm ho,
    pumpOpenDetect_completes, ?pulse⟩
  case comp =>
    intro therm s h
    obtain ⟨t, ht, hk, hth, hl, hb⟩ := compUpdate_completes s h
    refine ⟨t, ht, hk, hth, fun hn => hl.trans (State.offSince_near hn), fun hf => hl.trans (State.offSince_far hf), fun n hn h => ?_⟩
    simp only [Nat.testBit_eq_decide_div_mod_eq, decide_eq_true_eq] at hb
    exact hb n hn h
  case derate =>
    rintro tcase s f rfl
    obtain ⟨hf, hl⟩ := s.derated_get tcase (derate tcase (s.get LSD_DERATE.KNEE))
    refine ⟨_, exec_derateUpdate tcase s, ?_, ?_, ?_, fun n => ?_⟩
    · rw [State.setDens_light, State.derated_light]
    · rw [State.setDens_get _ (dens_apart (by decide)), hf]
    · rw [State.setDens_get _ (dens_apart (by decide)), hl]
    · rw [State.setDens_get _ (fun m => .inr (.inl (by simp))), State.derated_cap]
  case pulse =>
    intro lowA lowB s he hs hd hc hp hk
    refine ⟨_, exec_diagnosticPulse he hs hd hc hp hk, State.diagPorts_grid, fun p hn hg => ?_, fun hn hg hlow h1 => ?_⟩
    · obtain ⟨ho, hl, -⟩ := State.diagPorts_done (lowA := lowA) (lowB := lowB) he p hn hg
      exact ⟨ho, hl⟩
    · obtain ⟨-, -, h2⟩ := State.diagPorts_done (lowA := lowA) (lowB := lowB) he .a hn hg
      obtain ⟨hb, hst, hdev⟩ := h2 (by simp [State.lowCount, hlow]; omega)
      exact ⟨by simpa [Port.idx, Nat.testBit_eq_decide_div_mod_eq] using hb, hst, hdev⟩

end Sys2Proof.Machine
end

section
/-! Lock, interlock, thermal and power-reduction events (O13: R39, R55 to R76, R571). -/

namespace Sys2Proof.Machine

/-! ## The laser's lock (R55 to R58) -/

theorem ferr_mod (f : BitVec 16) : f.toNat % 2 ^ 16 = f.toNat := Nat.mod_eq_of_lt f.isLt

theorem lockLoss_completes {ferr : BitVec 16} {s : State} (h : s.flag LSD_LASER_STATUS.LOCK = true) (hf : 50 < ferr.toInt ∨ ferr.toInt < -50) :
    Leads (.lockLoss ferr) s (fun t => t.flag LSD_LASER_STATUS.LOCK = false ∧ t.get LSD_LASER_STATUS.FERR = ferr.toNat ∧
      t.light.attempt = true ∧ t.light.hold = true) := by
  have hf : 50 < ferrMhz ferr ∨ ferrMhz ferr < -50 := hf
  refine ⟨_, congrArg Host.Outcome.next (State.whenDo_pos (by simpa [h] using hf)), ?_, ?_, rfl, rfl⟩
  · show ((s.put LSD_LASER_STATUS.LOCK 0).put LSD_LASER_STATUS.FERR ferr.toNat).flag _ = _
    rw [State.flag_put_other _ _ _ _ (by decide), State.flag_put_same _ _ _ (by decide)]
    rfl
  · exact (State.get_put_same (s.put LSD_LASER_STATUS.LOCK 0) _ _ (by decide)).trans (ferr_mod ferr)

/-- The registers of a lock that has returned: LOCK, the error, and RELOCKS from the second lock on (R57). -/
def State.lockNoted (s : State) (ferr : BitVec 16) : State :=
  let t := s.puts [(LSD_LASER_STATUS.LOCK, 1), (LSD_LASER_STATUS.TUNING, 0), (LSD_LASER_STATUS.FERR, ferr.toNat)]
  if s.light.hadLock then t.countSat LSD_LASER_STATUS.RELOCKS else t

/-- The state in which the lock stands again, before a device in BOOT goes on to STANDBY (R57, R744). -/
def State.relocked (s : State) (ferr : BitVec 16) : State :=
  let t := { s.lockNoted ferr with light := { (s.lockNoted ferr).light with attempt := false, hadLock := true } }
  if t.light.runDue then { t with grid := { t.grid with resume := some t.now } } else t

theorem exec_laserLocked {ferr : BitVec 16} {s : State} (ha : s.light.attempt = true) (hl : s.flag LSD_LASER_STATUS.LOCK = false)
    (h1 : ferr.toInt ≤ 20) (h2 : -20 ≤ ferr.toInt) :
    exec (.laserLocked ferr) s = .next (if (s.relocked ferr).dev = 0 then (s.relocked ferr).toStandby else s.relocked ferr) :=
  congrArg Host.Outcome.next (State.whenDo_pos (by simp [ha, hl, ferrMhz, h1, h2]))

theorem State.lockNoted_light (s : State) (ferr : BitVec 16) : (s.lockNoted ferr).light = s.light := by
  unfold State.lockNoted
  dsimp only
  split <;> rfl

theorem State.relocked_light (s : State) (ferr : BitVec 16) :
    (s.relocked ferr).light = { s.light with attempt := false, hadLock := true } := by
  rw [← s.lockNoted_light ferr]
  unfold State.relocked
  dsimp only
  split <;> rfl

theorem State.relocked_regs (s : State) (ferr : BitVec 16) : (s.relocked ferr).regs = (s.lockNoted ferr).regs := by
  unfold State.relocked
  dsimp only
  split <;> rfl

theorem State.relocked_get (s : State) (ferr : BitVec 16) {f : Fld} (hf : LSD_LASER_STATUS.RELOCKS.apart f) : (s.relocked ferr).get f =
    (s.puts [(LSD_LASER_STATUS.LOCK, 1), (LSD_LASER_STATUS.TUNING, 0), (LSD_LASER_STATUS.FERR, ferr.toNat)]).get f := by
  rw [State.get_congr (s.relocked_regs ferr)]
  unfold State.lockNoted
  dsimp only
  split
  · exact State.get_put_other _ _ _ _ hf
  · rfl

theorem State.relocked_dev (s : State) (ferr : BitVec 16) : (s.relocked ferr).dev = s.dev :=
  (s.relocked_get ferr (by decide)).trans (State.get_puts_other _ _ _ (by simp; decide))

theorem State.relocked_status (s : State) (ferr : BitVec 16) :
    (s.relocked ferr).get LSD_LASER_STATUS.LOCK = 1 ∧ (s.relocked ferr).get LSD_LASER_STATUS.FERR = ferr.toNat := by
  rw [s.relocked_get ferr (by decide), s.relocked_get ferr (by decide), State.puts_cons, State.puts_cons, State.puts_cons, State.puts_nil]
  dsimp only
  constructor
  · rw [State.get_put_other _ _ _ _ (by decide), State.get_put_other _ _ _ _ (by decide), State.get_put_same _ _ _ (by decide)]
    rfl
  · rw [State.get_put_same _ _ _ (by decide)]
    exact ferr_mod ferr

theorem laserLocked_completes {ferr : BitVec 16} {s : State} (ha : s.light.attempt = true) (hl : s.flag LSD_LASER_STATUS.LOCK = false)
    (h1 : ferr.toInt ≤ 20) (h2 : -20 ≤ ferr.toInt) :
    Leads (.laserLocked ferr) s (fun t => t.flag LSD_LASER_STATUS.LOCK = true ∧ t.get LSD_LASER_STATUS.FERR = ferr.toNat ∧
      t.light.attempt = false ∧ t.light.hadLock = true ∧ (s.dev = 0 → t.dev = 2)) := by
  obtain ⟨hlock, hferr⟩ := s.relocked_status ferr
  have hlight := s.relocked_light ferr
  refine ⟨_, exec_laserLocked ha hl h1 h2, ?_⟩
  dsimp only
  split
  · obtain ⟨b, hb⟩ := (s.relocked ferr).toStandby_light
    have hw := State.toStandby_within (s := s.relocked ferr)
    rw [hb, hlight]
    exact ⟨by simp [State.flag, hw.get, hlock, blockOf], by rw [hw.get (by decide), hferr], rfl, rfl, fun _ => State.toStandby_dev _⟩
  · rename_i hd
    rw [s.relocked_dev] at hd
    rw [hlight]
    exact ⟨by simp [State.flag, hlock], hferr, rfl, rfl, fun h => absurd h hd⟩

/-- What RELOCK_FAIL notes before the fault is reported. -/
def State.lockFailed (s : State) : State :=
  { s.puts [(LSD_LASER_STATUS.FAIL, 1), (LSD_LASER_STATUS.TUNING, 0)] with light := { s.light with attempt := false, runDue := false } }

theorem State.lockFailed_dev (s : State) : s.lockFailed.dev = s.dev :=
  State.get_puts_other s [(LSD_LASER_STATUS.FAIL, 1), (LSD_LASER_STATUS.TUNING, 0)] _ (by decide)

theorem State.lockFailed_fail (s : State) : s.lockFailed.flag LSD_LASER_STATUS.FAIL = true := by
  show ((s.put LSD_LASER_STATUS.FAIL 1).put LSD_LASER_STATUS.TUNING 0).flag _ = _
  rw [State.flag_put_other _ _ _ _ (by decide), State.flag_put_same _ _ _ (by decide)]
  rfl

theorem relockFail_completes {s : State} (ha : s.light.attempt = true) (hd : s.dev = 0 ∨ s.dev = 2 ∨ s.emits = true) :
    Leads .relockFail s (fun t => t.flag LSD_LASER_STATUS.FAIL = true ∧ t.light.attempt = false ∧ t.dev = 5 ∧ .relock ∈ t.light.faults) := by
  obtain ⟨d, h, l, hm, hl⟩ := s.lockFailed.hwFault_light .relock
  refine ⟨s.lockFailed.hwFault .relock, congrArg Host.Outcome.next (State.whenDo_pos ha), ?_, ?_, ?_, ?_⟩
  · exact (State.flag_congr (State.hwFault_get _ _ (by decide) (by decide))).trans s.lockFailed_fail
  · exact congrArg Light.attempt hl
  · exact State.hwFault_dev _ (by rwa [State.emits_congr s.lockFailed_dev, s.lockFailed_dev])
  · rwa [hl]

/-! ## Trips of the clamp (R39, R60 to R66) -/

/-- A live cause that appears while the device emits closes the clamp, is latched and takes the device to SAFE (R66). -/
theorem State.trip_trips {s u : State} (h : s.emits = true) (hd : u.dev = s.dev) (hc : u.get LSD_ILK.CAUSE = s.get LSD_ILK.CAUSE) (bit : Nat) :
    (u.trip bit).flag LSD_ILK.CLAMP = true ∧ (u.trip bit).dev = 5 ∧
      (u.trip bit).get LSD_ILK.CAUSE = setBit (s.get LSD_ILK.CAUSE) bit true % 32 := by
  obtain ⟨h5, hcause⟩ := State.trip_emits ((State.emits_congr hd).trans h) bit
  exact ⟨State.trip_clamp .., h5, by rw [hcause, hc]⟩

theorem intlkNFall_completes {s : State} (h : s.emits = true) : Leads .intlkNFall s (fun t => t.flag LSD_ILK.CLAMP = true ∧ t.dev = 5 ∧
    t.flag LSD_ILK.INTLK = false ∧ t.get LSD_ILK.CAUSE = setBit (s.get LSD_ILK.CAUSE) 1 true % 32) := by
  obtain ⟨hcl, hd, hc⟩ := State.trip_trips (u := s.put LSD_ILK.INTLK 0) h (State.get_put_other _ _ _ _ (by decide))
    (State.get_put_other _ _ _ _ (by decide)) 1
  refine ⟨_, rfl, hcl, hd, ?_, hc⟩
  exact (State.flag_congr (State.trip_get _ _ (by decide) (by decide))).trans (s.flag_put_same _ _ (by decide))

/-- What BARRIER_SILENCE notes before the clamp trips. -/
def State.silenced (s : State) : State := ({ s with light := { s.light with silent := true } }).put FLD_STATUS.UP 0

theorem barrierSilence_completes {s : State} (h : s.emits = true) : Leads .barrierSilence s (fun t => t.flag LSD_ILK.CLAMP = true ∧
    t.dev = 5 ∧ t.light.silent = true ∧ t.flag FLD_STATUS.UP = false ∧ t.get LSD_ILK.CAUSE = setBit (s.get LSD_ILK.CAUSE) 3 true % 32) := by
  obtain ⟨hcl, hd, hc⟩ := State.trip_trips (u := s.silenced) h (State.get_put_other _ _ _ _ (by decide)) (State.get_put_other _ _ _ _ (by decide)) 3
  obtain ⟨d, hl⟩ := s.silenced.trip_light 3
  refine ⟨_, rfl, hcl, hd, congrArg Light.silent hl, ?_, hc⟩
  exact (State.flag_congr (State.trip_get _ _ (by decide) (by decide))).trans (State.flag_put_same _ _ _ (by decide))

/-- The readings held make a thermal fault: the case, a pump thermistor, or the laser off its set point for 100 ms (R64). -/
theorem State.thermalFault_iff (s : State) : s.thermalFault = true ↔
    7800 < s.light.tcase ∨ (∃ x ∈ s.light.therm.drop 4, 8000 < x) ∨ ∃ c, s.light.laserOff = some c ∧ c + 50000000 ≤ s.cyc := by
  have hl : s.laserHot = true ↔ ∃ c, s.light.laserOff = some c ∧ c + 50000000 ≤ s.cyc := by
    unfold State.laserHot
    cases s.light.laserOff <;> simp [msCyc]
  unfold State.thermalFault
  rw [Bool.or_eq_true, Bool.or_eq_true, decide_eq_true_eq, List.any_eq_true, hl, or_assoc]
  simp only [decide_eq_true_eq]

/-- A thermal fault noted as present or gone. -/
def State.thermalSet (s : State) (b : Bool) : State := { s with light := { s.light with thermal := b } }

theorem thermalTrip_completes {s : State} (h : s.emits = true) (hf : s.thermalFault = true) : Leads .thermalTrip s (fun t =>
    t.flag LSD_ILK.CLAMP = true ∧ t.dev = 5 ∧ t.light.thermal = true ∧ t.get LSD_ILK.CAUSE = setBit (s.get LSD_ILK.CAUSE) 4 true % 32) := by
  obtain ⟨hcl, hd, hc⟩ := State.trip_trips (u := s.thermalSet true) h rfl rfl 4
  obtain ⟨d, hl⟩ := (s.thermalSet true).trip_light 4
  exact ⟨_, congrArg Host.Outcome.next (State.whenDo_pos hf), hcl, hd, congrArg Light.thermal hl, hc⟩

/-- Of a pump while RPREC is out of range, nothing is left (R39). -/
theorem State.setDens_rprec {s : State} (h : s.light.rprec = true) (n : Nat) : s.setDens.get (LSD_PUMP_STAT.DENS n) = 0 := by
  rw [State.setDens_dens, State.pumpDens, if_pos h, Nat.zero_mod]

/-- RPREC noted as out of range, with no density left. -/
def State.rprecLost (s : State) : State := ({ s with light := { s.light with rprec := true } }).setDens

theorem State.rprecLost_rprec (s : State) : s.rprecLost.light.rprec = true := by
  unfold State.rprecLost
  rw [State.setDens_light]

theorem rprecFault_completes {s : State} (h : s.emits = true) : Leads .rprecFault s (fun t => t.flag LSD_ILK.CLAMP = true ∧ t.dev = 5 ∧
    t.light.rprec = true ∧ t.get LSD_ILK.CAUSE = setBit (s.get LSD_ILK.CAUSE) 0 true % 32 ∧ ∀ n, t.get (LSD_PUMP_STAT.DENS n) = 0) := by
  obtain ⟨hcl, hd, hc⟩ := State.trip_trips (u := s.rprecLost) h (State.setDens_get _ (dens_apart (by decide)))
    (State.setDens_get _ (dens_apart (by decide))) 0
  obtain ⟨d, hl⟩ := s.rprecLost.trip_light 0
  obtain ⟨d', b, l, -, hl'⟩ := (s.rprecLost.trip 0).hwFault_light .rprec
  have hget := State.get_congr (State.hwFault_regs .rprec hd)
  refine ⟨(s.rprecLost.trip 0).hwFault .rprec, rfl, (State.flag_congr (hget _)).trans hcl, (hget _).trans hd, ?_, (hget _).trans hc, fun n => ?_⟩
  · rw [hl', hl]
    exact s.rprecLost_rprec
  · have hlo : ∀ g ∈ [LSD_ILK.CLAMP, LSD_PWR.ACTUAL 0, LSD_PWR.ACTUAL 1, LSD_ILK.CAUSE], 0x030050 ≤ g.addr := by decide
    have hb : blockOf (LSD_PUMP_STAT.DENS n).addr = 3 := by
      unfold blockOf
      dsimp only
      rw [if_pos (by omega)]
      omega
    rw [hget, State.trip_get _ _ (fun g hg => Fld.apart_comm (dens_apart (.inr (hlo g hg)) n)) (by rw [hb]; decide)]
    exact State.setDens_rprec rfl n

/-! ## The clamp opens (R71) -/

/-- With nothing that holds it and no light, the clamp opens at once. -/
theorem State.settleClamp_opens {s : State} (hh : s.clampHeld = false) (he : s.emits = false) : s.settleClamp = s.put LSD_ILK.CLAMP 0 :=
  (if_neg (by simp [hh])).trans (if_neg (by simp [he]))

theorem State.emits_standby {s : State} (h : s.dev = 2) : s.emits = false := by simp [State.emits, h]

/-- With no reset in progress, ENABLE set, and no cause live or latched, nothing holds the clamp (R60). -/
theorem State.clampHeld_false {s : State} (h1 : s.power.episode = none) (h2 : s.power.blockRst = none) (h3 : s.flag LSD_ILK.ENABLE = true)
    (h4 : s.get LSD_ILK.CAUSE = 0) (h5 : s.light.rprec = false) (h6 : s.flag LSD_ILK.INTLK = true) (h7 : s.flag LSD_ILK.FIN0_OK = true)
    (h8 : s.light.silent = false) (h9 : s.light.thermal = false) : s.clampHeld = false := by
  have hc : s.flag LSD_ILK.CAUSE = false := State.flag_eq_false.2 h4
  simp [State.clampHeld, State.liveCauses, h1, h2, h3, hc, h5, h6, h7, h8, h9]

section

variable {s : State} (h2 : s.dev = 2) (he : s.power.episode = none) (hb : s.power.blockRst = none) (hen : s.flag LSD_ILK.ENABLE = true)
  (hc : s.get LSD_ILK.CAUSE = 0) (hr : s.light.rprec = false) (hs : s.light.silent = false) (hf : s.flag LSD_ILK.FIN0_OK = true)

include h2 he hb hen hc hr hs hf

theorem intlkNRise_completes (ht : s.light.thermal = false) :
    Leads .intlkNRise s (fun t => t.flag LSD_ILK.INTLK = true ∧ t.flag LSD_ILK.CLAMP = false) := by
  have hi : (s.put LSD_ILK.INTLK 1).flag LSD_ILK.INTLK = true := s.flag_put_same _ _ (by decide)
  have hk : ∀ f : Fld, LSD_ILK.INTLK.apart f → (s.put LSD_ILK.INTLK 1).get f = s.get f := fun f h => State.get_put_other _ _ _ _ h
  have hh : (s.put LSD_ILK.INTLK 1).clampHeld = false := State.clampHeld_false he hb ((State.flag_congr (hk _ (by decide))).trans hen)
    ((hk _ (by decide)).trans hc) hr hi ((State.flag_congr (hk _ (by decide))).trans hf) hs ht
  refine ⟨_, congrArg Host.Outcome.next (State.settleClamp_opens hh (State.emits_standby ((hk _ (by decide)).trans h2))), ?_, ?_⟩
  · rw [State.flag_put_other _ _ _ _ (by decide), hi]
  · exact State.flag_put_same _ _ _ (by decide)

theorem thermalFaultClear_completes (ht : s.thermalFault = false) (hi : s.flag LSD_ILK.INTLK = true) :
    Leads .thermalFaultClear s (fun t => t.light.thermal = false ∧ t.flag LSD_ILK.CLAMP = false) := by
  have hh : (s.thermalSet false).clampHeld = false := State.clampHeld_false he hb hen hc hr hi hf hs rfl
  refine ⟨(s.thermalSet false).put LSD_ILK.CLAMP 0, ?_, rfl, State.flag_put_same _ _ _ (by decide)⟩
  refine congrArg Host.Outcome.next ((State.whenDo_pos (by simp [ht])).trans ?_)
  exact State.settleClamp_opens hh (State.emits_standby h2)

end

/-! ## Automatic power reduction (R72 to R76) -/

/-- The state after a confirmed break, with the outputs since the two shots marked (R72 to R75). -/
def State.breakMarked (s : State) (p : Port) : State :=
  let reach := (s.get (LSD_APR_END.FIBRE_END p.idx) - s.get LSD_APR_CTRL.TOL) * s.binNs p * ns + s.tSw / s.grid.nslot
  let mark (i : Inflight) : Inflight := if i.port == p && decide (s.now ≤ i.clk + reach) then { i with apr := true } else i
  ({ s with grid := { s.grid with inflight := s.grid.inflight.map mark } }).markApr p ((s.now : Int) - s.grid.shift - reach)

section

variable {p : Port} {len0 len1 : Nat} {s : State} (he : s.emits = true) (hen : s.flag LSD_APR_CTRL.EN = true)
  (hc : s.flag LSD_ILK.CLAMP = false) (ha : s.apr p = 0 ∨ s.apr p = 2)
  (h0 : len0 + s.get LSD_APR_CTRL.TOL < s.get (LSD_APR_END.FIBRE_END p.idx))
  (h1 : len1 + s.get LSD_APR_CTRL.TOL < s.get (LSD_APR_END.FIBRE_END p.idx))

include he hen hc ha h0 h1

theorem exec_aprBreakDetect : exec (.aprBreakDetect p len0 len1) s =
    .next (((s.breakMarked p).reducePort p 1).put (LSD_APR_STAT.CONT_LEN p.idx) len1) := by
  have hend : s.get (LSD_APR_END.FIBRE_END p.idx) ≠ 0 := by omega
  show Host.Outcome.next (aprBreakDetectStep p len0 len1 s) = _
  unfold aprBreakDetectStep
  dsimp only
  rw [State.whenDo_pos (by simpa [he, hen, hc, h0, h1, hend] using ha)]
  rfl

theorem aprBreakDetect_completes :
    Leads (.aprBreakDetect p len0 len1) s (fun t => t.apr p = 1 ∧ t.dev = 5 ∧ (t.pl p).level ≤ s.aprLevel ∧
      t.get (LSD_APR_STAT.CONT_LEN p.idx) = len1 % 2 ^ 17) := by
  obtain ⟨hapr, hdev, hle⟩ := (s.breakMarked p).reducePort_reduces p (st := 1) (by decide)
  refine ⟨_, exec_aprBreakDetect he hen hc ha h0 h1, ?_, ?_, hle, State.get_put_same _ _ _ (by dsimp only; decide)⟩
  · exact (State.get_put_other _ _ _ _ (.inr (.inl (by simp)))).trans hapr
  · exact (State.get_put_other _ _ _ _ (.inl (by cases p <;> decide))).trans hdev

end

/-- Two states with the same record of what left, the same grid and the same continuity length of a port. -/
def State.probeAlike (s t : State) (p : Port) : Prop :=
  t.out = s.out ∧ t.grid = s.grid ∧ t.get (LSD_APR_STAT.CONT_LEN p.idx) = s.get (LSD_APR_STAT.CONT_LEN p.idx)

theorem State.modPl_probeAlike (s : State) (p : Port) (f : PortLight → PortLight) : s.probeAlike (s.modPl p f) p :=
  ⟨s.modPl_out p f, s.modPl_grid p f, s.get_modPl p f _⟩

theorem State.put_probeAlike (s : State) {p : Port} {f : Fld} (n : Nat) (h : f.apart (LSD_APR_STAT.CONT_LEN p.idx)) : s.probeAlike (s.put f n) p :=
  ⟨rfl, rfl, s.get_put_other f _ n h⟩

theorem State.probeAlike.trans {s t u : State} {p : Port} (h : s.probeAlike t p) (g : t.probeAlike u p) : s.probeAlike u p :=
  ⟨g.1.trans h.1, g.2.1.trans h.2.1, g.2.2.trans h.2.2⟩

theorem State.probeAlike.ite {s t u : State} {p : Port} {c : Prop} [Decidable c] (h : s.probeAlike t p) (g : s.probeAlike u p) :
    s.probeAlike (if c then t else u) p := by
  split
  · exact h
  · exact g

theorem State.restorePort_probeAlike (s : State) (p : Port) : s.probeAlike (s.restorePort p) p :=
  (s.put_probeAlike 2 (.inr (.inr (by simp)))).trans (State.modPl_probeAlike ..)

/-- The state after a restore probe has left in the place of a shot, before its continuity length is judged (R76, R77). -/
def State.restoreFired (s : State) (p : Port) (contLen : Nat) : State :=
  let pos := Fin.ofNat 16 (s.restorePos p)
  let o := s.restoreOf p pos
  let t := (({ s with grid := { s.grid with skip := s.grid.skip ++ [(p, pos)] } }).emit (.restoreProbe o)).noteShot p o.t o.dur
  (t.modPl p (fun x => { x with restoreShot := some (s.grid.k * s.grid.nslot + pos.val) })).put (LSD_APR_STAT.CONT_LEN p.idx) contLen

/-- Judging the length sends nothing and leaves the grid and the length. -/
theorem restoreProbeStep_alike {s : State} {p : Port} (contLen : Nat) (h : s.restoreTurn p = true) :
    (s.restoreFired p contLen).probeAlike (restoreProbeStep p contLen s) p := by
  unfold restoreProbeStep
  rw [State.whenDo_pos h]
  refine .ite (.ite (State.restorePort_probeAlike ..) (State.modPl_probeAlike ..)) (.ite ?_ (State.modPl_probeAlike ..))
  exact (State.put_probeAlike _ _ (.inl (by dsimp only; omega))).trans (State.restorePort_probeAlike ..)

theorem restoreProbe_completes {s : State} {p : Port} (contLen : Nat) (h : s.restoreTurn p = true) :
    Leads (.restoreProbe p contLen) s (fun t =>
      t.out = s.out ++ [.restoreProbe (s.restoreOf p (Fin.ofNat 16 (s.restorePos p)))] ∧
      t.grid.skip = s.grid.skip ++ [(p, Fin.ofNat 16 (s.restorePos p))] ∧ t.get (LSD_APR_STAT.CONT_LEN p.idx) = contLen % 2 ^ 17) := by
  obtain ⟨ho, hg, hl⟩ := restoreProbeStep_alike contLen h
  refine ⟨_, rfl, ho.trans ?_, (congrArg Grid.skip hg).trans ?_, hl.trans (State.get_put_same _ _ _ (by dsimp only; decide))⟩
  · cases p <;> rfl
  · cases p <;> rfl

/-! ## FLASHING_SETTLED (R571) -/

theorem flashingSettled_completes {s : State} (h : s.get RDG_FLASH.OFL_STATE = 2) : Leads .flashingSettled s (fun t =>
    t.get RDG_FLASH.OFL_STATE = if s.power.pins.flashClosed then 1 else 0) := by
  refine ⟨_, congrArg Host.Outcome.next (State.whenDo_pos (by simp [h])), ?_⟩
  dsimp only
  split
  · exact State.get_put_same _ _ _ (by decide)
  · exact State.get_put_same _ _ _ (by decide)

/-- Settles O13: each command by the lemma of its section above; a thermal fault is by the readings held (log entry 186). -/
theorem lightFaultsComplete : Obligations.LightFaultsComplete := by
  unfold Obligations.LightFaultsComplete
  refine ⟨fun _ s h hf => lockLoss_completes h hf, fun _ s ha hl h1 h2 => laserLocked_completes ha hl h1 h2,
    fun s ha hd => relockFail_completes ha hd, fun s h => rprecFault_completes h, fun s h => intlkNFall_completes h,
    fun s h hf => thermalTrip_completes h (s.thermalFault_iff.2 hf), fun s h => barrierSilence_completes h,
    fun s h2 he hb hen hc hr hs hf => ⟨fun ht => intlkNRise_completes h2 he hb hen hc hr hs hf ht, fun ht hp hl hi => ?clear⟩,
    fun p _ _ s he hen hc ha h0 h1 => aprBreakDetect_completes he hen hc ha h0 h1, fun p c s h => restoreProbe_completes c h,
    fun s h => flashingSettled_completes h⟩
  case clear =>
    refine thermalFaultClear_completes h2 he hb hen hc hr hs hf (Bool.eq_false_iff.2 fun hn => ?_) hi
    obtain h | ⟨x, hx, h⟩ | ⟨c, hoff, h⟩ := s.thermalFault_iff.1 hn
    · omega
    · exact absurd (hp x hx) (by omega)
    · exact absurd (hl c hoff) (by omega)

end Sys2Proof.Machine
end

section
/-! Register actions of the owner on the light and the baselines (O9, O14: R58, R66, R67, R70, R81, R263, R488, R489). -/

namespace Sys2Proof.Machine

/-! ## REARM (R66, R67) -/

section

variable {path : Path} {s : State} (he : s.power.episode = none) (ho : s.pathOwns path = true)

include he ho

/-- An action of the owner out of reset takes place. -/
theorem State.acted_byOwner (off : Nat) (f : State → State) : s.acted path off (s.byOwner path f) = f s := by
  rw [State.byOwner_ok ho, State.acted_ok he]

theorem exec_rearm_live (h : s.liveCauses ≠ 0) : exec (.rearm path) s = .next (s.put LSD_ILK.REARM_REJ 1) :=
  congrArg Host.Outcome.next ((State.acted_byOwner he ho _ _).trans (if_pos (by simpa using h)))

theorem exec_rearm_clear (h : s.liveCauses = 0) : exec (.rearm path) s = .next ((s.put LSD_ILK.CAUSE 0).settleClamp) :=
  congrArg Host.Outcome.next ((State.acted_byOwner he ho _ _).trans (if_neg (by simp [h])))

end

/-- Settles O9: the one field that such a REARM sets. -/
theorem rearmRejected : Obligations.RearmRejected := by
  unfold Obligations.RearmRejected
  intro path s he ho hl
  refine ⟨_, exec_rearm_live he ho hl, rfl, State.flag_put_same _ _ _ (by decide), fun f hf => ?_⟩
  exact State.get_put_other _ _ _ _ (Fld.apart_comm hf)

/-! ## The clamp (R60, R70) -/

/-- Settling the clamp leaves every field but those of the clamp and the ports' power. -/
theorem State.settleClamp_get (s : State) {f : Fld} (h : ∀ g ∈ [LSD_ILK.CLAMP, LSD_PWR.ACTUAL 0, LSD_PWR.ACTUAL 1], g.apart f) :
    s.settleClamp.get f = s.get f := by
  unfold State.settleClamp
  split
  · exact s.closeClamp_get h
  · split
    · rfl
    · exact State.get_put_other _ _ _ _ (h _ (by simp))

/-- With ENABLE clear the clamp closes. -/
theorem State.settleClamp_disabled {s : State} (h : s.flag LSD_ILK.ENABLE = false) : s.settleClamp.flag LSD_ILK.CLAMP = true := by
  unfold State.settleClamp
  rw [if_pos (by simp [State.clampHeld, h])]
  exact State.closeClamp_clamp s

theorem State.setEnable_sets (s : State) (on : Bool) :
    (s.setEnable on).flag LSD_ILK.ENABLE = on ∧ (on = false → (s.setEnable on).flag LSD_ILK.CLAMP = true) := by
  have he : (s.putFlag LSD_ILK.ENABLE on).flag LSD_ILK.ENABLE = on := s.flag_putFlag_same _ _ (by decide) rfl
  exact ⟨(State.flag_congr (State.settleClamp_get _ (by decide))).trans he, fun h => State.settleClamp_disabled (he.trans h)⟩

/-! ## EN of APR (R81) -/

theorem State.learnPort_aprEn (s : State) (p : Port) : (s.learnPort p).get LSD_APR_CTRL.EN = s.get LSD_APR_CTRL.EN := by
  unfold State.learnPort
  split
  · exact State.reducePort_get _ _ _ (.inl (by dsimp only; omega)) (by decide) (by decide)
  · rfl

/-- What follows a change of EN leaves EN as it was written. -/
theorem State.aprEnChanged_aprEn (s : State) : s.aprEnChanged.get LSD_APR_CTRL.EN = s.get LSD_APR_CTRL.EN := by
  have hev : (s.eventAll 0x0102 0).get LSD_APR_CTRL.EN = s.get LSD_APR_CTRL.EN := s.eventAll_get _ _ _ (by unfold qcpWord; decide)
  unfold State.aprEnChanged
  dsimp only
  split
  · unfold State.learnPorts
    rw [State.learnPort_aprEn, State.learnPort_aprEn, State.get_modPl, State.get_modPl, hev]
  · rw [← hev]
    split <;> split <;> simp only [State.get_modPl]

/-! ## Baselines (R263, R264) -/

theorem State.brlPort_modBrl (s : State) (p : Port) (f : BrlPort → BrlPort) : (s.modBrl p f).brlPort p = f (s.brlPort p) := by
  cases p <;> rfl

theorem State.brlArm_arms {s : State} {p : Port} (h : s.flag (BRL_BASE.BUSY p.idx) = false) :
    (s.brlArm p).flag (BRL_BASE.BUSY p.idx) = true ∧ ((s.brlArm p).brlPort p).armed = some s.now := by
  unfold State.brlArm
  rw [if_neg (by simp [h])]
  refine ⟨State.flag_put_same _ _ _ (by simp), ?_⟩
  exact congrArg BrlPort.armed (s.brlPort_modBrl p _)

theorem State.brlBaseAbort_frees {s : State} {p : Port} (h : s.flag (BRL_BASE.BUSY p.idx) = true) :
    (s.brlBaseAbort p).flag (BRL_BASE.BUSY p.idx) = false ∧ ((s.brlBaseAbort p).brlPort p).armed = none := by
  unfold State.brlBaseAbort
  rw [if_neg (by simp [h])]
  constructor
  · rw [State.completeAll_flag _ _ _ _ _ (by unfold qcpWord; dsimp only; omega)]
    exact State.flag_put_same _ _ _ (by simp)
  · unfold State.brlPort
    rw [State.completeAll_brl]
    exact congrArg BrlPort.armed (s.brlPort_modBrl p _)

/-! ## The lock attempt (R58) -/

theorem State.failCleared_clears (s : State) : s.failCleared.flag LSD_LASER_STATUS.FAIL = false ∧ s.failCleared.light.attempt = true ∧
    .relock ∉ s.failCleared.light.faults := by
  refine ⟨s.flag_put_same LSD_LASER_STATUS.FAIL 0 (by decide), rfl, fun h => ?_⟩
  simpa using (List.mem_filter.1 h).2

/-- Settles O14: each action by the lemma of its section above; without the owner's rights each is ignored with cause 3. -/
theorem ownerActionsComplete : Obligations.OwnerActionsComplete := by
  unfold Obligations.OwnerActionsComplete
  refine fun path s he => ⟨fun ho => ?owner, fun ho => ?other⟩
  case owner =>
    have hact := fun off f => congrArg (Host.Outcome.next (φ := Fault) (ρ := Refusal)) (State.acted_byOwner he ho off f)
    refine ⟨fun hf => ?_, fun hl => ?_, fun hl => ?_, fun on => ?_, fun on hne => ?_, fun p hb => ?_, fun p hb => ?_⟩
    · exact ⟨_, (hact ..).trans (congrArg _ (if_pos hf)), s.failCleared_clears⟩
    · exact ⟨_, exec_rearm_clear he ho hl, (State.settleClamp_get _ (by decide)).trans (s.get_put_same _ _ (by decide))⟩
    · exact ⟨_, exec_rearm_live he ho hl, s.flag_put_same _ _ (by decide), s.get_put_other _ _ _ (by decide)⟩
    · exact ⟨_, hact .., s.setEnable_sets on⟩
    · refine ⟨_, (hact ..).trans (congrArg _ (if_neg hne)), ?_⟩
      exact (State.flag_congr (State.aprEnChanged_aprEn _)).trans (s.flag_putFlag_same _ _ (by decide) rfl)
    · exact ⟨_, hact .., State.brlArm_arms hb⟩
    · exact ⟨_, hact .., State.brlBaseAbort_frees hb⟩
  case other =>
    have hign : ∀ off f, Host.Outcome.next (φ := Fault) (ρ := Refusal) (s.acted path off (s.byOwner path f)) = .next (s.ignore path off 3) := by
      intro off f
      rw [State.byOwner_error ho, State.acted_error he]
    exact ⟨hign .., hign .., fun _ => hign .., fun _ => hign .., fun _ => hign .., fun _ => hign ..⟩

end Sys2Proof.Machine
end

section
/-! Syncs that find nothing to select (O10: R115, R116, R569). -/

namespace Sys2Proof.Machine

/-- A sync selects nothing while no swap is armed or a selected one is pending. -/
theorem State.syncArrives_idle {s : State} {src : Nat} (h : s.flag PAT_STATUS.ARMED = false ∨ s.pat.selected = true) :
    s.syncArrives src = s := by
  unfold State.syncArrives
  rcases h with h | h <;> simp [h]

theorem exec_sweepSyncEdge_otherEdge {rising : Bool} {s : State} (hp : rising = s.flag PAT_CTRL.SYNC_POL) :
    exec (.sweepSyncEdge rising) s = .next s := congrArg _ (State.whenDo_neg (by simp [hp]))

/-- Settles O10: a sync that arrives selects nothing, and an edge of the other polarity is no sync. -/
theorem idleSyncHasNoEffect : Obligations.IdleSyncHasNoEffect := by
  unfold Obligations.IdleSyncHasNoEffect
  refine fun s h => ⟨fun rising => ?edge, fun e l hl => ?execute⟩
  case edge =>
    by_cases hp : rising = s.flag PAT_CTRL.SYNC_POL
    · exact exec_sweepSyncEdge_otherEdge hp
    · rw [exec_sweepSyncEdge hp, State.syncArrives_idle h]
  case execute =>
    have hw := State.at_within (s := { s with ridge := { s.ridge with syncs := l } }) (t := e)
    rw [exec_syncExecute hl, State.syncArrives_idle]
    exact h.imp (hw.flag (by decide)).trans (congrArg (·.selected) (hw.comp .pat (by decide))).trans

end Sys2Proof.Machine
end

section
/-! SUPPORT. What the shared operations of a pair leave in its state and its fields: fences, ended switch-backs, joined levels, the
device that becomes the active, and the first copy of a ring frame (R553, R589, R596, R603, R616). -/

namespace Sys2Proof.Machine

/-! ## Fields and the pair across other operations -/

theorem State.get_modPair (s : State) (f : Pair → Pair) (g : Fld) : (s.modPair f).get g = s.get g := rfl

theorem State.modPair_pair (s : State) (f : Pair → Pair) : (s.modPair f).pair = f s.pair := rfl

theorem State.at_pair (s : State) (t : Ts) : (s.at t).pair = s.pair := State.at_within.comp .pair (by decide)

theorem State.at_get (s : State) (t : Ts) (f : Fld) : (s.at t).get f = s.get f := State.at_within.get List.not_mem_nil

theorem State.within.role {s t : State} {K : List Comp} {B : List Nat} (h : s.within t K B) (hb : 17 ∉ B) : t.role = s.role := h.get hb

/-- The two ports' reported powers once nothing is launched any more (R89). -/
def State.unlit (s : State) : Prop := s.get (LSD_PWR.ACTUAL 0) = 0x8000 ∧ s.get (LSD_PWR.ACTUAL 1) = 0x8000

theorem State.puts_unlit (s : State) : (s.puts [(LSD_PWR.ACTUAL 0, 0x8000), (LSD_PWR.ACTUAL 1, 0x8000)]).unlit := by
  refine ⟨?_, State.get_put_same _ _ _ (by decide)⟩
  exact (State.get_put_other _ _ _ _ (by decide)).trans (State.get_put_same _ _ _ (by decide))

theorem State.within.unlit {s t : State} {K : List Comp} {B : List Nat} (h : s.within t K B) (hb : 3 ∉ B) (hs : s.unlit) : t.unlit :=
  ⟨(h.get (f := LSD_PWR.ACTUAL 0) hb).trans hs.1, (h.get (f := LSD_PWR.ACTUAL 1) hb).trans hs.2⟩

/-! ## Fencing (R589) -/

theorem State.fence_pair (s : State) : s.fence.pair = { s.pair with draining := true } := by
  unfold State.fence
  rw [State.eventAll_pair, State.count_pair, State.put_pair, State.puts_pair, State.modPair_pair]

theorem State.fence_role (s : State) : s.fence.role = 3 := by
  unfold State.fence
  rw [State.eventAll_within.role (by decide)]
  exact (State.get_put_other _ _ _ _ (by decide)).trans (State.get_put_same _ _ _ (by decide))

theorem State.fence_unlit (s : State) : s.fence.unlit := by
  unfold State.fence
  refine State.eventAll_within.unlit (by decide) ?_
  refine State.within.unlit (State.count_any (by decide) (State.put_any (by decide) (State.within_refl [] [17]))) (by decide) ?_
  exact State.puts_unlit _

/-! ## A switch-back that ends (R614, R616) -/

theorem State.endSwitchOp_pair (s : State) (status : Nat) : (s.endSwitchOp status).pair = { s.pair with switchOp := none } := by
  unfold State.endSwitchOp
  split
  · rw [State.complete_pair, State.modPair_pair]
  · rename_i h
    rw [← h]

/-- A switch-back is over, and the SWITCH_BACK that waits for it completes with a status. -/
def State.overSwitch (s : State) (status : Nat) : State :=
  ((s.modPair (fun x => { x with switch := none })).put PAIR_STATUS.SWITCHING 0).endSwitchOp status

theorem State.dropSwitch_over (s : State) : s.dropSwitch = s.overSwitch stCancelled := rfl

theorem State.overSwitch_pair (s : State) (status : Nat) : (s.overSwitch status).pair = { s.pair with switch := none, switchOp := none } := by
  unfold State.overSwitch
  rw [State.endSwitchOp_pair, State.put_pair, State.modPair_pair]

theorem State.overSwitch_switching (s : State) (status : Nat) : (s.overSwitch status).flag PAIR_STATUS.SWITCHING = false := by
  unfold State.overSwitch
  rw [State.endSwitchOp_within.flag (by decide)]
  exact State.flag_put_same _ _ _ (by decide)

theorem State.overSwitch_get (s : State) (status : Nat) {f : Fld} (hf : PAIR_STATUS.SWITCHING.apart f) (hb : blockOf f.addr ∉ [24, 25]) :
    (s.overSwitch status).get f = s.get f := by
  unfold State.overSwitch
  rw [State.endSwitchOp_within.get hb, State.get_put_other _ _ _ _ hf, State.get_modPair]

/-! ## Joined levels (R599, R604, R613) -/

/-- Both ports' channels and the anchors, joined to the levels of a snapshot. -/
def State.joined (s : State) (l : List Byte) : State := ((s.joinPort l .a).1.joinPort l .b).1.joinAnchors l

theorem State.joinLevels_joined (s : State) (l : List Byte) : s.joinLevels l = (s.joined l).modPair (fun x => { x with joinDue := false }) := rfl

theorem State.joined_within (s : State) (l : List Byte) : s.within (s.joined l) [.phs, .brl] [] :=
  State.joinAnchors_within.step
    (State.joinPort_within.step (State.joinPort_within.mono (by decide) (by decide)) (by decide) (by decide)) (by decide) (by decide)

/-! ## The device becomes the active (R126, R596, R603) -/

theorem State.becomeActive_dev (s : State) : s.becomeActive.dev = 3 := by
  unfold State.becomeActive
  exact (State.get_put_other _ _ _ _ (by decide)).trans (State.enter_dev _ _ (by decide))

theorem State.becomeActive_role (s : State) : s.becomeActive.role = 1 := State.get_put_same _ _ _ (by decide)

theorem State.becomeActive_pair (s : State) : s.becomeActive.pair =
    { s.pair with activeAt := some s.now, takeAt := none, stopAt := none, stopped := false, draining := false } := by
  unfold State.becomeActive
  rw [State.put_pair]
  exact State.enter_within.comp .pair (by decide)

theorem State.becomeActive_get (s : State) {f : Fld} (hf : PAIR_STATUS.ROLE.apart f) (hb : blockOf f.addr ∉ [0, 21]) :
    s.becomeActive.get f = s.get f := by
  unfold State.becomeActive
  rw [State.get_put_other _ _ _ _ hf, State.enter_within.get hb, State.get_modPair]

theorem State.pairEpoch_get (s : State) {f : Fld} (hf : SYS_EPOCH.EPOCH.apart f) : s.pairEpoch.get f = s.get f :=
  State.get_put_other _ _ _ _ hf

theorem State.pairEpoch_pair (s : State) : s.pairEpoch.pair = s.pair := State.pairEpoch_within.comp .pair (by decide)

/-! ## The first copy of a ring frame (R553) -/

/-- The device acts on the first copy of another node's frame, which it has forwarded and noted. -/
theorem State.ringFrame_first {s u : State} {h : RidgeHdr} {type : Nat} {b : List Byte} (act : State → State) (hr : s.ridgeOn = true)
    (hl : s.laneUp h.laneW = true) (ho : h.origin ≠ s.nodeId) (hu : u = (s.goodFrame h.laneW).forward h type b)
    (hs : u.ridge.seen.contains (h.origin, h.seq) = false) :
    s.ringFrame h type b act = act { u with ridge := { u.ridge with seen := u.ridge.seen ++ [(h.origin, h.seq)] } } := by
  unfold State.ringFrame
  dsimp only
  rw [← hu, if_neg (by simp [hr, hl]), if_neg (by simp [ho]), if_neg (Bool.eq_false_iff.1 hs)]

end Sys2Proof.Machine
end

section
/-! Takes, fences and switch-backs of a pair (O32: R126, R587 to R597, R603, R611 to R616). -/

namespace Sys2Proof.Machine

/-! ## FENCE and PARTNER_HEARTBEAT_LOSS (R587 to R590) -/

section

variable {s u : State} (hr : s.role = 1) (hu : u = s.at (s.echoTime + us 500))

include hr hu

/-- The partner still hears a referee, or is not heard. -/
theorem exec_fence_fences (hb : u.pair.partner.any (fun p => u.recent (some p.1) && !p.2.getLsbD 7) = false) :
    exec .fence s = .next u.fence := by
  show Host.Outcome.next (fenceStep s) = _
  unfold fenceStep
  rw [State.whenDo_pos (by simp [hr])]
  simp only [← hu, hb]
  rfl

/-- The partner is without a referee, too: the device goes on and says so. -/
theorem exec_fence_goesOn (hb : u.pair.partner.any (fun p => u.recent (some p.1) && !p.2.getLsbD 7) = true) :
    exec .fence s = .next (if u.flag PAIR_STATUS.REF_LOST then u else (u.put PAIR_STATUS.REF_LOST 1).eventAll 0x0603 0) := by
  show Host.Outcome.next (fenceStep s) = _
  unfold fenceStep
  rw [State.whenDo_pos (by simp [hr])]
  simp only [← hu, hb]
  rfl

end

theorem State.refLost_put (s : State) : ((s.put PAIR_STATUS.REF_LOST 1).eventAll 0x0603 0).flag PAIR_STATUS.REF_LOST = true ∧
    ((s.put PAIR_STATUS.REF_LOST 1).eventAll 0x0603 0).role = s.role := by
  rw [State.eventAll_within.flag (by decide), State.eventAll_within.role (by decide)]
  exact ⟨State.flag_put_same _ _ _ (by decide), State.get_put_other _ _ _ _ (by decide)⟩

theorem exec_partnerHeartbeatLoss {s : State} (hr : s.role = 1) (hl : s.flag PAIR_STATUS.REF_LOST = true) :
    exec .partnerHeartbeatLoss s = .next (s.at ((s.pair.partner.map (·.1)).getD 0 + us 300)).fence := by
  show Host.Outcome.next (partnerHeartbeatLossStep s) = _
  rw [partnerHeartbeatLossStep, State.whenDo_pos (by simp [hr, hl])]

/-! ## TAKE_EXECUTE (R126, R596, R603) -/

/-- The former active at the instant at which its partner takes over. -/
def State.handsOver (s : State) (t : Ts) : State :=
  (((s.at t).modPair (fun x => { x with stopAt := none, stopped := true, draining := true })).dropSwitch).puts
    [(LSD_PWR.ACTUAL 0, 0x8000), (LSD_PWR.ACTUAL 1, 0x8000)]

theorem State.handsOver_pair (s : State) (t : Ts) :
    (s.handsOver t).pair = { s.pair with stopAt := none, stopped := true, draining := true, switch := none, switchOp := none } := by
  unfold State.handsOver
  rw [State.puts_pair, State.dropSwitch_over, State.overSwitch_pair, State.modPair_pair, State.at_pair]

theorem State.handsOver_unlit (s : State) (t : Ts) : (s.handsOver t).unlit := State.puts_unlit _

theorem exec_takeExecute_stops {s : State} {x : Ts} (hs : s.pair.stopAt = some x) (ht : s.pair.takeAt = none) :
    exec .takeExecute s = .next (s.handsOver x) := by
  have h : (s.handsOver x).pair.takeAt = none := by rw [State.handsOver_pair, ht]
  show Host.Outcome.next (takeExecuteStep s) = _
  unfold takeExecuteStep
  simp only [hs]
  unfold State.handsOver at h
  simp only [h]
  rfl

theorem exec_takeExecute_takes {s : State} {x : Ts} (hs : s.pair.stopAt = none) (ht : s.pair.takeAt = some x) (hd : s.dev = 4) :
    exec .takeExecute s = .next ((s.at (s.onClock (s.boundaryFor x))).doTake (s.boundaryFor x)) := by
  show Host.Outcome.next (takeExecuteStep s) = _
  simp only [takeExecuteStep, hs, ht, if_pos hd]

/-- The device has taken: no switch-back is under way, its first sweeps are FAILOVER, and the takes are counted. -/
def State.tookOver (s : State) : State :=
  ((({ s with grid := { s.grid with failover := true } }).modPair (fun x => { x with making := false, switch := none, failSweeps := 2, joinDue := false })).put
    PAIR_STATUS.SWITCHING 0).count PAIR_STATUS.TAKES

/-- A take joins the device to its newest snapshot, makes it the active, starts its chains and streams, and ends with a new epoch. -/
theorem State.doTake_eq (s : State) (at_ : Ts) : ∃ v : State,
    (s.joined (s.pair.snap.getD [])).becomeActive.within v [.grid, .dec, .strm, .brl] [12] ∧
    s.doTake at_ = v.tookOver.pairEpoch.eventAll 0x0601 0 := by
  unfold State.doTake
  refine ⟨_, ?_, rfl⟩
  refine State.modBrl_within.step (State.modBrl_within.step ?_ (by decide) (by decide)) (by decide) (by decide)
  refine State.within_foldl (fun t n ht => State.within_ite (State.takeStream_within.step ht (by decide) (by decide)) ht) ?_
  refine State.within_ite ?_ (State.within_refl _ _)
  exact State.reinit_within.step (State.reinit_within.mono (by decide) (by decide)) (by decide) (by decide)

theorem State.tookOver_get (s : State) {f : Fld} (hs : PAIR_STATUS.SWITCHING.apart f) (ht : PAIR_STATUS.TAKES.apart f) :
    s.tookOver.get f = s.get f :=
  (State.get_put_other _ _ _ _ ht).trans (State.get_put_other _ _ _ _ hs)

theorem State.tookOver_switching (s : State) : s.tookOver.flag PAIR_STATUS.SWITCHING = false :=
  (State.flag_put_other _ _ _ _ (by decide)).trans (State.flag_put_same _ _ _ (by decide))

theorem State.tookOver_takes (s : State) :
    s.tookOver.get PAIR_STATUS.TAKES = (s.get PAIR_STATUS.TAKES + 1) % 2 ^ PAIR_STATUS.TAKES.width := by
  unfold State.tookOver State.count
  rw [State.get_put_same _ _ _ (by decide), State.get_put_other _ _ _ _ (by decide)]
  rfl

/-- A take leaves the device the active in RUN, with its takes counted and its sweeps marked FAILOVER. -/
theorem State.doTake_takes (s : State) (at_ : Ts) :
    (s.doTake at_).dev = 3 ∧ (s.doTake at_).role = 1 ∧ (s.doTake at_).pair.takeAt = none ∧ (s.doTake at_).grid.failover = true ∧
    (s.doTake at_).flag PAIR_STATUS.SWITCHING = false ∧
    (s.doTake at_).get PAIR_STATUS.TAKES = (s.get PAIR_STATUS.TAKES + 1) % 2 ^ PAIR_STATUS.TAKES.width := by
  obtain ⟨v, hv, h⟩ := s.doTake_eq at_
  have hget : ∀ f : Fld, blockOf f.addr ∉ [24, 25] ∧ SYS_EPOCH.EPOCH.apart f → (s.doTake at_).get f = v.tookOver.get f := by
    rintro f ⟨hb, he⟩
    rw [h, State.eventAll_within.get hb, State.pairEpoch_get _ he]
  have hact : ∀ f : Fld, blockOf f.addr ∉ [12] ∧ PAIR_STATUS.SWITCHING.apart f ∧ PAIR_STATUS.TAKES.apart f →
      v.tookOver.get f = (s.joined (s.pair.snap.getD [])).becomeActive.get f := by
    rintro f ⟨hb, hs, ht⟩
    rw [State.tookOver_get _ hs ht, hv.get hb]
  refine ⟨?_, ?_, ?_, ?_, ?_, ?_⟩
  · exact (hget SYS_STATE.STATE (by decide)).trans ((hact _ (by decide)).trans (State.becomeActive_dev _))
  · exact (hget PAIR_STATUS.ROLE (by decide)).trans ((hact _ (by decide)).trans (State.becomeActive_role _))
  · have hp : v.pair = _ := hv.comp .pair (by decide)
    rw [h, State.eventAll_pair, State.pairEpoch_pair]
    show v.pair.takeAt = none
    rw [hp, State.becomeActive_pair]
  · rw [h, State.eventAll_grid]
    rfl
  · exact (State.flag_congr (hget _ (by decide))).trans v.tookOver_switching
  · rw [hget _ (by decide), State.tookOver_takes, hv.get (by decide), State.becomeActive_get _ (by decide) (by decide),
      (State.joined_within ..).get (by decide)]

/-! ## TAKE_AT (R595, R611) -/

theorem State.schedule_schedules (s : State) (ts w : Ts) (incoming : Bool) :
    (s.schedule ts w incoming).pair.switch = some { ts := ts, w := w, incoming := incoming } ∧
    (s.schedule ts w incoming).flag PAIR_STATUS.SWITCHING = true := ⟨rfl, State.flag_put_same _ _ _ (by decide)⟩

theorem exec_takeAt_active {x : Ts} {s : State} (hp : s.pairOn = true) (hr : s.role = 1) :
    exec (.takeAt x) s = .next (s.modPair (fun y => { y with stopAt := some x })) := by
  show Host.Outcome.next (takeAtStep x s) = _
  rw [takeAtStep, State.whenDo_pos hp, if_pos hr]

theorem exec_takeAt_standby {x : Ts} {s : State} (hp : s.pairOn = true) (hr : s.role ≠ 1) (hd : s.dev = 4) :
    exec (.takeAt x) s = .next (s.schedule x s.makeInterval true) := by
  show Host.Outcome.next (takeAtStep x s) = _
  rw [takeAtStep, State.whenDo_pos hp, if_neg hr, if_pos hd]

/-! ## MAKE_START (R612) -/

theorem makeStart_makes {w : Switch} {s : State} (hw : s.pair.switch = some w) (hd : s.dev = 4) (hi : w.incoming = true)
    (hm : s.pair.making = false) : Leads .makeStart s (fun t => t.pair.making = true) := by
  have h : makeStartStep s = _ := State.whenDo_pos (by simp [hd, hw, hi, hm])
  exact ⟨_, congrArg Host.Outcome.next h, rfl⟩

/-! ## SWITCH_INSTANT (R591, R614 to R616) -/

/-- What a switch instant is to the referee: the switch-back that it has ordered is done, and it watches (R591). -/
def State.refSwitched (s : State) : State :=
  match s.pair.ref.switchAt with
  | some _ =>
    if s.refOn && s.get PAIR_RSTAT.STATE = 5 then
      (s.modRef (fun x => { x with switchAt := none })).puts [(PAIR_RSTAT.STATE, 2), (PAIR_RSTAT.ACTIVE_B, s.pref.toNat)]
    else s
  | none => s

theorem State.refSwitched_get (s : State) {f : Fld} (h : f.addr ≠ PAIR_RSTAT.STATE.addr) : s.refSwitched.get f = s.get f := by
  unfold State.refSwitched
  split
  · split
    · rw [State.get_puts_other _ _ _ (by simpa using ⟨.inl h.symm, .inl h.symm⟩)]
      rfl
    · rfl
  · rfl

theorem State.refSwitched_pair (s : State) : s.refSwitched.pair = { s.pair with ref := s.refSwitched.pair.ref } := by
  unfold State.refSwitched
  split
  · split <;> rfl
  · rfl

theorem State.refSwitched_dev (s : State) : s.refSwitched.dev = s.dev := s.refSwitched_get (by decide)

theorem State.refSwitched_role (s : State) : s.refSwitched.role = s.role := s.refSwitched_get (by decide)

theorem State.refSwitched_switching (s : State) : s.refSwitched.flag PAIR_STATUS.SWITCHING = s.flag PAIR_STATUS.SWITCHING :=
  State.flag_congr (s.refSwitched_get (by decide))

theorem State.refSwitched_watches {x : Ts} {s : State} (hx : s.pair.ref.switchAt = some x) (hr : s.refOn = true)
    (hs : s.get PAIR_RSTAT.STATE = 5) : s.refSwitched.get PAIR_RSTAT.STATE = 2 ∧
      s.refSwitched.get PAIR_RSTAT.ACTIVE_B = s.pref.toNat ∧ s.refSwitched.pair.ref.switchAt = none := by
  have h : s.refSwitched = (s.modRef (fun x => { x with switchAt := none })).puts [(PAIR_RSTAT.STATE, 2), (PAIR_RSTAT.ACTIVE_B, s.pref.toNat)] := by
    simp [State.refSwitched, hx, hr, hs]
  rw [h]
  refine ⟨?_, ?_, by rw [State.puts_pair]; rfl⟩
  · exact (State.get_put_other _ PAIR_RSTAT.ACTIVE_B _ _ (by decide)).trans (State.get_put_same _ _ _ (by decide))
  · exact (State.get_put_same _ PAIR_RSTAT.ACTIVE_B _ (by decide)).trans (Nat.mod_eq_of_lt (Bool.toNat_lt _))

section

variable {w : Switch} {s : State}

theorem exec_switchInstant_none (hs : s.pair.switch = none) : exec .switchInstant s = .next s.refSwitched := by
  show Host.Outcome.next (switchInstantStep s) = _
  simp only [switchInstantStep, hs]
  rfl

variable (hw : s.pair.switch = some w)

include hw

theorem exec_switchInstant_outgoing (hi : w.incoming = false) (hr : s.role = 1) :
    exec .switchInstant s = .next (s.switchOut w).refSwitched := by
  show Host.Outcome.next (switchInstantStep s) = _
  simp only [switchInstantStep, hw, hi, if_pos hr]
  rfl

theorem exec_switchInstant_incoming (hi : w.incoming = true) (hd : s.dev = 4) :
    exec .switchInstant s = .next (s.switchIn w).refSwitched := by
  show Host.Outcome.next (switchInstantStep s) = _
  simp only [switchInstantStep, hw, hi, if_pos hd]
  rfl

end

/-- The outgoing device becomes the standby once its partner is able to take over. -/
theorem State.switchOut_able {w : Switch} {s : State} (h : s.pair.partner.any (fun p => s.recent (some p.1) && ableWord p.2.toNat) = true) :
    s.switchOut w = ((((s.at w.ts).overSwitch stOk).modPair (fun x => { x with finalDue := true, draining := true })).enter 4).put
      PAIR_STATUS.ROLE 2 := by
  unfold State.switchOut
  rw [h]
  rfl

theorem State.switchOut_unable {w : Switch} {s : State} (h : s.pair.partner.any (fun p => s.recent (some p.1) && ableWord p.2.toNat) = false) :
    s.switchOut w = (s.at w.ts).dropSwitch := by
  unfold State.switchOut
  rw [h]
  rfl

theorem State.switchOut_ends (s : State) (w : Switch) :
    (s.switchOut w).pair.switch = none ∧ (s.switchOut w).flag PAIR_STATUS.SWITCHING = false := by
  cases h : s.pair.partner.any (fun p => s.recent (some p.1) && ableWord p.2.toNat) with
  | false =>
    rw [State.switchOut_unable h, State.dropSwitch_over, State.overSwitch_pair]
    exact ⟨rfl, State.overSwitch_switching ..⟩
  | true =>
    rw [State.switchOut_able h, State.put_pair, State.enter_within.comp .pair (by decide), State.modPair_pair, State.overSwitch_pair,
      State.flag_put_other _ _ _ _ (by decide), State.enter_within.flag (by decide)]
    exact ⟨rfl, State.overSwitch_switching ..⟩

/-- The outgoing device has handed over: it is the standby in SHADOW, and its FINAL_SEQ is due. -/
theorem State.switchOut_handsOver {w : Switch} {s : State}
    (h : s.pair.partner.any (fun p => s.recent (some p.1) && ableWord p.2.toNat) = true) :
    (s.switchOut w).dev = 4 ∧ (s.switchOut w).role = 2 ∧ (s.switchOut w).pair.finalDue = true := by
  rw [State.switchOut_able h, State.put_pair, State.enter_within.comp .pair (by decide)]
  exact ⟨(State.get_put_other _ _ _ _ (by decide)).trans (State.enter_dev _ _ (by decide)), State.get_put_same _ _ _ (by decide), rfl⟩

/-- The outgoing device stays what it is. -/
theorem State.switchOut_stays {w : Switch} {s : State}
    (h : s.pair.partner.any (fun p => s.recent (some p.1) && ableWord p.2.toNat) = false) :
    (s.switchOut w).dev = s.dev ∧ (s.switchOut w).role = s.role := by
  rw [State.switchOut_unable h, State.dropSwitch_over]
  exact ⟨(State.overSwitch_get _ _ (by decide) (by decide)).trans (State.at_get ..),
    (State.overSwitch_get _ _ (by decide) (by decide)).trans (State.at_get ..)⟩

/-- The incoming device at the switch instant: its make interval is over. -/
def State.madeUntil (s : State) (t : Ts) : State :=
  ((s.at t).modPair (fun x => { x with switch := none, making := false })).put PAIR_STATUS.SWITCHING 0

theorem State.madeUntil_get (s : State) (t : Ts) {f : Fld} (hf : PAIR_STATUS.SWITCHING.apart f) : (s.madeUntil t).get f = s.get f :=
  (State.get_put_other _ _ _ _ hf).trans (State.at_get ..)

theorem State.madeUntil_switching (s : State) (t : Ts) : (s.madeUntil t).flag PAIR_STATUS.SWITCHING = false :=
  State.flag_put_same _ _ _ (by decide)

/-- Levels that are still to be joined are joined to the newest snapshot. -/
def State.joinedIfDue (s : State) : State :=
  if s.pair.joinDue then (match s.pair.snap with
    | some l => s.joinLevels l
    | none => s) else s

theorem State.joinedIfDue_within (s : State) : s.within s.joinedIfDue [.phs, .brl, .pair] [] := by
  unfold State.joinedIfDue
  refine State.within_ite ?_ (State.within_refl _ _)
  split
  · exact State.joinLevels_within
  · exact State.within_refl _ _

theorem State.joinedIfDue_pair (s : State) : s.joinedIfDue.pair = { s.pair with joinDue := s.joinedIfDue.pair.joinDue } := by
  have hj : ∀ l, (s.joinLevels l).pair = { s.pair with joinDue := false } := fun l => by
    rw [State.joinLevels_joined, State.modPair_pair, (s.joined_within l).comp .pair (by decide)]
  unfold State.joinedIfDue
  split
  · split
    · rw [hj]
    · rfl
  · rfl

theorem State.switchIn_unhealthy {w : Switch} {s : State} (h : (s.pair.making && healthy s.healthWord) = false) :
    s.switchIn w = s.madeUntil w.ts := by
  unfold State.switchIn
  rw [h]
  rfl

/-- The healthy incoming device joins its levels, starts its streams' output, and becomes the active in a new epoch. -/
theorem State.switchIn_healthy {w : Switch} {s : State} (h : (s.pair.making && healthy s.healthWord) = true) :
    ∃ u : State, (s.madeUntil w.ts).joinedIfDue.within u [.strm] [] ∧ s.switchIn w = u.becomeActive.pairEpoch := by
  unfold State.switchIn
  rw [h]
  refine ⟨_, ?_, rfl⟩
  refine State.within_foldl (fun t n ht => State.modStr_within.step ht (by decide) (by decide)) ?_
  refine State.within_upd (fun c hc => ?_) (State.within_refl _ _)
  cases c with
  | strm => exact absurd (List.mem_singleton.2 rfl) hc
  | _ => rfl

theorem State.switchIn_ends (s : State) (w : Switch) : (s.switchIn w).pair.switch = none ∧ (s.switchIn w).pair.making = false ∧
    (s.switchIn w).flag PAIR_STATUS.SWITCHING = false := by
  cases h : s.pair.making && healthy s.healthWord with
  | false =>
    rw [State.switchIn_unhealthy h]
    exact ⟨rfl, rfl, State.madeUntil_switching ..⟩
  | true =>
    obtain ⟨u, hu, ht⟩ := State.switchIn_healthy (w := w) h
    have hp : u.pair = _ := (hu.comp .pair (by decide)).trans (State.joinedIfDue_pair _)
    rw [ht, State.pairEpoch_pair, State.becomeActive_pair, hp]
    refine ⟨rfl, rfl, (State.flag_congr ?_).trans (State.madeUntil_switching s w.ts)⟩
    rw [State.pairEpoch_get _ (by decide), State.becomeActive_get _ (by decide) (by decide), hu.get (by decide),
      (State.joinedIfDue_within _).get (by decide)]

theorem State.switchIn_active {w : Switch} {s : State} (h : (s.pair.making && healthy s.healthWord) = true) :
    (s.switchIn w).dev = 3 ∧ (s.switchIn w).role = 1 := by
  obtain ⟨u, -, ht⟩ := State.switchIn_healthy (w := w) h
  rw [ht]
  exact ⟨(State.pairEpoch_get _ (by decide)).trans (State.becomeActive_dev u), (State.pairEpoch_get _ (by decide)).trans (State.becomeActive_role u)⟩

theorem State.switchIn_stays {w : Switch} {s : State} (h : (s.pair.making && healthy s.healthWord) = false) :
    (s.switchIn w).dev = s.dev ∧ (s.switchIn w).role = s.role := by
  rw [State.switchIn_unhealthy h]
  exact ⟨State.madeUntil_get _ _ (by decide), State.madeUntil_get _ _ (by decide)⟩

/-! ## PAIR_CMD (R594, R595, R611) -/

/-- What a device of the pair does with a command that names a target. -/
def State.pairCommand (s : State) (h : RidgeHdr) (cmd : BitVec 4) (target : BitVec 12) (w : BitVec 32) : State :=
  match cmd.toNat with
  | 1 =>
    if target = s.nodeId then s.acceptTake h.time
    else if s.role = 1 || s.role = 3 then s.modPair (fun x => { x with stopAt := some h.time })
    else s
  | 2 =>
    if target = s.nodeId then (if s.dev = 4 then s.schedule h.time (us w.toNat) true else s)
    else if s.role = 1 then s.schedule h.time (us w.toNat) false
    else s
  | _ => s

/-- The first copy of a command with the pair's identifier. -/
theorem exec_pairCmd {h : RidgeHdr} {pairId : BitVec 12} {cmd : BitVec 4} {target : BitVec 12} {cseq w : BitVec 32} {b : List Byte} {u v s : State}
    (hr : s.ridgeOn = true) (hl : s.laneUp h.laneW = true) (ho : h.origin ≠ s.nodeId)
    (hb : b = [pairId.toNat * 65536, cmd.toNat * 2 ^ 28 + target.toNat, cseq.toNat, w.toNat, 0, 0, 0, 0].flatMap (beBytes 4))
    (hu : u = (s.goodFrame h.laneW).forward h 8 b) (hs : u.ridge.seen.contains (h.origin, h.seq) = false)
    (hv : v = { u with ridge := { u.ridge with seen := u.ridge.seen ++ [(h.origin, h.seq)] } }) (hp : v.pairOn = true)
    (hi : pairId.toNat = v.get PAIR_CFG.PAIR_ID) :
    exec (.pairCmd h pairId cmd target cseq w) s = .next (v.pairCommand h cmd target w) := by
  show Host.Outcome.next (pairCmdStep h pairId cmd target cseq w s) = _
  unfold pairCmdStep
  dsimp only
  rw [← hb, State.ringFrame_first _ hr hl ho hu hs, ← hv, if_neg (by simp [hp, hi])]
  rfl

section

variable {h : RidgeHdr} {target : BitVec 12} {w : BitVec 32} {s : State}

theorem State.pairCommand_take (ht : target = s.nodeId) : s.pairCommand h 1 target w = s.acceptTake h.time := if_pos ht

theorem State.pairCommand_stop (ht : target ≠ s.nodeId) (hr : s.role = 1 ∨ s.role = 3) :
    s.pairCommand h 1 target w = s.modPair (fun x => { x with stopAt := some h.time }) :=
  (if_neg ht).trans (if_pos (by simpa using hr))

theorem State.pairCommand_switchIn (ht : target = s.nodeId) (hd : s.dev = 4) :
    s.pairCommand h 2 target w = s.schedule h.time (us w.toNat) true := (if_pos ht).trans (if_pos hd)

theorem State.pairCommand_switchOut (ht : target ≠ s.nodeId) (hr : s.role = 1) :
    s.pairCommand h 2 target w = s.schedule h.time (us w.toNat) false := (if_neg ht).trans (if_pos hr)

/-- A switch-back is scheduled at its target, which comes in, and at the active, which goes out. -/
theorem State.pairCommand_switches (ht : (target = s.nodeId ∧ s.dev = 4) ∨ (target ≠ s.nodeId ∧ s.role = 1)) :
    s.pairCommand h 2 target w = s.schedule h.time (us w.toNat) (target == s.nodeId) := by
  rcases ht with ⟨ht, hd⟩ | ⟨ht, hr⟩
  · rw [State.pairCommand_switchIn ht hd, beq_iff_eq.2 ht]
  · rw [State.pairCommand_switchOut ht hr, beq_false_of_ne ht]

end

/-- Settles O32: each command by the lemmas of its section above. That the active takes TAKE_AT for its own stop and the standby for the relay
of a switch-back rests on log entry 118; a partner that is not able leaves the outgoing device as it is (R616). -/
theorem pairTakesComplete : Obligations.PairTakesComplete := by
  unfold Obligations.PairTakesComplete
  refine ⟨?fence, ?take, ?takeAt, ?switch, ?referee, ?command⟩
  case fence =>
    intro u s hr hu
    refine ⟨fun hb => ?_, fun hb => ?_, fun hl => ?_⟩
    · exact ⟨_, exec_fence_fences hr hu hb, u.fence_role, congrArg (·.draining) u.fence_pair, u.fence_unlit⟩
    · refine ⟨_, exec_fence_goesOn hr hu hb, ?_⟩
      have hur : u.role = 1 := by
        rw [hu]
        exact (State.at_get ..).trans hr
      split
      · exact ⟨hur, ‹_›⟩
      · exact ⟨u.refLost_put.2.trans hur, u.refLost_put.1⟩
    · exact ⟨_, exec_partnerHeartbeatLoss hr hl, State.fence_role _, congrArg (·.draining) (State.fence_pair _)⟩
  case take =>
    intro x s
    refine ⟨fun hs ht => ?_, fun hs ht hd => ?_⟩
    · exact ⟨_, exec_takeExecute_stops hs ht, by rw [State.handsOver_pair], by rw [State.handsOver_pair], by rw [State.handsOver_pair],
        s.handsOver_unlit x⟩
    · obtain ⟨hdev, hrole, htake, hfail, hsw, htakes⟩ := (s.at (s.onClock (s.boundaryFor x))).doTake_takes (s.boundaryFor x)
      exact ⟨_, exec_takeExecute_takes hs ht hd, hdev, hrole, htake, hfail, hsw, htakes.trans (by rw [State.at_get])⟩
  case takeAt =>
    exact fun x s hp => ⟨fun hr => ⟨_, exec_takeAt_active hp hr, rfl, rfl⟩,
      fun hr hd => ⟨_, exec_takeAt_standby hp hr hd, s.schedule_schedules ..⟩⟩
  case switch =>
    intro w s hw
    refine ⟨fun hd hi hm => makeStart_makes hw hd hi hm, fun hi hr => ?outgoing, fun hi hd => ?incoming⟩
    case outgoing =>
      obtain ⟨hsw, hfl⟩ := s.switchOut_ends w
      refine ⟨_, exec_switchInstant_outgoing hw hi hr, ?_⟩
      dsimp only
      rw [State.refSwitched_pair, State.refSwitched_switching, State.refSwitched_dev, State.refSwitched_role]
      refine ⟨hsw, hfl, State.switchOut_handsOver, fun hb => ?_⟩
      obtain ⟨hdev, hrole⟩ := State.switchOut_stays (w := w) hb
      exact ⟨hdev, hrole.trans hr⟩
    case incoming =>
      obtain ⟨hsw, hmk, hfl⟩ := s.switchIn_ends w
      refine ⟨_, exec_switchInstant_incoming hw hi hd, ?_⟩
      dsimp only
      rw [State.refSwitched_pair, State.refSwitched_switching, State.refSwitched_dev, State.refSwitched_role]
      refine ⟨hsw, hmk, hfl, fun hm hh => State.switchIn_active (by simp [hm, hh]), fun hb => ?_⟩
      obtain ⟨hdev, hrole⟩ := State.switchIn_stays (w := w) hb
      exact ⟨hdev.trans hd, hrole⟩
  case referee =>
    exact fun x s hn hx hr hs => ⟨_, exec_switchInstant_none hn, State.refSwitched_watches hx hr hs⟩
  case command =>
    intro h pairId cmd target cseq w b u v s hr hl ho hb hu hs hv hp hi
    have he := exec_pairCmd hr hl ho hb hu hs hv hp hi
    refine ⟨?_, ?_, ?_, ?_⟩
    · rintro rfl ht hel
      refine ⟨_, he, ?_⟩
      rw [State.pairCommand_take ht, State.acceptTake, if_pos hel]
      rfl
    · rintro rfl ht hel
      rw [he, State.pairCommand_take ht, State.acceptTake, if_neg (Bool.eq_false_iff.1 hel)]
    · rintro rfl ht hro
      refine ⟨_, he, ?_⟩
      rw [State.pairCommand_stop ht hro]
      rfl
    · rintro rfl ht
      refine ⟨_, he, ?_⟩
      rw [State.pairCommand_switches ht]
      exact (v.schedule_schedules ..).symm

end Sys2Proof.Machine
end

section
/-! SUPPORT. The receiver: what an interval of the gain control decides, and the turns of VIS (R139 to R141, R148, R161). -/

namespace Sys2Proof.Machine

/-! ## The gain control (R139 to R141, R148) -/

@[simp] theorem State.modAgc_agc (s : State) (p : Port) (brl : Bool) (f : Agc → Agc) : (s.modAgc p brl f).agc p brl = f (s.agc p brl) := by
  cases p <;> cases brl <;> rfl

@[simp] theorem State.modAgc_regs (s : State) (p : Port) (brl : Bool) (f : Agc → Agc) : (s.modAgc p brl f).regs = s.regs := by
  cases p <;> cases brl <;> rfl

@[simp] theorem State.countClips_agc (s : State) (p q : Port) (brl c : Bool) (lanes : List (List Int)) (refs : List (Int × Int)) :
    (s.countClips p brl lanes refs).agc q c = s.agc q c := by
  have h : (s.countClips p brl lanes refs).rx = s.rx := State.countClips_within.comp .rx (by decide)
  unfold State.agc
  rw [h]

theorem exec_agcIntervalEnd_counts {p : Port} {brl : Bool} {lanes : List (List Int)} {refI refQ : List Int} {s : State}
    (h : (s.grid.running && s.grid.started && s.flag (agcFld p brl)) = false) :
    exec (.agcIntervalEnd p brl lanes refI refQ) s = .next (s.countClips p brl lanes (refI.zip refQ)) :=
  congrArg Host.Outcome.next (if_neg (Bool.eq_false_iff.1 h))

theorem exec_agcIntervalEnd_decides {p : Port} {brl : Bool} {lanes : List (List Int)} {refI refQ l : List Int} {s : State}
    (h : (s.grid.running && s.grid.started && s.flag (agcFld p brl)) = true) (hl : l = lanes.flatMap (s.agcCodes p)) :
    exec (.agcIntervalEnd p brl lanes refI refQ) s = .next ((s.countClips p brl lanes (refI.zip refQ)).modAgc p brl
      (s.agcDecide p brl (s.agcHeld p) (l.countP clipped12) (maxN (l.map Int.natAbs)))) := by
  subst hl
  exact congrArg Host.Outcome.next (if_pos h)

section

variable (s : State) (p : Port) (brl : Bool) (clips peak : Nat) (a : Agc)

theorem State.agcDecide_totals (held : Bool) :
    (s.agcDecide p brl held clips peak a).clips = clips ∧ (s.agcDecide p brl held clips peak a).peak = peak := by
  unfold State.agcDecide
  dsimp only
  split_ifs <;> exact ⟨rfl, rfl⟩

/-- An interval that holds no return decides nothing (R139). -/
theorem State.agcDecide_dark : s.agcDecide p brl false clips peak a = { a with clips := clips, peak := peak, quiet := 0, step := 0 } := rfl

/-- Too many clipped samples decide one step down (R140). -/
theorem State.agcDecide_down {clips : Nat} (h : s.get RX_AGC.CLIP_HI < clips) : s.agcDecide p brl true clips peak a =
    { a with clips := clips, peak := peak, quiet := 0, step := if s.get (actFld p brl) = 0 then 0 else -1 } := by
  unfold State.agcDecide
  dsimp only
  rw [if_neg (by decide), if_pos h]

/-- Enough quiet intervals on end decide one step up (R141). -/
theorem State.agcDecide_quiet {peak : Nat} (h : quietPeak peak (s.get RX_AGC.LOW_DBFS) = true) : s.agcDecide p brl true 0 peak a =
    { a with clips := 0, peak := peak, quiet := a.quiet + 1,
             step := if s.get RX_AGC.HOLD ≤ a.quiet + 1 ∧ s.get (actFld p brl) < 7 then 1 else 0 } := by
  unfold State.agcDecide
  dsimp only
  rw [if_neg (by decide), if_neg (Nat.not_lt_zero _), if_pos (by simp [h])]
  simp only [Bool.and_eq_true, decide_eq_true_eq]

end

/-! ## VIS (R161) -/

/-- VIS over 1 ms of samples is shown, and on which side of half it lies is noted. -/
def State.showVis (s : State) (refs : List (Int × Int)) : State :=
  ({ s with rx := { s.rx with visLow := decide (fringeVis refs < 2048) } }).put RX_REF.VIS (fringeVis refs)

theorem exec_refVisLow_stays {refs : List (Int × Int)} {s : State} (h : (decide (fringeVis refs < 2048) && !s.rx.visLow) = false) :
    exec (.refVisLow refs) s = .next (s.showVis refs) := congrArg Host.Outcome.next (if_neg (Bool.eq_false_iff.1 h))

theorem exec_refVisLow_turns {refs : List (Int × Int)} {s : State} (h : (decide (fringeVis refs < 2048) && !s.rx.visLow) = true) :
    exec (.refVisLow refs) s = .next (((s.showVis refs).put RX_STATUS.REF_LOW 1).eventAll 0x0104 0) := congrArg Host.Outcome.next (if_pos h)

theorem State.showVis_vis (s : State) (refs : List (Int × Int)) : (s.showVis refs).get RX_REF.VIS = fringeVis refs % 2 ^ RX_REF.VIS.width :=
  State.get_put_same _ _ _ (by decide)

end Sys2Proof.Machine
end

section
/-! SUPPORT. The phase chain: a shot of a port that meets its turn, and the verdict of a signature check (R161, R182, R195 to R198). -/

namespace Sys2Proof.Machine

/-! ## Channels and outputs -/

theorem State.setChans_chans (s : State) (p : Port) (l : List Chan) : (s.setChans p l).chans p = l := by cases p <;> rfl

theorem State.chans_congr {s t : State} (h : t.phs = s.phs) (p : Port) : t.chans p = s.chans p := by
  unfold State.chans
  rw [h]

/-- The phase chain takes one step on every channel that the shot names (R169). -/
theorem State.chainSteps_length (s : State) (i : Inflight) (sh : ShotReturn) (r : Reinit) : (s.chainSteps i sh r).length = i.phs.nch := by
  simp [State.chainSteps]

/-! ## A shot of the phase chain (R182) -/

/-- A shot has left the list of those under way, and VIS and, where it was received, the continuity length follow it (R72, R161). -/
def State.shotTaken (s : State) (i : Inflight) (sh : ShotReturn) : State :=
  let t := ({ s with grid := { s.grid with inflight := s.grid.inflight.erase i } }).measureVis sh.refs
  if i.launched && sh.received then t.put (LSD_APR_STAT.CONT_LEN i.port.idx) (contLength (t.physOf i.port) (t.dasBins i sh)) else t

/-- What a shot of a signature sweep adds (R194, R195). -/
def State.sigAdded (s : State) (i : Inflight) (sh : ShotReturn) : State :=
  if i.launched && sh.received then s.signatureShot i (s.dasBins i sh) else s

/-- How a shot re-initialises its port's channels: a changed channel count starts each anew (R191). -/
def State.shotReinit (s : State) (i : Inflight) : Reinit := if (s.chans i.port).length = i.phs.nch then i.reinit else .all

/-- The outputs of before leave ahead of a shot that starts every channel anew. -/
def State.flushed (s : State) (i : Inflight) : State :=
  if s.shotReinit i = .all then (s.flushOutputs i.port).anchorReinit i.port i.launch else s

/-- The channels of a port after a list of steps, which are counted. -/
def State.stepped (s : State) (p : Port) (steps : List ChanStep) : State :=
  (s.setChans p (steps.map (·.c))).countChain p (steps.filter (·.slip)).length (steps.filter (·.reacq)).length

/-- Every channel of a shot's port is carried on, and its samples enter the streams. -/
def State.carried (s : State) (i : Inflight) (sh : ShotReturn) : State :=
  let r := s.shotReinit i
  let steps := (s.flushed i).chainSteps i sh r
  let t := (s.flushed i).stepped i.port steps
  if i.feed then t.decShot { i with reinit := r } (steps.map (·.out)) else t

theorem exec_phaseChainShot {sh : ShotReturn} {i : Inflight} {s : State} (h : s.shotDue sh.port sh.pos = some i) : exec (.phaseChainShot sh) s =
    .next (if i.sig then (s.shotTaken i sh).sigAdded i sh else (s.shotTaken i sh).carried i sh) := by
  show Host.Outcome.next (phaseChainShotStep sh s) = _
  unfold phaseChainShotStep
  rw [h]
  rfl

/-- The oldest shot of the port is due where it is one of the position (R182). -/
theorem State.shotDue_oldest {s : State} {p : Port} {pos : Fin 16} {i : Inflight} (h : s.grid.inflight.find? (fun i => i.port == p) = some i)
    (hp : i.pos = pos) : s.shotDue p pos = some i := by
  unfold State.shotDue
  rw [h]
  simp [hp]

theorem State.shotTaken_lost {s : State} {i : Inflight} {sh : ShotReturn} (h : (i.launched && sh.received) = false) :
    s.shotTaken i sh = ({ s with grid := { s.grid with inflight := s.grid.inflight.erase i } }).measureVis sh.refs := if_neg (Bool.eq_false_iff.1 h)

theorem State.sigAdded_lost {s : State} {i : Inflight} {sh : ShotReturn} (h : (i.launched && sh.received) = false) : s.sigAdded i sh = s :=
  if_neg (Bool.eq_false_iff.1 h)

theorem State.shotTaken_inflight (s : State) (i : Inflight) (sh : ShotReturn) : (s.shotTaken i sh).grid.inflight = s.grid.inflight.erase i := by
  have hv (t : State) : (t.measureVis sh.refs).grid = t.grid := State.measureVis_within.comp .grid (by decide)
  unfold State.shotTaken
  dsimp only
  split
  · rw [State.put_grid, hv]
  · rw [hv]

theorem State.sigAdded_grid (s : State) (i : Inflight) (sh : ShotReturn) : (s.sigAdded i sh).grid = s.grid := by
  unfold State.sigAdded
  split
  · exact State.signatureShot_within.comp .grid (by decide)
  · rfl

theorem State.flushed_grid (s : State) (i : Inflight) : (s.flushed i).grid = s.grid := by
  unfold State.flushed
  split
  · exact (State.anchorReinit_within.comp .grid (by decide)).trans (State.flushOutputs_within.comp .grid (by decide))
  · rfl

theorem State.stepped_grid (s : State) (p : Port) (steps : List ChanStep) : (s.stepped p steps).grid = s.grid :=
  (State.countChain_within.comp .grid (by decide)).trans (State.setChans_within.comp .grid (by decide))

theorem State.stepped_chans (s : State) (p : Port) (steps : List ChanStep) : (s.stepped p steps).chans p = steps.map (·.c) :=
  (State.chans_congr (State.countChain_within.comp .phs (by decide)) p).trans (State.setChans_chans ..)

theorem State.carried_grid (s : State) (i : Inflight) (sh : ShotReturn) : (s.carried i sh).grid = s.grid := by
  have h (steps : List ChanStep) : ((s.flushed i).stepped i.port steps).grid = s.grid := by rw [State.stepped_grid, State.flushed_grid]
  unfold State.carried
  dsimp only
  split
  · exact (State.decShot_within.comp .grid (by decide)).trans (h _)
  · exact h _

/-- Every channel of the port is carried on. -/
theorem State.carried_chans (s : State) (i : Inflight) (sh : ShotReturn) : ((s.carried i sh).chans i.port).length = i.phs.nch := by
  unfold State.carried
  dsimp only
  split
  · rw [State.chans_congr (State.decShot_within.comp .phs (by decide)), State.stepped_chans, List.length_map, State.chainSteps_length]
  · rw [State.stepped_chans, List.length_map, State.chainSteps_length]

/-! ## The verdict of a signature check (R195 to R198) -/

/-- Both ports' signatures are measured, and learned where none is stored (R195, R197). -/
def State.sigTaken (s : State) : State :=
  let v := if s.get (PAT_RANGE.N_BIN 0) ≠ 0 then s.measure .a s.phs.sigA.int s.phs.sigA.conts else s
  let w := if s.get (PAT_RANGE.N_BIN 1) ≠ 0 then v.measure .b s.phs.sigB.int s.phs.sigB.conts else v
  (w.sigLearn .a).sigLearn .b

/-- A port is unused, or the measured set matches its own (R196, R198). -/
def State.ownSig (s u : State) (p : Port) : Bool :=
  decide (s.get (PAT_RANGE.N_BIN p.idx) = 0) || sigMatch (s.get LSD_APR_CTRL.TOL) (u.sigMeas p) (u.sigStore p)

/-- A port is used, and the measured set matches the other port's (R196, R198). -/
def State.crossSig (s u : State) (p : Port) : Bool :=
  decide (s.get (PAT_RANGE.N_BIN p.idx) ≠ 0) && sigMatch (s.get LSD_APR_CTRL.TOL) (u.sigMeas p) (u.sigStore p.other)

/-- The check is counted and no longer due. -/
def State.sigCounted (u : State) : State :=
  let t := u.count PHS_SIG_STAT.CHECKS
  { t with phs := { t.phs with sigDue := false } }

theorem State.rdWords_put_other (s : State) {f : Fld} {off k : Nat} (n : Nat) (h : ∀ i ∈ List.range k, off + 4 * i ≠ f.addr) :
    (s.put f n).rdWords off k = s.rdWords off k := List.map_congr_left fun i hi => State.rd_put_other s n (h i hi)

theorem State.sigCounted_meas (u : State) (p : Port) : u.sigCounted.sigMeas p = u.sigMeas p :=
  State.rdWords_put_other u _ (by cases p <;> decide)

theorem State.sigCounted_store (u : State) (p : Port) : u.sigCounted.sigStore p = u.sigStore p :=
  State.rdWords_put_other u _ (by cases p <;> decide)

theorem State.sigCounted_checks (u : State) :
    u.sigCounted.get PHS_SIG_STAT.CHECKS = (u.get PHS_SIG_STAT.CHECKS + 1) % 2 ^ PHS_SIG_STAT.CHECKS.width :=
  State.get_put_same _ _ _ (by decide)

theorem State.sigCounted_due (u : State) : u.sigCounted.phs.sigDue = false := rfl

/-- The ports are found swapped: dark, and in STANDBY (R198). -/
def State.sigSwapped (t : State) : State :=
  ((({ t with phs := { t.phs with swapHeld := true } }).put PHS_SIG_STAT.VERDICT 2).dark.toStandby).eventAll 0x0105 0

/-- A port whose set matches neither is told of (R198). -/
def State.sigUnknown (t : State) (ownA ownB : Bool) : State :=
  let u := t.put PHS_SIG_STAT.VERDICT 3
  let u := if ownA then u else u.eventAll 0x0106 0
  if ownB then u else u.eventAll 0x0106 1

/-- What the taken signatures come to (R196 to R198). -/
def State.sigVerdict (s u : State) : State :=
  if s.ownSig u .a && s.ownSig u .b then u.sigCounted.put PHS_SIG_STAT.VERDICT 1
  else if s.crossSig u .a && s.crossSig u .b then u.sigCounted.sigSwapped
  else u.sigCounted.sigUnknown (s.ownSig u .a) (s.ownSig u .b)

theorem State.sigSwapped_ends (t : State) : t.sigSwapped.phs.sigDue = t.phs.sigDue ∧
    t.sigSwapped.get PHS_SIG_STAT.CHECKS = t.get PHS_SIG_STAT.CHECKS ∧ t.sigSwapped.get PHS_SIG_STAT.VERDICT = 2 ∧
    t.sigSwapped.dev = 2 ∧ t.sigSwapped.grid.running = false := by
  have hd (v : State) : v.within (v.dark.toStandby.eventAll 0x0105 0) [.light, .grid, .dmc, .power, .qcp, .ptb, .out] [0, 3, 16, 21, 24, 25] :=
    State.eventAll_within.step (State.toStandby_within.step (State.dark_within.mono (by decide) (by decide)) (by decide) (by decide))
      (by decide) (by decide)
  unfold State.sigSwapped
  refine ⟨?_, ?_, ?_, ?_, ?_⟩
  · rw [(hd _).comp .phs (by decide)]
    rfl
  · rw [(hd _).get (by decide)]
    exact State.get_put_other _ _ _ _ (by decide)
  · rw [(hd _).get (by decide)]
    exact State.get_put_same _ _ _ (by decide)
  · rw [State.eventAll_within.dev (by decide)]
    exact State.toStandby_dev _
  · rw [State.eventAll_grid, State.toStandby_within.comp .grid (by decide)]
    unfold State.dark
    rw [State.puts_grid]
    rfl

theorem State.sigUnknown_ends (t : State) (ownA ownB : Bool) : (t.sigUnknown ownA ownB).phs = t.phs ∧
    (t.sigUnknown ownA ownB).get PHS_SIG_STAT.CHECKS = t.get PHS_SIG_STAT.CHECKS ∧
    (t.sigUnknown ownA ownB).get PHS_SIG_STAT.VERDICT = 3 := by
  have ht (v : State) (n : Nat) (b : Bool) : v.within (if b then v else v.eventAll 0x0106 n) [.qcp, .ptb, .out] [24, 25] :=
    State.within_ite (State.within_refl _ _) State.eventAll_within
  have h : (t.put PHS_SIG_STAT.VERDICT 3).within (t.sigUnknown ownA ownB) [.qcp, .ptb, .out] [24, 25] := (ht _ 0 ownA).trans (ht _ 1 ownB)
  refine ⟨h.comp .phs (by decide), ?_, ?_⟩
  · rw [h.get (by decide)]
    exact State.get_put_other _ _ _ _ (by decide)
  · rw [h.get (by decide)]
    exact State.get_put_same _ _ _ (by decide)

theorem exec_signatureVerdict {s : State} (hd : s.phs.sigDue = true) (hi : s.grid.inflight.any (fun (i : Inflight) => i.sig) = false) :
    exec (.signatureVerdict () () () ()) s = .next (s.sigVerdict s.sigTaken) := by
  show Host.Outcome.next (signatureVerdictStep s) = _
  unfold signatureVerdictStep
  rw [State.whenDo_pos (by simp [hd, hi])]
  refine congrArg _ ?_
  extract_lets has t1 t2 t3 ph t tol own ph2 u1 u2
  have ht : t = s.sigTaken.sigCounted := by
    unfold t ph t3 t2 t1 has State.sigTaken
    simp only [bne_iff_ne]
    rfl
  have ho (p : Port) : own p = s.ownSig s.sigTaken p := by
    unfold own State.ownSig has tol
    rw [ht, State.sigCounted_meas, State.sigCounted_store, bne, Bool.not_not]
    rfl
  have hc : (has .a && has .b && sigMatch tol (t.sigMeas .a) (t.sigStore .b) && sigMatch tol (t.sigMeas .b) (t.sigStore .a)) =
      (s.crossSig s.sigTaken .a && s.crossSig s.sigTaken .b) := by
    have hh (p : Port) : has p = decide (s.get (PAT_RANGE.N_BIN p.idx) ≠ 0) := by
      rw [Bool.eq_iff_iff, decide_eq_true_iff]
      exact bne_iff_ne
    unfold State.crossSig tol
    rw [ht, hh, hh, State.sigCounted_meas, State.sigCounted_store, State.sigCounted_meas, State.sigCounted_store]
    ac_rfl
  unfold u2 u1 ph2
  rw [ho, ho, hc, ht]
  rfl

end Sys2Proof.Machine
end

section
/-! SUPPORT. An output of a stream leaves the chain: the batten that takes it leaves the filters as they are (R214, R221, R377). -/

namespace Sys2Proof.Machine

/-! ## Battens and the filters -/

theorem State.evalFallback_filters (s : State) : s.evalFallback.dec.f = s.dec.f := rfl

theorem State.suspend_filters (s : State) (n : Nat) : (s.suspend n).dec.f = s.dec.f := by
  unfold State.suspend
  rw [State.evalFallback_filters, State.eventStream_within.comp .dec (by decide), State.updOverdrawn_within.comp .dec (by decide)]
  rfl

theorem State.closeFull_filters (s : State) (n : Nat) : (s.closeFull n).dec.f = s.dec.f := by
  have h : (s.closeOpen n).dec = s.dec := State.closeOpen_within.comp .dec (by decide)
  unfold State.closeFull
  dsimp only
  split
  · rw [State.suspend_filters, h]
  · rw [h]

theorem State.fillGap_filters (s : State) (n : Nat) (like : BOut) (i j : Nat) : (s.fillGap n like i j).dec.f = s.dec.f :=
  congrArg Decim.f (State.fillGap_within.comp .dec (by decide))

theorem State.missing_filters (s : State) (n : Nat) (o : BOut) : (s.missing n o).dec.f = s.dec.f := by
  unfold State.missing
  split
  · rfl
  · split
    · rfl
    · extract_lets m endP t1 e1 t2 whole t3 e3
      have h1 : t1.dec.f = s.dec.f := by
        unfold t1
        split
        · rfl
        · exact State.fillGap_filters ..
      have h2 : t2.dec.f = s.dec.f := by
        unfold t2
        split
        · rw [State.closeFull_filters, h1]
        · exact h1
      have h3 : t3.dec.f = s.dec.f := by
        unfold t3
        split
        · exact h2
        · exact h2
      split
      · exact h2
      · rw [State.fillGap_filters, h3]

/-- An output that enters its batten leaves the filters as they are. -/
theorem State.pushOut_filters (s : State) (n : Nat) (o : BOut) : (s.pushOut n o).dec.f = s.dec.f := by
  unfold State.pushOut
  split
  · rfl
  · split
    · rfl
    · extract_lets o1 s1 t1 t2
      have h1 : s1.dec.f = s.dec.f := congrArg Decim.f (State.turnSeries_within.comp .dec (by decide))
      have h2 : t1.dec.f = s.dec.f := by
        unfold t1
        split
        · rw [State.closeFull_filters, h1]
        · split
          · rw [← h1]
            exact congrArg Decim.f (State.closeOpen_within.comp .dec (by decide))
          · exact h1
      have h3 : t2.dec.f = s.dec.f := by
        unfold t2
        split
        · exact h2
        · rw [State.missing_filters, h2]
      split
      · exact h3
      · exact h3

/-! ## DECIMATION_OUTPUT (R214, R221) -/

/-- A stream's output has been taken, its channels' values with it. -/
def State.outTaken (s : State) (n : Nat) (i : Inflight) : State :=
  s.modFilt n (fun f => { f with out := none, epoch := i.epoch, ch := f.ch.map (fun (c : ChanFilter) => { c with ready := none }) })

theorem State.outTaken_out (s : State) (n : Nat) (i : Inflight) : ((s.outTaken n i).filt n).out = none := by
  unfold State.outTaken State.filt State.modFilt
  rw [updAt_getD]
  split
  · rfl
  · rename_i h
    rw [List.getD_eq_default _ _ (by omega)]

/-- An output that waits leaves the chain; where it is sent it goes into its batten, the history and the trigger engine (R277, R612). -/
theorem State.decOutput_takes {s : State} {n : Nat} {i : Inflight} (h : (s.filt n).out = some i) :
    ∃ (brl : Brl) (o : BOut) (r : HistOut) (x : TrigIn), s.decOutput n =
      if i.send then ((({ s with brl := brl }.outTaken n i).pushOut n o).recordOut n r).trgOffer x else { s with brl := brl }.outTaken n i := by
  unfold State.decOutput
  dsimp only
  rw [h]
  cases s.anchorOf n with
  | none => exact ⟨s.brl, _, _, _, rfl⟩
  | some a => exact ⟨_, _, _, _, rfl⟩

theorem State.decOutput_out {s : State} {n : Nat} {i : Inflight} (h : (s.filt n).out = some i) : ((s.decOutput n).filt n).out = none := by
  obtain ⟨brl, o, r, x, ht⟩ := State.decOutput_takes h
  rw [ht]
  split
  · have hf (t : State) : (((t.pushOut n o).recordOut n r).trgOffer x).filt n = t.filt n := by
      unfold State.filt
      rw [State.trgOffer_within.comp .dec (by decide), State.recordOut_within.comp .dec (by decide), State.pushOut_filters]
    rw [hf]
    exact State.outTaken_out ..
  · exact State.outTaken_out ..

end Sys2Proof.Machine
end

section
/-! The receiver's and the phase chain's commands (O24: R139 to R141, R148, R161, R168, R180, R182, R195 to R198, R214, R221). -/

namespace Sys2Proof.Machine

/-- An interval of a running sweep counts its clipped samples, and decides where the path is under AGC (R139, R148). -/
theorem agcIntervalEnd_completes {p : Port} {brl : Bool} {lanes : List (List Int)} {refI refQ l : List Int} {s : State}
    (hr : s.grid.running = true) (hs : s.grid.started = true) (hl : l = lanes.flatMap (s.agcCodes p)) :
    Leads (.agcIntervalEnd p brl lanes refI refQ) s (fun t => t.regs = (s.countClips p brl lanes (refI.zip refQ)).regs ∧
      (s.flag (agcFld p brl) = false → t.agc p brl = s.agc p brl) ∧
      (s.flag (agcFld p brl) = true →
        t.agc p brl = s.agcDecide p brl (s.agcHeld p) (l.countP clipped12) (maxN (l.map Int.natAbs)) (s.agc p brl))) := by
  cases hf : s.flag (agcFld p brl) with
  | false =>
    refine ⟨_, exec_agcIntervalEnd_counts (by simp [hf]), rfl, fun _ => State.countClips_agc .., fun h => ?_⟩
    exact absurd h Bool.false_ne_true
  | true =>
    refine ⟨_, exec_agcIntervalEnd_decides (by simp [hr, hs, hf]) hl, State.modAgc_regs .., fun h => ?_, fun _ => ?_⟩
    · exact absurd h.symm Bool.false_ne_true
    · rw [State.modAgc_agc, State.countClips_agc]

theorem refVisLow_completes (refs : List (Int × Int)) (s : State) :
    Leads (.refVisLow refs) s (fun t => t.rx.visLow = decide (fringeVis refs < 2048) ∧
      t.get RX_REF.VIS = fringeVis refs % 2 ^ RX_REF.VIS.width ∧
      (fringeVis refs < 2048 → s.rx.visLow = false → t.flag RX_STATUS.REF_LOW = true)) := by
  cases h : decide (fringeVis refs < 2048) && !s.rx.visLow with
  | false =>
    refine ⟨_, exec_refVisLow_stays h, rfl, s.showVis_vis refs, fun hv hl => ?_⟩
    simp [hv, hl] at h
  | true =>
    refine ⟨_, exec_refVisLow_turns h, ?_, ?_, fun _ _ => ?_⟩
    · rw [State.eventAll_rx]
      rfl
    · rw [State.eventAll_within.get (by decide), State.get_put_other _ _ _ _ (by decide), State.showVis_vis]
    · rw [State.eventAll_within.flag (by decide)]
      exact State.flag_put_same _ _ _ (by decide)

theorem phaseChainShot_completes {sh : ShotReturn} {i : Inflight} {s : State}
    (hf : s.grid.inflight.find? (fun i => i.port == sh.port) = some i) (hp : i.pos = sh.pos) :
    Leads (.phaseChainShot sh) s (fun t => t.grid.inflight = s.grid.inflight.erase i ∧
      (i.sig = false → (t.chans i.port).length = i.phs.nch)) := by
  refine ⟨_, exec_phaseChainShot (State.shotDue_oldest hf hp), ?_⟩
  cases hi : i.sig with
  | true =>
    refine ⟨?_, fun h => absurd h.symm Bool.false_ne_true⟩
    rw [if_pos rfl, State.sigAdded_grid, State.shotTaken_inflight]
  | false =>
    rw [if_neg Bool.false_ne_true]
    exact ⟨by rw [State.carried_grid, State.shotTaken_inflight], fun _ => State.carried_chans ..⟩

theorem signatureVerdict_completes {s : State} (hd : s.phs.sigDue = true)
    (hi : s.grid.inflight.any (fun (i : Inflight) => i.sig) = false) :
    Leads (.signatureVerdict () () () ()) s (fun t => t.phs.sigDue = false ∧
      t.get PHS_SIG_STAT.CHECKS = (s.sigTaken.get PHS_SIG_STAT.CHECKS + 1) % 2 ^ PHS_SIG_STAT.CHECKS.width ∧
      ((s.ownSig s.sigTaken .a && s.ownSig s.sigTaken .b) = true → t.get PHS_SIG_STAT.VERDICT = 1) ∧
      ((s.ownSig s.sigTaken .a && s.ownSig s.sigTaken .b) = false → (s.crossSig s.sigTaken .a && s.crossSig s.sigTaken .b) = true →
        t.get PHS_SIG_STAT.VERDICT = 2 ∧ t.dev = 2 ∧ t.grid.running = false) ∧
      ((s.ownSig s.sigTaken .a && s.ownSig s.sigTaken .b) = false → (s.crossSig s.sigTaken .a && s.crossSig s.sigTaken .b) = false →
        t.get PHS_SIG_STAT.VERDICT = 3)) := by
  refine ⟨_, exec_signatureVerdict hd hi, ?_⟩
  generalize s.sigTaken = u
  unfold State.sigVerdict
  cases s.ownSig u .a && s.ownSig u .b with
  | true =>
    rw [if_pos rfl]
    refine ⟨u.sigCounted_due, ?_, fun _ => State.get_put_same _ _ _ (by decide), by simp, by simp⟩
    exact (State.get_put_other _ _ _ _ (by decide)).trans u.sigCounted_checks
  | false =>
    rw [if_neg Bool.false_ne_true]
    cases s.crossSig u .a && s.crossSig u .b with
    | true =>
      obtain ⟨hdue, hch, hv, hdev, hrun⟩ := u.sigCounted.sigSwapped_ends
      rw [if_pos rfl]
      exact ⟨hdue.trans u.sigCounted_due, hch.trans u.sigCounted_checks, by simp, fun _ _ => ⟨hv, hdev, hrun⟩, by simp⟩
    | false =>
      obtain ⟨hphs, hch, hv⟩ := u.sigCounted.sigUnknown_ends (s.ownSig u .a) (s.ownSig u .b)
      rw [if_neg Bool.false_ne_true]
      exact ⟨(congrArg (·.sigDue) hphs).trans u.sigCounted_due, hch.trans u.sigCounted_checks, by simp, by simp, fun _ _ => hv⟩

/-- Settles O24: each command by the lemma of its own above. That REF_LOW is latched at the turn of VIS alone rests on log entry 145. -/
theorem chainsComplete : Obligations.ChainsComplete := by
  unfold Obligations.ChainsComplete
  refine ⟨?agc, ?vis, ?shot, ?verdict, ?output⟩
  case agc =>
    intro p brl lanes refI refQ refs l s hr hs hrefs hl
    subst hrefs
    obtain ⟨t, he, hregs, hoff, hon⟩ := agcIntervalEnd_completes (refI := refI) (refQ := refQ) hr hs hl
    refine ⟨t, he, hregs, hoff, fun hf => ?_⟩
    rw [hon hf]
    obtain ⟨hc, hp⟩ := s.agcDecide_totals p brl (l.countP clipped12) (maxN (l.map Int.natAbs)) (s.agc p brl) (s.agcHeld p)
    refine ⟨hc, hp, fun hh => ?_, fun hh hd => ?_, fun hh h0 hq => ?_⟩
    · rw [hh, State.agcDecide_dark]
      exact ⟨rfl, rfl⟩
    · rw [hh, State.agcDecide_down _ _ _ _ _ hd]
      exact ⟨rfl, rfl⟩
    · rw [hh, h0, State.agcDecide_quiet _ _ _ _ hq]
      exact ⟨rfl, rfl⟩
  case vis => exact refVisLow_completes
  case shot => exact fun sh i s => phaseChainShot_completes
  case verdict =>
    rintro tol own cross u s hd hi rfl rfl rfl rfl
    exact signatureVerdict_completes hd hi
  case output =>
    exact fun stream i s h => ⟨_, rfl, State.decOutput_out h⟩

end Sys2Proof.Machine
end

section
/-! Next states of the chain's commands, the PAIR link's frames, the interval counter's and the register actions (O53: R148, R161, R182,
R197, R214, R345, R541, R544 to R546, R605 to R608, R613, R615). -/

namespace Sys2Proof.Machine

/-! ## The chain -/

/-- A signature shot that was not received leaves the list, and VIS follows it (R161, R182). -/
theorem exec_phaseChainShot_lost {sh : ShotReturn} {i : Inflight} {s : State} (h : s.shotDue sh.port sh.pos = some i) (hi : i.sig = true)
    (hl : (i.launched && sh.received) = false) :
    exec (.phaseChainShot sh) s =
      .next (({ s with grid := { s.grid with inflight := s.grid.inflight.erase i } }).measureVis sh.refs) := by
  rw [exec_phaseChainShot h, if_pos hi, State.sigAdded_lost hl, State.shotTaken_lost hl]

/-- A check that is due gives one of the three verdicts (R197). -/
theorem signatureVerdict_verdict {s : State} (hd : s.phs.sigDue = true) (hi : s.grid.inflight.any (fun (i : Inflight) => i.sig) = false) :
    Leads (.signatureVerdict () () () ()) s (fun t => t.phs.sigDue = false ∧
      (t.get PHS_SIG_STAT.VERDICT = 1 ∨ t.get PHS_SIG_STAT.VERDICT = 2 ∨ t.get PHS_SIG_STAT.VERDICT = 3)) := by
  obtain ⟨t, he, hdue, -, hown, hcross, hnone⟩ := signatureVerdict_completes hd hi
  refine ⟨t, he, hdue, ?_⟩
  cases ho : s.ownSig s.sigTaken .a && s.ownSig s.sigTaken .b with
  | true => exact .inl (hown ho)
  | false =>
    cases hc : s.crossSig s.sigTaken .a && s.crossSig s.sigTaken .b with
    | true => exact .inr (.inl (hcross ho hc).1)
    | false => exact .inr (.inr (hnone ho hc))

/-- An output that is held back leaves no batten (R214, R612). -/
theorem decimationOutput_heldBack {stream : Fin 64} {i : Inflight} {s : State} (h : (s.filt stream.val).out = some i) (hs : i.send = false) :
    Leads (.decimationOutput stream) s (fun t => (t.filt stream.val).out = none ∧ t.strm = s.strm ∧ t.trg = s.trg ∧ t.regs = s.regs) := by
  obtain ⟨brl, o, r, x, ht⟩ := State.decOutput_takes h
  rw [if_neg (by simp [hs])] at ht
  exact ⟨_, congrArg Host.Outcome.next ht, State.outTaken_out .., rfl, rfl, rfl⟩

/-! ## The PAIR link -/

section

variable {s : State} (h : s.pairOn = true)

include h

theorem exec_pairHb (health : BitVec 12) :
    exec (.pairHb health) s = .next (s.modPair (fun x => { x with partner := some (s.now, health) })).ackSwitch :=
  congrArg Host.Outcome.next (State.whenDo_pos h)

theorem exec_pairHbSend (hf : s.pair.finalDue = false) :
    exec .pairHbSend s = .next (s.sendPair (.hb (BitVec.ofNat 12 s.healthWord))) :=
  congrArg Host.Outcome.next ((State.whenDo_pos h).trans (if_neg (by simp [hf])))

theorem exec_pairLinkUp (hl : s.flag PAIR_STATUS.LINK_UP = false) :
    exec .pairLinkUp s = .next ((s.putFlag PAIR_STATUS.LINK_UP true).eventAll 0x0604 0) :=
  congrArg Host.Outcome.next ((State.whenDo_pos h).trans (if_neg (by simp [hl])))

/-- A configuration on another laser channel (R580). -/
theorem exec_pairCfgFrame_otherChannel {tsw nslot : Nat} {alignMod : Ts} {ch : BitVec 8} (node : BitVec 12) {ok : Bool}
    (hc : ch.toNat ≠ s.get LSD_LASER.CH) (hk : ok = (tsw == s.get PAT_SWEEP.TSW && nslot == s.get PAT_SWEEP.N_SLOT && alignMod == s.alignMod)) :
    exec (.pairCfgFrame tsw nslot alignMod ch node) s = .next ((s.puts [(PAIR_PARTNER.CH, ch.toNat), (PAIR_PARTNER.NODE, node.toNat),
      (PAIR_STATUS.CFG_MISMATCH, (!ok).toNat)]).modPair (fun x => { x with pcfg := some (tsw, nslot, alignMod) })) := by
  subst hk
  exact congrArg Host.Outcome.next ((State.whenDo_pos h).trans (if_neg (by simp [hc])))

/-- The first frame of a snapshot that more frames are to follow (R608). -/
theorem exec_snap_first {total : Nat} {body : List Byte} (hr : s.role ≠ 1) (hl : body.length < total) :
    exec (.snap 0 total body) s = .next (s.modPair (fun x => { x with snapIn := body, snapLen := total })) := by
  have hne : body.length ≠ total := hl.ne
  refine congrArg Host.Outcome.next ((State.whenDo_pos (by simp [h, hr])).trans ?_)
  exact if_neg (by simp [hne])

end

theorem exec_pairLinkDown {s : State} (hl : s.flag PAIR_STATUS.LINK_UP = true) :
    exec .pairLinkDown s = .next ((s.putFlag PAIR_STATUS.LINK_UP false).eventAll 0x0604 0) :=
  congrArg Host.Outcome.next (if_neg (by simp [hl]))

/-- FINAL_SEQ at a device that holds its outputs (R615). -/
theorem exec_finalSeq {s : State} {l : List (Nat × BOut)} (seqs : List (Fin 64 × BitVec 32)) (h : s.strm.held = some l) :
    exec (.finalSeq seqs) s = .next (l.foldl (fun (t : State) e => t.pushOut e.1 e.2) (seqs.foldl
      (fun (t : State) e => t.put (STR_W10.SEQ e.1.val) e.2.toNat) { s with strm := { s.strm with held := none } })) := by
  show Host.Outcome.next (finalSeqStep seqs s) = _
  unfold finalSeqStep
  rw [h]

/-- The state at a pair-cycle boundary, whose cycle it opens (R28). -/
def State.cycleOpened (s : State) : State :=
  let t := s.at (s.onClock (s.pairCycleAt s.pairCycle))
  { t with grid := { t.grid with cycle := some s.pairCycle } }

theorem State.cycleOpened_get (s : State) (f : Fld) : s.cycleOpened.get f = s.get f := State.at_get ..

theorem State.cycleOpened_grid (s : State) : s.cycleOpened.grid = { s.grid with cycle := some s.pairCycle } := by
  unfold State.cycleOpened
  dsimp only
  rw [State.at_grid]

/-- The number of the shot at the boundary of a pair cycle is told by the grid. -/
theorem State.cycleOpened_shotNo (s : State) (m : Nat) :
    s.cycleOpened.shotNo (s.cycleOpened.pairCycleAt m) = s.shotNo (s.pairCycleAt m) := by
  unfold State.shotNo State.pairCycleAt State.shotAt State.tSw
  rw [State.cycleOpened_get, State.cycleOpened_grid]

theorem State.get_countSat_same (s : State) {f : Fld} (h : f.lo + f.width ≤ 32) :
    (s.countSat f).get f = min (s.get f + 1) (2 ^ f.width - 1) := by
  have hw := Nat.two_pow_pos f.width
  unfold State.countSat
  rw [State.get_put_same _ _ _ h, Nat.mod_eq_of_lt (by omega)]

/-- In a pair cycle of a number the standby's snapshot ages, and it keeps its own levels; levels are to be joined with the snapshot of the last
cycle before a switch-back brings it in (R608, R613). -/
def State.levelsKept (s : State) (m : Nat) : State :=
  let join := s.pair.switch.any (fun w => w.incoming && decide (s.now < w.ts) && decide (w.ts ≤ s.now + us (s.get PAIR_TIMING.CYCLE)))
  (s.countSat PAIR_SNAP.AGE).modPair (fun x => { x with
    own := some (s.shotNo (s.pairCycleAt m), s.phs.chA.map (·.phi), s.phs.chB.map (·.phi)), joinDue := x.joinDue || join })

section

variable {s : State} (h : s.pairOn = true) (hr : s.grid.running = true) (hs : s.grid.started = true) (ho : s.role ≠ 1)
  (hb : s.pairCycleAt s.pairCycle ≤ s.grid.align + (s.grid.k + 1) * s.tSw)

include h hr hs ho hb

theorem exec_pairCycleBoundary_standby : exec .pairCycleBoundary s = .next (s.cycleOpened.levelsKept s.pairCycle) := by
  have hro : s.cycleOpened.role ≠ 1 := ho ∘ (s.cycleOpened_get PAIR_STATUS.ROLE).symm.trans
  show Host.Outcome.next (pairCycleBoundaryStep s) = _
  unfold pairCycleBoundaryStep
  dsimp only
  rw [State.whenDo_pos (by simp [h, hr, hs, hb])]
  exact congrArg Host.Outcome.next (if_neg hro)

theorem pairCycleBoundary_standby : Leads .pairCycleBoundary s (fun t => t.grid.cycle = some s.pairCycle ∧
    t.get PAIR_SNAP.AGE = min (s.get PAIR_SNAP.AGE + 1) (2 ^ PAIR_SNAP.AGE.width - 1) ∧
    t.pair.own.map (fun o => o.1) = some (s.shotNo (s.pairCycleAt s.pairCycle))) := by
  refine ⟨_, exec_pairCycleBoundary_standby h hr hs ho hb, rfl, ?_, congrArg some (s.cycleOpened_shotNo _)⟩
  rw [State.levelsKept, State.get_modPair, State.get_countSat_same _ (by decide), State.cycleOpened_get]

end

/-! ## The interval counter -/

section

variable {s : State} (h : s.flag TIC_CTRL.RUN = true)

include h

/-- The first edge of an interval between two inputs starts it (R541). -/
theorem exec_ticEdge_first {x : Fin 6} {rising : Bool} (ts : Nat) (hx : x.val = s.get TIC_CFG.START)
    (hp : rising ≠ s.flag TIC_CFG.POL_START) (hs : s.tb.tic.start = none) (hm : s.get TIC_CFG.MODE = 0) :
    exec (.ticEdge x rising ts) s = .next (s.ticCommit.modTic (fun c => { c with start := some ts })) := by
  have hr : rising = !s.flag TIC_CFG.POL_START := Bool.eq_not.2 hp
  refine congrArg Host.Outcome.next ((State.whenDo_pos h).trans ?_)
  dsimp only
  rw [if_pos hm, hs]
  exact if_pos (by simp [hx, hr, h])

theorem exec_ticTimeout (ht : s.get TIC_CFG.TIMEOUT ≠ 0) :
    exec .ticTimeout s = .next ((s.atCyc (s.tb.tic.since + s.get TIC_CFG.TIMEOUT * sCyc)).ticEnd true) :=
  congrArg Host.Outcome.next (State.whenDo_pos (by simp [h, ht]))

end

theorem State.ticStart_runs (s : State) (r : Nat) (seq : Option (BitVec 32)) : (s.ticStart r seq).flag TIC_CTRL.RUN = true := by
  unfold State.ticStart
  rw [State.puts_cons, State.puts_cons, State.puts_cons, State.puts_nil, State.flag_put_other _ _ _ _ (by decide),
    State.flag_put_other _ _ _ _ (by decide), State.flag_put_same _ _ _ (by decide)]
  rfl

/-- What has begun is told by the sessions and by what has left the block. -/
theorem State.began_congr {s t u : State} {q : ReqHdr} {op n : Nat} (hq : u.qcp = t.qcp) (ho : u.out = t.out) (h : s.began t q op n) :
    s.began u q op n := by
  unfold State.began State.answered at *
  rwa [State.sess_congr hq, ho]

theorem exec_ticStart {s : State} {q : ReqHdr} {x : Fin 6} {n : Nat} (h : s.admitsLong q) (hr : s.flag TIC_CTRL.RUN = false)
    (h2 : 2 ≤ n) (hn : n ≤ 16777216) : exec (.ticStart q x.val n) s = .next
      (((((s.taken q 0x0903).accepted q 0x0903 x.val).put TIC_CFG.START x.val).put TIC_N.N n).ticStart q.session.val (some q.seq)) := by
  have hx := x.isLt
  have hfull := State.longsFull_taken h 0x0903
  show Host.Outcome.next (s.request q 0x0903 (ticStartBody q x.val n) _) = _
  rw [State.request_admits h.1, ticStartBody, if_neg (by simp [hr, hfull]), if_neg (by simp; omega), State.startLong_accepted hfull]

theorem ticStart_completes {s : State} {q : ReqHdr} {x : Fin 6} {n : Nat} (h : s.admitsLong q) (hr : s.flag TIC_CTRL.RUN = false)
    (h2 : 2 ≤ n) (hn : n ≤ 16777216) :
    Leads (.ticStart q x.val n) s (fun t => s.began t q 0x0903 x.val ∧ t.flag TIC_CTRL.RUN = true) := by
  refine ⟨_, exec_ticStart h hr h2 hn, State.began_congr ?_ ?_ (State.taken_accepted_began h 0x0903 x.val), State.ticStart_runs ..⟩
  · exact (State.ticStart_within.comp .qcp (by decide)).trans (by rw [State.put_qcp, State.put_qcp])
  · exact (State.ticStart_within.comp .out (by decide)).trans (by rw [State.put_out, State.put_out])

/-- The reply of an admitted request that changes nothing. -/
theorem State.taken_reply_only {s : State} {q : ReqHdr} (h : s.admits q) (op st : Nat) (l : List Item) :
    s.qcpOnly ((s.taken q op).reply q op st l) ∧ s.replied ((s.taken q op).reply q op st l) q op st l := by
  have hr := State.reply_replied (s.taken q op) q op st l h.1.2.2.2
  exact ⟨State.qcpOnly_trans (s.taken_qcpOnly q op) (State.reply_qcpOnly ..),
    State.replied_congr (u := s.taken q op) rfl (replyPacket_taken ..) hr⟩

theorem exec_ticRead_notReady {s : State} {q : ReqHdr} (h : s.admits q) (hr : s.flag TICRES_W0.READY = false) :
    exec (.ticRead q) s = .next ((s.taken q 0x0904).reply q 0x0904 stNotReady) := by
  show Host.Outcome.next (s.request q 0x0904 (ticReadBody q)) = _
  rw [State.request_admits h]
  exact congrArg _ (if_neg (by simp [hr]))

theorem exec_ticRead_ready {s : State} {q : ReqHdr} (h : s.admits q) (hr : s.flag TICRES_W0.READY = true) :
    exec (.ticRead q) s = .next ((s.taken q 0x0904).reply q 0x0904 stOk
      [itSeq (s.get TICRES_W0.SEQ), itWords (s.rdWords TICRES_W0.READY.addr 11)]) := by
  show Host.Outcome.next (s.request q 0x0904 (ticReadBody q)) = _
  rw [State.request_admits h]
  exact congrArg _ (if_pos hr)

/-! ## Register actions of the session they belong to -/

section

variable {path : Path} {r : Nat} {s : State} (he : s.power.episode = none) (hp : s.pathSession path = some r)

include he hp

theorem exec_arm {c : Fin 16} (h : s.armError c.val (some r) = none) : exec (.arm path c) s = .next (s.capArm c.val) := by
  show Host.Outcome.next (s.acted path _ (s.capArmAct path c.val)) = _
  rw [State.capArmAct_ok hp, State.acted_ok he, State.capArmBit_ok h]

/-- An action on a capture unit by its owner takes place (R315). -/
theorem State.acted_capOwn {c off : Nat} (act : State → State) (h : s.capOwner c = some r) :
    s.acted path off (s.capOwnAct path c act) = act s := by
  rw [State.capOwnAct, if_pos (by simp [hp, h]), State.acted_ok he]

/-- An action on a reed slot by its owner that nothing refuses takes place (R345, R347). -/
theorem State.acted_slot {o off : Nat} {act : Nat → Option Nat → Option State} {t : State} (h : s.slotOwner o = some r)
    (ha : act o (some r) = some t) : s.acted path off (s.slotAct path o act) = t := by
  rw [State.slotAct, if_neg (by simp [hp, h]), hp, ha]
  exact State.acted_ok he

theorem exec_captureAbortBit {c : Fin 16} (h : s.capOwner c.val = some r) :
    exec (.captureAbortBit path c) s = .next (s.capAbort c.val) := congrArg Host.Outcome.next (State.acted_capOwn he hp _ h)

theorem exec_release {c : Fin 16} (h : s.capOwner c.val = some r) : exec (.release path c) s = .next (s.capRelease c.val) :=
  congrArg Host.Outcome.next (State.acted_capOwn he hp _ h)

theorem exec_reedStopBit {o : Fin 16} (h : s.slotOwner o.val = some r) : exec (.reedStopBit path o) s = .next (s.reedStop o.val) :=
  congrArg Host.Outcome.next (State.acted_slot he hp h (if_neg (by simp [h])))

theorem exec_reedStartBit {o : Fin 16} (h : s.slotOwner o.val = some r) (h2 : s.slotState o.val ≠ 2) (hc : s.startConflict o.val = false)
    (hd : s.dev ≠ 1) : exec (.reedStartBit path o) s = .next (s.reedStart o.val) := by
  refine congrArg Host.Outcome.next (State.acted_slot he hp h ?_)
  rw [State.startBit, if_neg (by simp [h]), if_neg h2, if_neg (by simp [hc, hd])]

theorem exec_ticStartBit (h : s.flag TIC_CTRL.RUN = false) : exec (.ticStartBit path) s = .next (s.ticStart r none) := by
  show Host.Outcome.next (s.acted path _ (s.ticStartAct path)) = _
  rw [State.ticStartAct, hp]
  dsimp only
  rw [if_neg (by simp [h]), State.acted_ok he]

theorem exec_ticAbortBit (h : s.tb.tic.starter = some r) : exec (.ticAbortBit path) s = .next s.ticAbort := by
  show Host.Outcome.next (s.acted path _ (s.ticAbortAct path)) = _
  rw [State.ticAbortAct, if_neg (by simp [hp, h]), State.acted_ok he]

theorem exec_pairEchoWrite (hseq : BitVec 32) (h : s.pair.host.map (·.val) = some r) :
    exec (.pairEchoWrite path hseq) s = .next (s.pairEcho hseq) := by
  have hs : s.pair.host.isSome = true := by
    cases hh : s.pair.host with
    | none => simp [hh] at h
    | some x => rfl
  show Host.Outcome.next (s.acted path _ (s.echoAct path hseq)) = _
  rw [State.echoAct, if_pos (by simp [hp, h, hs]), State.acted_ok he]

end

/-- Settles O53: each command by the lemma of its own above. REF_LOW at the turn of VIS alone rests on log entry 145, and the standby's
acknowledgement in PAIR_HB on log entry 118. -/
theorem chainLinkAndActionCommandsRun : Obligations.ChainLinkAndActionCommandsRun := by
  unfold Obligations.ChainLinkAndActionCommandsRun
  refine ⟨?agc, ?vis, ?lost, ?verdict, ?output, ?link, ?config, ?snap, ?final, ?cycle, ?edges, ?requests, ?actions⟩
  case agc =>
    rintro p brl lanes refI refQ l t s rfl hl
    exact ⟨exec_agcIntervalEnd_counts, fun h => exec_agcIntervalEnd_decides h hl⟩
  case vis =>
    rintro refs low t s rfl rfl
    exact ⟨exec_refVisLow_stays, exec_refVisLow_turns⟩
  case lost => exact fun sh i s => exec_phaseChainShot_lost
  case verdict => exact fun s => signatureVerdict_verdict
  case output => exact fun stream i s => decimationOutput_heldBack
  case link =>
    exact fun health s h => ⟨exec_pairHb h health, exec_pairHbSend h, exec_pairLinkUp h, exec_pairLinkDown, _, rfl, rfl⟩
  case config => exact fun tsw nslot alignMod ch node ok s h => exec_pairCfgFrame_otherChannel h node
  case snap => exact fun total body s h => exec_snap_first h
  case final => exact fun seqs l s => exec_finalSeq seqs
  case cycle =>
    rintro m s h hr hs rfl ho hb
    exact pairCycleBoundary_standby h hr hs ho hb
  case edges => exact fun x rising ts s h => ⟨exec_ticEdge_first h ts, exec_ticTimeout h⟩
  case requests =>
    refine fun q s => ⟨fun x n => ticStart_completes, fun h hr => ?_, fun h hr => ?_⟩
    · exact ⟨_, exec_ticRead_notReady h hr, State.taken_reply_only h ..⟩
    · exact ⟨_, exec_ticRead_ready h hr, State.taken_reply_only h ..⟩
  case actions =>
    refine fun path r s he hp => ⟨fun c => exec_arm he hp, fun c h => ⟨exec_captureAbortBit he hp h, exec_release he hp h⟩, fun o h => ?_,
      exec_ticStartBit he hp, exec_ticAbortBit he hp, exec_pairEchoWrite he hp⟩
    exact ⟨exec_reedStopBit he hp h, exec_reedStartBit he hp h⟩

end Sys2Proof.Machine
end

section
/-! SUPPORT. The Brillouin ports: what a change of one port leaves of the other, a shot's contribution, folds, and the close of a port's
period (R240 to R255). -/

namespace Sys2Proof.Machine

/-! ## One port and the other -/

theorem State.brlPort_congr {s t : State} (h : t.brl = s.brl) (p : Port) : t.brlPort p = s.brlPort p := by
  unfold State.brlPort
  rw [h]

theorem State.brlPort_modBrl_other (s : State) {p q : Port} (f : BrlPort → BrlPort) (h : q ≠ p) : (s.modBrl p f).brlPort q = s.brlPort q := by
  cases p with
  | a =>
    cases q with
    | a => exact absurd rfl h
    | b => rfl
  | b =>
    cases q with
    | a => rfl
    | b => exact absurd rfl h

@[simp] theorem State.modBrl_regs (s : State) (p : Port) (f : BrlPort → BrlPort) : (s.modBrl p f).regs = s.regs := by cases p <;> rfl

@[simp] theorem State.modBrl_inflight (s : State) (p : Port) (f : BrlPort → BrlPort) : (s.modBrl p f).brl.inflight = s.brl.inflight := by
  cases p <;> rfl

theorem State.rd_modBrl (s : State) (p : Port) (f : BrlPort → BrlPort) (a : Nat) : (s.modBrl p f).rd a = s.rd a := by cases p <;> rfl

theorem State.get_modBrl (s : State) (p : Port) (f : BrlPort → BrlPort) (g : Fld) : (s.modBrl p f).get g = s.get g :=
  State.get_congr (s.modBrl_regs p f) g

theorem State.anchorSums_brlPort (s : State) (p q : Port) (keep : Bool) : (s.anchorSums p keep).brlPort q = s.brlPort q := rfl

theorem State.foldWrites_brl (s : State) : s.foldWrites.brl = s.brl := State.foldWrites_within.comp .brl (by decide)

/-! ## Contributions (R245, R251) -/

theorem BrlPeriod.holds_open {x : BrlPeriod} {t : Ts} (hs : x.start ≤ t) (hc : x.close = none) : x.holds t = true := by
  simp [BrlPeriod.holds, hs, hc]

theorem BrlPeriod.holds_closed {x : BrlPeriod} {t : Ts} {b : Ts × Nat × BitVec 32} (hs : x.start ≤ t) (hc : x.close = some b)
    (hb : t < b.1) : x.holds t = true := by
  simp [BrlPeriod.holds, hs, hc, hb]

/-- A port with a shot's return entered in the period that holds its launch. -/
def State.portTakes (s : State) (p : Port) (i : Inflight) (lanes : List (List Int)) (x : BrlPort) : BrlPort :=
  if x.closing.any (fun c => c.holds i.launch) then { x with closing := x.closing.map (s.enterShot p i lanes) }
  else { x with cur := x.cur.map (fun c => if c.holds i.launch then s.enterShot p i lanes c else c) }

section

variable {s : State} {p : Port} {i : Inflight} {lanes : List (List Int)} {x : BrlPort} {c : BrlPeriod}

theorem State.portTakes_closing (hx : x.closing = some c) (hc : c.holds i.launch = true) :
    s.portTakes p i lanes x = { x with closing := some (s.enterShot p i lanes c) } := by
  simp [State.portTakes, hx, hc]

theorem State.portTakes_cur (hx : x.closing = none) (hu : x.cur = some c) (hc : c.holds i.launch = true) :
    s.portTakes p i lanes x = { x with cur := some (s.enterShot p i lanes c) } := by
  simp [State.portTakes, hx, hu, hc]

theorem State.portTakes_none (hx : x.closing = none) (hu : x.cur = none) : s.portTakes p i lanes x = x := by
  cases x
  simp_all [State.portTakes]

end

/-- The state in which a shot has left the list. -/
def State.shotUnlisted (s : State) (i : Inflight) : State := { s with brl := { s.brl with inflight := s.brl.inflight.erase i } }

theorem exec_brlShotContribution {p : Port} {pos : Fin 16} {lanesX lanesY : List (List Int)} {i : Inflight} {s : State}
    (h : s.brl.inflight.find? (fun i => i.port == p && i.pos == pos) = some i) :
    exec (.brlShotContribution p pos lanesX lanesY) s = .next ((s.shotUnlisted i).modBrl p (s.portTakes p i (lanesX ++ lanesY))) := by
  show Host.Outcome.next (brlShotContributionStep p pos (lanesX ++ lanesY) s) = _
  unfold brlShotContributionStep
  rw [h]
  rfl

/-! ## Folds (R248) -/

/-- The periods in progress of both ports folded. -/
def State.bothFolded (s : State) : State :=
  (s.modBrl .a (fun x => { x with cur := x.cur.map BrlPeriod.folded })).modBrl .b (fun x => { x with cur := x.cur.map BrlPeriod.folded })

theorem exec_brlFold {b : Ts × Ts} {s : State} (hb : s.cycleBoundary = some b) (hf : s.brl.lastFold + 1000000000 * ns ≤ b.1) :
    exec .brlFold s = .next ({ s.bothFolded with brl := { s.bothFolded.brl with lastFold := b.1 } }).foldWrites := by
  show Host.Outcome.next (brlFoldStep s) = _
  unfold brlFoldStep
  rw [hb]
  exact congrArg Host.Outcome.next (State.whenDo_pos (decide_eq_true hf))

/-! ## The close of a port's period (R250 to R252, R255) -/

theorem State.within.epochAt {s t : State} {K : List Comp} {B : List Nat} (h : s.within t K B) (hk : .grid ∉ K) (hb : 0 ∉ B) (x : Int) :
    t.epochAt x = s.epochAt x := by
  have hg : t.grid = s.grid := h.comp .grid hk
  have hr : t.rd SYS_EPOCH.EPOCH.addr = s.rd SYS_EPOCH.EPOCH.addr := h.rd hb
  unfold State.epochAt State.epoch
  rw [hg, hr]

theorem State.within.bankAt {s t : State} {K : List Comp} {B : List Nat} (h : s.within t K B) (hk : .grid ∉ K) (hb : 4 ∉ B) (x : Int) :
    t.bankAt x = s.bankAt x := by
  have hg : t.grid = s.grid := h.comp .grid hk
  have hr : t.get PAT_STATUS.ACTIVE = s.get PAT_STATUS.ACTIVE := h.get hb
  unfold State.bankAt
  rw [hg, hr]

/-- A period as it closes at a boundary of a grid time. -/
def State.closedAt (s : State) (x : BrlPeriod) (b g : Ts) : BrlPeriod :=
  { x.folded with close := some (b, secOf g, s.epochAt ((g : Int) - 1)), bank := s.bankAt ((g : Int) - 1) }

/-- The state in which a port's period has closed at a boundary and the next has opened. -/
def State.portClosed (s : State) (p : Port) (x : BrlPeriod) (b g : Ts) : State :=
  ((s.anchorSums p true).modBrl p (fun y => { y with closing := some (s.closedAt x b g), cur := some (s.openPeriod p b false) })).put
    (BRL_RES_STAT.READY p.idx) 0

section

variable {s : State} {p : Port} {b g : Ts} {x : BrlPeriod}

/-- A port that is due closes, unless a restart has left its period shorter than half the averaging time (R250, R252). -/
theorem State.closePort_closes (hx : (s.brlPort p).cur = some x) (hd : s.closeDue p g = true)
    (hr : x.restarted = false ∨ s.avgSpan ≤ (b - x.start) * 2) : s.closePort p b g = s.portClosed p x b g := by
  unfold State.closePort
  rw [hx]
  dsimp only
  rw [if_neg (by simp [hd])]
  refine if_neg ?_
  obtain h | h := hr
  · simp [h]
  · simp [Nat.not_lt.2 h]

theorem State.portClosed_brlPort (s : State) (p : Port) (x : BrlPeriod) (b g : Ts) : (s.portClosed p x b g).brlPort p =
    { s.brlPort p with closing := some (s.closedAt x b g), cur := some (s.openPeriod p b false) } :=
  State.brlPort_modBrl (s.anchorSums p true) p _

theorem State.portClosed_ready (s : State) (p : Port) (x : BrlPeriod) (b g : Ts) :
    (s.portClosed p x b g).flag (BRL_RES_STAT.READY p.idx) = false := State.flag_put_same _ _ _ (by simp)

/-- What the close of one port can come to: nothing, a period that runs on, or the closed one. -/
theorem State.closePort_cases (s : State) (p : Port) (b g : Ts) : s.closePort p b g = s ∨
    (∃ f, s.closePort p b g = s.modBrl p f) ∨ ∃ x, s.closePort p b g = s.portClosed p x b g := by
  unfold State.closePort
  split
  · exact .inl rfl
  · split
    · exact .inl rfl
    · split
      · exact .inr (.inl ⟨_, rfl⟩)
      · exact .inr (.inr ⟨_, rfl⟩)

theorem State.closePort_brlPort_other (s : State) {p q : Port} (b g : Ts) (h : q ≠ p) : (s.closePort p b g).brlPort q = s.brlPort q := by
  obtain hc | ⟨f, hc⟩ | ⟨x, hc⟩ := s.closePort_cases p b g
  · rw [hc]
  · rw [hc, State.brlPort_modBrl_other _ _ h]
  · rw [hc]
    exact State.brlPort_modBrl_other (s.anchorSums p true) _ h

theorem State.closePort_get (s : State) (p : Port) (b g : Ts) {f : Fld} (h : (BRL_RES_STAT.READY p.idx).apart f) :
    (s.closePort p b g).get f = s.get f := by
  obtain hc | ⟨k, hc⟩ | ⟨x, hc⟩ := s.closePort_cases p b g
  · rw [hc]
  · rw [hc, State.get_modBrl]
  · rw [hc, State.portClosed, State.get_put_other _ _ _ _ h, State.get_modBrl]
    rfl

theorem ready_apart_ctrl (p : Port) {f : Fld} (h : f.addr < 0x080120) : (BRL_RES_STAT.READY p.idx).apart f :=
  .inl (by dsimp only; omega)

theorem ready_apart_other {p q : Port} (h : q ≠ p) : (BRL_RES_STAT.READY p.idx).apart (BRL_RES_STAT.READY q.idx) := by
  cases p with
  | a =>
    cases q with
    | a => exact absurd rfl h
    | b => exact .inl (by decide)
  | b =>
    cases q with
    | a => exact .inl (by decide)
    | b => exact absurd rfl h

theorem State.closePort_avgSpan (s : State) (p : Port) (b g : Ts) : (s.closePort p b g).avgSpan = s.avgSpan := by
  unfold State.avgSpan
  rw [State.closePort_get _ _ _ _ (ready_apart_ctrl p (by decide))]

/-- The close of one port leaves it open whether the other's is due. -/
theorem State.closePort_closeDue (s : State) {p q : Port} (b g : Ts) (h : q ≠ p) : (s.closePort p b g).closeDue q g = s.closeDue q g := by
  have he : (s.closePort p b g).brlEn q = s.brlEn q :=
    State.flag_congr (State.closePort_get _ _ _ _ (ready_apart_ctrl p (by cases q <;> decide)))
  unfold State.closeDue
  rw [he, State.closePort_brlPort_other _ _ _ h, State.closePort_avgSpan]

end

/-- The closes of both ports at a boundary. -/
def State.closePorts (s : State) (b g : Ts) : State := (s.closePort .a b g).closePort .b b g

section

variable {s : State} {p : Port} {b g : Ts} {x : BrlPeriod}

theorem State.closedAt_closePort (s : State) (p : Port) (x : BrlPeriod) (b g : Ts) : (s.closePort p b g).closedAt x b g = s.closedAt x b g := by
  have h : s.within (s.closePort p b g) [.brl] [8] := State.closePort_within
  unfold State.closedAt
  rw [h.epochAt (by decide) (by decide), h.bankAt (by decide) (by decide)]

/-- A port whose period closes holds it, and the next one that opens at the boundary; its READY clears (R254, R255). -/
theorem State.closePorts_closes (hx : (s.brlPort p).cur = some x) (hd : s.closeDue p g = true)
    (hr : x.restarted = false ∨ s.avgSpan ≤ (b - x.start) * 2) : ∃ o : BrlPeriod, o.start = b ∧
    (s.closePorts b g).brlPort p = { s.brlPort p with closing := some (s.closedAt x b g), cur := some o } ∧
    (s.closePorts b g).flag (BRL_RES_STAT.READY p.idx) = false := by
  unfold State.closePorts
  cases p with
  | a =>
    have hc := State.closePort_closes hx hd hr
    refine ⟨s.openPeriod .a b false, rfl, ?_, ?_⟩
    · rw [State.closePort_brlPort_other _ _ _ (by decide), hc, State.portClosed_brlPort]
    · rw [State.flag_congr (State.closePort_get _ _ _ _ (ready_apart_other (by decide))), hc]
      exact s.portClosed_ready .a x b g
  | b =>
    have hp : (s.closePort .a b g).brlPort .b = s.brlPort .b := s.closePort_brlPort_other b g (by decide)
    have hc : (s.closePort .a b g).closePort .b b g = (s.closePort .a b g).portClosed .b x b g :=
      State.closePort_closes (by rw [hp, hx]) (by rw [State.closePort_closeDue _ _ _ (by decide), hd]) (by rwa [State.closePort_avgSpan])
    refine ⟨(s.closePort .a b g).openPeriod .b b false, rfl, ?_, ?_⟩
    · rw [hc, State.portClosed_brlPort, State.closedAt_closePort, hp]
    · rw [hc]
      exact (s.closePort .a b g).portClosed_ready .b x b g

theorem State.closePorts_get (s : State) (b g : Ts) {f : Fld} (h : ∀ p : Port, (BRL_RES_STAT.READY p.idx).apart f) :
    (s.closePorts b g).get f = s.get f := by
  unfold State.closePorts
  rw [State.closePort_get _ _ _ _ (h .b), State.closePort_get _ _ _ _ (h .a)]

/-- A period closes at a boundary where one of the two opens there. -/
def State.someCloses (s : State) (b g : Ts) : Bool :=
  (s.closeDue .a g && ((s.closePorts b g).brl.portA.cur.map (·.start)) == some b) ||
    (s.closeDue .b g && ((s.closePorts b g).brl.portB.cur.map (·.start)) == some b)

theorem State.someCloses_of_port (hd : s.closeDue p g = true) (hc : ((s.closePorts b g).brlPort p).cur.map (·.start) = some b) :
    s.someCloses b g = true := by
  have hb : (s.closeDue p g && (((s.closePorts b g).brlPort p).cur.map (·.start)) == some b) = true := by
    rw [hd, hc, Bool.true_and]
    exact beq_self_eq_true _
  unfold State.someCloses
  cases p with
  | a => exact Bool.or_eq_true_iff.2 (.inl hb)
  | b => exact Bool.or_eq_true_iff.2 (.inr hb)

/-- The state in which a close has been counted, its sums written to memory (R248, R250). -/
def State.closeCounted (s : State) (b : Ts) : State :=
  ({ s with brl := { s.brl with lastFold := b } }).foldWrites.count BRL_STATUS.PERIODS

theorem exec_periodClose (hb : s.cycleBoundary = some (b, g)) : exec .periodClose s =
    .next (if s.someCloses b g then (s.closePorts b g).closeCounted b else s.closePorts b g) := by
  show Host.Outcome.next (periodCloseStep s) = _
  unfold periodCloseStep
  rw [hb]
  rfl

theorem State.closeCounted_brl (s : State) (b : Ts) : (s.closeCounted b).brl = { s.brl with lastFold := b } := State.foldWrites_brl _

theorem State.closeCounted_ready (s : State) (b : Ts) (p : Port) :
    (s.closeCounted b).flag (BRL_RES_STAT.READY p.idx) = s.flag (BRL_RES_STAT.READY p.idx) := by
  refine (State.flag_put_other _ BRL_STATUS.PERIODS _ _ (Fld.apart_comm (ready_apart_ctrl p (by decide)))).trans ?_
  exact State.foldWrites_within.flag List.not_mem_nil

theorem State.closeCounted_periods (s : State) (b : Ts) :
    (s.closeCounted b).get BRL_STATUS.PERIODS = (s.get BRL_STATUS.PERIODS + 1) % 2 ^ BRL_STATUS.PERIODS.width := by
  refine (State.get_put_same _ BRL_STATUS.PERIODS _ (by decide)).trans ?_
  rw [State.foldWrites_within.get List.not_mem_nil]
  rfl

/-- PERIOD_CLOSE of a port whose averaging time has passed (R250, R254, R255). -/
theorem periodClose_completes (hb : s.cycleBoundary = some (b, g)) (hx : (s.brlPort p).cur = some x) (hd : s.closeDue p g = true)
    (hr : x.restarted = false ∨ s.avgSpan ≤ (b - x.start) * 2) :
    Leads .periodClose s (fun t => (t.brlPort p).closing = some (s.closedAt x b g) ∧ t.flag (BRL_RES_STAT.READY p.idx) = false ∧
      t.brl.lastFold = b ∧ t.get BRL_STATUS.PERIODS = (s.get BRL_STATUS.PERIODS + 1) % 2 ^ BRL_STATUS.PERIODS.width) := by
  obtain ⟨o, ho, hport, hready⟩ := State.closePorts_closes hx hd hr
  have hc : s.someCloses b g = true := State.someCloses_of_port hd (by rw [hport, ← ho]; rfl)
  refine ⟨_, (exec_periodClose hb).trans (congrArg _ (if_pos hc)), ?_, ?_, ?_, ?_⟩
  · have hp : ((s.closePorts b g).closeCounted b).brlPort p = (s.closePorts b g).brlPort p := by
      unfold State.brlPort
      rw [State.closeCounted_brl]
    rw [hp, hport]
  · rw [State.closeCounted_ready, hready]
  · rw [State.closeCounted_brl]
  · rw [State.closeCounted_periods, State.closePorts_get _ _ _ fun p => ready_apart_ctrl p (by decide)]

end
end Sys2Proof.Machine
end

section
/-! SUPPORT. The result sets of the Brillouin ports: what the coil correction, the baselines and the anchors that follow one port's
result leave of the sets and of the other port (R253 to R274). -/

namespace Sys2Proof.Machine

/-! ## Steps of one port that leave the sets -/

/-- A step of one port leaves the other port, and the status words of both ports' sets. -/
structure State.keepsSets (s t : State) (p : Port) : Prop where
  other : ∀ q, q ≠ p → t.brlPort q = s.brlPort q
  stat : ∀ q : Port, t.rd (BRL_RES_STAT.READY q.idx).addr = s.rd (BRL_RES_STAT.READY q.idx).addr

/-- A word outside the status words of the ports' sets. -/
abbrev besideStat (a : Nat) : Prop := ∀ q : Port, (BRL_RES_STAT.READY q.idx).addr ≠ a

namespace State.keepsSets

variable {s t u : State} {p : Port}

theorem refl (s : State) (p : Port) : s.keepsSets s p := ⟨fun _ _ => rfl, fun _ => rfl⟩

theorem trans (h : s.keepsSets t p) (g : t.keepsSets u p) : s.keepsSets u p :=
  ⟨fun q hq => (g.other q hq).trans (h.other q hq), fun q => (g.stat q).trans (h.stat q)⟩

theorem ite {c : Prop} [Decidable c] (h : s.keepsSets t p) (g : s.keepsSets u p) : s.keepsSets (if c then t else u) p := by
  split
  · exact h
  · exact g

theorem modBrl (h : s.keepsSets t p) (f : BrlPort → BrlPort) : s.keepsSets (t.modBrl p f) p :=
  h.trans ⟨fun _ hq => t.brlPort_modBrl_other f hq, fun _ => t.rd_modBrl p f _⟩

theorem wr (h : s.keepsSets t p) {a : Nat} (w : Word) (ha : besideStat a) : s.keepsSets (t.wr a w) p :=
  h.trans ⟨fun _ _ => rfl, fun q => t.rd_wr_other w (ha q)⟩

theorem put (h : s.keepsSets t p) {f : Fld} (n : Nat) (hf : besideStat f.addr) : s.keepsSets (t.put f n) p := h.wr _ hf

/-- A step that leaves the ports and the Brillouin block. -/
theorem of_within {K : List Comp} {B : List Nat} (h : s.within t K B) (hk : .brl ∉ K) (hb : 8 ∉ B) : s.keepsSets t p :=
  ⟨fun q _ => State.brlPort_congr (h.comp .brl hk) q, fun q => h.rd (by cases q <;> exact hb)⟩

theorem anchors (h : s.keepsSets t p) (l : List (List AnchCh)) : s.keepsSets { t with brl := { t.brl with anch := l } } p :=
  h.trans ⟨fun _ _ => rfl, fun _ => rfl⟩

theorem foldl {α : Type} {f : State → α → State} {s : State} {p : Port} (hf : ∀ (t : State) (x : α), t.keepsSets (f t x) p) (l : List α) :
    s.keepsSets (l.foldl f s) p := by
  induction l generalizing s with
  | nil => exact .refl s p
  | cons x l ih => exact (hf s x).trans ih

end State.keepsSets

/-! ## The coil correction and the baselines (R261, R263) -/

section

variable (s : State) (p : Port) (c : BrlPeriod) (l temps : List BrlRec)

theorem besideStat_delta : besideStat (BRL_DELTA.STALE p.idx).addr := by
  intro q
  dsimp only
  omega

theorem besideStat_base : besideStat (BRL_BASE.BUSY p.idx).addr := by
  intro q
  dsimp only
  omega

theorem State.coilStale_keepsSets (none_ : Bool) : s.keepsSets (s.coilStale p none_) p := by
  have h (f : BrlPort → BrlPort) (n : Nat) (c : Prop) [Decidable c] :
      s.keepsSets (if c then (s.modBrl p f).put (BRL_DELTA.STALE p.idx) n else s.modBrl p f) p :=
    .ite (((State.keepsSets.refl s p).modBrl f).put n (besideStat_delta p)) ((State.keepsSets.refl s p).modBrl f)
  exact .ite (h ..) (h ..)

theorem State.updDelta_keepsSets : s.keepsSets (s.updDelta p c l) p := by
  have h : ∀ b, s.keepsSets (s.coilStale p b) p := s.coilStale_keepsSets p
  exact .ite (.refl s p) (.ite (h _) ((((h _).modBrl _).put _ (besideStat_delta p)).put _ (besideStat_delta p)))

theorem State.takeBaseline_keepsSets : s.keepsSets (s.takeBaseline p c l temps) p := by
  unfold State.takeBaseline
  split
  · exact .refl s p
  · refine .ite (.refl s p) (State.keepsSets.trans ?_ (.of_within State.completeAll_within (by decide) (by decide)))
    exact (((State.keepsSets.refl s p).modBrl _).put _ (besideStat_base p)).put _ (besideStat_base p)

/-! ## The anchors (R271 to R273) -/

theorem besideStat_anchst (n : Nat) : besideStat (BRL_ANCHST.SEEDED n).addr := by
  intro q
  dsimp only
  omega

/-- An update of the anchors is a step of neither port. -/
theorem State.anchorUpdate_keepsSets (r : Port) : s.keepsSets (s.anchorUpdate p c l) r := by
  refine State.keepsSets.foldl (fun t a => ?_) _
  have h (x : List AnchCh) (b : Bool) :
      t.keepsSets (({ t with brl := { t.brl with anch := setAt t.brl.anch a x } }).putFlag (BRL_ANCHST.HOLD a) b) r :=
    ((State.keepsSets.refl t r).anchors _).put _ (besideStat_anchst a)
  refine .ite (.refl t r) (.ite ?_ (h ..))
  exact ((h ..).put _ (besideStat_anchst a)).put _ (besideStat_anchst a)

theorem State.anchorUpdate_brlPort (q : Port) : (s.anchorUpdate p c l).brlPort q = s.brlPort q :=
  (s.anchorUpdate_keepsSets p c l q.other).other q (by cases q <;> decide)

/-! ## The published set (R254 to R256) -/

/-- The fields of a port's new set beside READY and SEQ. -/
def setFields (p : Port) (c : BrlPeriod) (l : List BrlRec) : List (Fld × Nat) :=
  let epoch : BitVec 32 := (c.close.map (fun e => e.2.2)).getD 0
  let mid := roundEvenI ((c.start + (c.close.map (·.1)).getD 0 : Nat) : Int) (2 * ns)
  [(BRL_RES_STAT.WORST p.idx, qualCode (worstQual (l.map (·.qual)))), (BRL_RES_NS.NS p.idx, (mid % 1000000000).toNat),
   (BRL_RES_SEC_LO.SEC_LO p.idx, (mid / 1000000000).toNat), (BRL_RES_SEC_HI.SEC_HI p.idx, (mid / 1000000000).toNat / 2 ^ 32),
   (BRL_RES_EPOCH.EPOCH p.idx, epoch.toNat)]

/-- A port with a new set; what its coil channels have measured before the period's close is used up (R261). -/
def BrlPort.withSet (x : BrlPort) (c : BrlPeriod) (l : List BrlRec) : BrlPort :=
  { x with set := l, closing := none, coil := x.coil.filter (fun (e : Nat × Ts × Int) => decide ((c.close.map (·.1)).getD 0 ≤ e.2.1)) }

/-- A port's new set with its registers. -/
def State.setShown (s : State) (p : Port) (c : BrlPeriod) (l : List BrlRec) : State :=
  (((s.modBrl p (fun x => x.withSet c l)).put (BRL_RES_STAT.READY p.idx) 1).put (BRL_RES_STAT.SEQ p.idx)
    (s.get (BRL_RES_STAT.SEQ p.idx) + 1)).puts (setFields p c l)

/-- A set is published: shown, its record at RDIDX read out, and delivered (R254, R256). -/
theorem State.publishSet_eq : s.publishSet p c l =
    ((s.setShown p c l).updRd p).deliverSet p c (roundEvenI ((c.start + (c.close.map (·.1)).getD 0 : Nat) : Int) (2 * ns)) l := rfl

theorem State.setShown_brlPort : (s.setShown p c l).brlPort p = (s.brlPort p).withSet c l :=
  (State.brlPort_congr (State.puts_brl _ _) p).trans (s.brlPort_modBrl p _)

theorem State.rd_puts_other (s : State) (l : List (Fld × Nat)) {a : Nat} (h : ∀ x ∈ l, a ≠ x.1.addr) : (s.puts l).rd a = s.rd a := by
  induction l generalizing s with
  | nil => rfl
  | cons x l ih =>
    rw [State.puts_cons, ih _ fun y hy => h y (List.mem_cons_of_mem _ hy), State.rd_put_other _ _ (h x (List.mem_cons_self ..))]

/-- The set of one port leaves the other port and its status word. -/
theorem State.setShown_other {q : Port} (h : q ≠ p) : (s.setShown p c l).brlPort q = s.brlPort q ∧
    (s.setShown p c l).rd (BRL_RES_STAT.READY q.idx).addr = s.rd (BRL_RES_STAT.READY q.idx).addr := by
  have hi : q.idx % 2 ≠ p.idx % 2 := by revert h; cases p <;> cases q <;> decide
  have ha : (BRL_RES_STAT.READY q.idx).addr ≠ (BRL_RES_STAT.READY p.idx).addr := by dsimp only; omega
  refine ⟨(State.brlPort_congr (State.puts_brl _ _) q).trans (s.brlPort_modBrl_other _ h), ?_⟩
  unfold State.setShown
  rw [State.rd_puts_other, State.rd_put_other _ (f := BRL_RES_STAT.SEQ p.idx) _ ha, State.rd_put_other _ _ ha, State.rd_modBrl]
  simp only [setFields, List.forall_mem_cons, List.not_mem_nil, false_implies, implies_true, and_true]
  omega

/-- The fields beside READY and SEQ share no bit with them. -/
theorem setFields_apart {f : Fld} (ha : f.addr = (BRL_RES_STAT.READY p.idx).addr) (hl : 4 ≤ f.lo) : ∀ x ∈ setFields p c l, x.1.apart f := by
  dsimp only at ha
  simp only [setFields, Fld.apart, List.forall_mem_cons, List.not_mem_nil, false_implies, implies_true, and_true]
  omega

/-- A port shows a set under a sequence number, and no closed period of it waits. -/
structure State.showsSet (s : State) (p : Port) (l : List BrlRec) (n : Nat) : Prop where
  closing : (s.brlPort p).closing = none
  set : (s.brlPort p).set = l
  ready : s.flag (BRL_RES_STAT.READY p.idx) = true
  seq : s.get (BRL_RES_STAT.SEQ p.idx) = n

theorem State.showsSet.congr {s t : State} {p : Port} {l : List BrlRec} {n : Nat} (h : s.showsSet p l n) (hp : t.brlPort p = s.brlPort p)
    (hw : t.rd (BRL_RES_STAT.READY p.idx).addr = s.rd (BRL_RES_STAT.READY p.idx).addr) : t.showsSet p l n :=
  ⟨by rw [hp, h.closing], by rw [hp, h.set], (State.flag_congr (congrArg (BRL_RES_STAT.READY p.idx).ofWord hw)).trans h.ready,
    (congrArg (BRL_RES_STAT.SEQ p.idx).ofWord hw).trans h.seq⟩

theorem State.setShown_shows : (s.setShown p c l).showsSet p l ((s.get (BRL_RES_STAT.SEQ p.idx) + 1) % 256) where
  closing := by rw [State.setShown_brlPort]; rfl
  set := by rw [State.setShown_brlPort]; rfl
  ready := by
    unfold State.setShown
    rw [State.flag_congr (State.get_puts_other _ _ _ (setFields_apart p c l rfl (by simp))),
      State.flag_put_other _ _ _ _ (.inr (.inl (by simp))), State.flag_put_same _ _ _ (by simp)]
    rfl
  seq := by
    unfold State.setShown
    rw [State.get_puts_other _ _ _ (setFields_apart p c l (f := BRL_RES_STAT.SEQ p.idx) rfl (by simp)), State.get_put_same _ _ _ (by simp)]
    rfl

theorem State.rd_wrWords_other (s : State) (l : List Word) {off a : Nat} (h : ∀ k < l.length, a ≠ off + 4 * k) :
    (s.wrWords off l).rd a = s.rd a := by
  induction l generalizing s off with
  | nil => rfl
  | cons w l ih =>
    rw [State.wrWords, ih _ fun k hk => ?_, State.rd_wr_other _ _ (by simpa using h 0 (by simp))]
    have := h (k + 1) (by simpa using hk)
    omega

theorem State.recordWords_length (b : Nat) : (s.recordWords p b).length = 4 := by
  unfold State.recordWords
  split
  · split <;> rfl
  · rfl

theorem State.updRd_keepsSets (r : Port) : s.keepsSets (s.updRd p) r := by
  refine ⟨fun q _ => State.brlPort_congr (State.wrWords_brl ..) q, fun q => s.rd_wrWords_other _ fun k hk => ?_⟩
  rw [State.recordWords_length] at hk
  dsimp only
  omega

/-- What follows the set's registers leaves the sets of both ports. -/
theorem State.updRd_deliverSet_keepsSets (mid : Int) (r : Port) : s.keepsSets ((s.updRd p).deliverSet p c mid l) r :=
  (s.updRd_keepsSets p r).trans (.of_within State.deliverSet_within (by decide) (by decide))

end

/-! ## One port's result (R253 to R274) -/

/-- The records of a port's closed period by their own fits (R253 to R259). -/
def State.portFits (s : State) (p : Port) : List BrlRec :=
  match (s.brlPort p).closing with
  | some c => s.ownValues p c ((List.range c.run.length).map (s.fitBin p c ((s.get (BRL_RES_STAT.SEQ p.idx) + 1) % 256)))
  | none => []

/-- The records of a port as they are published: those of a STRAIN port take the other's temperatures (R260). -/
def State.portRecs (s : State) (p : Port) : List BrlRec :=
  if s.get (BRL_CFG.ROLE p.idx) = 2 then s.strainValues p (s.portFits p) (s.portFits p.other) else s.portFits p

/-- A port's result taken up: the coil correction, the baseline, the set and the anchors. -/
def State.resultTaken (s : State) (p : Port) (c : BrlPeriod) (l temps : List BrlRec) : State :=
  (((s.updDelta p c l).takeBaseline p c l temps).publishSet p c l).anchorUpdate p c l

/-- The result of a port taken up in a state, where a period of it has closed in the state before. -/
def State.portResult (s t : State) (p : Port) : State :=
  match (s.brlPort p).closing with
  | none => t
  | some c => t.resultTaken p c (s.portRecs p) (s.portFits p.other)

theorem exec_brlResultReady {s : State} {p : Port} {c : BrlPeriod} (h : (s.brlPort p).closing = some c) :
    exec .brlResultReady s = .next ((s.portResult (s.portResult s .a) .b).drew 393216) := by
  have hc : (s.brl.portA.closing.isSome || s.brl.portB.closing.isSome) = true := by
    cases p with
    | a => exact Bool.or_eq_true_iff.2 (.inl (Option.isSome_of_mem h))
    | b => exact Bool.or_eq_true_iff.2 (.inr (Option.isSome_of_mem h))
  show Host.Outcome.next (brlResultReadyStep s) = _
  unfold brlResultReadyStep
  dsimp only
  rw [State.whenDo_pos hc]
  rfl

section

variable (s : State) (p : Port) (c : BrlPeriod) (l temps : List BrlRec)

/-- A result is shown between steps that leave the sets of both ports. -/
theorem State.resultTaken_steps : ∃ u : State, s.keepsSets u p ∧ ∀ r, (u.setShown p c l).keepsSets (s.resultTaken p c l temps) r := by
  refine ⟨(s.updDelta p c l).takeBaseline p c l temps, (s.updDelta_keepsSets p c l).trans (State.takeBaseline_keepsSets ..), fun r => ?_⟩
  unfold State.resultTaken
  rw [State.publishSet_eq]
  exact (State.updRd_deliverSet_keepsSets ..).trans (State.anchorUpdate_keepsSets ..)

/-- What the result of one port leaves of the other: the port itself, and the status word of its set. -/
theorem State.resultTaken_other {q : Port} (h : q ≠ p) : (s.resultTaken p c l temps).brlPort q = s.brlPort q ∧
    (s.resultTaken p c l temps).rd (BRL_RES_STAT.READY q.idx).addr = s.rd (BRL_RES_STAT.READY q.idx).addr := by
  obtain ⟨u, hbefore, hafter⟩ := s.resultTaken_steps p c l temps
  obtain ⟨hport, hword⟩ := u.setShown_other p c l h
  exact ⟨((hafter p).other q h).trans (hport.trans (hbefore.other q h)), ((hafter p).stat q).trans (hword.trans (hbefore.stat q))⟩

theorem State.resultTaken_shows : (s.resultTaken p c l temps).showsSet p l ((s.get (BRL_RES_STAT.SEQ p.idx) + 1) % 256) := by
  obtain ⟨u, hbefore, hafter⟩ := s.resultTaken_steps p c l temps
  have hseq : u.get (BRL_RES_STAT.SEQ p.idx) = s.get (BRL_RES_STAT.SEQ p.idx) := congrArg (BRL_RES_STAT.SEQ p.idx).ofWord (hbefore.stat p)
  rw [← hseq]
  exact (u.setShown_shows p c l).congr ((hafter p.other).other p (by cases p <;> decide)) ((hafter p).stat p)

theorem State.ownValues_length : (s.ownValues p c l).length = l.length := by
  unfold State.ownValues
  split
  · exact List.length_map _
  · split
    · exact List.length_map _
    · rw [List.length_map, List.length_zipIdx]
  · rfl

theorem State.portRecs_length (h : (s.brlPort p).closing = some c) : (s.portRecs p).length = c.run.length := by
  have hf : (s.portFits p).length = c.run.length := by
    simp only [State.portFits, h, State.ownValues_length, List.length_map, List.length_range]
  unfold State.portRecs
  split
  · rw [State.strainValues, List.length_map, List.length_zipIdx, hf]
  · exact hf

end

/-- A port that has no period to close is left by its result, and one that has leaves the other. -/
theorem State.portResult_other (s t : State) {p q : Port} (h : q ≠ p) : (s.portResult t p).brlPort q = t.brlPort q ∧
    (s.portResult t p).rd (BRL_RES_STAT.READY q.idx).addr = t.rd (BRL_RES_STAT.READY q.idx).addr := by
  unfold State.portResult
  split
  · exact ⟨rfl, rfl⟩
  · exact State.resultTaken_other _ _ _ _ _ h

theorem State.portResult_closed {s : State} (t : State) {p : Port} {c : BrlPeriod} (h : (s.brlPort p).closing = some c) :
    s.portResult t p = t.resultTaken p c (s.portRecs p) (s.portFits p.other) := by
  unfold State.portResult
  rw [h]

/-- A port whose period has closed shows the set of its records once the results of both ports are taken up. -/
theorem State.portResults_shows {s : State} {p : Port} {c : BrlPeriod} (h : (s.brlPort p).closing = some c) :
    (s.portResult (s.portResult s .a) .b).showsSet p (s.portRecs p) ((s.get (BRL_RES_STAT.SEQ p.idx) + 1) % 256) := by
  cases p with
  | a =>
    obtain ⟨hport, hword⟩ := s.portResult_other (s.portResult s .a) (p := .b) (q := .a) (by decide)
    refine State.showsSet.congr ?_ hport hword
    rw [State.portResult_closed s h]
    exact State.resultTaken_shows ..
  | b =>
    have hseq : (s.portResult s .a).get (BRL_RES_STAT.SEQ Port.b.idx) = s.get (BRL_RES_STAT.SEQ Port.b.idx) :=
      congrArg (BRL_RES_STAT.SEQ Port.b.idx).ofWord (s.portResult_other s (by decide)).2
    rw [State.portResult_closed _ h, ← hseq]
    exact State.resultTaken_shows ..

/-- BRL_RESULT_READY of a port with a closed period (R253 to R256). -/
theorem brlResultReady_completes {s : State} {p : Port} {c : BrlPeriod} (h : (s.brlPort p).closing = some c) :
    Leads .brlResultReady s (fun t => (t.brlPort p).closing = none ∧ t.flag (BRL_RES_STAT.READY p.idx) = true ∧
      t.get (BRL_RES_STAT.SEQ p.idx) = (s.get (BRL_RES_STAT.SEQ p.idx) + 1) % 256 ∧ (t.brlPort p).set.length = c.run.length) := by
  have hs : ((s.portResult (s.portResult s .a) .b).drew 393216).showsSet p (s.portRecs p) _ := (State.portResults_shows h).congr rfl rfl
  exact ⟨_, exec_brlResultReady h, hs.closing, hs.ready, hs.seq, by rw [hs.set, s.portRecs_length p c h]⟩

end Sys2Proof.Machine
end

section
/-! The Brillouin measurement's commands (O27: R245, R248, R250 to R256, R263, R442). -/

namespace Sys2Proof.Machine

theorem portOf_idx (p : Port) : portOf p.idx = p := by cases p <;> rfl

theorem idx_le_one (p : Port) : p.idx ≤ 1 := by cases p <;> decide

/-- BRL_SHOT_CONTRIBUTION to a period that has closed after its launch (R251). -/
theorem brlShotContribution_closing {p : Port} {pos : Fin 16} {lanesX lanesY : List (List Int)} {i : Inflight} {c : BrlPeriod} {s : State}
    (h : s.brl.inflight.find? (fun i => i.port == p && i.pos == pos) = some i) (hx : (s.brlPort p).closing = some c)
    (hc : c.holds i.launch = true) :
    Leads (.brlShotContribution p pos lanesX lanesY) s (fun t => t.brl.inflight = s.brl.inflight.erase i ∧
      (t.brlPort p).closing = some (s.enterShot p i (lanesX ++ lanesY) c) ∧ (t.brlPort p).cur = (s.brlPort p).cur) := by
  have hp : ((s.shotUnlisted i).modBrl p (s.portTakes p i (lanesX ++ lanesY))).brlPort p = _ :=
    (State.brlPort_modBrl _ p _).trans (State.portTakes_closing hx hc)
  refine ⟨_, exec_brlShotContribution h, State.modBrl_inflight .., ?_, ?_⟩
  · rw [hp]
  · rw [hp]
    rfl

/-- BRL_SHOT_CONTRIBUTION to the period in progress (R251). -/
theorem brlShotContribution_cur {p : Port} {pos : Fin 16} {lanesX lanesY : List (List Int)} {i : Inflight} {c : BrlPeriod} {s : State}
    (h : s.brl.inflight.find? (fun i => i.port == p && i.pos == pos) = some i) (hx : (s.brlPort p).closing = none)
    (hu : (s.brlPort p).cur = some c) (hc : c.holds i.launch = true) :
    Leads (.brlShotContribution p pos lanesX lanesY) s (fun t => t.brl.inflight = s.brl.inflight.erase i ∧
      (t.brlPort p).cur = some (s.enterShot p i (lanesX ++ lanesY) c)) := by
  have hp : ((s.shotUnlisted i).modBrl p (s.portTakes p i (lanesX ++ lanesY))).brlPort p = _ :=
    (State.brlPort_modBrl _ p _).trans (State.portTakes_cur hx hu hc)
  refine ⟨_, exec_brlShotContribution h, State.modBrl_inflight .., ?_⟩
  rw [hp]

theorem State.recordWords_taken (s : State) (q : ReqHdr) (op : Nat) (p : Port) (b : Nat) :
    (s.taken q op).recordWords p b = s.recordWords p b := rfl

/-- BRL_READ of a set that is READY (R256, R441, R442). -/
theorem exec_brlRead {q : ReqHdr} {p : Port} {first count : Nat} {s : State} (h : s.admits q)
    (hr : s.flag (BRL_RES_STAT.READY p.idx) = true) (h1 : 1 ≤ count) (hc : count ≤ 508) :
    exec (.brlRead q p.idx first count) s = .next ((s.taken q 0x0304).reply q 0x0304 stOk [itSeq (s.get (BRL_RES_STAT.SEQ p.idx)),
      itWords ((List.range count).flatMap (fun i => s.recordWords p (first + i)))]) := by
  have hp := idx_le_one p
  show Host.Outcome.next (s.request q 0x0304 (brlReadBody q p.idx first count) _) = _
  rw [State.request_admits h, brlReadBody, State.checks_pass, portOf_idx]
  · rfl
  · simp [hr]
    omega

/-- BASELINE of the owner (R263, R444, R495). -/
theorem exec_baseline {q : ReqHdr} {p : Port} {s : State} (h : s.admitsLong q) (hb : s.flag (BRL_BASE.BUSY p.idx) = false)
    (ho : s.owner = q.session.val) (hd : s.dev ≠ 1) :
    exec (.baseline q p.idx) s = .next (((s.taken q 0x0504).accepted q 0x0504 p.idx).brlArm p) := by
  have hp := idx_le_one p
  have hfull := State.longsFull_taken h 0x0504
  show Host.Outcome.next (s.request q 0x0504 (baselineBody q p.idx) _) = _
  rw [State.request_admits h.1, baselineBody, State.checks_pass, State.startLong_accepted hfull, portOf_idx]
  simpa [hb, hfull, ho] using ⟨hp, hd⟩

theorem State.accepted_qcpOnly (s : State) (q : ReqHdr) (op n : Nat) : s.qcpOnly (s.accepted q op n) :=
  State.qcpOnly_trans (State.qcpOnly_trans (State.modSess_qcpOnly ..) (State.reply_qcpOnly ..)) (State.qcpCount_qcpOnly _)

/-- The state in which an admitted long operation meets its body differs from that of the request in the QCP interpreter alone. -/
theorem State.taken_accepted_qcpOnly (s : State) (q : ReqHdr) (op n : Nat) : s.qcpOnly ((s.taken q op).accepted q op n) :=
  State.qcpOnly_trans (s.taken_qcpOnly q op) (State.accepted_qcpOnly ..)

theorem baseline_completes {q : ReqHdr} {p : Port} {s : State} (h : s.admitsLong q) (hb : s.flag (BRL_BASE.BUSY p.idx) = false)
    (ho : s.owner = q.session.val) (hd : s.dev ≠ 1) :
    Leads (.baseline q p.idx) s (fun t => s.began t q 0x0504 p.idx ∧ t.flag (BRL_BASE.BUSY p.idx) = true ∧ (t.brlPort p).armed = some s.now) := by
  have hq := s.taken_accepted_qcpOnly q 0x0504 p.idx
  have hnow : ((s.taken q 0x0504).accepted q 0x0504 p.idx).now = s.now := by
    unfold State.now
    rw [hq.1]
  obtain ⟨hbusy, harmed⟩ := State.brlArm_arms (p := p) ((State.qcpOnly_flag hq (by unfold qcpWord; dsimp only; omega)).trans hb)
  refine ⟨_, exec_baseline h hb ho hd, ?_, hbusy, by rw [harmed, hnow]⟩
  exact State.began_congr (State.brlArm_within.comp .qcp (by decide)) (State.brlArm_within.comp .out (by decide))
    (State.taken_accepted_began h 0x0504 p.idx)

/-- Settles O27: each command by the lemma of its section. -/
theorem brillouinCompletes : Obligations.BrillouinCompletes := by
  unfold Obligations.BrillouinCompletes
  refine ⟨?shot, ?fold, ?close, ?result, ?read, ?baseline⟩
  case shot =>
    rintro p pos lanesX lanesY _ i c new d s h hs rfl rfl rfl
    exact ⟨fun hx hu hc => brlShotContribution_cur h hx hu (BrlPeriod.holds_open hs hc),
      fun b hx hc hb => brlShotContribution_closing h hx (BrlPeriod.holds_closed hs hc hb)⟩
  case fold =>
    intro b s hb hf
    exact ⟨_, exec_brlFold hb hf, by rw [State.foldWrites_brl]; rfl, by rw [State.foldWrites_brl]; rfl, by rw [State.foldWrites_brl]⟩
  case close => exact fun p b g x s hb hx hd hr => periodClose_completes hb hx hd hr
  case result => exact fun p c s h => brlResultReady_completes h
  case read => exact fun q p first count s h hr h1 hc => ⟨_, exec_brlRead h hr h1 hc, State.taken_reply_only h ..⟩
  case baseline => exact fun q p s => baseline_completes

end Sys2Proof.Machine
end

section
/-! Next states of the commands of Brillouin and of the trigger units (O54: R251, R256, R278, R285, R291, R294, R302, R446, R566, R582). -/

namespace Sys2Proof.Machine

/-! ## Brillouin -/

/-- A shot that no period holds leaves the list, and nothing else changes (R251). -/
theorem brlShotContribution_noPeriod {p : Port} {pos : Fin 16} {lanesX lanesY : List (List Int)} {i : Inflight} {s : State}
    (h : s.brl.inflight.find? (fun i => i.port == p && i.pos == pos) = some i) (hx : (s.brlPort p).closing = none)
    (hu : (s.brlPort p).cur = none) :
    Leads (.brlShotContribution p pos lanesX lanesY) s (fun t => t.brl.inflight = s.brl.inflight.erase i ∧ t.regs = s.regs ∧
      (t.brlPort p).cur = none ∧ (t.brlPort p).closing = none) := by
  have hp : ((s.shotUnlisted i).modBrl p (s.portTakes p i (lanesX ++ lanesY))).brlPort p = s.brlPort p :=
    (State.brlPort_modBrl _ p _).trans (State.portTakes_none hx hu)
  refine ⟨_, exec_brlShotContribution h, State.modBrl_inflight .., State.modBrl_regs .., ?_, ?_⟩
  · rw [hp, hu]
  · rw [hp, hx]

theorem exec_brlRead_one {q : ReqHdr} {p : Port} {b : Nat} {s : State} (h : s.admits q) (hr : s.flag (BRL_RES_STAT.READY p.idx) = true) :
    exec (.brlRead q p.idx (b : Int) 1) s = .next ((s.taken q 0x0304).reply q 0x0304 stOk [itSeq (s.get (BRL_RES_STAT.SEQ p.idx)),
      itWords (s.recordWords p b)]) := by
  rw [exec_brlRead h hr (by decide) (by decide)]
  simp

/-! ## Trigger units -/

/-- The state in which the units have taken the sample instants of one time (R285, R290). -/
def State.instantTaken (s : State) (inst : Int) (mine : List TrigIn) : State :=
  (List.finRange 64).foldl (fun (t : State) u => mine.foldl (fun (t : State) x => t.unitTakes u x) t)
    (({ s with trg := { s.trg with inq := s.trg.inq.filter (fun x => !(x.inst == inst)) } }).coalesce inst)

theorem exec_triggerEvaluate {kind : Fin 8} {src : Nat} {e : TrigIn} {mine : List TrigIn} {s : State}
    (h : s.trg.inq.find? (fun x => x.kind == kind.val && x.src == src) = some e) (hm : mine = s.trg.inq.filter (fun x => x.inst == e.inst)) :
    exec (.triggerEvaluate kind src) s = .next ((s.instantTaken e.inst mine).resetUnits
      (fun u => mine.any (fun x => x.reset && (s.instantTaken e.inst mine).trgReads u x.kind x.src))) := by
  subst hm
  show Host.Outcome.next (triggerEvaluateStep kind.val src s) = _
  unfold triggerEvaluateStep
  rw [h]
  rfl

/-- TRIGGER of a unit of SRC_KIND 7 by its owner (R278, R495). -/
theorem exec_trigger {q : ReqHdr} {u : Fin 64} {ingress : Ts} {s : State} (h : s.admits q) (hon : s.trgOn u.val = true)
    (hk : s.trgKind u.val = 7) (ho : s.trgOwner u.val = some q.session.val) (hd : s.dev ≠ 1) :
    exec (.trigger q u.val ingress) s = .next ((if s.trgMute then s.taken q 0x0400 else
      ((s.taken q 0x0400).coalesce ingress).fireOnce u ingress).reply q 0x0400 stOk) := by
  have hc : (!(s.taken q 0x0400).trgOn u.val || (s.taken q 0x0400).trgKind u.val != 7) = false := by
    show (!s.trgOn u.val || s.trgKind u.val != 7) = false
    simp [hon, hk]
  have hw : ((s.taken q 0x0400).trgOwner u.val != some q.session.val) = false := by
    show (s.trgOwner u.val != some q.session.val) = false
    simp [ho]
  show Host.Outcome.next (s.request q 0x0400 (triggerBody q u.val ingress) _) = _
  rw [State.request_admits h, triggerBody, dif_pos u.isLt, hc, hw]
  exact congrArg Host.Outcome.next (if_neg hd)

/-- A reply's packet depends on the session's key and on what the transport's path cuts a datagram to (R415, R446). -/
theorem replyPacket_congr {s t : State} {q : ReqHdr} (hs : t.qcp.sess = s.qcp.sess) (hc : t.cutOf = s.cutOf) (op st : Nat) (l : List Item) :
    replyPacket t q op st l = replyPacket s q op st l := by
  unfold replyPacket State.sess
  rw [hs, hc]

theorem State.updOcc_cutOf (s : State) : s.updOcc.cutOf = s.cutOf := by
  funext v
  unfold State.cutOf
  cases v with
  | udp p =>
    have hm : s.updOcc.get (STR_PORT.MTU p.eth.val) = s.get (STR_PORT.MTU p.eth.val) :=
      State.get_put_other _ _ _ _ (.inl (by dsimp only; omega))
    dsimp only
    rw [hm]
  | mailbox m => rfl

/-- EVENT_READ of an empty buffer (R446). -/
theorem exec_eventRead_empty {q : ReqHdr} {count : Nat} {s : State} (h : s.admits q) (h1 : 1 ≤ count) (hc : count ≤ 254) (hb : s.trg.buf = []) :
    exec (.eventRead q count) s = .next ((s.taken q 0x0303).updOcc.reply q 0x0303 stOk [itWords []]) := by
  have hnil : (s.taken q 0x0303).trg.buf = [] := hb
  have hsame : ({ s.taken q 0x0303 with trg := { (s.taken q 0x0303).trg with buf := [] } } : State) = s.taken q 0x0303 := by
    rw [← hnil]
  show Host.Outcome.next (s.request q 0x0303 (eventReadBody q count) _) = _
  rw [State.request_admits h, eventReadBody, if_neg (by simp; omega), hnil]
  simp only [List.filter_nil, List.take_nil, List.foldl_nil, List.flatMap_nil]
  exact congrArg (fun t : State => Host.Outcome.next (t.updOcc.reply q 0x0303 stOk [itWords []])) hsame

theorem eventRead_empty {q : ReqHdr} {count : Nat} {s : State} (h : s.admits q) (h1 : 1 ≤ count) (hc : count ≤ 254) (hb : s.trg.buf = []) :
    Leads (.eventRead q count) s (fun t => s.replied t q 0x0303 stOk [itWords []] ∧ t.trg.buf = []) := by
  have hcrc : (s.taken q 0x0303).updOcc.get PTB_CRC.N = 0 := (State.get_put_other _ _ _ _ (by decide)).trans h.1.2.2.2
  have hp : replyPacket (s.taken q 0x0303).updOcc q 0x0303 stOk [itWords []] = replyPacket s q 0x0303 stOk [itWords []] :=
    (replyPacket_congr (congrArg Qcp.sess (State.put_qcp ..)) (State.updOcc_cutOf _) ..).trans (replyPacket_taken ..)
  refine ⟨_, exec_eventRead_empty h h1 hc hb, State.replied_congr (u := (s.taken q 0x0303).updOcc) rfl hp
    (State.reply_replied _ _ _ _ _ hcrc), ?_⟩
  rw [State.reply_trg]
  exact hb

/-- A record enters the EVENT stream that takes it and leaves the buffer (R294, R377). -/
theorem eventRecordDeliver_delivers {e : EvRec} {n : Nat} {s : State} (h : s.trg.buf.find? (fun e => (s.recStream e).isSome) = some e)
    (hn : s.recStream e = some n) : Leads .eventRecordDeliver s (fun t => t.trg.buf = s.trg.buf.erase e) := by
  refine ⟨_, rfl, ?_⟩
  unfold eventRecordDeliverStep
  rw [h]
  dsimp only
  rw [hn]
  dsimp only
  rw [State.pushOut_within.comp .trg (by decide)]
  rfl

/-- Units whose RIDGE_EN is clear take no ridge trigger (R291). -/
theorem State.fold_ridgeEn_clear (f : State → Nat → State) (p : State → Nat → Bool) (t : State) (l : List Nat)
    (hl : ∀ c ∈ l, t.flag (CAPU_W0.RIDGE_EN c) = false) :
    l.foldl (fun (t : State) c => if t.flag (CAPU_W0.RIDGE_EN c) && p t c then f t c else t) t = t := by
  induction l with
  | nil => rfl
  | cons c l ih =>
    rw [List.foldl_cons, hl c (List.mem_cons_self ..), Bool.false_and, if_neg Bool.false_ne_true]
    exact ih fun d hd => hl d (List.mem_cons_of_mem _ hd)

/-- A scheduled trigger that no capture unit takes (R291, R302). -/
theorem exec_ridgeTriggerExecute_untaken {g : RidgeTrig} {s : State} (h : s.ridge.trigs = [g])
    (he : ∀ c < 16, s.flag (CAPU_W0.RIDGE_EN c) = false) :
    exec .ridgeTriggerExecute s = .next (({ s with ridge := { s.ridge with trigs := [] } }).at g.execAt) := by
  show Host.Outcome.next (ridgeTriggerExecuteStep s) = _
  unfold ridgeTriggerExecuteStep
  simp only [h, List.foldl_nil, List.erase_cons_head]
  refine congrArg Host.Outcome.next (State.fold_ridgeEn_clear _ _ _ _ fun c hc => ?_)
  rw [State.flag, State.at_get]
  exact he c (List.mem_range.1 hc)

/-- A ridge trigger frame at a device in SHADOW is scheduled, and fires no unit (R566, R582). -/
theorem ridgeTriggerFrame_muted {h : RidgeHdr} {tref : Ts} {id : BitVec 8} {horizon : Nat} {u s : State} (hr : s.ridgeOn = true)
    (hl : s.laneUp h.laneW = true) (ho : h.origin ≠ s.nodeId)
    (hu : u = (s.goodFrame h.laneW).forward h 5 (timeBytes tref ++ beBytes 1 id.toNat ++ beBytes 3 0 ++ beBytes 4 horizon))
    (hs : u.ridge.seen.contains (h.origin, h.seq) = false) (hm : u.trgMute = true) :
    Leads (.ridgeTriggerFrame h tref id horizon) s (fun t => ∃ g : RidgeTrig, t.ridge.trigs = u.ridge.trigs ++ [g] ∧
      g.execAt = h.time + horizon * 1000 * ns ∧ g.tref = tref ∧ g.id = id) := by
  refine ⟨_, congrArg Host.Outcome.next (State.ringFrame_first _ hr hl ho hu hs), ?_⟩
  unfold State.fireUnits
  rw [if_pos (by exact hm)]
  exact ⟨_, rfl, rfl, rfl, rfl⟩

end Sys2Proof.Machine
end

section
/-! Next states of the commands of the capture units (O54: R299, R301, R306, R308, R312, R436, R448, R449, R702). -/

namespace Sys2Proof.Machine

/-! ## Requests about a capture unit -/

/-- CAP_ARM that no rule refuses (R306). -/
theorem exec_capArm {q : ReqHdr} {c : Fin 16} {s : State} (h : s.admits q) (he : (s.taken q 0x0401).armError c.val (some q.session.val) = none) :
    exec (.capArm q c.val) s = .next (((s.taken q 0x0401).capArm c.val).reply q 0x0401 stOk) := by
  show Host.Outcome.next (s.request q 0x0401 (capArmBody q c.val) _) = _
  rw [State.request_admits h, capArmBody, if_neg (by omega), he]

/-- CAP_ABORT by the unit's owner before the capture is closed (R312). -/
theorem exec_capAbort {q : ReqHdr} {c : Fin 16} {s : State} (h : s.admits q) (ho : s.capOwner c.val = some q.session.val)
    (hs : s.capState c.val ≠ 3) : exec (.capAbort q c.val) s = .next (((s.taken q 0x0402).capAbort c.val).reply q 0x0402 stOk) := by
  have ho' : (s.taken q 0x0402).capOwner c.val = some q.session.val := ho
  show Host.Outcome.next (s.request q 0x0402 (capAbortBody q c.val) _) = _
  rw [State.request_admits h, capAbortBody, if_neg (by omega), ho', if_neg (by simp), if_neg (by exact hs)]

/-- CAP_RELEASE by the owner of a closed capture that no CAP_SEND reads (R301, R436). -/
theorem exec_capRelease {q : ReqHdr} {c : Fin 16} {s : State} (h : s.admits q) (ho : s.capOwner c.val = some q.session.val)
    (hs : s.capState c.val = 3) (hx : s.capSending c.val = false) :
    exec (.capRelease q c.val) s = .next (((s.taken q 0x0403).capRelease c.val).reply q 0x0403 stOk) := by
  have ho' : (s.taken q 0x0403).capOwner c.val = some q.session.val := ho
  have hs' : (s.taken q 0x0403).capState c.val = 3 := hs
  have hx' : (s.taken q 0x0403).capSending c.val = false := hx
  show Host.Outcome.next (s.request q 0x0403 (capReleaseBody q c.val) _) = _
  rw [State.request_admits h, capReleaseBody, if_neg (by omega), hs', hx', ho']
  simp

theorem State.capRegion_taken (s : State) (q : ReqHdr) (op c : Nat) : (s.taken q op).capRegion c = s.capRegion c := rfl

/-- CAP_READ of a closed capture's first byte at level 0 (R310, R436). -/
theorem exec_capRead_first {q : ReqHdr} {c : Fin 16} {s : State} (h : s.admits q) (hs : s.capState c.val = 3) (hr : 1 ≤ (s.cap c.val).region) :
    exec (.capRead q c.val 0 1 0) s = .next ((s.taken q 0x0404).reply q 0x0404 stOk
      [itData (pieceBlock 0 (0 + 1 == (s.cap c.val).region) [] (((s.capRegion c.val).drop 0).take 1))]) := by
  have hs' : (s.taken q 0x0404).capState c.val = 3 := hs
  have hcap : (s.taken q 0x0404).cap c.val = s.cap c.val := rfl
  show Host.Outcome.next (s.request q 0x0404 (capReadBody q c.val 0 1 0) _) = _
  rw [State.request_admits h, capReadBody, if_neg (by omega), hs', hcap, State.capRegion_taken, if_neg (by simp), if_neg (by simp; omega)]

/-- A CAP_SEND joins those under way. -/
def State.capSendListed (s : State) (x : CapSend) : State := { s with trg := { s.trg with sends := s.trg.sends ++ [x] } }

@[simp] theorem State.capSendListed_qcp (s : State) (x : CapSend) : (s.capSendListed x).qcp = s.qcp := rfl
@[simp] theorem State.capSendListed_out (s : State) (x : CapSend) : (s.capSendListed x).out = s.out := rfl

theorem State.capSendListed_length (s : State) (x : CapSend) : (s.capSendListed x).trg.sends.length = s.trg.sends.length + 1 :=
  List.length_append

/-- CAP_SEND of a closed capture to the host's memory (R448). -/
theorem exec_capSend_host {q : ReqHdr} {c : Fin 16} {haddr : BitVec 64} {s : State} (h : s.admitsLong q) (hs : s.capState c.val = 3)
    (hd : s.dev ≠ 1) : exec (.capSend q c.val 0 none haddr) s = .next (((s.taken q 0x0405).accepted q 0x0405 c.val).capSendListed
      { session := q.session, seq := q.seq, unit := c.val, level := 0, dest := none, haddr := haddr }) := by
  have hc : c.val ≤ 15 := by omega
  have hfull := State.longsFull_taken h 0x0405
  have hs' : (s.taken q 0x0405).capState c.val = 3 := hs
  have hd' : (s.taken q 0x0405).dev ≠ 1 := hd
  show Host.Outcome.next (s.request q 0x0405 (capSendBody q c.val 0 none haddr) _) = _
  rw [State.request_admits h.1, capSendBody, State.checks_pass, State.startLong_accepted hfull]
  · rfl
  · simp [hs', hfull, hc, hd']

theorem capSend_completes {q : ReqHdr} {c : Fin 16} {haddr : BitVec 64} {s : State} (h : s.admitsLong q) (hs : s.capState c.val = 3)
    (hd : s.dev ≠ 1) : Leads (.capSend q c.val 0 none haddr) s (fun t => s.began t q 0x0405 c.val ∧
      t.trg.sends.length = s.trg.sends.length + 1) := by
  have htrg : ((s.taken q 0x0405).accepted q 0x0405 c.val).trg = s.trg := by
    rw [(s.taken_accepted_qcpOnly q 0x0405 c.val).1]
  refine ⟨_, exec_capSend_host h hs hd, State.began_congr (State.capSendListed_qcp ..) (State.capSendListed_out ..)
    (State.taken_accepted_began h 0x0405 c.val), ?_⟩
  rw [State.capSendListed_length, htrg]

/-! ## The recording -/

/-- CAP_SEND_COMPLETE of the one CAP_SEND under way, to the host's memory (R449). -/
theorem capSendComplete_last {x : CapSend} {s : State} (h : s.trg.sends = [x]) (hd : x.dest = none) :
    Leads (.capSendComplete x.session x.seq) s (fun t => t.trg.sends = []) := by
  have hfind : s.trg.sends.find? (fun y => y.session == x.session && y.seq == x.seq) = some x := by simp [h]
  have hhop : s.capHop x = none := by rw [State.capHop, hd]
  refine ⟨_, rfl, ?_⟩
  unfold capSendCompleteStep
  rw [hfind]
  dsimp only
  rw [hhop, hd]
  dsimp only
  rw [State.complete_trg]
  dsimp only
  rw [State.emit_trg, h]
  simp

/-- Writes that no channel of the memory took are entered in the gap list (R702). -/
theorem historyWriteMiss_gap (stream : Fin 64) (first len : Nat) (s : State) :
    Leads (.historyWriteMiss stream first len) s (fun t => t.trg.histGaps.length = s.trg.histGaps.length + 1) :=
  ⟨_, rfl, List.length_append⟩

theorem State.cap_modCap_same {s : State} {c : Nat} {f : Cap → Cap} (h : c < s.trg.caps.length) : (s.modCap c f).cap c = f (s.cap c) :=
  (updAt_getD ..).trans (if_pos ⟨rfl, h⟩)

theorem State.cap_congr {s t : State} (h : t.trg = s.trg) (c : Nat) : t.cap c = s.cap c := by
  unfold State.cap
  rw [h]

/-- An interval that is not a capture's last is stored behind the others, and the capture goes on (R301). -/
theorem State.capStore_goesOn {s : State} {c : Nat} {i : Interval} (hc : c < s.trg.caps.length)
    (h : (s.cap c).ivs.length + 1 < (s.cap c).pre + (s.cap c).post) :
    (s.capStore c i).cap c = { s.cap c with ivs := (s.cap c).ivs ++ [i], acc := [] } := by
  have hcap : ∀ k n, ((((s.modCap c (fun u => { u with ivs := u.ivs ++ [i], acc := [] })).capFlags c).dramWrite 4 c k n).cap c) =
      { s.cap c with ivs := (s.cap c).ivs ++ [i], acc := [] } := fun k n =>
    (State.cap_congr (State.dramWrite_within.comp .trg (by decide)) c).trans (State.cap_modCap_same hc)
  unfold State.capStore
  dsimp only
  rw [hcap, if_neg (by simpa using h), hcap]

theorem State.capEndInterval_goesOn {s : State} {c : Nat} (hc : c < s.trg.caps.length)
    (h : (s.cap c).ivs.length + 1 < (s.cap c).pre + (s.cap c).post) :
    ((s.capEndInterval c).cap c).ivs.length = (s.cap c).ivs.length + 1 := by
  unfold State.capEndInterval
  rw [State.capStore_goesOn hc h]
  exact List.length_append

/-- CAPTURE_WRITE_DEADLINE of an interval that is not the last: it is given up, and the capture goes on (R308, R310). -/
theorem captureWriteDeadline_goesOn {c : Fin 16} {s : State} (hs : s.capState c.val = 2) (hst : (s.cap c.val).start.isSome = true)
    (hc : c.val < s.trg.caps.length) (h : (s.cap c.val).ivs.length + 1 < (s.cap c.val).pre + (s.cap c.val).post) :
    Leads (.captureWriteDeadline c false) s (fun t => (t.cap c.val).ivs.length = (s.cap c.val).ivs.length + 1) := by
  have hcap : (s.modCap c.val (fun u => { u with acc := [] })).cap c.val = { s.cap c.val with acc := [] } := State.cap_modCap_same hc
  have hlen : c.val < (s.modCap c.val (fun u => { u with acc := [] })).trg.caps.length := lt_of_lt_of_eq hc (updAt_length ..).symm
  refine ⟨(s.modCap c.val (fun u => { u with acc := [] })).capEndInterval c.val, ?_, ?_⟩
  · show Host.Outcome.next (captureWriteDeadlineStep c.val false s) = _
    unfold captureWriteDeadlineStep
    rw [State.whenDo_pos (by simpa using hs)]
    dsimp only
    rw [if_pos hst, if_neg Bool.false_ne_true, if_pos hs]
  · exact (State.capEndInterval_goesOn hlen (by rw [hcap]; exact h)).trans (by rw [hcap])

end Sys2Proof.Machine
end

section
/-! Next states of the commands of the calibration engine (O54: R671 to R673, R683, R686, R690, R692, R693, R695, R714). -/

namespace Sys2Proof.Machine

theorem State.answered_congr {s t u : State} {q : ReqHdr} {op st : Nat} {l : List Item} (h : u.out = t.out) (ht : s.answered t q op st l) :
    s.answered u q op st l := by
  unfold State.answered at *
  rwa [h]

/-! ## Requests -/

/-- What a CAL_RUN does once it is accepted: the named domains are due, and it waits for them (R693). -/
def State.calRunNamed (s : State) (q : ReqHdr) (mask : Nat) : State :=
  (((bitsOf 13 mask).foldl (fun (t : State) d =>
    let t := t.setCbit CAL_STUCK.STUCK d false
    if t.cbit CAL_STATUS.RUNNING d then t else t.setCbit CAL_DUE.DUE d true) s).modCal
      (fun x => { x with ops := x.ops ++ [{ sess := q.session.val, seq := q.seq, left := mask }] })).calSyncAll

theorem State.calRunNamed_within (s : State) (q : ReqHdr) (mask : Nat) : s.within (s.calRunNamed q mask) [.cal] [20] := by
  unfold State.calRunNamed
  refine State.within.step State.calSyncAll_within (State.within.step State.modCal_within ?_ (by decide) (by decide)) (by decide) (by decide)
  refine State.within_foldl (fun t d ht => ?_) (State.within_refl _ _)
  have hstuck : s.within (t.setCbit CAL_STUCK.STUCK d false) [.cal] [20] :=
    State.setCbit_within rfl (mem_block (b := 20) (by decide) (by decide)) ht
  exact State.within_ite hstuck (State.setCbit_within rfl (mem_block (b := 20) (by decide) (by decide)) hstuck)

/-- CAL_RUN of the owner that names a domain (R693). -/
theorem exec_calRun {q : ReqHdr} {mask : BitVec 64} {s : State} (h : s.admitsLong q) (ho : s.owner = q.session.val) (hd : s.dev ≠ 1)
    (h1 : mask.toNat ≠ 0) (hm : mask.toNat ≤ 8191) :
    exec (.calRun q mask) s = .next (((s.taken q 0x0500).accepted q 0x0500 mask.toNat).calRunNamed q mask.toNat) := by
  have hfull := State.longsFull_taken h 0x0500
  have hd' : (s.taken q 0x0500).dev ≠ 1 := hd
  show Host.Outcome.next (s.request q 0x0500 (calRunBody q mask.toNat) _) = _
  rw [State.request_admits h.1, calRunBody, State.checks_pass, State.startLong_accepted hfull]
  · exact congrArg Host.Outcome.next (if_neg h1)
  · simp [hfull, ho, hd', hm]

theorem calRun_answered {q : ReqHdr} {s : State} (h : s.admitsLong q) (ho : s.owner = q.session.val) (hd : s.dev ≠ 1) :
    Leads (.calRun q 1) s (fun t => s.answered t q 0x0500 stAccepted []) :=
  ⟨_, exec_calRun h ho hd (by decide) (by decide), State.answered_congr ((State.calRunNamed_within ..).comp .out (by decide))
    (State.taken_accepted_answered h.1 ..)⟩

/-- RESTORE_FACTORY of the owner while none waits (R692, log entry 195). -/
theorem exec_restoreFactory {q : ReqHdr} {s : State} (h : s.admitsLong q) (ho : s.owner = q.session.val) (hr : s.cal.restore = none) :
    exec (.restoreFactory q) s = .next (((s.taken q 0x0503).accepted q 0x0503 0).modCal (fun x =>
      { x with restore := some (q.session.val, q.seq, ((s.taken q 0x0503).accepted q 0x0503 0).cyc) })) := by
  have hfull := State.longsFull_taken h 0x0503
  show Host.Outcome.next (s.request q 0x0503 (restoreFactoryBody q) _) = _
  rw [State.request_admits h.1, restoreFactoryBody, State.checks_pass, State.startLong_accepted hfull]
  simp [hfull, ho, hr]

theorem restoreFactory_completes {q : ReqHdr} {s : State} (h : s.admitsLong q) (ho : s.owner = q.session.val) (hr : s.cal.restore = none) :
    Leads (.restoreFactory q) s (fun t => s.answered t q 0x0503 stAccepted [] ∧ t.cal.restore.isSome = true) :=
  ⟨_, exec_restoreFactory h ho hr, State.answered_congr (State.modCal_within.comp .out (by decide)) (State.taken_accepted_answered h.1 ..), rfl⟩

/-- CAL_STATUS (R436). -/
theorem exec_calStatus {q : ReqHdr} {s : State} (h : s.admits q) :
    exec (.calStatus q) s = .next ((s.taken q 0x0501).reply q 0x0501 stOk [itWords [s.rd 0x140000]]) := by
  show Host.Outcome.next (s.request q 0x0501 (calStatusBody q) _) = _
  rw [State.request_admits h]
  rfl

/-- CAL_READ of a record that is READY (R441, R695). -/
theorem exec_calRead {q : ReqHdr} {d : Fin 13} {s : State} (h : s.admits q) (hr : s.flag (CALREC_W0.READY d.val) = true) :
    exec (.calRead q d.val) s = .next ((s.taken q 0x0502).reply q 0x0502 stOk [itWords (s.rdWords (CALREC_W0.READY d.val).addr 8)]) := by
  have hr' : (s.taken q 0x0502).flag (CALREC_W0.READY d.val) = true := hr
  show Host.Outcome.next (s.request q 0x0502 (calReadBody q d.val) _) = _
  rw [State.request_admits h, calReadBody, State.checks_pass]
  · rfl
  · simp [hr']
    omega

/-! ## Temperatures -/

theorem State.calDue_temps (s : State) (d : Nat) : (s.calDue d).cal.temps = s.cal.temps := by
  unfold State.calDue
  dsimp only
  split <;> rfl

theorem State.trainMoved_cal (s : State) : s.trainMoved.cal = s.cal := State.trainMoved_within.comp .cal (by decide)

/-- CAL_SENSOR_READ enters the temperatures (R671). -/
theorem calSensorRead_temps (die0 die1 die2 die3 tcase : Int) (s : State) : Leads (.calSensorRead die0 die1 die2 die3 tcase) s (fun t =>
    t.cal.temps = [die0, die1, die2, die3, tcase]) := by
  refine ⟨_, rfl, ?_⟩
  unfold calSensorReadStep
  dsimp only
  rw [State.calSyncAll_within.comp .cal (by decide)]
  refine List.foldlRecOn (motive := fun t : State => t.cal.temps = [die0, die1, die2, die3, tcase]) _ _ (by rw [State.trainMoved_cal]; rfl)
    fun t ht d _ => ?_
  split
  · exact ht
  · split
    · exact (State.calDue_temps t d).trans ht
    · exact ht

/-! ## A run -/

theorem State.dom_modDom_same {s : State} {d : Nat} {f : CalDom → CalDom} (h : d < s.cal.doms.length) : (s.modDom d f).dom d = f (s.dom d) :=
  (updAt_getD ..).trans (if_pos ⟨rfl, h⟩)

theorem State.dom_congr {s t : State} (h : t.cal = s.cal) (d : Nat) : t.dom d = s.dom d := by
  unfold State.dom
  rw [h]

theorem State.useWindow_doms (s : State) (d : Nat) : (s.useWindow d).cal.doms.length = s.cal.doms.length := by
  unfold State.useWindow
  split
  · exact updAt_length ..
  · rfl

theorem State.useWindow_tries {s : State} {d : Nat} (h : d < s.cal.doms.length) : ((s.useWindow d).dom d).tries = (s.dom d).tries := by
  unfold State.useWindow
  split
  · rw [State.dom_modDom_same h]
  · rfl

/-- A micro-step in which a lane clips is repeated: it counts as a try (R672). -/
theorem exec_calMicroStep_clipped {d : Fin 13} {values : List Int} {s : State} (hr : s.cbit CAL_STATUS.RUNNING d.val = true)
    (hb : s.calBlocked d.val = false) (hw : s.calWaits d.val = false) (hn : (s.dom d.val).ready = none)
    (hl : (s.dom d.val).steps < calSteps d.val) : exec (.calMicroStep d true values) s = .next (((s.useWindow d.val).modDom d.val
      (fun x => { x with steps := (s.dom d.val).steps, tries := x.tries + 1, retry := false })).calSync d.val) := by
  show Host.Outcome.next (calMicroStepStep d.val true values s) = _
  unfold calMicroStepStep
  dsimp only
  rw [State.whenDo_pos (by simp [hr, hb, hw, hn]), if_pos hr]
  exact congrArg Host.Outcome.next (if_pos hl)

theorem calMicroStep_clipped {d : Fin 13} {s : State} (hd : d.val < s.cal.doms.length) (hr : s.cbit CAL_STATUS.RUNNING d.val = true)
    (hb : s.calBlocked d.val = false) (hw : s.calWaits d.val = false) (hn : (s.dom d.val).ready = none)
    (hl : (s.dom d.val).steps < calSteps d.val) : Leads (.calMicroStep d true []) s (fun t =>
      (t.dom d.val).steps = (s.dom d.val).steps ∧ (t.dom d.val).tries = (s.dom d.val).tries + 1) := by
  have hlen : d.val < (s.useWindow d.val).cal.doms.length := by rwa [State.useWindow_doms]
  refine ⟨_, exec_calMicroStep_clipped hr hb hw hn hl, ?_⟩
  beta_reduce
  rw [State.dom_congr (State.calSync_within.comp .cal (by decide)), State.dom_modDom_same hlen]
  exact ⟨rfl, congrArg (· + 1) (State.useWindow_tries hd)⟩

/-- CAL_RETRY_EXPIRE of a failed domain that is not stuck (R686). -/
theorem exec_calRetryExpire {d : Fin 13} {s : State} (hr : (s.dom d.val).retry = true) (hs : s.cbit CAL_STUCK.STUCK d.val = false) :
    exec (.calRetryExpire d) s = .next ((((s.atCyc ((s.dom d.val).failedAt + s.get CAL_RETRY.RETRY_T * sCyc)).modDom d.val
      (fun x => { x with retry := false })).calDue d.val).calSync d.val) := by
  show Host.Outcome.next (calRetryExpireStep d.val s) = _
  unfold calRetryExpireStep
  rw [State.whenDo_pos (by simp [hr, hs])]

/-- CAL_USER_SAVE after the owner's change (R690). -/
theorem exec_calUserSave {s : State} (h : s.cal.ownerDirty = true) : exec .calUserSave s = .next s.calSave := by
  show Host.Outcome.next (calUserSaveStep s) = _
  unfold calUserSaveStep
  dsimp only
  rw [State.whenDo_pos (by simp [h])]

end Sys2Proof.Machine
end

section
/-! Next states of the commands of the time base and of the test access port (O54: R527, R528, R530, R532 to R534, R537, R538, R765 to
R767). -/

namespace Sys2Proof.Machine

/-! ## Oven, discipline and synthesisers -/

theorem ovenCool_cold (s : State) : Leads .ovenCool s (fun t => t.flag OCX_STATUS.WARM = false) :=
  ⟨_, rfl, State.flag_put_same _ _ _ (by decide)⟩

/-- OVEN_FAIL is reported, and the device runs on (R528). -/
theorem ovenFail_reported (s : State) : Leads .ovenFail s (fun t => t.flag OCX_STATUS.FAIL = true ∧ HwFault.oven ∈ t.light.faults) := by
  refine ⟨_, rfl, State.flag_put_same _ _ _ (by decide), ?_⟩
  unfold ovenFailStep
  dsimp only
  split
  case isTrue h => exact List.contains_iff_mem.1 h
  case isFalse => exact List.mem_append_right _ (List.mem_singleton_self _)

/-- REF_SOURCE_LOSS while REF steers the crystal (R532). -/
theorem exec_refSourceLoss {s : State} (h : s.get OCX_CTRL.SRC = 1) :
    exec .refSourceLoss s = .next (s.puts [(OCX_STATUS.HOLD, 1), (OCX_STATUS.DISC, 0), (OCX_STATUS.REF_LOS, 1)]) := by
  show Host.Outcome.next (refSourceLossStep s) = _
  unfold refSourceLossStep
  rw [State.whenDo_pos (by simp [h])]
  exact congrArg Host.Outcome.next (if_pos h)

/-- REF_SOURCE_RESUME in holdover (R532). -/
theorem exec_refSourceResume {s : State} (h : s.get OCX_CTRL.SRC ≠ 0) (hh : s.flag OCX_STATUS.HOLD = true) :
    exec .refSourceResume s = .next s.steer :=
  congrArg Host.Outcome.next (State.whenDo_pos (by simp [h, hh]))

/-- SYNTH_UNLOCK of locked synthesisers: launching is held (R533). -/
theorem synthUnlock_holds {s : State} (h : s.flag OCX_STATUS.SYN_LOCK = true) :
    Leads .synthUnlock s (fun t => t.flag OCX_STATUS.SYN_UNLK = true ∧ t.light.hold = true) :=
  ⟨_, congrArg Host.Outcome.next (State.whenDo_pos h), State.flag_put_same _ _ _ (by decide), rfl⟩

theorem exec_synthRelock {s : State} (h : s.flag OCX_STATUS.SYN_LOCK = false) :
    exec .synthRelock s = .next ((s.put OCX_STATUS.SYN_LOCK 1).clearFault .synth) :=
  congrArg Host.Outcome.next (State.whenDo_pos (by simp [h]))

theorem exec_synthLockTimeout {s : State} (h : s.flag OCX_STATUS.SYN_LOCK = false) :
    exec .synthLockTimeout s = .next (({ s with tb := { s.tb with synLate := true } }).hwFault .synth) :=
  congrArg Host.Outcome.next (State.whenDo_pos (by simp [h]))

/-! ## Edges -/

/-- PPS_OUT_EDGE raises the pin where no pulse is in progress (R537). -/
theorem ppsOutEdge_raises {s : State} (he : s.power.episode = none) (hp : s.flag OCX_CTRL.PPS_EN = true) (ho : s.power.pins.ppsOut = false) :
    Leads .ppsOutEdge s (fun t => t.power.pins.ppsOut = true) := by
  refine ⟨_, congrArg Host.Outcome.next (State.whenDo_pos (by simp [he, hp, ho])), ?_⟩
  dsimp only
  rw [State.emit_power]

theorem State.at_tb (s : State) (t : Ts) : (s.at t).tb = s.tb := State.at_within.comp .tb (by decide)

/-- The first edge of an input is timestamped (R538). -/
theorem State.stampEdge_first {s : State} {input : Nat} (h : s.tb.lastEdge.getD input none = none) (t : Ts) :
    s.stampEdge input t = ({ s with tb := { s.tb with lastEdge := setAt s.tb.lastEdge input (some (stamp t)) } }, some (stamp t)) := by
  unfold State.stampEdge
  rw [h]

/-- A second edge at one timestamp is only counted (R538). -/
theorem State.stampEdge_again {s : State} {input : Nat} {t : Ts} (h : s.tb.lastEdge.getD input none = some (stamp t)) :
    s.stampEdge input t = (s.countSat OCX_STATUS.CLOSE_EDGES, none) := by
  unfold State.stampEdge
  rw [h]
  exact if_pos ⟨Nat.lt_add_of_pos_right (by decide), le_rfl⟩

theorem exec_ppsInEdge_first {ts : Ts} {u s : State} (he : s.power.episode = none) (hu : u = s.at ts) (h : s.tb.lastEdge.getD 4 none = none) :
    exec (.ppsInEdge ts) s = .next (({ u with tb := { u.tb with lastEdge := setAt u.tb.lastEdge 4 (some (stamp ts)) } }).ppsWindow (stamp ts)) := by
  subst hu
  show Host.Outcome.next (ppsInEdgeStep ts s) = _
  unfold ppsInEdgeStep
  rw [State.whenDo_pos (by rw [he]; rfl), State.stampEdge_first (by rwa [State.at_tb])]

theorem exec_evtEdge_again {x : Fin 4} {rising : Bool} {ts : Ts} {u s : State} (he : s.power.episode = none) (hu : u = s.at ts)
    (hs : s.edgeSelected x.val rising = true) (h : s.tb.lastEdge.getD x.val none = some (stamp ts)) :
    exec (.evtEdge x rising ts) s = .next (u.countSat OCX_STATUS.CLOSE_EDGES) := by
  subst hu
  show Host.Outcome.next (evtEdgeStep x.val rising ts s) = _
  unfold evtEdgeStep
  rw [State.whenDo_pos (by rw [he, hs]; rfl), State.stampEdge_again (by rwa [State.at_tb])]

/-! ## The test access port -/

theorem State.tapSelect_plain (s : State) (i : TapInstr) : s.tapSelect i false = s.modTap (fun t => { t with ir := i }) := rfl

/-- While scan is not enabled, an instruction that needs it selects BYPASS (R765). -/
theorem State.tapSelect_scanOff {s : State} (h : s.scanOn = false) (i : TapInstr) :
    s.tapSelect i true = s.modTap (fun t => { t with ir := .bypass }) := by
  unfold State.tapSelect
  rw [h]
  rfl

theorem State.tapSelect_scanOn {s : State} (h : s.scanOn = true) (i : TapInstr) : s.tapSelect i true = s.modTap (fun t => { t with ir := i }) := by
  unfold State.tapSelect
  rw [h]
  rfl

/-- The instructions that need scan, each with what it selects (R765). -/
theorem exec_scanInstr {c : Instr} {i : TapInstr}
    (h : (c, i) ∈ [(Instr.extest, TapInstr.extest), (.clamp, .clamp), (.highz, .highz), (.intscan, .intscan)]) (s : State) :
    exec c s = .next (s.tapSelect i true) := by
  simp only [List.mem_cons, List.not_mem_nil, or_false, Prod.mk.injEq] at h
  obtain ⟨rfl, rfl⟩ | ⟨rfl, rfl⟩ | ⟨rfl, rfl⟩ | ⟨rfl, rfl⟩ := h <;> rfl

theorem scanInstr_selects {c : Instr} (h : c ∈ [Instr.extest, .clamp, .highz, .intscan]) :
    ∃ i, (c, i) ∈ [(Instr.extest, TapInstr.extest), (.clamp, .clamp), (.highz, .highz), (.intscan, .intscan)] := by
  simp only [List.mem_cons, List.not_mem_nil, or_false] at h
  obtain rfl | rfl | rfl | rfl := h <;> simp

theorem State.scanCheck_unmatched {s : State} (h : s.tap.matched = false) : s.scanCheck = s := by
  unfold State.scanCheck
  rw [h, Bool.and_false, Bool.false_and, if_neg Bool.false_ne_true]

/-- A wrong RESPONSE (R767). -/
theorem response_wrong {value : BitVec 128} {s : State} (h : value ≠ s.scanResponse) :
    Leads (.response value) s (fun t => t.tap.response = value ∧ t.tap.matched = false) := by
  have hw : (value == s.scanResponse) = false := by simpa using h
  refine ⟨_, rfl, ?_⟩
  unfold responseStep
  dsimp only
  rw [hw, if_neg Bool.false_ne_true, State.scanCheck_unmatched (by rw [State.countSat_tap]; rfl), State.countSat_tap]
  exact ⟨rfl, rfl⟩

/-- PERMIT by the owner in an authenticated session (R767). -/
theorem exec_permit {path : Path} {s : State} (he : s.power.episode = none) (ho : s.pathOwns path = true) (ha : (s.sess s.owner).auth = true) :
    exec (.permit path) s = .next ((({ s with tap := { s.tap with permit := some (s.owner, s.cyc) } }).put KEY_JTAG.PERMIT 1).scanCheck) := by
  show Host.Outcome.next (s.acted path 0x170004 (s.permitAct path)) = _
  unfold State.permitAct
  rw [if_pos (by rw [ho, ha]; rfl), State.acted_ok he]

theorem exec_permitExpire {s : State} (h : s.tap.permit.isSome = true) :
    exec .permitExpire s = .next (((s.atCyc s.permitEnd).modTap (fun t => { t with permit := none })).put KEY_JTAG.PERMIT 0) :=
  congrArg Host.Outcome.next (State.whenDo_pos h)

end Sys2Proof.Machine
end

section
/-! The next states of the sensing commands, the time base and the test access port together (O54). -/

namespace Sys2Proof.Machine

/-- Settles O54: each command by the lemma of its own above. That RESTORE_FACTORY answers BUSY while one waits, so that it is accepted here
only while none does, is log entry 195. -/
theorem sensingTimeAndTestCommandsRun : Obligations.SensingTimeAndTestCommandsRun := by
  unfold Obligations.SensingTimeAndTestCommandsRun
  refine ⟨?shot, ?fold, ?close, ?result, ?read, ?baseline, ?instant, ?trigger, ?empty, ?deliver, ?untaken, ?frame, ?capture, ?send, ?sent, ?miss,
    ?deadline, ?engine, ?records, ?sensors, ?step, ?retry, ?save, ?base, ?edges, ?port⟩
  case shot => exact fun p pos lanesX lanesY i s => brlShotContribution_noPeriod
  case fold =>
    rintro b u s hb hf rfl
    exact exec_brlFold hb hf
  case close =>
    rintro b g u s hb rfl
    exact exec_periodClose hb
  case result =>
    intro c s hc hb
    obtain ⟨t, ht, hn, hr, -⟩ := brlResultReady_completes (p := .a) hc
    exact ⟨t, ht, hn, hr⟩
  case read => exact fun q p b s h hr => ⟨_, exec_brlRead_one h hr, State.taken_reply_only h ..⟩
  case baseline =>
    intro q p s h hb ho hd
    obtain ⟨t, ht, hn, hbusy, -⟩ := baseline_completes h hb ho hd
    exact ⟨t, ht, hn, hbusy⟩
  case instant =>
    rintro kind src e mine v s he hm rfl
    exact exec_triggerEvaluate he hm
  case trigger => exact fun q u ingress s => exec_trigger
  case empty => exact fun q count s => eventRead_empty
  case deliver => exact fun e n s => eventRecordDeliver_delivers
  case untaken => exact fun g s => exec_ridgeTriggerExecute_untaken
  case frame => exact fun h tref id horizon u s => ridgeTriggerFrame_muted
  case capture =>
    exact fun q c s h => ⟨exec_capArm h, exec_capAbort h, exec_capRelease h,
      fun hs hr => ⟨_, exec_capRead_first h hs hr, State.taken_reply_only h ..⟩⟩
  case send => exact fun q c haddr s => capSend_completes
  case sent => exact fun x s => capSendComplete_last
  case miss => exact historyWriteMiss_gap
  case deadline => exact fun c s => captureWriteDeadline_goesOn
  case engine => exact fun q s h ho => ⟨calRun_answered h ho, restoreFactory_completes h ho⟩
  case records =>
    exact fun q s h => ⟨⟨_, exec_calStatus h, (State.taken_reply_only h ..).2⟩,
      fun d hr => ⟨_, exec_calRead h hr, (State.taken_reply_only h ..).2⟩⟩
  case sensors => exact calSensorRead_temps
  case step => exact fun d s => calMicroStep_clipped
  case retry => exact fun d s => exec_calRetryExpire
  case save => exact fun s => exec_calUserSave
  case base =>
    exact fun s => ⟨rfl, ovenCool_cold s, ovenFail_reported s, exec_refSourceLoss, exec_refSourceResume, synthUnlock_holds,
      fun h => ⟨exec_synthRelock h, exec_synthLockTimeout h⟩, _, rfl, rfl⟩
  case edges =>
    exact fun ts u s he hu => ⟨ppsOutEdge_raises he, exec_ppsInEdge_first he hu, fun x rising => exec_evtEdge_again he hu⟩
  case port =>
    refine fun s => ⟨rfl, rfl, rfl, rfl, rfl, fun h c hc => ?_, fun h c i hc => ?_, fun value => response_wrong, fun path => exec_permit,
      exec_permitExpire⟩
    · obtain ⟨i, hi⟩ := scanInstr_selects hc
      rw [exec_scanInstr hi, State.tapSelect_scanOff h]
    · rw [exec_scanInstr hc, State.tapSelect_scanOn h]

end Sys2Proof.Machine
end

section
/-! SUPPORT. The registers of a capture unit (R301, R305, R312): its window, what arming, freeing and closing show in it, and that
recording leaves the windows of the other units. -/

namespace Sys2Proof.Machine

/-- A list reads at a changed index what it read there, changed. -/
theorem updAt_getD_same {α : Type} {l : List α} {n : Nat} (h : n < l.length) (f : α → α) (d : α) : (updAt l n f).getD n d = f (l.getD n d) :=
  (updAt_getD ..).trans (if_pos ⟨rfl, h⟩)

/-! ## Fields of a unit -/

/-- The OVERDRAWN marks lie in a word of their own (R472). -/
theorem State.updOverdrawn_get (s : State) {f : Fld} (h : f.addr ≠ SYS_SESS.OVERDRAWN.addr) : s.updOverdrawn.get f = s.get f :=
  State.get_put_other _ _ _ _ (.inl (Ne.symm h))

/-- Arming shows ARMED and no flags (R301). -/
theorem State.capArm_shows (s : State) (c : Nat) : (s.capArm c).capState c = 1 ∧ (s.capArm c).get (CAPU_W3.FLAGS c) = 0 := by
  unfold State.capArm State.capState
  rw [State.puts_cons, State.puts_cons, State.puts_cons, State.puts_nil]
  constructor
  · rw [State.get_put_other _ _ _ _ (.inl (by dsimp only; omega)), State.get_put_other _ _ _ _ (.inl (by dsimp only; omega)),
      State.get_put_same _ _ _ (by dsimp only; omega)]
    rfl
  · rw [State.get_put_same _ _ _ (by dsimp only; omega)]
    rfl

theorem State.capFree_get (s : State) (c : Nat) {f : Fld} (hs : (CAPU_W0.STATE c).apart f) (hz : (CAPU_W4.SIZE c).apart f)
    (h : f.addr ≠ SYS_SESS.OVERDRAWN.addr) : (s.capFree c).get f = s.get f := by
  unfold State.capFree
  rw [State.updOverdrawn_get _ h, State.puts_cons, State.puts_cons, State.puts_nil, State.get_put_other _ _ _ _ hz,
    State.get_put_other _ _ _ _ hs]
  rfl

/-- Freeing shows IDLE and no region (R301, R312). -/
theorem State.capFree_shows (s : State) (c : Nat) : (s.capFree c).capState c = 0 ∧ (s.capFree c).get (CAPU_W4.SIZE c) = 0 := by
  unfold State.capFree State.capState
  rw [State.updOverdrawn_get _ (by dsimp only; omega), State.updOverdrawn_get _ (by dsimp only; omega), State.puts_cons, State.puts_cons,
    State.puts_nil]
  constructor
  · rw [State.get_put_other _ _ _ _ (.inl (by dsimp only; omega)), State.get_put_same _ _ _ (by dsimp only; omega)]
    rfl
  · rw [State.get_put_same _ _ _ (by dsimp only; omega)]
    rfl

theorem State.capAbort_frees {s : State} {c : Nat} (h : s.capState c = 1 ∨ s.capState c = 2) : s.capAbort c = s.capFree c :=
  if_pos (by simpa using h)

/-- RELEASE frees the unit, which AUTO_REARM arms again (R301). -/
theorem State.capRelease_frees {s : State} {c : Nat} (h : s.capState c = 3) (hx : s.capSending c = false) :
    s.capRelease c = if s.flag (CAPU_W0.AUTO_REARM c) then (s.capFree c).capArmBit c (s.capOwner c) else s.capFree c := by
  have hr : (s.capFree c).flag (CAPU_W0.AUTO_REARM c) = s.flag (CAPU_W0.AUTO_REARM c) :=
    State.flag_congr (State.capFree_get _ _ (.inr (by dsimp only; omega)) (.inl (by dsimp only; omega)) (by dsimp only; omega))
  have ho : (s.capFree c).capOwner c = s.capOwner c := by
    unfold State.capOwner
    rw [State.capFree_within.comp .qcp (by decide)]
  unfold State.capRelease
  rw [if_neg (by simp [h, hx])]
  dsimp only
  rw [hr, ho]

/-! ## Recording (R301, R303, R307 to R313) -/

/-- A word of a unit's window, or the word of the OVERDRAWN marks: what recording at the unit may write. -/
def ownWord (c a : Nat) : Prop := a = SYS_SESS.OVERDRAWN.addr ∨ (0x091000 + 0x20 * (c % 16) ≤ a ∧ a < 0x091020 + 0x20 * (c % 16))

/-- A step of the recording at a unit: only the unit's own words change, and its STATE stays or turns to CLOSED. -/
structure State.recordsAt (s t : State) (c : Nat) : Prop where
  word : ∀ a, ¬ ownWord c a → t.rd a = s.rd a
  state : t.capState c = s.capState c ∨ t.capState c = 3

namespace State.recordsAt

variable {s t u : State} {c : Nat}

theorem refl (s : State) (c : Nat) : s.recordsAt s c := ⟨fun _ _ => rfl, .inl rfl⟩

theorem trans (h : s.recordsAt t c) (g : t.recordsAt u c) : s.recordsAt u c where
  word a ha := (g.word a ha).trans (h.word a ha)
  state := by
    obtain hu | hu := g.state
    · exact h.state.imp hu.trans hu.trans
    · exact .inr hu

/-- A step that leaves the register space. -/
theorem of_regs (h : t.regs = s.regs) : s.recordsAt t c :=
  ⟨fun _ _ => congrArg (Space.read · _) h, .inl (State.get_congr h _)⟩

theorem ite {p : Prop} [Decidable p] (h : s.recordsAt t c) (g : s.recordsAt u c) : s.recordsAt (if p then t else u) c := by
  split
  · exact h
  · exact g

theorem put {f : Fld} (n : Nat) (hf : ownWord c f.addr) (hs : f.apart (CAPU_W0.STATE c)) : s.recordsAt (s.put f n) c :=
  ⟨fun _ ha => State.rd_put_other _ _ fun h => ha (h ▸ hf), .inl (State.get_put_other _ _ _ _ hs)⟩

theorem foldl {α : Type} {f : State → α → State} {c : Nat} (hf : ∀ (t : State) (x : α), t.recordsAt (f t x) c) (l : List α) (s : State) :
    s.recordsAt (l.foldl f s) c := by
  induction l generalizing s with
  | nil => exact refl s c
  | cons x l ih => exact (hf s x).trans (ih _)

/-- An ACTIVE unit is ACTIVE or CLOSED after recording. -/
theorem goesOn (h : s.recordsAt t c) (hs : s.capState c = 2) : t.capState c = 2 ∨ t.capState c = 3 := h.state.imp_left (·.trans hs)

end State.recordsAt

theorem State.capFlags_records (s : State) (c : Nat) : s.recordsAt (s.capFlags c) c :=
  .put _ (.inr (by dsimp only; omega)) (.inl (by dsimp only; omega))

theorem State.modCap_records (s : State) (c : Nat) (f : Cap → Cap) : s.recordsAt (s.modCap c f) c := .of_regs rfl

theorem State.dramWrite_records (s : State) (c cls owner item len : Nat) : s.recordsAt (s.dramWrite cls owner item len) c := .of_regs rfl

theorem State.capTruncate_records (s : State) (c : Nat) : s.recordsAt (s.capTruncate c) c := by
  unfold State.capTruncate
  split
  · exact .refl s c
  · refine .ite (.refl s c) (.ite (.refl s c) ?_)
    refine (s.modCap_records c _).trans (.trans (.put _ (.inr ?_) (.inl ?_)) (.trans (.put _ (.inr ?_) (.inl ?_)) (.put _ (.inl rfl) (.inl ?_)))) <;>
      dsimp only <;> omega

/-- The close shows CLOSED (R301). -/
theorem State.capClose_closes (s : State) (c : Nat) : (s.capClose c).capState c = 3 := by
  have hp : (s.put (CAPU_W0.STATE c) 3).capState c = 3 := State.get_put_same _ _ _ (by dsimp only; omega)
  obtain h | h := ((State.capTruncate_records _ c).trans (State.capFlags_records _ c)).state
  · exact h.trans hp
  · exact h

theorem State.capClose_records (s : State) (c : Nat) : s.recordsAt (s.capClose c) c where
  word a ha := by
    rw [State.capClose, (State.capFlags_records _ c).word a ha, (State.capTruncate_records _ c).word a ha]
    exact State.rd_put_other _ _ fun h => ha (.inr (by dsimp only at h; omega))
  state := .inr (s.capClose_closes c)

/-- The state in which an interval of a capture has been written (R301, R701). -/
def State.capWritten (s : State) (c : Nat) (i : Interval) : State :=
  ((s.modCap c (fun u => { u with ivs := u.ivs ++ [i], acc := [] })).capFlags c).dramWrite 4 c (s.cap c).ivs.length (4 * i.vals.length)

theorem State.capWritten_records (s : State) (c : Nat) (i : Interval) : s.recordsAt (s.capWritten c i) c :=
  ((s.modCap_records c _).trans (State.capFlags_records _ c)).trans (State.dramWrite_records ..)

theorem State.capStore_records (s : State) (c : Nat) (i : Interval) : s.recordsAt (s.capStore c i) c :=
  .ite ((s.capWritten_records c i).trans (State.capClose_records _ c)) (s.capWritten_records c i)

theorem State.capEndInterval_records (s : State) (c : Nat) : s.recordsAt (s.capEndInterval c) c := State.capStore_records ..

theorem State.capFeed_records (s : State) (c : Nat) (o : HistOut) : s.recordsAt (s.capFeed c o) c := by
  unfold State.capFeed
  split
  · exact .refl s c
  · extract_lets n from_ behind t fed
    have ht : s.recordsAt t c := .foldl (fun t _ => .ite (t.capEndInterval_records c) (.refl t c)) _ s
    have hf : s.recordsAt fed c := ht.trans (t.modCap_records c _)
    exact .ite ht (.ite (hf.trans (fed.capEndInterval_records c)) hf)

theorem State.capBegin_records (s : State) (c st : Nat) (l : List HistOut) : s.recordsAt (s.capBegin c st l) c := by
  unfold State.capBegin
  refine .trans ((s.modCap_records c _).trans (State.capFlags_records _ c)) (.ite (State.capClose_records ..) ?_)
  exact .foldl (fun t o => .ite (t.capFeed_records c o) (.refl t c)) _ _

/-- What a trigger does at a unit begins in a state in which nothing but the unit's own words has changed, and in which a unit that was
ARMED is ACTIVE; the rest is recording (R301). -/
theorem State.capExecute_begins (s : State) (c : Nat) (tref : Int) (late : Bool) (x : CapTook) :
    ∃ u : State, (∀ a, ¬ ownWord c a → u.rd a = s.rd a) ∧ u.recordsAt (s.capExecute c tref late x) c ∧
      (s.capState c = 1 → (s.capOwner c).isSome = true → u.capState c = 2) := by
  have hm : s.recordsAt (s.countSat (CAPU_W3.MISSED c)) c := .put _ (.inr (by dsimp only; omega)) (.inl (by dsimp only; omega))
  unfold State.capExecute
  split
  case isTrue hc =>
    refine ⟨_, hm.word, .refl _ c, fun h1 ho => ?_⟩
    rw [h1, Option.isNone_eq_false_iff.2 ho] at hc
    simp at hc
  case isFalse =>
    extract_lets missed sec shown t u
    have hmiss : s.recordsAt missed c := .ite hm (.refl s c)
    have ht : shown.recordsAt t c := (shown.modCap_records c _).trans (State.capTruncate_records _ c)
    refine ⟨shown, fun a ha => ?word, ht.trans ?rest, fun _ _ => ?active⟩
    case word =>
      refine (State.rd_puts_other _ _ fun p hp h => ha (.inr ?_)).trans (hmiss.word a ha)
      simp only [List.mem_cons, List.not_mem_nil, or_false] at hp
      obtain rfl | rfl | rfl | rfl | rfl := hp <;> dsimp only at h <;> omega
    case rest =>
      refine .ite (t.capClose_records c) ?_
      split
      · exact .ite (State.capBegin_records ..) (.refl t c)
      · exact .refl t c
    case active =>
      unfold shown State.capState
      rw [State.puts_cons, State.get_puts_other, State.get_put_same _ _ _ (by dsimp only; omega)]
      · rfl
      · simp only [List.mem_cons, List.not_mem_nil, or_false]
        rintro p (rfl | rfl | rfl | rfl) <;> exact .inl (by dsimp only; omega)

/-- A trigger at one unit leaves the words of every other. -/
theorem State.capExecute_rd (s : State) {c a : Nat} (tref : Int) (late : Bool) (x : CapTook) (ha : ¬ ownWord c a) :
    (s.capExecute c tref late x).rd a = s.rd a := by
  obtain ⟨u, hu, hr, -⟩ := s.capExecute_begins c tref late x
  exact (hr.word a ha).trans (hu a ha)

/-- An ARMED unit that a session owns takes a trigger: it is ACTIVE, or CLOSED where its recording has come to its end (R301). -/
theorem State.capExecute_takes {s : State} {c : Nat} (h : s.capState c = 1) (ho : (s.capOwner c).isSome = true) (tref : Int) (late : Bool)
    (x : CapTook) : (s.capExecute c tref late x).capState c = 2 ∨ (s.capExecute c tref late x).capState c = 3 := by
  obtain ⟨u, -, hr, ha⟩ := s.capExecute_begins c tref late x
  exact hr.goesOn (ha h ho)

end Sys2Proof.Machine
end

section
/-! Register actions on captures, slots, the interval counter and the pair by their own session (O15: R301, R312, R315, R345, R347, R488,
R544, R545, R617). -/

namespace Sys2Proof.Machine

/-! ## Reed slots (R345, R347) -/

theorem State.rslot_modRslot_same {s : State} {o : Nat} (h : o < s.reed.slots.length) (f : RSlot → RSlot) :
    (s.modRslot o f).rslot o = f (s.rslot o) := updAt_getD_same h ..

/-- The start of a LOADED slot is due 10 µs on (R345). -/
theorem State.reedStart_waits {s : State} {o : Nat} (hs : s.slotState o = 1) (ho : o < s.reed.slots.length) :
    ((s.reedStart o).rslot o).startAt = some (s.now + 10000 * ns) := by
  rw [State.reedStart, if_pos (by simp [hs]), State.rslot_modRslot_same ho]

/-- A STOP of a slot that is not RUNNING cancels its start and nothing else (R347). -/
theorem State.reedStop_cancels {s : State} {o : Nat} (hs : s.slotState o ≠ 2) (ho : o < s.reed.slots.length) :
    ((s.reedStop o).rslot o).startAt = none ∧ (s.reedStop o).slotState o = s.slotState o := by
  have h : s.reedStop o = s.modRslot o (fun y => { y with startAt := none }) := if_neg hs
  rw [h, State.rslot_modRslot_same ho]
  exact ⟨rfl, rfl⟩

/-! ## The interval counter (R544, R545) -/

/-- A measurement starts with no result and no interval counted (R544). -/
theorem State.ticStart_fresh (s : State) (r : Nat) (seq : Option (BitVec 32)) :
    (s.ticStart r seq).get TIC_CTRL.COUNT = 0 ∧ (s.ticStart r seq).flag TICRES_W0.READY = false ∧
      (s.ticStart r seq).tb.tic.starter = some r := by
  unfold State.ticStart
  rw [State.puts_tb, State.puts_cons, State.puts_cons, State.puts_cons, State.puts_nil, State.get_put_other _ _ _ _ (by decide),
    State.get_put_same _ _ _ (by decide), State.flag_put_same _ _ _ (by decide)]
  exact ⟨rfl, rfl, rfl⟩

theorem State.ticCancel_ends (s : State) : s.ticCancel.flag TIC_CTRL.RUN = false ∧ s.ticCancel.tb.tic.starter = none :=
  ⟨State.flag_put_same _ _ _ (by decide), rfl⟩

/-- ABORT before the first counted edge ends the measurement, with the TIC_START it runs for (R545). -/
theorem State.ticAbort_ends {s : State} (hr : s.flag TIC_CTRL.RUN = true) (hc : s.tb.tic.committed = false) :
    s.ticAbort.flag TIC_CTRL.RUN = false ∧ s.ticAbort.tb.tic.starter = none := by
  unfold State.ticAbort
  rw [if_neg (by simp [hr, hc])]
  split
  · rw [State.complete_flag _ _ _ _ _ (by unfold qcpWord; decide), State.complete_tb]
    exact s.ticCancel_ends
  · exact s.ticCancel_ends

/-! ## The pair (R617) -/

theorem State.pairEcho_refAt (s : State) (hseq : BitVec 32) : (s.pairEcho hseq).pair.refAt = some s.now := by
  unfold State.pairEcho State.echoed
  split <;> rfl

/-- Settles O15: each action is that of its rule for the session it belongs to (exec_arm to exec_pairEchoWrite), and shows what the lemmas
above say of it. That a STOP of a slot acts at once is log entry 105. -/
theorem sessionActionsComplete : Obligations.SessionActionsComplete := by
  unfold Obligations.SessionActionsComplete
  refine fun path r s he hp => ⟨?arm, ?abort, ?release, ?start, ?stop, ?tic, ?ticAbort, ?echo⟩
  case arm => exact fun c h => ⟨_, exec_arm he hp h, s.capArm_shows c.val⟩
  case abort =>
    intro c ho hs
    refine ⟨_, exec_captureAbortBit he hp ho, ?_⟩
    rw [State.capAbort_frees hs]
    exact s.capFree_shows c.val
  case release =>
    intro c ho hs hx ha
    refine ⟨_, exec_release he hp ho, ?_⟩
    rw [State.capRelease_frees hs hx, ha, if_neg Bool.false_ne_true]
    exact s.capFree_shows c.val
  case start =>
    exact fun o ho hs hc hd hl => ⟨_, exec_reedStartBit he hp ho (by omega) hc hd, State.reedStart_waits hs hl⟩
  case stop =>
    intro o ho hs hl
    obtain ⟨hn, hk⟩ := State.reedStop_cancels (s := s) (by omega) hl
    exact ⟨_, exec_reedStopBit he hp ho, hn, hk.trans hs⟩
  case tic => exact fun h => ⟨_, exec_ticStartBit he hp h, s.ticStart_runs r none, s.ticStart_fresh r none⟩
  case ticAbort => exact fun hr hs hc => ⟨_, exec_ticAbortBit he hp hs, State.ticAbort_ends hr hc⟩
  case echo => exact fun hseq h => ⟨_, exec_pairEchoWrite he hp hseq h, s.pairEcho_refAt hseq⟩

end Sys2Proof.Machine
end

section
/-! The commands of a capture unit and the limits of its recording (O25: R300, R301, R306, R308, R310, R312, R436, R448, R449, R473,
R702). -/

namespace Sys2Proof.Machine

/-! ## The memory's limits (R300, R308, R310, R702) -/

/-- Writes that the memory did not take are noted as a gap, and their outputs are in the ring no more (R300, R702). -/
theorem historyWriteMiss_discards (stream : Fin 64) (first len : Nat) (s : State) :
    Leads (.historyWriteMiss stream first len) s (fun t => t.regs = s.regs ∧
      t.trg.histGaps = s.trg.histGaps ++ [{ stream := stream.val, first := first, len := len }] ∧
      ∀ o ∈ t.histOf stream.val, stream.val < s.trg.hist.length → o.idx < first ∨ first + len ≤ o.idx) := by
  refine ⟨_, rfl, rfl, rfl, fun o ho hl => ?_⟩
  have hring : (historyWriteMissStep stream.val first len s).histOf stream.val =
      (s.histOf stream.val).filter (fun (o : HistOut) => !(decide (first ≤ o.idx) && decide (o.idx < first + len))) := updAt_getD_same hl ..
  rw [hring] at ho
  simpa using (List.mem_filter.1 ho).2

theorem State.capFlags_state (s : State) (c : Nat) : (s.capFlags c).capState c = s.capState c :=
  State.get_put_other _ _ _ _ (.inl (by dsimp only; omega))

theorem State.capWritten_state (s : State) (c : Nat) (i : Interval) : (s.capWritten c i).capState c = s.capState c :=
  State.capFlags_state ..

theorem State.capWritten_cap {s : State} {c : Nat} (hc : c < s.trg.caps.length) (i : Interval) :
    (s.capWritten c i).cap c = { s.cap c with ivs := (s.cap c).ivs ++ [i], acc := [] } :=
  (State.cap_congr (State.dramWrite_within.comp .trg (by decide)) c).trans (State.cap_modCap_same hc)

/-- The last interval of a capture closes it (R301). -/
theorem State.capStore_eq {s : State} {c : Nat} (hc : c < s.trg.caps.length) (i : Interval) : s.capStore c i =
    if (s.cap c).pre + (s.cap c).post ≤ (s.cap c).ivs.length + 1 then (s.capWritten c i).capClose c else s.capWritten c i := by
  show (if ((s.capWritten c i).cap c).pre + ((s.capWritten c i).cap c).post ≤ ((s.capWritten c i).cap c).ivs.length then _ else _) = _
  rw [State.capWritten_cap hc, List.length_append]
  rfl

/-- The state of a capture unit in which the interval being gathered has lost its outputs (R308, R310). -/
def State.capLost (s : State) (c : Nat) : State := s.modCap c (fun u => { u with acc := [] })

theorem State.capLost_cap {s : State} {c : Nat} (hc : c < s.trg.caps.length) : (s.capLost c).cap c = { s.cap c with acc := [] } :=
  State.cap_modCap_same hc

theorem exec_captureWriteDeadline {c : Fin 16} {s : State} (hs : s.capState c.val = 2) (hst : (s.cap c.val).start.isSome = true) :
    exec (.captureWriteDeadline c false) s = .next ((s.capLost c.val).capEndInterval c.val) := by
  show Host.Outcome.next (captureWriteDeadlineStep c.val false s) = _
  unfold captureWriteDeadlineStep
  rw [State.whenDo_pos (by simpa using hs)]
  dsimp only
  rw [if_pos hst, if_neg Bool.false_ne_true, if_pos hs]
  rfl

/-- CAPTURE_WRITE_DEADLINE: the interval in progress is stored; the last one closes the capture (R301, R308, R310). -/
theorem captureWriteDeadline_stores {c : Fin 16} {s : State} (hs : s.capState c.val = 2) (hst : (s.cap c.val).start.isSome = true)
    (hc : c.val < s.trg.caps.length) : Leads (.captureWriteDeadline c false) s (fun t =>
      ((s.cap c.val).ivs.length + 1 < (s.cap c.val).pre + (s.cap c.val).post →
        t.capState c.val = 2 ∧ (t.cap c.val).ivs.length = (s.cap c.val).ivs.length + 1) ∧
      ((s.cap c.val).pre + (s.cap c.val).post ≤ (s.cap c.val).ivs.length + 1 → t.capState c.val = 3)) := by
  have hlen : c.val < (s.capLost c.val).trg.caps.length := lt_of_lt_of_eq hc (updAt_length ..).symm
  refine ⟨_, exec_captureWriteDeadline hs hst, ?_⟩
  unfold State.capEndInterval
  rw [State.capStore_eq hlen, State.capLost_cap hc]
  refine ⟨fun h => ?goesOn, fun h => ?closes⟩
  case goesOn =>
    rw [if_neg (by simpa using h), State.capWritten_cap hlen, State.capLost_cap hc]
    exact ⟨(State.capWritten_state ..).trans hs, List.length_append⟩
  case closes =>
    rw [if_pos (by simpa using h)]
    exact State.capClose_closes ..

/-! ## Requests (R306, R312, R436, R473) -/

theorem State.within.cutOf {s t : State} {K : List Comp} {B : List Nat} (h : s.within t K B) (hb : 12 ∉ B) : t.cutOf = s.cutOf := by
  funext v
  unfold State.cutOf
  cases v with
  | udp p =>
    have hm : t.get (STR_PORT.MTU p.eth.val) = s.get (STR_PORT.MTU p.eth.val) := by
      refine h.get fun hx => hb ?_
      rwa [show blockOf (STR_PORT.MTU p.eth.val).addr = 12 from (if_pos (by dsimp only; omega)).trans (by dsimp only; omega)] at hx
    dsimp only
    rw [hm]
  | mailbox m => rfl

/-- The reply of an admitted request after an act that leaves the sessions, what left the block, the ports and the perturbations. -/
theorem State.taken_acted_replied {s u : State} {q : ReqHdr} {op : Nat} {K : List Comp} {B : List Nat} (h : s.admits q)
    (hw : (s.taken q op).within u K B) (hq : .qcp ∉ K) (ho : .out ∉ K) (hp : 12 ∉ B) (hc : 24 ∉ B) (st : Nat) (l : List Item) :
    s.replied (u.reply q op st l) q op st l := by
  have hcrc : u.get PTB_CRC.N = 0 := (hw.get (f := PTB_CRC.N) hc).trans h.1.2.2.2
  have hpkt : replyPacket u q op st l = replyPacket s q op st l :=
    (replyPacket_congr (congrArg Qcp.sess (hw.comp .qcp hq)) (hw.cutOf hp) ..).trans (replyPacket_taken ..)
  exact State.replied_congr (hw.comp .out ho) hpkt (State.reply_replied _ _ _ _ _ hcrc)

theorem State.reply_capState (s : State) (q : ReqHdr) (op st : Nat) (l : List Item) (c : Nat) :
    (s.reply q op st l).capState c = s.capState c := State.reply_get _ _ _ _ _ (by unfold qcpWord; dsimp only; omega)

section

variable {q : ReqHdr} {c : Fin 16} {s : State} (h : s.admits q)

include h

theorem capArm_completes (he : (s.taken q 0x0401).armError c.val (some q.session.val) = none) :
    Leads (.capArm q c.val) s (fun t => s.replied t q 0x0401 stOk [] ∧ t.capState c.val = 1) :=
  ⟨_, exec_capArm h he, State.taken_acted_replied h State.capArm_within (by decide) (by decide) (by decide) (by decide) _ _,
    (State.reply_capState ..).trans (State.capArm_shows ..).1⟩

theorem capAbort_completes (ho : s.capOwner c.val = some q.session.val) (hs : s.capState c.val = 1 ∨ s.capState c.val = 2) :
    Leads (.capAbort q c.val) s (fun t => s.replied t q 0x0402 stOk [] ∧ t.capState c.val = 0) := by
  refine ⟨_, exec_capAbort h ho (by omega),
    State.taken_acted_replied h State.capAbort_within (by decide) (by decide) (by decide) (by decide) _ _, ?_⟩
  rw [State.reply_capState, State.capAbort_frees (s := s.taken q 0x0402) hs]
  exact (State.capFree_shows ..).1

theorem capRelease_completes (ho : s.capOwner c.val = some q.session.val) (hs : s.capState c.val = 3) (hx : s.capSending c.val = false) :
    Leads (.capRelease q c.val) s (fun t => s.replied t q 0x0403 stOk [] ∧
      (s.flag (CAPU_W0.AUTO_REARM c.val) = false → t.capState c.val = 0) ∧
      (s.flag (CAPU_W0.AUTO_REARM c.val) = true → ((s.taken q 0x0403).capFree c.val).armError c.val (some q.session.val) = none →
        t.capState c.val = 1)) := by
  have ho' : (s.taken q 0x0403).capOwner c.val = some q.session.val := ho
  refine ⟨_, exec_capRelease h ho hs hx,
    State.taken_acted_replied h State.capRelease_within (by decide) (by decide) (by decide) (by decide) _ _, ?_⟩
  rw [State.reply_capState, State.capRelease_frees (s := s.taken q 0x0403) hs hx, ho', State.taken_flag]
  refine ⟨fun ha => ?_, fun ha he => ?_⟩
  · rw [ha, if_neg Bool.false_ne_true]
    exact (State.capFree_shows ..).1
  · rw [ha, if_pos rfl, State.capArmBit_ok he]
    exact (State.capArm_shows ..).1

/-- CAP_READ of a part of a closed capture's region (R310, R436). -/
theorem exec_capRead {offset count level : Nat} (hs : s.capState c.val = 3) (h1 : 1 ≤ count) (hc : count ≤ 8128) (hl : level ≤ 9)
    (hr : offset + count ≤ (s.cap c.val).region) :
    exec (.capRead q c.val offset count level) s = .next ((s.taken q 0x0404).reply q 0x0404 stOk
      [itData (pieceBlock level (offset + count == (s.cap c.val).region) [] (((s.capRegion c.val).drop offset).take count))]) := by
  have hs' : (s.taken q 0x0404).capState c.val = 3 := hs
  have hcap : (s.taken q 0x0404).cap c.val = s.cap c.val := rfl
  show Host.Outcome.next (s.request q 0x0404 (capReadBody q c.val offset count level) _) = _
  rw [State.request_admits h, capReadBody, if_neg (by omega), hs', hcap, State.capRegion_taken, if_neg (by simp), if_neg (by simp; omega)]

end

/-! ## The sending of a region (R436, R444, R448, R449, R504) -/

/-- CAP_SEND of a closed capture (R436, R448). -/
theorem exec_capSend {q : ReqHdr} {c : Fin 16} {level : Nat} {dest : Option (Fin 2 × Bool × BitVec 128 × BitVec 16)} {haddr : BitVec 64}
    {s : State} (h : s.admitsLong q) (hs : s.capState c.val = 3) (hl : level ≤ 9) (hd : s.dev ≠ 1) :
    exec (.capSend q c.val level dest haddr) s = .next (((s.taken q 0x0405).accepted q 0x0405 c.val).capSendListed
      { session := q.session, seq := q.seq, unit := c.val, level := level, dest := dest, haddr := haddr }) := by
  have hc : c.val ≤ 15 := by omega
  have hfull := State.longsFull_taken h 0x0405
  have hs' : (s.taken q 0x0405).capState c.val = 3 := hs
  have hd' : (s.taken q 0x0405).dev ≠ 1 := hd
  show Host.Outcome.next (s.request q 0x0405 (capSendBody q c.val level dest haddr) _) = _
  rw [State.request_admits h.1, capSendBody, State.checks_pass, State.startLong_accepted hfull]
  · rfl
  · simp [hs', hfull, hc, hd', hl]

theorem capSend_waits {q : ReqHdr} {c : Fin 16} {level : Nat} {dest : Option (Fin 2 × Bool × BitVec 128 × BitVec 16)} {haddr : BitVec 64}
    {s : State} (h : s.admitsLong q) (hs : s.capState c.val = 3) (hl : level ≤ 9) (hd : s.dev ≠ 1) :
    Leads (.capSend q c.val level dest haddr) s (fun t => s.began t q 0x0405 c.val ∧ t.trg.sends = s.trg.sends ++
      [{ session := q.session, seq := q.seq, unit := c.val, level := level, dest := dest, haddr := haddr }]) := by
  have htrg : ((s.taken q 0x0405).accepted q 0x0405 c.val).trg = s.trg := by
    rw [(s.taken_accepted_qcpOnly q 0x0405 c.val).1]
  refine ⟨_, exec_capSend h hs hl hd, State.began_congr (State.capSendListed_qcp ..) (State.capSendListed_out ..)
    (State.taken_accepted_began h 0x0405 c.val), ?_⟩
  show ((s.taken q 0x0405).accepted q 0x0405 c.val).trg.sends ++ _ = _
  rw [htrg]

/-- A CAP_SEND leaves the list of those under way (R449). -/
def State.capSendUnlisted (s : State) (session : Fin 8) (seq : BitVec 32) : State :=
  { s with trg := { s.trg with sends := s.trg.sends.filter (fun y => !(y.session == session && y.seq == seq)) } }

/-- A CAP_SEND whose region has been handed over leaves the list, and its long operation ends (R445, R449). -/
def State.capSendOver (s : State) (session : Fin 8) (seq : BitVec 32) : State :=
  (s.capSendUnlisted session seq).complete session.val seq stOk

theorem State.capSendOver_ends (s : State) (session : Fin 8) (seq : BitVec 32) : s.out <+: (s.capSendOver session seq).out ∧
    (s.capSendOver session seq).trg.sends = s.trg.sends.filter (fun y => !(y.session == session && y.seq == seq)) :=
  ⟨(State.complete_within (s := s.capSendUnlisted session seq)).out, congrArg Trig.sends (State.complete_trg ..)⟩

section

variable {session : Fin 8} {seq : BitVec 32} {x : CapSend} {s : State}
  (h : s.trg.sends.find? (fun x => x.session == session && x.seq == seq) = some x)

include h

/-- CAP_SEND_COMPLETE to the host's memory: the region is written whole (R448, R449). -/
theorem capSendComplete_host (hd : x.dest = none) : Leads (.capSendComplete session seq) s (fun t =>
    s.out ++ [.host x.haddr.toNat (s.capRegion x.unit)] <+: t.out ∧
      t.trg.sends = s.trg.sends.filter (fun y => !(y.session == session && y.seq == seq))) := by
  have hhop : s.capHop x = none := by rw [State.capHop, hd]
  have hexec : exec (.capSendComplete session seq) s = .next ((s.emit (.host x.haddr.toNat (s.capRegion x.unit))).capSendOver session seq) := by
    show Host.Outcome.next (capSendCompleteStep session seq s) = _
    unfold capSendCompleteStep
    rw [h]
    dsimp only
    rw [hhop, hd]
    rfl
  obtain ⟨hout, hsends⟩ := (s.emit (.host x.haddr.toNat (s.capRegion x.unit))).capSendOver_ends session seq
  rw [State.emit_trg] at hsends
  exact ⟨_, hexec, hout, hsends⟩

variable {e : Fin 2} {v6 : Bool} {a : BitVec 128} {port : BitVec 16} (hd : x.dest = some (e, v6, a, port))

include hd

/-- CAP_SEND_COMPLETE to a UDPDEST whose next hop is known: the region leaves in datagrams (R448). -/
theorem capSendComplete_datagrams (hhop : s.capHop x = none) : Leads (.capSendComplete session seq) s (fun t =>
    (s.capDatagrams x e v6 a port).out <+: t.out ∧
      t.trg.sends = s.trg.sends.filter (fun y => !(y.session == session && y.seq == seq))) := by
  have hexec : exec (.capSendComplete session seq) s = .next ((s.capDatagrams x e v6 a port).capSendOver session seq) := by
    show Host.Outcome.next (capSendCompleteStep session seq s) = _
    unfold capSendCompleteStep
    rw [h]
    dsimp only
    rw [hhop, hd]
    rfl
  obtain ⟨hout, hsends⟩ := (s.capDatagrams x e v6 a port).capSendOver_ends session seq
  rw [State.capDatagrams_within.comp .trg (by decide)] at hsends
  exact ⟨_, hexec, hout, hsends⟩

/-- CAP_SEND_COMPLETE to a UDPDEST whose next hop is not known asks for it, and the region waits (R504). -/
theorem exec_capSendComplete_asks (hhop : s.capHop x ≠ none) :
    exec (.capSendComplete session seq) s = .next (s.askHop e.val (s.nextHopOf e.val v6 a)) := by
  have hask : s.capHop x = some (e, s.nextHopOf e.val v6 a) := by
    unfold State.capHop at *
    rw [hd] at *
    dsimp only at *
    split at hhop
    · exact absurd rfl hhop
    · exact if_neg ‹_›
  show Host.Outcome.next (capSendCompleteStep session seq s) = _
  unfold capSendCompleteStep
  rw [h]
  dsimp only
  rw [hask]

end

/-- Settles O25: each command by the lemma of its section. That all datagrams leave at the completion is log entry 103, what the bytes of the
region are log entry 185; the waiting of a UDPDEST for its next hop is the model's reading of R504, which the rules of CAP_SEND do not name. -/
theorem capturesComplete : Obligations.CapturesComplete := by
  unfold Obligations.CapturesComplete
  refine ⟨historyWriteMiss_discards, fun c s => captureWriteDeadline_stores, ?requests, fun q c level dest haddr s => capSend_waits,
    fun session seq x s => capSendComplete_host, ?datagrams⟩
  case requests =>
    refine fun q c s h => ⟨capArm_completes h, fun ho => ⟨capAbort_completes h ho, capRelease_completes h ho⟩, ?_⟩
    exact fun hs offset count level h1 hc hl hr => ⟨_, exec_capRead h hs h1 hc hl hr, State.taken_reply_only h ..⟩
  case datagrams =>
    rintro session seq x e v6 a port u s h hd rfl
    exact ⟨capSendComplete_datagrams h hd, exec_capSendComplete_asks h hd⟩

end Sys2Proof.Machine
end

section
/-! The commands of the trigger units (O26: R277, R282, R285, R290 to R294, R301, R302, R446, R566). -/

namespace Sys2Proof.Machine

/-! ## Event records (R294, R446) -/

/-- The oldest records of a session's units, as many as it asks for (R446). -/
def State.recordsFor (s : State) (q : ReqHdr) (count : Nat) : List EvRec :=
  (s.trg.buf.filter (fun e => s.trgOwner e.unit.val == some q.session.val)).take count

/-- The state in which some records have left the buffer. -/
def State.recordsOut (s : State) (l : List EvRec) : State :=
  ({ s with trg := { s.trg with buf := l.foldl (fun (b : List EvRec) e => b.erase e) s.trg.buf } }).updOcc

theorem State.recordsOut_within (s : State) (l : List EvRec) : s.within (s.recordsOut l) [.trg] [9] := by
  refine State.updOcc_within.step (B := [9]) (State.within_upd ?_ (State.within_refl ..)) (by decide) (by decide)
  intro c hc
  cases c with
  | trg => exact absurd (by decide) hc
  | _ => rfl

theorem exec_eventRead {q : ReqHdr} {count : Nat} {s : State} (h : s.admits q) (h1 : 1 ≤ count) (hc : count ≤ 254) :
    exec (.eventRead q count) s = .next (((s.taken q 0x0303).recordsOut (s.recordsFor q count)).reply q 0x0303 stOk
      [itWords ((s.recordsFor q count).flatMap (·.words))]) := by
  show Host.Outcome.next (s.request q 0x0303 (eventReadBody q count) _) = _
  rw [State.request_admits h, eventReadBody, if_neg (by simp; omega)]
  rfl

/-- EVENT_READ: the records are in the reply and in the buffer no more (R446). -/
theorem eventRead_takes {q : ReqHdr} {count : Nat} {s : State} (h : s.admits q) (h1 : 1 ≤ count) (hc : count ≤ 254) :
    Leads (.eventRead q count) s (fun t =>
      s.replied t q 0x0303 stOk [itWords ((s.recordsFor q count).flatMap (·.words))] ∧
      t.trg.buf = (s.recordsFor q count).foldl (fun (l : List EvRec) e => l.erase e) s.trg.buf) := by
  refine ⟨_, exec_eventRead h h1 hc,
    State.taken_acted_replied h (State.recordsOut_within ..) (by decide) (by decide) (by decide) (by decide) _ _, ?_⟩
  rw [State.reply_trg]
  rfl

/-! ## Units and their samples (R277, R278, R282, R285) -/

/-- A unit of a ridge identifier fires once at an instant that it reads; any other evaluates its samples and takes its part (R285). -/
theorem State.unitTakes_reads {u : Fin 64} {x : TrigIn} {s : State} (h : s.trgReads u.val x.kind x.src = true) :
    s.unitTakes u x = if x.kind = 6 then s.fireOnce u x.raw.toNat else s.evalUnit u x := by
  rw [State.unitTakes, if_neg (by simp [h])]

/-! ## Ridge triggers (R291, R292, R301, R302, R566) -/

/-- Of the scheduled triggers the one that executes next (R302). -/
def nextTrig (a : RidgeTrig) (rest : List RidgeTrig) : RidgeTrig := rest.foldl (fun (b : RidgeTrig) x => if x.before b then x else b) a

/-- A unit accepts the identifier of a ridge trigger (R291). -/
def State.accepts (s : State) (g : RidgeTrig) (c : Nat) : Bool := s.flag (CAPU_W0.RIDGE_EN c) && s.get (CAPU_W0.RIDGE_ID c) == g.id.toNat

/-- A ridge trigger reaches one capture unit (R291). -/
def State.ridgeReaches (g : RidgeTrig) (s : State) (c : Nat) : State :=
  if s.accepts g c then s.capExecute c (g.tref / ns : Nat) g.late
    { inst := if g.late then s.now else g.execAt, ridge := true, first := g.origin.toNat, second := g.seq.toNat }
  else s

/-- The state in which a scheduled trigger has left the list and its instant has come (R292). -/
def State.trigDue (s : State) (g : RidgeTrig) : State := ({ s with ridge := { s.ridge with trigs := s.ridge.trigs.erase g } }).at g.execAt

theorem State.trigDue_get (s : State) (g : RidgeTrig) (f : Fld) : (s.trigDue g).get f = s.get f := State.at_get ..

theorem State.trigDue_capOwner (s : State) (g : RidgeTrig) (c : Nat) : (s.trigDue g).capOwner c = s.capOwner c := by
  unfold State.capOwner State.trigDue
  rw [State.at_within.comp .qcp (by decide)]

theorem exec_ridgeTriggerExecute {a : RidgeTrig} {rest : List RidgeTrig} {s : State} (h : s.ridge.trigs = a :: rest) :
    exec .ridgeTriggerExecute s = .next ((List.range 16).foldl (State.ridgeReaches (nextTrig a rest)) (s.trigDue (nextTrig a rest))) := by
  show Host.Outcome.next (ridgeTriggerExecuteStep s) = _
  unfold ridgeTriggerExecuteStep
  rw [h]
  unfold State.trigDue
  rw [h]
  rfl

theorem State.ridgeReaches_within (g : RidgeTrig) (s : State) (c : Nat) : s.within (s.ridgeReaches g c) [.trg, .dmc] [0, 9] :=
  State.within_ite State.capExecute_within (State.within_refl ..)

theorem State.allReached_within (g : RidgeTrig) (s : State) (l : List Nat) : s.within (l.foldl (State.ridgeReaches g) s) [.trg, .dmc] [0, 9] :=
  State.within_foldl (fun t c ht => ht.trans (t.ridgeReaches_within g c)) (State.within_refl ..)

/-- What decides whether a trigger is taken at a unit is the same in two states: the unit's first word and its owner. -/
structure State.unitAlike (s t : State) (c : Nat) : Prop where
  word : t.rd (CAPU_W0.STATE c).addr = s.rd (CAPU_W0.STATE c).addr
  owner : t.capOwner c = s.capOwner c

namespace State.unitAlike

variable {s t : State} {c : Nat} (h : s.unitAlike t c)

include h

theorem capState : t.capState c = s.capState c := congrArg (CAPU_W0.STATE c).ofWord h.word

theorem accepts (g : RidgeTrig) : t.accepts g c = s.accepts g c := by
  unfold State.accepts State.flag State.get
  rw [h.word]

end State.unitAlike

/-- A trigger at one unit leaves another as it was. -/
theorem State.ridgeReaches_other (g : RidgeTrig) (s : State) {c d : Nat} (hc : c < 16) (hd : d < 16) (h : d ≠ c) :
    s.unitAlike (s.ridgeReaches g d) c where
  word := by
    unfold State.ridgeReaches
    split
    · exact State.capExecute_rd _ _ _ _ (by unfold ownWord; dsimp only; omega)
    · rfl
  owner := by
    unfold State.capOwner
    rw [(s.ridgeReaches_within g d).comp .qcp (by decide)]

theorem State.othersReached_alike (g : RidgeTrig) {c : Nat} (hc : c < 16) {l : List Nat} (hl : ∀ d ∈ l, d < 16 ∧ d ≠ c) (s : State) :
    s.unitAlike (l.foldl (State.ridgeReaches g) s) c := by
  induction l generalizing s with
  | nil => exact ⟨rfl, rfl⟩
  | cons d l ih =>
    obtain ⟨hd, hne⟩ := hl d (List.mem_cons_self ..)
    have h := s.ridgeReaches_other g hc hd hne
    have hr := ih (fun e he => hl e (List.mem_cons_of_mem _ he)) (s.ridgeReaches g d)
    exact ⟨hr.word.trans h.word, hr.owner.trans h.owner⟩

/-- A trigger that reaches every unit once is taken by an ARMED one that accepts it (R291, R301). -/
theorem State.allReached_takes {g : RidgeTrig} {s : State} {c : Nat} (hc : c < 16) (ha : s.accepts g c = true) (hs : s.capState c = 1)
    (ho : (s.capOwner c).isSome = true) : ((List.range 16).foldl (State.ridgeReaches g) s).capState c = 2 ∨
      ((List.range 16).foldl (State.ridgeReaches g) s).capState c = 3 := by
  obtain ⟨before, after, hl⟩ := List.append_of_mem (List.mem_range.2 hc)
  have hlt : ∀ d ∈ before ++ c :: after, d < 16 := fun d hd => List.mem_range.1 (hl ▸ hd)
  have hne : ∀ d ∈ before ++ after, d ≠ c := by
    rintro d hd rfl
    exact (List.nodup_cons.1 (List.nodup_middle.1 (hl ▸ List.nodup_range))).1 hd
  have hb := State.othersReached_alike g hc (l := before)
    (fun d hd => ⟨hlt d (List.mem_append_left _ hd), hne d (List.mem_append_left _ hd)⟩) s
  have htook := State.capExecute_takes (hb.capState.trans hs) (by rw [hb.owner]; exact ho)
  rw [hl, List.foldl_append, List.foldl_cons]
  have hrest := State.othersReached_alike g hc (l := after)
    (fun d hd => ⟨hlt d (by simp [hd]), hne d (List.mem_append_right _ hd)⟩) ((before.foldl (State.ridgeReaches g) s).ridgeReaches g c)
  rw [hrest.capState, State.ridgeReaches, if_pos ((hb.accepts g).trans ha)]
  exact htook ..

theorem State.allReached_untaken {g : RidgeTrig} {s : State} {l : List Nat} (h : ∀ c ∈ l, s.flag (CAPU_W0.RIDGE_EN c) = false) :
    l.foldl (State.ridgeReaches g) s = s := State.fold_ridgeEn_clear _ _ _ _ h

/-- The next scheduled trigger executes at its instant (R291, R292, R302). -/
theorem ridgeTriggerExecute_reaches {a : RidgeTrig} {rest : List RidgeTrig} {s : State} (h : s.ridge.trigs = a :: rest) :
    Leads .ridgeTriggerExecute s (fun t => t.ridge.trigs = s.ridge.trigs.erase (nextTrig a rest) ∧ t.now = max s.now (nextTrig a rest).execAt ∧
      ((∀ c : Fin 16, s.flag (CAPU_W0.RIDGE_EN c.val) = false) → t = s.trigDue (nextTrig a rest)) ∧
      (∀ c : Fin 16, s.flag (CAPU_W0.RIDGE_EN c.val) = true → s.get (CAPU_W0.RIDGE_ID c.val) = (nextTrig a rest).id.toNat →
        s.capState c.val = 1 → (s.capOwner c.val).isSome = true → t.capState c.val = 2 ∨ t.capState c.val = 3)) := by
  refine ⟨_, exec_ridgeTriggerExecute h, ?_⟩
  generalize nextTrig a rest = g
  have hw := (s.trigDue g).allReached_within g (List.range 16)
  refine ⟨?list, ?time, fun hn => ?untaken, fun c he hi hs ho => ?taken⟩
  case list =>
    rw [hw.comp .ridge (by decide), State.trigDue, State.at_within.comp .ridge (by decide)]
  case time =>
    have hclk := hw.comp .clk (by decide)
    rw [State.now, hclk]
    exact State.at_now ..
  case untaken =>
    refine State.allReached_untaken fun c hc => ?_
    rw [State.flag, State.trigDue_get]
    exact hn ⟨c, List.mem_range.1 hc⟩
  case taken =>
    have hen : (s.trigDue g).flag (CAPU_W0.RIDGE_EN c.val) = true := (State.flag_congr (State.trigDue_get ..)).trans he
    have hid : (s.trigDue g).get (CAPU_W0.RIDGE_ID c.val) = g.id.toNat := (State.trigDue_get ..).trans hi
    exact State.allReached_takes c.isLt (by simp [State.accepts, hen, hid]) ((State.trigDue_get ..).trans hs) (by rwa [State.trigDue_capOwner])

/-- Settles O26: each command by the lemma of its section. The instants of all the sources of one time taken together, and a TRIGGER in SHADOW that
answers OK without a firing, are log entry 169. -/
theorem triggersComplete : Obligations.TriggersComplete := by
  unfold Obligations.TriggersComplete
  refine ⟨?evaluate, ?unit, ?trigger, ?read, fun e n s => eventRecordDeliver_delivers, ?frame, ?execute⟩
  case evaluate =>
    rintro kind src e mine v s h hm rfl
    exact exec_triggerEvaluate h hm
  case unit =>
    rintro u x r s h rfl
    rw [State.unitTakes_reads h]
    exact ⟨fun hk => if_pos hk, fun hk => if_neg hk⟩
  case trigger =>
    intro q u ingress s h hon hk ho hd
    rw [exec_trigger h hon hk ho hd]
    exact ⟨fun hm => by rw [hm]; rfl, fun hm => by rw [hm]; rfl⟩
  case read =>
    rintro q count mine s h h1 hc rfl
    exact eventRead_takes h h1 hc
  case frame =>
    rintro h tref id horizon u v s hr hl ho hu hs rfl
    exact congrArg Host.Outcome.next (State.ringFrame_first _ hr hl ho hu hs)
  case execute =>
    rintro a g rest u s h rfl rfl
    exact ridgeTriggerExecute_reaches h

end Sys2Proof.Machine
end

section
/-! SUPPORT. An instruction of a reed unit that is idle: what it issues, and how the unit goes on (R360 to R364, R366, R369 to R372). -/

namespace Sys2Proof.Machine

/-! ## Lists with one element changed -/

theorem updAt_updAt {α : Type} (l : List α) (n : Nat) (f g : α → α) : updAt (updAt l n f) n g = updAt l n (fun x => g (f x)) := by
  induction l generalizing n with
  | nil => rfl
  | cons a t ih => cases n with
    | zero => rfl
    | succ n => exact congrArg (a :: ·) (ih n)

theorem updAt_fixed {α : Type} {l : List α} {n : Nat} {f : α → α} {d : α} (h : f (l.getD n d) = l.getD n d) : updAt l n f = l := by
  induction l generalizing n with
  | nil => rfl
  | cons a t ih => cases n with
    | zero => exact congrArg (· :: t) h
    | succ n => exact congrArg (a :: ·) (ih h)

/-! ## A unit at rest -/

theorem State.modRunit_modRunit (s : State) (u : Nat) (f g : RUnit → RUnit) :
    (s.modRunit u f).modRunit u g = s.modRunit u (fun x => g (f x)) := by
  unfold State.modRunit
  rw [updAt_updAt]

theorem State.runit_modRunit_same {s : State} {u : Nat} (h : u < s.reed.units.length) (f : RUnit → RUnit) :
    (s.modRunit u f).runit u = f (s.runit u) := updAt_getD_same h ..

/-- With no write under way nothing settles (R364). -/
theorem State.rSettle_rested {s : State} {u : Nat} (h : (s.runit u).pend = []) : s.rSettle u = s := by
  have hx : ∀ x : RUnit, x.pend = [] → { x with pend := x.pend.filter (fun e => !decide (e.1 ≤ x.cyc)) } = x := by
    rintro x hx
    rw [hx, List.filter_nil, ← hx]
  have hu : s.modRunit u (fun x => { x with pend := x.pend.filter (fun e => !decide (e.1 ≤ x.cyc)) }) = s := by
    unfold State.modRunit
    rw [updAt_fixed (d := {}) (hx _ h)]
  rw [State.rSettle, h, hu]
  rfl

/-- A unit that sequences itself, runs no slot, and has no write under way and no loop open. -/
structure State.idleUnit (s : State) (u : Nat) : Prop where
  own : s.unitOf u = u
  slot : s.runningOn u = none
  inRange : u < s.reed.units.length
  settled : (s.runit u).pend = []
  unlooped : (s.runit u).loops = []

theorem State.restingUnit.split {s : State} {u : Fin 16} (h : s.restingUnit u) : s.unitWhole u = false := by
  simp [State.unitWhole, h.1]

theorem State.restingUnit.idle {s : State} {u : Fin 16} (h : s.restingUnit u) : s.idleUnit u where
  own := if_neg (by simp [h.split])
  slot := by simp [State.runningOn, State.unitSlot, h.1]
  inRange := h.2.1
  settled := h.2.2.1
  unlooped := h.2.2.2

/-! ## What an instruction issues (R363, R366) -/

/-- The opcodes that issue their writes in one cycle and go on to the next instruction: all but the delay line's and the sequencer's. -/
def ROp.plain : ROp → Bool
  | .dtap | .dput | .dget | .loop | .loopr | .rotw | .endPass => false
  | _ => true

/-- The writes of an opcode outside the delay line: its arithmetic in every lane, its shared registers, its moves. -/
def State.opWrites (s : State) (u : Nat) (op : ROp) (a : ReedArgs) : List (Nat × RWr) :=
  (s.lanesOf u).flatMap (fun p => laneOp op a (s.runit u).rb p.2 p.1) ++ (s.runit u).shared op a ++
    ((if op.imm then [] else s.mvAll u true a.ym) ++ s.mvAll u false a.xm)

/-- A unit that has issued writes and spent cycles. -/
def RUnit.issued (x : RUnit) (l : List (Nat × RWr)) (n : Nat) : RUnit :=
  { x with pend := x.pend ++ l.map (fun e => (x.cyc + e.1, e.2)), cyc := x.cyc + n }

/-- An empty move field writes nothing (R360). -/
theorem State.mvAll_zero (s : State) (u : Nat) (isY : Bool) : s.mvAll u isY 0 = [] := by
  have hl : (s.lanesOf u).flatMap (fun p => s.mvLane u (s.runit u) isY 0 p.2 p.1) = [] := List.flatMap_eq_nil_iff.2 fun _ _ => rfl
  show _ ++ (s.runit u).mvPtrWrite 0 = []
  rw [hl]
  rfl

/-- Without moves an opcode issues its arithmetic and its shared registers. -/
theorem State.opWrites_unmoved (s : State) (u : Nat) {op : ROp} {a : ReedArgs} (hx : a.xm = 0) (hy : op.imm = true ∨ a.ym = 0) :
    s.opWrites u op a = (s.lanesOf u).flatMap (fun p => laneOp op a (s.runit u).rb p.2 p.1) ++ (s.runit u).shared op a := by
  have hm : (if op.imm then [] else s.mvAll u true a.ym) = [] := by
    obtain h | h := hy
    · exact if_pos h
    · rw [h, s.mvAll_zero, ite_self]
  rw [State.opWrites, hm, hx, s.mvAll_zero, List.append_nil, List.append_nil]

/-- A unit has issued the writes of an opcode and spent its cycles. -/
def State.opIssued (s : State) (u : Nat) (op : ROp) (a : ReedArgs) : State :=
  (s.rIssue u (s.opWrites u op a)).modRunit u (fun x => { x with cyc := x.cyc + op.cycles a })

theorem State.opIssued_runit {s : State} {u : Nat} (h : u < s.reed.units.length) (op : ROp) (a : ReedArgs) (f : RUnit → RUnit) :
    ((s.opIssued u op a).modRunit u f).runit u = f ((s.runit u).issued (s.opWrites u op a) (op.cycles a)) := by
  unfold State.opIssued State.rIssue
  rw [State.modRunit_modRunit, State.modRunit_modRunit, State.runit_modRunit_same h]
  rfl

section

variable {s : State} {u : Nat} (hp : (s.runit u).pend = []) (a : ReedArgs)

include hp

theorem State.reedIssue_plain {op : ROp} (h : op.plain = true) :
    s.reedIssue u op a = (s.opIssued u op a).modRunit u (fun x => x.goOn x.pc) := by
  unfold State.reedIssue
  rw [State.rSettle_rested hp]
  cases op
  case dtap | dput | dget | loop | loopr | rotw | endPass => cases h
  all_goals rfl

theorem State.reedIssue_loop : s.reedIssue u .loop a = (s.opIssued u .loop a).modRunit u (fun x => x.openLoop a a.imm16) := by
  unfold State.reedIssue
  rw [State.rSettle_rested hp]
  rfl

theorem State.reedIssue_loopr :
    s.reedIssue u .loopr a = ((s.opIssued u .loopr a).drew).modRunit u (fun x => x.openLoop a (s.looprCount u a)) := by
  unfold State.reedIssue
  rw [State.rSettle_rested hp]
  rfl

theorem State.reedIssue_rotw :
    s.reedIssue u .rotw a = (s.opIssued u .rotw a).modRunit u (fun x => ({ x with rb := (x.rb + 15) % 16 }).goOn x.pc) := by
  unfold State.reedIssue
  rw [State.rSettle_rested hp]
  rfl

theorem State.reedIssue_endPass : s.reedIssue u .endPass a = (s.opIssued u .endPass a).modRunit u (fun x => { x with ended := true }) := by
  unfold State.reedIssue
  rw [State.rSettle_rested hp]
  rfl

end

/-! ## An instruction on an idle unit -/

/-- The command of every opcode is the opcode on its unit. -/
theorem exec_reedInstr (op : ROp) (u : Fin 16) (a : ReedArgs) (s : State) : exec (op.instr u a) s = .next (reedInstr op u.val a s) := by
  cases op <;> rfl

/-- A defined instruction in its place has its effect, and an `end` leaves no write under way. -/
theorem State.idleUnit.acts {s : State} {u : Nat} (h : s.idleUnit u) {op : ROp} {a : ReedArgs} (hok : reedOk op a = true)
    (hbad : s.reedBad u op a = false) :
    reedInstr op u a s = if op = .endPass then (s.reedIssue u op a).rFlush u else s.reedIssue u op a := by
  unfold reedInstr
  rw [h.own]
  dsimp only
  rw [h.slot]
  dsimp only
  rw [if_neg (by simp [hok, hbad])]
  cases op <;> rfl

/-- A defined instruction in its place, but for an `end`, leads to what it issues. -/
theorem State.idleUnit.exec_issues {s t : State} {u : Fin 16} {op : ROp} {a : ReedArgs} (h : s.idleUnit u.val) (hok : reedOk op a = true)
    (hbad : s.reedBad u.val op a = false) (he : op ≠ .endPass) (ht : s.reedIssue u.val op a = t) : exec (op.instr u a) s = .next t := by
  rw [exec_reedInstr, h.acts hok hbad, if_neg he, ht]

theorem RUnit.goOn_unlooped {x : RUnit} (h : x.loops = []) (pc : Nat) : x.goOn pc = { x with pc := pc + 1 } := by
  cases x
  cases h
  rfl

theorem RUnit.issued_pend {x : RUnit} (h : x.pend = []) (l : List (Nat × RWr)) (n : Nat) :
    (x.issued l n).pend = l.map (fun e => (x.cyc + e.1, e.2)) := by
  rw [RUnit.issued, h, List.nil_append]

/-- What a command issues shows in the unit that has gone on past it. -/
theorem State.idleUnit.issues_of {s t : State} {u : Fin 16} {c : Instr} {n : Nat} {l : List (Nat × RWr)} (h : s.idleUnit u.val)
    (he : exec c s = .next t) (hu : t.runit u.val = ((s.runit u.val).issued l n).goOn (s.runit u.val).pc) (hr : t.regs = s.regs) :
    s.issues u c n l := by
  rw [RUnit.goOn_unlooped (x := RUnit.issued ..) h.unlooped] at hu
  refine ⟨t, he, ?_, ?_, ?_, hr⟩ <;> rw [hu]
  · exact RUnit.issued_pend (n := n) h.settled l
  · rfl

/-- An opcode of one cycle issues its arithmetic and its shared registers and goes on (R363, R366). -/
theorem State.idleUnit.issues {s : State} {u : Fin 16} (h : s.idleUnit u.val) {op : ROp} {a : ReedArgs} (hok : reedOk op a = true)
    (hop : op.plain = true) (hbad : s.reedBad u.val op a = false) (hx : a.xm = 0) (hy : op.imm = true ∨ a.ym = 0) :
    s.issues u (op.instr u a) 1
      ((s.lanesOf u.val).flatMap (fun p => laneOp op a (s.runit u.val).rb p.2 p.1) ++ (s.runit u.val).shared op a) := by
  have he : op ≠ .endPass := by rintro rfl; cases hop
  have hc : op.cycles a = 1 := by
    cases op
    case dtap | dput | dget | loop | loopr | endPass => cases hop
    all_goals rfl
  refine h.issues_of (h.exec_issues hok hbad he rfl) ?_ ?_
  · rw [State.reedIssue_plain h.settled a hop, State.opIssued_runit h.inRange, hc, State.opWrites_unmoved _ _ hx hy]
    rfl
  · rw [State.reedIssue_plain h.settled a hop]
    rfl

/-! ## The arithmetic and move opcodes (R366 to R368) -/

/-- The opcodes 0x10 to 0x23: arithmetic and moves between registers and accumulators. -/
def ROp.arith (op : ROp) : Bool := decide (0x10 ≤ op.code) && decide (op.code ≤ 0x23)

/-- An arithmetic opcode issues in each of the eight lanes what the lane's registers give. -/
theorem State.restingUnit.lanesIssue {s : State} {u : Fin 16} (h : s.restingUnit u) {op : ROp} {a : ReedArgs} (hop : op.arith = true)
    (hx : a.xm = 0) (hy : op.imm = true ∨ a.ym = 0) (hok : reedOk op a = true) :
    s.lanesIssue u (op.instr u a) (laneOp op a (s.runit u.val).rb) := by
  have hk : op.plain = true ∧ (s.runit u.val).shared op a = [] ∧ s.reedBad u.val op a = false := by
    cases op
    case nop | endPass | loop | loopr | ldp | addp | setam | setq | rotw | dtap | sethd | dput | dget => cases hop
    all_goals exact ⟨rfl, rfl, rfl⟩
  obtain ⟨hp, hs, hb⟩ := hk
  have hi := h.idle.issues hok hp hb hx hy
  have hl : s.lanesOf u.val = ((s.runit u.val).lanes.take 8).zipIdx := by
    rw [State.lanesOf, State.laneCount, h.split, if_neg Bool.false_ne_true]
  rwa [hs, hl, List.append_nil] at hi

/-! ## The sequencer's opcodes (R334, R357, R366, R371, R372) -/

theorem laneOp_unarith {op : ROp} (h : op.arith = false) (a : ReedArgs) (rb l : Nat) (y : RLane) : laneOp op a rb l y = [] := by
  cases op
  case mpy | mac | msu | sqa | adda | suba | addi | adds | shra | shla | absa | bexp | nrm | movad | movda | movi | mov | movf | mant | ash =>
    cases h
  all_goals rfl

theorem State.lanes_unarith (s : State) (u : Nat) {op : ROp} (h : op.arith = false) (a : ReedArgs) :
    (s.lanesOf u).flatMap (fun p => laneOp op a (s.runit u).rb p.2 p.1) = [] :=
  List.flatMap_eq_nil_iff.2 fun _ _ => laneOp_unarith h ..

/-- An opcode of the registers that the lanes share issues its write of them. -/
theorem State.idleUnit.issues_shared {s : State} {u : Fin 16} (h : s.idleUnit u.val) {op : ROp} {a : ReedArgs} (hok : reedOk op a = true)
    (ha : op.arith = false) (hop : op.plain = true) (hbad : s.reedBad u.val op a = false) (hx : a.xm = 0) (hy : op.imm = true ∨ a.ym = 0) :
    s.issues u (op.instr u a) 1 ((s.runit u.val).shared op a) := by
  have hi := h.issues hok hop hbad hx hy
  rwa [s.lanes_unarith _ ha, List.nil_append] at hi

/-- With no write under way the end of a pass leaves the unit as it is. -/
theorem State.rFlush_rested {s : State} {u : Nat} (hu : u < s.reed.units.length) (hp : (s.runit u).pend = []) : s.rFlush u = s := by
  have h4 : ((s.modRunit u (fun x => { x with cyc := x.cyc + 4 })).runit u).pend = [] := by
    rw [State.runit_modRunit_same hu]
    exact hp
  rw [State.rFlush, State.rSettle_rested h4, State.modRunit_modRunit]
  unfold State.modRunit
  rw [updAt_fixed (d := {}) rfl]

/-- No loop is open, so one more may open (R371). -/
theorem State.idleUnit.loopOk {s : State} {u : Nat} (h : s.idleUnit u) (len : Nat) : (s.runit u).loopOk len = true := by
  rw [RUnit.loopOk, h.unlooped]
  rfl

section

variable {s : State} {u : Fin 16} {a : ReedArgs} (h : s.idleUnit u.val) (hx : a.xm = 0)

include h hx

/-- An opcode of the sequencer issues no write of its own, and acts on the unit when its cycles are spent. -/
theorem State.idleUnit.sequences {op : ROp} (ha : op.arith = false) (hs : (s.runit u.val).shared op a = []) (hy : op.imm = true ∨ a.ym = 0)
    (f : RUnit → RUnit) :
    ((s.opIssued u.val op a).modRunit u.val f).runit u.val = f { s.runit u.val with cyc := (s.runit u.val).cyc + op.cycles a } := by
  rw [State.opIssued_runit h.inRange, State.opWrites_unmoved _ _ hx hy, s.lanes_unarith _ ha, hs, RUnit.issued, List.nil_append,
    List.map_nil, List.append_nil]

theorem State.idleUnit.endPass_ends (hok : reedOk .endPass a = true) (hy : a.ym = 0) : Leads (.endPass u a) s (fun t =>
    (t.runit u.val).ended = true ∧ (t.runit u.val).pc = (s.runit u.val).pc ∧ (t.runit u.val).cyc = (s.runit u.val).cyc + 12 ∧
      (t.runit u.val).pend = []) := by
  have hu : (s.reedIssue u.val .endPass a).runit u.val = { s.runit u.val with cyc := (s.runit u.val).cyc + 12, ended := true } := by
    rw [State.reedIssue_endPass h.settled a]
    exact h.sequences hx rfl rfl (.inr hy) _
  have hl : u.val < (s.reedIssue u.val .endPass a).reed.units.length := by
    rw [State.reedIssue_endPass h.settled a]
    show u.val < (updAt (updAt (updAt ..) ..) ..).length
    rw [updAt_length, updAt_length, updAt_length]
    exact h.inRange
  have he : reedInstr .endPass u.val a s = s.reedIssue u.val .endPass a :=
    (h.acts hok rfl).trans (State.rFlush_rested hl (by rw [hu]; exact h.settled))
  refine ⟨_, (exec_reedInstr .endPass ..).trans (congrArg _ he), ?_⟩
  dsimp only
  rw [hu]
  exact ⟨rfl, rfl, rfl, h.settled⟩

theorem State.idleUnit.rotw_turns (hok : reedOk .rotw a = true) (hy : a.ym = 0) : Leads (.rotw u a) s (fun t =>
    (t.runit u.val).rb = ((s.runit u.val).rb + 15) % 16 ∧ (t.runit u.val).pc = (s.runit u.val).pc + 1 ∧
      (t.runit u.val).cyc = (s.runit u.val).cyc + 1) := by
  refine ⟨_, h.exec_issues (op := .rotw) hok rfl nofun (State.reedIssue_rotw h.settled a), ?_⟩
  dsimp only
  rw [h.sequences hx rfl rfl (.inr hy), RUnit.goOn_unlooped (by exact h.unlooped)]
  exact ⟨rfl, rfl, rfl⟩

theorem State.idleUnit.loop_opens (hok : reedOk .loop a = true) (hn : a.imm16 ≠ 0) : Leads (.loop u a) s (fun t =>
    (t.runit u.val).loops = [{ first := (s.runit u.val).pc + 1, last := (s.runit u.val).pc + a.len, left := a.imm16, rot := a.zFlag }] ∧
      (t.runit u.val).pc = (s.runit u.val).pc + 1 ∧ (t.runit u.val).cyc = (s.runit u.val).cyc + 2) := by
  refine ⟨_, h.exec_issues (op := .loop) hok (by simp [State.reedBad, h.loopOk]) nofun (State.reedIssue_loop h.settled a), ?_⟩
  dsimp only
  rw [h.sequences hx rfl rfl (.inl rfl), RUnit.openLoop, if_neg hn]
  exact ⟨congrArg _ h.unlooped, rfl, rfl⟩

theorem State.idleUnit.loop_skips (hok : reedOk .loop a = true) (hn : a.imm16 = 0) : Leads (.loop u a) s (fun t =>
    (t.runit u.val).loops = [] ∧ (t.runit u.val).pc = (s.runit u.val).pc + a.len + 1) := by
  refine ⟨_, h.exec_issues (op := .loop) hok (by simp [State.reedBad, h.loopOk]) nofun (State.reedIssue_loop h.settled a), ?_⟩
  dsimp only
  rw [h.sequences hx rfl rfl (.inl rfl), RUnit.openLoop, if_pos hn, RUnit.goOn_unlooped (by exact h.unlooped)]
  exact ⟨h.unlooped, rfl⟩

end

/-- The count of a loopr whose register every lane gives alike (R371). -/
theorem State.looprCount_same {s : State} {u : Nat} {a : ReedArgs} {n : BitVec 16} (h1 : 1 ≤ (s.runit u).lanes.length)
    (hn : ∀ y ∈ (s.runit u).lanes, y.reg (s.runit u).rb a.s1 = n) : s.looprCount u a = n.toNat := by
  have hl : (s.lanesOf u).map (fun p => (p.1.reg (s.runit u).rb a.s1).toNat) =
      List.replicate (min (s.laneCount u) (s.runit u).lanes.length) n.toNat := by
    rw [List.eq_replicate_iff]
    constructor
    · simp [State.lanesOf]
    · intro v hv
      obtain ⟨p, hp, rfl⟩ := List.mem_map.1 hv
      rw [hn _ (List.mem_of_mem_take (List.fst_mem_of_mem_zipIdx hp))]
  have h0 : min (s.laneCount u) (s.runit u).lanes.length ≠ 0 := by
    unfold State.laneCount
    split <;> omega
  unfold State.looprCount
  dsimp only
  rw [hl]
  obtain ⟨m, hm⟩ := Nat.exists_eq_succ_of_ne_zero h0
  rw [hm, List.replicate_succ]
  simp

theorem State.drew_modRunit (s : State) (n u v : Nat) (f : RUnit → RUnit) : ((s.drew n).modRunit u f).runit v = (s.modRunit u f).runit v := rfl

theorem State.idleUnit.loopr_opens {s : State} {u : Fin 16} {a : ReedArgs} (h : s.idleUnit u.val) (hx : a.xm = 0) (hok : reedOk .loopr a = true)
    (hy : a.ym = 0) {n : BitVec 16} (hn : n ≠ 0) (h1 : 1 ≤ (s.runit u.val).lanes.length)
    (hr : ∀ y ∈ (s.runit u.val).lanes, y.reg (s.runit u.val).rb a.s1 = n) : Leads (.loopr u a) s (fun t =>
      (t.runit u.val).loops = [{ first := (s.runit u.val).pc + 1, last := (s.runit u.val).pc + a.len, left := n.toNat, rot := a.zFlag }] ∧
        (t.runit u.val).pc = (s.runit u.val).pc + 1 ∧ (t.runit u.val).cyc = (s.runit u.val).cyc + 2) := by
  refine ⟨_, h.exec_issues (op := .loopr) hok (by simp [State.reedBad, h.loopOk]) nofun (State.reedIssue_loopr h.settled a), ?_⟩
  have hz : n.toNat ≠ 0 := fun hc => hn (BitVec.eq_of_toNat_eq hc)
  dsimp only
  rw [State.drew_modRunit, h.sequences hx rfl rfl (.inr hy), State.looprCount_same h1 hr, RUnit.openLoop, if_neg hz]
  exact ⟨congrArg _ h.unlooped, rfl, rfl⟩

/-! ## The delay line (R369, R370) -/

/-- The lower unit of a whole-mode bundle whose slot does not run, with no write under way and no loop open. -/
structure State.idleBundle (s : State) (u : Nat) : Prop where
  whole : s.unitWhole u = true
  idle : s.idleUnit u

theorem State.idleBundle.of {s : State} {u : Nat} (hb : s.flag (REED_UNIT.BUSY u) = true)
    (hw : s.flag (REEDS_W0.WHOLE (s.get (REED_UNIT.SLOT u))) = true)
    (hs : s.slotState (s.get (REED_UNIT.SLOT u)) ≠ 2) (he : u % 2 = 0) (hu : u < s.reed.units.length) (hp : (s.runit u).pend = [])
    (hl : (s.runit u).loops = []) : s.idleBundle u := by
  have hw : s.unitWhole u = true := by simp [State.unitWhole, hb, hw]
  refine ⟨hw, ?_, ?_, hu, hp, hl⟩
  · rw [State.unitOf, if_pos hw]
    omega
  · simp [State.runningOn, State.unitSlot, hb, hs]

theorem State.idleBundle.lanes {s : State} {u : Nat} (h : s.idleBundle u) : s.lanesOf u = ((s.runit u).lanes.take 16).zipIdx := by
  rw [State.lanesOf, State.laneCount, if_pos h.whole]

/-- One repetition of a delay-line opcode issues its writes and goes on. -/
theorem State.idleBundle.issues {s : State} {u : Fin 16} (h : s.idleBundle u.val) {op : ROp} {a : ReedArgs} {l : List (Nat × RWr)}
    (hok : reedOk op a = true) (hop : op = .dtap ∨ op = .dput ∨ op = .dget) (h1 : a.imm6 = 0) (hl : s.dlyRep u.val op a 0 = s.rIssue u.val l) :
    s.issues u (op.instr u a) 1 l := by
  have hi := h.idle
  have hbad : s.reedBad u.val op a = false := by
    obtain rfl | rfl | rfl := hop <;> simp [State.reedBad, ROp.whole, h.whole]
  have hspent : s.cycSpent u.val = false := by
    rw [State.cycSpent, State.cycLimit, hi.slot]
    rfl
  have hrun : s.dlyRun u.val op a (a.imm6 + 1) 0 = s.modRunit u.val (fun x => x.issued l 1) := by
    rw [h1, State.dlyRun, if_neg (by simp [hspent]), State.rSettle_rested hi.settled, hl]
    exact State.modRunit_modRunit ..
  have he : s.reedIssue u.val op a = (s.modRunit u.val (fun x => x.issued l 1)).modRunit u.val (fun x => x.goOn x.pc) := by
    unfold State.reedIssue
    rw [State.rSettle_rested hi.settled]
    obtain rfl | rfl | rfl := hop <;> exact congrArg (fun t => State.modRunit t u.val _) hrun
  refine hi.issues_of (hi.exec_issues hok hbad (by obtain rfl | rfl | rfl := hop <;> nofun) he) ?_ rfl
  rw [State.modRunit_modRunit, State.runit_modRunit_same hi.inRange]
  rfl

section

variable {s : State} {u : Fin 16} {a : ReedArgs} {x : RUnit} {ls : List (RLane × Nat)} (h : s.idleBundle u.val) (hx : x = s.runit u.val)
  (hls : ls = (x.lanes.take 16).zipIdx) (h1 : a.imm6 = 0)

include h hx hls h1

theorem State.idleBundle.dput_issues (hok : reedOk .dput a = true) (hy : a.ym = 0) : s.issues u (.dput u a) 1
    (ls.map (fun p => (2, .dly p.2 ((x.hd + 1) % 1024) (s.rdElem (memWord u.val p.2 false (x.mvElem a.xm)) (x.mvElem a.xm)))) ++
      [(1, .hd ((x.hd + 1) % 1024))] ++ x.mvPtrWrite a.xm) := by
  subst hx hls
  refine h.issues (op := .dput) hok (by simp) h1 ?_
  rw [State.dlyRep, hy, State.mvAll_zero, List.append_nil, h.lanes]

theorem State.idleBundle.dget_issues (hok : reedOk .dget a = true) (hy : a.ym = 0) {idx : Nat} (hi : idx = (x.hd + 1024 - x.q) % 1024) :
    s.issues u (.dget u a) 1
      (ls.map (fun p => (2, .mem p.2 false (x.mvElem a.xm) (s.rdElem (dlyWord u.val p.2 idx) idx))) ++ x.mvPtrWrite a.xm ++
        [(1, .q ((x.q + (if a.pFlag then 1023 else 1)) % 1024))]) := by
  subst hx hls hi
  refine h.issues (op := .dget) hok (by simp) h1 ?_
  rw [State.dlyRep, hy, State.mvAll_zero, List.nil_append, h.lanes]

theorem State.idleBundle.dtap_issues (hok : reedOk .dtap a = true) (hp : a.pFlag = false) (hc : a.cFlag = false) (hz : a.zFlag = false) {idx : Nat}
    (hi : idx = (x.hd + 1024 - x.q) % 1024) : s.issues u (.dtap u a) 1 (ls.flatMap (fun p => accumulate p.2 a.acc (p.1.acc a.acc +
      (s.rdElem (memWord u.val p.2 true (x.mvElem a.ym)) (x.mvElem a.ym)).toInt * (s.rdElem (dlyWord u.val p.2 idx) idx).toInt)) ++
        x.mvPtrWrite a.ym ++ [(1, .q ((x.q + 1) % 1024))]) := by
  subst hx hls hi
  refine h.issues (op := .dtap) hok (by simp) h1 ?_
  simp only [State.dlyRep, hp, hc, hz, Bool.false_and, Bool.false_eq_true, if_false, List.append_nil, h.lanes]

end

end Sys2Proof.Machine
end

section
/-! The instructions of the reed units (O28, O29: R321, R322, R334, R357, R361 to R363, R366 to R372). -/

namespace Sys2Proof.Machine

/-- Settles O28: an opcode issues in each lane the writes of laneOp (restingUnit.lanesIssue), which are those of its rule. -/
theorem reedArithmeticIssues : Obligations.ReedArithmeticIssues := by
  unfold Obligations.ReedArithmeticIssues
  rintro u a s rb h rfl hx acc wrap dst x1 x2 aa av rfl rfl rfl rfl rfl rfl rfl
  have imm (op : ROp) (ho : op.arith = true) (hi : op.imm = true) := h.lanesIssue ho hx (.inl hi)
  refine ⟨imm .addi rfl rfl, imm .movi rfl rfl, fun hy => ?_⟩
  have arith (op : ROp) (ho : op.arith = true) := h.lanesIssue ho hx (.inr hy)
  exact ⟨arith .mpy rfl, arith .mac rfl, arith .msu rfl, arith .sqa rfl, arith .adda rfl, arith .suba rfl, arith .adds rfl, arith .shra rfl,
    arith .shla rfl, arith .absa rfl, arith .bexp rfl, arith .nrm rfl, arith .movad rfl, arith .movda rfl, arith .mov rfl, arith .movf rfl,
    arith .mant rfl, arith .ash rfl⟩

/-- Settles O29: the sequencer's opcodes by their lemmas on an idle unit, those of the pointers by the shared registers they write, and
those of the delay line by their one repetition. -/
theorem reedSequencingIssues : Obligations.ReedSequencingIssues := by
  unfold Obligations.ReedSequencingIssues
  constructor
  · rintro u a s x h rfl hx
    have hi := h.idle
    have shared (op : ROp) (hop : op.imm = true) (ha : op.arith = false) (hp : op.plain = true) (hb : s.reedBad u.val op a = false) (hok) :=
      hi.issues_shared hok ha hp hb hx (.inl hop)
    refine ⟨fun hy => ⟨?_, ?_, ?_, ?_⟩, fun hok => ⟨hi.loop_opens hx hok, hi.loop_skips hx hok⟩, shared .ldp rfl rfl rfl rfl,
      shared .addp rfl rfl rfl rfl, shared .setam rfl rfl rfl rfl, shared .setq rfl rfl rfl rfl⟩
    · exact fun hok => hi.issues_shared (op := .nop) hok rfl rfl rfl hx (.inr hy)
    · exact fun hok => hi.endPass_ends hx hok hy
    · exact fun hok => hi.rotw_turns hx hok hy
    · exact fun hok n hn h1 hr => hi.loopr_opens hx hok hy hn h1 hr
  · intro u a s x ls hb hw hs he hu hx hp hl hls
    subst hx
    have h := State.idleBundle.of hb hw hs he hu hp hl
    refine ⟨fun hok hx => ?_, fun hok hy h1 => h.dput_issues rfl hls h1 hok hy, fun hok hy h1 idx hi => h.dget_issues rfl hls h1 hok hy hi,
      fun hok h1 hp hc hz idx hi => h.dtap_issues rfl hls h1 hok hp hc hz hi⟩
    exact h.idle.issues_shared (op := .sethd) hok rfl rfl (by simp [State.reedBad, ROp.whole, h.whole]) hx (.inl rfl)

end Sys2Proof.Machine
end

section
/-! SUPPORT. The program slots of the reed array: their words, faults, starts and stops, and the commands that load and unload them
(R334 to R337, R343 to R350, R353, R356, R365, R377, R437). -/

namespace Sys2Proof.Machine

/-! ## The words of a slot (R356) -/

/-- An offset in the window of the program slots. -/
def slotWord (a : Nat) : Prop := 0x0A0100 ≤ a ∧ a < 0x0A0300

theorem slotWord.block {a : Nat} (h : slotWord a) : blockOf a = 10 := by
  obtain ⟨hl, hh⟩ := h
  rw [blockOf, if_pos (by omega)]
  omega

theorem slotWord.notQcp {a : Nat} (h : slotWord a) : ¬ qcpWord a := by
  unfold slotWord at h
  unfold qcpWord
  omega

theorem slotWord_base (o : Nat) : slotWord (0x0A0100 + 0x20 * (o % 16)) := by
  unfold slotWord
  omega

/-- What stays off the array's registers leaves the fields of the slots. -/
theorem State.within.slot {s t : State} {K : List Comp} {B : List Nat} (h : s.within t K B) (hb : 10 ∉ B) {f : Fld} (hf : slotWord f.addr) :
    t.get f = s.get f := h.get (by rwa [hf.block])

/-- Entering a state shows it. -/
theorem State.setSlot_state (s : State) (o : Nat) {st : Nat} (h : st < 4) : (s.setSlot o st).slotState o = st := by
  unfold State.setSlot State.slotState
  rw [State.get_put_other _ _ _ _ (.inl (by dsimp only; omega)), State.get_put_other _ _ _ _ (.inl (by dsimp only; omega)),
    State.get_put_same _ _ _ (by dsimp only; omega)]
  exact Nat.mod_eq_of_lt h

/-- Entering a state writes the slot's STATE and the array's status alone. -/
theorem State.setSlot_get (s : State) (o st : Nat) {f : Fld} (hf : slotWord f.addr) (hs : (REEDS_W0.STATE o).apart f) :
    (s.setSlot o st).get f = s.get f := by
  unfold slotWord at hf
  unfold State.setSlot
  rw [State.get_put_other _ _ _ _ (.inl (by dsimp only; omega)), State.get_put_other _ _ _ _ (.inl (by dsimp only; omega)),
    State.get_put_other _ _ _ _ hs]

theorem State.setSlot_reed (s : State) (o st : Nat) : (s.setSlot o st).reed = s.reed := rfl

theorem State.rslot_congr {s t : State} (h : t.reed = s.reed) (o : Nat) : t.rslot o = s.rslot o := by rw [State.rslot, h, State.rslot]

theorem State.modRslot_slotState (s : State) (o n : Nat) (f : RSlot → RSlot) : (s.modRslot o f).slotState n = s.slotState n := rfl

theorem State.modRslot_length (s : State) (o : Nat) (f : RSlot → RSlot) : (s.modRslot o f).reed.slots.length = s.reed.slots.length :=
  updAt_length ..

theorem State.modRslot_outs {s : State} {o : Nat} (f : RSlot → RSlot) (hf : ∀ y, (f y).outs = y.outs) :
    ((s.modRslot o f).rslot o).outs = (s.rslot o).outs := by
  unfold State.modRslot State.rslot
  rw [updAt_getD]
  split
  · exact hf _
  · rfl

/-- With no group delivered a fault or a STOP delivers nothing. -/
theorem State.reedCut_none {s : State} {o : Nat} (h : (s.rslot o).outs = []) : s.reedCut o = s := by
  unfold State.reedCut
  rw [h]
  exact if_pos rfl

/-! ## Passes (R334 to R336) -/

/-- A pass with no restart due runs its program from its entry (R331, R336). -/
theorem reedPassStep_runs {s : State} {o : Nat} {l : List FeedSample} {r : State × Nat} (h : s.readyBlock o = some l)
    (hc : (s.rslot o).clearAt = [])
    (hr : r = (s.passEntry o l).runProg (s.slotUnit o) (s.get (REEDS_W5.C_MAX o)) (s.flag (REEDS_W0.WHOLE o)) (s.get (REEDS_W5.C_MAX o) + 1)) :
    reedPassStep o s = if r.2 = 0 then r.1.passEnd o l
      else ((r.1.rFlush (s.slotUnit o)).countUse o ((r.1.runit (s.slotUnit o)).cyc + 4)).slotFault o r.2 := by
  unfold reedPassStep
  rw [h, hc, hr]
  simp only [List.any_nil, Bool.and_false, Bool.false_eq_true, if_false]

/-! ## Faults (R335, R353) -/

/-- A fault with no group delivered leaves the slot FAULTED with its cause, and tells the owner (R335, R353). -/
theorem State.slotFault_faults {s : State} {o cause : Nat} (h : (s.rslot o).outs = []) (hc : cause < 16)
    (ho : s.get (REEDS_W0.OWNER o) < s.qcp.sess.length) :
    (s.slotFault o cause).slotState o = 3 ∧ (s.slotFault o cause).get (REEDS_W0.FCAUSE o) = cause ∧
      s.told (s.slotFault o cause) (s.get (REEDS_W0.OWNER o)) 0x0701 o := by
  unfold State.slotFault
  rw [State.reedCut_none h]
  dsimp only
  refine ⟨?_, ?_, State.event_told (((s.modRslot o _).setSlot o 3).put _ _) _ _ _ ho⟩
  · rw [State.slotState, State.event_get _ _ _ _ _ (slotWord_base o).notQcp, State.get_put_other _ _ _ _ (.inr (by dsimp only; omega))]
    exact State.setSlot_state _ _ (by decide)
  · rw [State.event_get _ _ _ _ _ (slotWord_base o).notQcp, State.get_put_same _ _ _ (by dsimp only; omega)]
    exact Nat.mod_eq_of_lt hc

/-- A word that is no instruction faults the slot that runs on its unit in split mode (R365). -/
theorem undefinedEncodingStep_faults {s : State} {o u : Nat} {w : BitVec 64} (hb : s.flag (REED_UNIT.BUSY u) = true)
    (hs : s.get (REED_UNIT.SLOT u) = o) (hw : s.flag (REEDS_W0.WHOLE o) = false) (hr : s.slotState o = 2) (hd : decodeReed w = none) :
    undefinedEncodingStep u w s = s.slotFault o 2 := by
  have hu : s.unitOf u = u := if_neg (by simp [State.unitWhole, hs, hw])
  have ho : s.runningOn u = some o := by simp [State.runningOn, State.unitSlot, hb, hs, hr]
  unfold undefinedEncodingStep
  dsimp only
  rw [hu, ho, hd]
  rfl

/-! ## A change of what the streams of the array follow (R337, R377) -/

/-- A change across which streams are settled acts on a state whose slots are as before, and only the streams change after it. -/
theorem State.acrossBasis_acts (s : State) (s0 : Nat) (f : State → State) :
    ∃ u, s.within u [.dec, .qcp, .strm, .dmc, .ptb, .out] [0, 7, 12, 24, 25] ∧ (f u).within (s.acrossBasis s0 f) [.strm] [] := by
  unfold State.acrossBasis
  extract_lets moved
  refine ⟨moved.foldl (fun (t : State) n => if t.accounts n then t.settleTo n (min (t.dueIndex n) (t.firstIndex n s0)) else t) s, ?_, ?_⟩
  · exact State.within_foldl (fun t n ht => State.within_ite (State.settleTo_within.step ht (by decide) (by decide)) ht) (State.within_refl _ _)
  · exact State.within_foldl (fun t n ht => State.within_ite ht (State.modStr_within.step ht (by decide) (by decide))) (State.within_refl _ _)

/-! ## Start and stop (R345, R347, R350) -/

/-- A slot has taken up its feed, and holds no samples. -/
def State.feedTaken (s : State) (o : Nat) : State :=
  (s.setSlot o 2).modRslot o (fun y => { y with feed := s.regFeed o, startAt := none, samples := [], group := 0, outs := [], clearAt := [] })

/-- A slot has taken up its feed and runs from the next block. -/
def State.slotStarted (s : State) (o : Nat) : State := ((s.feedTaken o).frameClear o).put (REEDS_W0.FCAUSE o) 0

/-- A frame clear leaves the slot but for its settling outputs. -/
theorem State.frameClear_rslot {s : State} {o : Nat} (ho : o < s.reed.slots.length) :
    (s.frameClear o).rslot o = { s.rslot o with settle := s.get (REEDS_W6.SETTLE o) } := by
  have hz : ((s.zeroFrames o).count (REEDS_W0.RESTARTS o)).reed = s.reed := State.zeroFrames_within.comp .reed (by decide)
  rw [State.frameClear, State.rslot_modRslot_same (by rwa [hz]), State.rslot_congr hz]

theorem State.frameClear_state (s : State) (o : Nat) : (s.frameClear o).slotState o = s.slotState o := by
  show ((s.zeroFrames o).count (REEDS_W0.RESTARTS o)).get (REEDS_W0.STATE o) = _
  rw [State.count, State.get_put_other _ _ _ _ (.inr (by dsimp only; omega)), State.zeroFrames_within.slot (by decide) (slotWord_base o)]
  rfl

theorem State.slotStarted_state (s : State) (o : Nat) : (s.slotStarted o).slotState o = 2 := by
  rw [State.slotState, State.slotStarted, State.get_put_other _ _ _ _ (.inr (by dsimp only; omega))]
  rw [← State.slotState, State.frameClear_state, State.feedTaken, State.modRslot_slotState, State.setSlot_state _ _ (by decide)]

theorem State.slotStarted_cause (s : State) (o : Nat) : (s.slotStarted o).get (REEDS_W0.FCAUSE o) = 0 := by
  rw [State.slotStarted, State.get_put_same _ _ _ (by dsimp only; omega), Nat.zero_mod]

theorem State.slotStarted_rslot (s : State) {o : Nat} (ho : o < s.reed.slots.length) :
    ((s.slotStarted o).rslot o).startAt = none ∧ ((s.slotStarted o).rslot o).samples = [] := by
  have hf : (s.feedTaken o).rslot o =
      { s.rslot o with feed := s.regFeed o, startAt := none, samples := [], group := 0, outs := [], clearAt := [] } :=
    State.rslot_modRslot_same (s := s.setSlot o 2) ho _
  rw [State.slotStarted, State.rslot_congr (State.put_reed ..), State.frameClear_rslot (by rwa [State.feedTaken, State.modRslot_length]), hf]
  exact ⟨rfl, rfl⟩

/-- SLOT_START_EFFECT starts the slot in the instant its start waits for (R345, R350). -/
theorem slotStartEffectStep_runs {s : State} {o : Nat} {e : Ts} (he : (s.rslot o).startAt = some e) (ho : o < s.reed.slots.length) :
    (slotStartEffectStep o s).slotState o = 2 ∧ (slotStartEffectStep o s).get (REEDS_W0.FCAUSE o) = 0 ∧
      ((slotStartEffectStep o s).rslot o).startAt = none ∧ ((slotStartEffectStep o s).rslot o).samples = [] := by
  have hs : slotStartEffectStep o s = (s.at e).acrossBasis (s.at e).nextShot (fun t => t.slotStarted o) := by
    unfold slotStartEffectStep
    rw [he]
    dsimp only [State.slotStarted, State.feedTaken]
  obtain ⟨u, hu, hf⟩ := (s.at e).acrossBasis_acts (s.at e).nextShot (fun t => t.slotStarted o)
  have hr : u.reed = s.reed := (hu.comp .reed (by decide)).trans (State.at_within.comp .reed (by decide))
  rw [hs, State.slotState, hf.slot (by decide) (slotWord_base o), hf.slot (by decide) (slotWord_base o),
    State.rslot_congr (hf.comp .reed (by decide))]
  exact ⟨u.slotStarted_state o, u.slotStarted_cause o, u.slotStarted_rslot (by rwa [hr])⟩

/-- The slot stops at once, in the state LOADED (R347). -/
def State.slotStopped (s : State) (o : Nat) : State :=
  ((s.modRslot o (fun y => { y with startAt := none })).modRslot o (fun y => { y with samples := [], group := 0, outs := [] })).setSlot o 1

/-- A STOP of a RUNNING slot with no group delivered delivers nothing. -/
theorem State.reedStop_stops {s : State} {o : Nat} (hs : s.slotState o = 2) (h : (s.rslot o).outs = []) : s.reedStop o = s.slotStopped o := by
  have hc : (s.modRslot o (fun y => { y with startAt := none })).reedCut o = s.modRslot o (fun y => { y with startAt := none }) :=
    State.reedCut_none ((State.modRslot_outs (fun y => { y with startAt := none }) fun _ => rfl).trans h)
  unfold State.reedStop
  dsimp only
  rw [hc]
  exact if_pos hs

theorem State.slotStopped_within {s : State} {o : Nat} : s.within (s.slotStopped o) [.reed] [10] :=
  State.setSlot_within.step (State.modRslot_within.step (State.modRslot_within.step (State.within_refl _ _) (by decide) (by decide))
    (by decide) (by decide)) (by decide) (by decide)

/-! ## Unloading (R348) -/

/-- An emptied slot shows EMPTY. -/
theorem State.slotEmpty_state (s : State) (o : Nat) : (s.slotEmpty o).slotState o = 0 := by
  unfold State.slotEmpty
  obtain ⟨u, -, hf⟩ := s.acrossBasis_acts s.nextShot _
  rw [State.slotState, hf.slot (by decide) (slotWord_base o), State.updOverdrawn_get _ (by dsimp only; omega)]
  exact State.setSlot_state _ _ (by decide)

/-! ## The commands of a slot (R343, R344, R437) -/

theorem State.commitPoint_get (s : State) (r : Nat) (seq : BitVec 32) (f : Fld) : (s.commitPoint r seq).get f = s.get f := rfl

theorem State.reply_slotState (s : State) (q : ReqHdr) (op st : Nat) (l : List Item) (o : Nat) :
    (s.reply q op st l).slotState o = s.slotState o := State.reply_get _ _ _ _ _ (slotWord_base o).notQcp

/-- What a session has staged for the slots is kept by the acceptance of a sequence. -/
theorem State.sess_taken_reedImage (s : State) (q : ReqHdr) (op k : Nat) : ((s.taken q op).sess k).reedImage = (s.sess k).reedImage :=
  s.sess_modSess_keeps (g := Session.reedImage) _ _ fun _ => rfl

theorem State.sess_reply_reedImage (s : State) (q : ReqHdr) (op st : Nat) (l : List Item) (k : Nat) :
    ((s.reply q op st l).sess k).reedImage = (s.sess k).reedImage := by
  rw [State.sess_congr (s.reply_qcp ..)]
  exact s.sess_modSess_keeps (g := Session.reedImage) _ _ fun _ => rfl

/-- A session's staging area of a slot, with bytes put into it (R437). -/
def Session.reedStaged (x : Session) (o offset : Nat) (data : List Byte) : Session :=
  { x with reedImage := (x.reedImage.filter (fun e => e.1 != o)) ++
      [(o, putBytes (((x.reedImage.find? (fun e => e.1 == o)).map (·.2)).getD []) offset data)] }

/-- No slot of the session's own is refused. -/
theorem State.slotError_none {q : ReqHdr} {o : Fin 16} {s : State} (ho : s.slotOwner o.val = some q.session.val) (op : Nat) :
    (s.taken q op).slotError q o.val = none := by
  have ho' : (s.taken q op).slotOwner o.val = some q.session.val := ho
  rw [State.slotError, if_neg (by omega), ho', if_neg (by simp)]

section

variable {q : ReqHdr} {o : Fin 16} {s : State} (h : s.admits q)

include h

theorem exec_reedPut {offset : Nat} {data : List Byte} (hd : offset + data.length ≤ 1048576) : exec (.reedPut q o.val offset data) s =
    .next (((s.taken q 0x0700).modSess q.session.val (fun x => x.reedStaged o.val offset data)).reply q 0x0700 stOk) := by
  have ho := o.isLt
  show Host.Outcome.next (s.request q 0x0700 (reedPutBody q o.val offset data) _) = _
  rw [State.request_admits h, reedPutBody, if_neg (by simp; omega)]
  rfl

theorem reedPut_stages {offset : Nat} {data : List Byte} (hr : q.session.val < s.qcp.sess.length) (hd : offset + data.length ≤ 1048576) :
    Leads (.reedPut q o.val offset data) s (fun t => s.replied t q 0x0700 stOk [] ∧
      (o.val, putBytes ((((s.sess q.session.val).reedImage.find? (fun e => e.1 == o.val)).map (·.2)).getD []) offset data) ∈
        (t.sess q.session.val).reedImage) := by
  refine ⟨_, exec_reedPut h hd, State.taken_reply_replied h _ _ _ fun _ => rfl, ?_⟩
  rw [State.sess_reply_reedImage, State.sess_modSess_same _ _ (by rwa [State.taken_length]), Session.reedStaged,
    State.sess_taken_reedImage]
  exact List.mem_append_right _ (List.mem_singleton.2 rfl)

theorem exec_reedStart (ho : s.slotOwner o.val = some q.session.val) (hs : s.slotState o.val ≠ 2) (hc : s.startConflict o.val = false)
    (hd : s.dev ≠ 1) : exec (.reedStart q o.val) s = .next (((s.taken q 0x0702).reedStart o.val).reply q 0x0702 stOk) := by
  have hs' : (s.taken q 0x0702).slotState o.val ≠ 2 := hs
  have hc' : (s.taken q 0x0702).startConflict o.val = false := hc
  have hd' : (s.taken q 0x0702).dev ≠ 1 := hd
  show Host.Outcome.next (s.request q 0x0702 (reedStartBody q o.val) _) = _
  rw [State.request_admits h, reedStartBody, State.slotError_none ho]
  dsimp only
  rw [if_neg hs', hc', if_neg Bool.false_ne_true, if_neg hd']

theorem reedStart_waits (ho : s.slotOwner o.val = some q.session.val) (hl : o.val < s.reed.slots.length) (hs : s.slotState o.val = 1)
    (hc : s.startConflict o.val = false) (hd : s.dev ≠ 1) : Leads (.reedStart q o.val) s (fun t =>
      s.replied t q 0x0702 stOk [] ∧ (t.rslot o.val).startAt = some (s.now + 10000 * ns)) := by
  refine ⟨_, exec_reedStart h ho (by omega) hc hd,
    State.taken_acted_replied h State.reedStart_within (by decide) (by decide) (by decide) (by decide) _ _, ?_⟩
  rw [State.rslot_congr (State.reply_reed ..)]
  exact State.reedStart_waits (s := s.taken q 0x0702) hs hl

theorem exec_reedStop (ho : s.slotOwner o.val = some q.session.val) :
    exec (.reedStop q o.val) s = .next (((s.taken q 0x0703).reedStop o.val).reply q 0x0703 stOk) := by
  show Host.Outcome.next (s.request q 0x0703 (reedStopBody q o.val) _) = _
  rw [State.request_admits h, reedStopBody, State.slotError_none ho]

theorem reedStop_stops (ho : s.slotOwner o.val = some q.session.val) (hl : o.val < s.reed.slots.length) (hs : s.slotState o.val = 2)
    (hn : (s.rslot o.val).outs = []) : Leads (.reedStop q o.val) s (fun t =>
      s.replied t q 0x0703 stOk [] ∧ t.slotState o.val = 1 ∧ (t.rslot o.val).samples = []) := by
  have hstop : (s.taken q 0x0703).reedStop o.val = (s.taken q 0x0703).slotStopped o.val := State.reedStop_stops hs hn
  refine ⟨_, exec_reedStop h ho, ?_⟩
  rw [hstop]
  dsimp only
  rw [State.reply_slotState, State.rslot_congr (State.reply_reed ..)]
  refine ⟨State.taken_acted_replied h State.slotStopped_within (by decide) (by decide) (by decide) (by decide) _ _,
    State.setSlot_state _ _ (by decide), ?_⟩
  rw [State.slotStopped, State.rslot_congr (State.setSlot_reed ..), State.rslot_modRslot_same (by rwa [State.modRslot_length])]

end

/-- REED_UNLOAD of a slot of the session's own (R348). -/
theorem exec_reedUnload {q : ReqHdr} {o : Fin 16} {s : State} (h : s.admitsLong q) (ho : s.slotOwner o.val = some q.session.val) :
    exec (.reedUnload q o.val) s = .next ((((((s.taken q 0x0704).accepted q 0x0704 o.val).reedStop o.val).slotEmpty o.val).commitPoint
      q.session.val q.seq).complete q.session.val q.seq stOk) := by
  show Host.Outcome.next (s.request q 0x0704 (reedUnloadBody q o.val) _) = _
  rw [State.request_admits h.1, reedUnloadBody, State.slotError_none ho]
  dsimp only
  rw [State.startLong_accepted (State.longsFull_taken h _)]

theorem reedUnload_empties {q : ReqHdr} {o : Fin 16} {s : State} (h : s.admitsLong q) (ho : s.slotOwner o.val = some q.session.val) :
    Leads (.reedUnload q o.val) s (fun t => s.answered t q 0x0704 stAccepted [] ∧ t.slotState o.val = 0) := by
  refine ⟨_, exec_reedUnload h ho, (State.taken_accepted_answered h.1 0x0704 o.val).trans ?_, ?_⟩
  · exact State.reedStop_within.out.trans (State.slotEmpty_within.out.trans (State.commitPoint_within.out.trans State.complete_within.out))
  · rw [State.slotState, State.complete_get _ _ _ _ _ (slotWord_base _).notQcp]
    exact State.slotEmpty_state ..

/-! ## Loading (R343, R344) -/

theorem State.sess_taken_quotas (s : State) (q : ReqHdr) (op k : Nat) : ((s.taken q op).sess k).quotas = (s.sess k).quotas :=
  s.sess_modSess_keeps (g := Session.quotas) _ _ fun _ => rfl

theorem State.reedBytes_taken (s : State) (q : ReqHdr) (op k o count : Nat) :
    ((s.taken q op).sess k).reedBytes o count = (s.sess k).reedBytes o count := by
  rw [Session.reedBytes, State.sess_taken_reedImage]
  rfl

/-- A LOAD waits for its commit (R344). -/
def State.loadWaits (s : State) (q : ReqHdr) (o u : Nat) (bytes : List Byte) : State :=
  s.modRslot o (fun y => { y with load := some (q.session, q.seq, u, false, bytes) })

theorem State.loadWaits_began {s t : State} {q : ReqHdr} {op n : Nat} (h : s.began t q op n) (r : ReqHdr) (o u : Nat) (bytes : List Byte) :
    s.began (t.loadWaits r o u bytes) q op n := State.began_congr (t := t) rfl rfl h

/-- What REED_LOAD asks in split mode of the request, the placement on the lower unit of a bundle, the slot, the session and the image
(R343, R467, R473, R495). -/
structure State.mayLoad (s : State) (q : ReqHdr) (o u count : Nat) (i : Config.ReedImage) : Prop where
  long : s.admitsLong q
  place : u < 8
  size : count ≤ 1048576
  empty : s.slotState o = 0
  notLoading : (s.rslot o).load = none
  free : (s.taken q 0x0701).unitsHeld [2 * u] = false
  quota : (s.taken q 0x0701).reedUse q.session.val < (s.sess q.session.val).quotas.reed
  notOverdrawn : (s.taken q 0x0701).isOverdrawn q.session.val = false
  image : Config.reedImage ((s.sess q.session.val).reedBytes o count) = some i
  fits : imageConflict i false = false
  block : 1 ≤ i.block ∧ i.block ≤ 64
  outs : 1 ≤ i.outN ∧ i.outN ≤ 16
  divides : i.block % i.outN = 0
  notHeld : s.dev ≠ 1

section

variable {q : ReqHdr} {o : Fin 16} {u count : Nat} {i : Config.ReedImage} {s : State} (h : s.mayLoad q o.val u count i)

include h

/-- REED_LOAD in split mode onto the lower unit of a bundle, with an image that nothing refuses (R343). -/
theorem exec_reedLoad : exec (.reedLoad q o.val (BitVec.ofNat 32 (256 * u)) count) s = .next
    (((s.taken q 0x0701).accepted q 0x0701 o.val).loadWaits q o.val (2 * u) ((s.sess q.session.val).reedBytes o.val count)) := by
  have ho := o.isLt
  obtain ⟨h, hu, hcount, hs, hl, hfree, hquota, hover, hi, hconf, hblock, hout, hdiv, hd⟩ := h
  have hp : (BitVec.ofNat 32 (256 * u)).toNat = 256 * u := by
    rw [BitVec.toNat_ofNat]
    omega
  have hmode : 256 * u % 4 = 0 := by omega
  have hunit : 256 * u / 256 % 16 * 2 = 2 * u := by omega
  have hhigh : 256 * u / 4096 = 0 := by omega
  have hlow : 256 * u / 4 % 64 = 0 := by omega
  have hfull : (s.taken q 0x0701).longsFull q = false := State.longsFull_taken h _
  have hs' : (s.taken q 0x0701).slotState o.val = 0 := hs
  have hl' : ((s.taken q 0x0701).rslot o.val).load = none := hl
  have hd' : (s.taken q 0x0701).dev ≠ 1 := hd
  show Host.Outcome.next (s.request q 0x0701 (reedLoadBody q o.val _ count) _) = _
  rw [State.request_admits h.1, reedLoadBody]
  simp only [hp, hmode, hunit, hhigh, hlow, hfull, hs', hl', State.sess_taken_quotas, State.reedBytes_taken, hi]
  rw [if_neg (by simp), if_neg (by simp; omega), if_neg (by simpa [unitsOf] using hfree), if_neg (by omega), hover, if_neg (by simp),
    if_neg (by simpa using hconf), if_neg (by simp; omega), if_neg hd', State.startLong_accepted hfull]
  rfl

theorem reedLoad_begins (ho : o.val < s.reed.slots.length) : Leads (.reedLoad q o.val (BitVec.ofNat 32 (256 * u)) count) s (fun t =>
    s.began t q 0x0701 o.val ∧
      (t.rslot o.val).load = some (q.session, q.seq, 2 * u, false, (s.sess q.session.val).reedBytes o.val count)) := by
  have hr : ((s.taken q 0x0701).accepted q 0x0701 o.val).reed = s.reed := by rw [(s.taken_accepted_qcpOnly q 0x0701 o.val).1]
  refine ⟨_, exec_reedLoad h, State.loadWaits_began (State.taken_accepted_began h.long 0x0701 o.val) _ _ _ _, ?_⟩
  rw [State.loadWaits, State.rslot_modRslot_same (by rwa [hr])]

end

/-- The registers of a loaded slot (R344, R356). -/
def loadFields (o u : Nat) (whole : Bool) (r : Fin 8) (i : Config.ReedImage) : List (Fld × Nat) :=
  [(REEDS_W0.UNIT o, u), (REEDS_W0.WHOLE o, whole.toNat), (REEDS_W0.OWNER o, r.val), (REEDS_W0.FCAUSE o, 0),
    (REEDS_W4.FX o, i.fx), (REEDS_W4.FY o, i.fy), (REEDS_W5.DELAY o, i.delay), (REEDS_W5.C_MAX o, i.cmax),
    (REEDS_W6.SETTLE o, i.settle), (REEDS_W6.OUT_N o, i.outN), (REEDS_W6.BLOCK o, i.block)]

theorem State.loadFields_show (s : State) (o u : Nat) (whole : Bool) (r : Fin 8) (i : Config.ReedImage) :
    (s.puts (loadFields o u whole r i)).get (REEDS_W0.UNIT o) = u % 2 ^ (REEDS_W0.UNIT o).width ∧
      (s.puts (loadFields o u whole r i)).get (REEDS_W0.OWNER o) = r.val := by
  constructor
  · rw [loadFields, State.puts_cons, State.get_puts_other, State.get_put_same _ _ _ (by dsimp only; omega)]
    simp only [List.forall_mem_cons, List.not_mem_nil, false_imp_iff, implies_true, and_true]
    dsimp only [Fld.apart]
    omega
  · rw [loadFields, State.puts_cons, State.puts_cons, State.puts_cons, State.get_puts_other, State.get_put_same _ _ _ (by dsimp only; omega)]
    · exact Nat.mod_eq_of_lt r.isLt
    · simp only [List.forall_mem_cons, List.not_mem_nil, false_imp_iff, implies_true, and_true]
      dsimp only [Fld.apart]
      omega

/-- The commit of a verified image: its registers, the state LOADED, and the completion (R344). -/
theorem reedLoadCommitStep_commits {s : State} {o u : Nat} {r : Fin 8} {seq : BitVec 32} {whole : Bool} {bytes : List Byte} {i : Config.ReedImage}
    (hl : (s.rslot o).load = some (r, seq, u, whole, bytes)) (hi : Config.reedImage bytes = some i) : ∃ t : State,
      reedLoadCommitStep o s =
        ((((t.puts (loadFields o u whole r i)).setSlot o 1).updOverdrawn).commitPoint r.val seq).complete r.val seq stOk := by
  unfold reedLoadCommitStep
  rw [hl]
  dsimp only
  rw [hi]
  exact ⟨_, rfl⟩

theorem reedLoadCommitStep_shows {s : State} {o u : Nat} {r : Fin 8} {seq : BitVec 32} {whole : Bool} {bytes : List Byte} {i : Config.ReedImage}
    (hl : (s.rslot o).load = some (r, seq, u, whole, bytes)) (hi : Config.reedImage bytes = some i) :
    (reedLoadCommitStep o s).slotState o = 1 ∧ (reedLoadCommitStep o s).get (REEDS_W0.UNIT o) = u % 2 ^ (REEDS_W0.UNIT o).width ∧
      (reedLoadCommitStep o s).get (REEDS_W0.OWNER o) = r.val := by
  obtain ⟨t, ht⟩ := reedLoadCommitStep_commits hl hi
  obtain ⟨hunit, howner⟩ := t.loadFields_show o u whole r i
  have hget : ∀ f : Fld, slotWord f.addr → (reedLoadCommitStep o s).get f = ((t.puts (loadFields o u whole r i)).setSlot o 1).get f := by
    intro f hf
    rw [ht, State.complete_get _ _ _ _ _ hf.notQcp, State.commitPoint_get, State.updOverdrawn_get]
    unfold slotWord at hf
    dsimp only
    omega
  refine ⟨(hget _ (slotWord_base o)).trans (State.setSlot_state _ _ (by decide)), ?_, ?_⟩
  · rw [hget _ (slotWord_base o), State.setSlot_get _ _ _ (slotWord_base o) (.inr (by dsimp only; omega)), hunit]
  · rw [hget _ (slotWord_base o), State.setSlot_get _ _ _ (slotWord_base o) (.inr (by dsimp only; omega)), howner]

end Sys2Proof.Machine
end

section
/-! The passes, faults and commands of a reed slot (O30: R330, R334 to R336, R343 to R348, R356, R365). -/

namespace Sys2Proof.Machine

/-- Settles O30: each command by its lemma. STOP and UNLOAD at once are log entry 105, what the groups of a block deliver at a fault or a
STOP is 106, and the 4 cycles more of a pass and the FCAUSE that a start clears are 107. -/
theorem reedSlotsComplete : Obligations.ReedSlotsComplete := by
  unfold Obligations.ReedSlotsComplete
  refine ⟨?pass, ?limit, ?undefined, ?start, ?put, ?load, ?commit, ?slot⟩
  case pass =>
    intro o l r s h hc hr
    have he : exec (.reedPass o) s = .next _ := congrArg Host.Outcome.next (reedPassStep_runs h hc hr)
    exact ⟨fun h0 => by rw [he, if_pos h0], fun h0 => by rw [he, if_neg h0]⟩
  case limit =>
    intro o s hs hn ho
    exact ⟨_, congrArg Host.Outcome.next (State.whenDo_pos (by simp [hs])), State.slotFault_faults hn (by decide) ho⟩
  case undefined =>
    intro o u w s hb hu hw hs hn ho hd
    exact ⟨_, congrArg Host.Outcome.next (undefinedEncodingStep_faults hb hu hw hs hd), State.slotFault_faults hn (by decide) ho⟩
  case start => exact fun o e s he ho => ⟨_, rfl, slotStartEffectStep_runs he ho⟩
  case put => exact fun q o offset data s h hr hd => reedPut_stages h hr hd
  case load =>
    rintro q o u count i v s h hu hc hs hl ho rfl hfree hquota hover hi hconf hb1 hb2 ho1 ho2 hdiv hd
    exact reedLoad_begins ⟨h, hu, hc, hs, hl, hfree, hquota, hover, hi, hconf, ⟨hb1, hb2⟩, ⟨ho1, ho2⟩, hdiv, hd⟩ ho
  case commit => exact fun o r seq u whole bytes i s hl hi _ => ⟨_, rfl, reedLoadCommitStep_shows hl hi⟩
  case slot =>
    intro q o s h ho hl
    exact ⟨fun hs hc hd => reedStart_waits h ho hl hs hc hd, fun hs hn => reedStop_stops h ho hl hs hn,
      fun hlong _ => reedUnload_empties hlong ho⟩

end Sys2Proof.Machine
end

section
/-! The words of the reed instructions and what they decode to (O7: R358 to R360, R365, R366). -/

namespace Sys2Proof.Machine

theorem ROp.code_lt (op : ROp) : op.code < 2 ^ 6 := by cases op <;> decide

theorem ROp.ofCode_code (op : ROp) : ROp.ofCode op.code = some op := by cases op <;> rfl

/-- R366 gives no opcode two numbers. -/
theorem ROp.code_of_ofCode {n : Nat} {op : ROp} (h : ROp.ofCode n = some op) : op.code = n := by
  unfold ROp.ofCode at h
  split at h <;> cases h <;> rfl

/-- A word of an opcode with fields, as a number: each part at the position that R358 gives it. -/
theorem reedWord_toNat (op : ROp) (o : ReedArgs) :
    (reedWord op o).toNat = op.code * 2 ^ 58 + o.arg.toNat * 2 ^ 40 + o.xm.toNat * 2 ^ 20 + o.ym.toNat := by
  have hcode : (BitVec.ofNat 6 op.code).toNat = op.code := Nat.mod_eq_of_lt op.code_lt
  rw [reedWord, BitVec.toNat_append, BitVec.toNat_append, BitVec.toNat_append, hcode, ← Nat.shiftLeft_add_eq_or_of_lt o.arg.isLt,
    ← Nat.shiftLeft_add_eq_or_of_lt o.xm.isLt, ← Nat.shiftLeft_add_eq_or_of_lt o.ym.isLt]
  simp only [Nat.shiftLeft_eq]
  omega

theorem reedWord_code (op : ROp) (o : ReedArgs) : (reedWord op o).toNat / 2 ^ 58 = op.code := by
  rw [reedWord_toNat]
  omega

theorem wordArgs_reedWord (op : ROp) (o : ReedArgs) : wordArgs (reedWord op o) = o := by
  obtain ⟨arg, xm, ym⟩ := o
  simp only [wordArgs, ReedArgs.mk.injEq, ← BitVec.toNat_inj, BitVec.extractLsb'_toNat, reedWord_toNat, Nat.shiftRight_eq_div_pow]
  omega

/-- The four parts of R358 are the whole word. -/
theorem reedWord_wordArgs {w : BitVec 64} {op : ROp} (h : op.code = w.toNat / 2 ^ 58) : reedWord op (wordArgs w) = w := by
  rw [← BitVec.toNat_inj, reedWord_toNat, h]
  simp only [wordArgs, BitVec.extractLsb'_toNat, Nat.shiftRight_eq_div_pow]
  omega

/-- A word decodes just when its number is an opcode's (R366) and its fields are defined (R365). -/
theorem decodeReed_eq_some {w : BitVec 64} {op : ROp} {o : ReedArgs} :
    decodeReed w = some (op, o) ↔ ROp.ofCode (w.toNat / 2 ^ 58) = some op ∧ wordArgs w = o ∧ reedOk op o = true := by
  unfold decodeReed
  cases ROp.ofCode (w.toNat / 2 ^ 58) with
  | none => simp
  | some op' =>
    simp only [Option.ite_none_right_eq_some, Option.some.injEq, Prod.mk.injEq]
    constructor
    · rintro ⟨hok, rfl, rfl⟩
      exact ⟨rfl, rfl, hok⟩
    · rintro ⟨rfl, rfl, hok⟩
      exact ⟨hok, rfl, rfl⟩

/-- Settles O7: a word is the sum of its parts at their positions, so decoding reads each part back and the parts give back the word. -/
theorem reedWordsRoundTrip : Obligations.ReedWordsRoundTrip := by
  unfold Obligations.ReedWordsRoundTrip
  constructor
  · intro op o hok
    have hop : ROp.ofCode ((reedWord op o).toNat / 2 ^ 58) = some op := by rw [reedWord_code, ROp.ofCode_code]
    exact decodeReed_eq_some.mpr ⟨hop, wordArgs_reedWord op o, hok⟩
  · intro w op o h
    obtain ⟨hop, rfl, hok⟩ := decodeReed_eq_some.mp h
    exact ⟨reedWord_wordArgs (ROp.code_of_ofCode hop), hok⟩

end Sys2Proof.Machine
end

section
/-! The coder of a batten's body: what a sequence of it decodes to, and a coded piece (O52: R393, R395, R396). -/

namespace Sys2Proof.Machine

/-! ## Lengths and tokens (R395) -/

theorem takeExt_replicate {b : Byte} (hb : b.toNat ≠ 255) (t : List Byte) :
    ∀ k n, takeExt (List.replicate k 255 ++ b :: t) n = some (n + 255 * k + b.toNat, t)
  | 0, n => by simp [takeExt, hb]
  | k + 1, n => by
    have hstep : takeExt (List.replicate (k + 1) 255 ++ b :: t) n = takeExt (List.replicate k 255 ++ b :: t) (n + 255) := by
      simp [List.replicate_succ, takeExt]
    rw [hstep, takeExt_replicate hb t k]
    congr 2
    omega

/-- A length is read back from its four bits and its extension bytes. -/
theorem takeLen_lenNibble (n : Nat) (t : List Byte) : takeLen (lenNibble n) (lenExt n ++ t) = some (n, t) := by
  unfold takeLen lenNibble lenExt
  by_cases hn : n < 15
  · simp [hn, Nat.min_eq_left (Nat.le_of_lt hn), Nat.ne_of_lt hn]
  · have hb : (BitVec.ofNat 8 ((n - 15) % 255)).toNat = (n - 15) % 255 := by
      rw [BitVec.toNat_ofNat]
      omega
    rw [if_neg hn, if_pos (by omega), List.append_assoc, List.singleton_append, takeExt_replicate (by omega), hb]
    congr 2
    omega

/-- The two lengths of a token are its high and its low four bits. -/
theorem token_lengths {a b : Nat} (ha : a ≤ 15) (hb : b ≤ 15) :
    (BitVec.ofNat 8 (a * 16 + b)).toNat / 16 = a ∧ (BitVec.ofNat 8 (a * 16 + b)).toNat % 16 = b := by
  rw [BitVec.toNat_ofNat]
  omega

theorem lenNibble_le (n : Nat) : lenNibble n ≤ 15 := Nat.min_le_right n 15

/-! ## One sequence decoded (R395, R396) -/

/-- The last sequence gives its literals. -/
theorem lzDecode_lastSeq (f : Nat) (lits out : List Byte) : lzDecode (f + 1) (lastSeq lits) out = some (out ++ lits) := by
  obtain ⟨hhi, _⟩ := token_lengths (lenNibble_le lits.length) (Nat.zero_le 15)
  rw [Nat.add_zero] at hhi
  have hlen : takeLen (lenNibble lits.length) (lenExt lits.length ++ lits) = some (lits.length, lits) := takeLen_lenNibble _ lits
  simp only [lastSeq, lzDecode, hhi, hlen, List.drop_length, List.take_length, lt_self_iff_false, if_false]

/-- Any other sequence gives its literals and copies its match, and decoding goes on behind them. -/
theorem lzDecode_seqBytes (f : Nat) (lits rest out : List Byte) {dist len : Nat} (hd : 1 ≤ dist) (hd' : dist ≤ 32768)
    (ho : dist ≤ (out ++ lits).length) (hl : 3 ≤ len) :
    lzDecode (f + 1) (seqBytes lits dist len ++ rest) out = lzDecode f rest (copyBack dist len (out ++ lits)) := by
  obtain ⟨hhi, hlo⟩ := token_lengths (lenNibble_le lits.length) (lenNibble_le (len - 3))
  have hv : (BitVec.ofNat 8 ((dist - 1) / 256)).toNat * 256 + (BitVec.ofNat 8 (dist - 1)).toNat = dist - 1 := by
    simp only [BitVec.toNat_ofNat]
    omega
  have hlt : (decide (32768 ≤ dist - 1) || decide ((out ++ lits).length < dist - 1 + 1)) = false := by
    rw [Bool.or_eq_false_iff, decide_eq_false_iff_not, decide_eq_false_iff_not]
    omega
  simp only [seqBytes, List.cons_append, List.append_assoc, lzDecode, hhi, hlo, takeLen_lenNibble, List.drop_left, List.take_left,
    List.nil_append, hv, hlt]
  rw [if_neg (by simp), if_neg (by simp), Nat.sub_add_cancel hd, Nat.sub_add_cancel hl]

/-! ## Matches (R393, R396) -/

/-- A match says that each of its bytes stands in the body and comes again from its distance back. -/
theorem isMatch_iff {body : List Byte} {pos dist len : Nat} : isMatch body pos dist len = true ↔
    1 ≤ dist ∧ dist ≤ 32768 ∧ dist ≤ pos ∧ 3 ≤ len ∧ ∀ k < len, body[pos + k]? = body[pos + k - dist]? ∧ pos + k < body.length := by
  simp [isMatch, and_assoc]

theorem matchAt_isMatch {level : Nat} {body : List Byte} {pos : Nat} {m : Nat × Nat} (h : matchAt level body pos = some m) :
    isMatch body pos m.1 m.2 = true := by
  refine List.foldlRecOn (motive := fun best => ∀ m ∈ best, isMatch body pos m.1 m.2 = true) _ _
    (fun _ hm => absurd hm (Option.not_mem_none _)) ?_ m h
  intro best hbest k _
  dsimp only
  split
  next hc => exact fun m hm => by cases hm; exact (Bool.and_eq_true_iff.mp hc).1
  next => exact hbest

/-- The copy of a match behind the body up to it gives the body up to the match's end. -/
theorem copyBack_take {body : List Byte} {dist : Nat} (hd : 1 ≤ dist) : ∀ (len pos : Nat), dist ≤ pos →
    (∀ k < len, body[pos + k]? = body[pos + k - dist]? ∧ pos + k < body.length) →
    copyBack dist len (body.take pos) = body.take (pos + len)
  | 0, _, _, _ => rfl
  | len + 1, pos, hpos, h => by
    obtain ⟨heq, hlt⟩ := h 0 (Nat.succ_pos len)
    rw [Nat.add_zero] at heq hlt
    have hbyte : (body.take pos).getD ((body.take pos).length - dist) 0 = body[pos] := by
      rw [List.length_take_of_le (Nat.le_of_lt hlt), List.getD_eq_getElem?_getD, List.getElem?_take_of_lt (by omega), ← heq,
        List.getElem?_eq_getElem hlt, Option.getD_some]
    have hnext : ∀ k < len, body[pos + 1 + k]? = body[pos + 1 + k - dist]? ∧ pos + 1 + k < body.length := fun k hk => by
      have := h (k + 1) (Nat.succ_lt_succ hk)
      rwa [← Nat.add_assoc, Nat.add_right_comm] at this
    rw [copyBack, hbyte, ← List.take_succ_eq_append_getElem hlt, copyBack_take hd len (pos + 1) (by omega) hnext, Nat.add_right_comm]
    rfl

/-! ## The sequences of a body -/

/-- The sequences from a position on, with literals waiting, decode behind what comes before the literals to the whole body. -/
theorem lzDecode_lzFrom (level : Nat) (body : List Byte) : ∀ (fuel f pos : Nat) (lits out : List Byte), out ++ lits = body.take pos →
    pos ≤ body.length → body.length - pos ≤ fuel → body.length - pos < f → lzDecode f (lzFrom level body fuel pos lits) out = some body
  | _, 0, _, _, _, _, _, _, hf => absurd hf (Nat.not_lt_zero _)
  | 0, f + 1, pos, lits, out, hout, hpos, hfuel, _ => by
    rw [lzFrom, lzDecode_lastSeq, hout, List.take_of_length_le (by omega)]
  | fuel + 1, f + 1, pos, lits, out, hout, hpos, hfuel, hf => by
    rw [lzFrom]
    cases hb : body[pos]? with
    | none => rw [lzDecode_lastSeq, hout, List.take_of_length_le (List.getElem?_eq_none_iff.mp hb)]
    | some b =>
      obtain ⟨hlt, hbyte⟩ := List.getElem?_eq_some_iff.mp hb
      cases hm : matchAt level body pos with
      | none =>
        refine lzDecode_lzFrom level body fuel (f + 1) (pos + 1) (lits ++ [b]) out ?_ hlt (by omega) (by omega)
        rw [← List.append_assoc, hout, ← hbyte, List.take_succ_eq_append_getElem hlt]
      | some m =>
        obtain ⟨hd, hd', hdp, hl, hbytes⟩ := isMatch_iff.mp (matchAt_isMatch hm)
        have hend : pos + m.2 ≤ body.length := by have := (hbytes (m.2 - 1) (by omega)).2; omega
        have hback : m.1 ≤ (out ++ lits).length := by rwa [hout, List.length_take_of_le hpos]
        dsimp only
        rw [lzDecode_seqBytes f lits _ out hd hd' hback hl, hout, copyBack_take hd m.2 pos hdp hbytes]
        exact lzDecode_lzFrom level body fuel f (pos + m.2) [] _ (List.append_nil _) hend (by omega) (by omega)

/-- Settles O52: a piece's sequences start where the part before it ends, with no literals waiting. -/
theorem codedPieceDecodesBack : Obligations.CodedPieceDecodesBack := by
  unfold Obligations.CodedPieceDecodesBack
  intro level before piece
  refine lzDecode_lzFrom level (before ++ piece) (piece.length + 1) (piece.length + 2) before.length [] before ?_ ?_ ?_ ?_
  · rw [List.append_nil, List.take_left]
  all_goals (rw [List.length_append]; omega)

end Sys2Proof.Machine
end

section
/-! SUPPORT. What a reply is made of beside its request, which closing and suspending a stream leave as it was (R415, R418, R423, R446). -/

namespace Sys2Proof.Machine

/-- The words that the packet of a reply and its sending depend on: both ports' STR_PORT, and PTB_CRC. -/
def signWord (a : Nat) : Prop := (0x0C0004 ≤ a ∧ a < 0x0C000C) ∨ a = 0x18001C

/-- Every session signs its packets as before, and the words of a reply read as before. -/
structure State.signsAlike (s t : State) : Prop where
  key : ∀ k, (t.sess k).key = (s.sess k).key
  word : ∀ a, signWord a → t.rd a = s.rd a

theorem State.signsAlike.trans {s t u : State} (h : s.signsAlike t) (g : t.signsAlike u) : s.signsAlike u :=
  ⟨fun k => (g.key k).trans (h.key k), fun a ha => (g.word a ha).trans (h.word a ha)⟩

theorem State.signsAlike.refl (s : State) : s.signsAlike s := ⟨fun _ => rfl, fun _ _ => rfl⟩

/-- A step that leaves the sessions and writes none of those words. -/
theorem State.signsAlike.of_words {s t : State} (hq : t.qcp = s.qcp) (hw : ∀ a, signWord a → t.rd a = s.rd a) : s.signsAlike t :=
  ⟨fun k => congrArg Session.key (State.sess_congr hq k), hw⟩

theorem State.put_signsAlike (s : State) {f : Fld} (n : Nat) (h : ¬ signWord f.addr) : s.signsAlike (s.put f n) :=
  .of_words rfl fun _ ha => State.rd_put_other _ _ fun e => h (e ▸ ha)

/-- The streams, the ports and the rings lie in one block. -/
theorem blockOf_streams {a : Nat} (h : 0x0C0000 ≤ a) (h' : a < 0x0D0000) : blockOf a = 12 := by
  unfold blockOf
  rw [if_pos (by omega)]
  omega

/-- What stays within blocks other than those of the streams and the perturbations, and leaves the sessions. -/
theorem State.within.signsAlike {s t : State} {K : List Comp} {B : List Nat} (h : s.within t K B) (hq : .qcp ∉ K) (hp : 12 ∉ B) (hc : 24 ∉ B) :
    s.signsAlike t := by
  refine .of_words (h.comp .qcp hq) fun a ha => h.word a ?_
  obtain ha | rfl := ha
  · rwa [blockOf_streams (by omega) (by omega)]
  · exact hc

theorem State.modSess_signsAlike (s : State) (r : Nat) {f : Session → Session} (hf : ∀ x, (f x).key = x.key) : s.signsAlike (s.modSess r f) :=
  ⟨fun _ => s.sess_modSess_keeps r _ hf, fun _ _ => rfl⟩

theorem signWord_qcpWord {a : Nat} (h : signWord a) : ¬ qcpWord a := by
  unfold signWord qcpWord at *
  omega

theorem State.sendEvent_signsAlike (s : State) (v : Via) (p : Packet) : s.signsAlike (s.sendEvent v p) :=
  .of_words (s.sendEvent_qcp v p) fun a ha => (s.sendEvent_qcpOnly v p).2 a (signWord_qcpWord ha)

theorem State.logEvent_signsAlike (s : State) (r : Nat) (v : Via) (items : List Item) (op : Nat := 0x0180) :
    s.signsAlike (s.logEvent r v items op) := by
  unfold State.logEvent
  dsimp only
  split
  · refine .trans ?_ (State.sendEvent_signsAlike ..)
    exact s.modSess_signsAlike r fun _ => rfl
  · exact s.modSess_signsAlike r fun _ => rfl

theorem State.trimLog_signsAlike (s : State) (r : Nat) : s.signsAlike (s.trimLog r) := by
  unfold State.trimLog
  dsimp only
  split
  · exact .refl s
  · split
    · exact s.modSess_signsAlike r fun _ => rfl
    · refine .trans ?_ (State.logEvent_signsAlike ..)
      exact s.modSess_signsAlike r fun _ => rfl

theorem State.eventStream_signsAlike (s : State) (n code : Nat) : s.signsAlike (s.eventStream n code) := by
  unfold State.eventStream
  split
  · exact (State.logEvent_signsAlike ..).trans (State.trimLog_signsAlike ..)
  · exact .refl s

theorem State.signsAlike.cutOf {s t : State} (h : s.signsAlike t) (v : Via) : t.cutOf v = s.cutOf v := by
  unfold State.cutOf State.get
  cases v with
  | udp p => dsimp only; rw [h.word _ (.inl (by omega))]
  | mailbox m => rfl

theorem State.signsAlike.replyPacket {s t : State} (h : s.signsAlike t) (q : ReqHdr) (op st : Nat) (l : List Item) :
    replyPacket t q op st l = replyPacket s q op st l := by
  unfold Machine.replyPacket
  rw [h.key, h.cutOf]

/-- An admitted request's reply leaves, whatever its body has sent before it, where the body signs alike. -/
theorem State.signsAlike.reply_mem {s u : State} {q : ReqHdr} {op : Nat} (hs : (s.taken q op).signsAlike u) (h : s.admits q) (st : Nat)
    (l : List Item) : .qcp q.via (Machine.replyPacket s q op st l) ∈ (u.reply q op st l).out := by
  have hcrc : u.get PTB_CRC.N = 0 := (congrArg PTB_CRC.N.ofWord (hs.word _ (.inr rfl))).trans h.1.2.2.2
  obtain ⟨m, hm, -⟩ := u.reply_replied q op st l hcrc
  rw [hm, hs.replyPacket, replyPacket_taken]
  exact List.mem_append_right _ (List.mem_cons_self ..)

end Sys2Proof.Machine
end

section
/-! SUPPORT. The streams: the close of their open battens, their suspension and their resumption (R378 to R382, R474, R478). -/

namespace Sys2Proof.Machine

/-! ## A stream's own state -/

theorem State.str_modStr (s : State) (n m : Nat) (f : StreamSt → StreamSt) :
    (s.modStr n f).str m = if n = m ∧ m < s.strm.st.length then f (s.str m) else s.str m := updAt_getD ..

theorem State.str_modStr_same {s : State} {n : Nat} (h : n < s.strm.st.length) (f : StreamSt → StreamSt) :
    (s.modStr n f).str n = f (s.str n) := updAt_getD_same h ..

/-- What a change of a stream leaves alone reads as before. -/
theorem State.str_modStr_keeps {α : Type} (s : State) (n m : Nat) {f : StreamSt → StreamSt} {g : StreamSt → α} (hf : ∀ x, g (f x) = g x) :
    g ((s.modStr n f).str m) = g (s.str m) := by
  rw [State.str_modStr]
  split
  · exact hf _
  · rfl

theorem State.modStr_regs (s : State) (n : Nat) (f : StreamSt → StreamSt) : (s.modStr n f).regs = s.regs := rfl

/-- A number without a stream reads as a stream that has not started. -/
theorem State.str_eq_default {s : State} {n : Nat} (h : s.strm.st.length ≤ n) : s.str n = {} := List.getD_eq_default _ _ h

/-- A stream that is not as at its reset is one of the list. -/
theorem State.str_lt {s : State} {n : Nat} (h : s.str n ≠ {}) : n < s.strm.st.length := by
  by_contra hn
  exact h (State.str_eq_default (Nat.le_of_not_lt hn))

theorem State.str_congr {s t : State} (h : t.strm = s.strm) (n : Nat) : t.str n = s.str n := congrArg (fun x : Streams => x.st.getD n {}) h

/-! ## What is missing of an open period (R380) -/

/-- Outputs may have been appended to a stream's open battens: what waits for an egress and the choice for suspension are as before. -/
structure State.fills (s t : State) (n : Nat) : Prop where
  queue : t.strm.q = s.strm.q
  chosen : (t.str n).chosen = (s.str n).chosen
  open_ : (s.str n).open_ <+: (t.str n).open_

theorem State.fills.refl (s : State) (n : Nat) : s.fills s n := ⟨rfl, rfl, List.prefix_refl _⟩

theorem State.fills.trans {s t u : State} {n : Nat} (h : s.fills t n) (g : t.fills u n) : s.fills u n :=
  ⟨g.queue.trans h.queue, g.chosen.trans h.chosen, h.open_.trans g.open_⟩

theorem State.addOut_fills (s : State) (n : Nat) (o : BOut) : s.fills (s.addOut n o) n := by
  refine ⟨rfl, s.str_modStr_keeps n n fun _ => rfl, ?_⟩
  unfold State.addOut
  rw [State.str_modStr]
  split
  · exact List.prefix_append _ _
  · exact List.prefix_refl _

theorem State.fillGap_fills (s : State) (n : Nat) (like : BOut) (i j : Nat) : s.fills (s.fillGap n like i j) n :=
  List.foldlRecOn (motive := fun t => s.fills t n) _ _ (.refl s n) fun _ h _ _ => h.trans (State.addOut_fills ..)

theorem State.fillOpen_fills (s : State) (n : Nat) : s.fills (s.fillOpen n) n := by
  unfold State.fillOpen
  split
  · dsimp only
    split
    · exact .refl s n
    · split
      · exact .refl s n
      · exact State.fillGap_fills ..
  · exact .refl s n

theorem State.fillOpen_get (s : State) (n : Nat) (f : Fld) : (s.fillOpen n).get f = s.get f := State.fillOpen_within.get List.not_mem_nil

/-! ## The close of the open battens (R378, R381, R382) -/

/-- Packets of a stream may have been queued and its open battens closed: its choice for suspension is as before, and of the words its
SEQ alone may have changed. -/
structure State.queues (s t : State) (n : Nat) : Prop where
  queue : s.strm.q <+: t.strm.q
  chosen : (t.str n).chosen = (s.str n).chosen
  open_ : (s.str n).open_ = [] → (t.str n).open_ = []
  word : ∀ a, a ≠ (STR_W10.SEQ n).addr → t.rd a = s.rd a

theorem State.queues.refl (s : State) (n : Nat) : s.queues s n := ⟨List.prefix_refl _, rfl, id, fun _ _ => rfl⟩

theorem State.queues.trans {s t u : State} {n : Nat} (h : s.queues t n) (g : t.queues u n) : s.queues u n :=
  ⟨h.queue.trans g.queue, g.chosen.trans h.chosen, fun e => g.open_ (h.open_ e), fun a ha => (g.word a ha).trans (h.word a ha)⟩

theorem State.queues.get {s t : State} {n : Nat} (h : s.queues t n) {f : Fld} (hf : f.addr ≠ (STR_W10.SEQ n).addr) : t.get f = s.get f :=
  congrArg f.ofWord (h.word _ hf)

/-- A change of the stream beside its open battens and its choice. -/
theorem State.modStr_queues (s : State) (n : Nat) {f : StreamSt → StreamSt} (hc : ∀ x, (f x).chosen = x.chosen)
    (ho : ∀ x, x.open_ = [] → (f x).open_ = []) : s.queues (s.modStr n f) n := by
  refine ⟨List.prefix_refl _, s.str_modStr_keeps n n hc, fun h => ?_, fun _ _ => rfl⟩
  rw [State.str_modStr]
  split
  · exact ho _ h
  · exact h

theorem State.queueBytes_queues (s : State) (n : Nat) (mk : BitVec 32 → Bool → List Byte) : s.queues (s.queueBytes n mk) n := by
  unfold State.queueBytes
  extract_lets seq e t1 t2 t3
  have h1 : s.queues t1 n := ⟨List.prefix_refl _, rfl, id, fun _ ha => State.rd_put_other _ _ ha⟩
  have h2 : s.queues t2 n := h1.trans (State.modStr_queues _ _ (fun _ => rfl) fun _ => id)
  have h3 : s.queues t3 n := by
    unfold t3
    split
    · exact h2
    · exact h2.trans ⟨List.prefix_refl _, rfl, id, fun _ _ => rfl⟩
  exact h3.trans ⟨List.prefix_append _ _, rfl, id, fun _ _ => rfl⟩

theorem State.sendGap_queues (s : State) (n : Nat) (like : Option BOut) : s.queues (s.sendGap n like) n := by
  unfold State.sendGap
  split
  · exact .refl s n
  · exact (State.queueBytes_queues ..).trans (State.modStr_queues _ _ (fun _ => rfl) fun _ => id)

/-- The outputs of the open battens have been taken out, with what they account for (R386). -/
def State.outsTaken (s : State) (n last : Nat) : State :=
  s.modStr n (fun x => { x with open_ := [], missed := x.missed.filter (fun e => decide (last < e.2)) })

theorem State.outsTaken_queues (s : State) (n last : Nat) : s.queues (s.outsTaken n last) n :=
  State.modStr_queues _ _ (fun _ => rfl) fun _ _ => rfl

theorem State.outsTaken_open (s : State) (n last : Nat) : ((s.outsTaken n last).str n).open_ = [] := by
  unfold State.outsTaken
  rw [State.str_modStr]
  split
  · rfl
  · rw [State.str_eq_default (by omega)]

/-- Closing queues the gap record, takes the outputs out and queues their battens. -/
theorem State.closeOpen_steps (s : State) (n : Nat) :
    (s.str n).open_ = [] ∧ s.closeOpen n = s ∨ ∃ like last, ((s.sendGap n like).outsTaken n last).queues (s.closeOpen n) n := by
  unfold State.closeOpen
  extract_lets outs t1 last t2 c k
  have hq : t2.queues ((List.range ((c + k - 1) / k)).foldl (fun u b => u.queueBytes n (s.battenBytes n outs (b * k) (min k (c - b * k)))) t2) n :=
    List.foldlRecOn (motive := fun t => t2.queues t n) _ _ (.refl t2 n) fun _ h _ _ => h.trans (State.queueBytes_queues ..)
  by_cases ho : outs = []
  · exact .inl ⟨ho, if_pos ho⟩
  · rw [if_neg ho]
    refine .inr ⟨outs.head?, last, ?_⟩
    split
    · exact State.queueBytes_queues t2 n _
    · exact hq

theorem State.closeOpen_queues (s : State) (n : Nat) : s.queues (s.closeOpen n) n := by
  obtain ⟨-, h⟩ | ⟨like, last, h⟩ := s.closeOpen_steps n
  · rw [h]
    exact .refl s n
  · exact ((State.sendGap_queues ..).trans (State.outsTaken_queues ..)).trans h

theorem State.closeOpen_open (s : State) (n : Nat) : ((s.closeOpen n).str n).open_ = [] := by
  obtain ⟨ho, h⟩ | ⟨like, last, h⟩ := s.closeOpen_steps n
  · rw [h, ho]
  · exact h.open_ (State.outsTaken_open ..)

theorem State.closeOpen_strState (s : State) (n : Nat) : (s.closeOpen n).strState n = s.strState n :=
  (s.closeOpen_queues n).get (by dsimp only; omega)

theorem State.closeOpen_signsAlike (s : State) (n : Nat) : s.signsAlike (s.closeOpen n) := by
  refine .of_words (State.closeOpen_within.comp .qcp (by decide)) fun a ha => (s.closeOpen_queues n).word a ?_
  unfold signWord at ha
  dsimp only at *
  omega

/-! ## Suspension and resumption (R474, R478) -/

theorem State.evalFallback_strState (s : State) (n : Nat) : s.evalFallback.strState n = s.strState n :=
  State.evalFallback_within.get (by
    rw [blockOf_streams (by dsimp only; omega) (by dsimp only; omega)]
    decide)

theorem State.put_strState (s : State) (n v : Nat) : (s.put (STR_W15.STATE n) v).strState n = v % 4 :=
  State.get_put_same _ _ _ (Nat.le_refl 32)

theorem State.updOverdrawn_strState (s : State) (n : Nat) : s.updOverdrawn.strState n = s.strState n :=
  State.updOverdrawn_get _ (by dsimp only; omega)

theorem State.awaitRestart_strState (s : State) (n : Nat) : (s.awaitRestart n).strState n = s.strState n :=
  State.awaitRestart_within.get List.not_mem_nil

/-- The words below the perturbations' are none that requests and replies write. -/
theorem not_qcpWord_below {a : Nat} (h : a < 0x180000) : ¬ qcpWord a := by
  unfold qcpWord
  omega

theorem State.eventStream_get (s : State) (n code : Nat) {f : Fld} (h : ¬ qcpWord f.addr) : (s.eventStream n code).get f = s.get f := by
  unfold State.eventStream
  split
  · exact State.qcpOnly_get (State.event_qcpOnly ..) h
  · rfl

theorem State.eventStream_strState (s : State) (n code m : Nat) : (s.eventStream n code).strState m = s.strState m :=
  State.eventStream_get _ _ _ (not_qcpWord_below (by dsimp only; omega))

theorem State.suspend_strState (s : State) (n : Nat) : (s.suspend n).strState n = 2 := by
  unfold State.suspend
  rw [State.evalFallback_strState, State.eventStream_strState, State.updOverdrawn_strState, State.put_strState]

theorem State.suspend_strm (s : State) (n : Nat) : (s.suspend n).strm = (s.modStr n (fun x => { x with chosen := false })).strm := by
  unfold State.suspend
  rw [State.evalFallback_within.comp .strm (by decide), State.eventStream_within.comp .strm (by decide),
    State.updOverdrawn_within.comp .strm (by decide)]
  rfl

theorem State.suspend_open (s : State) (n : Nat) : ((s.suspend n).str n).open_ = (s.str n).open_ := by
  rw [State.str_congr (s.suspend_strm n)]
  exact s.str_modStr_keeps n n fun _ => rfl

theorem State.suspend_signsAlike (s : State) (n : Nat) : s.signsAlike (s.suspend n) := by
  have hmod : s.signsAlike (s.modStr n (fun x => { x with chosen := false })) := .of_words rfl fun _ _ => rfl
  have hput := hmod.trans (State.put_signsAlike _ (f := STR_W15.STATE n) 2 (by unfold signWord; dsimp only; omega))
  have hover := hput.trans (State.updOverdrawn_within.signsAlike (by decide) (by decide) (by decide))
  exact (hover.trans (State.eventStream_signsAlike _ n 0x0303)).trans
    (State.evalFallback_within.signsAlike (by decide) (by decide) (by decide))

/-- A full batten closes, and a stream chosen for it is suspended there (R381, R474). -/
theorem State.closeFull_closes (s : State) (n : Nat) : ((s.closeFull n).str n).open_ = [] ∧ s.strm.q <+: (s.closeFull n).strm.q ∧
    (s.closeFull n).strState n = if (s.str n).chosen then 2 else s.strState n := by
  have hq := s.closeOpen_queues n
  unfold State.closeFull
  dsimp only
  rw [hq.chosen]
  cases (s.str n).chosen with
  | true =>
    refine ⟨(State.suspend_open ..).trans (s.closeOpen_open n), ?_, State.suspend_strState ..⟩
    rw [if_pos rfl, State.suspend_strm]
    exact hq.queue
  | false => exact ⟨s.closeOpen_open n, hq.queue, s.closeOpen_strState n⟩

theorem State.closeFull_signsAlike (s : State) (n : Nat) : s.signsAlike (s.closeFull n) := by
  unfold State.closeFull
  dsimp only
  split
  · exact (s.closeOpen_signsAlike n).trans (State.suspend_signsAlike ..)
  · exact s.closeOpen_signsAlike n

theorem State.tryResume_runs {s : State} {n r : Nat} (ho : s.strOwner n = some r) (hd : s.isOverdrawn r = false)
    (hf : s.handedOver.streamsFit r (n :: s.handedOver.runningOf r) = true) : (s.tryResume n).strState n = 1 := by
  unfold State.tryResume
  rw [ho]
  dsimp only
  rw [hd, hf, Bool.not_false, Bool.and_true, if_pos rfl, State.evalFallback_strState, State.awaitRestart_strState,
    State.updOverdrawn_strState, State.put_strState]

/-- Where no suspended stream of the session is older, a stream resumes alone at its boundary. -/
theorem State.resumeAt_oldest {s : State} {n r : Nat} (hn : n < 64) (ho : s.strOwner n = some r)
    (hm : ∀ m < 64, s.strState m = 2 → s.strOwner m = some r → (s.str n).order ≤ (s.str m).order) : s.resumeAt n = s.tryResume n := by
  have hl : (List.range 64).filter (fun m => m == n
      || (s.strState m == 2 && s.strOwner m == s.strOwner n && decide ((s.str m).order < (s.str n).order) && s.sharesBoundary n m))
      = (List.range 64).filter (fun m => m == n) := by
    refine List.filter_congr fun m hm64 => ?_
    rw [Bool.or_eq_left_iff_imp]
    intro h
    simp only [Bool.and_eq_true, beq_iff_eq, decide_eq_true_eq] at h
    obtain ⟨⟨⟨hst, how⟩, hlt⟩, -⟩ := h
    exact absurd (hm m (List.mem_range.mp hm64) hst (how.trans ho)) (Nat.not_le.mpr hlt)
  have hone : (List.range 64).filter (fun m => m == n) = [n] := by
    rw [List.filter_beq, List.count_eq_one_of_mem List.nodup_range (List.mem_range.mpr hn)]
    rfl
  unfold State.resumeAt
  rw [hl, hone]
  rfl

end Sys2Proof.Machine
end

section
/-! SUPPORT. Battens that leave: fragments on an Ethernet port, a session's ring, and what a stream counts of them (R400 to R405, R409,
R412, R413). -/

namespace Sys2Proof.Machine

/-! ## The counts of a stream -/

/-- A field that is counted up shows one more, within its width. -/
theorem State.get_count_same (s : State) {f : Fld} (h : f.lo + f.width ≤ 32) : (s.count f).get f = (s.get f + 1) % 2 ^ f.width :=
  State.get_put_same _ _ _ h

theorem State.get_count_other (s : State) {f g : Fld} (h : f.addr ≠ g.addr) : (s.count f).get g = s.get g :=
  State.get_put_other _ _ _ _ (.inl h)

/-- The field that counts a batten once it has been sent: live, re-sent or expired (R413). -/
def Egr.sentFld (e : Egr) : Fld :=
  if e.expired then STR_W14.EXPIRED e.stream else if e.resend then STR_W13.RESENT e.stream else STR_W11.SENT e.stream

theorem State.countSent_eq (s : State) (e : Egr) : s.countSent e = s.count e.sentFld := rfl

/-- It is a whole word of a stream's window. -/
theorem Egr.sentFld_place (e : Egr) : e.sentFld.lo + e.sentFld.width ≤ 32 ∧ 0x0C1000 ≤ e.sentFld.addr ∧ e.sentFld.addr < 0x0C2000 := by
  unfold Egr.sentFld
  split
  · dsimp only
    omega
  · split <;> (dsimp only; omega)

theorem State.dropEgr_get (s : State) (e : Egr) (f : Fld) : (s.dropEgr e).get f = s.get f := rfl

/-! ## Fragments on an Ethernet port (R400, R402, R409) -/

/-- Some frames have left the block: what waits for an egress is as before, with every word outside QCP's; with no CRC perturbation
they are so many. -/
structure State.framed (s t : State) (k : Nat) : Prop where
  queue : t.strm.q = s.strm.q
  word : ∀ a, ¬ qcpWord a → t.rd a = s.rd a
  out : s.get PTB_CRC.N = 0 → t.out.length = s.out.length + k

theorem State.framed.get {s t : State} {k : Nat} (h : s.framed t k) {f : Fld} (hf : ¬ qcpWord f.addr) : t.get f = s.get f :=
  congrArg f.ofWord (h.word _ hf)

theorem State.framed.trans {s t u : State} {j k : Nat} (h : s.framed t j) (g : t.framed u k) : s.framed u (j + k) := by
  refine ⟨g.queue.trans h.queue, fun a ha => (g.word a ha).trans (h.word a ha), fun hc => ?_⟩
  rw [g.out ((h.get (by unfold qcpWord; decide)).trans hc), h.out hc, Nat.add_assoc]

theorem State.setBusy_framed (s : State) (x : Nat) (t : Ts) : s.framed (s.setBusy x t) 0 := by
  unfold State.setBusy
  split <;> exact ⟨rfl, fun _ _ => rfl, fun _ => rfl⟩

theorem State.sendFrag_framed (s : State) (x : Fin 2) (e : Egr) (i : Nat) : s.framed (s.sendFrag x e i) 1 := by
  unfold State.sendFrag
  dsimp only
  refine ⟨by rw [State.emit_strm], fun a ha => State.emit_rd _ _ ha, fun hc => ?_⟩
  rw [State.emit_out _ _ hc (by intros; exact Out.noConfusion)]
  exact List.length_append

/-- On a port that is not scheduled every fragment may start, so all that are left are sent (R408, R409). -/
theorem State.sendFrags_unscheduled (x : Fin 2) (e : Egr) : ∀ (k i : Nat) (s : State), s.flag (STR_PORT.SCHED x.val) = false →
    (s.sendFrags x e k i).2 = i + k ∧ s.framed (s.sendFrags x e k i).1 k
  | 0, _, _, _ => ⟨rfl, rfl, fun _ _ => rfl, fun _ => rfl⟩
  | k + 1, i, s, h => by
    have hfits : s.fragFits x.val e i = true := by
      unfold State.fragFits
      rw [h]
      rfl
    have hone : s.framed ((s.sendFrag x e i).setBusy x.val (max s.now (s.busyEnd x.val) + s.wireTime x.val e i)) 1 :=
      (s.sendFrag_framed x e i).trans (State.setBusy_framed ..)
    have hsched := (State.flag_congr (hone.get (f := STR_PORT.SCHED x.val) (not_qcpWord_below (by dsimp only; omega)))).trans h
    obtain ⟨hcount, hrest⟩ := State.sendFrags_unscheduled x e k (i + 1) _ hsched
    rw [State.sendFrags, if_pos hfits]
    refine ⟨hcount.trans (by omega), ?_⟩
    rw [Nat.add_comm k 1]
    exact hone.trans hrest

/-- The batten that is sent next on an Ethernet port: the one under way, or the next of those whose hop is known (R400). -/
def State.nextEth (s : State) (x : Fin 2) : Option Egr :=
  ((s.strm.q.filter (fun e => e.egress == .eth x)).find? (fun e => decide (0 < e.frag))).orElse
    (fun _ => pickEgr (s.strm.q.filter (fun e => e.egress == .eth x)) (fun e => s.hopKnown x.val e.udp))

theorem State.sendEth_sends {s : State} {x : Fin 2} {e : Egr} (hl : s.flag (NET_W1.LINK x.val) = true) (hb : s.bpHeld (3 - x.val) = false)
    (hs : s.flag (STR_PORT.SCHED x.val) = false) (he : s.nextEth x = some e) (hf : e.frag ≤ e.frags) :
    s.sendEth x = ((s.sendFrags x e (e.frags - e.frag) e.frag).1.dropEgr e).countSent e := by
  have hall : (s.sendFrags x e (e.frags - e.frag) e.frag).2 = e.frags := by
    rw [(State.sendFrags_unscheduled x e _ _ s hs).1, Nat.add_sub_cancel' hf]
  unfold State.nextEth at he
  unfold State.sendEth
  rw [hl, hb, if_neg (by decide)]
  dsimp only
  rw [he]
  exact if_pos hall

/-- BATTEN_SEND on an Ethernet port that is not scheduled sends the batten with all its fragments (R400, R409). -/
theorem battenSend_eth {s : State} {x : Fin 2} {e : Egr} (hl : s.flag (NET_W1.LINK x.val) = true) (hb : s.bpHeld (3 - x.val) = false)
    (hs : s.flag (STR_PORT.SCHED x.val) = false) (he : s.nextEth x = some e) (hf : e.frag ≤ e.frags) :
    Leads (.battenSend (.eth x)) s (fun t => t.strm.q = s.strm.q.erase e ∧ t.get e.sentFld = (s.get e.sentFld + 1) % 2 ^ e.sentFld.width ∧
      (s.get PTB_CRC.N = 0 → t.out.length = s.out.length + (e.frags - e.frag))) := by
  obtain ⟨hfit, -, hplace⟩ := e.sentFld_place
  have hsent := (State.sendFrags_unscheduled x e (e.frags - e.frag) e.frag s hs).2
  refine ⟨_, congrArg Host.Outcome.next (State.sendEth_sends hl hb hs he hf), ?_, ?_, hsent.out⟩
  · exact congrArg (·.erase e) hsent.queue
  · rw [State.countSent_eq, State.get_count_same _ hfit, State.dropEgr_get, hsent.get (not_qcpWord_below (hplace.trans (by decide)))]

/-! ## A session's ring (R404, R405, R412) -/

/-- The next batten of a session's ring. -/
def State.nextRing (s : State) (r : Fin 8) : Option Egr := pickEgr (s.strm.q.filter (fun e => e.egress == .ring r)) (fun _ => true)

/-- Bytes of a ring that a batten takes: whole 64 B (R404). -/
def Egr.ringBytes (e : Egr) : Nat := (e.bytes.length + 63) / 64 * 64

/-- The write pointer shows what it is set to, once its mirror and the batten's count have been written. -/
theorem State.wptr_shown (a : State) (r v addr : Nat) (l : List Byte) (e : Egr) :
    (((a.put (RING_W6.WPTR r) v).emit (.host addr l)).countSent e).get (RING_W6.WPTR r) = v % 2 ^ (RING_W6.WPTR r).width := by
  obtain ⟨-, hplace, -⟩ := e.sentFld_place
  rw [State.countSent_eq, State.get_count_other _ (by dsimp only; omega),
    State.emit_get _ _ (not_qcpWord_below (by dsimp only; omega)), State.get_put_same _ _ _ (by dsimp only; omega)]

/-- A batten that fits is written to the ring, and the write pointer moves behind it. -/
theorem battenSend_ring {s : State} {r : Fin 8} {e : Egr} (he : s.nextRing r = some e) (hb : s.bpHeld 1 = false)
    (hfree : e.ringBytes ≤ s.ringFree r.val) : Leads (.battenSend (.ring r)) s (fun t => t.strm.q = s.strm.q.erase e ∧
      t.get (RING_W6.WPTR r.val) = (s.get (RING_W6.WPTR r.val) + e.ringBytes) % s.ringSize r.val % 2 ^ (RING_W6.WPTR r.val).width) := by
  unfold State.nextRing at he
  have hroom : (s.bpHeld 1 || decide (s.ringFree r.val < e.ringBytes)) = false := by
    rw [hb, Bool.false_or, decide_eq_false (Nat.not_lt.mpr hfree)]
  refine ⟨s.sendRing r, rfl, ?_⟩
  unfold State.sendRing
  rw [he]
  dsimp only
  rw [← Egr.ringBytes, hroom, if_neg Bool.false_ne_true]
  refine ⟨?_, State.wptr_shown ..⟩
  rw [State.countSent_eq, State.count_strm, State.emit_strm, State.put_strm]
  split
  · rw [State.emit_strm, State.emit_strm]
    rfl
  · rw [State.emit_strm]
    rfl

/-- A batten that does not fit, or meets a ring held full, is dropped (R405, R779). -/
theorem battenSend_ringFull {s : State} {r : Fin 8} {e : Egr} (he : s.nextRing r = some e)
    (hfull : s.bpHeld 1 = true ∨ s.ringFree r.val < e.ringBytes) : Leads (.battenSend (.ring r)) s (fun t => t.strm.q = s.strm.q.erase e ∧
      t.get (RING_W7.FULLCNT r.val) = (s.get (RING_W7.FULLCNT r.val) + 1) % 2 ^ (RING_W7.FULLCNT r.val).width ∧
      t.get (STR_W12.DROPPED e.stream) = (s.get (STR_W12.DROPPED e.stream) + 1) % 2 ^ (STR_W12.DROPPED e.stream).width) := by
  unfold State.nextRing at he
  have hroom : (s.bpHeld 1 || decide (s.ringFree r.val < e.ringBytes)) = true := by
    rwa [Bool.or_eq_true, decide_eq_true_eq]
  refine ⟨s.sendRing r, rfl, ?_⟩
  unfold State.sendRing
  rw [he]
  dsimp only
  rw [← Egr.ringBytes, hroom, if_pos rfl]
  refine ⟨rfl, ?_, ?_⟩
  · rw [State.get_count_other _ (by dsimp only; omega), State.get_count_same _ (by dsimp only; omega), State.dropEgr_get]
  · rw [State.get_count_same _ (by dsimp only; omega), State.get_count_other _ (by dsimp only; omega), State.dropEgr_get]

/-! ## Age (R401) -/

/-- The older of a batten found so far and another. -/
def olderEgr (b : Option Egr) (e : Egr) : Option Egr :=
  match b with
  | none => some e
  | some y => if e.closed < y.closed then some e else some y

/-- The oldest batten of a port whose first frame has not started. -/
def State.oldestUnstarted (s : State) (x : Fin 2) : Option Egr :=
  (s.strm.q.filter (fun e => e.egress == .eth x && e.frag == 0)).foldl olderEgr none

theorem battenAgeExpireStep_drops {s : State} {x : Fin 2} {e : Egr} (h : s.oldestUnstarted x = some e) : battenAgeExpireStep x s =
    (((s.atCyc (e.closed + s.get (STR_PORT.AGE x.val) * msCyc)).dropEgr e).count (STR_W12.DROPPED e.stream)).eventStream e.stream 0x0302 := by
  unfold battenAgeExpireStep
  split
  next hn => exact nomatch hn.symm.trans h
  next y hy =>
    cases Option.some.inj (hy.symm.trans h)
    rfl

theorem battenAgeExpire_drops {s : State} {x : Fin 2} {e : Egr} (h : s.oldestUnstarted x = some e) :
    Leads (.battenAgeExpire x) s (fun t => t.strm.q = s.strm.q.erase e ∧
      t.get (STR_W12.DROPPED e.stream) = (s.get (STR_W12.DROPPED e.stream) + 1) % 2 ^ (STR_W12.DROPPED e.stream).width) := by
  refine ⟨_, congrArg Host.Outcome.next (battenAgeExpireStep_drops h), ?_, ?_⟩
  · rw [State.eventStream_within.comp .strm (by decide)]
    exact congrArg (fun x : Streams => x.q.erase e) (State.atCyc_within.comp .strm (by decide))
  · rw [State.eventStream_get _ _ _ (not_qcpWord_below (by dsimp only; omega)), State.get_count_same _ (by dsimp only; omega),
      State.dropEgr_get, State.atCyc_within.get List.not_mem_nil]

/-! ## Launch windows (R408, R411) -/

theorem State.at_regs (s : State) (t : Ts) : (s.at t).regs = s.regs := by
  unfold State.at
  split <;> rfl

/-- The distance from a time to the next of a phase, added to it, comes to that phase. -/
theorem add_to_phase {o p : Nat} (t : Nat) (h : o < p) : (t + (o + p - t % p) % p) % p = o := by
  have hlt : t % p < p := Nat.mod_lt _ (by omega)
  have hdiv : p * (t / p) + t % p = t := Nat.div_add_mod t p
  have hsum : t + (o + p - t % p) = o + p * (t / p + 1) := by
    rw [Nat.mul_succ]
    omega
  rw [Nat.add_mod_mod, hsum, Nat.add_mul_mod_self_left, Nat.mod_eq_of_lt h]

/-- The next instant at which a port's launch window opens lies within a period and OFFSET after a whole one. -/
theorem State.windowAt_place (s : State) {x : Nat} (h : s.winOffset x < s.winPeriod x) :
    s.now ≤ s.windowAt x ∧ s.windowAt x < s.now + s.winPeriod x ∧ s.windowAt x % s.winPeriod x = s.winOffset x :=
  ⟨Nat.le_add_right _ _, Nat.add_lt_add_left (Nat.mod_lt _ (Nat.zero_lt_of_lt h)) _, add_to_phase _ h⟩

/-- A window that opens at an instant is open for its width from it. -/
theorem State.winEnd_opening (s : State) {x a : Nat} (ho : s.winOffset x < s.winPeriod x) (ha : a % s.winPeriod x = s.winOffset x)
    (hw : 0 < s.winWidth x) : s.winEnd x a = a + s.winWidth x := by
  have hsince : s.winSince x a = 0 := by
    unfold State.winSince
    rw [Nat.mod_eq_of_lt ho, ← ha]
    refine Nat.mod_eq_zero_of_dvd ?_
    rw [Nat.sub_add_comm (Nat.mod_le _ _)]
    exact Nat.dvd_add (Nat.dvd_sub_mod a) (Nat.dvd_refl _)
  unfold State.winEnd
  rw [hsince, if_pos hw, Nat.sub_zero]

theorem launchWindowOpen_opens {s : State} {x : Fin 2} (hs : s.flag (STR_PORT.SCHED x.val) = true)
    (ho : s.winOffset x.val < s.winPeriod x.val) : Leads (.launchWindowOpen x) s (fun t => ∃ a, s.now ≤ a ∧ a < s.now + s.winPeriod x.val ∧
      a % s.winPeriod x.val = s.winOffset x.val ∧ t.now = a ∧
      (0 < s.winWidth x.val → t.winEnd x.val a = a + s.winWidth x.val) ∧ t.regs = s.regs) := by
  obtain ⟨hge, hlt, hmod⟩ := s.windowAt_place ho
  refine ⟨s.at (s.windowAt x.val), congrArg Host.Outcome.next (State.whenDo_pos hs), s.windowAt x.val, hge, hlt, hmod, ?_, fun hw => ?_,
    State.at_regs ..⟩
  · rw [State.at_now, max_eq_right hge]
  · have hsame : (s.at (s.windowAt x.val)).winEnd x.val (s.windowAt x.val) = s.winEnd x.val (s.windowAt x.val) := by
      unfold State.winEnd State.winSince State.winWidth State.winPeriod State.winOffset
      simp only [State.at_get]
    rw [hsame, s.winEnd_opening ho hmod hw]

/-! ## Re-sending (R406, R407) -/

theorem State.atCyc_regs (s : State) (c : Nat) : (s.atCyc c).regs = s.regs := State.at_regs ..

theorem retainExpire_drops (s : State) (n : Fin 64) :
    Leads (.retainExpire n) s (fun t => (t.str n.val).retain = (s.str n.val).retain.drop 1 ∧ t.regs = s.regs) := by
  refine ⟨retainExpireStep n.val s, rfl, ?_⟩
  unfold retainExpireStep
  cases h : (s.str n.val).retain with
  | nil => exact ⟨h, rfl⟩
  | cons e l =>
    have hlt : n.val < s.strm.st.length := State.str_lt fun hd => by rw [hd] at h; cases h
    have hstrm (c : Nat) : (s.atCyc c).strm = s.strm := State.atCyc_within.comp .strm (by decide)
    dsimp only
    refine ⟨?_, (State.modStr_regs ..).trans (State.atCyc_regs ..)⟩
    rw [State.str_modStr_same (by rwa [hstrm]), List.drop_one, List.tail_cons]

theorem resendTake_queues {s : State} {n : Fin 64} {seq : BitVec 32} {rest : List (BitVec 32)} (h : (s.str n.val).resendQ = seq :: rest) :
    Leads (.resendTake n) s (fun t => (t.str n.val).resendQ = rest ∧ ∃ e : Egr, t.strm.q = s.strm.q ++ [e] ∧ e.seq = seq ∧ e.resend = true) := by
  have hlt : n.val < s.strm.st.length := State.str_lt fun hd => by rw [hd] at h; cases h
  refine ⟨resendTakeStep n.val s, rfl, ?_⟩
  unfold resendTakeStep
  rw [h]
  dsimp -zeta only
  extract_lets t1 e t2
  have h1 : (t1.str n.val).resendQ = rest := congrArg StreamSt.resendQ (State.str_modStr_same hlt _)
  have h2 : (t2.str n.val).resendQ = rest ∧ t2.strm.q = s.strm.q := by
    unfold t2
    split
    · refine ⟨Eq.trans ?_ h1, rfl⟩
      exact t1.str_modStr_keeps n.val n.val fun _ => rfl
    · exact ⟨h1, rfl⟩
  obtain ⟨hq, hstr⟩ := h2
  refine ⟨hq, e, congrArg (· ++ [e]) hstr, ?_⟩
  unfold e
  split
  next x hx => exact ⟨eq_of_beq (List.find?_some hx :), rfl⟩
  next => exact ⟨rfl, rfl⟩

end Sys2Proof.Machine
end

section
/-! Battens and streams (O34: R381, R400 to R409, R413, R436, R474, R478). -/

namespace Sys2Proof.Machine

/-! ## BATTEN_CLOSE (R380, R381, R474, R478) -/

theorem battenClose_closes {s : State} {n : Fin 64} (hs : s.strState n.val = 1) (ho : (s.str n.val).open_ ≠ [])
    (hc : ((s.fillOpen n.val).periodFull n.val || (s.fillOpen n.val).lastOut n.val || (s.fillOpen n.val).strKind n.val == 3) = true) :
    Leads (.battenClose n) s (fun t => (t.str n.val).open_ = [] ∧ s.strm.q <+: t.strm.q ∧
      t.strState n.val = if (s.str n.val).chosen then 2 else 1) := by
  obtain ⟨hq, hch, hop⟩ := s.fillOpen_fills n.val
  obtain ⟨ht1, ht2, ht3⟩ := (s.fillOpen n.val).closeFull_closes n.val
  have hne : ((s.fillOpen n.val).str n.val).open_.isEmpty = false := by
    rw [List.isEmpty_eq_false_iff]
    exact fun h => ho (List.prefix_nil.mp (h ▸ hop))
  have hst : (s.fillOpen n.val).strState n.val = 1 := (s.fillOpen_get n.val _).trans hs
  have hstep : battenCloseStep n.val s = (s.fillOpen n.val).closeFull n.val := by
    unfold battenCloseStep
    rw [hs]
    dsimp only
    rw [hne, Bool.not_false, Bool.and_true, Bool.and_true, if_pos hc]
    rfl
  refine ⟨_, congrArg Host.Outcome.next hstep, ht1, hq ▸ ht2, ?_⟩
  rw [ht3, hch, hst]

theorem battenClose_resumes {s : State} {n : Fin 64} {r : Nat} (hs : s.strState n.val = 2) (ho : s.strOwner n.val = some r)
    (hd : s.isOverdrawn r = false)
    (hm : ∀ m < 64, s.strState m = 2 → s.strOwner m = some r → (s.str n.val).order ≤ (s.str m).order)
    (hf : s.handedOver.streamsFit r (n.val :: s.handedOver.runningOf r) = true) :
    Leads (.battenClose n) s (fun t => t.strState n.val = 1) := by
  have hstep : battenCloseStep n.val s = s.tryResume n.val := by
    unfold battenCloseStep
    rw [hs]
    exact State.resumeAt_oldest n.isLt ho hm
  exact ⟨_, congrArg Host.Outcome.next hstep, State.tryResume_runs ho hd hf⟩

/-! ## Requests (R407, R436, R495) -/

/-- What FLUSH closes: what is missing of an open period takes its place in it, and a full period closes as at its boundary. -/
def State.battensFlushed (s : State) (n : Nat) : State :=
  let t := if (s.str n).open_.isEmpty then s else s.fillOpen n
  if t.periodFull n then t.closeFull n else t.closeOpen n

theorem State.battensFlushed_open (s : State) (n : Nat) : ((s.battensFlushed n).str n).open_ = [] := by
  unfold State.battensFlushed
  dsimp only
  generalize (if (s.str n).open_.isEmpty then s else s.fillOpen n) = t
  split
  · exact (t.closeFull_closes n).1
  · exact t.closeOpen_open n

theorem State.battensFlushed_signsAlike (s : State) (n : Nat) : s.signsAlike (s.battensFlushed n) := by
  have ht : s.signsAlike (if (s.str n).open_.isEmpty then s else s.fillOpen n) := by
    split
    · exact .refl s
    · exact State.fillOpen_within.signsAlike (by decide) List.not_mem_nil List.not_mem_nil
  unfold State.battensFlushed
  dsimp only
  generalize (if (s.str n).open_.isEmpty then s else s.fillOpen n) = t at ht ⊢
  split
  · exact ht.trans (State.closeFull_signsAlike ..)
  · exact ht.trans (State.closeOpen_signsAlike ..)

section

variable {q : ReqHdr} {n : Fin 64} {s : State} (h : s.admits q)

include h

theorem streamStatus_answers : Leads (.streamStatus q n.val) s (fun t => s.qcpOnly t ∧
    s.replied t q 0x0300 stOk [itWords (s.rdWords (STR_W10.SEQ n.val).addr 6)]) := by
  have hstep : exec (.streamStatus q n.val) s =
      .next ((s.taken q 0x0300).reply q 0x0300 stOk [itWords (s.rdWords (STR_W10.SEQ n.val).addr 6)]) := by
    show Host.Outcome.next (s.request q 0x0300 (streamStatusBody q n.val) _) = _
    rw [State.request_admits h, streamStatusBody, if_neg (by omega)]
    rfl
  exact ⟨_, hstep, State.taken_reply_only h 0x0300 stOk _⟩

theorem flush_closes (ho : s.strOwner n.val = some q.session.val) (hd : s.dev ≠ 1) : Leads (.flush q n.val) s (fun t =>
    .qcp q.via (replyPacket s q 0x0302 stOk []) ∈ t.out ∧ (t.str n.val).open_ = []) := by
  have ho' : (s.taken q 0x0302).strOwner n.val = some q.session.val := ho
  have hstep : exec (.flush q n.val) s = .next (((s.taken q 0x0302).battensFlushed n.val).reply q 0x0302 stOk) := by
    show Host.Outcome.next (s.request q 0x0302 (flushBody q n.val) _) = _
    rw [State.request_admits h, flushBody, if_neg (by omega), ho', if_neg (by simp)]
    exact congrArg Host.Outcome.next (if_neg hd)
  refine ⟨_, hstep, (State.battensFlushed_signsAlike ..).reply_mem h stOk [], ?_⟩
  rw [State.str_congr (State.reply_strm ..)]
  exact State.battensFlushed_open ..

theorem resend_queues {seq : BitVec 32} {cnt : Nat} (ho : s.strOwner n.val = some q.session.val) (hd : s.dev ≠ 1)
    (hn : n.val < s.strm.st.length) (h1 : 1 ≤ cnt) (hc : cnt ≤ 256) (hseq : (s.rd (STR_W10.SEQ n.val).addr - 1 - seq).toNat < 2 ^ 31) :
    Leads (.resend q n.val seq cnt) s (fun t => s.replied t q 0x0301 stOk [] ∧
      (t.str n.val).resendQ = (s.str n.val).resendQ ++ (List.range cnt).map (fun i => seq + BitVec.ofNat 32 i)) := by
  have ho' : (s.taken q 0x0301).strOwner n.val = some q.session.val := ho
  have hrange : (cnt = 0 || 256 < cnt || 2 ^ 31 ≤ ((s.taken q 0x0301).rd (STR_W10.SEQ n.val).addr - 1 - seq).toNat) = false := by
    rw [State.taken_rd, Bool.or_eq_false_iff, Bool.or_eq_false_iff, decide_eq_false_iff_not, decide_eq_false_iff_not,
      decide_eq_false_iff_not]
    omega
  have hstep : exec (.resend q n.val seq cnt) s = .next (((s.taken q 0x0301).modStr n.val (fun x => { x with
      resendQ := x.resendQ ++ (List.range cnt).map (fun i => seq + BitVec.ofNat 32 i) })).reply q 0x0301 stOk) := by
    show Host.Outcome.next (s.request q 0x0301 (resendBody q n.val seq cnt) _) = _
    rw [State.request_admits h, resendBody, if_neg (by omega), ho', if_neg (by simp), hrange, if_neg Bool.false_ne_true]
    exact congrArg Host.Outcome.next (if_neg hd)
  refine ⟨_, hstep, State.taken_acted_replied h State.modStr_within (by decide) (by decide) List.not_mem_nil List.not_mem_nil _ _, ?_⟩
  rw [State.str_congr (State.reply_strm ..), State.str_modStr_same (s := s.taken q 0x0301) hn]
  rfl

end

/-! ## The commands together -/

/-- Settles O34: each command by its lemma. -/
theorem streamsComplete : Obligations.StreamsComplete := by
  unfold Obligations.StreamsComplete
  refine ⟨?close, ?eth, ?ring, ?age, ?window, ?retain, ?requests⟩
  case close =>
    refine fun n s => ⟨?_, fun r hs ho hd hm hf => battenClose_resumes hs ho hd hm hf⟩
    rintro v rfl hs ho hc
    exact battenClose_closes hs ho hc
  case eth =>
    rintro x e mine f s hl hb hs rfl he hf rfl
    exact battenSend_eth hl hb hs he hf
  case ring =>
    rintro r e need s he rfl
    exact ⟨battenSend_ring he, battenSend_ringFull he⟩
  case age => exact fun x e s he => battenAgeExpire_drops he
  case window =>
    rintro x p o s hs rfl rfl hop
    have hperiod : s.winPeriod x.val = s.get (LWIN_W0.PERIOD x.val) * 1000 * ns := by
      have hpos : 0 < s.get (LWIN_W0.PERIOD x.val) := by
        by_contra h0
        rw [Nat.eq_zero_of_not_pos h0, Nat.zero_mul] at hop
        exact Nat.not_lt_zero _ hop
      unfold State.winPeriod
      rw [Nat.max_eq_right hpos]
    rw [← hperiod] at hop ⊢
    obtain ⟨t, ht, a, hge, hlt, hmod, hnow, hend, hregs⟩ := launchWindowOpen_opens hs hop
    exact ⟨t, ht, a, hge, hlt, hmod, hnow, fun hw => hend (Nat.mul_pos hw (by decide)), hregs⟩
  case retain => exact fun n s => ⟨retainExpire_drops s n, fun _ _ h => resendTake_queues h⟩
  case requests =>
    exact fun q n s h => ⟨streamStatus_answers h, fun ho hd => ⟨flush_closes h ho hd,
      fun _ _ hn h1 hc hseq => resend_queues h ho hd hn h1 hc hseq⟩⟩

end Sys2Proof.Machine
end

section
/-! What every command keeps (O3), and what the commands of the time base, the Ethernet inputs and the ridge leave unchanged (O58). -/

namespace Sys2Proof.Machine

/-- Settles O3: every command has a next state, and what it keeps is part of the widest frame, which every command meets. -/
theorem everyCommandAnswers : Obligations.EveryCommandAnswers := by
  intro c s
  obtain ⟨t, ht⟩ := exec_next c s
  have hw := exec_within ht
  exact ⟨t, ht, hw.sound, hw.pending, hw.out, hw.cyc, hw.free⟩

/-- Settles O58: each command's own frame (Sys2Proof/Laws), found by the case split on the command. -/
theorem frameOfTime : Obligations.FrameOfTime := by
  intro c s t h
  cases c with
  | timeGet => exact execTimeGet_within t h
  | ticRead => exact execTicRead_within t h
  | timeSet => exact execTimeSet_within t h
  | timeAdj => exact execTimeAdj_within t h
  | ticStart => exact execTicStart_within t h
  | ticEdge => exact execTicEdge_within t h
  | ethFrameRx => exact execEthFrameRx_within t h
  | ethLinkChange => exact execEthLinkChange_within t h
  | nextHopRetry => exact execNextHopRetry_within t h
  | ptpSyncRx => exact execPtpSyncRx_within t h
  | ptpFollowUpRx => exact execPtpFollowUpRx_within t h
  | ptpDelayRespRx => exact execPtpDelayRespRx_within t h
  | ptpAnnounceRx => exact execPtpAnnounceRx_within t h
  | ptpDelayReqRx => exact execPtpDelayReqRx_within t h
  | announceTimeout => exact execAnnounceTimeout_within t h
  | followUpTimeout => exact execFollowUpTimeout_within t h
  | syncSend => exact execSyncSend_within t h
  | delayReqSend => exact execDelayReqSend_within t h
  | announceSend => exact execAnnounceSend_within t h
  | ovenWarm => exact execOvenWarm_within t h
  | refSourceLoss => exact execRefSourceLoss_within t h
  | ovenCool => exact execOvenCool_within t h
  | ovenFail => exact execOvenFail_within t h
  | synthRelock => exact execSynthRelock_within t h
  | refSourceResume => exact execRefSourceResume_within t h
  | synthUnlock => exact execSynthUnlock_within t h
  | synthLockTimeout => exact execSynthLockTimeout_within t h
  | ppsOutEdge => exact execPpsOutEdge_within t h
  | ppsInEdge => exact execPpsInEdge_within t h
  | evtEdge => exact execEvtEdge_within t h
  | ticTimeout => exact execTicTimeout_within t h
  | ridgeIdleFrame => exact execRidgeIdleFrame_within t h
  | dlyReq => exact execDlyReq_within t h
  | presenceSend => exact execPresenceSend_within t h
  | dlyReqSend => exact execDlyReqSend_within t h
  | timeSend => exact execTimeSend_within t h
  | dlyRsp => exact execDlyRsp_within t h
  | presence => exact execPresence_within t h
  | timeFrame => exact execTimeFrame_within t h
  | syncFrame => exact execSyncFrame_within t h
  | ridgeCrcError => exact execRidgeCrcError_within t h
  | blockLockLoss => exact execBlockLockLoss_within t h
  | laneFrameTimeout => exact execLaneFrameTimeout_within t h
  | laneUp => exact execLaneUp_within t h
  | nodeExpire => exact execNodeExpire_within t h
  | ridgeTimeLoss => exact execRidgeTimeLoss_within t h
  | bypassTimerExpire => exact execBypassTimerExpire_within t h
  | bypassEnergize => exact execBypassEnergize_within t h
  | bypassRelease => exact execBypassRelease_within t h
  | ppsOutFall => exact execPpsOutFall_within t h
  | nextHopExpire => exact execNextHopExpire_within t h
  | reassemblyTimeout => exact execReassemblyTimeout_within t h
  | _ => trivial

end Sys2Proof.Machine
end

section
/-! The requests that answer and change nothing else (O17: R423, R436, R438, R446, R470, R792, R831). The layout of the reply of INFO
rests on log entry 57. -/

namespace Sys2Proof.Machine

/-- A request whose body replies at its turn is answered, and changes nothing beside the interpreter. -/
theorem leads_of_reply {s : State} {q : ReqHdr} {c : Instr} {op st : Nat} {l : List Item} {body : State → State} {args : List Operand}
    (h : s.admits q) (hc : exec c s = .next (s.request q op body args))
    (hb : body (s.taken q op) = (s.taken q op).reply q op st l) :
    Leads c s (fun t => s.qcpOnly t ∧ s.replied t q op st l) := by
  refine ⟨_, ?_, State.taken_reply_only h op st l⟩
  rw [hc, State.request_admits h, hb]

section

variable {q : ReqHdr} {s : State} (h : s.admits q)

include h

/-- PING answers SYS_STATE, the epoch in force and the time (R436). -/
theorem ping_answers : Leads (.ping q) s (fun t => s.qcpOnly t ∧
    s.replied t q 0x0100 stOk [itState (s.rd SYS_STATE.STATE.addr), itEpoch s.epoch.toNat, itTime s.now]) :=
  leads_of_reply h rfl rfl

theorem info_answers : Leads (.info q) s (fun t => s.qcpOnly t ∧ s.replied t q 0x0101 stOk
    [itData (beBytes 8 s.serial ++ beBytes 4 (s.get SYS_ID_HI.STEPPING) ++ wordBytes (s.rd SYS_VER.MAJOR.addr))]) :=
  leads_of_reply h rfl rfl

theorem qcpCounters_answers : Leads (.qcpCounters q) s (fun t => s.qcpOnly t ∧
    s.replied t q 0x0A04 stOk [itWords (s.rdWords (QCP_ERRCNT.COUNT 0).addr 12)]) :=
  leads_of_reply h rfl rfl

theorem sessionList_answers : Leads (.sessionList q) s (fun t => s.qcpOnly t ∧
    s.replied t q 0x0B05 stOk [itWords ((List.range 8).map (s.taken q 0x0B05).sessionWord)]) :=
  leads_of_reply h rfl rfl

/-- READ answers the words that its session sees; the reads may latch groups and take counts (R438, R792). -/
theorem read_answers {addr : BitVec 24} {count : Nat} (h4 : addr.toNat % 4 = 0) (h1 : 1 ≤ count) (hc : count ≤ 2032)
    (hm : addr.toNat + 4 * count ≤ 0x1000000) : Leads (.read q addr count) s (fun t => s.replied t q 0x0102 stOk
      [itWords ((s.taken q 0x0102).readWords (.qcp q.session) addr.toNat count).1]) := by
  have hw : (s.taken q 0x0102).within ((s.taken q 0x0102).readWords (.qcp q.session) addr.toNat count).2 [.shadows, .free] [0] :=
    State.readWords_within
  refine ⟨_, ?_, State.taken_acted_replied h hw (by decide) (by decide) (by decide) (by decide) stOk _⟩
  show Host.Outcome.next (s.request q 0x0102 (readBody q addr.toNat count) _) = _
  rw [State.request_admits h, readBody, State.checks_pass]
  simp only [List.mem_singleton, forall_eq, Bool.or_eq_false_iff, decide_eq_false_iff_not]
  exact ⟨⟨⟨by simp [h4], by simp; omega⟩, by omega⟩, by omega⟩

/-- EVENT_LOG answers the packets of the log from a sequence on (R446). -/
theorem eventLog_answers {seq : BitVec 32} {count : Nat} (hl : (s.sess q.session.val).logAfter seq = false) (h1 : 1 ≤ count)
    (hc : count ≤ 16) : Leads (.eventLog q seq count) s (fun t => s.qcpOnly t ∧ s.replied t q 0x0107 stOk
      [itData ((((s.sess q.session.val).log.filter (fun e => decide (seq ≤ e.eseq))).take count).flatMap (fun e => e.pkt.bytes))]) := by
  have hlog : ((s.taken q 0x0107).sess q.session.val).log = (s.sess q.session.val).log :=
    s.sess_modSess_keeps (g := Session.log) _ _ fun _ => rfl
  have hafter : ((s.taken q 0x0107).sess q.session.val).logAfter seq = (s.sess q.session.val).logAfter seq :=
    s.sess_modSess_keeps (g := fun x => x.logAfter seq) _ _ fun _ => rfl
  refine leads_of_reply h rfl ?_
  rw [eventLogBody, State.checks_pass, hlog]
  simp only [List.mem_singleton, forall_eq, hafter, hl, Bool.or_eq_false_iff, decide_eq_false_iff_not]
  exact ⟨⟨trivial, by simp; omega⟩, by omega⟩

/-- QUOTA_GET answers the quotas of a session and its uses (R470). -/
theorem quotaGet_answers {index : Nat} (hi : index < 8) : Leads (.quotaGet q index) s (fun t => s.qcpOnly t ∧
    s.replied t q 0x0B03 stOk [itWords ((s.sess index).quotas.words ++ (s.taken q 0x0B03).uses index)]) := by
  refine leads_of_reply h rfl ?_
  rw [quotaGetBody, State.checks_pass, State.sess_taken_quotas]
  simp only [List.mem_singleton, forall_eq, decide_eq_false_iff_not]
  omega

end

/-- Settles O17: each request by its lemma. -/
theorem requestsAnswer : Obligations.RequestsAnswer := by
  unfold Obligations.RequestsAnswer
  intro q s h
  exact ⟨ping_answers h, info_answers h, qcpCounters_answers h, sessionList_answers h,
    fun _ _ h4 h1 hc hm => read_answers h h4 h1 hc hm, fun _ _ hl h1 hc => eventLog_answers h hl h1 hc, fun _ hi => quotaGet_answers h hi⟩

end Sys2Proof.Machine
end

section
/-! A received QCP packet (O20: R424, R429, R430, R432, R740). -/

namespace Sys2Proof.Machine

section

variable {via : Via} {l : List Byte} {s : State}

theorem exec_qcpPacket (via : Via) (l : List Byte) (s : State) : exec (.qcpPacket via l) s = .next (qcpPacketStep via l s) := rfl

/-- Before QCP-ready no packet is received (R740). -/
theorem qcpPacketStep_notReady (h : s.power.qcpReady = false) : qcpPacketStep via l s = s :=
  State.whenDo_neg (by rw [h, Bool.false_and])

theorem qcpPacketStep_ready (h : s.power.qcpReady = true) (hv : s.served via = true) : qcpPacketStep via l s = s.receive via l :=
  State.whenDo_pos (by rw [h, hv, Bool.and_self])

/-! ## Checks 1 to 3 (R429) -/

theorem State.receive_badFrame (h1 : frameOk l = false) : s.receive via l = s.dropPacket via 0 := by
  rw [State.receive, if_pos (by rw [h1]; rfl)]

theorem State.receive_badLength (h1 : frameOk l = true) (h2 : lengthOk l = false) : s.receive via l = s.dropPacket via 1 := by
  rw [State.receive, if_neg (by rw [h1]; decide), if_pos (by rw [h2]; rfl)]

theorem State.receive_badCrc (h1 : frameOk l = true) (h2 : lengthOk l = true) (h3 : crc32c (l.take (bodySize l)) ≠ packetCrc l) :
    s.receive via l = s.dropPacket via 2 := by
  rw [State.receive, if_neg (by rw [h1]; decide), if_neg (by rw [h2]; decide), if_pos (bne_iff_ne.2 h3)]

/-- A packet of a session that passes checks 1 to 3 and the version meets the checks of its session. -/
theorem State.receive_session {r : Fin 8} (h1 : frameOk l = true) (h2 : lengthOk l = true)
    (h3 : crc32c (l.take (bodySize l)) = packetCrc l) (hver : packetField l 2 1 = 1) (hr : packetField l 4 1 = r.val) :
    s.receive via l = s.checkSession via r l := by
  rw [State.receive, if_neg (by rw [h1]; decide), if_neg (by rw [h2]; decide), if_neg (by simp [h3])]
  dsimp only
  rw [if_neg (by simp [hver]), dif_pos (by rw [hr]; exact r.isLt)]
  exact congrArg (s.checkSession via · l) (Fin.ext hr)

/-! ## Checks 5 to 10 (R429, R432) -/

/-- A request of an open session without a key meets check 7. -/
theorem State.checkSession_plain {r : Fin 8} (ho : (s.sess r.val).isOpen = true) (hk : (s.sess r.val).key = none)
    (hop : packetField l 12 2 ≠ 0x0B00) : s.checkSession via r l =
      s.checkSequence { session := r, seq := BitVec.ofNat 32 (packetField l 8 4), via := via } (packetField l 12 2) l := by
  have hmac : s.macOk r.val (packetField l 12 2) l = true := by
    unfold State.macOk
    dsimp only
    rw [if_neg hop, hk]
  rw [State.checkSession, if_neg (by simp [ho]), hmac]
  exact if_neg (by decide)

theorem State.checkSequence_fresh {q : ReqHdr} {op : Nat} (hop : op ≠ 0x0B00) (hf : (s.sess q.session.val).fresh q.seq = true) :
    s.checkSequence q op l = (s.modSess q.session.val (fun x => x.accept q.seq op (some (packetCrc l)) s.cyc)).enqueue q op l := by
  rw [State.checkSequence, if_neg hop, if_pos hf]

/-- A request that passes checks 8 to 10 waits at the end of its session's queue. -/
theorem State.enqueue_waits {q : ReqHdr} {op : Nat} {tags : List Nat} (ht : tagsOf op = some tags)
    (hp : paramsOk op (packetParams l) = true) (hq : (s.sess q.session.val).queue.length < 16) :
    s.enqueue q op l = (s.modSess q.session.val (fun x => { x with
      queue := x.queue ++ [{ seq := q.seq, opcode := op, via := q.via, crc := some (packetCrc l), items := packetItems l }] })).qcpCount := by
  rw [State.enqueue, if_neg (by simp [ht]), if_neg (by simp [hp]), if_neg (by omega)]

/-- The entry of a packet in its session's queue. -/
def packetEntry (via : Via) (l : List Byte) : Queued :=
  { seq := BitVec.ofNat 32 (packetField l 8 4), opcode := packetField l 12 2, via := via, crc := some (packetCrc l), items := packetItems l }

/-- The state in which a request of a packet has been accepted and waits. -/
def State.packetWaits (s : State) (via : Via) (r : Fin 8) (l : List Byte) : State :=
  let e := packetEntry via l
  ((s.modSess r.val (fun x => x.accept e.seq e.opcode e.crc s.cyc)).modSess r.val (fun x => { x with queue := x.queue ++ [e] })).qcpCount

theorem State.packetWaits_qcpOnly (s : State) (via : Via) (r : Fin 8) (l : List Byte) : s.qcpOnly (s.packetWaits via r l) :=
  State.qcpOnly_trans (State.qcpOnly_trans (State.modSess_qcpOnly ..) (State.modSess_qcpOnly ..)) (State.qcpCount_qcpOnly _)

theorem State.packetWaits_out (s : State) (via : Via) (r : Fin 8) (l : List Byte) : (s.packetWaits via r l).out = s.out :=
  State.puts_out ..

theorem State.packetWaits_queue {r : Fin 8} (hlen : r.val < s.qcp.sess.length) :
    ((s.packetWaits via r l).sess r.val).queue = (s.sess r.val).queue ++ [packetEntry via l] := by
  unfold State.packetWaits
  rw [State.sess_congr (State.qcpCount_qcp _), State.sess_modSess_same _ _ (by rwa [State.modSess_length]),
    State.sess_modSess_same _ _ hlen]
  rfl

/-- A packet that passes every check waits. -/
theorem State.receive_waits {r : Fin 8} {tags : List Nat} (h1 : frameOk l = true) (h2 : lengthOk l = true)
    (h3 : crc32c (l.take (bodySize l)) = packetCrc l) (hver : packetField l 2 1 = 1) (hr : packetField l 4 1 = r.val)
    (ho : (s.sess r.val).isOpen = true) (hk : (s.sess r.val).key = none) (hop : packetField l 12 2 ≠ 0x0B00)
    (hf : (s.sess r.val).fresh (BitVec.ofNat 32 (packetField l 8 4)) = true) (ht : tagsOf (packetField l 12 2) = some tags)
    (hp : paramsOk (packetField l 12 2) (packetParams l) = true) (hq : (s.sess r.val).queue.length < 16) :
    s.receive via l = s.packetWaits via r l := by
  rw [State.receive_session h1 h2 h3 hver hr, State.checkSession_plain ho hk hop, State.checkSequence_fresh hop hf,
    State.enqueue_waits ht hp]
  · rfl
  · exact lt_of_eq_of_lt (congrArg List.length (s.sess_modSess_keeps (g := Session.queue) _ _ fun _ => rfl)) hq

end

/-- Settles O20: the checks in their order, and the queue of a packet that passes them all. -/
theorem packetsComplete : Obligations.PacketsComplete := by
  unfold Obligations.PacketsComplete
  intro via l s hv
  refine ⟨fun h => by rw [exec_qcpPacket, qcpPacketStep_notReady h], fun h => ?_⟩
  have hstep : exec (.qcpPacket via l) s = .next (s.receive via l) := by rw [exec_qcpPacket, qcpPacketStep_ready h hv]
  rw [hstep]
  refine ⟨?waits, ?dropped⟩
  case waits =>
    intro r tags h1 h2 h3 hver hr hlen ho hk hop hf ht hp hq
    refine ⟨_, hstep, ?_⟩
    rw [State.receive_waits h1 h2 h3 hver hr ho hk hop hf ht hp hq]
    exact ⟨s.packetWaits_qcpOnly via r l, s.packetWaits_out via r l, State.packetWaits_queue hlen⟩
  case dropped =>
    rintro p rfl
    exact ⟨fun h1 => congrArg _ (State.receive_badFrame h1), fun h1 h2 => congrArg _ (State.receive_badLength h1 h2),
      fun h1 h2 h3 => congrArg _ (State.receive_badCrc h1 h2 h3)⟩

end Sys2Proof.Machine
end

section
/-! SUPPORT. The sessions and the outputs after a reply, an OPEN, and a close (R423, R432, R455 to R463). -/

namespace Sys2Proof.Machine

/-! ## Replies -/

/-- The session of a request after the reply holds it in its cache. -/
theorem State.sess_reply_same {s : State} {q : ReqHdr} (h : q.session.val < s.qcp.sess.length) (op st : Nat) (l : List Item) :
    (s.reply q op st l).sess q.session.val = (s.sess q.session.val).cacheReply q.seq (replyPacket s q op st l) := by
  rw [State.sess_congr (s.reply_qcp ..), State.sess_modSess_same _ _ h]

theorem State.sess_reply_quotas (s : State) (q : ReqHdr) (op st : Nat) (l : List Item) (k : Nat) :
    ((s.reply q op st l).sess k).quotas = (s.sess k).quotas := by
  rw [State.sess_congr (s.reply_qcp ..)]
  exact s.sess_modSess_keeps (g := Session.quotas) _ _ fun _ => rfl

/-- The reply of an admitted request after a body that signs alike and has sent nothing. -/
theorem State.signsAlike.replied {s u : State} {q : ReqHdr} {op : Nat} (hs : (s.taken q op).signsAlike u) (h : s.admits q)
    (ho : u.out = s.out) (st : Nat) (l : List Item) : s.replied (u.reply q op st l) q op st l := by
  have hcrc : u.get PTB_CRC.N = 0 := (congrArg PTB_CRC.N.ofWord (hs.word _ (.inr rfl))).trans h.1.2.2.2
  exact State.replied_congr ho ((hs.replyPacket q op st l).trans (replyPacket_taken ..)) (State.reply_replied _ _ _ _ _ hcrc)

/-! ## The session that set the perturbations in force (R775) -/

theorem State.emitDrop_ptbBy (s : State) (o : Out) : (s.emitDrop o).ptb.by_ = s.ptb.by_ := by
  unfold State.emitDrop
  repeat' split
  all_goals rfl

theorem State.emit_ptbBy (s : State) (o : Out) : (s.emit o).ptb.by_ = s.ptb.by_ := by
  unfold State.emit
  dsimp only
  repeat' split
  all_goals exact s.emitDrop_ptbBy o

theorem State.msiSince_ptb (t s : State) : (t.msiSince s).ptb = t.ptb := by
  unfold State.msiSince
  split <;> rfl

theorem State.reply_ptbBy (s : State) (q : ReqHdr) (op st : Nat) (l : List Item) : (s.reply q op st l).ptb.by_ = s.ptb.by_ := by
  unfold State.reply State.sendReply
  dsimp only
  split
  · exact State.emit_ptbBy ..
  · rw [State.msiSince_ptb, State.emit_ptbBy, State.puts_ptb, State.wrWords_ptb]
    rfl

/-! ## A close (R463, R464) -/

/-- A closed session: what a close leaves of its record. -/
def Session.closed (x : Session) : Session :=
  { x with isOpen := false, auth := false, ks := [], txn := none, image := [], reedImage := [], queue := [], cache := [], accepted := [], hi := 0 }

/-- The state in which the mailboxes of a session's queue are free and it is closed and unbound. -/
def State.sessionGone (s : State) (r : Nat) : State :=
  let s := (s.freeMail (s.sess r).queue).modSess r Session.closed
  let unbind (b : Option (Fin 8)) : Option (Fin 8) := if b.any (fun x => x.val == r) then none else b
  { s with qcp := { s.qcp with bindPcie := unbind s.qcp.bindPcie, bindSpi := unbind s.qcp.bindSpi } }

/-- The scan permission that a session gave goes with it (R767). -/
def State.permitGone (s : State) (r : Nat) : State :=
  if s.tap.permit.any (fun p => p.1 == r) then ({ s with tap := { s.tap with permit := none } }).puts [(KEY_JTAG.PERMIT, 0), (KEY_JTAG.LEFT, 0)] else s

theorem State.permitGone_frame (s : State) (r : Nat) :
    s.permitGone r = { s with regs := (s.permitGone r).regs, tap := (s.permitGone r).tap } := by
  unfold State.permitGone
  split
  · rw [State.puts_frame]
  · rfl

theorem State.closeSession_eq (s : State) (r : Nat) : s.closeSession r = (((s.sessionGone r).permitGone r).ptbClosed r).qcpCount := rfl

section

variable {s : State} {r : Nat}

theorem State.sessionGone_ptb : (s.sessionGone r).ptb = s.ptb := State.freeMail_within.comp .ptb (by decide)

theorem State.sessionGone_out : (s.sessionGone r).out = s.out := State.freeMail_within.comp .out (by decide)

/-- A close by a session that has set no perturbation sends nothing and closes the session. -/
theorem State.closeSession_quiet (h : s.ptb.by_ ≠ some r) :
    (s.closeSession r).out = s.out ∧ (s.closeSession r).qcp = (s.sessionGone r).qcp := by
  have hby : ((s.sessionGone r).permitGone r).ptb.by_ ≠ some r := by
    rw [State.permitGone_frame]
    show (s.sessionGone r).ptb.by_ ≠ some r
    rwa [State.sessionGone_ptb]
  rw [State.closeSession_eq, State.ptbClosed, if_neg hby]
  constructor
  · rw [State.qcpCount, State.puts_out, State.permitGone_frame]
    exact State.sessionGone_out
  · rw [State.qcpCount_qcp, State.permitGone_frame]

theorem State.sess_sessionGone (h : r < s.qcp.sess.length) : (s.sessionGone r).sess r = (s.sess r).closed := by
  have hq : (s.freeMail (s.sess r).queue).qcp = s.qcp := State.freeMail_within.comp .qcp (by decide)
  show ((s.freeMail (s.sess r).queue).modSess r Session.closed).sess r = _
  rw [State.sess_modSess_same _ _ (by rwa [hq]), State.sess_congr hq]

theorem State.sess_closeSession (h : s.ptb.by_ ≠ some r) (hr : r < s.qcp.sess.length) :
    (s.closeSession r).sess r = (s.sess r).closed := by
  rw [State.sess_congr (State.closeSession_quiet h).2, State.sess_sessionGone hr]

end

/-! ## An OPEN (R455 to R461) -/

/-- The nonce that an OPEN is answered with. -/
def State.openNonce (s : State) (o : OpenArgs) : List Byte := if o.authBit then beBytes 16 s.freeVal else List.replicate 16 0

/-- The session key that an OPEN derives. -/
def State.openKey (s : State) (r : Nat) (o : OpenArgs) : List Byte :=
  if o.authBit then hmacSha256 ((s.keyOf r).getD []) (asciiBytes "QCP-SESS" ++ o.nonceH ++ s.openNonce o) else []

/-- Where the events of an opened session go. -/
def openRoute (q : ReqHdr) (o : OpenArgs) : Via :=
  match o.dest with
  | some (e, v6, a, p) => .udp { eth := e, v6 := v6, addr := a, port := p }
  | none => q.via

/-- The record of a session that an OPEN has opened. -/
def State.openRecord (s : State) (q : ReqHdr) (o : OpenArgs) (x : Session) : Session :=
  { x with
    isOpen := true, auth := o.authBit, ks := s.openKey q.session.val o, route := openRoute q o, hi := q.seq, heard := s.cyc, accepted := [q.seq]
    cache := [{ seq := q.seq, opcode := 0x0B00, crc := none, reply := none }], eseq := 0 }

/-- The state in which the session is open and OPENSEQ holds the sequence. -/
def State.openNoted (s : State) (q : ReqHdr) (o : OpenArgs) : State :=
  let t := s.modSess q.session.val (s.openRecord q o)
  (if o.authBit then t.drew else t).put (KEY_OPENSEQ.OPENSEQ q.session.val) q.seq.toNat

theorem State.openNoted_qcp (s : State) (q : ReqHdr) (o : OpenArgs) :
    (s.openNoted q o).qcp = (s.modSess q.session.val (s.openRecord q o)).qcp := by
  unfold State.openNoted
  dsimp only
  rw [State.put_qcp]
  split <;> rfl

theorem blockOf_openseq (r : Nat) : blockOf (KEY_OPENSEQ.OPENSEQ r).addr = 0x17 := by
  unfold blockOf
  dsimp only
  rw [if_pos (by omega)]
  omega

theorem State.openNoted_openseq (s : State) (q : ReqHdr) (o : OpenArgs) :
    (s.openNoted q o).get (KEY_OPENSEQ.OPENSEQ q.session.val) = q.seq.toNat :=
  (State.get_put_same _ _ _ (by simp)).trans (Nat.mod_eq_of_lt q.seq.isLt)

/-- An OPEN without a binding of a closed session: it is noted, its route is asked for, and it is answered. -/
theorem State.openAccepted_closed {s : State} {q : ReqHdr} {o : OpenArgs} (h : (s.sess q.session.val).isOpen = false)
    (hb : o.bind = false) : ∃ l, s.openAccepted q o none = (((s.openNoted q o).askRoute (openRoute q o)).qcpCount).reply q 0x0B00 stOk l := by
  unfold State.openAccepted
  simp only [h, hb, Bool.false_eq_true, if_false]
  exact ⟨_, rfl⟩

end Sys2Proof.Machine
end

section
/-! Sessions (O19): OPEN, CLOSE, the idle close, QUOTA_SET and KEY_PROVISION (R446, R453, R456 to R463, R467, R472). -/

namespace Sys2Proof.Machine

section

variable {q : ReqHdr} {s : State}

/-! ## OPEN (R455 to R461) -/

theorem exec_openSession {o : OpenArgs} (h : s.serves) (hq : (s.sess q.session.val).queue = []) (ho : (s.sess q.session.val).isOpen = false)
    (hf : s.openFresh q.session.val q.seq = true) (ha : o.authBit = o.macFlag) (hb : o.bind = false)
    (hk : if o.authBit then (s.keyOf q.session.val).isSome = true else s.plainAllowed q.session.val = true) :
    exec (.openSession q o) s = .next (s.openAccepted q o none) := by
  have hpass : s.openPasses q o = true := by rw [State.openPasses, hf, Bool.or_true]
  have hrefused : (if o.authBit then (s.keyOf q.session.val).isNone else !s.plainAllowed q.session.val) = false := by
    split at hk
    · rw [if_pos ‹_›, Option.isNone_eq_false_iff]
      exact hk
    · rw [if_neg ‹_›, hk]
      rfl
  show Host.Outcome.next (openSessionStep q o s) = _
  unfold openSessionStep
  simp only [hq, h.1, hpass, Bool.not_true, Bool.false_eq_true, if_false]
  rw [State.runRequest, State.serves_testHolds h, if_neg Bool.false_ne_true, openBody, State.checks_pass]
  simp only [List.mem_cons, List.not_mem_nil, or_false]
  rintro c (rfl | rfl | rfl | rfl)
  · simp [ha]
  · simp [ho]
  · simp [hb]
  · exact hrefused

/-- OPEN opens a closed session: OPENSEQ and H hold its sequence, and its events number from 0 (log entry 191). -/
theorem openSession_opens {o : OpenArgs} (h : s.serves) (hq : (s.sess q.session.val).queue = []) (ho : (s.sess q.session.val).isOpen = false)
    (hf : s.openFresh q.session.val q.seq = true) (ha : o.authBit = o.macFlag) (hb : o.bind = false)
    (hlen : q.session.val < s.qcp.sess.length)
    (hk : if o.authBit then (s.keyOf q.session.val).isSome = true else s.plainAllowed q.session.val = true) :
    Leads (.openSession q o) s (fun t => (∃ p, t.sess q.session.val = (s.openRecord q o (s.sess q.session.val)).cacheReply q.seq p) ∧
      t.get (KEY_OPENSEQ.OPENSEQ q.session.val) = q.seq.toNat) := by
  obtain ⟨l, hl⟩ := State.openAccepted_closed (o := o) ho hb
  refine ⟨_, exec_openSession h hq ho hf ha hb hk, ?_⟩
  rw [hl]
  have hr := q.session.isLt
  have hqcp : ((s.openNoted q o).askRoute (openRoute q o)).qcpCount.qcp = (s.modSess q.session.val (s.openRecord q o)).qcp := by
    rw [State.qcpCount_qcp, State.askRoute_within.comp .qcp (by decide), State.openNoted_qcp]
  constructor
  · refine ⟨_, (State.sess_reply_same (by rwa [hqcp, State.modSess_length]) _ _ _).trans (congrArg (fun x : Session => x.cacheReply q.seq _) ?_)⟩
    rw [State.sess_congr hqcp, State.sess_modSess_same _ _ hlen]
  · have hword : ¬ qcpWord (KEY_OPENSEQ.OPENSEQ q.session.val).addr := by
      unfold qcpWord
      simp
      omega
    rw [State.reply_get _ _ _ _ _ hword, State.qcpCount_get _ hword,
      State.askRoute_within.get (by rw [blockOf_openseq]; decide), State.openNoted_openseq]

/-! ## Closing (R463) -/

theorem close_closes (h : s.admits q) (hlen : q.session.val < s.qcp.sess.length) (hby : s.ptb.by_ ≠ some q.session.val) :
    Leads (.close q) s (fun t => s.replied t q 0x0B01 stOk [] ∧ ∃ x, t.sess q.session.val = Session.closed x) := by
  have hstep : exec (.close q) s = .next (((s.taken q 0x0B01).reply q 0x0B01 stOk).closeSession q.session.val) := by
    show Host.Outcome.next (s.request q 0x0B01 (closeBody q)) = _
    rw [State.request_admits h, closeBody]
  have hby' : ((s.taken q 0x0B01).reply q 0x0B01 stOk).ptb.by_ ≠ some q.session.val := by rwa [State.reply_ptbBy]
  refine ⟨_, hstep, ?_, _, State.sess_closeSession hby' (by rwa [State.reply_qcp, State.modSess_length, State.taken_length])⟩
  obtain ⟨l, hout, hl⟩ := (State.taken_reply_only h 0x0B01 stOk []).2
  exact ⟨l, (State.closeSession_quiet hby').1.trans hout, hl⟩

theorem sessionIdleClose_closes {r : Fin 8} (ho : (s.sess r.val).isOpen = true) (hi : s.flag SYS_SESS.IDLE = true)
    (hlen : r.val < s.qcp.sess.length) (hby : s.ptb.by_ ≠ some r.val) :
    Leads (.sessionIdleClose r) s (fun t => (∃ x, t.sess r.val = Session.closed x) ∧ t.out = s.out) := by
  have hw := State.atCyc_within (s := s) (c := (s.sess r.val).heard + s.get SYS_SESS.IDLE * sCyc)
  have hstep : exec (.sessionIdleClose r) s =
      .next ((s.atCyc ((s.sess r.val).heard + s.get SYS_SESS.IDLE * sCyc)).closeSession r.val) := by
    show Host.Outcome.next (sessionIdleCloseStep r s) = _
    rw [sessionIdleCloseStep, State.whenDo_pos (by rw [ho, hi]; rfl)]
  have hby' := (congrArg Perturb.by_ (hw.comp .ptb (by decide))).trans_ne hby
  exact ⟨_, hstep, ⟨_, State.sess_closeSession hby' (by rwa [hw.comp .qcp (by decide)])⟩,
    (State.closeSession_quiet hby').1.trans (hw.comp .out (by decide))⟩

/-! ## Quotas (R467, R472) -/

theorem State.setQuotas_sess {index : Nat} (x : Quotas) (h : index < s.qcp.sess.length) :
    ((s.setQuotas index x).sess index).quotas = x := by
  unfold State.setQuotas
  rw [State.sess_congr (State.chooseSuspend_within.comp .qcp (by decide)), State.sess_congr (State.updOverdrawn_within.comp .qcp (by decide)),
    State.sess_modSess_same _ _ h]

theorem State.setQuotas_signsAlike (s : State) (index : Nat) (x : Quotas) : s.signsAlike (s.setQuotas index x) := by
  have hset : s.signsAlike (s.modSess index (fun y => { y with quotas := x })) := s.modSess_signsAlike index fun _ => rfl
  unfold State.setQuotas
  exact (hset.trans (State.updOverdrawn_within.signsAlike (by decide) (by decide) (by decide))).trans
    (State.chooseSuspend_within.signsAlike (by decide) (by decide) (by decide))

theorem quotaSet_sets {index : Nat} {l : List Word} (h : s.admits q) (hi : index < 8) (hlen : index < s.qcp.sess.length) (hl : l.length = 4)
    (hr : quotasInRange index (quotasOf l) = true) (hc : (s.taken q 0x0B02).quotaConflict index (quotasOf l) = false)
    (ho : s.owner = q.session.val) :
    Leads (.quotaSet q index l) s (fun t => s.replied t q 0x0B02 stOk [] ∧ (t.sess index).quotas = quotasOf l) := by
  have hstep : exec (.quotaSet q index l) s = .next (((s.taken q 0x0B02).setQuotas index (quotasOf l)).reply q 0x0B02 stOk) := by
    show Host.Outcome.next (s.request q 0x0B02 (quotaSetBody q index l) _) = _
    rw [State.request_admits h, quotaSetBody, State.checks_pass]
    simp [hl, hr, hc, ho]
    omega
  refine ⟨_, hstep, (State.setQuotas_signsAlike ..).replied h (State.setQuotas_within.comp .out (by decide)) _ _, ?_⟩
  rw [State.sess_reply_quotas, State.setQuotas_sess _ (by rwa [State.taken_length])]

/-! ## Keys (R453) -/

theorem State.setKey_key {target : Nat} (k : Option (List Byte)) (ht : target < 8) (hk : s.keys.k.length = 8) :
    (s.setKey target k).keys.k.getD target none = k := by
  unfold State.setKey
  rw [State.updKeys_within.comp .keys (by decide)]
  dsimp only
  rw [if_neg (by omega)]
  exact (updAt_getD ..).trans (if_pos ⟨rfl, by omega⟩)

theorem keyProvision_sets {target op : Word} {wrapped : List Byte} (h : s.admits q) (ht : target.toNat < 8) (hk : s.keys.k.length = 8)
    (hop : op.toNat < 2) (hne : ¬ (target = 0 ∧ op = 1)) (hw : wrapped.length = 32) (ho : s.owner = q.session.val)
    (ha : (s.sess q.session.val).auth = true) :
    Leads (.keyProvision q target op wrapped) s (fun t => s.replied t q 0x0B04 stOk [] ∧ t.keys.k.getD target.toNat none =
      if op = 1 then none else some (xorBytes wrapped (hmacSha256 (s.sess q.session.val).ks (asciiBytes "QCP-WRAP" ++ wordBytes q.seq)))) := by
  have hauth : ((s.taken q 0x0B04).sess q.session.val).auth = (s.sess q.session.val).auth :=
    s.sess_modSess_keeps (g := Session.auth) _ _ fun _ => rfl
  have hks : ((s.taken q 0x0B04).sess q.session.val).ks = (s.sess q.session.val).ks :=
    s.sess_modSess_keeps (g := Session.ks) _ _ fun _ => rfl
  have hstep : exec (.keyProvision q target op wrapped) s = .next (((s.taken q 0x0B04).setKey target.toNat (if op = 1 then none else
      some (xorBytes wrapped (hmacSha256 (s.sess q.session.val).ks (asciiBytes "QCP-WRAP" ++ wordBytes q.seq))))).reply q 0x0B04 stOk) := by
    show Host.Outcome.next (s.request q 0x0B04 (keyProvisionBody q target op wrapped) _) = _
    rw [State.request_admits h, keyProvisionBody]
    dsimp only
    rw [State.checks_pass, hks]
    have hne' : (target == 0 && op == 1) = false := by simpa using hne
    simp only [List.mem_cons, List.not_mem_nil, or_false]
    rintro c (rfl | rfl | rfl)
    · simp [hw]
      omega
    · exact hne'
    · simp [ho, hauth, ha]
  refine ⟨_, hstep, State.taken_acted_replied h State.setKey_within (by decide) (by decide) (by decide) (by decide) _ _, ?_⟩
  rw [State.reply_keys, State.setKey_key (s := s.taken q 0x0B04) _ ht hk]

end

/-- Settles O19: each command by its lemma. -/
theorem sessionsComplete : Obligations.SessionsComplete := by
  unfold Obligations.SessionsComplete
  refine ⟨?opens, ?closes, ?idle, ?quotas, ?keys⟩
  case opens =>
    intro q o s h hq ho hf ha hb hlen hk
    obtain ⟨t, ht, ⟨p, hp⟩, hseq⟩ := openSession_opens h hq ho hf ha hb hlen hk
    refine ⟨t, ht, ?_⟩
    beta_reduce
    rw [hp]
    refine ⟨rfl, rfl, rfl, rfl, rfl, hseq, ?_⟩
    show s.openKey q.session.val o = _
    unfold State.openKey State.openNonce
    split <;> rfl
  case closes =>
    intro q s h hlen hby
    obtain ⟨t, ht, hr, x, hx⟩ := close_closes h hlen hby
    refine ⟨t, ht, hr, ?_⟩
    rw [hx]
    exact ⟨rfl, rfl, rfl, rfl⟩
  case idle =>
    intro r s ho hi hlen hby
    obtain ⟨t, ht, ⟨x, hx⟩, hout⟩ := sessionIdleClose_closes ho hi hlen hby
    refine ⟨t, ht, ?_⟩
    beta_reduce
    rw [hx]
    exact ⟨rfl, rfl, rfl, hout⟩
  case quotas => exact fun q index l s h hi hlen hl hr hc ho => quotaSet_sets h hi hlen hl hr hc ho
  case keys => exact fun q target op wrapped s h ht hk hop hne hw ho ha => keyProvision_sets h ht hk hop hne hw ho ha

end Sys2Proof.Machine
end

section
/-! TIME_GET, TIME_SET and TIME_ADJ (O41: R436, R509 to R512, R517). -/

namespace Sys2Proof.Machine

/-! ## A step of the clock (R510, R511, R517) -/

section

variable {s : State}

theorem State.setSlew_slew (s : State) (v : Int) : (s.setSlew v).ptp.slew = v := rfl

theorem State.setSlew_slewing (s : State) (v : Int) : (s.setSlew v).flag PTP_STATUS.SLEWING = (v != 0) :=
  State.flag_putFlag_same _ _ _ (by decide) rfl

theorem State.setSlew_get (s : State) (v : Int) {f : Fld} (hf : PTP_STATUS.SLEWING.apart f) : (s.setSlew v).get f = s.get f :=
  State.get_put_other _ _ _ _ hf

/-- What a step counts and flags in the registers: nothing else of them changes. -/
def State.stepNoted (s : State) : State :=
  ((s.count PTP_STATUS.STEPS).puts [(PTP_STATUS.STEPPED, 1), (RDG_STATUS.LOCKED, 0)]).put PTP_STATUS.LOCKED 0

theorem State.stepTo_regs (s : State) (t : Ts) : (s.stepTo t).regs = s.stepNoted.regs := rfl

theorem State.get_regs {s t : State} (h : t.regs = s.regs) (f : Fld) : t.get f = s.get f := by
  unfold State.get State.rd
  rw [h]

theorem State.stepTo_now (s : State) (t : Ts) : (s.stepTo t).now = t := Nat.mul_div_cancel t (Nat.two_pow_pos 24)

theorem State.stepTo_slew (s : State) (t : Ts) : (s.stepTo t).ptp.slew = s.ptp.slew := rfl

theorem State.stepTo_steps (s : State) (t : Ts) : (s.stepTo t).get PTP_STATUS.STEPS = (s.get PTP_STATUS.STEPS + 1) % 65536 := by
  rw [State.get_regs (s.stepTo_regs t), State.stepNoted, State.get_put_other _ _ _ _ (by decide), State.get_puts_other _ _ _ (by decide)]
  exact State.get_put_same _ _ _ (by decide)

theorem State.stepTo_stepped (s : State) (t : Ts) : (s.stepTo t).flag PTP_STATUS.STEPPED = true := by
  rw [State.flag_congr (State.get_regs (s.stepTo_regs t) _), State.stepNoted, State.flag_put_other _ _ _ _ (by decide), State.puts_cons,
    State.puts_cons, State.puts_nil, State.flag_put_other _ _ _ _ (by decide), State.flag_put_same _ _ _ (by decide)]
  rfl

theorem State.stepTo_ptpLocked (s : State) (t : Ts) : (s.stepTo t).flag PTP_STATUS.LOCKED = false := by
  rw [State.flag_congr (State.get_regs (s.stepTo_regs t) _), State.stepNoted, State.flag_put_same _ _ _ (by decide)]
  rfl

theorem State.stepTo_ridgeLocked (s : State) (t : Ts) : (s.stepTo t).flag RDG_STATUS.LOCKED = false := by
  rw [State.flag_congr (State.get_regs (s.stepTo_regs t) _), State.stepNoted, State.flag_put_other _ _ _ _ (by decide), State.puts_cons,
    State.puts_cons, State.puts_nil, State.flag_put_same _ _ _ (by decide)]
  rfl

theorem State.stepTo_slewing (s : State) (t : Ts) : (s.stepTo t).flag PTP_STATUS.SLEWING = s.flag PTP_STATUS.SLEWING := by
  rw [State.flag_congr (State.get_regs (s.stepTo_regs t) _), State.stepNoted, State.flag_put_other _ _ _ _ (by decide)]
  refine State.flag_congr ?_
  rw [State.get_puts_other _ _ _ (by decide)]
  exact State.get_put_other _ _ _ _ (by decide)

/-- A step moves the staged sets' instants, but no session and no word that a reply depends on. -/
theorem State.stepTo_signsAlike (s : State) (t : Ts) : s.signsAlike (s.stepTo t) := by
  refine ⟨fun _ => rfl, fun a ha => State.stepTo_within.word a ?_⟩
  obtain ha | rfl := ha
  · rw [blockOf_streams (by omega) (by omega)]
    decide
  · decide

end

/-! ## The requests (R436, R509, R510) -/

/-- What TIME_SET and TIME_ADJ ask for before they act: SRC 1, and the owner. -/
def State.clockChecked (s : State) (q : ReqHdr) (op : Nat) (body : State → State) : State :=
  s.checks q op [(s.get PTP_CFG.SRC != 1, stParamConflict), (s.owner != q.session.val, stNotOwner)] body

section

variable {q : ReqHdr} {s : State} (h : s.admits q)

include h

theorem clockRequest_runs {c : Instr} {op : Nat} {args : List Operand} {body : State → State}
    (hc : exec c s = .next (s.request q op (fun u => u.clockChecked q op body) args)) (hs : s.get PTP_CFG.SRC = 1)
    (ho : s.owner = q.session.val) : exec c s = .next (body (s.taken q op)) := by
  rw [hc, State.request_admits h, State.clockChecked, State.checks_pass]
  simp [hs, ho]

theorem clockRequest_conflicts {c : Instr} {op : Nat} {args : List Operand} {body : State → State}
    (hc : exec c s = .next (s.request q op (fun u => u.clockChecked q op body) args)) (hs : s.get PTP_CFG.SRC ≠ 1) :
    Leads c s (fun t => s.qcpOnly t ∧ s.replied t q op stParamConflict []) :=
  leads_of_reply h hc (if_pos (by simp [hs]))

theorem clockRequest_notOwner {c : Instr} {op : Nat} {args : List Operand} {body : State → State}
    (hc : exec c s = .next (s.request q op (fun u => u.clockChecked q op body) args)) (hs : s.get PTP_CFG.SRC = 1)
    (ho : s.owner ≠ q.session.val) : Leads c s (fun t => s.qcpOnly t ∧ s.replied t q op stNotOwner []) :=
  leads_of_reply h hc ((if_neg (by simp [hs])).trans (if_pos (by simp [ho])))

theorem timeGet_answers : Leads (.timeGet q) s (fun t => s.qcpOnly t ∧ s.replied t q 0x0900 stOk [itTime s.now]) :=
  leads_of_reply h rfl rfl

/-- TIME_SET steps the clock and discards the slew. -/
theorem timeSet_steps {time : Ts} (hs : s.get PTP_CFG.SRC = 1) (ho : s.owner = q.session.val) :
    Leads (.timeSet q time) s (fun t => s.replied t q 0x0901 stOk [] ∧ t.now = time ∧ t.ptp.slew = 0 ∧
      t.flag PTP_STATUS.SLEWING = false ∧ t.get PTP_STATUS.STEPS = (s.get PTP_STATUS.STEPS + 1) % 65536 ∧ t.flag PTP_STATUS.STEPPED = true ∧
      t.flag PTP_STATUS.LOCKED = false ∧ t.flag RDG_STATUS.LOCKED = false ∧ t.cyc = s.cyc) := by
  have halike : (s.taken q 0x0901).signsAlike (((s.taken q 0x0901).setSlew 0).stepTo time) :=
    (State.setSlew_within.signsAlike (by decide) (by decide) (by decide)).trans (State.stepTo_signsAlike ..)
  have hout : (((s.taken q 0x0901).setSlew 0).stepTo time).out = s.out :=
    (State.stepTo_within.comp .out (by decide)).trans (State.setSlew_within.comp .out (by decide))
  have hflag : ∀ {u : State} {f : Fld}, ¬ qcpWord f.addr → (u.reply q 0x0901 stOk).flag f = u.flag f :=
    fun hf => State.flag_congr (State.reply_get _ _ _ _ _ hf)
  refine ⟨_, clockRequest_runs h (body := fun u => ((u.setSlew 0).stepTo time).reply q 0x0901 stOk) rfl hs ho, halike.replied h hout _ _, ?_⟩
  refine ⟨?now, ?slew, ?slewing, ?steps, ?stepped, ?locked, ?ridge, ?cyc⟩
  case now => exact (congrArg (· / 2 ^ 24) (State.reply_clk ..)).trans (State.stepTo_now ..)
  case slew => rw [State.reply_ptp, State.stepTo_slew, State.setSlew_slew]
  case slewing =>
    rw [hflag (by unfold qcpWord; decide), State.stepTo_slewing, State.setSlew_slewing]
    rfl
  case steps =>
    rw [State.reply_get _ _ _ _ _ (by unfold qcpWord; decide), State.stepTo_steps, State.setSlew_get _ _ (by decide), State.taken_get]
  case stepped => rw [hflag (by unfold qcpWord; decide), State.stepTo_stepped]
  case locked => rw [hflag (by unfold qcpWord; decide), State.stepTo_ptpLocked]
  case ridge => rw [hflag (by unfold qcpWord; decide), State.stepTo_ridgeLocked]
  case cyc => rw [State.reply_cyc, State.stepTo_within.comp .cyc (by decide), State.setSlew_within.comp .cyc (by decide), State.taken_cyc]

/-- TIME_ADJ adds to the outstanding slew and leaves the clock. -/
theorem timeAdj_slews {n : Int} (hs : s.get PTP_CFG.SRC = 1) (ho : s.owner = q.session.val) :
    Leads (.timeAdj q n) s (fun t => s.replied t q 0x0902 stOk [] ∧ t.ptp.slew = s.ptp.slew + n * 2 ^ 40 ∧
      t.flag PTP_STATUS.SLEWING = decide (s.ptp.slew + n * 2 ^ 40 ≠ 0) ∧ t.clk = s.clk) := by
  refine ⟨_, clockRequest_runs h (body := fun u => (u.setSlew (u.ptp.slew + n * 2 ^ 40)).reply q 0x0902 stOk) rfl hs ho,
    State.taken_acted_replied h State.setSlew_within (by decide) (by decide) (by decide) (by decide) _ _, ?_⟩
  refine ⟨?slew, ?slewing, ?clk⟩
  case slew => rw [State.reply_ptp, State.setSlew_slew, State.taken_ptp]
  case slewing =>
    rw [State.flag_congr (State.reply_get _ _ _ _ _ (by unfold qcpWord; decide)), State.setSlew_slewing, State.taken_ptp]
    exact Bool.eq_iff_iff.2 (by rw [bne_iff_ne, decide_eq_true_iff])
  case clk => rw [State.reply_clk, State.setSlew_within.comp .clk (by decide), State.taken_clk]

end

/-- Settles O41: TIME_GET, and each outcome of TIME_SET and TIME_ADJ by its lemma. -/
theorem clockRequestsComplete : Obligations.ClockRequestsComplete := by
  unfold Obligations.ClockRequestsComplete
  intro q s h
  exact ⟨timeGet_answers h,
    fun _ => ⟨timeSet_steps h, clockRequest_conflicts h rfl, clockRequest_notOwner h rfl⟩,
    fun _ => ⟨timeAdj_slews h, clockRequest_conflicts h rfl, clockRequest_notOwner h rfl⟩⟩

end Sys2Proof.Machine
end

section
/-! Links, next hops, fragments and frames of the Ethernet ports (O43: R425, R498 to R504). That a PAUSE frame is counted as such alone rests on
log entry 109, the reassembly of fragments on log entry 111. -/

namespace Sys2Proof.Machine

section

variable {x : Fin 2} {s : State}

/-! ## Links (R499) -/

/-- The fields of a port's link, and its count of losses, share no bit. -/
theorem linkFields_apart (x : Nat) : (NET_W1.FECLOCK x).apart (NET_W1.LINK x) ∧ (NET_W1.LINKDOWNS x).apart (NET_W1.LINK x) ∧
    (NET_W1.LINKDOWNS x).apart (NET_W1.FECLOCK x) :=
  ⟨.inr (.inl (by simp)), .inr (.inl (by simp)), .inr (.inl (by simp))⟩

theorem exec_ethLinkChange_up (he : s.flag (NET_W0.EN x.val) = true) (hl : s.flag (NET_W1.LINK x.val) = false) :
    exec (.ethLinkChange x true) s =
      .next ((s.put (NET_W1.LINK x.val) 1).putFlag (NET_W1.FECLOCK x.val) (s.get (NET_W0.FEC x.val) != 0)) := by
  show Host.Outcome.next (ethLinkChangeStep x true s) = _
  rw [ethLinkChangeStep, if_pos rfl, State.whenDo_pos (by rw [he, hl]; rfl)]

theorem ethLinkChange_comesUp (he : s.flag (NET_W0.EN x.val) = true) (hl : s.flag (NET_W1.LINK x.val) = false) :
    Leads (.ethLinkChange x true) s (fun t =>
      t.flag (NET_W1.LINK x.val) = true ∧ t.flag (NET_W1.FECLOCK x.val) = decide (s.get (NET_W0.FEC x.val) ≠ 0)) := by
  refine ⟨_, exec_ethLinkChange_up he hl, ?_, ?_⟩
  · rw [State.putFlag, State.flag_put_other _ _ _ _ (linkFields_apart _).1, State.flag_put_same _ _ _ (by simp)]
    rfl
  · rw [State.flag_putFlag_same _ _ _ (by simp) rfl]
    exact Bool.eq_iff_iff.2 (by rw [bne_iff_ne, decide_eq_true_iff])

theorem exec_ethLinkChange_down (hl : s.flag (NET_W1.LINK x.val) = true) :
    exec (.ethLinkChange x false) s = .next ((s.puts [(NET_W1.LINK x.val, 0), (NET_W1.FECLOCK x.val, 0)]).count (NET_W1.LINKDOWNS x.val)) := by
  show Host.Outcome.next (ethLinkChangeStep x false s) = _
  rw [ethLinkChangeStep, if_neg Bool.false_ne_true, State.whenDo_pos hl]

theorem ethLinkChange_goesDown (hl : s.flag (NET_W1.LINK x.val) = true) :
    Leads (.ethLinkChange x false) s (fun t => t.flag (NET_W1.LINK x.val) = false ∧
      t.flag (NET_W1.FECLOCK x.val) = false ∧ t.get (NET_W1.LINKDOWNS x.val) = (s.get (NET_W1.LINKDOWNS x.val) + 1) % 65536) := by
  obtain ⟨hfl, hdl, hdf⟩ := linkFields_apart x.val
  refine ⟨_, exec_ethLinkChange_down hl, ?_, ?_, ?_⟩
  · rw [State.count, State.flag_put_other _ _ _ _ hdl, State.puts_cons, State.puts_cons, State.puts_nil,
      State.flag_put_other _ _ _ _ hfl, State.flag_put_same _ _ _ (by simp)]
    rfl
  · rw [State.count, State.flag_put_other _ _ _ _ hdf, State.puts_cons, State.puts_cons, State.puts_nil,
      State.flag_put_same _ _ _ (by simp)]
    rfl
  · rw [State.get_count_same _ (by simp), State.get_puts_other _ _ _ (by simp [Fld.apart_comm hdl, Fld.apart_comm hdf])]
    rfl

/-! ## Next hops (R504) -/

/-- What leaves an Ethernet port is under no perturbation of R780 or R781. -/
theorem State.emit_eth (s : State) (x : Fin 2) (f : EthOut) : s.emit (.eth x f) = s.emitRaw (.eth x f) := rfl

theorem State.setHops_regs (s : State) (n : Nat) (l : List NextHop) : (s.setHops n l).regs = s.regs := by
  unfold State.setHops
  split <;> rfl

theorem State.hops_setHops_same (s : State) (n : Nat) (l : List NextHop) : (s.setHops n l).hops n = l := by
  unfold State.setHops State.hops
  by_cases h : n = 0 <;> simp [h]

theorem State.hops_setHops_other (s : State) (l : List NextHop) : (s.setHops x.val l).hops (1 - x.val) = s.hops (1 - x.val) := by
  fin_cases x <;> rfl

theorem nextHopRetry_asks {addr : BitVec 128} {e : NextHop} (he : e ∈ s.hops x.val) (ha : e.addr = addr) (hm : e.mac = none) :
    Leads (.nextHopRetry x addr) s (fun t => t.regs = s.regs ∧ t.net = s.net ∧ t.out = s.out ++ [.eth x (.neighbourRequest addr)]) := by
  refine ⟨_, congrArg Host.Outcome.next (State.whenDo_pos (List.any_eq_true.2 ⟨e, he, ?_⟩)), rfl, rfl, rfl⟩
  simp [ha, hm]

/-- A next hop that is not in the table and is asked for: it waits there, and nothing else of the table changes. -/
theorem State.askHop_asks (s : State) (addr : BitVec 128) :
    (s.askHop x.val addr).regs = s.regs ∧ (s.askHop x.val addr).hops (1 - x.val) = s.hops (1 - x.val) ∧
      ∀ e ∈ (s.askHop x.val addr).hops x.val, e ∈ s.hops x.val ∨ e.mac = none := by
  unfold State.askHop
  split
  · exact ⟨rfl, rfl, fun e he => .inl he⟩
  · split
    · exact ⟨rfl, rfl, fun e he => .inl he⟩
    · rw [State.emit_eth]
      refine ⟨s.setHops_regs .., s.hops_setHops_other _, fun e he => ?_⟩
      have he : e ∈ (s.setHops x.val (s.hops x.val ++ [{ addr := addr, mac := none }])).hops x.val := he
      rw [State.hops_setHops_same] at he
      obtain he | he := List.mem_append.1 he
      · exact .inl he
      · rw [List.mem_singleton.1 he]
        exact .inr rfl

/-- The table of a port without the resolved entry of an address. -/
def State.hopGone (s : State) (n : Nat) (addr : BitVec 128) : State :=
  s.setHops n ((s.hops n).filter (fun h => !(h.addr == addr && h.mac.isSome)))

theorem State.mem_hopGone {n : Nat} {addr : BitVec 128} {e : NextHop} :
    e ∈ (s.hopGone n addr).hops n ↔ e ∈ s.hops n ∧ (e.addr = addr → e.mac = none) := by
  rw [State.hopGone, State.hops_setHops_same, List.mem_filter]
  simp [imp_iff_not_or]

theorem nextHopExpire_leaves (addr : BitVec 128) : Leads (.nextHopExpire x addr) s (fun t => t.regs = s.regs ∧
    t.hops (1 - x.val) = s.hops (1 - x.val) ∧ (∀ h ∈ t.hops x.val, h.addr = addr → h.mac = none) ∧
    (s.routedBy x.val addr = false → ∀ h, h ∈ t.hops x.val ↔ h ∈ s.hops x.val ∧ (h.addr = addr → h.mac = none))) := by
  have hstep : exec (.nextHopExpire x addr) s =
      .next (if s.routedBy x.val addr then (s.hopGone x.val addr).askHop x.val addr else s.hopGone x.val addr) := rfl
  refine ⟨_, hstep, ?_⟩
  beta_reduce
  have hregs : (s.hopGone x.val addr).regs = s.regs := s.setHops_regs ..
  have hother : (s.hopGone x.val addr).hops (1 - x.val) = s.hops (1 - x.val) := s.hops_setHops_other _
  cases hr : s.routedBy x.val addr with
  | false => exact ⟨hregs, hother, fun h hh => (State.mem_hopGone.1 hh).2, fun _ h => State.mem_hopGone⟩
  | true =>
    obtain ⟨hr', ho', hm'⟩ := State.askHop_asks (x := x) (s.hopGone x.val addr) addr
    refine ⟨hr'.trans hregs, ho'.trans hother, fun h hh ha => ?_, fun hf => absurd hf (by decide)⟩
    obtain hh | hh := hm' h hh
    · exact (State.mem_hopGone.1 hh).2 ha
    · exact hh

end

/-! ## Fragments (R425) -/

theorem State.dropFrags_regs (s : State) (src : BitVec 128) : (s.dropFrags src).regs = s.regs := rfl

theorem State.mem_dropFrags {s : State} {src : BitVec 128} {r : Reassembly} :
    r ∈ (s.dropFrags src).net.reasm ↔ r ∈ s.net.reasm ∧ r.src.addr ≠ src := by
  show r ∈ s.net.reasm.filter (fun r => !(r.src.addr == src)) ↔ _
  rw [List.mem_filter]
  simp

theorem reassemblyTimeoutStep_regs (src : BitVec 128) (s : State) : (reassemblyTimeoutStep src s).regs = s.regs := by
  unfold reassemblyTimeoutStep
  split
  · rfl
  · rw [State.dropFrags_regs, State.atCyc_regs]

theorem mem_reassemblyTimeoutStep {src : BitVec 128} {s : State} {r : Reassembly} :
    r ∈ (reassemblyTimeoutStep src s).net.reasm ↔ r ∈ s.net.reasm ∧ r.src.addr ≠ src := by
  unfold reassemblyTimeoutStep
  split
  · rename_i hn
    refine ⟨fun hr => ⟨hr, ?_⟩, And.left⟩
    simpa using List.find?_eq_none.1 hn r hr
  · rw [State.mem_dropFrags, State.atCyc_within.comp .net (by decide)]

theorem reassemblyTimeout_discards (src : BitVec 128) (s : State) : Leads (.reassemblyTimeout src) s (fun t => t.regs = s.regs ∧
    ∀ r, r ∈ t.net.reasm ↔ r ∈ s.net.reasm ∧ r.src.addr ≠ src) :=
  ⟨reassemblyTimeoutStep src s, rfl, reassemblyTimeoutStep_regs src s, fun _ => mem_reassemblyTimeoutStep⟩

/-! ## Frames (R425, R498, R500 to R503) -/

section

variable {x : Fin 2} {f : EthFrame} {s : State} (hl : s.flag (NET_W1.LINK x.val) = true) (hp : s.power.episode = none)

include hl hp

theorem exec_ethFrameRx : exec (.ethFrameRx x f) s = .next
    (if !f.fcsOk then (s.count (NET_W20.RXDROP x.val)).count (NET_W22.FCSERR x.val)
    else if !frameSized f then s.count (NET_W20.RXDROP x.val)
    else if f.kind == .pause then s.count (NET_W21.PAUSE x.val)
    else if s.acceptsFrame x.val f then s.frameDoes x f
    else s.count (NET_W20.RXDROP x.val)) :=
  congrArg Host.Outcome.next (State.whenDo_pos (by rw [hl, hp]; rfl))

theorem ethFrameRx_badFcs (hf : f.fcsOk = false) : Leads (.ethFrameRx x f) s (fun t =>
    t.get (NET_W20.RXDROP x.val) = (s.get (NET_W20.RXDROP x.val) + 1) % 2 ^ 32 ∧
    t.get (NET_W22.FCSERR x.val) = (s.get (NET_W22.FCSERR x.val) + 1) % 2 ^ 32) := by
  refine ⟨_, (exec_ethFrameRx hl hp).trans (congrArg _ (if_pos (by rw [hf]; rfl))), ?_, ?_⟩
  · rw [State.get_count_other _ (by simp), State.get_count_same _ (by simp)]
  · rw [State.get_count_same _ (by simp), State.get_count_other _ (by simp)]

section

variable (hf : f.fcsOk = true)

include hf

theorem exec_ethFrameRx_missized (hz : frameSized f = false) : exec (.ethFrameRx x f) s = .next (s.count (NET_W20.RXDROP x.val)) := by
  rw [exec_ethFrameRx hl hp, hf, hz]
  rfl

variable (hz : frameSized f = true)

include hz

theorem exec_ethFrameRx_pause (hk : f.kind = .pause) : exec (.ethFrameRx x f) s = .next (s.count (NET_W21.PAUSE x.val)) := by
  rw [exec_ethFrameRx hl hp, hf, hz, hk]
  rfl

theorem exec_ethFrameRx_sized (hk : f.kind ≠ .pause) : exec (.ethFrameRx x f) s =
    .next (if s.acceptsFrame x.val f then s.frameDoes x f else s.count (NET_W20.RXDROP x.val)) := by
  rw [exec_ethFrameRx hl hp, hf, hz, beq_false_of_ne hk]
  rfl

theorem exec_ethFrameRx_other (hk : f.kind ≠ .pause) (ha : s.acceptsFrame x.val f = false) :
    exec (.ethFrameRx x f) s = .next (s.count (NET_W20.RXDROP x.val)) := by
  rw [exec_ethFrameRx_sized hl hp hf hz hk, ha]
  rfl

theorem exec_ethFrameRx_accepted (hk : f.kind ≠ .pause) (ha : s.acceptsFrame x.val f = true) :
    exec (.ethFrameRx x f) s = .next (s.frameDoes x f) := by
  rw [exec_ethFrameRx_sized hl hp hf hz hk, ha]
  rfl

end

end

section

variable {x : Fin 2} {f : EthFrame} {s : State}

theorem State.frameDoes_arp {target : BitVec 32} (hk : f.kind = .arpRequest target) (ht : target.setWidth 128 ∈ s.own4 x.val) :
    s.frameDoes x f = s.emitRaw (.eth x (.neighbourReply (target.setWidth 128) f.src)) := by
  rw [State.frameDoes, hk]
  exact if_pos (List.contains_iff_mem.2 ht)

theorem State.frameDoes_solicit {target : BitVec 128} (hk : f.kind = .neighbourSolicit target) (ht : target ∈ s.own6 x.val) :
    s.frameDoes x f = s.emitRaw (.eth x (.neighbourReply target f.src)) := by
  rw [State.frameDoes, hk]
  exact if_pos (List.contains_iff_mem.2 ht)

theorem State.frameDoes_echo {target : BitVec 128} {size : Nat} (hk : f.kind = .echoRequest target size)
    (ht : target ∈ s.own4 x.val ++ s.own6 x.val) (hs : size ≤ 1500) :
    s.frameDoes x f = s.emitRaw (.eth x (.echoReply target f.src size)) := by
  rw [State.frameDoes, hk]
  exact if_pos (by rw [List.contains_iff_mem.2 ht, decide_eq_true hs]; rfl)

theorem State.frameDoes_learns {addr : BitVec 128} {mac : BitVec 48} (hk : f.kind = .neighbourReply addr mac) :
    s.frameDoes x f = s.learnHop x.val addr mac := by
  rw [State.frameDoes, hk]

theorem State.frameDoes_fragment {src : UdpPeer} {off : Nat} {more : Bool} {l : List Byte} (hk : f.kind = .qcpFragment src off more l) :
    s.frameDoes x f = s.fragment { src with eth := x } (off, more, l) := by
  rw [State.frameDoes, hk]

/-- Whole QCP packets, PTP messages and other frames are rows of their own or nothing (R503, R513). -/
theorem State.frameDoes_nothing (hk : f.kind = .qcp ∨ f.kind = .other ∨ (f.kind = .ptp ∧ s.get PTP_CFG.PORT = x.val)) :
    s.frameDoes x f = s := by
  obtain hk | hk | ⟨hk, hp⟩ := hk <;> rw [State.frameDoes, hk]
  exact if_pos hp

/-- A neighbour that answers becomes known, and the table keeps its addresses. -/
theorem State.learnHop_learns (s : State) (x : Nat) (addr : BitVec 128) (mac : BitVec 48) :
    (∀ h ∈ (s.learnHop x addr mac).hops x, h.addr = addr → h.mac = some mac) ∧
      ((s.learnHop x addr mac).hops x).map (·.addr) = (s.hops x).map (·.addr) := by
  rw [State.learnHop, State.hops_setHops_same]
  constructor
  · intro h hh ha
    obtain ⟨g, -, rfl⟩ := List.mem_map.1 hh
    split at ha
    · rw [if_pos ‹_›]
    · exact absurd ha ‹_›
  · rw [List.map_map]
    refine List.map_congr_left fun g _ => ?_
    dsimp only [Function.comp_apply]
    split <;> rfl

end

/-- Settles O43: each command by its lemma. -/
theorem ethernetCompletes : Obligations.EthernetCompletes := by
  unfold Obligations.EthernetCompletes
  refine ⟨?ports, fun src s => reassemblyTimeout_discards src s, ?frames⟩
  case ports =>
    exact fun x s => ⟨ethLinkChange_comesUp, ethLinkChange_goesDown,
      fun addr => ⟨fun h hh ha hm => nextHopRetry_asks hh ha hm, nextHopExpire_leaves addr⟩⟩
  case frames =>
    intro x f s hl hp
    refine ⟨ethFrameRx_badFcs hl hp, exec_ethFrameRx_missized hl hp, fun hf hz => ⟨exec_ethFrameRx_pause hl hp hf hz,
      exec_ethFrameRx_other hl hp hf hz, fun ha => ?_⟩⟩
    have hacc : ∀ {k : EthKind}, f.kind = k → k ≠ .pause → exec (.ethFrameRx x f) s = .next (s.frameDoes x f) :=
      fun hk hne => exec_ethFrameRx_accepted hl hp hf hz (hk ▸ hne) ha
    refine ⟨?arp, ?solicit, ?echo, ?learns, ?fragment, ?nothing⟩
    case arp => exact fun _ hk ht => ⟨_, (hacc hk (by simp)).trans (congrArg _ (State.frameDoes_arp hk ht)), rfl⟩
    case solicit => exact fun _ hk ht => ⟨_, (hacc hk (by simp)).trans (congrArg _ (State.frameDoes_solicit hk ht)), rfl⟩
    case echo => exact fun _ _ hk ht hs => ⟨_, (hacc hk (by simp)).trans (congrArg _ (State.frameDoes_echo hk ht hs)), rfl⟩
    case learns => exact fun _ _ hk => ⟨_, (hacc hk (by simp)).trans (congrArg _ (State.frameDoes_learns hk)), State.learnHop_learns ..⟩
    case fragment => exact fun _ _ _ _ hk => (hacc hk (by simp)).trans (congrArg _ (State.frameDoes_fragment hk))
    case nothing =>
      intro hk
      have hne : f.kind ≠ .pause := by
        obtain hk | hk | ⟨hk, -⟩ := hk <;> simp [hk]
      exact (hacc rfl hne).trans (congrArg _ (State.frameDoes_nothing hk))

end Sys2Proof.Machine
end

section
/-! SUPPORT. The calibration engine: one bit of a mask field, which domains a CAL_RUN makes due, and a micro-step (R672, R673, R686, R693). -/

namespace Sys2Proof.Machine

/-! ## The bit of a domain -/

theorem State.cbit_testBit (s : State) (f : Fld) (d : Nat) : s.cbit f d = (s.get f).testBit d := by
  rw [State.cbit, Nat.testBit_eq_decide_div_mod_eq]
  exact Bool.eq_iff_iff.2 (by rw [beq_iff_eq, decide_eq_true_iff])

theorem State.cbit_congr {s t : State} {f : Fld} (h : t.get f = s.get f) (d : Nat) : t.cbit f d = s.cbit f d := by
  unfold State.cbit
  rw [h]

/-- A bit that is set is set, and the others of its field stay. -/
theorem State.cbit_setCbit_true (s : State) {f : Fld} (i : Nat) {d : Nat} (hf : f.lo + f.width ≤ 32) (hd : d < f.width) :
    (s.setCbit f i true).cbit f d = (s.cbit f d || decide (i = d)) := by
  rw [State.cbit_testBit, State.cbit_testBit, State.setCbit, State.get_put_same _ _ _ hf, Nat.testBit_mod_two_pow, decide_eq_true hd,
    Bool.true_and, testBit_setBit]

theorem State.get_setCbit_other (s : State) {f g : Fld} (i : Nat) (b : Bool) (h : f.apart g) : (s.setCbit f i b).get g = s.get g :=
  State.get_put_other _ _ _ _ h

/-- DEFER and STATE are the only fields that follow a domain as it stands. -/
theorem State.calSync_get (s : State) (i : Nat) {f : Fld} (hd : CAL_DUE.DEFER.apart f) (hs : (CALREC_W0.STATE i).apart f) :
    (s.calSync i).get f = s.get f :=
  (State.get_put_other _ _ _ _ hs).trans (State.get_setCbit_other _ _ _ hd)

theorem State.calSyncAll_get (s : State) {f : Fld} (hd : CAL_DUE.DEFER.apart f) (hs : ∀ i, (CALREC_W0.STATE i).apart f) :
    s.calSyncAll.get f = s.get f :=
  List.foldlRecOn (motive := fun t : State => t.get f = s.get f) _ _ rfl fun t ht i _ => (t.calSync_get i hd (hs i)).trans ht

/-- The records lie above the masks. -/
theorem calState_apart {f : Fld} (h : f.addr < 0x140100) (i : Nat) : (CALREC_W0.STATE i).apart f := .inl (by simp; omega)

theorem State.calSync_cal (s : State) (i : Nat) : (s.calSync i).cal = s.cal := State.calSync_within.comp .cal (by decide)

/-! ## The domains that a CAL_RUN names (R693) -/

/-- A domain runs or is due. -/
def State.calWanted (s : State) (d : Nat) : Bool := s.cbit CAL_STATUS.RUNNING d || s.cbit CAL_DUE.DUE d

/-- A CAL_RUN names a domain: it is due, unless it runs, and no longer stuck. -/
def State.calName (s : State) (d : Nat) : State :=
  let t := s.setCbit CAL_STUCK.STUCK d false
  if t.cbit CAL_STATUS.RUNNING d then t else t.setCbit CAL_DUE.DUE d true

theorem State.calRunNamed_eq (s : State) (q : ReqHdr) (mask : Nat) : s.calRunNamed q mask =
    (((bitsOf 13 mask).foldl State.calName s).modCal
      (fun x => { x with ops := x.ops ++ [{ sess := q.session.val, seq := q.seq, left := mask }] })).calSyncAll := rfl

theorem State.calName_wanted (s : State) (i : Nat) {d : Nat} (hd : d < 13) : (s.calName i).calWanted d = (s.calWanted d || decide (i = d)) := by
  have hrun : (s.setCbit CAL_STUCK.STUCK i false).cbit CAL_STATUS.RUNNING = s.cbit CAL_STATUS.RUNNING :=
    funext (State.cbit_congr (s.get_setCbit_other i false (by decide)))
  have hdue : (s.setCbit CAL_STUCK.STUCK i false).cbit CAL_DUE.DUE d = s.cbit CAL_DUE.DUE d :=
    State.cbit_congr (s.get_setCbit_other i false (by decide)) d
  unfold State.calName State.calWanted
  dsimp only
  rw [hrun]
  split
  · rename_i hi
    rw [hrun, hdue]
    by_cases h : i = d
    · rw [← h, hi]
      rfl
    · simp [h]
  · rw [State.cbit_setCbit_true _ _ (by decide) hd, hdue, State.cbit_congr (State.get_setCbit_other _ _ _ (by decide)), hrun, Bool.or_assoc]

theorem State.calName_fold_wanted (s : State) (l : List Nat) {d : Nat} (hd : d < 13) :
    (l.foldl State.calName s).calWanted d = (s.calWanted d || decide (d ∈ l)) := by
  induction l generalizing s with
  | nil => simp
  | cons i l ih =>
    rw [List.foldl_cons, ih, s.calName_wanted i hd, Bool.or_assoc]
    simp [eq_comm]

theorem State.calName_fold_within (s : State) (l : List Nat) : s.within (l.foldl State.calName s) [] [20] := by
  refine State.within_foldl (fun t d ht => ?_) (State.within_refl _ _)
  have hstuck : s.within (t.setCbit CAL_STUCK.STUCK d false) [] [20] :=
    State.setCbit_within rfl (mem_block (b := 20) (by decide) (by decide)) ht
  exact State.within_ite hstuck (State.setCbit_within rfl (mem_block (b := 20) (by decide) (by decide)) hstuck)

theorem State.calRunNamed_wanted (s : State) (q : ReqHdr) {mask d : Nat} (hd : d < 13) (hm : mask / 2 ^ d % 2 = 1) :
    (s.calRunNamed q mask).calWanted d = true := by
  have hmem : d ∈ bitsOf 13 mask := List.mem_filter.2 ⟨List.mem_range.2 hd, by simp [hm]⟩
  have hsync : ∀ u : State, u.calSyncAll.calWanted d = u.calWanted d := fun u => by
    unfold State.calWanted
    rw [State.cbit_congr (u.calSyncAll_get (by decide) (calState_apart (by decide))),
      State.cbit_congr (u.calSyncAll_get (by decide) (calState_apart (by decide)))]
  rw [State.calRunNamed_eq, hsync]
  show (((bitsOf 13 mask).foldl State.calName s).calWanted d) = true
  rw [State.calName_fold_wanted _ _ hd, decide_eq_true hmem, Bool.or_true]

theorem State.calRunNamed_ops (s : State) (q : ReqHdr) (mask : Nat) :
    (s.calRunNamed q mask).cal.ops = s.cal.ops ++ [{ sess := q.session.val, seq := q.seq, left := mask }] := by
  rw [State.calRunNamed_eq, State.calSyncAll_within.comp .cal (by decide)]
  exact congrArg (fun x : Calib => x.ops ++ _) ((s.calName_fold_within _).comp .cal (by decide))

/-! ## A micro-step (R672, R673) -/

/-- The run of a domain has begun: it runs, is no longer due, and its record is open. -/
def State.calBegun (s : State) (d : Nat) : State :=
  if s.cbit CAL_STATUS.RUNNING d then s
  else ((s.setCbit CAL_STATUS.RUNNING d true).setCbit CAL_DUE.DUE d false).put (CALREC_W0.READY d) 0

theorem State.calBegun_cal (s : State) (d : Nat) : (s.calBegun d).cal = s.cal := by
  unfold State.calBegun
  split <;> rfl

theorem State.calBegun_running (s : State) {d : Nat} (hd : d < 13) : (s.calBegun d).cbit CAL_STATUS.RUNNING d = true := by
  unfold State.calBegun
  split
  · assumption
  · rw [State.cbit_congr (State.get_put_other _ _ _ _ (.inl (by simp; omega))), State.cbit_congr (State.get_setCbit_other _ _ _ (by decide)),
      State.cbit_setCbit_true _ _ (by decide) hd]
    simp

/-- A micro-step has been made: of those of the run this many stand. -/
def State.calStepped (s : State) (d n : Nat) : State :=
  ((s.useWindow d).modDom d (fun x => { x with steps := n, tries := x.tries + 1, retry := false })).calSync d

theorem State.calStepped_dom {s : State} {d : Nat} (n : Nat) (hd : d < s.cal.doms.length) :
    ((s.calStepped d n).dom d).steps = n ∧ ((s.calStepped d n).dom d).tries = (s.dom d).tries + 1 := by
  unfold State.calStepped
  rw [State.dom_congr (State.calSync_cal ..), State.dom_modDom_same (by rwa [State.useWindow_doms])]
  exact ⟨rfl, congrArg (· + 1) (State.useWindow_tries hd)⟩

theorem State.calStepped_running (s : State) (d n : Nat) :
    (s.calStepped d n).cbit CAL_STATUS.RUNNING d = s.cbit CAL_STATUS.RUNNING d := by
  refine State.cbit_congr (((State.calSync_get _ _ (by decide) (calState_apart (by decide) _))).trans ?_) d
  exact (State.useWindow_within (s := s) (d := d)).get (f := CAL_STATUS.RUNNING) List.not_mem_nil

/-- CAL_MICRO_STEP of a domain that may step: the step, and after the last one the check of the values. -/
theorem exec_calMicroStep {d : Fin 13} {clipped : Bool} {values : List Int} {n : Nat} {s : State}
    (hw : s.calWanted d.val = true) (hb : s.calBlocked d.val = false) (hwait : s.calWaits d.val = false) (hr : (s.dom d.val).ready = none)
    (hn : n = (s.dom d.val).steps + (!clipped).toNat) : exec (.calMicroStep d clipped values) s =
      .next (if n < calSteps d.val then (s.calBegun d.val).calStepped d.val n
        else ((s.calBegun d.val).calStepped d.val n).calCheck d.val values) := by
  have hsteps : n = ((s.calBegun d.val).dom d.val).steps + (!clipped).toNat := by rw [hn, State.dom_congr (s.calBegun_cal _)]
  subst hsteps
  have hwanted : (s.cbit CAL_STATUS.RUNNING d.val || s.cbit CAL_DUE.DUE d.val) = true := hw
  show Host.Outcome.next (calMicroStepStep d.val clipped values s) = _
  unfold calMicroStepStep
  dsimp only
  rw [State.whenDo_pos (by rw [hwanted, hb, hwait, hr]; rfl)]
  rfl

/-! ## Due again (R686) -/

/-- A domain that waits for its retry is one of the engine's. -/
theorem State.dom_retry_lt {s : State} {d : Nat} (h : (s.dom d).retry = true) : d < s.cal.doms.length := by
  by_contra hd
  have hnone : s.dom d = {} := by
    unfold State.dom
    rw [List.getD_eq_default _ _ (Nat.not_lt.1 hd)]
  rw [hnone] at h
  exact absurd h (by decide)

theorem State.calDue_dom {s : State} {d : Nat} (hd : d < s.cal.doms.length) : (s.calDue d).dom d = { s.dom d with own := true } := by
  have hcal : (s.calDue d).cal = (s.modDom d (fun x => { x with own := true })).cal := by
    unfold State.calDue
    dsimp only
    split <;> rfl
  rw [State.dom_congr hcal, State.dom_modDom_same hd]

theorem State.calDue_due {s : State} {d : Nat} (hd : d < 13) (h : s.cbit CAL_STATUS.RUNNING d = false) :
    (s.calDue d).cbit CAL_DUE.DUE d = true := by
  have hrun : (s.modDom d (fun x => { x with own := true })).cbit CAL_STATUS.RUNNING d = false := h
  unfold State.calDue
  dsimp only
  rw [hrun, if_neg Bool.false_ne_true, State.cbit_setCbit_true _ _ (by decide) hd]
  simp

end Sys2Proof.Machine
end

section
/-! The commands of the calibration engine (O37: R436, R671 to R673, R686, R690, R692, R693, R695, R714). -/

namespace Sys2Proof.Machine

/-! ## Requests -/

theorem State.answered.within {s t u : State} {q : ReqHdr} {op st : Nat} {l : List Item} {K : List Comp} {B : List Nat}
    (h : s.answered t q op st l) (hw : t.within u K B) : s.answered u q op st l := List.IsPrefix.trans h hw.out

theorem State.qcpOnly.cal {s t : State} (h : s.qcpOnly t) : t.cal = s.cal := by rw [h.1]

theorem State.qcpOnly.cyc {s t : State} (h : s.qcpOnly t) : t.cyc = s.cyc := by rw [h.1]

theorem State.began.modCal {s t : State} {q : ReqHdr} {op n : Nat} (h : s.began t q op n) (f : Calib → Calib) : s.began (t.modCal f) q op n := h

theorem State.modCal_restore (s : State) (f : Calib → Calib) : (s.modCal f).cal.restore = (f s.cal).restore := rfl

section

variable {q : ReqHdr} {s : State} (h : s.admitsLong q)

include h

/-- CAL_RUN that names no domain is accepted and ends at once (R693). -/
theorem calRun_empty_answered {mask : BitVec 64} (hm : mask.toNat = 0) (hd : s.dev ≠ 1) (ho : s.owner = q.session.val) :
    Leads (.calRun q mask) s (fun t => s.answered t q 0x0500 stAccepted []) := by
  have hfull := State.longsFull_taken h 0x0500
  have hd' : (s.taken q 0x0500).dev ≠ 1 := hd
  have hstep : exec (.calRun q mask) s = .next (((((s.taken q 0x0500).accepted q 0x0500 mask.toNat).calRunNamed q mask.toNat).modCal
      (fun x => { x with ops := x.ops.filter (fun o => o.left != 0) })).complete q.session.val q.seq stOk) := by
    show Host.Outcome.next (s.request q 0x0500 (calRunBody q mask.toNat) _) = _
    rw [State.request_admits h.1, calRunBody, State.checks_pass, State.startLong_accepted hfull]
    · exact congrArg Host.Outcome.next (if_pos hm)
    · simp [hfull, ho, hd', hm]
  have hnamed := (State.taken_accepted_answered h.1 0x0500 mask.toNat).within (State.calRunNamed_within _ q mask.toNat)
  exact ⟨_, hstep, (hnamed.within State.modCal_within).within State.complete_within⟩

theorem calRun_names {mask : BitVec 64} (hm : mask.toNat ≤ 8191) (hd : s.dev ≠ 1) (ho : s.owner = q.session.val) :
    Leads (.calRun q mask) s (fun t => s.answered t q 0x0500 stAccepted [] ∧
      (mask.toNat ≠ 0 → t.cal.ops = s.cal.ops ++ [{ sess := q.session.val, seq := q.seq, left := mask.toNat }]) ∧
      ∀ d : Fin 13, mask.toNat / 2 ^ d.val % 2 = 1 → (t.cbit CAL_STATUS.RUNNING d.val || t.cbit CAL_DUE.DUE d.val) = true) := by
  by_cases h0 : mask.toNat = 0
  · obtain ⟨t, ht, ha⟩ := calRun_empty_answered h h0 hd ho
    exact ⟨t, ht, ha, fun hne => absurd h0 hne, fun d hb => by simp [h0] at hb⟩
  · refine ⟨_, exec_calRun h ho hd h0 hm, (State.taken_accepted_answered h.1 ..).within (State.calRunNamed_within ..), fun _ => ?_,
      fun d hb => State.calRunNamed_wanted _ _ d.isLt hb⟩
    rw [State.calRunNamed_ops, (State.taken_accepted_qcpOnly s q 0x0500 mask.toNat).cal]

theorem restoreFactory_waits (ho : s.owner = q.session.val) (hr : s.cal.restore = none) :
    Leads (.restoreFactory q) s (fun t => s.began t q 0x0503 0 ∧ t.cal.restore = some (q.session.val, q.seq, s.cyc)) := by
  refine ⟨_, exec_restoreFactory h ho hr, (State.taken_accepted_began h 0x0503 0).modCal _, ?_⟩
  rw [State.modCal_restore, (State.taken_accepted_qcpOnly s q 0x0503 0).cyc]

end

/-! ## Temperatures (R671, R714) -/

theorem State.trainMoved_due {s : State} (h : 500 < (s.cal.temps.getD 2 0 - s.dmc.trainTemp).natAbs) : s.trainMoved.dmc.trainDue = true := by
  unfold State.trainMoved
  rw [if_pos h]

theorem calSensorReadStep_dmc (die0 die1 die2 die3 tcase : Int) (s : State) : (calSensorReadStep die0 die1 die2 die3 tcase s).dmc =
    (s.modCal (fun x => { x with temps := [die0, die1, die2, die3, tcase] })).trainMoved.dmc := by
  unfold calSensorReadStep
  dsimp only
  generalize (s.modCal _).trainMoved = u
  rw [State.calSyncAll_within.comp .dmc (by decide)]
  refine List.foldlRecOn (motive := fun t : State => t.dmc = u.dmc) _ _ rfl fun t ht d _ => ?_
  split
  · exact ht
  · split
    · exact (State.calDue_within.comp .dmc (by decide)).trans ht
    · exact ht

theorem calSensorRead_takes (die0 die1 die2 die3 tcase : Int) (s : State) : Leads (.calSensorRead die0 die1 die2 die3 tcase) s (fun t =>
    t.cal.temps = [die0, die1, die2, die3, tcase] ∧ (500 < (die2 - s.dmc.trainTemp).natAbs → t.dmc.trainDue = true)) := by
  obtain ⟨t, ht, htemps⟩ := calSensorRead_temps die0 die1 die2 die3 tcase s
  refine ⟨t, ht, htemps, fun hfar => ?_⟩
  obtain rfl : calSensorReadStep die0 die1 die2 die3 tcase s = t := Host.Outcome.next.inj ht
  rw [calSensorReadStep_dmc]
  exact State.trainMoved_due hfar

/-! ## Micro-steps and retries (R672, R673, R686) -/

section

variable {d : Fin 13} {s : State}

theorem calMicroStep_steps {clipped : Bool} {values : List Int} {n : Nat} (hd : d.val < s.cal.doms.length)
    (hw : (s.cbit CAL_STATUS.RUNNING d.val || s.cbit CAL_DUE.DUE d.val) = true) (hb : s.calBlocked d.val = false)
    (hwait : s.calWaits d.val = false) (hr : (s.dom d.val).ready = none) (hn : n = (s.dom d.val).steps + (!clipped).toNat) :
    (n < calSteps d.val → Leads (.calMicroStep d clipped values) s (fun t => t.cbit CAL_STATUS.RUNNING d.val = true ∧
      (t.dom d.val).steps = n ∧ (t.dom d.val).tries = (s.dom d.val).tries + 1)) ∧
    (calSteps d.val ≤ n → ∃ u : State, exec (.calMicroStep d clipped values) s = .next (u.calCheck d.val values) ∧
      u.cbit CAL_STATUS.RUNNING d.val = true ∧ (u.dom d.val).steps = n) := by
  have hstep := exec_calMicroStep (values := values) hw hb hwait hr hn
  have hrun : ((s.calBegun d.val).calStepped d.val n).cbit CAL_STATUS.RUNNING d.val = true :=
    (State.calStepped_running ..).trans (s.calBegun_running d.isLt)
  obtain ⟨hsteps, htries⟩ := State.calStepped_dom (s := s.calBegun d.val) n (by rwa [State.calBegun_cal])
  rw [State.dom_congr (s.calBegun_cal _)] at htries
  exact ⟨fun hlt => ⟨_, hstep.trans (congrArg _ (if_pos hlt)), hrun, hsteps, htries⟩,
    fun hle => ⟨_, hstep.trans (congrArg _ (if_neg (Nat.not_lt.2 hle))), hrun, hsteps⟩⟩

/-- A domain whose retry has come waits for it no longer, and is due unless it runs. -/
theorem State.retried_due {v : State} {d : Nat} (hd : d < v.cal.doms.length) (h13 : d < 13) :
    let t := ((v.modDom d (fun x => { x with retry := false })).calDue d).calSync d
    (t.dom d).retry = false ∧ (v.cbit CAL_STATUS.RUNNING d = false → t.cbit CAL_DUE.DUE d = true) := by
  refine ⟨?_, fun hrun => ?_⟩
  · rw [State.dom_congr (State.calSync_cal ..), State.calDue_dom ((updAt_length ..).symm ▸ hd), State.dom_modDom_same hd]
  · rw [State.cbit_congr (State.calSync_get _ _ (by decide) (calState_apart (by decide) _))]
    exact State.calDue_due h13 hrun

theorem calRetryExpire_due (hr : (s.dom d.val).retry = true) (hs : s.cbit CAL_STUCK.STUCK d.val = false) :
    Leads (.calRetryExpire d) s (fun t => (t.dom d.val).retry = false ∧
      (s.cbit CAL_STATUS.RUNNING d.val = false → t.cbit CAL_DUE.DUE d.val = true)) := by
  have hstep := exec_calRetryExpire hr hs
  generalize hv : s.atCyc ((s.dom d.val).failedAt + s.get CAL_RETRY.RETRY_T * sCyc) = v at hstep
  have hw : s.within v [.clk, .cyc] [] := hv ▸ State.atCyc_within
  have hlen : d.val < v.cal.doms.length := (hw.comp .cal (by decide)) ▸ State.dom_retry_lt hr
  have hrun : v.cbit CAL_STATUS.RUNNING d.val = s.cbit CAL_STATUS.RUNNING d.val := State.cbit_congr (hw.get List.not_mem_nil) _
  obtain ⟨hretry, hdue⟩ := State.retried_due hlen d.isLt
  exact ⟨_, hstep, hretry, fun h => hdue (hrun.trans h)⟩

end

/-! ## The user record (R690) -/

theorem calUserSave_saves {s : State}
    (h : s.cal.ownerDirty = true ∨ (s.cal.runDirty = true ∧ ∀ c, s.cal.savedAt = some c → c + 86400 * sCyc ≤ s.cyc)) :
    Leads .calUserSave s (fun t => t.cal.user = some { words := calWords.map (fun o => (o, s.rd o)), trims := s.cal.trims } ∧
      t.cal.ownerDirty = false ∧ t.cal.runDirty = false ∧ t.regs = s.regs) := by
  have hstep : exec .calUserSave s = .next s.calSave := by
    show Host.Outcome.next (calUserSaveStep s) = _
    unfold calUserSaveStep
    dsimp only
    rw [State.whenDo_pos]
    obtain ho | ⟨hr, hday⟩ := h
    · rw [ho, Bool.true_or]
    · rw [hr, Bool.true_and, Bool.or_eq_true]
      right
      split
      · rename_i c hc
        exact decide_eq_true (hday c hc)
      · rfl
  exact ⟨_, hstep, rfl, rfl, rfl, rfl⟩

/-- Settles O37: each command by its lemma. -/
theorem calCompletes : Obligations.CalCompletes := by
  unfold Obligations.CalCompletes
  refine ⟨fun q mask s h hm hd ho => calRun_names h hm hd ho, fun q s h ho hr => restoreFactory_waits h ho hr, ?reads, calSensorRead_takes, ?steps,
    fun d s hr hs => calRetryExpire_due hr hs, fun s h => calUserSave_saves h⟩
  case reads =>
    exact fun q s h => ⟨⟨_, exec_calStatus h, State.taken_reply_only h _ _ _⟩,
      fun d hr => ⟨_, exec_calRead h hr, State.taken_reply_only h _ _ _⟩⟩
  case steps => exact fun d clipped values n s hd hw hb hwait hr hn => calMicroStep_steps hd hw hb hwait hr hn

end Sys2Proof.Machine
end

section
/-! Health, heartbeats, the referee's timers and the pair's QCP commands (O33: R436, R582 to R595, R611, R618). -/

namespace Sys2Proof.Machine

/-! ## Health (R582, R583) -/

/-- The health word shown, and the loss of the referee in it. -/
def State.healthShown (s : State) : State := s.puts [(PAIR_HEALTH.HEALTH, s.healthWord), (PAIR_STATUS.REF_SEEN, s.healthWord / 128 % 2)]

/-- A device that had stopped for its partner stands in SHADOW. -/
def State.shadowed (s : State) : State := ((s.modPair (fun x => { x with stopped := false })).enter 4).put PAIR_STATUS.ROLE 2

section

variable {s : State}

theorem exec_healthUpdate (hp : s.pairOn = true) : exec .healthUpdate s =
    .next (if s.healthShown.pair.stopped && healthy s.healthWord && (s.healthShown.dev == 3 || s.healthShown.dev == 5) then s.healthShown.shadowed
      else s.healthShown) := congrArg Host.Outcome.next (State.whenDo_pos hp)

theorem State.healthShown_get : s.healthShown.get PAIR_HEALTH.HEALTH = s.healthWord % 2 ^ PAIR_HEALTH.HEALTH.width ∧
    s.healthShown.get PAIR_STATUS.REF_SEEN = s.healthWord / 128 % 2 :=
  ⟨(State.get_put_other _ PAIR_STATUS.REF_SEEN _ _ (by decide)).trans (State.get_put_same _ PAIR_HEALTH.HEALTH _ (by decide)),
    (State.get_put_same _ PAIR_STATUS.REF_SEEN _ (by decide)).trans (Nat.mod_mod ..)⟩

theorem State.healthShown_pair : s.healthShown.pair = s.pair := State.puts_pair ..

theorem State.healthShown_dev : s.healthShown.dev = s.dev :=
  (State.get_put_other _ PAIR_STATUS.REF_SEEN _ _ (by decide)).trans (State.get_put_other _ PAIR_HEALTH.HEALTH _ _ (by decide))

theorem State.shadowed_get {f : Fld} (hb : blockOf f.addr ∉ [0, 21]) (hf : PAIR_STATUS.ROLE.apart f) : s.shadowed.get f = s.get f :=
  (State.get_put_other _ _ _ _ hf).trans (State.enter_within.get hb)

theorem State.shadowed_dev : s.shadowed.dev = 4 :=
  (State.get_put_other _ _ SYS_STATE.STATE _ (by decide)).trans (State.enter_dev _ _ (by decide))

theorem State.shadowed_role : s.shadowed.role = 2 := State.get_put_same _ PAIR_STATUS.ROLE _ (by decide)

theorem State.shadowed_stopped : s.shadowed.pair.stopped = false := congrArg Pair.stopped (State.enter_within.comp .pair (by decide))

theorem healthUpdate_shows (hp : s.pairOn = true) : Leads .healthUpdate s (fun t =>
    t.get PAIR_HEALTH.HEALTH = s.healthWord % 2 ^ PAIR_HEALTH.HEALTH.width ∧ t.get PAIR_STATUS.REF_SEEN = s.healthWord / 128 % 2 ∧
    (s.pair.stopped = true → healthy s.healthWord = true → s.dev = 3 ∨ s.dev = 5 → t.dev = 4 ∧ t.role = 2 ∧ t.pair.stopped = false)) := by
  have hstep := exec_healthUpdate hp
  rw [State.healthShown_pair, State.healthShown_dev] at hstep
  obtain ⟨hh, hr⟩ := s.healthShown_get
  refine ⟨_, hstep, ?_⟩
  beta_reduce
  split
  · exact ⟨(State.shadowed_get (by decide) (by decide)).trans hh, (State.shadowed_get (by decide) (by decide)).trans hr,
      fun _ _ _ => ⟨State.shadowed_dev, State.shadowed_role, State.shadowed_stopped⟩⟩
  · rename_i hn
    exact ⟨hh, hr, fun hs hw hd => absurd (by simpa [hs, hw] using hd) hn⟩

end

/-! ## The heartbeats of this device (R585) -/

section

variable {s : State}

theorem heartbeatSend_notes (hp : s.pairOn = true) :
    Leads .heartbeatSend s (fun t => t.pair.sent = ((s.pair.hseq, s.now) :: s.pair.sent).take 64) := by
  refine ⟨heartbeatSendStep s, rfl, ?_⟩
  unfold heartbeatSendStep
  dsimp only
  rw [if_pos hp]
  generalize hb : hbBytes _ _ _ _ _ _ _ _ = b
  have hsent : (((s.originate 7 s.now b).hostHeartbeat b).modPair (fun x =>
      { x with hseq := s.pair.hseq + 1, sent := ((s.pair.hseq, s.now) :: x.sent).take 64 })).pair.sent =
        ((s.pair.hseq, s.now) :: s.pair.sent).take 64 := by
    rw [State.modPair_pair, State.hostHeartbeat_within.comp .pair (by decide), State.originate_within.comp .pair (by decide)]
  split
  · rw [State.modPair_pair, State.originate_within.comp .pair (by decide)]
    exact hsent
  · exact hsent

theorem heartbeatSend_refereeGoesOn (hp : s.pairOn = false) (hr : s.refOn = true) :
    Leads .heartbeatSend s (fun t => t.pair.hseq = s.pair.hseq + 1) := by
  refine ⟨heartbeatSendStep s, rfl, ?_⟩
  unfold heartbeatSendStep
  dsimp only
  rw [hp, if_neg Bool.false_ne_true, if_pos hr, State.modPair_pair]

end

/-! ## The referee's knowledge of its nodes (R591 to R594) -/

theorem State.refNode_congr {s t : State} (ha : t.pair.ref.nodeA = s.pair.ref.nodeA) (hb : t.pair.ref.nodeB = s.pair.ref.nodeB) (c : Bool) :
    t.refNode c = s.refNode c := by
  unfold State.refNode
  rw [ha, hb]

section

variable (s : State)

theorem State.sendPairCmd_pair (cmd : Nat) (b : Bool) (time : Ts) (w : Nat) :
    (s.sendPairCmd cmd b time w).pair = { s.pair with ref := { s.pair.ref with cseq := s.pair.ref.cseq + 1 } } := by
  unfold State.sendPairCmd
  dsimp only
  rw [State.count_pair, State.modRef, State.modPair_pair, State.originate_within.comp .pair (by decide)]

/-- The nodes are none of the referee's other state. -/
theorem State.put_modRef_refNode {f : Referee → Referee} (hf : ∀ r, (f r).nodeA = r.nodeA ∧ (f r).nodeB = r.nodeB) (g : Fld) (n : Nat) (c : Bool) :
    ((s.modRef f).put g n).refNode c = s.refNode c := State.refNode_congr (hf s.pair.ref).1 (hf s.pair.ref).2 c

theorem State.refTake_refNode (b : Bool) (after : Ts) (c : Bool) : (s.refTake b after).refNode c = s.refNode c := by
  unfold State.refTake
  dsimp only
  refine State.refNode_congr ?_ ?_ c <;> rw [State.puts_pair, State.modRef, State.modPair_pair, State.sendPairCmd_pair]

theorem State.refDeclare_refNode (after : Ts) (c : Bool) : (s.refDeclare after).refNode c = s.refNode c := by
  unfold State.refDeclare
  dsimp only
  split
  · exact s.refTake_refNode ..
  · simp only [State.put_modRef_refNode, and_self, implies_true]

/-- The referee's states move on by what it knows of the nodes, which stays. -/
theorem State.refEval_refNode (c : Bool) : s.refEval.refNode c = s.refNode c := by
  unfold State.refEval
  dsimp only
  split <;> simp only [apply_ite (State.refNode · c), State.refTake_refNode, State.refDeclare_refNode,
    State.put_modRef_refNode, and_self, implies_true, ite_self]

theorem State.refTake_orders (b : Bool) (after : Ts) : (s.refTake b after).flag PAIR_RSTAT.ACTIVE_B = b ∧
    (s.refTake b after).get PAIR_RSTAT.STATE = if b == s.pref then 2 else 3 := by
  unfold State.refTake
  dsimp only
  rw [State.puts_cons, State.puts_cons, State.puts_nil, State.flag_put_other _ PAIR_RSTAT.STATE _ _ (by decide),
    State.flag_put_same _ PAIR_RSTAT.ACTIVE_B _ (by decide), State.get_put_same _ PAIR_RSTAT.STATE _ (by decide)]
  constructor
  · cases b <;> rfl
  · split <;> rfl

end

/-! ## The heartbeats of the others (R585 to R587, R592) -/

/-- What a pair device does with a heartbeat: the referee's is an echo, the partner's goes on to a host that referees. -/
def State.heardByDevice (s : State) (hb : Heartbeat) (b : List Byte) : State :=
  if s.pairOn && hb.pairId.toNat == s.get PAIR_CFG.PAIR_ID then
    if hb.role.val = 0 then
      (s.modPair (fun x => { x with refAt := some s.now, refHseq := hb.hseq })).echoed
        (if decide (s.nodeId.toNat < s.get PAIR_PARTNER.NODE) then hb.echo0 else hb.echo1)
    else s.hostHeartbeat b
  else s

/-- What the referee learns of a device from a heartbeat. -/
def refNodeOf (h : RidgeHdr) (hb : Heartbeat) : RefNode :=
  { seen := true, hseq := hb.hseq, depart := h.time, role := hb.role.val, st := hb.st.toNat, health := hb.health }

/-- What the referee does with a heartbeat. -/
def State.heardByReferee (s : State) (h : RidgeHdr) (hb : Heartbeat) : State :=
  if s.refOn && hb.pairId.toNat == s.get PAIR_RID.PAIR_ID && hb.role.val != 0 then
    if h.origin.toNat = s.refId false then (s.modRef (fun x => { x with nodeA := refNodeOf h hb })).refEval
    else if h.origin.toNat = s.refId true then (s.modRef (fun x => { x with nodeB := refNodeOf h hb })).refEval
    else s
  else s

section

variable {h : RidgeHdr} {hb : Heartbeat} {b : List Byte} {s : State}

/-- The first copy of another node's heartbeat. -/
theorem exec_heartbeatFrame {u v : State} (hr : s.ridgeOn = true) (hl : s.laneUp h.laneW = true) (ho : h.origin ≠ s.nodeId)
    (hbytes : b = hbBytes hb.pairId.toNat hb.role.val hb.st.toNat hb.hseq.toNat hb.health.toNat hb.epoch.toNat hb.echo0.toNat hb.echo1.toNat)
    (hu : u = (s.goodFrame h.laneW).forward h 7 b) (hs : u.ridge.seen.contains (h.origin, h.seq) = false)
    (hv : v = { u with ridge := { u.ridge with seen := u.ridge.seen ++ [(h.origin, h.seq)] } }) :
    exec (.heartbeatFrame h hb) s = .next ((v.heardByDevice hb b).heardByReferee h hb) := by
  show Host.Outcome.next (heartbeatFrameStep h hb s) = _
  unfold heartbeatFrameStep
  dsimp only
  rw [← hbytes, State.ringFrame_first _ hr hl ho hu hs, ← hv]
  rfl

theorem State.echoed_refAt (s : State) (q : BitVec 32) : (s.echoed q).pair.refAt = s.pair.refAt ∧ (s.echoed q).pair.refHseq = s.pair.refHseq := by
  unfold State.echoed
  split <;> exact ⟨rfl, rfl⟩

theorem State.heardByReferee_own (h0 : hb.role.val = 0) : s.heardByReferee h hb = s := if_neg (by simp [h0])

theorem State.heardByDevice_referee (hp : s.pairOn = true) (hi : hb.pairId.toNat = s.get PAIR_CFG.PAIR_ID) (h0 : hb.role.val = 0) :
    (s.heardByDevice hb b).pair.refAt = some s.now ∧ (s.heardByDevice hb b).pair.refHseq = hb.hseq := by
  rw [State.heardByDevice, if_pos (by simp [hp, hi]), if_pos h0]
  exact State.echoed_refAt _ _

/-- A heartbeat of a device goes on to a host that referees, and changes nothing else there. -/
theorem State.heardByDevice_within (h0 : hb.role.val ≠ 0) : s.within (s.heardByDevice hb b) [.qcp, .ptb, .out] [24, 25] := by
  unfold State.heardByDevice
  rw [if_neg h0]
  exact State.within_ite State.hostHeartbeat_within (State.within_refl _ _)

theorem State.heardByReferee_node {c : Bool} (hr : s.refOn = true) (hi : hb.pairId.toNat = s.get PAIR_RID.PAIR_ID) (h0 : hb.role.val ≠ 0)
    (hne : s.refId false ≠ s.refId true) (ho : h.origin.toNat = s.refId c) : (s.heardByReferee h hb).refNode c = refNodeOf h hb := by
  rw [State.heardByReferee, if_pos (by simp [hr, hi, h0])]
  cases c with
  | false =>
    rw [if_pos ho, State.refEval_refNode]
    rfl
  | true =>
    rw [if_neg (fun e => hne (e.symm.trans ho)), if_pos ho, State.refEval_refNode]
    rfl

/-- The referee learns of a node from its heartbeat, whether or not this device is itself one of the pair's. -/
theorem State.heard_node {c : Bool} (hr : s.refOn = true) (hi : hb.pairId.toNat = s.get PAIR_RID.PAIR_ID) (h0 : hb.role.val ≠ 0)
    (hne : s.refId false ≠ s.refId true) (ho : h.origin.toNat = s.refId c) :
    ((s.heardByDevice hb b).heardByReferee h hb).refNode c = refNodeOf h hb := by
  have hw := s.heardByDevice_within (b := b) h0
  have hid : ∀ d, (s.heardByDevice hb b).refId d = s.refId d := fun d => by
    unfold State.refId
    rw [hw.get (by decide), hw.get (by decide)]
  exact State.heardByReferee_node ((hw.flag (by decide)).trans hr) (hi.trans (hw.get (by decide)).symm) h0
    (by rwa [hid, hid]) (ho.trans (hid c).symm)

end

/-! ## The referee's timers (R591 to R593, R611) -/

section

variable {s : State} (hr : s.refOn = true)

include hr

theorem exec_refLossDeclare {b : Bool} {u : State} (h2 : 2 ≤ s.get PAIR_RSTAT.STATE) (h5 : s.get PAIR_RSTAT.STATE ≤ 5)
    (hb : b = s.flag PAIR_RSTAT.ACTIVE_B) (hu : u = s.at ((s.refNode b).depart + us 300 + s.refDelay b)) :
    exec .refLossDeclare s = .next (u.refDeclare ((s.refNode b).depart + us 510)) := by
  subst hb hu
  have hst : (s.refOn && (s.get PAIR_RSTAT.STATE == 2 || s.get PAIR_RSTAT.STATE == 3 || s.get PAIR_RSTAT.STATE == 4 ||
      s.get PAIR_RSTAT.STATE == 5)) = true := by
    rw [hr, Bool.true_and]
    simp only [Bool.or_eq_true, beq_iff_eq]
    omega
  show Host.Outcome.next (refLossDeclareStep s) = _
  unfold refLossDeclareStep
  dsimp only
  rw [State.whenDo_pos hst]

theorem exec_revertHoldExpire (h4 : s.get PAIR_RSTAT.STATE = 4) : ∃ (u : State) (ts : Ts), exec .revertHoldExpire s =
    .next ((u.modRef (fun x => { x with holdSince := none, switchAt := some ts })).put PAIR_RSTAT.STATE 5) :=
  ⟨_, _, congrArg Host.Outcome.next (State.whenDo_pos (by rw [hr, h4]; rfl))⟩

theorem revertHoldExpire_schedules (h4 : s.get PAIR_RSTAT.STATE = 4) : Leads .revertHoldExpire s (fun t =>
    t.get PAIR_RSTAT.STATE = 5 ∧ t.pair.ref.holdSince = none ∧ t.pair.ref.switchAt.isSome = true) := by
  obtain ⟨u, ts, hstep⟩ := exec_revertHoldExpire hr h4
  exact ⟨_, hstep, State.get_put_same _ _ _ (by decide), rfl, rfl⟩

end

theorem State.refDeclare_takes {s : State} (after : Ts) (h : s.refEligible (!s.flag PAIR_RSTAT.ACTIVE_B) = true) :
    s.refDeclare after = s.refTake (!s.flag PAIR_RSTAT.ACTIVE_B) after := if_pos h

theorem State.refDeclare_dark {s : State} (after : Ts) (h : s.refEligible (!s.flag PAIR_RSTAT.ACTIVE_B) = false) :
    (s.refDeclare after).get PAIR_RSTAT.STATE = 6 := by
  unfold State.refDeclare
  dsimp only
  rw [h, if_neg Bool.false_ne_true]
  exact State.get_put_same _ _ _ (by decide)

/-! ## Requests answered at once (R436, R595, R618) -/

theorem State.shotAt_congr {s t : State} (h : t.grid = s.grid) (x : Ts) : t.shotAt x = s.shotAt x := by
  unfold State.shotAt State.tSw
  rw [h]

theorem State.sendPair_pair (s : State) (f : PairFrame) : (s.sendPair f).pair = { s.pair with frameSeq := s.pair.frameSeq + 1 } := by
  rw [State.sendPair, State.modPair_pair, State.emit_pair]

theorem State.sendPair_signsAlike (s : State) (f : PairFrame) : s.signsAlike (s.sendPair f) :=
  .of_words (State.sendPair_within.comp .qcp (by decide)) fun _ ha => (s.emit_qcpOnly _).2 _ (signWord_qcpWord ha)

section

variable {q : ReqHdr} {s : State} (h : s.admits q)

include h

theorem refDetach_detaches (hh : s.isReferee q = true) : Leads (.refDetach q) s (fun t => s.replied t q 0x0602 stOk [] ∧
    t.pair.host = none ∧ t.get PAIR_RSTAT.STATE = if s.refOn then 1 else 0) := by
  have hstep : exec (.refDetach q) s = .next (((((s.taken q 0x0602).modPair (fun x => { x with host := none })).put PAIR_RSTAT.STATE
      (if s.refOn then 1 else 0))).reply q 0x0602 stOk) := by
    show Host.Outcome.next (s.request q 0x0602 (refDetachBody q) _) = _
    rw [State.request_admits h, refDetachBody, State.checks_pass]
    · rfl
    · simpa [State.isReferee] using hh
  refine ⟨_, hstep, State.taken_acted_replied h (K := [.pair]) (B := [17]) ?_ (by decide) (by decide) (by decide) (by decide) _ _, ?_, ?_⟩
  · exact State.put_within rfl (mem_block (b := 17) (by decide) (by decide)) (State.modPair_within.mono (by simp) (by simp))
  · rw [State.reply_pair]
    rfl
  · rw [State.reply_get _ _ _ _ _ (by unfold qcpWord; decide), State.get_put_same _ _ _ (by decide)]
    split <;> rfl

theorem exec_take (hh : s.isReferee q = true) (he : s.eligible = true) : exec (.take q) s =
    .next ((((s.taken q 0x0603).acceptTake (s.shotAt (s.now + us 20))).sendPair (.takeAt (s.shotAt (s.now + us 20)))).reply q 0x0603 stOk) := by
  have he' : (s.taken q 0x0603).eligible = true := he
  have hh' : (s.taken q 0x0603).isReferee q = true := hh
  have hgrid : (s.taken q 0x0603).grid = s.grid := rfl
  have hnow : (s.taken q 0x0603).now = s.now := rfl
  show Host.Outcome.next (s.request q 0x0603 (takeBody q) _) = _
  rw [State.request_admits h, takeBody, he', hh']
  dsimp only
  rw [if_neg (by decide), State.checks_pass (by simp), hnow, State.shotAt_congr hgrid]

theorem take_takes (hh : s.isReferee q = true) (he : s.eligible = true) : Leads (.take q) s (fun t =>
    t.pair.takeAt = some (s.shotAt (s.now + us 20)) ∧ .qcp q.via (replyPacket s q 0x0603 stOk []) ∈ t.out) := by
  refine ⟨_, exec_take h hh he, ?_, ?_⟩
  · rw [State.reply_pair, State.sendPair_pair, State.acceptTake, if_pos (show (s.taken q 0x0603).eligible = true from he)]
    rfl
  · refine State.signsAlike.reply_mem (.trans ?_ (State.sendPair_signsAlike ..)) h stOk []
    exact State.acceptTake_within.signsAlike (by decide) (by decide) (by decide)

end

/-! ## Long operations (R611, R618) -/

theorem State.qcpOnly.makeInterval {s t : State} (h : s.qcpOnly t) : t.makeInterval = s.makeInterval := by
  have hst : ∀ n, t.strState n = s.strState n := fun n => State.qcpOnly_get h (by unfold qcpWord; dsimp only; omega)
  have hgd : ∀ n, t.get (DEC_GD.GD2 n) = s.get (DEC_GD.GD2 n) := fun n => State.qcpOnly_get h (by unfold qcpWord; dsimp only; omega)
  unfold State.makeInterval State.lmax
  rw [State.qcpOnly_get h (f := PAT_SWEEP.N_SLOT) (by unfold qcpWord; decide), State.qcpOnly_get h (f := PAT_SWEEP.TSW) (by unfold qcpWord; decide)]
  simp only [hst, hgd]

/-- The host session of a request referees, from WAIT on, and its operation is complete (R618). -/
def State.hostAttached (s : State) (q : ReqHdr) : State :=
  (((s.modPair (fun x => { x with host := some q.session })).put PAIR_RSTAT.STATE 1).commitPoint q.session.val q.seq).complete
    q.session.val q.seq stOk

/-- A switch-back is scheduled for a request, and relayed to the standby (R611). -/
def State.switchRelayed (s : State) (q : ReqHdr) (x : Ts) : State :=
  ((s.schedule x s.makeInterval false).modPair (fun y => { y with switchOp := some (q.session, q.seq) })).sendPair (.takeAt x)

section

variable (s : State) (q : ReqHdr)

theorem State.hostAttached_within : s.within (s.hostAttached q) [.qcp, .pair, .ptb, .out] [17, 24, 25] := by
  unfold State.hostAttached
  refine State.complete_within.step (State.commitPoint_within.step ?_ (by decide) (by decide)) (by decide) (by decide)
  exact State.put_within rfl (mem_block (b := 17) (by decide) (by decide)) (State.modPair_within.mono (by decide) (by decide))

theorem State.hostAttached_host : (s.hostAttached q).pair.host = some q.session := by
  rw [State.hostAttached, State.complete_pair]
  rfl

theorem State.hostAttached_state : (s.hostAttached q).get PAIR_RSTAT.STATE = 1 := by
  rw [State.hostAttached, State.complete_get _ _ _ _ _ (by unfold qcpWord; decide)]
  exact State.get_put_same _ PAIR_RSTAT.STATE _ (by decide)

theorem State.switchRelayed_within (x : Ts) : s.within (s.switchRelayed q x) [.pair, .ptb, .out] [17, 24] := by
  unfold State.switchRelayed
  refine State.sendPair_within.step (State.modPair_within.step ?_ (by decide) (by decide)) (by decide) (by decide)
  exact State.schedule_within.mono (by decide) (by decide)

theorem State.switchRelayed_pair (x : Ts) : (s.switchRelayed q x).pair.switch = some { ts := x, w := s.makeInterval, incoming := false } ∧
    (s.switchRelayed q x).pair.switchOp = some (q.session, q.seq) := by
  rw [State.switchRelayed, State.sendPair_pair]
  exact ⟨rfl, rfl⟩

theorem State.switchRelayed_switching (x : Ts) : (s.switchRelayed q x).flag PAIR_STATUS.SWITCHING = true :=
  (State.sendPair_within.flag (by decide)).trans (s.schedule_schedules x s.makeInterval false).2

end

section

variable {q : ReqHdr} {s : State} (h : s.admitsLong q)

include h

theorem exec_refAttach {pairId : BitVec 12} (hh : s.pair.host = none ∨ s.isReferee q = true) (hp : s.pairOn = true)
    (hi : s.get PAIR_CFG.PAIR_ID = pairId.toNat) :
    exec (.refAttach q pairId) s = .next (((s.taken q 0x0601).accepted q 0x0601 0).hostAttached q) := by
  have hfull := State.longsFull_taken h 0x0601
  have hp' : (s.taken q 0x0601).pairOn = true := hp
  have hhost : ((s.taken q 0x0601).pair.host.isSome && !(s.taken q 0x0601).isReferee q) = false := by
    obtain hn | hr := hh
    · rw [State.taken_pair, hn]
      rfl
    · rw [show (s.taken q 0x0601).isReferee q = true from hr, Bool.not_true, Bool.and_false]
  show Host.Outcome.next (s.request q 0x0601 (refAttachBody q pairId) _) = _
  rw [State.request_admits h.1, refAttachBody, hhost, hfull, hp', State.taken_get, hi, State.checks_pass (by simp),
    State.startLong_accepted hfull]
  rfl

theorem refAttach_attaches {pairId : BitVec 12} (hh : s.pair.host = none ∨ s.isReferee q = true) (hp : s.pairOn = true)
    (hi : s.get PAIR_CFG.PAIR_ID = pairId.toNat) : Leads (.refAttach q pairId) s (fun t =>
      s.answered t q 0x0601 stAccepted [] ∧ t.pair.host = some q.session ∧ t.get PAIR_RSTAT.STATE = 1) :=
  ⟨_, exec_refAttach h hh hp hi, (State.taken_accepted_answered h.1 ..).within (State.hostAttached_within ..),
    State.hostAttached_host .., State.hostAttached_state ..⟩

theorem exec_switchBack {x : Ts} (hr : s.role = 1) (hn : s.pair.switch = none) (hh : s.isReferee q = true) :
    exec (.switchBack q x) s = .next (((s.taken q 0x0604).accepted q 0x0604 0).switchRelayed q x) := by
  have hfull := State.longsFull_taken h 0x0604
  have hr' : (s.taken q 0x0604).role = 1 := hr
  have hh' : (s.taken q 0x0604).isReferee q = true := hh
  show Host.Outcome.next (s.request q 0x0604 (switchBackBody q x) _) = _
  rw [State.request_admits h.1, switchBackBody, hfull, hr', State.taken_pair, hn, hh', State.checks_pass (by simp),
    State.startLong_accepted hfull]
  rfl

theorem switchBack_schedules {x : Ts} (hr : s.role = 1) (hn : s.pair.switch = none) (hh : s.isReferee q = true) :
    Leads (.switchBack q x) s (fun t => s.answered t q 0x0604 stAccepted [] ∧
      t.pair.switch = some { ts := x, w := s.makeInterval, incoming := false } ∧
      t.pair.switchOp = some (q.session, q.seq) ∧ t.flag PAIR_STATUS.SWITCHING = true) := by
  obtain ⟨hsw, hop⟩ := ((s.taken q 0x0604).accepted q 0x0604 0).switchRelayed_pair q x
  rw [(State.taken_accepted_qcpOnly s q 0x0604 0).makeInterval] at hsw
  exact ⟨_, exec_switchBack h hr hn hh, (State.taken_accepted_answered h.1 ..).within (State.switchRelayed_within ..), hsw, hop,
    State.switchRelayed_switching ..⟩

end

/-- Settles O33: each command by its lemma. That a HOLD counts as DEGRADED rests on log entry 119, the DATA of PAIR_STATUS on log entry 120,
and the operand of REF_ATTACH on log entry 207. -/
theorem pairHealthCompletes : Obligations.PairHealthCompletes := by
  unfold Obligations.PairHealthCompletes
  refine ⟨fun s hp => healthUpdate_shows hp, fun s => ⟨heartbeatSend_notes, heartbeatSend_refereeGoesOn⟩, ?frame, ?loss,
    fun s hr h4 => revertHoldExpire_schedules hr h4, ?requests, ?longs⟩
  case frame =>
    intro h hb b u v s hr hl ho hbytes hu hs hv
    have hstep := exec_heartbeatFrame hr hl ho hbytes hu hs hv
    refine ⟨fun hp hi h0 => ?_, fun c href hi h0 hne hc => ⟨_, hstep, State.heard_node href hi h0 hne hc⟩⟩
    rw [State.heardByReferee_own h0] at hstep
    exact ⟨_, hstep, State.heardByDevice_referee hp hi h0⟩
  case loss =>
    intro b u s hr h2 h5 hb hu
    have hstep := exec_refLossDeclare hr h2 h5 hb hu
    obtain rfl : b = u.flag PAIR_RSTAT.ACTIVE_B := by
      rw [hb, hu]
      exact (State.flag_congr (State.at_get ..)).symm
    refine ⟨fun he => ?_, fun he => ⟨_, hstep, State.refDeclare_dark _ he⟩⟩
    rw [State.refDeclare_takes _ he] at hstep
    exact ⟨_, hstep, State.refTake_orders ..⟩
  case requests =>
    exact fun q s h => ⟨leads_of_reply h rfl rfl, fun hh => refDetach_detaches h hh, fun hh he => take_takes h hh he⟩
  case longs =>
    exact fun q s h => ⟨fun _ hh hp hi => refAttach_attaches h hh hp hi, fun _ hr hn hh => switchBack_schedules h hr hn hh⟩

end Sys2Proof.Machine
end

section
/-! A latching read keeps to its own path (O11: R790). -/

namespace Sys2Proof.Machine

theorem State.shadow_putShadow_other (s : State) {x : Shadow} {path : Path} (h : path ≠ x.path) :
    (s.putShadow x).shadow path = s.shadow path := by
  unfold State.shadow State.putShadow
  rw [List.find?_cons_of_neg (by simpa using Ne.symm h), List.find?_filter]
  congr 2
  funext y
  rw [Bool.eq_iff_iff]
  simp only [Bool.not_eq_true', decide_eq_true_eq, beq_iff_eq, beq_eq_false_iff_ne]
  exact ⟨And.right, fun hy => ⟨fun hx => h (hy.symm.trans hx), hy⟩⟩

theorem State.latch_shadow_other (s : State) {path other : Path} (low n : Nat) (h : other ≠ path) :
    (s.latch path low n).shadow other = s.shadow other :=
  State.shadow_putShadow_other s (by rwa [State.shadow_path])

/-- Settles O11: the latch replaces the shadow of its own path alone. -/
theorem pathsKeepTheirShadows : Obligations.PathsKeepTheirShadows := by
  unfold Obligations.PathsKeepTheirShadows
  intro path off n s h hg hi
  exact ⟨_, groupLatchRead_latches h hg hi, rfl, fun other ho => State.latch_shadow_other s _ _ ho⟩

end Sys2Proof.Machine
end

section
/-! SUPPORT. Fields in two's complement, and the servo's loop on one offset: what it sets, and what it leaves (R8, R516 to R518, R562). -/

namespace Sys2Proof.Machine

/-! ## Two's complement -/

theorem signed_pattern {w : Nat} {i : Int} (h0 : 0 < w) (hl : -(2 ^ (w - 1)) ≤ i) (hu : i < 2 ^ (w - 1)) : signed w (pattern w i) = i := by
  obtain ⟨n, rfl⟩ : ∃ n, w = n + 1 := ⟨w - 1, by omega⟩
  have hm := Int.emod_nonneg i (show (2 : Int) ^ (n + 1) ≠ 0 by positivity)
  have hp : (2 : Int) ^ (n + 1) = 2 * 2 ^ n := by ring
  have hd := Int.emod_add_mul_ediv i (2 ^ (n + 1))
  have hc : ((pattern (n + 1) i : Nat) : Int) = i % 2 ^ (n + 1) := by
    unfold pattern
    push_cast
    exact Int.toNat_of_nonneg hm
  rw [Nat.add_sub_cancel] at hl hu
  unfold signed
  rw [pattern_mod, Nat.add_sub_cancel]
  by_cases hi : 0 ≤ i
  · have he : i % 2 ^ (n + 1) = i := Int.emod_eq_of_lt hi (by omega)
    rw [if_pos (by zify; omega)]
    omega
  · have he : i % 2 ^ (n + 1) = i + 2 ^ (n + 1) := by
      rw [← Int.add_emod_right]
      exact Int.emod_eq_of_lt (by omega) (by omega)
    rw [if_neg (by zify; omega)]
    push_cast
    omega

/-- A field reads back the two's complement value that it was set to, where its width holds it. -/
theorem State.geti_puti_same (s : State) {f : Fld} {i : Int} (hf : f.lo + f.width ≤ 32) (h0 : 0 < f.width)
    (hl : -(2 ^ (f.width - 1)) ≤ i) (hu : i < 2 ^ (f.width - 1)) : (s.puti f i).geti f = i := by
  unfold State.geti State.puti
  rw [State.get_put_same _ _ _ hf, pattern_mod, signed_pattern h0 hl hu]

theorem State.geti_congr {s t : State} {f : Fld} (h : t.get f = s.get f) : t.geti f = s.geti f := congrArg (signed f.width) h

theorem clampI_bounds {lo hi : Int} (h : lo ≤ hi) (x : Int) : lo ≤ clampI lo hi x ∧ clampI lo hi x ≤ hi := by
  unfold clampI
  split
  · omega
  · split <;> omega

/-- A 32-bit field reads back what it was set to, held in its range. -/
theorem State.geti_puti_clamp (s : State) {f : Fld} (hf : f.lo = 0) (hw : f.width = 32) (x : Int) :
    (s.puti f (clampI (-(2 ^ 31)) (2 ^ 31 - 1) x)).geti f = clampI (-(2 ^ 31)) (2 ^ 31 - 1) x := by
  have hb := clampI_bounds (show (-(2 ^ 31) : Int) ≤ 2 ^ 31 - 1 by decide) x
  refine State.geti_puti_same s (by omega) (by omega) ?_ ?_ <;> rw [hw]
  · exact hb.1
  · exact Int.lt_of_le_sub_one hb.2

/-! ## FADJ (R516, R518) -/

theorem State.setFadj_regs (s : State) (v : Int) (locked : Bool) :
    (s.setFadj v locked).regs = (s.puti PTP_FADJ.FADJ (clampI (-(2 ^ 31)) (2 ^ 31 - 1) v)).regs := by
  unfold State.setFadj
  dsimp only
  split <;> rfl

theorem State.setFadj_ptp (s : State) (v : Int) (locked : Bool) :
    (s.setFadj v locked).ptp = { s.ptp with hist := (s.setFadj v locked).ptp.hist } := by
  unfold State.setFadj
  dsimp only
  split <;> rfl

theorem State.setFadj_get (s : State) (v : Int) (locked : Bool) {f : Fld} (h : f.addr ≠ PTP_FADJ.FADJ.addr) :
    (s.setFadj v locked).get f = s.get f :=
  (State.get_regs (s.setFadj_regs v locked) f).trans (State.get_put_other _ _ _ _ (.inl (Ne.symm h)))

theorem State.setFadj_fadj (s : State) (v : Int) (locked : Bool) :
    (s.setFadj v locked).geti PTP_FADJ.FADJ = clampI (-(2 ^ 31)) (2 ^ 31 - 1) v :=
  (State.geti_congr (State.get_regs (s.setFadj_regs v locked) _)).trans (State.geti_puti_clamp s rfl rfl v)

/-- The loop: its integral part takes the offset's, and FADJ is their sum. -/
theorem State.piAdjust_adjusts (s : State) (servo : Nat) (off : Int) (locked : Bool) :
    (s.piAdjust servo off locked).ptp.integ = clampI (-(2 ^ 31)) (2 ^ 31 - 1) (s.ptp.integ + Config.servoI servo off) ∧
    (s.piAdjust servo off locked).geti PTP_FADJ.FADJ =
      clampI (-(2 ^ 31)) (2 ^ 31 - 1) ((s.piAdjust servo off locked).ptp.integ + Config.servoP servo off) := by
  unfold State.piAdjust
  rw [State.setFadj_fadj, State.setFadj_ptp]
  exact ⟨rfl, rfl⟩

theorem State.piAdjust_ptp (s : State) (servo : Nat) (off : Int) (locked : Bool) :
    (s.piAdjust servo off locked).ptp = { s.ptp with
      integ := (s.piAdjust servo off locked).ptp.integ, hist := (s.piAdjust servo off locked).ptp.hist } := by
  unfold State.piAdjust
  rw [State.setFadj_ptp]

theorem State.piAdjust_get (s : State) (servo : Nat) (off : Int) (locked : Bool) {f : Fld} (h : f.addr ≠ PTP_FADJ.FADJ.addr) :
    (s.piAdjust servo off locked).get f = s.get f := by
  unfold State.piAdjust
  rw [State.setFadj_get _ _ _ h]
  rfl

theorem State.piAdjust_clk (s : State) (servo : Nat) (off : Int) (locked : Bool) : (s.piAdjust servo off locked).clk = s.clk :=
  State.piAdjust_within.comp .clk (by decide)

/-- Holdover: FADJ goes to its mean over the adjustments remembered. -/
theorem State.holdFadj_fadj {s : State} (h : s.ptp.hist ≠ []) :
    s.holdFadj.geti PTP_FADJ.FADJ = clampI (-(2 ^ 31)) (2 ^ 31 - 1) (divRound (sumI (s.ptp.hist.map (·.2))) s.ptp.hist.length) := by
  unfold State.holdFadj
  rw [if_neg h]
  exact State.setFadj_fadj ..

theorem State.holdFadj_get (s : State) {f : Fld} (h : f.addr ≠ PTP_FADJ.FADJ.addr) : s.holdFadj.get f = s.get f := by
  unfold State.holdFadj
  split
  · rfl
  · exact State.setFadj_get _ _ _ h

theorem State.holdFadj_ptp (s : State) : s.holdFadj.ptp = { s.ptp with integ := s.holdFadj.ptp.integ, hist := s.holdFadj.ptp.hist } := by
  unfold State.holdFadj
  split
  · rfl
  · exact State.setFadj_ptp ..

/-! ## LOCKED (R517) -/

/-- How many offsets in a row have been small, and how many large, with one more. -/
def State.goodAfter (s : State) (off : Int) : Nat :=
  if decide (off.natAbs < s.get PTP_SERVO.LOCK_THR * ns) = true then min 16 (s.ptp.good + 1) else 0

def State.badAfter (s : State) (off : Int) : Nat :=
  if decide (off.natAbs < s.get PTP_SERVO.LOCK_THR * ns) = true then 0 else min 16 (s.ptp.bad + 1)

def State.lockCounted (s : State) (off : Int) : State :=
  { s with ptp := { s.ptp with good := s.goodAfter off, bad := s.badAfter off } }

theorem State.lockCount_cases (s : State) (off : Int) :
    s.goodAfter off = 16 ∧ s.lockCount off = (s.lockCounted off).put PTP_STATUS.LOCKED 1 ∨
    s.goodAfter off ≠ 16 ∧ (s.lockCount off = (s.lockCounted off).put PTP_STATUS.LOCKED 0 ∨ s.lockCount off = s.lockCounted off) := by
  by_cases hg : s.goodAfter off = 16
  · exact .inl ⟨hg, if_pos hg⟩
  · by_cases hb : s.badAfter off = 16
    · exact .inr ⟨hg, .inl ((if_neg hg).trans (if_pos hb))⟩
    · exact .inr ⟨hg, .inr ((if_neg hg).trans (if_neg hb))⟩

theorem State.lockCount_get (s : State) (off : Int) {f : Fld} (h : PTP_STATUS.LOCKED.apart f) : (s.lockCount off).get f = s.get f := by
  obtain ⟨_, he⟩ | ⟨_, he | he⟩ := s.lockCount_cases off <;> rw [he]
  · exact State.get_put_other _ _ _ _ h
  · exact State.get_put_other _ _ _ _ h
  · rfl

theorem State.lockCount_ptp (s : State) (off : Int) : (s.lockCount off).ptp = (s.lockCounted off).ptp := by
  obtain ⟨_, he⟩ | ⟨_, he | he⟩ := s.lockCount_cases off <;> rw [he] <;> rfl

/-- Sixteen small offsets in a row lock. -/
theorem State.lockCount_locks {s : State} {off : Int} (h : (s.lockCount off).ptp.good = 16) :
    (s.lockCount off).flag PTP_STATUS.LOCKED = true := by
  obtain ⟨_, he⟩ | ⟨hg, _⟩ := s.lockCount_cases off
  · rw [he]
    exact State.flag_put_same _ PTP_STATUS.LOCKED 1 (by decide)
  · rw [State.lockCount_ptp] at h
    exact absurd h hg

theorem State.lockLost_get (s : State) {f : Fld} (h : PTP_STATUS.LOCKED.apart f) : s.lockLost.get f = s.get f :=
  State.get_put_other _ _ _ _ h

theorem State.lockLost_locked (s : State) : s.lockLost.flag PTP_STATUS.LOCKED = false := State.flag_put_same _ _ _ (by decide)

/-! ## A step (R511, R517) -/

theorem State.stepTo_ptp (s : State) (t : Ts) : (s.stepTo t).ptp = { s.ptp with good := 0, bad := 0 } := rfl

/-- A step writes the status words of both clocks alone. -/
theorem State.stepTo_get (s : State) (t : Ts) {f : Fld}
    (h : ∀ g ∈ [PTP_STATUS.STEPS, PTP_STATUS.STEPPED, RDG_STATUS.LOCKED, PTP_STATUS.LOCKED], g.apart f) : (s.stepTo t).get f = s.get f := by
  rw [State.get_regs (s.stepTo_regs t), State.stepNoted, State.get_put_other _ _ _ _ (h _ (by simp)), State.get_puts_other _ _ _ (by simp [h])]
  exact State.get_put_other _ _ _ _ (h _ (by simp))

end Sys2Proof.Machine
end

section
/-! The messages and timeouts of the PTP instance (O42: R506, R513 to R521). -/

namespace Sys2Proof.Machine

/-! ## The servo on one offset (R516, R517; log entry 113) -/

/-- What an offset shows before the servo acts on it. -/
def State.offsetShown (s : State) (off : Int) : State :=
  (s.puti PTP_OFFSET.OFFSET (clampI (-(2 ^ 31)) (2 ^ 31 - 1) (divRound off 16384))).puts [(PTP_STATUS.HOLDOVER, 0), (PTP_STATUS.PSTATE, 9)]

theorem State.offsetShown_get (s : State) (off : Int) {f : Fld}
    (h : ∀ g ∈ [PTP_OFFSET.OFFSET, PTP_STATUS.HOLDOVER, PTP_STATUS.PSTATE], g.apart f) : (s.offsetShown off).get f = s.get f := by
  unfold State.offsetShown
  rw [State.get_puts_other _ _ _ (by simp [h])]
  exact State.get_put_other _ _ _ _ (h _ (by simp))

theorem State.offsetShown_offset (s : State) (off : Int) :
    (s.offsetShown off).geti PTP_OFFSET.OFFSET = clampI (-(2 ^ 31)) (2 ^ 31 - 1) (divRound off 16384) := by
  unfold State.offsetShown
  rw [State.geti_congr (State.get_puts_other _ _ _ (by decide)), State.geti_puti_clamp _ rfl rfl]

theorem State.offsetShown_holdover (s : State) (off : Int) : (s.offsetShown off).flag PTP_STATUS.HOLDOVER = false := by
  rw [State.offsetShown, State.puts_cons, State.puts_cons, State.puts_nil, State.flag_put_other _ _ _ _ (by decide),
    State.flag_put_same _ _ _ (by decide)]
  rfl

theorem State.offsetShown_pstate (s : State) (off : Int) : (s.offsetShown off).get PTP_STATUS.PSTATE = 9 := by
  rw [State.offsetShown, State.puts_cons, State.puts_cons, State.puts_nil]
  exact State.get_put_same _ PTP_STATUS.PSTATE _ (by decide)

theorem State.offsetShown_ptp (s : State) (off : Int) : (s.offsetShown off).ptp = s.ptp := rfl

/-- The servo counts the offset, steps by it or moves FADJ. -/
theorem State.servo_of_src {s : State} {off : Int} (h : s.get PTP_CFG.SRC ≠ 0) : s.servo off = (s.offsetShown off).lockCount off :=
  if_pos (by simpa using h)

theorem State.servo_of_large {s : State} {off : Int} (h : s.get PTP_CFG.SRC = 0) (hl : s.get PTP_SERVO.STEP_THR * 10 * ns < off.natAbs) :
    s.servo off = (s.offsetShown off).stepBy (-off) :=
  (if_neg (by simp [h])).trans (if_pos hl)

def State.steered (s : State) (off : Int) : State := s.piAdjust 0 off (s.flag PTP_STATUS.LOCKED)

theorem State.servo_of_small {s : State} {off : Int} (h : s.get PTP_CFG.SRC = 0) (hl : off.natAbs ≤ s.get PTP_SERVO.STEP_THR * 10 * ns) :
    s.servo off = ((s.offsetShown off).lockCount off).steered off :=
  (if_neg (by simp [h])).trans (if_neg (Nat.not_lt.mpr hl))

/-- Whatever the servo does, it leaves what the offset shows. -/
theorem State.servo_get (s : State) (off : Int) {f : Fld} (hf : f.addr ≠ PTP_FADJ.FADJ.addr)
    (h : ∀ g ∈ [PTP_STATUS.STEPS, PTP_STATUS.STEPPED, RDG_STATUS.LOCKED, PTP_STATUS.LOCKED], g.apart f) :
    (s.servo off).get f = (s.offsetShown off).get f := by
  have hl := State.lockCount_get (s.offsetShown off) off (h PTP_STATUS.LOCKED (by simp))
  by_cases hs : s.get PTP_CFG.SRC = 0
  · obtain hb | hb := Nat.lt_or_ge (s.get PTP_SERVO.STEP_THR * 10 * ns) off.natAbs
    · rw [State.servo_of_large hs hb]
      exact State.stepTo_get _ _ h
    · rw [State.servo_of_small hs hb]
      exact (State.piAdjust_get _ _ _ _ hf).trans hl
  · rw [State.servo_of_src hs, hl]

/-- An exchange that the servo acts on is over, whatever the servo does. -/
theorem State.servo_exchange (s : State) (off : Int) :
    (s.servo off).ptp.sync = s.ptp.sync ∧ (s.servo off).ptp.delayReq = s.ptp.delayReq ∧ (s.servo off).ptp.pathDelay = s.ptp.pathDelay := by
  by_cases hs : s.get PTP_CFG.SRC = 0
  · obtain hb | hb := Nat.lt_or_ge (s.get PTP_SERVO.STEP_THR * 10 * ns) off.natAbs
    · rw [State.servo_of_large hs hb]
      exact ⟨rfl, rfl, rfl⟩
    · rw [State.servo_of_small hs hb, State.steered, State.piAdjust_ptp, State.lockCount_ptp]
      exact ⟨rfl, rfl, rfl⟩
  · rw [State.servo_of_src hs, State.lockCount_ptp]
    exact ⟨rfl, rfl, rfl⟩

theorem State.servo_steps {s : State} {off : Int} (h : s.get PTP_CFG.SRC = 0) (hl : s.get PTP_SERVO.STEP_THR * 10 * ns < off.natAbs) :
    (s.servo off).now = ((s.now : Int) - off).toNat ∧ (s.servo off).flag PTP_STATUS.LOCKED = false := by
  rw [State.servo_of_large h hl]
  exact ⟨State.stepTo_now .., State.stepTo_ptpLocked ..⟩

theorem State.servo_adjusts {s : State} {off : Int} (h : s.get PTP_CFG.SRC = 0) (hl : off.natAbs ≤ s.get PTP_SERVO.STEP_THR * 10 * ns) :
    (s.servo off).clk = s.clk ∧
    (s.servo off).ptp.integ = clampI (-(2 ^ 31)) (2 ^ 31 - 1) (s.ptp.integ + Config.servoI 0 off) ∧
    (s.servo off).geti PTP_FADJ.FADJ = clampI (-(2 ^ 31)) (2 ^ 31 - 1) ((s.servo off).ptp.integ + Config.servoP 0 off) ∧
    ((s.servo off).ptp.good = 16 → (s.servo off).flag PTP_STATUS.LOCKED = true) := by
  rw [State.servo_of_small h hl]
  set u := (s.offsetShown off).lockCount off with hu
  obtain ⟨hi, hj⟩ := u.piAdjust_adjusts 0 off (u.flag PTP_STATUS.LOCKED)
  have hp : u.ptp.integ = s.ptp.integ := by rw [hu, State.lockCount_ptp]; rfl
  have hc : u.clk = s.clk := State.lockCount_within.comp .clk (by decide)
  refine ⟨(State.piAdjust_clk ..).trans hc, hp ▸ hi, hj, fun hg => ?_⟩
  rw [State.steered, State.flag_congr (State.piAdjust_get _ _ _ _ (by decide))]
  refine State.lockCount_locks (Eq.trans ?_ hg)
  rw [State.steered, State.piAdjust_ptp]

theorem State.servo_counts {s : State} {off : Int} (h : s.get PTP_CFG.SRC ≠ 0) :
    (s.servo off).clk = s.clk ∧ (s.servo off).get PTP_FADJ.FADJ = s.get PTP_FADJ.FADJ := by
  rw [State.servo_of_src h]
  exact ⟨State.lockCount_within.comp .clk (by decide),
    (State.lockCount_get _ _ (by decide)).trans (State.offsetShown_get _ _ (by decide))⟩

/-! ## Messages that arrive (R506, R513 to R515, R521) -/

theorem State.onPtp_own {s : State} {x : Nat} (h : x = s.ptpPort) (f : State → State) : s.onPtp x f = f s := if_pos h

theorem State.onPtp_other {s : State} {x : Nat} (h : x ≠ s.ptpPort) (f : State → State) : s.onPtp x f = s.count (NET_W20.RXDROP x) := if_neg h

theorem State.skewed_ptp (s : State) (f : Fld) : (s.skewed f).ptp = s.ptp := by
  unfold State.skewed
  split <;> rfl

theorem State.skewed_out (s : State) (f : Fld) : (s.skewed f).out = s.out := by
  unfold State.skewed
  split <;> rfl

/-- A skewed timestamp is counted in a register of the perturbations, and changes no other. -/
theorem State.skewed_get (s : State) (f : Fld) {g : Fld} (h : (PTB_CNT.COUNT 5).addr ≠ g.addr) : (s.skewed f).get g = s.get g := by
  unfold State.skewed
  split
  · exact State.get_count_other _ h
  · rfl

/-- On the port that is not the instance's every message is counted and dropped. -/
theorem exec_ptp_other {x : Fin 2} {s : State} (hx : x.val ≠ s.ptpPort) (seqId : BitVec 16) (two : Bool) (origin raw : Ts) (corr : Int)
    (identity : BitVec 64) (dataset : Nat) {c : Instr} (hc : c ∈ [.ptpSyncRx x seqId two origin corr raw, .ptpFollowUpRx x seqId origin corr,
      .ptpDelayRespRx x seqId origin corr, .ptpAnnounceRx x identity dataset, .ptpDelayReqRx x seqId raw]) :
    exec c s = .next (s.count (NET_W20.RXDROP x.val)) := by
  simp only [List.mem_cons, List.not_mem_nil, or_false] at hc
  rcases hc with rfl | rfl | rfl | rfl | rfl <;> exact congrArg Host.Outcome.next (State.onPtp_other hx _)

section

variable {x : Fin 2} {s : State} (hx : x.val = s.ptpPort)

include hx

theorem exec_ptpSyncRx (seqId : BitVec 16) (two : Bool) (origin : Ts) (corr : Int) (raw : Ts) :
    Leads (.ptpSyncRx x seqId two origin corr raw) s (fun t =>
      t.ptp.sync = some { seqId := seqId, t1 := if two then none else some origin, t2 := s.ingress x.val raw, corr := corr }) :=
  ⟨_, congrArg Host.Outcome.next (State.onPtp_own hx _), congrArg (·.sync) (State.skewed_ptp ..)⟩

theorem exec_ptpFollowUpRx {y : SyncRx} {origin : Ts} {corr : Int} (hy : s.ptp.sync = some y) (h1 : y.t1 = none) :
    Leads (.ptpFollowUpRx x y.seqId origin corr) s (fun t =>
      t.ptp.sync = some { y with t1 := some origin, corr := y.corr + corr } ∧ t.regs = s.regs) := by
  refine ⟨_, congrArg Host.Outcome.next (State.onPtp_own hx _), ?_⟩
  simp [hy, h1]

/-- The exchange ends, and the servo acts on its offset. -/
theorem exec_ptpDelayRespRx {y : SyncRx} {seqId : BitVec 16} {t1 t3 t4 : Ts} {corr : Int} (hy : s.ptp.sync = some y) (h1 : y.t1 = some t1)
    (hd : s.ptp.delayReq = some (seqId, t3)) :
    exec (.ptpDelayRespRx x seqId t4 corr) s =
      .next (({ s with ptp := { s.ptp with
        sync := none, delayReq := none, pathDelay := divRound ((y.t2 - t1 - y.corr) + (t4 - t3 - corr)) 2 } } : State).servo
        (divRound ((y.t2 - t1 - y.corr) - (t4 - t3 - corr)) 2)) := by
  refine congrArg Host.Outcome.next ((State.onPtp_own hx _).trans ?_)
  simp only [hy, hd, h1, if_true]

theorem ptpDelayRespRx_servo {y : SyncRx} {seqId : BitVec 16} {t1 t3 t4 : Ts} {corr a b off : Int} (hy : s.ptp.sync = some y)
    (h1 : y.t1 = some t1) (hd : s.ptp.delayReq = some (seqId, t3)) (ha : a = y.t2 - t1 - y.corr) (hb : b = t4 - t3 - corr)
    (ho : off = divRound (a - b) 2) :
    Leads (.ptpDelayRespRx x seqId t4 corr) s (fun t => t.ptp.sync = none ∧ t.ptp.delayReq = none ∧ t.ptp.pathDelay = divRound (a + b) 2 ∧
      t.geti PTP_OFFSET.OFFSET = clampI (-(2 ^ 31)) (2 ^ 31 - 1) (divRound off 16384) ∧ t.get PTP_STATUS.PSTATE = 9 ∧
      t.flag PTP_STATUS.HOLDOVER = false ∧
      (s.get PTP_CFG.SRC = 0 → s.get PTP_SERVO.STEP_THR * 10 * ns < off.natAbs → t.now = ((s.now : Int) - off).toNat ∧
        t.flag PTP_STATUS.LOCKED = false) ∧
      (s.get PTP_CFG.SRC = 0 → off.natAbs ≤ s.get PTP_SERVO.STEP_THR * 10 * ns → t.clk = s.clk ∧
        t.ptp.integ = clampI (-(2 ^ 31)) (2 ^ 31 - 1) (s.ptp.integ + Config.servoI 0 off) ∧
        t.geti PTP_FADJ.FADJ = clampI (-(2 ^ 31)) (2 ^ 31 - 1) (t.ptp.integ + Config.servoP 0 off) ∧ (t.ptp.good = 16 → t.flag PTP_STATUS.LOCKED = true)) ∧
      (s.get PTP_CFG.SRC ≠ 0 → t.clk = s.clk ∧ t.get PTP_FADJ.FADJ = s.get PTP_FADJ.FADJ)) := by
  subst ho ha hb
  refine ⟨_, exec_ptpDelayRespRx hx hy h1 hd, ?_⟩
  generalize hu : ({ s with ptp := { s.ptp with
    sync := none, delayReq := none, pathDelay := divRound ((y.t2 - t1 - y.corr) + (t4 - t3 - corr)) 2 } } : State) = u
  generalize divRound ((y.t2 - t1 - y.corr : Int) - (t4 - t3 - corr)) 2 = off
  obtain ⟨hsync, hreq, hdelay⟩ := u.servo_exchange off
  have hoff := State.geti_congr (State.servo_get u off (f := PTP_OFFSET.OFFSET) (by decide) (by decide))
  have hst := State.servo_get u off (f := PTP_STATUS.PSTATE) (by decide) (by decide)
  have hho := State.flag_congr (State.servo_get u off (f := PTP_STATUS.HOLDOVER) (by decide) (by decide))
  have hreg : ∀ f, u.get f = s.get f := State.get_regs (by rw [← hu])
  have hclk : u.clk = s.clk := by rw [← hu]
  have hnow : u.now = s.now := by rw [← hu]; rfl
  have hint : u.ptp.integ = s.ptp.integ := by rw [← hu]
  refine ⟨by rw [hsync, ← hu], by rw [hreq, ← hu], by rw [hdelay, ← hu], hoff.trans (u.offsetShown_offset off),
    hst.trans (u.offsetShown_pstate off), hho.trans (u.offsetShown_holdover off), ?_, ?_, ?_⟩
  · rw [← hreg, ← hreg, ← hnow]
    exact State.servo_steps
  · rw [← hreg, ← hreg, ← hclk, ← hint]
    exact State.servo_adjusts
  · rw [← hreg, ← hreg, ← hclk]
    exact State.servo_counts

/-- A better device stays master and forgets the one it followed. -/
theorem exec_ptpAnnounceRx_worse (identity : BitVec 64) {dataset : Nat} (hm : s.flag PTP_CFG.MASTER = true) (hd : Config.ownDataset < dataset) :
    Leads (.ptpAnnounceRx x identity dataset) s (fun t => t.ptp.master = none ∧ t.get PTP_STATUS.PSTATE = 6) :=
  ⟨_, congrArg Host.Outcome.next ((State.onPtp_own hx _).trans (if_pos (by simp [hm, hd]))), rfl, State.get_put_same _ PTP_STATUS.PSTATE 6 (by decide)⟩

/-- The best master heard is selected: followed at once, or as it was. -/
theorem exec_ptpAnnounceRx_selects {identity : BitVec 64} {dataset : Nat} (hw : ¬ (s.flag PTP_CFG.MASTER = true ∧ Config.ownDataset < dataset))
    (hb : ∀ i d, s.ptp.master = some (i, d) → i = identity ∨ dataset < d) :
    Leads (.ptpAnnounceRx x identity dataset) s (fun t => t.ptp.master = some (identity, dataset) ∧ (t.get PTP_STATUS.PSTATE = 8 ∨
      t.get PTP_STATUS.PSTATE = 9)) := by
  have hbest : (match s.ptp.master with | some (i, d) => i == identity || decide (dataset < d) | none => true) = true := by
    cases hm : s.ptp.master with
    | none => rfl
    | some m => simpa using hb m.1 m.2 hm
  refine ⟨_, congrArg Host.Outcome.next ((State.onPtp_own hx _).trans ((if_neg (by simpa using hw)).trans (if_pos hbest))), ?_⟩
  by_cases hs : (s.ptp.master.map (·.1) == some identity && s.get PTP_STATUS.PSTATE == 9) = true
  · rw [if_pos hs]
    simp only [Bool.and_eq_true, beq_iff_eq] at hs
    exact ⟨rfl, .inr hs.2⟩
  · rw [if_neg hs]
    exact ⟨rfl, .inl (State.get_put_same _ PTP_STATUS.PSTATE 8 (by decide))⟩

/-- A master answers a Delay_Req with its corrected receive time. -/
theorem exec_ptpDelayReqRx (seqId : BitVec 16) (raw : Ts) (hm : s.get PTP_STATUS.PSTATE = 6) :
    Leads (.ptpDelayReqRx x seqId raw) s (fun t => t.out = s.out ++ [.eth x (.ptpDelayResp s.ptpHead seqId (s.ingress x.val raw))]) := by
  refine ⟨_, congrArg Host.Outcome.next ((State.onPtp_own hx _).trans (State.whenDo_pos (by simp [hm]))), ?_⟩
  have hf : Fin.ofNat 2 s.ptpPort = x := by
    rw [← hx]
    exact Fin.ofNat_val_eq_self ..
  have hp : (s.skewed (PTB_TSKEW.RX x.val)).ptpPort = s.ptpPort := State.skewed_get _ _ (by decide)
  rw [State.ptpOut, State.emit_eth, hp, hf]
  exact congrArg (· ++ _) (State.skewed_out ..)

end

/-! ## Timeouts (R514, R518, R521) -/

/-- Without a master the clock holds, as the device's own master state if it may have one. -/
theorem exec_announceTimeout (s : State) :
    Leads .announceTimeout s (fun t => t.ptp.master = none ∧ t.ptp.sync = none ∧ t.flag PTP_STATUS.HOLDOVER = true ∧
      t.flag PTP_STATUS.LOCKED = false ∧ t.get PTP_STATUS.PSTATE = (if s.flag PTP_CFG.MASTER then 6 else 4)) := by
  let u := ({ s with ptp := { s.ptp with master := none, sync := none, delayReq := none } } : State).put PTP_STATUS.PSTATE
    (if s.flag PTP_CFG.MASTER then 6 else 4)
  let v := if s.get PTP_CFG.SRC = 0 then u.holdFadj else u
  have hv : v.ptp.master = none ∧ v.ptp.sync = none ∧ v.get PTP_STATUS.PSTATE = u.get PTP_STATUS.PSTATE := by
    unfold v
    split
    · rw [State.holdFadj_ptp, State.holdFadj_get _ (by decide)]
      exact ⟨rfl, rfl, rfl⟩
    · exact ⟨rfl, rfl, rfl⟩
  obtain ⟨hm, hs, hp⟩ := hv
  refine ⟨v.lockLost.put PTP_STATUS.HOLDOVER 1, rfl, hm, hs, State.flag_put_same _ PTP_STATUS.HOLDOVER 1 (by decide), ?_, ?_⟩
  · rw [State.flag_put_other _ _ _ _ (by decide), State.lockLost_locked]
  · rw [State.get_put_other _ _ _ _ (by decide), State.lockLost_get _ (by decide), hp]
    refine (State.get_put_same _ PTP_STATUS.PSTATE _ (by decide)).trans ?_
    split <;> rfl

/-- A Sync that still waits for its Follow_Up is discarded. -/
theorem exec_followUpTimeout {y : SyncRx} {s : State} (hy : s.ptp.sync = some y) (h1 : y.t1 = none) :
    Leads .followUpTimeout s (fun t => t.ptp.sync = none ∧ t.regs = s.regs ∧ t.ptp.delayReq = s.ptp.delayReq) := by
  refine ⟨followUpTimeoutStep s, rfl, ?_⟩
  simp [followUpTimeoutStep, hy, h1]

/-! ## Messages that are sent (R514, R519, R520) -/

/-- What a counted skew and a new sequence number leave to a message: where it goes and what is sent before it. -/
theorem State.ptpOut_out {s t : State} {f : EthOut} (hp : t.ptpPort = s.ptpPort) : (t.ptpOut f).out = t.out ++ [.eth (Fin.ofNat 2 s.ptpPort) f] := by
  rw [State.ptpOut, State.emit_eth, hp]
  rfl

/-- What the next Sync leaves: its number taken, and its skew counted. -/
def State.syncNumbered (s : State) : State :=
  ({ s with ptp := { s.ptp with syncSeq := s.ptp.syncSeq + 1 } }).skewed (PTB_TSKEW.TX s.ptpPort)

theorem State.syncNumbered_port (s : State) : s.syncNumbered.ptpPort = s.ptpPort := State.skewed_get _ _ (by decide)

theorem State.syncNumbered_ptp (s : State) : s.syncNumbered.ptp = { s.ptp with syncSeq := s.ptp.syncSeq + 1 } := State.skewed_ptp ..

theorem State.syncNumbered_out (s : State) : s.syncNumbered.out = s.out := State.skewed_out ..

theorem syncSendStep_eq {s : State} (raw : Ts) (hm : s.get PTP_STATUS.PSTATE = 6) :
    syncSendStep raw s =
      if s.flag (if s.ptpPort = 0 then PTP_CFG.ONESTEP0 else PTP_CFG.ONESTEP1) = true then
        s.syncNumbered.ptpOut (.ptpSync (s.ptpHead true) s.ptp.syncSeq (some (s.egress s.ptpPort raw / ns)) (s.egress s.ptpPort raw % ns))
      else (s.syncNumbered.ptpOut (.ptpSync s.ptpHead s.ptp.syncSeq none 0)).ptpOut
        (.ptpFollowUp s.ptpHead s.ptp.syncSeq (s.egress s.ptpPort raw / ns) (s.egress s.ptpPort raw % ns)) := by
  rw [apply_ite s.flag]
  exact State.whenDo_pos (by simp [hm])

/-- A master sends Sync: one-step with the time it leaves at, two-step with a Follow_Up that brings it. -/
theorem exec_syncSend {s : State} {raw e : Ts} (he : e = s.egress s.ptpPort raw) (hm : s.get PTP_STATUS.PSTATE = 6) :
    Leads (.syncSend raw) s (fun t => t.ptp.syncSeq = s.ptp.syncSeq + 1 ∧
      t.out = s.out ++ (if s.flag (if s.ptpPort = 0 then PTP_CFG.ONESTEP0 else PTP_CFG.ONESTEP1)
        then [.ptpSync (s.ptpHead true) s.ptp.syncSeq (some (e / ns)) (e % ns)]
        else [.ptpSync s.ptpHead s.ptp.syncSeq none 0, .ptpFollowUp s.ptpHead s.ptp.syncSeq (e / ns) (e % ns)]).map (Out.eth (Fin.ofNat 2 s.ptpPort))) := by
  subst he
  have hp := s.syncNumbered_port
  have hq : s.syncNumbered.ptp.syncSeq = s.ptp.syncSeq + 1 := congrArg (·.syncSeq) s.syncNumbered_ptp
  refine ⟨_, congrArg Host.Outcome.next (syncSendStep_eq raw hm), ?_⟩
  by_cases hone : s.flag (if s.ptpPort = 0 then PTP_CFG.ONESTEP0 else PTP_CFG.ONESTEP1) = true
  · rw [if_pos hone, if_pos hone]
    refine ⟨hq, (State.ptpOut_out hp).trans ?_⟩
    rw [State.syncNumbered_out]
    rfl
  · rw [if_neg hone, if_neg hone]
    refine ⟨hq, (State.ptpOut_out (s := s) (t := State.ptpOut _ _) hp).trans ?_⟩
    rw [State.ptpOut_out hp, State.syncNumbered_out, List.append_assoc]
    rfl

/-- What the next Delay_Req leaves: its number and its departure kept, and its skew counted. -/
def State.delayReqNumbered (s : State) (e : Ts) : State :=
  ({ s with ptp := { s.ptp with dreqSeq := s.ptp.dreqSeq + 1, delayReq := some (s.ptp.dreqSeq, e) } }).skewed (PTB_TSKEW.TX s.ptpPort)

theorem State.delayReqNumbered_ptp (s : State) (e : Ts) :
    (s.delayReqNumbered e).ptp = { s.ptp with dreqSeq := s.ptp.dreqSeq + 1, delayReq := some (s.ptp.dreqSeq, e) } := State.skewed_ptp ..

theorem State.delayReqNumbered_out (s : State) (e : Ts) : (s.delayReqNumbered e).out = s.out := State.skewed_out ..

/-- A slave sends Delay_Req and keeps its corrected departure. -/
theorem exec_delayReqSend {s : State} {raw e : Ts} (he : e = s.egress s.ptpPort raw)
    (hm : s.get PTP_STATUS.PSTATE = 8 ∨ s.get PTP_STATUS.PSTATE = 9) :
    Leads (.delayReqSend raw) s (fun t => t.ptp.delayReq = some (s.ptp.dreqSeq, e) ∧ t.ptp.dreqSeq = s.ptp.dreqSeq + 1 ∧
      t.out = s.out ++ [.eth (Fin.ofNat 2 s.ptpPort) (.ptpDelayReq s.ptpHead s.ptp.dreqSeq)]) := by
  subst he
  have hp := s.delayReqNumbered_ptp (s.egress s.ptpPort raw)
  refine ⟨_, congrArg Host.Outcome.next (State.whenDo_pos (by simpa using hm)), congrArg (·.delayReq) hp, congrArg (·.dreqSeq) hp, ?_⟩
  refine (State.ptpOut_out (s := s) ?_).trans (congrArg (· ++ _) (s.delayReqNumbered_out _))
  exact State.skewed_get _ _ (by decide)

theorem exec_announceSend {s : State} (hc : s.flag PTP_CFG.MASTER = true) (hm : s.get PTP_STATUS.PSTATE = 6) :
    Leads .announceSend s (fun t => t.ptp.annSeq = s.ptp.annSeq + 1 ∧
      t.out = s.out ++ [.eth (Fin.ofNat 2 s.ptpPort) (.ptpAnnounce s.ptpHead s.ptp.annSeq 248)]) :=
  ⟨_, congrArg Host.Outcome.next (State.whenDo_pos (by simp [hc, hm])), rfl, rfl⟩

/-- Settles O42, message by message and timeout by timeout; the PSTATE values 4, 6, 8 and 9 are log entry 31's, the servo and the rank of a
master log entry 113's. -/
theorem ptpCompletes : Obligations.PtpCompletes := by
  unfold Obligations.PtpCompletes
  refine ⟨fun x seqId two origin raw corr identity dataset c s hx hc => exec_ptp_other hx seqId two origin raw corr identity dataset hc, fun x s hx => ?rx, fun s => ?tx⟩
  case rx =>
    exact ⟨exec_ptpSyncRx hx, fun _ _ _ hy h1 => exec_ptpFollowUpRx hx hy h1,
      fun _ _ _ _ _ _ _ _ _ hy h1 hd ha hb ho => ptpDelayRespRx_servo hx hy h1 hd ha hb ho,
      fun identity dataset => ⟨exec_ptpAnnounceRx_worse hx identity, exec_ptpAnnounceRx_selects hx⟩, exec_ptpDelayReqRx hx⟩
  case tx =>
    exact ⟨exec_announceTimeout s, fun _ hy h1 => exec_followUpTimeout hy h1,
      fun _ _ he => ⟨exec_syncSend he, exec_delayReqSend he⟩, exec_announceSend⟩

end Sys2Proof.Machine
end

section
/-! The time base: oven, reference, synthesisers, PPS and stamped edges (O44: R527 to R538, R548). -/

namespace Sys2Proof.Machine

/-! ## Oven, reference and synthesisers (R527 to R534) -/

theorem exec_ovenWarm (s : State) :
    Leads .ovenWarm s (fun t => t.flag OCX_STATUS.WARM = true ∧ t.get OCX_STATUS.FAIL = s.get OCX_STATUS.FAIL) :=
  ⟨_, rfl, State.flag_put_same _ OCX_STATUS.WARM 1 (by decide), State.get_put_other _ _ _ _ (by decide)⟩

theorem exec_ovenCool (s : State) : Leads .ovenCool s (fun t => t.flag OCX_STATUS.WARM = false ∧ t.tb.tic.cold = true) :=
  ⟨_, rfl, State.flag_put_same _ OCX_STATUS.WARM 0 (by decide), rfl⟩

theorem exec_ovenFail (s : State) :
    Leads .ovenFail s (fun t => t.flag OCX_STATUS.FAIL = true ∧ HwFault.oven ∈ t.light.faults ∧ t.dev = s.dev) := by
  obtain ⟨t, ht, hf, ho⟩ := ovenFail_reported s
  obtain rfl : ovenFailStep s = t := Host.Outcome.next.inj ht
  exact ⟨_, ht, hf, ho, State.get_put_other _ _ _ _ (by decide)⟩

/-- What the loss of a selected reference leaves, whichever it is: the tuning it held. -/
theorem exec_refSourceLoss_holds {s : State} (h : s.get OCX_CTRL.SRC ≠ 0) :
    Leads .refSourceLoss s (fun t => t.flag OCX_STATUS.HOLD = true ∧ t.flag OCX_STATUS.DISC = false ∧
      (s.get OCX_CTRL.SRC = 1 → t.flag OCX_STATUS.REF_LOS = true) ∧ t.get OCX_EFC.EFC = s.get OCX_EFC.EFC) := by
  refine ⟨_, congrArg Host.Outcome.next (State.whenDo_pos (by simp [h])), ?_⟩
  have hh : (s.puts [(OCX_STATUS.HOLD, 1), (OCX_STATUS.DISC, 0)]).flag OCX_STATUS.HOLD = true := by
    rw [State.puts_cons, State.puts_cons, State.puts_nil, State.flag_put_other _ _ _ _ (by decide)]
    exact State.flag_put_same _ OCX_STATUS.HOLD 1 (by decide)
  have hd : (s.puts [(OCX_STATUS.HOLD, 1), (OCX_STATUS.DISC, 0)]).flag OCX_STATUS.DISC = false :=
    State.flag_put_same _ OCX_STATUS.DISC 0 (by decide)
  have he : (s.puts [(OCX_STATUS.HOLD, 1), (OCX_STATUS.DISC, 0)]).get OCX_EFC.EFC = s.get OCX_EFC.EFC :=
    State.get_puts_other _ _ _ (by decide)
  by_cases h1 : s.get OCX_CTRL.SRC = 1
  · rw [if_pos h1]
    exact ⟨(State.flag_put_other _ _ _ _ (by decide)).trans hh, (State.flag_put_other _ _ _ _ (by decide)).trans hd,
      fun _ => State.flag_put_same _ OCX_STATUS.REF_LOS 1 (by decide), (State.get_put_other _ _ _ _ (by decide)).trans he⟩
  · rw [if_neg h1]
    exact ⟨hh, hd, fun hc => absurd hc h1, he⟩

/-- What a steering shows before it tunes. -/
def State.steerShown (s : State) : State := s.puts [(OCX_STATUS.HOLD, 0), (OCX_STATUS.REF_LOS, 0), (OCX_STATUS.DISC, s.freeVal % 2)]

theorem State.steerShown_hold (s : State) : s.steerShown.flag OCX_STATUS.HOLD = false := by
  rw [State.steerShown, State.puts_cons, State.puts_cons, State.puts_cons, State.puts_nil,
    State.flag_put_other _ OCX_STATUS.DISC _ _ (by decide), State.flag_put_other _ _ _ _ (by decide)]
  exact State.flag_put_same _ OCX_STATUS.HOLD 0 (by decide)

theorem State.steerShown_los (s : State) : s.steerShown.flag OCX_STATUS.REF_LOS = false := by
  rw [State.steerShown, State.puts_cons, State.puts_cons, State.puts_cons, State.puts_nil,
    State.flag_put_other _ OCX_STATUS.DISC _ _ (by decide)]
  exact State.flag_put_same _ OCX_STATUS.REF_LOS 0 (by decide)

theorem centred_bounds (n : Nat) : -2000000 ≤ ((n % 4000001 : Nat) : Int) - 2000000 ∧ ((n % 4000001 : Nat) : Int) - 2000000 ≤ 2000000 := by
  omega

/-- The tuning is a free value about the middle of the range. -/
theorem State.steer_eq (s : State) : ∃ n : Nat, s.steer = (s.steerShown.puti OCX_EFC.EFC (((n % 4000001 : Nat) : Int) - 2000000)).drew 2 := by
  refine ⟨s.drew.freeVal, ?_⟩
  unfold State.steer State.steerShown
  with_reducible rfl

/-- Steering ends the holding and stays in the tuning range. -/
theorem State.steer_steers (s : State) :
    s.steer.flag OCX_STATUS.HOLD = false ∧ s.steer.flag OCX_STATUS.REF_LOS = false ∧
    -2000000 ≤ s.steer.geti OCX_EFC.EFC ∧ s.steer.geti OCX_EFC.EFC ≤ 2000000 := by
  obtain ⟨n, hs⟩ := s.steer_eq
  obtain ⟨hl, hu⟩ := centred_bounds n
  generalize ((n % 4000001 : Nat) : Int) - 2000000 = v at hs hl hu
  have hr : ∀ f, s.steer.get f = (s.steerShown.puti OCX_EFC.EFC v).get f := by
    rw [hs]
    exact State.get_regs (State.drew_regs ..)
  have he : s.steer.geti OCX_EFC.EFC = v := by
    refine (State.geti_congr (hr _)).trans (State.geti_puti_same _ (by decide) (by decide) ?_ ?_)
    · exact le_trans (by norm_num) hl
    · exact lt_of_le_of_lt hu (by norm_num)
  rw [he, State.flag_congr (hr _), State.flag_congr (hr _), State.puti, State.flag_put_other _ _ _ _ (by decide),
    State.flag_put_other _ _ _ _ (by decide)]
  exact ⟨s.steerShown_hold, s.steerShown_los, hl, hu⟩

theorem exec_synthUnlock {s : State} (h : s.flag OCX_STATUS.SYN_LOCK = true) :
    Leads .synthUnlock s (fun t => t.flag OCX_STATUS.SYN_LOCK = false ∧ t.flag OCX_STATUS.SYN_UNLK = true ∧ t.light.hold = true ∧
      t.dev = s.dev) := by
  refine ⟨_, congrArg Host.Outcome.next (State.whenDo_pos h), ?_, State.flag_put_same _ OCX_STATUS.SYN_UNLK 1 (by decide), rfl,
    State.get_puts_other _ _ _ (by decide)⟩
  rw [State.puts_cons, State.puts_cons, State.puts_nil, State.flag_put_other _ _ _ _ (by decide)]
  exact State.flag_put_same _ OCX_STATUS.SYN_LOCK 0 (by decide)

/-- A fault that is cleared is outstanding no longer. -/
theorem State.clearFault_cleared (s : State) (f : HwFault) : f ∉ (s.clearFault f).light.faults := by
  simp [State.clearFault]

/-- A hardware fault in RUN notes RUN as the state that SAFE was entered from. -/
theorem State.hwFault_safeFrom {s : State} (f : HwFault) (h : s.dev = 3) : (s.hwFault f).light.safeFrom = 3 := by
  have hd : ∀ l : Light, ({ s with light := l } : State).dev = 3 := fun _ => h
  unfold State.hwFault
  dsimp only
  rw [if_pos (by simp [h]), State.enterSafe]
  dsimp only
  rw [hd, if_neg (by decide), if_pos (by decide), State.monTrig_within.comp .light (by decide), State.enter_within.comp .light (by decide)]
  rfl

theorem exec_synthLockTimeout_faults {s : State} (h : s.flag OCX_STATUS.SYN_LOCK = false) :
    Leads .synthLockTimeout s (fun t => HwFault.synth ∈ t.light.faults ∧ t.tb.synLate = true ∧
      (s.dev = 3 → t.dev = 5 ∧ t.light.safeFrom = 3)) := by
  refine ⟨_, exec_synthLockTimeout h, ?_, ?_, fun hd => ⟨State.hwFault_dev _ ?_, State.hwFault_safeFrom _ hd⟩⟩
  · obtain ⟨_, _, l, hl, he⟩ := State.hwFault_light { s with tb := { s.tb with synLate := true } } .synth
    rw [he]
    exact hl
  · rw [State.hwFault_within.comp .tb (by decide)]
  · exact .inr (.inr ((State.emits_iff _).2 (.inl hd)))

/-! ## PPS_OUT (R537) -/

theorem wait_lands {n t : Nat} {d r : Int} (hr : ((n : Int) - d) % 65536000000000 = r)
    (ht : t = if r = 0 then n else ((n : Int) + 65536000000000 - r).toNat) :
    n ≤ t ∧ t < n + 65536000000000 ∧ ((t : Int) - d) % 65536000000000 = 0 := by
  split at ht <;> omega

/-- The next edge lies at or after now, less than a second ahead, DELAY after a whole second. -/
theorem State.nextPps_next (s : State) :
    s.now ≤ s.nextPps ∧ s.nextPps < s.now + 1000000000 * ns ∧
    ((s.nextPps : Int) - s.geti OCX_PPSOUT.DELAY * 16384) % (1000000000 * ns) = 0 := by
  have hs : (1000000000 * (ns : Nat) : Int) = 65536000000000 := by norm_num
  rw [hs]
  refine wait_lands rfl ?_
  unfold State.nextPps
  dsimp only
  rw [hs]

theorem exec_ppsOutEdge {s : State} (he : s.power.episode = none) (hp : s.flag OCX_CTRL.PPS_EN = true) (ho : s.power.pins.ppsOut = false) :
    Leads .ppsOutEdge s (fun t => t.power.pins.ppsOut = true ∧ t.out = s.out ++ [.pps t.now] ∧ s.now ≤ t.now ∧
      t.now < s.now + 1000000000 * ns ∧ ((t.now : Int) - s.geti OCX_PPSOUT.DELAY * 16384) % (1000000000 * ns) = 0) := by
  obtain ⟨h1, h2, h3⟩ := s.nextPps_next
  have hn : (s.at s.nextPps).now = s.nextPps := (State.at_now ..).trans (max_eq_right h1)
  have hout : (s.at s.nextPps).out = s.out := State.at_within.comp .out (by decide)
  refine ⟨_, congrArg Host.Outcome.next (State.whenDo_pos (by simp [he, hp, ho])), rfl, ?_, hn.symm ▸ h1, hn.symm ▸ h2, ?_⟩
  · exact (congrArg (· ++ [Out.pps s.nextPps]) hout).trans (congrArg (fun x => s.out ++ [Out.pps x]) hn.symm)
  · refine Eq.trans (congrArg (fun x : Ts => ((x : Int) - _) % _) ?_) h3
    exact hn

/-! ## Stamped edges (R538; log entry 112) -/

/-- An edge less than 20 ns after the last is only counted. -/
theorem State.stampEdge_close {s : State} {input : Nat} {t l : Ts} (h : s.tb.lastEdge.getD input none = some l) (h1 : l ≤ stamp t)
    (h2 : stamp t < l + 20 * ns) : s.stampEdge input t = (s.countSat OCX_STATUS.CLOSE_EDGES, none) := by
  unfold State.stampEdge
  rw [h]
  exact if_pos ⟨h2, h1⟩

/-- An edge's stamp kept as its input's last. -/
def State.edgeKept (s : State) (input : Nat) (t : Ts) : State :=
  { s with tb := { s.tb with lastEdge := setAt s.tb.lastEdge input (some (stamp t)) } }

theorem State.edgeKept_last {s : State} {input : Nat} (h : input < s.tb.lastEdge.length) (t : Ts) :
    (s.edgeKept input t).tb.lastEdge.getD input none = some (stamp t) := updAt_getD_same h _ _

/-- Any other edge is stamped. -/
theorem State.stampEdge_apart {s : State} {input : Nat} {t : Ts}
    (h : ∀ l, s.tb.lastEdge.getD input none = some l → stamp t < l ∨ l + 20 * ns ≤ stamp t) :
    s.stampEdge input t = (s.edgeKept input t, some (stamp t)) := by
  unfold State.stampEdge
  cases hl : s.tb.lastEdge.getD input none with
  | none => rfl
  | some l =>
    refine if_neg fun hc => ?_
    obtain hb | hb := h l hl
    · exact absurd hc.2 (Nat.not_le.2 hb)
    · exact absurd hc.1 (Nat.not_lt.2 hb)

/-- The PPS_IN window shows an instant. -/
theorem State.ppsWindow_shows (s : State) (t : Ts) :
    (s.ppsWindow t).get PPS_IN_NS.NS = nsOf t % 2 ^ 30 ∧ (s.ppsWindow t).get PPS_IN_SEC_HI.FRAC = fracOf t % 2 ^ 16 ∧
    (s.ppsWindow t).get PPS_IN_SEC_LO.SEC_LO = secOf t % 2 ^ 32 := by
  unfold State.ppsWindow
  simp only [State.puts_cons, State.puts_nil]
  refine ⟨?_, State.get_put_same _ PPS_IN_SEC_HI.FRAC _ (by decide), ?_⟩
  · rw [State.get_put_other _ _ _ _ (by decide), State.get_put_other _ _ _ _ (by decide), State.get_put_other _ _ _ _ (by decide)]
    exact State.get_put_same _ PPS_IN_NS.NS _ (by decide)
  · rw [State.get_put_other _ _ _ _ (by decide), State.get_put_other _ _ _ _ (by decide)]
    exact State.get_put_same _ PPS_IN_SEC_LO.SEC_LO _ (by decide)

theorem nsOf_lt (t : Ts) : nsOf t < 2 ^ 30 := lt_trans (Nat.mod_lt _ (by decide)) (by decide)

theorem fracOf_lt (t : Ts) : fracOf t < 2 ^ 16 := Nat.mod_lt _ (by decide)

section

variable {s : State} (he : s.power.episode = none)

include he

theorem exec_ppsInEdge_close {ts l : Ts} (h : s.tb.lastEdge.getD 4 none = some l) (h1 : l ≤ stamp ts) (h2 : stamp ts < l + 20 * ns) :
    exec (.ppsInEdge ts) s = .next ((s.at ts).countSat OCX_STATUS.CLOSE_EDGES) := by
  refine congrArg Host.Outcome.next ((State.whenDo_pos (by rw [he]; rfl)).trans ?_)
  rw [State.stampEdge_close (by rwa [State.at_tb]) h1 h2]

theorem exec_ppsInEdge_apart {ts : Ts} (hl : 4 < s.tb.lastEdge.length)
    (h : ∀ l, s.tb.lastEdge.getD 4 none = some l → stamp ts < l ∨ l + 20 * ns ≤ stamp ts) :
    Leads (.ppsInEdge ts) s (fun t =>
      t.tb.lastEdge.getD 4 none = some (stamp ts) ∧ t.get PPS_IN_NS.NS = nsOf (stamp ts) ∧ t.get PPS_IN_SEC_HI.FRAC = fracOf (stamp ts) ∧
      t.get PPS_IN_SEC_LO.SEC_LO = secOf (stamp ts) % 2 ^ 32) := by
  refine ⟨((s.at ts).edgeKept 4 ts).ppsWindow (stamp ts), congrArg Host.Outcome.next ((State.whenDo_pos (by rw [he]; rfl)).trans ?_), ?_⟩
  · rw [State.stampEdge_apart (by rwa [State.at_tb])]
  · obtain ⟨hn, hf, hs⟩ := State.ppsWindow_shows ((s.at ts).edgeKept 4 ts) (stamp ts)
    exact ⟨State.edgeKept_last (by rwa [State.at_tb]) ts, hn.trans (Nat.mod_eq_of_lt (nsOf_lt _)),
      hf.trans (Nat.mod_eq_of_lt (fracOf_lt _)), hs⟩

theorem exec_evtEdge_close {x : Fin 4} {rising : Bool} {ts l : Ts} (hs : s.edgeSelected x.val rising = true)
    (h : s.tb.lastEdge.getD x.val none = some l) (h1 : l ≤ stamp ts) (h2 : stamp ts < l + 20 * ns) :
    exec (.evtEdge x rising ts) s = .next ((s.at ts).countSat OCX_STATUS.CLOSE_EDGES) := by
  refine congrArg Host.Outcome.next ((State.whenDo_pos (by rw [he, hs]; rfl)).trans ?_)
  rw [State.stampEdge_close (by rwa [State.at_tb]) h1 h2]

theorem exec_evtEdge_apart {x : Fin 4} {rising : Bool} {ts : Ts} (hs : s.edgeSelected x.val rising = true)
    (h : ∀ l, s.tb.lastEdge.getD x.val none = some l → stamp ts < l ∨ l + 20 * ns ≤ stamp ts) :
    exec (.evtEdge x rising ts) s =
      .next (((((s.at ts).edgeKept x.val ts).fireUnits 5 (s.edgeUnit x.val rising) (stamp ts)).fieldEvt x.val).monTrig x.val) := by
  refine congrArg Host.Outcome.next ((State.whenDo_pos (by rw [he, hs]; rfl)).trans ?_)
  rw [State.stampEdge_apart (by rwa [State.at_tb])]

end

/-- Settles O44: one lemma per event; that both converters take an edge and that close edges are only counted is log entry 112's. -/
theorem timeBaseCompletes : Obligations.TimeBaseCompletes := by
  unfold Obligations.TimeBaseCompletes
  refine ⟨fun s => ⟨exec_ovenWarm s, exec_ovenCool s, exec_ovenFail s, exec_refSourceLoss_holds, ?resume, exec_synthUnlock, ?lock, ?fall⟩,
    fun s he => ⟨exec_ppsOutEdge he, ?pps, ?evt⟩⟩
  case resume => exact fun h hh => ⟨_, exec_refSourceResume h hh, s.steer_steers⟩
  case lock =>
    exact fun h => ⟨⟨_, exec_synthRelock h, State.flag_put_same _ OCX_STATUS.SYN_LOCK 1 (by decide), State.clearFault_cleared _ _⟩,
      exec_synthLockTimeout_faults h⟩
  case fall => exact ⟨_, rfl, rfl, rfl, rfl⟩
  case pps =>
    rintro ts last u rfl hl hn
    subst hl
    exact ⟨fun ⟨_, h, h1, h2⟩ => exec_ppsInEdge_close he h h1 h2, exec_ppsInEdge_apart he hn⟩
  case evt =>
    rintro x rising ts last u hs rfl hl
    subst hl
    exact ⟨fun ⟨_, h, h1, h2⟩ => exec_evtEdge_close he hs h h1 h2, fun h => ⟨_, rfl, exec_evtEdge_apart he hs h⟩⟩

end Sys2Proof.Machine
end

section
/-! SUPPORT. Fields in a list of fields that are set, found by their place in it. -/

namespace Sys2Proof.Machine

/-- A field that a list sets reads the value of its last place in it. -/
theorem State.get_puts_at (s : State) {l : List (Fld × Nat)} (i : Nat) {f : Fld} {n : Nat} (h : l[i]? = some (f, n))
    (hl : (l.drop (i + 1)).all (fun p => decide (p.1.apart f)) = true) (hw : f.lo + f.width ≤ 32) : (s.puts l).get f = n % 2 ^ f.width := by
  obtain ⟨hi, he⟩ := List.getElem?_eq_some_iff.1 h
  rw [← List.take_append_drop i l, State.puts_append, List.drop_eq_getElem_cons hi, he, State.puts_cons,
    State.get_puts_other _ _ _ (by simpa using hl)]
  exact State.get_put_same _ _ _ hw

/-- A field that no place of the list overlaps keeps its value. -/
theorem State.get_puts_apart (s : State) {l : List (Fld × Nat)} {f : Fld} (hl : l.all (fun p => decide (p.1.apart f)) = true) :
    (s.puts l).get f = s.get f := State.get_puts_other _ _ _ (by simpa using hl)

end Sys2Proof.Machine
end

section
/-! The time-interval counter: TIC_START, TIC_READ, the edges and the timeout (O45: R540 to R547). -/

namespace Sys2Proof.Machine

/-! ## TIC_START (R544) -/

theorem State.ticStart_get (s : State) (r : Nat) (seq : Option (BitVec 32)) {f : Fld}
    (h : ∀ g ∈ [TIC_CTRL.RUN, TIC_CTRL.COUNT, TICRES_W0.READY], g.apart f) : (s.ticStart r seq).get f = s.get f := by
  unfold State.ticStart
  rw [State.get_puts_other _ _ _ (by simp [h])]
  rfl

theorem State.ticStart_tic (s : State) (r : Nat) (seq : Option (BitVec 32)) :
    (s.ticStart r seq).tb.tic = { since := s.cyc, starter := some r, seq := seq, cold := s.tbCold } := by
  unfold State.ticStart
  rw [State.puts_tb]
  rfl

theorem exec_ticStart_begins {s : State} {q : ReqHdr} {x : Fin 6} {n : Nat} (h : s.admitsLong q) (hr : s.flag TIC_CTRL.RUN = false)
    (h2 : 2 ≤ n) (hn : n ≤ 16777216) :
    Leads (.ticStart q x.val n) s (fun t =>
      s.began t q 0x0903 x.val ∧ t.flag TIC_CTRL.RUN = true ∧ t.get TIC_CFG.START = x.val ∧ t.get TIC_N.N = n ∧ t.get TIC_CTRL.COUNT = 0 ∧
      t.flag TICRES_W0.READY = false ∧ t.tb.tic = { starter := some q.session.val, seq := some q.seq, cold := s.tbCold, since := s.cyc }) := by
  obtain ⟨u, hu, hb, hrun⟩ := ticStart_completes h hr h2 hn (x := x)
  refine ⟨u, hu, hb, hrun, ?_⟩
  obtain rfl := Host.Outcome.next.inj (hu.symm.trans (exec_ticStart h hr h2 hn))
  have ho := State.taken_accepted_qcpOnly s q 0x0903 x.val
  generalize (s.taken q 0x0903).accepted q 0x0903 x.val = v at ho
  obtain ⟨hcount, hready, -⟩ := State.ticStart_fresh ((v.put TIC_CFG.START x.val).put TIC_N.N n) q.session.val (some q.seq)
  have hcold : ((v.put TIC_CFG.START x.val).put TIC_N.N n).tbCold = s.tbCold := by
    unfold State.tbCold
    rw [State.flag_put_other _ _ _ _ (by decide), State.flag_put_other _ _ _ _ (by decide), State.flag_put_other _ _ _ _ (by decide),
      State.flag_put_other _ _ _ _ (by decide), State.qcpOnly_flag ho (by unfold qcpWord; decide), State.qcpOnly_flag ho (by unfold qcpWord; decide)]
  have hcyc : v.cyc = s.cyc := by rw [ho.1]
  refine ⟨?_, ?_, hcount, hready, ?_⟩
  · rw [State.ticStart_get _ _ _ (by decide), State.get_put_other _ _ _ _ (by decide), State.get_put_same _ _ _ (by decide)]
    exact Nat.mod_eq_of_lt (lt_trans x.isLt (by decide))
  · rw [State.ticStart_get _ _ _ (by decide), State.get_put_same _ _ _ (by decide)]
    exact Nat.mod_eq_of_lt (lt_of_le_of_lt hn (by decide))
  · rw [State.ticStart_tic, hcold, State.put_cyc, State.put_cyc, hcyc]

/-! ## The set of a measurement that ends (R546, R547) -/

/-- The list of what a result set shows, the four statistics left open. -/
def ticFields (c : Tic) (part : Bool) (mode : Nat) (st : Nat × Nat × Nat × Nat) : List (Fld × Nat) :=
  [(TICRES_W0.READY, 1), (TICRES_W0.COLD, c.cold.toNat), (TICRES_W0.PARTIAL, part.toNat),
    (TICRES_W0.MODE, mode), (TICRES_W1.USED, c.ints.length), (TICRES_W10.SHORT, min c.short (2 ^ 32 - 1)), (TIC_CTRL.RUN, 0),
    (TICRES_MEAN.MEAN 0, st.1 / 2 ^ 32), (TICRES_MEAN.MEAN 1, st.1), (TICRES_SD.SD 0, st.2.1 / 2 ^ 32), (TICRES_SD.SD 1, st.2.1),
    (TICRES_MIN.MIN 0, st.2.2.1 / 2 ^ 32), (TICRES_MIN.MIN 1, st.2.2.1), (TICRES_MAX.MAX 0, st.2.2.2 / 2 ^ 32), (TICRES_MAX.MAX 1, st.2.2.2)]

/-- A measurement's end publishes its set, clears the counter, and tells the session that started it. -/
theorem State.ticEnd_eq (s : State) (part : Bool) : ∃ st,
    (((s.count TICRES_W0.SEQ).puts (ticFields s.tb.tic part (s.get TIC_CFG.MODE) st)).modTic (fun _ => {})).qcpOnly (s.ticEnd part) := by
  unfold State.ticEnd
  dsimp only
  generalize (if s.tb.tic.ints.length < 2 then _ else _) = st
  refine ⟨st, ?_⟩
  split
  · exact State.complete_qcpOnly _ _ _ _ _
  · exact State.qcpOnly_refl _

theorem State.ticEnd_tic (s : State) (part : Bool) : (s.ticEnd part).tb.tic = {} := by
  obtain ⟨st, h⟩ := s.ticEnd_eq part
  rw [h.1]
  rfl

/-- The list shows that nothing runs any more, how the measurement ended and what it used. -/
theorem State.puts_ticFields (s : State) (c : Tic) (part : Bool) (mode : Nat) (st : Nat × Nat × Nat × Nat) :
    (s.puts (ticFields c part mode st)).get TIC_CTRL.RUN = 0 ∧ (s.puts (ticFields c part mode st)).get TICRES_W0.READY = 1 ∧
    (s.puts (ticFields c part mode st)).get TICRES_W0.PARTIAL = part.toNat % 2 ∧
    (s.puts (ticFields c part mode st)).get TICRES_W0.COLD = c.cold.toNat % 2 ∧
    (s.puts (ticFields c part mode st)).get TICRES_W1.USED = c.ints.length % 2 ^ 25 :=
  ⟨s.get_puts_at 6 (l := ticFields c part mode st) (f := TIC_CTRL.RUN) (n := 0) rfl rfl (by decide),
    s.get_puts_at 0 (l := ticFields c part mode st) (f := TICRES_W0.READY) (n := 1) rfl rfl (by decide),
    s.get_puts_at 2 (l := ticFields c part mode st) (f := TICRES_W0.PARTIAL) (n := part.toNat) rfl rfl (by decide),
    s.get_puts_at 1 (l := ticFields c part mode st) (f := TICRES_W0.COLD) (n := c.cold.toNat) rfl rfl (by decide),
    s.get_puts_at 4 (l := ticFields c part mode st) (f := TICRES_W1.USED) (n := c.ints.length) rfl rfl (by decide)⟩

theorem State.puts_ticFields_seq (s : State) (c : Tic) (part : Bool) (mode : Nat) (st : Nat × Nat × Nat × Nat) :
    (s.puts (ticFields c part mode st)).get TICRES_W0.SEQ = s.get TICRES_W0.SEQ := s.get_puts_apart rfl

/-- The set that a measurement's end publishes. -/
def State.ticSet (s : State) (part : Bool) (st : Nat × Nat × Nat × Nat) : State :=
  (s.count TICRES_W0.SEQ).puts (ticFields s.tb.tic part (s.get TIC_CFG.MODE) st)

theorem State.modTic_get (s : State) (g : Tic → Tic) (f : Fld) : (s.modTic g).get f = s.get f := rfl

theorem State.ticEnd_get (s : State) (part : Bool) : ∃ st, ∀ f : Fld, ¬ qcpWord f.addr → (s.ticEnd part).get f = (s.ticSet part st).get f := by
  obtain ⟨st, h⟩ := s.ticEnd_eq part
  exact ⟨st, fun f hf => (State.qcpOnly_get h hf).trans (State.modTic_get ..)⟩

theorem State.ticEnd_ends (s : State) (part : Bool) :
    (s.ticEnd part).flag TIC_CTRL.RUN = false ∧ (s.ticEnd part).flag TICRES_W0.READY = true ∧ (s.ticEnd part).flag TICRES_W0.PARTIAL = part ∧
    (s.ticEnd part).flag TICRES_W0.COLD = s.tb.tic.cold ∧ (s.ticEnd part).get TICRES_W1.USED = s.tb.tic.ints.length % 2 ^ 25 ∧
    (s.ticEnd part).get TICRES_W0.SEQ = (s.get TICRES_W0.SEQ + 1) % 256 := by
  obtain ⟨st, hg⟩ := s.ticEnd_get part
  obtain ⟨hrun, hready, hpart, hcold, hused⟩ := (s.count TICRES_W0.SEQ).puts_ticFields s.tb.tic part (s.get TIC_CFG.MODE) st
  have hseq := (s.count TICRES_W0.SEQ).puts_ticFields_seq s.tb.tic part (s.get TIC_CFG.MODE) st
  have hbit : ∀ b : Bool, (b.toNat % 2 != 0) = b := by decide
  unfold State.flag
  rw [hg _ (by unfold qcpWord; decide), hg _ (by unfold qcpWord; decide), hg _ (by unfold qcpWord; decide),
    hg _ (by unfold qcpWord; decide), hg _ (by unfold qcpWord; decide), hg _ (by unfold qcpWord; decide), State.ticSet,
    hrun, hready, hpart, hcold, hused, hseq, State.get_count_same _ (by decide), hbit, hbit]
  exact ⟨rfl, rfl, rfl, rfl, rfl, rfl⟩

/-! ## An interval that closes (R541, R546) -/

/-- What an interval of length d does to the measurement of s: short, it is counted alone; otherwise kept, and the N-th ends it. -/
def State.ticClosed (s : State) (d : Nat) (t : State) : Prop :=
  (d < 20 * 256 → t.tb.tic.ints = s.tb.tic.ints ∧ t.tb.tic.short = s.tb.tic.short + 1 ∧ t.flag TIC_CTRL.RUN = true) ∧
  (20 * 256 ≤ d → s.tb.tic.ints.length + 1 < s.get TIC_N.N → t.tb.tic.ints = d :: s.tb.tic.ints ∧
    t.get TIC_CTRL.COUNT = (s.get TIC_CTRL.COUNT + 1) % 2 ^ 25 ∧ t.flag TIC_CTRL.RUN = true) ∧
  (20 * 256 ≤ d → s.get TIC_N.N ≤ s.tb.tic.ints.length + 1 → t.flag TIC_CTRL.RUN = false ∧ t.flag TICRES_W0.READY = true ∧
    t.flag TICRES_W0.PARTIAL = false ∧ t.flag TICRES_W0.COLD = s.tb.tic.cold ∧
    t.get TICRES_W1.USED = (s.tb.tic.ints.length + 1) % 2 ^ 25 ∧ t.get TICRES_W0.SEQ = (s.get TICRES_W0.SEQ + 1) % 256)

/-- The counter has kept an interval. -/
def State.ticKept (s : State) (d : Nat) : State := (s.modTic (fun c => { c with ints := d :: c.ints })).count TIC_CTRL.COUNT

/-- An interval is short, kept, or the last. -/
theorem State.ticInterval_short {s : State} {d : Nat} (h : d < 20 * 256) :
    s.ticInterval d = s.modTic (fun c => { c with short := c.short + 1 }) := if_pos h

theorem State.ticInterval_kept {s : State} {d : Nat} (h : 20 * 256 ≤ d) (hn : s.tb.tic.ints.length + 1 < s.get TIC_N.N) :
    s.ticInterval d = s.ticKept d := (if_neg (Nat.not_lt.2 h)).trans (if_neg (Nat.not_le.2 hn))

theorem State.ticInterval_last {s : State} {d : Nat} (h : 20 * 256 ≤ d) (hn : s.get TIC_N.N ≤ s.tb.tic.ints.length + 1) :
    s.ticInterval d = (s.ticKept d).ticEnd false := (if_neg (Nat.not_lt.2 h)).trans (if_pos hn)

theorem State.ticInterval_closes (s : State) (d : Nat) (hr : s.flag TIC_CTRL.RUN = true) : s.ticClosed d (s.ticInterval d) := by
  refine ⟨fun h => ?_, fun h hn => ?_, fun h hn => ?_⟩
  · rw [State.ticInterval_short h]
    exact ⟨rfl, rfl, hr⟩
  · rw [State.ticInterval_kept h hn]
    exact ⟨rfl, State.get_count_same _ (by decide), (State.flag_congr (State.get_put_other _ _ _ _ (by decide))).trans hr⟩
  · rw [State.ticInterval_last h hn]
    obtain ⟨hrun, hready, hpart, hcold, hused, hseq⟩ := (s.ticKept d).ticEnd_ends false
    refine ⟨hrun, hready, hpart, hcold, hused, hseq.trans ?_⟩
    rw [State.ticKept, State.get_count_other _ (by decide)]
    rfl

/-- While the measurement runs on, its boundary edge stays; when it has ended it has none. -/
theorem State.ticInterval_boundary (s : State) (d : Nat) :
    (s.ticInterval d).tb.tic = {} ∧ (s.ticInterval d).flag TIC_CTRL.RUN = false ∨
    (s.ticInterval d).tb.tic.start = s.tb.tic.start ∧ (s.ticInterval d).tb.tic.edges = s.tb.tic.edges := by
  obtain h | h := Nat.lt_or_ge d (20 * 256)
  · rw [State.ticInterval_short h]
    exact .inr ⟨rfl, rfl⟩
  · obtain hn | hn := Nat.lt_or_ge (s.tb.tic.ints.length + 1) (s.get TIC_N.N)
    · rw [State.ticInterval_kept h hn]
      exact .inr ⟨rfl, rfl⟩
    · rw [State.ticInterval_last h hn]
      exact .inl ⟨State.ticEnd_tic .., (State.ticEnd_ends ..).1⟩

/-- The commit point and the boundary edge are no part of what an interval is told by. -/
theorem State.ticClosed_congr {s u t : State} {d : Nat} (hr : u.regs = s.regs) (hi : u.tb.tic.ints = s.tb.tic.ints)
    (hs : u.tb.tic.short = s.tb.tic.short) (hc : u.tb.tic.cold = s.tb.tic.cold) (h : u.ticClosed d t) : s.ticClosed d t := by
  unfold State.ticClosed at h ⊢
  rwa [hi, hs, hc, State.get_regs hr, State.get_regs hr, State.get_regs hr] at h

/-! ## The edges (R540, R541, R545; log entry 115) -/

theorem State.ticCommit_regs (s : State) : s.ticCommit.regs = s.regs := by
  unfold State.ticCommit
  dsimp only
  split <;> rfl

theorem State.ticCommit_tic (s : State) : s.ticCommit.tb.tic = { s.tb.tic with committed := true } := by
  unfold State.ticCommit
  dsimp only
  split <;> rfl

section

variable {x : Fin 6} {rising : Bool} {ts : Nat} {s : State} (hr : s.flag TIC_CTRL.RUN = true)

include hr

/-- In MODE 0 a start edge opens an interval. -/
theorem exec_ticEdge_opens (hm : s.get TIC_CFG.MODE = 0)
    (hs : (decide (x.val = s.get TIC_CFG.START) && rising != s.flag TIC_CFG.POL_START) = true) (hn : s.tb.tic.start = none) :
    Leads (.ticEdge x rising ts) s (fun t => t.tb.tic.start = some ts ∧ t.tb.tic.committed = true) := by
  simp only [Bool.and_eq_true, decide_eq_true_eq, bne_iff_ne] at hs
  refine ⟨_, exec_ticEdge_first hr ts hs.1 hs.2 hn hm, rfl, ?_⟩
  exact congrArg Tic.committed s.ticCommit_tic

/-- The next stop edge after it closes it. -/
theorem exec_ticEdge_closes {a : Nat} (hm : s.get TIC_CFG.MODE = 0)
    (hs : (decide (x.val = s.get TIC_CFG.START) && rising != s.flag TIC_CFG.POL_START) = false)
    (he : (decide (x.val = s.get TIC_CFG.STOP) && rising != s.flag TIC_CFG.POL_STOP) = true) (ha : s.tb.tic.start = some a) (hl : a < ts) :
    Leads (.ticEdge x rising ts) s (fun t => s.ticClosed (ts - a) t ∧ t.tb.tic.start = none) := by
  have hs' : (x.val == s.get TIC_CFG.START && rising == !s.flag TIC_CFG.POL_START) = false := by
    rw [← hs]
    cases rising <;> cases s.flag TIC_CFG.POL_START <;> rfl
  have he' : (x.val == s.get TIC_CFG.STOP && rising == !s.flag TIC_CFG.POL_STOP) = true := by
    rw [← he]
    cases rising <;> cases s.flag TIC_CFG.POL_STOP <;> rfl
  let u := s.ticCommit.modTic (fun c => { c with start := none })
  have hu : u.tb.tic = { s.tb.tic with committed := true, start := none } := congrArg (fun c : Tic => { c with start := none }) s.ticCommit_tic
  have hur : u.flag TIC_CTRL.RUN = true := (State.flag_congr (State.get_regs s.ticCommit_regs _)).trans hr
  refine ⟨u.ticInterval (ts - a), congrArg Host.Outcome.next ((State.whenDo_pos hr).trans ?_), ?_, ?_⟩
  · dsimp only
    rw [if_pos hm, ha, hs', he']
    simp only [hl, decide_true, Bool.and_self, if_true, Bool.false_and, Bool.false_eq_true, if_false]
    rfl
  · exact State.ticClosed_congr (u := u) s.ticCommit_regs (by rw [hu]) (by rw [hu]) (by rw [hu]) (u.ticInterval_closes _ hur)
  · obtain ⟨h, -⟩ | ⟨h, -⟩ := u.ticInterval_boundary (ts - a)
    · rw [h]
    · rw [h, hu]

/-- In the other modes the first counted edge is a boundary. -/
theorem exec_ticEdge_firstBoundary (hm : s.get TIC_CFG.MODE ≠ 0)
    (hs : (decide (x.val = s.get TIC_CFG.START) && rising != s.flag TIC_CFG.POL_START) = true) (hn : s.tb.tic.start = none) :
    exec (.ticEdge x rising ts) s = .next (s.ticCommit.modTic (fun c => { c with start := some ts, edges := 0 })) := by
  have hs' : (x.val == s.get TIC_CFG.START && rising == !s.flag TIC_CFG.POL_START) = true := by
    rw [← hs]
    cases rising <;> cases s.flag TIC_CFG.POL_START <;> rfl
  refine congrArg Host.Outcome.next ((State.whenDo_pos hr).trans ?_)
  dsimp only
  rw [if_neg hm, if_pos hs', hn]

/-- Of the later ones every K-th closes an interval and opens the next. -/
theorem exec_ticEdge_laterBoundary {a : Nat} (hm : s.get TIC_CFG.MODE ≠ 0)
    (hs : (decide (x.val = s.get TIC_CFG.START) && rising != s.flag TIC_CFG.POL_START) = true) (ha : s.tb.tic.start = some a) :
    exec (.ticEdge x rising ts) s = .next
      (if s.tb.tic.edges + 1 = s.get TIC_K.K then (s.modTic (fun c => { c with start := some ts, edges := 0 })).ticInterval (ts - a)
        else s.modTic (fun c => { c with edges := c.edges + 1 })) := by
  have hs' : (x.val == s.get TIC_CFG.START && rising == !s.flag TIC_CFG.POL_START) = true := by
    rw [← hs]
    cases rising <;> cases s.flag TIC_CFG.POL_START <;> rfl
  refine congrArg Host.Outcome.next ((State.whenDo_pos hr).trans ?_)
  dsimp only
  rw [if_neg hm, if_pos hs', ha]

theorem exec_ticEdge_boundaries (hm : s.get TIC_CFG.MODE ≠ 0)
    (hs : (decide (x.val = s.get TIC_CFG.START) && rising != s.flag TIC_CFG.POL_START) = true) :
    (s.tb.tic.start = none → Leads (.ticEdge x rising ts) s (fun t => t.tb.tic.start = some ts ∧ t.tb.tic.edges = 0 ∧
      t.tb.tic.committed = true)) ∧
    (∀ a, s.tb.tic.start = some a →
      (s.tb.tic.edges + 1 ≠ s.get TIC_K.K → Leads (.ticEdge x rising ts) s (fun t => t.tb.tic.edges = s.tb.tic.edges + 1 ∧
        t.tb.tic.start = some a ∧ t.regs = s.regs)) ∧
      (s.tb.tic.edges + 1 = s.get TIC_K.K → Leads (.ticEdge x rising ts) s (fun t => s.ticClosed (ts - a) t ∧
        (t.flag TIC_CTRL.RUN = true → t.tb.tic.start = some ts ∧ t.tb.tic.edges = 0)))) := by
  refine ⟨fun hn => ⟨_, exec_ticEdge_firstBoundary hr hm hs hn, rfl, rfl, congrArg Tic.committed s.ticCommit_tic⟩,
    fun a ha => ⟨fun hk => ?_, fun hk => ?_⟩⟩
  · exact ⟨_, (exec_ticEdge_laterBoundary hr hm hs ha).trans (congrArg _ (if_neg hk)), rfl, ha, rfl⟩
  · let u := s.modTic (fun c => { c with start := some ts, edges := 0 })
    have hur : u.flag TIC_CTRL.RUN = true := (State.flag_congr (s.modTic_get _ _)).trans hr
    refine ⟨_, (exec_ticEdge_laterBoundary hr hm hs ha).trans (congrArg _ (if_pos hk)),
      State.ticClosed_congr (u := u) rfl rfl rfl rfl (u.ticInterval_closes _ hur), fun hrun => ?_⟩
    obtain ⟨-, hend⟩ | h := u.ticInterval_boundary (ts - a)
    · rw [hrun] at hend
      exact absurd hend (by decide)
    · exact h

/-- A timeout publishes what there is, PARTIAL. -/
theorem ticTimeout_ends (ht : s.get TIC_CFG.TIMEOUT ≠ 0) :
    Leads .ticTimeout s (fun t => t.flag TIC_CTRL.RUN = false ∧
      t.flag TICRES_W0.READY = true ∧ t.flag TICRES_W0.PARTIAL = true ∧ t.get TICRES_W1.USED = s.tb.tic.ints.length % 2 ^ 25) := by
  have hc : (s.atCyc (s.tb.tic.since + s.get TIC_CFG.TIMEOUT * sCyc)).tb = s.tb := State.atCyc_within.comp .tb (by decide)
  obtain ⟨hrun, hready, hpart, -, hused, -⟩ := (s.atCyc (s.tb.tic.since + s.get TIC_CFG.TIMEOUT * sCyc)).ticEnd_ends true
  exact ⟨_, exec_ticTimeout hr ht, hrun, hready, hpart, by rw [hused, hc]⟩

end

/-- Settles O45: the requests, the edges of each mode and the timeout; that the first counted edge is taken as a boundary is log entry 115's. -/
theorem intervalCounterCompletes : Obligations.IntervalCounterCompletes := by
  unfold Obligations.IntervalCounterCompletes
  refine ⟨fun q s => ⟨fun x n h hr h2 hn => exec_ticStart_begins h hr h2 hn, fun h hr => ?read⟩, ?edges, fun s hr ht => ticTimeout_ends hr ht⟩
  case read => exact ⟨_, exec_ticRead_ready h hr, State.taken_reply_only h _ _ _⟩
  case edges =>
    rintro x rising _ _ ts s _ hr rfl rfl rfl
    exact ⟨fun hm => ⟨exec_ticEdge_opens hr hm, fun a => exec_ticEdge_closes hr hm⟩, fun hm hs => exec_ticEdge_boundaries hr hm hs⟩

end Sys2Proof.Machine
end

section
/-! The test access port and PERMIT (O51: R765 to R768). -/

namespace Sys2Proof.Machine

/-! ## A reset that is asserted (R726, R728) -/

theorem State.foldl_cause_power (l : List RstSource) (s : State) : (l.foldl (fun (u : State) x => u.cause x.bit) s).power = s.power := by
  induction l generalizing s with
  | nil => rfl
  | cons x l ih => exact ih _

/-- The last that a reset does in its registers is no part of the episode. -/
theorem State.causeClosed_power (s : State) (c : Prop) [Decidable c] : (if c then s else s.cause 8).closeClamp.power = s.power := by
  rw [State.closeClamp_within.comp .power (by decide)]
  split <;> rfl

/-- The episode that a reset begins, or takes part in. -/
def State.episodeOf (s : State) (src : List RstSource) (reach : Nat) : Episode :=
  match s.power.episode with
  | some e => { e with reach := max e.reach reach, sources := e.sources ++ src, hot := e.hot || src.contains .thermal }
  | none => { reach := reach, since := s.cyc, sources := src, hot := src.contains .thermal, flashHold := s.get RDG_FLASH.FLASH_HOLD }

theorem State.episodeOf_reach (s : State) (src : List RstSource) (reach : Nat) : reach ≤ (s.episodeOf src reach).reach := by
  unfold State.episodeOf
  split
  · exact le_max_right _ _
  · exact le_rfl

theorem State.assertReset_episode (s : State) (src : List RstSource) (reach : Nat) :
    (s.assertReset src reach).power.episode = some ((s.cutTest (reach != 4)).episodeOf src reach) := by
  unfold State.assertReset
  dsimp only
  rw [State.causeClosed_power, State.foldl_cause_power]
  rfl

/-! ## Scan (R767, R768; log entry 37) -/

/-- The sequence that enables scan: the keys are erased under a reset of COLD reach, which leaves the laser dark. -/
theorem State.scanClear_clears (s : State) :
    s.scanClear.flag KEY_STATUS.SCAN = true ∧ s.scanClear.keys.k = ({} : Keys).k ∧ s.scanClear.isDark ∧
    ∃ e, s.scanClear.power.episode = some e ∧ 3 ≤ e.reach := by
  unfold State.scanClear
  generalize hu : s.assertReset [] 3 = u
  have hd : u.isDark := hu ▸ State.closeClamp_clamp _
  have he : ∃ e, u.power.episode = some e ∧ 3 ≤ e.reach := hu ▸ ⟨_, State.assertReset_episode .., State.episodeOf_reach ..⟩
  refine ⟨?_, ?_, ?_, ?_⟩
  · exact State.flag_put_same _ KEY_STATUS.SCAN 1 (by decide)
  · rw [State.puts_keys, State.countSat_keys, State.updKeys_within.comp .keys (by decide)]
  · refine Eq.trans (State.flag_congr ?_) hd
    rw [State.get_puts_other _ _ _ (by decide), State.countSat, State.get_put_other _ _ _ _ (by decide), State.updKeys_within.get (by decide)]
    rfl
  · rwa [State.puts_power, State.countSat_power, State.updKeys_within.comp .power (by decide)]

/-- Scan is enabled once PERMIT stands and the response was right; else the check changes nothing. -/
theorem State.scanCheck_clears {s : State} (hp : s.flag KEY_JTAG.PERMIT = true) (hm : s.tap.matched = true) (hs : s.flag KEY_STATUS.SCAN = false) :
    s.scanCheck = s.scanClear := if_pos (by simp [hp, hm, State.scanOn, hs])

theorem State.scanCheck_idle {s : State} (h : s.flag KEY_JTAG.PERMIT = false ∨ s.tap.matched = false ∨ s.flag KEY_STATUS.SCAN = true) :
    s.scanCheck = s := by
  refine if_neg ?_
  obtain h | h | h := h <;> simp [State.scanOn, h]

/-! ## RESPONSE (R767) -/

/-- What a response leaves in the port before it is counted or scan is checked. -/
def State.responded (s : State) (value : BitVec 128) : State :=
  (s.tapSelect .response false).modTap (fun t => { t with
    response := value, matched := value == s.scanResponse && (t.fresh || t.matched), fresh := false })

theorem exec_response_wrong {value : BitVec 128} {s : State} (h : value ≠ s.scanResponse) :
    Leads (.response value) s (fun t => t.tap.ir = .response ∧ t.tap.matched = false ∧ t.tap.fresh = false ∧
      t.get KEY_STATUS.BADRESP = min (s.get KEY_STATUS.BADRESP + 1) 255 ∧ t.flag KEY_STATUS.SCAN = s.flag KEY_STATUS.SCAN) := by
  have hw : (value == s.scanResponse) = false := by simpa using h
  have hm : ((s.responded value).countSat KEY_STATUS.BADRESP).tap.matched = false := congrArg (· && _) hw
  have he : responseStep value s = (s.responded value).countSat KEY_STATUS.BADRESP := by
    refine Eq.trans ?_ (State.scanCheck_unmatched hm)
    exact congrArg State.scanCheck (if_neg (by simp [hw]))
  exact ⟨_, congrArg Host.Outcome.next he, rfl, hm, rfl, State.get_countSat_same (s.responded value) (f := KEY_STATUS.BADRESP) (by decide),
    State.flag_put_other _ _ _ _ (by decide)⟩

theorem responseStep_right {value : BitVec 128} {s : State} (h : value = s.scanResponse) :
    responseStep value s = (s.responded value).scanCheck := congrArg State.scanCheck (if_pos (by simp [h]))

theorem exec_response_first {value : BitVec 128} {s : State} (h : value = s.scanResponse) (hf : s.tap.fresh = true) :
    (s.flag KEY_JTAG.PERMIT = false ∨ s.flag KEY_STATUS.SCAN = true → Leads (.response value) s (fun t => t.tap.matched = true ∧
      t.tap.fresh = false ∧ t.regs = s.regs)) ∧
    (s.flag KEY_JTAG.PERMIT = true → s.flag KEY_STATUS.SCAN = false → Leads (.response value) s (fun t => t.flag KEY_STATUS.SCAN = true ∧
      t.keys.k = ({} : Keys).k ∧ t.isDark ∧ ∃ e, t.power.episode = some e ∧ 3 ≤ e.reach)) := by
  have hm : (s.responded value).tap.matched = true := by
    simp [State.responded, State.modTap, State.tapSelect, h, hf]
  refine ⟨fun hc => ⟨s.responded value, congrArg Host.Outcome.next ((responseStep_right h).trans (State.scanCheck_idle ?_)), hm, rfl, rfl⟩,
    fun hp hs => ⟨_, congrArg Host.Outcome.next ((responseStep_right h).trans (State.scanCheck_clears hp hm hs)), State.scanClear_clears _⟩⟩
  exact hc.imp_right .inr

/-- A right answer to a nonce that was answered before counts for nothing. -/
theorem exec_response_late {value : BitVec 128} {s : State} (h : value = s.scanResponse) (hf : s.tap.fresh = false) (hm : s.tap.matched = false) :
    Leads (.response value) s (fun t => t.tap.matched = false ∧ t.regs = s.regs) := by
  have hn : (s.responded value).tap.matched = false := by
    simp [State.responded, State.modTap, State.tapSelect, hf, hm]
  exact ⟨s.responded value, congrArg Host.Outcome.next ((responseStep_right h).trans (State.scanCheck_unmatched hn)), hn, rfl⟩

/-! ## The other instructions, and PERMIT (R765, R767) -/

theorem exec_scanInstr_selects {c : Instr} {i : TapInstr}
    (h : (c, i) ∈ [(Instr.extest, TapInstr.extest), (.clamp, .clamp), (.highz, .highz), (.intscan, .intscan)]) (s : State) :
    Leads c s (fun t => t.tap.ir = (if s.flag KEY_STATUS.SCAN then i else .bypass) ∧ t.regs = s.regs ∧ t.out = s.out) := by
  cases hs : s.flag KEY_STATUS.SCAN with
  | true => exact ⟨_, (exec_scanInstr h s).trans (congrArg _ (State.tapSelect_scanOn hs i)), rfl, rfl, rfl⟩
  | false => exact ⟨_, (exec_scanInstr h s).trans (congrArg _ (State.tapSelect_scanOff hs i)), rfl, rfl, rfl⟩

theorem State.atCyc_cyc (s : State) (c : Nat) : (s.atCyc c).cyc = max s.cyc c := by
  have hn : 0 < 2 * ns := by decide
  unfold State.atCyc State.at
  split
  case isTrue h =>
    have hk := Nat.le_zero.1 (Nat.le_of_add_le_add_left (h.trans (Nat.add_zero _).ge))
    have := (Nat.mul_eq_zero.1 hk).resolve_right hn.ne'
    exact (max_eq_left (Nat.sub_eq_zero_iff_le.1 this)).symm
  case isFalse h =>
    dsimp only
    rw [Nat.add_sub_cancel_left, Nat.mul_div_cancel _ hn]
    omega

theorem State.modTap_cyc (s : State) (f : Tap → Tap) : (s.modTap f).cyc = s.cyc := rfl

/-- PERMIT lasts 60 s. -/
theorem exec_permitExpire_ends {s : State} {p : Nat × Nat} (h : s.tap.permit = some p) :
    Leads .permitExpire s (fun t => t.tap.permit = none ∧ t.flag KEY_JTAG.PERMIT = false ∧ p.2 + 60 * sCyc ≤ t.cyc) := by
  have he : s.permitEnd = p.2 + 60 * sCyc := by rw [State.permitEnd, h, Option.elim_some]
  refine ⟨_, exec_permitExpire (by rw [h]; rfl), rfl, State.flag_put_same _ KEY_JTAG.PERMIT 0 (by decide), ?_⟩
  rw [← he, State.put_cyc, State.modTap_cyc, State.atCyc_cyc]
  exact le_max_right _ _

section

variable {path : Path} {s : State} (he : s.power.episode = none) (ho : s.pathOwns path = true) (ha : (s.sess s.owner).auth = true)

include he ho ha

theorem exec_permit_waits (h : s.tap.matched = false ∨ s.flag KEY_STATUS.SCAN = true) :
    Leads (.permit path) s (fun t => t.flag KEY_JTAG.PERMIT = true ∧ t.tap.permit = some (s.owner, s.cyc) ∧
      t.get KEY_STATUS.SCANS = s.get KEY_STATUS.SCANS) := by
  refine ⟨_, (exec_permit he ho ha).trans (congrArg _ (State.scanCheck_idle (.inr (h.imp_right fun hs => ?_)))),
    State.flag_put_same _ KEY_JTAG.PERMIT 1 (by decide), rfl, State.get_put_other _ _ _ _ (by decide)⟩
  exact (State.flag_put_other _ _ _ _ (by decide)).trans hs

theorem exec_permit_enables (hm : s.tap.matched = true) (hs : s.flag KEY_STATUS.SCAN = false) :
    Leads (.permit path) s (fun t => t.flag KEY_STATUS.SCAN = true ∧ t.keys.k = ({} : Keys).k ∧ t.isDark) := by
  have hc := State.scanCheck_clears (s := ({ s with tap := { s.tap with permit := some (s.owner, s.cyc) } } : State).put KEY_JTAG.PERMIT 1)
    (State.flag_put_same _ KEY_JTAG.PERMIT 1 (by decide)) hm ((State.flag_put_other _ _ _ _ (by decide)).trans hs)
  obtain ⟨hscan, hkeys, hdark, -⟩ := State.scanClear_clears (({ s with tap := { s.tap with permit := some (s.owner, s.cyc) } } : State).put KEY_JTAG.PERMIT 1)
  exact ⟨_, (exec_permit he ho ha).trans (congrArg _ hc), hscan, hkeys, hdark⟩

end

/-- Settles O51: each instruction and PERMIT by a lemma of its own; that a right RESPONSE is needed before PERMIT opens is log entry 37's. -/
theorem testAccessCompletes : Obligations.TestAccessCompletes := by
  unfold Obligations.TestAccessCompletes
  refine ⟨fun s => ⟨?reset, ⟨_, rfl, rfl⟩, ⟨_, rfl, rfl⟩, ⟨_, rfl, rfl, rfl, rfl⟩, ⟨_, rfl, rfl, rfl, rfl⟩, ?scan, ?response, ?expire⟩,
    fun path s he ho ha => ⟨exec_permit_waits he ho ha, exec_permit_enables he ho ha⟩⟩
  case reset => exact ⟨_, rfl, rfl, rfl, rfl, rfl, rfl, rfl⟩
  case scan => exact fun c i h => exec_scanInstr_selects h s
  case response => exact fun value => ⟨exec_response_wrong, fun h hf => exec_response_first h hf, fun h hf hm => exec_response_late h hf hm⟩
  case expire => exact fun p h => exec_permitExpire_ends h

end Sys2Proof.Machine
end

section
/-! Perturbations are set, cleared and expire (O49: R773 to R777, R830). -/

namespace Sys2Proof.Machine

/-! ## The session that set them last, and when, through what is sent (R775) -/

def Perturb.setter (p : Perturb) : Option Nat × Nat := (p.by_, p.since)

theorem State.emitDrop_setter (s : State) (o : Out) : (s.emitDrop o).ptb.setter = s.ptb.setter := by
  unfold State.emitDrop
  repeat' split
  all_goals rfl

theorem State.emit_setter (s : State) (o : Out) : (s.emit o).ptb.setter = s.ptb.setter := by
  unfold State.emit
  dsimp only
  repeat' split
  all_goals exact s.emitDrop_setter o

theorem State.sendReply_setter (s : State) (via : Via) (p : Packet) : (s.sendReply via p).ptb.setter = s.ptb.setter := by
  unfold State.sendReply
  split
  · exact State.emit_setter ..
  · rw [State.msiSince_ptb, State.emit_setter, State.puts_ptb, State.wrWords_ptb]

theorem State.sendEvent_setter (s : State) (via : Via) (p : Packet) : (s.sendEvent via p).ptb.setter = s.ptb.setter := by
  unfold State.sendEvent
  split
  · exact State.emit_setter ..
  · rw [State.msiSince_ptb, State.emit_setter, State.puts_ptb, State.wrWords_ptb]

theorem State.reply_setter (s : State) (q : ReqHdr) (op st : Nat) (l : List Item) : (s.reply q op st l).ptb.setter = s.ptb.setter :=
  State.sendReply_setter ..

theorem State.logEvent_setter (s : State) (r : Nat) (via : Via) (l : List Item) (op : Nat) : (s.logEvent r via l op).ptb.setter = s.ptb.setter := by
  unfold State.logEvent
  dsimp only
  split
  · exact State.sendEvent_setter ..
  · rfl

theorem State.trimLog_setter (s : State) (r : Nat) : (s.trimLog r).ptb.setter = s.ptb.setter := by
  unfold State.trimLog
  dsimp only
  split
  · rfl
  · split
    · rfl
    · exact State.logEvent_setter ..

theorem State.event_setter (s : State) (r code subject : Nat) (l : List Item) : (s.event r code subject l).ptb.setter = s.ptb.setter :=
  (State.trimLog_setter ..).trans (State.logEvent_setter ..)

theorem State.eventAll_setter (s : State) (code subject : Nat) (l : List Item) : (s.eventAll code subject l).ptb.setter = s.ptb.setter := by
  unfold State.eventAll
  induction List.range 8 generalizing s with
  | nil => rfl
  | cons r rs ih =>
    refine (ih _).trans ?_
    dsimp only
    split
    · exact State.event_setter ..
    · rfl

/-! ## The words of the block (R775, R777) -/

/-- None of the words with fields to reset is STATUS, a count or a word of QCP. -/
theorem ptbWords_apart {o : Nat} (h : o ∈ ptbWords) :
    o ≠ PTB_STATUS.ACTIVE.addr ∧ o ≠ (PTB_CNT.COUNT 1).addr ∧ o ≠ (PTB_CNT.COUNT 4).addr ∧ ¬ qcpWord o := by
  unfold qcpWord
  revert o
  decide

theorem State.rd_resetWords (s : State) (l : List Nat) (a : Nat) : (s.resetWords l).rd a = if a ∈ l then resetWord a else s.rd a := by
  unfold State.resetWords
  induction l generalizing s with
  | nil => rfl
  | cons o l ih =>
    rw [List.foldl_cons, ih]
    by_cases hl : a ∈ l
    · rw [if_pos hl, if_pos (List.mem_cons_of_mem _ hl)]
    · rw [if_neg hl]
      by_cases ha : a = o
      · subst ha
        rw [if_pos List.mem_cons_self, State.rd_wr_same]
      · rw [if_neg (by simp [ha, hl]), State.rd_wr_other _ _ ha]

theorem State.foldActs_rd (s : State) {o : Nat} (h : o ∈ ptbWords) : s.foldActs.rd o = s.rd o := by
  obtain ⟨-, h1, h4, -⟩ := ptbWords_apart h
  exact (State.rd_put_other _ _ h4).trans (State.rd_put_other _ _ h1)

/-- Some word is away from its reset value. -/
def State.ptbAway (s : State) : Bool := ptbWords.any (fun o => s.rd o != resetWord o)

theorem State.ptbAway_congr {s t : State} (h : ∀ o ∈ ptbWords, t.rd o = s.rd o) : t.ptbAway = s.ptbAway := by
  unfold State.ptbAway
  rw [Bool.eq_iff_iff, List.any_eq_true, List.any_eq_true]
  exact exists_congr fun o => and_congr_right fun ho => by rw [h o ho]

theorem State.ptbAway_reset {s : State} (h : ∀ o ∈ ptbWords, s.rd o = resetWord o) : s.ptbAway = false := by
  unfold State.ptbAway
  simpa using h

/-- The state with KINDS as the fields say. -/
def State.kindsShown (s : State) : State := s.put PTB_STATUS.KINDS s.ptbKinds

/-- ACTIVE stays, or follows and is told. -/
theorem State.updPtb_cases (s : State) :
    s.flag PTB_STATUS.ACTIVE = s.ptbAway ∧ s.updPtb = s.kindsShown ∨
    s.updPtb = (s.kindsShown.putFlag PTB_STATUS.ACTIVE s.ptbAway).eventAll 0x0A01 0 := by
  by_cases h : s.flag PTB_STATUS.ACTIVE = s.ptbAway
  · exact .inl ⟨h, if_pos h⟩
  · exact .inr (if_neg h)

theorem State.updPtb_rd (s : State) {o : Nat} (h : o ∈ ptbWords) : s.updPtb.rd o = s.rd o := by
  obtain ⟨hs, -, -, hq⟩ := ptbWords_apart h
  have hk : s.kindsShown.rd o = s.rd o := State.rd_put_other _ _ hs
  obtain ⟨-, he⟩ | he := s.updPtb_cases <;> rw [he]
  · exact hk
  · rw [State.eventAll_rd _ _ _ _ hq]
    exact (State.rd_put_other _ _ hs).trans hk

theorem State.updPtb_active (s : State) : s.updPtb.flag PTB_STATUS.ACTIVE = s.ptbAway := by
  obtain ⟨ha, he⟩ | he := s.updPtb_cases <;> rw [he]
  · exact (State.flag_put_other _ _ _ _ (by decide)).trans ha
  · rw [State.eventAll_flag _ _ _ _ (by unfold qcpWord; decide)]
    exact State.flag_putFlag_same _ _ _ (by decide) rfl

theorem State.updPtb_setter (s : State) : s.updPtb.ptb.setter = s.ptb.setter := by
  obtain ⟨-, he⟩ | he := s.updPtb_cases <;> rw [he]
  · rfl
  · exact State.eventAll_setter ..

theorem State.updPtb_shows {s : State} (h : ∀ o ∈ ptbWords, s.rd o = resetWord o) (hp : s.ptb = {}) :
    (∀ o ∈ ptbWords, s.updPtb.rd o = resetWord o) ∧ s.updPtb.ptb.by_ = none ∧ s.updPtb.flag PTB_STATUS.ACTIVE = false :=
  ⟨fun o ho => (s.updPtb_rd ho).trans (h o ho), congrArg Prod.fst (s.updPtb_setter.trans (congrArg Perturb.setter hp)),
    s.updPtb_active.trans (State.ptbAway_reset h)⟩

theorem State.rd_withPtb (s : State) (p : Perturb) (o : Nat) : ({ s with ptb := p } : State).rd o = s.rd o := rfl

/-- A return to the reset values: of every word, and of who set them. -/
theorem State.ptbReset_resets (s : State) :
    (∀ o ∈ ptbWords, s.ptbReset.rd o = resetWord o) ∧ s.ptbReset.ptb.by_ = none ∧ s.ptbReset.flag PTB_STATUS.ACTIVE = false := by
  unfold State.ptbReset
  refine State.updPtb_shows (fun o ho => ?_) rfl
  rw [State.rd_withPtb, State.rd_resetWords, if_pos ho]

/-! ## PTB_SET (R773, R774, R830) -/

/-- A word set by PTB_SET, before CLEAR in it acts. -/
def State.ptbWritten (s : State) (off : Nat) (w : Word) : State :=
  let t := s.foldActs.wr off ((s.rd off &&& ~~~(ptbMask off)) ||| (w &&& ptbMask off))
  { t with ptb := { t.ptb with bpSince := s.cyc, stallSince := s.cyc } }

theorem State.ptbWritten_rd (s : State) (off : Nat) (w : Word) {o : Nat} (h : o ∈ ptbWords) :
    (s.ptbWritten off w).rd o = if o = off then (s.rd o &&& ~~~(ptbMask o)) ||| (w &&& ptbMask o) else s.rd o := by
  unfold State.ptbWritten
  dsimp only
  rw [State.rd_withPtb]
  by_cases ho : o = off
  · subst ho
    rw [if_pos rfl, State.rd_wr_same]
  · rw [if_neg ho, State.rd_wr_other _ _ ho, s.foldActs_rd h]

theorem State.ptbWord_valid {s : State} {off : Nat} {w : Word} (path : Path) (h : off ∈ ptbWords) (hv : ptbValid off w = true) :
    s.ptbWord path off w =
      (if off = 0x180000 ∧ w.getLsbD 31 = true then (s.ptbWritten off w).ptbReset else s.ptbWritten off w, false) := by
  unfold State.ptbWord
  rw [if_neg (ptbWords_apart h).1, if_pos (by simp [hv, h])]
  simp only [Bool.and_eq_true, decide_eq_true_eq]
  rfl

theorem State.taken_ptbRight (s : State) (q : ReqHdr) (op r : Nat) : (s.taken q op).ptbRight r = s.ptbRight r := by
  unfold State.ptbRight
  rw [State.taken_owner]
  exact congrArg _ (s.sess_modSess_keeps (g := Session.auth) _ _ fun _ => rfl)

theorem exec_ptbSet_refused {q : ReqHdr} {s : State} (h : s.admits q) (hr : s.ptbRight q.session.val = false) (addr : BitVec 24) (l : List Word) :
    Leads (.ptbSet q addr l) s (fun t => s.qcpOnly t ∧ s.replied t q 0x0A03 stNotOwner []) := by
  refine ⟨(s.taken q 0x0A03).reply q 0x0A03 stNotOwner, ?_, State.taken_reply_only h 0x0A03 stNotOwner []⟩
  show Host.Outcome.next (s.request q 0x0A03 (ptbSetBody q addr.toNat l) _) = _
  rw [State.request_admits h]
  exact congrArg _ (if_pos (by rw [State.taken_ptbRight, hr]; rfl))

/-- The state in which an accepted PTB_SET of a session sets its words. -/
def State.ptbTaken (s : State) (q : ReqHdr) : State :=
  { s.taken q 0x0A03 with ptb := { (s.taken q 0x0A03).ptb with by_ := some q.session.val, since := (s.taken q 0x0A03).cyc } }

theorem exec_ptbSet_one {q : ReqHdr} {s : State} {addr : BitVec 24} {w : Word} (h : s.admits q) (hr : s.ptbRight q.session.val = true)
    (ha : addr.toNat ∈ ptbWords) (hv : ptbValid addr.toNat w = true)
    (hs : ¬ (addr.toNat = 0x180020 ∧ 1000 * PTB_DSTALL.PERIOD.ofWord w ≤ PTB_DSTALL.STALL.ofWord w ∧ PTB_DSTALL.STALL.ofWord w ≠ 0)) :
    exec (.ptbSet q addr [w]) s = .next
      ((if addr.toNat = 0x180000 ∧ w.getLsbD 31 = true then ((s.ptbTaken q).ptbWritten addr.toNat w).ptbReset
        else (s.ptbTaken q).ptbWritten addr.toNat w).updPtb.reply q 0x0A03 stOk [itIgnored 0]) := by
  show Host.Outcome.next (s.request q 0x0A03 (ptbSetBody q addr.toNat [w]) _) = _
  rw [State.request_admits h, ptbSetBody]
  dsimp only
  rw [State.checks_pass]
  · rw [List.zipIdx_singleton, List.foldl_cons, List.foldl_nil]
    dsimp only
    rw [Nat.mul_zero, Nat.add_zero, State.ptbWord_valid _ ha hv]
    rfl
  · have hstall : ([w].zipIdx.any fun e => addr.toNat + 4 * e.2 == 0x180020 &&
        decide (1000 * PTB_DSTALL.PERIOD.ofWord e.1 ≤ PTB_DSTALL.STALL.ofWord e.1) && PTB_DSTALL.STALL.ofWord e.1 != 0) = false := by
      rw [List.zipIdx_singleton, List.any_cons, List.any_nil, Bool.or_false, ← Bool.not_eq_true]
      simpa [and_assoc] using hs
    rw [State.taken_ptbRight, hr, hstall]
    simp

theorem ptbSet_sets {q : ReqHdr} {s : State} {addr : BitVec 24} {w : Word} (h : s.admits q) (hr : s.ptbRight q.session.val = true)
    (ha : addr.toNat ∈ ptbWords) (hv : ptbValid addr.toNat w = true)
    (hs : ¬ (addr.toNat = 0x180020 ∧ 1000 * PTB_DSTALL.PERIOD.ofWord w ≤ PTB_DSTALL.STALL.ofWord w ∧ PTB_DSTALL.STALL.ofWord w ≠ 0)) :
    Leads (.ptbSet q addr [w]) s (fun t =>
      (∀ o ∈ ptbWords, t.rd o = if addr.toNat = 0x180000 ∧ w.getLsbD 31 = true then resetWord o
        else if o = addr.toNat then (s.rd o &&& ~~~(ptbMask o)) ||| (w &&& ptbMask o) else s.rd o) ∧
      t.flag PTB_STATUS.ACTIVE = t.ptbAway ∧
      (¬ (addr.toNat = 0x180000 ∧ w.getLsbD 31 = true) → t.ptb.by_ = some q.session.val ∧ t.ptb.since = s.cyc)) := by
  refine ⟨_, exec_ptbSet_one h hr ha hv hs, ?_⟩
  generalize hu : (if addr.toNat = 0x180000 ∧ w.getLsbD 31 = true then ((s.ptbTaken q).ptbWritten addr.toNat w).ptbReset
    else (s.ptbTaken q).ptbWritten addr.toNat w) = u
  have hrd : ∀ o ∈ ptbWords, (u.updPtb.reply q 0x0A03 stOk [itIgnored 0]).rd o = u.rd o := fun o ho =>
    (State.reply_rd _ _ _ _ _ (ptbWords_apart ho).2.2.2).trans (State.updPtb_rd _ ho)
  refine ⟨fun o ho => (hrd o ho).trans ?_, ?_, fun hc => ?_⟩
  · rw [← hu]
    split
    · exact (State.ptbReset_resets _).1 o ho
    · exact State.ptbWritten_rd _ _ _ ho
  · rw [State.reply_flag _ _ _ _ _ (by unfold qcpWord; decide), State.updPtb_active, State.ptbAway_congr hrd]
  · rw [if_neg hc] at hu
    have hset : (u.updPtb.reply q 0x0A03 stOk [itIgnored 0]).ptb.setter = (some q.session.val, s.cyc) := by
      rw [State.reply_setter, State.updPtb_setter, ← hu]
      rfl
    exact ⟨congrArg Prod.fst hset, congrArg Prod.snd hset⟩

/-! ## CLEAR and LIFE (R775) -/

theorem exec_ptbClear {r : Fin 8} {s : State} (h : s.ptbRight r.val = true) : exec (.ptbClear (.qcp r)) s = .next s.ptbReset :=
  congrArg Host.Outcome.next (if_pos h)

theorem exec_ptbLifeExpire {s : State} (h : s.ptb.by_ ≠ none) :
    exec .ptbLifeExpire s = .next (((s.atCyc (s.ptb.since + s.get PTB_CTRL.LIFE * sCyc)).ptbReset).put PTB_STATUS.EXPIRED 1) :=
  congrArg Host.Outcome.next (State.whenDo_pos (Option.isSome_iff_ne_none.2 h))

theorem State.atCyc_ptbReset_cyc (s : State) (c : Nat) : c ≤ (s.atCyc c).ptbReset.cyc := by
  rw [State.ptbReset_within.comp .cyc (by decide), State.atCyc_cyc]
  exact le_max_right _ _

theorem State.put_expired (s : State) : (s.put PTB_STATUS.EXPIRED 1).flag PTB_STATUS.EXPIRED = true ∧
    (s.put PTB_STATUS.EXPIRED 1).flag PTB_STATUS.ACTIVE = s.flag PTB_STATUS.ACTIVE ∧
    ∀ o ∈ ptbWords, (s.put PTB_STATUS.EXPIRED 1).rd o = s.rd o :=
  ⟨State.flag_put_same _ PTB_STATUS.EXPIRED 1 (by decide), State.flag_put_other _ _ _ _ (by decide),
    fun _ h => State.rd_put_other _ _ (ptbWords_apart h).1⟩

theorem ptbLifeExpire_resets {s : State} (h : s.ptb.by_ ≠ none) :
    Leads .ptbLifeExpire s (fun t => (∀ o ∈ ptbWords, t.rd o = resetWord o) ∧ t.ptb.by_ = none ∧
      t.flag PTB_STATUS.ACTIVE = false ∧ t.flag PTB_STATUS.EXPIRED = true ∧ s.ptb.since + s.get PTB_CTRL.LIFE * sCyc ≤ t.cyc) := by
  refine ⟨_, exec_ptbLifeExpire h, ?_⟩
  have hc := s.atCyc_ptbReset_cyc (s.ptb.since + s.get PTB_CTRL.LIFE * sCyc)
  generalize s.atCyc (s.ptb.since + s.get PTB_CTRL.LIFE * sCyc) = u at hc ⊢
  obtain ⟨he, ha, hrd⟩ := u.ptbReset.put_expired
  obtain ⟨hrs, hby, hact⟩ := u.ptbReset_resets
  refine ⟨fun o ho => (hrd o ho).trans (hrs o ho), ?_, ha.trans hact, he, ?_⟩
  · rw [State.put_ptb, hby]
  · rwa [State.put_cyc]

/-- Settles O49: PTB_SET with and without the right, CLEAR and the end of LIFE. -/
theorem perturbationCompletes : Obligations.PerturbationCompletes := by
  unfold Obligations.PerturbationCompletes
  exact ⟨fun q s h => ⟨fun addr l hr => exec_ptbSet_refused h hr addr l, fun addr w hr ha hv hs => ptbSet_sets h hr ha hv hs⟩,
    fun r s h => ⟨_, exec_ptbClear h, State.ptbReset_resets s⟩,
    fun s => ptbLifeExpire_resets⟩

end Sys2Proof.Machine
end

section
/-! The external memory controller: refresh, activates, reads, training and set-points (O48: R701 to R719). -/

namespace Sys2Proof.Machine

/-! ## Numbers by channel and bank -/

theorem bankVal_setBank_same {l : List (List Nat)} {ch b : Nat} (hc : ch < l.length) (hb : b < (l.getD ch []).length) (v : Nat) :
    bankVal (setBank l ch b v) ch b = v := by
  unfold bankVal setBank setAt
  rw [updAt_getD_same hc, updAt_getD_same hb]

theorem bankVal_zeros (ch b : Nat) : bankVal (List.replicate 4 (List.replicate 16 0)) ch b = 0 := by
  unfold bankVal
  simp only [List.getD_eq_getElem?_getD, List.getElem?_replicate]
  split
  · simp only [Option.getD_some, List.getElem?_replicate]
    split <;> rfl
  · rfl

theorem bank_length {l : List (List Nat)} (hl : l.length = 4) (hb : ∀ x ∈ l, x.length = 16) (ch : Fin 4) : (l.getD ch.val []).length = 16 := by
  have hc : ch.val < l.length := by omega
  rw [List.getD_eq_getElem _ _ hc]
  exact hb _ (List.getElem_mem hc)

theorem State.modDmc_get (s : State) (g : Dmc → Dmc) (f : Fld) : (s.modDmc g).get f = s.get f := rfl

theorem State.modDmc_dmc (s : State) (g : Dmc → Dmc) : (s.modDmc g).dmc = g s.dmc := rfl

theorem State.maxDebt_dmc (s : State) (ch : Nat) : (s.maxDebt ch).dmc = s.dmc := rfl

/-- MAXDEBT lies in words of their own, with FORCED. -/
theorem State.maxDebt_get (s : State) {ch : Nat} {f : Fld} (h : (DMC_REF.MAXDEBT ch).addr ≠ f.addr) : (s.maxDebt ch).get f = s.get f :=
  State.get_put_other _ _ _ _ (.inl h)

theorem fFld_addr (ch : Nat) : (fFld ch).addr = 0x150004 := by
  unfold fFld
  repeat' split
  all_goals rfl

theorem fFld_width (ch : Nat) : (fFld ch).width = 3 ∧ (fFld ch).lo + 3 ≤ 32 := by
  unfold fFld
  repeat' split
  all_goals decide

theorem fFld_apart {ch k : Fin 4} (h : ch ≠ k) : (fFld ch.val).apart (fFld k.val) := by
  revert ch k
  decide

theorem maxDebt_addr (ch : Nat) : (DMC_REF.MAXDEBT ch).addr ≠ 0x150004 := by
  dsimp only
  omega

/-! ## MR4_READ (R705, R707, R708; log entry 135) -/

/-- What a code does to a channel: a reserved one nothing, a rise converts its debt. -/
def State.codeShown (s : State) (ch : Fin 4) (f : Nat) (t : State) : Prop :=
  (4 < f → t.get (fFld ch.val) = s.get (fFld ch.val)) ∧ (f ≤ 4 → t.get (fFld ch.val) = f) ∧
  t.dmc.debt.getD ch.val [] = (if f ≤ 4 ∧ s.get (fFld ch.val) < f then
    (s.dmc.debt.getD ch.val []).map (fun d => d * 2 ^ (f - s.get (fFld ch.val))) else s.dmc.debt.getD ch.val [])

/-- A channel's code and debt are as they were. -/
def State.sameChannel (s : State) (ch : Fin 4) (t : State) : Prop :=
  t.get (fFld ch.val) = s.get (fFld ch.val) ∧ t.dmc.debt.getD ch.val [] = s.dmc.debt.getD ch.val []

theorem State.sameChannel.trans {s t u : State} {ch : Fin 4} (h : s.sameChannel ch t) (k : t.sameChannel ch u) : s.sameChannel ch u :=
  ⟨k.1.trans h.1, k.2.trans h.2⟩

theorem State.sameChannel.codeShown {s t u v : State} {ch : Fin 4} {f : Nat} (h : s.sameChannel ch t) (hc : t.codeShown ch f u)
    (k : u.sameChannel ch v) : s.codeShown ch f v := by
  unfold State.codeShown at hc ⊢
  rwa [k.1, k.2, ← h.1, ← h.2]

/-- A converted debt: the code shown, and every bank's debt multiplied. -/
def State.mr4Risen (s : State) (ch code : Nat) (l : List Nat) : State :=
  (((s.put (fFld ch) code).modDmc (fun x => { x with debt := setAt x.debt ch l, burst := setAt x.burst ch l })).maxDebt ch)

theorem State.mr4_reserved {s : State} {code : Nat} (ch : Nat) (h : 4 < code) : s.mr4 ch code = s := if_pos h

theorem State.mr4_fall {s : State} {ch code : Nat} (h : code ≤ 4) (hc : code ≤ s.get (fFld ch)) : s.mr4 ch code = s.put (fFld ch) code :=
  (if_neg (Nat.not_lt.2 h)).trans (if_pos hc)

theorem State.mr4_rise {s : State} {ch code : Nat} (h : code ≤ 4) (hc : s.get (fFld ch) < code) :
    s.mr4 ch code = s.mr4Risen ch code ((s.dmc.debt.getD ch []).map (fun d => d * 2 ^ (code - s.get (fFld ch)))) :=
  (if_neg (Nat.not_lt.2 h)).trans (if_neg (Nat.not_le.2 hc))

theorem State.mr4Risen_get (s : State) (ch code : Nat) (l : List Nat) (k : Nat) :
    (s.mr4Risen ch code l).get (fFld k) = (s.put (fFld ch) code).get (fFld k) :=
  (State.maxDebt_get _ (by rw [fFld_addr]; exact maxDebt_addr ch)).trans (State.modDmc_get ..)

theorem State.mr4Risen_debt (s : State) (ch code : Nat) (l : List Nat) : (s.mr4Risen ch code l).dmc.debt = setAt s.dmc.debt ch l := rfl

theorem State.put_code (s : State) (ch : Nat) {code : Nat} (h : code ≤ 4) : (s.put (fFld ch) code).get (fFld ch) = code := by
  obtain ⟨hw, hl⟩ := fFld_width ch
  rw [State.get_put_same _ _ _ (hw ▸ hl), hw]
  exact Nat.mod_eq_of_lt (by omega)

/-- The code of one channel. -/
theorem State.mr4_shows {s : State} (ch : Fin 4) (code : Nat) (hl : s.dmc.debt.length = 4) : s.codeShown ch code (s.mr4 ch.val code) := by
  obtain hr | h := Nat.lt_or_ge 4 code
  · rw [State.mr4_reserved _ hr]
    exact ⟨fun _ => rfl, fun h => absurd hr (Nat.not_lt.2 h), (if_neg fun h => absurd hr (Nat.not_lt.2 h.1)).symm⟩
  · obtain hc | hc := Nat.lt_or_ge (s.get (fFld ch.val)) code
    · rw [State.mr4_rise h hc]
      refine ⟨fun hr => absurd hr (Nat.not_lt.2 h), fun _ => (State.mr4Risen_get ..).trans (s.put_code _ h), ?_⟩
      rw [if_pos ⟨h, hc⟩, State.mr4Risen_debt, setAt, updAt_getD_same (by rw [hl]; exact ch.isLt)]
    · rw [State.mr4_fall h hc]
      exact ⟨fun hr => absurd hr (Nat.not_lt.2 h), fun _ => s.put_code _ h, (if_neg fun hh => absurd hh.2 (Nat.not_lt.2 hc)).symm⟩

theorem State.mr4_length (s : State) (ch code : Nat) : (s.mr4 ch code).dmc.debt.length = s.dmc.debt.length := by
  unfold State.mr4
  dsimp only
  split
  · rfl
  · split
    · rfl
    · exact updAt_length ..

/-- The codes of the others. -/
theorem State.mr4_same (s : State) {ch k : Fin 4} (code : Nat) (h : ch ≠ k) : s.sameChannel k (s.mr4 ch.val code) := by
  have hp : (s.put (fFld ch.val) code).get (fFld k.val) = s.get (fFld k.val) := State.get_put_other _ _ _ _ (fFld_apart h)
  obtain hr | hc := Nat.lt_or_ge 4 code
  · rw [State.mr4_reserved _ hr]
    exact ⟨rfl, rfl⟩
  · obtain hu | hd := Nat.lt_or_ge (s.get (fFld ch.val)) code
    · rw [State.mr4_rise hc hu]
      refine ⟨(State.mr4Risen_get ..).trans hp, ?_⟩
      rw [State.mr4Risen_debt, setAt, updAt_getD, if_neg fun hh => h (Fin.ext hh.1)]
    · rw [State.mr4_fall hc hd]
      exact ⟨hp, rfl⟩

/-- The four channels in turn: each is shown its own code, and none by another's. -/
theorem exec_mr4Read {s : State} (f0 f1 f2 f3 : BitVec 3) (hl : s.dmc.debt.length = 4) :
    Leads (.mr4Read f0 f1 f2 f3) s (fun t => ∀ (ch : Fin 4) (f : Nat), f = ([f0, f1, f2, f3].getD ch.val 0).toNat → s.codeShown ch f t) := by
  let s0 := s.mr4 0 f0.toNat
  let s1 := s0.mr4 1 f1.toNat
  let s2 := s1.mr4 2 f2.toNat
  have l0 : s0.dmc.debt.length = 4 := (State.mr4_length ..).trans hl
  have l1 : s1.dmc.debt.length = 4 := (State.mr4_length ..).trans l0
  have l2 : s2.dmc.debt.length = 4 := (State.mr4_length ..).trans l1
  have e0 : ∀ {k : Fin 4}, 0 ≠ k → s.sameChannel k s0 := fun h => s.mr4_same (ch := 0) _ h
  have e1 : ∀ {k : Fin 4}, 1 ≠ k → s0.sameChannel k s1 := fun h => s0.mr4_same (ch := 1) _ h
  have e2 : ∀ {k : Fin 4}, 2 ≠ k → s1.sameChannel k s2 := fun h => s1.mr4_same (ch := 2) _ h
  have e3 : ∀ {k : Fin 4}, 3 ≠ k → s2.sameChannel k (s2.mr4 3 f3.toNat) := fun h => s2.mr4_same (ch := 3) _ h
  refine ⟨s2.mr4 3 f3.toNat, rfl, fun ch f hf => ?_⟩
  subst hf
  match ch with
  | 0 => exact State.sameChannel.codeShown ⟨rfl, rfl⟩ (s.mr4_shows 0 _ hl) (((e1 (by decide)).trans (e2 (by decide))).trans (e3 (by decide)))
  | 1 => exact (e0 (by decide)).codeShown (s0.mr4_shows 1 _ l0) ((e2 (by decide)).trans (e3 (by decide)))
  | 2 => exact ((e0 (by decide)).trans (e1 (by decide))).codeShown (s1.mr4_shows 2 _ l1) (e3 (by decide))
  | 3 => exact (((e0 (by decide)).trans (e1 (by decide))).trans (e2 (by decide))).codeShown (s2.mr4_shows 3 _ l2) ⟨rfl, rfl⟩

/-! ## Refresh (R705 to R707; log entry 135) -/

section

variable {ch : Fin 4} {b : Fin 16} {s : State}

theorem exec_refreshDue_adds (hl : s.dmc.debt.length = 4) (hb : ∀ l ∈ s.dmc.debt, l.length = 16)
    (h : ¬ (bankVal s.dmc.burst ch.val b.val = 0 ∧ 3 ≤ s.get (fFld ch.val) ∧ bankVal s.dmc.debt ch.val b.val ≠ 0)) :
    Leads (.refreshDue ch b) s (fun t => bankVal t.dmc.debt ch.val b.val = bankVal s.dmc.debt ch.val b.val + 1) := by
  refine ⟨_, congrArg Host.Outcome.next (if_neg (by simpa [and_assoc] using h)), ?_⟩
  exact bankVal_setBank_same (by omega) (by rw [bank_length hl hb]; exact b.isLt) _

theorem exec_refreshDue_early (hc : bankVal s.dmc.burst ch.val b.val = 0) (hf : 3 ≤ s.get (fFld ch.val))
    (hd : bankVal s.dmc.debt ch.val b.val ≠ 0) : exec (.refreshDue ch b) s = .next s :=
  congrArg Host.Outcome.next (if_pos (by simp [hc, hf, hd]))

/-- One refresh of a bank's debt is issued. -/
def State.refreshed (s : State) (ch : Fin 4) (b : Fin 16) : State :=
  s.modDmc (fun x => { x with
    debt := setBank x.debt ch.val b.val (bankVal s.dmc.debt ch.val b.val - 1)
    burst := setBank x.burst ch.val b.val (bankVal s.dmc.burst ch.val b.val - 1) })

theorem exec_refreshIssue (hd : bankVal s.dmc.debt ch.val b.val ≠ 0) :
    exec (.refreshIssue ch b) s = .next
      (if bankVal s.dmc.burst ch.val b.val != 0 || (decide (s.get (fFld ch.val) ≤ 2) && decide (8 ≤ bankVal s.dmc.debt ch.val b.val)) then
        (s.refreshed ch b).countSat (DMC_REF.FORCED ch.val) else s.refreshed ch b) := by
  show Host.Outcome.next (refreshIssueStep ch.val b.val s) = _
  unfold refreshIssueStep
  dsimp only
  rw [State.whenDo_pos (by simpa using hd)]
  rfl

theorem refreshIssue_takes (hl : s.dmc.debt.length = 4) (hb : ∀ l ∈ s.dmc.debt, l.length = 16) (hd : bankVal s.dmc.debt ch.val b.val ≠ 0) :
    Leads (.refreshIssue ch b) s (fun t => bankVal t.dmc.debt ch.val b.val = bankVal s.dmc.debt ch.val b.val - 1 ∧
      t.get (DMC_REF.FORCED ch.val) = if bankVal s.dmc.burst ch.val b.val ≠ 0 ∨ (s.get (fFld ch.val) ≤ 2 ∧ 8 ≤ bankVal s.dmc.debt ch.val b.val)
        then min (s.get (DMC_REF.FORCED ch.val) + 1) 65535 else s.get (DMC_REF.FORCED ch.val)) := by
  have hv : bankVal (s.refreshed ch b).dmc.debt ch.val b.val = bankVal s.dmc.debt ch.val b.val - 1 :=
    bankVal_setBank_same (by omega) (by rw [bank_length hl hb]; exact b.isLt) _
  refine ⟨_, exec_refreshIssue hd, ?_⟩
  by_cases hf : bankVal s.dmc.burst ch.val b.val ≠ 0 ∨ (s.get (fFld ch.val) ≤ 2 ∧ 8 ≤ bankVal s.dmc.debt ch.val b.val)
  · rw [if_pos hf, if_pos (by simpa using hf)]
    exact ⟨hv, State.get_countSat_same (s.refreshed ch b) (f := DMC_REF.FORCED ch.val) (Nat.le_refl 32)⟩
  · rw [if_neg hf, if_neg (by simpa using hf)]
    exact ⟨hv, rfl⟩

end

/-! ## Activates (R710, R711) -/

section

variable {ch : Fin 4} {b : Fin 16} {s : State} (row : Nat) (hc : bankVal s.dmc.burst ch.val b.val = 0)
  (hf : ¬ (s.get (fFld ch.val) ≤ 2 ∧ 8 ≤ bankVal s.dmc.debt ch.val b.val))

include hc hf

/-- An activate that no debt holds back: channel 0 by its table, the others by chance. -/
theorem exec_rowActivate : exec (.rowActivate ch b row) s = .next
    (if ch.val = 0 then
      if (tableHit (s.dmc.tables.getD b.val []) row s.dmc.rdThr s.freeVal).2 then
        (s.drew.modDmc (fun x => { x with tables := setAt x.tables b.val (tableHit (s.dmc.tables.getD b.val []) row s.dmc.rdThr s.freeVal).1 })).count
          (DMC_NR.COUNT 0)
      else s.drew.modDmc (fun x => { x with tables := setAt x.tables b.val (tableHit (s.dmc.tables.getD b.val []) row s.dmc.rdThr s.freeVal).1 })
    else if s.freeVal % 2 ^ s.dmc.rdP = 0 then s.drew.count (DMC_NR.COUNT ch.val) else s.drew) := by
  show Host.Outcome.next (rowActivateStep ch.val b.val row s) = _
  unfold rowActivateStep
  dsimp only
  rw [State.whenDo_pos (by simp only [hc, bne_self_eq_false, Bool.false_or, Bool.not_eq_true', Bool.and_eq_false_iff, decide_eq_false_iff_not]; omega)]

theorem exec_rowActivate_chance (h : ch.val ≠ 0) :
    Leads (.rowActivate ch b row) s (fun t => t.get (DMC_NR.COUNT ch.val) =
      (if s.freeVal % 2 ^ s.dmc.rdP = 0 then s.get (DMC_NR.COUNT ch.val) + 1 else s.get (DMC_NR.COUNT ch.val)) % 2 ^ 32) := by
  refine ⟨_, (exec_rowActivate row hc hf).trans (congrArg _ (if_neg h)), ?_⟩
  by_cases hp : s.freeVal % 2 ^ s.dmc.rdP = 0
  · rw [if_pos hp, if_pos hp]
    exact State.get_count_same s.drew (f := DMC_NR.COUNT ch.val) (Nat.le_refl 32)
  · rw [if_neg hp, if_neg hp]
    exact (Nat.mod_eq_of_lt (s.get_lt (DMC_NR.COUNT ch.val))).symm

end

/-- A row that its table knows is counted on, to 0 at the threshold. -/
theorem tableHit_known {l : List (Nat × Nat)} {row n : Nat} (thr pick : Nat) (h : l.find? (fun e => e.1 == row) = some (row, n)) :
    (row, if thr ≤ n + 1 then 0 else n + 1) ∈ (tableHit l row thr pick).1 ∧ (tableHit l row thr pick).2 = decide (thr ≤ n + 1) := by
  unfold tableHit
  rw [h]
  exact ⟨List.mem_map.2 ⟨(row, n), List.mem_of_find?_eq_some h, if_pos rfl⟩, rfl⟩

theorem exec_rowActivate_table {ch : Fin 4} {b : Fin 16} {s : State} (row : Nat) (hc : bankVal s.dmc.burst ch.val b.val = 0)
    (hf : ¬ (s.get (fFld ch.val) ≤ 2 ∧ 8 ≤ bankVal s.dmc.debt ch.val b.val)) (h : ch.val = 0) (hb : b.val < s.dmc.tables.length) :
    Leads (.rowActivate ch b row) s (fun t =>
      t.dmc.tables.getD b.val [] = (tableHit (s.dmc.tables.getD b.val []) row s.dmc.rdThr s.freeVal).1 ∧
      (∀ n, (s.dmc.tables.getD b.val []).find? (fun e => e.1 == row) = some (row, n) →
        (n + 1 < s.dmc.rdThr → (row, n + 1) ∈ t.dmc.tables.getD b.val [] ∧ t.get (DMC_NR.COUNT 0) = s.get (DMC_NR.COUNT 0)) ∧
        (s.dmc.rdThr ≤ n + 1 → (row, 0) ∈ t.dmc.tables.getD b.val [] ∧
          t.get (DMC_NR.COUNT 0) = (s.get (DMC_NR.COUNT 0) + 1) % 2 ^ 32))) := by
  refine ⟨_, (exec_rowActivate row hc hf).trans (congrArg _ (if_pos h)), ?_⟩
  generalize hr : tableHit (s.dmc.tables.getD b.val []) row s.dmc.rdThr s.freeVal = r
  have ht : (setAt s.dmc.tables b.val r.1).getD b.val [] = r.1 := updAt_getD_same hb _ _
  have hv : (if r.2 = true then (s.drew.modDmc (fun x => { x with tables := setAt x.tables b.val r.1 })).count (DMC_NR.COUNT 0)
      else s.drew.modDmc (fun x => { x with tables := setAt x.tables b.val r.1 })).dmc.tables.getD b.val [] = r.1 := by
    split <;> exact ht
  refine ⟨hv, fun n hn => ?_⟩
  obtain ⟨hm, hh⟩ := tableHit_known s.dmc.rdThr s.freeVal hn
  rw [hr] at hm hh
  refine ⟨fun hl => ?_, fun hl => ?_⟩
  · rw [if_neg (Nat.not_le.2 hl)] at hm
    rw [hv, hh, if_neg (by simpa using hl)]
    exact ⟨hm, rfl⟩
  · rw [if_pos hl] at hm
    rw [hv, hh, if_pos (by simpa using hl)]
    exact ⟨hm, State.get_count_same s.drew (f := DMC_NR.COUNT 0) (by decide)⟩

/-! ## Reads (R701, R703) -/

theorem ranked_ne_nil {l : List DramReq} (h : l ≠ []) : ranked [] l ≠ [] := by
  cases l with
  | nil => exact absurd rfl h
  | cons r t => simp [ranked]

theorem mem_ranked {e : DramReq × Nat} {before l : List DramReq} (h : e ∈ ranked before l) : e.1 ∈ l := by
  induction l generalizing before with
  | nil => cases h
  | cons r t ih =>
    unfold ranked at h
    dsimp only at h
    split at h
    · exact List.mem_cons_of_mem _ (ih h)
    · obtain rfl | h := List.mem_cons.1 h
      · exact List.mem_cons_self
      · exact List.mem_cons_of_mem _ (ih h)

theorem firstRank_isSome {l : List (DramReq × Nat)} (h : l ≠ []) : ∃ e ∈ l, firstRank l = some e := by
  induction l with
  | nil => exact absurd rfl h
  | cons e t ih =>
    unfold firstRank
    split
    · exact ⟨e, List.mem_cons_self, rfl⟩
    next f hf =>
      split
      · refine ⟨f, List.mem_cons_of_mem _ ?_, rfl⟩
        obtain ⟨g, hg, hgf⟩ := ih (by rintro rfl; cases hf)
        rw [hf] at hgf
        obtain rfl := Option.some.inj hgf
        exact hg
      · exact ⟨e, List.mem_cons_self, rfl⟩

/-- A channel that holds a request it may serve serves one that it holds. -/
theorem State.dramNext_serves {s : State} {r : DramReq} (hr : r ∈ s.dmc.queue) (ho : s.dramOpen r = true) :
    ∃ x ∈ s.dmc.queue, s.dramNext r.ch (fun _ => true) = some x := by
  have hm : r ∈ s.dmc.queue.filter (fun x => x.ch == r.ch && s.dramOpen x) := List.mem_filter.2 ⟨hr, by simp [ho]⟩
  have hn := ranked_ne_nil (List.ne_nil_of_mem hm)
  obtain ⟨e, he, hf⟩ := firstRank_isSome hn
  refine ⟨e.1, (List.mem_filter.1 (mem_ranked he)).1, ?_⟩
  unfold State.dramNext
  rw [List.filter_true, hf]
  rfl

/-- What the serving of a request leaves. -/
def State.dramServed (s : State) (x : DramReq) : State :=
  { s with dmc := { s.dmc with queue := s.dmc.queue.erase x, done := s.dmc.done ++ [x] } }

theorem State.dramServe_next {s : State} {ch : Nat} {pick : DramReq → Bool} {x : DramReq} (h : s.dramNext ch pick = some x) :
    s.dramServe ch pick = s.dramServed x := by
  unfold State.dramServe
  rw [h]
  rfl

theorem State.dramServed_open (s : State) (x r : DramReq) : (s.dramServed x).dramOpen r = s.dramOpen r := rfl

/-- A channel that may serve a request in its queue has served it after as many rounds as the queue holds requests. -/
theorem State.dramUntil_serves {s : State} {r : DramReq} {n : Nat} (hr : r ∈ s.dmc.queue) (hn : s.dmc.queue.length ≤ n) (ho : s.dramOpen r = true) :
    ∃ l, (s.dramUntil r n).dmc.done = s.dmc.done ++ l ∧ r ∈ l := by
  induction n generalizing s with
  | zero => exact absurd (List.eq_nil_of_length_eq_zero (Nat.le_zero.1 hn)) (List.ne_nil_of_mem hr)
  | succ n ih =>
    obtain ⟨x, hx, hnext⟩ := State.dramNext_serves hr ho
    have hlen : (s.dramServed x).dmc.queue.length ≤ n := by
      have := List.length_erase_of_mem hx
      show (s.dmc.queue.erase x).length ≤ n
      omega
    have hdone : (s.dramServed x).dmc.done = s.dmc.done ++ [x] := rfl
    unfold State.dramUntil
    rw [if_pos (List.contains_iff_mem.2 hr), State.dramServe_next hnext]
    by_cases hq : r ∈ (s.dramServed x).dmc.queue
    · obtain ⟨l, hl, hm⟩ := ih hq hlen ho
      exact ⟨x :: l, by rw [hl, hdone, List.append_assoc]; rfl, List.mem_cons_of_mem _ hm⟩
    · have hxr : r = x := by
        by_contra hne
        exact hq ((List.mem_erase_of_ne hne).2 hr)
      subst hxr
      refine ⟨[r], ?_, List.mem_singleton_self _⟩
      cases n with
      | zero => exact hdone
      | succ m =>
        unfold State.dramUntil
        rw [if_neg (by simpa using hq)]
        exact hdone

/-- A read of 64 B, as it waits in its channel's queue. -/
def State.readReq (s : State) (ch cls addr : Nat) : DramReq :=
  { ch := ch, write := false, cls := cls, addr := addr / 64 * 64, len := 64, since := s.cyc }

/-- The read meets a queued write to its 64 B. -/
def State.readMeets (s : State) (ch cls addr : Nat) : Bool :=
  s.dmc.queue.any (fun w => w.ch == ch && w.write && w.hits (s.readReq ch cls addr))

/-- The read counted where it met a write, and queued. -/
def State.readQueued (s : State) (ch cls addr : Nat) : State :=
  (if s.readMeets ch cls addr then s.count (DMC_RAW.COUNT ch) else s).modDmc (fun x => { x with queue := x.queue ++ [s.readReq ch cls addr] })

theorem State.readQueued_queue (s : State) (ch cls addr : Nat) :
    (s.readQueued ch cls addr).dmc.queue = s.dmc.queue ++ [s.readReq ch cls addr] ∧ (s.readQueued ch cls addr).dmc.done = s.dmc.done := by
  unfold State.readQueued
  split <;> exact ⟨rfl, rfl⟩

theorem State.readQueued_count (s : State) (ch : Fin 4) (cls addr : Nat) :
    (s.readQueued ch.val cls addr).get (DMC_RAW.COUNT ch.val) =
      (s.get (DMC_RAW.COUNT ch.val) + (s.readMeets ch.val cls addr).toNat) % 2 ^ 32 := by
  unfold State.readQueued
  rw [State.modDmc_get]
  cases s.readMeets ch.val cls addr with
  | true => exact State.get_count_same s (f := DMC_RAW.COUNT ch.val) (Nat.le_refl 32)
  | false => exact (Nat.mod_eq_of_lt (s.get_lt (DMC_RAW.COUNT ch.val))).symm

/-- Whether a channel is open does not hang on its counts. -/
theorem State.dramOpen_count (s : State) (ch : Nat) (r : DramReq) : (s.count (DMC_RAW.COUNT ch)).dramOpen r = s.dramOpen r := by
  have hg : ∀ {f : Fld}, 0x160000 ≤ f.addr → (s.count (DMC_RAW.COUNT ch)).get f = s.get f := by
    intro f hf
    refine State.get_count_other _ ?_
    dsimp only
    omega
  have hstall : (s.count (DMC_RAW.COUNT ch)).stallHeld r.ch = s.stallHeld r.ch := by
    unfold State.stallHeld State.flag
    rw [hg (f := PTB_DSTALL.STALL) (by decide), hg (f := PTB_DSTALL.CH) (by decide), hg (f := PTB_DSTALL.PERIOD) (by decide)]
    rfl
  have hbp : (s.count (DMC_RAW.COUNT ch)).bpHeld 0 = s.bpHeld 0 := by
    unfold State.bpHeld State.bpOn State.flag
    rw [hg (f := PTB_BP.DUTY) (by decide), hg (f := PTB_BP.TARGET) (by decide), hg (f := PTB_BP.HOLD) (by decide)]
    rfl
  unfold State.dramOpen
  rw [hstall, hbp]
  rfl

theorem State.readQueued_open {s : State} {ch : Fin 4} (cls addr : Nat) (h1 : s.dmc.selfRefresh = false) (h2 : s.dmc.resetLow = false)
    (h3 : s.stallHeld ch.val = false) (h4 : s.bpHeld 0 = false) :
    (s.readQueued ch.val cls addr).dramOpen (s.readReq ch.val cls addr) = true := by
  have hs : s.dramOpen (s.readReq ch.val cls addr) = true := by simp [State.dramOpen, State.readReq, h1, h2, h3, h4]
  unfold State.readQueued
  cases s.readMeets ch.val cls addr with
  | false => exact hs
  | true => exact (s.dramOpen_count ch.val _).trans hs

theorem exec_dramRead (ch : Fin 4) (cls addr : Nat) (s : State) : exec (.dramRead ch cls addr) s =
    .next ((s.readQueued ch.val cls addr).dramUntil (s.readReq ch.val cls addr) (s.readQueued ch.val cls addr).dmc.queue.length) := rfl

/-- A read of an open channel is served, and counted where it met a write. -/
theorem dramRead_serves {ch : Fin 4} (cls addr : Nat) {s : State} (h1 : s.dmc.selfRefresh = false) (h2 : s.dmc.resetLow = false)
    (h3 : s.stallHeld ch.val = false) (h4 : s.bpHeld 0 = false) :
    Leads (.dramRead ch cls addr) s (fun t => ∃ l, t.dmc.done = s.dmc.done ++ l ∧ s.readReq ch.val cls addr ∈ l ∧
      t.get (DMC_RAW.COUNT ch.val) = (s.get (DMC_RAW.COUNT ch.val) + (s.readMeets ch.val cls addr).toNat) % 2 ^ 32) := by
  obtain ⟨hq, hd⟩ := s.readQueued_queue ch.val cls addr
  obtain ⟨l, hl, hm⟩ := State.dramUntil_serves (n := (s.readQueued ch.val cls addr).dmc.queue.length)
    (by rw [hq]; exact List.mem_append_right _ (List.mem_singleton_self _)) le_rfl (State.readQueued_open cls addr h1 h2 h3 h4)
  exact ⟨_, exec_dramRead .., l, by rw [hl, hd], hm, (State.dramUntil_within.get List.not_mem_nil).trans (s.readQueued_count ch cls addr)⟩

/-! ## Training and set-points (R714 to R718) -/

theorem exec_trainingStep (ch : Fin 4) (s : State) : exec (.trainingStep ch) s =
    .next (((s.trainOne ch.val).modDmc (fun x => { x with trainDue := false, trainTemp := s.cal.temps.getD 2 0 })).count DMC_TRAIN.STEPS) := rfl

/-- A training step counts, and changes no other channel's timing. -/
theorem trainingStep_trains (ch : Fin 4) (s : State) :
    Leads (.trainingStep ch) s (fun t => t.get DMC_TRAIN.STEPS = (s.get DMC_TRAIN.STEPS + 1) % 65536 ∧ t.dmc.trainDue = false ∧
      ∀ k, k ≠ ch.val → t.dmc.timing.getD k (0, 0) = s.dmc.timing.getD k (0, 0)) := by
  refine ⟨_, exec_trainingStep ch s, ?_, rfl, fun k hk => ?_⟩
  · rw [State.get_count_same _ (by decide), State.modDmc_get]
    rfl
  · exact (updAt_getD ..).trans (if_neg fun h => hk h.1.symm)

theorem State.fspWanted_lt (s : State) : s.fspWanted < 2 := by
  unfold State.fspWanted
  split <;> decide

/-- The set-point asked for comes into force, with no refresh owed. -/
theorem State.changeFsp_changes {s : State} {n : Nat} (h : s.get DMC_STATUS.FSP ≠ n) (hn : n < 2) :
    (s.changeFsp n).get DMC_STATUS.FSP = n ∧ (s.changeFsp n).dmc.trainDue = true ∧ ∀ ch b, bankVal (s.changeFsp n).dmc.debt ch b = 0 := by
  unfold State.changeFsp
  rw [if_neg h]
  dsimp only
  rw [State.put_dmc]
  exact ⟨(State.get_put_same _ DMC_STATUS.FSP _ (by decide)).trans (Nat.mod_eq_of_lt hn), rfl, bankVal_zeros⟩

/-- Settles O48: each event of the controller by a lemma of its own; that a refresh falling due late at F of 2 or more is not added, and the
reserved codes of MR4, are log entry 135's. -/
theorem memoryControllerCompletes : Obligations.MemoryControllerCompletes := by
  unfold Obligations.MemoryControllerCompletes
  refine ⟨fun f0 f1 f2 f3 s hl _ => exec_mr4Read f0 f1 f2 f3 hl, ?bank, fun ch cls addr s h1 h2 h3 h4 => dramRead_serves cls addr h1 h2 h3 h4,
    fun s => ⟨⟨_, rfl, rfl, rfl, rfl, rfl⟩, fun ch => trainingStep_trains ch s, ?same, ?other⟩⟩
  case bank =>
    rintro ch b _ _ s rfl rfl hl hb
    exact ⟨exec_refreshDue_adds hl hb, exec_refreshDue_early, refreshIssue_takes hl hb,
      fun row hc hf => ⟨exec_rowActivate_chance row hc hf, exec_rowActivate_table row hc hf⟩⟩
  case same => exact fun h => congrArg Host.Outcome.next (if_pos h)
  case other => exact fun h => ⟨_, rfl, State.changeFsp_changes h s.fspWanted_lt⟩

end Sys2Proof.Machine
end

section
/-! SUPPORT. The lanes of the ridge bus: what a lane's change, a frame on its way and the horizon show, and what they leave (R551 to R568). -/

namespace Sys2Proof.Machine

/-! ## A lane beside its registers -/

theorem State.lane_modLane_same (s : State) (w : Bool) (f : Lane → Lane) : (s.modLane w f).lane w = f (s.lane w) := by cases w <;> rfl

theorem State.lane_modLane_other (s : State) {w v : Bool} (f : Lane → Lane) (h : w ≠ v) : (s.modLane w f).lane v = s.lane v := by
  cases w <;> cases v <;> first | rfl | exact absurd rfl h

theorem State.lane_congr {s t : State} (h : t.ridge = s.ridge) (w : Bool) : t.lane w = s.lane w := by
  unfold State.lane
  rw [h]

theorem State.modLane_get (s : State) (w : Bool) (f : Lane → Lane) (g : Fld) : (s.modLane w f).get g = s.get g := by cases w <;> rfl

theorem State.modLane_regs (s : State) (w : Bool) (f : Lane → Lane) : (s.modLane w f).regs = s.regs := by cases w <;> rfl

theorem State.modLane_nodes (s : State) (w : Bool) (f : Lane → Lane) : (s.modLane w f).ridge.nodes = s.ridge.nodes := by cases w <;> rfl

/-! ## Frames that leave (R551, R780, R781) -/

/-- With no perturbation of the ridge or of checksums in force a frame leaves as it is. -/
theorem State.emit_ridgeFrame {s : State} (hd : s.get PTB_RDROP.N = 0) (hc : s.get PTB_CRC.N = 0) (f : RidgeFrame) :
    s.emit (.ridge f) = s.emitRaw (.ridge f) := by
  have hm : s.dropMatch f = false := by simp [State.dropMatch, hd]
  have hdrop : s.emitDrop (.ridge f) = s.emitRaw (.ridge f) := if_neg (by simp [hm])
  unfold State.emit
  dsimp only [State.crcTarget]
  rw [hdrop]
  exact if_pos (by simp [hc])

theorem State.sendLane_up {s : State} {w : Bool} (h : s.laneUp w = true) (f : RidgeFrame) : s.sendLane w f = s.emit (.ridge { f with west := w }) := if_pos h

theorem State.sendLane_down {s : State} {w : Bool} (h : s.laneUp w = false) (f : RidgeFrame) : s.sendLane w f = s := if_neg (by simp [h])

/-- What leaves does not hang on the ridge's own state. -/
theorem State.emitDrop_withRidge (s : State) (r : Ridge) (o : Out) :
    ({ s with ridge := r } : State).emitDrop o = { s.emitDrop o with ridge := r } := by
  cases o with
  | ridge f =>
    unfold State.emitDrop
    have hm : ({ s with ridge := r } : State).dropMatch f = s.dropMatch f := rfl
    dsimp only
    rw [hm]
    split
    · have hn : ({ s with ridge := r } : State).get PTB_RDROP.N = s.get PTB_RDROP.N := rfl
      rw [hn]
      split <;> rfl
    · rfl
  | _ => rfl

theorem State.emit_withRidge (s : State) (r : Ridge) (o : Out) : ({ s with ridge := r } : State).emit o = { s.emit o with ridge := r } := by
  have hc : ({ s with ridge := r } : State).crcTarget o = s.crcTarget o := by cases o <;> rfl
  have hn : ({ s with ridge := r } : State).get PTB_CRC.N = s.get PTB_CRC.N := rfl
  have ht : ({ s with ridge := r } : State).get PTB_CRC.TARGET = s.get PTB_CRC.TARGET := rfl
  unfold State.emit
  dsimp only
  rw [State.emitDrop_withRidge, hc, hn, ht]
  split
  · rfl
  · split
    · rfl
    · split <;> rfl

/-! ## The state of a lane (R555, R556) -/

/-- The lanes' flags, WRAPPED and FLANE, each apart from the others. -/
theorem upFld_apart (w : Bool) {f : Fld} (h : f ∈ [RDG_STATUS.WRAPPED, RDG_STATUS.FLANE, RDG_STATUS.NODES, RDG_STATUS.HSHORT, RDG_STATUS.DUPID, upFld (!w)]) :
    f.apart (upFld w) := by
  revert f
  cases w <;> decide

theorem State.updFlane_get (s : State) {f : Fld} (h : RDG_STATUS.FLANE.apart f) : s.updFlane.get f = s.get f := State.get_put_other _ _ _ _ h

/-- A lane is DOWN here or at a node of the table. -/
def State.ringBroken (s : State) : Bool := !s.laneUp false || !s.laneUp true || s.ridge.nodes.any (fun n => !n.eUp || !n.wUp)

theorem State.updWrapped_cases (s : State) :
    s.flag RDG_STATUS.WRAPPED = s.ringBroken ∧ s.updWrapped = s ∨
    s.updWrapped = (s.putFlag RDG_STATUS.WRAPPED s.ringBroken).eventAll 0x0901 0 := by
  by_cases h : s.ringBroken = s.flag RDG_STATUS.WRAPPED
  · exact .inl ⟨h.symm, if_pos (beq_iff_eq.2 h)⟩
  · exact .inr (if_neg (mt beq_iff_eq.1 h))

theorem State.updWrapped_wrapped (s : State) : s.updWrapped.flag RDG_STATUS.WRAPPED = s.ringBroken := by
  obtain ⟨h, he⟩ | he := s.updWrapped_cases <;> rw [he]
  · exact h
  · rw [State.eventAll_flag _ _ _ _ (by unfold qcpWord; decide)]
    exact State.flag_putFlag_same _ _ _ (by decide) rfl

theorem State.updWrapped_get (s : State) {f : Fld} (h : RDG_STATUS.WRAPPED.apart f) (hq : ¬ qcpWord f.addr) : s.updWrapped.get f = s.get f := by
  obtain ⟨-, he⟩ | he := s.updWrapped_cases <;> rw [he]
  rw [State.eventAll_get _ _ _ _ hq]
  exact State.get_put_other _ _ _ _ h

theorem State.updWrapped_ridge (s : State) : s.updWrapped.ridge = s.ridge := State.updWrapped_within.comp .ridge (by decide)

/-- What a change of a lane leaves before WRAPPED follows. -/
def State.laneSet (s : State) (w up : Bool) : State :=
  (((s.putFlag (upFld w) up).count (RDG_CNT.DOWNS w.toNat)).modLane w (fun l => { l with badRun := 0, t1 := none, timeDelay := none })).updFlane

theorem State.setLane_changes {s : State} {w up : Bool} (h : s.laneUp w = !up) : s.setLane w up = (s.laneSet w up).updWrapped :=
  if_neg (by simp [h])

theorem State.setLane_same {s : State} {w up : Bool} (h : s.laneUp w = up) : s.setLane w up = s := if_pos (by simp [h])

theorem State.laneSet_get (s : State) (w up : Bool) {f : Fld} (hc : (RDG_CNT.DOWNS w.toNat).apart f) (hf : RDG_STATUS.FLANE.apart f)
    (hu : (upFld w).apart f) : (s.laneSet w up).get f = s.get f := by
  unfold State.laneSet
  rw [State.updFlane_get _ hf, State.modLane_get, State.count, State.get_put_other _ _ _ _ hc]
  exact State.get_put_other _ _ _ _ hu

theorem State.laneSet_laneUp (s : State) (w up : Bool) : (s.laneSet w up).laneUp w = up ∧ (s.laneSet w up).laneUp (!w) = s.laneUp (!w) := by
  have hc : ∀ v, (RDG_CNT.DOWNS w.toNat).apart (upFld v) := by cases w <;> decide
  have hf : ∀ v, RDG_STATUS.FLANE.apart (upFld v) := by decide
  constructor
  · unfold State.laneUp State.laneSet
    rw [State.flag_congr (State.updFlane_get _ (hf w)), State.flag_congr (State.modLane_get ..), State.count, State.flag_put_other _ _ _ _ (hc w)]
    exact State.flag_putFlag_same _ _ _ (by cases w <;> decide) (by cases w <;> rfl)
  · exact State.flag_congr (State.laneSet_get _ _ _ (hc _) (hf _) (by cases w <;> decide))

theorem State.laneSet_downs (s : State) (w up : Bool) :
    (s.laneSet w up).get (RDG_CNT.DOWNS w.toNat) = (s.get (RDG_CNT.DOWNS w.toNat) + 1) % 2 ^ 16 := by
  unfold State.laneSet
  rw [State.updFlane_get _ (by cases w <;> decide), State.modLane_get, State.get_count_same _ (by cases w <;> decide)]
  rw [State.putFlag, State.get_put_other _ _ _ _ (by cases w <;> decide)]

theorem State.laneSet_lane (s : State) (w up : Bool) :
    ((s.laneSet w up).lane w).badRun = 0 ∧ ((s.laneSet w up).lane w).timeDelay = none ∧ (s.laneSet w up).ridge.nodes = s.ridge.nodes := by
  cases w <;> exact ⟨rfl, rfl, rfl⟩

/-- A lane that changes: counted, its copies of TIME gone, and WRAPPED as the lanes and the table say. -/
theorem State.setLane_shows {s : State} {w up : Bool} (h : s.laneUp w = !up) :
    (s.setLane w up).laneUp w = up ∧ (s.setLane w up).laneUp (!w) = s.laneUp (!w) ∧
    (s.setLane w up).get (RDG_CNT.DOWNS w.toNat) = (s.get (RDG_CNT.DOWNS w.toNat) + 1) % 2 ^ 16 ∧
    (s.setLane w up).flag RDG_STATUS.WRAPPED = (!up || !s.laneUp (!w) || s.ridge.nodes.any (fun n => !n.eUp || !n.wUp)) ∧
    ((s.setLane w up).lane w).timeDelay = none ∧ ((s.setLane w up).lane w).badRun = 0 := by
  rw [State.setLane_changes h]
  obtain ⟨hs, ho⟩ := s.laneSet_laneUp w up
  obtain ⟨hb, ht, hn⟩ := s.laneSet_lane w up
  have hd := s.laneSet_downs w up
  generalize s.laneSet w up = u at hs ho hb ht hn hd
  have hup : ∀ v, u.updWrapped.laneUp v = u.laneUp v := fun v =>
    State.flag_congr (u.updWrapped_get (by cases v <;> decide) (by unfold qcpWord; cases v <;> decide))
  refine ⟨(hup w).trans hs, (hup _).trans ho, (u.updWrapped_get (by cases w <;> decide) (by unfold qcpWord; cases w <;> decide)).trans hd, ?_,
    (congrArg Lane.timeDelay (State.lane_congr u.updWrapped_ridge w)).trans ht,
    (congrArg Lane.badRun (State.lane_congr u.updWrapped_ridge w)).trans hb⟩
  rw [State.updWrapped_wrapped, State.ringBroken, hn]
  cases w with
  | false => rw [hs, ← ho]; rfl
  | true => rw [hs, ← ho, Bool.or_comm (!up)]; rfl

end Sys2Proof.Machine
end

section
/-! Lane changes, the frames that a node sends, node expiry and the bypass (O47: R553 to R563, R574 to R576). -/

namespace Sys2Proof.Machine

/-! ## Lanes (R555, R556) -/

theorem exec_laneLoss {w : Bool} {s : State} (h : s.laneUp w = true) {c : Instr} (hc : c ∈ [Instr.blockLockLoss w, .laneFrameTimeout w]) :
    Leads c s (fun t => t.laneUp w = false ∧ t.laneUp (!w) = s.laneUp (!w) ∧
      t.get (RDG_CNT.DOWNS w.toNat) = (s.get (RDG_CNT.DOWNS w.toNat) + 1) % 2 ^ 16 ∧ t.flag RDG_STATUS.WRAPPED = true ∧
      (t.lane w).timeDelay = none) := by
  obtain ⟨hs, ho, hd, hw, ht, -⟩ := State.setLane_shows (up := false) h
  refine ⟨s.setLane w false, ?_, hs, ho, hd, hw, ht⟩
  simp only [List.mem_cons, List.not_mem_nil, or_false] at hc
  obtain rfl | rfl := hc <;> rfl

theorem exec_laneUp {w : Bool} {s : State} (hr : s.ridgeOn = true) (h : s.laneUp w = false) :
    Leads (.laneUp w) s (fun t => t.laneUp w = true ∧ t.laneUp (!w) = s.laneUp (!w) ∧
      t.get (RDG_CNT.DOWNS w.toNat) = (s.get (RDG_CNT.DOWNS w.toNat) + 1) % 2 ^ 16 ∧
      t.flag RDG_STATUS.WRAPPED = (!s.laneUp (!w) || s.ridge.nodes.any (fun n => !n.eUp || !n.wUp))) := by
  obtain ⟨hs, ho, hd, hw, -⟩ := State.setLane_shows (up := true) h
  exact ⟨s.setLane w true, congrArg Host.Outcome.next (State.whenDo_pos hr), hs, ho, hd, hw⟩

/-! ## Frames that a node sends (R553, R557, R559, R561) -/

/-- A frame that the node itself originates now, as it leaves a lane. -/
def State.ownFrame (s : State) (type : Nat) (seq : BitVec 32) (payload : List Byte) (w : Bool) : Out :=
  .ridge { type := type, west := w, origin := s.nodeId, hops := 0, seq := seq, corr := 0, time := s.now, payload := payload }

/-- One copy on each lane that is UP. -/
def State.ownCopies (s : State) (type : Nat) (seq : BitVec 32) (payload : List Byte) : List Out :=
  ([false, true].filter (fun w => s.laneUp w)).map (s.ownFrame type seq payload)

theorem State.ownCopies_eq (s : State) (type : Nat) (seq : BitVec 32) (payload : List Byte) :
    s.ownCopies type seq payload = (if s.laneUp false then [s.ownFrame type seq payload false] else []) ++
      (if s.laneUp true then [s.ownFrame type seq payload true] else []) := by
  unfold State.ownCopies
  cases hf : s.laneUp false <;> cases ht : s.laneUp true <;> simp [hf, ht]

/-- Something more has left, as it is. -/
def State.sent (s : State) (l : List Out) : State := { s with out := s.out ++ l }

/-- Without perturbations a copy that leaves a lane that is UP changes nothing but what has left. -/
theorem State.sendLane_sends {s : State} (hd : s.get PTB_RDROP.N = 0) (hc : s.get PTB_CRC.N = 0) (w : Bool) (f : RidgeFrame) :
    s.sendLane w f = s.sent (if s.laneUp w then [.ridge { f with west := w }] else []) := by
  cases h : s.laneUp w with
  | true => rw [State.sendLane_up h, State.emit_ridgeFrame hd hc]; rfl
  | false => rw [State.sendLane_down h, if_neg (by decide), State.sent, List.append_nil]

/-- DLY_REQ on one lane. -/
def State.dlyAsked (s : State) (w : Bool) : State :=
  if s.laneUp w then (s.modLane w (fun l => { l with t1 := some s.now })).sendHop w 1 s.now [] else s

theorem State.dlyAsked_asks {s : State} (hd : s.get PTB_RDROP.N = 0) (hc : s.get PTB_CRC.N = 0) (w : Bool) :
    (s.dlyAsked w).regs = s.regs ∧ (s.dlyAsked w).clk = s.clk ∧
    (s.dlyAsked w).out = s.out ++ (if s.laneUp w then [s.ownFrame 1 0 [] w] else []) ∧
    (s.laneUp w = true → ((s.dlyAsked w).lane w).t1 = some s.now) ∧ (s.dlyAsked w).lane (!w) = s.lane (!w) := by
  unfold State.dlyAsked
  cases h : s.laneUp w with
  | false => exact ⟨rfl, rfl, (List.append_nil _).symm, fun h => absurd h (by decide), rfl⟩
  | true =>
    have hm := fun g => s.modLane_get w (fun l => { l with t1 := some s.now }) g
    rw [if_pos rfl, State.sendHop, State.sendLane_sends ((hm _).trans hd) ((hm _).trans hc)]
    have hup : (s.modLane w (fun l => { l with t1 := some s.now })).laneUp w = true := (State.flag_congr (hm _)).trans h
    rw [hup]
    cases w <;> exact ⟨rfl, rfl, rfl, fun _ => rfl, rfl⟩

theorem exec_dlyReqSend {s : State} (hr : s.ridgeOn = true) (hd : s.get PTB_RDROP.N = 0) (hc : s.get PTB_CRC.N = 0) :
    Leads .dlyReqSend s (fun t => t.out = s.out ++ s.ownCopies 1 0 [] ∧ ∀ w, s.laneUp w = true → (t.lane w).t1 = some s.now) := by
  obtain ⟨hre, hce, hoe, hte, -⟩ := State.dlyAsked_asks hd hc false
  have hg := State.get_regs hre
  obtain ⟨-, -, how, htw, hlw⟩ := State.dlyAsked_asks ((hg _).trans hd) ((hg _).trans hc) true
  have hup : (s.dlyAsked false).laneUp true = s.laneUp true := State.flag_congr (hg _)
  have hnow : (s.dlyAsked false).now = s.now := congrArg (· / 2 ^ 24) hce
  have hfr : (s.dlyAsked false).ownFrame 1 0 [] true = s.ownFrame 1 0 [] true := by
    unfold State.ownFrame State.nodeId
    rw [hg, hnow]
  refine ⟨(s.dlyAsked false).dlyAsked true, congrArg Host.Outcome.next (State.whenDo_pos hr), ?_, fun w h => ?_⟩
  · rw [how, hoe, hup, hfr, State.ownCopies_eq, List.append_assoc]
  · cases w with
    | false => exact (congrArg Lane.t1 hlw).trans (hte h)
    | true => exact (htw (hup.trans h)).trans (congrArg some hnow)

/-- A ring frame of the node's own takes a number, and one copy leaves each lane that is UP. -/
theorem State.originate_sends {s : State} {type : Nat} (payload : List Byte) (hr : s.ridgeOn = true)
    (hu : (s.flag RDG_STATUS.DUPID && type != 3) = false) (hd : s.get PTB_RDROP.N = 0) (hc : s.get PTB_CRC.N = 0) :
    (s.originate type s.now payload).ridge.seq = s.ridge.seq + 1 ∧
    (s.originate type s.now payload).out = s.out ++ s.ownCopies type s.ridge.seq payload := by
  let u : State := { s with ridge := { s.ridge with seq := s.ridge.seq + 1 } }
  let f : RidgeFrame := { type := type, west := false, origin := s.nodeId, hops := 0, seq := s.ridge.seq, corr := 0, time := s.now, payload := payload }
  have he : s.originate type s.now payload = (u.sendLane false f).sendLane true f := if_neg (by simp [hr, hu])
  rw [he, State.sendLane_sends (s := u) hd hc, State.sendLane_sends (s := u.sent _) hd hc, State.ownCopies_eq]
  exact ⟨rfl, List.append_assoc _ _ _⟩

/-! ## Nodes, ridge time and the bypass (R557, R563, R574 to R576) -/

/-- A node's entry leaves the table. -/
def State.nodeDropped (s : State) (id : BitVec 12) : State :=
  ({ s with ridge := { s.ridge with nodes := s.ridge.nodes.filter (fun (n : RidgeNode) => !(n.id == id)) } } : State).puts
    [(RDG_NODE_W0.PRESENT id.toNat, 0), (RDG_NODE_W0.VIA id.toNat, 0), (RDG_NODE_W0.HOPS id.toNat, 0), (RDG_NODE_W1.DELAY id.toNat, 0)]

theorem State.nodeDropped_ridge (s : State) (id : BitVec 12) :
    (s.nodeDropped id).ridge = { s.ridge with nodes := s.ridge.nodes.filter (fun (n : RidgeNode) => !(n.id == id)) } := State.puts_ridge ..

theorem State.nodeDropped_present (s : State) (id : BitVec 12) : (s.nodeDropped id).get (RDG_NODE_W0.PRESENT id.toNat) = 0 := by
  unfold State.nodeDropped
  simp only [State.puts_cons, State.puts_nil]
  rw [State.get_put_other _ _ _ _ (.inl (by dsimp only; omega)), State.get_put_other _ _ _ _ (.inr (.inl (show 0 + 12 ≤ 31 by decide))),
    State.get_put_other _ _ _ _ (.inr (.inl (show 30 + 1 ≤ 31 by decide)))]
  exact State.get_put_same _ (RDG_NODE_W0.PRESENT id.toNat) 0 (show 31 + 1 ≤ 32 by decide)

theorem State.updNodes_get (s : State) {f : Fld} (h : RDG_STATUS.NODES.apart f) : s.updNodes.get f = s.get f := State.get_put_other _ _ _ _ h

theorem State.updNodes_nodes (s : State) : s.updNodes.get RDG_STATUS.NODES = (s.ridge.nodes.length + 1) % 2 ^ RDG_STATUS.NODES.width :=
  State.get_put_same _ RDG_STATUS.NODES _ (by decide)

theorem State.updNodes_ridge (s : State) : s.updNodes.ridge = s.ridge := rfl

/-- The entry of a node lies apart from STATUS and from the words of QCP. -/
theorem nodeWord_apart (id : Nat) {f : Fld} (h : f.addr = 0x100008) :
    f.apart (RDG_NODE_W0.PRESENT id) ∧ ¬ qcpWord (RDG_NODE_W0.PRESENT id).addr := by
  have hl := Nat.mod_lt id (show 0 < 4096 by decide)
  refine ⟨.inl ?_, ?_⟩
  · rw [h]
    dsimp only
    omega
  · unfold qcpWord
    dsimp only
    omega

theorem exec_nodeExpire {s : State} {n : RidgeNode} (h : n ∈ s.ridge.nodes) :
    Leads (.nodeExpire n.id) s (fun t => (∀ m, m ∈ t.ridge.nodes ↔ m ∈ s.ridge.nodes ∧ m.id ≠ n.id) ∧
      t.flag (RDG_NODE_W0.PRESENT n.id.toNat) = false ∧ t.get RDG_STATUS.NODES = (t.ridge.nodes.length + 1) % 2 ^ RDG_STATUS.NODES.width) := by
  have ha : (s.ridge.nodes.any (fun m => m.id == n.id)) = true := List.any_eq_true.2 ⟨n, h, beq_self_eq_true _⟩
  have hp := s.nodeDropped_present n.id
  have hr := s.nodeDropped_ridge n.id
  refine ⟨(s.nodeDropped n.id).updNodes.updWrapped, congrArg Host.Outcome.next (State.whenDo_pos ha), ?_⟩
  generalize s.nodeDropped n.id = u at hp hr
  rw [State.updWrapped_ridge, State.updNodes_ridge, State.updWrapped_get _ (by decide) (by unfold qcpWord; decide), State.updNodes_nodes, hr]
  refine ⟨fun m => by simp, ?_, rfl⟩
  obtain ⟨hw, hq⟩ := nodeWord_apart n.id.toNat (f := RDG_STATUS.WRAPPED) rfl
  obtain ⟨hn, -⟩ := nodeWord_apart n.id.toNat (f := RDG_STATUS.NODES) rfl
  unfold State.flag
  rw [State.updWrapped_get _ hw hq, State.updNodes_get _ hn, hp]
  rfl

theorem exec_ridgeTimeLoss (s : State) :
    Leads .ridgeTimeLoss s (fun t => t.flag RDG_STATUS.LOCKED = false ∧ t.ridge.good = 0 ∧ (s.get PTP_CFG.SRC = 2 → s.ptp.hist ≠ [] →
      t.geti PTP_FADJ.FADJ = clampI (-(2 ^ 31)) (2 ^ 31 - 1) (divRound (sumI (s.ptp.hist.map (·.2))) s.ptp.hist.length))) := by
  let u : State := ({ s with ridge := { s.ridge with good := 0 } } : State).put RDG_STATUS.LOCKED 0
  have hl : u.flag RDG_STATUS.LOCKED = false := State.flag_put_same _ RDG_STATUS.LOCKED 0 (by decide)
  refine ⟨if s.get PTP_CFG.SRC = 2 then u.holdFadj else u, rfl, ?_⟩
  by_cases h : s.get PTP_CFG.SRC = 2
  · rw [if_pos h]
    have hr : u.holdFadj.ridge = u.ridge := State.holdFadj_within.comp .ridge (by decide)
    exact ⟨(State.flag_congr (u.holdFadj_get (by decide))).trans hl, congrArg Ridge.good hr, fun _ hh => State.holdFadj_fadj (s := u) hh⟩
  · rw [if_neg h]
    exact ⟨hl, rfl, fun hs => absurd hs h⟩

/-- INS set and cleared, with WRAPPED as it was. -/
theorem State.put_ins (s : State) (n : Nat) : (s.put RDG_STATUS.INS n).flag RDG_STATUS.INS = (n % 2 != 0) ∧
    (s.put RDG_STATUS.INS n).flag RDG_STATUS.WRAPPED = s.flag RDG_STATUS.WRAPPED :=
  ⟨State.flag_put_same _ RDG_STATUS.INS n (by decide), State.flag_put_other _ _ _ _ (by decide)⟩

/-- Settles O47: lanes, frames of the node's own, expiry and bypass; the byte order of the PRESENCE lane field is log entry 116's. -/
theorem ridgeLanesComplete : Obligations.RidgeLanesComplete := by
  unfold Obligations.RidgeLanesComplete
  refine ⟨fun w s => ⟨fun h c hc => exec_laneLoss h hc, exec_laneUp⟩, ?frames, fun s => ⟨fun n h => exec_nodeExpire h, exec_ridgeTimeLoss s, ?ins⟩⟩
  case frames =>
    rintro s _ hr hd hc rfl
    refine ⟨exec_dlyReqSend hr hd hc, ⟨_, rfl, State.originate_sends _ hr (by simp) hd hc⟩, fun hm hy hu => ?_⟩
    exact ⟨_, congrArg Host.Outcome.next (State.whenDo_pos (by simp [hm, hy])), State.originate_sends [] hr (by simp [hu]) hd hc⟩
  case ins =>
    exact ⟨⟨_, rfl, s.put_ins 0⟩,
      fun he hi hE hW hp => ⟨_, congrArg Host.Outcome.next (State.whenDo_pos (by simp [he, hi, hE, hW, hp])), s.put_ins 1⟩,
      fun hi hd => ⟨_, congrArg Host.Outcome.next (State.whenDo_pos (by obtain h | h := hd <;> simp [hi, h])), s.put_ins 0⟩⟩

end Sys2Proof.Machine
end

section
/-! The frames that arrive on a ridge lane (O46: R551 to R569). -/

namespace Sys2Proof.Machine

/-! ## Bad frames and hop delay (R551, R552, R555, R559) -/

theorem exec_ridgeIdleFrame (h : RidgeHdr) (s : State) : Leads (.ridgeIdleFrame h) s (fun t => (t.lane h.laneW).badRun = 0 ∧ t.regs = s.regs) :=
  ⟨_, rfl, congrArg Lane.badRun (s.lane_modLane_same ..), s.modLane_regs ..⟩

/-- A bad frame counted, and its run on the lane. -/
def State.badCounted (s : State) (w : Bool) : State :=
  (s.countSat (RDG_CNT.CRCERR w.toNat)).modLane w (fun l => { l with badRun := (s.lane w).badRun + 1 })

theorem State.badCounted_shows (s : State) (w : Bool) :
    ((s.badCounted w).lane w).badRun = (s.lane w).badRun + 1 ∧ (s.badCounted w).laneUp w = s.laneUp w ∧
    (s.badCounted w).get (RDG_CNT.CRCERR w.toNat) = min (s.get (RDG_CNT.CRCERR w.toNat) + 1) (2 ^ 16 - 1) := by
  unfold State.badCounted
  refine ⟨congrArg Lane.badRun (State.lane_modLane_same ..), State.flag_congr ?_, ?_⟩
  · rw [State.modLane_get, State.countSat, State.get_put_other _ _ _ _ (by cases w <;> decide)]
  · rw [State.modLane_get, State.get_countSat_same _ (by cases w <;> decide)]

theorem exec_ridgeCrcError (w : Bool) (s : State) : exec (.ridgeCrcError w) s =
    .next (if 8 ≤ (s.lane w).badRun + 1 then (s.badCounted w).setLane w false else s.badCounted w) := rfl

theorem ridgeCrcError_counts {w : Bool} {s : State} (h : (s.lane w).badRun + 1 < 8) :
    Leads (.ridgeCrcError w) s (fun t => (t.lane w).badRun = (s.lane w).badRun + 1 ∧ t.laneUp w = s.laneUp w ∧
      t.get (RDG_CNT.CRCERR w.toNat) = min (s.get (RDG_CNT.CRCERR w.toNat) + 1) (2 ^ 16 - 1)) :=
  ⟨_, (exec_ridgeCrcError w s).trans (congrArg _ (if_neg (Nat.not_le.2 h))), s.badCounted_shows w⟩

/-- The eighth bad frame in a row takes the lane down. -/
theorem ridgeCrcError_downs {w : Bool} {s : State} (h : 8 ≤ (s.lane w).badRun + 1) :
    Leads (.ridgeCrcError w) s (fun t => t.laneUp w = false ∧ (s.laneUp w = true → (t.lane w).badRun = 0 ∧ t.flag RDG_STATUS.WRAPPED = true)) := by
  obtain ⟨-, hup, -⟩ := s.badCounted_shows w
  refine ⟨_, (exec_ridgeCrcError w s).trans (congrArg _ (if_pos h)), ?_⟩
  generalize s.badCounted w = u at hup
  cases hs : s.laneUp w with
  | false =>
    rw [State.setLane_same (hup.trans hs)]
    exact ⟨hup.trans hs, fun hc => absurd hc (by decide)⟩
  | true =>
    obtain ⟨hd, -, -, hw, -, hb⟩ := State.setLane_shows (up := false) (hup.trans hs)
    exact ⟨hd, fun _ => ⟨hb, hw⟩⟩

theorem State.goodFrame_get (s : State) (w : Bool) (f : Fld) : (s.goodFrame w).get f = s.get f := State.modLane_get ..

theorem State.goodFrame_ridge (s : State) (w : Bool) :
    (s.goodFrame w).ridge.nodes = s.ridge.nodes ∧ (s.goodFrame w).ridge.seen = s.ridge.seen ∧ (s.goodFrame w).ridge.yielded = s.ridge.yielded ∧
    (s.goodFrame w).ridge.syncs = s.ridge.syncs := by
  cases w <;> exact ⟨rfl, rfl, rfl, rfl⟩

theorem State.goodFrame_eq (s : State) (w : Bool) : s.goodFrame w = { s with ridge := (s.goodFrame w).ridge } := by cases w <;> rfl

section

variable {h : RidgeHdr} {s : State} (hr : s.ridgeOn = true) (hl : s.laneUp h.laneW = true)

include hr hl

/-- DLY_REQ is answered on the lane it came by. -/
theorem exec_dlyReq : Leads (.dlyReq h) s (fun t => t.out = (s.emit (.ridge
      { type := 2, west := h.laneW, origin := s.nodeId, hops := 0, seq := 0, corr := 0, time := s.now
        payload := timeBytes h.time ++ timeBytes h.arrival })).out) := by
  refine ⟨_, congrArg Host.Outcome.next (State.whenDo_pos (by simp [hr, hl])), ?_⟩
  have hn : (s.goodFrame h.laneW).nodeId = s.nodeId := congrArg (BitVec.ofNat 12) (s.goodFrame_get ..)
  have hu : (s.goodFrame h.laneW).laneUp h.laneW = true := (State.flag_congr (s.goodFrame_get ..)).trans hl
  have he := fun o => congrArg State.out (s.emit_withRidge (s.goodFrame h.laneW).ridge o)
  rw [← State.goodFrame_eq] at he
  rw [State.sendHop, State.sendLane_up hu, hn]
  exact he _

theorem exec_dlyRsp {t1 t2 : Ts} {d : Int} {l : List Int} (h1 : (s.lane h.laneW).t1 = some t1)
    (hd : d = h.arrival - t1 - (h.time - t2) + s.geti (RDG_ASYM.ASYM h.laneW.toNat) * 256) (hm : l = (d :: (s.lane h.laneW).hops).take 16) :
    Leads (.dlyRsp h t1 t2) s (fun t => (t.lane h.laneW).hops = l ∧ (t.lane h.laneW).t1 = none ∧
      t.get (RDG_HOP.HOP h.laneW.toNat) = pattern 32 (divRound (sumI l) (l.length * 512))) := by
  subst hd hm
  refine ⟨_, congrArg Host.Outcome.next (State.whenDo_pos (by simp [hr, hl, h1])), ?_, ?_, ?_⟩
  · exact congrArg Lane.hops (State.lane_modLane_same ..)
  · exact congrArg Lane.t1 (State.lane_modLane_same ..)
  · exact (State.get_put_same _ (RDG_HOP.HOP h.laneW.toNat) _ (show 0 + 32 ≤ 32 by decide)).trans (pattern_mod ..)

end

/-! ## A ring frame on its way (R553; log entry 116) -/

/-- The states alike for what a ring frame is acted on by: the table, the clock, and the words apart from those of the perturbations and QCP. -/
def State.ringAlike (s t : State) : Prop :=
  t.ridge.nodes = s.ridge.nodes ∧ t.clk = s.clk ∧ t.ptp = s.ptp ∧ ∀ f : Fld, blockOf f.addr ∉ [24, 25] → t.get f = s.get f

theorem State.ringAlike.trans {s t u : State} (h : s.ringAlike t) (k : t.ringAlike u) : s.ringAlike u :=
  ⟨k.1.trans h.1, k.2.1.trans h.2.1, k.2.2.1.trans h.2.2.1, fun f hf => (k.2.2.2 f hf).trans (h.2.2.2 f hf)⟩

theorem State.ringAlike.nodeId {s t : State} (h : s.ringAlike t) : t.nodeId = s.nodeId :=
  congrArg (BitVec.ofNat 12) (h.2.2.2 RDG_CFG.NODE_ID (by decide))

theorem State.ringAlike.flag {s t : State} (h : s.ringAlike t) {f : Fld} (hf : blockOf f.addr ∉ [24, 25]) : t.flag f = s.flag f :=
  State.flag_congr (h.2.2.2 f hf)

theorem State.ringAlike.serial {s t : State} (h : s.ringAlike t) : t.serial = s.serial := by
  unfold State.serial
  rw [h.2.2.2 _ (by decide), h.2.2.2 _ (by decide)]

theorem State.ringAlike.hopDelay {s t : State} (h : s.ringAlike t) (w : Bool) : t.hopDelay w = s.hopDelay w := by
  unfold State.hopDelay
  rw [h.2.2.2 _ (by cases w <;> decide)]

/-- A good frame forwarded. -/
def State.passed (s : State) (h : RidgeHdr) (type : Nat) (payload : List Byte) : State := (s.goodFrame h.laneW).forward h type payload

theorem State.passed_ridge (s : State) (h : RidgeHdr) (type : Nat) (payload : List Byte) :
    (s.passed h type payload).ridge = (s.goodFrame h.laneW).ridge := State.forward_within.comp .ridge (by decide)

theorem State.goodFrame_alike (s : State) (w : Bool) : s.ringAlike (s.goodFrame w) :=
  ⟨(s.goodFrame_ridge w).1, State.goodFrame_within.comp .clk (by decide), State.goodFrame_within.comp .ptp (by decide), fun _ _ => s.goodFrame_get w _⟩

theorem State.passed_alike (s : State) (h : RidgeHdr) (type : Nat) (payload : List Byte) : s.ringAlike (s.passed h type payload) :=
  (s.goodFrame_alike h.laneW).trans ⟨congrArg Ridge.nodes (s.passed_ridge ..), State.forward_within.comp .clk (by decide),
    State.forward_within.comp .ptp (by decide), fun _ hf => State.forward_within.get fun hb => hf (List.mem_append_left [25] hb)⟩

/-- The copy's origin and number noted as seen, or struck out. -/
def State.withSeen (s : State) (l : List (BitVec 12 × BitVec 32)) : State := { s with ridge := { s.ridge with seen := l } }

theorem State.withSeen_alike (s : State) (l : List (BitVec 12 × BitVec 32)) : s.ringAlike (s.withSeen l) := ⟨rfl, rfl, rfl, fun _ _ => rfl⟩

/-- A ring frame on a bus that is off or down, of the node's own, seen before, or new. -/
theorem State.ringFrame_cases (s : State) (h : RidgeHdr) (type : Nat) (payload : List Byte) (act : State → State) :
    s.ringFrame h type payload act = s ∨ s.ringFrame h type payload act = s.goodFrame h.laneW ∨
    (∃ l, s.ringFrame h type payload act = (s.passed h type payload).withSeen l) ∨
    (∃ l, s.ringFrame h type payload act = act ((s.passed h type payload).withSeen l)) := by
  unfold State.ringFrame
  dsimp only
  split
  · exact .inl rfl
  · split
    · exact .inr (.inl rfl)
    · split
      · exact .inr (.inr (.inl ⟨_, rfl⟩))
      · exact .inr (.inr (.inr ⟨_, rfl⟩))

/-- Whichever it is, and whatever is done at the first copy that leaves what frames are acted on by. -/
theorem State.ringFrame_alike {s : State} {act : State → State} (h : RidgeHdr) (type : Nat) (payload : List Byte)
    (ha : ∀ u, s.ringAlike u → s.ringAlike (act u)) : s.ringAlike (s.ringFrame h type payload act) := by
  have hp := fun l => (s.passed_alike h type payload).trans (State.withSeen_alike _ l)
  obtain he | he | ⟨l, he⟩ | ⟨l, he⟩ := s.ringFrame_cases h type payload act <;> rw [he]
  · exact ⟨rfl, rfl, rfl, fun _ _ => rfl⟩
  · exact s.goodFrame_alike _
  · exact hp l
  · exact ha _ (hp l)

/-- The first copy of a frame, of another node or the PRESENCE of one with this identifier, is acted on. -/
theorem State.ringFrame_new {s : State} {h : RidgeHdr} {type : Nat} (payload : List Byte) (act : State → State) (hr : s.ridgeOn = true)
    (hl : s.laneUp h.laneW = true) (ho : h.origin ≠ s.nodeId ∨ type = 3) (hs : (h.origin, h.seq) ∉ s.ridge.seen) :
    s.ringFrame h type payload act = act ((s.passed h type payload).withSeen (s.ridge.seen ++ [(h.origin, h.seq)])) := by
  have hseen : (s.passed h type payload).ridge.seen = s.ridge.seen :=
    (congrArg Ridge.seen (s.passed_ridge ..)).trans (s.goodFrame_ridge _).2.1
  have hown : (decide (h.origin = s.nodeId) && type != 3) = false := by
    obtain ho | rfl := ho
    · rw [decide_eq_false ho, Bool.false_and]
    · exact Bool.and_false _
  unfold State.ringFrame
  dsimp only
  rw [if_neg (by simp [hr, hl]), if_neg (by simp [hown])]
  unfold State.passed at hseen ⊢
  rw [hseen, if_neg (by simpa using hs)]
  rfl

/-! ## PRESENCE (R556 to R558, R567, R568; log entry 116) -/

theorem State.updHorizon_get (s : State) {f : Fld} (h : RDG_STATUS.HSHORT.apart f) (hq : ¬ qcpWord f.addr) : s.updHorizon.get f = s.get f := by
  unfold State.updHorizon
  dsimp only
  split
  · rw [State.eventAll_get _ _ _ _ hq]
    exact State.get_put_other _ _ _ _ h
  · exact State.get_put_other _ _ _ _ h

theorem State.updHorizon_hshort (s : State) :
    s.updHorizon.flag RDG_STATUS.HSHORT = decide (s.get RDG_HORIZON.H * 1000 < s.get RDG_LATMAX.LATMAX + 1000) := by
  unfold State.updHorizon
  dsimp only
  generalize decide (s.get RDG_HORIZON.H * 1000 < s.get RDG_LATMAX.LATMAX + 1000) = short
  split
  case isTrue h =>
    rw [State.eventAll_flag _ _ _ _ (by unfold qcpWord; decide), State.flag_put_same _ _ _ (by decide)]
    exact (Bool.and_eq_true_iff.1 h).1.symm
  case isFalse => exact State.flag_putFlag_same _ _ _ (by decide) rfl

/-- The device's own frame, come back with what it gathered on its way. -/
def State.ringMeasured (s : State) (h : RidgeHdr) : State :=
  if s.flag RDG_STATUS.WRAPPED then s else s.put RDG_LATMAX.LATMAX (h.corr / ns)

theorem exec_presence_own {h : RidgeHdr} {serial : BitVec 48} (eUp wUp : Bool) {s : State} (hr : s.ridgeOn = true) (hl : s.laneUp h.laneW = true)
    (ho : h.origin = s.nodeId) (hs : serial.toNat = s.serial) :
    exec (.presence h serial eUp wUp) s = .next ((s.goodFrame h.laneW).ringMeasured h).updHorizon := by
  show Host.Outcome.next (presenceStep h serial eUp wUp s) = _
  unfold presenceStep
  dsimp only
  rw [if_pos (by simp [ho, hs]), State.whenDo_pos (by simp [hr, hl])]
  rfl

theorem presence_own_measures {h : RidgeHdr} {serial : BitVec 48} (eUp wUp : Bool) {s : State} (hr : s.ridgeOn = true) (hl : s.laneUp h.laneW = true)
    (ho : h.origin = s.nodeId) (hs : serial.toNat = s.serial) :
    Leads (.presence h serial eUp wUp) s (fun t =>
      (s.flag RDG_STATUS.WRAPPED = false → t.get RDG_LATMAX.LATMAX = h.corr / ns % 2 ^ 32) ∧
      t.flag RDG_STATUS.HSHORT = decide (t.get RDG_HORIZON.H * 1000 < t.get RDG_LATMAX.LATMAX + 1000)) := by
  refine ⟨_, exec_presence_own eUp wUp hr hl ho hs, fun hw => ?_, ?_⟩
  · rw [State.updHorizon_get _ (by decide) (by unfold qcpWord; decide), State.ringMeasured,
      if_neg (by rw [State.flag_congr (State.goodFrame_get ..), hw]; decide)]
    exact State.get_put_same _ RDG_LATMAX.LATMAX _ (by decide)
  · rw [State.updHorizon_hshort, State.updHorizon_get _ (by decide) (by unfold qcpWord; decide),
      State.updHorizon_get _ (by decide) (by unfold qcpWord; decide)]

/-- What is done at the first copy of a PRESENCE: one with this identifier and a smaller serial number is a duplicate. -/
def State.dupCheck (h : RidgeHdr) (serial : BitVec 48) (s : State) : State :=
  if h.origin = s.nodeId then
    if serial.toNat < s.serial && !s.flag RDG_STATUS.DUPID then (s.put RDG_STATUS.DUPID 1).eventAll 0x0903 0 else s
  else s

/-- The payload of a PRESENCE, as it is forwarded. -/
def presenceBytes (serial : BitVec 48) (eUp wUp : Bool) : List Byte :=
  beBytes 6 serial.toNat ++ [BitVec.ofNat 8 (eUp.toNat * 2 + wUp.toNat)]

theorem exec_presence {h : RidgeHdr} {serial : BitVec 48} (eUp wUp : Bool) {s : State} (hn : ¬ (h.origin = s.nodeId ∧ serial.toNat = s.serial)) :
    exec (.presence h serial eUp wUp) s =
      .next ((s.ringFrame h 3 (presenceBytes serial eUp wUp) (State.dupCheck h serial)).whenDo
        (s.ridgeOn && s.laneUp h.laneW && !(h.origin == s.nodeId)) fun t => (t.learnPath h serial eUp wUp).updWrapped) := by
  show Host.Outcome.next (presenceStep h serial eUp wUp s) = _
  unfold presenceStep
  dsimp only
  rw [if_neg (by simpa using hn)]
  rfl

theorem State.dupCheck_finds {s : State} {h : RidgeHdr} {serial : BitVec 48} (ho : h.origin = s.nodeId) (hs : serial.toNat < s.serial) :
    (s.dupCheck h serial).flag RDG_STATUS.DUPID = true ∧ (s.dupCheck h serial).ridge.nodes = s.ridge.nodes := by
  unfold State.dupCheck
  rw [if_pos ho]
  cases hd : s.flag RDG_STATUS.DUPID with
  | true =>
    rw [if_neg (by simp)]
    exact ⟨hd, rfl⟩
  | false =>
    rw [if_pos (by simp [hs]), State.eventAll_flag _ _ _ _ (by unfold qcpWord; decide), State.eventAll_ridge]
    exact ⟨State.flag_put_same _ RDG_STATUS.DUPID 1 (by decide), rfl⟩

theorem exec_presence_duplicate {h : RidgeHdr} {serial : BitVec 48} (eUp wUp : Bool) {s : State} (hr : s.ridgeOn = true)
    (hl : s.laneUp h.laneW = true) (ho : h.origin = s.nodeId) (hs : serial.toNat < s.serial) (hk : (h.origin, h.seq) ∉ s.ridge.seen) :
    Leads (.presence h serial eUp wUp) s (fun t => t.flag RDG_STATUS.DUPID = true ∧ t.ridge.nodes = s.ridge.nodes) := by
  refine ⟨_, exec_presence eUp wUp fun hh => absurd hh.2 hs.ne, ?_⟩
  rw [State.whenDo_neg (by simp [ho]), State.ringFrame_new _ _ hr hl (.inr rfl) hk]
  have ha := (s.passed_alike h 3 (presenceBytes serial eUp wUp)).trans (State.withSeen_alike _ (s.ridge.seen ++ [(h.origin, h.seq)]))
  generalize (s.passed h 3 (presenceBytes serial eUp wUp)).withSeen (s.ridge.seen ++ [(h.origin, h.seq)]) = u at ha
  obtain ⟨hd, hn⟩ := State.dupCheck_finds (s := u) (h := h) (serial := serial) (ho.trans ha.nodeId.symm) (ha.serial ▸ hs)
  exact ⟨hd, hn.trans ha.1⟩

theorem State.dupCheck_other {s : State} {h : RidgeHdr} (serial : BitVec 48) (ho : h.origin ≠ s.nodeId) : s.dupCheck h serial = s := if_neg ho

/-- A node as one copy of its PRESENCE leaves its entry. -/
def State.nodeHeard (s : State) (h : RidgeHdr) (serial : BitVec 48) (eUp wUp : Bool) : RidgeNode :=
  let old := (s.ridge.nodes.find? (fun n => n.id == h.origin)).getD { id := h.origin, serial := serial }
  if h.laneW then { old with viaW := some (h.hops.toNat + 1, h.corr + s.hopDelay h.laneW), serial := serial, eUp := eUp, wUp := wUp }
  else { old with viaE := some (h.hops.toNat + 1, h.corr + s.hopDelay h.laneW), serial := serial, eUp := eUp, wUp := wUp }

theorem State.nodeHeard_shows (s : State) (h : RidgeHdr) (serial : BitVec 48) (eUp wUp : Bool) :
    (s.nodeHeard h serial eUp wUp).id = h.origin ∧ (s.nodeHeard h serial eUp wUp).serial = serial ∧ (s.nodeHeard h serial eUp wUp).eUp = eUp ∧
    (s.nodeHeard h serial eUp wUp).wUp = wUp ∧
    (if h.laneW then (s.nodeHeard h serial eUp wUp).viaW else (s.nodeHeard h serial eUp wUp).viaE) =
      some (h.hops.toNat + 1, h.corr + s.hopDelay h.laneW) := by
  have hid : ((s.ridge.nodes.find? (fun n => n.id == h.origin)).getD { id := h.origin, serial := serial }).id = h.origin := by
    cases hf : s.ridge.nodes.find? (fun n => n.id == h.origin) with
    | none => rfl
    | some n => simpa using List.find?_some hf
  unfold State.nodeHeard
  cases h.laneW <;> exact ⟨hid, rfl, rfl, rfl, rfl⟩

/-- The table with the node's entry renewed. -/
def State.nodeKept (s : State) (h : RidgeHdr) (n : RidgeNode) : State :=
  { s with ridge := { s.ridge with nodes := s.ridge.nodes.filter (fun (m : RidgeNode) => !(m.id == h.origin)) ++ [n] } }

theorem State.learnPath_eq (s : State) (h : RidgeHdr) (serial : BitVec 48) (eUp wUp : Bool) :
    s.learnPath h serial eUp wUp = ((s.nodeKept h (s.nodeHeard h serial eUp wUp)).nodeEntry (s.nodeHeard h serial eUp wUp)).updNodes := rfl

theorem State.nodeEntry_ridge (s : State) (n : RidgeNode) : (s.nodeEntry n).ridge = s.ridge := State.puts_ridge ..

theorem State.nodeEntry_present (s : State) (n : RidgeNode) : (s.nodeEntry n).get (RDG_NODE_W0.PRESENT n.id.toNat) = 1 := by
  unfold State.nodeEntry
  dsimp only
  simp only [State.puts_cons, State.puts_nil]
  rw [State.get_put_other _ _ _ _ (.inl (by dsimp only; omega)), State.get_put_other _ _ _ _ (.inr (.inl (show 0 + 12 ≤ 31 by decide))),
    State.get_put_other _ _ _ _ (.inr (.inl (show 30 + 1 ≤ 31 by decide)))]
  exact State.get_put_same _ (RDG_NODE_W0.PRESENT n.id.toNat) 1 (show 31 + 1 ≤ 32 by decide)

/-- A copy of another node's PRESENCE enters the table, with its path. -/
theorem State.learnPath_learns (s : State) (h : RidgeHdr) (serial : BitVec 48) (eUp wUp : Bool) :
    (s.learnPath h serial eUp wUp).updWrapped.flag (RDG_NODE_W0.PRESENT h.origin.toNat) = true ∧
    (s.learnPath h serial eUp wUp).updWrapped.ridge.nodes =
      s.ridge.nodes.filter (fun (m : RidgeNode) => !(m.id == h.origin)) ++ [s.nodeHeard h serial eUp wUp] ∧
    (s.learnPath h serial eUp wUp).updWrapped.get RDG_STATUS.NODES =
      ((s.learnPath h serial eUp wUp).updWrapped.ridge.nodes.length + 1) % 2 ^ RDG_STATUS.NODES.width := by
  obtain ⟨hid, -⟩ := s.nodeHeard_shows h serial eUp wUp
  rw [State.learnPath_eq]
  generalize s.nodeHeard h serial eUp wUp = n at hid
  have hr : ((s.nodeKept h n).nodeEntry n).ridge.nodes = s.ridge.nodes.filter (fun (m : RidgeNode) => !(m.id == h.origin)) ++ [n] :=
    congrArg Ridge.nodes (State.nodeEntry_ridge ..)
  have hp := (s.nodeKept h n).nodeEntry_present n
  generalize (s.nodeKept h n).nodeEntry n = u at hr hp
  obtain ⟨hw, hq⟩ := nodeWord_apart n.id.toNat (f := RDG_STATUS.WRAPPED) rfl
  obtain ⟨hn, -⟩ := nodeWord_apart n.id.toNat (f := RDG_STATUS.NODES) rfl
  rw [State.updWrapped_ridge, State.updNodes_ridge, State.updWrapped_get _ (by decide) (by unfold qcpWord; decide), State.updNodes_nodes, ← hid]
  refine ⟨?_, hid ▸ hr, rfl⟩
  unfold State.flag
  rw [State.updWrapped_get _ hw hq, State.updNodes_get _ hn, hp]
  rfl

theorem exec_presence_other {h : RidgeHdr} (serial : BitVec 48) (eUp wUp : Bool) {s : State} (hr : s.ridgeOn = true)
    (hl : s.laneUp h.laneW = true) (ho : h.origin ≠ s.nodeId) :
    Leads (.presence h serial eUp wUp) s (fun t => t.flag (RDG_NODE_W0.PRESENT h.origin.toNat) = true ∧
      (∃ n ∈ t.ridge.nodes, n.id = h.origin ∧ n.serial = serial ∧ n.eUp = eUp ∧ n.wUp = wUp ∧
        (if h.laneW then n.viaW else n.viaE) = some (h.hops.toNat + 1, h.corr + s.hopDelay h.laneW)) ∧
      (∀ n, n.id ≠ h.origin → (n ∈ t.ridge.nodes ↔ n ∈ s.ridge.nodes)) ∧
      t.get RDG_STATUS.NODES = (t.ridge.nodes.length + 1) % 2 ^ RDG_STATUS.NODES.width) := by
  refine ⟨_, exec_presence eUp wUp fun hh => ho hh.1, ?_⟩
  rw [State.whenDo_pos (by simp [hr, hl, ho])]
  have ha := State.ringFrame_alike (s := s) (act := State.dupCheck h serial) h 3 (presenceBytes serial eUp wUp) fun u hu => by
    rwa [State.dupCheck_other serial (hu.nodeId ▸ ho)]
  generalize s.ringFrame h 3 (presenceBytes serial eUp wUp) (State.dupCheck h serial) = u at ha
  obtain ⟨hp, hn, hc⟩ := u.learnPath_learns h serial eUp wUp
  obtain ⟨hid, hser, hE, hW, hvia⟩ := u.nodeHeard_shows h serial eUp wUp
  refine ⟨hp, ⟨u.nodeHeard h serial eUp wUp, ?_, hid, hser, hE, hW, by rw [hvia, ha.hopDelay]⟩, fun m hm => ?_, hc⟩
  · rw [hn]
    exact List.mem_append_right _ (List.mem_singleton_self _)
  · rw [hn, ha.1, List.mem_append, List.mem_filter, List.mem_singleton]
    refine ⟨fun hh => hh.elim And.left fun he => absurd (he ▸ hid) hm, fun hh => .inl ⟨hh, by simp [hm]⟩⟩

/-! ## TIME (R561 to R563) -/

/-- What is done at the first copy of a TIME: a master yields to a lower identifier. -/
def State.yieldCheck (h : RidgeHdr) (s : State) : State :=
  if s.flag RDG_CFG.TMASTER && !s.ridge.yielded && decide (h.origin < s.nodeId) then
    ({ s with ridge := { s.ridge with yielded := true } }).eventAll 0x0903 0
  else s

theorem State.yieldCheck_alike {s u : State} (h : RidgeHdr) (hu : s.ringAlike u) : s.ringAlike (u.yieldCheck h) := by
  unfold State.yieldCheck
  split
  · refine hu.trans ⟨?_, State.eventAll_within.comp .clk (by decide), State.eventAll_within.comp .ptp (by decide), fun f hf => ?_⟩
    · rw [State.eventAll_ridge]
    · exact State.eventAll_within.get hf
  · exact hu

theorem State.yieldCheck_yields {s : State} {h : RidgeHdr} (hm : s.flag RDG_CFG.TMASTER = true) (ho : h.origin < s.nodeId) :
    (s.yieldCheck h).ridge.yielded = true := by
  unfold State.yieldCheck
  cases hy : s.ridge.yielded with
  | true =>
    rw [if_neg (by simp)]
    exact hy
  | false => rw [if_pos (by simp [hm, ho]), State.eventAll_ridge]

/-- The delay of its copies kept for the lane, and FLANE as the two lanes' delays say. -/
def State.laneTimed (s : State) (w : Bool) (d : Nat) : State := (s.modLane w (fun l => { l with timeDelay := some d })).updFlane

theorem State.laneTimed_get (s : State) (w : Bool) (d : Nat) {f : Fld} (h : RDG_STATUS.FLANE.apart f) : (s.laneTimed w d).get f = s.get f :=
  (State.updFlane_get _ h).trans (State.modLane_get ..)

theorem State.laneTimed_lane (s : State) (w : Bool) (d : Nat) :
    ((s.laneTimed w d).lane w).timeDelay = some d ∧ (s.laneTimed w d).ridge.yielded = s.ridge.yielded ∧ (s.laneTimed w d).clk = s.clk ∧
    (s.laneTimed w d).ptp = s.ptp := by
  cases w <;> exact ⟨rfl, rfl, rfl, rfl⟩

/-- A ridge offset within reach counts toward LOCKED before FADJ moves. -/
def State.ridgeCounted (s : State) (off : Int) : State :=
  let t := { s with ridge := { s.ridge with good := if off.natAbs < 50 * ns then min 16 (s.ridge.good + 1) else 0 } }
  if (if off.natAbs < 50 * ns then min 16 (s.ridge.good + 1) else 0) = 16 then t.put RDG_STATUS.LOCKED 1 else t

theorem State.ridgeCounted_keeps (s : State) (off : Int) :
    (s.ridgeCounted off).ridge.laneE = s.ridge.laneE ∧ (s.ridgeCounted off).ridge.laneW = s.ridge.laneW ∧
    (s.ridgeCounted off).ridge.yielded = s.ridge.yielded ∧ (s.ridgeCounted off).clk = s.clk ∧ (s.ridgeCounted off).ptp = s.ptp ∧
    ∀ f : Fld, RDG_STATUS.LOCKED.apart f → (s.ridgeCounted off).get f = s.get f := by
  unfold State.ridgeCounted
  generalize (if off.natAbs < 50 * ns then min 16 (s.ridge.good + 1) else 0) = good
  dsimp only
  by_cases hg : good = 16
  · rw [if_pos hg]
    exact ⟨rfl, rfl, rfl, rfl, rfl, fun f hf => State.get_put_other _ _ _ _ hf⟩
  · rw [if_neg hg]
    exact ⟨rfl, rfl, rfl, rfl, rfl, fun f hf => rfl⟩

theorem State.ridgeOffset_large {s : State} {off : Int} (h : 1000 * ns < off.natAbs) : s.ridgeOffset off = s.stepBy (-off) := if_pos h

theorem State.ridgeOffset_small {s : State} {off : Int} (h : off.natAbs ≤ 1000 * ns) :
    s.ridgeOffset off = (s.ridgeCounted off).piAdjust 1 off ((s.ridgeCounted off).flag RDG_STATUS.LOCKED) := if_neg (Nat.not_lt.2 h)

/-- Whatever an offset does, the lanes and who is master stay. -/
theorem State.ridgeOffset_keeps (s : State) (off : Int) :
    (s.ridgeOffset off).ridge.laneE = s.ridge.laneE ∧ (s.ridgeOffset off).ridge.laneW = s.ridge.laneW ∧
    (s.ridgeOffset off).ridge.yielded = s.ridge.yielded ∧ (s.ridgeOffset off).flag RDG_STATUS.FLANE = s.flag RDG_STATUS.FLANE := by
  obtain h | h := Nat.lt_or_ge (1000 * ns) off.natAbs
  · rw [State.ridgeOffset_large h]
    exact ⟨rfl, rfl, rfl, State.flag_congr (State.stepTo_get _ _ (by decide))⟩
  · obtain ⟨hE, hW, hy, -, -, hg⟩ := s.ridgeCounted_keeps off
    rw [State.ridgeOffset_small h, State.piAdjust_within.comp .ridge (by decide)]
    exact ⟨hE, hW, hy, State.flag_congr ((State.piAdjust_get _ _ _ _ (by decide)).trans (hg _ (by decide)))⟩

theorem State.ridgeOffset_adjusts {s : State} {off : Int} (h : off.natAbs ≤ 1000 * ns) :
    (s.ridgeOffset off).clk = s.clk ∧
    (s.ridgeOffset off).ptp.integ = clampI (-(2 ^ 31)) (2 ^ 31 - 1) (s.ptp.integ + Config.servoI 1 off) ∧
    (s.ridgeOffset off).geti PTP_FADJ.FADJ = clampI (-(2 ^ 31)) (2 ^ 31 - 1) ((s.ridgeOffset off).ptp.integ + Config.servoP 1 off) := by
  obtain ⟨-, -, -, hc, hp, -⟩ := s.ridgeCounted_keeps off
  rw [State.ridgeOffset_small h]
  obtain ⟨hi, hf⟩ := (s.ridgeCounted off).piAdjust_adjusts 1 off ((s.ridgeCounted off).flag RDG_STATUS.LOCKED)
  rw [hp] at hi
  exact ⟨(State.piAdjust_clk ..).trans hc, hi, hf⟩

/-- A copy of TIME steers by the lane that FLANE selects, where the source is the ridge. -/
def State.timeTaken (s : State) (h : RidgeHdr) (d : Nat) : State :=
  if s.get PTP_CFG.SRC = 2 && s.flag RDG_STATUS.FLANE == h.laneW then s.ridgeOffset ((h.arrival : Int) - (h.time + d : Nat)) else s

theorem exec_timeFrame {h : RidgeHdr} {s : State} (hr : s.ridgeOn = true) (hl : s.laneUp h.laneW = true) (ho : h.origin ≠ s.nodeId) {u : State}
    (hu : s.ringFrame h 4 [] (State.yieldCheck h) = u) (hd : u.hopDelay h.laneW = s.hopDelay h.laneW) :
    exec (.timeFrame h) s = .next ((u.laneTimed h.laneW (h.corr + s.hopDelay h.laneW)).timeTaken h (h.corr + s.hopDelay h.laneW)) := by
  show Host.Outcome.next (timeFrameStep h s) = _
  unfold timeFrameStep
  dsimp only
  rw [State.whenDo_pos (by simp [hr, hl, ho]), ← hd, ← hu]
  rfl

theorem State.timeTaken_keeps (s : State) (h : RidgeHdr) (d : Nat) :
    (s.timeTaken h d).lane h.laneW = s.lane h.laneW ∧ (s.timeTaken h d).ridge.yielded = s.ridge.yielded ∧
    (s.timeTaken h d).flag RDG_STATUS.FLANE = s.flag RDG_STATUS.FLANE := by
  unfold State.timeTaken
  split
  · obtain ⟨hE, hW, hy, hf⟩ := s.ridgeOffset_keeps ((h.arrival : Int) - (h.time + d : Nat))
    refine ⟨?_, hy, hf⟩
    unfold State.lane
    rw [hE, hW]
  · exact ⟨rfl, rfl, rfl⟩

theorem timeFrame_times {h : RidgeHdr} {s : State} (hr : s.ridgeOn = true) (hl : s.laneUp h.laneW = true) (ho : h.origin ≠ s.nodeId) {d : Nat}
    (hd : d = h.corr + s.hopDelay h.laneW) :
    Leads (.timeFrame h) s (fun t => (t.lane h.laneW).timeDelay = some d ∧
      (s.flag RDG_CFG.TMASTER = true → h.origin < s.nodeId → (h.origin, h.seq) ∉ s.ridge.seen → t.ridge.yielded = true) ∧
      (s.get PTP_CFG.SRC = 2 → t.flag RDG_STATUS.FLANE = h.laneW →
        (1000 * ns < ((h.arrival : Int) - (h.time + d : Nat)).natAbs → t.now = ((s.now : Int) - (h.arrival - (h.time + d : Nat))).toNat ∧
          t.flag RDG_STATUS.LOCKED = false) ∧
        (((h.arrival : Int) - (h.time + d : Nat)).natAbs ≤ 1000 * ns → t.clk = s.clk ∧
          t.ptp.integ = clampI (-(2 ^ 31)) (2 ^ 31 - 1) (s.ptp.integ + Config.servoI 1 ((h.arrival : Int) - (h.time + d : Nat))) ∧
          t.geti PTP_FADJ.FADJ =
            clampI (-(2 ^ 31)) (2 ^ 31 - 1) (t.ptp.integ + Config.servoP 1 ((h.arrival : Int) - (h.time + d : Nat))))) ∧
      (s.get PTP_CFG.SRC ≠ 2 → t.clk = s.clk)) := by
  subst hd
  have ha := State.ringFrame_alike (s := s) (act := State.yieldCheck h) h 4 [] fun u hu => State.yieldCheck_alike h hu
  have hyield : s.flag RDG_CFG.TMASTER = true → h.origin < s.nodeId → (h.origin, h.seq) ∉ s.ridge.seen →
      (s.ringFrame h 4 [] (State.yieldCheck h)).ridge.yielded = true := by
    intro hm hlt hk
    rw [State.ringFrame_new _ _ hr hl (.inl ho) hk]
    have hp := (s.passed_alike h 4 []).trans (State.withSeen_alike _ (s.ridge.seen ++ [(h.origin, h.seq)]))
    exact State.yieldCheck_yields ((hp.flag (by decide)).trans hm) (hp.nodeId ▸ hlt)
  refine ⟨_, exec_timeFrame hr hl ho rfl (ha.hopDelay _), ?_⟩
  generalize s.ringFrame h 4 [] (State.yieldCheck h) = u at ha hyield
  generalize h.corr + s.hopDelay h.laneW = d
  obtain ⟨hdelay, hy, hc, hp⟩ := u.laneTimed_lane h.laneW d
  have hsrc : (u.laneTimed h.laneW d).get PTP_CFG.SRC = s.get PTP_CFG.SRC := (u.laneTimed_get _ _ (by decide)).trans (ha.2.2.2 _ (by decide))
  have hclk : (u.laneTimed h.laneW d).clk = s.clk := hc.trans ha.2.1
  have hptp : (u.laneTimed h.laneW d).ptp = s.ptp := hp.trans ha.2.2.1
  generalize u.laneTimed h.laneW d = v at hdelay hy hsrc hclk hptp
  obtain ⟨hlane, hyk, hfl⟩ := v.timeTaken_keeps h d
  refine ⟨(congrArg Lane.timeDelay hlane).trans hdelay, fun hm hlt hk => (hyk.trans hy).trans (hyield hm hlt hk), fun hs hf => ?_, fun hs => ?_⟩
  · rw [hfl] at hf
    rw [State.timeTaken, if_pos (by simp [hsrc, hs, hf])]
    refine ⟨fun hb => ?_, fun hb => ?_⟩
    · rw [State.ridgeOffset_large hb]
      refine ⟨(State.stepTo_now ..).trans ?_, State.stepTo_ridgeLocked ..⟩
      rw [State.now, hclk]
      rfl
    · rw [← hclk, ← hptp]
      exact State.ridgeOffset_adjusts hb
  · rw [State.timeTaken, if_neg (by simp [hsrc, hs])]
    exact hclk

/-! ## SYNC (R569) -/

theorem exec_syncFrame {h : RidgeHdr} {group : BitVec 8} {s : State} (hr : s.ridgeOn = true) (hl : s.laneUp h.laneW = true)
    (ho : h.origin ≠ s.nodeId) (hw : s.get PAT_CTRL.SWAP_SRC = 2) (hg : s.get RDG_SYNC.GROUP = group.toNat) (hk : (h.origin, h.seq) ∉ s.ridge.seen) :
    Leads (.syncFrame h group) s (fun t => t.ridge.syncs = s.ridge.syncs ++ [h.time]) := by
  refine ⟨_, congrArg Host.Outcome.next (State.ringFrame_new _ _ hr hl (.inl ho) hk), ?_⟩
  have ha := (s.passed_alike h 6 (beBytes 1 group.toNat)).trans (State.withSeen_alike _ (s.ridge.seen ++ [(h.origin, h.seq)]))
  have hsy : ((s.passed h 6 (beBytes 1 group.toNat)).withSeen (s.ridge.seen ++ [(h.origin, h.seq)])).ridge.syncs = s.ridge.syncs :=
    (congrArg Ridge.syncs (s.passed_ridge ..)).trans (s.goodFrame_ridge _).2.2.2
  generalize (s.passed h 6 (beBytes 1 group.toNat)).withSeen (s.ridge.seen ++ [(h.origin, h.seq)]) = u at ha hsy
  rw [if_pos (by rw [ha.2.2.2 _ (by decide), ha.2.2.2 _ (by decide)]; simp [hw, hg])]
  exact congrArg (· ++ _) hsy

/-- Settles O46: frame by frame; that a frame is forwarded with HOPS + 1 is log entry 116's. -/
theorem ridgeFramesComplete : Obligations.RidgeFramesComplete := by
  unfold Obligations.RidgeFramesComplete
  refine ⟨exec_ridgeIdleFrame, fun w s => ⟨ridgeCrcError_counts, ridgeCrcError_downs⟩, fun h s hr hl =>
    ⟨exec_dlyReq hr hl, fun t1 t2 d l => exec_dlyRsp hr hl, fun serial eUp wUp => ?presence, fun ho => ⟨fun d => timeFrame_times hr hl ho, ?sync⟩⟩⟩
  case presence =>
    exact ⟨presence_own_measures eUp wUp hr hl, exec_presence_duplicate eUp wUp hr hl, exec_presence_other serial eUp wUp hr hl⟩
  case sync => exact fun group hw hg hk => exec_syncFrame hr hl ho hw hg hk

end Sys2Proof.Machine
end

section
/-! SUPPORT. The island as its messages, rounds and buffer leave it (R624, R648 to R652, R660). -/

namespace Sys2Proof.Machine

/-! ## Messages from the island -/

theorem State.fromIsl_regs (s : State) (m : BarMsg) : (s.fromIsl m).regs = s.regs := rfl

theorem State.fromIsl_isl (s : State) (m : BarMsg) : (s.fromIsl m).isl = { s.isl with seqFrom := s.isl.seqFrom + 1 } := rfl

theorem State.fromIsl_out (s : State) (m : BarMsg) : (s.fromIsl m).out = (s.emit (.barrier false s.isl.seqFrom m)).out := rfl

theorem State.fromIsl_get (s : State) (m : BarMsg) (f : Fld) : (s.fromIsl m).get f = s.get f := State.get_regs (s.fromIsl_regs m) f

theorem State.modIsl_isl (s : State) (f : Island → Island) : (s.modIsl f).isl = f s.isl := rfl

theorem State.modIsl_get (s : State) (f : Island → Island) (g : Fld) : (s.modIsl f).get g = s.get g := rfl

theorem State.sendStatus_isl (s : State) : s.sendStatus.isl = { s.isl with seqFrom := s.isl.seqFrom + 1 } := State.fromIsl_isl ..

theorem State.sendStatus_get (s : State) (f : Fld) : s.sendStatus.get f = s.get f := State.fromIsl_get ..

/-- What a message carries does not show in what leaves with it, but for its number. -/
theorem State.emit_barrier_out {s t : State} (h : t.out = s.out) (n : Byte) (m : BarMsg) :
    (t.emit (.barrier false n m)).out = (s.emit (.barrier false n m)).out := congrArg (· ++ [Out.barrier false n m]) h

/-! ## The configuration the island has applied -/

theorem State.iget_congr {s t : State} (h : t.isl.regs = s.isl.regs) (f : Fld) : t.iget f = s.iget f := by
  unfold State.iget
  rw [h]

/-- Nothing happens on the island unless it runs. -/
theorem State.onIsl_pos {s : State} {f : State → State} (h : s.isl.up = true) : s.onIsl f = f s := State.whenDo_pos h

/-! ## Rounds (R648 to R651) -/

theorem Rounds.startReg_begins {r : Rounds} {n : Nat} (t : Ts) (h : r.reg = none) (hn : n ≠ 0) :
    r.startReg n t = ({ r with reg := some { start := t } }, false) := by simp [Rounds.startReg, h, hn]

theorem Rounds.startReg_runs {r : Rounds} (n : Nat) (t : Ts) (h : r.reg.isSome = true) : r.startReg n t = (r, true) := by
  simp [Rounds.startReg, h]

theorem State.setFld_isl (s : State) (r : Rounds) : (s.setFld r).isl = { s.isl with rounds := r } := State.puts_isl ..

theorem State.fldReg_begins {s : State} (h : s.isl.rounds.reg = none) (hn : s.iget FLD_CTRL.N_REG ≠ 0) :
    s.fldReg = s.drew.setFld { s.isl.rounds with reg := some { start := s.fieldTime s.now } } := by
  unfold State.fldReg
  rw [Rounds.startReg_begins _ h hn]
  rfl

theorem State.fldReg_runs {s : State} (h : s.isl.rounds.reg.isSome = true) : s.fldReg = s.countSat FLD_OVR.ROVR := by
  unfold State.fldReg
  rw [Rounds.startReg_runs _ _ h]
  rfl

/-- A regular start changes only the rounds of the island. -/
theorem State.fldReg_isl (s : State) : s.fldReg.isl = { s.isl with rounds := s.fldReg.isl.rounds } := by
  unfold State.fldReg
  dsimp only
  split
  · rw [State.countSat_isl]
  · rw [State.setFld_isl, State.drew_isl]

theorem State.fldReg_seqFrom (s : State) : s.fldReg.isl.seqFrom = s.isl.seqFrom := by rw [s.fldReg_isl]

/-- An injected start changes only the rounds of the island and the settings it compares with. -/
theorem State.fldInj_isl (s : State) : s.fldInj.isl = { s.isl with rounds := s.fldInj.isl.rounds, last := s.fldInj.isl.last } := by
  unfold State.fldInj
  dsimp only
  split
  · rw [State.countSat_isl]
  · rw [State.puts_isl, State.setFld_isl]
    rfl

theorem State.fldStarts_isl (s : State) (regular injected : Bool) :
    (s.fldStarts regular injected).isl.fin = s.isl.fin ∧ (s.fldStarts regular injected).isl.seqFrom = s.isl.seqFrom := by
  have hi : (if injected then s.fldInj else s).isl.fin = s.isl.fin ∧ (if injected then s.fldInj else s).isl.seqFrom = s.isl.seqFrom := by
    split
    · rw [s.fldInj_isl]
      exact ⟨rfl, rfl⟩
    · exact ⟨rfl, rfl⟩
  cases regular
  · exact hi
  · exact ⟨(congrArg Island.fin (State.fldReg_isl _)).trans hi.1, (congrArg Island.seqFrom (State.fldReg_isl _)).trans hi.2⟩

/-! ## The buffer (R660) -/

/-- Nothing but the records of the island's buffer and the free values differ. -/
def State.ringsAlike (s t : State) : Prop := t.isl = { s.isl with rings := t.isl.rings } ∧ t.regs = s.regs

theorem State.ringsAlike.trans {s t u : State} (h1 : s.ringsAlike t) (h2 : t.ringsAlike u) : s.ringsAlike u := by
  refine ⟨?_, h2.2.trans h1.2⟩
  rw [h2.1, h1.1]

theorem State.bufPut_ringsAlike (s : State) (ch : Nat) (r : BufRec) : s.ringsAlike (s.bufPut ch r) := ⟨rfl, rfl⟩

theorem foldl_ringsAlike {f : State → Nat → State} (hf : ∀ (s : State) n, s.ringsAlike (f s n)) (l : List Nat) (s : State) :
    s.ringsAlike (l.foldl f s) := by
  induction l generalizing s with
  | nil => exact ⟨rfl, rfl⟩
  | cons x l ih => exact (hf s x).trans (ih _)

theorem State.bufGap_ringsAlike (s : State) (start : Ts) : s.ringsAlike (s.bufGap start) := by
  unfold State.bufGap
  refine foldl_ringsAlike (fun t ch => ?_) _ s
  split
  · exact ⟨rfl, rfl⟩
  · exact t.bufPut_ringsAlike _ _

/-! ## The island starts, its inputs and its outputs (R620, R630 to R635, R640) -/

theorem exec_islandStart_starts {s : State} (h : s.isl.up = false) :
    Leads .islandStart s (fun t => t.isl.up = true ∧ t.isl.since = s.cyc ∧ t.get FLD_FOUT.ACT = 0 ∧ t.isl.rounds = {} ∧ t.isl.seqFrom = 1) := by
  have ho : s.islOff.isl = { seqTo := s.isl.seqTo } := State.puts_isl ..
  have ha : s.islOff.get FLD_FOUT.ACT = 0 :=
    State.get_puts_at _ (f := FLD_FOUT.ACT) (n := 0) 0 rfl rfl (by decide)
  refine ⟨_, congrArg Host.Outcome.next (State.whenDo_pos (by rw [h]; rfl)), ?_⟩
  beta_reduce
  rw [State.sendStatus_isl, State.modIsl_isl, ho, State.sendStatus_get, State.modIsl_get]
  exact ⟨rfl, rfl, ha, rfl, rfl⟩

section
variable {s : State} (h : s.isl.up = true)
include h

theorem exec_fin0Change_reports (closed : Bool) (tick : BitVec 32) :
    Leads (.fin0Change closed tick) s (fun t => t.isl.fin = setBit s.isl.fin 0 closed ∧
      t.out = (s.emit (.barrier false s.isl.seqFrom (.ilk closed tick.toNat))).out) :=
  ⟨_, congrArg Host.Outcome.next (State.onIsl_pos h), rfl, rfl⟩

theorem exec_finDebounced_reports (input : Fin 3) (closed : Bool) (tick : BitVec 32) :
    Leads (.finDebounced input closed tick) s (fun t =>
      t.isl.fin = setBit s.isl.fin (input.val + 1) closed ∧ t.isl.seqFrom = s.isl.seqFrom + 1) :=
  ⟨_, congrArg Host.Outcome.next (State.onIsl_pos h), (State.fldStarts_isl ..).1, (State.fldStarts_isl ..).2⟩

theorem exec_hostloss_opens :
    Leads .hostloss s (fun t => t.get FLD_FOUT.ACT = 0 ∧ t.flag FLD_STATUS.HOSTLOSS = true) := by
  refine ⟨_, congrArg Host.Outcome.next (State.onIsl_pos h), ?_, ?_⟩
  · rw [State.sendStatus_get]
    exact State.get_puts_at _ (f := FLD_FOUT.ACT) (n := 0) 0 rfl rfl (by decide)
  · rw [State.flag_congr (State.sendStatus_get ..), State.flag,
      State.get_puts_at _ (l := [(FLD_FOUT.ACT, 0), (FLD_STATUS.HOSTLOSS, 1)]) (f := FLD_STATUS.HOSTLOSS) (n := 1) 1 rfl rfl (by decide)]
    rfl

theorem exec_foutOvercurrent_opens (n : Fin 2) (ha : s.get FLD_FOUT.ACT / 2 ^ n.val % 2 = 1) :
    Leads (.foutOvercurrent n) s (fun t => t.get FLD_FOUT.ACT = setBit (s.get FLD_FOUT.ACT) n.val false % 4 ∧
      t.get FLD_STATUS.FOUT_OVC = setBit (s.get FLD_STATUS.FOUT_OVC) n.val true % 4) := by
  refine ⟨_, congrArg Host.Outcome.next (State.whenDo_pos (by simp [h, ha])), ?_, ?_⟩
  · rw [State.sendStatus_get]
    exact State.get_puts_at _ (f := FLD_FOUT.ACT) 0 rfl rfl (by decide)
  · rw [State.sendStatus_get]
    exact State.get_puts_at _ (f := FLD_STATUS.FOUT_OVC) 1 rfl rfl (by decide)

theorem exec_excLimit_flags (n : Fin 2) (he : s.iget (if n.val = 0 then FLD_EXC.EXC0 else FLD_EXC.EXC1) ≠ 0) :
    Leads (.excLimit n) s (fun t => t.get FLD_STATUS.EXC_SHORT = setBit (s.get FLD_STATUS.EXC_SHORT) n.val true % 4) := by
  refine ⟨_, congrArg Host.Outcome.next (State.whenDo_pos (by rw [h, bne_iff_ne.2 he]; rfl)), ?_⟩
  exact (State.sendStatus_get ..).trans (State.get_put_same _ FLD_STATUS.EXC_SHORT _ (by decide))

theorem exec_excSettleExpire_settles (hs : s.isl.settling = true) :
    Leads .excSettleExpire s (fun t => t.isl.settling = false ∧ t.isl.excMoved = 0 ∧
      t.get FLD_STATUS.REF_OK = (s.get FLD_STATUS.REF_OK ||| 4 * s.isl.excMoved) % 16) :=
  ⟨_, congrArg Host.Outcome.next (State.whenDo_pos (by rw [h, hs]; rfl)), rfl, rfl, State.get_put_same _ FLD_STATUS.REF_OK _ (by decide)⟩

/-! ## The round timer (R648, R649) -/

theorem roundTimerTickStep_island (hr : s.iget FLD_CTRL.RSTART = 1) : roundTimerTickStep false s =
    if s.isl.rounds.reg.isSome then (s.drew.bufGap (s.fieldTime s.now)).fldReg else s.fldReg := by
  unfold roundTimerTickStep
  rw [if_neg Bool.false_ne_true, State.whenDo_pos (by rw [h, hr]; rfl)]

theorem exec_roundTimerTick_begins (hr : s.iget FLD_CTRL.RSTART = 1) (hn : s.isl.rounds.reg = none) (he : s.iget FLD_CTRL.N_REG ≠ 0) :
    Leads (.roundTimerTick false) s (fun t => t.isl.rounds.reg.isSome = true) := by
  refine ⟨_, congrArg Host.Outcome.next (roundTimerTickStep_island h hr), ?_⟩
  beta_reduce
  rw [if_neg (by rw [hn]; decide), State.fldReg_begins hn he, State.setFld_isl]
  rfl

theorem exec_roundTimerTick_overruns (hr : s.iget FLD_CTRL.RSTART = 1) (hn : s.isl.rounds.reg.isSome = true) :
    Leads (.roundTimerTick false) s (fun t => t.isl.rounds = s.isl.rounds ∧
      t.get FLD_OVR.ROVR = min (s.get FLD_OVR.ROVR + 1) (2 ^ FLD_OVR.ROVR.width - 1)) := by
  obtain ⟨hi, hg⟩ := s.drew.bufGap_ringsAlike (s.fieldTime s.now)
  have hrounds : (s.drew.bufGap (s.fieldTime s.now)).isl.rounds = s.isl.rounds := by rw [hi, State.drew_isl]
  refine ⟨_, congrArg Host.Outcome.next (roundTimerTickStep_island h hr), ?_⟩
  beta_reduce
  rw [if_pos hn, State.fldReg_runs (by rw [hrounds]; exact hn), State.countSat_isl, State.get_countSat_same _ (by decide)]
  exact ⟨hrounds, congrArg (fun x => min (x + 1) _) (State.get_regs (hg.trans (State.drew_regs ..)) _)⟩

end

/-! ## A conversion of the island (R647, R653, R657) -/

/-- The round the island is in: an injected one comes before a regular one (R650). -/
theorem Rounds.inForce {k : Rounds} {r : Round} {injected : Bool} (hi : k.inj = if injected then some r else none)
    (hr : injected = false → k.reg = some r) : (if injected then k.inj else if k.inj.isSome then none else k.reg) = some r := by
  cases injected
  · simp [hi, hr rfl]
  · simp [hi]

theorem State.fldAdvance_seqFrom (s : State) (injected : Bool) (r : Round) (e qual : Nat) (value : Int) :
    (s.fldAdvance injected r e qual value).isl.seqFrom = s.isl.seqFrom := by
  unfold State.fldAdvance
  cases injected
  · simp only [Bool.false_eq_true, if_false]
    split_ifs <;> simp only [State.fldReg_seqFrom, State.setFld_isl, State.bufPut, State.modIsl]
  · simp only [if_true, State.setFld_isl, State.modIsl]

theorem State.fldAdvance_injected (s : State) (r : Round) (e qual : Nat) (value : Int) :
    (s.fldAdvance true r e qual value).isl.rounds = { s.isl.rounds with inj := r.next (s.iget (FLDE_W0.N_C e)) (s.iget FLD_CTRL.N_INJ) } := by
  unfold State.fldAdvance
  simp only [if_true, State.setFld_isl]

theorem State.fldAdvance_regular {s : State} (r : Round) (e qual : Nat) (value : Int) (h : s.iget FLD_CTRL.RSTART ≠ 3) :
    (s.fldAdvance false r e qual value).isl.rounds = { s.isl.rounds with reg := r.next (s.iget (FLDE_W0.N_C e)) (s.iget FLD_CTRL.N_REG) } := by
  have hb (x : BufRec) (f : Fld) : (s.bufPut (s.iget (FLDE_W0.CH e)) x).iget f = s.iget f := State.iget_congr rfl f
  have hs (t : State) (k : Rounds) (f : Fld) : (t.setFld k).iget f = t.iget f := State.iget_congr (by rw [State.setFld_isl]) f
  unfold State.fldAdvance
  simp only [Bool.false_eq_true, if_false]
  split_ifs <;> simp_all [State.setFld_isl]

/-- A conversion of the entry in progress sends a result, and the round goes on from a state with the island's configuration and rounds. -/
theorem fieldConversionStep_advances {s : State} {c : FieldConv} {r : Round} {e : Nat} (h : s.isl.up = true)
    (hk : (if c.injected then s.isl.rounds.inj else if s.isl.rounds.inj.isSome then none else s.isl.rounds.reg) = some r)
    (he : e = if c.injected then 16 + r.entry else r.entry) (hr : s.refSettled e = true) :
    ∃ (u : State) (qual : Nat) (value : Int), fieldConversionStep c s = u.fldAdvance c.injected r e qual value ∧
      u.isl.regs = s.isl.regs ∧ u.isl.rounds = s.isl.rounds ∧ u.isl.seqFrom = s.isl.seqFrom + 1 := by
  have hf (t : State) : t.updFldRef.isl = t.isl := State.updFldRef_within.comp .isl (by decide)
  have hp (t : State) (b : Prop) [Decidable b] (f : Fld) (n : Nat) : (if b then t.put f n else t).isl = t.isl := by split <;> rfl
  unfold fieldConversionStep
  dsimp only
  rw [hk]
  subst he
  dsimp only
  rw [if_neg (by rw [h, hr]; decide)]
  refine ⟨_, _, _, rfl, ?_⟩
  rw [State.fromIsl_isl, hp, hf]
  exact ⟨rfl, rfl, rfl⟩

theorem exec_fieldConversion_reports {s : State} {c : FieldConv} {r : Round} {e : Nat} (h : s.isl.up = true)
    (hi : s.isl.rounds.inj = if c.injected then some r else none) (hg : c.injected = false → s.isl.rounds.reg = some r)
    (he : e = if c.injected then 16 + r.entry else r.entry) (hr : s.refSettled e = true) :
    Leads (.fieldConversion c) s (fun t => t.isl.seqFrom = s.isl.seqFrom + 1 ∧
      (c.injected = true → t.isl.rounds = { s.isl.rounds with inj := r.next (s.iget (FLDE_W0.N_C e)) (s.iget FLD_CTRL.N_INJ) }) ∧
      (c.injected = false → s.iget FLD_CTRL.RSTART ≠ 3 →
        t.isl.rounds = { s.isl.rounds with reg := r.next (s.iget (FLDE_W0.N_C e)) (s.iget FLD_CTRL.N_REG) })) := by
  obtain ⟨u, qual, value, hu, hregs, hrounds, hseq⟩ := fieldConversionStep_advances h (Rounds.inForce hi hg) he hr
  have hget (f : Fld) : u.iget f = s.iget f := State.iget_congr hregs f
  refine ⟨_, congrArg Host.Outcome.next hu, (State.fldAdvance_seqFrom ..).trans hseq, fun hc => ?_, fun hc h3 => ?_⟩
  · rw [hc, State.fldAdvance_injected, hrounds, hget, hget]
  · rw [hc, State.fldAdvance_regular _ _ _ _ (by rwa [hget]), hrounds, hget, hget]

/-! ## The monitor converter (R648, R657, R662) -/

theorem State.setMon_mon (s : State) (r : Rounds) : (s.setMon r).mon = { s.mon with rounds := r } := State.puts_mon ..

/-- A change of the rounds shows in BUSY_REG and BUSY_INJ alone. -/
theorem State.setMon_get (s : State) (r : Rounds) {f : Fld} (h : f.addr ≠ 0x130000 ∨ 2 ≤ f.lo) : (s.setMon r).get f = s.get f := by
  have h0 : MON_CTRL.BUSY_REG.apart f := h.imp Ne.symm (fun h => .inl (show 0 + 1 ≤ f.lo by omega))
  have h1 : MON_CTRL.BUSY_INJ.apart f := h.imp Ne.symm (fun h => .inl (show 1 + 1 ≤ f.lo by omega))
  unfold State.setMon
  rw [State.get_puts_other _ _ _ (by simp only [List.forall_mem_cons]; exact ⟨h0, h1, List.forall_mem_nil _⟩)]
  exact State.get_regs rfl f

/-- A regular start of the monitor converter leaves every result. -/
theorem State.monReg_get (s : State) {f : Fld} (h : 0x130200 ≤ f.addr) : s.monReg.get f = s.get f := by
  unfold State.monReg
  dsimp only
  split
  · exact State.get_put_other _ _ _ _ (.inl (show 0x130008 ≠ f.addr by omega))
  · exact s.setMon_get _ (.inl (by omega))

theorem exec_roundTimerTick_monitor {s : State} (h : s.get MON_CTRL.RSTART = 1) (hr : s.mon.rounds.reg = none) (hn : s.get MON_CTRL.N_REG ≠ 0) :
    Leads (.roundTimerTick true) s (fun t => t.mon.rounds.reg = some { start := s.now } ∧ t.flag MON_CTRL.BUSY_REG = true) := by
  have hs : s.monReg = s.setMon { s.mon.rounds with reg := some { start := s.now } } := by
    unfold State.monReg
    rw [Rounds.startReg_begins _ hr hn]
    rfl
  refine ⟨_, congrArg Host.Outcome.next (State.whenDo_pos (by rw [h]; rfl)), ?_⟩
  beta_reduce
  rw [hs, State.setMon_mon, State.flag]
  refine ⟨rfl, ?_⟩
  unfold State.setMon
  rw [State.get_puts_at _ (f := MON_CTRL.BUSY_REG) (n := 1) 0 rfl rfl (by decide)]
  rfl

/-- What a conversion of the monitor converter writes into the result register of an index (R657, R658). -/
def monFields (i qual raw value : Nat) (t : Ts) : List (Fld × Nat) :=
  [(MONRES_W0.READY i, 1), (MONRES_W0.QUAL i, qual), (MONRES_W0.RAW i, raw), (MONRES_W1.VALUE i, value),
    (MONRES_W2.NS i, nsOf t), (MONRES_W3.SEC_LO i, secOf t), (MONRES_W4.SEC_HI i, secOf t / 2 ^ 32)]

/-- A state with the result register of an index written. -/
def State.monResult (s : State) (i qual raw value : Nat) (t : Ts) : State := (s.count (MONRES_W0.SEQ i)).puts (monFields i qual raw value t)

theorem State.monResult_mon (s : State) (i qual raw value : Nat) (t : Ts) : (s.monResult i qual raw value t).mon = s.mon :=
  (State.puts_mon ..).trans (s.count_mon ..)

theorem monFields_addr {i qual raw value : Nat} {t : Ts} {p : Fld × Nat} (h : p ∈ monFields i qual raw value t) : 0x130200 ≤ p.1.addr := by
  simp only [monFields, List.mem_cons, List.not_mem_nil, or_false] at h
  rcases h with rfl | rfl | rfl | rfl | rfl | rfl | rfl <;> exact le_trans (by decide) (Nat.le_add_right _ _)

/-- The control word of the monitor converter is no part of a result. -/
theorem State.monResult_get_ctrl (s : State) (i qual raw value : Nat) (t : Ts) {f : Fld} (h : f.addr = 0x130000) :
    (s.monResult i qual raw value t).get f = s.get f := by
  unfold State.monResult
  rw [State.get_puts_other _ _ _ (fun p hp => .inl (by have := monFields_addr hp; omega)),
    State.get_count_other _ (show 0x130200 + 0x20 * (i % 44) ≠ f.addr by omega)]

theorem State.monResult_shows (s : State) (i qual raw value : Nat) (t : Ts) :
    (s.monResult i qual raw value t).flag (MONRES_W0.READY i) = true ∧
    (s.monResult i qual raw value t).get (MONRES_W0.SEQ i) = (s.get (MONRES_W0.SEQ i) + 1) % 256 ∧
    (s.monResult i qual raw value t).get (MONRES_W0.RAW i) = raw % 4096 ∧
    (s.monResult i qual raw value t).get (MONRES_W0.QUAL i) = qual % 16 := by
  have hw (j : Nat) {f : Fld} {n : Nat} (hj : (monFields i qual raw value t)[j]? = some (f, n))
      (hl : ((monFields i qual raw value t).drop (j + 1)).all (fun p => decide (p.1.apart f)) = true) (hf : f.lo + f.width ≤ 32) :
      (s.monResult i qual raw value t).get f = n % 2 ^ f.width := State.get_puts_at _ j hj hl hf
  refine ⟨?_, ?_, ?_, ?_⟩
  · rw [State.flag, hw 0 (f := MONRES_W0.READY i) (n := 1) rfl (by simp [monFields, Fld.apart]) (Nat.le_refl 32)]
    rfl
  · unfold State.monResult
    rw [State.get_puts_other _ _ _ (by simp [monFields, Fld.apart])]
    exact State.get_count_same s (f := MONRES_W0.SEQ i) (show 16 + 8 ≤ 32 by decide)
  · exact hw 2 (f := MONRES_W0.RAW i) rfl (by simp [monFields, Fld.apart]) (show 0 + 12 ≤ 32 by decide)
  · exact hw 1 (f := MONRES_W0.QUAL i) rfl (by simp [monFields, Fld.apart]) (show 24 + 4 ≤ 32 by decide)

/-- The state in which the round goes on: words of the monitor converter's results, and nothing of its control, may differ from `s`. -/
def State.resultKept (s t : State) : Prop := ∀ f : Fld, 0x130200 ≤ f.addr → t.get f = s.get f

theorem State.setMon_resultKept (s : State) (r : Rounds) : s.resultKept (s.setMon r) := fun _ h => s.setMon_get r (.inl (by omega))

/-- The regular round goes on from the result of a visit; under RSTART 3 the next round begins at its end (R647, R648). -/
def State.monNext (s : State) (r : Round) : State :=
  let t := s.setMon { s.mon.rounds with reg := r.next 1 (s.get MON_CTRL.N_REG) }
  if (r.next 1 (s.get MON_CTRL.N_REG)).isNone && t.get MON_CTRL.RSTART == 3 then t.monReg else t

theorem State.monNext_resultKept (s : State) (r : Round) : s.resultKept (s.monNext r) := by
  intro f h
  unfold State.monNext
  dsimp only
  split
  · rw [State.monReg_get _ h, s.setMon_resultKept _ f h]
  · exact s.setMon_resultKept _ f h

theorem State.monNext_rounds {s : State} (r : Round) (h : s.get MON_CTRL.RSTART ≠ 3) :
    (s.monNext r).mon.rounds = { s.mon.rounds with reg := r.next 1 (s.get MON_CTRL.N_REG) } := by
  unfold State.monNext
  dsimp only
  rw [State.setMon_get _ _ (.inr (show 2 ≤ 28 by decide)), if_neg (by simp [h]), State.setMon_mon]

/-- The conversion that ends a visit: the result of its input is written, and then the round goes on. -/
theorem monitorConversionStep_writes {injected : Bool} {codes : List Nat} {at_ : Ts} {r : Round} {i : Nat} {u s : State} (hu : u = (s.at at_).updMonRef)
    (hk : (if injected then u.mon.rounds.inj else if u.mon.rounds.inj.isSome then none else u.mon.rounds.reg) = some r)
    (hr : u.flag MON_CTRL.REF_OK = true) (hi : i = if injected then 40 + r.entry else u.get (MONE.INPUT r.entry)) :
    ∃ value, ∃ x : State, x = u.monResult i (qualCode (if u.tbCold then .tbCold else .good)) (codes.getLast?.getD 0) value at_ ∧
      monitorConversionStep injected codes at_ s =
        if injected then x.setMon { x.mon.rounds with inj := r.next 1 (x.get MON_CTRL.N_INJ) } else x.monNext r := by
  unfold monitorConversionStep
  dsimp only
  rw [← hu, hk]
  dsimp only
  have hn : ¬ (!u.flag MON_CTRL.REF_OK) = true := by rw [hr]; decide
  rw [if_neg hn]
  subst hi
  refine ⟨pattern 32 (Config.monValue (u.get (if injected then MONI.INPUT r.entry else MONE.INPUT r.entry)) (sumN codes) codes.length), _, rfl, ?_⟩
  unfold State.monNext
  rw [State.monResult_mon]
  cases injected <;> rfl

theorem qualCode_lt (q : Qual) : qualCode q < 16 := by cases q <;> decide

theorem exec_monitorConversion_reports {injected : Bool} {codes : List Nat} {at_ : Ts} {r : Round} {i : Nat} {u s : State} (hu : u = (s.at at_).updMonRef)
    (hj : u.mon.rounds.inj = if injected then some r else none) (hg : injected = false → u.mon.rounds.reg = some r)
    (hr : u.flag MON_CTRL.REF_OK = true) (hi : i = if injected then 40 + r.entry else u.get (MONE.INPUT r.entry)) :
    Leads (.monitorConversion injected codes at_) s (fun t => t.flag (MONRES_W0.READY i) = true ∧
      t.get (MONRES_W0.SEQ i) = (u.get (MONRES_W0.SEQ i) + 1) % 256 ∧ t.get (MONRES_W0.RAW i) = codes.getLast?.getD 0 % 4096 ∧
      t.get (MONRES_W0.QUAL i) = qualCode (if u.tbCold then .tbCold else .good) ∧
      (injected = true → t.mon.rounds = { u.mon.rounds with inj := r.next 1 (u.get MON_CTRL.N_INJ) }) ∧
      (injected = false → u.get MON_CTRL.RSTART ≠ 3 → t.mon.rounds = { u.mon.rounds with reg := r.next 1 (u.get MON_CTRL.N_REG) })) := by
  obtain ⟨value, x, hx, he⟩ := monitorConversionStep_writes (codes := codes) hu (Rounds.inForce hj hg) hr hi
  obtain ⟨hready, hseq, hraw, hqual⟩ := u.monResult_shows i (qualCode (if u.tbCold then .tbCold else .good)) (codes.getLast?.getD 0) value at_
  have hctrl {f : Fld} (h : f.addr = 0x130000) : x.get f = u.get f := hx ▸ u.monResult_get_ctrl _ _ _ _ _ h
  rw [Nat.mod_eq_of_lt (qualCode_lt _)] at hqual
  rw [← hx] at hready hseq hraw hqual
  have hkept {t : State} (h : x.resultKept t) : t.flag (MONRES_W0.READY i) = true ∧
      t.get (MONRES_W0.SEQ i) = (u.get (MONRES_W0.SEQ i) + 1) % 256 ∧ t.get (MONRES_W0.RAW i) = codes.getLast?.getD 0 % 4096 ∧
      t.get (MONRES_W0.QUAL i) = qualCode (if u.tbCold then .tbCold else .good) :=
    ⟨(State.flag_congr (h _ (Nat.le_add_right ..))).trans hready, (h _ (Nat.le_add_right ..)).trans hseq,
      (h _ (Nat.le_add_right ..)).trans hraw, (h _ (Nat.le_add_right ..)).trans hqual⟩
  refine ⟨_, congrArg Host.Outcome.next he, ?_⟩
  have hmon : x.mon = u.mon := hx ▸ u.monResult_mon _ _ _ _ _
  cases injected
  · rw [if_neg Bool.false_ne_true]
    obtain ⟨h1, h2, h3, h4⟩ := hkept (x.monNext_resultKept r)
    refine ⟨h1, h2, h3, h4, fun h => absurd h Bool.false_ne_true, fun _ h => ?_⟩
    rw [State.monNext_rounds r (by rwa [hctrl rfl]), hctrl rfl, hmon]
  · rw [if_pos rfl, hctrl rfl, hmon]
    obtain ⟨h1, h2, h3, h4⟩ := hkept (x.setMon_resultKept _)
    exact ⟨h1, h2, h3, h4, fun _ => congrArg Monitor.rounds (State.setMon_mon ..), fun h => absurd h.symm Bool.false_ne_true⟩

/-- Settles O39: each event of the island from what its message, its rounds and its buffer leave, and both converters' conversions from the
state in which the round goes on. -/
theorem fieldEventsComplete : Obligations.FieldEventsComplete := by
  unfold Obligations.FieldEventsComplete
  exact ⟨fun _ => exec_islandStart_starts,
    fun _ h => ⟨exec_fin0Change_reports h, exec_finDebounced_reports h, exec_hostloss_opens h, exec_foutOvercurrent_opens h,
      exec_excLimit_flags h, exec_excSettleExpire_settles h, exec_roundTimerTick_begins h, exec_roundTimerTick_overruns h,
      fun _ _ _ hi hg he hr => exec_fieldConversion_reports h hi hg he hr⟩,
    fun _ => exec_roundTimerTick_monitor,
    fun _ _ _ _ _ _ _ hu hj hg hr hi => exec_monitorConversion_reports hu hj hg hr hi⟩

end Sys2Proof.Machine
end

section
/-! Items of the self-test, where an item re-initialises blocks (O35: R751, R754, R758). -/

namespace Sys2Proof.Machine

/-! ## What a re-initialised block leaves of another block (R732, R754) -/

theorem keep_all (w r : Word) : (w &&& BitVec.ofNat 32 0xFFFFFFFF) ||| (r &&& ~~~BitVec.ofNat 32 0xFFFFFFFF) = w := by
  have h1 : BitVec.ofNat 32 0xFFFFFFFF = BitVec.allOnes 32 := by decide
  rw [h1, BitVec.and_allOnes, BitVec.not_allOnes, BitVec.and_zero, BitVec.or_zero]

theorem Space.read_cons (m : Space) (b a : Nat) (w : Word) : Space.read ((b, w) :: m) a = if b = a then w else m.read a := by
  unfold Space.read
  rw [Space.find]
  split_ifs <;> rfl

theorem Space.keep_cons (m : Space) (kept : Nat → Nat) (b : Nat) (w : Word) : ∃ v, (kept b = 0xFFFFFFFF → v = w) ∧
    Space.keep ((b, w) :: m) kept = if v = resetWord b then m.keep kept else (b, v) :: m.keep kept := by
  refine ⟨(w &&& BitVec.ofNat 32 (kept b)) ||| (resetWord b &&& ~~~BitVec.ofNat 32 (kept b)), fun h => h ▸ keep_all w _, ?_⟩
  simp only [Space.keep, List.filterMap_cons]
  split_ifs <;> rfl

/-- A word of which every bit is kept still reads as it did, where it reads another value than its reset value. -/
theorem Space.read_keep {m : Space} {kept : Nat → Nat} {a : Nat} (hk : kept a = 0xFFFFFFFF) (h : m.read a ≠ resetWord a) :
    (m.keep kept).read a = m.read a := by
  induction m with
  | nil => rfl
  | cons e m ih =>
    obtain ⟨b, w⟩ := e
    obtain ⟨v, hv, he⟩ := Space.keep_cons m kept b w
    rw [Space.read_cons] at h ⊢
    rw [he]
    by_cases hb : b = a
    · subst hb
      rw [if_pos rfl] at h
      rw [hv hk, if_neg h, if_pos rfl, Space.read_cons, if_pos rfl]
    · rw [if_neg hb] at h ⊢
      split_ifs
      · exact ih h
      · rw [Space.read_cons, if_neg hb, ih h]

/-- Blocks that the settings of a re-initialised block reach. -/
def blocksReached : List Nat := [0, 2, 3, 4, 5, 6, 7, 8, 9, 10, 12, 13, 16, 17, 19, 20, 21, 24, 25]

/-- In a block that nothing reaches, a re-initialisation leaves what is left of the register space without the words it clears. -/
theorem State.blockReset_rd (s : State) (b : Nat) {a : Nat} (h : blockOf a ∉ blocksReached) :
    (s.blockReset b).rd a = (s.regs.keep (blockKept b)).read a := by
  have hout {l : List Nat} (hl : l ⊆ blocksReached) : blockOf a ∉ l := fun g => h (hl g)
  calc (s.blockReset b).rd a
    _ = ((s.blockInit b).blockAgain b).rd a := State.blockAbsence_within.word a (hout (by decide))
    _ = (s.blockInit b).rd a := State.blockAgain_within.word a (hout (by decide))
    _ = (s.regs.keep (blockKept b)).read a := State.blockLogic_within.word a (hout (by decide))

/-! ## The end of a self-test (R758) -/

theorem State.testOpDone_test (s : State) (status : Nat) : (s.testOpDone status).power.test = s.power.test := by
  unfold State.testOpDone
  split
  · rw [State.complete_power]
  · rfl

theorem State.putReport_test (s : State) (kind verdict epoch ms : Nat) (start : Ts) (items : List (List Word)) :
    (s.putReport kind verdict epoch ms start items).power.test = s.power.test := by
  unfold State.putReport
  rw [State.updBist_within.comp .power (by decide)]

/-- After the last item of a DIAG_ENTER's self-test none is in progress. -/
theorem State.endTest_test (s : State) {t : SelfTest} (items : List (List Word)) (h : t.shutdown = false) : (s.endTest t items).power.test = none := by
  unfold State.endTest
  rw [h]
  dsimp only
  rw [if_neg Bool.false_ne_true, State.testOpDone_test, State.putReport_test]
  rfl

/-- The last item ends the self-test where every later one is masked. -/
theorem State.toItem_last {s : State} {t : SelfTest} {i : Nat} (items : List (List Word)) (h : nextItem (s.get BIST_MASK.MASK) i = 6) :
    s.toItem t items i = s.endTest t (withSkipped items 6) := by
  unfold State.toItem
  rw [h]
  rfl

/-! ## A register space that lists a word twice -/

/-- Item 0 of a DIAG_ENTER's self-test is in progress, and the register space lists BIST_MASK twice: first with the value it reads, which is
its reset value, and again with every item masked. -/
def twiceMasked : State :=
  { State.reset with
    regs := [(0x160004, 0), (0x160004, 0x3F)]
    power := { State.reset.power with test := some { shutdown := false, item := 0, start := 0, since := 0, epoch := 0 } } }

/-- The first block's re-initialisation drops the entry that holds the reset value, and the later one shows. -/
theorem twiceMasked_masked : ((twiceMasked.blockReset 0x03).blockReset 0x13).rd 0x160004 = 0x3F#32 := by
  have h : (twiceMasked.blockReset 0x03).rd 0x160004 = 0x3F#32 := (State.blockReset_rd _ _ (by decide)).trans (by decide)
  rw [State.blockReset_rd _ _ (by decide)]
  exact (Space.read_keep (by decide) (ne_of_eq_of_ne h (by decide))).trans h

/-- No self-test is due, so the one in progress goes on. -/
theorem State.startTest_goesOn {s : State} (hs : s.power.shutDue = false) (ht : s.power.testDue = none) : s.startTest = s := by
  unfold State.startTest
  rw [hs, Bool.false_and, if_neg Bool.false_ne_true]
  dsimp only
  rw [ht]

theorem twiceMasked_waits : twiceMasked.startTest = twiceMasked := State.startTest_goesOn rfl rfl

/-- The item of a self-test in progress. -/
theorem selfTestItemStep_goesOn {s : State} {x : SelfTest} (pass : Bool) (measured limit detail : Word) (ms : Nat) (hs : s.startTest = s)
    (hx : s.power.test = some x) (hi : x.item ≠ 2) : selfTestItemStep pass measured limit detail ms s =
      (s.itemEffects x.item).toItem x (x.items ++ [[itemWord x.item (!pass).toNat ms, measured, limit, detail]]) (x.item + 1) := by
  unfold selfTestItemStep
  rw [hs]
  dsimp only
  rw [hx]
  simp [hi]

theorem selfTestItem_twiceMasked (pass : Bool) (measured limit detail : Word) (ms : Nat) :
    Leads (.selfTestItem pass measured limit detail ms) twiceMasked (fun t => t.power.test = none) := by
  have hmask : (twiceMasked.itemEffects 0).get BIST_MASK.MASK = 0x3F :=
    (congrArg BIST_MASK.MASK.ofWord twiceMasked_masked).trans (by decide)
  refine ⟨_, congrArg Host.Outcome.next (selfTestItemStep_goesOn pass measured limit detail ms twiceMasked_waits rfl (by decide)), ?_⟩
  beta_reduce
  rw [State.toItem_last _ (by rw [hmask]; decide)]
  exact State.endTest_test _ _ rfl

/-- Refutes O35: where the register space is not in its canonical form and lists BIST_MASK twice, item 0 re-initialises its blocks, the word
is listed once after it and reads every item masked, and the self-test ends; the statement, which takes the next item by the mask as it read
before the item, puts item 1 next. -/
theorem not_selfTestCompletes : ¬ Obligations.SelfTestCompletes := by
  unfold Obligations.SelfTestCompletes
  rintro ⟨-, -, h⟩
  obtain ⟨hnext, -⟩ := h true 0 0 0 0 1 { shutdown := false, item := 0, start := 0, since := 0, epoch := 0 } _ twiceMasked twiceMasked
    twiceMasked_waits.symm rfl (by decide) rfl
  obtain ⟨t, ht, -, hitem⟩ := hnext (by decide)
  obtain ⟨u, hu, hnone⟩ := selfTestItem_twiceMasked true 0 0 0 0
  obtain rfl := Host.Outcome.next.inj (hu.symm.trans ht)
  exact absurd (hnone.symm.trans hitem) (Option.some_ne_none _).symm

end Sys2Proof.Machine
end

section
/-! Boot: the checks before the slot, HELD and the way to QCP-ready (O50: R486, R494, R713, R736 to R740; log entries 29, 30 and 31). -/

namespace Sys2Proof.Machine

/-! ## The state that boot reaches before it loads (R713, R738) -/

/-- The state with the boot begun. -/
def State.bootBegun (s : State) : State := { s with power := { s.power with bootDue := false } }

/-- After training, the memory tests and the store's words. -/
def State.bootTried (s : State) (trainFail : Nat) (memOk : Bool) : State :=
  let t := ((s.bootMemory trainFail memOk).updBist).updStore
  (t.put SYS_STORE.BOOTS (t.get SYS_STORE.BOOTS + 1)).updPool.updKphi

/-- What the slot that boot loads is chosen by, and what boot takes from the stores. -/
structure State.bootAlike (s t : State) : Prop where
  qcp : t.qcp = s.qcp
  keys : t.keys = s.keys
  cal : t.cal = s.cal
  issued : t.power.ret.epoch = s.power.ret.epoch
  serial : t.serial = s.serial

theorem State.bootAlike.trans {s t u : State} (h : s.bootAlike t) (g : t.bootAlike u) : s.bootAlike u :=
  ⟨g.qcp.trans h.qcp, g.keys.trans h.keys, g.cal.trans h.cal, g.issued.trans h.issued, g.serial.trans h.serial⟩

theorem State.bootAlike.refl (s : State) : s.bootAlike s := ⟨rfl, rfl, rfl, rfl, rfl⟩

theorem State.serial_congr {s t : State} (hl : t.get SYS_ID_LO.SERIAL_LO = s.get SYS_ID_LO.SERIAL_LO)
    (hh : t.get SYS_ID_HI.SERIAL_HI = s.get SYS_ID_HI.SERIAL_HI) : t.serial = s.serial := by
  unfold State.serial
  rw [hl, hh]

/-- A step that reaches no store and no word of SYS. -/
theorem State.within.bootAlike {s t : State} {K : List Comp} {B : List Nat} (h : s.within t K B) (hq : .qcp ∉ K) (hk : .keys ∉ K) (hc : .cal ∉ K)
    (hb : 0 ∉ B) (hp : t.power.ret.epoch = s.power.ret.epoch) : s.bootAlike t :=
  ⟨h.comp .qcp hq, h.comp .keys hk, h.comp .cal hc, hp, State.serial_congr (h.get hb) (h.get hb)⟩

/-- Words that are set, the serial number's not among them. -/
theorem State.puts_bootAlike (s : State) {l : List (Fld × Nat)} (h : ∀ p ∈ l, 0x000040 ≤ p.1.addr) : s.bootAlike (s.puts l) :=
  ⟨State.puts_qcp .., State.puts_keys .., State.puts_cal .., by rw [State.puts_power],
    State.serial_congr (State.get_puts_other _ _ _ fun p hp => .inl (Nat.ne_of_gt (lt_of_lt_of_le (by decide) (h p hp))))
      (State.get_puts_other _ _ _ fun p hp => .inl (Nat.ne_of_gt (lt_of_lt_of_le (by decide) (h p hp))))⟩

theorem State.put_bootAlike (s : State) {f : Fld} (n : Nat) (h : 0x000040 ≤ f.addr) : s.bootAlike (s.put f n) :=
  s.puts_bootAlike (l := [(f, n)]) (by simpa using h)

theorem State.bootAlike.slot {s t : State} (h : s.bootAlike t) : t.bootSlot = s.bootSlot := by
  have hs (b : Bool) : t.slot b = s.slot b := by unfold State.slot; rw [h.qcp]
  have hc (b : Bool) : t.slotCode b = s.slotCode b := by
    unfold State.slotCode State.journalNames State.binding
    rw [hs, h.qcp, h.keys, h.serial]
  have hn : t.newest = s.newest := by
    unfold State.newest State.byCount State.slotAge
    simp only [hc, hs, h.qcp]
  unfold State.bootSlot
  rw [hn]
  simp only [hs, hc]

theorem State.putReport_ret (s : State) (kind verdict epoch ms : Nat) (start : Ts) (items : List (List Word)) :
    (s.putReport kind verdict epoch ms start items).power.ret = s.power.ret := by
  unfold State.putReport
  rw [State.updBist_within.comp .power (by decide)]

theorem State.bootMemory_bootAlike (s : State) (trainFail : Nat) (memOk : Bool) : s.bootAlike (s.bootMemory trainFail memOk) := by
  have hd (t : State) : t.bootAlike t.readDens := t.puts_bootAlike (by simp)
  have ht : s.bootAlike (if s.bootWarm then s.readDens else s.bootTrain trainFail) := by
    split
    · exact hd s
    · refine State.bootTrain_within.bootAlike (by decide) (by decide) (by decide) (by decide) ?_
      rw [State.bootTrain_within.comp .power (by decide)]
  unfold State.bootMemory
  dsimp only
  generalize (if s.bootWarm then s.readDens else s.bootTrain trainFail) = t at ht ⊢
  split_ifs
  · exact ht.trans (State.bootAlike.trans (t := t.spoilClean) ⟨rfl, rfl, rfl, rfl, rfl⟩ (State.put_bootAlike _ _ (by decide)))
  · exact ht
  · refine ht.trans (State.bootTests_within.bootAlike (by decide) (by decide) (by decide) (by decide) ?_)
    exact congrArg Retention.epoch (State.putReport_ret ..)

theorem State.bootTried_bootAlike (s : State) (trainFail : Nat) (memOk : Bool) : s.bootAlike (s.bootTried trainFail memOk) := by
  have hb (t : State) : t.bootAlike t.updBist :=
    State.updBist_within.bootAlike (by decide) (by decide) (by decide) (by decide) (by rw [State.updBist_within.comp .power (by decide)])
  have hs (t : State) : t.bootAlike t.updStore := t.puts_bootAlike (by simp)
  have hp (t : State) : t.bootAlike t.updPool := t.put_bootAlike _ (by decide)
  have hk (t : State) : t.bootAlike t.updKphi := t.puts_bootAlike (by simp)
  exact ((((s.bootMemory_bootAlike trainFail memOk).trans (hb _)).trans (hs _)).trans (State.put_bootAlike _ _ (by decide))).trans
    ((hp _).trans (hk _))

/-! ## Training (R713) -/

theorem State.readDens_tfail (s : State) : s.readDens.get DMC_STATUS.TFAIL = s.get DMC_STATUS.TFAIL :=
  State.get_puts_other _ _ _ (by simp [Fld.apart])

/-- No channel failed its training: neither in the boot before a WARM episode nor in this one. -/
theorem State.bootMemory_tfail {s : State} {trainFail : Nat} (memOk : Bool)
    (h : if s.bootWarm then s.get DMC_STATUS.TFAIL = 0 else trainFail = 0) : (s.bootMemory trainFail memOk).get DMC_STATUS.TFAIL = 0 := by
  have ht : (if s.bootWarm then s.readDens else s.bootTrain trainFail).get DMC_STATUS.TFAIL = 0 := by
    split
    · rw [State.readDens_tfail]
      simpa [‹s.bootWarm = true›] using h
    · have h0 : trainFail = 0 := by simpa [‹¬s.bootWarm = true›] using h
      rw [h0]
      exact State.get_put_same _ _ _ (by decide)
  unfold State.bootMemory
  dsimp only
  generalize (if s.bootWarm then s.readDens else s.bootTrain trainFail) = t at ht ⊢
  split_ifs
  · rw [State.get_put_other _ _ _ _ (by decide), State.spoilClean_within.get (by decide), ht]
  · exact ht
  · rw [State.bootTests_within.get (by decide), ht]

theorem State.bootTried_tfail {s : State} {trainFail : Nat} (memOk : Bool)
    (h : if s.bootWarm then s.get DMC_STATUS.TFAIL = 0 else trainFail = 0) : (s.bootTried trainFail memOk).flag DMC_STATUS.TFAIL = false := by
  rw [State.flag_eq_false]
  unfold State.bootTried
  dsimp only
  rw [State.updKphi_within.get (by decide), State.updPool, State.get_put_other _ _ _ _ (by decide), State.get_put_other _ _ _ _ (by decide),
    State.updStore_within.get (by decide), State.updBist_within.get (by decide), State.bootMemory_tfail memOk h]

/-! ## HELD (R486, R736) -/

theorem State.enter_rd (s : State) (n : Nat) {a : Nat} (hb : blockOf a ∉ [21]) (ha : a ≠ 0x000004) : (s.enter n).rd a = s.rd a := by
  have hf : (if n = 2 || n = 5 then s else s.changeFsp 0).rd a = s.rd a := by
    split
    · rfl
    · exact State.changeFsp_within.word _ hb
  unfold State.enter
  split
  · rfl
  · exact (State.rd_wr_other _ _ ha).trans hf

/-- The epoch after boot is past the highest issued where no slot brings its own. -/
theorem State.bootEpoch_epoch (s : State) : (s.bootEpoch 0).epoch = nextEpoch s.power.ret.epoch := by
  have h0 : (if (0 : BitVec 32) < s.power.ret.epoch then s.power.ret.epoch else 0) = s.power.ret.epoch := by
    split
    · rfl
    · bv_omega
  have hput (e : BitVec 32) : (s.put SYS_EPOCH.EPOCH e.toNat).epoch = e := by
    have hg : (s.put SYS_EPOCH.EPOCH e.toNat).epoch.toNat / 2 ^ 0 % 2 ^ 32 = e.toNat % 2 ^ 32 := s.get_put_same SYS_EPOCH.EPOCH e.toNat (by decide)
    rw [Nat.pow_zero, Nat.div_one, Nat.mod_eq_of_lt (BitVec.isLt _), Nat.mod_eq_of_lt e.isLt] at hg
    exact BitVec.eq_of_toNat_eq hg
  unfold State.bootEpoch
  rw [h0]
  exact hput _

theorem State.enterHeld_dev (s : State) : s.enterHeld.dev = 1 := by
  unfold State.enterHeld
  rw [State.driveFlash_within.dev (by decide), State.enter_dev _ _ (by decide)]

theorem State.enterHeld_epoch (s : State) : s.enterHeld.epoch = s.epoch := by
  unfold State.enterHeld State.epoch
  rw [State.driveFlash_within.word _ (by decide), State.enter_rd _ _ (by decide) (by decide)]

/-- A hardware fault in HELD leaves the device there. -/
theorem State.hwFault_held {s : State} (f : HwFault) (h : s.dev = 1) : (s.hwFault f).regs = s.regs := by
  unfold State.hwFault
  dsimp only
  rw [h, if_neg (by decide)]

/-! ## The user record and QCP-ready (R691, R740) -/

/-- Words that are written leave every other word. -/
theorem State.rd_wrs_other (l : List (Nat × Word)) (s : State) {a : Nat} (h : ∀ e ∈ l, a ≠ e.1) :
    (l.foldl (fun (t : State) e => t.wr e.1 e.2) s).rd a = s.rd a := by
  induction l generalizing s with
  | nil => rfl
  | cons e l ih =>
    rw [List.forall_mem_cons] at h
    rw [List.foldl_cons, ih _ h.2, State.rd_wr_other _ _ h.1]

theorem calWords_above {o : Nat} (h : o ∈ calWords) : 0x030000 ≤ o := by
  simp only [calWords, List.mem_append, List.mem_map] at h
  obtain (⟨i, -, rfl⟩ | ⟨i, -, rfl⟩) | ⟨i, -, rfl⟩ := h <;> omega

theorem State.calLoad_rd {s : State} {a : Nat} (ha : a < 0x030000) (h : ∀ u, s.cal.user = some u → ∀ e ∈ u.words, e.1 ∈ calWords) :
    s.calLoad.rd a = s.rd a := by
  have hc : a ≠ 0x140000 := by omega
  unfold State.calLoad
  split
  · rfl
  · rename_i u hu
    split
    · rw [State.rd_put_other _ _ hc]
      exact State.rd_wrs_other _ _ fun e he => Nat.ne_of_lt (lt_of_lt_of_le ha (calWords_above (h u hu e he)))
    · rw [State.eventAll_rd _ _ _ _ (not_qcpWord_below (by omega)), State.rd_put_other _ _ hc]

/-! ## BOOT_SEQUENCE -/

/-- The end of boot on either way: the user record, every domain due, and QCP-ready (R691, R697, R740). -/
def State.bootEnds (s : State) : State := s.calLoad.calDueAll.qcpReadyNow

theorem State.bootEnds_ready (s : State) : s.bootEnds.power.qcpReady = true ∧ s.bootEnds.power.pins.sysRdy = true ∧ s.bootEnds.get PTP_STATUS.PSTATE = 4 :=
  ⟨rfl, rfl, State.get_put_same _ PTP_STATUS.PSTATE 4 (by decide)⟩

theorem State.bootEnds_light (s : State) : s.bootEnds.light = s.light := by
  unfold State.bootEnds
  rw [State.qcpReadyNow_within.comp .light (by decide), State.calDueAll_within.comp .light (by decide), State.calLoad_within.comp .light (by decide)]

theorem State.bootEnds_rd {s : State} {a : Nat} (ha : a < 0x010000) (h : ∀ u, s.cal.user = some u → ∀ e ∈ u.words, e.1 ∈ calWords) :
    s.bootEnds.rd a = s.rd a := by
  have hb : blockOf a = 0 := by
    unfold blockOf
    rw [if_pos (by omega)]
    omega
  unfold State.bootEnds
  rw [State.qcpReadyNow_within.word _ (by rw [hb]; decide), State.calDueAll_within.word _ (by rw [hb]; decide), State.calLoad_rd (by omega) h]

section
variable {s : State} (hd : s.power.bootDue = true) (he : s.power.episode = none)
include hd he

theorem exec_bootSequence_firmware (trainFail : BitVec 4) (memOk : Bool) :
    exec (.bootSequence false trainFail memOk) s = .next { s with power := { s.power with bootDue := false } } :=
  congrArg Host.Outcome.next (State.whenDo_pos (by rw [hd, he]; rfl))

/-- Of a good image, with the memory tested, the choice of the slot and what follows it. -/
theorem bootSequenceStep_loads {trainFail : Nat} {memOk : Bool} {i : CfgImage} {n : Nat}
    (hb : ((s.bootBegun.bootTried trainFail memOk).flag DMC_STATUS.TFAIL || ((!s.bootBegun.cleanRecord && !s.bootBegun.bootWarm) && !memOk)) = false)
    (hl : (s.bootBegun.bootTried trainFail memOk).bootSlot = some (i, n)) :
    bootSequenceStep true trainFail memOk s =
      (((((s.bootBegun.bootTried trainFail memOk).bootLoad i n).bootEpoch i.epoch).put LSD_LASER_STATUS.TUNING 1).startLock).bootEnds := by
  unfold bootSequenceStep
  rw [State.whenDo_pos (by rw [hd, he]; rfl)]
  unfold State.bootTried State.bootBegun at *
  dsimp only at *
  rw [if_neg (by decide), hb, if_neg Bool.false_ne_true, hl]
  rfl

theorem bootSequenceStep_held {trainFail : Nat} {memOk : Bool} (hl : (s.bootBegun.bootTried trainFail memOk).bootSlot = none) :
    bootSequenceStep true trainFail memOk s =
      (if (!s.bootBegun.cleanRecord && !s.bootBegun.bootWarm) && !memOk
        then (((s.bootBegun.bootTried trainFail memOk).bootEpoch 0).enterHeld).hwFault .dram
        else ((s.bootBegun.bootTried trainFail memOk).bootEpoch 0).enterHeld).bootEnds := by
  unfold bootSequenceStep
  rw [State.whenDo_pos (by rw [hd, he]; rfl)]
  unfold State.bootTried State.bootBegun at *
  dsimp only at *
  rw [if_neg (by decide), hl, ite_self]
  rfl

theorem exec_bootSequence_ready (trainFail : BitVec 4) (memOk : Bool) : Leads (.bootSequence true trainFail memOk) s (fun t =>
    t.power.qcpReady = true ∧ t.power.pins.sysRdy = true ∧ t.get PTP_STATUS.PSTATE = 4) := by
  have hends : ∃ v : State, bootSequenceStep true trainFail.toNat memOk s = v.bootEnds := by
    refine ⟨?v, ?_⟩
    rotate_left
    unfold bootSequenceStep
    rw [State.whenDo_pos (by rw [hd, he]; rfl)]
    dsimp only
    rw [if_neg (by decide)]
    rfl
  obtain ⟨v, hv⟩ := hends
  exact ⟨_, congrArg Host.Outcome.next hv, v.bootEnds_ready⟩

theorem bootSequence_locks {trainFail : Nat} {memOk : Bool} (hm : memOk = true) (hs : s.bootSlot.isSome = true)
    (ht : if s.bootWarm then s.get DMC_STATUS.TFAIL = 0 else trainFail = 0) : (bootSequenceStep true trainFail memOk s).light.attempt = true := by
  have ha : s.bootAlike (s.bootBegun.bootTried trainFail memOk) :=
    State.bootAlike.trans (t := s.bootBegun) ⟨rfl, rfl, rfl, rfl, rfl⟩ (State.bootTried_bootAlike ..)
  obtain ⟨⟨i, n⟩, hl⟩ := Option.isSome_iff_exists.1 hs
  have hb : (s.bootBegun.bootTried trainFail memOk).flag DMC_STATUS.TFAIL = false := State.bootTried_tfail (s := s.bootBegun) memOk ht
  rw [bootSequenceStep_loads hd he (by rw [hb, hm, Bool.not_true, Bool.and_false]; rfl) (ha.slot.trans hl), State.bootEnds_light]
  rfl

theorem bootSequence_holds (trainFail : Nat) (memOk : Bool) (hs : s.bootSlot = none)
    (hu : ∀ u, s.cal.user = some u → ∀ e ∈ u.words, e.1 ∈ calWords) :
    (bootSequenceStep true trainFail memOk s).dev = 1 ∧ (bootSequenceStep true trainFail memOk s).epoch = nextEpoch s.power.ret.epoch := by
  have ha : s.bootAlike (s.bootBegun.bootTried trainFail memOk) :=
    State.bootAlike.trans (t := s.bootBegun) ⟨rfl, rfl, rfl, rfl, rfl⟩ (State.bootTried_bootAlike ..)
  rw [bootSequenceStep_held hd he (ha.slot.trans hs)]
  generalize s.bootBegun.bootTried trainFail memOk = u at ha
  have hdev : (u.bootEpoch 0).enterHeld.dev = 1 := State.enterHeld_dev _
  have hepoch : (u.bootEpoch 0).enterHeld.epoch = nextEpoch s.power.ret.epoch := by
    rw [State.enterHeld_epoch, State.bootEpoch_epoch, ha.issued]
  have hcal : (u.bootEpoch 0).enterHeld.cal = s.cal := by
    rw [State.enterHeld_within.comp .cal (by decide), State.bootEpoch_within.comp .cal (by decide), ha.cal]
  generalize (u.bootEpoch 0).enterHeld = v at hdev hepoch hcal ⊢
  have hregs : ∀ w, w = (if (!s.bootBegun.cleanRecord && !s.bootBegun.bootWarm) && !memOk then v.hwFault .dram else v) → w.regs = v.regs ∧ w.cal = v.cal := by
    intro w hw
    split at hw
    · exact hw ▸ ⟨State.hwFault_held _ hdev, State.hwFault_within.comp .cal (by decide)⟩
    · exact hw ▸ ⟨rfl, rfl⟩
  obtain ⟨hr, hc⟩ := hregs _ rfl
  generalize (if (!s.bootBegun.cleanRecord && !s.bootBegun.bootWarm) && !memOk then v.hwFault .dram else v) = w at hr hc ⊢
  have hrd {a : Nat} (h : a < 0x010000) : w.bootEnds.rd a = v.rd a := by
    rw [State.bootEnds_rd h (by rwa [hc, hcal])]
    exact congrArg (fun m : Space => m.read a) hr
  exact ⟨(congrArg SYS_STATE.STATE.ofWord (hrd (by decide))).trans hdev, (hrd (by decide)).trans hepoch⟩

end

/-- Settles O50: the state at the choice of a slot has the slots, the user record and the highest epoch of the one before, and both ways on from
there end in QCP-ready. -/
theorem bootCompletes : Obligations.BootCompletes := by
  unfold Obligations.BootCompletes
  intro trainFail memOk s hd he
  obtain ⟨_, ht, hready, hrdy, hlistens⟩ := exec_bootSequence_ready hd he trainFail memOk
  obtain rfl := Host.Outcome.next.inj ht
  exact ⟨exec_bootSequence_firmware hd he trainFail memOk, _, ht, hready, hrdy, hlistens,
    fun hm hs htrain => bootSequence_locks hd he hm hs (by split <;> simp_all), bootSequence_holds hd he _ memOk⟩

end Sys2Proof.Machine
end
